-- ==== Sys2Proof/Word.lean ====
section
/-!
DEFINITION. The word types of the block: 32-bit register words, 64-bit times, binary32 bit patterns, bytes.
Only the types and their plainest arithmetic stand here; everything a test could show wrong stands under Machine/.
-/
namespace Sys2Proof

/-- A register word (R7: registers are 32 bits wide). -/
abbrev W32 := BitVec 32

/-- The bits of an IEEE 754 binary32 value (R170). -/
abbrev F32 := BitVec 32

/-- One byte. -/
abbrev Byte := BitVec 8

/-- A duration or instant of market time in nanoseconds (R14). -/
abbrev Ns := Nat

end Sys2Proof
end

