-- ==== Sys2Proof/Machine/Bits.lean ====
section
/-!
DEFINITION. Bit fields, sign extension, saturating counters, byte order and CRC-32: the plain helpers every chapter uses.
-/
namespace Sys2Proof.Machine

open Sys2Proof

/-- Bits [lo+n-1 : lo] of a word as a number. -/
def fld (w : W32) (lo n : Nat) : Nat := (w.toNat >>> lo) % 2 ^ n

/-- One bit of a word. -/
def bit (w : W32) (i : Nat) : Bool := w.toNat.testBit i

/-- The n-bit number x read as two's complement. -/
def signed (n x : Nat) : Int := if x % 2 ^ n < 2 ^ (n - 1) then (x % 2 ^ n : Nat) else (x % 2 ^ n : Nat) - (2 ^ n : Nat)

/-- A signed field of a word. -/
def sfld (w : W32) (lo n : Nat) : Int := signed n (fld w lo n)

/-- The number x placed at bits [lo+n-1 : lo]; the rest 0. -/
def put (lo n x : Nat) : W32 := BitVec.ofNat 32 ((x % 2 ^ n) <<< lo)

/-- A truth value placed at bit i. -/
def putB (i : Nat) (b : Bool) : W32 := if b then BitVec.ofNat 32 (1 <<< i) else 0#32

/-- Two's complement of an integer in n bits, as a number. -/
def wrapN (n : Nat) (x : Int) : Nat := (x % (2 ^ n : Nat)).toNat

/-- An integer wrapped to n bits two's complement and read back signed (R170: integer arithmetic wraps). -/
def wrapS (n : Nat) (x : Int) : Int := signed n (wrapN n x)

/-- A counter that saturates at `2^n - 1`. -/
def satInc (n x : Nat) : Nat := if x + 1 < 2 ^ n then x + 1 else 2 ^ n - 1

/-- A count that saturates at `2^n - 1`, k more. -/
def satAdd (n x k : Nat) : Nat := if x + k < 2 ^ n then x + k else 2 ^ n - 1

/-- A value shown saturated in n bits. -/
def sat (n x : Nat) : Nat := if x < 2 ^ n then x else 2 ^ n - 1

/-- A signed value saturated to n bits. -/
def satS (n : Nat) (x : Int) : Int :=
  if x < -(2 ^ (n - 1) : Nat) then -(2 ^ (n - 1) : Nat)
  else if x ≥ (2 ^ (n - 1) : Nat) then ((2 ^ (n - 1) : Nat) : Int) - 1 else x

/-- Low 32 bits. -/
def lo32 (x : Nat) : W32 := BitVec.ofNat 32 x
/-- High 32 bits of a 64-bit quantity. -/
def hi32 (x : Nat) : W32 := BitVec.ofNat 32 (x >>> 32)
/-- A 64-bit quantity from its two register words (R7: low word at the lower address). -/
def join64 (lo hi : W32) : Nat := lo.toNat + hi.toNat * 2 ^ 32

/-- The low 32 bits of a signed 64-bit quantity and its high word. -/
def loI (x : Int) : W32 := lo32 (wrapN 64 x)
def hiI (x : Int) : W32 := hi32 (wrapN 64 x)

/-- Little-endian bytes of the n-byte number x. -/
def bytesLE : Nat → Nat → List Byte
  | 0, _ => []
  | n + 1, x => BitVec.ofNat 8 x :: bytesLE n (x >>> 8)

/-- The number that little-endian bytes spell. -/
def natLE : List Byte → Nat
  | [] => 0
  | b :: bs => b.toNat + 256 * natLE bs

/-- One step of the reflected CRC-32 of IEEE 802.3 over one bit. -/
def crcBit (c : Nat) : Nat := if c % 2 = 1 then (c >>> 1) ^^^ 0xEDB88320 else c >>> 1

/-- One byte into the CRC-32 register. -/
def crcByte (c : Nat) (b : Byte) : Nat :=
  crcBit (crcBit (crcBit (crcBit (crcBit (crcBit (crcBit (crcBit (c ^^^ b.toNat))))))))

/-- CRC-32 as in IEEE 802.3 (R328). -/
def crc32 (bs : List Byte) : W32 := BitVec.ofNat 32 ((bs.foldl crcByte 0xFFFFFFFF) ^^^ 0xFFFFFFFF)

/-- Integer division with the library's rule for a zero divisor (R170: returns 0). -/
def idiv (a b : Int) : Int := if b = 0 then 0 else Int.tdiv a b

/-- The bits of a list of flags, bit i from item i. -/
def mapBits (bs : List Bool) : Nat := (bs.foldr (fun b n => 2 * n + (if b then 1 else 0)) 0)

/-- Nat ceiling division. -/
def ceilDiv (a b : Nat) : Nat := (a + b - 1) / b

end Sys2Proof.Machine
end

