-- ==== Sys2Proof/Machine/Sparse.lean ====
section
/-!
DEFINITION. Sparse tables: lists of (key, value) pairs in one canonical form, keys strictly rising, no entry equal to what
an unlisted key reads as. The register file, the lamplighter slots, parcels, baskets and memories are held this way.
-/
namespace Sys2Proof.Machine

/-- Reads a key; an unlisted key reads as the default. -/
def spGet {α : Type} (d : α) (l : List (Nat × α)) (k : Nat) : α :=
  match l with
  | [] => d
  | (k', v) :: t => if k' = k then v else spGet d t k

/-- Removes a key. -/
def spDel {α : Type} (l : List (Nat × α)) (k : Nat) : List (Nat × α) :=
  match l with
  | [] => []
  | (k', v) :: t => if k' = k then spDel t k else (k', v) :: spDel t k

/-- Puts a value at a key, in key order, whatever the default. -/
def spPut {α : Type} (l : List (Nat × α)) (k : Nat) (x : α) : List (Nat × α) :=
  match l with
  | [] => [(k, x)]
  | (k', v) :: t => if k < k' then (k, x) :: (k', v) :: t else if k' = k then (k, x) :: t else (k', v) :: spPut t k x

/-- Writes a value at a key; writing what an unlisted key reads as removes the entry. -/
def spSet {α : Type} [DecidableEq α] (d : α) (l : List (Nat × α)) (k : Nat) (x : α) : List (Nat × α) :=
  if x = d then spDel l k else spPut l k x

/-- Applies a function at a key. -/
def spMod {α : Type} [DecidableEq α] (d : α) (l : List (Nat × α)) (k : Nat) (f : α → α) : List (Nat × α) :=
  spSet d l k (f (spGet d l k))

/-- Applies a function to every listed value. -/
def spMap {α : Type} [DecidableEq α] (d : α) (l : List (Nat × α)) (f : α → α) : List (Nat × α) :=
  l.foldl (fun acc p => spSet d acc p.1 (f p.2)) []

/-- Keys strictly rising. -/
def spSorted {α : Type} : List (Nat × α) → Bool
  | [] => true
  | [_] => true
  | (k, _) :: (k', v') :: t => decide (k < k') && spSorted ((k', v') :: t)

/-- The canonical form: keys strictly rising and no entry holding the default. -/
def spWf {α : Type} [DecidableEq α] (d : α) (l : List (Nat × α)) : Bool :=
  spSorted l && l.all (fun p => decide (p.2 ≠ d))

/-- Replaces item i of a list, or leaves it. -/
def setAt {α : Type} (l : List α) (i : Nat) (x : α) : List α :=
  match l, i with
  | [], _ => []
  | _ :: t, 0 => x :: t
  | h :: t, i + 1 => h :: setAt t i x

end Sys2Proof.Machine
end

