-- ==== Sys2Proof/Machine/StAisle.lean ====
section
/-!
DEFINITION. State of the aisles and their stalls (R239 to R268): the aisle's side of each isolated link and the core's side.
-/
namespace Sys2Proof.Machine

open Sys2Proof

/-- Stall modes (R244). -/
inductive StallMode where
  | disabled | tmpRtd | tmpNtc | tmpDiode | aiMa | aiV | moist | di | do_ | cnt
  deriving DecidableEq, Repr

/-- Mode of an STL_CFG code; 10 to 15 are rejected by the stream and read as DISABLED. -/
def StallMode.ofCode (c : Nat) : StallMode :=
  match c with
  | 1 => .tmpRtd | 2 => .tmpNtc | 3 => .tmpDiode | 4 => .aiMa | 5 => .aiV | 6 => .moist | 7 => .di | 8 => .do_ | 9 => .cnt
  | _ => .disabled

/-- Digital classes (R248, codes of R254). -/
inductive DiClass where
  | off | on | brk
  deriving DecidableEq, Repr

/-- Code of a digital class. -/
def DiClass.code (c : DiClass) : Nat := match c with | .off => 0 | .on => 1 | .brk => 2

/-- Qualities of an analogue result. -/
inductive Quality where
  | good | degraded | invalid
  deriving DecidableEq, Repr

/-- Code of a quality. -/
def Quality.code (q : Quality) : Nat := match q with | .good => 0 | .degraded => 1 | .invalid => 2

/-- Flags of a stall record (R255, R246): bit 0 open, 1 short, 2 break, 3 overrange, 4 underrange, 5 fail_low, 6 fail_high, 7 edge_lost. -/
abbrev StallFlags := BitVec 8

/-- A record that an aisle sends upstream (R255). -/
inductive UpRec where
  | sample (stall : Nat) (flags : StallFlags) (q : Quality) (value raw : F32) (stamp : Nat)
  | edge (stall : Nat) (cls : DiClass) (flags : StallFlags) (stamp : Nat)
  | cnt (stall : Nat) (count : Int) (stamp : Nat) (flags : StallFlags)
  deriving DecidableEq, Repr

/-- The 16 bytes of a stall record, little-endian (R255). -/
def UpRec.bytes (r : UpRec) : List Byte :=
  match r with
  | .sample i f _ v _ t => bytesLE 1 1 ++ bytesLE 1 i ++ [f] ++ bytesLE 1 0 ++ bytesLE 4 v.toNat ++ bytesLE 8 t
  | .edge i c f t => bytesLE 1 2 ++ bytesLE 1 i ++ [f] ++ bytesLE 1 c.code ++ bytesLE 4 0 ++ bytesLE 8 t
  | .cnt i n t f => bytesLE 1 3 ++ bytesLE 1 i ++ [f] ++ bytesLE 1 0 ++ bytesLE 4 (wrapN 32 n) ++ bytesLE 8 t

/-- One stall, seen from the aisle (fields a…) and from the core (the others). -/
structure Stall where
  /-- Aisle: settled class of a DI or CNT stall, and whether it has been settled since configuration. R248 | 2 + 1 | reset OFF, unsettled -/
  aClass : DiClass
  aSettled : Bool
  /-- Aisle: class changed since the last subframe, the class before the latest change, and that change's instant. R254, R266 | 1 + 2 + 64 | reset 0 -/
  aChanged : Bool
  aPrev : DiClass
  aAt : Nat
  /-- Aisle: edges discarded at a full queue wait to be told by edge_lost. R255 | 1 | reset 0 -/
  aEdgeLost : Bool
  /-- Aisle: latest conversion's value for the INVALID last-value rules. R246 | 32 | reset 0 -/
  aValue : F32
  /-- Aisle: net count of a CNT stall and the stamp of an edge since the last subframe. R250, R255 | signed 32 + 64 | reset 0 -/
  aCount : Int
  aEdge : Nat
  /-- Aisle: a CNT stall in BREAK. R250 | 1 | reset 0 -/
  aBreak : Bool
  /-- Aisle: commanded level of a DO stall as last decoded, and the level held at entry into SAFE. R257, R259 | 1 + 1 | reset 0 -/
  aLevel : Bool
  aHeld : Bool
  /-- Aisle: overload off (with the time of the next retry), thermal off. R252 | 1 + 64, 1 | reset 0 -/
  aOver : Bool
  aRetry : Nat
  aThermal : Bool
  /-- Aisle: sensor or loop supply on C is current-limited; next retry. R244 | 1 + 64 | reset 0 -/
  aSupplyLim : Bool
  aSupRetry : Nat
  /-- Core: commanded level of a DO stall, released at the latest boundary. R25, R254 | 1 | reset 0 -/
  cmd : Bool
  /-- Core: level written by a block in the present frame, released at t1 of the next. R25 | option | reset none -/
  nextCmd : Option Bool
  /-- Core: quality of STL_STATUS. R267 | 2 | reset 2 -/
  q : Quality
  /-- Core: class of STL_STATUS. R267 | 2 | reset 0 -/
  cls : DiClass
  /-- Core: flags of STL_STATUS (open to fail_high). R267 | 7 | reset 0 -/
  flags : StallFlags
  /-- Core: link_lost, supply_limit of STL_STATUS. R242, R267 | 1 + 1 | reset 0 -/
  linkLost : Bool
  supplyLim : Bool
  /-- Core: STL_VALUE, STL_RAW. R267 | 32 + 32 | reset 0 -/
  value : F32
  raw : F32
  /-- Core: stamp of the latest sample or edge. R267 STL_TIME | 64 | reset 0 -/
  stamp : Nat
  /-- Core: STL_COUNT. R267 | signed 32 | reset 0 -/
  count : Int
  /-- Core: the count of a CNT stall is known from its aisle; without it a record only sets the count. R45 | 1 | reset 1 -/
  cntBase : Bool
  /-- Core: STL_DIAG failures, lost_edges. R267 | 16 + 16 saturating | reset 0 -/
  failures : Nat
  lostEdges : Nat
  /-- Core: applied level as last reported upstream. R254 AIS_DO_MAP | 1 | reset 0 -/
  applied : Bool
  deriving DecidableEq, Repr

/-- A stall at reset. -/
def Stall.reset : Stall :=
  { aClass := .off, aSettled := false, aChanged := false, aPrev := .off, aAt := 0, aEdgeLost := false, aValue := 0#32, aCount := 0, aEdge := 0,
    aBreak := false, aLevel := false, aHeld := false, aOver := false, aRetry := 0, aThermal := false, aSupplyLim := false,
    aSupRetry := 0, cmd := false, nextCmd := none, q := .invalid, cls := .off, flags := 0#8, linkLost := false,
    supplyLim := false, value := 0#32, raw := 0#32, stamp := 0, count := 0, cntBase := true, failures := 0, lostEdges := 0, applied := false }

/-- Aisle states (R243). -/
inductive AisleSt where
  | unpowered | unconfigured | linked | safe
  deriving DecidableEq, Repr

/-- Code of AIS_STATUS state. -/
def AisleSt.code (s : AisleSt) : Nat := match s with | .unpowered => 0 | .unconfigured => 1 | .linked => 2 | .safe => 3

/-- Safe entries (R256). -/
inductive SafeEntry where
  | off | on | holdLast
  deriving DecidableEq, Repr

/-- A timed DO action on its way to the aisle or held there (R18). -/
structure TimedDo where
  stall : Nat
  level : Bool
  at_ : Nat
  slot : Option Nat
  deriving DecidableEq, Repr

/-- A diagnostic sweep (R261). -/
structure Sweep where
  running : Bool
  stall : Nat
  pulsing : Bool
  gap : Bool
  faultBefore : Bool
  onBefore : Bool
  until_ : Nat
  allLive : Bool
  done : Bool
  aborted : Bool
  wide : Bool
  results : List Nat
  deriving DecidableEq, Repr

/-- No sweep has run: every result UNTESTED. -/
def Sweep.none : Sweep :=
  { running := false, stall := 0, pulsing := false, gap := false, faultBefore := false, onBefore := false, until_ := 0,
    allLive := false, done := false, aborted := false, wide := false, results := List.replicate 16 0 }

/-- One aisle. -/
structure Aisle where
  /-- AIS_STATUS state. R243 | 2 | reset 0 UNPOWERED -/
  st : AisleSt
  /-- AISLE_FAULT as last carried to the core. R260 | 1 | reset 0 -/
  coreFault : Bool
  /-- snuffed, owned_at_entry, local_osc of AIS_STATUS. R243, R258, R267 | 1 each | reset 0 -/
  snuffed : Bool
  ownedAtEntry : Bool
  localOsc : Bool
  /-- owned bit of the last valid downstream subframe. R258 | 1 | reset 0 -/
  ownedLast : Bool
  /-- The safe table check failed at the aisle (safe_crc_bad is sticky in AIS_STATUS). R257 | 1 | reset 0 -/
  tableBad : Bool
  /-- AVF_n, AVL_n in mV. R267 AIS_SUPPLY | 16 + 16 | reset 0 -/
  avf : Nat
  avl : Nat
  /-- Field undervoltage. R240 | 1 | reset 0 -/
  fieldUv : Bool
  /-- Aisle die temperature, 1/128 degC. R267 AIS_TEMP | signed 16 | reset 0 -/
  tDie : Int
  /-- AIS_LINK crc_errors, losses. R267 | 16 + 16 saturating | reset 0 -/
  crcErrors : Nat
  losses : Nat
  /-- Safe table held by the aisle, one entry per stall, and its CRC. R256 AIS_SAFE_CRC | 16 entries + 32 | reset: none, 0 -/
  safeTable : List SafeEntry
  safeCrc : W32
  /-- Configuration arrived since the last aisle reset. R240 | 1 | reset 0 -/
  configured : Bool
  /-- Configuration and safe table waiting to be sent downstream. R240, R256 | 1 | reset 0 -/
  sendConfig : Bool
  /-- Time of the last valid downstream / upstream subframe. R241 | 64 + 64 | reset 0 -/
  lastDown : Nat
  lastUp : Nat
  /-- Consecutive valid subframes in each direction, up to 8. R243 | 4 + 4 | reset 0 -/
  downOk : Nat
  upOk : Nat
  /-- The link is lost as the aisle sees it / as the core sees it. R241 | 1 + 1 | reset 0 -/
  lostDown : Bool
  lostUp : Bool
  /-- The host's resume command is held. R243, R266 | 1 | reset 0 -/
  resumeReq : Bool
  /-- resume bit in the next downstream subframe. R243 | 1 | reset 0 -/
  resumeBit : Bool
  /-- Timed actions queued at the core for the next subframes. R18 | list | reset empty -/
  toSend : List TimedDo
  /-- Timed actions held at the aisle. R18, R257 | list | reset empty -/
  timed : List TimedDo
  /-- DI edge queue of at most 64 entries, oldest first, and the other records waiting. R255 | 64 + list | reset empty -/
  edges : List UpRec
  recs : List UpRec
  /-- Diagnostic sweep. R261 | record | reset: none -/
  sweep : Sweep
  deriving DecidableEq, Repr

/-- An aisle at reset. -/
def Aisle.reset : Aisle :=
  { st := .unpowered, coreFault := false, snuffed := false, ownedAtEntry := false, localOsc := false,
    ownedLast := false, tableBad := false, avf := 0, avl := 0, fieldUv := false, tDie := 0, crcErrors := 0, losses := 0,
    safeTable := [], safeCrc := 0#32, configured := false, sendConfig := false, lastDown := 0, lastUp := 0, downOk := 0,
    upOk := 0, lostDown := false, lostUp := false, resumeReq := false, resumeBit := false, toSend := [], timed := [],
    edges := [], recs := [], sweep := Sweep.none }

/-- All aisles and stalls. -/
structure AisleState where
  /-- Aisles 0 to 7; unlisted = reset. R239 | 8 records | reset: Aisle.reset -/
  a : List (Nat × Aisle)
  /-- Stalls 0 to 127; unlisted = reset. R244 | 128 records | reset: Stall.reset -/
  st : List (Nat × Stall)
  /-- CABLE_CHECK instances: suspect, failed, unchecked maps. R263, R268 | 64 x 96 | reset 0 -/
  cbl : List (Nat × (Nat × Nat × Nat))
  /-- Aisles whose upstream subframe completed in the clock cycle of a boundary not yet taken. R24 | list | reset empty -/
  edgeUps : List Nat
  deriving DecidableEq, Repr

/-- Nothing listed. -/
def AisleState.reset : AisleState := { a := [], st := [], cbl := [], edgeUps := [] }

end Sys2Proof.Machine
end

