-- ==== Sys2Proof/Machine/StStruct.lean ====
section
/-!
DEFINITION. The committed structure (R371 to R376): what the stream gives the device beside its register words. The byte
layout of the stream-only fields is in a data file that is not part of the spec given here (R373), so the fields stand
here as named data (log entry 7).
-/
namespace Sys2Proof.Machine

open Sys2Proof

/-- The block types of the catalogue (R154), in table order. -/
inductive BlockType where
  | piLoop | pidLoop | pi2dof | ratioLoop | splitRange | speedLoop | positionLoop | taper | taperCoord | loopSupervise
  | motorCtrl | motorObserver | fanSupervise | energyMeter | homing | solenoidCtrl | txOut | doOut | stallFilter
  | diDebounce | pulseRate | cableCheck | psychro | moistProc | colTrack | dryColumn | dryHeat | aerSilo | routeSeq
  | beltSlip | diverter | logic | latch | edge | compare | select | minMax | curve | rateLimit | leadLag | deadTime
  | timer | counter | sequencer | schedule | nightlightTable | fanOut | merge | pack | unpack | transact | eventRaise
  | statMeanSd | statHist | totaliser | runHours | weigher | thermalPolicy | diagSweep
  deriving DecidableEq, Repr

/-- Type code of a PLACEMENT record (R374): the row of the catalogue, from 1. -/
def BlockType.code (b : BlockType) : Nat := b.ctorIdx + 1

/-- Worst-case cycles of a run whose cost is `base + per * n` (R154); the rows with costs of their own give their base. -/
def BlockType.cost (b : BlockType) : Nat × Nat :=
  match b with
  | .piLoop => (420, 0)
  | .pidLoop => (560, 0)
  | .pi2dof => (640, 0)
  | .ratioLoop => (380, 0)
  | .splitRange => (300, 0)
  | .speedLoop => (900, 0)
  | .positionLoop => (1100, 0)
  | .taper => (1400, 0)
  | .taperCoord => (1600, 0)
  | .loopSupervise => (900, 0)
  | .motorCtrl => (4200, 0)
  | .motorObserver => (2800, 0)
  | .fanSupervise => (700, 0)
  | .energyMeter => (650, 0)
  | .homing => (900, 0)
  | .solenoidCtrl => (500, 0)
  | .txOut => (600, 0)
  | .doOut => (100, 15)
  | .stallFilter => (150, 45)
  | .diDebounce => (100, 20)
  | .pulseRate => (300, 0)
  | .cableCheck => (200, 90)
  | .psychro => (600, 0)
  | .moistProc => (2600, 1900)
  | .colTrack => (1500, 0)
  | .dryColumn => (9000, 0)
  | .dryHeat => (1800, 80)
  | .aerSilo => (1200, 60)
  | .routeSeq => (2400, 180)
  | .beltSlip => (400, 0)
  | .diverter => (700, 0)
  | .logic => (100, 12)
  | .latch => (60, 8)
  | .edge => (60, 8)
  | .compare => (80, 30)
  | .select => (120, 0)
  | .minMax => (100, 25)
  | .curve => (220, 0)
  | .rateLimit => (150, 0)
  | .leadLag => (200, 0)
  | .deadTime => (160, 0)
  | .timer => (80, 25)
  | .counter => (60, 15)
  | .sequencer => (600, 0)
  | .schedule => (400, 0)
  | .nightlightTable => (300, 0)
  | .fanOut => (150, 40)
  | .merge => (150, 50)
  | .pack => (200, 20)
  | .unpack => (200, 20)
  | .transact => (400, 150)
  | .eventRaise => (80, 40)
  | .statMeanSd => (250, 0)
  | .statHist => (200, 30)
  | .totaliser => (180, 0)
  | .runHours => (60, 10)
  | .weigher => (800, 0)
  | .thermalPolicy => (900, 0)
  | .diagSweep => (500, 0)

/-- State bytes in data memory (R154): base and per item. -/
def BlockType.stateSize (b : BlockType) : Nat × Nat :=
  match b with
  | .piLoop => (96, 0)
  | .pidLoop => (128, 0)
  | .pi2dof => (128, 0)
  | .ratioLoop => (64, 0)
  | .splitRange => (64, 0)
  | .speedLoop => (192, 0)
  | .positionLoop => (224, 0)
  | .taper => (256, 0)
  | .taperCoord => (288, 0)
  | .loopSupervise => (160, 0)
  | .motorCtrl => (1024, 0)
  | .motorObserver => (384, 0)
  | .fanSupervise => (96, 0)
  | .energyMeter => (128, 0)
  | .homing => (160, 0)
  | .solenoidCtrl => (256, 0)
  | .txOut => (128, 0)
  | .doOut => (64, 0)
  | .stallFilter => (32, 16)
  | .diDebounce => (16, 4)
  | .pulseRate => (64, 0)
  | .cableCheck => (64, 16)
  | .psychro => (32, 0)
  | .moistProc => (17408, 0)
  | .colTrack => (1024, 0)
  | .dryColumn => (2048, 0)
  | .dryHeat => (512, 0)
  | .aerSilo => (256, 0)
  | .routeSeq => (512, 64)
  | .beltSlip => (64, 0)
  | .diverter => (128, 0)
  | .logic => (16, 1)
  | .latch => (8, 1)
  | .edge => (8, 1)
  | .compare => (16, 12)
  | .select => (16, 0)
  | .minMax => (16, 0)
  | .curve => (272, 0)
  | .rateLimit => (32, 0)
  | .leadLag => (32, 0)
  | .deadTime => (16, 4)
  | .timer => (16, 16)
  | .counter => (16, 8)
  | .sequencer => (1088, 0)
  | .schedule => (544, 0)
  | .nightlightTable => (144, 0)
  | .fanOut => (32, 0)
  | .merge => (64, 0)
  | .pack => (64, 0)
  | .unpack => (64, 0)
  | .transact => (128, 0)
  | .eventRaise => (16, 4)
  | .statMeanSd => (48, 0)
  | .statHist => (272, 0)
  | .totaliser => (32, 0)
  | .runHours => (16, 8)
  | .weigher => (256, 0)
  | .thermalPolicy => (256, 0)
  | .diagSweep => (128, 0)

/-- Code size in bytes (R154). -/
def BlockType.codeBytes (b : BlockType) : Nat :=
  match b with
  | .piLoop => 2048
  | .pidLoop => 2560
  | .pi2dof => 2560
  | .ratioLoop => 1536
  | .splitRange => 1024
  | .speedLoop => 3072
  | .positionLoop => 3072
  | .taper => 4096
  | .taperCoord => 4608
  | .loopSupervise => 3584
  | .motorCtrl => 12288
  | .motorObserver => 6144
  | .fanSupervise => 2048
  | .energyMeter => 2048
  | .homing => 3584
  | .solenoidCtrl => 3072
  | .txOut => 2560
  | .doOut => 512
  | .stallFilter => 1024
  | .diDebounce => 512
  | .pulseRate => 1024
  | .cableCheck => 1536
  | .psychro => 2048
  | .moistProc => 6144
  | .colTrack => 5120
  | .dryColumn => 10240
  | .dryHeat => 3072
  | .aerSilo => 2560
  | .routeSeq => 6144
  | .beltSlip => 1024
  | .diverter => 2048
  | .logic => 1024
  | .latch => 512
  | .edge => 512
  | .compare => 512
  | .select => 512
  | .minMax => 512
  | .curve => 1024
  | .rateLimit => 512
  | .leadLag => 512
  | .deadTime => 512
  | .timer => 512
  | .counter => 512
  | .sequencer => 2560
  | .schedule => 2048
  | .nightlightTable => 1024
  | .fanOut => 1024
  | .merge => 1024
  | .pack => 1024
  | .unpack => 1024
  | .transact => 2048
  | .eventRaise => 512
  | .statMeanSd => 1024
  | .statHist => 1024
  | .totaliser => 512
  | .runHours => 512
  | .weigher => 3072
  | .thermalPolicy => 3072
  | .diagSweep => 1536

/-- Permitted period exponents (R154), lowest and highest. -/
def BlockType.kRange (b : BlockType) : Nat × Nat :=
  match b with
  | .piLoop => (0, 13)
  | .pidLoop => (0, 13)
  | .pi2dof => (0, 13)
  | .ratioLoop => (0, 13)
  | .splitRange => (0, 13)
  | .speedLoop => (1, 6)
  | .positionLoop => (1, 8)
  | .taper => (0, 10)
  | .taperCoord => (0, 10)
  | .loopSupervise => (0, 10)
  | .motorCtrl => (2, 4)
  | .motorObserver => (0, 2)
  | .fanSupervise => (3, 10)
  | .energyMeter => (3, 10)
  | .homing => (1, 6)
  | .solenoidCtrl => (0, 6)
  | .txOut => (3, 10)
  | .doOut => (0, 13)
  | .stallFilter => (0, 13)
  | .diDebounce => (0, 10)
  | .pulseRate => (0, 10)
  | .cableCheck => (6, 13)
  | .psychro => (3, 13)
  | .moistProc => (0, 6)
  | .colTrack => (0, 3)
  | .dryColumn => (3, 13)
  | .dryHeat => (3, 13)
  | .aerSilo => (10, 13)
  | .routeSeq => (3, 8)
  | .beltSlip => (3, 8)
  | .diverter => (3, 8)
  | .logic => (0, 13)
  | .latch => (0, 13)
  | .edge => (0, 13)
  | .compare => (0, 13)
  | .select => (0, 13)
  | .minMax => (0, 13)
  | .curve => (0, 13)
  | .rateLimit => (0, 13)
  | .leadLag => (0, 13)
  | .deadTime => (0, 13)
  | .timer => (0, 13)
  | .counter => (0, 13)
  | .sequencer => (0, 10)
  | .schedule => (10, 13)
  | .nightlightTable => (3, 13)
  | .fanOut => (0, 13)
  | .merge => (0, 13)
  | .pack => (0, 13)
  | .unpack => (0, 13)
  | .transact => (0, 13)
  | .eventRaise => (0, 13)
  | .statMeanSd => (0, 13)
  | .statHist => (0, 13)
  | .totaliser => (0, 13)
  | .runHours => (3, 13)
  | .weigher => (0, 6)
  | .thermalPolicy => (6, 13)
  | .diagSweep => (3, 8)

/-- Where a block takes an input (R24: always something of its input set). -/
inductive Src where
  | none
  | const (x : F32)
  | basket (b : Nat)
  | stall (s : Nat)
  | wickSpeed (w : Nat)
  | wickPos (w : Nat)
  | mst (c : Nat)
  | motor (m : Nat)
  | observer (m : Nat)
  | row (r : Nat)
  | aisleTemp (n : Nat)
  | diode (n : Nat)
  | confidence (c : Nat)
  deriving DecidableEq, Repr

/-- What a block writes (R25): a basket, or a port or stall whose writing block it is. -/
inductive Dst where
  | none
  | basket (b : Nat)
  | torque (m : Nat)
  | tx (n : Nat)
  | stall (s : Nat)
  | sol (v : Nat)
  | snuffer
  deriving DecidableEq, Repr

/-- One block placed by the stream (R151, R374), with its connections and its parameters without registers. -/
structure Inst where
  /-- Block type. R154 | code 1-59 | stream -/
  typ : BlockType
  /-- Engine CE0 to CE127. R151 | 7 | stream -/
  engine : Nat
  /-- Period exponent and phase. R22, R151 | 4 + 13 | stream -/
  k : Nat
  phase : Nat
  /-- Mirror and tally flags. R374 | 1 + 1 | stream -/
  mirror : Bool
  tally : Bool
  /-- n of R154. R374 | 16 | stream -/
  items : Nat
  /-- Owning function (kind, index), 0xFFFF none. R374 | 16 | stream -/
  owner : Option (Nat × Nat)
  /-- Expert face. R385 | 1 | stream -/
  expert : Bool
  /-- Index of the item it serves: loop, taper, port, column, channel, route. R179, R174 | 16 | stream -/
  idx : Nat
  /-- Inputs by role, outputs by role. R372 PARAMS | lists | stream -/
  ins : List Src
  outs : List Dst
  /-- Parameters without registers, and the item numbers it watches. R372 PARAMS | lists | stream -/
  vals : List F32
  ids : List Nat
  deriving DecidableEq, Repr

/-- Overflow policies of a basket (R161, R165). -/
inductive Policy where
  | block | dropNewest | overwriteOldest
  deriving DecidableEq, Repr

/-- Code of a policy. -/
def Policy.code (p : Policy) : Nat := p.ctorIdx

/-- The stream's part of a basket descriptor (R161). -/
structure BasketDesc where
  offset : Nat
  depth : Nat
  width : Nat
  policy : Policy
  cls : Nat
  consumer : Nat
  producer : Nat
  deriving DecidableEq, Repr

/-- An undefined basket: depth 0. -/
def BasketDesc.absent : BasketDesc :=
  { offset := 0, depth := 0, width := 0, policy := .dropNewest, cls := 0, consumer := 0, producer := 0 }

/-- Bytes of one message of a width code (R161). -/
def widthBytes (w : Nat) : Nat := 16 * 2 ^ w

/-- Owners of lamplighter slots (R56). -/
inductive LampOwner where
  | host | static | inst (n : Nat)
  deriving DecidableEq, Repr

/-- A slot range of the stream (R56) with the report basket of a block (R73). -/
structure LampRange where
  owner : LampOwner
  lo : Nat
  hi : Nat
  report : Option Nat
  deriving DecidableEq, Repr

/-- An action record (R55), field by field. -/
structure ActRec where
  key : Int
  keyTime : Bool
  dir : Nat
  rep : Bool
  market : Bool
  winStart : Bool
  winEnd : Bool
  rearm : Bool
  wick : Nat
  typ : Nat
  target : Nat
  hyst : Nat
  value : Nat
  step : Int
  cap : Nat
  deriving DecidableEq, Repr

/-- A record of all zeros. -/
def ActRec.zero : ActRec :=
  { key := 0, keyTime := false, dir := 0, rep := false, market := false, winStart := false, winEnd := false, rearm := false,
    wick := 0, typ := 0, target := 0, hyst := 0, value := 0, step := 0, cap := 0 }

/-- Air-input source of a zone (R121). -/
inductive AirSrc where
  | stall (s : Nat) | ambient | derived | fixed
  deriving DecidableEq, Repr

/-- A zone's air inputs (R121). -/
structure ZoneAir where
  t : AirSrc
  rh : AirSrc
  v : AirSrc
  vNom : F32
  deriving DecidableEq, Repr

/-- Stream-only fields of a drying column (R121, R118). -/
structure DryOnly where
  zones : List ZoneAir
  ambT : Nat
  ambRh : Nat
  ambDefault : F32
  deriving DecidableEq, Repr

/-- Stream-only fields of a heat group (R149). -/
structure HeatOnly where
  stalls : List Nat
  spLo : F32
  spHi : F32
  ambDefault : F32
  deriving DecidableEq, Repr

/-- Stream-only fields of an aeration group (R150). -/
structure AerOnly where
  ambT : Nat
  ambRh : Nat
  cable : List Nat
  speed : F32
  dtCool : F32
  deriving DecidableEq, Repr

/-- Stream-only fields of a motor port (R220): channel gains and offsets, temperature stalls, t_flux in ms, obs_min in % of rated
speed, tach source (wick, ticks per revolution). -/
structure MotorOnly where
  gain : List F32
  offset : List F32
  temps : List Nat
  tFlux : Nat
  obsMin : Nat
  tach : Option (Nat × Nat)
  deriving DecidableEq, Repr

/-- Members of a route (R229). -/
inductive MemberKind where
  | motor (m : Nat) | gate (m : Nat) | do_ (s : Nat) | remote (basket : Nat)
  deriving DecidableEq, Repr

/-- Stream-only fields of a route member (R229, R230): proof wick with its nominal speed in ticks/s, gate target, proof DI, run-out
in ticks, t_clear in ms, shared flag. -/
structure RouteMember where
  kind : MemberKind
  wick : Option Nat
  vNom : F32
  target : F32
  proofDi : Option Nat
  runOut : Nat
  tClear : Nat
  shared : Bool
  deriving DecidableEq, Repr

/-- A thermal policy's stream-only fields (R421). -/
structure PolicyOnly where
  ins : List Src
  basket : Nat
  deriving DecidableEq, Repr

/-- A pair entry (R376). -/
structure PairEntry where
  kind : Nat
  index : Nat
  code : Nat
  deriving DecidableEq, Repr

/-- A section of the committed structure: type, size, digest of its contents (R375). -/
structure SecDigest where
  typ : Nat
  size : Nat
  digest : Nat
  deriving DecidableEq, Repr

/-- The IDENTITY section's fields without registers (R372). -/
structure Identity where
  ipv4 : Nat
  ipv6 : Nat
  lanternAddr : Nat
  latencies : List Nat
  memberAtStart : Bool
  deriving DecidableEq, Repr

/-- No identity: a new device (R380). -/
def Identity.none : Identity := { ipv4 := 0, ipv6 := 0, lanternAddr := 0, latencies := [], memberAtStart := false }

/-- A market-table entry (R294): destination market ID or publication group, and its mask of P0, P1 and P2. -/
structure MktRoute where
  pub : Bool
  id : Nat
  mask : Nat
  deriving DecidableEq, Repr

/-- A totals slot of the tally bank (R329): the slot, the block instance and which of its items, and the slot's resolution unit. -/
structure TallySlot where
  slot : Nat
  inst : Nat
  item : Nat
  unit : F32
  deriving DecidableEq, Repr

/-- A block output that the WAX section selects (R449): y of a TAPER, u of a control law, moisture of a channel, r_out of a column's
DRY_COLUMN, a motor observer's speed, or any other output, by instance and number. -/
inductive SelOut where
  | taper (j : Nat) | law (i : Nat) | moisture (c : Nat) | rate (c : Nat) | observer (m : Nat) | other (inst out : Nat)
  deriving DecidableEq, Repr

/-- The committed structure. -/
structure Structure where
  /-- Structure hash. R375 HLD_HASH | 256 | stream -/
  hash : Nat
  /-- Mirror format version, stream version, number of the last patch. R371 | 16 + 32 + 32 | stream -/
  mirrorVer : Nat
  version : Nat
  patchNo : Nat
  /-- Digests of the structural sections. R375 | list | stream -/
  secs : List SecDigest
  /-- Register words the records carry (address, word). R373 | list | stream -/
  words : List (Nat × W32)
  /-- Block instances by number. R374 | 8,192 | stream -/
  insts : List (Nat × Inst)
  /-- Baskets by number. R161 | 32,768 | stream -/
  baskets : List (Nat × BasketDesc)
  /-- Tag quotas by producing block. R168 | list | stream -/
  quotas : List (Nat × Nat)
  /-- Market table and egress destinations (basket, (market ID, basket)). R294, R307 | lists | stream -/
  routes : List MktRoute
  egress : List (Nat × (Nat × Nat))
  /-- Producing market ID of each BLOCK basket fed by the market; egress baskets whose destination carries credit. R310 | lists | stream -/
  ingress : List (Nat × Nat)
  credited : List Nat
  /-- Identity fields. R372 | record | stream -/
  ident : Identity
  /-- Slot ranges and static actions (slot, record). R56 | lists | stream -/
  ranges : List LampRange
  statics : List (Nat × ActRec)
  /-- Grain tables it carries, by number, as bytes. R86 | lists | stream -/
  grain : List (Nat × List Byte)
  /-- Drying, heat and aeration records. R148 to R150 | lists | stream -/
  dry : List (Nat × DryOnly)
  heat : List (Nat × HeatOnly)
  aer : List (Nat × AerOnly)
  /-- Report basket of each column (R105). | list | stream -/
  colReport : List (Nat × Nat)
  /-- Motor records and routes. R220, R229 | lists | stream -/
  motors : List (Nat × MotorOnly)
  routeMembers : List (Nat × List RouteMember)
  /-- Scaling of a stall's value: gain and offset. R88, R121, R372 AISLES | list | stream -/
  scales : List (Nat × (F32 × F32))
  /-- Steinhart-Hart coefficients A, B, C of a TMP_NTC stall; the defaults of R85 where it gives none. R85, R245 | list | stream -/
  ntcs : List (Nat × (F32 × F32 × F32))
  /-- Cable points of each CABLE_CHECK. R262 | list | stream -/
  cables : List (Nat × List Nat)
  /-- TD neighbours and thermal policies. R411, R421 | lists | stream -/
  tdNbr : List (Nat × (Nat × Nat))
  policies : List (Nat × PolicyOnly)
  /-- Pair section: entries and compare bands per output. R363, R376 | lists | stream -/
  pairEntries : List PairEntry
  bands : List (Nat × F32)
  /-- Totals slots, baskets flagged for tally, notice basket. R329, R330 | 2 lists + option | stream -/
  tally : List TallySlot
  tallyBsk : List Nat
  notice : Option Nat
  /-- m_floor of each row and W_e of each engine as the stream gives them. R156 | 8 + 128 | stream -/
  rows : List Nat
  we : List Nat
  /-- SUBSCRIBED wicks: publication exponent and hops of the path to the publisher. R49 | list | stream -/
  subPaths : List (Nat × (Nat × Nat))
  /-- SUBSCRIBED wicks whose publisher is a pair: the two market IDs. R359 | list | stream -/
  subPairs : List (Nat × (Nat × Nat))
  /-- Block outputs selected for the summaries. R449 | up to 1,024 | stream -/
  waxSel : List SelOut
  /-- Worst-case encoded rate of the stream as the Haldun tool computes it, bytes/s. R445 | number | stream -/
  waxRate : Nat
  /-- Nightlight tables of loops: points (input, output). R182 | list | stream -/
  night : List (Nat × List (F32 × F32))
  /-- Freeze times of wicks in ms with the thresholds of speed and current in %. R43 | list | stream -/
  freeze : List (Nat × (Nat × Nat × Nat))
  /-- Transmitter ports whose lock value is 1. R278 | list | stream -/
  txLocks : List Nat
  /-- PMBus supply addresses are named. R391, R413 | 1 | stream -/
  pmbus : Bool
  deriving DecidableEq, Repr

/-- No committed structure: everything empty, the numbers 0 (R380). -/
def Structure.empty : Structure :=
  { hash := 0, mirrorVer := 0, version := 0, patchNo := 0, secs := [], words := [], insts := [], baskets := [],
    quotas := [], routes := [], egress := [], ingress := [], credited := [], ident := Identity.none, ranges := [], statics := [], grain := [], dry := [],
    heat := [], aer := [], colReport := [], motors := [], routeMembers := [], scales := [], ntcs := [], cables := [], tdNbr := [], policies := [],
    pairEntries := [], bands := [], tally := [], tallyBsk := [], notice := none, rows := [], we := [], subPaths := [], subPairs := [], waxSel := [], waxRate := 0, night := [], freeze := [], txLocks := [], pmbus := false }

end Sys2Proof.Machine
end

