-- ==== Sys2Proof/Machine/StWick.lean ====
section
/-!
DEFINITION. State of the wicks (R31 to R54).
-/
namespace Sys2Proof.Machine

open Sys2Proof

/-- Wick states (R39, codes of WCK_STATUS state). -/
inductive WickSt where
  | still | starting | running | reversing | lost | disabled
  deriving DecidableEq, Repr

/-- Code of a wick state in WCK_STATUS bits 2:0. -/
def WickSt.code (s : WickSt) : Nat :=
  match s with
  | .still => 0 | .starting => 1 | .running => 2 | .reversing => 3 | .lost => 4 | .disabled => 7

/-- Source kinds (R31). -/
inductive WickKind where
  | none | quad | pulseDir | pulse | cnt | enc | hall | mains | computed | subscribed
  deriving DecidableEq, Repr

/-- An edge at a wick's lands (R34, R46, R497): quadrature transition forward or reverse; rising edge of A with the level of B
(PULSE_DIR); rising edge (PULSE, CNT); Hall code; mains zero crossing. -/
inductive TickEdge where
  | quad (fwd : Bool)
  | pulseDir (b : Bool)
  | pulse
  | hall (code : Nat)
  | cross
  deriving DecidableEq, Repr

/-- A pending preset (R44): absolute, or relative to the count of the release edge (R226). -/
inductive PresetReq where
  | abs (v : Int)
  | rel (cE : Int) (homeOffset : Int)
  deriving DecidableEq, Repr

/-- A snapshot record (R36), as latched, published and received. -/
structure SnapRec where
  pos : Int
  speed : Int
  snapTime : Nat
  edgeTime : Nat
  st : WickSt
  rev : Bool
  wasLost : Bool
  phaseError : Bool
  unsynced : Bool
  wick : Nat
  seq : Nat
  /-- The wick was late at the latch (R50). The model's own: blocks see it with the record (R184); it is no part of the 32 bytes. -/
  late : Bool
  deriving DecidableEq, Repr

/-- The 32 bytes of a snapshot record, little-endian (R36). -/
def SnapRec.bytes (r : SnapRec) : List Byte :=
  let b (x : Bool) (k : Nat) : Nat := if x then 2 ^ k else 0
  bytesLE 8 (wrapN 64 r.pos) ++ bytesLE 4 (wrapN 32 r.speed) ++ bytesLE 8 r.snapTime ++ bytesLE 8 r.edgeTime ++
  bytesLE 1 (r.st.code + b r.rev 3 + b r.wasLost 4 + b r.phaseError 5 + b r.unsynced 6) ++ bytesLE 1 r.wick ++ bytesLE 2 r.seq

/-- A tick, or with no edge a standstill timeout, that falls in the clock cycle of a latch not yet taken: it waits for the latch
(R35). -/
structure HeldTick where
  wick : Nat
  t : Nat
  edge : Option TickEdge
  deriving DecidableEq, Repr

/-- The record of a wick before any latch: all zero, DISABLED. -/
def SnapRec.zero : SnapRec :=
  { pos := 0, speed := 0, snapTime := 0, edgeTime := 0, st := .disabled, rev := false, wasLost := false,
    phaseError := false, unsynced := false, wick := 0, seq := 0, late := false }

/-- One wick. -/
structure Wick where
  /-- count, the integer part of the position. R32 | signed 48 | reset 0 -/
  count : Int
  /-- Speed state. R39, WCK_STATUS state | 3 | reset 7 DISABLED -/
  st : WickSt
  /-- dir of WCK_STATUS: last tick was REV. R54 | 1 | reset 0 -/
  rev : Bool
  /-- Ticks counted, signed, untouched by presets: the counts that R37 differences. R37 | signed | reset 0 -/
  ticks : Int
  /-- E_last: market time of the last tick, 0 if none since reset. R36, WCK_EDGE_TIME | 64 | reset 0 -/
  edgeTime : Nat
  /-- The tick before E_last (time, ticks). R37 | 64 + signed | reset 0 -/
  prevTime : Nat
  prevTicks : Int
  /-- Epoch tick (time, ticks). R37 | 64 + signed | reset 0 -/
  epochTime : Nat
  epochTicks : Int
  /-- E_last (time, ticks) at the latest snapshots, newest first, at most 1,024. R37 | list | reset: empty -/
  hist : List (Nat × Int)
  /-- Speed of the latest snapshot. R37, WCK_SPEED | signed Q23.8 | reset 0 -/
  speed : Int
  /-- The fraction stays 0 from a preset to the next tick. R32, R44 | 1 | reset 0 -/
  presetHold : Bool
  /-- Preset pending for the next latch. R44 | option | reset: none -/
  pending : Option PresetReq
  /-- late of WCK_STATUS. R50 | 1 | reset 0 -/
  late : Bool
  /-- source_unsynced of WCK_STATUS. R54 | 1 | reset 0 -/
  srcUnsynced : Bool
  /-- phase_errors of WCK_DIAG. R34, R54 | 16 saturating | reset 0 -/
  phaseErrors : Nat
  /-- losses of WCK_DIAG. R42, R54 | 16 saturating | reset 0 -/
  losses : Nat
  /-- MAINS: consecutive valid periods, consecutive bad periods, in the start-up LOST. R46 | counters | reset 0 -/
  goodPeriods : Nat
  badPeriods : Nat
  startLost : Bool
  /-- MAINS: time of the last crossing. R46 | 64 | reset 0 -/
  lastCross : Nat
  /-- HALL: last valid code. R497 | 3 | reset 0 -/
  hallCode : Nat
  /-- Count before the ticks of the present clock cycle, with the cycle's number. R40 | option | reset none -/
  cyc : Option (Nat × Int)
  /-- A standstill timeout of a clock cycle: the cycle, and the state and speed before it. R40 | option | reset none -/
  stillFrom : Option (Nat × WickSt × Int)
  /-- WCK_TIMING as the latest latch took it. R54 | 32 | reset 0 -/
  timing : W32
  /-- CNT: market time since which stall, direction stall and link are good. R41 | option | reset none -/
  goodAt : Option Nat
  /-- Market time at which LOST was entered. R41 | 64 | reset 0 -/
  lostAt : Nat
  /-- Market time at which LOST was last left. R110 | 64 | reset 0 -/
  recAt : Nat
  /-- COMPUTED: first latch done, offset K (Q47.8), carried remainder, position (Q47.8), the numerator p × P_a + q × P_b of the
  latest latch; SUBSCRIBED: the same with the count in place of the numerator. R47, R49 | integers | reset 0 -/
  compStarted : Bool
  compK : Int
  compRem : Int
  compPos : Int
  compNum : Int
  /-- The next evaluation takes its base anew without ticks: after a preset at its latch, and after a loss. R42, R47 | 1 | reset 0 -/
  compHold : Bool
  /-- Since when the wick is STILL while its motor turns, and whether the freeze is declared. R43 | option time + 1 | reset none -/
  frzSince : Option Nat
  frozen : Bool
  /-- SUBSCRIBED: received records, newest first. R49 | list | reset: empty -/
  recs : List SnapRec
  /-- SUBSCRIBED: market time since which the wick is late. R50 | option | reset: none -/
  lateSince : Option Nat
  /-- The latest snapshot record. R35, R36 | 32 bytes | reset 0 -/
  snap : SnapRec
  /-- The latest snapshots, newest first, at most 512, among which R81 and R226 find the two that bracket a stamp. R81, R226 | list | reset empty -/
  trail : List SnapRec
  /-- Count at dormant entry, and the delta of the last dormant period. R52 | signed 64 | reset 0 -/
  dormEntry : Int
  delta : Int
  /-- LOST seen while dormant, a pair of ticks too close while dormant, last dormant tick. R51, R52 | 1, 1, 64 | reset 0 -/
  dormLost : Bool
  dormOverrun : Bool
  dormTick : Option Nat
  deriving DecidableEq, Repr

/-- A wick at reset: DISABLED, everything 0. -/
def Wick.reset : Wick :=
  { count := 0, st := .disabled, rev := false, ticks := 0, edgeTime := 0, prevTime := 0, prevTicks := 0, epochTime := 0,
    epochTicks := 0, hist := [], speed := 0, presetHold := false, pending := none, late := false, srcUnsynced := false,
    phaseErrors := 0, losses := 0, goodPeriods := 0, badPeriods := 0, startLost := false, lastCross := 0, hallCode := 0,
    cyc := none, stillFrom := none, timing := 0#32, goodAt := none, lostAt := 0, recAt := 0, compStarted := false, compK := 0,
    compRem := 0, compPos := 0, compNum := 0, compHold := false, frzSince := none, frozen := false, recs := [], lateSince := none,
    snap := SnapRec.zero, trail := [], dormEntry := 0, delta := 0, dormLost := false, dormOverrun := false,
    dormTick := none }

/-- All wicks and what they share. -/
structure WickState where
  /-- Wicks W0 to W63; an unlisted wick is at reset. R31 | 64 records | reset: Wick.reset -/
  w : List (Nat × Wick)
  /-- Snapshot sequence of the next latch. R36 | 16 | reset 0 -/
  snapSeq : Nat
  /-- Market time of the latest snapshot latch. R35, WCK_SNAP_TIME | 64 | reset 0 -/
  snapTime : Nat
  /-- A latch has been made since the core domain started. R36, R47 | 1 | reset 0 -/
  latched : Bool
  /-- Ticks and timeouts of a latch's clock cycle that wait for the latch, in order of arrival. R35 | list | reset empty -/
  held : List HeldTick
  deriving DecidableEq, Repr

/-- No wick listed, no latch yet. -/
def WickState.reset : WickState := { w := [], snapSeq := 0, snapTime := 0, latched := false, held := [] }

end Sys2Proof.Machine
end

