-- ==== Sys2Proof/Machine/StEng.lean ====
section
/-!
DEFINITION. State of the engines, rows, baskets and transaction tags (R151 to R173).
-/
namespace Sys2Proof.Machine

open Sys2Proof

/-- A parcel record (R109), field by field. -/
structure Parcel where
  serial : Int
  kind : Nat
  zone : Nat
  flags : BitVec 16
  tEntry : Nat
  mIn : F32
  tIn : F32
  rhoIn : F32
  nIn : Nat
  nDis : Nat
  mDis : F32
  tDis : F32
  mModel : F32
  tModel : F32
  exposure : F32
  mPred : F32
  table : Nat
  q : Nat
  modelSeq : Nat
  upd : Nat
  deriving DecidableEq, Repr

/-- A moisture result record (R93). -/
structure MoistRes where
  stamp : Nat
  coord : Int
  moisture : F32
  tGrain : F32
  density : F32
  q : Quality
  flags : BitVec 16
  channel : Nat
  deriving DecidableEq, Repr

/-- The 32 bytes of a moisture result record, little-endian (R93). -/
def MoistRes.bytes (r : MoistRes) : List Byte :=
  bytesLE 8 r.stamp ++ bytesLE 8 (wrapN 64 r.coord) ++ bytesLE 4 r.moisture.toNat ++ bytesLE 4 r.tGrain.toNat ++
  bytesLE 4 r.density.toNat ++ bytesLE 1 r.q.code ++ bytesLE 2 r.flags.toNat ++ bytesLE 1 r.channel

/-- What a basket message says. Layouts given by the spec stand field by field; every other message is its bytes. -/
inductive Msg where
  | value (x : F32) (q : Quality) (stamp : Nat)
  | taper (y r : F32) (seq mode flags : Nat)
  | law (u v w x e : F32) (seq : Nat)
  | moist (r : MoistRes)
  | parcel (p : Parcel)
  | report (payload : Nat) (isPayload : Bool) (t : Nat) (st : Nat) (code : Nat)
  | wick (r : SnapRec)
  | boundary (x : Int) (dest : Nat)
  | cmd (op : Nat) (arg : W32)
  | policy (t : F32) (level : Nat)
  | notice (kind : Nat) (arg : Nat)
  | lost (tag : Nat)
  | trip (loop : Nat)
  | cable (pts : List (Nat × F32 × Nat))
  | bytes (b : List Byte)
  | tagged (tag : Nat) (reply : Bool) (m : Msg)
  | asked (src gen tag : Nat) (m : Msg)
  | answer (gen tag status : Nat) (m : Msg)
  | refused (tag status : Nat)
  deriving DecidableEq, Repr

/-- What a request from the market says, without its sender, generation and tag; any other message as it is (R168, R318). -/
def Msg.body (m : Msg) : Msg := match m with | .asked _ _ _ x => x | x => x

/-- A message on its way into a basket (R164): its basket, what it says, its length when it came from the market. -/
structure Post where
  basket : Nat
  msg : Msg
  tag : Option Nat
  isReply : Bool
  deriving DecidableEq, Repr

/-- Fabric's side of a basket (R161, R164 to R167, R310). -/
structure Basket where
  /-- Messages held, oldest first. R161 | depth entries | reset: empty -/
  msgs : List Msg
  /-- head of the descriptor: slot of the oldest message. R161 | 16 | reset 0 -/
  head : Nat
  /-- Messages the consumer took in the present frame, freed at the next boundary. R164 | count | reset 0 -/
  taken : Nat
  /-- dropped, overwritten, refused_full, credit_violation, length_error. R165, R173 | 5 sticky | reset 0 -/
  dropped : Bool
  overwritten : Bool
  refusedFull : Bool
  creditViol : Bool
  lengthErr : Bool
  /-- drops, overwrites, peak. R173 | 16 + 16 saturating + 16 | reset 0 -/
  drops : Nat
  overwrites : Nat
  peak : Nat
  /-- Overrun count for the consumer's next input set. R165 | count | reset 0 -/
  overrun : Nat
  /-- Posts made in this frame against the credit. R166 | count | reset 0 -/
  used : Nat
  /-- T, S and the last limit L of R310. R310 | 3 x 16 | reset 0 -/
  tCount : Nat
  sCount : Nat
  limit : Option Nat
  /-- Messages at the head that were admitted for egress before the latest switch. R317 | count | reset 0 -/
  oldGen : Nat
  deriving DecidableEq, Repr

/-- An empty basket. -/
def Basket.reset : Basket :=
  { msgs := [], head := 0, taken := 0, dropped := false, overwritten := false, refusedFull := false, creditViol := false,
    lengthErr := false, drops := 0, overwrites := 0, peak := 0, overrun := 0, used := 0, tCount := 0, sCount := 0, limit := none, oldGen := 0 }

/-- A transaction tag in use (R168, R169). -/
structure Tag where
  requester : Nat
  reply : Nat
  frame : Nat
  /-- The request has been admitted for egress: `frame` is F_i (R169). -/
  sent : Bool
  quarantined : Bool
  deriving DecidableEq, Repr

/-- One engine. -/
structure Engine where
  /-- HALTED; the other states of ENG_STATUS follow from the placement and the relight. R151, R160, R172 | 1 | reset 0 -/
  halted : Bool
  /-- halt_cause of ENG_STATUS. R160, R172 | 2 | reset 0 -/
  haltCause : Nat
  /-- miss and ecc_corrected of ENG_STATUS. R159, R160 | 1 + 1 sticky | reset 0 -/
  miss : Bool
  eccCorr : Bool
  /-- Largest load seen (ENG_LOAD peak). R172 | 16 | reset 0 -/
  peak : Nat
  /-- misses, skipped. R159, R172 | 16 + 16 saturating | reset 0 -/
  misses : Nat
  skipped : Nat
  /-- Frame and block number of the last miss. R172 | 64 + 13 | reset 0 -/
  missFrame : Nat
  missInst : Nat
  /-- ENG_MISS_MAP bit. R159 | 1 W1C | reset 0 -/
  missMap : Bool
  deriving DecidableEq, Repr

/-- An idle engine. -/
def Engine.reset : Engine :=
  { halted := false, haltCause := 0, miss := false, eccCorr := false, peak := 0, misses := 0, skipped := 0, missFrame := 0,
    missInst := 0, missMap := false }

/-- One row of engines (R156, R157). -/
structure Row where
  /-- m_now of ROW_CLOCK. R157 | 8 | reset 128 -/
  m : Nat
  /-- throttling, at_floor of ROW_CLOCK. R157 | 1 + 1 | reset 0 -/
  throttling : Bool
  atFloor : Bool
  /-- floor_held of ROW_CLOCK. R157, R172 | 1 sticky | reset 0 -/
  floorHeld : Bool
  deriving DecidableEq, Repr

/-- A row at 500 MHz. -/
def Row.reset : Row := { m := 128, throttling := false, atFloor := false, floorHeld := false }

/-- Private state of a block whose law needs no record of its own chapter: its last outputs and counters. -/
structure BlockSt where
  f : List F32
  n : List Nat
  pendingPosts : List Post
  divZero : Bool
  /-- Overrun counts in the input set of the latest run: (basket, messages overwritten since the run before). R165 | list | reset empty -/
  overs : List (Nat × Nat)
  deriving DecidableEq, Repr

/-- The library's initial state (R153): all zero. -/
def BlockSt.reset : BlockSt := { f := [], n := [], pendingPosts := [], divZero := false, overs := [] }

/-- A temperature of the device's own supervisor in the input area (R24, R27, R421): checked value in 1/128 °C, FAILED, STALE. -/
structure TempIn where
  t : Int
  failed : Bool
  stale : Bool
  deriving DecidableEq, Repr

/-- Nothing measured yet. -/
def TempIn.zero : TempIn := { t := 0, failed := false, stale := false }

/-- Engines, rows, baskets, tags. -/
structure EngState where
  /-- Engines 0 to 127; unlisted = reset. R151 | 128 records | reset Engine.reset -/
  e : List (Nat × Engine)
  /-- Rows 0 to 7. R156 | 8 records | reset Row.reset -/
  row : List (Nat × Row)
  /-- Baskets 0 to 32,767; unlisted = empty. R161 | 32,768 records | reset Basket.reset -/
  b : List (Nat × Basket)
  /-- Posts released by blocks in this frame, with the producer. R163, R164 | list | reset empty -/
  posts : List (Nat × Post)
  /-- Other messages that arrived in this frame, in arrival order. R164 | list | reset empty -/
  arrivals : List Post
  /-- Arrivals in the clock cycle of a boundary not yet taken: of the frame after. R24 | list | reset empty -/
  edgeArrivals : List Post
  /-- Tags 0 to 4,095; unlisted = free. R168 | 4,096 x 16 bytes | reset: free -/
  tags : List (Nat × Tag)
  /-- lost and stray of TAG_DIAG. R169, R173 | 16 + 16 saturating | reset 0 -/
  tagLost : Nat
  tagStray : Nat
  /-- tag_full, lost, stray of TAG_FLAGS. R173 | 3 sticky | reset 0 -/
  tagFlags : BitVec 3
  /-- dropped, overwritten, refused_full, credit or length error of BSK_GLOBAL. R173 | 4 sticky | reset 0 -/
  bskGlobal : BitVec 4
  /-- Private states of block instances. R153 | data memory | reset: library initial state -/
  blk : List (Nat × BlockSt)
  /-- Aborts delivered into the next input set: (engine, block, skipped). R159 | list | reset empty -/
  aborts : List (Nat × Nat × Nat)
  /-- Temperatures in the input area: row r at r, aisle n at 16 + n, diode n at 32 + n. R24, R27 | 32 records | reset TempIn.zero -/
  temps : List (Nat × TempIn)
  deriving DecidableEq, Repr

/-- Nothing listed. -/
def EngState.reset : EngState :=
  { e := [], row := [], b := [], posts := [], arrivals := [], edgeArrivals := [], tags := [], tagLost := 0, tagStray := 0, tagFlags := 0#3,
    bskGlobal := 0#4, blk := [], aborts := [], temps := [] }

end Sys2Proof.Machine
end

