-- ==== Sys2Proof/Machine/StMkt.lean ====
section
/-!
DEFINITION. State of the market: ports, time, membership, basket frames and management datagrams (R293 to R323).
-/
namespace Sys2Proof.Machine

open Sys2Proof

/-- Membership (R315, codes of MKT_STATUS). -/
inductive Member where
  | outside | member | leaving
  deriving DecidableEq, Repr

/-- Code of MKT_STATUS member. -/
def Member.code (m : Member) : Nat := m.ctorIdx

/-- Switch operations (R316). -/
inductive SwOp where
  | join | leave | route
  deriving DecidableEq, Repr

/-- Code of a switch operation. -/
def SwOp.code (o : SwOp) : Nat := o.ctorIdx + 1

/-- A pending switch (R316). -/
structure Switch where
  s : Nat
  gen : Nat
  op : SwOp
  subject : Nat
  hash : Nat
  deriving DecidableEq, Repr

/-- An egress entry of a basket frame (R308). -/
structure Entry where
  basket : Nat
  tag : Nat
  request : Bool
  reply : Bool
  status : Nat
  width : Nat
  msg : Msg
  deriving DecidableEq, Repr

/-- The fields of a basket frame's header that the sender fills (R308). -/
structure FrameOut where
  dst : Nat
  cls : Nat
  gen : Nat
  seq : Nat
  stamp : Nat
  unsynced : Bool
  leaving : Bool
  deriving DecidableEq, Repr

/-- A lantern (R365), field by field; status holds bits 1:0 spare phase, 3:2 health, 4 owning, 5 peer_own, 6 mirror fresh, 7 snuffer
active. -/
structure LanternImg where
  issued : Nat
  epoch : Nat
  state : Nat
  status : Nat
  findings : Nat
  seen : Nat
  mirrorAge : Nat
  selftest : Nat
  mismatches : Nat
  wickD : Nat
  aislesLinked : Nat
  aislesSafe : Nat
  rowsFloor : Nat
  halted : Nat
  misses : Nat
  eccCorrected : Nat
  hash8 : Nat
  evrHead : Nat
  tHot : Nat
  seq : Nat
  deriving DecidableEq, Repr

/-- The 64 bytes of a lantern, little-endian (R365). -/
def LanternImg.bytes (x : LanternImg) : List Byte :=
  bytesLE 8 x.issued ++ bytesLE 8 x.epoch ++ bytesLE 1 x.state ++ bytesLE 1 x.status ++ bytesLE 2 x.findings ++ bytesLE 2 x.seen ++
  bytesLE 2 x.mirrorAge ++ bytesLE 4 x.selftest ++ bytesLE 2 x.mismatches ++ bytesLE 2 x.wickD ++ bytesLE 1 x.aislesLinked ++
  bytesLE 1 x.aislesSafe ++ bytesLE 1 x.rowsFloor ++ bytesLE 1 x.halted ++ bytesLE 2 x.misses ++ bytesLE 2 x.eccCorrected ++
  bytesLE 8 x.hash8 ++ bytesLE 8 x.evrHead ++ bytesLE 2 x.tHot ++ bytesLE 2 x.seq ++ bytesLE 4 0

/-- What a unit sends (R307, R308, R311, R365, R468): the frames and datagrams put on the wire, as data. -/
inductive Sent where
  | data (h : FrameOut) (es : List Entry)
  | credit (h : FrameOut) (basket : Nat) (limit : Nat)
  | wick (h : FrameOut) (recs : List SnapRec)
  | hello (h : FrameOut) (t : Nat) (member : Nat) (sync : Bool) (hops : Nat) (pair : Nat) (gen : Nat) (hash8 : Nat)
  | response (dst : Nat) (seq : Nat) (status : Nat) (words : List W32) (keyId : Nat) (key : Nat)
  | notice (t pending raw evrHead seq : Nat)
  | lantern (addr target : Nat) (link : Option Nat) (x : LanternImg)
  | waxData (dst : Nat) (source : Nat) (offset : Nat) (size : Nat) (last : Bool)
  | monitor (line : List Nat)
  | bridge (port : Nat) (pcp : Nat) (queue : Nat) (start : Option Nat)
  | arpReply (ip : Nat)
  | control (link st phase : Nat) (pairId owning : Bool) (hash8 patchNo : Nat) (patchFrame : Option Nat) (epoch : Nat)
  | mirror (link seq : Nat)
  | copyRequest
  | copy (link frame : Nat)
  deriving DecidableEq, Repr

/-- One SerDes port (R293, MKT_PORT). -/
structure MktPort where
  /-- link_up, ptp_state, slave of MKT_PORT. R293, R323 | 3 x 1 | reset 0 -/
  linkUp : Bool
  ptp : Bool
  slave : Bool
  /-- link_delay of MKT_PORT, ns. R296, R323 | 16 saturating | reset 0 -/
  delay : Nat
  deriving DecidableEq, Repr

/-- A port at reset. -/
def MktPort.reset : MktPort := { linkUp := false, ptp := false, slave := false, delay := 0 }

/-- The market block. -/
structure MktState where
  /-- member of MKT_STATUS. R315, R319 | 2 | reset 0 OUTSIDE -/
  member : Member
  /-- Conditions of R300: sync lost, offset above 1 us, correction still slewing, step pending. R300 | 4 x 1 | reset sync lost -/
  syncLost : Bool
  offBig : Bool
  slewing : Bool
  stepPend : Bool
  /-- unsynced of MKT_STATUS. R300 | 1 | reset 1 -/
  unsynced : Bool
  /-- gm, tai_holdover, no_tai of MKT_STATUS. R296, R297 | 3 x 1 | reset 0 -/
  gm : Bool
  taiHold : Bool
  noTai : Bool
  /-- Pending switch; S of the pending or last one. R316 | option record, 64 | reset none, 0 -/
  switch : Option Switch
  lastS : Nat
  /-- LEAVING ends at; old generation accepted until. R318, R320 | 2 x 64 | reset 0 -/
  leaveEnd : Nat
  prevUntil : Nat
  /-- generation, the previous generation. R317 MKT_GEN | 16 + 16 | reset: stream -/
  gen : Nat
  prevGen : Nat
  /-- offset (ns) and hops of MKT_SYNC. R300, R323 | signed 24 + 6 | reset 0, 63 -/
  offset : Int
  hops : Nat
  /-- Time of the last valid Sync; consecutive Syncs within 500 ns. R300 | 64 + 5 | reset 0 -/
  lastSync : Nat
  goodSyncs : Nat
  /-- step_accept given. R298 | 1 | reset 0 -/
  stepAccept : Bool
  /-- Step to be made at the next boundary: market time to add, ns. R298, R299 | option signed | reset none -/
  pendStep : Option Int
  /-- Frames are paused until this number is passed; last boundary in real time is the present frame's. R299 | option 64 | reset none -/
  pausedAt : Option Nat
  /-- Last MKT_PPS_IN edge, bad or missing edges in a row. R297 | option 64 + 2 | reset none, 0 -/
  ppsLast : Option Nat
  ppsBad : Nat
  /-- MKT_PPS_OUT land high until. R302 | option 64 | reset none -/
  ppsOut : Option Nat
  /-- TAI second of the last valid edge (MKT_TAI_SEC gives the next one's). R297 | 64 | reset 0 -/
  taiSec : Nat
  /-- gen_mismatch, bad_frame, no_route, auth_fail. R309, R312, R317 | 4 x 16 saturating | reset 0 -/
  genMismatch : Nat
  badFrame : Nat
  noRoute : Nat
  authFail : Nat
  /-- Ports P0 and P1. R293 | 2 records | reset MktPort.reset -/
  port0 : MktPort
  port1 : MktPort
  /-- Last hello of each market ID. R321 MKT_HEARD | 1,024 times | reset none -/
  heard : List (Nat × Nat)
  /-- Last pair state told by the hellos of each market ID. R359 | list | reset none -/
  heardPair : List (Nat × Nat)
  /-- Hellos of a newer generation received. R315 | 2 | reset 0 -/
  newer : Nat
  /-- Members declared missing. R321 | list | reset empty -/
  missing : List Nat
  /-- Learned address table (MAC, (port, time)). R294 | 1,024 entries | reset empty -/
  addr : List (Nat × (Nat × Nat))
  /-- Egress destinations before the latest switch: (basket, (market ID, basket)). R317, R318 | list | reset empty -/
  oldEgress : List (Nat × (Nat × Nat))
  /-- Egress sequence per (destination, class). R308 | list | reset empty -/
  egSeq : List (Nat × Nat)
  /-- Last accepted seq per key slot and sender: (slot * 65536 + sender, seq). R313 | 4 x 1,280 x 8 bytes, MRAM | reset MRAM (none) -/
  seqTab : List (Nat × Nat)
  /-- What the unit has put on its lines, newest first. R307, R311 | list, the model's record of outputs | reset empty -/
  sent : List Sent
  deriving DecidableEq, Repr

/-- The market block at reset. -/
def MktState.reset : MktState :=
  { member := .outside, syncLost := true, offBig := false, slewing := false, stepPend := false, unsynced := true, gm := false,
    taiHold := false, noTai := false, switch := none, lastS := 0, leaveEnd := 0, prevUntil := 0, gen := 0, prevGen := 0,
    offset := 0, hops := 63, lastSync := 0, goodSyncs := 0, stepAccept := false, pendStep := none, pausedAt := none,
    ppsLast := none, ppsBad := 0, ppsOut := none, taiSec := 0, genMismatch := 0, badFrame := 0, noRoute := 0, authFail := 0,
    port0 := MktPort.reset, port1 := MktPort.reset, heard := [], heardPair := [], newer := 0, missing := [], addr := [],
    oldEgress := [], egSeq := [], seqTab := [], sent := [] }

end Sys2Proof.Machine
end

