-- ==== Sys2Proof/Machine/StCol.lean ====
section
/-!
DEFINITION. State of the columns, of drying control, heat groups and aeration (R98 to R150).
-/
namespace Sys2Proof.Machine

open Sys2Proof

/-- A record of all zeros: kind ABSENT (R109). -/
def Parcel.absent : Parcel :=
  { serial := 0, kind := 0, zone := 0, flags := 0#16, tEntry := 0, mIn := 0#32, tIn := 0#32, rhoIn := 0#32, nIn := 0,
    nDis := 0, mDis := 0#32, tDis := 0#32, mModel := 0#32, tModel := 0#32, exposure := 0#32, mPred := 0#32, table := 0,
    q := 0, modelSeq := 0, upd := 0 }

/-- Column states (R111, codes of PCL_STATUS). -/
inductive ColSt where
  | disabled | restoring | tracking | held | draining
  deriving DecidableEq, Repr

/-- Code of a column state. -/
def ColSt.code (s : ColSt) : Nat := s.ctorIdx

/-- Host commands of a column (R111, R117). -/
inductive ColCmd where
  | accept | setEmpty | checkpoint | clearDiag | discard
  deriving DecidableEq, Repr

/-- A checkpoint image (R112): the column's state at t0 of its capture frame, with the passes that reopened parcels wait for (R105). -/
structure Ckpt where
  col : Nat
  hash : Nat
  plen : Nat
  len : Nat
  origin : Int
  shift : Int
  wick : Nat
  k : Int
  countCk : Int
  losses : Nat
  auxResets : Nat
  time : Nat
  shadowN : Nat
  table : List Parcel
  shadow : List Parcel
  reIn : List Int
  reDis : List Int
  /-- CRC-32 of the header's end. -/
  crc : W32
  deriving DecidableEq, Repr

/-- One column. -/
structure Column where
  /-- state of PCL_STATUS. R111 | 3 | reset 0 DISABLED -/
  st : ColSt
  /-- Step index k. R99, PCL_STEP | signed 64 | reset 0 -/
  k : Int
  /-- Parcels at positions 0 to L - 1. R102, R109 | 4,096 x 64 bytes | reset: ABSENT -/
  table : List Parcel
  /-- Discharge shadow, depth 1 first. R102 | 64 x 64 bytes | reset: empty -/
  shadow : List Parcel
  /-- restored, no_image of PCL_STATUS. R113, R114 | 1 + 1 | reset 0 -/
  restored : Bool
  noImage : Bool
  /-- drops, unknowns of PCL_DIAG. R104, R117 | 16 + 16 saturating | reset 0 -/
  drops : Nat
  unknowns : Nat
  /-- Serial at each probe after the latest movement. R105 | 2 signed | reset 0 -/
  inSerial : Int
  disSerial : Int
  /-- Inlet values of the last parcel closed with n_in > 0: m, t, rho. R106 | option | reset none -/
  lastIn : Option (F32 × F32 × F32)
  /-- Serials of open parcels that an uncovered inlet result fell into. R104, R106 | list | reset empty -/
  uncovered : List Int
  /-- Serials reopened at a probe, whose next close replaces the pass. R105 | 2 lists | reset empty -/
  reIn : List Int
  reDis : List Int
  /-- Serials whose kind an inlet close has settled. R106 | list | reset empty -/
  settled : List Int
  /-- Unobserved movement that a restore beyond tolerance has left unapplied, ticks. R113 | signed 48 | reset 0 -/
  shift : Int
  /-- snap_time of the first snapshot of the present loss. R110 | option time | reset none -/
  lostAt : Option Nat
  /-- Commands of the input set. R108 | list | reset empty -/
  cmds : List ColCmd
  /-- The two checkpoint images, the copy written next, the writes in progress. R112 | 2 images, MRAM | reset MRAM (none) -/
  imgA : Option Ckpt
  imgB : Option Ckpt
  nextB : Bool
  writing : List Ckpt
  deriving DecidableEq, Repr

/-- A column at reset. -/
def Column.reset : Column :=
  { st := .disabled, k := 0, table := [], shadow := [], restored := false, noImage := false, drops := 0, unknowns := 0,
    inSerial := 0, disSerial := 0, lastIn := none, uncovered := [], reIn := [], reDis := [], lostAt := none, settled := [],
    shift := 0, cmds := [], imgA := none, imgB := none, nextB := false, writing := [] }

/-- Drying column states (R140, codes of DRY_STATUS). -/
inductive DrySt where
  | off | cont | batchDry | batchCool | batchDone | coolDown | night
  deriving DecidableEq, Repr

/-- Code of a drying state. -/
def DrySt.code (s : DrySt) : Nat := s.ctorIdx

/-- Commands of DRY_CMD. -/
inductive DryCmd where
  | startCont | startBatch | coolDown | stop | resume | resetAdapt | clearBias
  deriving DecidableEq, Repr

/-- A drying record (R136), as written to MRAM and mirrored. -/
structure DryRec where
  theta : F32
  pTheta : F32
  beta : F32
  rOut : F32
  st : DrySt
  source : Nat
  hist : List F32
  table : Nat
  coolSince : Nat
  crc : W32
  deriving DecidableEq, Repr

/-- One drying column. -/
structure Dry where
  /-- state, source of DRY_STATUS. R140, R127 | 3 + 2 | reset 0 OFF, 2 HOLD -/
  st : DrySt
  source : Nat
  /-- theta, P_theta, beta (DRY_LN_A, DRY_BIAS). R134 | 3 x 32 | reset 0 (0.0025 at placement) -/
  theta : F32
  pTheta : F32
  beta : F32
  /-- r_out, prediction, confidence, trim request (DRY_RATE_OUT, DRY_PRED, DRY_CONF, DRY_TRIM). R129, R131, R135 | 4 x 32 | reset 0 -/
  rOut : F32
  pred : F32
  conf : F32
  trim : F32
  /-- rate_lim_low, rate_lim_high, adapt_frozen, adapt_bound, air_subst, table_bad. R148 | 6 x 1 | reset 0 -/
  limLow : Bool
  limHigh : Bool
  frozen : Bool
  bound : Bool
  airSubst : Bool
  tableBad : Bool
  /-- Residual history, newest first, at most 16. R135 | 16 x 32 | reset empty -/
  hist : List F32
  /-- Consecutive outliers. R133 | 2 | reset 0 -/
  outliers : Nat
  /-- Run count. R119 | counter | reset 0 -/
  runs : Nat
  /-- Adaptation table in force. R132 | option 6 | reset none -/
  table : Option Nat
  /-- Input failures (input key, since), and the last good value of each input. R122 | list | reset empty -/
  fails : List (Nat × Nat)
  lastGood : List (Nat × F32)
  /-- Inputs whose 60 s of the last value are over. R122 | list | reset empty -/
  overT : List Nat
  /-- last_subst. R122 | 64 | reset 0 -/
  lastSubst : Nat
  /-- HOLD since; previous usable discharge close; COOL since. R127, R130, R140 | times | reset none, none, 0 -/
  holdSince : Option Nat
  lastClose : Option Nat
  coolSince : Nat
  /-- cool_max has been seen to elapse in the present cooling state. R140 | 1 | reset 0 -/
  coolOver : Bool
  /-- m_last of R142. R142 | option 32 | reset none -/
  mLast : Option F32
  /-- Commands of the input set. R146 | list | reset empty -/
  cmds : List DryCmd
  /-- Drying record copies in MRAM, newest first. R136 | 2 x 64 bytes, MRAM | reset MRAM (none) -/
  recs : List DryRec
  deriving DecidableEq, Repr

/-- A drying column at reset. -/
def Dry.reset : Dry :=
  { st := .off, source := 2, theta := 0#32, pTheta := 0#32, beta := 0#32, rOut := 0#32, pred := 0#32, conf := 0#32,
    trim := 0#32, limLow := false, limHigh := false, frozen := false, bound := false, airSubst := false, tableBad := false,
    hist := [], outliers := 0, runs := 0, table := none, fails := [], lastGood := [], overT := [], lastSubst := 0, holdSince := none,
    lastClose := none, coolSince := 0, coolOver := false, mLast := none, cmds := [], recs := [] }

/-- One heat group. -/
structure Heat where
  /-- permit, throttling, amb_subst, sensor_failed of HEAT_STATUS. R138, R139, R149 | 4 x 1 | reset 0 -/
  permit : Bool
  throttling : Bool
  ambSubst : Bool
  sensorFailed : Bool
  /-- SP_out, T_x, h_f (HEAT_SP_OUT, HEAT_T_MAX, HEAT_FACTOR). R138 | 3 x 32 | reset 0 -/
  spOut : F32
  tx : F32
  hf : F32
  /-- Held offset; sp_req and offset held in NIGHTLIGHT. R137, R142 | 32 + option | reset 0, none -/
  offset : F32
  night : Option (F32 × F32)
  /-- Latest trim request of each member column. R131 | list | reset empty -/
  trims : List (Nat × F32)
  deriving DecidableEq, Repr

/-- A heat group at reset. -/
def Heat.reset : Heat :=
  { permit := false, throttling := false, ambSubst := false, sensorFailed := false, spOut := 0#32, tx := 0#32, hf := 0#32,
    offset := 0#32, night := none, trims := [] }

/-- One aeration group. -/
structure Aer where
  /-- rule, fans of AER_STATUS. R144, R150 | 3 + 1 | reset 4 IDLE, 0 -/
  rule : Nat
  fans : Bool
  /-- Since when the fans are in their condition; change wanted. R144 | 64 + option | reset 0, none -/
  since : Nat
  want : Bool
  /-- The minimum time of the present condition has been seen to pass. R144 | 1 | reset 0 -/
  minOver : Bool
  /-- Running by the BAND rule. R144 | 1 | reset 0 -/
  band : Bool
  /-- M_amb (AER_EMC). R144 | 32 | reset 0 -/
  emc : F32
  /-- Corrected cable points last taken from a CABLE_CHECK: (stall, (value, flags)). R263 | list | reset empty -/
  pts : List (Nat × (F32 × Nat))
  deriving DecidableEq, Repr

/-- An aeration group at reset. -/
def Aer.reset : Aer := { rule := 4, fans := false, since := 0, want := false, minOver := false, band := false, emc := 0#32, pts := [] }

/-- Columns, drying, heat, aeration. -/
structure ColState where
  /-- Columns 0 to 15; unlisted = reset. R98 | 16 records | reset Column.reset -/
  c : List (Nat × Column)
  /-- Drying columns 0 to 15. R118 | 16 records | reset Dry.reset -/
  d : List (Nat × Dry)
  /-- Heat groups 0 to 3. R149 | 4 records | reset Heat.reset -/
  h : List (Nat × Heat)
  /-- Aeration groups 0 to 63. R150 | 64 records | reset Aer.reset -/
  a : List (Nat × Aer)
  /-- Parcel records changed since last sent to the peer, (column, serial) in order of first change. R115, R116 | list | reset empty -/
  dirty : List (Nat × Int)
  deriving DecidableEq, Repr

/-- Nothing listed. -/
def ColState.reset : ColState := { c := [], d := [], h := [], a := [], dirty := [] }

end Sys2Proof.Machine
end

