-- ==== Sys2Proof/Machine/StLlt.lean ====
section
/-!
DEFINITION. State of the lamplighter (R55 to R75).
-/
namespace Sys2Proof.Machine

open Sys2Proof

/-- Slot states (R69). -/
inductive SlotSt where
  | free | armed | held | open_ | fired | ended | capped | missed | refused | disarmed
  deriving DecidableEq, Repr

/-- State code of a slot (R75, LLT_SLOT_STATUS). -/
def SlotSt.code (s : SlotSt) : Nat := s.ctorIdx

/-- One slot: record and status word (R55, R72, R75). -/
structure Slot where
  rec_ : ActRec
  st : SlotSt
  inhibited : Bool
  late : Bool
  missed : Bool
  conflict : Bool
  tgtFault : Bool
  execs : Nat
  capAt : Option Nat
  /-- t1 at which it was armed, and its aisle message has been sent ahead. R18, R57 -/
  armedAt : Nat
  sent : Bool
  deriving DecidableEq, Repr

/-- A FREE slot. -/
def Slot.free : Slot :=
  { rec_ := ActRec.zero, st := .free, inhibited := false, late := false, missed := false, conflict := false, tgtFault := false,
    execs := 0, capAt := none, armedAt := 0, sent := false }

/-- What an arm request asks (R56 to R58). -/
inductive ArmOp where
  | arm | disarm | free
  deriving DecidableEq, Repr

/-- A request to the lamplighter (R57): an arm carries a record, and for a window the end record too. -/
structure ArmReq where
  op : ArmOp
  owner : LampOwner
  slot : Nat
  alloc : Bool
  first : ActRec
  second : Option ActRec
  /-- Frame in which it reached the lamplighter. R57 -/
  frame : Nat
  deriving DecidableEq, Repr

/-- The lamplighter. -/
structure LltState where
  /-- Slots 0 to 16,383; unlisted = FREE. R55, R56 | 16,384 x (32 bytes + 32) | reset: all FREE -/
  slots : List (Nat × Slot)
  /-- Requests of the frame, oldest first. R57 | at most 1,024 applied | reset: empty -/
  reqs : List ArmReq
  /-- LLT_RESULT code and slot. R58, R75 | 4 + 14 | reset 0 -/
  result : Nat
  resultSlot : Nat
  /-- LLT_EXEC. R75 | 64 | reset 0 -/
  exec : Nat
  /-- refused_requests, report_drops of LLT_DIAG. R64, R75 | 16 + 16 saturating | reset 0 -/
  refused : Nat
  drops : Nat
  /-- Frame whose outputs were enabled: the static actions are armed at t1 of a later one. R57 | option frame | reset none -/
  staticDue : Option Nat
  /-- Latest action on each output: (output, (instant, slot)). R66 | list | reset empty -/
  drove : List (Nat × (Nat × Nat))
  /-- Market time up to which the dispatcher has actions to issue, one in 8 ns. R66 | 64 | reset 0 -/
  busy : Nat
  /-- Slots changed since they were last sent to the peer, in order of first change. R346 | list | reset empty -/
  dirty : List Nat
  deriving DecidableEq, Repr

/-- Every slot FREE. -/
def LltState.reset : LltState :=
  { slots := [], reqs := [], result := 0, resultSlot := 0, exec := 0, refused := 0, drops := 0, staticDue := none, drove := [], busy := 0, dirty := [] }

end Sys2Proof.Machine
end

