-- ==== Sys2Proof/Machine/StLoop.lean ====
section
/-!
DEFINITION. State of the tapers and of the supervised loops (R174 to R189).
-/
namespace Sys2Proof.Machine

open Sys2Proof

/-- Taper modes (R177, codes of TPR_STATUS). -/
inductive TprMode where
  | run | hold | track
  deriving DecidableEq, Repr

/-- Code of a taper mode. -/
def TprMode.code (m : TprMode) : Nat := m.ctorIdx

/-- A taper plan (R175): origin, start, target, peak, phase jerks and durations in seconds. -/
structure Plan where
  tp : Nat
  y0 : F32
  r0 : F32
  target : F32
  j1 : F32
  j3 : F32
  rp : F32
  d1 : F32
  d2 : F32
  d3 : F32
  deriving DecidableEq, Repr

/-- A command waiting for a taper's next run (R189). -/
inductive TprCmd where
  | run | hold | track | setValue | applyCoord (fromPresent : Bool)
  deriving DecidableEq, Repr

/-- One taper. -/
structure Taper where
  /-- mode of TPR_STATUS. R177, R189 | 2 | reset 1 HOLD -/
  mode : TprMode
  /-- at_target of TPR_STATUS. R176, R189 | 1 | reset 1 -/
  atTarget : Bool
  /-- Plan in force. R175 | option record | reset none -/
  plan : Option Plan
  /-- y, r (TPR_OUT, TPR_RATE) and y of the previous run. R174, R177 | 3 x 32 | reset 0 -/
  y : F32
  r : F32
  yPrev : F32
  /-- Limits and target of the plan in force: A, J, y_min, y_max, target bits. R176 | 5 x 32 | reset 0 -/
  accP : F32
  jerkP : F32
  yMinP : F32
  yMaxP : F32
  tgtP : F32
  /-- Message sequence. R174 | 16 | reset 0 -/
  seq : Nat
  /-- COORD endpoints in force. R178 | 2 x 64 + 2 x 32 | reset 0 -/
  xa : Int
  xb : Int
  ya : F32
  yb : F32
  /-- wick_lost of TPR_STATUS. R178 | 1 | reset 0 -/
  wickLost : Bool
  /-- Time to the plan's end in s (TPR_REMAIN). R189 | 32 | reset 0 -/
  remain : F32
  /-- Target that MOTOR_CTRL puts in place of TPR_TARGET: nightlight, or 0 while the port stops. R210, R213 | option 32 | reset none -/
  forced : Option F32
  /-- The port's MOTOR_CTRL or POSITION_LOOP holds the taper in TRACK. R205, R222 | 1 | reset 0 -/
  held : Bool
  /-- It followed a track input in the latest run. R177, R181, R205 | 1 | reset 0 -/
  wasHeld : Bool
  /-- Feedback of a loop in MANUAL with pv_track, which the taper tracks. R181 | option 32 | reset none -/
  trackV : Option F32
  /-- Commands of the input set. R176, R177 | list | reset empty -/
  cmds : List TprCmd
  deriving DecidableEq, Repr

/-- A taper at reset. -/
def Taper.reset : Taper :=
  { mode := .hold, atTarget := true, plan := none, y := 0#32, r := 0#32, yPrev := 0#32, accP := 0#32, jerkP := 0#32,
    yMinP := 0#32, yMaxP := 0#32, tgtP := 0#32, seq := 0, xa := 0, xb := 0, ya := 0#32, yb := 0#32, wickLost := false,
    remain := 0#32, forced := none, held := false, wasHeld := false, trackV := none, cmds := [] }

/-- Loop states (R181 to R186, codes of LOOP_STATUS). -/
inductive LoopSt where
  | auto | manual | night | track | held | observer | safe | tripped
  deriving DecidableEq, Repr

/-- Code of a loop state. -/
def LoopSt.code (s : LoopSt) : Nat := s.ctorIdx

/-- Findings of supervision (R184), in the order of its table. -/
inductive Finding where
  | silent | lost | frozen | implausible | following
  deriving DecidableEq, Repr

/-- Cause code of LOOP_STATUS. -/
def Finding.code (f : Finding) : Nat := f.ctorIdx + 1

/-- Commands of LOOP_CMD (R182, R188). -/
inductive LoopCmd where
  | auto | manual | reset
  deriving DecidableEq, Repr

/-- One loop, its law and its supervisor. -/
structure Loop where
  /-- state of LOOP_STATUS. R188 | 3 | reset 1 MANUAL -/
  st : LoopSt
  /-- cause of LOOP_STATUS. R184, R188 | 3 | reset 0 -/
  cause : Nat
  /-- Law state: I, D, x of the previous run. R179 | 3 x 32 | reset 0 -/
  i : F32
  d : F32
  xPrev : F32
  /-- Law outputs: u, v, w, x, e (LOOP_SP, LOOP_PV, LOOP_ERR) and the message sequence. R179 | 5 x 32 + 16 | reset 0 -/
  u : F32
  v : F32
  w : F32
  x : F32
  e : F32
  seq : Nat
  /-- u_a, the applied output (LOOP_OUT). R181 | 32 | reset 0 -/
  ua : F32
  /-- u_pre. R186 | 32 | reset 0 -/
  uPre : F32
  /-- Track input asserted, and its value, as of the latest run of the law. R182, R205 | 1 + 32 | reset 0 -/
  trackOn : Bool
  trackVal : F32
  /-- Feedback as read from its source, when x is the observer's estimate. R186 | 32 | reset 0 -/
  xRaw : F32
  /-- Findings that held at the latest run. R184 | list | reset empty -/
  finds : List Finding
  /-- E_lim and c of the latest run (LOOP_LIMIT, LOOP_CONF). R185 | 2 x 32 | reset 0 -/
  eLim : F32
  conf : F32
  /-- clamped, returning of LOOP_STATUS. R179, R186 | 1 + 1 | reset 0 -/
  clamped : Bool
  returning : Bool
  /-- Timers of FOLLOWING and IMPLAUSIBLE, ns; u_a when each left 0. R185, R186 | 2 x 64 + 2 x 32 | reset 0 -/
  tauF : Nat
  tauI : Nat
  preF : F32
  preI : F32
  /-- Consecutive supervisor runs without a post. R184 | 4 | reset 0 -/
  silentRuns : Nat
  /-- FROZEN interval: its start, x_ref, u_ref. R184 | option time + 2 x 32 | reset none -/
  stuckAt : Option Nat
  xRef : F32
  uRef : F32
  /-- Return conditions held since. R186 | option time | reset none -/
  okSince : Option Nat
  /-- HELD or OBSERVER since; mode on entry. R186 | 64 + 3 | reset 0 -/
  heldSince : Nat
  entryMode : LoopSt
  /-- Mode before TRACK. R182 | 3 | reset 1 -/
  beforeTrack : LoopSt
  /-- night_pending of LOOP_STATUS. R187 | 1 | reset 0 -/
  nightPending : Bool
  /-- LOOP_FINDINGS: lost, frozen, following, implausible. R188 | 4 x 8 saturating | reset 0 -/
  nLost : Nat
  nFrozen : Nat
  nFollow : Nat
  nImpl : Nat
  /-- Commands of the input set. R187 | list | reset empty -/
  cmds : List LoopCmd
  /-- A law post waits for the supervisor. R184 | 1 | reset 0 -/
  posted : Bool
  deriving DecidableEq, Repr

/-- A loop at reset. -/
def Loop.reset : Loop :=
  { st := .manual, cause := 0, i := 0#32, d := 0#32, xPrev := 0#32, u := 0#32, v := 0#32, w := 0#32, x := 0#32, e := 0#32,
    seq := 0, ua := 0#32, uPre := 0#32, trackOn := false, trackVal := 0#32, xRaw := 0#32, finds := [], eLim := 0#32, conf := 0#32, clamped := false, returning := false,
    tauF := 0, tauI := 0, preF := 0#32, preI := 0#32, silentRuns := 0, stuckAt := none, xRef := 0#32, uRef := 0#32,
    okSince := none, heldSince := 0, entryMode := .manual, beforeTrack := .manual, nightPending := false, nLost := 0,
    nFrozen := 0, nFollow := 0, nImpl := 0, cmds := [], posted := false }

/-- All tapers and loops. -/
structure LoopState where
  /-- Tapers 0 to 255; unlisted = reset. R174 | 256 records | reset Taper.reset -/
  t : List (Nat × Taper)
  /-- Loops 0 to 511; unlisted = reset. R179 | 512 records | reset Loop.reset -/
  l : List (Nat × Loop)
  deriving DecidableEq, Repr

/-- Nothing listed. -/
def LoopState.reset : LoopState := { t := [], l := [] }

end Sys2Proof.Machine
end

