-- ==== Sys2Proof/Config.lean ====
section
/-!
DEFINITION. What one implementation fixes and what the spec leaves open. Every `opaque` constant here is a FREE VALUE:
it has no body, so no proof can see what it is, and every claim holds whatever it is.
-/
namespace Sys2Proof.Config

open Sys2Proof

/-- A value the spec leaves open, fresh for every value of the counter `State.free`. -/
opaque freeNat : Nat → Nat
/-- As `freeNat`, for one register word or binary32 value. -/
opaque freeWord : Nat → W32
/-- As `freeNat`, for one truth value. -/
opaque freeBool : Nat → Bool

/-- Library exp (R170: within 1 ulp, one fixed algorithm whose bits the spec does not give). -/
opaque libExp : F32 → F32
/-- Library natural logarithm (R170). -/
opaque libLog : F32 → F32
/-- Library square root (R170). -/
opaque libSqrt : F32 → F32
/-- Library power (R170: within 2 ulp). -/
opaque libPow : F32 → F32 → F32
/-- Library sine (R170). -/
opaque libSin : F32 → F32
/-- Library cosine (R170). -/
opaque libCos : F32 → F32
/-- Library atan2 (R170). -/
opaque libAtan2 : F32 → F32 → F32

/-- Numeric code of a named event outside chapter 15's table (R496: listed in a data file that is not part of the spec
given here), by the name's index; it is taken within its chapter's range. -/
opaque eventCode : Nat → Nat
/-- Data bits of an event whose layout the spec given here does not state (R496: in the same data file): a function of the
event, by its name's index, and of what happened. -/
opaque eventData : Nat → Nat → Nat
/-- Where the bins of a solenoid port's duty window begin (R285: the bound of one bin is stated, their place is not), ns. -/
opaque solBinPhase : Nat → Nat

/-- Bytes of the keyframe of a frame in the wax: R447 names what it holds and gives it no layout (R451, WAX_SIZE). -/
opaque keyframeBytes : Nat → Nat
/-- SHA-256 of a byte string (R375), as a 256-bit number. -/
opaque sha256 : List Byte → BitVec 256
/-- HMAC-SHA-256 (R311, R436): a function of key and text. -/
opaque hmac : List Byte → List Byte → BitVec 256
/-- ECDSA P-256 signatures made by the device (R438, R451): a function of the signed bytes. -/
opaque signature : List Byte → BitVec 512
/-- AES key unwrap of RFC 3394 (R436) under a key-encryption key: none when the integrity check fails. -/
opaque unwrapKey : BitVec 256 → List Byte → Option (BitVec 256)

end Sys2Proof.Config
end

