-- ==== Sys2Proof/Machine/EventName.lean ====
section
/-!
DEFINITION. The named events of the event recorder (R331, R496). The chapters name the events; the numeric codes of
chapter 15 are given there, every other numeric code is listed in a data file that is not part of the spec given here
(R477), so it is a free value (`Config.eventCode`, log entry 6).
-/
namespace Sys2Proof.Machine

open Sys2Proof

/-- Events by name. An event that a rule asks for without naming it carries a descriptive name of this model. -/
inductive EventName where
  -- Tallies and the event recorder (0x000-0x01F)
  | recorderCleared | recorderRestored | eventsLost | mramLag | tallyLatched | tallyMissed | tallyCancelled
  -- Architecture (0x020-0x03F)
  | eccCorrected | eccUncorrectable
  -- Wicks (0x040-0x07F)
  | wickLost | wickRecovered | wickPhaseError | wickPreset | wickFrozen | wickReplaced
  -- Lamplighter (0x080-0x0BF)
  | actionEvent | actionHeld | actionMissed | actionCapped | actionRefused | actionTgtFault
  -- Columns (0x100-0x13F)
  | columnStale | columnRefill | columnAccept | columnSetEmpty | columnHeld | columnRestored | columnDisabled | ckptFault
  -- Drying (0x140-0x17F)
  | inputSubst | adaptReset | modelMismatch | nightEntered | dryState | hotspotEntered | aerInputFault | heatThrottled
  | permitDropped
  -- Engines (0x180-0x1BF)
  | engineAbort | engineHalt | signalRaised
  -- Tapers and loops (0x1C0-0x1FF)
  | loopStateEntered | loopReturned
  -- Motor ports (0x200-0x23F)
  | motorFault | fanStall | reverseHold | motorNight | motorDelayed
  -- Gates and routes (0x240-0x27F)
  | homeFault | routeFault | routeRunning | routeStopped | beltSlip
  -- Stalls and aisles (0x280-0x2BF)
  | aisleLinkLost | aisleSafe | aisleFault | safeCrcBad | stallFailed | cableSuspect
  -- Transmitters (0x2C0-0x2FF)
  | txMismatch | txTrimStored | txButtonRefused | txForced
  -- Solenoids (0x300-0x33F)
  | solFault | dutyLimit
  -- Market (0x340-0x37F)
  | timeStep | idConflict | genStale | peerMissing | switchApplied | switchRefused | joinFailed | unsyncedEntered
  -- Pair (0x380-0x3BF)
  | pairState | pairIdConflict | pairCollision | pairTakeover | pairCeded | pairFinding | compareMismatch
  -- Stream (0x3C0-0x3FF)
  | streamRejected | chainBroken | streamFallback | patchApplied | columnRetired
  -- Snuffer and boot (0x400-0x43F)
  | snufferTrigger | bootInstant | seqFault | recordMissed | watchdogExpired
  -- Thermal (0x440-0x47F)
  | thermalShutdown | sensorSuspect | sensorFailed | otpBad | thermalWarn | thermalAct | thermalRestart
  -- Management (0x480-0x4BF)
  | lockstepMismatch | fwFallback | hostChange | keyEnrolled | keyRevoked
  -- Wax (0x4C0-0x4FF)
  | relightStopped | serviceLatch | latchedChange
  -- Register map (0x500-0x53F)
  | hostSilence
  deriving DecidableEq, Repr

/-- Range of codes of an event's chapter: first code and width (R496). -/
def eventRange (e : EventName) : Nat × Nat :=
  let i := e.ctorIdx
  if i < EventName.eccCorrected.ctorIdx then (0x000, 0x20)
  else if i < EventName.wickLost.ctorIdx then (0x020, 0x20)
  else if i < EventName.actionEvent.ctorIdx then (0x040, 0x40)
  else if i < EventName.columnStale.ctorIdx then (0x080, 0x40)
  else if i < EventName.inputSubst.ctorIdx then (0x100, 0x40)
  else if i < EventName.engineAbort.ctorIdx then (0x140, 0x40)
  else if i < EventName.loopStateEntered.ctorIdx then (0x180, 0x40)
  else if i < EventName.motorFault.ctorIdx then (0x1C0, 0x40)
  else if i < EventName.homeFault.ctorIdx then (0x200, 0x40)
  else if i < EventName.aisleLinkLost.ctorIdx then (0x240, 0x40)
  else if i < EventName.txMismatch.ctorIdx then (0x280, 0x40)
  else if i < EventName.solFault.ctorIdx then (0x2C0, 0x40)
  else if i < EventName.timeStep.ctorIdx then (0x300, 0x40)
  else if i < EventName.pairState.ctorIdx then (0x340, 0x40)
  else if i < EventName.streamRejected.ctorIdx then (0x380, 0x40)
  else if i < EventName.snufferTrigger.ctorIdx then (0x3C0, 0x40)
  else if i < EventName.thermalShutdown.ctorIdx then (0x400, 0x40)
  else if i < EventName.lockstepMismatch.ctorIdx then (0x440, 0x40)
  else if i < EventName.relightStopped.ctorIdx then (0x480, 0x40)
  else if i < EventName.hostSilence.ctorIdx then (0x4C0, 0x40)
  else (0x500, 0x40)

/-- The numeric code of an event (R331: bits 11:0 of the code field): as the spec gives it, else a free code of its chapter's range
(R496, log entry 6). -/
def eventCodeOf (e : EventName) : BitVec 12 :=
  match e with
  | .recorderCleared => 0x001#12
  | .recorderRestored => 0x002#12
  | .eventsLost => 0x003#12
  | .mramLag => 0x004#12
  | .tallyLatched => 0x010#12
  | .tallyMissed => 0x011#12
  | .tallyCancelled => 0x012#12
  | e => BitVec.ofNat 12 ((eventRange e).1 + Config.eventCode e.ctorIdx % (eventRange e).2)

end Sys2Proof.Machine
end

