-- ==== Sys2Proof/Machine/StRec.lean ====
section
/-!
DEFINITION. State of the event recorder (R331 to R338) and of the tally banks (R324 to R330).
-/
namespace Sys2Proof.Machine

open Sys2Proof

/-- Source word of an event record (R331): bits 15:13 class, bits 12:0 instance. -/
abbrev EvSrc := BitVec 16

/-- Builds a source word from class and instance (R331). -/
def evSrc (cls inst : Nat) : EvSrc := BitVec.ofNat 16 (cls * 8192 + inst % 8192)

/-- An event waiting in the write queue (R333). `t` is its stamp, `came` when it entered the queue; `data` holds up to 192 bits, `conts`
the continuation records it needs. -/
structure EvReq where
  src : EvSrc
  name : EventName
  t : Nat
  came : Nat
  data : Nat
  conts : Nat
  deriving DecidableEq, Repr

/-- What a run of the present frame has left beside its state, its posts and its commands: sticky bits it has newly set, by address, and
the events it has queued (R158). -/
structure RunMark where
  inst : Nat
  bits : List (Nat × W32)
  evs : List EvReq
  deriving DecidableEq, Repr

/-- One 32-byte event record (R331). -/
structure EvRec where
  seq : Nat
  tFirst : Nat
  tLastUs : Nat
  src : EvSrc
  name : EventName
  conts : Nat
  isCont : Bool
  rep : Nat
  data : Nat
  deriving DecidableEq, Repr

/-- The event recorder. -/
structure RecState where
  /-- DRAM ring, newest record first, at most 65,536 records. R331 | 65,536 x 32 bytes | reset: empty (restored from the tail at a core start, R335) -/
  ring : List EvRec
  /-- H, the newest sequence number. R335, R340 EVR_HEAD | 64 | reset: MRAM (0 on a new device) -/
  head : Nat
  /-- cleared-below. R337, R340 EVR_CLEARED | 64 | reset: MRAM; a tail never written holds 1 -/
  cleared : Nat
  /-- Write queue of at most 1,024 entries, oldest first. R333 | 1,024 entries | reset: empty -/
  queue : List EvReq
  /-- Entries discarded at a full queue and not yet reported by EVENTS_LOST. R333 | count | reset 0 -/
  lostNow : Nat
  /-- EVR_COUNTS lost. R340 | 16 saturating | reset 0 -/
  lost : Nat
  /-- EVR_COUNTS queue_peak. R340 | 16 | reset 0 -/
  queuePeak : Nat
  /-- MRAM tail, newest first, at most 4,096 records. R335 | 4,096 x 32 bytes, MRAM | reset: empty on a new device -/
  tail : List EvRec
  /-- EVR_MRAM: highest sequence number committed to the tail. R335, R340 | 64, MRAM | reset 0 on a new device -/
  mramSeq : Nat
  /-- Records and updates not yet committed to the tail, oldest first, with the time of issue. R335 | list | reset: empty -/
  uncommitted : List (Nat × EvRec)
  /-- R_s, the sequence reserve, always above every number issued. R335 | 64, MRAM | reset 1 on a new device -/
  reserve : Nat
  /-- Next sequence number to be issued. R335 | 64 | reset: R_s of the tail -/
  nextSeq : Nat
  /-- mram_lag of EVR_STATUS. R335, R340 | 1 | reset 0 -/
  mramLag : Bool
  deriving DecidableEq, Repr

/-- The recorder of a new device: a tail that has never been written (R335). -/
def RecState.reset : RecState :=
  { ring := [], head := 0, cleared := 1, queue := [], lostNow := 0, lost := 0, queuePeak := 0, tail := [], mramSeq := 0,
    uncommitted := [], reserve := 1, nextSeq := 1, mramLag := false }

/-- States of a tally bank (R324). -/
inductive BankState where
  | free | armed | latched
  deriving DecidableEq, Repr

/-- The contents a tally bank holds once latched (R328): the header's fields and the counter tables. -/
structure BankImage where
  unsynced : Bool
  late : Bool
  stepped : Bool
  aislesDown : Nat
  marketId : Nat
  tLatch : Nat
  evrHead : Nat
  lltExec : Nat
  wicks : List Int
  stalls : List W32
  motCounts : List W32
  solCounts : List W32
  txCounts : List W32
  aisLink : List W32
  engMisses : List W32
  diags : List W32
  totals : List Int
  runs : List Nat
  bsk : List (Nat × Nat × Nat × Nat)
  hash8 : Nat
  deriving DecidableEq, Repr

/-- An empty image. -/
def BankImage.empty : BankImage :=
  { unsynced := false, late := false, stepped := false, aislesDown := 0, marketId := 0, tLatch := 0, evrHead := 0,
    lltExec := 0, wicks := [], stalls := [], motCounts := [], solCounts := [], txCounts := [], aisLink := [],
    engMisses := [], diags := [], totals := [], runs := [], bsk := [], hash8 := 0 }

/-- One tally bank (R324, R325). -/
structure TallyBank where
  /-- TAL_BANK state. R324, R339 | 2 | reset 0 FREE -/
  st : BankState
  /-- N, 0 when FREE. R324, R339 TAL_NUM | 32 | reset 0 -/
  num : Nat
  /-- T of the post. R324 | 64 | reset 0 -/
  tPost : Nat
  /-- Frame in whose input set the post came. R327 | option 64 | reset none -/
  armedIn : Option Nat
  /-- The counters once latched; the latch is made once. R325, R327 | 64 KiB | reset empty -/
  image : BankImage
  deriving DecidableEq, Repr

/-- A FREE bank. -/
def TallyBank.freeBank : TallyBank := { st := .free, num := 0, tPost := 0, armedIn := none, image := BankImage.empty }

/-- Tally unit. -/
structure TallyState where
  /-- Bank 0. R324 | 64 KiB | reset FREE -/
  bank0 : TallyBank
  /-- Bank 1. R324 | 64 KiB | reset FREE -/
  bank1 : TallyBank
  /-- TAL_RESULT result. R339 | 4 | reset 0 -/
  result : Nat
  /-- TAL_RESULT bank. R339 | 1 | reset 0 -/
  resultBank : Nat
  /-- Tally notices dropped (R330). | count | reset 0 -/
  noticeDrops : Nat
  /-- Tally numbers of banks lost since the latest t3, and that any was lost. R327 | 2 x 32 + 1 | reset 0 -/
  lost0 : Nat
  lost1 : Nat
  lostAny : Bool
  /-- A post refused for want of a bank or for its number in the present input set: frame, T, N, and the refused bit before it; an
  acknowledgment of the same set applies first. R327 | option record | reset none -/
  retry : Option (Nat × Nat × Nat × Bool)
  deriving DecidableEq, Repr

/-- Both banks FREE. -/
def TallyState.reset : TallyState :=
  { bank0 := TallyBank.freeBank, bank1 := TallyBank.freeBank, result := 0, resultBank := 0, noticeDrops := 0,
    lost0 := 0, lost1 := 0, lostAny := false,
    retry := none }

end Sys2Proof.Machine
end

