-- ==== Sys2Proof/Machine/StMgt.lean ====
section
/-!
DEFINITION. State of the thermal supervisor (R410 to R423), the management subsystem (R424 to R441), the stream (R371 to
R390) and the global registers (R462 to R470).
-/
namespace Sys2Proof.Machine

open Sys2Proof

/-- Thermal sensors (R410). -/
inductive SensKind where
  | cs | as_ | td
  deriving DecidableEq, Repr

/-- Sensor classes (R410, R411, codes of THR_SENS_VAL). -/
inductive SensClass where
  | ok | suspect | failed | stale
  deriving DecidableEq, Repr

/-- Code of a sensor class. -/
def SensClass.code (c : SensClass) : Nat := c.ctorIdx

/-- One sensor, values in 1/128 degC. -/
structure Sensor where
  /-- Latest reading and checked value. R410, R411 | 16 + 16 signed | reset 0 -/
  raw : Int
  checked : Int
  /-- class, unchecked of THR_SENS_VAL. R411 | 2 + 1 | reset 0 -/
  cls : SensClass
  unchecked : Bool
  /-- Entries into SUSPECT. R423 | 16 saturating | reset 0 -/
  suspects : Nat
  /-- Consecutive conversions in which the condition failed. R411 | 4 | reset 0 -/
  clean : Nat
  /-- The previous conversion's checked value was at or above 120.0 degC. R413 | 1 | reset 0 -/
  hotOnce : Bool
  deriving DecidableEq, Repr

/-- A sensor at reset. -/
def Sensor.reset : Sensor :=
  { raw := 0, checked := 0, cls := .ok, unchecked := false, suspects := 0, clean := 0, hotOnce := false }

/-- Thermal states (R414). -/
inductive ThrSt where
  | normal | throttling | shutdown | cooling | held
  deriving DecidableEq, Repr

/-- Code of THR_STATUS state. -/
def ThrSt.code (s : ThrSt) : Nat := s.ctorIdx

/-- A thermal history entry (R416). -/
structure ThrHist where
  tDecision : Nat
  number : Nat
  sensor : Nat
  autoOk : Bool
  auto : Bool
  byReset : Bool
  off : Bool
  dormant : Bool
  tDecide : Int
  m : List Nat
  tPeak : Int
  coolS : Nat
  deriving DecidableEq, Repr

/-- One thermal policy (R421). -/
structure Policy421 where
  /-- level, input_failed, input, t_p of THR_POL_STATUS. R421, R423 | 2 + 1 + 3 + 16 | reset 0 -/
  level : Nat
  failed : Bool
  input : Nat
  tp : Int
  deriving DecidableEq, Repr

/-- A policy at reset. -/
def Policy421.reset : Policy421 := { level := 0, failed := false, input := 0, tp := 0 }

/-- The thermal supervisor. -/
structure ThrState where
  /-- state of THR_STATUS. R414 | 3 | reset 0 NORMAL -/
  st : ThrSt
  /-- auto_disabled of THR_STATUS. R415 | 1, MRAM | reset MRAM (0 on a new device) -/
  autoDis : Bool
  /-- otp_bad of THR_STATUS. R418 | 1 | reset 0 -/
  otpBad : Bool
  /-- Sensors: CS 0 to 15, AS 16 to 23, TD 24 to 31. R410 | 32 records | reset Sensor.reset -/
  s : List (Nat × Sensor)
  /-- m_law per row. R412 THR_ROW_T | 8 x 8 | reset 128 -/
  mLaw : List (Nat × Nat)
  /-- Decision times within 24 h; shutdowns since manufacture. R415, R416 | list + 32, MRAM | reset MRAM (none, 0) -/
  times : List Nat
  total : Nat
  /-- History ring, newest first. R416 | 16 x 32 bytes, MRAM | reset MRAM (none) -/
  hist : List ThrHist
  /-- Restart timer started at. R414 | option 64 | reset none -/
  coolAt : Option Nat
  /-- p_in of THR_POWER, 0.01 W. R419, R423 | 16 | reset 0 -/
  pIn : Nat
  /-- Policies 0 to 15. R421 | 16 records | reset Policy421.reset -/
  pol : List (Nat × Policy421)
  deriving DecidableEq, Repr

/-- The supervisor at reset. -/
def ThrState.reset : ThrState :=
  { st := .normal, autoDis := false, otpBad := false, s := [], mLaw := [], times := [], total := 0, hist := [], coolAt := none,
    pIn := 0, pol := [] }

/-- States of a firmware bank (R428). -/
inductive FwSt where
  | empty | valid | trial | confirmed | bad
  deriving DecidableEq, Repr

/-- Code of a firmware bank state. -/
def FwSt.code (s : FwSt) : Nat := s.ctorIdx

/-- A firmware image in a bank or staged (R427): what the header gives, and what its checks give. -/
structure FwImage where
  length : Nat
  stepping : Nat
  mirrorVer : Nat
  version : Nat
  headerOk : Bool
  keySlot : Nat
  sigOk : Bool
  lib : Nat
  deriving DecidableEq, Repr

/-- A stream image (R371): header fields, what steps 1 to 8 of R377 see, and the structure it gives. -/
structure StreamImg where
  full : Bool
  length : Nat
  headerOk : Bool
  stepping : Nat
  keySlot : Nat
  sigOk : Bool
  version : Nat
  patchNo : Nat
  secs : List SecDigest
  secOk : Bool
  hasIdentity : Bool
  hash : Nat
  baseHash : Nat
  recordOk : Bool
  result : Structure
  deriving DecidableEq, Repr

/-- Uses of an OTP key slot (R430). -/
inductive KeyUse where
  | empty | firmware | stream | revoked (wasStream : Bool)
  deriving DecidableEq, Repr

/-- Code of MGT_OTP_KEYS. -/
def KeyUse.code (k : KeyUse) : Nat := match k with | .empty => 0 | .firmware => 1 | .stream => 2 | .revoked _ => 3

/-- A market key slot (R436). -/
structure MktKey where
  key : Nat
  keyId : Nat
  level : Nat
  deriving DecidableEq, Repr

/-- Staging states (MGT_STATUS img, HLD_STATUS staged). -/
inductive ImgSt where
  | empty | receiving | validating | valid | loading
  deriving DecidableEq, Repr

/-- Code of MGT_STATUS img. -/
def ImgSt.code (s : ImgSt) : Nat := s.ctorIdx

/-- The management subsystem. -/
structure MgtState where
  /-- The two cores are halted. R424, R425 | 1 | reset 0 -/
  halted : Bool
  /-- lockstep_seen of MGT_STATUS. R424 | 1 W1C | reset 0 at AUX_POR only -/
  lockSeen : Bool
  /-- Active firmware bank (true B), states, trial-attempt. R428 | 1 + 2 x 3 + 1, MRAM | reset MRAM: bank A CONFIRMED is DESIGN CHOICE (log entry 8) -/
  fwB : Bool
  fwStA : FwSt
  fwStB : FwSt
  trialTry : Bool
  /-- Images in the firmware banks. R426, R427 | 2 x 4 MiB, flash | reset: bank A a valid image of version 0, DESIGN CHOICE (log entry 8) -/
  fwA : Option FwImage
  fwBImg : Option FwImage
  /-- Active stream bank (true B); FULL stream and patches of each bank; committed-once marks. R378, R428 | flash, MRAM | reset MRAM (none) -/
  strB : Bool
  bankA : List StreamImg
  bankB : List StreamImg
  validA : Bool
  validB : Bool
  onceA : Bool
  onceB : Bool
  /-- Firmware floor, stream floor. R432 | 2 x 32, MRAM | reset MRAM (0) -/
  floorFw : Nat
  floorStr : Nat
  /-- ROM recovery runs. R429 | 1 | reset 0 -/
  recovery : Bool
  /-- Fallback to be told by an event once the firmware runs. R429 | 1 | reset 0 -/
  tellFallback : Bool
  /-- Staging: state, distinct bytes (offset, byte), kind, validated image. R433, R434 | 16 MiB | reset EMPTY -/
  img : ImgSt
  imgBytes : List (Nat × Byte)
  imgFw : Option FwImage
  imgStr : Option StreamImg
  /-- Bank last loaded: (is stream, is B). R435 | option | reset none -/
  lastLoad : Option (Bool × Bool)
  /-- Flash operation running: (op, started at). R426 | option | reset none -/
  flash : Option (Nat × Nat)
  /-- MGT_RESULT code, op. R441 | 4 + 4 | reset 0 -/
  code : Nat
  op : Nat
  /-- OTP key slots 0 to 7: use and public key. R430 | OTP | reset: slots 0, 1 FIRMWARE, the others EMPTY -/
  otp : List (Nat × (KeyUse × Nat))
  /-- Market key slots 0 to 3. R436 | 4 records, MRAM | reset MRAM (none) -/
  keys : List (Nat × MktKey)
  /-- MGT_WRAP0 to 15. R436 | 16 x 32 | reset 0 -/
  wrap : List (Nat × W32)
  /-- MGT_ATTEST0 to 15 as one number. R438 | 512 | reset 0 -/
  attest : Nat
  /-- Device ID, serial (16 characters), identity public key. R438 | OTP | reset OTP: DESIGN CHOICE 0 (log entry 8) -/
  devId : Nat
  serial : List Byte
  devKey : Nat
  /-- debug_lock fuse. R439 | OTP | reset OTP: DESIGN CHOICE 0 (log entry 8) -/
  debugLock : Bool
  deriving DecidableEq, Repr

/-- A device as it left manufacture with one confirmed firmware and no stream. -/
def MgtState.reset : MgtState :=
  { halted := false, lockSeen := false, fwB := false, fwStA := .confirmed, fwStB := .empty, trialTry := false,
    fwA := some { length := 136, stepping := 0xB1, mirrorVer := 0, version := 0, headerOk := true, keySlot := 0, sigOk := true, lib := 0 },
    fwBImg := none, strB := false, bankA := [], bankB := [], validA := false, validB := false, onceA := false, onceB := false,
    floorFw := 0, floorStr := 0, recovery := false, tellFallback := false, img := .empty, imgBytes := [], imgFw := none,
    imgStr := none, lastLoad := none, flash := none, code := 0, op := 0,
    otp := [(0, (.firmware, 0)), (1, (.firmware, 0))], keys := [], wrap := [], attest := 0, devId := 0, serial := [],
    devKey := 0, debugLock := false }

/-- States of the staged patch (HLD_STATUS staged). -/
inductive StagedSt where
  | empty | receiving | validating | valid | pending | switchPending
  deriving DecidableEq, Repr

/-- Code of HLD_STATUS staged. -/
def StagedSt.code (s : StagedSt) : Nat := s.ctorIdx

/-- Items that a patch removed and that are still in use (R383). -/
structure Retiring where
  col : Nat
  insts : List Nat
  baskets : List Nat
  deriving DecidableEq, Repr

/-- The stream block. -/
structure HldState where
  /-- committed of HLD_STATUS. R379, R380 | 1 | reset 0 -/
  committed : Bool
  /-- bank, fallback, chain_broken of HLD_STATUS. R378 | 3 x 1 | reset 0 -/
  bankB : Bool
  fallback : Bool
  chainBroken : Bool
  /-- The committed structure (HLD_HASH, HLD_VERSION, HLD_PATCH). R371 to R376 | record | reset: none -/
  str : Structure
  /-- Largest W_e of each row of the committed structure. R156, ROW_WORST | 8 x 32 | reset 0 -/
  rowW : List (Nat × Nat)
  /-- IDENTITY of the last commit: its register words and its other fields. R379, R380 | MRAM | reset MRAM (none) -/
  identWords : List (Nat × W32)
  mramIdent : Option Identity
  /-- staged, distinct bytes, validated patch. R381 | 3 + 16 MiB | reset EMPTY -/
  staged : StagedSt
  bytes : List (Nat × Byte)
  patch : Option StreamImg
  /-- F_a of the pending patch, peer_pending, revalidated good. R382, R388 | 64 + 1 + 1 | reset 0 -/
  fa : Nat
  peerPending : Bool
  revalOk : Bool
  /-- unpersisted; the applied image kept for persist. R387 | 1 + option | reset 0, none -/
  unpersisted : Bool
  appliedImg : Option StreamImg
  /-- Columns still retiring, with the block instances and baskets they keep. R383 | list | reset empty -/
  retiring : List Retiring
  /-- Register words of items that patches have removed since commit. R386 | list | reset empty -/
  removed : List Nat
  /-- HLD_RESULT code, op, section, record. R390 | 5 + 3 + 8 + 16 | reset 0, 0, 0, 0 -/
  code : Nat
  op : Nat
  section_ : Nat
  record : Nat
  /-- The candidate of a start in progress and where the chain stands. R378 | option + counter | reset none, 0 -/
  cand : Option Structure
  chainAt : Nat
  deriving DecidableEq, Repr

/-- NO_STREAM. -/
def HldState.reset : HldState :=
  { committed := false, bankB := false, fallback := false, chainBroken := false, str := Structure.empty, rowW := [], identWords := [],
    mramIdent := none, staged := .empty, bytes := [], patch := none, fa := 0, peerPending := false, revalOk := false, unpersisted := false,
    appliedImg := none, retiring := [], removed := [], code := 0, op := 0, section_ := 0, record := 0, cand := none, chainAt := 0 }

/-- Who makes a request (R463, R465): a datagram's sender with the access level and the slot of its key, or the monitor. -/
inductive Requester where
  | host (sender : Nat) (level : Nat) (slot : Nat) | monitor
  deriving DecidableEq, Repr

/-- Global registers and request state. -/
structure GlbState where
  /-- GLB_ACCESS code, kind, sender; address; count. R465, R470 | 5 + 1 + 16, 32, 16 saturating | reset 0 -/
  accCode : Nat
  accKind : Bool
  accSender : Nat
  accAddr : Nat
  accCount : Nat
  /-- silent of GLB_HOST; last host activity; activity in this frame. R466 | 1 + 64 + 1 | reset 0 -/
  silent : Bool
  lastHost : Nat
  hostNow : Bool
  /-- Raw bits at the latest t0. R467 | 23 | reset 0 -/
  raw : Nat
  /-- Enables and notice_en as in force since the latest boundary. R468, R469 | 23 + 1 | reset 0 -/
  enNow : Nat
  noticeEn : Bool
  /-- Last NOTICE, none before the first; bits new in the holdoff; seq. R468 | option + 23 + 32 | reset none, 0, 0 -/
  lastNotice : Option Nat
  newBits : Nat
  seq : Nat
  /-- The running request: latched high words of pairs read, low words of pairs written, by address. R7, R463 | 2 lists | reset empty -/
  rdLatch : List (Nat × W32)
  wrLatch : List (Nat × W32)
  /-- EVR_WIN record whose words are latched in this request. R336 | option | reset none -/
  evLatch : Option (Nat × Option EvRec)
  /-- Addresses the host has written in the present frame: a block's value for them is discarded. R10 | list | reset empty -/
  wrote : List Nat
  /-- Words written in the clock cycle of a boundary not yet taken, with the words before: they are in force a frame later. R24 | list | reset
  empty -/
  edgeWords : List (Nat × W32)
  deriving DecidableEq, Repr

/-- Global registers at reset. -/
def GlbState.reset : GlbState :=
  { accCode := 0, accKind := false, accSender := 0, accAddr := 0, accCount := 0, silent := false, lastHost := 0,
    hostNow := false, raw := 0, enNow := 0, noticeEn := false, lastNotice := none, newBits := 0, seq := 0, rdLatch := [],
    wrLatch := [], evLatch := none, wrote := [], edgeWords := [] }

end Sys2Proof.Machine
end

