-- ==== Sys2Proof/Machine/StMoist.lean ====
section
/-!
DEFINITION. State of the moisture channels and the grain tables (R76 to R97).
-/
namespace Sys2Proof.Machine

open Sys2Proof

/-- A complex number in single precision. -/
structure Cx where
  re : F32
  im : F32
  deriving DecidableEq, Repr

/-- Complex zero. -/
def Cx.zero : Cx := { re := 0#32, im := 0#32 }

/-- A set record (R80). -/
structure SetRec where
  stamp : Nat
  coord : Int
  gammaM : List Cx
  gammaRef : List Cx
  rNtc : F32
  tAisle : Int
  channel : Nat
  flags : BitVec 8
  seq : Nat
  deriving DecidableEq, Repr

/-- Real, then imaginary part of complex numbers, each as an IEEE 754 single (R80). -/
def cxBytes (l : List Cx) : List Byte := l.flatMap (fun z => bytesLE 4 z.re.toNat ++ bytesLE 4 z.im.toNat)

/-- The 96 bytes of a set record, little-endian (R80). -/
def SetRec.bytes (r : SetRec) : List Byte :=
  bytesLE 8 r.stamp ++ bytesLE 8 (wrapN 64 r.coord) ++ cxBytes ((List.range 4).map (fun f => r.gammaM.getD f Cx.zero)) ++
  cxBytes ((List.range 4).map (fun f => r.gammaRef.getD f Cx.zero)) ++ bytesLE 4 r.rNtc.toNat ++ bytesLE 2 (wrapN 16 r.tAisle) ++
  bytesLE 1 r.channel ++ bytesLE 1 r.flags.toNat ++ bytesLE 4 r.seq ++ bytesLE 4 0

/-- What one set gave after R82 to R87: values, quality and flags. -/
structure SetRes where
  stamp : Nat
  coord : Int
  m2 : F32
  m : F32
  tg : F32
  rho : F32
  gammaC : List Cx
  eps : List Cx
  q : Quality
  flags : BitVec 16
  deriving DecidableEq, Repr

/-- Operations of MST_CMD that run over several sets (R89, R90). -/
inductive MstOp where
  | calOpen | calShort | calLoad | calAir | capture (slot : Nat)
  deriving DecidableEq, Repr

/-- A calibration store (R89): e00, e11, E per frequency, C_f, T_a. -/
structure CalStore where
  e00 : List Cx
  e11 : List Cx
  e : List Cx
  cf : F32
  ta : Int
  deriving DecidableEq, Repr

/-- A sample slot (R90). -/
structure Sample where
  m2 : F32
  tg : F32
  rho : F32
  stamp : Nat
  coord : Int
  captured : Bool
  lab : Option F32
  deriving DecidableEq, Repr

/-- An empty sample slot. -/
def Sample.empty : Sample :=
  { m2 := 0#32, tg := 0#32, rho := 0#32, stamp := 0, coord := 0, captured := false, lab := none }

/-- A stored fit (R90): grain table, s, b; the list is kept most recently selected first. -/
structure Fit where
  table : Nat
  s : F32
  b : F32
  deriving DecidableEq, Repr

/-- What the device writes into the input area of a channel's MOIST_PROC at commit and whenever it changes (R96): the stores with the
times from which sets take them, the fits. -/
structure MoistConst where
  cal : Option CalStore
  calPrev : Option CalStore
  calFrom : Nat
  winFrom : Nat
  fits : List Fit
  deriving DecidableEq, Repr

/-- One moisture channel. -/
structure MoistCh where
  /-- Sets in progress, oldest first: their t0. R79 | list of 64 | reset none -/
  sets : List Nat
  /-- Set sequence. R80 | 32 | reset 0 -/
  seq : Nat
  /-- Set records delivered and not yet taken by MOIST_PROC, oldest first, each with its time of delivery. R24, R80 | list | reset empty -/
  inbox : List (Nat × SetRec)
  /-- Set results, newest first, at most 1,024, each with its time of delivery. R93 | list | reset empty -/
  win : List (Nat × SetRes)
  /-- The window holds only sets delivered from this time on. R94 | 64 | reset 0 -/
  winFrom : Nat
  /-- Latest output. R93, R97 MST_MOISTURE to MST_EPS7 | record | reset 0, quality INVALID, no_data -/
  out : MoistRes
  eps : List Cx
  validSets : Nat
  /-- fouled latch. R91 | 1 | reset 0 -/
  fouled : Bool
  /-- Uncovered interval: start, sum of eps'_40, count; start of condition (b). R91 | option + sums | reset none -/
  uncAt : Option Nat
  uncSum : F32
  uncN : Nat
  ratioAt : Option Nat
  /-- Condition (a), condition (b) held at the latest set; the present uncovered interval has latched fouled. R91 | 3 x 1 | reset 0 -/
  condA : Bool
  condB : Bool
  uncLatched : Bool
  /-- MST_CAL_STATUS last_op, result. R97 | 4 + 4 | reset 0 -/
  lastOp : Nat
  result : Nat
  /-- Running operation, sets left, sums. R89, R90 | option + counters | reset none -/
  op : Option MstOp
  left : Nat
  acc : List Cx
  accM2 : F32
  accTg : F32
  accRho : F32
  accStamp : Nat
  accCoord : Int
  good : Nat
  anyUncovered : Bool
  /-- A calibration session is open: from the first calibration command to commit or abort. R89 | 1 | reset 0 -/
  session : Bool
  /-- Pending averages: open, short, load, air, with T_a of the latest. R89 | 4 options | reset none -/
  pOpen : Option (List Cx)
  pShort : Option (List Cx)
  pLoad : Option (List Cx)
  pAir : Option (List Cx)
  pTa : Int
  /-- The averages shown were used by an accepted commit. R89 | 1 | reset 0 -/
  spent : Bool
  /-- Calibration store; none while it fails its check. R89 | option record, MRAM | reset MRAM (none: never calibrated) -/
  cal : Option CalStore
  /-- The store before the latest commit, and the time from which sets take the new one. R94 | option record + 64 | reset none, 0 -/
  calPrev : Option CalStore
  calFrom : Nat
  /-- The grain table before the latest patch, and the time from which sets take the new one. R94 | 6 + 64 | reset 0, 0 -/
  tabPrev : Nat
  tabFrom : Nat
  /-- Sample slots 0 to 31. R90 | 32 records, MRAM | reset MRAM (empty) -/
  samples : List (Nat × Sample)
  /-- Fits of up to four grain tables. R90 | 4 records, MRAM | reset MRAM (none) -/
  fits : List Fit
  deriving DecidableEq, Repr

/-- A result record before any output: INVALID with no_data (bit 14 of MST_STATUS, bit 12 here). -/
def MoistRes.none : MoistRes :=
  { stamp := 0, coord := 0, moisture := 0#32, tGrain := 0#32, density := 0#32, q := .invalid, flags := 0x1000#16, channel := 0 }

/-- A channel at reset, never calibrated. -/
def MoistCh.reset : MoistCh :=
  { sets := [], seq := 0, inbox := [], win := [], winFrom := 0, out := MoistRes.none, eps := [], validSets := 0, fouled := false,
    uncAt := none, uncSum := 0#32, uncN := 0, ratioAt := none, condA := false, condB := false, uncLatched := false, lastOp := 0, result := 0, op := none, left := 0, acc := [],
    accM2 := 0#32, accTg := 0#32, accRho := 0#32, accStamp := 0, accCoord := 0, good := 0, anyUncovered := false,
    session := false, pOpen := none, pShort := none, pLoad := none, pAir := none, pTa := 0, spent := false, cal := none,
    calPrev := none, calFrom := 0, tabPrev := 0, tabFrom := 0, samples := [],
    fits := [] }

/-- All channels and the grain tables. -/
structure MoistState where
  /-- Channels 0 to 31; unlisted = reset. R76 | 32 records | reset MoistCh.reset -/
  c : List (Nat × MoistCh)
  /-- Grain tables 0 to 63 as bytes; unlisted = never written (not valid). R86 | 64 x 256 bytes, MRAM | reset MRAM (none) -/
  grain : List (Nat × List Byte)
  /-- OTP coefficients p_i(f) of each aisle's reference load: 4 frequencies x 4. R82 | OTP | reset OTP (none: 0) -/
  ref : List (Nat × List (List Cx))
  deriving DecidableEq, Repr

/-- Nothing listed. -/
def MoistState.reset : MoistState := { c := [], grain := [], ref := [] }

end Sys2Proof.Machine
end

