-- ==== Sys2Proof/Machine/StMotor.lean ====
section
/-!
DEFINITION. State of the motor ports (R190 to R220), of position mode, homing, routes, belt slip and diverters (R221 to R238).
-/
namespace Sys2Proof.Machine

open Sys2Proof

/-- Motor port states (R212, codes of MOT_STATUS state). -/
inductive MotSt where
  | disabled | off | ident | search | probe | catch_ | brakeRegen | brakeDc | brakeCoast | run | stopping | retryWait | fault
  deriving DecidableEq, Repr

/-- Code of a motor state. -/
def MotSt.code (s : MotSt) : Nat :=
  match s with
  | .disabled => 0 | .off => 1 | .ident => 2 | .search => 3 | .probe => 4 | .catch_ => 5 | .brakeRegen => 6 | .brakeDc => 7
  | .brakeCoast => 8 | .run => 9 | .stopping => 10 | .retryWait => 11 | .fault => 12

/-- Motor faults (R215). -/
inductive MotFault where
  | none | hwTrip | overcurrent | dcOvervolt | dcUndervolt | sdLoss | feedbackLost | phaseLoss | motorOvertemp | fanStall
  | reverseHold | searchFail | identFail
  deriving DecidableEq, Repr

/-- Numeric fault code (R215). -/
def MotFault.code (f : MotFault) : Nat :=
  match f with
  | .none => 0 | .hwTrip => 1 | .overcurrent => 2 | .dcOvervolt => 3 | .dcUndervolt => 4 | .sdLoss => 5 | .feedbackLost => 6
  | .phaseLoss => 7 | .motorOvertemp => 8 | .fanStall => 9 | .reverseHold => 10 | .searchFail => 11 | .identFail => 12

/-- Commands of MOT_CMD (R220) as they reach MOTOR_CTRL. -/
inductive MotCmd where
  | start | stop | coast | reset | ident | resume
  deriving DecidableEq, Repr

/-- What MOTOR_CTRL, FAN_SUPERVISE or nightlight decided in a frame for the port (R25, R200): it takes effect at the next t1. -/
inductive MotAct where
  | cmd (c : MotCmd)
  | fault (f : MotFault)
  | stall
  | retry
  | stopped
  | brakeEnd
  deriving DecidableEq, Repr

/-- A port feedback record (R198). -/
structure FbRec where
  id : F32
  iq : F32
  vdc : F32
  pEl : F32
  speed : F32
  angle : Nat
  st : MotSt
  fault : MotFault
  vLine : Nat
  iPeak : Nat
  flags : Nat
  seq : Nat
  deriving DecidableEq, Repr

/-- The 32 bytes of a port feedback record, little-endian (R198). -/
def FbRec.bytes (r : FbRec) : List Byte :=
  let w (x : W32) := bytesLE 4 x.toNat
  w r.id ++ w r.iq ++ w r.vdc ++ w r.pEl ++ w r.speed ++ bytesLE 2 r.angle ++ bytesLE 1 r.st.code ++ bytesLE 1 r.fault.code ++
  bytesLE 2 r.vLine ++ bytesLE 2 r.iPeak ++ bytesLE 2 r.flags ++ bytesLE 2 r.seq

/-- The record of a port that has not been latched. -/
def FbRec.zero : FbRec :=
  { id := 0#32, iq := 0#32, vdc := 0#32, pEl := 0#32, speed := 0#32, angle := 0, st := .disabled, fault := .none, vLine := 0,
    iPeak := 0, flags := 0, seq := 0 }

/-- Result of a line-voltage search (R206): amplitude in 0.1 V rms, speed in rev/min signed in the forward direction, angle. -/
structure SearchRes where
  vLine : Nat
  speed : F32
  angle : Nat
  reversed : Bool
  deriving DecidableEq, Repr

/-- An observer command (R200, R204): speed, angle, validity, the run's time, and whether the estimate fails a setpoint at or above obs_min. -/
structure ObsCmd where
  speed : F32
  angle : Nat
  valid : Bool
  at_ : Nat
  bad : Bool
  deriving DecidableEq, Repr

/-- One motor port. -/
structure Motor where
  /-- MOT_STATUS state. R212 | 4 | reset 0 DISABLED -/
  st : MotSt
  /-- dir of MOT_STATUS: commanded direction REV. R205, R220 | 1 | reset 0 -/
  dirRev : Bool
  /-- Latched fault code. R215 | 4 | reset 0 -/
  fault : MotFault
  /-- The six gates are driven by the PWM (false: all six low). R190 | 1 | reset 0 -/
  gates : Bool
  /-- gated of MOT_STATUS. R216 | 1 | reset 0 -/
  gated : Bool
  /-- Current-loop integrators, d and q axis, V. R199 | 32 + 32 | reset 0 -/
  intD : F32
  intQ : F32
  /-- Torque command i_q* in force, A; the frame command of the next t1. R200, R25 | 32 + option | reset 0 -/
  iqCmd : F32
  nextIq : Option F32
  /-- i_d* of the state command, A. R200 | 32 | reset 0 -/
  idCmd : F32
  /-- Output voltage vector of the last half period, V. R195, R199 | 32 + 32 | reset 0 -/
  ud : F32
  uq : F32
  /-- Duties of the legs U, V, W in force, and those of the next half period; empty without PWM. R192, R195 | 3 x 32 twice | reset: none -/
  duty : List F32
  dutyNext : List F32
  /-- Angle of the rotating vector below obs_min, 2^-32 turn. R204 | 32 | reset 0 -/
  rot : Int
  /-- Means under formation: samples, sums of i_d, i_q, v_dc, p_el; largest phase current. R198 | counters | reset 0 -/
  nSamp : Nat
  sumId : F32
  sumIq : F32
  sumVdc : F32
  sumP : F32
  iPeak : F32
  /-- volt_sat, cur_lim, bus_limit, sd_clip of the interval. R196, R199, R209 | 1 each | reset 0 -/
  voltSat : Bool
  curLim : Bool
  busLim : Bool
  sdClip : Bool
  /-- Derate factor g of the latest MOTOR_CTRL run; none before the first. R214, MOT_DERATE | 32 + option | reset none, shown as 0 -/
  g : Option F32
  /-- Observer command: speed, angle, valid, time of the last run; since when invalid. R204 | 32, 16, 1, 64, option | reset 0 -/
  obsSpeed : F32
  obsAngle : Nat
  obsValid : Bool
  obsAt : Nat
  obsBadSince : Option Nat
  /-- Observer command of the latest run, released at the next t1. R25, R200 | option | reset none -/
  nextObs : Option ObsCmd
  /-- fb_fallback of MOT_STATUS. R203 | 1 | reset 0 -/
  fallback : Bool
  /-- Latest feedback record and its sequence. R198 | 32 bytes | reset 0 -/
  rec_ : FbRec
  /-- Dither register (advanced once per carrier period) and delta of the present period. R193 | 16 + signed | DESIGN CHOICE 0 before the first enable (log entry 4) -/
  lfsr : Nat
  delta : Int
  /-- Latest search result, probes made, search already repeated, search or probe started at. R206, R207 | record, 2, 1, 64 | reset none -/
  search : Option SearchRes
  probes : Nat
  repeated : Bool
  phaseAt : Nat
  /-- A search repeat is due at this time. R206 | option | reset none -/
  repeatAt : Option Nat
  /-- Braking: first entry of this start, low-current since, a search pause is under way. R209 | option times + 1 | reset none -/
  brakeAt : Option Nat
  lowSince : Option Nat
  brakeSearch : Bool
  /-- Speed below n_zero since. R210 | option | reset none -/
  zeroSince : Option Nat
  /-- Latest two main samples of v_dc, V, and since when v_dc is below v_min with gates driving. R196, R215 | 2 x 32 + option | reset 0, none -/
  vdcLast : F32
  vdcPrev : F32
  lowVdc : Option Nat
  /-- In CATCH: since when the current-loop error stands within 5 % of rated current. R208 | option | reset none -/
  settled : Option Nat
  /-- Aligning within CATCH. R202 | 1 | reset 0 -/
  aligning : Bool
  /-- MOT_LIMITS, MOT_BUS, MOT_FAN, MOT_CUR_KP, MOT_CUR_KI, MOT_START, MOT_BRAKE, MOT_TEMP as of the latest MOTOR_CTRL run. R220 | 8 x 32 | reset 0 -/
  par : List W32
  /-- Decided in the present frame, released at the next t1. R25, R200 | list | reset empty -/
  next : List MotAct
  /-- Commands waiting for MOTOR_CTRL's next run (host, routes, homing, supervisor). R212, R217 | list | reset empty -/
  cmds : List MotCmd
  /-- Commands that blocks gave the port in the present frame, in MOTOR_CTRL's input from the next t1 on. R25 | list | reset empty -/
  given : List MotCmd
  /-- Fans: below the floor since, above the floor since, stalls counted toward retries, retry due. R211 | times + 4 | reset none, 0 -/
  belowSince : Option Nat
  aboveSince : Option Nat
  stalls : Nat
  retryAt : Nat
  /-- night of MOT_STATUS. R213 | 1 | reset 0 -/
  night : Bool
  /-- PM angle offset and its validity. R202 | 16 + 1, MRAM | reset MRAM (invalid) -/
  offset : Nat
  offsetValid : Bool
  /-- Identification results R_s, L_s. R218 | 32 + 32, MRAM | reset MRAM (none: 0) -/
  rs : F32
  ls : F32
  identified : Bool
  /-- Identification in progress after its search. R218 | 1 | reset 0 -/
  identMeas : Bool
  /-- Energy totaliser in pJ (shown in its tally's unit); records since ENERGY_METER's last run. R198, R329 | signed | reset 0 -/
  energy : Int
  pendE : Int
  /-- MOT_COUNTS faults, stalls. R220 | 16 + 16 saturating | reset 0 -/
  faults : Nat
  stallCount : Nat
  deriving DecidableEq, Repr

/-- A motor port at reset. -/
def Motor.reset : Motor :=
  { st := .disabled, dirRev := false, fault := .none, gates := false, gated := false, intD := 0#32, intQ := 0#32, iqCmd := 0#32,
    nextIq := none, idCmd := 0#32, ud := 0#32, uq := 0#32, duty := [], dutyNext := [], rot := 0, nSamp := 0, sumId := 0#32, sumIq := 0#32, sumVdc := 0#32,
    sumP := 0#32, iPeak := 0#32, voltSat := false, curLim := false, busLim := false, sdClip := false, g := none,
    obsSpeed := 0#32, obsAngle := 0, obsValid := false, obsAt := 0, obsBadSince := none, nextObs := none, fallback := false, rec_ := FbRec.zero, lfsr := 0,
    delta := 0, search := none, probes := 0, repeated := false, phaseAt := 0, repeatAt := none, brakeAt := none,
    lowSince := none, brakeSearch := false, zeroSince := none, vdcLast := 0#32, vdcPrev := 0#32, lowVdc := none, settled := none, aligning := false, par := [], next := [], cmds := [], given := [], belowSince := none, aboveSince := none, stalls := 0, retryAt := 0,
    night := false, offset := 0, offsetValid := false, rs := 0#32, ls := 0#32, identified := false, identMeas := false,
    energy := 0, pendE := 0, faults := 0, stallCount := 0 }

/-- Homing states (R227). -/
inductive HomeSt where
  | idle | search | searchRev | pass | backoff | fault
  deriving DecidableEq, Repr

/-- Code of GATE_STATUS home_state. -/
def HomeSt.code (s : HomeSt) : Nat :=
  match s with | .idle => 0 | .search => 1 | .searchRev => 2 | .pass => 3 | .backoff => 4 | .fault => 5

/-- Homing faults (R227, codes of GATE_STATUS home_fault). -/
inductive HomeFault where
  | none | limit | chatter | switchBreak | timeout | aborted
  deriving DecidableEq, Repr

/-- Code of a homing fault. -/
def HomeFault.code (f : HomeFault) : Nat :=
  match f with | .none => 0 | .limit => 1 | .chatter => 2 | .switchBreak => 3 | .timeout => 4 | .aborted => 5

/-- Commands of GATE_CMD. -/
inductive GateCmd where
  | home | abort | move
  deriving DecidableEq, Repr

/-- One position-mode port. -/
structure Gate where
  /-- GATE_STATUS home_state. R227 | 3 | reset 0 IDLE -/
  home : HomeSt
  /-- GATE_STATUS home_fault. R227 | 3 | reset 0 -/
  fault : HomeFault
  /-- homed of GATE_STATUS. R224 | 1, MRAM | reset MRAM (clear on a new device) -/
  homed : Bool
  /-- in_position of GATE_STATUS, and since when inside the window. R222 | 1 + option | reset 0 -/
  inPos : Bool
  winSince : Option Nat
  /-- Trips counted. R227 | small | reset 0 -/
  trips : Nat
  /-- Stamps of home transitions in the last 100 ms, newest first; the newest stamp. R225, R227 | list + 64 | reset empty, 0 -/
  edges : List Nat
  homeSince : Nat
  /-- Home command time. R227 | 64 | reset 0 -/
  startAt : Nat
  /-- More than 8 transitions of home fell within 100 ms since the home command. R227 | 1 | reset 0 -/
  chatter : Bool
  /-- lim_fwd and lim_rev were tripped at HOMING's run before. R227 | 2 x 1 | reset 0 -/
  wasFwd : Bool
  wasRev : Bool
  /-- Count at which PASS saw valid OFF. R227 | option signed | reset none -/
  passFrom : Option Int
  /-- The motion of the present state is a stop still to be finished before the state's speed; the port has been in RUN. R227 | 1 + 1 | reset 0 -/
  stopping : Bool
  ran : Bool
  /-- Speed target of HOMING to the speed taper, rev/min. R227 | 32 | reset 0 -/
  speedTgt : F32
  /-- Speed setpoint of POSITION_LOOP, rev/min. R222 | 32 | reset 0 -/
  nStar : F32
  /-- Commands of the input set. R228 | list | reset empty -/
  cmds : List GateCmd
  /-- Moves that ROUTE_SEQ gave the gate in the present frame, in force from the next t1 on: the target, none to end the move. R25, R230 | option option 32 | reset none -/
  given : Option (Option F32)
  /-- A move is in force: the position taper runs to its target. R222 | 1 | reset 0 -/
  moving : Bool
  deriving DecidableEq, Repr

/-- A gate at reset. -/
def Gate.reset : Gate :=
  { home := .idle, fault := .none, homed := false, inPos := false, winSince := none, trips := 0, edges := [],
    homeSince := 0, startAt := 0, chatter := false, wasFwd := false, wasRev := false, passFrom := none, stopping := false, ran := false, speedTgt := 0#32, nStar := 0#32, cmds := [], given := none,
    moving := false }

/-- Route states (R230). -/
inductive RouteSt where
  | idle | starting | running | stopping | faultStop | faulted
  deriving DecidableEq, Repr

/-- Code of ROUTE_STATUS state. -/
def RouteSt.code (s : RouteSt) : Nat :=
  match s with | .idle => 0 | .starting => 1 | .running => 2 | .stopping => 3 | .faultStop => 4 | .faulted => 5

/-- Commands of ROUTE_CMD. -/
inductive RouteCmd where
  | start | stop | reset
  deriving DecidableEq, Repr

/-- Run-time record of one route member: started (and since when), proved, proof held or lost since, stopped with the time and
the next member's count at that moment, LOST statuses in a row, the remote's proved flag. -/
structure MemberRun where
  started : Bool
  startAt : Nat
  proved : Bool
  proofSince : Option Nat
  lossSince : Option Nat
  stopped : Bool
  stopAt : Nat
  stopCount : Int
  lostRuns : Nat
  remoteProved : Bool
  slipped : Bool
  deriving DecidableEq, Repr

/-- A member that has not been started. -/
def MemberRun.idle : MemberRun :=
  { started := false, startAt := 0, proved := false, proofSince := none, lossSince := none, stopped := false, stopAt := 0,
    stopCount := 0, lostRuns := 0, remoteProved := false, slipped := false }

/-- One route. -/
structure Route where
  /-- ROUTE_STATUS state. R230 | 3 | reset 0 -/
  st : RouteSt
  /-- fault_member, cause of ROUTE_STATUS. R230 | 4 + 2 | reset 0 -/
  faultMember : Nat
  cause : Nat
  /-- Members' run records. R230 ROUTE_MEMBERS | 16 records | reset idle -/
  mem : List (Nat × MemberRun)
  /-- Commands of the input set. R230 | list | reset empty -/
  cmds : List RouteCmd
  deriving DecidableEq, Repr

/-- A route at reset. -/
def Route.reset : Route := { st := .idle, faultMember := 0, cause := 0, mem := [], cmds := [] }

/-- A belt-slip instance (R233). -/
structure Slip where
  /-- slip of SLIP_STATUS, 0.01 %. R238 | 16 saturating at 10,000 | reset 0 -/
  slip : Nat
  /-- slip_unknown of SLIP_STATUS. R238 | 1 | reset 0 -/
  unknown : Bool
  /-- Since when s is at or above slip_lim; already declared. R233 | option + 1 | reset none -/
  since : Option Nat
  declared : Bool
  deriving DecidableEq, Repr

/-- A belt-slip instance at reset. -/
def Slip.reset : Slip := { slip := 0, unknown := false, since := none, declared := false }

/-- Motors, gates, routes, belt slip and diverters. -/
structure MotorState where
  /-- Motor ports M0 to M15; unlisted = reset. R190 | 16 records | reset Motor.reset -/
  m : List (Nat × Motor)
  /-- Position-mode ports by motor port. R221 | 16 records | reset Gate.reset -/
  gate : List (Nat × Gate)
  /-- Routes 0 to 31. R229 | 32 records | reset Route.reset -/
  route : List (Nat × Route)
  /-- Shared members and the routes that hold them: (member key, route). R229 | list | reset empty -/
  holds : List (Nat × Nat)
  /-- Belt-slip instances 0 to 63. R233 | 64 records | reset Slip.reset -/
  slip : List (Nat × Slip)
  /-- Diverters 0 to 63: boundaries armed. R234, R238 DIV_STATUS | 16 | reset 0 -/
  div : List (Nat × Nat)
  deriving DecidableEq, Repr

/-- Nothing listed. -/
def MotorState.reset : MotorState := { m := [], gate := [], route := [], holds := [], slip := [], div := [] }

end Sys2Proof.Machine
end

