-- ==== Sys2Proof/Machine/StPorts.lean ====
section
/-!
DEFINITION. State of the two-wire transmitter ports (R269 to R280) and of the solenoid ports (R281 to R292).
-/
namespace Sys2Proof.Machine

open Sys2Proof

/-- Transmitter cell states (R275). -/
inductive TxSt where
  | quiescent | alarm | drive | bypass | forced | fault
  deriving DecidableEq, Repr

/-- Code of TX_STATUS state. -/
def TxSt.code (s : TxSt) : Nat :=
  match s with
  | .quiescent => 0 | .alarm => 1 | .drive => 2 | .bypass => 3 | .forced => 4 | .fault => 5

/-- One transmitter port. -/
structure TxPort where
  /-- TX_STATUS state. R275 | 3 | reset 0 QUIESCENT -/
  st : TxSt
  /-- The loop carries enough voltage to power the cell. R270 | 1 | DESIGN CHOICE false (log entry 4) -/
  powered : Bool
  /-- The alarm line is present at the cell (VAUX present). R275 | 1 | DESIGN CHOICE true with VAUX (log entry 4) -/
  lineOn : Bool
  /-- Alarm direction carried on the alarm line, held by the always-on domain. R274 alm_high | 1 | reset: strap -/
  almHigh : Bool
  /-- Lock value in MRAM; none = never written for this port. R278 lock | option, MRAM | reset none -/
  lockMram : Option Bool
  /-- clamped of TX_STATUS. R272 | 1 | reset 0 -/
  clamped : Bool
  /-- low_compliance of TX_STATUS. R270 | 1 | reset 0 -/
  lowComp : Bool
  /-- cell_silent of TX_STATUS. R275, R277 | 1 | reset 0 -/
  silent : Bool
  /-- I_cmd in force, 0.5 uA units; next frame's command from the writing block. R272, R25 | 16 + option | reset 7600 (3.8 mA): DESIGN CHOICE, log entry 4 -/
  iCmd : Nat
  nextCmd : Option Nat
  /-- I_t exactly, in units of 0.5 uA / 32,000, and I_rb, U_T as single-precision values. R273, R277, R280 | 32 each | reset 0 -/
  target : Nat
  readback : F32
  termV : F32
  /-- Readings of the loop current since TX_OUT's last run: their sum, mA, and their number. R277 | 32 + count | reset 0 -/
  rbSum : F32
  rbN : Nat
  /-- Mismatch timer: since when the difference exceeds 0.2 mA. R277 | option time | reset none -/
  misSince : Option Nat
  /-- FORCED: at 20 mA (span) or 4 mA (zero), by session, since when. R275, R278 | 1 + 1 + 64 | reset 0 -/
  forceSpan : Bool
  forceSess : Bool
  forceAt : Nat
  /-- Time of the last valid command frame at the cell / of the last upstream status at the core. R275, R277 | 64 + 64 | reset 0 -/
  lastFrame : Nat
  lastStatus : Nat
  /-- TX_COUNTS faults, trims. R280 | 16 + 16 saturating | reset 0 -/
  faults : Nat
  trims : Nat
  deriving DecidableEq, Repr

/-- A transmitter port at reset. -/
def TxPort.reset : TxPort :=
  { st := .quiescent, powered := false, lineOn := true, almHigh := false, lockMram := none, clamped := false, lowComp := false,
    silent := false, iCmd := 7600, nextCmd := none, target := 0, readback := 0#32, termV := 0#32, rbSum := 0#32, rbN := 0, misSince := none,
    forceSpan := false, forceSess := false, forceAt := 0, lastFrame := 0, lastStatus := 0, faults := 0, trims := 0 }

/-- The button trim session (R278, TX_SESSION). -/
structure TrimSession where
  span : Bool
  port : Nat
  steps : Int
  lastPress : Nat
  deriving DecidableEq, Repr

/-- All transmitter ports and the trim buttons. -/
structure TxState where
  /-- Ports T0 to T15; unlisted = reset. R269 | 16 records | reset TxPort.reset -/
  p : List (Nat × TxPort)
  /-- Button trim session. R278 TX_SESSION | record | reset none -/
  sess : Option TrimSession
  /-- TRIM_SEL lands, and what they showed before each change of the last 3 s, newest first. R278 | 4 + list | DESIGN CHOICE 0 (log entry 4), empty -/
  sel : Nat
  selLog : List (Nat × Nat)
  deriving DecidableEq, Repr

/-- No port listed. -/
def TxState.reset : TxState := { p := [], sess := none, sel := 0, selLog := [] }

/-- Solenoid port states (R287). -/
inductive SolSt where
  | disabled | off | peak | hold | decay | fault
  deriving DecidableEq, Repr

/-- Code of SOL_STATUS state. -/
def SolSt.code (s : SolSt) : Nat :=
  match s with
  | .disabled => 0 | .off => 1 | .peak => 2 | .hold => 3 | .decay => 4 | .fault => 5

/-- End of an activation (R283): a market time, or open. -/
inductive SolEnd where
  | at_ (t : Nat)
  | open_
  deriving DecidableEq, Repr

/-- Solenoid fault codes (R286). -/
inductive SolFault where
  | none | overcurrent | openCoil | holdLow | dutyCut | decayTimeout | senseFault
  deriving DecidableEq, Repr

/-- Numeric fault code (R286). -/
def SolFault.code (f : SolFault) : Nat :=
  match f with
  | .none => 0 | .overcurrent => 1 | .openCoil => 2 | .holdLow => 3 | .dutyCut => 4 | .decayTimeout => 5 | .senseFault => 6

/-- One solenoid port. -/
structure SolPort where
  /-- SOL_STATUS state. R287 | 3 | reset 0 DISABLED -/
  st : SolSt
  /-- E of the activation. R283 SOL_END | 64 or open | reset: open_ is never shown before an activation, 0 -/
  e : SolEnd
  /-- t_s, the start of the present peak; the peak time latched for it, ns. R283 | 64 + 64 | reset 0 -/
  ts : Nat
  tPeak : Nat
  /-- h of the activation queued behind decay, microseconds, 0 open. R284 | option 32 | reset none -/
  queued : Option Nat
  /-- gated of SOL_STATUS. R282 | 1 | reset 0 -/
  gated : Bool
  /-- Latched fault. R286 | 3 | reset 0 -/
  fault : SolFault
  /-- Coil current at the latest latch, and U then, s. R289 SOL_CURRENT, SOL_DUTY_USED | 32 + 32 | reset 0 -/
  current : F32
  dutyUsed : F32
  /-- Record latched with the wick snapshots: state, U in microseconds, E, fault. R289 | record | reset 0 -/
  latchSt : SolSt
  latchE : SolEnd
  latchU : Nat
  /-- Closed on-time intervals, newest first, and the start of the present one. R285 | list + option | reset empty -/
  ons : List (Nat × Nat)
  onSince : Option Nat
  /-- Start of decay. R283 | 64 | reset 0 -/
  decayAt : Nat
  /-- Lands Vnn_G and Vnn_FD commanded high. R282, R283 | 1 + 1 | reset 0 -/
  gate : Bool
  fd : Bool
  /-- Dither register of R193, seeded with 0xBEEF XOR v at each output enable. R283 | 16 | DESIGN CHOICE 0 before the first enable (log entry 4) -/
  lfsr : Nat
  /-- SOL_COUNTS activations, faults. R292 | 16 + 16 saturating | reset 0 -/
  activations : Nat
  faults : Nat
  /-- i_peak latched for the activation, 10 mA; t_decay_max and the PWM's nominal period, ns, and dither, %. R292 | 12 + 8 + 12 + 4 | reset 0 -/
  iPeak : Nat
  decayMax : Nat
  pwmNs : Nat
  dith : Nat
  /-- Start and length of the present PWM period, ns. R283 | 64 + 32 | reset 0 -/
  pwmAt : Nat
  pwmLen : Nat
  /-- When the latest fault was latched or counted. R288 | option time | reset none -/
  faultAt : Option Nat
  /-- Commands (op, h) that wait for SOLENOID_CTRL's next run. R289 | list | reset empty -/
  inbox : List (Nat × Nat)
  /-- Frame commands (op, h) written in this frame, released at t1 of the next. R25, R289 | list | reset empty -/
  nextCmd : List (Nat × Nat)
  deriving DecidableEq, Repr

/-- A solenoid port at reset. -/
def SolPort.reset : SolPort :=
  { st := .disabled, e := .at_ 0, ts := 0, tPeak := 0, queued := none, gated := false, fault := .none, current := 0#32,
    dutyUsed := 0#32, latchSt := .disabled, latchE := .at_ 0, latchU := 0, ons := [], onSince := none, decayAt := 0,
    gate := false, fd := false, lfsr := 0, activations := 0, faults := 0, iPeak := 0, decayMax := 0, pwmNs := 0, dith := 0, pwmAt := 0,
    pwmLen := 0, faultAt := none, inbox := [], nextCmd := [] }

end Sys2Proof.Machine
end

