-- ==== Sys2Proof/Machine/StPair.lean ====
section
/-!
DEFINITION. State of the pair (R341 to R370).
-/
namespace Sys2Proof.Machine

open Sys2Proof

/-- Pair states (R354, codes of PAIR_STATUS). -/
inductive PairSt where
  | solo | active | standby | spare | mismatch | failed
  deriving DecidableEq, Repr

/-- Code of PAIR_STATUS state. -/
def PairSt.code (s : PairSt) : Nat := s.ctorIdx

/-- Phases of SPARE (R354). -/
inductive Phase where
  | wait | copy | shadow
  deriving DecidableEq, Repr

/-- Code of PAIR_STATUS spare_phase. -/
def Phase.code (p : Phase) : Nat := p.ctorIdx

/-- Health (R364). -/
inductive Health where
  | good | degraded | bad
  deriving DecidableEq, Repr

/-- Code of a health. -/
def Health.code (h : Health) : Nat := h.ctorIdx

/-- Column header of a mirror set (R115). -/
structure ColHead where
  col : Nat
  k : Int
  shadowN : Nat
  st : ColSt
  restored : Bool
  noImage : Bool
  status : W32
  inSerial : Int
  disSerial : Int
  deriving DecidableEq, Repr

/-- The state of a flagged block instance as it crosses (R346): the record of the item it serves, or its private state. -/
inductive InstState where
  | blk (x : BlockSt)
  | loop (x : Loop)
  | taper (x : Taper)
  | dry (x : Dry)
  | heat (x : Heat)
  | aer (x : Aer)
  | gate (x : Gate)
  | route (x : Route)
  | slip (x : Slip)
  | moist (x : MoistCh)
  | col (x : Column)
  | motor (x : Motor)
  | tx (x : TxPort)
  | sweep (x : Sweep)
  | cable (x : Nat × Nat × Nat)
  | policy (x : Policy421)
  | diverter (x : Nat)
  deriving DecidableEq, Repr

/-- A solenoid port in a mirror set (R290): state, E, the queued h, U in microseconds. -/
structure SolMirror where
  st : SolSt
  e : SolEnd
  queued : Option Nat
  used : Nat
  deriving DecidableEq, Repr

/-- A mirror set (R346), section by section; a full copy (R366) carries the same sections whole. -/
structure MirrorSet where
  seq : Nat
  epoch : Nat
  frame : Nat
  close : Nat
  hash8 : Nat
  mirrorVer : Nat
  overrun : Bool
  cols : List ColHead
  parcels : List (Nat × Parcel)
  slots : List (Nat × Slot)
  insts : List (Nat × InstState)
  dry : List (Nat × DryRec)
  snaps : List SnapRec
  motors : List (Nat × Motor)
  sols : List (Nat × SolMirror)
  txs : List (Nat × Nat)
  doMap : List (Nat × Nat)
  cmds : List (Nat × W32)
  credits : List (Nat × Nat)
  deriving DecidableEq, Repr

/-- What a CONTROL frame says (R345). -/
structure Control where
  st : PairSt
  phase : Phase
  pairId : Bool
  owning : Bool
  hash8 : Nat
  mirrorVer : Nat
  patchNo : Nat
  patchFrame : Option Nat
  epoch : Nat
  deriving DecidableEq, Repr

/-- The peer's lantern (R365), the fields that a rule reads. -/
structure Lantern where
  issued : Nat
  st : PairSt
  health : Health
  fresh : Bool
  aislesLinked : Nat
  epoch : Nat
  deriving DecidableEq, Repr

/-- The pair block. -/
structure PairState where
  /-- state and spare_phase of PAIR_STATUS. R354, R370 | 3 + 2 | reset 3 SPARE, 0 WAIT -/
  st : PairSt
  phase : Phase
  /-- health of PAIR_STATUS. R364 | 2 | reset 2 BAD -/
  health : Health
  /-- OWN_OUT driven, its land, the PEER_OWN land. R341, R352 | 3 x 1 | reset 0 -/
  ownOut : Bool
  ownLand : Bool
  peerOwn : Bool
  /-- gate: the pair gate passes. R28, R361 | 1 | reset 0 -/
  gate : Bool
  /-- Since when the pair gate passes: the motor ports' modulator clocks run. R342 | option | reset none -/
  gateAt : Option Nat
  /-- snuffer_cause, pair_id_conflict of PAIR_STATUS. R341, R354 | 1 + 1 | reset 0 -/
  snufCause : Bool
  idConflict : Bool
  /-- Pair epoch and the peer's last known epoch. R356 | 64, MRAM + 64 | reset MRAM (0 on a new device), 0 -/
  epoch : Nat
  peerEpoch : Nat
  /-- Newest complete set: sequence, close time; none since entry. R347, R349 PAIR_MIRROR | 64 + option 64 | reset 0, none -/
  setSeq : Nat
  setClose : Option Nat
  /-- A set gap since the unit entered STANDBY; overrun told by the active. R347, R349 | 1 + 1 | reset 0 -/
  gap : Bool
  actOverrun : Bool
  /-- A set in assembly: sequence, bytes that have arrived (offset, length). R347 | record | reset none -/
  asm : Option (Nat × List (Nat × Nat))
  /-- The complete set that waits for the next boundary, and the last one applied. R348 | 2 options | reset none -/
  ready : Option MirrorSet
  applied : Option MirrorSet
  /-- Copy in assembly, sets held behind it, complete. R366 | record + list + 1 | reset none -/
  copyAsm : List (Nat × Nat)
  copyDone : Bool
  behind : List MirrorSet
  /-- A request for the copy is due at; shadow began at. R366, R354 | option + 64 | reset none, 0 -/
  retryAt : Option Nat
  shadowAt : Nat
  /-- Findings holding, seen since the previous lantern. R352, PAIR_FINDINGS | 12 + 12 | reset 0 -/
  findings : Nat
  seenLan : Nat
  /-- PAIR_SELFTEST. R362 | 27 | reset 0 -/
  selftest : Nat
  /-- Compare: per output streak, mismatches, last declared, those of the last 10 s. R363, R365, PAIR_COMPARE | lists, 16 saturating, option | reset none, 0 -/
  streak : List (Nat × Nat)
  mismatches : Nat
  lastMis : Option Nat
  misTimes : List Nat
  /-- Alignment: (time, wick, |d|) within 10 s; suspended. R351 PAIR_WICK | list + 1 | reset empty -/
  wickD : List (Nat × Nat × Nat)
  alignOff : Bool
  /-- crc_errors of PAIR_LINK; last valid frame from the peer. R345, R370 | 16 saturating, option | reset 0, none -/
  crcErrors : Nat
  lastFrame : Option Nat
  /-- t5 of the last take-over. R358 PAIR_TAKEOVER | 64 | reset 0 -/
  takeT : Nat
  /-- Latest CONTROL frame and lantern of the peer. R345, R365 | options | reset none -/
  ctl : Option Control
  lan : Option Lantern
  /-- Take-over wait since (t2), OWN_OUT asserted at (t3). R357, R358 | options | reset none -/
  waitAt : Option Nat
  t3At : Option Nat
  /-- cede waits for the evaluation; collision began at; claim_wait runs since. R353, R361, R354 | 1 + options | reset none -/
  cedeReq : Bool
  collAt : Option Nat
  claimFrom : Option Nat
  /-- ACTIVE but OWN_OUT waits for the enabling of outputs. R354 | 1 | reset 0 -/
  claimed : Bool
  /-- Lantern sequence; runs aborted and corrected errors since the previous lantern. R365 | 3 x 16 | reset 0 -/
  lanSeq : Nat
  missLan : Nat
  eccLan : Nat
  /-- Mirror sets closed by this unit: sequence of the next. R346 | 64 | reset 0 -/
  nextSet : Nat
  /-- A run was aborted; an uncorrectable error; since the last evaluation. R352 | 1 + 1 | reset 0 -/
  missed : Bool
  eccFatal : Bool
  /-- mirror_overrun of this unit: a backlog remains. R346 | 1 | reset 0 -/
  overrun : Bool
  /-- Sequence of the next frame that this unit sends on the pair link. R345 | 32 wrapping | reset 0 -/
  linkSeq : Nat
  /-- The set this unit closed last and sends, and the full copy it took for the peer. R346, R347, R366 | 2 options | reset none -/
  closed : Option MirrorSet
  copied : Option MirrorSet
  /-- The peer asks for a full copy. R366 | 1 | reset 0 -/
  copyAsked : Bool
  /-- Own output commands of the latest mirror frames: (frame, commands). R363 | at most 4 | reset empty -/
  ownCmds : List (Nat × List (Nat × W32))
  /-- The counting of clean_s began at. R370 PAIR_COMPARE | 64 | reset 0 -/
  cleanFrom : Nat
  /-- Junction sensors at or above 115 degC, with the time since. R352 THERMAL | list | reset empty -/
  hotSince : List (Nat × Nat)
  deriving DecidableEq, Repr

/-- The pair block at reset: SPARE (WAIT), health BAD. -/
def PairState.reset : PairState :=
  { st := .spare, phase := .wait, health := .bad, ownOut := false, ownLand := false, peerOwn := false, gate := false, gateAt := none,
    snufCause := false, idConflict := false, epoch := 0, peerEpoch := 0, setSeq := 0, setClose := none, gap := false,
    actOverrun := false, asm := none, ready := none, applied := none, copyAsm := [], copyDone := false, behind := [],
    retryAt := none, shadowAt := 0, findings := 0, seenLan := 0, selftest := 0, streak := [], mismatches := 0,
    lastMis := none, misTimes := [], wickD := [], alignOff := false, crcErrors := 0, lastFrame := none, takeT := 0, ctl := none, lan := none,
    waitAt := none, t3At := none, cedeReq := false, collAt := none, claimFrom := none, claimed := false, lanSeq := 0,
    missLan := 0, eccLan := 0, nextSet := 0, missed := false, eccFatal := false, overrun := false, linkSeq := 0, closed := none, copied := none, copyAsked := false,
    ownCmds := [], cleanFrom := 0, hotSince := [] }

end Sys2Proof.Machine
end

