-- ==== Sys2Proof/Machine/StSnf.lean ====
section
/-!
DEFINITION. State of the boot sequence, the resets, dormant mode and the snuffer (R391 to R409).
-/
namespace Sys2Proof.Machine

open Sys2Proof

/-- Reset kinds (R396, codes of SNF_RESET kind). -/
inductive ResetKind where
  | auxPor | sysReset | corePower | coreReset
  deriving DecidableEq, Repr

/-- Code of SNF_RESET kind. -/
def ResetKind.code (k : ResetKind) : Nat :=
  match k with
  | .auxPor => 0 | .sysReset => 1 | .corePower => 2 | .coreReset => 3

/-- The shutdown record (R405), field by field; the motor, pair and other codes as the registers show them. -/
structure ShutdownRec where
  number : Nat
  tTrigger : Nat
  first : Nat
  causes : Nat
  timeEstimated : Bool
  coreAlive : Bool
  dormant : Bool
  outputsEnabled : Bool
  owning : Bool
  pair : Nat
  auxResets : Nat
  tHot : Nat
  frame : Nat
  evrHead : Nat
  epoch : Nat
  rails : List Nat
  aislesLinked : Nat
  aislesSafe : Nat
  motor : List Nat
  solOn : Nat
  txDrive : Nat
  steps : List Nat
  hash8 : Nat
  firmware : Nat
  deriving DecidableEq, Repr

/-- Monitored supply rails (R391, R401). -/
inductive Rail where
  | vaux | v33 | vio | vddq | vcore
  deriving DecidableEq, Repr

/-- Boot, reset, dormant and snuffer state. -/
structure SnfState where
  /-- VAUX present above 3.0 V: the always-on domain runs. R391, R396 | 1 | reset 1 (the state right after AUX_POR) -/
  vaux : Bool
  /-- The core domain is powered. R393, R398 | 1 | reset 0 -/
  corePowered : Bool
  /-- Rails outside their window as the monitors last saw them: (rail, mV); the others lie within. R391, R401, R405 | list | reset empty -/
  railBad : List (Rail × Nat)
  /-- Core power has been lost or switched off since the last boot, so its return is a CORE_POWER reset. R396 | 1 | reset 0 -/
  coreLost : Bool
  /-- stage of SNF_BOOT: highest instant reached, 0 to 8. R393, R409 | 4 | reset 0 -/
  stage : Nat
  /-- Power-good seen: the boot has begun. R393 | 1 | reset 0 -/
  powerGood : Bool
  /-- held_boot of SNF_BOOT. R395 | 1 | reset 0 -/
  heldBoot : Bool
  /-- enabled of SNF_BOOT: the first condition of R28. R394 | 1 | reset 0 -/
  enabled : Bool
  /-- boot_ms of SNF_BOOT. R409 | 16 saturating | reset 0 -/
  bootMs : Nat
  /-- Straps sampled at the last AUX_POR or SYS_RESET: PAIR_ID, BOOT_SEL, ALM_HI, AUTO_RESTART, SERVICE_EN from bit 0. R392 SNF_STRAPS | 5 | reset: strap, here DESIGN CHOICE 0 (all low, log entry 4) -/
  straps : Nat
  /-- kind of SNF_RESET. R396, R409 | 2 | reset 0 AUX_POR -/
  kind : ResetKind
  /-- core_cause of SNF_RESET. R409 | 2 | reset 0 -/
  coreCause : Nat
  /-- aux reset count. R396, R409 | MRAM counter | reset MRAM: DESIGN CHOICE 1, the first AUX_POR of a new device (log entry 4) -/
  auxResets : Nat
  /-- SAFE_N land, true = high (deasserted); the internal pull-down makes an open land low. R401, R475 | 1 | DESIGN CHOICE true (driven high, log entry 4) -/
  safeN : Bool
  /-- PWR_FAIL_N land, true = high. R401 | 1 | DESIGN CHOICE true (log entry 4) -/
  pwrFailN : Bool
  /-- active of SNF_STATUS. R406 | 1 | reset 0 -/
  active : Bool
  /-- holding of SNF_STATUS: conditions that hold, bit c of cause c. R401 | 6 | reset 0 -/
  holding : Nat
  /-- first of SNF_STATUS. R401, R408 | 3 | reset 0 -/
  first : Nat
  /-- Causes within 2 us of the first trigger. R405 | 6 | reset 0 -/
  causes : Nat
  /-- Market time of the trigger of the present or last activation. R405 | 64 | reset 0 -/
  trigT : Nat
  /-- Time of the latest trigger of any cause. R408 | option 64 | reset none -/
  lastTrig : Option Nat
  /-- The record of this activation that step 5 is still to commit. R402, R405 | option record | reset none -/
  recWait : Option ShutdownRec
  /-- A CORE_RESET follows when step 5 completes. R407 | 1 | reset 0 -/
  resetAfter : Bool
  /-- SAFE_OUT_N asserted (safe_out of SNF_STATUS); outputs have been enabled since AUX_POR. R403 | 1 + 1 | reset 1, 0 -/
  safeOut : Bool
  everEnabled : Bool
  /-- Dormant or entering (dormant of SNF_STATUS). R398 | 1 | reset 0 -/
  dormant : Bool
  /-- Dormant entry in progress: steps 1 to 4 of R398 under way. R398 | 1 | reset 0 -/
  dormEntering : Bool
  /-- The core supplies were switched off by PMBus and have not been switched on again; the next power return is a wake. R398, R399, R413 | 1 + 1 | reset 0 -/
  pmOff : Bool
  woken : Bool
  /-- A dormant period has ended and its deltas are still to be written. R52 | 1 | reset 0 -/
  dormDue : Bool
  /-- Time at which core power fell into dormant mode. R399 | 64 | reset 0 -/
  dormSince : Nat
  /-- Shutdown record slot. R405 | 256 bytes, MRAM | reset MRAM (none: never written) -/
  record : Option ShutdownRec
  /-- Records written since manufacture. R405 | 32, MRAM | reset 0 -/
  recNumber : Nat
  /-- SNF_RESULT result and op. R409 | 3 + 3 | reset 0 -/
  result : Nat
  resultOp : Nat
  /-- expiries of SNF_WDOG. R407, R409 | 16 saturating | reset 0 -/
  expiries : Nat
  /-- Watchdog armed, timeout in force in ms, last restart, frame counter seen at the last restart. R407 | 1, 14, 64, 64 | reset armed by ROM at 2,000 ms -/
  wdArmed : Bool
  wdMs : Nat
  wdLast : Nat
  wdFrame : Nat
  /-- PMBus OPERATION bytes sent to the core supplies, newest first. R398, R399 | list | reset empty -/
  pmbus : List Nat
  /-- Boot instants of the present boot: (stage, market time), newest first. R393 | list | reset empty -/
  bootT : List (Nat × Nat)
  /-- A condition of the enabling failed at t7 or t8: it waits for a frame boundary. R394 | 1 | reset 0 -/
  enableLate : Bool
  /-- The latest release by the op. R408 | option | reset none -/
  relAt : Option Nat
  /-- t7 reached: the enable of outputs waits for its conditions since. R394 | option 64 | reset none -/
  restoredAt : Option Nat
  /-- A thermal shutdown's core stop waits for step 5. R413 | 1 | reset 0 -/
  thermStop : Bool
  deriving DecidableEq, Repr

/-- The block right after AUX_POR, straps low, core unpowered. -/
def SnfState.reset : SnfState :=
  { vaux := true, corePowered := false, railBad := [], coreLost := false, stage := 0, powerGood := false,
    heldBoot := false, enabled := false, bootMs := 0, straps := 0, kind := .auxPor,
    coreCause := 0, auxResets := 1, safeN := true, pwrFailN := true, active := false, holding := 0, first := 0, causes := 0,
    trigT := 0, lastTrig := none, recWait := none, resetAfter := false, safeOut := true, everEnabled := false, dormant := false, dormEntering := false, pmOff := false, woken := false, dormDue := false,
    dormSince := 0, record := none, recNumber := 0, result := 0, resultOp := 0, expiries := 0,
    wdArmed := true, wdMs := 2000, wdLast := 0, wdFrame := 0, pmbus := [], bootT := [], restoredAt := none, enableLate := false, relAt := none, thermStop := false }

end Sys2Proof.Machine
end

