-- ==== Sys2Proof/Machine/StWax.lean ====
section
/-!
DEFINITION. State of the wax, of the relight and of the Dulo monitor (R442 to R461).
-/
namespace Sys2Proof.Machine

open Sys2Proof

/-- Items of a frame record (R442, R444). -/
inductive WaxItem where
  | stall (aisle : Nat) (r : UpRec)
  /-- What the core writes for a stall of a lost aisle, with link_lost (R242). -/
  | lost (aisle : Nat) (r : UpRec)
  | set (r : SetRec)
  /-- A wick snapshot that is not the previous one advanced; `full` where its change does not fit a delta (types 3 and 4). -/
  | snap (wick : Nat) (full : Bool) (r : SnapRec)
  | fb (port : Nat) (r : FbRec)
  | sol (port : Nat) (st : SolSt) (u : Nat) (e : SolEnd) (f : SolFault)
  /-- A basket message, with the bytes of its basket's width. -/
  | msg (width : Nat) (p : Post)
  | report (p : Post)
  | write (addr : Nat) (v : W32)
  | abort (engine inst skipped : Nat)
  | patch (hash8 no : Nat)
  | step (old new : Nat)
  /-- Input-area constants of a MOIST_PROC (R96). -/
  | const (inst : Nat) (x : MoistConst)
  /-- An input-area constant (type 13): a temperature of the device's own supervisor. -/
  | temp (k : Nat) (x : TempIn)
  | maps (aisle : Nat) (di : Nat) (do_ : Nat)
  deriving DecidableEq, Repr

/-- What one run put out, for the output digest (R455): port commands, posts and arm requests; an aborted run only its number. -/
structure RunOut where
  inst : Nat
  aborted : Bool
  cmds : List (Nat × W32)
  posts : List Post
  arms : List ArmReq
  deriving DecidableEq, Repr

/-- A frame record (R443). -/
structure FrameRec where
  frame : Nat
  items : List WaxItem
  afterGap : Bool
  unsynced : Bool
  halted : Bool
  outDigest : W32
  deriving DecidableEq, Repr

/-- A segment: the frame records of one second (R446), newest first. -/
structure Segment where
  second : Nat
  recs : List FrameRec
  bytes : Nat
  damaged : Bool
  gap : Bool
  halt : Bool
  deriving DecidableEq, Repr

/-- What a keyframe holds (R447): the block-facing state. -/
structure KeyImage where
  rf : List (Nat × W32)
  rfF : List (Nat × W32)
  str : Structure
  eng : EngState
  loop : LoopState
  moist : MoistState
  col : ColState
  motor : MotorState
  sol : List (Nat × SolPort)
  tx : TxState
  pol : List (Nat × Policy421)
  wicks : WickState
  aisle : AisleState
  deriving DecidableEq, Repr

/-- A keyframe (R447). `seen` counts the items of the next frame's record that its image already holds: they are not relit twice. -/
structure Keyframe where
  frame : Nat
  hash8 : Nat
  image : KeyImage
  seen : Nat
  complete : Bool
  deriving DecidableEq, Repr

/-- A stall's summary (R449): minimum, maximum, mean, worst quality, OR of flags, samples. -/
structure StallSum where
  min : F32
  max : F32
  mean : F32
  worst : Quality
  flags : StallFlags
  samples : Nat
  deriving DecidableEq, Repr

/-- A wick's summary (R449): count at start and end, largest |speed| (1/256 tick/s), states seen as bits, losses. -/
structure WickSum where
  first : Int
  last : Int
  speed : Nat
  states : Nat
  losses : Nat
  deriving DecidableEq, Repr

/-- A motor port's summary (R449): means, largest i_peak, states seen as bits, fault code. -/
structure MotSum where
  speed : F32
  iq : F32
  vdc : F32
  pEl : F32
  iPeak : Nat
  states : Nat
  fault : Nat
  deriving DecidableEq, Repr

/-- A solenoid port's summary (R449): U at the end, states seen as bits, fault. -/
structure SolSum where
  u : Nat
  states : Nat
  fault : Nat
  deriving DecidableEq, Repr

/-- A moisture channel's summary (R449): means, worst quality, sets. -/
structure ChSum where
  m : F32
  tg : F32
  rho : F32
  worst : Quality
  sets : Nat
  deriving DecidableEq, Repr

/-- What a second has shown at its boundaries: its number, valid outputs of each channel, (target, readback) of each transmitter port,
largest T_row and smallest m of each row, each wick from its snapshots with the state of the latest one, the selected values, and evr
head at its end. -/
structure SumAcc where
  second : Option Nat
  evrHead : Nat
  wicks : List (Nat × (WickSum × WickSt))
  sel : List (Nat × List F32)
  moist : List (Nat × List (F32 × F32 × F32))
  quality : List (Nat × Nat)
  tx : List (Nat × List (F32 × F32))
  rows : List (Nat × (Int × Nat))
  deriving DecidableEq, Repr

/-- Nothing shown yet. -/
def SumAcc.zero : SumAcc := { second := none, evrHead := 0, wicks := [], sel := [], moist := [], quality := [], tx := [], rows := [] }

/-- A summary (R449), field by field; unlisted items have none. -/
structure Summary where
  second : Nat
  firstFrame : Nat
  frames : Nat
  bytes : Nat
  evrHead : Nat
  gap : Bool
  damaged : Bool
  unsynced : Bool
  stepped : Bool
  stalls : List (Nat × StallSum)
  wicks : List (Nat × WickSum)
  motors : List (Nat × MotSum)
  chans : List (Nat × ChSum)
  sols : List (Nat × SolSum)
  txs : List (Nat × (F32 × F32))
  rows : List (Nat × (Int × Nat))
  aisles : List Nat
  rails : List Nat
  selected : List (F32 × F32)
  deriving DecidableEq, Repr

/-- A frozen image (R451). -/
structure Frozen where
  stepping : Nat
  device : Nat
  market : Nat
  firmware : Nat
  lib : Nat
  hash : Nat
  first : Nat
  last : Nat
  streams : List StreamImg
  chain : Nat
  key : Keyframe
  segs : List Segment
  imported : Bool
  sig : Nat
  formatOk : Bool
  deriving DecidableEq, Repr

/-- Staging states (WAX_STATUS staging). -/
inductive StageSt where
  | empty | freezing | frozen | importing
  deriving DecidableEq, Repr

/-- Code of WAX_STATUS staging. -/
def StageSt.code (s : StageSt) : Nat := s.ctorIdx

/-- The wax recorder. -/
structure WaxState where
  /-- recording of WAX_STATUS. R442 | 1 | reset 0 -/
  recording : Bool
  /-- Full-rate tier, newest segment first. R446 | ring | reset empty -/
  segs : List Segment
  /-- Keyframes, newest first. R447 | 1,280 MiB | reset empty -/
  keys : List Keyframe
  /-- A keyframe is due at the next t4: first frame after a gap. R447 | 1 | reset 1 -/
  keyDue : Bool
  /-- The next record is the first after a gap. R443, R448 | 1 | reset 1 -/
  afterGap : Bool
  /-- Items of the present frame, newest first. R442 | list | reset empty -/
  items : List WaxItem
  /-- Items of the clock cycle of a boundary not yet taken: of the frame after. R24 | list | reset empty -/
  edgeItems : List WaxItem
  /-- What the runs of the latest frame put out, for its output digest. R455 | list | reset empty -/
  outs : List RunOut
  /-- Summary tier, newest first. R449 | 86,400 entries | reset empty -/
  summaries : List Summary
  /-- What the present second has shown. R449 | record | reset: nothing -/
  acc : SumAcc
  /-- What the second before has shown. R449 | record | reset: nothing -/
  accLast : SumAcc
  /-- rate, peak of WAX_RATE, kB. R460 | 16 + 16 | reset 0 -/
  rate : Nat
  peak : Nat
  /-- staging, the frozen image, the freeze's span, bytes staged by import. R450, R452 | 2 + image | reset EMPTY -/
  staging : StageSt
  frozen : Option Frozen
  freezeReq : Option (Nat × Nat)
  importBytes : List (Nat × Byte)
  /-- exporting: requester, source, next offset, end. R452 | option | reset none -/
  export_ : Option (Nat × Nat × Nat × Nat)
  /-- WAX_RESULT code, op. R460 | 4 + 3 | reset 0 -/
  code : Nat
  op : Nat
  deriving DecidableEq, Repr

/-- The wax at AUX_POR: empty. -/
def WaxState.reset : WaxState :=
  { recording := false, segs := [], keys := [], keyDue := true, afterGap := true, items := [], edgeItems := [], outs := [], summaries := [], acc := SumAcc.zero, accLast := SumAcc.zero,
    rate := 0, peak := 0, staging := .empty, frozen := none, freezeReq := none, importBytes := [],
    export_ := none, code := 0, op := 0 }

/-- Relight states (RLT_STATUS). -/
inductive RltSt where
  | idle | prepared | running | paused | stopped
  deriving DecidableEq, Repr

/-- Code of RLT_STATUS state. -/
def RltSt.code (s : RltSt) : Nat := s.ctorIdx

/-- The relight. -/
structure RltState where
  /-- state, stop, refusal of RLT_STATUS. R453 to R455 | 3 + 4 + 4 | reset 0 -/
  st : RltSt
  stop : Nat
  refusal : Nat
  /-- RLT_FRAME, RLT_DIGEST_REC, RLT_DIGEST_OWN. R454, R455 | 64 + 2 x 32 | reset 0 -/
  frame : Nat
  digRec : W32
  digOwn : W32
  /-- The relight context: the carried structure and its block state; the unit's own stays where it is, idle. R453 | option | reset none -/
  ctx : Option KeyImage
  /-- Records still to be relit, oldest first. R454 | list | reset empty -/
  todo : List (Bool × FrameRec)
  deriving DecidableEq, Repr

/-- No relight. -/
def RltState.reset : RltState :=
  { st := .idle, stop := 0, refusal := 0, frame := 0, digRec := 0#32, digOwn := 0#32, ctx := none, todo := [] }

/-- What a binary load carries (R459). -/
inductive LoadKind where
  | fw | stream | key
  deriving DecidableEq, Repr

/-- The Dulo monitor. -/
structure MonState where
  /-- latched of MON_STATUS. R458, R461 | 1 | reset 0 -/
  latched : Bool
  /-- baud of MON_STATUS. R457 | 2 | reset 0 -/
  baud : Nat
  /-- Time of the last received character. R458 | 64 | reset 0 -/
  lastChar : Nat
  /-- Binary transfer: kind, bytes received. R459 | option + list | reset none -/
  loading : Option LoadKind
  bytes : List (Nat × Byte)
  /-- Key bytes of the last key load. R459 | option 32 bytes | reset none -/
  key : Option (List Byte)
  /-- Low words written by the running run of wr commands. R463 | list | reset empty -/
  low : List (Nat × W32)
  deriving DecidableEq, Repr

/-- The monitor at reset. -/
def MonState.reset : MonState :=
  { latched := false, baud := 0, lastChar := 0, loading := none, bytes := [], key := none, low := [] }

end Sys2Proof.Machine
end

