-- ==== Sys2Proof/Machine/Operands.lean ====
section
/-!
DEFINITION. What a command carries beside numbers: readings of field signals, frame and datagram headers (log entry 9:
signals and frames reach the model as values already told apart, not as line levels and bit patterns).
-/
namespace Sys2Proof.Machine

open Sys2Proof

/-- A measurement set as the aisle measured it (R79, R80). -/
structure SetReading where
  gammaM : List Cx
  gammaRef : List Cx
  rNtc : F32
  tAisle : Int
  unlock : Bool
  overrange : Bool
  deriving DecidableEq, Repr

/-- One phase sample of a motor port (R195, R196): the modulator bits of IU, IV, IW and UDC in the main window around a carrier
extreme, and of IU, IV, IW in the latest window of the fast filters, oldest first, and whether the extreme is a valley. -/
structure PhaseSample where
  iu : List Bool
  iv : List Bool
  iw : List Bool
  udc : List Bool
  fu : List Bool
  fv : List Bool
  fw : List Bool
  valley : Bool
  deriving DecidableEq, Repr

/-- What the phase-locked loop of a search found (R206, R207): amplitude V_l in 0.1 V rms, frequency f_l in Hz, angle, whether
the phase sequence was reversed, and whether it held within the window. -/
structure SearchReading where
  vLine : Nat
  fl : F32
  angle : Nat
  reversed : Bool
  seqHeld : Bool
  deriving DecidableEq, Repr

/-- An analogue conversion at a stall (R245, R246): the raw quantity (ohm, V or mA), the result in the mode's unit (°C, mA
or V) as the aisle's converter gives it, and whether a lead is open. -/
structure StallReading where
  raw : F32
  val : F32
  leadOpen : Bool
  deriving DecidableEq, Repr

/-- A command frame at a cell with the loop's readings (R272, R277). -/
structure CellReading where
  valid : Bool
  readback : F32
  termV : F32
  deriving DecidableEq, Repr

/-- A basket frame's header as received (R308, R309). -/
structure FrameHdr where
  fcsOk : Bool
  version : Nat
  market : Nat
  src : Nat
  dst : Nat
  gen : Nat
  len : Nat
  ownMac : Bool
  cls : Nat
  deriving DecidableEq, Repr

/-- A HELLO entry (R308). -/
structure HelloInfo where
  member : Nat
  sync : Bool
  hops : Nat
  pair : Nat
  otherMac : Bool
  hash8 : Nat
  deriving DecidableEq, Repr

/-- A management datagram's header (R311); `macOk` says that its MAC verifies under the key its key ID names. -/
structure Dgram where
  macOk : Bool
  market : Nat
  sender : Nat
  target : Nat
  seq : Nat
  keyId : Nat
  respond : Bool
  deriving DecidableEq, Repr

/-- A pair-link frame's header (R345). -/
structure PairHdr where
  crcOk : Bool
  epoch : Nat
  set : Nat
  offset : Nat
  len : Nat
  total : Nat
  totalOk : Bool
  deriving DecidableEq, Repr

/-- What a self-test stage tested (R362). -/
inductive TestStage where
  | motor (m : Fin 16) | solenoid | aisle (n : Fin 8) | transmitter | scrub
  deriving DecidableEq, Repr

/-- A die or diode conversion (R410), 1/128 degC; `fault` for an OPEN or SHORT diode pair. -/
structure TempReading where
  raw : Int
  fault : Bool
  deriving DecidableEq, Repr

/-- What an erroneous MRAM word belongs to, where a check reads it: the calibration store of a moisture channel (R89), a grain table
(R86), a checkpoint image of a column and a drying record (R112, R136), with the copy. -/
inductive MramPart where
  | cal (c : Fin 32) | grain (g : Fin 64) | image (col : Fin 16) (b : Bool) | dryRec (col : Fin 16) (b : Bool) | other
  deriving DecidableEq, Repr

/-- Where an ECC error was found (R21, R160, R362): an engine's instruction or data memory; a second of the full-rate tier, or of an image
in the relight and export staging region; the others. -/
inductive EccRegion where
  | sram (addr : Nat) | engine (e : Fin 128) (data : Bool) | dramEngine | dramWax (second : Nat) | dramStaging (second : Nat) | dramOther
  | mgtRam | mram (part : MramPart)
  deriving DecidableEq, Repr

/-- A frame at the bridge (R294). -/
structure BridgeFrame where
  port : Nat
  srcMac : Nat
  dstMac : Nat
  basket : Bool
  pub : Bool
  dstId : Nat
  tagged : Bool
  vid : Nat
  pcp : Nat
  len : Nat
  deriving DecidableEq, Repr

/-- Requests the device answers from its unicast MAC (R295). -/
inductive IpKind where
  | arp | neighbour | echo4 | echo6
  deriving DecidableEq, Repr

end Sys2Proof.Machine
end

