-- ==== Sys2Proof/Syntax.lean ====
section
/-!
DEFINITION. The commands of the block: one constructor per row of the table of operations and events, in the table's order.
`t` is the market time at which the happening takes place; a command without it happens at the time the state holds.
-/
namespace Sys2Proof

open Sys2Proof.Machine

/-- A command. -/
inductive Instr where
  /-- FRAME_BOUNDARY (R22): At each frame boundary the input set closes, commands are released and the frame's work begins. -/
  | frameBoundary (t : Ns)
  /-- MIRROR_SET_CLOSE (R26): In mirror frames the active closes the mirror set at t4 and begins sending it. -/
  | mirrorSetClose (t : Ns)
  /-- AISLE_UPSTREAM_SUBFRAME (R17): The core receives an upstream subframe carrying DI states, stall records and set records. -/
  | aisleUpstreamSubframe (n : Fin 8) (t : Ns) (valid : Bool)
  /-- AISLE_DOWNSTREAM_SUBFRAME (R17): The aisle receives and decodes a downstream subframe of commands, timed actions and configuration. -/
  | aisleDownstreamSubframe (n : Fin 8) (t : Ns) (valid : Bool)
  /-- AISLE_TIMED_ACTION (R18): The aisle executes a timed DO action at its stamped instant. -/
  | aisleTimedAction (n : Fin 8) (t : Ns)
  /-- WICK_TICK (R39): A valid transition or pulse counts a tick and advances the wick's speed state. -/
  | wickTick (w : Fin 64) (t : Ns) (e : TickEdge)
  /-- WICK_PHASE_ERROR (R34): An invalid decoder transition is not counted and increments phase_errors. -/
  | wickPhaseError (w : Fin 64) (t : Ns)
  /-- WICK_STANDSTILL_TIMEOUT (R39): No tick within still_ms returns the wick to STILL. -/
  | wickStandstillTimeout (w : Fin 64) (t : Ns)
  /-- WICK_SNAPSHOT_LATCH (R35): All 64 wicks are latched 4 µs before the boundary and delivered to the inbox. -/
  | wickSnapshotLatch (t : Ns)
  /-- WICK_LOSS (R41): A wick's invalid input condition persists and it becomes LOST. -/
  | wickLoss (w : Fin 64) (t : Ns)
  /-- WICK_RECOVERY (R41): After its recovery time of valid input a LOST wick returns to STILL or RUNNING. -/
  | wickRecovery (w : Fin 64) (t : Ns)
  /-- MAINS_CROSSING_TIMEOUT (R46): No mains crossing within 2.5 nominal periods makes the mains wick LOST. -/
  | mainsCrossingTimeout (w : Fin 64) (t : Ns)
  /-- WICK_FROZEN (R43): A STILL wick whose motor turns for freeze_time is declared frozen. -/
  | wickFrozen (w : Fin 64) (t : Ns)
  /-- WICK_PRESET_REQUEST (R44): The preset op of WCK_CMD requests an absolute preset at the next latch. -/
  | wickPresetRequest (w : Fin 64) (v : Int)
  /-- WICK_CLEAR_DIAG (R54): The clear_diag op of WCK_CMD zeroes the wick's diagnostic counters. -/
  | wickClearDiag (w : Fin 64)
  /-- WICK_FRAME_RECEIVE (R49): A WICK frame delivers published snapshot records to subscribers. -/
  | wickFrameReceive (t : Ns) (h : FrameHdr) (recs : List SnapRec)
  /-- SUBSCRIBED_WICK_LOSS (R50): Three publication periods of lateness make a subscribed wick LOST. -/
  | subscribedWickLoss (w : Fin 64) (t : Ns)
  /-- LLT_ARM (R58): The arm op of LLT_CMD stages an arm request as PENDING. -/
  | lltArm (slot : Fin 16384) (alloc : Bool) (window : Bool)
  /-- LLT_DISARM (R58): The disarm op of LLT_CMD stages a disarm request. -/
  | lltDisarm (slot : Fin 16384) (alloc : Bool) (window : Bool)
  /-- LLT_FREE (R58): The free op of LLT_CMD stages a free request. -/
  | lltFree (slot : Fin 16384) (alloc : Bool) (window : Bool)
  /-- ARM_REQUESTS_APPLY (R57): Arm, disarm and free requests of the previous frame take effect together at t1. -/
  | armRequestsApply (t : Ns)
  /-- TIME_ACTION_DUE (R60): Market time reaches a time action's key and the action executes or is refused. -/
  | timeActionDue (slot : Fin 16384) (t : Ns)
  /-- WINDOW_CAP_EXPIRY (R62): A window's cap expires, its end action executes and it becomes CAPPED. -/
  | windowCapExpiry (slot : Fin 16384) (t : Ns)
  /-- MEASUREMENT_SET_START (R79): A moisture measurement set starts at a 2.5 ms multiple of market time. -/
  | measurementSetStart (n : Fin 8) (t : Ns)
  /-- MEASUREMENT_SET_END (R80): A set ends and its record is delivered into the aisle inbox. -/
  | measurementSetEnd (c : Fin 32) (t : Ns) (r : SetReading)
  /-- CAL_OPEN (R89): The cal_open op starts averaging the open standard. -/
  | calOpen (c : Fin 32)
  /-- CAL_SHORT (R89): The cal_short op starts averaging the short standard. -/
  | calShort (c : Fin 32)
  /-- CAL_LOAD (R89): The cal_load op starts averaging the load standard. -/
  | calLoad (c : Fin 32)
  /-- CAL_AIR (R89): The cal_air op starts averaging the air point. -/
  | calAir (c : Fin 32)
  /-- CAL_AVERAGE_DONE (R89): A calibration average of 400 sets completes and is kept as pending. -/
  | calAverageDone (c : Fin 32)
  /-- CAL_COMMIT (R89): The cal_commit op computes and stores or refuses the calibration. -/
  | calCommit (c : Fin 32)
  /-- CAL_ABORT (R89): The cal_abort op discards pending calibration averages. -/
  | calAbort (c : Fin 32)
  /-- CAPTURE (R90): The capture op starts averaging 800 sets into a sample slot. -/
  | capture (c : Fin 32) (slot : Fin 32)
  /-- CAPTURE_DONE (R90): A capture completes or is refused with NO_COVER. -/
  | captureDone (c : Fin 32)
  /-- LAB_WRITE (R90): The lab_write op stores MST_LAB into a sample slot. -/
  | labWrite (c : Fin 32) (slot : Fin 32)
  /-- FIT (R90): The fit op fits slope and offset over the sample slots. -/
  | fit (c : Fin 32)
  /-- CLEAR_SAMPLES (R90): The clear_samples op empties all sample slots. -/
  | clearSamples (c : Fin 32)
  /-- PCL_ACCEPT (R111): The accept op clears stale in every parcel. -/
  | pclAccept (c : Fin 16)
  /-- PCL_SET_EMPTY (R111): The set_empty op makes every parcel EMPTY. -/
  | pclSetEmpty (c : Fin 16)
  /-- PCL_CHECKPOINT_NOW (R112): The checkpoint_now op captures the column at the next run's boundary. -/
  | pclCheckpointNow (c : Fin 16)
  /-- PCL_CLEAR_DIAG (R117): The clear_diag op of PCL_CMD zeroes the column's diagnostic counts. -/
  | pclClearDiag (c : Fin 16)
  /-- PCL_DISCARD (R110): The discard op ends a DRAINING column. -/
  | pclDiscard (c : Fin 16)
  /-- CHECKPOINT_CAPTURE (R112): At a capture instant the column's state is captured for an MRAM image. -/
  | checkpointCapture (c : Fin 16) (t : Ns)
  /-- CHECKPOINT_WRITE_COMPLETE (R112): A checkpoint image finishes writing and becomes valid, or ckpt_fault is set. -/
  | checkpointWriteComplete (c : Fin 16) (ok : Bool)
  /-- INPUT_SUBST_TIMEOUT (R122): 60 s after a zone input fails, the column substitutes a derived value. -/
  | inputSubstTimeout (c : Fin 16) (inp : Nat) (t : Ns)
  /-- FB_ONLY_TIMEOUT (R127): After fb_after seconds in HOLD the rate source becomes FB_ONLY. -/
  | fbOnlyTimeout (c : Fin 16) (t : Ns)
  /-- DRY_START_CONT (R140): The start_cont op enters continuous drying. -/
  | dryStartCont (c : Fin 16)
  /-- DRY_START_BATCH (R140): The start_batch op enters batch drying. -/
  | dryStartBatch (c : Fin 16)
  /-- DRY_COOL_DOWN (R140): The cool_down op enters COOL_DOWN. -/
  | dryCoolDown (c : Fin 16)
  /-- DRY_STOP (R140): The stop op makes the drying column OFF. -/
  | dryStop (c : Fin 16)
  /-- DRY_RESUME (R140): The resume op returns the column from NIGHTLIGHT to CONT. -/
  | dryResume (c : Fin 16)
  /-- DRY_RESET_ADAPT (R148): The reset_adapt op resets theta, its covariance and the bias. -/
  | dryResetAdapt (c : Fin 16)
  /-- DRY_CLEAR_BIAS (R148): The clear_bias op sets the bias to 0. -/
  | dryClearBias (c : Fin 16)
  /-- DRY_COOL_MAX_EXPIRY (R140): cool_max elapses in a cooling state and the column moves on. -/
  | dryCoolMaxExpiry (c : Fin 16) (t : Ns)
  /-- AER_MIN_TIME_EXPIRY (R144): min_on or min_off elapses and a pending fan change takes effect. -/
  | aerMinTimeExpiry (g : Fin 64) (t : Ns)
  /-- DEADLINE_ABORT (R158): An engine that has not completed a run at t0 plus 120 µs aborts it. -/
  | deadlineAbort (e : Fin 128) (i : Fin 8192) (t : Ns)
  /-- ENGINE_HALT (R160): An uncorrectable memory error or bad fetch halts the engine. -/
  | engineHalt (e : Fin 128) (cause : Fin 4) (t : Ns)
  /-- TRANSACTION_TIMEOUT (R169): No reply by F_i plus 160 admits LOST and quarantines the tag. -/
  | transactionTimeout (tag : Fin 4096) (t : Ns)
  /-- TAG_QUARANTINE_END (R169): A quarantined tag becomes available again at F_i plus 320. -/
  | tagQuarantineEnd (tag : Fin 4096) (t : Ns)
  /-- ENG_CLEAR_PEAK (R172): The clear_peak op zeroes the engine's peak load. -/
  | engClearPeak (e : Fin 128)
  /-- ENG_CLEAR_COUNTS (R172): The clear_counts op zeroes the engine's miss and skip counts. -/
  | engClearCounts (e : Fin 128)
  /-- BSK_CLEAR_COUNTS (R173): The clear_counts op zeroes the selected basket's counts and peak. -/
  | bskClearCounts
  /-- TPR_RUN (R177): The run op puts the taper in RUN and replans. -/
  | tprRun (j : Fin 256)
  /-- TPR_HOLD (R177): The hold op brings the taper to rest. -/
  | tprHold (j : Fin 256)
  /-- TPR_TRACK (R177): The track op makes the taper copy its track input. -/
  | tprTrack (j : Fin 256)
  /-- TPR_SET_VALUE (R177): The set_value op sets the output to TPR_TARGET in HOLD or TRACK. -/
  | tprSetValue (j : Fin 256)
  /-- TPR_APPLY_COORD (R178): The apply_coord op applies new coordinate-curve endpoints. -/
  | tprApplyCoord (j : Fin 256) (fromPresent : Bool)
  /-- SUPERVISION_TIMER_EXPIRY (R185): A FOLLOWING or IMPLAUSIBLE timer reaches t_err and the finding is declared. -/
  | supervisionTimerExpiry (i : Fin 512) (following : Bool) (t : Ns)
  /-- LOOP_SILENT (R184): miss_runs supervisor runs without a post from the law declare LOOP_SILENT. -/
  | loopSilent (i : Fin 512) (t : Ns)
  /-- LOOP_STUCK_EXPIRY (R184): Feedback stuck while output moves for stuck_time declares FROZEN. -/
  | loopStuckExpiry (i : Fin 512) (t : Ns)
  /-- LOOP_RETURN (R186): Return conditions hold for t_ok and the loop returns under its reaction. -/
  | loopReturn (i : Fin 512) (t : Ns)
  /-- LOOP_HOLD_MAX_EXPIRY (R186): A loop HELD or OBSERVER for longer than t_hold_max goes to SAFE. -/
  | loopHoldMaxExpiry (i : Fin 512) (t : Ns)
  /-- LOOP_AUTO (R181): The auto op switches the loop to AUTO bumplessly. -/
  | loopAuto (i : Fin 512)
  /-- LOOP_MANUAL (R182): The manual op switches the loop to MANUAL. -/
  | loopManual (i : Fin 512)
  /-- LOOP_RESET (R186): The reset op returns a SAFE or TRIPPED loop to MANUAL. -/
  | loopReset (i : Fin 512)
  /-- LOOP_CLEAR_FINDINGS (R188): The clear_findings op zeroes LOOP_FINDINGS. -/
  | loopClearFindings (i : Fin 512)
  /-- MOTOR_START (R206): The start command begins a search from OFF or RETRY_WAIT. -/
  | motorStart (m : Fin 16)
  /-- MOTOR_STOP (R210): The stop command stops the motor by stop_mode. -/
  | motorStop (m : Fin 16)
  /-- MOTOR_COAST (R210): The coast command takes all gates low at once. -/
  | motorCoast (m : Fin 16)
  /-- MOTOR_RESET (R212): The reset command clears a fault whose condition is gone. -/
  | motorReset (m : Fin 16)
  /-- MOTOR_IDENT (R218): The ident command starts motor identification from OFF. -/
  | motorIdent (m : Fin 16)
  /-- MOTOR_RESUME (R213): The resume command ends the port's nightlight. -/
  | motorResume (m : Fin 16)
  /-- MOTOR_CLEAR_COUNTS (R220): The clear_counts command zeroes MOT_COUNTS. -/
  | motorClearCounts (m : Fin 16)
  /-- HW_TRIP (R191): Mnn_TRIP_N low for 200 ns takes the gates low and latches HW_TRIP. -/
  | hwTrip (m : Fin 16) (t : Ns)
  /-- MOTOR_OVERCURRENT (R215): A fast filter beyond i_trip latches OVERCURRENT. -/
  | motorOvercurrent (m : Fin 16) (t : Ns)
  /-- DC_OVERVOLT (R215): v_dc above v_max in two main samples latches DC_OVERVOLT. -/
  | dcOvervolt (m : Fin 16) (t : Ns)
  /-- DC_UNDERVOLT (R215): v_dc below v_min for 10 ms with gates driving latches DC_UNDERVOLT. -/
  | dcUndervolt (m : Fin 16) (t : Ns)
  /-- SD_LOSS (R197): A modulator data land or clock stuck for 64 clocks latches SD_LOSS. -/
  | sdLoss (m : Fin 16) (t : Ns)
  /-- OBSERVER_INVALID_TIMEOUT (R204): An invalid observer estimate for 100 ms at speed latches FEEDBACK_LOST. -/
  | observerInvalidTimeout (m : Fin 16) (t : Ns)
  /-- PHASE_LOSS (R215): One phase current low for 200 ms latches PHASE_LOSS. -/
  | phaseLoss (m : Fin 16) (t : Ns)
  /-- CURRENT_LOOP_UPDATE (R195): At each carrier extreme the port samples current and runs the current loop. -/
  | currentLoopUpdate (m : Fin 16) (t : Ns) (s : PhaseSample)
  /-- SEARCH_COMPLETE (R206): After t_search the line-voltage search yields speed and angle. -/
  | searchComplete (m : Fin 16) (t : Ns) (r : SearchReading)
  /-- SEARCH_RETRY (R206): A failed search is repeated once after 1 s, then SEARCH_FAIL. -/
  | searchRetry (m : Fin 16) (t : Ns)
  /-- PROBE_COMPLETE (R207): The 20 ms DC probe ends and a new search begins. -/
  | probeComplete (m : Fin 16) (t : Ns)
  /-- ANGLE_ALIGN_COMPLETE (R202): The 200 ms alignment of a PM motor sets the angle offset. -/
  | angleAlignComplete (m : Fin 16) (t : Ns)
  /-- CATCH_COMPLETE (R208): Flux built and current loop settled enter RUN. -/
  | catchComplete (m : Fin 16) (t : Ns)
  /-- BRAKE_FALLBACK (R209): Braking current below 20 % for 2 s leaves BRAKE_REGEN. -/
  | brakeFallback (m : Fin 16) (t : Ns)
  /-- BRAKE_SEARCH (R209): Every 1 s of braking without a wick the port searches for speed. -/
  | brakeSearch (m : Fin 16) (t : Ns)
  /-- REVERSE_HOLD (R209): t_brake_max of braking latches REVERSE_HOLD. -/
  | reverseHold (m : Fin 16) (t : Ns)
  /-- STOPPING_COMPLETE (R210): Speed below n_zero for 200 ms ends STOPPING in OFF. -/
  | stoppingComplete (m : Fin 16) (t : Ns)
  /-- FAN_STALL (R211): Speed below n_floor for t_tach declares a fan stall. -/
  | fanStall (m : Fin 16) (t : Ns)
  /-- RETRY_WAIT_EXPIRY (R211): t_retry elapses and the port restarts from SEARCH. -/
  | retryWaitExpiry (m : Fin 16) (t : Ns)
  /-- STALL_COUNT_CLEAR (R211): 60 s above n_floor returns the stall count to 0. -/
  | stallCountClear (m : Fin 16) (t : Ns)
  /-- IDENT_COMPLETE (R218): Identification measurements end and results are stored or IDENT_FAIL latched. -/
  | identComplete (m : Fin 16) (t : Ns) (rs : F32) (ls : F32) (ok : Bool)
  /-- GATE_HOME (R227): The home op starts a homing sequence. -/
  | gateHome (m : Fin 16)
  /-- GATE_ABORT (R227): The abort op stops homing with homed clear. -/
  | gateAbort (m : Fin 16)
  /-- GATE_MOVE (R224): The move op moves the gate to its taper's target, or is refused. -/
  | gateMove (m : Fin 16)
  /-- HOME_TIMEOUT (R227): t_home_max since the home command faults homing. -/
  | homeTimeout (m : Fin 16) (t : Ns)
  /-- ROUTE_START (R230): The start op begins starting route members from the last. -/
  | routeStart (r : Fin 32)
  /-- ROUTE_STOP (R230): The stop op begins stopping the route from member 0. -/
  | routeStop (r : Fin 32)
  /-- ROUTE_RESET (R230): The reset op returns a FAULTED route to IDLE. -/
  | routeReset (r : Fin 32)
  /-- PROOF_TIMEOUT (R230): A member not proved within t_proof faults the route. -/
  | proofTimeout (r : Fin 32) (i : Fin 16) (t : Ns)
  /-- MEMBER_PROVED (R229): A member's proof holds for t_hold and the member is proved. -/
  | memberProved (r : Fin 32) (i : Fin 16) (t : Ns)
  /-- RUN_OUT_COMPLETE (R230): A member's downstream neighbour has run out and is stopped. -/
  | runOutComplete (r : Fin 32) (i : Fin 16) (t : Ns)
  /-- BELT_SLIP (R233): Slip at or above slip_lim for t_slip declares BELT_SLIP. -/
  | beltSlip (i : Fin 64) (t : Ns)
  /-- AISLE_LINK_LOST (R241): No valid downstream subframe for aisle_timeout puts the aisle in SAFE. -/
  | aisleLinkLost (n : Fin 8) (t : Ns)
  /-- CORE_LINK_LOST (R242): No valid upstream subframe for aisle_timeout makes the core substitute failed inputs. -/
  | coreLinkLost (n : Fin 8) (t : Ns)
  /-- AISLE_POWER_UP (R243): AVL_n reaches 4.5 V and the aisle becomes UNCONFIGURED. -/
  | aislePowerUp (n : Fin 8) (t : Ns) (avl : Nat)
  /-- AVL_UNDERVOLTAGE (R240): AVL_n below 4.3 V resets the aisle. -/
  | avlUndervoltage (n : Fin 8) (t : Ns) (avl : Nat)
  /-- FIELD_UNDERVOLTAGE (R240): AVF_n below 18.0 V holds the aisle's DO stalls off. -/
  | fieldUndervoltage (n : Fin 8) (t : Ns) (avf : Nat)
  /-- FIELD_UNDERVOLTAGE_END (R240): AVF_n back at 18.5 V ends field undervoltage. -/
  | fieldUndervoltageEnd (n : Fin 8) (t : Ns) (avf : Nat)
  /-- AISLE_RESUME_CMD (R243): The resume op of AIS_CMD releases a SAFE aisle when the link holds. -/
  | aisleResumeCmd (n : Fin 8)
  /-- STALL_CONVERSION (R245): An analogue stall completes a conversion and classifies it. -/
  | stallConversion (s : Fin 128) (t : Ns) (r : StallReading)
  /-- DI_CLASS_CHANGE (R249): A DI class held for di_filt is accepted and stamped. -/
  | diClassChange (s : Fin 128) (t : Ns) (cls : DiClass)
  /-- CNT_EDGE (R250): A CNT stall counts and stamps a rising edge. -/
  | cntEdge (s : Fin 128) (t : Ns)
  /-- CNT_BREAK (R250): Current below 0.2 mA for 10 ms makes a CNT stall report BREAK. -/
  | cntBreak (s : Fin 128) (t : Ns)
  /-- DO_OVERLOAD_TRIP (R252): A DO current limit lasting 5 ms turns the switch off. -/
  | doOverloadTrip (s : Fin 128) (t : Ns)
  /-- DO_OVERLOAD_RETRY (R252): An overloaded DO commanded ON retries every 100 ms. -/
  | doOverloadRetry (s : Fin 128) (t : Ns) (limited : Bool)
  /-- DO_THERMAL_SHUTDOWN (R252): A DO switch reaching 160 °C turns off. -/
  | doThermalShutdown (s : Fin 128) (t : Ns)
  /-- DO_THERMAL_RECOVERY (R252): A DO switch below 140 °C turns on again. -/
  | doThermalRecovery (s : Fin 128) (t : Ns)
  /-- SUPPLY_LIMIT_RETRY (R244): A current-limited C supply retries every 100 ms. -/
  | supplyLimitRetry (s : Fin 128) (t : Ns) (limited : Bool)
  /-- SAFE_TABLE_CHECK (R256): Every 1 ms the aisle recomputes its safe table CRC. -/
  | safeTableCheck (n : Fin 8) (t : Ns) (ok : Bool)
  /-- SWEEP_START (R261): The sweep_start op begins a diagnostic sweep or is refused. -/
  | sweepStart (n : Fin 8)
  /-- SWEEP_ABORT (R262): The sweep_abort op ends a sweep. -/
  | sweepAbort (n : Fin 8)
  /-- AISLE_CLEAR_COUNTS (R267): The clear_counts op zeroes AIS_LINK and the aisle's STL_DIAG. -/
  | aisleClearCounts (n : Fin 8)
  /-- SWEEP_PULSE_END (R261): At the end of t_pulse the stall's sweep result is decided. -/
  | sweepPulseEnd (n : Fin 8) (t : Ns) (fault : Bool)
  /-- SWEEP_GAP_END (R261): After t_gap the sweep visits the next stall. -/
  | sweepGapEnd (n : Fin 8) (t : Ns)
  /-- CELL_COMMAND_FRAME (R272): A transmitter cell receives a command frame and regulates its target. -/
  | cellCommandFrame (n : Fin 16) (t : Ns) (r : CellReading)
  /-- CELL_TIMEOUT (R275): No valid command frame for cell_timeout sends the cell to ALARM. -/
  | cellTimeout (n : Fin 16) (t : Ns)
  /-- ALARM_LINE_ASSERT (R275): The alarm line appears and a QUIESCENT cell enters ALARM. -/
  | alarmLineAssert (n : Fin 16) (t : Ns)
  /-- ALARM_LINE_LOSS (R275): The alarm line is lost and the cell becomes QUIESCENT. -/
  | alarmLineLoss (n : Fin 16) (t : Ns)
  /-- TX_MISMATCH (R277): Readback differing by over 0.2 mA for 500 ms faults the port. -/
  | txMismatch (n : Fin 16) (t : Ns)
  /-- FORCED_TIMEOUT (R275): 600 s in FORCED returns the cell to DRIVE. -/
  | forcedTimeout (n : Fin 16) (t : Ns)
  /-- TX_RESET (R275): The reset op returns a FAULT port to DRIVE. -/
  | txReset (n : Fin 16)
  /-- TX_FORCE_4 (R275): The force_4 op forces 4 mA plus zero trim. -/
  | txForce4 (n : Fin 16)
  /-- TX_FORCE_20 (R275): The force_20 op forces 20 mA plus span trim. -/
  | txForce20 (n : Fin 16)
  /-- TX_RELEASE (R275): The release op ends a forced level. -/
  | txRelease (n : Fin 16)
  /-- TX_LOCK (R278): The lock op disables the trim buttons for the port. -/
  | txLock (n : Fin 16)
  /-- TX_UNLOCK (R278): The unlock op enables the trim buttons for the port. -/
  | txUnlock (n : Fin 16)
  /-- TRIM_SESSION_START (R278): A 3 s press of one trim button starts a trim session. -/
  | trimSessionStart (span : Bool) (t : Ns)
  /-- TRIM_SHORT_PRESS (R278): A short press steps the trim by 2 µA. -/
  | trimShortPress (up : Bool) (t : Ns)
  /-- TRIM_STORE (R278): Both buttons held for 3 s store the trim. -/
  | trimStore (t : Ns)
  /-- TRIM_SESSION_TIMEOUT (R278): 60 s without a press ends the session without storing. -/
  | trimSessionTimeout (t : Ns)
  /-- TRIM_SEL_CHANGE (R278): A change of TRIM_SEL ends the session without storing. -/
  | trimSelChange (sel : Fin 16) (t : Ns)
  /-- SOL_START (R284): A start begins, extends or queues an activation. -/
  | solStart (v : Fin 32) (h : Nat)
  /-- SOL_END (R284): An end command sets the activation's end or cancels a queue. -/
  | solEnd (v : Fin 32)
  /-- SOL_RESET (R286): The reset op clears a solenoid fault. -/
  | solReset (v : Fin 32)
  /-- SOL_CLEAR_COUNTS (R292): The clear_counts op zeroes SOL_COUNTS. -/
  | solClearCounts (v : Fin 32)
  /-- PEAK_END (R283): t_peak elapses and the activation enters hold or decay. -/
  | peakEnd (v : Fin 32) (t : Ns) (cur : F32)
  /-- HOLD_END (R283): The end E is reached and decay begins. -/
  | holdEnd (v : Fin 32) (t : Ns)
  /-- DECAY_END (R283): Coil current falls below i_zero and decay ends. -/
  | decayEnd (v : Fin 32) (t : Ns)
  /-- DECAY_TIMEOUT (R283): A decay longer than t_decay_max latches DECAY_TIMEOUT. -/
  | decayTimeout (v : Fin 32) (t : Ns)
  /-- SOL_OVERCURRENT (R286): Current above i_trip for 200 ns latches OVERCURRENT. -/
  | solOvercurrent (v : Fin 32) (t : Ns)
  /-- HOLD_LOW (R286): Hold current below 70 % for 10 ms latches HOLD_LOW. -/
  | holdLow (v : Fin 32) (t : Ns)
  /-- DUTY_CUT (R285): On-time reaching the duty limit cuts the activation. -/
  | dutyCut (v : Fin 32) (t : Ns)
  /-- SENSE_FAULT (R281): Shunt voltage out of range for 10 µs latches SENSE_FAULT. -/
  | senseFault (v : Fin 32) (t : Ns)
  /-- DATA_FRAME_RECEIVE (R309): A basket DATA frame is checked and its entries queued for admission. -/
  | dataFrameReceive (t : Ns) (h : FrameHdr) (es : List Entry)
  /-- CREDIT_FRAME_RECEIVE (R310): A CREDIT frame updates the producer's limit. -/
  | creditFrameReceive (t : Ns) (h : FrameHdr) (cs : List (Nat × Nat))
  /-- HELLO_FRAME_RECEIVE (R315): A HELLO updates heard devices and is checked for generation and ID. -/
  | helloFrameReceive (t : Ns) (h : FrameHdr) (i : HelloInfo)
  /-- CREDIT_REFRESH (R310): At least every 8 ms the receiver re-advertises each basket's limit. -/
  | creditRefresh (t : Ns)
  /-- HELLO_SEND (R315): Every device sends a hello every 100 ms. -/
  | helloSend (t : Ns)
  /-- PTP_SYNC (R298): A Sync from the grandmaster updates the servo and sync state. -/
  | ptpSync (t : Ns) (offset : Int) (hops : Fin 64)
  /-- PEER_DELAY_MEASURE (R296): Every 1 s the port measures peer link delay. -/
  | peerDelayMeasure (p : Fin 2) (t : Ns) (delay : Nat)
  /-- SYNC_TIMEOUT (R300): No valid Sync for 250 ms makes the device UNSYNCED. -/
  | syncTimeout (t : Ns) (becomesGm : Bool)
  /-- PPS_IN_EDGE (R297): A MKT_PPS_IN edge disciplines the grandmaster to TAI. -/
  | ppsInEdge (t : Ns)
  /-- PPS_MISSING (R297): Three missing or invalid PPS edges set tai_holdover. -/
  | ppsMissing (t : Ns)
  /-- PPS_OUT_SECOND (R302): MKT_PPS_OUT rises at each whole second of market time. -/
  | ppsOutSecond (t : Ns)
  /-- MARKET_TIME_STEP (R299): Market time steps at a frame boundary and frame numbering adjusts. -/
  | marketTimeStep (t : Ns)
  /-- DATAGRAM_READ (R314): An authenticated READ datagram returns register words. -/
  | datagramRead (t : Ns) (d : Dgram) (addr : Nat) (count : Nat)
  /-- DATAGRAM_WRITE (R314): An authenticated WRITE datagram applies register words in address order. -/
  | datagramWrite (t : Ns) (d : Dgram) (addr : Nat) (ws : List W32)
  /-- SWITCH (R316): A SWITCH datagram schedules a market change at instant S or is refused. -/
  | switch (t : Ns) (d : Dgram) (s : Nat) (gen : Nat) (op : SwOp) (subject : Nat) (hash : Nat)
  /-- SWITCH_INSTANT (R317): At t0 of F_S the patch, generation and membership change in one step. -/
  | switchInstant (t : Ns)
  /-- LEAVING_END (R318): At S plus 20 ms a LEAVING device becomes OUTSIDE and old generation ends. -/
  | leavingEnd (t : Ns)
  /-- PEER_MISSING (R321): 300 ms without hellos from a table device sets peer_missing. -/
  | peerMissing (id : Fin 1024) (t : Ns)
  /-- MKT_STEP_ACCEPT (R298): The step_accept op permits a backward step. -/
  | mktStepAccept
  /-- MKT_CLEAR_COUNTS (R323): The clear_counts op zeroes MKT_DISCARDS and MKT_DROPS. -/
  | mktClearCounts
  /-- TALLY_POST (R324): A TALLY_POST datagram arms a bank for instant T or is refused. -/
  | tallyPost (t : Ns) (d : Dgram) (num : W32) (inst : Nat)
  /-- TAL_POST (R324): The post op of TAL_CMD arms a bank from TAL_POST_T and TAL_POST_NUM. -/
  | talPost
  /-- TAL_ACK (R325): A write of N to TAL_ACK frees or cancels the bank holding N. -/
  | talAck (num : W32)
  /-- TALLY_LATCH (R325): At T every counter is latched into the armed bank. -/
  | tallyLatch (t : Ns)
  /-- EVENT_RECORD_COMMIT (R333): The recorder writes the next queued event with the next sequence number. -/
  | eventRecordCommit (t : Ns)
  /-- MRAM_TAIL_COMMIT (R335): A record or update is committed to the MRAM tail. -/
  | mramTailCommit (t : Ns) (ok : Bool)
  /-- EVR_CLEAR (R337): A write to EVR_CLEAR raises cleared-below and records the clear. -/
  | evrClear (v : W32)
  /-- EVENT_WINDOW_READ (R336): A read of word 0 of a window record latches the whole record. -/
  | eventWindowRead (j : Fin 256)
  /-- PAIR_LOW_WORD_READ (R7): A read of a 64-bit low word latches its high word for the request. -/
  | pairLowWordRead (addr : Nat)
  /-- PAIR_HIGH_WORD_WRITE (R463): A write of a 64-bit high word applies the pair or reports ACCESS_SPLIT. -/
  | pairHighWordWrite (addr : Nat) (v : W32)
  /-- CONTROL_FRAME_RECEIVE (R345): A CONTROL frame from the peer updates pair state, PAIR_ID checks and patch announcements. -/
  | controlFrameReceive (t : Ns) (h : PairHdr) (c : Control)
  /-- MIRROR_FRAME_RECEIVE (R347): A MIRROR frame delivers part of a mirror set. -/
  | mirrorFrameReceive (t : Ns) (h : PairHdr) (m : MirrorSet)
  /-- SET_APPLY (R348): At the next boundary the standby applies a complete mirror set. -/
  | setApply (t : Ns)
  /-- COPY_FRAME_RECEIVE (R366): A COPY frame delivers part of the full copy. -/
  | copyFrameReceive (t : Ns) (h : PairHdr) (m : MirrorSet)
  /-- COPY_COMPLETE (R366): The full copy completes and the unit enters SHADOW. -/
  | copyComplete (t : Ns) (ok : Bool)
  /-- COPY_RETRY (R366): 1 s after a failed copy the unit requests again. -/
  | copyRetry (t : Ns)
  /-- LANTERN_RECEIVE (R365): A lantern from the peer updates PAIR_PEER. -/
  | lanternReceive (t : Ns) (h : PairHdr) (l : Lantern)
  /-- LANTERN_SEND (R365): Every 10 ms the unit sends a lantern. -/
  | lanternSend (t : Ns)
  /-- SELF_DIAGNOSIS (R352): Every 1 ms the unit evaluates its findings. -/
  | selfDiagnosis (t : Ns)
  /-- LOCKSTEP_MISMATCH (R424): The management cores disagree and halt. -/
  | lockstepMismatch (t : Ns)
  /-- OWN_READBACK (R352): OWN_OUT differing from its command for 10 µs is a severe finding. -/
  | ownReadback (t : Ns) (land : Bool)
  /-- PEER_OWN_FALL (R357): A STANDBY registers PEER_OWN deasserted and begins the take-over wait or refuses. -/
  | peerOwnFall (t : Ns)
  /-- PEER_OWN_RISE (R357): PEER_OWN returns during the wait and the unit stays STANDBY. -/
  | peerOwnRise (t : Ns)
  /-- TAKEOVER_WAIT_END (R357): After 200 µs the standby asserts OWN_OUT. -/
  | takeoverWaitEnd (t : Ns)
  /-- TAKEOVER_T5 (R359): At the first boundary after the gate passes the new active takes over. -/
  | takeoverT5 (t : Ns)
  /-- COLLISION (R361): OWN_OUT and PEER_OWN together for over 1 µs close both gates; unit B releases. -/
  | collision (t : Ns)
  /-- COLLISION_TIMEOUT (R361): PEER_OWN still asserted 2 ms after a collision makes the unit FAILED. -/
  | collisionTimeout (t : Ns)
  /-- PAIR_CLAIM (R354): The claim op makes a spare unit ACTIVE when allowed. -/
  | pairClaim
  /-- PAIR_CEDE (R353): The cede op gives up control at the next evaluation when the peer is ready. -/
  | pairCede
  /-- PAIR_RESET (R354): The reset op returns a FAILED unit to SPARE. -/
  | pairReset
  /-- PAIR_RESYNC (R354): The resync op discards the copy and returns to SPARE WAIT. -/
  | pairResync
  /-- PAIR_CLEAR_COUNTS (R370): The clear_counts op zeroes the pair compare, wick and CRC counts. -/
  | pairClearCounts
  /-- AUTO_CLAIM (R354): After claim_wait with auto_claim a spare unit claims. -/
  | autoClaim (t : Ns)
  /-- SHADOW_COMPLETE (R354): 10 s of shadowing without mismatch makes the unit STANDBY. -/
  | shadowComplete (t : Ns)
  /-- PAIR_LINK_SILENCE (R352): No valid frame from the peer for 2 ms is a PAIR_LINK finding. -/
  | pairLinkSilence (t : Ns)
  /-- SELFTEST_STAGE (R362): A standby tests one output stage or memory region. -/
  | selftestStage (t : Ns) (stage : TestStage) (ok : Bool)
  /-- STREAM_CHUNK (R381): A STREAM_CHUNK datagram stores patch data in staging. -/
  | streamChunk (t : Ns) (d : Dgram) (offset : Nat) (first : Bool) (data : List Byte)
  /-- HLD_VALIDATE (R381): The validate op starts validation of the staged patch. -/
  | hldValidate
  /-- VALIDATION_COMPLETE (R377): Validation ends with the patch VALID or a rejection code. -/
  | validationComplete (t : Ns) (img : StreamImg)
  /-- HLD_APPLY (R382): The apply op makes a VALID patch PENDING for frame F_a. -/
  | hldApply
  /-- HLD_CANCEL (R382): The cancel op returns a PENDING patch to VALID. -/
  | hldCancel
  /-- HLD_PERSIST (R387): The persist op appends the applied patch to the active bank. -/
  | hldPersist
  /-- HLD_DISCARD (R389): The discard op empties the staged patch. -/
  | hldDiscard
  /-- PATCH_REVALIDATE (R382): At t4 of F_a minus 1 the pending patch is revalidated. -/
  | patchRevalidate (t : Ns)
  /-- PATCH_APPLY (R383): At t0 of F_a the patch replaces sections and takes the new hash. -/
  | patchApply (t : Ns)
  /-- POWER_GOOD (R393): All core rails are in range with VAUX present and the boot begins. -/
  | powerGood (t : Ns) (inOrder : Bool)
  /-- CORE_PLL_LOCK (R393): The core PLL and SerDes reference lock and the core leaves reset. -/
  | corePllLock (t : Ns) (otpOk : Bool)
  /-- FIRMWARE_SELECT (R429): The ROM verifies and boots a firmware bank or falls back. -/
  | firmwareSelect (t : Ns)
  /-- DRAM_TRAINED (R393): DRAM is trained, memories cleared and the event ring restored. -/
  | dramTrained (t : Ns)
  /-- STREAM_LOAD (R378): The FULL stream of the active bank is read and validated. -/
  | streamLoad (t : Ns)
  /-- PATCH_CHAIN_APPLY (R378): Stored patches are validated and applied in order. -/
  | patchChainApply (t : Ns)
  /-- STREAM_COMMIT (R379): The validated structure is committed in one step. -/
  | streamCommit (t : Ns)
  /-- RESTORE_COMPLETE (R393): Column restore completes and aisles are configured. -/
  | restoreComplete (t : Ns)
  /-- OUTPUT_ENABLE (R394): Outputs are enabled when all conditions hold. -/
  | outputEnable (t : Ns)
  /-- AUX_POR (R396): VAUX rises through 3.0 V and the always-on domain resets. -/
  | auxPor (t : Ns) (straps : Fin 32)
  /-- SYS_RESET (R396): SYS_RESET_N low for 10 µs resets the management processor and core. -/
  | sysReset (t : Ns) (straps : Fin 32)
  /-- CORE_POWER_RETURN (R396): Core rails return while VAUX is held. -/
  | corePowerReturn (t : Ns)
  /-- SNF_SNUFF (R401): The snuff op triggers the snuffer with cause COMMAND. -/
  | snfSnuff
  /-- SNF_RELEASE (R406): The release op releases the snuffer when no condition holds. -/
  | snfRelease
  /-- SNF_CORE_RESET (R396): The core_reset op performs CORE_RESET. -/
  | snfCoreReset
  /-- SNF_DORMANT (R398): The dormant op begins dormant entry or is refused. -/
  | snfDormant
  /-- DORMANT_ENTRY_COMPLETE (R398): Checkpoints and tail written, core supplies switched off. -/
  | dormantEntryComplete (t : Ns)
  /-- WAKE_TIMER (R399): The wake timer expires and the device wakes. -/
  | wakeTimer (t : Ns)
  /-- WAKE_WICK (R399): A named wick moves wake_ticks and the device wakes. -/
  | wakeWick (w : Fin 64) (t : Ns)
  /-- SAFE_N_ASSERT (R401): SAFE_N low triggers the snuffer. -/
  | safeNAssert (t : Ns)
  /-- PWR_FAIL_N_ASSERT (R401): PWR_FAIL_N low triggers the snuffer. -/
  | pwrFailNAssert (t : Ns)
  /-- SUPPLY_FAULT (R401): A rail outside its window for 10 µs triggers the snuffer. -/
  | supplyFault (t : Ns) (rail : Rail) (mv : Nat)
  /-- SNUFFER_BASKET_COMMAND (R401): A message to the snuffer command basket triggers the snuffer. -/
  | snufferBasketCommand (t : Ns)
  /-- SHUTDOWN_RECORD_COMMIT (R405): The shutdown record is committed to its MRAM slot. -/
  | shutdownRecordCommit (t : Ns)
  /-- WATCHDOG_RESTART (R407): The firmware restarts the watchdog after its checks pass. -/
  | watchdogRestart (t : Ns)
  /-- WATCHDOG_EXPIRY (R407): The watchdog expires, triggers the snuffer and may reset the core. -/
  | watchdogExpiry (t : Ns)
  /-- THERMAL_CONVERSION (R410): A die or diode sensor converts and its checked value is formed. -/
  | thermalConversion (i : Fin 32) (t : Ns) (r : TempReading)
  /-- THERMAL_RESTART (R414): 60 s of cooling releases the snuffer and restarts the core. -/
  | thermalRestart (t : Ns)
  /-- IMAGE_CHUNK (R433): An IMAGE_CHUNK datagram stores image data in staging. -/
  | imageChunk (t : Ns) (d : Dgram) (offset : Nat) (first : Bool) (data : List Byte)
  /-- IMG_VALIDATE (R434): The img_validate op checks the staged image. -/
  | imgValidate
  /-- IMG_LOAD (R434): The img_load op writes a VALID image into the inactive bank. -/
  | imgLoad
  /-- IMG_LOAD_COMPLETE (R428): The bank is read back and marked VALID, or FLASH reported. -/
  | imgLoadComplete (t : Ns) (ok : Bool)
  /-- IMG_ACTIVATE (R435): The img_activate op makes the loaded bank active and resets the core. -/
  | imgActivate
  /-- IMG_DISCARD (R441): The img_discard op empties the staging area. -/
  | imgDiscard
  /-- TRIAL_CONFIRM (R435): A TRIAL firmware running 10 s past t2 becomes CONFIRMED. -/
  | trialConfirm (t : Ns)
  /-- RAISE_FLOOR_FW (R432): The raise_floor_fw op raises the firmware floor. -/
  | raiseFloorFw
  /-- RAISE_FLOOR_STREAM (R432): The raise_floor_stream op raises the stream floor. -/
  | raiseFloorStream
  /-- KEY_INSTALL (R436): The key_install op unwraps and installs a market key. -/
  | keyInstall (slot : Fin 4) (keyId : Fin 256) (level : Fin 4) (auth : Fin 4)
  /-- KEY_REMOVE (R436): The key_remove op empties a market key slot. -/
  | keyRemove (slot : Fin 4)
  /-- ENROL (R431): The enrol op writes a stream key into an empty OTP slot. -/
  | enrol (slot : Fin 8)
  /-- REVOKE (R431): The revoke op blows a slot's revocation fuse. -/
  | revoke (slot : Fin 8)
  /-- ATTEST (R438): The attest op signs a statement with the identity key. -/
  | attest
  /-- SUMMARY_WRITE (R449): After each second the device writes a summary into the summary tier. -/
  | summaryWrite (t : Ns)
  /-- KEYFRAME_CAPTURE (R447): At every kf_s seconds a keyframe of engine state is captured. -/
  | keyframeCapture (t : Ns)
  /-- WAX_FREEZE (R450): The freeze op copies a keyframe and segments into staging. -/
  | waxFreeze
  /-- FREEZE_COMPLETE (R451): The frozen copy completes and is signed. -/
  | freezeComplete (t : Ns) (overtaken : Bool)
  /-- WAX_EXPORT (R452): The export op starts sending a range as WAX_DATA datagrams. -/
  | waxExport (sender : Nat)
  /-- EXPORT_DATAGRAM_SEND (R452): At exp_rate the device sends the next WAX_DATA datagram. -/
  | exportDatagramSend (t : Ns)
  /-- WAX_EXPORT_STOP (R460): The export_stop op ends an export. -/
  | waxExportStop
  /-- WAX_DATA_IMPORT (R452): A WAX_DATA datagram with source 2 stores import data. -/
  | waxDataImport (t : Ns) (d : Dgram) (offset : Nat) (data : List Byte)
  /-- WAX_IMPORT_DONE (R452): The import_done op checks and freezes the imported image. -/
  | waxImportDone (img : Option Frozen)
  /-- WAX_DISCARD (R460): The discard op empties the staging region. -/
  | waxDiscard
  /-- RLT_PREPARE (R453): The prepare op checks the frozen image and builds a relight context. -/
  | rltPrepare
  /-- RLT_RUN (R454): The run op starts relighting frames. -/
  | rltRun
  /-- RLT_PAUSE (R454): The pause op stops at the end of the current frame. -/
  | rltPause
  /-- RLT_STEP (R454): The step op relights one frame. -/
  | rltStep
  /-- RLT_ABORT (R455): The abort op discards the relight context. -/
  | rltAbort
  /-- RELIGHT_FRAME (R454): A recorded frame is replayed and its output digest compared. -/
  | relightFrame (t : Ns)
  /-- DULO_HELP (R458): The help command lists the monitor commands. -/
  | duloHelp (t : Ns)
  /-- DULO_ID (R458): The id command reports identity and versions. -/
  | duloId (t : Ns)
  /-- DULO_STATUS (R458): The status command reports the main status registers. -/
  | duloStatus (t : Ns)
  /-- DULO_RD (R458): The rd command reads registers. -/
  | duloRd (t : Ns) (addr : Nat) (count : Nat)
  /-- DULO_EVR (R458): The evr command lists the newest event records. -/
  | duloEvr (t : Ns) (count : Nat)
  /-- DULO_SNUFF (R458): The snuff command triggers the snuffer. -/
  | duloSnuff (t : Ns)
  /-- DULO_BAUD (R457): The baud command changes the line rate after its ok. -/
  | duloBaud (t : Ns) (rate : Nat)
  /-- DULO_LATCH (R458): The latch command takes the service latch with the serial number. -/
  | duloLatch (t : Ns) (serial : List Byte)
  /-- DULO_UNLATCH (R458): The unlatch command ends the service latch. -/
  | duloUnlatch (t : Ns)
  /-- DULO_WR (R458): The wr command writes a register. -/
  | duloWr (t : Ns) (addr : Nat) (v : W32)
  /-- DULO_RELEASE (R458): The release command releases the snuffer. -/
  | duloRelease (t : Ns)
  /-- DULO_RESET (R458): The reset command performs CORE_RESET. -/
  | duloReset (t : Ns)
  /-- DULO_WAKE (R458): The wake command wakes a dormant device. -/
  | duloWake (t : Ns)
  /-- DULO_LOAD (R459): The load command starts a binary transfer. -/
  | duloLoad (t : Ns) (kind : LoadKind)
  /-- DULO_BINARY_BLOCK (R459): A binary block is checked and acknowledged or ends the transfer. -/
  | duloBinaryBlock (t : Ns) (offset : Nat) (data : List Byte) (crc : W32)
  /-- DULO_VALIDATE (R458): The validate command runs img_validate. -/
  | duloValidate (t : Ns)
  /-- DULO_ACTIVATE (R458): The activate command runs img_activate. -/
  | duloActivate (t : Ns)
  /-- DULO_KEY (R458): The key command installs a plain market key. -/
  | duloKey (t : Ns) (slot : Fin 4) (keyId : Fin 256) (level : Fin 4)
  /-- DULO_BREAK (R457): A BREAK on MON_RXD returns the line to 115,200 bit/s. -/
  | duloBreak (t : Ns)
  /-- DULO_LATCH_TIMEOUT (R458): 15 min without a character ends the service latch. -/
  | duloLatchTimeout (t : Ns)
  /-- HOST_SILENCE_EXPIRY (R466): The host-silence timeout expires and silent is set. -/
  | hostSilenceExpiry (t : Ns)
  /-- NOTICE_NEW (R468): A new enabled pending bit sends a NOTICE outside the holdoff. -/
  | noticeNew (t : Ns)
  /-- NOTICE_HOLDOFF_END (R468): At the holdoff's end a NOTICE is sent for bits that became new during it. -/
  | noticeHoldoffEnd (t : Ns)
  /-- NOTICE_REPEAT (R468): notice_repeat after the last NOTICE with bits still pending sends a repeat. -/
  | noticeRepeat (t : Ns)
  /-- REGISTER_WRITE (R8): A write to a register without its own row applies each field by its access code. -/
  | registerWrite (addr : Nat) (v : W32)
  /-- MEMORY_ECC_ERROR (R21): An access or the background DRAM scrub finds a corrected or uncorrectable ECC error, which is counted and recorded or marks a wax interval damaged. -/
  | memoryEccError (t : Ns) (r : EccRegion) (corrected : Bool)
  /-- LOOP_POWER_CHANGE (R270): A transmitter cell's loop supply appears or disappears, powering the cell into QUIESCENT or ALARM or leaving it dead. -/
  | loopPowerChange (n : Fin 16) (t : Ns) (on : Bool)
  /-- CELL_STATUS_SILENT (R277): The core receives no upstream cell status for cell_timeout and sets cell_silent. -/
  | cellStatusSilent (n : Fin 16) (t : Ns)
  /-- PORT_LINK_CHANGE (R293): A SerDes port P0 or P1 brings its link up at 1000 Mb/s full duplex, or loses it. -/
  | portLinkChange (p : Fin 2) (t : Ns) (up : Bool)
  /-- BRIDGE_FRAME_FORWARD (R294): The bridge takes a frame not addressed to this device and forwards, floods or discards it by the market table, address table and VLAN. -/
  | bridgeFrameForward (t : Ns) (f : BridgeFrame)
  /-- ADDRESS_AGEING (R294): A learned address-table entry reaches its 300 s ageing time and is removed. -/
  | addressAgeing (t : Ns) (mac : Nat)
  /-- ARP_ICMP_REQUEST (R295): The device receives an ARP, IPv6 neighbour solicitation or ICMP echo request and answers from its unicast MAC. -/
  | arpIcmpRequest (t : Ns) (kind : IpKind) (ip : Nat)
  /-- SAFE_N_DEASSERT (R406): SAFE_N returns high, its holding bit clears and release or output enable becomes possible. -/
  | safeNDeassert (t : Ns)
  /-- PWR_FAIL_N_DEASSERT (R406): PWR_FAIL_N returns high, its holding bit clears and release or output enable becomes possible. -/
  | pwrFailNDeassert (t : Ns)
  /-- PMBUS_POWER_READ (R423): Every 1 s the device reads the input power of the named PMBus supplies into THR_POWER. -/
  | pmbusPowerRead (t : Ns) (p : Nat)
  /-- IMG_VALIDATE_COMPLETE (R434): Validation of a staged firmware image or FULL stream ends with the staging VALID or a rejection code. -/
  | imgValidateComplete (t : Ns) (fw : Option FwImage) (str : Option StreamImg)
  /-- PERSIST_COMPLETE (R387): The flash write of an applied patch into the active bank completes, the persisted count rises and unpersisted clears. -/
  | persistComplete (t : Ns) (ok : Bool)
  /-- KEYFRAME_COMPLETE (R447): A keyframe finishes within 100 ms of its capture and becomes usable, or sets keyframe_fault. -/
  | keyframeComplete (t : Ns) (frame : Nat) (ok : Bool)
  deriving DecidableEq, Repr

end Sys2Proof
end

