-- ==== Sys2Proof/Decode.lean ====
section
/-!
DEFINITION. Words to commands. No row of the table of operations and events gives bits: the block takes its commands from
datagrams, registers, frames and lands, and no word spells one.
-/
namespace Sys2Proof

/-- The command that a word spells: none, since no row of the table has bits. -/
def decodeTableWord (_nbits _w : Nat) : Option Instr := none

end Sys2Proof
end

