-- ==== Sys2Proof/Machine/Float.lean ====
section
/-!
DEFINITION. The engines' binary32 arithmetic (R170): rounding to nearest, ties to even; no fused operations; subnormal
operands and results are flushed to zero keeping the sign; every NaN result is 0x7FC0_0000; no traps.
-/
namespace Sys2Proof.Machine

open Sys2Proof

/-- A binary32 operand taken apart. `fin s m e` stands for ±m × 2^e. -/
inductive FUnp where
  | nan
  | inf (s : Bool)
  | fin (s : Bool) (m : Nat) (e : Int)
  deriving DecidableEq, Repr

/-- The one NaN the engines produce (R170). -/
def fNaN : F32 := 0x7FC00000#32
/-- Infinity of sign s. -/
def fInf (s : Bool) : F32 := if s then 0xFF800000#32 else 0x7F800000#32
/-- Zero of sign s. -/
def fZero (s : Bool) : F32 := if s then 0x80000000#32 else 0x00000000#32

/-- Takes a pattern apart; a subnormal operand counts as zero of its sign (R170). -/
def fUnp (x : F32) : FUnp :=
  let s := bit x 31
  let ex := fld x 23 8
  let fr := fld x 0 23
  if ex = 255 then (if fr = 0 then .inf s else .nan)
  else if ex = 0 then .fin s 0 0
  else .fin s (2 ^ 23 + fr) ((ex : Int) - 150)

/-- Rounds ±(m + a little when sticky) × 2^e to binary32, nearest even, flushing subnormal results (R170). -/
def fRound (s : Bool) (m : Nat) (e : Int) (sticky : Bool) : F32 :=
  if m = 0 then fZero s
  else
    let m2 := 2 * m + (if sticky then 1 else 0)
    let l := m2.log2
    let m3 := if l < 26 then m2 <<< (26 - l) else m2
    let e3 : Int := if l < 26 then e - 1 - ((26 - l : Nat) : Int) else e - 1
    let sh := m3.log2 - 23
    let q := m3 >>> sh
    let r := m3 % 2 ^ sh
    let half := 2 ^ (sh - 1)
    let q' := if r > half ∨ (r = half ∧ q % 2 = 1) then q + 1 else q
    let q2 := if q' = 2 ^ 24 then 2 ^ 23 else q'
    let e2 : Int := e3 + (sh : Int) + (if q' = 2 ^ 24 then 1 else 0)
    let be : Int := e2 + 150
    if be ≥ 255 then fInf s
    else if be ≤ 0 then fZero s
    else BitVec.ofNat 32 ((if s then 2 ^ 31 else 0) + be.toNat * 2 ^ 23 + (q2 - 2 ^ 23))

/-- ±n × 2^e from a signed significand. -/
def fRoundI (n : Int) (e : Int) (zs : Bool) : F32 :=
  if n = 0 then fZero zs else fRound (decide (n < 0)) n.natAbs e false

/-- Negation (flips the sign bit; a NaN stays the NaN). -/
def fNeg (x : F32) : F32 :=
  match fUnp x with
  | .nan => fNaN
  | .inf s => fInf (!s)
  | .fin s m _ => if m = 0 then fZero (!s) else x ^^^ 0x80000000#32

/-- Absolute value. -/
def fAbs (x : F32) : F32 :=
  match fUnp x with
  | .nan => fNaN
  | .inf _ => fInf false
  | .fin _ m _ => if m = 0 then fZero false else x &&& 0x7FFFFFFF#32

/-- Sum (R170). -/
def fAdd (x y : F32) : F32 :=
  match fUnp x, fUnp y with
  | .nan, _ => fNaN
  | _, .nan => fNaN
  | .inf a, .inf b => if a = b then fInf a else fNaN
  | .inf a, _ => fInf a
  | _, .inf b => fInf b
  | .fin sa ma ea, .fin sb mb eb =>
    let e := if ea ≤ eb then ea else eb
    let na : Int := (ma * 2 ^ (ea - e).toNat : Nat)
    let nb : Int := (mb * 2 ^ (eb - e).toNat : Nat)
    let n : Int := (if sa then -na else na) + (if sb then -nb else nb)
    fRoundI n e (sa && sb && decide (n = 0))

/-- Difference. -/
def fSub (x y : F32) : F32 := fAdd x (fNeg y)

/-- Product. -/
def fMul (x y : F32) : F32 :=
  match fUnp x, fUnp y with
  | .nan, _ => fNaN
  | _, .nan => fNaN
  | .inf a, .inf b => fInf (a != b)
  | .inf a, .fin b m _ => if m = 0 then fNaN else fInf (a != b)
  | .fin a m _, .inf b => if m = 0 then fNaN else fInf (a != b)
  | .fin sa ma ea, .fin sb mb eb => fRound (sa != sb) (ma * mb) (ea + eb) false

/-- Quotient. -/
def fDiv (x y : F32) : F32 :=
  match fUnp x, fUnp y with
  | .nan, _ => fNaN
  | _, .nan => fNaN
  | .inf _, .inf _ => fNaN
  | .inf a, .fin b _ _ => fInf (a != b)
  | .fin a _ _, .inf b => fZero (a != b)
  | .fin sa ma ea, .fin sb mb eb =>
    if mb = 0 then (if ma = 0 then fNaN else fInf (sa != sb))
    else
      let n := ma * 2 ^ 50
      fRound (sa != sb) (n / mb) (ea - eb - 50) (decide (n % mb ≠ 0))

/-- The exact order of two numbers: none when one of them is a NaN. -/
def fCmp (x y : F32) : Option Ordering :=
  match fUnp x, fUnp y with
  | .nan, _ => none
  | _, .nan => none
  | .inf a, .inf b => some (if a = b then .eq else if a then .lt else .gt)
  | .inf a, _ => some (if a then .lt else .gt)
  | _, .inf b => some (if b then .gt else .lt)
  | .fin sa ma ea, .fin sb mb eb =>
    let e := if ea ≤ eb then ea else eb
    let na : Int := (ma * 2 ^ (ea - e).toNat : Nat)
    let nb : Int := (mb * 2 ^ (eb - e).toNat : Nat)
    some (compare (if sa then -na else na) (if sb then -nb else nb))

/-- x < y (false on a NaN). -/
def fLt (x y : F32) : Bool := fCmp x y == some .lt
/-- x ≤ y (false on a NaN). -/
def fLe (x y : F32) : Bool := fCmp x y == some .lt || fCmp x y == some .eq
/-- x = y as numbers. -/
def fEq (x y : F32) : Bool := fCmp x y == some .eq
/-- Whether the pattern is a NaN. -/
def fIsNaN (x : F32) : Bool := fUnp x == .nan
/-- Whether the pattern is a finite number. -/
def fFinite (x : F32) : Bool := match fUnp x with | .fin _ _ _ => true | _ => false

/-- A number as a result: a subnormal is zero of its sign, a NaN the one NaN (R170). -/
def fFlush (x : F32) : F32 :=
  match fUnp x with
  | .nan => fNaN
  | .inf s => fInf s
  | .fin s m _ => if m = 0 then fZero s else x

/-- The smaller of two. -/
def fMin (x y : F32) : F32 := fFlush (if fLe x y then x else y)
/-- The larger of two. -/
def fMax (x y : F32) : F32 := fFlush (if fLe y x then x else y)
/-- x held within lo and hi. -/
def fClamp (lo hi x : F32) : F32 := fMin hi (fMax lo x)

/-- The nearest binary32 to an integer. -/
def fOfInt (n : Int) : F32 := fRoundI n 0 false
/-- The nearest binary32 to a natural number. -/
def fOfNat (n : Nat) : F32 := fRound false n 0 false
/-- The nearest binary32 to n / d. -/
def fRat (n : Int) (d : Nat) : F32 :=
  if n = 0 then fZero false
  else fRound (decide (n < 0)) (n.natAbs * 2 ^ 200 / d) (-200) (decide (n.natAbs * 2 ^ 200 % d ≠ 0))

/-- The value as an integer, rounded toward minus infinity; 0 for a NaN or an infinity. -/
def fFloor (x : F32) : Int :=
  match fUnp x with
  | .fin s m e =>
    let n : Int := if s then -(m : Int) else (m : Int)
    if e ≥ 0 then n * (2 ^ e.toNat : Nat) else Int.fdiv n (2 ^ (-e).toNat : Nat)
  | _ => 0

/-- The value rounded to the nearest integer, halves to even; 0 for a NaN or an infinity. -/
def fToInt (x : F32) : Int :=
  match fUnp x with
  | .fin s m e =>
    let n : Int := if s then -(m : Int) else (m : Int)
    if e ≥ 0 then n * (2 ^ e.toNat : Nat)
    else
      let d : Nat := 2 ^ (-e).toNat
      let q := Int.fdiv n d
      let r := 2 * (n - q * d)
      if r > (d : Int) ∨ (r = (d : Int) ∧ q % 2 = 1) then q + 1 else q
  | _ => 0

/-- Truncation toward zero. -/
def fTrunc (x : F32) : Int :=
  match fUnp x with
  | .fin s m e =>
    let a : Int := if e ≥ 0 then m * (2 ^ e.toNat : Nat) else ((m / 2 ^ (-e).toNat : Nat) : Int)
    if s then -a else a
  | _ => 0

/-- The value times k, rounded to the nearest integer and saturated to n bits unsigned. -/
def fScaleSat (x k : F32) (n : Nat) : Nat := sat n (fToInt (fMul x k)).toNat

end Sys2Proof.Machine
end

