-- ==== Sys2Proof/Machine/RealFn.lean ====
section
/-!
DEFINITION. The library's exp, log, sqrt, pow, sin, cos and atan2 (R170). The spec bounds each within 1 or 2 ulp and does not give the bits
of its one fixed algorithm: they are free functions (`Config.libExp` and the others), taken as they are where they keep the bound and the
rules of R170, and rounded from the exact value where they do not. The exact values stand in fixed point with 400 fraction bits. Where the
operand has no exact value (the logarithm of 0 or of a negative number, an infinity), the spec states no result, and the free one is
taken with its subnormals flushed and its NaN made the one NaN (log entry 5).
-/
namespace Sys2Proof.Machine

open Sys2Proof

/-! ## Fixed point -/

/-- A number of 400 fraction bits. -/
abbrev Fx := Int

/-- 1. -/
def fxOne : Fx := 2 ^ 400
/-- A product. -/
def fxMul (a b : Fx) : Fx := Int.fdiv (a * b) fxOne
/-- A quotient. -/
def fxDiv (a b : Fx) : Fx := Int.fdiv (a * fxOne) b
/-- m × 2^e, cut below the last fraction bit. -/
def fxOf (neg : Bool) (m : Nat) (e : Int) : Fx :=
  let n : Nat := if 0 ≤ e + 400 then m * 2 ^ (e + 400).toNat else m / 2 ^ (-(e + 400)).toNat
  if neg then -(n : Int) else (n : Int)

/-- Sum of a series whose term i + 1 is term i times x, divided by d (i + 1): t + t x / d 1 + .... -/
def fxSeries (x : Fx) (d : Nat → Nat) (n i : Nat) (t : Fx) : Fx :=
  match n with
  | 0 => t
  | n + 1 => t + fxSeries x d n (i + 1) (Int.fdiv (fxMul t x) (d (i + 1)))

/-- The arc tangent series x - x³/3 + x⁵/5 - ... for |x| below 1/2: `t` is the present power. -/
def fxAtanSum (x2 : Fx) (n i : Nat) (t : Fx) : Fx :=
  match n with
  | 0 => 0
  | n + 1 => Int.fdiv t (2 * i + 1) - fxAtanSum x2 n (i + 1) (fxMul t x2)

/-- Arc tangent of a number below 1/2. -/
def fxAtanSmall (x : Fx) : Fx := fxAtanSum (fxMul x x) 210 0 x

/-- π (Machin's formula). -/
def fxPi : Fx := 16 * fxAtanSmall (Int.fdiv fxOne 5) - 4 * fxAtanSmall (Int.fdiv fxOne 239)

/-- Natural logarithm of 1 + z over 1 - z: twice the series z + z³/3 + .... -/
def fxLogSum (z2 : Fx) (n i : Nat) (t : Fx) : Fx :=
  match n with
  | 0 => 0
  | n + 1 => Int.fdiv t (2 * i + 1) + fxLogSum z2 n (i + 1) (fxMul t z2)

/-- Natural logarithm of a number of 1 to 2. -/
def fxLog12 (x : Fx) : Fx :=
  let z := fxDiv (x - fxOne) (x + fxOne)
  2 * fxLogSum (fxMul z z) 140 0 z

/-- ln 2. -/
def fxLn2 : Fx := fxLog12 (2 * fxOne)

/-- The integer square root, bit by bit from 2^k down. -/
def isqrtFrom (n k r : Nat) : Nat :=
  match k with
  | 0 => if (r + 1) * (r + 1) ≤ n then r + 1 else r
  | k + 1 => isqrtFrom n k (if (r + 2 ^ (k + 1)) * (r + 2 ^ (k + 1)) ≤ n then r + 2 ^ (k + 1) else r)

/-- The integer square root. -/
def isqrt (n : Nat) : Nat := isqrtFrom n (n.log2 / 2 + 1) 0

/-- Arc tangent of a number of 0 to 1: halved twice, then the series. -/
def fxAtan (x : Fx) : Fx :=
  let half := fun (y : Fx) => fxDiv y (fxOne + (isqrt ((fxOne * fxOne + y * y).toNat) : Int))
  4 * fxAtanSmall (half (half x))

/-! ## Exact values -/

/-- An exact value up to its last bits: ±m × 2^e. -/
structure Exact where
  neg : Bool
  m : Nat
  e : Int
  deriving DecidableEq, Repr

/-- A fixed-point number times 2^e. -/
def Exact.of (x : Fx) (e : Int) : Exact := { neg := decide (x < 0), m := x.natAbs, e := e - 400 }

/-- e^x: 2^k times e^r with r below ln 2. -/
def exactExp (x : Fx) : Exact :=
  let k := Int.fdiv x fxLn2
  Exact.of (fxSeries (x - k * fxLn2) id 90 0 fxOne) k

/-- Natural logarithm of m × 2^e. -/
def fxLog (m : Nat) (e : Int) : Fx :=
  let l := m.log2
  fxLog12 (fxOf false m (-(l : Int))) + (e + l) * fxLn2

/-- Sine of x + q quarter turns. -/
def fxSin (x : Fx) (q : Nat) : Fx :=
  let h := Int.fdiv fxPi 2
  let k := Int.fdiv x h
  let r := x - k * h
  let r2 := -(fxMul r r)
  let sinR := fxSeries r2 (fun i => 2 * i * (2 * i + 1)) 60 0 r
  let cosR := fxSeries r2 (fun i => (2 * i - 1) * (2 * i)) 60 0 fxOne
  match ((k + q) % 4).toNat with
  | 0 => sinR
  | 1 => cosR
  | 2 => -sinR
  | _ => -cosR

/-- The angle of the point (x, y). -/
def fxAngle (y x : Fx) : Fx :=
  let a : Fx := y.natAbs
  let b : Fx := x.natAbs
  let t := if a ≤ b then fxAtan (fxDiv a b) else Int.fdiv fxPi 2 - fxAtan (fxDiv b a)
  let u := if x < 0 then fxPi - t else t
  if y < 0 then -u else u

/-! ## The bound (R170) -/

/-- A result lies within n ulp of the exact value: n units of the last place of its binade, an infinity from n units below the largest number
on, a zero below the smallest one. -/
def withinUlp (n : Nat) (v : Exact) (r : F32) : Bool :=
  let top : Int := v.e + v.m.log2
  match fUnp r with
  | .nan => false
  | .inf s => s == v.neg && (decide (128 ≤ top) || (decide (127 ≤ top) && decide ((2 ^ 24 - n) * 2 ^ v.m.log2 ≤ v.m * 2 ^ 23)))
  | .fin s m e =>
    if v.m = 0 then m == 0
    else if m = 0 then decide (top < -126)
    else if 128 ≤ top ∨ top < -127 then false
    else
      let lo : Int := min e (min v.e (top - 23))
      let a : Int := (m * 2 ^ (e - lo).toNat : Nat)
      let b : Int := (v.m * 2 ^ (v.e - lo).toNat : Nat)
      let u : Nat := 2 ^ (top - 23 - lo).toNat
      decide (((if s then -a else a) - (if v.neg then -b else b)).natAbs ≤ n * u)

/-- A library result: the free bits where they keep the bound, else the exact value rounded. -/
def libResult (n : Nat) (v : Exact) (raw : F32) : F32 :=
  let r := fFlush raw
  if withinUlp n v r then r else fRound v.neg v.m v.e true

/-! ## The functions -/

/-- exp, within 1 ulp. -/
def fExp (x : F32) : F32 :=
  match fUnp x with
  | .nan => fNaN
  | .inf s => if s then fZero false else fInf false
  | .fin s m e =>
    if m ≠ 0 ∧ 8 ≤ e + 23 then (if s then fZero false else fInf false)
    else libResult 1 (exactExp (fxOf s m e)) (Config.libExp x)

/-- The natural logarithm, within 1 ulp. -/
def fLog (x : F32) : F32 :=
  match fUnp x with
  | .nan => fNaN
  | .fin false m e => if m = 0 then fFlush (Config.libLog x) else libResult 1 (Exact.of (fxLog m e) 0) (Config.libLog x)
  | _ => fFlush (Config.libLog x)

/-- The square root, within 1 ulp. -/
def fSqrt (x : F32) : F32 :=
  match fUnp x with
  | .nan => fNaN
  | .fin false m e =>
    let sh : Nat := if e % 2 = 0 then 200 else 201
    libResult 1 { neg := false, m := isqrt (m * 2 ^ sh), e := (e - sh) / 2 } (Config.libSqrt x)
  | _ => fFlush (Config.libSqrt x)

/-- x to the power y, within 2 ulp. -/
def fPow (x y : F32) : F32 :=
  match fUnp x, fUnp y with
  | .nan, _ => fNaN
  | _, .nan => fNaN
  | .fin false m e, .fin t n f =>
    if m = 0 then fFlush (Config.libPow x y)
    else
      let p := fxMul (fxLog m e) (fxOf t n f)
      if 200 * fxOne < p then fInf false
      else if p < -200 * fxOne then fZero false
      else libResult 2 (exactExp p) (Config.libPow x y)
  | _, _ => fFlush (Config.libPow x y)

/-- The sine, within 2 ulp. -/
def fSin (x : F32) : F32 :=
  match fUnp x with
  | .nan => fNaN
  | .fin s m e => libResult 2 (Exact.of (fxSin (fxOf s m e) 0) 0) (Config.libSin x)
  | .inf _ => fFlush (Config.libSin x)

/-- The cosine, within 2 ulp. -/
def fCos (x : F32) : F32 :=
  match fUnp x with
  | .nan => fNaN
  | .fin s m e => libResult 2 (Exact.of (fxSin (fxOf s m e) 1) 0) (Config.libCos x)
  | .inf _ => fFlush (Config.libCos x)

/-- The angle of (x, y), within 2 ulp. -/
def fAtan2 (y x : F32) : F32 :=
  match fUnp y, fUnp x with
  | .nan, _ => fNaN
  | _, .nan => fNaN
  | .fin s m e, .fin t n f =>
    if m = 0 ∧ n = 0 then fFlush (Config.libAtan2 y x)
    else libResult 2 (Exact.of (fxAngle (fxOf s m e) (fxOf t n f)) 0) (Config.libAtan2 y x)
  | _, _ => fFlush (Config.libAtan2 y x)

end Sys2Proof.Machine
end

