-- ==== Sys2Proof/Machine/RegName.lean ====
section
/-!
DEFINITION. The names of the 32-bit registers (R472): one constructor for each register word or array of words.
-/
namespace Sys2Proof.Machine

/-- Register words by name. An array (a register per instance) is one name; its index is kept beside it. -/
inductive RegName where
  | wckCfg | wckTiming | wckStatus | wckSpeed | wckCmd | wckSrc | wckRatio | wckDiv | wckPublish | wckDiag 
  | wckPosLo | wckPosHi | wckEdgeTimeLo | wckEdgeTimeHi | wckPresetLo | wckPresetHi | wckDormantDeltaLo 
  | wckDormantDeltaHi | wckLostMapLo | wckLostMapHi | wckStillMapLo | wckStillMapHi | wckSnapTimeLo | wckSnapTimeHi 
  | wckDormantStatus | lltStatus | lltOccupancy | lltHostRange | lltCmd | lltResult | lltDiag | lltStage 
  | lltStageEnd | lltExecLo | lltExecHi | lltSlotStatus | mstCfg | mstCfg2 | mstProc | mstLimits | mstNoise 
  | mstStatus | mstCmd | mstCalStatus | mstLab | mstProbeC0 | mstProbeCf | mstMoisture | mstGrainTemp 
  | mstDensity | mstTimeLo | mstTimeHi | mstCoordLo | mstCoordHi | mstEps | mstFitSlope | mstFitOffset 
  | pclCfg | pclPlen | pclProbes | pclTol | pclCkpt | pclStatus | pclCounts | pclDiag | pclCmd | pclAssumeTab 
  | pclOriginLo | pclOriginHi | pclStepLo | pclStepHi | pclCkptTimeLo | pclCkptTimeHi | pclInOfs | pclDisOfs 
  | pclZone | pclAssumeM | pclAssumeT | pclAssumeRho | pclWinSel | pclStaleMap | dryCfg | dryTune | dryAdapt 
  | dryFb | dryCool | dryStatus | dryCmd | dryTarget | dryRateMin | dryRateMax | dryBatchRate | dryRateOut 
  | dryPred | dryBias | dryLnA | dryConf | dryTrim | dryNight | heatCfg | heatTrim | heatStatus | heatSpReq 
  | heatSpMin | heatSpMax | heatTLim | heatSpOut | heatTMax | heatFactor | aerCfg | aerGrainM | aerBand 
  | aerStatus | aerEmc | aerTimes | aerLimits | engStatus | engLoad | engUse | engMisses | engMissInst 
  | engCmd | engMissFrameLo | engMissFrameHi | rowClock | rowWorst | engMissMap | engHaltMap | bskSel 
  | bskDesc | bskStatus | bskCounts | bskPeak | bskCmd | bskGlobal | bskStorage | tagStatus | tagDiag 
  | tagFlags | loopCfg | loopTune | loopSupTime | loopSupConf | loopStuck | loopCmd | loopStatus | loopFindings 
  | loopKp | loopTi | loopTd | loopKff | loopOutMin | loopOutMax | loopRate | loopMan | loopSupE | loopSupP 
  | loopSafe | loopSafeRate | loopTrip | loopOut | loopSp | loopPv | loopErr | loopLimit | loopConf | tprCfg 
  | tprCmd | tprStatus | tprTarget | tprAcc | tprJerk | tprYmin | tprYmax | tprYa | tprYb | tprXaLo | tprXaHi 
  | tprXbLo | tprXbHi | tprOut | tprRate | tprRemain | motCfg | motPwm | motSd | motEnc | motLimits | motBus 
  | motFan | motStart | motBrake | motTemp | motCmd | motStatus | motFault | motAngle | motCounts | motRatedV 
  | motRatedI | motRatedN | motCurKp | motCurKi | motSpeed | motObsSpeed | motId | motIq | motVdc | motVline 
  | motDerate | motIdentRs | motIdentLs | gateCfg | gateHome | gateClear | gateWin | gateKv | gateOfsLo 
  | gateOfsHi | gateCmd | gateStatus | routeCfg | routeTimes | routeCmd | routeStatus | routeMembers 
  | slipCfg | slipStatus | divStatus | aisCfg | aisStatus | aisLink | aisCmd | aisSweepCfg | aisSweepStatus 
  | aisSweepResult | aisSupply | aisTemp | aisSafeCrc | aisDiMap | aisDoMap | aisSummary | stlCfg | stlOpt 
  | stlStatus | stlValue | stlRaw | stlTimeLo | stlTimeHi | stlCount | stlDiag | cblLimits | cblSuspect 
  | cblFailed | cblUnchecked | txCfg | txTrimZero | txTrimSpan | txClamp | txCmd | txStatus | txCounts 
  | txTarget | txReadback | txTermV | txSession | txLockMap | solCfg | solPeak | solHold | solPwm | solDuty 
  | solLimits | solCmd | solReq | solStatus | solCounts | solCurrent | solDutyUsed | solEndLo | solEndHi 
  | solFaultMap | solOnMap | mktCfg | mktIdent | mktStatus | mktSync | mktGate | mktGen | mktCmd | mktTaiSec 
  | mktTimeLo | mktTimeHi | mktSwitchLo | mktSwitchHi | mktDiscards | mktDrops | mktPort | mktHeard | talPostTLo 
  | talPostTHi | talPostNum | talCmd | talAck | talResult | talBank | talNum | talStatus | evrHeadLo 
  | evrHeadHi | evrClearedLo | evrClearedHi | evrClearLo | evrClearHi | evrMramLo | evrMramHi | evrWinLo 
  | evrWinHi | evrStatus | evrCounts | pairCfg | pairStatus | pairMirror | pairSelftest | pairCmd | pairPeer 
  | pairEpochLo | pairEpochHi | pairTakeoverLo | pairTakeoverHi | pairFindings | pairSeen | pairCompare 
  | pairWick | pairLink | hldStatus | hldResult | hldCmd | hldApplyLo | hldApplyHi | hldUpload | hldVersion 
  | hldPatch | hldHash | hldStagedHash | snfStatus | snfCmd | snfResult | snfWdog | snfReset | snfStraps 
  | snfBoot | snfWake | snfWakeTicks | thrStatus | thrHot | thrCount | thrPower | thrRowT | thrSensVal 
  | thrSensRaw | thrPolCfg | thrPolLevels | thrPolHyst | thrPolStatus | mgtStatus | mgtCmd | mgtResult 
  | mgtOtpKeys | mgtImg | mgtFwVerA | mgtFwVerB | mgtFloorFw | mgtFloorStream | mgtImgVer | mgtMkey | mgtDevidLo 
  | mgtDevidHi | mgtSerial | mgtWrap | mgtNonce | mgtAttest | mgtDevkey | monStatus | waxCfg | waxStatus 
  | waxRate | waxSpan | waxOldestLo | waxOldestHi | waxFromLo | waxFromHi | waxToLo | waxToHi | waxSizeLo 
  | waxSizeHi | waxExpOfsLo | waxExpOfsHi | waxExpLen | waxExpRate | waxCmd | waxResult | rltStatus | rltFrameLo 
  | rltFrameHi | rltStopLo | rltStopHi | rltCmd | rltDigestRec | rltDigestOwn | rltLib | glbId | glbCaps 
  | glbState | glbFrameLo | glbFrameHi | glbHost | glbHostAge | glbAccess | glbAccessAddr | glbAccessCount 
  | glbIrqRaw | glbIrqPend | glbIrqEn | glbNotice | glbScratch 
  deriving DecidableEq, Repr

end Sys2Proof.Machine
end

