-- ==== Sys2Proof/Machine/RegMap.lean ====
section
/-!
DEFINITION. The register map (R472), transcribed from the field tables of the chapters: the address of every register
word, which of its bits carry which access code (R8), and the reset value of the bits that a write or the hardware stores
in the register itself (RW, RWL and W1C fields). RO fields are views of the block records (`Machine/Views.lean`).
Where a table says "stream", "strap", "OTP" or "MRAM" the stored bits read 0 until that source sets them (R397).
-/
namespace Sys2Proof.Machine

open Sys2Proof

/-- One register word or array of words. `dims`: (count, stride in bytes) from the outermost index inwards.
The masks name the bits of each access code; `reset` is the reset value of the stored bits. `expert`: the register is
expert-only as a whole; `xmask`: the bits of its expert fields (R11); `face`: where the face bit of the instance stands. -/
structure RegDesc where
  base : Nat
  dims : List (Nat × Nat)
  rw : W32
  rwl : W32
  w1c : W32
  wo : W32
  reset : W32
  expert : Bool
  xmask : W32
  face : Option (RegName × Nat)
  deriving DecidableEq, Repr

/-- Number of words of an array. -/
def dimsSize : List (Nat × Nat) → Nat
  | [] => 1
  | (c, _) :: ds => c * dimsSize ds

/-- Byte offset of item i. -/
def dimsOffset : List (Nat × Nat) → Nat → Nat
  | [], _ => 0
  | (_, s) :: ds, i => (i / dimsSize ds) * s + dimsOffset ds (i % dimsSize ds)

/-- The item at a byte offset, if one stands there. -/
def dimsIndex : List (Nat × Nat) → Nat → Option Nat
  | [], off => if off = 0 then some 0 else none
  | (c, s) :: ds, off =>
    if off / s < c then (dimsIndex ds (off % s)).map (fun j => (off / s) * dimsSize ds + j) else none

/-- Index shape of the register arrays of one kind. -/
def dimsAer : List (Nat × Nat) := [(64, 0x40)]
/-- Index shape of the register arrays of one kind. -/
def dimsAis : List (Nat × Nat) := [(8, 0x10000)]
/-- Index shape of the register arrays of one kind. -/
def dimsCol : List (Nat × Nat) := [(16, 0x100)]
/-- Index shape of the register arrays of one kind. -/
def dimsColz : List (Nat × Nat) := [(16, 0x100), (8, 0x4)]
/-- Index shape of the register arrays of one kind. -/
def dimsDorm : List (Nat × Nat) := [(52, 0x8)]
/-- Index shape of the register arrays of one kind. -/
def dimsEng : List (Nat × Nat) := [(128, 0x40)]
/-- Index shape of the register arrays of one kind. -/
def dimsGate : List (Nat × Nat) := [(16, 0x40)]
/-- Index shape of the register arrays of one kind. -/
def dimsH32 : List (Nat × Nat) := [(32, 0x4)]
/-- Index shape of the register arrays of one kind. -/
def dimsHeat : List (Nat × Nat) := [(4, 0x40)]
/-- Index shape of the register arrays of one kind. -/
def dimsI64 : List (Nat × Nat) := [(64, 0x10)]
/-- Index shape of the register arrays of one kind. -/
def dimsK4 : List (Nat × Nat) := [(4, 0x4)]
/-- Index shape of the register arrays of one kind. -/
def dimsLoop : List (Nat × Nat) := [(512, 0x80)]
/-- Index shape of the register arrays of one kind. -/
def dimsMap4 : List (Nat × Nat) := [(4, 0x4)]
/-- Index shape of the register arrays of one kind. -/
def dimsMot : List (Nat × Nat) := [(16, 0x100)]
/-- Index shape of the register arrays of one kind. -/
def dimsMst : List (Nat × Nat) := [(8, 0x10000), (4, 0x80)]
/-- Index shape of the register arrays of one kind. -/
def dimsMste : List (Nat × Nat) := [(8, 0x10000), (4, 0x80), (8, 0x4)]
/-- Index shape of the register arrays of one kind. -/
def dimsN8 : List (Nat × Nat) := [(8, 0x4)]
/-- Index shape of the register arrays of one kind. -/
def dimsOne : List (Nat × Nat) := []
/-- Index shape of the register arrays of one kind. -/
def dimsP2 : List (Nat × Nat) := [(2, 0x4)]
/-- Index shape of the register arrays of one kind. -/
def dimsPol : List (Nat × Nat) := [(16, 0x10)]
/-- Index shape of the register arrays of one kind. -/
def dimsRoute : List (Nat × Nat) := [(32, 0x80)]
/-- Index shape of the register arrays of one kind. -/
def dimsRow : List (Nat × Nat) := [(8, 0x10)]
/-- Index shape of the register arrays of one kind. -/
def dimsSens : List (Nat × Nat) := [(32, 0x8)]
/-- Index shape of the register arrays of one kind. -/
def dimsSlot : List (Nat × Nat) := [(16384, 0x4)]
/-- Index shape of the register arrays of one kind. -/
def dimsSol : List (Nat × Nat) := [(32, 0x40)]
/-- Index shape of the register arrays of one kind. -/
def dimsSt8 : List (Nat × Nat) := [(8, 0x4)]
/-- Index shape of the register arrays of one kind. -/
def dimsStl : List (Nat × Nat) := [(8, 0x10000), (16, 0x40)]
/-- Index shape of the register arrays of one kind. -/
def dimsT8 : List (Nat × Nat) := [(8, 0x4)]
/-- Index shape of the register arrays of one kind. -/
def dimsTpr : List (Nat × Nat) := [(256, 0x80)]
/-- Index shape of the register arrays of one kind. -/
def dimsTx : List (Nat × Nat) := [(16, 0x40)]
/-- Index shape of the register arrays of one kind. -/
def dimsW16 : List (Nat × Nat) := [(16, 0x4)]
/-- Index shape of the register arrays of one kind. -/
def dimsWck : List (Nat × Nat) := [(64, 0x40)]

/-- The description of each register, from the field tables of its chapter. -/
def regDesc (r : RegName) : RegDesc :=
  match r with
  | .wckCfg => ⟨0x400000, dimsWck, 0#32, 0x7fff#32, 0#32, 0#32, 0#32, false, 0#32, none⟩
  | .wckTiming => ⟨0x400004, dimsWck, 0xf3fff#32, 0#32, 0#32, 0#32, 0#32, false, 0#32, none⟩
  | .wckStatus => ⟨0x400008, dimsWck, 0#32, 0#32, 0x3f00#32, 0#32, 0#32, false, 0#32, none⟩
  | .wckSpeed => ⟨0x400014, dimsWck, 0#32, 0#32, 0#32, 0#32, 0#32, false, 0#32, none⟩
  | .wckCmd => ⟨0x400028, dimsWck, 0#32, 0#32, 0#32, 0xffffffff#32, 0#32, false, 0#32, none⟩
  | .wckSrc => ⟨0x40002c, dimsWck, 0#32, 0x3f3f7fff#32, 0#32, 0#32, 0#32, false, 0#32, none⟩
  | .wckRatio => ⟨0x400030, dimsWck, 0#32, 0xffffffff#32, 0#32, 0#32, 0#32, false, 0#32, none⟩
  | .wckDiv => ⟨0x400034, dimsWck, 0#32, 0xffff#32, 0#32, 0#32, 0#32, false, 0#32, none⟩
  | .wckPublish => ⟨0x400038, dimsWck, 0#32, 0xff0f#32, 0#32, 0#32, 0#32, false, 0#32, none⟩
  | .wckDiag => ⟨0x40003c, dimsWck, 0#32, 0#32, 0#32, 0#32, 0#32, false, 0#32, none⟩
  | .wckPosLo => ⟨0x40000c, dimsWck, 0#32, 0#32, 0#32, 0#32, 0#32, false, 0#32, none⟩
  | .wckPosHi => ⟨0x400010, dimsWck, 0#32, 0#32, 0#32, 0#32, 0#32, false, 0#32, none⟩
  | .wckEdgeTimeLo => ⟨0x400018, dimsWck, 0#32, 0#32, 0#32, 0#32, 0#32, false, 0#32, none⟩
  | .wckEdgeTimeHi => ⟨0x40001c, dimsWck, 0#32, 0#32, 0#32, 0#32, 0#32, false, 0#32, none⟩
  | .wckPresetLo => ⟨0x400020, dimsWck, 0xffffff00#32, 0#32, 0#32, 0#32, 0#32, false, 0#32, none⟩
  | .wckPresetHi => ⟨0x400024, dimsWck, 0xffffffff#32, 0#32, 0#32, 0#32, 0#32, false, 0#32, none⟩
  | .wckDormantDeltaLo => ⟨0x401000, dimsDorm, 0#32, 0#32, 0#32, 0#32, 0#32, false, 0#32, none⟩
  | .wckDormantDeltaHi => ⟨0x401004, dimsDorm, 0#32, 0#32, 0#32, 0#32, 0#32, false, 0#32, none⟩
  | .wckLostMapLo => ⟨0x401200, dimsOne, 0#32, 0#32, 0#32, 0#32, 0#32, false, 0#32, none⟩
  | .wckLostMapHi => ⟨0x401204, dimsOne, 0#32, 0#32, 0#32, 0#32, 0#32, false, 0#32, none⟩
  | .wckStillMapLo => ⟨0x401208, dimsOne, 0#32, 0#32, 0#32, 0#32, 0#32, false, 0#32, none⟩
  | .wckStillMapHi => ⟨0x40120c, dimsOne, 0#32, 0#32, 0#32, 0#32, 0#32, false, 0#32, none⟩
  | .wckSnapTimeLo => ⟨0x401210, dimsOne, 0#32, 0#32, 0#32, 0#32, 0#32, false, 0#32, none⟩
  | .wckSnapTimeHi => ⟨0x401214, dimsOne, 0#32, 0#32, 0#32, 0#32, 0#32, false, 0#32, none⟩
  | .wckDormantStatus => ⟨0x401218, dimsOne, 0#32, 0#32, 0x1#32, 0#32, 0#32, false, 0#32, none⟩
  | .lltStatus => ⟨0x500000, dimsOne, 0#32, 0#32, 0xff#32, 0#32, 0#32, false, 0#32, none⟩
  | .lltOccupancy => ⟨0x500004, dimsOne, 0#32, 0#32, 0#32, 0#32, 0#32, false, 0#32, none⟩
  | .lltHostRange => ⟨0x500008, dimsOne, 0#32, 0x7fff3fff#32, 0#32, 0#32, 0#32, false, 0#32, none⟩
  | .lltCmd => ⟨0x500030, dimsOne, 0#32, 0#32, 0#32, 0xffffffff#32, 0#32, false, 0#32, none⟩
  | .lltResult => ⟨0x500034, dimsOne, 0#32, 0#32, 0#32, 0#32, 0#32, false, 0#32, none⟩
  | .lltDiag => ⟨0x500040, dimsOne, 0#32, 0#32, 0#32, 0#32, 0#32, false, 0#32, none⟩
  | .lltStage => ⟨0x500010, dimsSt8, 0xffffffff#32, 0#32, 0#32, 0#32, 0#32, false, 0#32, none⟩
  | .lltStageEnd => ⟨0x500060, dimsSt8, 0xffffffff#32, 0#32, 0#32, 0#32, 0#32, false, 0#32, none⟩
  | .lltExecLo => ⟨0x500038, dimsOne, 0#32, 0#32, 0#32, 0#32, 0#32, false, 0#32, none⟩
  | .lltExecHi => ⟨0x50003c, dimsOne, 0#32, 0#32, 0#32, 0#32, 0#32, false, 0#32, none⟩
  | .lltSlotStatus => ⟨0x510000, dimsSlot, 0#32, 0#32, 0x1e0#32, 0#32, 0#32, false, 0#32, none⟩
  | .mstCfg => ⟨0x108000, dimsMst, 0#32, 0x7ffffff#32, 0#32, 0#32, 0#32, false, 0x60000#32, some (.mstCfg, 27)⟩
  | .mstCfg2 => ⟨0x108004, dimsMst, 0#32, 0xff#32, 0#32, 0#32, 0#32, false, 0#32, none⟩
  | .mstProc => ⟨0x108010, dimsMst, 0xffff000f#32, 0#32, 0#32, 0#32, 0#32, false, 0#32, none⟩
  | .mstLimits => ⟨0x108014, dimsMst, 0xffffffff#32, 0#32, 0#32, 0#32, 0x190f1032#32, true, 0#32, some (.mstCfg, 27)⟩
  | .mstNoise => ⟨0x108018, dimsMst, 0xff#32, 0#32, 0#32, 0#32, 0x32#32, true, 0#32, some (.mstCfg, 27)⟩
  | .mstStatus => ⟨0x10801c, dimsMst, 0#32, 0#32, 0x10#32, 0#32, 0#32, false, 0#32, none⟩
  | .mstCmd => ⟨0x108060, dimsMst, 0#32, 0#32, 0#32, 0xffffffff#32, 0#32, false, 0#32, none⟩
  | .mstCalStatus => ⟨0x108064, dimsMst, 0#32, 0#32, 0#32, 0#32, 0#32, false, 0#32, none⟩
  | .mstLab => ⟨0x108068, dimsMst, 0xffffffff#32, 0#32, 0#32, 0#32, 0#32, false, 0#32, none⟩
  | .mstProbeC0 => ⟨0x108008, dimsMst, 0#32, 0xffffffff#32, 0#32, 0#32, 0#32, true, 0#32, some (.mstCfg, 27)⟩
  | .mstProbeCf => ⟨0x10800c, dimsMst, 0#32, 0#32, 0#32, 0#32, 0#32, false, 0#32, none⟩
  | .mstMoisture => ⟨0x108020, dimsMst, 0#32, 0#32, 0#32, 0#32, 0#32, false, 0#32, none⟩
  | .mstGrainTemp => ⟨0x108024, dimsMst, 0#32, 0#32, 0#32, 0#32, 0#32, false, 0#32, none⟩
  | .mstDensity => ⟨0x108028, dimsMst, 0#32, 0#32, 0#32, 0#32, 0#32, false, 0#32, none⟩
  | .mstTimeLo => ⟨0x10802c, dimsMst, 0#32, 0#32, 0#32, 0#32, 0#32, false, 0#32, none⟩
  | .mstTimeHi => ⟨0x108030, dimsMst, 0#32, 0#32, 0#32, 0#32, 0#32, false, 0#32, none⟩
  | .mstCoordLo => ⟨0x108034, dimsMst, 0#32, 0#32, 0#32, 0#32, 0#32, false, 0#32, none⟩
  | .mstCoordHi => ⟨0x108038, dimsMst, 0#32, 0#32, 0#32, 0#32, 0#32, false, 0#32, none⟩
  | .mstEps => ⟨0x108040, dimsMste, 0#32, 0#32, 0#32, 0#32, 0#32, false, 0#32, none⟩
  | .mstFitSlope => ⟨0x10806c, dimsMst, 0#32, 0#32, 0#32, 0#32, 0#32, false, 0#32, none⟩
  | .mstFitOffset => ⟨0x108070, dimsMst, 0#32, 0#32, 0#32, 0#32, 0#32, false, 0#32, none⟩
  | .pclCfg => ⟨0xc00000, dimsCol, 0#32, 0x7fff7f#32, 0#32, 0#32, 0#32, false, 0#32, none⟩
  | .pclPlen => ⟨0xc00004, dimsCol, 0#32, 0xffffff#32, 0#32, 0#32, 0#32, false, 0#32, none⟩
  | .pclProbes => ⟨0xc00010, dimsCol, 0#32, 0x3f3f#32, 0#32, 0#32, 0#32, false, 0#32, none⟩
  | .pclTol => ⟨0xc0001c, dimsCol, 0x3fff00ff#32, 0#32, 0#32, 0#32, 0#32, true, 0#32, some (.pclCfg, 7)⟩
  | .pclCkpt => ⟨0xc00020, dimsCol, 0#32, 0x3ff#32, 0#32, 0#32, 0#32, true, 0#32, some (.pclCfg, 7)⟩
  | .pclStatus => ⟨0xc00044, dimsCol, 0#32, 0#32, 0x7c0#32, 0#32, 0#32, false, 0#32, none⟩
  | .pclCounts => ⟨0xc00050, dimsCol, 0#32, 0#32, 0#32, 0#32, 0#32, false, 0#32, none⟩
  | .pclDiag => ⟨0xc00054, dimsCol, 0#32, 0#32, 0#32, 0#32, 0#32, false, 0#32, none⟩
  | .pclCmd => ⟨0xc00058, dimsCol, 0#32, 0#32, 0#32, 0xffffffff#32, 0#32, false, 0#32, none⟩
  | .pclAssumeTab => ⟨0xc00070, dimsCol, 0x3f#32, 0#32, 0#32, 0#32, 0#32, false, 0#32, none⟩
  | .pclOriginLo => ⟨0xc00008, dimsCol, 0#32, 0xffffffff#32, 0#32, 0#32, 0#32, false, 0#32, none⟩
  | .pclOriginHi => ⟨0xc0000c, dimsCol, 0#32, 0xffffffff#32, 0#32, 0#32, 0#32, false, 0#32, none⟩
  | .pclStepLo => ⟨0xc00048, dimsCol, 0#32, 0#32, 0#32, 0#32, 0#32, false, 0#32, none⟩
  | .pclStepHi => ⟨0xc0004c, dimsCol, 0#32, 0#32, 0#32, 0#32, 0#32, false, 0#32, none⟩
  | .pclCkptTimeLo => ⟨0xc0005c, dimsCol, 0#32, 0#32, 0#32, 0#32, 0#32, false, 0#32, none⟩
  | .pclCkptTimeHi => ⟨0xc00060, dimsCol, 0#32, 0#32, 0#32, 0#32, 0#32, false, 0#32, none⟩
  | .pclInOfs => ⟨0xc00014, dimsCol, 0#32, 0xffffffff#32, 0#32, 0#32, 0#32, false, 0#32, none⟩
  | .pclDisOfs => ⟨0xc00018, dimsCol, 0#32, 0xffffffff#32, 0#32, 0#32, 0#32, false, 0#32, none⟩
  | .pclZone => ⟨0xc00024, dimsColz, 0#32, 0x3fff#32, 0#32, 0#32, 0#32, false, 0#32, none⟩
  | .pclAssumeM => ⟨0xc00064, dimsCol, 0xffffffff#32, 0#32, 0#32, 0#32, 0#32, false, 0#32, none⟩
  | .pclAssumeT => ⟨0xc00068, dimsCol, 0xffffffff#32, 0#32, 0#32, 0#32, 0#32, false, 0#32, none⟩
  | .pclAssumeRho => ⟨0xc0006c, dimsCol, 0xffffffff#32, 0#32, 0#32, 0#32, 0#32, false, 0#32, none⟩
  | .pclWinSel => ⟨0xc01000, dimsOne, 0xf#32, 0#32, 0#32, 0#32, 0#32, false, 0#32, none⟩
  | .pclStaleMap => ⟨0xc01004, dimsOne, 0#32, 0#32, 0#32, 0#32, 0#32, false, 0#32, none⟩
  | .dryCfg => ⟨0xc20000, dimsCol, 0#32, 0x7fdf#32, 0#32, 0#32, 0#32, false, 0#32, none⟩
  | .dryTune => ⟨0xc20010, dimsCol, 0xfff7ffff#32, 0#32, 0#32, 0#32, 0#32, true, 0#32, some (.dryCfg, 5)⟩
  | .dryAdapt => ⟨0xc20014, dimsCol, 0xffffffff#32, 0#32, 0#32, 0#32, 0#32, true, 0#32, some (.dryCfg, 5)⟩
  | .dryFb => ⟨0xc20018, dimsCol, 0xfffffff#32, 0#32, 0#32, 0#32, 0#32, true, 0#32, some (.dryCfg, 5)⟩
  | .dryCool => ⟨0xc20020, dimsCol, 0xffffff1f#32, 0#32, 0#32, 0#32, 0#32, false, 0x3ff1f#32, some (.dryCfg, 5)⟩
  | .dryStatus => ⟨0xc20024, dimsCol, 0#32, 0#32, 0x3800#32, 0#32, 0#32, false, 0#32, none⟩
  | .dryCmd => ⟨0xc2003c, dimsCol, 0#32, 0#32, 0#32, 0xffffffff#32, 0#32, false, 0#32, none⟩
  | .dryTarget => ⟨0xc20004, dimsCol, 0xffffffff#32, 0#32, 0#32, 0#32, 0#32, false, 0#32, none⟩
  | .dryRateMin => ⟨0xc20008, dimsCol, 0xffffffff#32, 0#32, 0#32, 0#32, 0#32, false, 0#32, none⟩
  | .dryRateMax => ⟨0xc2000c, dimsCol, 0xffffffff#32, 0#32, 0#32, 0#32, 0#32, false, 0#32, none⟩
  | .dryBatchRate => ⟨0xc2001c, dimsCol, 0xffffffff#32, 0#32, 0#32, 0#32, 0#32, false, 0#32, none⟩
  | .dryRateOut => ⟨0xc20028, dimsCol, 0#32, 0#32, 0#32, 0#32, 0#32, false, 0#32, none⟩
  | .dryPred => ⟨0xc2002c, dimsCol, 0#32, 0#32, 0#32, 0#32, 0#32, false, 0#32, none⟩
  | .dryBias => ⟨0xc20030, dimsCol, 0#32, 0#32, 0#32, 0#32, 0#32, false, 0#32, none⟩
  | .dryLnA => ⟨0xc20034, dimsCol, 0#32, 0#32, 0#32, 0#32, 0#32, false, 0#32, none⟩
  | .dryConf => ⟨0xc20038, dimsCol, 0#32, 0#32, 0#32, 0#32, 0#32, false, 0#32, none⟩
  | .dryTrim => ⟨0xc20060, dimsCol, 0#32, 0#32, 0#32, 0#32, 0#32, false, 0#32, none⟩
  | .dryNight => ⟨0xc20040, dimsColz, 0xffffffff#32, 0#32, 0#32, 0#32, 0#32, false, 0#32, none⟩
  | .heatCfg => ⟨0xc21000, dimsHeat, 0#32, 0x1fffff#32, 0#32, 0#32, 0#32, false, 0#32, none⟩
  | .heatTrim => ⟨0xc21014, dimsHeat, 0xffffff#32, 0#32, 0#32, 0#32, 0#32, true, 0#32, some (.heatCfg, 21)⟩
  | .heatStatus => ⟨0xc21018, dimsHeat, 0#32, 0#32, 0x30#32, 0#32, 0#32, false, 0#32, none⟩
  | .heatSpReq => ⟨0xc21004, dimsHeat, 0xffffffff#32, 0#32, 0#32, 0#32, 0#32, false, 0#32, none⟩
  | .heatSpMin => ⟨0xc21008, dimsHeat, 0xffffffff#32, 0#32, 0#32, 0#32, 0#32, false, 0#32, none⟩
  | .heatSpMax => ⟨0xc2100c, dimsHeat, 0xffffffff#32, 0#32, 0#32, 0#32, 0#32, false, 0#32, none⟩
  | .heatTLim => ⟨0xc21010, dimsHeat, 0xffffffff#32, 0#32, 0#32, 0#32, 0#32, false, 0#32, none⟩
  | .heatSpOut => ⟨0xc2101c, dimsHeat, 0#32, 0#32, 0#32, 0#32, 0#32, false, 0#32, none⟩
  | .heatTMax => ⟨0xc21020, dimsHeat, 0#32, 0#32, 0#32, 0#32, 0#32, false, 0#32, none⟩
  | .heatFactor => ⟨0xc21024, dimsHeat, 0#32, 0#32, 0#32, 0#32, 0#32, false, 0#32, none⟩
  | .aerCfg => ⟨0xc30000, dimsAer, 0#32, 0xffff#32, 0#32, 0#32, 0#32, false, 0#32, none⟩
  | .aerGrainM => ⟨0xc30004, dimsAer, 0xffffffff#32, 0#32, 0#32, 0#32, 0#32, false, 0#32, none⟩
  | .aerBand => ⟨0xc30008, dimsAer, 0x3fffffff#32, 0#32, 0#32, 0#32, 0#32, false, 0x3ff00000#32, some (.aerCfg, 16)⟩
  | .aerStatus => ⟨0xc30014, dimsAer, 0#32, 0#32, 0x30#32, 0#32, 0#32, false, 0#32, none⟩
  | .aerEmc => ⟨0xc30018, dimsAer, 0#32, 0#32, 0#32, 0#32, 0#32, false, 0#32, none⟩
  | .aerTimes => ⟨0xc3000c, dimsAer, 0xffffffff#32, 0#32, 0#32, 0#32, 0#32, true, 0#32, some (.aerCfg, 16)⟩
  | .aerLimits => ⟨0xc30010, dimsAer, 0xffff#32, 0#32, 0#32, 0#32, 0#32, true, 0#32, some (.aerCfg, 16)⟩
  | .engStatus => ⟨0x800000, dimsEng, 0#32, 0#32, 0x300#32, 0#32, 0#32, false, 0#32, none⟩
  | .engLoad => ⟨0x800004, dimsEng, 0#32, 0#32, 0#32, 0#32, 0#32, false, 0#32, none⟩
  | .engUse => ⟨0x800008, dimsEng, 0#32, 0#32, 0#32, 0#32, 0#32, false, 0#32, none⟩
  | .engMisses => ⟨0x80000c, dimsEng, 0#32, 0#32, 0#32, 0#32, 0#32, false, 0#32, none⟩
  | .engMissInst => ⟨0x800018, dimsEng, 0#32, 0#32, 0#32, 0#32, 0#32, false, 0#32, none⟩
  | .engCmd => ⟨0x80001c, dimsEng, 0#32, 0#32, 0#32, 0xffffffff#32, 0#32, false, 0#32, none⟩
  | .engMissFrameLo => ⟨0x800010, dimsEng, 0#32, 0#32, 0#32, 0#32, 0#32, false, 0#32, none⟩
  | .engMissFrameHi => ⟨0x800014, dimsEng, 0#32, 0#32, 0#32, 0#32, 0#32, false, 0#32, none⟩
  | .rowClock => ⟨0x810000, dimsRow, 0#32, 0#32, 0x40000#32, 0#32, 0#32, false, 0#32, none⟩
  | .rowWorst => ⟨0x810004, dimsRow, 0#32, 0#32, 0#32, 0#32, 0#32, false, 0#32, none⟩
  | .engMissMap => ⟨0x820000, dimsMap4, 0#32, 0#32, 0xffffffff#32, 0#32, 0#32, false, 0#32, none⟩
  | .engHaltMap => ⟨0x820010, dimsMap4, 0#32, 0#32, 0#32, 0#32, 0#32, false, 0#32, none⟩
  | .bskSel => ⟨0x600000, dimsOne, 0x7fff#32, 0#32, 0#32, 0#32, 0#32, false, 0#32, none⟩
  | .bskDesc => ⟨0x600004, dimsMap4, 0#32, 0#32, 0#32, 0#32, 0#32, false, 0#32, none⟩
  | .bskStatus => ⟨0x600014, dimsOne, 0#32, 0#32, 0x1f0000#32, 0#32, 0#32, false, 0#32, none⟩
  | .bskCounts => ⟨0x600018, dimsOne, 0#32, 0#32, 0#32, 0#32, 0#32, false, 0#32, none⟩
  | .bskPeak => ⟨0x60001c, dimsOne, 0#32, 0#32, 0#32, 0#32, 0#32, false, 0#32, none⟩
  | .bskCmd => ⟨0x600020, dimsOne, 0#32, 0#32, 0#32, 0xffffffff#32, 0#32, false, 0#32, none⟩
  | .bskGlobal => ⟨0x600100, dimsOne, 0#32, 0#32, 0xf#32, 0#32, 0#32, false, 0#32, none⟩
  | .bskStorage => ⟨0x600104, dimsOne, 0#32, 0#32, 0#32, 0#32, 0#32, false, 0#32, none⟩
  | .tagStatus => ⟨0x600200, dimsOne, 0#32, 0#32, 0#32, 0#32, 0#32, false, 0#32, none⟩
  | .tagDiag => ⟨0x600204, dimsOne, 0#32, 0#32, 0#32, 0#32, 0#32, false, 0#32, none⟩
  | .tagFlags => ⟨0x600208, dimsOne, 0#32, 0#32, 0x7#32, 0#32, 0#32, false, 0#32, none⟩
  | .loopCfg => ⟨0x840000, dimsLoop, 0#32, 0x7ff#32, 0#32, 0#32, 0#32, false, 0#32, none⟩
  | .loopTune => ⟨0x840014, dimsLoop, 0xffffff#32, 0#32, 0#32, 0#32, 0#32, true, 0#32, some (.loopCfg, 11)⟩
  | .loopSupTime => ⟨0x840030, dimsLoop, 0xffffffff#32, 0#32, 0#32, 0#32, 0#32, true, 0#32, some (.loopCfg, 11)⟩
  | .loopSupConf => ⟨0x840034, dimsLoop, 0xfffffff#32, 0#32, 0#32, 0#32, 0#32, true, 0#32, some (.loopCfg, 11)⟩
  | .loopStuck => ⟨0x840038, dimsLoop, 0x7fffffff#32, 0#32, 0#32, 0#32, 0#32, true, 0#32, some (.loopCfg, 11)⟩
  | .loopCmd => ⟨0x840048, dimsLoop, 0#32, 0#32, 0#32, 0xffffffff#32, 0#32, false, 0#32, none⟩
  | .loopStatus => ⟨0x84004c, dimsLoop, 0#32, 0#32, 0x3f00#32, 0#32, 0#32, false, 0#32, none⟩
  | .loopFindings => ⟨0x840068, dimsLoop, 0#32, 0#32, 0#32, 0#32, 0#32, false, 0#32, none⟩
  | .loopKp => ⟨0x840004, dimsLoop, 0xffffffff#32, 0#32, 0#32, 0#32, 0#32, true, 0#32, some (.loopCfg, 11)⟩
  | .loopTi => ⟨0x840008, dimsLoop, 0xffffffff#32, 0#32, 0#32, 0#32, 0#32, true, 0#32, some (.loopCfg, 11)⟩
  | .loopTd => ⟨0x84000c, dimsLoop, 0xffffffff#32, 0#32, 0#32, 0#32, 0#32, true, 0#32, some (.loopCfg, 11)⟩
  | .loopKff => ⟨0x840010, dimsLoop, 0xffffffff#32, 0#32, 0#32, 0#32, 0#32, true, 0#32, some (.loopCfg, 11)⟩
  | .loopOutMin => ⟨0x840018, dimsLoop, 0xffffffff#32, 0#32, 0#32, 0#32, 0#32, false, 0#32, none⟩
  | .loopOutMax => ⟨0x84001c, dimsLoop, 0xffffffff#32, 0#32, 0#32, 0#32, 0#32, false, 0#32, none⟩
  | .loopRate => ⟨0x840020, dimsLoop, 0xffffffff#32, 0#32, 0#32, 0#32, 0#32, true, 0#32, some (.loopCfg, 11)⟩
  | .loopMan => ⟨0x840024, dimsLoop, 0xffffffff#32, 0#32, 0#32, 0#32, 0#32, false, 0#32, none⟩
  | .loopSupE => ⟨0x840028, dimsLoop, 0xffffffff#32, 0#32, 0#32, 0#32, 0#32, true, 0#32, some (.loopCfg, 11)⟩
  | .loopSupP => ⟨0x84002c, dimsLoop, 0xffffffff#32, 0#32, 0#32, 0#32, 0#32, true, 0#32, some (.loopCfg, 11)⟩
  | .loopSafe => ⟨0x84003c, dimsLoop, 0xffffffff#32, 0#32, 0#32, 0#32, 0#32, false, 0#32, none⟩
  | .loopSafeRate => ⟨0x840040, dimsLoop, 0xffffffff#32, 0#32, 0#32, 0#32, 0#32, false, 0#32, none⟩
  | .loopTrip => ⟨0x840044, dimsLoop, 0xffffffff#32, 0#32, 0#32, 0#32, 0#32, false, 0#32, none⟩
  | .loopOut => ⟨0x840050, dimsLoop, 0#32, 0#32, 0#32, 0#32, 0#32, false, 0#32, none⟩
  | .loopSp => ⟨0x840054, dimsLoop, 0#32, 0#32, 0#32, 0#32, 0#32, false, 0#32, none⟩
  | .loopPv => ⟨0x840058, dimsLoop, 0#32, 0#32, 0#32, 0#32, 0#32, false, 0#32, none⟩
  | .loopErr => ⟨0x84005c, dimsLoop, 0#32, 0#32, 0#32, 0#32, 0#32, false, 0#32, none⟩
  | .loopLimit => ⟨0x840060, dimsLoop, 0#32, 0#32, 0#32, 0#32, 0#32, false, 0#32, none⟩
  | .loopConf => ⟨0x840064, dimsLoop, 0#32, 0#32, 0#32, 0#32, 0#32, false, 0#32, none⟩
  | .tprCfg => ⟨0x860000, dimsTpr, 0#32, 0xff#32, 0#32, 0#32, 0#32, false, 0#32, none⟩
  | .tprCmd => ⟨0x860018, dimsTpr, 0#32, 0#32, 0#32, 0xffffffff#32, 0#32, false, 0#32, none⟩
  | .tprStatus => ⟨0x86001c, dimsTpr, 0#32, 0#32, 0xd8#32, 0#32, 0#32, false, 0#32, none⟩
  | .tprTarget => ⟨0x860004, dimsTpr, 0xffffffff#32, 0#32, 0#32, 0#32, 0#32, false, 0#32, none⟩
  | .tprAcc => ⟨0x860008, dimsTpr, 0xffffffff#32, 0#32, 0#32, 0#32, 0#32, true, 0#32, some (.tprCfg, 8)⟩
  | .tprJerk => ⟨0x86000c, dimsTpr, 0xffffffff#32, 0#32, 0#32, 0#32, 0#32, true, 0#32, some (.tprCfg, 8)⟩
  | .tprYmin => ⟨0x860010, dimsTpr, 0xffffffff#32, 0#32, 0#32, 0#32, 0#32, true, 0#32, some (.tprCfg, 8)⟩
  | .tprYmax => ⟨0x860014, dimsTpr, 0xffffffff#32, 0#32, 0#32, 0#32, 0#32, true, 0#32, some (.tprCfg, 8)⟩
  | .tprYa => ⟨0x86002c, dimsTpr, 0xffffffff#32, 0#32, 0#32, 0#32, 0#32, false, 0#32, none⟩
  | .tprYb => ⟨0x860030, dimsTpr, 0xffffffff#32, 0#32, 0#32, 0#32, 0#32, false, 0#32, none⟩
  | .tprXaLo => ⟨0x860034, dimsTpr, 0xffffffff#32, 0#32, 0#32, 0#32, 0#32, false, 0#32, none⟩
  | .tprXaHi => ⟨0x860038, dimsTpr, 0xffffffff#32, 0#32, 0#32, 0#32, 0#32, false, 0#32, none⟩
  | .tprXbLo => ⟨0x86003c, dimsTpr, 0xffffffff#32, 0#32, 0#32, 0#32, 0#32, false, 0#32, none⟩
  | .tprXbHi => ⟨0x860040, dimsTpr, 0xffffffff#32, 0#32, 0#32, 0#32, 0#32, false, 0#32, none⟩
  | .tprOut => ⟨0x860020, dimsTpr, 0#32, 0#32, 0#32, 0#32, 0#32, false, 0#32, none⟩
  | .tprRate => ⟨0x860024, dimsTpr, 0#32, 0#32, 0#32, 0#32, 0#32, false, 0#32, none⟩
  | .tprRemain => ⟨0x860028, dimsTpr, 0#32, 0#32, 0#32, 0#32, 0#32, false, 0#32, none⟩
  | .motCfg => ⟨0x200000, dimsMot, 0#32, 0x7ffff#32, 0#32, 0#32, 0#32, false, 0#32, none⟩
  | .motPwm => ⟨0x200004, dimsMot, 0#32, 0xffffffff#32, 0#32, 0#32, 0#32, false, 0#32, none⟩
  | .motSd => ⟨0x200008, dimsMot, 0#32, 0xf#32, 0#32, 0#32, 0#32, false, 0#32, none⟩
  | .motEnc => ⟨0x20000c, dimsMot, 0#32, 0x1fffff#32, 0#32, 0#32, 0#32, false, 0#32, none⟩
  | .motLimits => ⟨0x20001c, dimsMot, 0x1fffff#32, 0#32, 0#32, 0#32, 0#32, false, 0#32, none⟩
  | .motBus => ⟨0x200020, dimsMot, 0x3fffffff#32, 0#32, 0#32, 0#32, 0#32, false, 0#32, none⟩
  | .motFan => ⟨0x200024, dimsMot, 0xffffffff#32, 0#32, 0#32, 0#32, 0#32, false, 0#32, none⟩
  | .motStart => ⟨0x200030, dimsMot, 0xffffffff#32, 0#32, 0#32, 0#32, 0#32, true, 0#32, some (.motCfg, 19)⟩
  | .motBrake => ⟨0x200034, dimsMot, 0xffffffff#32, 0#32, 0#32, 0#32, 0#32, true, 0#32, some (.motCfg, 19)⟩
  | .motTemp => ⟨0x200038, dimsMot, 0xffffffff#32, 0#32, 0#32, 0#32, 0#32, true, 0#32, some (.motCfg, 19)⟩
  | .motCmd => ⟨0x20003c, dimsMot, 0#32, 0#32, 0#32, 0xffffffff#32, 0#32, false, 0#32, none⟩
  | .motStatus => ⟨0x200040, dimsMot, 0#32, 0#32, 0x60000#32, 0#32, 0#32, false, 0#32, none⟩
  | .motFault => ⟨0x200044, dimsMot, 0#32, 0#32, 0xfff0000#32, 0#32, 0#32, false, 0#32, none⟩
  | .motAngle => ⟨0x200064, dimsMot, 0#32, 0#32, 0#32, 0#32, 0#32, false, 0#32, none⟩
  | .motCounts => ⟨0x200070, dimsMot, 0#32, 0#32, 0#32, 0#32, 0#32, false, 0#32, none⟩
  | .motRatedV => ⟨0x200010, dimsMot, 0#32, 0xffffffff#32, 0#32, 0#32, 0#32, false, 0#32, none⟩
  | .motRatedI => ⟨0x200014, dimsMot, 0#32, 0xffffffff#32, 0#32, 0#32, 0#32, false, 0#32, none⟩
  | .motRatedN => ⟨0x200018, dimsMot, 0#32, 0xffffffff#32, 0#32, 0#32, 0#32, false, 0#32, none⟩
  | .motCurKp => ⟨0x200028, dimsMot, 0xffffffff#32, 0#32, 0#32, 0#32, 0#32, true, 0#32, some (.motCfg, 19)⟩
  | .motCurKi => ⟨0x20002c, dimsMot, 0xffffffff#32, 0#32, 0#32, 0#32, 0#32, true, 0#32, some (.motCfg, 19)⟩
  | .motSpeed => ⟨0x200048, dimsMot, 0#32, 0#32, 0#32, 0#32, 0#32, false, 0#32, none⟩
  | .motObsSpeed => ⟨0x20004c, dimsMot, 0#32, 0#32, 0#32, 0#32, 0#32, false, 0#32, none⟩
  | .motId => ⟨0x200050, dimsMot, 0#32, 0#32, 0#32, 0#32, 0#32, false, 0#32, none⟩
  | .motIq => ⟨0x200054, dimsMot, 0#32, 0#32, 0#32, 0#32, 0#32, false, 0#32, none⟩
  | .motVdc => ⟨0x200058, dimsMot, 0#32, 0#32, 0#32, 0#32, 0#32, false, 0#32, none⟩
  | .motVline => ⟨0x20005c, dimsMot, 0#32, 0#32, 0#32, 0#32, 0#32, false, 0#32, none⟩
  | .motDerate => ⟨0x200060, dimsMot, 0#32, 0#32, 0#32, 0#32, 0#32, false, 0#32, none⟩
  | .motIdentRs => ⟨0x200068, dimsMot, 0#32, 0#32, 0#32, 0#32, 0#32, false, 0#32, none⟩
  | .motIdentLs => ⟨0x20006c, dimsMot, 0#32, 0#32, 0#32, 0#32, 0#32, false, 0#32, none⟩
  | .gateCfg => ⟨0x202000, dimsGate, 0#32, 0x3fffffff#32, 0#32, 0#32, 0#32, false, 0#32, none⟩
  | .gateHome => ⟨0x202004, dimsGate, 0xffffffff#32, 0#32, 0#32, 0#32, 0#32, true, 0#32, some (.gateCfg, 30)⟩
  | .gateClear => ⟨0x202008, dimsGate, 0xffffff#32, 0#32, 0#32, 0#32, 0#32, true, 0#32, some (.gateCfg, 30)⟩
  | .gateWin => ⟨0x20200c, dimsGate, 0xffffffff#32, 0#32, 0#32, 0#32, 0#32, true, 0#32, some (.gateCfg, 30)⟩
  | .gateKv => ⟨0x202010, dimsGate, 0xffffffff#32, 0#32, 0#32, 0#32, 0#32, true, 0#32, some (.gateCfg, 30)⟩
  | .gateOfsLo => ⟨0x202014, dimsGate, 0xffffffff#32, 0#32, 0#32, 0#32, 0#32, false, 0#32, none⟩
  | .gateOfsHi => ⟨0x202018, dimsGate, 0xffffffff#32, 0#32, 0#32, 0#32, 0#32, false, 0#32, none⟩
  | .gateCmd => ⟨0x20201c, dimsGate, 0#32, 0#32, 0#32, 0xffffffff#32, 0#32, false, 0#32, none⟩
  | .gateStatus => ⟨0x202020, dimsGate, 0#32, 0#32, 0x300#32, 0#32, 0#32, false, 0#32, none⟩
  | .routeCfg => ⟨0x880000, dimsRoute, 0#32, 0x1f#32, 0#32, 0#32, 0#32, false, 0#32, none⟩
  | .routeTimes => ⟨0x880004, dimsRoute, 0x7fffff#32, 0#32, 0#32, 0#32, 0#32, true, 0#32, some (.routeCfg, 5)⟩
  | .routeCmd => ⟨0x880008, dimsRoute, 0#32, 0#32, 0#32, 0xffffffff#32, 0#32, false, 0#32, none⟩
  | .routeStatus => ⟨0x88000c, dimsRoute, 0#32, 0#32, 0x200#32, 0#32, 0#32, false, 0#32, none⟩
  | .routeMembers => ⟨0x880010, dimsRoute, 0#32, 0#32, 0#32, 0#32, 0#32, false, 0#32, none⟩
  | .slipCfg => ⟨0x890000, dimsI64, 0x1ffff#32, 0#32, 0#32, 0#32, 0#32, true, 0#32, none⟩
  | .slipStatus => ⟨0x890004, dimsI64, 0#32, 0#32, 0x20000#32, 0#32, 0#32, false, 0#32, none⟩
  | .divStatus => ⟨0x8a0000, dimsI64, 0#32, 0#32, 0x3#32, 0#32, 0#32, false, 0#32, none⟩
  | .aisCfg => ⟨0x100000, dimsAis, 0#32, 0x3ff#32, 0#32, 0#32, 0#32, false, 0#32, none⟩
  | .aisStatus => ⟨0x100004, dimsAis, 0#32, 0#32, 0x7c0#32, 0#32, 0#32, false, 0#32, none⟩
  | .aisLink => ⟨0x100010, dimsAis, 0#32, 0#32, 0#32, 0#32, 0#32, false, 0#32, none⟩
  | .aisCmd => ⟨0x100014, dimsAis, 0#32, 0#32, 0#32, 0xffffffff#32, 0#32, false, 0#32, none⟩
  | .aisSweepCfg => ⟨0x100024, dimsAis, 0x3ff07ff#32, 0#32, 0#32, 0#32, 0xa012c#32, false, 0#32, none⟩
  | .aisSweepStatus => ⟨0x100028, dimsAis, 0#32, 0#32, 0x120#32, 0#32, 0#32, false, 0#32, none⟩
  | .aisSweepResult => ⟨0x10002c, dimsAis, 0#32, 0#32, 0#32, 0#32, 0#32, false, 0#32, none⟩
  | .aisSupply => ⟨0x100008, dimsAis, 0#32, 0#32, 0#32, 0#32, 0#32, false, 0#32, none⟩
  | .aisTemp => ⟨0x10000c, dimsAis, 0#32, 0#32, 0#32, 0#32, 0#32, false, 0#32, none⟩
  | .aisSafeCrc => ⟨0x100018, dimsAis, 0#32, 0#32, 0#32, 0#32, 0#32, false, 0#32, none⟩
  | .aisDiMap => ⟨0x10001c, dimsAis, 0#32, 0#32, 0#32, 0#32, 0#32, false, 0#32, none⟩
  | .aisDoMap => ⟨0x100020, dimsAis, 0#32, 0#32, 0#32, 0#32, 0#32, false, 0#32, none⟩
  | .aisSummary => ⟨0x180000, dimsOne, 0#32, 0#32, 0#32, 0#32, 0#32, false, 0#32, none⟩
  | .stlCfg => ⟨0x101000, dimsStl, 0#32, 0x7fef#32, 0#32, 0#32, 0#32, false, 0#32, none⟩
  | .stlOpt => ⟨0x101004, dimsStl, 0#32, 0x3fffff#32, 0#32, 0#32, 0#32, true, 0#32, some (.stlCfg, 4)⟩
  | .stlStatus => ⟨0x101008, dimsStl, 0#32, 0#32, 0x2000#32, 0#32, 0#32, false, 0#32, none⟩
  | .stlValue => ⟨0x10100c, dimsStl, 0#32, 0#32, 0#32, 0#32, 0#32, false, 0#32, none⟩
  | .stlRaw => ⟨0x101010, dimsStl, 0#32, 0#32, 0#32, 0#32, 0#32, false, 0#32, none⟩
  | .stlTimeLo => ⟨0x101014, dimsStl, 0#32, 0#32, 0#32, 0#32, 0#32, false, 0#32, none⟩
  | .stlTimeHi => ⟨0x101018, dimsStl, 0#32, 0#32, 0#32, 0#32, 0#32, false, 0#32, none⟩
  | .stlCount => ⟨0x10101c, dimsStl, 0#32, 0#32, 0#32, 0#32, 0#32, false, 0#32, none⟩
  | .stlDiag => ⟨0x101020, dimsStl, 0#32, 0#32, 0#32, 0#32, 0#32, false, 0#32, none⟩
  | .cblLimits => ⟨0x181000, dimsI64, 0xffff#32, 0#32, 0#32, 0#32, 0#32, true, 0#32, none⟩
  | .cblSuspect => ⟨0x181004, dimsI64, 0#32, 0#32, 0#32, 0#32, 0#32, false, 0#32, none⟩
  | .cblFailed => ⟨0x181008, dimsI64, 0#32, 0#32, 0#32, 0#32, 0#32, false, 0#32, none⟩
  | .cblUnchecked => ⟨0x18100c, dimsI64, 0#32, 0#32, 0#32, 0#32, 0#32, false, 0#32, none⟩
  | .txCfg => ⟨0x380000, dimsTx, 0#32, 0xfef#32, 0#32, 0#32, 0#32, false, 0#32, none⟩
  | .txTrimZero => ⟨0x380004, dimsTx, 0xffff#32, 0#32, 0#32, 0#32, 0#32, false, 0#32, none⟩
  | .txTrimSpan => ⟨0x380008, dimsTx, 0xffff#32, 0#32, 0#32, 0#32, 0#32, false, 0#32, none⟩
  | .txClamp => ⟨0x38000c, dimsTx, 0xffffffff#32, 0#32, 0#32, 0#32, 0#32, true, 0#32, some (.txCfg, 4)⟩
  | .txCmd => ⟨0x380010, dimsTx, 0#32, 0#32, 0#32, 0xffffffff#32, 0#32, false, 0#32, none⟩
  | .txStatus => ⟨0x380014, dimsTx, 0#32, 0#32, 0x700#32, 0#32, 0#32, false, 0#32, none⟩
  | .txCounts => ⟨0x380024, dimsTx, 0#32, 0#32, 0#32, 0#32, 0#32, false, 0#32, none⟩
  | .txTarget => ⟨0x380018, dimsTx, 0#32, 0#32, 0#32, 0#32, 0#32, false, 0#32, none⟩
  | .txReadback => ⟨0x38001c, dimsTx, 0#32, 0#32, 0#32, 0#32, 0#32, false, 0#32, none⟩
  | .txTermV => ⟨0x380020, dimsTx, 0#32, 0#32, 0#32, 0#32, 0#32, false, 0#32, none⟩
  | .txSession => ⟨0x381000, dimsOne, 0#32, 0#32, 0#32, 0#32, 0#32, false, 0#32, none⟩
  | .txLockMap => ⟨0x381004, dimsOne, 0#32, 0#32, 0#32, 0#32, 0#32, false, 0#32, none⟩
  | .solCfg => ⟨0x300000, dimsSol, 0#32, 0x1ffb#32, 0#32, 0#32, 0#32, false, 0#32, none⟩
  | .solPeak => ⟨0x300004, dimsSol, 0x3ffffff#32, 0#32, 0#32, 0#32, 0#32, false, 0#32, none⟩
  | .solHold => ⟨0x300008, dimsSol, 0xfff#32, 0#32, 0#32, 0#32, 0#32, false, 0#32, none⟩
  | .solPwm => ⟨0x30000c, dimsSol, 0xffff#32, 0#32, 0#32, 0#32, 0#32, true, 0#32, some (.solCfg, 2)⟩
  | .solDuty => ⟨0x300010, dimsSol, 0x1fff7f#32, 0#32, 0#32, 0#32, 0#32, false, 0#32, none⟩
  | .solLimits => ⟨0x300014, dimsSol, 0x3ffffff#32, 0#32, 0#32, 0#32, 0#32, true, 0#32, some (.solCfg, 2)⟩
  | .solCmd => ⟨0x300018, dimsSol, 0#32, 0#32, 0#32, 0xffffffff#32, 0#32, false, 0#32, none⟩
  | .solReq => ⟨0x300034, dimsSol, 0xffffffff#32, 0#32, 0#32, 0#32, 0#32, false, 0#32, none⟩
  | .solStatus => ⟨0x30001c, dimsSol, 0#32, 0#32, 0xf00#32, 0#32, 0#32, false, 0#32, none⟩
  | .solCounts => ⟨0x300030, dimsSol, 0#32, 0#32, 0#32, 0#32, 0#32, false, 0#32, none⟩
  | .solCurrent => ⟨0x300020, dimsSol, 0#32, 0#32, 0#32, 0#32, 0#32, false, 0#32, none⟩
  | .solDutyUsed => ⟨0x300024, dimsSol, 0#32, 0#32, 0#32, 0#32, 0#32, false, 0#32, none⟩
  | .solEndLo => ⟨0x300028, dimsSol, 0#32, 0#32, 0#32, 0#32, 0#32, false, 0#32, none⟩
  | .solEndHi => ⟨0x30002c, dimsSol, 0#32, 0#32, 0#32, 0#32, 0#32, false, 0#32, none⟩
  | .solFaultMap => ⟨0x301000, dimsOne, 0#32, 0#32, 0#32, 0#32, 0#32, false, 0#32, none⟩
  | .solOnMap => ⟨0x301004, dimsOne, 0#32, 0#32, 0#32, 0#32, 0#32, false, 0#32, none⟩
  | .mktCfg => ⟨0x1000000, dimsOne, 0#32, 0x7fbfff#32, 0#32, 0#32, 0#32, false, 0x7f8000#32, some (.mktCfg, 14)⟩
  | .mktIdent => ⟨0x1000004, dimsOne, 0#32, 0xfffffff#32, 0#32, 0#32, 0#32, false, 0#32, none⟩
  | .mktStatus => ⟨0x1000008, dimsOne, 0#32, 0#32, 0x3f80#32, 0#32, 0#32, false, 0#32, none⟩
  | .mktSync => ⟨0x100000c, dimsOne, 0#32, 0#32, 0#32, 0#32, 0#32, false, 0#32, none⟩
  | .mktGate => ⟨0x1000018, dimsOne, 0x1ffffff#32, 0#32, 0#32, 0#32, 0#32, true, 0#32, some (.mktCfg, 14)⟩
  | .mktGen => ⟨0x100001c, dimsOne, 0#32, 0#32, 0#32, 0#32, 0#32, false, 0#32, none⟩
  | .mktCmd => ⟨0x1000028, dimsOne, 0#32, 0#32, 0#32, 0xffffffff#32, 0#32, false, 0#32, none⟩
  | .mktTaiSec => ⟨0x100002c, dimsOne, 0xffffffff#32, 0#32, 0#32, 0#32, 0#32, false, 0#32, none⟩
  | .mktTimeLo => ⟨0x1000010, dimsOne, 0#32, 0#32, 0#32, 0#32, 0#32, false, 0#32, none⟩
  | .mktTimeHi => ⟨0x1000014, dimsOne, 0#32, 0#32, 0#32, 0#32, 0#32, false, 0#32, none⟩
  | .mktSwitchLo => ⟨0x1000020, dimsOne, 0#32, 0#32, 0#32, 0#32, 0#32, false, 0#32, none⟩
  | .mktSwitchHi => ⟨0x1000024, dimsOne, 0#32, 0#32, 0#32, 0#32, 0#32, false, 0#32, none⟩
  | .mktDiscards => ⟨0x1000030, dimsOne, 0#32, 0#32, 0#32, 0#32, 0#32, false, 0#32, none⟩
  | .mktDrops => ⟨0x1000034, dimsOne, 0#32, 0#32, 0#32, 0#32, 0#32, false, 0#32, none⟩
  | .mktPort => ⟨0x1000040, dimsP2, 0#32, 0x1#32, 0#32, 0#32, 0#32, false, 0#32, none⟩
  | .mktHeard => ⟨0x1000100, dimsH32, 0#32, 0#32, 0#32, 0#32, 0#32, false, 0#32, none⟩
  | .talPostTLo => ⟨0x1200000, dimsOne, 0xffffffff#32, 0#32, 0#32, 0#32, 0#32, false, 0#32, none⟩
  | .talPostTHi => ⟨0x1200004, dimsOne, 0xffffffff#32, 0#32, 0#32, 0#32, 0#32, false, 0#32, none⟩
  | .talPostNum => ⟨0x1200008, dimsOne, 0xffffffff#32, 0#32, 0#32, 0#32, 0#32, false, 0#32, none⟩
  | .talCmd => ⟨0x120000c, dimsOne, 0#32, 0#32, 0#32, 0xffffffff#32, 0#32, false, 0#32, none⟩
  | .talAck => ⟨0x1200010, dimsOne, 0#32, 0#32, 0#32, 0xffffffff#32, 0#32, false, 0#32, none⟩
  | .talResult => ⟨0x1200014, dimsOne, 0#32, 0#32, 0#32, 0#32, 0#32, false, 0#32, none⟩
  | .talBank => ⟨0x1200018, dimsOne, 0#32, 0#32, 0#32, 0#32, 0#32, false, 0#32, none⟩
  | .talNum => ⟨0x120001c, dimsP2, 0#32, 0#32, 0#32, 0#32, 0#32, false, 0#32, none⟩
  | .talStatus => ⟨0x1200024, dimsOne, 0#32, 0#32, 0x1f#32, 0#32, 0#32, false, 0#32, none⟩
  | .evrHeadLo => ⟨0x1300000, dimsOne, 0#32, 0#32, 0#32, 0#32, 0#32, false, 0#32, none⟩
  | .evrHeadHi => ⟨0x1300004, dimsOne, 0#32, 0#32, 0#32, 0#32, 0#32, false, 0#32, none⟩
  | .evrClearedLo => ⟨0x1300008, dimsOne, 0#32, 0#32, 0#32, 0#32, 0#32, false, 0#32, none⟩
  | .evrClearedHi => ⟨0x130000c, dimsOne, 0#32, 0#32, 0#32, 0#32, 0#32, false, 0#32, none⟩
  | .evrClearLo => ⟨0x1300010, dimsOne, 0#32, 0#32, 0#32, 0xffffffff#32, 0#32, false, 0#32, none⟩
  | .evrClearHi => ⟨0x1300014, dimsOne, 0#32, 0#32, 0#32, 0xffffffff#32, 0#32, false, 0#32, none⟩
  | .evrMramLo => ⟨0x1300018, dimsOne, 0#32, 0#32, 0#32, 0#32, 0#32, false, 0#32, none⟩
  | .evrMramHi => ⟨0x130001c, dimsOne, 0#32, 0#32, 0#32, 0#32, 0#32, false, 0#32, none⟩
  | .evrWinLo => ⟨0x1300020, dimsOne, 0xffffffff#32, 0#32, 0#32, 0#32, 0#32, false, 0#32, none⟩
  | .evrWinHi => ⟨0x1300024, dimsOne, 0xffffffff#32, 0#32, 0#32, 0#32, 0#32, false, 0#32, none⟩
  | .evrStatus => ⟨0x1300028, dimsOne, 0#32, 0#32, 0x1e#32, 0#32, 0#32, false, 0#32, none⟩
  | .evrCounts => ⟨0x130002c, dimsOne, 0#32, 0#32, 0#32, 0#32, 0#32, false, 0#32, none⟩
  | .pairCfg => ⟨0x1100000, dimsOne, 0#32, 0x7fffd#32, 0#32, 0#32, 0#32, false, 0#32, none⟩
  | .pairStatus => ⟨0x1100004, dimsOne, 0#32, 0#32, 0xff000#32, 0#32, 0#32, false, 0#32, none⟩
  | .pairMirror => ⟨0x1100010, dimsOne, 0#32, 0#32, 0#32, 0#32, 0#32, false, 0#32, none⟩
  | .pairSelftest => ⟨0x110001c, dimsOne, 0#32, 0#32, 0#32, 0#32, 0#32, false, 0#32, none⟩
  | .pairCmd => ⟨0x1100034, dimsOne, 0#32, 0#32, 0#32, 0xffffffff#32, 0#32, false, 0#32, none⟩
  | .pairPeer => ⟨0x1100038, dimsOne, 0#32, 0#32, 0#32, 0#32, 0#32, false, 0#32, none⟩
  | .pairEpochLo => ⟨0x1100008, dimsOne, 0#32, 0#32, 0#32, 0#32, 0#32, false, 0#32, none⟩
  | .pairEpochHi => ⟨0x110000c, dimsOne, 0#32, 0#32, 0#32, 0#32, 0#32, false, 0#32, none⟩
  | .pairTakeoverLo => ⟨0x110002c, dimsOne, 0#32, 0#32, 0#32, 0#32, 0#32, false, 0#32, none⟩
  | .pairTakeoverHi => ⟨0x1100030, dimsOne, 0#32, 0#32, 0#32, 0#32, 0#32, false, 0#32, none⟩
  | .pairFindings => ⟨0x1100014, dimsOne, 0#32, 0#32, 0#32, 0#32, 0#32, false, 0#32, none⟩
  | .pairSeen => ⟨0x1100018, dimsOne, 0#32, 0#32, 0xfff#32, 0#32, 0#32, false, 0#32, none⟩
  | .pairCompare => ⟨0x1100020, dimsOne, 0#32, 0#32, 0#32, 0#32, 0#32, false, 0#32, none⟩
  | .pairWick => ⟨0x1100024, dimsOne, 0#32, 0#32, 0#32, 0#32, 0#32, false, 0#32, none⟩
  | .pairLink => ⟨0x1100028, dimsOne, 0#32, 0#32, 0#32, 0#32, 0#32, false, 0#32, none⟩
  | .hldStatus => ⟨0x18000, dimsOne, 0#32, 0#32, 0x6000#32, 0#32, 0#32, false, 0#32, none⟩
  | .hldResult => ⟨0x18004, dimsOne, 0#32, 0#32, 0#32, 0#32, 0#32, false, 0#32, none⟩
  | .hldCmd => ⟨0x18008, dimsOne, 0#32, 0#32, 0#32, 0xffffffff#32, 0#32, false, 0#32, none⟩
  | .hldApplyLo => ⟨0x1800c, dimsOne, 0xffffffff#32, 0#32, 0#32, 0#32, 0#32, false, 0#32, none⟩
  | .hldApplyHi => ⟨0x18010, dimsOne, 0xffffffff#32, 0#32, 0#32, 0#32, 0#32, false, 0#32, none⟩
  | .hldUpload => ⟨0x18014, dimsOne, 0#32, 0#32, 0#32, 0#32, 0#32, false, 0#32, none⟩
  | .hldVersion => ⟨0x18018, dimsOne, 0#32, 0#32, 0#32, 0#32, 0#32, false, 0#32, none⟩
  | .hldPatch => ⟨0x1801c, dimsOne, 0#32, 0#32, 0#32, 0#32, 0#32, false, 0#32, none⟩
  | .hldHash => ⟨0x18020, dimsN8, 0#32, 0#32, 0#32, 0#32, 0#32, false, 0#32, none⟩
  | .hldStagedHash => ⟨0x18040, dimsN8, 0#32, 0#32, 0#32, 0#32, 0#32, false, 0#32, none⟩
  | .snfStatus => ⟨0x1500000, dimsOne, 0#32, 0#32, 0x43f00#32, 0#32, 0#32, false, 0#32, none⟩
  | .snfCmd => ⟨0x1500004, dimsOne, 0#32, 0#32, 0#32, 0xffffffff#32, 0#32, false, 0#32, none⟩
  | .snfResult => ⟨0x1500008, dimsOne, 0#32, 0#32, 0#32, 0#32, 0#32, false, 0#32, none⟩
  | .snfWdog => ⟨0x150000c, dimsOne, 0#32, 0xffff#32, 0#32, 0#32, 0x47d0#32, false, 0#32, none⟩
  | .snfReset => ⟨0x1500010, dimsOne, 0#32, 0#32, 0x10#32, 0#32, 0#32, false, 0#32, none⟩
  | .snfStraps => ⟨0x1500014, dimsOne, 0#32, 0#32, 0#32, 0#32, 0#32, false, 0#32, none⟩
  | .snfBoot => ⟨0x1500018, dimsOne, 0#32, 0#32, 0#32, 0#32, 0#32, false, 0#32, none⟩
  | .snfWake => ⟨0x150001c, dimsOne, 0xffffffff#32, 0#32, 0#32, 0#32, 0#32, false, 0#32, none⟩
  | .snfWakeTicks => ⟨0x1500020, dimsOne, 0xffffffff#32, 0#32, 0#32, 0#32, 0#32, false, 0#32, none⟩
  | .thrStatus => ⟨0x1400000, dimsOne, 0#32, 0#32, 0x700#32, 0#32, 0#32, false, 0#32, none⟩
  | .thrHot => ⟨0x1400004, dimsOne, 0#32, 0#32, 0#32, 0#32, 0#32, false, 0#32, none⟩
  | .thrCount => ⟨0x1400008, dimsOne, 0#32, 0#32, 0#32, 0#32, 0#32, false, 0#32, none⟩
  | .thrPower => ⟨0x140000c, dimsOne, 0#32, 0#32, 0#32, 0#32, 0#32, false, 0#32, none⟩
  | .thrRowT => ⟨0x1400020, dimsT8, 0#32, 0#32, 0#32, 0#32, 0#32, false, 0#32, none⟩
  | .thrSensVal => ⟨0x1400100, dimsSens, 0#32, 0#32, 0#32, 0#32, 0#32, false, 0#32, none⟩
  | .thrSensRaw => ⟨0x1400104, dimsSens, 0#32, 0#32, 0#32, 0#32, 0#32, false, 0#32, none⟩
  | .thrPolCfg => ⟨0x1400200, dimsPol, 0#32, 0x7fd#32, 0#32, 0#32, 0#32, false, 0#32, none⟩
  | .thrPolLevels => ⟨0x1400204, dimsPol, 0xffff#32, 0#32, 0#32, 0#32, 0#32, false, 0#32, none⟩
  | .thrPolHyst => ⟨0x1400208, dimsPol, 0xff#32, 0#32, 0#32, 0#32, 0#32, true, 0#32, some (.thrPolCfg, 1)⟩
  | .thrPolStatus => ⟨0x140020c, dimsPol, 0#32, 0#32, 0x18#32, 0#32, 0#32, false, 0#32, none⟩
  | .mgtStatus => ⟨0x10000, dimsOne, 0#32, 0#32, 0x8080#32, 0#32, 0#32, false, 0#32, none⟩
  | .mgtCmd => ⟨0x10004, dimsOne, 0#32, 0#32, 0#32, 0xffffffff#32, 0#32, false, 0#32, none⟩
  | .mgtResult => ⟨0x10008, dimsOne, 0#32, 0#32, 0#32, 0#32, 0#32, false, 0#32, none⟩
  | .mgtOtpKeys => ⟨0x1001c, dimsOne, 0#32, 0#32, 0#32, 0#32, 0#32, false, 0#32, none⟩
  | .mgtImg => ⟨0x10030, dimsOne, 0#32, 0#32, 0#32, 0#32, 0#32, false, 0#32, none⟩
  | .mgtFwVerA => ⟨0x1000c, dimsOne, 0#32, 0#32, 0#32, 0#32, 0#32, false, 0#32, none⟩
  | .mgtFwVerB => ⟨0x10010, dimsOne, 0#32, 0#32, 0#32, 0#32, 0#32, false, 0#32, none⟩
  | .mgtFloorFw => ⟨0x10014, dimsOne, 0#32, 0#32, 0#32, 0#32, 0#32, false, 0#32, none⟩
  | .mgtFloorStream => ⟨0x10018, dimsOne, 0#32, 0#32, 0#32, 0#32, 0#32, false, 0#32, none⟩
  | .mgtImgVer => ⟨0x10034, dimsOne, 0#32, 0#32, 0#32, 0#32, 0#32, false, 0#32, none⟩
  | .mgtMkey => ⟨0x10020, dimsK4, 0#32, 0#32, 0#32, 0#32, 0#32, false, 0#32, none⟩
  | .mgtDevidLo => ⟨0x10038, dimsOne, 0#32, 0#32, 0#32, 0#32, 0#32, false, 0#32, none⟩
  | .mgtDevidHi => ⟨0x1003c, dimsOne, 0#32, 0#32, 0#32, 0#32, 0#32, false, 0#32, none⟩
  | .mgtSerial => ⟨0x10040, dimsK4, 0#32, 0#32, 0#32, 0#32, 0#32, false, 0#32, none⟩
  | .mgtWrap => ⟨0x10100, dimsW16, 0#32, 0#32, 0#32, 0xffffffff#32, 0#32, false, 0#32, none⟩
  | .mgtNonce => ⟨0x10140, dimsN8, 0xffffffff#32, 0#32, 0#32, 0#32, 0#32, false, 0#32, none⟩
  | .mgtAttest => ⟨0x10180, dimsW16, 0#32, 0#32, 0#32, 0#32, 0#32, false, 0#32, none⟩
  | .mgtDevkey => ⟨0x101c0, dimsW16, 0#32, 0#32, 0#32, 0#32, 0#32, false, 0#32, none⟩
  | .monStatus => ⟨0x10200, dimsOne, 0#32, 0#32, 0x30#32, 0#32, 0#32, false, 0#32, none⟩
  | .waxCfg => ⟨0x1600000, dimsOne, 0#32, 0x7fff#32, 0#32, 0#32, 0#32, false, 0#32, none⟩
  | .waxStatus => ⟨0x1600004, dimsOne, 0#32, 0#32, 0xf0#32, 0#32, 0#32, false, 0#32, none⟩
  | .waxRate => ⟨0x1600008, dimsOne, 0#32, 0#32, 0#32, 0#32, 0#32, false, 0#32, none⟩
  | .waxSpan => ⟨0x160000c, dimsOne, 0#32, 0#32, 0#32, 0#32, 0#32, false, 0#32, none⟩
  | .waxOldestLo => ⟨0x1600010, dimsOne, 0#32, 0#32, 0#32, 0#32, 0#32, false, 0#32, none⟩
  | .waxOldestHi => ⟨0x1600014, dimsOne, 0#32, 0#32, 0#32, 0#32, 0#32, false, 0#32, none⟩
  | .waxFromLo => ⟨0x1600018, dimsOne, 0xffffffff#32, 0#32, 0#32, 0#32, 0#32, false, 0#32, none⟩
  | .waxFromHi => ⟨0x160001c, dimsOne, 0xffffffff#32, 0#32, 0#32, 0#32, 0#32, false, 0#32, none⟩
  | .waxToLo => ⟨0x1600020, dimsOne, 0xffffffff#32, 0#32, 0#32, 0#32, 0#32, false, 0#32, none⟩
  | .waxToHi => ⟨0x1600024, dimsOne, 0xffffffff#32, 0#32, 0#32, 0#32, 0#32, false, 0#32, none⟩
  | .waxSizeLo => ⟨0x1600028, dimsOne, 0#32, 0#32, 0#32, 0#32, 0#32, false, 0#32, none⟩
  | .waxSizeHi => ⟨0x160002c, dimsOne, 0#32, 0#32, 0#32, 0#32, 0#32, false, 0#32, none⟩
  | .waxExpOfsLo => ⟨0x1600030, dimsOne, 0xffffffff#32, 0#32, 0#32, 0#32, 0#32, false, 0#32, none⟩
  | .waxExpOfsHi => ⟨0x1600034, dimsOne, 0xffffffff#32, 0#32, 0#32, 0#32, 0#32, false, 0#32, none⟩
  | .waxExpLen => ⟨0x1600038, dimsOne, 0xffffffff#32, 0#32, 0#32, 0#32, 0#32, false, 0#32, none⟩
  | .waxExpRate => ⟨0x160003c, dimsOne, 0x1ff#32, 0#32, 0#32, 0#32, 0x14#32, false, 0#32, none⟩
  | .waxCmd => ⟨0x1600040, dimsOne, 0#32, 0#32, 0#32, 0xffffffff#32, 0#32, false, 0#32, none⟩
  | .waxResult => ⟨0x1600044, dimsOne, 0#32, 0#32, 0#32, 0#32, 0#32, false, 0#32, none⟩
  | .rltStatus => ⟨0x1600100, dimsOne, 0#32, 0#32, 0x800#32, 0#32, 0#32, false, 0#32, none⟩
  | .rltFrameLo => ⟨0x1600104, dimsOne, 0#32, 0#32, 0#32, 0#32, 0#32, false, 0#32, none⟩
  | .rltFrameHi => ⟨0x1600108, dimsOne, 0#32, 0#32, 0#32, 0#32, 0#32, false, 0#32, none⟩
  | .rltStopLo => ⟨0x160010c, dimsOne, 0xffffffff#32, 0#32, 0#32, 0#32, 0#32, false, 0#32, none⟩
  | .rltStopHi => ⟨0x1600110, dimsOne, 0xffffffff#32, 0#32, 0#32, 0#32, 0#32, false, 0#32, none⟩
  | .rltCmd => ⟨0x1600114, dimsOne, 0#32, 0#32, 0#32, 0xffffffff#32, 0#32, false, 0#32, none⟩
  | .rltDigestRec => ⟨0x1600118, dimsOne, 0#32, 0#32, 0#32, 0#32, 0#32, false, 0#32, none⟩
  | .rltDigestOwn => ⟨0x160011c, dimsOne, 0#32, 0#32, 0#32, 0#32, 0#32, false, 0#32, none⟩
  | .rltLib => ⟨0x1600120, dimsOne, 0#32, 0#32, 0#32, 0#32, 0#32, false, 0#32, none⟩
  | .glbId => ⟨0x0, dimsOne, 0#32, 0#32, 0#32, 0#32, 0#32, false, 0#32, none⟩
  | .glbCaps => ⟨0x4, dimsP2, 0#32, 0#32, 0#32, 0#32, 0#32, false, 0#32, none⟩
  | .glbState => ⟨0xc, dimsOne, 0#32, 0#32, 0#32, 0#32, 0#32, false, 0#32, none⟩
  | .glbFrameLo => ⟨0x10, dimsOne, 0#32, 0#32, 0#32, 0#32, 0#32, false, 0#32, none⟩
  | .glbFrameHi => ⟨0x14, dimsOne, 0#32, 0#32, 0#32, 0#32, 0#32, false, 0#32, none⟩
  | .glbHost => ⟨0x18, dimsOne, 0#32, 0xffff#32, 0x20000#32, 0#32, 0#32, false, 0#32, none⟩
  | .glbHostAge => ⟨0x1c, dimsOne, 0#32, 0#32, 0#32, 0#32, 0#32, false, 0#32, none⟩
  | .glbAccess => ⟨0x20, dimsOne, 0#32, 0#32, 0x20#32, 0#32, 0#32, false, 0#32, none⟩
  | .glbAccessAddr => ⟨0x24, dimsOne, 0#32, 0#32, 0#32, 0#32, 0#32, false, 0#32, none⟩
  | .glbAccessCount => ⟨0x28, dimsOne, 0#32, 0#32, 0#32, 0#32, 0#32, false, 0#32, none⟩
  | .glbIrqRaw => ⟨0x30, dimsOne, 0#32, 0#32, 0#32, 0#32, 0#32, false, 0#32, none⟩
  | .glbIrqPend => ⟨0x34, dimsOne, 0#32, 0#32, 0x7fffff#32, 0#32, 0#32, false, 0#32, none⟩
  | .glbIrqEn => ⟨0x38, dimsOne, 0x7fffff#32, 0#32, 0#32, 0#32, 0#32, false, 0#32, none⟩
  | .glbNotice => ⟨0x3c, dimsOne, 0x7fffff#32, 0#32, 0#32, 0#32, 0x4064#32, false, 0#32, none⟩
  | .glbScratch => ⟨0x40, dimsOne, 0xffffffff#32, 0#32, 0#32, 0#32, 0#32, false, 0#32, none⟩

/-- The register names in table order, part 1. -/
def regNamesA : List RegName :=
  [
   .wckCfg, .wckTiming, .wckStatus, .wckSpeed, .wckCmd, .wckSrc, .wckRatio, .wckDiv, .wckPublish, .wckDiag, 
   .wckPosLo, .wckPosHi, .wckEdgeTimeLo, .wckEdgeTimeHi, .wckPresetLo, .wckPresetHi, .wckDormantDeltaLo, 
   .wckDormantDeltaHi, .wckLostMapLo, .wckLostMapHi, .wckStillMapLo, .wckStillMapHi, .wckSnapTimeLo, 
   .wckSnapTimeHi, .wckDormantStatus, .lltStatus, .lltOccupancy, .lltHostRange, .lltCmd, .lltResult, .lltDiag, 
   .lltStage, .lltStageEnd, .lltExecLo, .lltExecHi, .lltSlotStatus, .mstCfg, .mstCfg2, .mstProc, .mstLimits, 
   .mstNoise, .mstStatus, .mstCmd, .mstCalStatus, .mstLab, .mstProbeC0, .mstProbeCf, .mstMoisture, 
   .mstGrainTemp, .mstDensity, .mstTimeLo, .mstTimeHi, .mstCoordLo, .mstCoordHi, .mstEps, .mstFitSlope, 
   .mstFitOffset, .pclCfg, .pclPlen, .pclProbes]

/-- The register names in table order, part 2. -/
def regNamesB : List RegName :=
  [
   .pclTol, .pclCkpt, .pclStatus, .pclCounts, .pclDiag, .pclCmd, .pclAssumeTab, .pclOriginLo, .pclOriginHi, 
   .pclStepLo, .pclStepHi, .pclCkptTimeLo, .pclCkptTimeHi, .pclInOfs, .pclDisOfs, .pclZone, .pclAssumeM, 
   .pclAssumeT, .pclAssumeRho, .pclWinSel, .pclStaleMap, .dryCfg, .dryTune, .dryAdapt, .dryFb, .dryCool, 
   .dryStatus, .dryCmd, .dryTarget, .dryRateMin, .dryRateMax, .dryBatchRate, .dryRateOut, .dryPred, .dryBias, 
   .dryLnA, .dryConf, .dryTrim, .dryNight, .heatCfg, .heatTrim, .heatStatus, .heatSpReq, .heatSpMin, 
   .heatSpMax, .heatTLim, .heatSpOut, .heatTMax, .heatFactor, .aerCfg, .aerGrainM, .aerBand, .aerStatus, 
   .aerEmc, .aerTimes, .aerLimits, .engStatus, .engLoad, .engUse, .engMisses]

/-- The register names in table order, part 3. -/
def regNamesC : List RegName :=
  [
   .engMissInst, .engCmd, .engMissFrameLo, .engMissFrameHi, .rowClock, .rowWorst, .engMissMap, .engHaltMap, 
   .bskSel, .bskDesc, .bskStatus, .bskCounts, .bskPeak, .bskCmd, .bskGlobal, .bskStorage, .tagStatus, .tagDiag, 
   .tagFlags, .loopCfg, .loopTune, .loopSupTime, .loopSupConf, .loopStuck, .loopCmd, .loopStatus, 
   .loopFindings, .loopKp, .loopTi, .loopTd, .loopKff, .loopOutMin, .loopOutMax, .loopRate, .loopMan, 
   .loopSupE, .loopSupP, .loopSafe, .loopSafeRate, .loopTrip, .loopOut, .loopSp, .loopPv, .loopErr, .loopLimit, 
   .loopConf, .tprCfg, .tprCmd, .tprStatus, .tprTarget, .tprAcc, .tprJerk, .tprYmin, .tprYmax, .tprYa, .tprYb, 
   .tprXaLo, .tprXaHi, .tprXbLo, .tprXbHi]

/-- The register names in table order, part 4. -/
def regNamesD : List RegName :=
  [
   .tprOut, .tprRate, .tprRemain, .motCfg, .motPwm, .motSd, .motEnc, .motLimits, .motBus, .motFan, .motStart, 
   .motBrake, .motTemp, .motCmd, .motStatus, .motFault, .motAngle, .motCounts, .motRatedV, .motRatedI, 
   .motRatedN, .motCurKp, .motCurKi, .motSpeed, .motObsSpeed, .motId, .motIq, .motVdc, .motVline, .motDerate, 
   .motIdentRs, .motIdentLs, .gateCfg, .gateHome, .gateClear, .gateWin, .gateKv, .gateOfsLo, .gateOfsHi, 
   .gateCmd, .gateStatus, .routeCfg, .routeTimes, .routeCmd, .routeStatus, .routeMembers, .slipCfg, 
   .slipStatus, .divStatus, .aisCfg, .aisStatus, .aisLink, .aisCmd, .aisSweepCfg, .aisSweepStatus, 
   .aisSweepResult, .aisSupply, .aisTemp, .aisSafeCrc, .aisDiMap]

/-- The register names in table order, part 5. -/
def regNamesE : List RegName :=
  [
   .aisDoMap, .aisSummary, .stlCfg, .stlOpt, .stlStatus, .stlValue, .stlRaw, .stlTimeLo, .stlTimeHi, .stlCount, 
   .stlDiag, .cblLimits, .cblSuspect, .cblFailed, .cblUnchecked, .txCfg, .txTrimZero, .txTrimSpan, .txClamp, 
   .txCmd, .txStatus, .txCounts, .txTarget, .txReadback, .txTermV, .txSession, .txLockMap, .solCfg, .solPeak, 
   .solHold, .solPwm, .solDuty, .solLimits, .solCmd, .solReq, .solStatus, .solCounts, .solCurrent, 
   .solDutyUsed, .solEndLo, .solEndHi, .solFaultMap, .solOnMap, .mktCfg, .mktIdent, .mktStatus, .mktSync, 
   .mktGate, .mktGen, .mktCmd, .mktTaiSec, .mktTimeLo, .mktTimeHi, .mktSwitchLo, .mktSwitchHi, .mktDiscards, 
   .mktDrops, .mktPort, .mktHeard, .talPostTLo]

/-- The register names in table order, part 6. -/
def regNamesF : List RegName :=
  [
   .talPostTHi, .talPostNum, .talCmd, .talAck, .talResult, .talBank, .talNum, .talStatus, .evrHeadLo, 
   .evrHeadHi, .evrClearedLo, .evrClearedHi, .evrClearLo, .evrClearHi, .evrMramLo, .evrMramHi, .evrWinLo, 
   .evrWinHi, .evrStatus, .evrCounts, .pairCfg, .pairStatus, .pairMirror, .pairSelftest, .pairCmd, .pairPeer, 
   .pairEpochLo, .pairEpochHi, .pairTakeoverLo, .pairTakeoverHi, .pairFindings, .pairSeen, .pairCompare, 
   .pairWick, .pairLink, .hldStatus, .hldResult, .hldCmd, .hldApplyLo, .hldApplyHi, .hldUpload, .hldVersion, 
   .hldPatch, .hldHash, .hldStagedHash, .snfStatus, .snfCmd, .snfResult, .snfWdog, .snfReset, .snfStraps, 
   .snfBoot, .snfWake, .snfWakeTicks, .thrStatus, .thrHot, .thrCount, .thrPower, .thrRowT, .thrSensVal]

/-- The register names in table order, part 7. -/
def regNamesG : List RegName :=
  [
   .thrSensRaw, .thrPolCfg, .thrPolLevels, .thrPolHyst, .thrPolStatus, .mgtStatus, .mgtCmd, .mgtResult, 
   .mgtOtpKeys, .mgtImg, .mgtFwVerA, .mgtFwVerB, .mgtFloorFw, .mgtFloorStream, .mgtImgVer, .mgtMkey, 
   .mgtDevidLo, .mgtDevidHi, .mgtSerial, .mgtWrap, .mgtNonce, .mgtAttest, .mgtDevkey, .monStatus, .waxCfg, 
   .waxStatus, .waxRate, .waxSpan, .waxOldestLo, .waxOldestHi, .waxFromLo, .waxFromHi, .waxToLo, .waxToHi, 
   .waxSizeLo, .waxSizeHi, .waxExpOfsLo, .waxExpOfsHi, .waxExpLen, .waxExpRate, .waxCmd, .waxResult, 
   .rltStatus, .rltFrameLo, .rltFrameHi, .rltStopLo, .rltStopHi, .rltCmd, .rltDigestRec, .rltDigestOwn, 
   .rltLib, .glbId, .glbCaps, .glbState, .glbFrameLo, .glbFrameHi, .glbHost, .glbHostAge, .glbAccess, 
   .glbAccessAddr]

/-- The register names in table order, part 8. -/
def regNamesH : List RegName :=
  [
   .glbAccessCount, .glbIrqRaw, .glbIrqPend, .glbIrqEn, .glbNotice, .glbScratch]

/-- Every register name. -/
def allRegs : List RegName :=
  regNamesA ++ regNamesB ++ regNamesC ++ regNamesD ++ regNamesE ++ regNamesF ++ regNamesG ++ regNamesH

/-- Address of word i of a register. -/
def regAddr (r : RegName) (i : Nat) : Nat := (regDesc r).base + dimsOffset (regDesc r).dims i

/-- The register word that stands at an address, if one does (R11). -/
def decodeAddr (a : Nat) : Option (RegName × Nat) :=
  allRegs.findSome? (fun r =>
    if (regDesc r).base ≤ a then (dimsIndex (regDesc r).dims (a - (regDesc r).base)).map (fun i => (r, i)) else none)

end Sys2Proof.Machine
end

