-- ==== Sys2Proof/Machine/State.lean ====
section
/-!
DEFINITION. The state of the block: its registers, its units' records, the market time, and the queue of commands that wait.
The records of the units stand in the St files; here they are put together.
-/
namespace Sys2Proof.Machine

open Sys2Proof

/-- The block. -/
structure State where
  /-- Commands that wait, first in, first out. The model's own queue of the block's inputs | list | reset empty -/
  pending : List Instr
  /-- Market time counter, ns. R14 | 64 | DESIGN CHOICE 0 (log entry 4: the spec gives the counter no reset value) -/
  now : Nat
  /-- Number of the present frame, and whether a boundary has been passed since the core started. R22 | 64 + 1 | reset 0 -/
  frame : Nat
  framed : Bool
  /-- Counter of the free values used so far. The model's own | count | DESIGN CHOICE 0 (log entry 2) -/
  free : Nat
  /-- Stored bits of the RW, RWL and W1C fields by register address; unlisted = the reset value of the register table. R7 to R11, R462, R472 | 32 each | reset: per register, below -/
  rf : List (Nat × W32)
  /-- The stored register words as they stood at the latest frame boundary: those whose writes take effect there. R10 and the register chapters' "takes effect at the next frame boundary" | 32 each | reset as rf -/
  rfF : List (Nat × W32)
  /-- Wicks. R31 to R54 | record | reset WickState.reset -/
  wick : WickState
  /-- Lamplighter. R55 to R75 | record | reset LltState.reset -/
  llt : LltState
  /-- Moisture channels and grain tables. R76 to R97 | record | reset MoistState.reset -/
  moist : MoistState
  /-- Columns, drying, heat, aeration. R98 to R150 | record | reset ColState.reset -/
  col : ColState
  /-- Engines, rows, baskets, tags. R151 to R173 | record | reset EngState.reset -/
  eng : EngState
  /-- Tapers and loops. R174 to R189 | record | reset LoopState.reset -/
  loop : LoopState
  /-- Motor ports, gates, routes, belt slip, diverters. R190 to R238 | record | reset MotorState.reset -/
  motor : MotorState
  /-- Aisles and stalls. R239 to R268 | record | reset AisleState.reset -/
  aisle : AisleState
  /-- Transmitter ports. R269 to R280 | record | reset TxState.reset -/
  tx : TxState
  /-- Solenoid ports 0 to 31; unlisted = reset. R281 to R292 | 32 records | reset SolPort.reset -/
  sol : List (Nat × SolPort)
  /-- Market. R293 to R323 | record | reset MktState.reset -/
  mkt : MktState
  /-- Tallies. R324 to R330, R339 | record | reset TallyState.reset -/
  tal : TallyState
  /-- Event recorder. R331 to R340 | record | reset RecState.reset -/
  rec_ : RecState
  /-- Pair. R341 to R370 | record | reset PairState.reset -/
  pair : PairState
  /-- Stream. R371 to R390 | record | reset HldState.reset -/
  hld : HldState
  /-- Boot, resets, dormant mode, snuffer. R391 to R409 | record | reset SnfState.reset -/
  snf : SnfState
  /-- Thermal supervisor. R410 to R423 | record | reset ThrState.reset -/
  thr : ThrState
  /-- Management subsystem. R424 to R441 | record | reset MgtState.reset -/
  mgt : MgtState
  /-- Wax recorder. R442 to R452, R460 | record | reset WaxState.reset -/
  wax : WaxState
  /-- Relight. R453 to R456, R460 | record | reset RltState.reset -/
  rlt : RltState
  /-- Dulo monitor. R457 to R459, R461 | record | reset MonState.reset -/
  mon : MonState
  /-- Global registers and request state. R462 to R470 | record | reset GlbState.reset -/
  glb : GlbState
  /-- Block-facing state before the runs of the present frame, for R158's aborts. R158 | option record | reset none -/
  before : Option KeyImage
  /-- What the runs of the present frame have left beside their states, for R158's aborts. R158 | list | reset empty -/
  marks : List RunMark
  deriving DecidableEq, Repr

/-- Words of the register file right after AUX_POR: dormant_lost of each wick W0 to W51 (R396). -/
def auxWords : List (Nat × W32) := (List.range 52).map (fun w => (regAddr .wckStatus w, 0x1000#32))

/-- The block right after AUX_POR: no stream, core unpowered, every record at its reset (R396, R397). -/
def State.reset : State :=
  { pending := [], now := 0, frame := 0, framed := false, free := 0, rf := auxWords, rfF := auxWords, wick := WickState.reset, llt := LltState.reset,
    moist := MoistState.reset, col := ColState.reset, eng := EngState.reset, loop := LoopState.reset, motor := MotorState.reset,
    aisle := AisleState.reset, tx := TxState.reset, sol := [], mkt := MktState.reset, tal := TallyState.reset,
    rec_ := RecState.reset, pair := PairState.reset, hld := HldState.reset, snf := SnfState.reset, thr := ThrState.reset,
    mgt := MgtState.reset, wax := WaxState.reset, rlt := RltState.reset, mon := MonState.reset, glb := GlbState.reset,
    before := none, marks := [] }

/-- Reasons for a fault. There is none: no rule of the spec stops the block; what it turns away it reports in a register. -/
inductive Fault where
  deriving DecidableEq, Repr

/-- Reasons for a refusal. -/
inductive Refusal where
  /-- A command whose meaning the model does not hold; raised by `exec`'s arm of that command. Safe. -/
  | notModelled (mnemonic : String)
  deriving DecidableEq, Repr

end Sys2Proof.Machine
end

