-- ==== Sys2Proof/Machine/Ops.lean ====
section
/-!
DEFINITION. The named operations every command is written over: the stored bits of registers, the records of units, the
market time, free values, event records, the drive condition, the wax's items and the reports of register accesses.
-/
namespace Sys2Proof

/-- The value of a 16-bit maximal-length LFSR after the present one; the taps are not stated (R193, log entry 42). -/
opaque Config.lfsrNext : Nat → Nat
/-- The draw of a carrier's δ from the register and the bound; how it is drawn is not stated (R193, log entry 42). -/
opaque Config.ditherDraw : Nat → Nat → Nat

end Sys2Proof

namespace Sys2Proof.Machine

open Sys2Proof

/-- What a command answers. -/
abbrev Out := Host.Outcome State Fault Refusal

/-! ## Time and free values -/

/-- A happening at market time t: the state's market time is t or later (R14: market time never runs back by itself). -/
def setNow (s : State) (t : Nat) : State := { s with now := max s.now t }

/-- One base frame, ns (R22). -/
def frameNs : Nat := 125000

/-- Number of the frame that holds an instant (R22). -/
def frameOf (t : Nat) : Nat := t / frameNs

/-- Uses up one free value (log entry 2). -/
def useFree (s : State) : State := { s with free := s.free + 1 }

/-! ## Register file -/

/-- The stored bits of word i of a register. -/
def regW (s : State) (r : RegName) (i : Nat := 0) : W32 := spGet (regDesc r).reset s.rf (regAddr r i)

/-- Replaces the stored bits of word i of a register. -/
def setRegW (s : State) (r : RegName) (i : Nat) (v : W32) : State :=
  { s with rf := spSet (regDesc r).reset s.rf (regAddr r i) v }

/-- A field of a stored register word. -/
def regF (s : State) (r : RegName) (i lo n : Nat) : Nat := fld (regW s r i) lo n
/-- A signed field of a stored register word. -/
def regI (s : State) (r : RegName) (i lo n : Nat) : Int := sfld (regW s r i) lo n
/-- One bit of a stored register word. -/
def regB (s : State) (r : RegName) (i b : Nat) : Bool := bit (regW s r i) b
/-- The word of a register in force since the latest frame boundary. -/
def regN (s : State) (r : RegName) (i : Nat := 0) : W32 := spGet (regDesc r).reset s.rfF (regAddr r i)
/-- A field of a register word in force since the latest frame boundary. -/
def regNF (s : State) (r : RegName) (i lo n : Nat) : Nat := fld (regN s r i) lo n
/-- A signed field of a register word in force since the latest frame boundary. -/
def regNI (s : State) (r : RegName) (i lo n : Nat) : Int := sfld (regN s r i) lo n
/-- A bit of a register word in force since the latest frame boundary. -/
def regNB (s : State) (r : RegName) (i b : Nat) : Bool := bit (regN s r i) b
/-- The device writes a register word that is in force at once. -/
def putReg (s : State) (r : RegName) (i : Nat) (v : W32) : State :=
  { s with rf := spSet (regDesc r).reset s.rf (regAddr r i) v, rfF := spSet (regDesc r).reset s.rfF (regAddr r i) v }
/-- A block or a sequencer updates an RW register (R10): a host's write of the same frame stands, and the block's value is discarded. -/
def blockReg (s : State) (r : RegName) (i : Nat) (v : W32) : State := if s.glb.wrote.contains (regAddr r i) then s else putReg s r i v
/-- A 64-bit register pair as a number. -/
def reg64 (s : State) (lo hi : RegName) (i : Nat) : Nat := join64 (regW s lo i) (regW s hi i)
/-- A 64-bit register pair as a signed number. -/
def regI64 (s : State) (lo hi : RegName) (i : Nat) : Int := signed 64 (reg64 s lo hi i)

/-- The device sets sticky bits of a register word (R8, R10). -/
def setSticky (s : State) (r : RegName) (i : Nat) (m : W32) : State := setRegW s r i (regW s r i ||| m)

/-- The device sets one sticky bit. -/
def stick (s : State) (r : RegName) (i b : Nat) : State := setSticky s r i (putB b true)

/-- Replaces the n-bit field at bit lo of a word. -/
def setFldW (w : W32) (lo n x : Nat) : W32 := (w &&& ~~~ (put lo n (2 ^ n - 1))) ||| put lo n x

/-- The device writes a field of a stored register word. -/
def setRegF (s : State) (r : RegName) (i lo n x : Nat) : State := setRegW s r i (setFldW (regW s r i) lo n x)

/-! ## Records of units -/

def wickOf (s : State) (w : Nat) : Wick := spGet Wick.reset s.wick.w w
def setWick (s : State) (w : Nat) (x : Wick) : State := { s with wick := { s.wick with w := spSet Wick.reset s.wick.w w x } }
def slotOf (s : State) (i : Nat) : Slot := spGet Slot.free s.llt.slots i
/-- Replaces a slot; one that changes waits for the next mirror set (R346). -/
def setSlot (s : State) (i : Nat) (x : Slot) : State :=
  { s with llt := { s.llt with slots := spSet Slot.free s.llt.slots i x,
                               dirty := if slotOf s i = x ∨ s.llt.dirty.contains i = true then s.llt.dirty else s.llt.dirty ++ [i] } }
def chanOf (s : State) (c : Nat) : MoistCh := spGet MoistCh.reset s.moist.c c
def setChan (s : State) (c : Nat) (x : MoistCh) : State := { s with moist := { s.moist with c := spSet MoistCh.reset s.moist.c c x } }
def colOf (s : State) (c : Nat) : Column := spGet Column.reset s.col.c c
def setCol (s : State) (c : Nat) (x : Column) : State := { s with col := { s.col with c := spSet Column.reset s.col.c c x } }
def dryOf (s : State) (c : Nat) : Dry := spGet Dry.reset s.col.d c
def setDry (s : State) (c : Nat) (x : Dry) : State := { s with col := { s.col with d := spSet Dry.reset s.col.d c x } }
def heatOf (s : State) (h : Nat) : Heat := spGet Heat.reset s.col.h h
def setHeat (s : State) (h : Nat) (x : Heat) : State := { s with col := { s.col with h := spSet Heat.reset s.col.h h x } }
def aerOf (s : State) (g : Nat) : Aer := spGet Aer.reset s.col.a g
def setAer (s : State) (g : Nat) (x : Aer) : State := { s with col := { s.col with a := spSet Aer.reset s.col.a g x } }
def engOf (s : State) (e : Nat) : Engine := spGet Engine.reset s.eng.e e
def setEng (s : State) (e : Nat) (x : Engine) : State := { s with eng := { s.eng with e := spSet Engine.reset s.eng.e e x } }
def rowOf (s : State) (r : Nat) : Row := spGet Row.reset s.eng.row r
def setRow (s : State) (r : Nat) (x : Row) : State := { s with eng := { s.eng with row := spSet Row.reset s.eng.row r x } }
def bskOf (s : State) (b : Nat) : Basket := spGet Basket.reset s.eng.b b
def setBsk (s : State) (b : Nat) (x : Basket) : State := { s with eng := { s.eng with b := spSet Basket.reset s.eng.b b x } }
def blkOf (s : State) (i : Nat) : BlockSt := spGet BlockSt.reset s.eng.blk i
def setBlk (s : State) (i : Nat) (x : BlockSt) : State := { s with eng := { s.eng with blk := spSet BlockSt.reset s.eng.blk i x } }
def taperOf (s : State) (j : Nat) : Taper := spGet Taper.reset s.loop.t j
def setTaper (s : State) (j : Nat) (x : Taper) : State := { s with loop := { s.loop with t := spSet Taper.reset s.loop.t j x } }
def loopOf (s : State) (i : Nat) : Loop := spGet Loop.reset s.loop.l i
def setLoop (s : State) (i : Nat) (x : Loop) : State := { s with loop := { s.loop with l := spSet Loop.reset s.loop.l i x } }
def motOf (s : State) (m : Nat) : Motor := spGet Motor.reset s.motor.m m
def setMot (s : State) (m : Nat) (x : Motor) : State := { s with motor := { s.motor with m := spSet Motor.reset s.motor.m m x } }
def gateOf (s : State) (m : Nat) : Gate := spGet Gate.reset s.motor.gate m
def setGate (s : State) (m : Nat) (x : Gate) : State := { s with motor := { s.motor with gate := spSet Gate.reset s.motor.gate m x } }
def routeOf (s : State) (r : Nat) : Route := spGet Route.reset s.motor.route r
def setRoute (s : State) (r : Nat) (x : Route) : State := { s with motor := { s.motor with route := spSet Route.reset s.motor.route r x } }
def slipOf (s : State) (i : Nat) : Slip := spGet Slip.reset s.motor.slip i
def setSlip (s : State) (i : Nat) (x : Slip) : State := { s with motor := { s.motor with slip := spSet Slip.reset s.motor.slip i x } }
def aisOf (s : State) (n : Nat) : Aisle := spGet Aisle.reset s.aisle.a n
def setAis (s : State) (n : Nat) (x : Aisle) : State := { s with aisle := { s.aisle with a := spSet Aisle.reset s.aisle.a n x } }
def stlOf (s : State) (i : Nat) : Stall := spGet Stall.reset s.aisle.st i
def setStl (s : State) (i : Nat) (x : Stall) : State := { s with aisle := { s.aisle with st := spSet Stall.reset s.aisle.st i x } }
def txOf (s : State) (n : Nat) : TxPort := spGet TxPort.reset s.tx.p n
def setTx (s : State) (n : Nat) (x : TxPort) : State := { s with tx := { s.tx with p := spSet TxPort.reset s.tx.p n x } }
def solOf (s : State) (v : Nat) : SolPort := spGet SolPort.reset s.sol v
def setSol (s : State) (v : Nat) (x : SolPort) : State := { s with sol := spSet SolPort.reset s.sol v x }
def sensOf (s : State) (i : Nat) : Sensor := spGet Sensor.reset s.thr.s i
def setSens (s : State) (i : Nat) (x : Sensor) : State := { s with thr := { s.thr with s := spSet Sensor.reset s.thr.s i x } }
def polOf (s : State) (p : Nat) : Policy421 := spGet Policy421.reset s.thr.pol p
def setPol (s : State) (p : Nat) (x : Policy421) : State := { s with thr := { s.thr with pol := spSet Policy421.reset s.thr.pol p x } }

/-- A transaction tag in use, if it is (R168). -/
def tagOf (s : State) (g : Nat) : Option Tag := spGet none (s.eng.tags.map (fun p => (p.1, some p.2))) g

/-- The item of a list of pairs with a key. -/
def lookup {α : Type} (l : List (Nat × α)) (k : Nat) : Option α := (l.find? (fun p => p.1 == k)).map (·.2)

/-- Runs an update at each number of a list, in order. -/
def forEach (ns : List Nat) (s : State) (f : State → Nat → State) : State := ns.foldl f s

/-- The numbers 0 to n - 1. -/
def upTo (n : Nat) : List Nat := List.range n

/-! ## Structure -/

/-- A block instance of the committed structure. -/
def instOf (s : State) (i : Nat) : Option Inst := lookup s.hld.str.insts i
/-- A basket's descriptor in the committed structure (R161). -/
def bdescOf (s : State) (b : Nat) : BasketDesc := (lookup s.hld.str.baskets b).getD BasketDesc.absent
/-- Instances of one block type. -/
def instsOf (s : State) (t : BlockType) : List (Nat × Inst) := s.hld.str.insts.filter (fun p => p.2.typ == t)
/-- The instance of one block type that serves an item. -/
def instFor (s : State) (t : BlockType) (idx : Nat) : Option (Nat × Inst) := (instsOf s t).find? (fun p => p.2.idx == idx)
/-- A parameter without a register, by position; 0 where the stream gives none. -/
def Inst.val (x : Inst) (k : Nat) : F32 := x.vals.getD k 0#32
/-- An item number the instance watches. -/
def Inst.id? (x : Inst) (k : Nat) : Option Nat := x.ids[k]?
/-- An input source by role. -/
def Inst.src (x : Inst) (k : Nat) : Src := x.ins.getD k .none
/-- An output by role. -/
def Inst.dst (x : Inst) (k : Nat) : Dst := x.outs.getD k .none

/-- The period of a block, ns (R22). -/
def Inst.periodNs (x : Inst) : Nat := frameNs * 2 ^ x.k

/-- The supervision registers of a loop (R188). DEDUCED (log entry 41): those of LOOP_SUP_E to LOOP_TRIP, LOOP_LIMIT, LOOP_CONF and
LOOP_FINDINGS, whose fields speak of the supervisor alone. -/
def supReg (r : RegName) : Bool :=
  match r with
  | .loopSupE => true | .loopSupP => true | .loopSupTime => true | .loopSupConf => true | .loopStuck => true | .loopSafe => true
  | .loopSafeRate => true | .loopTrip => true | .loopLimit => true | .loopConf => true | .loopFindings => true
  | _ => false

/-- A supervision register of an unsupervised loop reads 0 and ignores writes (R188). -/
def supHidden (s : State) (r : RegName) (i : Nat) : Bool := supReg r && !regB s .loopCfg i 3

/-! ## Drive condition -/

/-- A relight inhibits the outputs from prepare to the end of its context (R28, R453). -/
def relit (s : State) : Bool := s.rlt.st != .idle

/-- R28's first condition: committed, and startup has enabled outputs. -/
def started (s : State) : Bool := s.hld.committed && s.snf.enabled

/-- The pair's outputs are held off in logic between t4 and t5 of a take-over (R358). -/
def takeOverWait (s : State) : Bool := s.pair.t3At.isSome

/-- R28: an output stage drives only while all four conditions hold, and not before t5 of a take-over (R358). -/
def driving (s : State) : Bool := started s && s.pair.gate && !s.snf.active && !relit s && !takeOverWait s

/-- The unit acts for the plant: SOLO or ACTIVE. A STANDBY or SPARE sends no basket frames, publications or credits, and its
lamplighter is not live (R354, R360). -/
def pairActs (s : State) : Bool := s.pair.st == .solo || s.pair.st == .active

/-- The unit keeps the active's columns: their copies move by the active's step index (R115). -/
def pairFollows (s : State) : Bool := s.pair.st == .standby || (s.pair.st == .spare && s.pair.phase == .shadow)

/-- The lamplighter executes: not in a relight, not on a unit that does not act (R74, R360). -/
def lltLive (s : State) : Bool := pairActs s && !relit s

/-- The core domain runs: powered and past its reset. -/
def coreRuns (s : State) : Bool := s.snf.corePowered && decide (2 ≤ s.snf.stage)

/-! ## Event records (R331 to R335) -/

/-- Advances the sequence reserve before a number at or above R_s - 1,024 is issued (R335). -/
def reserveFor (r n : Nat) : Nat := if n + 1024 ≥ r then r + 4096 else r

/-- The records of one event, head first (R332): 48 data bits each. -/
def recsOf (q : EvReq) (n : Nat) : List EvRec :=
  (List.range (q.conts + 1)).map (fun j =>
    { seq := n + j, tFirst := q.t, tLastUs := 0, src := q.src, name := q.name, conts := if j = 0 then q.conts else 0,
      isCont := decide (0 < j), rep := if j = 0 then 1 else 0, data := (q.data >>> (48 * j)) % 2 ^ 48 })

/-- The recorder updates the newest record instead of writing a new one (R334). -/
def mergeable (newest : EvRec) (q : EvReq) : Bool :=
  q.conts == 0 && newest.src == q.src && newest.name == q.name && newest.data == q.data % 2 ^ 48 &&
  !newest.isCont && newest.conts == 0 && decide (newest.tFirst ≤ q.t) && decide (newest.rep < 65535) &&
  decide ((q.t - newest.tFirst) / 1000 < 2 ^ 32)

/-- Writes one event into the ring (R331 to R334); the records wait for their commitment to the MRAM tail (R335). -/
def ringWrite (r : RecState) (q : EvReq) (now : Nat) : RecState :=
  let fresh : RecState :=
    let rs := recsOf q r.nextSeq
    let last := r.nextSeq + q.conts
    { r with
      ring := (rs.reverse ++ r.ring).take 65536, head := last, nextSeq := last + 1, reserve := reserveFor r.reserve last,
      uncommitted := r.uncommitted ++ rs.map (fun x => (now, x)) }
  match r.ring with
  | [] => fresh
  | x :: t =>
    if mergeable x q then
      let y := { x with rep := x.rep + 1, tLastUs := (q.t - x.tFirst) / 1000 }
      { r with ring := y :: t, uncommitted := r.uncommitted ++ [(now, y)] }
    else fresh

/-- Puts a record into the MRAM tail, in place of the same number or as the newest (R335). -/
def tailPut (tail : List EvRec) (x : EvRec) : List EvRec :=
  match tail with
  | [] => [x]
  | y :: t => if y.seq = x.seq then x :: t else (x :: y :: t).take 4096

/-- Writes one event straight into the MRAM tail: the always-on domain while the core domain is unpowered (R334, R335). -/
def tailWrite (r : RecState) (q : EvReq) : RecState :=
  let fresh : RecState :=
    let rs := recsOf q r.nextSeq
    let last := r.nextSeq + q.conts
    { r with tail := rs.foldl tailPut r.tail, mramSeq := last, nextSeq := last + 1, reserve := reserveFor r.reserve last }
  match r.tail with
  | [] => fresh
  | x :: t =>
    if x.seq + 1 = r.nextSeq ∧ mergeable x q = true then
      { r with tail := { x with rep := x.rep + 1, tLastUs := (q.t - x.tFirst) / 1000 } :: t }
    else fresh

/-- Of two entries of one clock cycle, the first is the one with the lower source word, then the lower code (R333). -/
def EvReq.before (q x : EvReq) : Bool :=
  decide (q.came / 8 = x.came / 8 ∧ (q.src.toNat < x.src.toNat ∨ q.src = x.src ∧ (eventCodeOf q.name).toNat < (eventCodeOf x.name).toNat))

/-- An entry takes its place at the tail, among those of its clock cycle by source word and code (R333). -/
def insertEv (q : EvReq) (l : List EvReq) : List EvReq :=
  match l with
  | [] => [q]
  | x :: t => if q.before x then q :: x :: t else x :: insertEv q t

/-- An entry for the write queue of 1,024 entries; one that finds it full is discarded and counted (R333). -/
def queueEv (r : RecState) (q : EvReq) : RecState :=
  if r.queue.length < 1024 then
    { r with queue := insertEv q r.queue, queuePeak := max r.queuePeak (r.queue.length + 1) }
  else { r with lostNow := r.lostNow + 1, lost := satInc 16 r.lost }

/-- An event stamped at its own time. -/
def logAt (s : State) (t : Nat) (src : EvSrc) (name : EventName) (data : Nat) (conts : Nat) : State :=
  let q : EvReq := { src := src, name := name, t := t, came := s.now, data := data, conts := conts }
  if s.snf.corePowered then
    let s1 := { s with rec_ := queueEv s.rec_ q }
    if s.rec_.queue.length < 1024 then s1 else stick s1 .evrStatus 0 2
  else { s with rec_ := tailWrite s.rec_ q }

/-- An event of the present time whose data layout the spec gives (chapter 15's table, R332's example). -/
def logRaw (s : State) (src : EvSrc) (name : EventName) (data : Nat := 0) (conts : Nat := 0) : State :=
  logAt s s.now src name data conts

/-- An event of the present time whose data layout the spec given here does not state: its data is a free function of what
happened (R496, log entry 6). -/
def logEv (s : State) (src : EvSrc) (name : EventName) (what : Nat := 0) : State :=
  logAt s s.now src name (Config.eventData name.ctorIdx what % 2 ^ 48) 0

/-- As `logEv`, stamped at its own time (R331 t_first). -/
def logEvAt (s : State) (t : Nat) (src : EvSrc) (name : EventName) (what : Nat := 0) : State :=
  logAt s t src name (Config.eventData name.ctorIdx what % 2 ^ 48) 0

/-- Source words by class (R331). -/
def srcDev (k : Nat) : EvSrc := evSrc 0 k
def srcBlk (i : Nat) : EvSrc := evSrc 1 i
def srcWick (w : Nat) : EvSrc := evSrc 2 w
def srcStall (i : Nat) : EvSrc := evSrc 3 i
def srcAisle (n : Nat) : EvSrc := evSrc 3 (128 + n)
def srcChan (c : Nat) : EvSrc := evSrc 3 (256 + c)
def srcMot (m : Nat) : EvSrc := evSrc 4 m
def srcSol (v : Nat) : EvSrc := evSrc 4 (256 + v)
def srcTx (n : Nat) : EvSrc := evSrc 4 (512 + n)
def srcLlt : EvSrc := evSrc 5 0
def srcEng (e : Nat) : EvSrc := evSrc 6 e
def srcRow (r : Nat) : EvSrc := evSrc 6 (128 + r)
def srcParty (p : Nat) : EvSrc := evSrc 7 p

/-- The source of a block's event; DEVICE 0 where no instance serves the item. -/
def srcInst (s : State) (t : BlockType) (idx : Nat) : EvSrc :=
  match instFor s t idx with
  | some (i, _) => srcBlk i
  | none => srcDev 0

/-! ## Input area and wax (R24, R27, R442) -/

/-- The present instant falls in the clock cycle of a frame boundary that has not been taken: what completes now belongs to the frame
after (R24). -/
def onEdge (s : State) : Bool := coreRuns s && decide (s.now % frameNs < 8) && s.framed && decide (s.frame < frameOf s.now)

/-- An item joins the next input set: the wax keeps it for the frame record (R24, R27, R442). -/
def addItem (s : State) (i : WaxItem) : State :=
  { s with wax := if onEdge s then { s.wax with edgeItems := i :: s.wax.edgeItems } else { s.wax with items := i :: s.wax.items } }

/-- A message from outside the engines joins the arrivals of the frame (R24, R164). -/
def arrive (s : State) (p : Post) (asReport : Bool := false) : State :=
  addItem { s with eng := if onEdge s then { s.eng with edgeArrivals := s.eng.edgeArrivals ++ [p] }
                          else { s.eng with arrivals := s.eng.arrivals ++ [p] } }
    (if asReport then .report p else .msg (widthBytes (bdescOf s p.basket).width) p)

/-- A block releases a message at the end of its run (R163). -/
def post (s : State) (inst : Nat) (p : Post) : State := { s with eng := { s.eng with posts := s.eng.posts ++ [(inst, p)] } }

/-- A message without a tag. -/
def plain (b : Nat) (m : Msg) : Post := { basket := b, msg := m, tag := none, isReply := false }

/-! ## Block-facing state (R158, R447) -/

/-- The block-facing state as it stands. -/
def imageOf (s : State) : KeyImage :=
  { rf := s.rf, rfF := s.rfF, str := s.hld.str, eng := s.eng, loop := s.loop, moist := s.moist, col := s.col, motor := s.motor,
    sol := s.sol, tx := s.tx, pol := s.thr.pol, wicks := s.wick, aisle := s.aisle }

/-- A state with another block-facing state. -/
def withImage (s : State) (k : KeyImage) : State :=
  { s with rf := k.rf, rfF := k.rfF, hld := { s.hld with str := k.str }, eng := k.eng, loop := k.loop, moist := k.moist, col := k.col,
           motor := k.motor, sol := k.sol, tx := k.tx, thr := { s.thr with pol := k.pol }, wick := k.wicks, aisle := k.aisle }

/-- The state as the present frame's input set shows what other blocks put out: the block-facing state before this frame's runs (R24). -/
def t0 (s : State) : State := match s.before with | some k => withImage s k | none => s

/-! ## Reports of register accesses (R464, R465) -/

/-- Access codes (R464). -/
inductive Acc where
  | ok | unmapped | range | locked | face | busy | denied | align | split
  deriving DecidableEq, Repr

/-- Numeric access code (R464). -/
def Acc.code (a : Acc) : Nat := a.ctorIdx

/-- Sender field shown for a requester (R465, GLB_ACCESS sender). -/
def Requester.sender (q : Requester) : Nat :=
  match q with
  | .host x _ _ => x
  | .monitor => 0xFFFF

/-- One step of a dither register with the bound d: the register after it, never 0, and the change of the period, from -d to d (R193). -/
def dither (reg d : Nat) : Nat × Int :=
  let r := 1 + Config.lfsrNext reg % 65535
  (r, if d = 0 then 0 else (Config.ditherDraw r d % (2 * d + 1) : Nat) - (d : Int))

/-- An access reports a code: other than OK it updates GLB_ACCESS, its address and the count (R465). -/
def report (s : State) (q : Requester) (addr : Nat) (a : Acc) : State :=
  if a = .ok then s
  else
    stick { s with
            glb := { s.glb with accCode := a.code, accKind := decide (q = .monitor), accSender := q.sender, accAddr := addr,
                                accCount := satInc 16 s.glb.accCount } } .glbAccess 0 5

/-- The requester of a command that a register write stands behind, where the command's row names none: the host. -/
def hostReq : Requester := .host 0x8000 3 0

/-- A command of a block-facing register: a write of the input area, refused with ACCESS_BUSY while a relight holds the registers
(R24, R442, R454). -/
def rowCmd (s : State) (r : RegName) (i : Nat) (v : W32) (f : State → State) : State :=
  if s.rlt.ctx.isSome then report s hostReq (regAddr r i) .busy else f (addItem s (.write (regAddr r i) v))

end Sys2Proof.Machine
end

