-- ==== Sys2Proof/Machine/Sol.lean ====
section
/-!
DEFINITION. Solenoid and valve ports (R281 to R292): activations, the duty window, faults, and the commands of a port.
-/
namespace Sys2Proof.Machine

open Sys2Proof

/-- One millisecond and one microsecond in ns. -/
def msNs : Nat := 1000000
/-- One microsecond, ns. -/
def usNs : Nat := 1000
/-- One second, ns. -/
def secNs : Nat := 1000000000

/-- E compared with an instant: open is later than any time (R284). -/
def SolEnd.max (a b : SolEnd) : SolEnd :=
  match a, b with
  | .open_, _ => .open_
  | _, .open_ => .open_
  | .at_ x, .at_ y => .at_ (Max.max x y)

/-- E is reached at t. -/
def SolEnd.reached (e : SolEnd) (t : Nat) : Bool :=
  match e with
  | .open_ => false
  | .at_ x => decide (x ≤ t)

/-- Window W, ns (R285, R292: in force since the latest boundary). -/
def solWindow (s : State) (v : Nat) : Nat := regNF s .solDuty v 8 13 * 100 * msNs

/-- One bin of the window (R285). -/
def solBin (s : State) (v : Nat) : Nat := Max.max (solWindow s v / 1024) 1

/-- Where the oldest bin that the window still holds begins: the bins' place is open within one bin (R285). -/
def solFrom (s : State) (v t : Nat) : Nat :=
  let b := solBin s v
  let ph := Config.solBinPhase v % b
  (t - solWindow s v + ph) / b * b - ph

/-- On-time U of the window at t, microseconds (R285). -/
def solUsed (s : State) (v t : Nat) : Nat :=
  let p := solOf s v
  let f := solFrom s v t
  let closed := p.ons.foldl (fun n i => n + (i.2 - Max.max i.1 f)) 0
  let run := match p.onSince with
    | some a => t - Max.max a f
    | none => 0
  (closed + run) / usNs

/-- D × W, microseconds; none when D = 100 % disables the rule (R285). -/
def solBudget (s : State) (v : Nat) : Option Nat :=
  let d := regNF s .solDuty v 0 7
  if d ≥ 100 then none else some (d * (solWindow s v / usNs) / 100)

/-- The duty limit admits n more microseconds of on-time at t (R285). -/
def solAdmits (s : State) (v t n : Nat) : Bool :=
  match solBudget s v with
  | none => true
  | some l => decide (solUsed s v t + n ≤ l)

/-- Closes the on-time interval at t. -/
def SolPort.closeOn (p : SolPort) (t : Nat) : SolPort :=
  match p.onSince with
  | some a => { p with ons := (a, t) :: p.ons, onSince := none }
  | none => p

/-- Settings of SOL_PWM and SOL_LIMITS that an activation takes: t_decay_max and the PWM's nominal period, ns, and dither, %; in basic
face 50 ms, 20 kHz and 5 % (R283, R291, R292). -/
def solSettings (s : State) (v : Nat) : Nat × Nat × Nat :=
  if regB s .solCfg v 2 then
    (regF s .solLimits v 18 8 * msNs, 100000000 / Max.max (regF s .solPwm v 0 12) 1, regF s .solPwm v 12 4)
  else (50 * msNs, 50000, 5)

/-- The PWM period that begins at t: its length varies with the dither register, one step a period (R193, R283). -/
def SolPort.newPeriod (p : SolPort) (t : Nat) : SolPort :=
  let r := dither p.lfsr (p.pwmNs * p.dith / 100)
  { p with lfsr := r.1, pwmAt := t, pwmLen := ((p.pwmNs : Int) + r.2).toNat }

/-- The PWM periods that began up to t; `fuel` bounds their number, above the 6 of a frame at 40 kHz (R283). -/
def SolPort.pwmUpTo (fuel : Nat) (t : Nat) (p : SolPort) : SolPort :=
  match fuel with
  | 0 => p
  | fuel + 1 => if p.pwmLen ≠ 0 ∧ p.pwmAt + p.pwmLen ≤ t then pwmUpTo fuel t (p.newPeriod (p.pwmAt + p.pwmLen)) else p

/-- A regulating port's PWM brought up to t. -/
def SolPort.regulate (p : SolPort) (t : Nat) : SolPort :=
  if p.st = .peak ∨ p.st = .hold then p.pwmUpTo 16 t else p

/-- Vnn_G and Vnn_FD at t (R282, R283). `hit`: when the current reached the regulated value in the present PWM period, none: not yet;
in hold an on-time is at least 200 ns. `rise`: the current has not yet reached i_peak in this activation. -/
def solLands (s : State) (v t : Nat) (rise : Bool) (hit : Option Nat) : Bool × Bool :=
  let p := (solOf s v).regulate t
  let before := match hit with | some h => decide (t < h) | none => true
  if !driving s then (false, false)
  else
    match p.st with
    | .peak => (rise || before, true)
    | .hold => (before || decide (t < p.pwmAt + 200), true)
    | _ => (false, p.fd)

/-- FAST decay is set (SOL_CFG decay). -/
def solFast (s : State) (v : Nat) : Bool := regB s .solCfg v 1

/-- Enters decay at t: the gate low, the freewheel switch by the decay mode (R283). -/
def SolPort.toDecay (p : SolPort) (fast : Bool) (t : Nat) : SolPort :=
  { (p.regulate t).closeOn t with st := .decay, gate := false, fd := !fast, decayAt := t }

/-- A new activation with hold time h, microseconds (0 open), from t_s = t: both lands high (R283, R284). The settings of
the registers are latched for it (R292); the PWM periods count from t_s (log entry 47). -/
def solBegin (s : State) (v h t : Nat) : State :=
  let p := solOf s v
  let tp := regF s .solPeak v 12 14 * 100 * usNs
  let e : SolEnd := if h = 0 then .open_ else .at_ (t + tp + h * usNs)
  let g := solSettings s v
  let q := ({ p with decayMax := g.1, pwmNs := g.2.1, dith := g.2.2 } : SolPort).newPeriod t
  setSol s v { q with st := if tp = 0 then .hold else .peak, e := e, ts := t, tPeak := tp, iPeak := regF s .solPeak v 0 12,
                      onSince := some t, gate := true, fd := true, queued := none, activations := satInc 16 p.activations }

/-- n of R285 for a start with hold time h, microseconds. -/
def solNeed (s : State) (v h : Nat) : Nat := regF s .solPeak v 12 14 * 100 + h

/-- A start refused with DUTY_LIMIT: duty_refused and an event record (R285). -/
def solDutyRefuse (s : State) (v : Nat) : State := logEv (stick s .solStatus v 9) (srcSol v) .dutyLimit v

/-- A command refused with SOL_STATE: the refused bit (R287, SOL_STATUS bit 11). -/
def solRefuse (s : State) (v : Nat) : State := stick s .solStatus v 11

/-- Takes a start with hold time h, microseconds, at t_c = t (R284). The second part says that the target did not act (R64):
a refusal, a port in FAULT or DISABLED, or a failing condition of R28. -/
def solTakeStart (s : State) (v h t : Nat) : State × Bool :=
  let p := solOf s v
  if !driving s then (s, true)
  else
    match p.st with
    | .disabled => (s, true)
    | .fault => (solRefuse s v, true)
    | .off => if solAdmits s v t (solNeed s v h) then (solBegin s v h t, false) else (solDutyRefuse s v, true)
    | .decay =>
      let q := match p.queued with
        | none => h
        | some h0 => if h0 = 0 ∨ h = 0 then 0 else Max.max h0 h
      (setSol s v { p with queued := some q }, false)
    | _ =>
      let req : SolEnd := if h = 0 then .open_ else .at_ (t + p.tPeak + h * usNs)
      let e' := p.e.max req
      let s1 := setSol s v { p with e := e' }
      (if e' = p.e then s1 else stick s1 .solStatus v 10, false)

/-- Takes an end command at t (R284). -/
def solTakeEnd (s : State) (v t : Nat) : State :=
  let p := solOf s v
  match p.st with
  | .hold => setSol s v { ({ p with e := .at_ t } : SolPort).toDecay (solFast s v) t with queued := none }
  | .peak => setSol s v { p with e := .at_ (p.ts + p.tPeak) }
  | .decay => setSol s v { p with queued := none }
  | _ => s

/-- The condition under which a reset of a latched fault is accepted (R286): for DECAY_TIMEOUT and SENSE_FAULT it lies in the
coil and the shunt, which no command carries, so it is a free truth value. -/
def solResetOk (s : State) (f : SolFault) : Bool :=
  match f with
  | .decayTimeout => Config.freeBool s.free
  | .senseFault => Config.freeBool s.free
  | _ => true

/-- A reset loses to a fault of the same clock cycle (R288). -/
def SolPort.freshFault (p : SolPort) (t : Nat) : Bool := match p.faultAt with | some f => decide (t / 8 ≤ f / 8) | none => false

/-- Takes a reset at t (R286, R287, R288). -/
def solTakeReset (s : State) (v t : Nat) : State :=
  let p := solOf s v
  match p.st with
  | .fault =>
    if !p.freshFault t && solResetOk s p.fault then setSol (useFree s) v { p with st := .off, fault := .none, gate := false, fd := false }
    else solRefuse (useFree s) v
  | .disabled => s
  | _ => solRefuse s v

/-- Sets SOL_COUNTS to 0 (R292). -/
def solClear (s : State) (v : Nat) : State := setSol s v { solOf s v with activations := 0, faults := 0 }

/-- One frame command (op, h) taken at t (R25, R289). -/
def solFrameCmd (s : State) (v t : Nat) (c : Nat × Nat) : State :=
  match c.1 with
  | 1 => (solTakeStart s v c.2 t).1
  | 2 => solTakeEnd s v t
  | 3 => solTakeReset s v t
  | 4 => solClear s v
  | _ => s

/-- A command (op, h) of SOL_CMD: a port with a SOLENOID_CTRL takes it at that block's next run, any other at the next t1 (R25, R289). -/
def solOp (s : State) (v : Nat) (c : Nat × Nat) : State :=
  let p := solOf s v
  setSol s v (if (instFor s .solenoidCtrl v).isSome then { p with inbox := p.inbox ++ [c] } else { p with nextCmd := p.nextCmd ++ [c] })

/-- Latches a fault at t (R286): the gate low, the freewheel switch by the decay mode, the queue discarded; behind a latched
fault only the count rises. -/
def solLatch (s : State) (v t : Nat) (f : SolFault) : State :=
  let p := solOf s v
  match p.st with
  | .disabled => s
  | .fault => setSol s v { p with faults := satInc 16 p.faults, faultAt := some t }
  | _ =>
    let q := (p.regulate t).closeOn t
    logEv (setSol s v { q with st := .fault, fault := f, faultAt := some t, gate := false, fd := !solFast s v, queued := none,
                               faults := satInc 16 p.faults }) (srcSol v) .solFault (v * 16 + f.code)

/-- A condition of R28 fails: both lands low, the queue and the waiting frame starts discarded, gated; any state but FAULT and DISABLED
enters OFF (R282). -/
def solGateOff (s : State) (v t : Nat) : State :=
  let p := solOf s v
  let q := { (p.regulate t).closeOn t with gate := false, fd := false, queued := none, gated := true, nextCmd := p.nextCmd.filter (fun c => c.1 != 1) }
  match p.st with
  | .disabled => s
  | .fault => setSol s v q
  | _ => setSol s v { q with st := .off }

/-- Every condition of R28 holds again: the port is no longer gated (R282); it does not re-energise. -/
def solGateOn (s : State) (v : Nat) : State := setSol s v { solOf s v with gated := false }

/-- At output enable the duty window restarts empty and the dither register is seeded (R283, R285). -/
def solEnable (s : State) (v t : Nat) : State :=
  let p := solOf s v
  setSol s v { p with ons := [], onSince := p.onSince.map (fun _ => t), lfsr := 0xBEEF ^^^ v }

/-- The port's record latched with the wick snapshots (R289); the coil current is the field's, so a free value. -/
def solSnap (s : State) (v t : Nat) : State :=
  let p := (solOf s v).regulate t
  let u := solUsed s v t
  addItem (setSol (useFree s) v { p with latchSt := p.st, latchE := p.e, latchU := u, current := Config.freeWord s.free,
                                         dutyUsed := fRat u 1000000 }) (.sol v p.st u p.e p.fault)

/-- SOL_START (R284, R289): the start op of SOL_CMD with h, microseconds. -/
def execSolStart (v : Fin 32) (h : Nat) (s : State) : Out := .next (rowCmd s .solCmd v 1#32 (fun s => solOp s v (1, h)))

/-- SOL_END (R284, R289): the end op of SOL_CMD. -/
def execSolEnd (v : Fin 32) (s : State) : Out := .next (rowCmd s .solCmd v 2#32 (fun s => solOp s v (2, 0)))

/-- SOL_RESET (R286, R287, R289). -/
def execSolReset (v : Fin 32) (s : State) : Out := .next (rowCmd s .solCmd v 3#32 (fun s => solOp s v (3, 0)))

/-- SOL_CLEAR_COUNTS (R289, R292). -/
def execSolClearCounts (v : Fin 32) (s : State) : Out := .next (rowCmd s .solCmd v 4#32 (fun s => solOp s v (4, 0)))

/-- PEAK_END (R283, R286, R287): at t_s + t_peak, with the coil current then, A. -/
def execPeakEnd (v : Fin 32) (t : Ns) (cur : F32) (s : State) : Out :=
  let s := setNow s t
  let p := solOf s v
  if p.st = .peak ∧ p.ts + p.tPeak ≤ t + usNs then
    let i10 := fDiv (fOfNat p.iPeak) (fOfNat 1000)
    let i90 := fMul (fOfNat 9) i10
    if fLt cur i10 then .next (solLatch s v t .openCoil)
    else
      let s1 := if fLe cur i90 then stick s .solStatus v 8 else s
      .next (if p.e.reached t then setSol s1 v ((solOf s1 v).toDecay (solFast s1 v) t)
             else setSol s1 v { (solOf s1 v).regulate t with st := .hold })
  else .next s

/-- HOLD_END (R283): E is reached in hold and decay begins. -/
def execHoldEnd (v : Fin 32) (t : Ns) (s : State) : Out :=
  let s := setNow s t
  let p := solOf s v
  .next (if p.st = .hold ∧ p.e.reached t then setSol s v (p.toDecay (solFast s v) t) else s)

/-- DECAY_END (R283, R287): the current falls below i_zero and Vnn_FD goes low, after a fault too; a queued activation begins when it is
within duty. -/
def execDecayEnd (v : Fin 32) (t : Ns) (s : State) : Out :=
  let s := setNow s t
  let p := solOf s v
  if p.st = .fault then .next (setSol s v { p with fd := false })
  else if p.st = .decay then
    match p.queued with
    | none => .next (setSol s v { p with st := .off, fd := false })
    | some h =>
      if solAdmits s v t (solNeed s v h) then .next (solBegin s v h t)
      else .next (solDutyRefuse (setSol s v { p with st := .off, fd := false, queued := none }) v)
  else .next s

/-- DECAY_TIMEOUT (R283, R286): a decay longer than t_decay_max. -/
def execDecayTimeout (v : Fin 32) (t : Ns) (s : State) : Out :=
  let s := setNow s t
  let p := solOf s v
  .next (if p.st = .decay ∧ p.decayAt + p.decayMax ≤ t then solLatch s v t .decayTimeout else s)

/-- OVERCURRENT (R286): current above i_trip for 200 ns. -/
def execSolOvercurrent (v : Fin 32) (t : Ns) (s : State) : Out := .next (solLatch (setNow s t) v t .overcurrent)

/-- HOLD_LOW (R286): in hold, current below 70 % of i_hold for 10 ms. -/
def execHoldLow (v : Fin 32) (t : Ns) (s : State) : Out :=
  let s := setNow s t
  let p := solOf s v
  .next (if p.st = .hold ∧ p.ts + p.tPeak + 10 * msNs ≤ t then solLatch s v t .holdLow else s)

/-- DUTY_CUT (R285, R288): U reaches D × W in peak or hold; where E is reached in the same instant, E applies. -/
def execDutyCut (v : Fin 32) (t : Ns) (s : State) : Out :=
  let s := setNow s t
  let p := solOf s v
  if (p.st = .peak ∨ p.st = .hold) ∧ ¬ p.e.reached t then
    match solBudget s v with
    | none => .next s
    | some l => .next (if l ≤ solUsed s v t then solLatch s v t .dutyCut else s)
  else .next s

/-- SENSE_FAULT (R281, R286): the shunt voltage out of range for 10 microseconds. -/
def execSenseFault (v : Fin 32) (t : Ns) (s : State) : Out := .next (solLatch (setNow s t) v t .senseFault)

end Sys2Proof.Machine
end

