-- ==== Sys2Proof/Machine/Tx.lean ====
section
/-!
DEFINITION. Two-wire transmitter ports (R269 to R280, R498): levels and trims, the cell's states, the readback mismatch,
host ops and the trim buttons.
-/
namespace Sys2Proof.Machine

open Sys2Proof

/-- 4 mA, 16 mA and 20 mA in units of 0.5 uA. -/
def tx4 : Nat := 8000
/-- 16 mA in units of 0.5 uA. -/
def tx16 : Nat := 32000

/-- A value held between two bounds. -/
def clampI (lo hi x : Int) : Int := min hi (max lo x)

/-- The port drives only while every condition of R28 holds; `txGateOther`: every condition other than the snuffer (R275). -/
def txGateOther (s : State) : Bool := started s && s.pair.gate && !relit s && !takeOverWait s

/-- z and s of a port in force, 0.5 uA steps, with the steps of a running session (R273, R278). -/
def txTrim (s : State) (span : Bool) (n : Nat) : Int :=
  let base := if span then regNI s .txTrimSpan n 0 16 else regNI s .txTrimZero n 0 16
  match s.tx.sess with
  | some x => if x.port = n ∧ x.span = span then base + 4 * x.steps else base
  | none => base

/-- The clamps of R272: TX_CLAMP, or 3.8 mA and 20.5 mA in basic face (R498). -/
def txClampLo (s : State) (n : Nat) : Nat := if regB s .txCfg n 4 then regNF s .txClamp n 0 16 else 7600
/-- The upper clamp of R272. -/
def txClampHi (s : State) (n : Nat) : Nat := if regB s .txCfg n 4 then regNF s .txClamp n 16 16 else 41000

/-- The clamped command, 0.5 uA units (R272). -/
def txClamped (s : State) (n : Nat) : Nat := min (txClampHi s n) (max (txClampLo s n) (txOf s n).iCmd)

/-- I_t exactly, in units of 0.5 uA / 32,000, clamped again to 3.8 to 20.5 mA (R273). -/
def txTarget (s : State) (n : Nat) : Nat :=
  let z := txTrim s false n
  let sp := txTrim s true n
  let c : Int := txClamped s n
  (clampI (7600 * tx16) (41000 * tx16) ((tx4 + z) * tx16 + (c - tx4) * (tx16 + sp - z))).toNat

/-- Alarm current, 0.5 uA units / 32,000: 21.5 mA high, 3.55 mA low (R271, R274). -/
def txAlarm (p : TxPort) : Nat := if p.almHigh then 43000 * tx16 else 7100 * tx16

/-- Current of FORCED: 4 mA + z or 20 mA + s (R275). -/
def txForced (s : State) (n : Nat) : Nat :=
  let p := txOf s n
  (if p.forceSpan then (40000 + txTrim s true n) * tx16 else (tx4 + txTrim s false n) * tx16).toNat

/-- The level in force: I_t, the forced level, or the alarm current (TX_TARGET). -/
def txLevel (s : State) (n : Nat) : Nat :=
  let p := txOf s n
  match p.st with
  | .alarm => txAlarm p
  | .fault => txAlarm p
  | .forced => txForced s n
  | _ => txTarget s n

/-- Alarm direction of a port from its setting: LOW, HIGH or the ALM_HI strap (R274). -/
def txDirection (s : State) (n : Nat) : Bool :=
  match regF s .txCfg n 1 2 with
  | 0 => false
  | 1 => true
  | _ => s.snf.straps.testBit 2

/-- cell_timeout, ns (R275). -/
def txTimeout (s : State) (n : Nat) : Nat := regF s .txCfg n 5 7 * msNs

/-- A session or a force on the port ends; FORCED leaves for the state given (R275, R278). -/
def txEndForce (s : State) (n : Nat) (toSt : TxSt) : State :=
  let s1 := match s.tx.sess with
    | some x => if x.port = n then { s with tx := { s.tx with sess := none } } else s
    | none => s
  setTx s1 n { txOf s1 n with st := toSt, forceSess := false, misSince := none }

/-- The gate or the snuffer line takes a cell out of DRIVE or FORCED, or keeps it in FAULT (R275). DEDUCED (log entry 46): while the
snuffer's alarm line is asserted no cell enters BYPASS. -/
def txGateOff (s : State) (n : Nat) : State :=
  let p := txOf s n
  let toSt : TxSt := if !s.snf.active && regB s .txCfg n 3 then .bypass else .alarm
  match p.st with
  | .drive => setTx s n { p with st := toSt, misSince := none }
  | .forced => txEndForce s n toSt
  | _ => s

/-- The op is refused with TX_STATE (TX_CMD, TX_STATUS bit 10). -/
def txRefuse (s : State) (n : Nat) : State := stick s .txStatus n 10

/-- The port enters FAULT with TX_MISMATCH (R277). -/
def txFault (s : State) (n : Nat) : State :=
  let p := txOf s n
  logEv (stick (setTx s n { p with st := .fault, misSince := none, faults := satInc 16 p.faults }) .txStatus n 8)
    (srcTx n) .txMismatch n

/-- The mismatch timer has run for 500 ms in DRIVE (R277). -/
def txMisDue (s : State) (n t : Nat) : Bool :=
  let p := txOf s n
  match p.misSince with
  | some a => decide (p.st = .drive) && decide (a + 500 * msNs ≤ t)
  | none => false

/-- A reading of the loop current: TX_OUT averages those of each run into I_rb (R277). DESIGN CHOICE (log entry 46): on a port without
TX_OUT, I_rb is the latest reading. -/
def TxPort.reading (p : TxPort) (alone : Bool) (v : F32) : TxPort :=
  if alone then { p with readback := v } else { p with rbSum := fAdd p.rbSum v, rbN := p.rbN + 1 }

/-- I_rb of the readings since the run before (R277). -/
def TxPort.average (p : TxPort) : TxPort :=
  if p.rbN = 0 then p else { p with readback := fDiv p.rbSum (fOfNat p.rbN), rbSum := 0#32, rbN := 0 }

/-- A valid command frame at a powered cell: its states and its readings (R272, R275, R277). -/
def txFrame (s : State) (n t : Nat) (r : CellReading) : State :=
  let p0 := (txOf s n).reading (instFor s .txOut n).isNone r.readback
  let p := { p0 with lastFrame := t, lastStatus := t, silent := false, termV := r.termV,
                     lowComp := fLt r.termV (fOfNat 10), clamped := decide (txClamped s n ≠ p0.iCmd) }
  let st' : TxSt := match p.st with
    | .alarm => if driving s then .drive else if !s.snf.active && !txGateOther s && regB s .txCfg n 3 then .bypass else .alarm
    | .bypass => if driving s then .drive else .bypass
    | x => x
  let s1 := setTx s n { p with st := st' }
  setTx s1 n { txOf s1 n with target := txTarget s1 n }

/-- CELL_COMMAND_FRAME (R272, R275): the cell of port n receives a command frame; its status comes back with it. -/
def execCellCommandFrame (n : Fin 16) (t : Ns) (r : CellReading) (s : State) : Out :=
  let s := setNow s t
  let p := txOf s n
  .next (if r.valid && p.powered && p.lineOn && regB s .txCfg n 0 && p.st != .quiescent then txFrame s n t r else s)

/-- CELL_TIMEOUT (R275): no valid command frame for cell_timeout. -/
def execCellTimeout (n : Fin 16) (t : Ns) (s : State) : Out :=
  let s := setNow s t
  let p := txOf s n
  .next (if (p.st = .drive ∨ p.st = .bypass) ∧ p.lastFrame + txTimeout s n ≤ t then
           setTx s n { p with st := .alarm, silent := true, misSince := none } else s)

/-- ALARM_LINE_ASSERT (R275): the alarm line is present and a powered QUIESCENT cell enters ALARM. -/
def execAlarmLineAssert (n : Fin 16) (t : Ns) (s : State) : Out :=
  let s := setNow s t
  let p := txOf s n
  .next (setTx s n { p with lineOn := true, st := if p.st = .quiescent ∧ p.powered then .alarm else p.st })

/-- ALARM_LINE_LOSS (R275): the alarm line is lost and the cell becomes QUIESCENT; a session or force on it ends. -/
def execAlarmLineLoss (n : Fin 16) (t : Ns) (s : State) : Out :=
  let s := txEndForce (setNow s t) n .quiescent
  .next (setTx s n { txOf s n with lineOn := false })

/-- TX_MISMATCH (R277). -/
def execTxMismatch (n : Fin 16) (t : Ns) (s : State) : Out :=
  let s := setNow s t
  .next (if txMisDue s n t then txFault s n else s)

/-- FORCED_TIMEOUT (R275): 600 s in FORCED. -/
def execForcedTimeout (n : Fin 16) (t : Ns) (s : State) : Out :=
  let s := setNow s t
  let p := txOf s n
  .next (if p.st = .forced ∧ p.forceAt + 600 * secNs ≤ t then logEv (txEndForce s n .drive) (srcTx n) .txForced n else s)

/-- The reset op (R275): FAULT returns to DRIVE while the gate passes; the mismatch timer restarts. -/
def txReset (s : State) (n : Nat) : State :=
  let p := txOf s n
  if p.st = .fault ∧ driving s then setTx s n { p with st := .drive, misSince := none } else txRefuse s n
/-- TX_RESET (R275, R280). -/
def execTxReset (n : Fin 16) (s : State) : Out := .next (rowCmd s .txCmd n 1#32 (fun s => txReset s n))

/-- A force op in DRIVE (R275). -/
def txForce (s : State) (n : Nat) (span sess : Bool) : State :=
  let p := txOf s n
  setTx s n { p with st := .forced, forceSpan := span, forceSess := sess, forceAt := s.now, misSince := none }

/-- A force op: in DRIVE it takes effect unless the mismatch completes in the same instant (R275, R279). -/
def txForceOp (s : State) (n : Nat) (span : Bool) : State :=
  if txMisDue s n s.now then txRefuse (txFault s n) n
  else if (txOf s n).st = .drive then txForce s n span false else txRefuse s n

/-- TX_FORCE_4 (R275, R280). -/
def execTxForce4 (n : Fin 16) (s : State) : Out := .next (rowCmd s .txCmd n 2#32 (fun s => txForceOp s n false))

/-- TX_FORCE_20 (R275, R280). -/
def execTxForce20 (n : Fin 16) (s : State) : Out := .next (rowCmd s .txCmd n 3#32 (fun s => txForceOp s n true))

/-- The release op (R275): a forced level ends. -/
def txRelease (s : State) (n : Nat) : State :=
  if (txOf s n).st = .forced then logEv (txEndForce s n .drive) (srcTx n) .txForced n else txRefuse s n
/-- TX_RELEASE (R275, R280). -/
def execTxRelease (n : Fin 16) (s : State) : Out := .next (rowCmd s .txCmd n 4#32 (fun s => txRelease s n))

/-- The lock and unlock ops (R278): MRAM holds the lock for the port. -/
def txLock (s : State) (n : Nat) (on : Bool) : State := setTx s n { txOf s n with lockMram := some on }
/-- TX_LOCK (R278, R280). -/
def execTxLock (n : Fin 16) (s : State) : Out := .next (rowCmd s .txCmd n 5#32 (fun s => txLock s n true))

/-- TX_UNLOCK (R278, R280). -/
def execTxUnlock (n : Fin 16) (s : State) : Out := .next (rowCmd s .txCmd n 6#32 (fun s => txLock s n false))

/-- TRIM_SEL as it stood at t (R278). -/
def selAt (l : List (Nat × Nat)) (sel t : Nat) : Nat :=
  match l with
  | [] => sel
  | (tc, old) :: r => if t < tc then selAt r old t else sel

/-- TRIM_SESSION_START (R278): a 3 s press of one button alone, on the port that TRIM_SEL named when it began. While a session runs,
the press is none of a start. -/
def execTrimSessionStart (span : Bool) (t : Ns) (s : State) : Out :=
  let s := setNow s t
  let n := selAt s.tx.selLog s.tx.sel (t - 3 * secNs)
  let p := txOf s n
  if s.tx.sess.isSome then .next s
  else if p.lockMram = some true ∨ regB s .txCfg n 0 = false ∨ p.st ≠ .drive then
    .next (logEv (stick s .txStatus n 9) (srcTx n) .txButtonRefused n)
  else .next { txForce s n span true with tx := { (txForce s n span true).tx with
                 sess := some { span := span, port := n, steps := 0, lastPress := t } } }

/-- TRIM_SHORT_PRESS (R278): one step of 2 uA, stopping at ±200 uA. -/
def execTrimShortPress (up : Bool) (t : Ns) (s : State) : Out :=
  let s := setNow s t
  match s.tx.sess with
  | none => .next s
  | some x =>
    let n' := if up then x.steps + 1 else x.steps - 1
    let base := if x.span then regNI s .txTrimSpan x.port 0 16 else regNI s .txTrimZero x.port 0 16
    let ok := decide (-400 ≤ base + 4 * n') && decide (base + 4 * n' ≤ 400)
    .next { s with tx := { s.tx with sess := some { x with steps := if ok then n' else x.steps, lastPress := t } } }

/-- TRIM_STORE (R278): both buttons for 3 s store the trim; the port returns to DRIVE. -/
def execTrimStore (t : Ns) (s : State) : Out :=
  let s := setNow s t
  match s.tx.sess with
  | none => .next s
  | some x =>
    let r : RegName := if x.span then .txTrimSpan else .txTrimZero
    let old := regNI s r x.port 0 16
    let new := wrapN 16 (old + 4 * x.steps)
    let s1 := blockReg s r x.port (put 0 16 new)
    let s2 := txEndForce s1 x.port .drive
    let s3 := setTx s2 x.port { txOf s2 x.port with trims := satInc 16 (txOf s2 x.port).trims }
    .next (logEv s3 (srcTx x.port) .txTrimStored (wrapN 16 old * 65536 + new))

/-- TRIM_SESSION_TIMEOUT (R278): 60 s without a press end the session without storing. -/
def execTrimSessionTimeout (t : Ns) (s : State) : Out :=
  let s := setNow s t
  match s.tx.sess with
  | none => .next s
  | some x =>
    .next (if x.lastPress + 60 * secNs ≤ t then logEv (txEndForce s x.port .drive) (srcTx x.port) .txForced x.port else s)

/-- TRIM_SEL_CHANGE (R278): TRIM_SEL changes; a session ends without storing. -/
def execTrimSelChange (sel : Fin 16) (t : Ns) (s : State) : Out :=
  let s := setNow s t
  let move := fun (s : State) =>
    { s with tx := { s.tx with sel := sel, selLog := (t, s.tx.sel) :: s.tx.selLog.filter (fun p => decide (t < p.1 + 3 * secNs)) } }
  if s.tx.sel = sel then .next s
  else
    match s.tx.sess with
    | none => .next (move s)
    | some x => .next (move (logEv (txEndForce s x.port .drive) (srcTx x.port) .txForced x.port))

/-- LOOP_POWER_CHANGE (R270, R275): the loop powers the cell, which starts QUIESCENT or in ALARM by its line, or leaves it dead. -/
def execLoopPowerChange (n : Fin 16) (t : Ns) (on : Bool) (s : State) : Out :=
  let s := setNow s t
  let p := txOf s n
  if on then
    .next (setTx s n { p with powered := true, st := if p.powered then p.st else if p.lineOn then .alarm else .quiescent })
  else
    let s1 := txEndForce s n .quiescent
    .next (setTx s1 n { txOf s1 n with powered := false })

/-- CELL_STATUS_SILENT (R277): no upstream status for cell_timeout; reported only. -/
def execCellStatusSilent (n : Fin 16) (t : Ns) (s : State) : Out :=
  let s := setNow s t
  let p := txOf s n
  .next (if p.lastStatus + txTimeout s n ≤ t then setTx s n { p with silent := true } else s)

end Sys2Proof.Machine
end

