-- ==== Sys2Proof/Machine/Aisle.lean ====
section
/-!
DEFINITION. Stalls and aisles (R239 to R262): aisle states, stall conversions and classes, digital outputs and their
protection, safe tables, and the diagnostic sweep. What the core does with an upstream subframe stands in Upstream.lean.
-/
namespace Sys2Proof.Machine

open Sys2Proof

/-- Mode of a stall (R244, STL_CFG). -/
def stlMode (s : State) (i : Nat) : StallMode := StallMode.ofCode (regF s .stlCfg i 0 4)
/-- The stall is in DO mode. -/
def isDo (s : State) (i : Nat) : Bool := stlMode s i == .do_
/-- Expert face of a stall (STL_CFG face). -/
def stlExpert (s : State) (i : Nat) : Bool := regB s .stlCfg i 4
/-- Aisle of a stall. -/
def aisleOf (i : Nat) : Nat := i / 16
/-- Stalls of an aisle. -/
def stallsOf (n : Nat) : List Nat := (List.range 16).map (fun k => 16 * n + k)
/-- Safe entry of a DO stall in the stream (R256, STL_CFG safe). -/
def safeEntry (s : State) (i : Nat) : SafeEntry :=
  match regF s .stlCfg i 12 2 with | 1 => .on | 2 => .holdLast | _ => .off
/-- d_sl, ns (R253). -/
def slewNs (s : State) (i : Nat) : Nat := if regB s .stlCfg i 11 then 48000 else 10000
/-- aisle_timeout, ns (R241). -/
def aisTimeout (s : State) (n : Nat) : Nat := regF s .aisCfg n 0 9 * 250000
/-- One subframe, ns (R17). -/
def subframeNs : Nat := 15625

/-! ## Levels of the outputs -/

/-- Level of a DO stall in SAFE (R257, R258). -/
def safeLevel (a : Aisle) (k : Nat) (x : Stall) : Bool :=
  if a.tableBad || !a.ownedAtEntry then false
  else
    match a.safeTable.getD k .off with
    | .off => false
    | .on => true
    | .holdLast => x.aHeld

/-- The level asked of the switch: SAFE, a failing condition of R28, a sweep pulse, the command (R259, rows 2 to 5). -/
def wantLevel (s : State) (i : Nat) : Bool :=
  let a := aisOf s (aisleOf i)
  let x := stlOf s i
  match a.st with
  | .unpowered => false
  | .unconfigured => false
  | .safe => safeLevel a (i % 16) x
  | .linked =>
    if !driving s then false
    else if a.sweep.pulsing ∧ a.sweep.stall = i % 16 then !a.sweep.onBefore
    else x.aLevel

/-- The applied level: the switch's own protection comes first (R252, R259). -/
def doLevel (s : State) (i : Nat) : Bool :=
  let a := aisOf s (aisleOf i)
  let x := stlOf s i
  isDo s i && wantLevel s i && !x.aOver && !x.aThermal && !a.fieldUv

/-- AISLE_FAULT live: a switch commanded ON is held off or limited, or field undervoltage holds (R252, R260). -/
def aisFault (s : State) (n : Nat) : Bool :=
  (aisOf s n).fieldUv ||
  (stallsOf n).any (fun i => isDo s i && wantLevel s i && ((stlOf s i).aOver || (stlOf s i).aThermal))

/-! ## Sweep -/

/-- Ends a sweep with aborted or done; `wide` as R261 states. -/
def sweepFinish (s : State) (n : Nat) (aborted : Bool) : State :=
  let a := aisOf s n
  let w := a.sweep
  let s1 := setAis s n { a with sweep := { w with
    running := false, pulsing := false, gap := false, done := true, aborted := aborted,
    wide := !aborted && w.allLive && !w.results.contains 2 } }
  stick s1 .aisSweepStatus n 5

/-- Ends a running sweep under R262. -/
def sweepAbort (s : State) (n : Nat) : State := if (aisOf s n).sweep.running then sweepFinish s n true else s

/-- The first stall from k on that takes a pulse: in DO mode with sweep_ok (R261). -/
def sweepNext (s : State) (n k : Nat) : Option Nat :=
  (List.range 16).find? (fun j => decide (k ≤ j) && isDo s (16 * n + j) && regB s .stlCfg (16 * n + j) 14)

/-- Starts the pulse of stall k: samples AISLE_FAULT and inverts the applied level for t_pulse (R261). -/
def sweepPulse (s : State) (n k : Nat) : State :=
  let a := aisOf s n
  let live := aisFault s n
  setAis s n { a with sweep := { a.sweep with
    stall := k, pulsing := true, gap := false, faultBefore := live, onBefore := doLevel s (16 * n + k),
    until_ := s.now + regF s .aisSweepCfg n 0 11 * usNs, allLive := a.sweep.allLive && live } }

/-- Goes on to the next stall, or ends the sweep (R261). -/
def sweepGo (s : State) (n k : Nat) : State :=
  match sweepNext s n k with
  | some j => sweepPulse s n j
  | none => sweepFinish s n false

/-- Starts a sweep or refuses it with SWEEP_STATE (R261). -/
def sweepBegin (s : State) (n : Nat) : State :=
  let a := aisOf s n
  if a.st = .linked ∧ s.pair.gate = true ∧ started s = true ∧ a.sweep.running = false then
    let s1 := setAis s n { a with sweep := { Sweep.none with
      running := true, allLive := aisFault s n,
      results := (stallsOf n).map (fun i => if isDo s i then 0 else 3) } }
    sweepGo s1 n 0
  else stick s .aisSweepStatus n 8

/-- A command or action that changes a stall's level in its pulse ends the pulse: UNTESTED, then the gap (R262). -/
def sweepCut (s : State) (i : Nat) : State :=
  let n := aisleOf i
  let a := aisOf s n
  if a.sweep.pulsing ∧ a.sweep.stall = i % 16 then
    setAis s n { a with sweep := { a.sweep with pulsing := false, gap := true, until_ := s.now + regF s .aisSweepCfg n 16 10 * msNs } }
  else s

/-- The level commanded at the aisle of a DO stall becomes b (R25, R259); a switch commanded OFF is no longer overloaded
(R252: it retries while it stays commanded ON). -/
def setLevel (s : State) (i : Nat) (b : Bool) : State :=
  let x := stlOf s i
  let s1 := if x.aLevel = b then s else sweepCut s i
  setStl s1 i { stlOf s1 i with aLevel := b, aOver := (stlOf s1 i).aOver && b }

/-! ## Safe entry and aisle resets -/

/-- The aisle enters SAFE, or takes the snuffer's mark in SAFE (R243, R257, R258). -/
def aisEnterSafe (s : State) (n : Nat) (snuff : Bool) : State :=
  let a := aisOf s n
  match a.st with
  | .linked =>
    let s1 := sweepAbort s n
    let s2 := forEach (stallsOf n) s1 (fun s i => setStl s i { stlOf s i with aHeld := (stlOf s i).aLevel })
    let a2 := aisOf s2 n
    setAis s2 n { a2 with st := .safe, ownedAtEntry := a.ownedLast, snuffed := a.snuffed || snuff, timed := [],
                          resumeBit := false }
  | .safe => setAis s n { a with snuffed := a.snuffed || snuff }
  | _ => s

/-- A set that straddles a link loss is discarded whole, and its number stays unused (R79, R94). -/
def dropSets (s : State) (n : Nat) : State :=
  forEach (upTo 4) s (fun s k =>
    let x := chanOf s (4 * n + k)
    setChan s (4 * n + k) { x with sets := [], seq := (x.seq + x.sets.length) % 2 ^ 32 })

/-- The aisle loses its supply: configuration, records and levels are gone (R240, R243). -/
def aisPowerDown (s : State) (n : Nat) (avl : Nat) : State :=
  let s1 := dropSets (sweepAbort s n) n
  let s2 := forEach (stallsOf n) s1 (fun s i =>
    let x := stlOf s i
    setStl s i { x with aClass := .off, aSettled := false, aChanged := false, aEdgeLost := false, aCount := 0, aEdge := 0, cntBase := false,
                        aBreak := false, aLevel := false, aHeld := false, aOver := false, aThermal := false, aSupplyLim := false })
  let a := aisOf s2 n
  setAis s2 n { a with st := .unpowered, snuffed := false, ownedAtEntry := false, ownedLast := false, tableBad := false,
                       safeTable := [], safeCrc := 0#32, configured := false, avl := avl, downOk := 0, timed := [], edges := [],
                       recs := [], resumeBit := false }

/-! ## Stall conversions (R245 to R247) -/

/-- Top of a TMP mode's range, °C (R245). -/
def tmpTop (m : StallMode) : Int := match m with | .tmpRtd => 850 | .tmpDiode => 150 | _ => 125
/-- Bottom of a TMP mode's range, °C (R245). -/
def tmpBottom (m : StallMode) : Int := match m with | .tmpRtd => -200 | .tmpDiode => -55 | _ => -40

/-- t_hi: the mode's top in basic face, STL_OPT in expert face (R246, R264). -/
def tHi (s : State) (i : Nat) : F32 :=
  if stlExpert s i then fOfInt (regI s .stlOpt i 11 11) else fOfInt (tmpTop (stlMode s i))

/-- What a class of R246 says: quality, flags (bit 0 open, 1 short, 2 break, 3 overrange, 4 underrange, 5 fail_low,
6 fail_high) and the value reported. -/
structure AnaClass where
  q : Quality
  flags : StallFlags
  value : F32
  deriving DecidableEq, Repr

/-- Result beyond a range that is not OPEN or SHORT: DEGRADED, clamped (R246). -/
def tmpRanged (m : StallMode) (v : F32) : AnaClass :=
  let lo := fOfInt (tmpBottom m)
  let hi := fOfInt (tmpTop m)
  if fLt hi v then { q := .degraded, flags := 0x08#8, value := hi }
  else if fLt v lo then { q := .degraded, flags := 0x10#8, value := lo }
  else { q := .good, flags := 0#8, value := v }

/-- The default Steinhart-Hart coefficients: 10 kΩ at 25 °C, B25/85 = 3,977 K, in beta form (R85). -/
def shDefault : F32 × F32 × F32 := (fRat 1038115 1000000000, fRat 2514458 10000000000, 0#32)

/-- Steinhart-Hart (R85), °C. DESIGN CHOICE (log entry 36): the result of a resistance from 100 Ω to 500 kΩ whose conversion lies outside
−40 to +125 °C; R85 calls that outside the valid range and gives it no effect, so a probe's value stands as computed and valid. -/
def ntcTemp (sh : F32 × F32 × F32) (r : F32) : F32 :=
  let l := fLog r
  let inv := fAdd (fAdd sh.1 (fMul sh.2.1 l)) (fMul sh.2.2 (fMul (fMul l l) l))
  fSub (fDiv (fOfNat 1) inv) (fRat 27315 100)

/-- The result of a TMP_NTC stall's resistance (R85, R245). -/
def stallNtc (s : State) (i : Nat) (r : StallReading) : StallReading :=
  { r with val := ntcTemp ((lookup s.hld.str.ntcs i).getD shDefault) r.raw }

/-- The OPEN and SHORT limits of a TMP mode: (above is OPEN, below is SHORT), in its raw unit (R246). -/
def tmpLimits (m : StallMode) (pt1000 : Bool) : F32 × F32 :=
  match m with
  | .tmpRtd => if pt1000 then (fOfNat 4200, fOfNat 150) else (fOfNat 420, fOfNat 15)
  | .tmpDiode => (fRat 12 10, fRat 1 10)
  | _ => (fOfNat 500000, fOfNat 100)

/-- A TMP reading's class (R246, R247). -/
def tmpClass (m : StallMode) (pt1000 : Bool) (hot : F32) (r : StallReading) : AnaClass :=
  let l := tmpLimits m pt1000
  if fLt l.1 r.raw || (r.leadOpen && m == .tmpRtd) then { q := .invalid, flags := 0x01#8, value := hot }
  else if fLt r.raw l.2 then { q := .invalid, flags := 0x02#8, value := hot }
  else tmpRanged m r.val

/-- An AI_MA reading's class, mA (R246); `last` is the last value. -/
def maClass (last : F32) (x : F32) : AnaClass :=
  if fLt x (fRat 5 10) then { q := .invalid, flags := 0x04#8, value := last }
  else if fLe x (fRat 36 10) then { q := .invalid, flags := 0x20#8, value := x }
  else if fLe (fOfNat 21) x then { q := .invalid, flags := 0x40#8, value := x }
  else if fLt x (fRat 38 10) then { q := .degraded, flags := 0x10#8, value := x }
  else if fLt (fRat 205 10) x then { q := .degraded, flags := 0x08#8, value := x }
  else { q := .good, flags := 0#8, value := x }

/-- An AI_V reading's class, V (R246). -/
def voltClass (live : Bool) (last : F32) (x : F32) : AnaClass :=
  if live && fLt x (fOfNat 1) then { q := .invalid, flags := 0x04#8, value := last }
  else if fLt x (fNeg (fRat 2 10)) then { q := .degraded, flags := 0x10#8, value := x }
  else if fLt (fRat 105 10) x then { q := .degraded, flags := 0x08#8, value := x }
  else { q := .good, flags := 0#8, value := x }

/-- The class of a conversion at a stall; none for a mode without analogue conversions. -/
def anaClass (s : State) (i : Nat) (r : StallReading) : Option AnaClass :=
  let last := (stlOf s i).aValue
  match stlMode s i with
  | .tmpRtd => some (tmpClass .tmpRtd (regB s .stlCfg i 9) (tHi s i) r)
  | .tmpNtc => some (tmpClass .tmpNtc false (tHi s i) (stallNtc s i r))
  | .tmpDiode => some (tmpClass .tmpDiode false (tHi s i) r)
  | .aiMa => some (maClass last r.val)
  | .aiV => some (voltClass (regB s .stlCfg i 10) last r.val)
  | _ => none

/-- The aisle measures: configured, so LINKED or SAFE. -/
def aisMeasures (a : Aisle) : Bool := a.st == .linked || a.st == .safe

/-- STALL_CONVERSION (R245, R246): the record waits for the next upstream subframe. -/
def execStallConversion (i : Fin 128) (t : Ns) (r : StallReading) (s : State) : Out :=
  let s := setNow s t
  let n := aisleOf i
  let a := aisOf s n
  match anaClass s i r with
  | some c =>
    if aisMeasures a then
      let s1 := setStl s i { stlOf s i with aValue := c.value }
      .next (setAis s1 n { a with recs := a.recs ++ [.sample i c.flags c.q c.value r.raw t] })
    else .next s
  | none => .next s

/-! ## Digital inputs and counters (R248 to R250) -/

/-- wb_en of a stall (R248). -/
def wbEn (s : State) (i : Nat) : Bool := regB s .stlCfg i 5

/-- Puts a DI edge record into the 64-entry queue, or discards it (R255). -/
def pushEdge (s : State) (i : Nat) (cls : DiClass) (t : Nat) : State :=
  let n := aisleOf i
  let a := aisOf s n
  let x := stlOf s i
  if a.edges.length < 64 then
    let fl : StallFlags := (if cls = .brk then 0x04#8 else 0#8) ||| (if x.aEdgeLost then 0x80#8 else 0#8)
    setAis (setStl s i { x with aEdgeLost := false }) n { a with edges := a.edges ++ [.edge i cls fl t] }
  else setStl s i { x with aEdgeLost := true, lostEdges := satInc 16 x.lostEdges }

/-- DI_CLASS_CHANGE (R248, R249): a class that has held for di_filt, stamped t. Without wb_en a BREAK reads as OFF. -/
def execDiClassChange (i : Fin 128) (t : Ns) (cls : DiClass) (s : State) : Out :=
  let s := setNow s t
  let a := aisOf s (aisleOf i)
  let c : DiClass := if cls = .brk ∧ wbEn s i = false then .off else cls
  let x := stlOf s i
  if stlMode s i = .di ∧ aisMeasures a = true then
    if x.aClass = c then .next (setStl s i { x with aSettled := true })
    else .next (pushEdge (setStl s i { x with aClass := c, aSettled := true, aChanged := true, aPrev := x.aClass, aAt := t }) i c t)
  else .next s

/-- The wicks that count a stall's edges (R31, R45). -/
def cntWicks (s : State) (i : Nat) : List Nat :=
  (upTo 64).filter (fun w => decide (regF s .wckCfg w 0 4 = 4) && decide (regF s .wckSrc w 0 7 = i))

/-- Direction of an edge for a CNT wick: dir_fixed, or the class of the direction stall; true for REV (R45). -/
def cntRev (s : State) (w : Nat) : Bool :=
  if regB s .wckSrc w 7 then decide ((stlOf s (regF s .wckSrc w 8 7)).aClass ≠ .on) else regB s .wckCfg w 8

/-- The direction in which the aisle counts a stall's edges: that of its lowest CNT wick (R45, R250). -/
def aisleRev (s : State) (i : Nat) : Bool := match (cntWicks s i).head? with | some w => cntRev s w | none => false

/-- CNT_EDGE (R250): counted in the aisle while it is LINKED; a good edge ends a BREAK. -/
def execCntEdge (i : Fin 128) (t : Ns) (s : State) : Out :=
  let s := setNow s t
  let a := aisOf s (aisleOf i)
  let x := stlOf s i
  .next (if stlMode s i = .cnt ∧ a.st = .linked ∧ a.lostDown = false then
           setStl s i { x with aCount := wrapS 32 (x.aCount + (if aisleRev s i then -1 else 1)), aEdge := t, aBreak := false }
         else s)

/-- CNT_BREAK (R250): only with wb_en. -/
def execCntBreak (i : Fin 128) (t : Ns) (s : State) : Out :=
  let s := setNow s t
  let a := aisOf s (aisleOf i)
  .next (if stlMode s i = .cnt ∧ wbEn s i = true ∧ aisMeasures a = true then setStl s i { stlOf s i with aBreak := true } else s)

/-! ## Output protection (R252) -/

/-- DO_OVERLOAD_TRIP (R252): a current limit that lasts 5 ms turns a switch commanded ON off. -/
def execDoOverloadTrip (i : Fin 128) (t : Ns) (s : State) : Out :=
  let s := setNow s t
  .next (if isDo s i ∧ doLevel s i = true then setStl s i { stlOf s i with aOver := true, aRetry := t + 100 * msNs } else s)

/-- DO_OVERLOAD_RETRY (R252): every 100 ms while it stays commanded ON; `limited`: the limit holds again. -/
def execDoOverloadRetry (i : Fin 128) (t : Ns) (limited : Bool) (s : State) : Out :=
  let s := setNow s t
  let x := stlOf s i
  .next (if x.aOver = true ∧ wantLevel s i = true ∧ x.aRetry ≤ t then
           setStl s i (if limited then { x with aRetry := t + 100 * msNs } else { x with aOver := false }) else s)

/-- DO_THERMAL_SHUTDOWN (R252): the junction reaches 160 °C. -/
def execDoThermalShutdown (i : Fin 128) (t : Ns) (s : State) : Out :=
  let s := setNow s t
  .next (if isDo s i then setStl s i { stlOf s i with aThermal := true } else s)

/-- DO_THERMAL_RECOVERY (R252): below 140 °C the switch turns on again. -/
def execDoThermalRecovery (i : Fin 128) (t : Ns) (s : State) : Out :=
  let s := setNow s t
  .next (setStl s i { stlOf s i with aThermal := false })

/-- The stall has a supply on its C land: loop_pwr of AI_MA, sensor_pwr of DI and CNT (R244, STL_CFG). -/
def hasSupply (s : State) (i : Nat) : Bool :=
  match stlMode s i with
  | .aiMa => regB s .stlCfg i 7
  | .di => regB s .stlCfg i 8
  | .cnt => regB s .stlCfg i 8
  | _ => false

/-- SUPPLY_LIMIT_RETRY (R244): the C supply goes off when it is current-limited and retries every 100 ms; it stays on in SAFE. -/
def execSupplyLimitRetry (i : Fin 128) (t : Ns) (limited : Bool) (s : State) : Out :=
  let s := setNow s t
  let x := stlOf s i
  .next (if hasSupply s i && aisMeasures (aisOf s (aisleOf i)) && (!x.aSupplyLim || decide (x.aSupRetry ≤ t)) then
      setStl s i { x with aSupplyLim := limited, supplyLim := limited, aSupRetry := t + 100 * msNs }
    else s)

/-! ## Aisle states (R240 to R243) -/

/-- AISLE_POWER_UP (R243): AVL_n at or above 4.5 V. -/
def execAislePowerUp (n : Fin 8) (t : Ns) (avl : Nat) (s : State) : Out :=
  let s := setNow s t
  let a := aisOf s n
  .next (if 4500 ≤ avl then setAis s n { a with avl := sat 16 avl, st := if a.st = .unpowered then .unconfigured else a.st } else s)

/-- AVL_UNDERVOLTAGE (R240): AVL_n below 4.3 V resets the aisle. -/
def execAvlUndervoltage (n : Fin 8) (t : Ns) (avl : Nat) (s : State) : Out :=
  let s := setNow s t
  .next (if avl < 4300 then stick (aisPowerDown s n avl) .aisStatus n 9 else s)

/-- FIELD_UNDERVOLTAGE (R240): AVF_n below 18.0 V. -/
def execFieldUndervoltage (n : Fin 8) (t : Ns) (avf : Nat) (s : State) : Out :=
  let s := setNow s t
  .next (if avf < 18000 then setAis s n { aisOf s n with avf := avf, fieldUv := true } else s)

/-- FIELD_UNDERVOLTAGE_END (R240): AVF_n back at 18.5 V or above. -/
def execFieldUndervoltageEnd (n : Fin 8) (t : Ns) (avf : Nat) (s : State) : Out :=
  let s := setNow s t
  .next (if 18500 ≤ avf then setAis s n { aisOf s n with avf := sat 16 avf, fieldUv := false } else s)

/-- AISLE_LINK_LOST (R241, R243): the aisle declares the link lost and a LINKED aisle enters SAFE. -/
def execAisleLinkLost (n : Fin 8) (t : Ns) (s : State) : Out :=
  let s := setNow s t
  let a := aisOf s n
  if a.st ≠ .unpowered ∧ a.lostDown = false ∧ a.lastDown + aisTimeout s n ≤ t then
    let s1 := setAis s n { a with lostDown := true, localOsc := true, downOk := 0, losses := satInc 16 a.losses }
    let s2 := aisEnterSafe (dropSets (stick s1 .aisStatus n 7) n) n false
    .next (if a.st = .linked then logEv s2 (srcAisle n) .aisleSafe n else s2)
  else .next s

/-- The host's resume command: held for a SAFE aisle, no effect for any other (R243, R266). -/
def aisResume (s : State) (n : Nat) : State :=
  let a := aisOf s n
  if a.st = .safe then setAis s n { a with resumeReq := true } else s
/-- AISLE_RESUME_CMD (R243, R266, R267). -/
def execAisleResumeCmd (n : Fin 8) (s : State) : Out := .next (rowCmd s .aisCmd n 1#32 (fun s => aisResume s n))

/-- The CRC-32 of a safe table as the core sends it: one byte an entry (R256; the transfer's layout is not given, log entry 10). -/
def tableCrc (t : List SafeEntry) : W32 := crc32 (t.map (fun e => BitVec.ofNat 8 e.ctorIdx))

/-- SAFE_TABLE_CHECK (R256, R257): `ok` says that the stored table's CRC agrees. -/
def execSafeTableCheck (n : Fin 8) (t : Ns) (ok : Bool) (s : State) : Out :=
  let s := setNow s t
  let a := aisOf s n
  if ok ∨ a.safeTable = [] then .next s
  else
    let s1 := stick (setAis s n { a with tableBad := true }) .aisStatus n 8
    .next (if a.tableBad then s1 else logEv s1 (srcAisle n) .safeCrcBad n)

/-- AIS_LINK and every STL_DIAG of the aisle become 0 (R267). -/
def aisClear (s : State) (n : Nat) : State :=
  forEach (stallsOf n) (setAis s n { aisOf s n with crcErrors := 0, losses := 0 }) (fun s i =>
    setStl s i { stlOf s i with failures := 0, lostEdges := 0 })
/-- AISLE_CLEAR_COUNTS (R267). -/
def execAisleClearCounts (n : Fin 8) (s : State) : Out := .next (rowCmd s .aisCmd n 8#32 (fun s => aisClear s n))

/-- SWEEP_START (R261, R267). -/
def execSweepStart (n : Fin 8) (s : State) : Out := .next (rowCmd s .aisCmd n 2#32 (fun s => sweepBegin s n))

/-- SWEEP_ABORT (R262, R267). -/
def execSweepAbort (n : Fin 8) (s : State) : Out := .next (rowCmd s .aisCmd n 4#32 (fun s => sweepAbort s n))

/-- SWEEP_PULSE_END (R261): `fault` is AISLE_FAULT as sampled at the end of the pulse. -/
def execSweepPulseEnd (n : Fin 8) (t : Ns) (fault : Bool) (s : State) : Out :=
  let s := setNow s t
  let a := aisOf s n
  let w := a.sweep
  if w.pulsing = true ∧ w.until_ ≤ t then
    let bad := (w.onBefore && w.faultBefore && !fault) || (!w.onBefore && !w.faultBefore && fault)
    let w' := { w with pulsing := false, gap := true, results := setAt w.results w.stall (if bad then 2 else 1),
                       allLive := w.allLive && fault, until_ := t + regF s .aisSweepCfg n 16 10 * msNs }
    let s1 := setAis s n { a with sweep := w' }
    .next (if (sweepNext s1 n (w.stall + 1)).isNone then sweepFinish s1 n false else s1)
  else .next s

/-- SWEEP_GAP_END (R261): after t_gap the sweep visits the next stall. -/
def execSweepGapEnd (n : Fin 8) (t : Ns) (s : State) : Out :=
  let s := setNow s t
  let w := (aisOf s n).sweep
  .next (if w.running = true ∧ w.gap = true ∧ w.until_ ≤ t then sweepGo s n (w.stall + 1) else s)

/-- AISLE_TIMED_ACTION (R18, R25): the aisle executes the timed actions whose instant is reached; the core's commanded level
follows, so that the action's value stands until a later frame command. -/
def execAisleTimedAction (n : Fin 8) (t : Ns) (s : State) : Out :=
  let s := setNow s t
  let a := aisOf s n
  if a.st = .linked ∧ a.lostDown = false then
    let due := a.timed.filter (fun x => decide (x.at_ ≤ t))
    let s1 := setAis s n { a with timed := a.timed.filter (fun x => decide (t < x.at_)) }
    .next (due.foldl (fun s x => let s2 := setLevel s x.stall x.level
                                 setStl s2 x.stall { stlOf s2 x.stall with cmd := x.level }) s1)
  else .next s

end Sys2Proof.Machine
end

