-- ==== Sys2Proof/Machine/Engine.lean ====
section
/-!
DEFINITION. Control engines, baskets and transactions (R151 to R173): costs and loads, posts and credits, admission at frame
boundaries, tags, and engine faults.
-/
namespace Sys2Proof.Machine

open Sys2Proof

/-! ## Baskets (R161 to R167) -/

/-- Changes a basket. -/
def modBsk (s : State) (b : Nat) (f : Basket → Basket) : State := setBsk s b (f (bskOf s b))

/-- Sets a bit of BSK_GLOBAL (R173): 0 any_drop, 1 any_overwrite, 2 any_credit_violation, 3 any_length_error. -/
def bskAny (s : State) (k : Nat) : State :=
  { s with eng := { s.eng with bskGlobal := s.eng.bskGlobal ||| BitVec.ofNat 4 (1 <<< k) } }

/-- Messages a block may still post into a BLOCK basket in this frame (R166). -/
def credit (s : State) (b : Nat) : Nat := (bdescOf s b).depth - (bskOf s b).msgs.length - (bskOf s b).used

/-- A block posts a message (R163, R166): refused with FULL beyond its credit. The second part says whether it was taken. -/
def blockPost (s : State) (inst : Nat) (p : Post) : State × Bool :=
  let d := bdescOf s p.basket
  if d.depth = 0 then (s, true)
  else if d.policy = .block then
    if credit s p.basket = 0 then (modBsk s p.basket (fun x => { x with refusedFull := true }), false)
    else (post (modBsk s p.basket (fun x => { x with used := x.used + 1 })) inst p, true)
  else (post s inst p, true)

/-- A block posts a message and keeps it for its next run when it is refused (R166). -/
def keepPost (s : State) (inst : Nat) (p : Post) : State :=
  let r := blockPost s inst p
  if r.2 then r.1
  else
    let x := blkOf r.1 inst
    setBlk r.1 inst { x with pendingPosts := x.pendingPosts ++ [p] }

/-- A run begins by posting again what was refused before (R166). -/
def repost (s : State) (inst : Nat) : State :=
  let x := blkOf s inst
  x.pendingPosts.foldl (fun s p => keepPost s inst p) (setBlk s inst { x with pendingPosts := [] })

/-- A block posts to an output that is a basket. -/
def postTo (s : State) (inst : Nat) (d : Dst) (m : Msg) : State :=
  match d with
  | .basket b => keepPost s inst (plain b m)
  | _ => s

/-- The messages that the consumer takes next, up to n from the head (R167). -/
def nextMsgs (s : State) (b n : Nat) : List Msg := let x := bskOf s b; (x.msgs.drop x.taken).take n

/-- The consumer takes up to n messages from the head (R167); their slots are freed at the next boundary (R164). -/
def takeMsgs (s : State) (b n : Nat) : State × List Msg :=
  let ms := nextMsgs s b n
  (modBsk s b (fun x => { x with taken := x.taken + ms.length }), ms.map Msg.body)

/-- A block answers a request of the market: the reply, with the request's generation and tag, leaves by an egress basket of this device
(R169, R318). -/
def answerTo (s : State) (inst : Nat) (d : Dst) (q : Msg) (status : Nat) (m : Msg) : State :=
  match q with
  | .asked _ gen tag _ => postTo s inst d (.answer gen tag status m)
  | _ => s

/-- Types whose n counts items other than messages (R154): stalls, points, members, terms, signals, timers, samples. -/
def BlockType.otherItems (b : BlockType) : Bool :=
  [.doOut, .stallFilter, .diDebounce, .cableCheck, .dryHeat, .aerSilo, .routeSeq, .logic, .latch, .edge, .compare, .minMax, .deadTime, .timer,
   .counter, .runHours, .eventRaise].contains b

/-- Messages an instance takes from a basket in one run, at most (R154, R167): the n of its record. DESIGN CHOICE (log entry 13): a record
that gives no n lets its instance take one message of each basket in a run, and a type whose n counts other items takes all that wait. -/
def Inst.msgLimit (x : Inst) : Nat := if x.typ.otherItems then 65535 else max 1 x.items

/-- The run's input set carries the overrun counts of the baskets that the instance consumes (R165). -/
def takeOverruns (s : State) (inst : Nat) : State :=
  let bs := (s.eng.b.filter (fun p => p.2.overrun != 0 && (bdescOf s p.1).consumer == inst)).map (fun p => (p.1, p.2.overrun))
  let s1 := bs.foldl (fun s p => modBsk s p.1 (fun y => { y with overrun := 0 })) s
  setBlk s1 inst { blkOf s1 inst with overs := bs }

/-- A tag's record (R168). -/
def setTag (s : State) (g : Nat) (x : Option Tag) : State :=
  { s with eng := { s.eng with tags := match x with
      | some y => spPut s.eng.tags g y
      | none => spDel s.eng.tags g } }

/-- Sets a bit of TAG_FLAGS (R173): 0 tag_full, 1 lost, 2 stray. -/
def tagFlag (s : State) (k : Nat) : State :=
  { s with eng := { s.eng with tagFlags := s.eng.tagFlags ||| BitVec.ofNat 3 (1 <<< k) } }

/-- The message joins the tail (R164), unless the basket is full (R165). `market`: it came from the market. -/
def admitMsg (s : State) (b : Nat) (m : Msg) : State :=
  let d := bdescOf s b
  let x := bskOf s b
  if d.depth = 0 then s
  else if x.msgs.length < d.depth then
    setBsk s b { x with msgs := x.msgs ++ [m], peak := max x.peak (x.msgs.length + 1) }
  else
    match (if d.policy = .block ∧ pairActs s = false ∧ (lookup s.hld.str.ingress b).isSome = true then .dropNewest else d.policy) with
    | .block => bskAny (bskAny (setBsk s b { x with creditViol := true, dropped := true, drops := satInc 16 x.drops }) 0) 2
    | .dropNewest => bskAny (setBsk s b { x with dropped := true, drops := satInc 16 x.drops }) 0
    | .overwriteOldest =>
      bskAny (setBsk s b { x with
        msgs := x.msgs.drop 1 ++ [m], head := (x.head + 1) % d.depth, overwritten := true, overwrites := satInc 16 x.overwrites,
        overrun := x.overrun + 1 }) 1

/-- The message as a market-egress basket holds it: with its tag, which leaves with it (R168, R308). -/
def wrapEgress (s : State) (p : Post) : Msg :=
  match p.tag with
  | some g => if (bdescOf s p.basket).consumer = 0xFFFF then .tagged g p.isReply p.msg else p.msg
  | none => p.msg

/-- Admits one post at t0 of frame F: a reply completes its tag or is stray; a request's F_i is F (R164, R169). -/
def admitOne (s : State) (p : Post) : State :=
  match p.tag with
  | none => admitMsg s p.basket p.msg
  | some g =>
    if p.isReply then
      if (bdescOf s p.basket).consumer = 0xFFFF then admitMsg s p.basket (wrapEgress s p)
      else
        match tagOf s g with
        | some x =>
          if x.quarantined then tagFlag { s with eng := { s.eng with tagStray := satInc 16 s.eng.tagStray } } 2
          else admitMsg (setTag s g none) p.basket p.msg
        | none => tagFlag { s with eng := { s.eng with tagStray := satInc 16 s.eng.tagStray } } 2
    else
      let s1 := match tagOf s g with
        | some x => setTag s g (some { x with frame := s.frame, sent := true })
        | none => s
      admitMsg s1 p.basket (wrapEgress s1 p)

/-- Frees the slots of the messages taken in the frame before, and ends the frame's credit (R164, R166). -/
def freeTaken (s : State) : State :=
  forEach (s.eng.b.map (·.1)) s (fun s b => modBsk s b (fun x =>
    { x with msgs := x.msgs.drop x.taken, head := (x.head + x.taken) % max 1 (bdescOf s b).depth, taken := 0, used := 0,
             tCount := (x.tCount + x.taken) % 65536 }))

/-- Posts in ascending producer number, each producer's in posting order (R164). -/
def insertPost (p : Nat × Post) (l : List (Nat × Post)) : List (Nat × Post) :=
  match l with
  | [] => [p]
  | q :: t => if p.1 < q.1 then p :: q :: t else q :: insertPost p t

/-- Posts in the order of admission. -/
def sortPosts (l : List (Nat × Post)) : List Post := (l.foldl (fun acc p => insertPost p acc) []).map (·.2)

/-! ## Transactions that end at a boundary (R169) -/

/-- A request admitted at F_i still waits for its reply at t0 of frame F_i + 160. -/
def Tag.late (x : Tag) (f : Nat) : Bool := x.sent && !x.quarantined && decide (x.frame + 160 ≤ f)

/-- A transaction is LOST: its tag is quarantined, and the loss is counted (R169, R173). -/
def loseTag (s : State) (g : Nat) (x : Tag) : State :=
  let s1 := setTag s g (some { x with quarantined := true })
  tagFlag { s1 with eng := { s1.eng with tagLost := satInc 16 s1.eng.tagLost } } 1

/-- At t0 of F_i + 160, after the replies of the boundary: the LOST results join their reply baskets (R164, R169). -/
def endTags (s : State) : State :=
  s.eng.tags.foldl (fun s p => if p.2.late s.frame then admitMsg (loseTag s p.1 p.2) p.2.reply (.lost p.1) else s) s

/-- Tags whose quarantine has ended may be issued again (R169). -/
def freeTags (s : State) : State :=
  { s with eng := { s.eng with tags := s.eng.tags.filter (fun p => !(p.2.quarantined && decide (p.2.frame + 320 ≤ s.frame))) } }

/-- BASKET_ADMISSION at t0 (R164). -/
def admission (s : State) : State :=
  let ps := sortPosts s.eng.posts ++ s.eng.arrivals
  let s1 := freeTaken { s with eng := { s.eng with posts := [], arrivals := [] } }
  freeTags (endTags (ps.foldl admitOne s1))

/-! ## Transactions (R168, R169) -/

/-- Tags a block holds of its quota. -/
def tagsOf (s : State) (inst : Nat) : Nat := (s.eng.tags.filter (fun p => p.2.requester == inst)).length

/-- The lowest tag that is not in use. -/
def lowFree (used : List Nat) (n k : Nat) : Nat :=
  match n with
  | 0 => k
  | n + 1 => if used.contains k then lowFree used n (k + 1) else k

/-- TRANSACTION_ISSUE (R168): a tag of the block's quota, or TAG_FULL. -/
def issueRequest (s : State) (inst b reply : Nat) (m : Msg) : State × Bool :=
  if tagsOf s inst < (lookup s.hld.str.quotas inst).getD 0 ∧ s.eng.tags.length < 4096 then
    let g := lowFree (s.eng.tags.map (·.1)) 4096 0
    let s1 := setTag s g (some { requester := inst, reply := reply, frame := s.frame, sent := false, quarantined := false })
    (keepPost s1 inst { basket := b, msg := m, tag := some g, isReply := false }, true)
  else (tagFlag s 0, false)

/-- A reply to a tag waits for the next admission (R169). -/
def replyWaits (s : State) (g : Nat) : Bool :=
  (s.eng.posts.map (·.2) ++ s.eng.arrivals).any (fun p => p.isReply && p.tag == some g && (bdescOf s p.basket).consumer != 0xFFFF)

/-- TRANSACTION_TIMEOUT (R169): at t0 of F_i + 160, when no reply came before it, the transaction is LOST and its tag quarantined. The
message LOST is admitted after the replies of the boundary; a boundary that finds it undone does the same (`endTags`). -/
def execTransactionTimeout (tag : Fin 4096) (t : Ns) (s : State) : Out :=
  let s := setNow s t
  .next (match tagOf s tag with
    | some x =>
      if x.late (frameOf t) && !replyWaits s tag then
        let s1 := loseTag s tag x
        { s1 with eng := { s1.eng with arrivals := s1.eng.arrivals ++ [plain x.reply (.lost tag)] } }
      else s
    | none => s)

/-- TAG_QUARANTINE_END (R169). -/
def execTagQuarantineEnd (tag : Fin 4096) (t : Ns) (s : State) : Out :=
  let s := setNow s t
  .next (match tagOf s tag with
    | some x => if x.quarantined && decide (x.frame + 320 ≤ frameOf t) then setTag s tag none else s
    | none => s)

/-! ## Costs and loads (R154 to R156) -/

/-- Highest tick rate of a wick by kind and filter code, ticks/s (R33, R154). -/
def tickRate (kind filter : Nat) : Nat :=
  match kind with
  | 4 => 100000
  | 7 => 100
  | 8 => 5000000
  | 9 => 5000000
  | _ => match filter with
    | 0 => 5000000 | 1 => 5000000 | 2 => 3000000 | 3 => 1500000 | 4 => 500000 | _ => 100000

/-- A register reader: the state's words or a stream's. -/
abbrev RegRead := RegName → Nat → W32

/-- Parcel length in ticks (PCL_PLEN). -/
def plenOf (rd : RegRead) (c : Nat) : Nat := fld (rd .pclPlen c) 0 24

/-- b of R154: moisture results that can reach a COL_TRACK in one of its periods. -/
def colB (insts : List (Nat × Inst)) (x : Inst) : Nat :=
  match (insts.filter (fun q => q.2.typ == .moistProc && x.ids.contains q.2.idx)).map (fun q => q.2.periodNs) with
  | [] => 0
  | q :: qs => 2 * ceilDiv x.periodNs (qs.foldl min q)

/-- Cost of COL_TRACK (R154). -/
def colCost (rd : RegRead) (insts : List (Nat × Inst)) (x : Inst) : Nat :=
  let w := fld (rd .pclCfg x.idx) 1 6
  let r := tickRate (fld (rd .wckCfg w) 0 4) (fld (rd .wckCfg w) 5 3)
  let p := max 1 (plenOf rd x.idx)
  let a := ceilDiv (r * x.periodNs) (p * secNs) + 1
  1500 + 60 * a + 300 * colB insts x + 500 * (2 * a)

/-- Cost of DRY_COLUMN (R154). -/
def dryCost (rd : RegRead) (x : Inst) : Nat :=
  let c := x.idx
  let z := fld (rd .pclCfg c) 20 3 + 1
  let l := fld (rd .pclCfg c) 8 12 + 1
  let ns := max 1 (fld (rd .dryCfg c) 7 8)
  let g := fld (rd .dryCfg c) 1 2
  let trim := bit (rd .dryCfg c) 3 && bit (rd .heatCfg g) 20 && bit (rd .heatCfg g) 21
  9000 + 3500 * z + 360 * ceilDiv l ns + (if trim then 2500 * z else 0)

/-- Worst-case cycles of one run (R154). -/
def instCost (rd : RegRead) (insts : List (Nat × Inst)) (x : Inst) : Nat :=
  match x.typ with
  | .colTrack => colCost rd insts x
  | .dryColumn => dryCost rd x
  | .moistProc => 2600 + 1900 * ceilDiv x.periodNs 2500000
  | b => b.cost.1 + b.cost.2 * x.items

/-- An instance is due in frame F (R22). -/
def Inst.due (x : Inst) (f : Nat) : Bool := f % 2 ^ x.k == x.phase

/-- Frame load of engine e in frame F (R155). The cost of COL_TRACK counts the probes' MOIST_PROCs wherever they stand. -/
def frameLoad (rd : RegRead) (insts : List (Nat × Inst)) (e f : Nat) : Nat :=
  (insts.filter (fun p => p.2.engine == e && p.2.due f)).foldl (fun a p => a + 60 + instCost rd insts p.2) 350

/-- Worst frame load W_e over F mod 8,192; 0 without instances (R155, R156). The load of an engine repeats with the longest period on
it, so one such period shows every load. -/
def worstLoad (rd : RegRead) (insts : List (Nat × Inst)) (e : Nat) : Nat :=
  let mine := insts.filter (fun p => p.2.engine == e)
  let cs := mine.map (fun p => (p.2, 60 + instCost rd insts p.2))
  if mine.isEmpty then 0
  else (List.range (2 ^ mine.foldl (fun k p => max k p.2.k) 0)).foldl (fun a f =>
    max a ((cs.filter (fun p => p.1.due f)).foldl (fun n p => n + p.2) 350)) 0

/-- Deadline floor of a row from its largest W_e (R156). -/
def floorOf (wMax : Nat) : Nat := max 32 (ceilDiv (128 * wMax) 58000)

/-- The committed structure's registers. -/
def rdState (s : State) : RegRead := fun r i => regW s r i

/-- Engine e has instances (R151). -/
def engPlaced (s : State) (e : Nat) : Bool := s.hld.str.insts.any (fun p => p.2.engine == e)

/-- Largest W_e of a row of a placement (R156). -/
def worstOfRow (rd : RegRead) (insts : List (Nat × Inst)) (r : Nat) : Nat :=
  (upTo 16).foldl (fun a k => max a (worstLoad rd insts (16 * r + k))) 0

/-- The W_e of the committed structure, kept from its commit on (R156). -/
def noteWorst (s : State) : State :=
  { s with hld := { s.hld with rowW := (upTo 8).foldl (fun l r => spSet 0 l r (worstOfRow (rdState s) s.hld.str.insts r)) [] } }

/-- Largest W_e of a row of the committed structure (R156). -/
def rowWorst (s : State) (r : Nat) : Nat := spGet 0 s.hld.rowW r

/-- m_floor of a row (R156). -/
def rowFloor (s : State) (r : Nat) : Nat := floorOf (rowWorst s r)

/-! ## Engine faults (R158 to R160) -/

/-- The instances of engine e due in the present frame, ascending. -/
def dueOf (s : State) (e : Nat) : List (Nat × Inst) := s.hld.str.insts.filter (fun p => p.2.engine == e && p.2.due s.frame)

/-- The wax shows an engine halt in the frame recorded last (R455, cause HALT_REC). -/
def markHalt (s : State) : State :=
  match s.wax.segs with
  | g :: gs =>
    match g.recs with
    | r :: rs => { s with wax := { s.wax with segs := { g with halt := true, recs := { r with halted := true } :: rs } :: gs } }
    | [] => s
  | [] => s

/-- An engine that halts (R160): at once, until the core domain is reset. -/
def engHalt (s : State) (e cause : Nat) : State :=
  let x := engOf s e
  if x.halted then s
  else logEv (markHalt (setEng s e { x with halted := true, haltCause := cause })) (srcEng e) .engineHalt (4 * e + cause)

/-- Peak load of an engine to 0 (R172). -/
def engClearPeak (s : State) (e : Nat) : State := setEng s e { engOf s e with peak := 0 }
/-- Miss and skip counts of an engine to 0 (R172). -/
def engClearCounts (s : State) (e : Nat) : State := setEng s e { engOf s e with misses := 0, skipped := 0 }
/-- ENG_CLEAR_PEAK (R172). -/
def execEngClearPeak (e : Fin 128) (s : State) : Out := .next (rowCmd s .engCmd e 1#32 (fun s => engClearPeak s e))
/-- ENG_CLEAR_COUNTS (R172). -/
def execEngClearCounts (e : Fin 128) (s : State) : Out := .next (rowCmd s .engCmd e 2#32 (fun s => engClearCounts s e))
/-- The basket BSK_SEL names (R173). -/
def bskSel (s : State) : Nat := regF s .bskSel 0 0 15
/-- BSK_COUNTS and BSK_PEAK of the selected basket to 0 (R173). -/
def bskClear (s : State) : State := modBsk s (bskSel s) (fun x => { x with drops := 0, overwrites := 0, peak := 0 })
/-- BSK_CLEAR_COUNTS (R173). -/
def execBskClearCounts (s : State) : Out := .next (rowCmd s .bskCmd 0 1#32 bskClear)

/-- T_row of a row: the higher of its two core sensors' checked values, 1/128 °C (R412). -/
def rowTemp (s : State) (r : Nat) : Int := max (sensOf s (2 * r)).checked (sensOf s (2 * r + 1)).checked

/-! ## Inputs of a block (R24) -/

/-- A value held from a basket between runs: the last value message taken. -/
def lastValue (ms : List Msg) (d : F32) : F32 :=
  ms.foldl (fun a m => match m with
    | .value x _ _ => x
    | .taper y _ _ _ _ => y
    | .law u _ _ _ _ _ => u
    | .policy t _ => t
    | _ => a) d

/-- A temperature in the input area (R24, R27). -/
def tempIn (s : State) (k : Nat) : TempIn := spGet TempIn.zero s.eng.temps k

/-- Value of an input of instance i: a basket is taken and its last value held in slot k of the block's state. -/
def inVal (s : State) (i : Nat) (x : Inst) (k : Nat) : State × F32 :=
  match x.src k with
  | .none => (s, 0#32)
  | .const v => (s, v)
  | .basket b =>
    let r := takeMsgs s b x.msgLimit
    let y := blkOf r.1 i
    let v := lastValue r.2 (y.f.getD k 0#32)
    let f := if k < y.f.length then y.f else y.f ++ List.replicate (k + 1 - y.f.length) 0#32
    (setBlk r.1 i { y with f := setAt f k v }, v)
  | .stall n => (s, (stlOf s n).value)
  | .wickSpeed w => (s, fRat (wickOf s w).snap.speed 256)
  | .wickPos w => (s, fRat (wickOf s w).snap.pos 256)
  | .mst c => (s, (chanOf (t0 s) c).out.moisture)
  | .motor m => (s, (motOf s m).rec_.speed)
  | .observer m => (s, (motOf (t0 s) m).obsSpeed)
  | .row r => (s, fRat (tempIn s r).t 128)
  | .aisleTemp n => (s, fRat (tempIn s (16 + n)).t 128)
  | .diode n => (s, fRat (tempIn s (32 + n)).t 128)
  | .confidence c => (s, (dryOf (t0 s) c).conf)

/-- Whether an input is LOST: its wick is LOST or its stall, channel or quality is INVALID (R184). -/
def inLost (s : State) (x : Inst) (k : Nat) : Bool :=
  match x.src k with
  | .stall n => (stlOf s n).q == .invalid
  | .wickSpeed w => (wickOf s w).snap.st == .lost || (wickOf s w).snap.late
  | .wickPos w => (wickOf s w).snap.st == .lost || (wickOf s w).snap.late
  | .mst c => (chanOf (t0 s) c).out.q == .invalid
  | .motor m => (wickRpmLost s m)
  | _ => false
where
  /-- The port's speed comes from its wick, and the wick is LOST (R203). -/
  wickRpmLost (s : State) (m : Nat) : Bool := decide (regF s .motCfg m 2 2 < 2) && (wickOf s (32 + m)).snap.st == .lost

end Sys2Proof.Machine
end

