-- ==== Sys2Proof/Machine/MotBase.lean ====
section
/-!
DEFINITION. Motor ports (R190 to R220): parameters, speeds, and the transitions of the port states that other chapters cause
too. The commands and happenings of a port stand in Motor.lean.
-/
namespace Sys2Proof.Machine

open Sys2Proof

/-! ## Parameters (R219, R220) -/

/-- x × k / d in binary32, from the left. -/
def fPart (x : F32) (k d : Nat) : F32 := fDiv (fMul x (fOfNat k)) (fOfNat d)

/-- Expert face of a port (MOT_CFG face). -/
def motExpert (s : State) (m : Nat) : Bool := regB s .motCfg m 19
/-- motor_type PM (MOT_CFG). -/
def motPm (s : State) (m : Nat) : Bool := regB s .motCfg m 1
/-- fb_mode (MOT_CFG): 0 ENC, 1 HALL, 2 SENSORLESS. -/
def motFb (s : State) (m : Nat) : Nat := regF s .motCfg m 2 2
/-- pole_pairs (MOT_CFG). -/
def motPoles (s : State) (m : Nat) : Nat := regF s .motCfg m 6 4
/-- stop_mode (MOT_CFG): 0 RAMP, 1 COAST, 2 DC. -/
def motStopMode (s : State) (m : Nat) : Nat := regF s .motCfg m 14 2
/-- tpr (MOT_ENC). -/
def motTpr (s : State) (m : Nat) : Nat := regF s .motEnc m 0 21
/-- Rated voltage, current and speed. -/
def vRated (s : State) (m : Nat) : F32 := regW s .motRatedV m
def iRated (s : State) (m : Nat) : F32 := regW s .motRatedI m
def nRated (s : State) (m : Nat) : F32 := regW s .motRatedN m
/-- The port's stream-only fields. -/
def motOnly (s : State) (m : Nat) : Option MotorOnly := lookup s.hld.str.motors m
/-- Motor parameter word k as of the latest MOTOR_CTRL run (R220): 0 MOT_LIMITS, 1 MOT_BUS, 2 MOT_FAN, 3 MOT_CUR_KP, 4
MOT_CUR_KI, 5 MOT_START, 6 MOT_BRAKE, 7 MOT_TEMP. -/
def motPar (s : State) (m k : Nat) : W32 := (motOf s m).par.getD k 0#32
/-- The parameter words as the registers hold them. -/
def motParRegs (s : State) (m : Nat) : List W32 :=
  [regW s .motLimits m, regW s .motBus m, regW s .motFan m, regW s .motCurKp m, regW s .motCurKi m, regW s .motStart m,
   regW s .motBrake m, regW s .motTemp m]
/-- A field of an expert parameter word, or its basic-face value (R219). -/
def motFld (s : State) (m k lo n basic : Nat) : Nat := if motExpert s m then fld (motPar s m k) lo n else basic
/-- n_catch, n_zero in rev/min, v_detect in V, t_search in ns (R206, R208, R219). -/
def nCatch (s : State) (m : Nat) : F32 := fPart (nRated s m) (motFld s m 5 0 8 10) 100
def nZero (s : State) (m : Nat) : F32 := fPart (nRated s m) (motFld s m 5 8 8 10) 1000
def vDetect (s : State) (m : Nat) : F32 := fPart (vRated s m) (motFld s m 5 16 8 20) 1000
def tSearch (s : State) (m : Nat) : Nat := motFld s m 5 24 8 20 * 2 * msNs
/-- i_brake, i_dc, i_probe in A, t_brake_max in ns (R207, R209, R219). -/
def iBrake (s : State) (m : Nat) : F32 := fPart (iRated s m) (motFld s m 6 0 8 100) 100
def iDc (s : State) (m : Nat) : F32 := fPart (iRated s m) (motFld s m 6 8 8 50) 100
def tBrakeMax (s : State) (m : Nat) : Nat := motFld s m 6 16 8 30 * secNs
def iProbe (s : State) (m : Nat) : F32 := fPart (iRated s m) (motFld s m 6 24 8 20) 100
/-- v_min, v_brake, v_max, V (MOT_BUS). -/
def vMin (s : State) (m : Nat) : F32 := fOfNat (2 * fld (motPar s m 1) 0 10)
def vBrake (s : State) (m : Nat) : F32 := fOfNat (2 * fld (motPar s m 1) 10 10)
def vMax (s : State) (m : Nat) : F32 := fOfNat (2 * fld (motPar s m 1) 20 10)
/-- i_lim, A: applied at the next carrier extreme, whatever the state (R217). -/
def iLim (s : State) (m : Nat) : F32 := fPart (iRated s m) (regF s .motLimits m 0 11) 1000
/-- n_floor, t_tach, retries, t_retry (MOT_FAN). -/
def nFloor (s : State) (m : Nat) : F32 := fPart (nRated s m) (fld (motPar s m 2) 0 10) 1000
def tTach (s : State) (m : Nat) : Nat := fld (motPar s m 2) 10 8 * 100 * msNs
def fanRetries (s : State) (m : Nat) : Nat := fld (motPar s m 2) 18 4
def tRetry (s : State) (m : Nat) : Nat := fld (motPar s m 2) 22 10 * secNs
/-- t_flux, ns (R208). -/
def tFlux (s : State) (m : Nat) : Nat := match motOnly s m with | some o => o.tFlux * msNs | none => 0
/-- The temperature stalls of a port (R214). -/
def motTemps (s : State) (m : Nat) : List Nat := match motOnly s m with | some o => o.temps | none => []
/-- Basic t_end: the lower of 160 and the top of the narrowest range among the port's temperature stalls, °C (R219). -/
def basicTEnd (s : State) (m : Nat) : Nat := (motTemps s m).foldl (fun a i => min a (fToInt (tHi s i)).toNat) 160
/-- t_derate, t_end, t_trip in °C and d_floor in 0.01 (R214, R219). -/
def tDerate (s : State) (m : Nat) : Nat := motFld s m 7 0 8 (basicTEnd s m - 30)
def tEnd (s : State) (m : Nat) : Nat := motFld s m 7 8 8 (basicTEnd s m)
def tTrip (s : State) (m : Nat) : Nat := motFld s m 7 16 8 (basicTEnd s m - 5)
def dFloor (s : State) (m : Nat) : F32 := fRat (motFld s m 7 24 8 50) 100

/-! ## What serves a port -/

/-- The MOTOR_CTRL instance of a port; its item numbers are the port's taper, speed loop and NIGHTLIGHT_TABLE instance. -/
def motCtrl (s : State) (m : Nat) : Option (Nat × Inst) := instFor s .motorCtrl m
def motTaper (s : State) (m : Nat) : Option Nat := (motCtrl s m).bind (fun p => p.2.id? 0)
def motLoop (s : State) (m : Nat) : Option Nat := (motCtrl s m).bind (fun p => p.2.id? 1)
def motNightInst (s : State) (m : Nat) : Option Nat := (motCtrl s m).bind (fun p => p.2.id? 2)
/-- Source of a port's events. -/
def srcPort (m : Nat) : EvSrc := srcMot m

/-! ## Speeds (R201, R203) -/

/-- Speed from the port's wick, rev/min, when fb_mode uses it and the wick is not LOST (R201, R206). -/
def wickRpm (s : State) (m : Nat) : Option F32 :=
  if motFb s m < 2 then
    let x := wickOf s (32 + m)
    match x.st with
    | .lost => none
    | .disabled => none
    | _ => some (fDiv (fMul (fRat x.speed 256) (fOfNat 60)) (fOfNat (motTpr s m)))
  else none

/-- Speed from the source in use, rev/min, forward positive; 0 without a source (R198, R201, R203). -/
def useSpeed (s : State) (m : Nat) : F32 :=
  let x := motOf s m
  if x.fallback then x.obsSpeed
  else
    match wickRpm s m with
    | some n => n
    | none => if motFb s m = 2 ∧ x.obsValid = true then x.obsSpeed else 0#32

/-- A speed in the commanded direction: n > 0 turns the commanded way. -/
def inDir (x : Motor) (n : F32) : F32 := if x.dirRev then fNeg n else n

/-- obs_min as a speed, rev/min (R204). -/
def obsMinRpm (s : State) (m : Nat) : F32 := fPart (nRated s m) (match motOnly s m with | some o => o.obsMin | none => 5) 100

/-! ## Transitions -/

/-- The port leaves what it did and takes all gates low (R190, R212). -/
def Motor.quiet (x : Motor) (st : MotSt) : Motor :=
  { x with
    st := st, gates := false, intD := 0#32, intQ := 0#32, iqCmd := 0#32, nextIq := none, idCmd := 0#32, ud := 0#32, uq := 0#32,
    duty := [], dutyNext := [], rot := 0, lowVdc := none,
    search := none, probes := 0, repeated := false, repeatAt := none, brakeAt := none, lowSince := none, brakeSearch := false,
    zeroSince := none, settled := none, aligning := false, identMeas := false, obsBadSince := none, belowSince := none, aboveSince := none }

/-- The port latches a fault (R215): gates low, FAULT, counted, an event record; while another is latched only its seen flag is
set. A port that is not defined has no faults. -/
def motFault (s : State) (m : Nat) (f : MotFault) : State :=
  let x := motOf s m
  if x.st = .disabled then s
  else
    let s1 := stick s .motFault m (15 + f.code)
    let x' := x.quiet .fault
    let s2 :=
      if x.st = .fault then s1
      else setMot s1 m (if x.fault = .none then { x' with fault := f, faults := satInc 16 x.faults } else x')
    logEv s2 (srcMot m) .motorFault (16 * m + f.code)

/-- Place of a Hall code in the FWD order 1, 3, 2, 6, 4, 5; none for an invalid code (R497). -/
def hallPlace (c : Nat) : Option Nat :=
  match c with
  | 1 => some 0 | 3 => some 1 | 2 => some 2 | 6 => some 3 | 4 => some 4 | 5 => some 5 | _ => none

/-- Electrical angle of a HALL port (R201, R497): the sector of the code k from k × 60° to (k + 1) × 60°, interpolated from the latest code
change at the wick's speed in RUNNING, never beyond the sector; its centre otherwise. -/
def hallAngle (s : State) (m t : Nat) : Nat :=
  let x := wickOf s (32 + m)
  match hallPlace x.hallCode with
  | none => 0
  | some k =>
    let f := min (x.speed.natAbs * (t - x.edgeTime) * 65536 / (256 * secNs)) 65535
    let part := if x.st = .running then (if x.rev then 65535 - f else f) else 32768
    (k * 65536 + part) / 6 % 65536

/-- Electrical angle counted by the wick of an ENC port without its offset, 1/65,536 turn (R201). -/
def encAngle (s : State) (m : Nat) : Nat :=
  let tpr := motTpr s m
  if tpr = 0 then 0
  else (((wickOf s (32 + m)).count % (tpr : Int)).toNat * motPoles s m * 65536 / tpr) % 65536

/-- The observer's angle at t, extrapolated at its speed (R201, R204). -/
def obsAngleAt (s : State) (m t : Nat) : Nat :=
  let x := motOf s m
  let turns := fMul (fDiv (fMul x.obsSpeed (fOfNat (motPoles s m))) (fOfNat 60)) (fRat (t - x.obsAt : Nat) secNs)
  (((x.obsAngle : Int) + fToInt (fMul turns (fOfNat 65536))) % 65536).toNat

/-- The angle offset of a PM motor in ENC mode from an angle known at the present time (R202). -/
def setOffset (s : State) (m angle : Nat) : State :=
  let x := motOf s m
  setMot s m { x with offset := (angle + 65536 - encAngle s m) % 65536, offsetValid := true }

/-- R202: a LOST entry or a preset of the port's wick invalidates the angle offset. -/
def dropOffset (s : State) (w : Nat) : State :=
  if 32 ≤ w ∧ w < 48 ∧ (motOf s (w - 32)).offsetValid = true then
    let x := motOf s (w - 32)
    setMot s (w - 32) { x with offsetValid := false }
  else s

/-- States in which the port uses a speed and an angle, so that losing the wick matters (R203). -/
def motUses (x : Motor) : Bool := x.gates

/-- R203: the wick of an ENC or HALL port becomes LOST: the observer takes over, or the port latches FEEDBACK_LOST. -/
def motWickLost (s : State) (w : Nat) : State :=
  if 32 ≤ w ∧ w < 48 then
    let m := w - 32
    let x := motOf s m
    let s1 := dropOffset s w
    if x.st ≠ .disabled ∧ motFb s m < 2 then
      if regB s .motCfg m 10 ∧ x.obsValid = true then setMot s1 m { motOf s1 m with fallback := true }
      else motFault s1 m .feedbackLost
    else s1
  else s

/-- The position-mode ports of a wick lose their zero (R224). -/
def dropHomed (s : State) (w : Nat) : State :=
  forEach (upTo 16) s (fun s m =>
    if (instFor s .homing m).isSome ∧ regF s .gateCfg m 0 6 = w ∧ (gateOf s m).homed = true then
      setGate s m { gateOf s m with homed := false }
    else s)

/-- An edge record of a home switch reaches HOMING (R225, R227): transitions of the last 100 ms by their stamps, newest first. -/
def gateEdge (s : State) (i : Nat) (cls : DiClass) (stamp : Nat) : State :=
  forEach (upTo 16) s (fun s m =>
    if (instFor s .homing m).isSome ∧ regF s .gateCfg m 9 7 = i ∧ cls ≠ .brk then
      let g := gateOf s m
      let near := stamp :: g.edges.filter (fun e => decide (stamp < e + 100 * msNs))
      setGate s m { g with edges := near, chatter := g.chatter || decide (8 < near.length), homeSince := stamp }
    else s)

/-- R216: a condition of R28 fails. The current loop stops, integrators clear, gated; on a unit whose outputs were enabled the
port enters OFF, a STANDBY keeps the mirrored state. -/
def motGateOff (s : State) (m : Nat) : State :=
  let x := motOf s m
  if x.st = .disabled then s
  else
    let y := { x with gated := true, intD := 0#32, intQ := 0#32, ud := 0#32, uq := 0#32, duty := [], dutyNext := [] }
    let keep := s.pair.st == .standby || x.st == .fault || x.st == .off
    setMot s m (if keep then { y with gates := false } else { y.quiet .off with stalls := 0 })

/-- The conditions of R28 hold again: gated clears, and the dither register takes its seed at each output enable (R193, R216). -/
def motGateOn (s : State) (m : Nat) : State :=
  let x := motOf s m
  if x.st = .disabled then s else setMot s m { x with gated := false, lfsr := Nat.xor 0xACE1 m, delta := 0 }

end Sys2Proof.Machine
end

