-- ==== Sys2Proof/Machine/WickBase.lean ====
section
/-!
DEFINITION. What a wick is (R31 to R33, R44): kinds, presets of a count, and its views, without the lamplighter.
-/
namespace Sys2Proof.Machine

open Sys2Proof

/-- Source kind of a wick (R31, WCK_CFG). -/
def wickKind (s : State) (w : Nat) : WickKind :=
  match regF s .wckCfg w 0 4 with
  | 1 => .quad | 2 => .pulseDir | 3 => .pulse | 4 => .cnt | 5 => .enc | 6 => .hall | 7 => .mains | 8 => .computed
  | 9 => .subscribed | _ => .none

/-- Direction of a tick after the invert bit, true for REV; MAINS ignores invert (R31). -/
def wickDir (s : State) (w : Nat) (rev : Bool) : Bool :=
  if wickKind s w = .mains then false else rev != regB s .wckCfg w 4

/-- still_ms in force, ns (R39, R54). -/
def stillNs (s : State) (w : Nat) : Nat := fld (wickOf s w).timing 0 14 * msNs

/-- The 48-bit wrap of a count (R32). -/
def wrap48 (x : Int) : Int := wrapS 48 x

/-- Number of the 8 ns clock cycle that holds an instant (R14, R34). -/
def cycleOf (t : Nat) : Nat := t / 8

/-- The count before the ticks of the present clock cycle: what a tally latch in that cycle takes (R40). -/
def countBefore (s : State) (w : Nat) : Int :=
  match (wickOf s w).cyc with
  | some (c, n) => if c = cycleOf s.now then n else (wickOf s w).count
  | none => (wickOf s w).count

/-- The count steps by d; passing between +2^47 - 1 and -2^47 sets wrapped (R32). -/
def stepCount (s : State) (w : Nat) (d : Int) : State :=
  let x := wickOf s w
  let c := wrap48 (x.count + d)
  let s1 := setWick s w { x with count := c, cyc := some (cycleOf s.now, countBefore s w) }
  if c = x.count + d then s1 else stick s1 .wckStatus w 10

/-- A wick whose position is evaluated at the latches, from another wick's or a publisher's (R47, R49). -/
def wickEvaluated (s : State) (w : Nat) : Bool := wickKind s w == .computed || wickKind s w == .subscribed

/-- Replaces the count (R44): the fraction is 0 until the next tick. A COMPUTED wick sets its offset K and starts its remainder anew
(R47). DESIGN CHOICE (log entry 34): a SUBSCRIBED wick takes an offset too, so that its count stays replaced. preset_done, the angle
offset of R202, and an event record with both values: two 48-bit values, the old one first (R332). -/
def putCount (s : State) (w : Nat) (v : Int) : State :=
  let x := wickOf s w
  let v := wrap48 v
  let y := { x with count := v, presetHold := true }
  let x' := if wickEvaluated s w then
      { y with compK := x.compK + (v * 256 - x.compPos), compPos := v * 256, compRem := 0,
               compNum := if wickKind s w = .subscribed then v else x.compNum }
    else y
  logRaw (dropOffset (stick (setWick s w x') .wckStatus w 13) w) (srcWick w) .wickPreset (wrapN 48 x.count + wrapN 48 v * 2 ^ 48) 1

/-- The new count of a preset request (R44): absolute, or relative to the count of the release edge. -/
def presetValue (x : Wick) (r : PresetReq) : Int :=
  match r with
  | .abs v => v
  | .rel cE ho => x.count - cE + ho

/-- |v| × Δt in 1/256 tick, held to 255: the fraction of R32. -/
def wickFrac (x : Wick) (t : Nat) : Nat :=
  if x.st = .running ∧ x.presetHold = false then min 255 (x.speed.natAbs * (t - x.edgeTime) / secNs) else 0

/-- Position in Q47.8 at t (R32, R42, R47, R49); an evaluated position wraps with its 48-bit count. -/
def wickPos (s : State) (w : Nat) (t : Nat) : Int :=
  let x := wickOf s w
  match wickKind s w with
  | .computed => wrapS 56 x.compPos
  | .subscribed => if x.st = .lost ∨ x.presetHold = true then x.count * 256 else wrapS 56 x.compPos
  | _ => x.count * 256 + (if x.rev then -(wickFrac x t : Int) else (wickFrac x t : Int))

/-- What WCK_POS shows (R54): the fraction of R32 in bits 7:0 and the count above it. -/
def wickPosWord (s : State) (w : Nat) (t : Nat) : Int :=
  let x := wickOf s w
  if wickEvaluated s w then wickPos s w t else x.count * 256 + (wickFrac x t : Int)

/-- The integer count of an evaluated position: a REV position lies below its count by the fraction (R32). -/
def countOfPos (pos : Int) (rev : Bool) : Int := if rev then -Int.fdiv (-pos) 256 else Int.fdiv pos 256

/-- The count that a snapshot record of a local wick shows: a position in REV is the count less the fraction, but for a COMPUTED
wick, whose fraction is that of its position (R32, R47). -/
def snapCount (s : State) (w : Nat) (r : SnapRec) : Int := wrap48 (countOfPos r.pos (r.rev && wickKind s w != .computed))

/-- The position between two snapshots a (older) and b at a stamp: linear, exact, rounded toward minus infinity (R81). -/
def between (a b : SnapRec) (stamp : Nat) : Int :=
  if a.snapTime = b.snapTime then b.pos
  else a.pos + Int.fdiv ((b.pos - a.pos) * ((stamp : Int) - a.snapTime)) ((b.snapTime : Int) - a.snapTime)

/-- The two snapshots of a trail that bracket a stamp, newer first. -/
def bracket (l : List SnapRec) (stamp : Nat) : Option (SnapRec × SnapRec) :=
  match l with
  | b :: a :: t => if a.snapTime ≤ stamp ∧ stamp ≤ b.snapTime then some (b, a) else bracket (a :: t) stamp
  | _ => none

/-- Position of a wick at a stamp in Q47.8 and whether a bracketing snapshot shows it LOST, whose count is the held one (R42, R81).
Outside the kept snapshots the newest one stands. -/
def coordAt (s : State) (w stamp : Nat) : Int × Bool :=
  let x := wickOf s w
  match bracket x.trail stamp with
  | some (b, a) =>
    if a.st = .lost then (snapCount s w a * 256, true)
    else if b.st = .lost then (snapCount s w b * 256, true)
    else (between a b stamp, false)
  | none => (x.snap.pos, x.snap.st == .lost)

end Sys2Proof.Machine
end

