-- ==== Sys2Proof/Machine/Llt.lean ====
section
/-!
DEFINITION. The lamplighter (R55 to R75): arming, crossings, windows, execution on targets, loss, jumps and reports.
-/
namespace Sys2Proof.Machine

open Sys2Proof

/-- An action record from the eight words of the layout of R55. -/
def actOfWords (w : Nat → W32) : ActRec :=
  { key := signed 64 (join64 (w 0) (w 1)), keyTime := bit (w 2) 0, dir := fld (w 2) 1 2, rep := bit (w 2) 3,
    market := bit (w 2) 4, winStart := bit (w 2) 5, winEnd := bit (w 2) 6, rearm := bit (w 2) 7, wick := fld (w 2) 8 8,
    typ := fld (w 2) 16 8, target := fld (w 3) 0 16, hyst := fld (w 3) 16 16, value := join64 (w 4) (w 5),
    step := sfld (w 6) 0 32, cap := (w 7).toNat }

/-- Word i of an action record in the layout of R55. -/
def actWord (a : ActRec) (i : Nat) : W32 :=
  match i with
  | 0 => loI a.key
  | 1 => hiI a.key
  | 2 => putB 0 a.keyTime ||| put 1 2 a.dir ||| putB 3 a.rep ||| putB 4 a.market ||| putB 5 a.winStart ||| putB 6 a.winEnd |||
         putB 7 a.rearm ||| put 8 8 a.wick ||| put 16 8 a.typ
  | 3 => put 0 16 a.target ||| put 16 16 a.hyst
  | 4 => lo32 a.value
  | 5 => hi32 a.value
  | 6 => loI a.step
  | _ => lo32 a.cap

/-- Changes a slot. -/
def modSlot (s : State) (i : Nat) (f : Slot → Slot) : State := setSlot s i (f (slotOf s i))

/-- The range a slot lies in (R56). -/
def rangeOf (s : State) (i : Nat) : Option LampRange := s.hld.str.ranges.find? (fun r => decide (r.lo ≤ i) && decide (i ≤ r.hi))

/-- Slots of a requester's range: first and count (R56, LLT_HOST_RANGE). -/
def ownRange (s : State) (o : LampOwner) : Nat × Nat :=
  match o with
  | .host => (regF s .lltHostRange 0 0 14, regF s .lltHostRange 0 16 15)
  | o =>
    match s.hld.str.ranges.find? (fun r => r.owner == o) with
    | some r => (r.lo, r.hi + 1 - r.lo)
    | none => (0, 0)

/-- The slot lies in the requester's range. -/
def inRange (s : State) (o : LampOwner) (i : Nat) : Bool :=
  decide ((ownRange s o).1 ≤ i) && decide (i < (ownRange s o).1 + (ownRange s o).2)

/-- A basket takes one more message without dropping it (R64, R165). -/
def bskRoom (s : State) (b : Nat) : Bool :=
  let d := bdescOf s b
  decide (0 < d.depth) && (d.policy == .overwriteOldest ||
    decide ((bskOf s b).msgs.length - (bskOf s b).taken + (s.eng.arrivals.filter (fun p => p.basket == b)).length < d.depth))

/-- Posts a report or fire message; one that does not fit is dropped and counted (R64, R73). -/
def lltPost (s : State) (b : Nat) (m : Msg) : State × Bool :=
  if bskRoom s b then (arrive s (plain b m) true, true)
  else ({ s with llt := { s.llt with drops := satInc 16 s.llt.drops } }, false)

/-- The report message of a slot (R73). -/
def reportMsg (s : State) (i : Nat) (payload : Option Nat) (code : Nat) : Msg :=
  let x := slotOf s i
  match payload with
  | some p => .report p true (s.now % 2 ^ 48) x.st.code code
  | none => .report (wrapN 48 x.rec_.key + i % 65536 * 2 ^ 48) false (s.now % 2 ^ 48) x.st.code code

/-- Sends a report for a slot in a block's range to its report basket (R73). -/
def lltReport (s : State) (i : Nat) (payload : Option Nat) (code : Nat) : State :=
  match rangeOf s i with
  | some r =>
    match r.owner, r.report with
    | .inst _, some b => (lltPost s b (reportMsg s i payload code)).1
    | _, _ => s
  | none => s

/-- Marks a slot missed with its sticky bits (R67, R68). DESIGN CHOICE (log entry 35): of a window's two slots the one that was resolved
or jumped shows it. -/
def markMissed (s : State) (i : Nat) : State := stick (modSlot s i (fun x => { x with missed := true })) .lltStatus 0 5

/-- Marks a slot late (R65, R70). -/
def markLate (s : State) (i : Nat) : State := stick (modSlot s i (fun x => { x with late := true })) .lltStatus 0 2

/-- A window's start slot: the even one of its pair (R55). -/
def winBase (i : Nat) : Nat := i / 2 * 2

/-- A record of a window. -/
def isWindow (x : Slot) : Bool := x.rec_.winStart || x.rec_.winEnd

/-- The slots that change state with slot i: both slots of a window, else itself (R69). A slot whose other half has been armed anew on
its own is no window's any more. -/
def pairSlots (s : State) (i : Nat) : List Nat :=
  if (slotOf s (winBase i)).rec_.winStart && (slotOf s (winBase i + 1)).rec_.winEnd then [winBase i, winBase i + 1] else [i]

/-- A slot, and with it the other slot of its window, changes state. -/
def setSt (s : State) (i : Nat) (st : SlotSt) : State :=
  forEach (pairSlots s i) s (fun s j => modSlot s j (fun x => { x with st := st, capAt := if st = .open_ then x.capAt else none }))

/-- A message sent ahead to an aisle for slot i is withdrawn: the action is not executed (R58, R70). -/
def unsend (s : State) (i : Nat) : State :=
  if (slotOf s i).sent then
    let n := aisleOf (slotOf s i).rec_.target
    let a := aisOf s n
    modSlot (setAis s n { a with timed := a.timed.filter (fun d => d.slot != some i), toSend := a.toSend.filter (fun d => d.slot != some i) })
      i (fun x => { x with sent := false })
  else s

/-- Entry into HELD, MISSED, CAPPED or REFUSED: the event record, the sticky bits and the report (R69, R73). -/
def enterSt (s : State) (i : Nat) (st : SlotSt) : State :=
  let s1 := setSt s i st
  let s2 := match st with
    | .held => logEv s1 srcLlt .actionHeld i
    | .missed => markMissed (logEv s1 srcLlt .actionMissed i) i
    | .capped => stick (logEv s1 srcLlt .actionCapped i) .lltStatus 0 7
    | .refused => stick (logEv (unsend s1 i) srcLlt .actionRefused i) .lltStatus 0 4
    | _ => s1
  lltReport s2 i none 0

/-- Inhibition of R61: the count condition against the advanced key does not hold yet. -/
def inhibits (a : ActRec) (count : Int) : Bool :=
  if a.keyTime then false
  else
    match a.dir with
    | 0 => !decide (count ≤ a.key - a.hyst)
    | 1 => !decide (count ≥ a.key + a.hyst)
    | _ => !decide ((count - a.key).natAbs ≥ a.hyst)

/-- The key advanced by one step: ticks for a wick key, microseconds for a time key (R55, R61). -/
def advKey (a : ActRec) : ActRec :=
  if a.keyTime then { a with key := a.key + a.step * 1000 } else { a with key := wrap48 (a.key + a.step) }

/-- Advances the key of slot i and evaluates its inhibition (R61). -/
def advance (s : State) (i : Nat) : State :=
  modSlot s i (fun x =>
    let a := advKey x.rec_
    { x with rec_ := a, sent := false, inhibited := inhibits a (wickOf s a.wick).count })

/-- Advances both keys of a window; the inhibition applies to the start key (R62). DESIGN CHOICE (log entry 35): each record advances by
its own step, and repeat and on_miss are those of the start record. -/
def advanceWin (s : State) (i : Nat) : State :=
  let s1 := advance s (winBase i)
  modSlot s1 (winBase i + 1) (fun x => { x with rec_ := advKey x.rec_, inhibited := false })

/-- The output an action drives, for R66's conflict; none for report, basket and event actions. -/
def outputKey (a : ActRec) : Option Nat :=
  match a.typ with
  | 1 => some a.target
  | 8 => some a.target
  | 2 => some (1000 + a.target)
  | 3 => some (1000 + a.target)
  | 4 => some (2000 + a.target)
  | 5 => some (3000 + a.target)
  | _ => none

/-- Two actions on one output in one cycle are both marked conflict (R66). -/
def markConflict (s : State) (i : Nat) (a : ActRec) : State :=
  match outputKey a with
  | none => s
  | some k =>
    let s1 := { s with llt := { s.llt with drove := (k, (s.now, i)) :: s.llt.drove.filter (fun p => p.1 != k) } }
    match lookup s.llt.drove k with
    | some (t0, j) =>
      if t0 = s.now ∧ j ≠ i then
        stick (modSlot (modSlot s1 i (fun x => { x with conflict := true })) j (fun x => { x with conflict := true })) .lltStatus 0 3
      else s1
    | none => s1

/-- The last commanded level of a DO stall: an action still on its way to the aisle, else the commanded level (R63 TOGGLE_DO). -/
def lastLevel (s : State) (i : Nat) : Bool :=
  let a := aisOf s (aisleOf i)
  match (a.timed ++ a.toSend).reverse.find? (fun x => x.stall == i) with
  | some x => x.level
  | none => (stlOf s i).cmd

/-- Queues a timed action for the next downstream subframe (R18). -/
def sendTimed (s : State) (i : Nat) (lvl : Bool) (at_ slot : Nat) : State :=
  let n := aisleOf i
  let a := aisOf s n
  setAis s n { a with toSend := a.toSend ++ [{ stall := i, level := lvl, at_ := at_, slot := some slot }] }

/-- An action on a DO stall: stamped with its instant, or 40 microseconds and d_sl after T for a wick key (R65). `sent`: its message
went ahead (R18). The second part is R64's tgt_fault. -/
def actDo (s : State) (i slot : Nat) (lvl : Bool) (timeKey sent : Bool) (key T : Nat) : State × Bool :=
  let a := aisOf s (aisleOf i)
  let ok := driving s && a.st == .linked && !a.localOsc && !a.lostUp
  if !ok then (s, true)
  else if sent then (s, false)
  else (sendTimed s i lvl (if timeKey then key else T + 40000 + slewNs s i) slot, false)

/-- Slots whose wick key is jumped by a preset from p to p' (R68). -/
def jumped (a : ActRec) (w : Nat) (p p' : Int) : Bool :=
  !a.keyTime && decide (a.wick = w) &&
  (if p < p' then decide (p < a.key) && decide (a.key ≤ p') && a.dir != 1
   else decide (p' ≤ a.key) && decide (a.key < p) && a.dir != 0)

/-- The instant at which the dispatcher issues an action at the present time, one every 8 ns (R66). -/
def issueAt (s : State) : Nat := max s.now s.llt.busy

/-- An action whose target is an aisle DO: late by R18 alone (R66). -/
def isDoAct (a : ActRec) : Bool := a.typ == 1 || a.typ == 8

/-- The wait at the dispatcher carries an action beyond its bound of 100 ns from `base` (R65, R66). -/
def waitLate (s : State) (a : ActRec) (base : Nat) : Bool := !isDoAct a && decide (base + 100 < issueAt s)

/-- R64: the target could not act. -/
def markFault (s : State) (i : Nat) : State :=
  logEv (stick (modSlot s i (fun x => { x with tgtFault := true })) .lltStatus 0 6) srcLlt .actionTgtFault i

mutual

/-- Executes the action of slot i on its target (R63 to R66); T is its key instant, `base` the instant its bound runs from; `fuel` bounds
the chain of windows that presets end. -/
def execAct (fuel : Nat) (s : State) (i T base : Nat) : State :=
  match fuel with
  | 0 => s
  | fuel + 1 =>
    let x := slotOf s i
    let a := x.rec_
    let at_ := issueAt s
    let s0 := modSlot { s with llt := { s.llt with exec := s.llt.exec + 1, busy := at_ + 8 } } i (fun x => { x with execs := satInc 16 x.execs })
    let s1 := markConflict (if waitLate s a base then markLate s0 i else s0) i a
    let payload : Option Nat := if a.typ = 6 then some (a.value % 2 ^ 64) else none
    let r : State × Bool :=
      match a.typ with
      | 1 => actDo s1 a.target i (a.value.testBit 0) a.keyTime x.sent a.key.toNat T
      | 2 => solTakeStart s1 a.target (a.value % 2 ^ 32) at_
      | 3 => if driving s1 then (solTakeEnd s1 a.target at_, false) else (s1, true)
      | 4 => if driving s1 && (motOf s1 a.target).st == .run then (setMot s1 a.target { motOf s1 a.target with iqCmd := lo32 a.value }, false) else (s1, true)
      | 5 => (presetAct fuel s1 a.target (signed 48 a.value), false)
      | 6 =>
        let p := lltPost s1 a.target (reportMsg s1 i payload 0)
        (p.1, !p.2)
      | 7 => (logRaw s1 srcLlt .actionEvent (a.value % 2 ^ 32), false)
      | 8 => actDo s1 a.target i (!lastLevel s1 a.target) a.keyTime x.sent a.key.toNat T
      | _ => (s1, false)
    let s2 := if r.2 then markFault r.1 i else r.1
    lltReport s2 i payload 0

/-- A preset of a wick: the count is replaced and keys are jumped at once (R44, R68). -/
def presetAct (fuel : Nat) (s : State) (w : Nat) (v : Int) : State :=
  match fuel with
  | 0 => s
  | fuel + 1 =>
    let p := (wickOf s w).count
    let p' := wrap48 v
    let s1 := putCount s w v
    if !lltLive s1 then s1 else
    forEach (s1.llt.slots.map (·.1)) s1 (fun s i => jumpSlot fuel s i w p p')

/-- What a jump does to one slot (R68). -/
def jumpSlot (fuel : Nat) (s : State) (i w : Nat) (p p' : Int) : State :=
  match fuel with
  | 0 => s
  | fuel + 1 =>
    let x := slotOf s i
    let a := x.rec_
    let live := x.st = .armed ∨ x.st = .held
    if a.winEnd then
      if x.st = .open_ ∧ jumped a w p p' = true then execAct fuel (enterSt s i .missed) i s.now s.now else s
    else if a.winStart then
      if live ∧ x.inhibited = false ∧ jumped a w p p' = true then enterSt s i .missed
      else if x.inhibited = true ∧ a.wick = w ∧ a.keyTime = false then
        modSlot s i (fun x => { x with inhibited := inhibits x.rec_ (wickOf s w).count })
      else s
    else if live ∧ a.keyTime = false ∧ a.wick = w then
      if x.inhibited then modSlot s i (fun x => { x with inhibited := inhibits x.rec_ (wickOf s w).count })
      else if jumped a w p p' then
        if a.rep then markMissed (advance s i) i else enterSt s i .missed
      else s
    else s

end

/-- Fuel of an execution: more than the windows and presets that can follow one another. -/
def lltFuel : Nat := 65536

/-- Executes the action of a slot whose key instant is T; a lamplighter that is not live executes nothing (R73, R360). -/
def runActAt (s : State) (i T base : Nat) : State := if lltLive s then execAct lltFuel s i T base else s

/-- Executes the action of a slot at the present time. -/
def runAct (s : State) (i : Nat) : State := runActAt s i s.now s.now

/-- Applies a preset at the present time with its jumps (R44, R68). -/
def applyPreset (s : State) (w : Nat) (v : Int) : State := presetAct lltFuel s w v

/-- The end of a window, T its instant: CAPPED, ENDED, MISSED or DISARMED after its end action, REPEAT windows re-arm (R62, R67). -/
def endWindow (s : State) (i : Nat) (st : SlotSt) (T : Nat) : State :=
  let b := winBase i
  let x := slotOf s b
  let lost := decide ((wickOf s x.rec_.wick).st = .lost)
  let s1 := match st with
    | .capped => enterSt s b .capped
    | .missed => enterSt s b .missed
    | st => setSt s b st
  let s2 := runActAt s1 (b + 1) T s.now
  if x.rec_.rep ∧ (st = .ended ∨ st = .capped) then
    let s3 := advanceWin s2 b
    if lost then enterSt s3 b .held else setSt s3 b .armed
  else s2

/-- A slot as a tick of its wick stamped T finds it: crossing or re-enabling (R59, R61, R62). -/
def tickSlot (s : State) (i w : Nat) (rev : Bool) (T : Nat) : State :=
  let x := slotOf s i
  let a := x.rec_
  let c := (wickOf s w).count
  if a.keyTime ∨ a.wick ≠ w then s
  else
    let dirOk := (a.dir == 2) || (if rev then a.dir == 1 else a.dir == 0)
    if x.st = .armed ∧ a.winEnd = false then
      if x.inhibited then modSlot s i (fun y => { y with inhibited := inhibits a c })
      else if c = a.key ∧ dirOk = true then
        if a.winStart then
          let s1 := setSt s i .open_
          runActAt (modSlot s1 i (fun y => { y with capAt := some (s.now + a.cap * msNs) })) i T s.now
        else if a.rep then advance (runActAt s i T s.now) i
        else runActAt (setSt s i .fired) i T s.now
      else s
    else if x.st = .open_ ∧ a.winEnd = true ∧ c = a.key ∧ dirOk = true then endWindow s i .ended T
    else s

/-- A tick of wick w stamped T, already counted, as the dispatcher sees it: slots in ascending order (R59, R66). -/
def lltTick (s : State) (w : Nat) (rev : Bool) (T : Nat) : State :=
  if !lltLive s then s else
  forEach (s.llt.slots.map (·.1)) s (fun s i => tickSlot s i w rev T)

/-- The wick becomes LOST: ARMED actions on it become HELD (R67). -/
def lltLost (s : State) (w : Nat) : State :=
  if !lltLive s then s else
  forEach (s.llt.slots.map (·.1)) s (fun s i =>
    let x := slotOf s i
    if x.st = .armed ∧ x.rec_.keyTime = false ∧ x.rec_.wick = w ∧ x.rec_.winEnd = false then enterSt s i .held else s)

/-- The wick leaves LOST: HELD actions and OPEN windows are resolved by on_miss (R67). -/
def lltRecover (s : State) (w : Nat) : State :=
  if !lltLive s then s else
  forEach (s.llt.slots.map (·.1)) s (fun s i =>
    let x := slotOf s i
    if x.rec_.keyTime = false ∧ x.rec_.wick = w ∧ x.rec_.winEnd = false then
      match x.st with
      | .held => if x.rec_.rearm then markMissed (setSt s i .armed) i else enterSt s i .missed
      | .open_ => if x.rec_.rearm then markMissed s i else endWindow s i .missed s.now
      | _ => s
    else s)

/-! ## Time actions (R60, R65, R70, R71) -/

/-- A time action whose key is reached, or passed, at the present time (R60, R61, R70). `forced`: it is late whatever the
instant (a step of market time, or armed after its instant). -/
def dueSlot (s : State) (i : Nat) (forced : Bool) : State :=
  let x := slotOf s i
  let a := x.rec_
  if lltLive s = true ∧ x.st = .armed ∧ a.keyTime = true ∧ a.key ≤ (s.now : Int) then
    let late := forced || waitLate s a a.key.toNat
    let doLate := isDoAct a && !x.sent
    if a.market && (s.mkt.unsynced || late || doLate) then
      let s1 := enterSt s i .refused
      if late || doLate then markLate s1 i else s1
    else
      let s1 := if late then markLate s i else s
      if a.rep then advance (runActAt s1 i a.key.toNat s.now) i else runActAt (setSt s1 i .fired) i a.key.toNat s.now
  else s

/-- Puts a slot with its instant before the later ones; equal instants keep the order of the slots. -/
def insertDue (p : Nat × Int) (l : List (Nat × Int)) : List (Nat × Int) :=
  match l with
  | [] => [p]
  | q :: t => if p.2 ≤ q.2 then p :: q :: t else q :: insertDue p t

/-- The time actions that come before slot i when its action is due: of an earlier instant, or of the same one in a lower slot
(R66). -/
def dueBefore (s : State) (i : Nat) : List Nat :=
  let k := (slotOf s i).rec_.key
  let l := s.llt.slots.filter (fun p => p.2.st == .armed && p.2.rec_.keyTime && (decide (p.2.rec_.key < k) || (p.2.rec_.key == k && decide (p.1 < i))))
  (l.foldr (fun p m => insertDue (p.1, p.2.rec_.key) m) []).map (·.1)

/-- TIME_ACTION_DUE (R60, R61, R66, R70): what is due before it goes first. -/
def execTimeActionDue (slot : Fin 16384) (t : Ns) (s : State) : Out :=
  let s := setNow s t
  let x := slotOf s slot
  .next (if x.st = .armed ∧ x.rec_.keyTime = true ∧ x.rec_.key ≤ (s.now : Int) then
      dueSlot (forEach (dueBefore s slot) s (fun s i => dueSlot s i false)) slot false
    else s)

/-- WINDOW_CAP_EXPIRY (R62, R67). -/
def execWindowCapExpiry (slot : Fin 16384) (t : Ns) (s : State) : Out :=
  let s := setNow s t
  let b := winBase slot
  let x := slotOf s b
  match x.capAt with
  | some c => .next (if lltLive s = true ∧ x.st = .open_ ∧ c ≤ t then endWindow s b .capped s.now else s)
  | none => .next s

/-- A step of market time forward past the key (R71). -/
def lltStep (s : State) : State := forEach (s.llt.slots.map (·.1)) s (fun s i => dueSlot s i true)

/-! ## Arming (R56 to R58) -/

/-- States that a request may arm over (R58). -/
def armable (st : SlotSt) : Bool := !(st == .armed || st == .held || st == .open_)

/-- The target exists in the stream for the action type (R58, R63). -/
def targetOk (s : State) (a : ActRec) : Bool :=
  match a.typ with
  | 0 => true
  | 1 => decide (a.target < 128) && isDo s a.target
  | 2 => decide (a.target < 32) && regB s .solCfg a.target 0
  | 3 => decide (a.target < 32) && regB s .solCfg a.target 0
  | 4 => decide (a.target < 16) && regB s .motCfg a.target 0
  | 5 => (decide (a.target < 32) || (decide (52 ≤ a.target) && decide (a.target < 64))) && wickKind s a.target != .none
  | 6 => decide (0 < (bdescOf s a.target).depth)
  | 7 => true
  | 8 => decide (a.target < 128) && isDo s a.target
  | _ => false

/-- A wick key is a count of 48 bits, its wick exists, its dir is not the rejected code (R55, R58). -/
def keyOk (s : State) (a : ActRec) : Bool :=
  if a.keyTime then !(a.rep && decide (a.step < 1))
  else decide (a.wick < 64) && wickKind s a.wick != .none && a.dir != 3 && decide (wrap48 a.key = a.key)

/-- A window's two records (R55): same wick, same dir FWD or REV, the end key beyond the start key, a cap in range. -/
def windowOk (s : State) (a b : ActRec) : Bool :=
  keyOk s a && keyOk s b && !a.keyTime && !b.keyTime && a.winStart && !a.winEnd && b.winEnd && !b.winStart &&
  decide (a.wick = b.wick) && decide (a.dir = b.dir) && decide (a.dir < 2) &&
  (if a.dir = 0 then decide (a.key < b.key) else decide (b.key < a.key)) && decide (1 ≤ a.cap) && decide (a.cap ≤ 3600000)

/-- The lowest FREE slot, or FREE even slot with a FREE successor, of a range (R56). -/
def allocSlot (s : State) (o : LampOwner) (win : Bool) : Option Nat :=
  let r := ownRange s o
  (List.range r.2).find? (fun k =>
    let i := r.1 + k
    if win then i % 2 == 0 && decide (k + 1 < r.2) && (slotOf s i).st == .free && (slotOf s (i + 1)).st == .free
    else (slotOf s i).st == .free) |>.map (r.1 + ·)

/-- An armed record with its counters and sticky bits restarted (R69, R75). -/
def Slot.armed (a : ActRec) (t : Nat) : Slot := { Slot.free with rec_ := a, st := .armed, armedAt := t }

/-- Codes 5 to 9 of R58 for the records of an arm request; 0 when they pass. DESIGN CHOICE (log entry 35): a window's record without a
window request, and the rejected dir code 3, are BAD_KEY. -/
def armCause (s : State) (r : ArmReq) : Nat :=
  let recs := match r.second with | some b => [r.first, b] | none => [r.first]
  let shape := match r.second with
    | some b => windowOk s r.first b
    | none => keyOk s r.first && !isWindow { Slot.free with rec_ := r.first }
  if !shape then 5
  else if !(recs.all (targetOk s)) then 6
  else if recs.any (fun a => a.market && a.keyTime) && s.mkt.unsynced then 7
  else if recs.any (fun a => a.market && a.keyTime) && s.mkt.member == .outside then 9
  else 0

/-- The slot an arm request uses: (slot, code) with code 2, 3 or 4 when it cannot (R58). -/
def armPlace (s : State) (r : ArmReq) : Nat × Nat :=
  let win := r.second.isSome
  if r.alloc then
    match allocSlot s r.owner win with
    | some i => (i, 0)
    | none => (r.slot, 2)
  else if !inRange s r.owner r.slot || (win && (r.slot % 2 == 1 || !inRange s r.owner (r.slot + 1))) then (r.slot, 4)
  else if !armable (slotOf s r.slot).st || (win && !armable (slotOf s (r.slot + 1)).st) then (r.slot, 3)
  else (r.slot, 0)

/-- Writes an accepted arm request into its slots; a local time action whose instant has passed executes at once, late (R65), and an action on a LOST wick is HELD (R69). -/
def armInto (s : State) (r : ArmReq) (i : Nat) : State :=
  let s1 := setSlot s i (Slot.armed r.first s.now)
  let s2 := match r.second with
    | some b => setSlot s1 (i + 1) (Slot.armed b s.now)
    | none => s1
  if r.first.keyTime ∧ r.first.key < (s.now : Int) then dueSlot s2 i true
  else if r.first.keyTime = false ∧ (wickOf s r.first.wick).st = .lost then enterSt s2 i .held
  else s2

/-- Applies one request: the new state, the result code and the slot (R57, R58). DESIGN CHOICE (log entry 35): where several causes of
refusal hold, the slot's (2, 3, 4) goes before 5, then 6, 7 and 9. -/
def applyReq (s : State) (r : ArmReq) : State × (Nat × Nat) :=
  match r.op with
  | .arm =>
    let p := armPlace s r
    if p.2 ≠ 0 then (s, (p.2, p.1))
    else
      let c := armCause s r
      if c ≠ 0 then (s, (c, p.1)) else (armInto s r p.1, (0, p.1))
  | .disarm =>
    if r.alloc || !inRange s r.owner r.slot then (s, (4, r.slot))
    else
      match (slotOf s r.slot).st with
      | .armed => (setSt (unsend s r.slot) r.slot .disarmed, (0, r.slot))
      | .held => (setSt s r.slot .disarmed, (0, r.slot))
      | .open_ => (endWindow s r.slot .disarmed s.now, (0, r.slot))
      | _ => (s, (0, r.slot))
  | .free =>
    if r.alloc || !inRange s r.owner r.slot then (s, (4, r.slot))
    else if armable (slotOf s r.slot).st then
      (forEach (pairSlots s r.slot) s (fun s j => setSlot s j Slot.free), (0, r.slot))
    else (s, (3, r.slot))

/-- Returns a result to its requester: LLT_RESULT for the host, a report for a block; refusals are counted (R58, R73, R75). DESIGN CHOICE
(log entry 35): a refused arm's report shows the key the slot holds, and with alloc the slot field of the request. -/
def lltResult (s : State) (o : LampOwner) (code slot : Nat) : State :=
  let s1 := if code = 0 then s else { s with llt := { s.llt with refused := satInc 16 s.llt.refused } }
  let s2 := if code = 2 then stick s1 .lltStatus 0 0 else if code = 8 then stick s1 .lltStatus 0 1 else s1
  match o with
  | .host => { s2 with llt := { s2.llt with result := code, resultSlot := slot } }
  | .inst n =>
    match s.hld.str.ranges.find? (fun r => r.owner == .inst n) with
    | some r =>
      match r.report with
      | some b => (lltPost s2 b (reportMsg s2 slot none code)).1
      | none => s2
    | none => s2
  | .static => s2

/-- Frame in which something happens at the present time (R22, R24). -/
def frameNow (s : State) : Nat := max s.frame (frameOf s.now)

/-- The static actions as arm requests of the stream (R56, R57): a window's end record goes with its start record. -/
def staticReqs (s : State) : List ArmReq :=
  (s.hld.str.statics.filter (fun p => !p.2.winEnd)).map (fun p =>
    { op := .arm, owner := .static, slot := p.1, alloc := false, first := p.2,
      second := if p.2.winStart then lookup s.hld.str.statics (p.1 + 1) else none, frame := 0 })

/-- Applies one request and returns its result. -/
def takeReq (s : State) (r : ArmReq) : State := let a := applyReq s r; lltResult a.1 r.owner a.2.1 a.2.2

/-- Applies the requests of the frames before at t1: static actions first, in a frame after the enable frame, then at most 1,024 in
order of arrival (R57). -/
def applyReqs (s : State) : State :=
  let f := frameNow s
  let due := s.llt.reqs.filter (fun r => decide (r.frame < f))
  let stat := match s.llt.staticDue with | some e => decide (e < f) | none => false
  let s0 := { s with llt := { s.llt with reqs := s.llt.reqs.filter (fun r => !decide (r.frame < f)),
                                         staticDue := if stat then none else s.llt.staticDue } }
  let s1 := if stat then (staticReqs s0).foldl takeReq s0 else s0
  let s2 := (due.take 1024).foldl takeReq s1
  (due.drop 1024).foldl (fun s r => lltResult s r.owner 8 r.slot) s2

/-- ARM_REQUESTS_APPLY (R57). -/
def execArmRequestsApply (t : Ns) (s : State) : Out := .next (applyReqs (setNow s t))

/-- A host request by LLT_CMD: staged as PENDING, or ACCESS_BUSY while one is pending (R58, R75). -/
def lltHost (s : State) (op : ArmOp) (slot : Nat) (alloc window : Bool) : State × Acc :=
  if s.llt.result = 1 then (s, .busy)
  else
    let first := actOfWords (fun i => regW s .lltStage i)
    let second := if window then some (actOfWords (fun i => regW s .lltStageEnd i)) else none
    let r : ArmReq := { op := op, owner := .host, slot := slot, alloc := alloc, first := first,
                        second := if op = .arm then second else none, frame := frameNow s }
    ({ s with llt := { s.llt with reqs := s.llt.reqs ++ [r], result := 1, resultSlot := slot } }, .ok)

/-- LLT_ARM (R58). -/
def execLltArm (slot : Fin 16384) (alloc window : Bool) (s : State) : Out :=
  let r := lltHost s .arm slot alloc window
  .next (report r.1 hostReq (regAddr .lltCmd 0) r.2)

/-- LLT_DISARM (R58). -/
def execLltDisarm (slot : Fin 16384) (alloc window : Bool) (s : State) : Out :=
  let r := lltHost s .disarm slot alloc window
  .next (report r.1 hostReq (regAddr .lltCmd 0) r.2)

/-- LLT_FREE (R58). -/
def execLltFree (slot : Fin 16384) (alloc window : Bool) (s : State) : Out :=
  let r := lltHost s .free slot alloc window
  .next (report r.1 hostReq (regAddr .lltCmd 0) r.2)

/-- Time actions on a DO stall of aisle n that the lamplighter sends by the subframe decoded at t (R18): DO_SET and TOGGLE_DO, two
subframes and d_sl ahead, or by the next subframe when they were armed too late for that. A market action goes only if it reaches the
aisle d_sl before its instant (R70). -/
def lltSendAhead (s : State) (n t : Nat) : State :=
  if !lltLive s then s else
  forEach (s.llt.slots.map (·.1)) s (fun s i =>
    let x := slotOf s i
    let a := x.rec_
    let d := slewNs s a.target
    if x.st = .armed ∧ a.keyTime = true ∧ isDoAct a = true ∧ aisleOf a.target = n ∧ x.sent = false ∧
       a.key ≤ ((t + 3 * subframeNs + d : Nat) : Int) ∧ (a.market = false ∨ ((t + d : Nat) : Int) ≤ a.key) then
      let ai := aisOf s n
      let lvl := if a.typ = 1 then a.value.testBit 0 else !lastLevel s a.target
      modSlot (setAis s n { ai with toSend := ai.toSend ++ [{ stall := a.target, level := lvl, at_ := a.key.toNat, slot := some i }] })
        i (fun y => { y with sent := true })
    else s)

end Sys2Proof.Machine
end

