-- ==== Sys2Proof/Machine/WaxRec.lean ====
section
/-!
DEFINITION. What the wax stores, byte by byte (R443, R444, R446, R449, R451): items and frame records, segments, summaries, the header
of a frozen image.
-/
namespace Sys2Proof

/-- Bytes of a MOIST_PROC's constants in the wax: the format stands in a data file that is not given (R444, log entry 7). -/
opaque Config.constBytes : Machine.MoistConst → Nat
/-- The parts of a summary whose layout the table does not give (R449): its first 64 bytes, and the 128 bytes of rows, aisles and rails
(log entry 7). -/
opaque Config.sumHead : Machine.Summary → BitVec 512
opaque Config.sumRows : Machine.Summary → BitVec 1024
/-- SHA-256 of what follows the header of a frozen image: the layout of keyframes is not given (R451, log entry 7). -/
opaque Config.imageDigest : List Machine.StreamImg → Machine.Keyframe → List Machine.Segment → BitVec 256
/-- The CRC-32 over a segment, whose items have payloads without a given layout (R444, R446, log entry 7). -/
opaque Config.segCrc : List Machine.FrameRec → W32

end Sys2Proof

namespace Sys2Proof.Machine

open Sys2Proof

/-- Type of an item (R444). -/
def WaxItem.typ (i : WaxItem) : Nat :=
  match i with
  | .stall _ _ => 1 | .lost _ _ => 1 | .set _ => 2 | .snap _ full _ => if full then 4 else 3 | .fb _ _ => 5 | .sol _ _ _ _ _ => 6
  | .msg _ _ => 7 | .report _ => 8 | .write _ _ => 9 | .abort _ _ _ => 10 | .patch _ _ => 11 | .step _ _ => 12 | .const _ _ => 13
  | .temp _ _ => 13 | .maps _ _ _ => 14

/-- Stall of an upstream record. -/
def UpRec.stall (r : UpRec) : Nat := match r with | .sample i _ _ _ _ _ => i | .edge i _ _ _ => i | .cnt i _ _ _ => i

/-- Source index of an item (R444); 0 where the item names no single source. -/
def WaxItem.src (i : WaxItem) : Nat :=
  match i with
  | .stall _ r => r.stall | .lost _ r => r.stall | .set r => r.channel | .snap w _ _ => w | .fb m _ => m | .sol v _ _ _ _ => v
  | .abort e _ _ => e | .temp k _ => k | .maps n _ _ => n
  | .msg _ _ => 0 | .report _ => 0 | .write _ _ => 0 | .patch _ _ => 0 | .step _ _ => 0 | .const _ _ => 0

/-- Payload bytes of an item (R444). -/
def WaxItem.payload (i : WaxItem) : Nat :=
  match i with
  | .stall _ _ => 16 | .lost _ _ => 16 | .set _ => 96 | .snap _ full _ => if full then 32 else 16 | .fb _ _ => 32 | .sol _ _ _ _ _ => 24
  | .msg w _ => 4 + w | .report _ => 16 | .write _ _ => 8 | .abort _ _ _ => 8 | .patch _ _ => 12 | .step _ _ => 16
  | .const _ x => 8 + Config.constBytes x | .temp _ _ => 12 | .maps _ _ _ => 16

/-- The 4-byte header of an item (R444). -/
def WaxItem.head (i : WaxItem) : List Byte := bytesLE 1 i.typ ++ bytesLE 1 i.src ++ bytesLE 2 i.payload

/-- Bytes of an item with its header, aligned to 4 (R443, R444). -/
def WaxItem.size (i : WaxItem) : Nat := 4 + (i.payload + 3) / 4 * 4

/-- The previous snapshot with snap_time advanced by 125 µs and seq by 1 (R443). -/
def SnapRec.next (r : SnapRec) : SnapRec := { r with snapTime := r.snapTime + frameNs, seq := (r.seq + 1) % 65536 }

/-- The change between two snapshots fits a delta (R444): the position in 32 bits signed, edge_time in 32 bits, the rest as it follows
from the previous one. -/
def SnapRec.fits (old new : SnapRec) : Bool :=
  decide (-2147483648 ≤ new.pos - old.pos) && decide (new.pos - old.pos < 2147483648) && decide (old.edgeTime ≤ new.edgeTime) &&
  decide (new.edgeTime < old.edgeTime + 4294967296) && new.snapTime == old.next.snapTime && new.seq == old.next.seq && new.wick == old.wick

/-- Bytes of a record (R443). -/
def FrameRec.bytes (r : FrameRec) : Nat := 32 + (r.items.map WaxItem.size).sum

/-- A wick has a snapshot item in the record (R443). -/
def FrameRec.hasSnap (r : FrameRec) (w : Nat) : Bool := r.items.any (fun i => match i with | .snap v _ _ => v == w | _ => false)

/-- The record carries a step of market time (R443, R449). -/
def FrameRec.stepped (r : FrameRec) : Bool := r.items.any (fun i => i.typ == 12)

/-- flags of a record (R443). -/
def FrameRec.flags (r : FrameRec) : Nat :=
  let b (x : Bool) (k : Nat) : Nat := if x then 2 ^ k else 0
  b (r.items.any (fun i => i.typ == 10)) 0 + b (r.items.any (fun i => i.typ == 11)) 1 + b r.stepped 2 + b r.unsynced 3 + b r.afterGap 4

/-- The 32-byte header of a record, little-endian (R443). -/
def FrameRec.head (r : FrameRec) : List Byte :=
  bytesLE 8 r.frame ++ bytesLE 4 r.bytes ++ bytesLE 2 r.items.length ++ bytesLE 1 r.flags ++ bytesLE 1 0 ++
  bytesLE 8 (((upTo 64).filter r.hasSnap).map (2 ^ ·)).sum ++ bytesLE 4 r.outDigest.toNat ++ bytesLE 4 0

/-- The entries of n items, each of its bytes or zeros. -/
def sumTable {β : Type} (n width : Nat) (l : List (Nat × β)) (f : β → List Byte) : List Byte :=
  (upTo n).flatMap (fun k => match lookup l k with | some x => f x | none => List.replicate width 0#8)

/-- A summary without its CRC (R449). -/
def Summary.body (x : Summary) : List Byte :=
  let w (v : F32) := bytesLE 4 v.toNat
  bytesLE 64 (Config.sumHead x).toNat ++
  sumTable 128 16 x.stalls (fun y => w y.min ++ w y.max ++ w y.mean ++ bytesLE 1 y.worst.code ++ bytesLE 1 y.flags.toNat ++ bytesLE 2 y.samples) ++
  sumTable 64 24 x.wicks (fun y => bytesLE 8 (wrapN 64 y.first) ++ bytesLE 8 (wrapN 64 y.last) ++ w (fRat y.speed 256) ++ bytesLE 1 y.states ++
    bytesLE 1 (sat 8 y.losses) ++ bytesLE 2 0) ++
  sumTable 16 32 x.motors (fun y => w y.speed ++ w y.iq ++ w y.vdc ++ w y.pEl ++ bytesLE 2 y.iPeak ++ bytesLE 4 y.states ++ bytesLE 1 y.fault ++
    bytesLE 9 0) ++
  sumTable 32 16 x.chans (fun y => w y.m ++ w y.tg ++ w y.rho ++ bytesLE 1 y.worst.code ++ bytesLE 1 0 ++ bytesLE 2 y.sets) ++
  sumTable 32 8 x.sols (fun y => w (fRat y.u 1000000) ++ bytesLE 1 y.states ++ bytesLE 1 y.fault ++ bytesLE 2 0) ++
  sumTable 16 8 x.txs (fun y => w y.1 ++ w y.2) ++ bytesLE 128 (Config.sumRows x).toNat ++
  sumTable 1024 8 ((upTo x.selected.length).zip x.selected) (fun y => w y.1 ++ w y.2) ++ List.replicate 3004 0#8

/-- The 16,384 bytes of a summary (R449). -/
def Summary.image (x : Summary) : List Byte := x.body ++ bytesLE 4 (crc32 x.body).toNat

/-- What the 64-byte header of a segment gives (R446): second, first frame, byte length, CRC-32. -/
def Segment.head (g : Segment) : Nat × Nat × Nat × W32 :=
  (g.second, match g.recs.getLast? with | some r => r.frame | none => 0, g.bytes, Config.segCrc g.recs)

/-- Bytes of the stream images (R451). -/
def Frozen.streamBytes (f : Frozen) : Nat := (f.streams.map (·.length)).sum

/-- Bytes of a frozen image (R451): header, stream images, keyframe, 16 bytes a segment, the segments with their 64-byte headers. -/
def Frozen.bytes (f : Frozen) : Nat :=
  256 + f.streamBytes + Config.keyframeBytes f.key.frame + (f.segs.map (fun g => 16 + 64 + g.bytes)).sum

/-- flags of a frozen image (R451). -/
def Frozen.flags (f : Frozen) : Nat :=
  let b (x : Bool) (k : Nat) : Nat := if x then 2 ^ k else 0
  let recs := f.segs.flatMap (·.recs)
  b (recs.any (·.stepped)) 0 + b (recs.any (·.unsynced)) 1 + b (f.segs.any (·.damaged)) 2 + b f.imported 3

/-- Bytes 0 to 159 of a frozen image's header: what its signature covers (R451). -/
def Frozen.signed (f : Frozen) : List Byte :=
  let kf := 256 + f.streamBytes
  let size := Config.keyframeBytes f.key.frame
  bytesLE 4 0x58415746 ++ bytesLE 2 1 ++ bytesLE 2 f.stepping ++ bytesLE 8 f.device ++ bytesLE 2 f.market ++ bytesLE 2 0 ++
  bytesLE 4 f.firmware ++ bytesLE 4 f.lib ++ bytesLE 4 0 ++ bytesLE 32 f.hash ++ bytesLE 8 f.first ++ bytesLE 8 f.last ++ bytesLE 8 kf ++
  bytesLE 8 size ++ bytesLE 8 256 ++ bytesLE 4 f.streamBytes ++ bytesLE 4 (f.streams.length - f.chain) ++ bytesLE 8 (kf + size) ++
  bytesLE 4 f.segs.length ++ bytesLE 4 f.flags ++ bytesLE 32 (Config.imageDigest f.streams f.key f.segs).toNat

/-- The 256-byte header of a frozen image (R451). -/
def Frozen.head (f : Frozen) : List Byte :=
  let l := f.signed ++ bytesLE 64 f.sig ++ bytesLE 28 0
  l ++ bytesLE 4 (crc32 l).toNat

end Sys2Proof.Machine
end

