-- ==== Sys2Proof/Machine/Wick.lean ====
section
/-!
DEFINITION. Wicks (R31 to R54): ticks and speed states, loss and recovery, presets, and the snapshot's evaluation.
-/
namespace Sys2Proof.Machine

open Sys2Proof

/-! ## Ticks and the speed states (R39) -/

/-- The state and epoch after a tick of direction rev (R39); the reversal tick stops the speed at once. -/
def tickState (x : Wick) (rev : Bool) (t : Nat) (ticks : Int) : Wick :=
  let same := x.rev == rev
  let epoch (y : Wick) : Wick := { y with epochTime := t, epochTicks := ticks }
  match x.st with
  | .still => epoch { x with st := .starting }
  | .starting => if same then { x with st := .running } else epoch x
  | .running => if same then x else epoch { x with st := .reversing, speed := 0 }
  | .reversing => if same then { x with st := .running } else epoch x
  | _ => x

/-- A tick and the timeout in one clock cycle: the tick is taken first, so the timeout does not occur (R40). -/
def unStill (x : Wick) (now : Nat) : Wick :=
  match x.stillFrom with
  | some (c, st, v) => if c = cycleOf now ∧ x.st = .still then { x with st := st, speed := v, stillFrom := none } else { x with stillFrom := none }
  | none => x

/-- A counted tick of direction rev stamped t (R39): the speed state, E_last and the tick before it. A freeze ends at RUNNING
(R43). -/
def tickWick (x : Wick) (rev : Bool) (t : Nat) : Wick :=
  let n := x.ticks + (if rev then -1 else 1)
  let y := tickState x rev t n
  { y with
    rev := rev, ticks := n, prevTime := x.edgeTime, prevTicks := x.ticks, edgeTime := t, presetHold := false,
    frozen := y.frozen && y.st != .running, frzSince := if y.st = .running then none else y.frzSince }

/-- Counts a tick of direction rev and lets the lamplighter see it (R39, R59). -/
def countTick (s : State) (w : Nat) (rev : Bool) (t : Nat) : State :=
  let s1 := setWick s w (tickWick (unStill (wickOf s w) s.now) rev t)
  lltTick (stepCount s1 w (if rev then -1 else 1)) w rev t

/-- Counts n ticks of one direction (R45, R47). -/
def countTicks (s : State) (w : Nat) (rev : Bool) (n t : Nat) : State := (List.range n).foldl (fun s _ => countTick s w rev t) s

/-! ## Loss (R41, R42) -/

/-- The wick becomes LOST: speed 0, counted, recorded; the lamplighter holds its actions (R42, R67). -/
def loseWick (s : State) (w t : Nat) : State :=
  let x := wickOf s w
  if x.st = .lost ∨ x.st = .disabled then s
  else
    let x' := { x with st := .lost, speed := 0, stillFrom := none, lostAt := t, losses := satInc 16 x.losses, goodPeriods := 0, badPeriods := 0,
                       startLost := false, dormLost := x.dormLost || s.snf.dormant }
    lltLost (dropHomed (motWickLost (logEv (setWick s w x') (srcWick w) .wickLost w) w) w) w

/-- The wick leaves LOST: STILL, or RUNNING for a MAINS wick; was_lost, the record and the lamplighter's resolution (R39, R42,
R67). The LOST in which a MAINS wick starts sets no was_lost and writes no record (R46). The decoder goes on from the present input
levels, which a HALL wick's code has followed; an evaluated wick takes its base anew at its next evaluation, for motion during
the loss is not counted (R42). -/
def recoverWick (s : State) (w : Nat) : State :=
  let x := wickOf s w
  let x' := { x with st := if wickKind s w = .mains then .running else .still, speed := 0, startLost := false,
                     badPeriods := 0, recAt := s.now, compHold := wickEvaluated s w }
  let s1 := setWick s w x'
  if x.startLost then s1
  else lltRecover (logEv (stick s1 .wckStatus w 8) (srcWick w) .wickRecovered w) w

/-! ## Edges by kind -/

/-- A phase error (R34). -/
def phaseError (s : State) (w : Nat) : State :=
  let x := wickOf s w
  logEv (stick (setWick s w { x with phaseErrors := satInc 16 x.phaseErrors }) .wckStatus w 9) (srcWick w) .wickPhaseError w

/-- A tick as the decoder saw it, after the invert bit. -/
def decodedTick (s : State) (w : Nat) (rev : Bool) (t : Nat) : State := countTick s w (wickDir s w rev) t

/-- What a change of the Hall inputs is (R497). -/
inductive HallMove where
  | none | tick (rev : Bool) | error
  deriving DecidableEq, Repr

/-- A change from the present code to another: the next or previous code ticks, another valid code is a phase error. An invalid code
is none, and so is the first code the inputs are known to show. -/
def hallMove (c0 c : Nat) : HallMove :=
  match hallPlace c0, hallPlace c with
  | some p0, some p => if p = (p0 + 1) % 6 then .tick false else if p0 = (p + 1) % 6 then .tick true else if p = p0 then .none else .error
  | _, _ => .none

/-- The present valid code of a Hall wick follows its inputs, whatever its state (R39, R497). -/
def setHall (s : State) (w c : Nat) : State :=
  if (hallPlace c).isSome then setWick s w { wickOf s w with hallCode := c } else s

/-- A Hall code at the inputs (R497). -/
def hallEdge (s : State) (w t c : Nat) : State :=
  let s1 := setHall s w c
  match hallMove (wickOf s w).hallCode c with
  | .tick rev => decodedTick s1 w rev t
  | .error => phaseError s1 w
  | .none => s1

/-- A period within 45 to 65 Hz (R41). -/
def mainsValid (p : Nat) : Bool := decide (p * 45 ≤ secNs) && decide (secNs ≤ p * 65)

/-- A mains crossing (R46): counted in RUNNING, the third bad period in a row loses the wick, in LOST the tenth valid period
recovers it and gives the speed. DESIGN CHOICE (log entry 34): the crossing that ends the tenth valid period, at which the wick
leaves LOST, is not counted itself. -/
def mainsCross (s : State) (w t : Nat) : State :=
  let x := wickOf s w
  let p := t - x.lastCross
  let ok := x.lastCross != 0 && mainsValid p
  match x.st with
  | .running =>
    let s1 := countTick s w false t
    let y := wickOf s1 w
    let bad := if ok then 0 else y.badPeriods + 1
    let s2 := setWick s1 w { y with lastCross := t, badPeriods := bad }
    if bad ≥ 3 then loseWick s2 w t else s2
  | .lost =>
    let good := if ok then x.goodPeriods + 1 else 0
    let n := x.ticks + 1
    let y := { x with lastCross := t, goodPeriods := good, ticks := n, prevTime := x.lastCross, prevTicks := x.ticks, edgeTime := t,
                      epochTime := x.lastCross, epochTicks := x.ticks, hist := [] }
    let s1 := setWick s w y
    if good ≥ 10 then recoverWick s1 w else s1
  | _ => s

/-- The highest dormant tick rate of a filter code, ticks/s (R33). -/
def dormantRate (f : Nat) : Nat :=
  match f with
  | 3 => 1500000 | 4 => 500000 | 5 => 100000 | _ => 2000000

/-- A tick while dormant (R51): counted, without stamp, state and speed; a pair too close sets dormant_overrun. -/
def dormantTick (s : State) (w : Nat) (rev : Bool) (t : Nat) : State :=
  let x := wickOf s w
  let close := match x.dormTick with
    | some a => decide ((t - a) * dormantRate (regF s .wckCfg w 5 3) < secNs)
    | none => false
  if x.st = .lost ∧ wickKind s w ≠ .mains then s
  else stepCount (setWick s w { x with dormTick := some t, dormOverrun := x.dormOverrun || close }) w (if rev then -1 else 1)

/-- A CNT wick's stall or its direction stall reports BREAK, or the aisle's link is lost (R41, R45). -/
def cntBad (s : State) (w : Nat) : Bool :=
  let i := regF s .wckSrc w 0 7
  (stlOf s i).flags.toNat.testBit 2 || (aisOf s (aisleOf i)).lostUp ||
  (regB s .wckSrc w 7 && (stlOf s (regF s .wckSrc w 8 7)).cls == .brk)

/-- The edge as a tick of a direction, for the kinds whose edges decide it alone (R31). -/
def edgeRev (s : State) (w : Nat) (e : TickEdge) : Option Bool :=
  match wickKind s w, e with
  | .quad, .quad fwd => some (!fwd)
  | .enc, .quad fwd => some (!fwd)
  | .pulseDir, .pulseDir b => some (!b)
  | .pulse, .pulse => some (regB s .wckCfg w 8)
  | .cnt, .pulse => if cntBad s w then none else some (cntRev s w)
  | .mains, .cross => some false
  | _, _ => none

/-- A crossing of a MAINS wick while dormant (R46, R51): counted in every state; the third bad period in a row is a loss. -/
def dormantCross (s : State) (w t : Nat) : State :=
  let x := wickOf s w
  let bad := if x.lastCross = 0 ∨ mainsValid (t - x.lastCross) = true then 0 else x.badPeriods + 1
  dormantTick (setWick s w { x with lastCross := t, badPeriods := bad, dormLost := x.dormLost || decide (3 ≤ bad) }) w false t

/-- An edge while the core domain is unpowered (R51): the kinds that count then, W0 to W51. -/
def dormantEdge (s : State) (w t : Nat) (e : TickEdge) : State :=
  match wickKind s w, e with
  | .cnt, _ => s
  | .mains, .cross => dormantCross s w t
  | .hall, .hall c =>
    let s1 := setHall s w c
    if (wickOf s w).st = .lost then s1
    else
      match hallMove (wickOf s w).hallCode c with
      | .tick rev => dormantTick s1 w (wickDir s w rev) t
      | .error => phaseError s1 w
      | .none => s1
  | _, _ =>
    match edgeRev s w e with
    | some r => dormantTick s w (wickDir s w r) t
    | none => s

/-- Reset state of the boot machine in which the latches run (R35, R393). -/
def latching (s : State) : Bool := s.snf.corePowered && decide (1 ≤ s.snf.stage)

/-- An instant falls in the clock cycle of a snapshot latch that has not been taken (R35). -/
def inLatchCycle (s : State) (t : Nat) : Bool :=
  latching s && decide ((t + 4000) % frameNs < 8) && !(s.wick.latched && decide (t - (t + 4000) % frameNs ≤ s.wick.snapTime))

/-- An edge is taken (R39). An edge of another kind, or of a wick that has no inputs, is none; a LOST line is not decoded (R42),
but for the crossings that a MAINS wick recovers by (R46). -/
def takeEdge (s : State) (w t : Nat) (e : TickEdge) : State :=
  let x := wickOf s w
  if x.st = .disabled then s
  else if !s.snf.corePowered then dormantEdge s w t e
  else
    match wickKind s w, e with
    | .mains, .cross => mainsCross s w t
    | .hall, .hall c => if x.st = .lost then setHall s w c else hallEdge s w t c
    | _, _ =>
      match edgeRev s w e with
      | some r => if x.st = .lost then s else decodedTick s w r t
      | none => s

/-- No tick within still_ms (R39). -/
def takeTimeout (s : State) (w t : Nat) : State :=
  let x := wickOf s w
  let k := wickKind s w
  if (x.st = .starting ∨ x.st = .running ∨ x.st = .reversing) ∧ k ≠ .mains ∧ k ≠ .subscribed ∧ x.edgeTime + stillNs s w ≤ t then
    setWick s w { x with st := .still, speed := 0, stillFrom := some (cycleOf t, x.st, x.speed) } else s

/-- Happenings that waited for a latch, ticks before timeouts (R35, R40). -/
def takeHeld (s : State) (l : List HeldTick) : State :=
  let s1 := l.foldl (fun s h => match h.edge with | some e => takeEdge s h.wick h.t e | none => s) s
  l.foldl (fun s h => if h.edge = none then takeTimeout s h.wick h.t else s) s1

/-- The happenings of latch cycles before t are taken: no latch came for them. -/
def flushHeld (s : State) (t : Nat) : State :=
  let l := s.wick.held
  if l.isEmpty then s
  else
    let old := l.filter (fun h => decide (cycleOf h.t < cycleOf t))
    takeHeld { s with wick := { s.wick with held := l.filter (fun h => !decide (cycleOf h.t < cycleOf t)) } } old

/-- A tick or timeout happens at t: at once, or after the latch of its clock cycle (R35). -/
def tickEvent (s : State) (w t : Nat) (e : Option TickEdge) : State :=
  let s1 := flushHeld s t
  if inLatchCycle s1 t then { s1 with wick := { s1.wick with held := s1.wick.held ++ [{ wick := w, t := t, edge := e }] } }
  else takeHeld s1 [{ wick := w, t := t, edge := e }]

/-- WICK_TICK (R39): an edge at the wick's inputs. -/
def execWickTick (w : Fin 64) (t : Ns) (e : TickEdge) (s : State) : Out := .next (tickEvent (setNow s t) w t (some e))

/-- WICK_PHASE_ERROR (R34): A and B change together; the wick keeps its state. -/
def execWickPhaseError (w : Fin 64) (t : Ns) (s : State) : Out :=
  let s := setNow s t
  let k := wickKind s w
  let x := wickOf s w
  .next (if (k = .quad ∨ k = .enc ∨ k = .hall) ∧ x.st ≠ .lost ∧ x.st ≠ .disabled then phaseError s w else s)

/-- WICK_STANDSTILL_TIMEOUT (R39): no tick within still_ms. -/
def execWickStandstillTimeout (w : Fin 64) (t : Ns) (s : State) : Out := .next (tickEvent (setNow s t) w t none)

/-- The sources of a COMPUTED wick that count: (src_a when p is not 0, src_b when q is not 0) (R41, R47). -/
def compSources (s : State) (w : Nat) : List Nat :=
  (if regI s .wckRatio w 0 16 ≠ 0 then [regF s .wckSrc w 16 6] else []) ++
  (if regI s .wckRatio w 16 16 ≠ 0 then [regF s .wckSrc w 24 6] else [])

/-- A source of a COMPUTED wick is LOST (R41). -/
def compLost (s : State) (w : Nat) : Bool := (compSources s w).any (fun a => (wickOf s a).st == .lost)

/-- The loss condition of R41 for the kinds that this event serves: the lines of a differential or Hall kind are the field's, the
other kinds' conditions are the device's own. -/
def lossHolds (s : State) (w : Nat) : Bool :=
  match wickKind s w with
  | .quad => true | .pulseDir => true | .pulse => true | .enc => true | .hall => true
  | .cnt => cntBad s w
  | .computed => compLost s w
  | _ => false

/-- WICK_LOSS (R41). -/
def execWickLoss (w : Fin 64) (t : Ns) (s : State) : Out :=
  let s := setNow s t
  .next (if lossHolds s w then loseWick s w t else s)

/-- The recovery condition of R41 that the device itself can tell. -/
def recoverHolds (s : State) (w t : Nat) : Bool :=
  let x := wickOf s w
  match wickKind s w with
  | .quad => decide (x.lostAt + msNs ≤ t) | .pulseDir => decide (x.lostAt + msNs ≤ t) | .pulse => decide (x.lostAt + msNs ≤ t)
  | .enc => decide (x.lostAt + msNs ≤ t) | .hall => decide (x.lostAt + msNs ≤ t)
  | .cnt => !cntBad s w && (match x.goodAt with | some a => decide (a + msNs ≤ t) | none => false)
  | .mains => decide (10 ≤ x.goodPeriods)
  | .computed => !compLost s w
  | _ => false

/-- WICK_RECOVERY (R41, R42). -/
def execWickRecovery (w : Fin 64) (t : Ns) (s : State) : Out :=
  let s := setNow s t
  .next (if (wickOf s w).st = .lost ∧ recoverHolds s w t = true then recoverWick s w else s)

/-- 2.5 nominal periods, ns (R41, R46). -/
def mainsTimeout (s : State) (w : Nat) : Nat := if regB s .wckCfg w 9 then 41666666 else 50000000

/-- MAINS_CROSSING_TIMEOUT (R46); in dormant mode the loss is detected, the state is not evaluated (R51). -/
def execMainsCrossingTimeout (w : Fin 64) (t : Ns) (s : State) : Out :=
  let s := setNow s t
  let x := wickOf s w
  .next (if wickKind s w = .mains ∧ x.lastCross + mainsTimeout s w ≤ t then
      (if s.snf.corePowered = false ∧ x.st ≠ .disabled then setWick s w { x with dormLost := true }
       else if x.st = .running then loseWick s w t else s)
    else s)

/-- WICK_PRESET_REQUEST (R44): the value stands from the request on. DESIGN CHOICE (log entry 34): of two presets of one wick
requested before one latch the later one alone is applied. -/
def execWickPresetRequest (w : Fin 64) (v : Int) (s : State) : Out :=
  let x := wickOf s w
  .next (if x.st = .disabled then s else setWick s w { x with pending := some (.abs (wrap48 v)) })

/-- WICK_CLEAR_DIAG (R54). -/
def execWickClearDiag (w : Fin 64) (s : State) : Out :=
  .next (setWick s w { wickOf s w with phaseErrors := 0, losses := 0 })

/-- Publication period of the wick a subscriber names, ns (R48): the publisher's pub_k as the subscriber's stream gives it. -/
def pubPeriod (s : State) (w : Nat) : Nat := frameNs * 2 ^ ((lookup s.hld.str.subPaths w).getD (0, 0)).1

/-- SUBSCRIBED_WICK_LOSS (R50): three publication periods of lateness. -/
def execSubscribedWickLoss (w : Fin 64) (t : Ns) (s : State) : Out :=
  let s := setNow s t
  match (wickOf s w).lateSince with
  | some a => .next (if wickKind s w = .subscribed ∧ a + 3 * pubPeriod s w ≤ t then loseWick s w t else s)
  | none => .next s

/-! ## The snapshot (R35 to R38, R47, R49) -/

/-- The decay clamp (R38): |v| at most 1 / Δt, in Q23.8 ticks/s. -/
def decayClamp (v : Int) (dt : Nat) : Int :=
  if dt = 0 then v
  else
    let lim : Int := (256 * secNs / dt : Nat)
    if v > lim then lim else if v < -lim then -lim else v

/-- Speed of R37 in Q23.8 from E_last and E_ref, truncated toward zero. DESIGN CHOICE (log entry 34): 0 where the two bear one
stamp, as ticks of one upstream record do. -/
def speedOf (x : Wick) (k : Nat) : Int :=
  let old := x.hist.getD (2 ^ k - 1) (x.epochTime, x.epochTicks)
  let r1 := if old.1 < x.epochTime then (x.epochTime, x.epochTicks) else old
  let r2 := if r1 = (x.edgeTime, x.ticks) then (x.prevTime, x.prevTicks) else r1
  idiv ((x.ticks - r2.2) * (256 * secNs : Nat)) (x.edgeTime - r2.1 : Nat)

/-- The speed of the snapshot at t: R37 and R38 in RUNNING, 0 elsewhere. -/
def snapSpeed (s : State) (w t : Nat) : Int :=
  let x := wickOf s w
  match x.st with
  | .running =>
    match wickKind s w with
    | .computed =>
      let p := regI s .wckRatio w 0 16
      let q := regI s .wckRatio w 16 16
      let v := idiv (p * (wickOf s (regF s .wckSrc w 16 6)).snap.speed + q * (wickOf s (regF s .wckSrc w 24 6)).snap.speed)
                 (regF s .wckDiv w 0 16 : Nat)
      decayClamp (if regB s .wckCfg w 4 then -v else v) (t - x.edgeTime)
    | .subscribed => x.speed
    | _ => decayClamp (speedOf x (fld x.timing 16 4)) (t - x.edgeTime)
  | _ => 0

/-- The numerator of a COMPUTED wick's ratio on the snapshot positions of its sources, reversed by invert (R31, R47). -/
def compNumer (s : State) (w : Nat) : Int :=
  let n := regI s .wckRatio w 0 16 * (wickOf s (regF s .wckSrc w 16 6)).snap.pos +
           regI s .wckRatio w 16 16 * (wickOf s (regF s .wckSrc w 24 6)).snap.pos
  if regB s .wckCfg w 4 then -n else n

/-- A COMPUTED wick at a latch (R47): the exact ratio by its increment, rounded toward minus infinity with the remainder carried;
each change of the integer part is a tick stamped with the latch. The first latch takes the position directly; a latch with a
preset, and the first after a loss, keep the position and take the ratio as the new base. -/
def compEval (s : State) (w t : Nat) : State :=
  let x := wickOf s w
  let n := compNumer s w
  let d : Int := (max (regF s .wckDiv w 0 16) 1 : Nat)
  if x.st = .disabled then s
  else if compLost s w then loseWick (setWick s w { x with compHold := x.compStarted }) w t
  else if !x.compStarted then
    let pos := if x.compHold then x.compPos else Int.fdiv n d
    let s1 := if x.st = .lost then recoverWick s w else s
    setWick s1 w { wickOf s1 w with compStarted := true, compPos := pos, compNum := n, compRem := 0, compK := pos - Int.fdiv n d,
                                    st := .still, compHold := false, count := wrap48 (Int.fdiv pos 256) }
  else if x.compHold ∨ x.st = .lost then
    let s1 := if x.st = .lost then recoverWick s w else s
    setWick s1 w { wickOf s1 w with compNum := n, compRem := 0, compHold := false, compK := x.compPos - Int.fdiv n d }
  else
    let y := n - x.compNum + x.compRem
    let pos := x.compPos + Int.fdiv y d
    let dc := Int.fdiv pos 256 - Int.fdiv x.compPos 256
    let s1 := setWick s w { x with compNum := n, compRem := Int.fmod y d, compPos := pos }
    countTicks s1 w (decide (dc < 0)) dc.natAbs t

/-- Linear interpolation between two records at τ, to the nearest 1/256 tick, ties toward the earlier record (R49). -/
def interpPos (a b : SnapRec) (tau : Nat) : Int :=
  if a.snapTime = b.snapTime then a.pos
  else
    let num := (b.pos - a.pos) * (tau - a.snapTime : Nat)
    let den : Int := (b.snapTime - a.snapTime : Nat)
    let q := Int.fdiv num den
    let r2 := 2 * (num - q * den)
    a.pos + (if r2 > den then q + 1 else if r2 = den then (if b.pos < a.pos then q + 1 else q) else q)

/-- A record that makes its subscriber LOST (R50). -/
def badRec (r : SnapRec) : Bool := r.unsynced || r.st == .lost

/-- The publisher's position at the latch's t - D, reversed by invert (R31, R49). -/
def subPos (s : State) (w : Nat) (a b : SnapRec) (tau : Nat) : Int :=
  let p := interpPos a b tau
  if regB s .wckCfg w 4 then -p else p

/-- Ticks of a SUBSCRIBED wick: its count follows, its state is the publisher's (R49). -/
def subTicks (s : State) (w : Nat) (dc : Int) : State :=
  if dc = 0 then s
  else
    (List.range dc.natAbs).foldl (fun s _ => lltTick (stepCount s w (if dc < 0 then -1 else 1)) w (decide (dc < 0)) s.now)
      (setWick s w { wickOf s w with presetHold := false })

/-- A SUBSCRIBED wick between two records a and b that bracket tau (R49): position with the offset of a preset, ticks, and the state,
direction and speed of the record at or before tau. The first evaluation, and one after a preset or a loss, makes no tick. -/
def subTake (s : State) (w : Nat) (a b : SnapRec) (tau : Nat) : State :=
  let x := wickOf s w
  let p := subPos s w a b tau
  let rev := a.rev != regB s .wckCfg w 4
  let keep := x.presetHold && x.compHold
  let pos := if keep then x.compPos else p + x.compK
  let c := if keep then x.count else countOfPos pos rev
  let y := { x with compPos := pos, compNum := c, compK := pos - p, compStarted := true, compHold := false }
  let s1 := if !x.compStarted || x.compHold then setWick s w { y with count := wrap48 c } else subTicks (setWick s w y) w (c - x.compNum)
  setWick s1 w { wickOf s1 w with st := a.st, rev := rev, speed := if regB s .wckCfg w 4 then -a.speed else a.speed, edgeTime := a.edgeTime }

/-- A SUBSCRIBED wick at a latch (R49, R50). DEDUCED (log entry 34): a record that made the wick LOST holds off its recovery while it
is among those at or after t - D. -/
def subEval (s : State) (w t : Nat) : State :=
  let x := wickOf s w
  if x.st = .disabled then s
  else
    let tau := t - regF s .wckPublish w 8 8 * frameNs
    let before := x.recs.find? (fun r => decide (r.snapTime ≤ tau))
    let after := (x.recs.filter (fun r => decide (tau ≤ r.snapTime))).getLast?
    let uns := s.mkt.unsynced
    match before, after with
    | some a, some b =>
      let live := x.recs.filter (fun r => decide (a.snapTime ≤ r.snapTime))
      let s1 := setWick s w { x with late := false, lateSince := none, srcUnsynced := a.unsynced, recs := live }
      if uns || live.any badRec then loseWick s1 w t
      else if x.st = .lost then
        let s2 := recoverWick s1 w
        let s3 := subTake s2 w a b tau
        setWick s3 w { wickOf s3 w with st := .still, speed := 0 }
      else subTake s1 w a b tau
    | _, some _ => if uns then loseWick s w t else setWick s w { x with late := false, lateSince := none }
    | _, none =>
      let since := x.lateSince.getD t
      let s1 := setWick s w { x with late := true, lateSince := some since }
      if uns || decide (since + 3 * pubPeriod s w ≤ t) then loseWick s1 w t else s1

/-- The snapshot record of a wick at the latch t (R36). -/
def snapOf (s : State) (w t seq : Nat) (v pos : Int) : SnapRec :=
  let x := wickOf s w
  { pos := pos, speed := v, snapTime := t, edgeTime := x.edgeTime, st := x.st, rev := x.rev, wasLost := regB s .wckStatus w 8,
    phaseError := regB s .wckStatus w 9, unsynced := s.mkt.unsynced || x.srcUnsynced, wick := w, seq := seq, late := x.late }

/-- Latches one wick at t (R35): WCK_TIMING as written takes effect, then speed, clamp, fraction, record; E_last joins the history
of R37. A DISABLED wick has its record too, and no history. The wax takes no item where the record is the previous one advanced
(R443). -/
def latchWick (s : State) (w t : Nat) : State :=
  let s0 := setWick s w { wickOf s w with timing := regW s .wckTiming w }
  let v := snapSpeed s0 w t
  let x := { wickOf s0 w with speed := v }
  let s1 := setWick s0 w x
  let r := snapOf s1 w t s.wick.snapSeq v (wickPos s1 w t)
  let y := if x.st = .disabled then { x with snap := r }
    else { x with snap := r, trail := (r :: x.trail).take 512, hist := ((x.edgeTime, x.ticks) :: x.hist).take 1024 }
  let s2 := setWick s1 w y
  if r = x.snap.next then s2 else addItem s2 (.snap w (!x.snap.fits r) r)

/-- The presets that fall due at the latch are applied before it (R35, R44). -/
def latchPresets (s : State) : State :=
  forEach (s.wick.w.map (·.1)) s (fun s w =>
    let x := wickOf s w
    match x.pending with
    | some r =>
      let s0 := applyPreset (setWick s w { x with pending := none }) w (presetValue x r)
      let s1 := setWick s0 w { wickOf s0 w with compHold := wickEvaluated s w }
      match r with
      | .abs _ => dropHomed s1 w
      | .rel _ _ => s1
    | none => s)

/-- The wicks' part of a snapshot latch at t (R35 to R38, R47, R49): presets; subscribed wicks; the latch of all 64, computed
wicks, of ascending number, after their sources, their ticks appearing in this snapshot's position; then the ticks and timeouts of
the latch's cycle. -/
def latchWicks (s : State) (t : Nat) : State :=
  let s0 := flushHeld s t
  let s1 := latchPresets s0
  let s2 := forEach (upTo 64) s1 (fun s w => if wickKind s w = .subscribed then subEval s w t else s)
  let s3 := forEach (upTo 64) s2 (fun s w => latchWick (if wickKind s w = .computed then compEval s w t else s) w t)
  let s4 := { s3 with wick := { s3.wick with snapSeq := (s.wick.snapSeq + 1) % 65536, snapTime := t, latched := true, held := [] } }
  takeHeld s4 s3.wick.held

end Sys2Proof.Machine
end

