-- ==== Sys2Proof/Machine/Upstream.lean ====
section
/-!
DEFINITION. The aisle link (R17, R18, R240 to R243, R254, R255): what the core takes from an upstream subframe, what an aisle
takes from a downstream one, and the link's loss at the core.
-/
namespace Sys2Proof.Machine

open Sys2Proof

/-- A failure flag: open, short or break (R267 failed_seen). -/
def failedFlags (f : StallFlags) : Bool := (f &&& 0x07#8) != 0#8

/-- The core takes new flags of a stall: entry into open, short or break is counted, sticky and recorded (R30, R267). -/
def takeFlags (s : State) (i : Nat) (f : StallFlags) : State :=
  let x := stlOf s i
  let f' := f &&& 0x7F#8
  let s1 := setStl s i { x with flags := f', failures := if failedFlags f && !failedFlags x.flags then satInc 16 x.failures else x.failures }
  let s2 := if failedFlags f then stick s1 .stlStatus i 13 else s1
  if failedFlags f && !failedFlags x.flags then logEv s2 (srcStall i) .stallFailed i else s2

/-- CNT wicks of an aisle (R41, R45): one whose stall, direction stall or link has failed becomes LOST; the others' good time runs. -/
def loseCnt (s : State) (n t : Nat) : State :=
  forEach (upTo 64) s (fun s w =>
    if wickKind s w = .cnt ∧ aisleOf (regF s .wckSrc w 0 7) = n then
      let x := wickOf s w
      if cntBad s w then loseWick (setWick s w { x with goodAt := none }) w t
      else if x.goodAt.isNone then setWick s w { x with goodAt := some t } else s
    else s)

/-- A CNT wick takes the d edges of a record (R45): one tick each, in the direction the aisle counted in, or, for a further wick of
the stall, in its own. -/
def cntTicks (s : State) (i w : Nat) (d : Int) (stamp : Nat) : State :=
  if (wickOf s w).st = .lost ∨ (wickOf s w).st = .disabled then s
  else
    let rev := if (cntWicks s i).head? = some w then decide (d < 0) else cntRev s w
    countTicks s w (wickDir s w rev) d.natAbs stamp

/-- The core takes one stall record (R255): registers, the input set, and the ticks of a CNT wick (R45). Edges whose own record a
discarded subframe held count with the next record (R17), which may bear no stamp: they take the instant of its arrival (DESIGN CHOICE,
log entry 34). -/
def takeRec (s : State) (n : Nat) (r : UpRec) : State :=
  let s := addItem s (.stall n r)
  match r with
  | .sample i f q v raw st =>
    let s1 := takeFlags s i f
    setStl s1 i { stlOf s1 i with q := q, value := v, raw := raw, stamp := st, linkLost := false }
  | .edge i cls f st =>
    let s1 := takeFlags s i f
    let s2 := setStl s1 i { stlOf s1 i with cls := cls, stamp := st, count := wrapS 32 ((stlOf s1 i).count + 1) }
    gateEdge (if f.toNat.testBit 7 then stick s2 .aisStatus n 10 else s2) i cls st
  | .cnt i c st f =>
    let d := if (stlOf s i).cntBase then wrapS 32 (c - (stlOf s i).count) else 0
    let s1 := takeFlags s i f
    let s2 := setStl (useFree s1) i { stlOf s1 i with
      count := c, cntBase := true, raw := Config.freeWord s1.free, linkLost := false, q := if f.toNat.testBit 2 then .invalid else .good,
      cls := if f.toNat.testBit 2 then .brk else .off, stamp := if st = 0 then (stlOf s1 i).stamp else st }
    forEach (cntWicks s2 i) s2 (fun s w => cntTicks s i w d (if st = 0 then s.now else st))

/-- Class of a DI stall as the subframe that closes at t reports it: a change in the clock cycle of the close stands in the next (R266). -/
def closedClass (x : Stall) (t : Nat) : DiClass := if x.aAt / 8 = t / 8 ∧ x.aChanged = true then x.aPrev else x.aClass

/-- A stall's 4-bit field of the upstream subframe that closes at t (R254). -/
def upField (s : State) (i t : Nat) : Nat :=
  let x := stlOf s i
  let a := aisOf s (aisleOf i)
  match stlMode s i with
  | .di => (closedClass x t).code + (if x.aChanged && closedClass x t == x.aClass then 4 else 0)
  | .do_ =>
    (if doLevel s i then 1 else 0) + (if a.sweep.pulsing && a.sweep.stall == i % 16 then 2 else 0) + (if doLevel s i != x.applied then 4 else 0) + 8
  | _ => 3

/-- A stall's 4-bit field of a downstream subframe: a DO's commanded level, the owned bit with stall 0 and the resume bit with stall 1
(R254, R258). -/
def downField (s : State) (i : Nat) : Nat :=
  let a := aisOf s (aisleOf i)
  (if isDo s i then 8 + (if (stlOf s i).cmd then 1 else 0) else 0) + (if i % 16 = 0 ∧ s.pair.gate = true then 2 else 0) +
  (if i % 16 = 1 ∧ a.resumeBit = true then 2 else 0)

/-- Two 4-bit fields a byte, the lower stall in bits 3:0 (R254). -/
def nibbles : List Nat → List Byte
  | a :: b :: t => BitVec.ofNat 8 (a + 16 * b) :: nibbles t
  | _ => []

/-- The first 8 bytes of an upstream subframe (R17, R254). -/
def upHead (s : State) (n t : Nat) : List Byte := nibbles ((stallsOf n).map (fun i => upField s i t))
/-- The first 8 bytes of a downstream subframe (R17, R254). -/
def downHead (s : State) (n : Nat) : List Byte := nibbles ((stallsOf n).map (downField s))

/-- Class of a field's code (R254). -/
def mapClass (c : Nat) : DiClass := match c with | 1 => .on | 2 => .brk | _ => .off

/-- The core takes a stall's field (R254): the class of a DI stall, the applied level of a DO stall; the raw current of a DI stall is the
field's. -/
def takeField (s : State) (i t : Nat) : State :=
  let x := stlOf s i
  let f := upField s i t
  let more := x.aChanged && x.aAt / 8 == t / 8
  match stlMode s i with
  | .di =>
    let c := mapClass (f % 4)
    let fl : StallFlags := if c = .brk then 0x04#8 else 0#8
    let s1 := takeFlags s i fl
    setStl (useFree s1) i { stlOf s1 i with
      cls := c, q := if c = .brk then .invalid else .good, raw := Config.freeWord s1.free,
      value := if c = .on then fOfNat 1 else fOfNat 0, linkLost := false, aChanged := more }
  | .do_ =>
    let b := f.testBit 0
    setStl s i { x with applied := b, q := .good, value := if b then fOfNat 1 else fOfNat 0, linkLost := false, aChanged := false }
  | _ => setStl s i { x with linkLost := false, aChanged := false }

/-- DI classes of an aisle's stalls (AIS_DI_MAP). -/
def diMap (s : State) (n : Nat) : W32 :=
  (upTo 16).foldl (fun w k => let j := 16 * n + k
    if stlMode s j = .di ∨ stlMode s j = .cnt then w ||| put (2 * k) 2 (stlOf s j).cls.code else w) 0#32

/-- DO levels of an aisle's stalls and which stalls are DO (AIS_DO_MAP). -/
def doMap (s : State) (n : Nat) : W32 :=
  (upTo 16).foldl (fun w k => w ||| putB k (isDo s (16 * n + k) && (stlOf s (16 * n + k)).applied) ||| putB (16 + k) (isDo s (16 * n + k))) 0#32

/-- A changed DI and DO map joins the input set (R27, R444). -/
def noteMaps (old s : State) (n : Nat) : State :=
  if diMap old n = diMap s n ∧ doMap old n = doMap s n then s else addItem s (.maps n (diMap s n).toNat (doMap s n).toNat)

/-- A recorded DI and DO map is taken again (R454). -/
def takeMaps (s : State) (n di do_ : Nat) : State :=
  forEach (upTo 16) s (fun s k =>
    let i := 16 * n + k
    let x := stlOf s i
    match stlMode s i with
    | .di =>
      setStl s i { x with cls := mapClass (di / 2 ^ (2 * k) % 4), q := if di / 2 ^ (2 * k) % 4 = 2 then .invalid else .good,
                          value := if di / 2 ^ (2 * k) % 4 = 1 then fOfNat 1 else fOfNat 0, linkLost := false }
    | .do_ =>
      let b := do_.testBit k
      setStl s i { x with applied := b, q := .good, value := if b then fOfNat 1 else fOfNat 0, linkLost := false }
    | _ => s)

/-- The CNT record that a CNT stall sends in every subframe (R255). -/
def cntRec (s : State) (i : Nat) : Option UpRec :=
  let x := stlOf s i
  if stlMode s i = .cnt then some (.cnt i x.aCount x.aEdge (if x.aBreak then 0x04#8 else 0#8)) else none

/-- A valid upstream subframe of aisle n received at t (R17, R243, R254, R255, R260). -/
def takeUp (s : State) (n t : Nat) : State :=
  let a := aisOf s n
  let live := aisFault s n
  let due := a.edges.takeWhile (fun r => match r with | .edge _ _ _ st => decide (st / 8 < t / 8) | _ => true)
  let recs := due.take 8 ++ a.recs ++ (stallsOf n).filterMap (cntRec s)
  let s1 := setAis s n { a with lastUp := t, lostUp := false, upOk := min 8 (a.upOk + 1), coreFault := live,
                                edges := a.edges.drop (due.take 8).length, recs := [],
                                sendConfig := a.sendConfig || (a.st == .unconfigured && s.hld.committed) }
  let s2 := if live && !a.coreFault then logEv (stick s1 .aisStatus n 6) (srcAisle n) .aisleFault n else s1
  let s3 := if aisMeasures a then
      recs.foldl (fun s r => takeRec s n r) (noteMaps s2 (forEach (stallsOf n) s2 (fun s i => takeField s i t)) n)
    else s2
  let s4 := forEach (stallsOf n) s3 (fun s i => setStl s i { stlOf s i with aEdge := 0 })
  loseCnt s4 n t

/-- A subframe discarded whole for its CRC (R17): what it carried is gone, DI edges, samples and sets upstream, timed actions,
configuration and resume bit downstream. States come again with the next valid subframe; a CNT record and the classes are states. -/
def badSubframe (s : State) (n : Nat) (up : Bool) : State :=
  let a := aisOf s n
  if up then
    let s1 := setAis s n { a with crcErrors := satInc 16 a.crcErrors, upOk := 0, edges := a.edges.drop 8, recs := [] }
    forEach (stallsOf n) s1 (fun s i => setStl s i { stlOf s i with aEdge := 0, aChanged := false })
  else
    let s1 := lltSendAhead s n s.now
    setAis s1 n { aisOf s1 n with crcErrors := satInc 16 a.crcErrors, downOk := 0, toSend := [] }

/-- AISLE_UPSTREAM_SUBFRAME (R17); one that completes in the clock cycle of a boundary belongs to the frame after it (R24). -/
def execAisleUpstreamSubframe (n : Fin 8) (t : Ns) (valid : Bool) (s : State) : Out :=
  let s := setNow s t
  if !coreRuns s || (aisOf s n).st == .unpowered then .next s
  else if !valid then .next (badSubframe s n true)
  else if onEdge s then .next { s with aisle := { s.aisle with edgeUps := s.aisle.edgeUps ++ [n.val] } }
  else .next (takeUp s n t)

/-- The configuration and the safe table of the stream reach the aisle with a good CRC (R240, R256). -/
def takeConfig (s : State) (n : Nat) : State :=
  let a := aisOf s n
  let tab := (stallsOf n).map (safeEntry s)
  let s1 := setAis s n { a with safeTable := tab, safeCrc := tableCrc tab, tableBad := false, configured := true, sendConfig := false,
                                st := if a.st = .unconfigured then .linked else a.st }
  if a.st = .unconfigured then forEach (stallsOf n) s1 (fun s i => setStl s i { stlOf s i with aLevel := false, aHeld := false })
  else s1

/-- A timed action that the subframe carries: held for its instant, or begun at decode and late when it passes 50 % more than
2 microseconds after it (R18). -/
def takeTimed (s : State) (n t : Nat) (x : TimedDo) : State :=
  let d := slewNs s x.stall
  if x.at_ < t + d then
    let s1 := setLevel s x.stall x.level
    let s2 := setStl s1 x.stall { stlOf s1 x.stall with cmd := x.level }
    match x.slot with
    | some i => if x.at_ + 2000 < t + d then markLate s2 i else s2
    | none => s2
  else
    let a := aisOf s n
    setAis s n { a with timed := a.timed ++ [x] }

/-- A valid downstream subframe decoded by aisle n at t (R17, R18, R243, R253, R256). -/
def takeDown (s : State) (n t : Nat) : State :=
  let a := aisOf s n
  let s1 := setAis s n { a with lastDown := t, lostDown := false, localOsc := false, downOk := min 8 (a.downOk + 1),
                                ownedLast := (downField s (16 * n)).testBit 1, toSend := [] }
  match a.st with
  | .unpowered => s1
  | .unconfigured => if a.sendConfig then takeConfig s1 n else s1
  | .safe =>
    if (downField s (16 * n + 1)).testBit 1 ∧ 8 ≤ a.downOk + 1 ∧ a.snuffed = false then
      setAis s1 n { aisOf s1 n with st := .linked, resumeReq := false, resumeBit := false }
    else s1
  | .linked =>
    let s2 := if a.sendConfig then takeConfig s1 n else s1
    let s3 := forEach (stallsOf n) s2 (fun s i => if isDo s i then setLevel s i ((downField s i).testBit 0) else s)
    let s4 := lltSendAhead s3 n t
    (a.toSend ++ (aisOf s4 n).toSend).foldl (fun s x => takeTimed s n t x) (setAis s4 n { aisOf s4 n with toSend := [] })

/-- AISLE_DOWNSTREAM_SUBFRAME (R17). -/
def execAisleDownstreamSubframe (n : Fin 8) (t : Ns) (valid : Bool) (s : State) : Out :=
  let s := setNow s t
  if !coreRuns s || (aisOf s n).st == .unpowered then .next s
  else if valid then .next (takeDown s n t) else .next (badSubframe s n false)

/-- What the core writes for a stall of a lost aisle (R242). -/
def lostStall (s : State) (i : Nat) : State :=
  let x := stlOf s i
  match stlMode s i with
  | .tmpRtd => setStl s i { x with linkLost := true, q := .invalid, value := tHi s i }
  | .tmpNtc => setStl s i { x with linkLost := true, q := .invalid, value := tHi s i }
  | .tmpDiode => setStl s i { x with linkLost := true, q := .invalid, value := tHi s i }
  | .aiMa => setStl s i { x with linkLost := true, q := .invalid }
  | .aiV => setStl s i { x with linkLost := true, q := .invalid }
  | .di => setStl s i { x with linkLost := true, cls := .brk, q := .invalid }
  | _ => setStl s i { x with linkLost := true }

/-- CORE_LINK_LOST (R241, R242). -/
def execCoreLinkLost (n : Fin 8) (t : Ns) (s : State) : Out :=
  let s := setNow s t
  let a := aisOf s n
  if coreRuns s ∧ a.lostUp = false ∧ a.lastUp + aisTimeout s n ≤ t then
    let s1 := setAis s n { a with lostUp := true, upOk := 0, losses := satInc 16 a.losses }
    let s2 := logEv (stick s1 .aisStatus n 7) (srcAisle n) .aisleLinkLost n
    .next (loseCnt (forEach (stallsOf n) (dropSets s2 n) lostStall) n t)
  else .next s

/-- The items of a lost aisle's stalls that the core writes into each frame's input set (R242). -/
def lostItems (s : State) (n : Nat) : State :=
  if (aisOf s n).lostUp then
    forEach (stallsOf n) s (fun s i =>
      let x := stlOf s i
      match stlMode s i with
      | .tmpRtd => addItem s (.lost n (.sample i x.flags .invalid x.value x.raw x.stamp))
      | .tmpNtc => addItem s (.lost n (.sample i x.flags .invalid x.value x.raw x.stamp))
      | .tmpDiode => addItem s (.lost n (.sample i x.flags .invalid x.value x.raw x.stamp))
      | .aiMa => addItem s (.lost n (.sample i x.flags .invalid x.value x.raw x.stamp))
      | .aiV => addItem s (.lost n (.sample i x.flags .invalid x.value x.raw x.stamp))
      | .di => addItem s (.lost n (.edge i .brk x.flags x.stamp))
      | _ => s)
  else s

/-- Resume at a frame boundary (R243): the link valid in both directions for 8 subframes, and the host's command with safe_latch. -/
def resumeBits (s : State) : State :=
  forEach (upTo 8) s (fun s n =>
    let a := aisOf s n
    if a.st = .safe then
      setAis s n { a with resumeBit := decide (8 ≤ a.downOk) && decide (8 ≤ a.upOk) && (!regB s .aisCfg n 9 || a.resumeReq) }
    else s)

end Sys2Proof.Machine
end

