-- ==== Sys2Proof/Machine/Moist.lean ====
section
/-!
DEFINITION. Moisture channels (R76 to R97): measurement sets, MOIST_PROC's arithmetic from reflection to moisture, quality and
the windowed output, calibration, capture and fit. Every operation is a single binary32 operation in the written order (R170).
-/
namespace Sys2Proof.Machine

open Sys2Proof

/-! ## Complex arithmetic -/

def Cx.add (a b : Cx) : Cx := { re := fAdd a.re b.re, im := fAdd a.im b.im }
def Cx.sub (a b : Cx) : Cx := { re := fSub a.re b.re, im := fSub a.im b.im }
def Cx.mul (a b : Cx) : Cx :=
  { re := fSub (fMul a.re b.re) (fMul a.im b.im), im := fAdd (fMul a.re b.im) (fMul a.im b.re) }
/-- Squared modulus. -/
def Cx.sq (a : Cx) : F32 := fAdd (fMul a.re a.re) (fMul a.im a.im)
def Cx.div (a b : Cx) : Cx :=
  let d := b.sq
  { re := fDiv (fAdd (fMul a.re b.re) (fMul a.im b.im)) d, im := fDiv (fSub (fMul a.im b.re) (fMul a.re b.im)) d }
def Cx.scale (k : F32) (a : Cx) : Cx := { re := fMul k a.re, im := fMul k a.im }
def Cx.one : Cx := { re := fOfNat 1, im := 0#32 }
/-- |a| > r for r ≥ 0, on the squares. -/
def Cx.gt (a : Cx) (r : F32) : Bool := fLt (fMul r r) a.sq
/-- Item i, zero where absent. -/
def cxAt (l : List Cx) (i : Nat) : Cx := l.getD i Cx.zero

/-! ## Grain tables (R86) -/

/-- A single-precision field of a table. -/
def gtF (t : List Byte) (off : Nat) : F32 := BitVec.ofNat 32 (natLE ((t.drop off).take 4))
/-- prim_freq of a table. -/
def gtPrim (t : List Byte) : Nat := natLE ((t.drop 20).take 1)
/-- A table is valid (R86). -/
def gtValid (t : List Byte) : Bool :=
  t.length == 256 && crc32 (t.take 252) == BitVec.ofNat 32 (natLE (t.drop 252)) && decide (1 ≤ gtPrim t) && decide (gtPrim t ≤ 3) &&
  fLt (gtF t 24) (gtF t 28)
/-- A grain table's bytes; nothing where MRAM never held it. -/
def grainOf (s : State) (g : Nat) : List Byte := (lookup s.moist.grain g).getD []

/-! ## A channel's parameters (R97 and the stream) -/

/-- Stall of a channel. -/
def mstStall (s : State) (c : Nat) : Nat := 16 * (c / 4) + regF s .mstCfg c 0 4
/-- The committed stream carries a record whose words begin with a register. -/
def hasWord (s : State) (r : RegName) (i : Nat) : Bool := (lookup s.hld.str.words (regAddr r i)).isSome
/-- The stream assigns a MOIST stall to the slot (R76). -/
def mstUsed (s : State) (c : Nat) : Bool := hasWord s .mstCfg c && stlMode s (mstStall s c) == .moist
/-- The channel's block. -/
def mstInst (s : State) (c : Nat) : Option (Nat × Inst) := instFor s .moistProc c
/-- A parameter without a register of the channel (R85, R88), or its default. -/
def mstVal (s : State) (c k : Nat) (d : F32) : F32 :=
  match mstInst s c with
  | some (_, x) => x.vals.getD k d
  | none => d
/-- Steinhart-Hart coefficients with the defaults of R85. -/
def mstSh (s : State) (c : Nat) : F32 × F32 × F32 :=
  (mstVal s c 0 shDefault.1, mstVal s c 1 shDefault.2.1, mstVal s c 2 shDefault.2.2)
/-- C_0, pF. -/
def mstC0 (s : State) (c : Nat) : F32 := regW s .mstProbeC0 c
/-- C_f, pF: of the air point, or of the stream until one has been taken (R84). -/
def mstCf (s : State) (c : Nat) (k : Option CalStore) : F32 :=
  match k with
  | some x => x.cf
  | none => regW s .mstProbeCf c
/-- ω = 2π f in rad/s, the nearest single to it (R84). -/
def omega (f : Nat) : F32 :=
  match f with
  | 0 => fRat 12566370614359 1000000 | 1 => fRat 62831853071796 1000000 | 2 => fRat 251327412287183 1000000
  | _ => fRat 753982236861550 1000000
/-- Fit of the selected table: s = 1, b = 0 where none is stored (R90). -/
def mstFit (s : State) (c : Nat) : F32 × F32 :=
  match (chanOf s c).fits.find? (fun x => x.table == regF s .mstCfg c 4 6) with
  | some x => (x.s, x.b)
  | none => (fOfNat 1, 0#32)
/-- Limits of MST_LIMITS and MST_NOISE in their units (R97). -/
def uncoverEps (s : State) (c : Nat) : F32 := fRat (100 + regF s .mstLimits c 0 8) 100
def frozenDisp (s : State) (c : Nat) : F32 := fRat (5 * regF s .mstLimits c 8 8) 1000
def foulAir (s : State) (c : Nat) : F32 := fRat (100 + regF s .mstLimits c 16 8) 100
def foulAirClear (s : State) (c : Nat) : F32 := fRat (95 + regF s .mstLimits c 16 8) 100
def foulRatio (s : State) (c : Nat) : F32 := fOfNat (regF s .mstLimits c 24 8)
def noiseLim (s : State) (c : Nat) : F32 := fRat (regF s .mstNoise c 0 8) 100

/-! ## Measurement sets (R79 to R81) -/

/-- Period of a set, ns. -/
def setNs : Nat := 2500000

/-- MEASUREMENT_SET_START (R79): the channels of an aisle whose link stands begin a set at a multiple of 2.5 ms. -/
def execMeasurementSetStart (n : Fin 8) (t : Ns) (s : State) : Out :=
  let s := setNow s t
  let a := aisOf s n
  .next (if coreRuns s ∧ t % setNs = 0 ∧ aisMeasures a = true ∧ a.lostDown = false ∧ a.lostUp = false then
           forEach (upTo 4) s (fun s k =>
             let c := 4 * n.val + k
             let x := chanOf s c
             if mstUsed s c && !x.sets.contains t then setChan s c { x with sets := x.sets ++ [t] } else s)
         else s)

/-- Set flags (R80): unlock, overrange, ntc_open, ntc_short, coord_lost, cal_active. -/
def setFlags (r : SetReading) (lost cal : Bool) : BitVec 8 :=
  BitVec.ofNat 8 (mapBits [r.unlock, r.overrange, fLt (fOfNat 500000) r.rNtc, fLt r.rNtc (fOfNat 100), lost, cal])

/-- Coordinate of a channel's set (R81): 0 without an associated wick. -/
def setCoord (s : State) (c stamp : Nat) : Int × Bool :=
  if regB s .mstCfg c 16 then coordAt s (regF s .mstCfg c 10 6) stamp else (0, false)

/-- The record of a set that began at t0 (R80, R81). -/
def setRecord (s : State) (c t0 : Nat) (r : SetReading) : SetRec :=
  let k := setCoord s c (t0 + 1250000)
  { stamp := t0 + 1250000, coord := k.1, gammaM := r.gammaM, gammaRef := r.gammaRef, rNtc := r.rNtc,
    tAisle := r.tAisle, channel := c, flags := setFlags r k.2 (chanOf s c).session, seq := (chanOf s c).seq }

/-- MEASUREMENT_SET_END (R79 to R81): the set that has run 2.5 ms enters the aisle inbox. -/
def execMeasurementSetEnd (c : Fin 32) (t : Ns) (r : SetReading) (s : State) : Out :=
  let s := setNow s t
  let x := chanOf s c
  match x.sets with
  | t0 :: rest =>
    if t0 + setNs ≤ t then
      let m := setRecord s c t0 r
      .next (addItem (setChan s c { x with sets := rest, seq := (x.seq + 1) % 2 ^ 32, inbox := x.inbox ++ [(t, m)] }) (.set m))
    else .next s
  | [] => .next s

/-! ## From reflection to permittivity (R82 to R84) -/

/-- Γ_ref0(f, T_a) from the OTP coefficients of the aisle (R82). -/
def gammaRef0 (p : List Cx) (ta : F32) : Cx :=
  let t2 := fMul ta ta
  Cx.add (Cx.add (Cx.add (cxAt p 0) (Cx.scale ta (cxAt p 1))) (Cx.scale t2 (cxAt p 2))) (Cx.scale (fMul t2 ta) (cxAt p 3))

/-- k_f of every frequency (R82). -/
def refFactors (s : State) (m : SetRec) : List Cx :=
  let ps := (lookup s.moist.ref (m.channel / 4)).getD []
  (upTo 4).map (fun f => Cx.div (gammaRef0 (ps.getD f []) (fRat m.tAisle 128)) (cxAt m.gammaRef f))

/-- Γ_c of every frequency (R82). -/
def gammaC (ks : List Cx) (m : SetRec) : List Cx := (upTo 4).map (fun f => Cx.mul (cxAt ks f) (cxAt m.gammaM f))

/-- Γ at the probe connector (R83). -/
def gammaProbe (k : CalStore) (f : Nat) (gc : Cx) : Cx :=
  let d := Cx.sub gc (cxAt k.e00 f)
  Cx.div d (Cx.add (cxAt k.e f) (Cx.mul (cxAt k.e11 f) d))

/-- Y / (jω) in pF (R84). -/
def probeCap (f : Nat) (g : Cx) : Cx :=
  let y := Cx.div (Cx.sub Cx.one g) (Cx.scale (fOfNat 50) (Cx.add Cx.one g))
  let w := omega f
  let pico := fRat 1000000000000 1
  { re := fMul (fDiv y.im w) pico, im := fMul (fNeg (fDiv y.re w)) pico }

/-- ε* (R84): (Y/(jω) − C_f) / C_0. The second part holds −ε''. -/
def epsOf (c0 cf : F32) (f : Nat) (g : Cx) : Cx :=
  let y := probeCap f g
  { re := fDiv (fSub y.re cf) c0, im := fDiv y.im c0 }

/-- ε' at a frequency of a set's result. -/
def ePr (e : List Cx) (f : Nat) : F32 := (cxAt e f).re
/-- ε'' at a frequency. -/
def eSec (e : List Cx) (f : Nat) : F32 := fNeg (cxAt e f).im

/-! ## Grain temperature and density (R85, R88, R92) -/

/-- The substitute's temperature, if it can serve (R92). -/
def substTemp (s : State) (c : Nat) : Option F32 :=
  let i := regF s .mstCfg2 c 0 7
  let x := stlOf s i
  let tmp := stlMode s i == .tmpRtd || stlMode s i == .tmpNtc || stlMode s i == .tmpDiode
  if regB s .mstCfg2 c 7 && tmp && (x.flags &&& 0x03#8) == 0#8 && !x.linkLost then some x.value else none

/-- T_g of R85, the temperature of step 5, and the flags temp_fault and subst_temp (R92). -/
def grainTemp (s : State) (m : SetRec) : F32 × Option F32 × BitVec 16 :=
  if m.flags.toNat.testBit 2 || m.flags.toNat.testBit 3 then
    match substTemp s m.channel with
    | some v => (fOfNat 125, some v, 0x8000#16)
    | none => (fOfNat 125, none, 0x0100#16)
  else
    let v := ntcTemp (mstSh s m.channel) m.rNtc
    (v, some v, 0#16)

/-- A stall's value by its scaling in the stream, plain where the stream gives none (R88, R121). -/
def stallScaled (s : State) (i : Nat) : F32 :=
  match lookup s.hld.str.scales i with
  | some (g, o) => fAdd (fMul (stlOf s i).value g) o
  | none => (stlOf s i).value

/-- Bulk density of the density stall, when it serves (R88). -/
def densOf (s : State) (c : Nat) : Option F32 :=
  let x := stlOf s (regF s .mstCfg c 20 7)
  if regB s .mstCfg c 19 && x.q != .invalid && (x.flags &&& 0x04#8) == 0#8 then
    some (stallScaled s (regF s .mstCfg c 20 7))
  else none

/-! ## Moisture (R87) and flags (R91) -/

/-- What R87 gives for one set: ρ, M_2, M, flags, and whether M lies beyond the INVALID limits. -/
structure MoistLaw where
  rho : F32
  m2 : F32
  m : F32
  flags : BitVec 16
  hard : Bool
  deriving DecidableEq, Repr

/-- A flag of the record's 16 at bit k. -/
def mFlag (k : Nat) (b : Bool) : BitVec 16 := if b then BitVec.ofNat 16 (1 <<< k) else 0#16

/-- Steps 1 to 6 of R87 with the flags range_low, range_high, temp_range and density. -/
def moistLaw (s : State) (c : Nat) (t : List Byte) (e : List Cx) (tg : Option F32) : MoistLaw :=
  let ov := regF s .mstCfg c 17 2
  let p := if ov = 0 then gtPrim t else ov
  let e1 := fSub (ePr e p) (fOfNat 1)
  let psi := fDiv (eSec e p) e1
  let m0 := fAdd (fAdd (gtF t 32) (fMul (gtF t 36) psi)) (fMul (fMul (gtF t 40) psi) psi)
  let est := fDiv e1 (fAdd (gtF t 44) (fMul (gtF t 48) m0))
  let ext := densOf s c
  let rho := ext.getD est
  let ref := gtF t 52
  let fDens := (regB s .mstCfg c 19 && ext.isNone) || fLt (fMul (fRat 15 100) ref) (fAbs (fSub rho ref))
  let m1 := fAdd m0 (fMul (gtF t 56) (fSub rho ref))
  match tg with
  | none => { rho := rho, m2 := 0#32, m := 0#32, flags := mFlag 6 fDens, hard := false }
  | some v =>
    let dt := fSub v (gtF t 60)
    let m2 := fAdd (fAdd m1 (fMul (gtF t 64) dt)) (fMul (fMul (gtF t 68) dt) (fSub m1 (gtF t 72)))
    let fit := mstFit s c
    let m := fAdd (fAdd (fMul fit.1 m2) fit.2) (fRat (regI s .mstProc c 16 16) 100)
    let lo := gtF t 24
    let hi := gtF t 28
    { rho := rho, m2 := m2, m := m,
      flags := mFlag 6 fDens ||| mFlag 3 (fLt m lo) ||| mFlag 4 (fLt hi m) |||
               mFlag 5 (fLt v (gtF t 76) || fLt (gtF t 80) v),
      hard := fLt m (fSub lo (fOfNat 3)) || fLt (fAdd hi (fOfNat 5)) m }

/-- The frozen flag (R91). -/
def frozenFlag (s : State) (c : Nat) (e : List Cx) (tg : Option F32) : Bool :=
  let e120 := ePr e 3
  let d := fDiv (fSub (ePr e 0) e120) (fSub e120 (fOfNat 1))
  (match tg with | some v => fLt v (fNeg (fOfNat 1)) | none => false) || (fLe (fOfNat 2) e120 && fLt d (frozenDisp s c))

/-- The fouled latch after a set (R91): (a) an uncovered interval of 2.0 s, (b) the ratio in every set for 10 s; set when a condition
begins to hold, cleared by a later clean interval while (b) does not hold. -/
def foulStep (s : State) (c : Nat) (x : MoistCh) (stamp : Nat) (e : List Cx) (unc : Bool) : MoistCh :=
  let at_ := if unc then some (x.uncAt.getD stamp) else none
  let sum := if unc then fAdd (if x.uncAt.isSome then x.uncSum else 0#32) (ePr e 2) else 0#32
  let n := if unc then (if x.uncAt.isSome then x.uncN else 0) + 1 else 0
  let long := match at_ with | some a => decide (2000000000 ≤ stamp + setNs - a) | none => false
  let mean := fDiv sum (fOfNat n)
  let a := long && fLt (foulAir s c) mean
  let high := fLt (foulRatio s c) (fDiv (eSec e 0) (eSec e 2))
  let rAt := if high then some (x.ratioAt.getD stamp) else none
  let b := match rAt with | some r => decide (10000000000 ≤ stamp + setNs - r) | none => false
  let set := (a && !x.condA) || (b && !x.condB)
  let mine := unc && (x.uncLatched || (a && !x.condA))
  let clear := long && !mine && fLe mean (foulAirClear s c) && !b
  { x with uncAt := at_, uncSum := sum, uncN := n, ratioAt := rAt, condA := a, condB := b, uncLatched := mine,
           fouled := set || (x.fouled && !clear) }

/-- Flags of class INVALID and of class DEGRADED (R91). -/
def invalidMask : BitVec 16 := 0x3F03#16
def degradedMask : BitVec 16 := 0x80FC#16

/-- Quality of a set from its flags (R91). -/
def setQuality (f : BitVec 16) (hard : Bool) : Quality :=
  if f &&& invalidMask != 0#16 || hard then .invalid else if f &&& degradedMask != 0#16 then .degraded else .good

/-- The store that a set delivered at t takes, and the table (R94). -/
def calAt (x : MoistCh) (t : Nat) : Option CalStore := if t < x.calFrom then x.calPrev else x.cal
def tableAt (s : State) (c t : Nat) : Nat := if t < (chanOf s c).tabFrom then (chanOf s c).tabPrev else regF s .mstCfg c 4 6

/-- Everything MOIST_PROC computes from one set (R82 to R92), and the channel with its fouled latch. -/
def processSet (s : State) (c t : Nat) (m : SetRec) : MoistCh × SetRes :=
  let x := chanOf s c
  let ks := refFactors s m
  let gc := gammaC ks m
  let k := calAt x t
  let tab := grainOf s (tableAt s c t)
  let okTab := gtValid tab
  let tg := grainTemp s m
  let rfSet := m.flags.toNat.testBit 0 || m.flags.toNat.testBit 1 || ks.any (fun v => Cx.gt (Cx.sub v Cx.one) (fRat 20 100))
  let base := tg.2.2 ||| mFlag 10 k.isNone ||| mFlag 11 (!okTab) ||| mFlag 13 (m.flags.toNat.testBit 5) |||
              mFlag 14 (m.flags.toNat.testBit 4)
  match k with
  | none =>
    let f := base ||| mFlag 9 rfSet ||| mFlag 2 x.fouled
    (x, { stamp := m.stamp, coord := m.coord, m2 := 0#32, m := 0#32, tg := tg.1, rho := 0#32, gammaC := gc, eps := [],
          q := setQuality f false, flags := f })
  | some cal =>
    let gs := (upTo 4).map (fun f => gammaProbe cal f (cxAt gc f))
    let e := (upTo 4).map (fun f => epsOf (mstC0 s c) (mstCf s c k) f (cxAt gs f))
    let unc := fLt (ePr e 2) (uncoverEps s c)
    let y := foulStep s c x m.stamp e unc
    let rf := rfSet || gs.any (fun g => Cx.gt g (fRat 102 100))
    let l := if okTab then moistLaw s c tab e tg.2.1 else { rho := 0#32, m2 := 0#32, m := 0#32, flags := 0#16, hard := false }
    let f := base ||| mFlag 9 rf ||| mFlag 0 unc ||| mFlag 1 (frozenFlag s c e tg.2.1) ||| mFlag 2 y.fouled ||| l.flags
    (y, { stamp := m.stamp, coord := m.coord, m2 := l.m2, m := l.m, tg := tg.1, rho := l.rho, gammaC := gc, eps := e,
          q := setQuality f l.hard, flags := f })

/-! ## Averages of calibration and capture (R89, R90) -/

/-- A running operation takes a set: a standard sums Γ_c, a capture sums what its slot will hold. -/
def opTake (x : MoistCh) (r : SetRes) (ta : Int) : MoistCh :=
  match x.op with
  | none => x
  | some (.capture _) =>
    if x.left = 0 then x
    else
      let unc := r.flags.toNat.testBit 0
      if r.q = .invalid then { x with left := x.left - 1, anyUncovered := x.anyUncovered || unc }
      else { x with left := x.left - 1, good := x.good + 1, accM2 := fAdd x.accM2 r.m2, accTg := fAdd x.accTg r.tg,
                    accRho := fAdd x.accRho r.rho, accStamp := x.accStamp + r.stamp, accCoord := x.accCoord + r.coord,
                    anyUncovered := x.anyUncovered || unc }
  | some _ =>
    if x.left = 0 then x
    else { x with left := x.left - 1, accCoord := x.accCoord + ta, acc := (upTo 4).map (fun f => Cx.add (cxAt x.acc f) (cxAt r.gammaC f)) }

/-- Processes one delivered set. -/
def takeSet (s : State) (c : Nat) (p : Nat × SetRec) : State :=
  let r := processSet s c p.1 p.2
  let y := opTake r.1 r.2 p.2.tAisle
  setChan s c { y with win := ((p.1, r.2) :: y.win).take 1024 }

/-! ## The output (R93) -/

/-- Mean of a list of singles, summed in the list's order. -/
def meanF (l : List F32) : F32 := fDiv (l.foldl fAdd 0#32) (fOfNat l.length)

/-- Standard deviation of a window above a limit, on the squares (R91 noisy). DESIGN CHOICE (log entry 36): the population's, with the
number of sets as divisor; R91 does not say which. -/
def noisyOver (l : List F32) (lim : F32) : Bool :=
  let m := meanF l
  decide (16 ≤ l.length) && fLt (fMul lim lim) (meanF (l.map (fun x => fMul (fSub x m) (fSub x m))))

/-- The window: the most recent N sets delivered since it was emptied, newest first (R93, R94). -/
def mstWindow (s : State) (c : Nat) : List SetRes :=
  let x := chanOf s c
  ((x.win.filter (fun p => decide (x.winFrom ≤ p.1))).take (2 ^ regF s .mstProc c 0 4)).map (·.2)

/-- The output of a run (R93): values held when no set of the window is non-INVALID. -/
def mstOutput (s : State) (c : Nat) : MoistCh :=
  let x := chanOf s c
  let w := mstWindow s c
  let ok := (w.filter (fun r => r.q != .invalid)).reverse
  let n := ok.length
  let fl := w.foldl (fun a r => a ||| r.flags) 0#16
  if n = 0 then
    { x with validSets := 0, out := { x.out with q := .invalid, flags := fl ||| 0x1000#16, channel := c } }
  else
    let noisy := noisyOver (ok.map (·.m)) (noiseLim s c)
    let deg := noisy || ok.any (fun r => r.q == .degraded) || decide (2 * n < 2 ^ regF s .mstProc c 0 4)
    { x with
      validSets := n,
      eps := (upTo 4).map (fun f => { re := meanF (ok.map (fun r => ePr r.eps f)), im := meanF (ok.map (fun r => eSec r.eps f)) }),
      out := { stamp := (ok.foldl (fun a r => a + r.stamp) 0) / n, coord := Int.fdiv (ok.foldl (fun a r => a + r.coord) 0) n,
               moisture := meanF (ok.map (·.m)), tGrain := meanF (ok.map (·.tg)), density := meanF (ok.map (·.rho)),
               q := if deg then .degraded else .good, flags := fl ||| mFlag 7 noisy, channel := c } }

/-- A MOIST_PROC run (R87, R93): the sets delivered before the boundary, in order, then the output and its record. A set delivered in
the boundary's clock cycle is of the next input set (R24). -/
def runMoist (s : State) (i : Nat) (x : Inst) : State :=
  let c := x.idx
  let mine := fun (p : Nat × SetRec) => decide (p.1 < s.frame * frameNs)
  let sets := (chanOf s c).inbox.filter mine
  let s1 := setChan s c { chanOf s c with inbox := (chanOf s c).inbox.filter (fun p => !mine p) }
  let s2 := sets.foldl (fun s p => takeSet s c p) s1
  let s3 := setChan s2 c (mstOutput s2 c)
  postTo s3 i (x.dst 0) (.moist (chanOf s3 c).out)

/-! ## MST_CMD (R89, R90, R94, R96) -/

/-- Codes of MST_CAL_STATUS result. -/
def mstResult (s : State) (c op res : Nat) : State := setChan s c { chanOf s c with lastOp := op, result := res }

/-- Starts a standard's average of 400 sets; a command after an accepted commit opens a new session (R89). -/
def calStart (s : State) (c op : Nat) (k : MstOp) : State :=
  let x := chanOf s c
  if relit s then mstResult s c op 1
  else if x.op.isSome then mstResult s c op 1
  else
    let y := if x.spent then { x with pOpen := none, pShort := none, pLoad := none, pAir := none, spent := false } else x
    setChan s c { y with session := true, op := some k, left := 400, acc := [], accCoord := 0, lastOp := op, result := 7 }

/-- CAL_OPEN (R89). -/
def execCalOpen (c : Fin 32) (s : State) : Out := .next (calStart s c 1 .calOpen)
/-- CAL_SHORT (R89). -/
def execCalShort (c : Fin 32) (s : State) : Out := .next (calStart s c 2 .calShort)
/-- CAL_LOAD (R89). -/
def execCalLoad (c : Fin 32) (s : State) : Out := .next (calStart s c 3 .calLoad)
/-- CAL_AIR (R89). -/
def execCalAir (c : Fin 32) (s : State) : Out := .next (calStart s c 4 .calAir)

/-- CAL_AVERAGE_DONE (R89): 400 sets are averaged; the average is pending. -/
def execCalAverageDone (c : Fin 32) (s : State) : Out :=
  let x := chanOf s c
  let avg := x.acc.map (fun z => Cx.scale (fRat 1 400) z)
  let y := { x with op := none, result := 0, pTa := Int.fdiv x.accCoord 400 }
  .next (if x.left ≠ 0 then s
    else match x.op with
      | some .calOpen => setChan s c { y with pOpen := some avg }
      | some .calShort => setChan s c { y with pShort := some avg }
      | some .calLoad => setChan s c { y with pLoad := some avg }
      | some .calAir => setChan s c { y with pAir := some avg }
      | _ => s)

/-- Cable terms e00, e11, E from the three standards (R89). -/
def cableTerms (o sh l : List Cx) : List Cx × List Cx × List Cx :=
  let a := fun f => Cx.sub (cxAt o f) (cxAt l f)
  let c := fun f => Cx.sub (cxAt sh f) (cxAt l f)
  let e11 := fun f => Cx.div (Cx.add (a f) (c f)) (Cx.sub (a f) (c f))
  ((upTo 4).map (fun f => cxAt l f), (upTo 4).map e11, (upTo 4).map (fun f => Cx.mul (a f) (Cx.sub Cx.one (e11 f))))

/-- A modulus at most r. -/
def Cx.le (a : Cx) (r : F32) : Bool := fLe a.sq (fMul r r)

/-- The terms are within the acceptance limits (R89). -/
def termsOk (e00 e11 e : List Cx) : Bool :=
  (upTo 4).all (fun f => Cx.le (cxAt e00 f) (fRat 30 100) && fLe (fMul (fRat 25 100) (fRat 25 100)) (cxAt e f).sq &&
    Cx.le (cxAt e f) (fRat 110 100) && Cx.le (cxAt e11 f) (fRat 30 100))

/-- C_f from the air average at 40 MHz (R89), pF. -/
def airCf (s : State) (c : Nat) (k : CalStore) (air : List Cx) : F32 :=
  fSub (probeCap 2 (gammaProbe k 2 (cxAt air 2))).re (mstC0 s c)

/-- A channel's constants as its block's input area takes them (R96). -/
def MoistCh.const (x : MoistCh) : MoistConst :=
  { cal := x.cal, calPrev := x.calPrev, calFrom := x.calFrom, winFrom := x.winFrom, fits := x.fits }

/-- A channel with the constants of its block's input area (R96). -/
def MoistCh.withConst (x : MoistCh) (k : MoistConst) : MoistCh :=
  { x with cal := k.cal, calPrev := k.calPrev, calFrom := k.calFrom, winFrom := k.winFrom, fits := k.fits }

/-- The constants of a channel's block are written into its input area (R96); the wax records them (R442). -/
def noteConst (s : State) (c : Nat) : State :=
  match mstInst s c with | some (i, _) => addItem s (.const i (chanOf s c).const) | none => s

/-- Stores an accepted commit: in force from the first set delivered after the commit's frame; the window is emptied (R89, R94). -/
def calStore (s : State) (c : Nat) (k : CalStore) : State :=
  let x := chanOf s c
  let t := (frameOf s.now + 1) * frameNs
  noteConst (setChan s c { x with cal := some k, calPrev := calAt x s.now, calFrom := t, winFrom := t, session := false, spent := true,
                                  lastOp := 5, result := 0 }) c

/-- Accepts or rejects computed terms (R89). -/
def calTry (s : State) (c : Nat) (k : CalStore) (ok : Bool) (air : List Cx) : State :=
  let cf := airCf s c k air
  if ok && fLe 0#32 cf && fLe cf (fOfNat 20) then calStore s c { k with cf := cf } else mstResult s c 5 2

/-- cal_commit (R89): full, air-only, CAL_REJECT or SEQUENCE. -/
def calCommit (s : State) (c : Nat) : State :=
  let x := chanOf s c
  if relit s then mstResult s c 5 1
  else if x.op.isSome then mstResult s c 5 1
  else if x.spent then mstResult s c 5 6
  else
    match x.pOpen, x.pShort, x.pLoad, x.pAir with
    | some o, some sh, some l, some a =>
      let e := cableTerms o sh l
      calTry s c { e00 := e.1, e11 := e.2.1, e := e.2.2, cf := 0#32, ta := x.pTa } (termsOk e.1 e.2.1 e.2.2) a
    | none, none, none, some a =>
      match x.cal with
      | some k => calTry s c { k with ta := x.pTa } true a
      | none => mstResult s c 5 6
    | _, _, _, _ => mstResult s c 5 6

/-- CAL_COMMIT (R89). -/
def execCalCommit (c : Fin 32) (s : State) : Out := .next (calCommit s c)

/-- cal_abort (R89): the session and its averages end; a running standard ends, a running capture goes on. -/
def calAbort (s : State) (c : Nat) : State :=
  let x := chanOf s c
  if relit s then mstResult s c 6 1
  else
    let cap := match x.op with | some (.capture _) => true | _ => false
    setChan s c { x with session := false, spent := false, pOpen := none, pShort := none, pLoad := none, pAir := none,
                         op := if cap then x.op else none, lastOp := 6, result := 0 }

/-- CAL_ABORT (R89). -/
def execCalAbort (c : Fin 32) (s : State) : Out := .next (calAbort s c)

/-- A standard's average is running (R89). -/
def calRuns (x : MoistCh) : Bool := match x.op with | none => false | some (.capture _) => false | some _ => true

/-- capture (R90): averages the next 800 sets; BUSY while another operation runs or a calibration session is open (R94). -/
def mstCapture (s : State) (c slot : Nat) : State :=
  let x := chanOf s c
  if relit s || x.op.isSome || x.session then mstResult s c 7 1
  else setChan s c { x with op := some (.capture slot), left := 800, good := 0, anyUncovered := false, accM2 := 0#32, accTg := 0#32,
                            accRho := 0#32, accStamp := 0, accCoord := 0, lastOp := 7, result := 7 }

/-- CAPTURE (R90). -/
def execCapture (c : Fin 32) (slot : Fin 32) (s : State) : Out := .next (mstCapture s c slot)

/-- A channel's sample slot. -/
def sampleOf (x : MoistCh) (k : Nat) : Sample := spGet Sample.empty x.samples k

/-- CAPTURE_DONE (R90): 800 sets are taken; NO_COVER with fewer than 600 good ones or any uncovered one. DESIGN CHOICE (log entry 36): a
slot that already holds a laboratory value keeps it; R90 does not say. -/
def execCaptureDone (c : Fin 32) (s : State) : Out :=
  let x := chanOf s c
  .next (match x.op with
    | some (.capture k) =>
      if x.left ≠ 0 then s
      else if x.good < 600 ∨ x.anyUncovered = true then setChan s c { x with op := none, result := 5 }
      else
        let n := fOfNat x.good
        let p : Sample := { sampleOf x k with m2 := fDiv x.accM2 n, tg := fDiv x.accTg n, rho := fDiv x.accRho n,
                                              stamp := x.accStamp / x.good, coord := Int.fdiv x.accCoord x.good, captured := true }
        setChan s c { x with op := none, result := 0, samples := spSet Sample.empty x.samples k p }
    | _ => s)

/-- lab_write (R90): MST_LAB into the slot. -/
def labWrite (s : State) (c k : Nat) : State :=
  let x := chanOf s c
  if relit s then mstResult s c 8 1
  else setChan s c { x with lastOp := 8, result := 0,
                            samples := spSet Sample.empty x.samples k { sampleOf x k with lab := some (regW s .mstLab c) } }

/-- LAB_WRITE (R90). -/
def execLabWrite (c : Fin 32) (slot : Fin 32) (s : State) : Out := .next (labWrite s c slot)

/-- The pairs (M_2, M_lab) of the slots that hold both (R90). -/
def labPairs (x : MoistCh) : List (F32 × F32) :=
  x.samples.filterMap (fun p => if p.2.captured then p.2.lab.map (fun l => (p.2.m2, l)) else none)

/-- Least squares, or the bias-only fit (R90). -/
def fitOf (ps : List (F32 × F32)) : F32 × F32 :=
  let xs := ps.map (·.1)
  let hi := xs.foldl fMax (xs.headD 0#32)
  let lo := xs.foldl fMin (xs.headD 0#32)
  if ps.length < 3 || fLt (fSub hi lo) (fOfNat 2) then (fOfNat 1, meanF (ps.map (fun p => fSub p.2 p.1)))
  else
    let mx := meanF xs
    let my := meanF (ps.map (·.2))
    let sxy := ps.foldl (fun a p => fAdd a (fMul (fSub p.1 mx) (fSub p.2 my))) 0#32
    let sxx := ps.foldl (fun a p => fAdd a (fMul (fSub p.1 mx) (fSub p.1 mx))) 0#32
    let k := fDiv sxy sxx
    (k, fSub my (fMul k mx))

/-- A fit within its limits (R90). -/
def fitOk (f : F32 × F32) : Bool := fLe (fRat 80 100) f.1 && fLe f.1 (fRat 125 100) && fLe (fAbs f.2) (fOfNat 3)

/-- fit (R90): stored for the selected table, in place of the table selected least recently when four are stored. -/
def mstDoFit (s : State) (c : Nat) : State :=
  let x := chanOf s c
  if relit s || calRuns x || x.session then mstResult s c 9 1
  else
    let ps := labPairs x
    if ps.isEmpty then mstResult s c 9 3
    else
      let f := fitOf ps
      if fitOk f then
        let t := regF s .mstCfg c 4 6
        noteConst (setChan s c { x with lastOp := 9, result := 0,
                                        fits := ({ table := t, s := f.1, b := f.2 } :: x.fits.filter (fun y => y.table != t)).take 4 }) c
      else mstResult s c 9 4

/-- FIT (R90). -/
def execFit (c : Fin 32) (s : State) : Out := .next (mstDoFit s c)

/-- clear_samples (R90). -/
def clearSamples (s : State) (c : Nat) : State :=
  let x := chanOf s c
  if relit s then mstResult s c 10 1
  else setChan s c { x with lastOp := 10, result := 0, samples := [] }

/-- CLEAR_SAMPLES (R90). -/
def execClearSamples (c : Fin 32) (s : State) : Out := .next (clearSamples s c)

/-- MST_CMD as the register takes it (R97); op 0 has no effect, 11 to 15 are refused before. -/
def mstCmd (s : State) (c : Nat) (v : W32) : State :=
  let k := fld v 8 5
  match fld v 0 4 with
  | 1 => calStart s c 1 .calOpen
  | 2 => calStart s c 2 .calShort
  | 3 => calStart s c 3 .calLoad
  | 4 => calStart s c 4 .calAir
  | 5 => calCommit s c
  | 6 => calAbort s c
  | 7 => mstCapture s c k
  | 8 => labWrite s c k
  | 9 => mstDoFit s c
  | 10 => clearSamples s c
  | _ => s

/-- Selecting a table brings its stored fit to the front (R90). -/
def selectTable (s : State) (c t : Nat) : State :=
  let x := chanOf s c
  match x.fits.find? (fun y => y.table == t) with
  | some f => setChan s c { x with fits := f :: x.fits.filter (fun y => y.table != t) }
  | none => s

end Sys2Proof.Machine
end

