-- ==== Sys2Proof/Machine/Columns.lean ====
section
/-!
DEFINITION. Columns and parcels (R98 to R117): step index and probes, movement, placing of measurements, closes, staleness,
commands, checkpoints and restore.
-/
namespace Sys2Proof

/-- CRC-32 of a checkpoint image over its records and the rest of its header (R112), of an image whose crc field is 0. The header's
layout within its 256 bytes is not given, so the CRC is a free function of the image (log entry 7). -/
opaque Config.imageCrc : Machine.Ckpt → W32

/-- CRC of a drying record (R136), of a record whose crc field is 0; its layout within its 64 bytes is not given (log entry 7). -/
opaque Config.dryCrc : Machine.DryRec → W32

end Sys2Proof

namespace Sys2Proof.Machine

open Sys2Proof

/-! ## A column's parameters (R98, R117) -/

/-- The column is defined (PCL_CFG enable). -/
def colOn (s : State) (c : Nat) : Bool := regB s .pclCfg c 0
/-- L, parcels. -/
def colLen (s : State) (c : Nat) : Nat := regF s .pclCfg c 8 12 + 1
/-- P, ticks. -/
def colP (s : State) (c : Nat) : Nat := regF s .pclPlen c 0 24
/-- The column's wick. -/
def colWick (s : State) (c : Nat) : Nat := regF s .pclCfg c 1 6
/-- O of the stream, ticks. -/
def colO (s : State) (c : Nat) : Int := signed 48 (reg64 s .pclOriginLo .pclOriginHi c % 2 ^ 48)
/-- The origin in force: O and the movement that a restore left unapplied (R113). -/
def colOrg (s : State) (c : Nat) : Int := colO s c + (colOf s c).shift
/-- in_en, dis_en. -/
def colIn (s : State) (c : Nat) : Bool := regB s .pclProbes c 5
def colDis (s : State) (c : Nat) : Bool := regB s .pclProbes c 13
/-- The inlet probe's offset; 0, the reference line, without an inlet probe (R107). -/
def inOfs (s : State) (c : Nat) : Nat := if colIn s c then (regW s .pclInOfs c).toNat else 0
/-- The discharge probe's offset. -/
def disOfs (s : State) (c : Nat) : Nat := (regW s .pclDisOfs c).toNat
/-- Zone of a position (R109): the last of the column's zones that starts at it or above it. -/
def zoneAt (s : State) (c p : Nat) : Nat :=
  (upTo (regF s .pclCfg c 20 3 + 1)).foldl (fun z i => if regF s .pclZone (8 * c + i) 0 12 ≤ p then i else z) 0
/-- Type of a zone: 0 HOLD, 1 HEAT, 2 COOL, 3 TEMPER. -/
def zoneType (s : State) (c z : Nat) : Nat := regF s .pclZone (8 * c + z) 12 2

/-- Step index of a count (R99). -/
def stepIdx (s : State) (c : Nat) (x : Int) : Int := Int.fdiv (x - colOrg s c) (colP s c)
/-- Serial at an offset for a count (R100, R105). -/
def serialAt (s : State) (c : Nat) (x : Int) (o : Nat) : Int := Int.fdiv (x - colOrg s c - o) (colP s c)
/-- Serial of a measurement by its coordinate in Q47.8 (R100). -/
def serialOfCoord (s : State) (c : Nat) (x : Int) (o : Nat) : Int := Int.fdiv (x - 256 * (colOrg s c + o)) (256 * colP s c)

/-! ## Records (R109) -/

/-- A flag of a parcel record. -/
def Parcel.has (p : Parcel) (k : Nat) : Bool := p.flags.toNat.testBit k
/-- Sets or clears a flag. -/
def Parcel.flag (p : Parcel) (k : Nat) (b : Bool) : Parcel :=
  { p with flags := if b then p.flags ||| BitVec.ofNat 16 (1 <<< k) else p.flags &&& ~~~ (BitVec.ofNat 16 (1 <<< k)) }

/-- A new parcel at position 0 (R102 step 3). -/
def Parcel.fresh (serial : Int) (t : Nat) : Parcel :=
  { Parcel.absent with serial := (wrapN 32 serial : Nat), kind := 1, tEntry := t, mModel := fNaN, tModel := fNaN, exposure := fNaN, mPred := fNaN }
/-- An UNKNOWN parcel (R103 step 4). -/
def Parcel.unknown (serial : Int) : Parcel :=
  { Parcel.absent with serial := (wrapN 32 serial : Nat), kind := 2, mIn := fNaN, tIn := fNaN, rhoIn := fNaN, mDis := fNaN, tDis := fNaN,
                       mModel := fNaN, tModel := fNaN, exposure := fNaN, mPred := fNaN }

/-- Table and shadow in one list: index = position, the shadow from L on (R102). -/
def Column.all (x : Column) : List Parcel := x.table ++ x.shadow
/-- The parcel at an index of the two. -/
def Column.at_ (x : Column) (i : Nat) : Option Parcel := x.all[i]?
/-- Changes the parcel at an index. -/
def Column.mod (x : Column) (i : Nat) (f : Parcel → Parcel) : Column :=
  let n := x.table.length
  if i < n then { x with table := setAt x.table i (f (x.table.getD i Parcel.absent)) }
  else { x with shadow := setAt x.shadow (i - n) (f (x.shadow.getD (i - n) Parcel.absent)) }
/-- Changes every parcel of table and shadow. -/
def Column.mapAll (x : Column) (f : Parcel → Parcel) : Column := { x with table := x.table.map f, shadow := x.shadow.map f }
/-- Index of a serial, if the column holds it (R99). -/
def Column.idx (x : Column) (serial : Int) : Option Nat :=
  let p := x.k - serial
  if 0 ≤ p ∧ p < (x.table.length + x.shadow.length : Nat) then some p.toNat else none

/-- The column is STALE (R110). -/
def colStale (x : Column) : Bool := x.table.any (fun p => p.has 5)
/-- Every parcel of table and shadow becomes stale (R110). -/
def makeStale (x : Column) : Column := x.mapAll (fun p => p.flag 5 true)

/-- Zones of the table and of the shadow (R109). -/
def setZones (s : State) (c : Nat) (x : Column) : Column :=
  { x with table := (x.table.zip (List.range x.table.length)).map (fun p => { p.1 with zone := zoneAt s c p.2 }),
           shadow := x.shadow.map (fun p => { p with zone := 255 }) }

/-! ## Movement (R101 to R103) -/

/-- A forward move by d > 0 (R102). -/
def moveDown (x : Column) (kNew : Int) (d len t : Nat) : Column :=
  let n := min d (len + 64)
  let new := (List.range n).map (fun (i : Nat) => Parcel.fresh (kNew - i) t)
  let all := new ++ (if d ≤ len + 64 then x.all else [])
  { x with k := kNew, table := all.take len, shadow := (all.drop len).take 64 }

/-- A backward move by j > 0 (R103). -/
def moveUp (x : Column) (kNew : Int) (j len : Nat) : Column :=
  let kept := x.all.drop j
  let back := (kept.zip (List.range kept.length)).map (fun p => if p.2 < len ∧ len ≤ p.2 + j then p.1.flag 6 true else p.1)
  let made := ((List.range len).drop kept.length).map (fun (p : Nat) => Parcel.unknown (kNew - p))
  let all := back ++ made
  { x with k := kNew, table := all.take len, shadow := (all.drop len).take 64, unknowns := satAdd 16 x.unknowns made.length }

/-- The column moves to a step index in one run (R101 to R103). -/
def moveTo (s : State) (c : Nat) (kNew : Int) (t : Nat) : State :=
  let x := colOf s c
  let d := kNew - x.k
  let len := colLen s c
  if d = 0 then s
  else if 0 < d then setCol s c (setZones s c (moveDown x kNew d.toNat len t))
  else
    let y := moveUp x kNew (-d).toNat len
    let made := decide (x.table.length + x.shadow.length < (-d).toNat + len)
    let s1 := setCol s c (setZones s c y)
    if made then stick s1 .pclStatus c 10 else s1

/-! ## Placing measurements (R104) -/

/-- A reopened parcel's new pass replaces the values of the earlier one (R105). -/
def clearPass (x : Column) (i : Nat) (serial : Int) (inlet : Bool) : Column :=
  if inlet then
    let settled := x.settled.contains serial
    let y := x.mod i (fun p => ((({ p with mIn := 0#32, tIn := 0#32, rhoIn := 0#32, nIn := 0, q := p.q / 4 * 4,
                                           kind := if settled then 1 else p.kind }).flag 3 false).flag 10 false))
    { y with reIn := y.reIn.filter (· != serial), uncovered := y.uncovered.filter (· != serial),
             settled := y.settled.filter (· != serial) }
  else
    let y := x.mod i (fun p => ({ p with mDis := 0#32, tDis := 0#32, nDis := 0, q := p.q % 4 }).flag 4 false)
    { y with reDis := y.reDis.filter (· != serial) }

/-- Running mean m + (x - m) / n in single precision (R104). -/
def runMean (m x : F32) (n : Nat) : F32 := fAdd m (fDiv (fSub x m) (fOfNat n))

/-- A GOOD or DEGRADED result enters its parcel's means and worst quality (R104). -/
def accumulate (p : Parcel) (r : MoistRes) (inlet : Bool) : Parcel :=
  if inlet then
    let n := satInc 16 p.nIn
    { p with nIn := n, mIn := runMean p.mIn r.moisture n, tIn := runMean p.tIn r.tGrain n, rhoIn := runMean p.rhoIn r.density n,
             q := p.q / 4 * 4 + max (p.q % 4) r.q.code }
  else
    let n := satInc 16 p.nDis
    { p with nDis := n, mDis := runMean p.mDis r.moisture n, tDis := runMean p.tDis r.tGrain n,
             q := p.q % 4 + 4 * max (p.q / 4 % 4) r.q.code }

/-- Places one result of a probe (R100, R104). -/
def placeResult (s : State) (c : Nat) (inlet : Bool) (r : MoistRes) : State :=
  let x := colOf s c
  let serial := serialOfCoord s c r.coord (if inlet then inOfs s c else disOfs s c)
  match x.idx serial with
  | none => stick (setCol s c { x with drops := satInc 16 x.drops }) .pclStatus c 9
  | some i =>
    let x1 := if (if inlet then x.reIn else x.reDis).contains serial then clearPass x i serial inlet else x
    let x2 := if r.flags.toNat.testBit 14 then x1.mod i (fun p => p.flag 9 true) else x1
    let x3 := if inlet && r.flags.toNat.testBit 0 && !x2.uncovered.contains serial then { x2 with uncovered := serial :: x2.uncovered } else x2
    setCol s c (if r.q = .invalid then x3 else x3.mod i (fun p => accumulate p r inlet))

/-- The probes of a result, by its channel: true inlet (R104). One channel may serve both (R98). -/
def probesOf (s : State) (c : Nat) (r : MoistRes) : List Bool :=
  (if colIn s c && r.channel == regF s .pclProbes c 0 5 then [true] else []) ++
  (if colDis s c && r.channel == regF s .pclProbes c 8 5 then [false] else [])

/-! ## Closes (R105 to R107) -/

/-- The parcel's kind at its inlet close (R106), noted for a reopening where it changes a NORMAL one. -/
def settleKind (x : Column) (i : Nat) (serial : Int) (kind : Nat) : Column :=
  let p := (x.at_ i).getD Parcel.absent
  let y := x.mod i (fun p => { p with kind := kind })
  if p.kind = 1 then { y with settled := serial :: y.settled } else y

/-- Settles a parcel at its inlet close on a column with an inlet probe, whatever its kind (R106). -/
def settleIn (s : State) (c : Nat) (x : Column) (i : Nat) (serial : Int) : Column :=
  let p := (x.at_ i).getD Parcel.absent
  let tab := regF s .mstCfg (regF s .pclProbes c 0 5) 4 6
  let y :=
    if 0 < p.nIn then { x with lastIn := some (p.mIn, p.tIn, p.rhoIn) }
    else if x.uncovered.contains serial then settleKind x i serial 3
    else
      match x.lastIn with
      | some (m, t, r) => x.mod i (fun p => { p with mIn := m, tIn := t, rhoIn := r }.flag 3 true)
      | none => settleKind (x.mod i (fun p => { p with mIn := fNaN, tIn := fNaN, rhoIn := fNaN })) i serial 2
  { y.mod i (fun p => { p with table := tab }) with uncovered := y.uncovered.filter (· != serial) }

/-- Settles a parcel at the inlet line of a column without an inlet probe, whatever its kind (R107). -/
def assumeIn (s : State) (c : Nat) (x : Column) (i : Nat) : Column :=
  x.mod i (fun p => { p.flag 10 true with
    mIn := regW s .pclAssumeM c, tIn := regW s .pclAssumeT c, rhoIn := regW s .pclAssumeRho c,
    table := regF s .pclAssumeTab c 0 6, nIn := 0, q := p.q / 4 * 4 })

/-- Closes a parcel at a probe and posts its report (R105). -/
def closeAt (s : State) (c inst : Nat) (serial : Int) (inlet : Bool) : State :=
  let x := colOf s c
  match x.idx serial with
  | none => s
  | some i =>
    let p := (x.at_ i).getD Parcel.absent
    let bit := if inlet then 0 else 1
    let x1 := if (if inlet then x.reIn else x.reDis).contains serial then clearPass x i serial inlet else x
    let x2 := x1.mod i (fun q => (if p.has bit then q.flag 2 true else q).flag bit true)
    let x3 :=
      if !inlet then x2.mod i (fun q => q.flag 4 (decide (q.nDis = 0)))
      else if colIn s c then settleIn s c x2 i serial
      else assumeIn s c x2 i
    let s1 := setCol s c x3
    match lookup s.hld.str.colReport c with
    | some b => keepPost s1 inst (plain b (.parcel ((x3.at_ i).getD Parcel.absent)))
    | none => s1

/-- Serials of the column in ascending order. -/
def Column.serials (x : Column) : List Int :=
  ((List.range (x.table.length + x.shadow.length)).map (fun (i : Nat) => x.k - (i : Int))).reverse

/-- Parcels that a backward movement reopens at the probes, before the run's measurements (R105, R108). -/
def reopen (s : State) (c : Nat) (count : Int) : State :=
  let x := colOf s c
  let a := serialAt s c count (inOfs s c)
  let b := serialAt s c count (disOfs s c)
  let re := fun (old new : Int) (l : List Int) => l ++ x.serials.filter (fun z => decide (new ≤ z) && decide (z < old) && !l.contains z)
  let y := if a < x.inSerial then { x with inSerial := a, reIn := re x.inSerial a x.reIn } else x
  setCol s c (if colDis s c ∧ b < x.disSerial then { y with disSerial := b, reDis := re x.disSerial b x.reDis } else y)

/-- The probes' serials after a movement: closes in ascending serial order, after the run's measurements (R105, R108). -/
def closeProbes (s : State) (c inst : Nat) (count : Int) : State :=
  let x := colOf s c
  let a := serialAt s c count (inOfs s c)
  let b := serialAt s c count (disOfs s c)
  let y := { x with inSerial := a, disSerial := if colDis s c then b else x.disSerial }
  x.serials.foldl (fun s z =>
    let s1 := if x.inSerial ≤ z ∧ z < a then closeAt s c inst z true else s
    if colDis s c ∧ x.disSerial ≤ z ∧ z < b then closeAt s1 c inst z false else s1) (setCol s c y)

/-! ## Commands, loss, states (R110, R111) -/

/-- Event of a column, with its COL_TRACK instance as the source. -/
def colEvent (s : State) (c : Nat) (e : EventName) (what : Nat := 0) : State := logEv s (srcInst s .colTrack c) e what

/-- accept (R111). -/
def colAccept (s : State) (c : Nat) : State :=
  colEvent (setCol s c ((colOf s c).mapAll (fun p => if p.has 5 then (p.flag 5 false).flag 7 true else p))) c .columnAccept c
/-- set_empty (R106, R111). -/
def colSetEmpty (s : State) (c : Nat) : State :=
  let x := (colOf s c).mapAll (fun p => { p with kind := 3 }.flag 5 false)
  colEvent (setCol s c { x with lastIn := none }) c .columnSetEmpty c
/-- clear_diag (R117). -/
def colClearDiag (s : State) (c : Nat) : State := setCol s c { colOf s c with drops := 0, unknowns := 0 }

/-- The column ends: DISABLED (R111). -/
def colEnd (s : State) (c : Nat) : State :=
  colEvent (setCol s c { colOf s c with st := .disabled, table := [], shadow := [] }) c .columnDisabled c
/-- discard: only in DRAINING (R117). -/
def colDiscard (s : State) (c : Nat) : State := if (colOf s c).st = .draining then colEnd s c else s

/-- An image with its CRC (R112). -/
def Ckpt.seal (m : Ckpt) : Ckpt := { m with crc := Config.imageCrc { m with crc := 0#32 } }
/-- Its CRC is good (R114). -/
def Ckpt.sound (m : Ckpt) : Bool := m.crc == Config.imageCrc { m with crc := 0#32 }

/-- The column's state as an image of its capture time (R112). -/
def colImage (s : State) (c t : Nat) : Ckpt :=
  let x := colOf s c
  let w := colWick s c
  let m : Ckpt :=
    { col := c, hash := s.hld.str.hash, plen := colP s c, len := colLen s c, origin := colO s c, shift := x.shift, wick := w, k := x.k,
      countCk := (wickOf s w).count, losses := (wickOf s w).losses, auxResets := s.snf.auxResets, time := t,
      shadowN := x.shadow.length, table := x.table, shadow := x.shadow, reIn := x.reIn, reDis := x.reDis, crc := 0#32 }
  m.seal

/-- A column that tracks parcels. -/
def colLive (x : Column) : Bool := x.st == .tracking || x.st == .held || x.st == .draining

/-- The adapted model of a column as a drying record (R136). -/
def Dry.record (d : Dry) (tab : Nat) : DryRec :=
  let r : DryRec := { theta := d.theta, pTheta := d.pTheta, beta := d.beta, rOut := d.rOut, st := d.st, source := d.source,
                      hist := d.hist, table := tab, coolSince := d.coolSince, crc := 0#32 }
  { r with crc := Config.dryCrc r }
/-- The CRC of a drying record is good (R136). -/
def DryRec.sound (r : DryRec) : Bool := r.crc == Config.dryCrc { r with crc := 0#32 }

/-- The drying record of a column, as `b` shows it, goes to MRAM in place of the older of its two copies (R136). -/
def dryCapture (b s : State) (c : Nat) : State :=
  match (dryOf b c).table with
  | none => s
  | some tab => setDry s c { dryOf s c with recs := ((dryOf b c).record tab :: (dryOf s c).recs).take 2 }

/-- Captures a column and its drying record at t, as `b` shows them (R112, R136). -/
def colCapture (b s : State) (c t : Nat) : State :=
  let x := colOf s c
  if colLive (colOf b c) then dryCapture b (setCol s c { x with writing := x.writing ++ [colImage b c t] }) c else s

/-- The state at t0 of the frame that holds t: before its runs, where they are made (R112). -/
def atFrame (s : State) (t : Nat) : State := if s.framed ∧ s.frame = frameOf t then t0 s else s

/-- A host command as the run applies it (R108, R111). -/
def colCmd (s : State) (c : Nat) (k : ColCmd) : State :=
  match k with
  | .accept => colAccept s c
  | .setEmpty => colSetEmpty s c
  | .checkpoint => colCapture (t0 s) s c (s.frame * frameNs)
  | .clearDiag => colClearDiag s c
  | .discard => colDiscard s c

/-- The end of a loss that began with the snapshot of time `from_` (R110, R111). -/
def colRecover (s : State) (c from_ : Nat) : State :=
  let x := colOf s c
  let dur := (wickOf s (colWick s c)).snap.snapTime - from_
  let y := { x with st := if x.st = .held then .tracking else x.st, lostAt := none }
  let z := if regF s .pclTol c 16 14 * msNs < dur then makeStale y else { y with table := y.table.map (fun p => p.flag 9 true) }
  stick (setCol s c z) .pclStatus c 6

/-- HELD and its end by the wick's snapshot; a DRAINING column holds and recovers as before its removal (R110, R111). DEDUCED (log entry 37):
the loss lasts from the first snapshot that shows LOST to the first that does not, since COL_TRACK reads only its input sets (R116). -/
def colLoss (s : State) (c : Nat) : State :=
  let x := colOf s c
  let r := (wickOf s (colWick s c)).snap
  match r.st, x.lostAt with
  | .lost, none =>
    let s1 := setCol s c { x with lostAt := some r.snapTime, st := if x.st = .tracking then .held else x.st }
    if x.st = .tracking then colEvent s1 c .columnHeld c else s1
  | .lost, some _ => s
  | _, some from_ => colRecover s c from_
  | _, none => s

/-- A DRAINING column that holds no grain any more ends (R111). -/
def colDrain (s : State) (c : Nat) : State :=
  let x := colOf s c
  if x.st = .draining ∧ x.table.all (fun p => p.kind == 3 || p.kind == 0) = true then colEnd s c else s

/-- Entry into STALE and refill write an event (R111). -/
def staleEvents (s : State) (c : Nat) (was : Bool) : State :=
  let now_ := colStale (colOf s c)
  if now_ && !was then colEvent s c .columnStale c
  else if was && !now_ then colEvent s c .columnRefill c
  else s

/-- The moisture results of the input set, in arrival order of each basket, at most the b that the cost of the block counts of each
(R24, R104, R154). -/
def colResults (s : State) (x : Inst) : State × List MoistRes :=
  (upTo x.ins.length).foldl (fun a k => match x.src k with
    | .basket b =>
      let r := takeMsgs a.1 b (max 1 (colB a.1.hld.str.insts x))
      (r.1, a.2 ++ r.2.filterMap (fun m => match m with | .moist v => some v | _ => none))
    | _ => a) (s, [])

/-- A COL_TRACK run (R101, R108): command, loss, movement, measurements, closes. -/
def runCol (s : State) (inst : Nat) (x : Inst) : State :=
  let c := x.idx
  let was := colStale (colOf s c)
  let cmds := (colOf s c).cmds
  let s1 := cmds.foldl (fun s k => colCmd s c k) (setCol s c { colOf s c with cmds := [] })
  let mid := if cmds.isEmpty then was else colStale (colOf s1 c)
  let r := colResults s1 x
  if !colLive (colOf r.1 c) then r.1
  else
    let s2 := colLoss r.1 c
    let w := (wickOf s2 (colWick s c)).snap
    let n := snapCount s2 (colWick s c) w
    let moves := w.st != .lost && w.st != .disabled && !pairFollows s2
    let s3 := if moves then reopen (moveTo s2 c (stepIdx s2 c n) (s.frame * frameNs)) c n else s2
    let s4 := r.2.foldl (fun s m => (probesOf s c m).foldl (fun s p => placeResult s c p m) s) s3
    let s5 := if moves then closeProbes s4 c inst n else s4
    colDrain (staleEvents s5 c mid) c

/-- A command of PCL_CMD joins the next input set: it acts first in the run of the frame that carries it (R108, R111). -/
def pclTake (s : State) (c : Nat) (k : ColCmd) : State := setCol s c { colOf s c with cmds := (colOf s c).cmds ++ [k] }

/-- PCL_ACCEPT (R111). -/
def execPclAccept (c : Fin 16) (s : State) : Out := .next (rowCmd s .pclCmd c 1#32 (fun s => pclTake s c .accept))
/-- PCL_SET_EMPTY (R111). -/
def execPclSetEmpty (c : Fin 16) (s : State) : Out := .next (rowCmd s .pclCmd c 2#32 (fun s => pclTake s c .setEmpty))
/-- PCL_CHECKPOINT_NOW (R112, R117). -/
def execPclCheckpointNow (c : Fin 16) (s : State) : Out := .next (rowCmd s .pclCmd c 3#32 (fun s => pclTake s c .checkpoint))
/-- PCL_CLEAR_DIAG (R117). -/
def execPclClearDiag (c : Fin 16) (s : State) : Out := .next (rowCmd s .pclCmd c 4#32 (fun s => pclTake s c .clearDiag))
/-- PCL_DISCARD (R111, R117). -/
def execPclDiscard (c : Fin 16) (s : State) : Out := .next (rowCmd s .pclCmd c 5#32 (fun s => pclTake s c .discard))

/-- PCL_CMD as the register takes it (R117). -/
def pclCmd (s : State) (c : Nat) (v : W32) : State :=
  let q := pclTake s c
  match fld v 0 3 with
  | 1 => q .accept
  | 2 => q .setEmpty
  | 3 => q .checkpoint
  | 4 => q .clearDiag
  | 5 => q .discard
  | _ => s

/-! ## upd and the mirror backlog (R108, R109, R115) -/

/-- Two records of one serial differ in a field other than upd. -/
def Parcel.differs (p q : Parcel) : Bool := decide ({ p with upd := 0 } ≠ { q with upd := 0 })

/-- Records of a column after a frame's runs: one that was there before and has changed counts upd once (R109). The second part is the
serials of the changed and new ones (R115). -/
def touchCol (old new : Column) : Column × List Int :=
  let d := new.k - old.k
  let was := old.all
  let all := new.all
  let step := fun (i : Nat) (p : Parcel) =>
    let j : Int := (i : Int) - d
    match (if j < 0 then none else was[j.toNat]?) with
    | some q => if p.differs q then ({ p with upd := (q.upd + 1) % 65536 }, true) else (p, false)
    | none => (p, true)
  let res := (all.zip (List.range all.length)).map (fun x => step x.2 x.1)
  let marks := ((res.zip (List.range res.length)).filter (fun x => x.1.2)).map (fun x => new.k - (x.2 : Int))
  let recs := res.map (·.1)
  ({ new with table := recs.take new.table.length, shadow := recs.drop new.table.length }, marks)

/-- Changed parcel records wait for the mirror, each once, in order of first change (R115). -/
def noteDirty (s : State) (c : Nat) (l : List Int) : State :=
  { s with col := { s.col with dirty := s.col.dirty ++ (l.map (fun z => (c, z))).filter (fun p => !s.col.dirty.contains p) } }

/-- `touchCol` for every column, against the columns before. -/
def touchCols (before : List (Nat × Column)) (s : State) : State :=
  forEach (s.col.c.map (·.1)) s (fun s c =>
    let old := spGet Column.reset before c
    let new := colOf s c
    if old.table = new.table ∧ old.shadow = new.shadow then s
    else
      let r := touchCol old new
      noteDirty (setCol s c r.1) c r.2)

/-! ## Checkpoints (R112) -/

/-- ckpt_s, ns. -/
def ckptNs (s : State) (c : Nat) : Nat := regF s .pclCkpt c 0 10 * secNs

/-- A capture instant of column c (R112): multiples of ckpt_s seconds plus c × ckpt_s / 16 seconds. -/
def captureDue (s : State) (c t : Nat) : Bool :=
  let p := ckptNs s c
  decide (0 < p) && decide (c * p / 16 ≤ t) && decide ((t - c * p / 16) % max 1 p = 0)

/-- CHECKPOINT_CAPTURE (R112). -/
def execCheckpointCapture (c : Fin 16) (t : Ns) (s : State) : Out :=
  let s := setNow s t
  .next (if coreRuns s ∧ captureDue s c t = true then colCapture (atFrame s t) s c t else s)

/-- CHECKPOINT_WRITE_COMPLETE (R112): the image written last becomes valid; after a failed write only the other one is. -/
def execCheckpointWriteComplete (c : Fin 16) (ok : Bool) (s : State) : Out :=
  let x := colOf s c
  .next (match x.writing with
    | [] => s
    | m :: rest =>
      let img := if ok then some m else none
      let y := if x.nextB then { x with writing := rest, imgB := img } else { x with writing := rest, imgA := img }
      if ok then setCol s c { y with nextB := !x.nextB }
      else colEvent (stick (setCol s c y) .pclStatus c 7) c .ckptFault c)

/-! ## Restore (R113, R114) -/

/-- An image the column can use (R114). -/
def imgUsable (s : State) (c : Nat) (m : Ckpt) : Bool :=
  m.sound && m.col == c && m.plen == colP s c && m.len == colLen s c && m.origin == colO s c && m.wick == colWick s c

/-- The usable image of the later capture (R113). -/
def bestImage (s : State) (c : Nat) : Option Ckpt :=
  let x := colOf s c
  let ok := fun (m : Option Ckpt) => m.filter (imgUsable s c)
  match ok x.imgA, ok x.imgB with
  | some a, some b => if a.time < b.time then some b else some a
  | some a, none => some a
  | none, b => b

/-- The unobserved movement is beyond tolerance (R113). -/
def beyondTol (s : State) (c : Nat) (m : Ckpt) : Bool :=
  let w := colWick s c
  let u := (wickOf s w).count - m.countCk
  decide (regF s .pclTol c 0 8 * colP s c < 4 * u.natAbs) || decide (s.snf.auxResets ≠ m.auxResets) ||
  decide ((wickOf s w).losses ≠ m.losses) || regB s .wckStatus w 12 || regB s .wckStatus w 11

/-- A parcel that entered unobserved below the inlet probe becomes UNKNOWN (R113). -/
def unobserved (s : State) (c : Nat) (serial : Int) : State :=
  let x := colOf s c
  match x.idx serial with
  | some i => stick (setCol s c { x.mod i (fun p => { Parcel.unknown serial with zone := p.zone }) with unknowns := satInc 16 x.unknowns }) .pclStatus c 10
  | none => s

/-- A column without a usable image: UNKNOWN parcels, STALE (R114). -/
def restoreNone (s : State) (c : Nat) : State :=
  let x := colOf s c
  let n := (wickOf s (colWick s c)).count
  let len := colLen s c
  let s0 := setCol s c { x with shift := 0 }
  let k := stepIdx s0 c n
  let y := { x with st := .tracking, k := k, table := (List.range len).map (fun (p : Nat) => Parcel.unknown (k - (p : Int))), shadow := [],
                    noImage := true, restored := false, shift := 0, unknowns := satAdd 16 x.unknowns len,
                    inSerial := serialAt s0 c n (inOfs s c), disSerial := serialAt s0 c n (disOfs s c), lastIn := none }
  stick (setCol s0 c (makeStale (setZones s c y))) .pclStatus c 10

/-- A column restored from an image (R113). -/
def restoreImage (s : State) (c inst : Nat) (m : Ckpt) : State :=
  let x := colOf s c
  let n := (wickOf s (colWick s c)).count
  let beyond := beyondTol s c m
  let org := m.origin + m.shift
  let p := colP s c
  let y := { x with st := .tracking, k := m.k, table := m.table.map (fun q => q.flag 8 true), shadow := m.shadow.map (fun q => q.flag 8 true),
                    noImage := false, restored := !beyond, shift := m.shift + (if beyond then n - m.countCk else 0),
                    inSerial := Int.fdiv (m.countCk - org - inOfs s c) p, disSerial := Int.fdiv (m.countCk - org - disOfs s c) p,
                    lastIn := none, reIn := m.reIn, reDis := m.reDis }
  let s1 := setCol s c (setZones s c y)
  if beyond then setCol s1 c (makeStale (colOf s1 c))
  else
    let s2 := moveTo s1 c (stepIdx s1 c n) s1.now
    let passed := serialAt s2 c n (inOfs s c)
    let new := (colOf s2 c).serials.filter (fun z => decide (m.k < z) && decide (z < passed))
    closeProbes (reopen (new.foldl (fun s z => unobserved s c z) s2) c n) c inst n

/-- Restores one enabled column (R113, R114). -/
def restoreCol (s : State) (c : Nat) : State :=
  if colOn s c then
    let inst := match instFor s .colTrack c with | some (i, _) => i | none => 0
    let s1 := match bestImage s c with
      | some m => restoreImage s c inst m
      | none => restoreNone s c
    staleEvents (colEvent s1 c .columnRestored c) c false
  else s

end Sys2Proof.Machine
end

