-- ==== Sys2Proof/Machine/Drying.lean ====
section
/-!
DEFINITION. Drying control (R118 to R150): zone air and its substitutes, the drying model, the decision parcel and the rate,
feedback and adaptation, column states, heat groups and silo aeration. Every operation is a single binary32 operation in the
written order (R170); exp, ln, pow and sqrt are the block library's.
-/
namespace Sys2Proof.Machine

open Sys2Proof

/-! ## Parameters (R145, R148) -/

def drySlices (s : State) (c : Nat) : Nat := max 1 (regF s .dryCfg c 7 8)
def dryTarget (s : State) (c : Nat) : F32 := regW s .dryTarget c
def rMin (s : State) (c : Nat) : F32 := regW s .dryRateMin c
def rMax (s : State) (c : Nat) : F32 := regW s .dryRateMax c
def eOut (s : State) (c : Nat) : F32 := fRat (regF s .dryAdapt c 16 8) 10
def confMin (s : State) (c : Nat) : F32 := fRat (regF s .dryAdapt c 24 8) 100
def lambdaOf (s : State) (c : Nat) : F32 := fRat ((1000 : Int) - regF s .dryAdapt c 0 8) 1000
def eConf (s : State) (c : Nat) : F32 := fRat (regF s .dryFb c 10 6) 10
def fbKi (s : State) (c : Nat) : F32 := fRat (regF s .dryFb c 0 10) 1000
def fbAfter (s : State) (c : Nat) : Nat := regF s .dryFb c 16 12 * secNs
def coolMax (s : State) (c : Nat) : Nat := regF s .dryCool c 8 10 * 60 * secNs
/-- Stream-only fields of a drying column. -/
def dryOnly (s : State) (c : Nat) : DryOnly := (lookup s.hld.str.dry c).getD { zones := [], ambT := 0, ambRh := 0, ambDefault := fOfNat 10 }
/-- Zones of a column. -/
def zoneCount (s : State) (c : Nat) : Nat := regF s .pclCfg c 20 3 + 1
/-- The first position after a zone. -/
def zoneEnd (s : State) (c z : Nat) : Nat := if z + 1 < zoneCount s c then regF s .pclZone (8 * c + z + 1) 0 12 else colLen s c
/-- Heat group of a drying column, if it belongs to one. -/
def dryGroup (s : State) (c : Nat) : Option Nat := if regB s .dryCfg c 3 then some (regF s .dryCfg c 1 2) else none

/-! ## Moisture bases (R12, R123) -/

/-- % w.b. to % d.b. -/
def toDb (m : F32) : F32 := fDiv (fMul (fOfNat 100) m) (fSub (fOfNat 100) m)
/-- % d.b. to % w.b. -/
def toWb (m : F32) : F32 := fDiv (fMul (fOfNat 100) m) (fAdd (fOfNat 100) m)

/-! ## Grain tables for drying (R124) -/

/-- A value within bounds. -/
def fIn (lo hi x : F32) : Bool := fLe lo x && fLe x hi

/-- The table is valid for drying (R86, R124). -/
def gtDry (t : List Byte) : Bool :=
  gtValid t && fIn 0#32 (fOfNat 20) (gtF t 84) && fIn 0#32 (fOfNat 10000) (gtF t 88) && fIn 0#32 (fOfNat 2) (gtF t 92) &&
  fIn (fRat 1 10000000) (fRat 1 100) (gtF t 96) && fIn (fRat 1 2) (fOfNat 4) (gtF t 100) && fIn 0#32 (fOfNat 500) (gtF t 104) &&
  fIn 0#32 (fOfNat 1000) (gtF t 108) && fIn 0#32 (fOfNat 2) (gtF t 112) && fIn 0#32 (fOfNat 5) (gtF t 116) &&
  fIn (fOfNat 20) (fOfNat 100) (gtF t 120) && natLE ((t.drop 124).take 4) == 0

/-- ln_a0 of a table. -/
def gtLnA0 (t : List Byte) : F32 := gtF t 84

/-! ## Zone air (R121, R122) -/

/-- A stall's failure as drying sees it: OPEN, SHORT, BREAK or INVALID (R122). -/
def stallFailed (s : State) (i : Nat) : Bool := (stlOf s i).q == .invalid || failedFlags (stlOf s i).flags

/-- A stall's scaled value, none when it has failed. -/
def goodStall (s : State) (i : Nat) : Option F32 := if stallFailed s i then none else some (stallScaled s i)

/-- p_s(T) in Pa (R121). -/
def satPress (t : F32) : F32 :=
  fMul (fRat 61078 100) (fExp (fDiv (fMul (fRat 1727 100) t) (fAdd t (fRat 2373 10))))

/-- RH at a zone's T of ambient air heated at constant humidity ratio (R121). -/
def derivedRh (rhAmb tAmb t : F32) : F32 := fDiv (fMul rhAmb (satPress tAmb)) (satPress t)

/-- Keys of the inputs: 3z, 3z + 1, 3z + 2 of zone z; 24 and 25 ambient temperature and humidity. -/
def ambTKey : Nat := 24
def ambRhKey : Nat := 25

/-- One input of a run: its good value, or for 60 s from the failure the last value, then the substitute (R122). -/
def takeInput (d : Dry) (now_ key : Nat) (cur : Option F32) (subst : F32) : Dry × F32 :=
  match cur with
  | some v =>
    ({ d with lastGood := spPut d.lastGood key v, fails := spDel d.fails key, overT := d.overT.filter (· != key) }, v)
  | none =>
    let since := (lookup d.fails key).getD now_
    let late := d.overT.contains key || decide (since + 60 * secNs ≤ now_)
    let d1 := { d with fails := spPut d.fails key since, airSubst := true, lastSubst := now_,
                       overT := if late && !d.overT.contains key then key :: d.overT else d.overT }
    match lookup d.lastGood key with
    | some v => (d1, if late then subst else v)
    | none => (d1, subst)

/-- The air of a zone as the model takes it. -/
structure Air where
  t : F32
  rh : F32
  v : F32
  deriving DecidableEq, Repr

/-- The ambient air of a column: temperature, humidity where its stall is good. -/
structure Ambient where
  t : F32
  tGood : Bool
  rh : Option F32
  deriving DecidableEq, Repr

/-- The ambient inputs of a run (R121, R122). -/
def takeAmbient (s : State) (c : Nat) (d : Dry) : Dry × Ambient :=
  let o := dryOnly s c
  let cur := goodStall s o.ambT
  let r := takeInput d s.now ambTKey cur o.ambDefault
  (r.1, { t := r.2, tGood := cur.isSome, rh := goodStall s o.ambRh })

/-- T of a zone (R121, R122). -/
def takeT (s : State) (c z : Nat) (d : Dry) (a : Ambient) (za : ZoneAir) : Dry × F32 × Bool :=
  let cur := match za.t with
    | .stall i => goodStall s i
    | _ => if a.tGood then some a.t else none
  let sub := if zoneType s c z = 1 then (match dryGroup s c with | some g => (heatOf (t0 s) g).spOut | none => a.t) else a.t
  let r := takeInput d s.now (3 * z) cur sub
  (r.1, r.2, cur.isSome)

/-- T and RH as they are clamped before use (R121). -/
def clampT (t : F32) : F32 := fClamp (fOfInt (-40)) (fOfNat 200) t
def clampRh (rh : F32) : F32 := fClamp (fRat 1 1000) (fRat 999 1000) rh

/-- RH of a zone (R121, R122). -/
def takeRh (s : State) (c z : Nat) (d : Dry) (a : Ambient) (za : ZoneAir) (t : F32) (tGood : Bool) : Dry × F32 :=
  let der := match a.rh with
    | some rh => if a.tGood then some (derivedRh (clampRh rh) (clampT a.t) (clampT t)) else none
    | none => none
  let cur := match za.rh with
    | .stall i => goodStall s i
    | .ambient => a.rh
    | _ => if tGood then der else none
  takeInput d s.now (3 * z + 1) cur (der.getD (if zoneType s c z = 1 then fRat 5 100 else fRat 70 100))

/-- v of a zone (R121, R122). -/
def takeV (s : State) (z : Nat) (d : Dry) (za : ZoneAir) : Dry × F32 :=
  match za.v with
  | .stall i => takeInput d s.now (3 * z + 2) (goodStall s i) za.vNom
  | _ => (d, za.vNom)

/-- The clamps before use (R121). -/
def Air.clamped (a : Air) : Air :=
  { t := clampT a.t, rh := clampRh a.rh, v := fClamp (fRat 1 100) (fOfNat 5) a.v }

/-- The air of every zone of a run; none for a HOLD zone (R121, R122). -/
def takeAir (s : State) (c : Nat) (d : Dry) : Dry × Ambient × List (Option Air) :=
  let r := takeAmbient s c { d with airSubst := false }
  let step := fun (acc : Dry × List (Option Air)) (z : Nat) =>
    if zoneType s c z = 0 then (acc.1, acc.2 ++ [none])
    else
      let za := (dryOnly s c).zones.getD z { t := .ambient, rh := .ambient, v := .fixed, vNom := fRat 1 100 }
      let t := takeT s c z acc.1 r.2 za
      let h := takeRh s c z t.1 r.2 za t.2.1 t.2.2
      let v := takeV s z h.1 za
      (v.1, acc.2 ++ [some (Air.clamped { t := t.2.1, rh := h.2, v := v.2 })])
  let q := (upTo (zoneCount s c)).foldl step (r.1, [])
  (q.1, r.2, q.2)

/-! ## The model (R123 to R126) -/

/-- Equilibrium moisture, % d.b. (R123 step 1). -/
def equilDb (g : List Byte) (t rh : F32) : F32 :=
  let l := fLog (fDiv (fOfNat 1) (fSub (fOfNat 1) rh))
  fClamp 0#32 (fOfNat 60)
    (fPow (fDiv l (fMul (gtF g 96) (fAdd t (gtF g 104)))) (fDiv (fOfNat 1) (gtF g 100)))

/-- Drying coefficient k, 1/h (R123 step 2). -/
def dryK (g : List Byte) (theta : F32) (a : Air) : F32 :=
  fClamp 0#32 (fOfNat 100)
    (fMul (fMul (fExp theta) (fExp (fDiv (fNeg (gtF g 88)) (fAdd a.t (fRat 27315 100))))) (fPow a.v (gtF g 92)))

/-- Heat coefficient h, 1/h (R123 step 3). -/
def dryH (g : List Byte) (a : Air) : F32 := fClamp 0#32 (fOfNat 1000) (fMul (gtF g 108) (fPow a.v (gtF g 112)))

/-- Moisture d.b., exposure and temperature after dt hours in a zone's air (R123 steps 4 to 6). -/
def dryStep (g : List Byte) (theta : F32) (a : Air) (dt m x tg : F32) : F32 × F32 × F32 :=
  let me := equilDb g a.t a.rh
  let k := dryK g theta a
  let h := dryH g a
  let m' := fClamp 0#32 (fOfNat 150) (fAdd me (fMul (fSub m me) (fExp (fNeg (fMul k dt)))))
  let x' := fClamp 0#32 (fOfNat 1000) (fAdd x (fMul k dt))
  let t' := fClamp (fOfInt (-40)) (fOfNat 200)
    (fSub (fAdd a.t (fMul (fSub tg a.t) (fExp (fNeg (fMul h dt))))) (fMul (gtF g 116) (fSub m m')))
  (m', x', t')

/-- θ for a parcel's table (R123). -/
def thetaFor (s : State) (d : Dry) (table : Nat) : F32 := if d.table = some table then d.theta else gtLnA0 (grainOf s table)

/-- The model fields of a parcel are set (R109, R125). -/
def Parcel.modelled (p : Parcel) : Bool := !fIsNaN p.mModel

/-- φ, the fraction of the present step (R126). -/
def stepFrac (s : State) (c : Nat) : F32 :=
  let p := 256 * colP s c
  let x := (wickOf s (colWick s c)).snap.pos
  fRat (Int.emod (x - 256 * colOrg s c) p) p

/-- Residence time in zone z of a parcel at position p at r parcels per hour (R126). -/
def residence (s : State) (c p z : Nat) (phi r : F32) : F32 :=
  if z = zoneAt s c p then fDiv (fSub (fOfInt ((zoneEnd s c z : Int) - p)) phi) r
  else
    let first := regF s .pclZone (8 * c + z) 0 12
    fDiv (fOfNat (zoneEnd s c z - first)) r

/-- Exit moisture, % w.b., of a parcel at position p at the rate r, with ΔT added in the HEAT zones (R126, R131). -/
def exitMoist (s : State) (c : Nat) (d : Dry) (air : List (Option Air)) (p : Nat) (q : Parcel) (phi r dT : F32) : F32 :=
  let g := grainOf s q.table
  let th := thetaFor s d q.table
  let z0 := zoneAt s c p
  let step := fun (a : F32 × F32) (z : Nat) =>
    if z < z0 then a
    else
      match air.getD z none with
      | none => a
      | some x =>
        let x' := if zoneType s c z = 1 then { x with t := fAdd x.t dT } else x
        let o := dryStep g th x' (residence s c p z phi r) a.1 0#32 a.2
        (o.1, o.2.2)
  toWb ((upTo (zoneCount s c)).foldl step (toDb q.mModel, q.tModel)).1

/-- A parcel that a run models (R125). -/
def modelable (p : Parcel) : Bool := p.kind == 1 && p.has 0

/-- One update of a parcel at position p (R123, R125, R126). -/
def updateParcel (s : State) (c : Nat) (d : Dry) (air : List (Option Air)) (dt phi : F32) (p : Nat) (q : Parcel) : Parcel :=
  if !modelable q then q
  else
    let q0 := if q.modelled then q else { q with mModel := q.mIn, tModel := q.tIn, exposure := 0#32, modelSeq := 0 }
    let q1 := match air.getD (zoneAt s c p) none with
      | none => q0
      | some a =>
        let o := dryStep (grainOf s q.table) (thetaFor s d q.table) a dt (toDb q0.mModel) q0.exposure q0.tModel
        { q0 with mModel := toWb o.1, exposure := o.2.1, tModel := o.2.2 }
    let rp := fMax d.rOut (rMin s c)
    { q1 with mPred := exitMoist s c d air p q1 phi rp 0#32, modelSeq := (q1.modelSeq + 1) % 65536 }

/-- Copies the model fields of a record. -/
def Parcel.withModel (p q : Parcel) : Parcel :=
  { p with mModel := q.mModel, tModel := q.tModel, exposure := q.exposure, mPred := q.mPred, modelSeq := q.modelSeq }

/-- The table as it stood at t0 of the frame: step index and parcels (R120). -/
def oldCol (s : State) (c : Nat) : Column :=
  match s.before with
  | some k => spGet Column.reset k.col.c c
  | none => colOf s c

/-- The positions of a run's slice: serials s with s mod n_s = j (R119). -/
def sliceOf (s : State) (c : Nat) (x : Column) (runs : Nat) : List Nat :=
  let n := drySlices s c
  (List.range x.table.length).filter (fun (p : Nat) => decide (Int.emod (x.k - (p : Int)) n = ((runs % n : Nat) : Int)))

/-- A parcel that would be modelled has a table that is not valid for drying (R124). -/
def badTable (s : State) (q : Parcel) : Bool := modelable q && !gtDry (grainOf s q.table)

/-- The slice update: the old table with its slice's model fields new (R119, R124, R125). -/
def sliceUpdate (s : State) (c : Nat) (d : Dry) (air : List (Option Air)) (dt phi : F32) (x : Column) : List Parcel :=
  (sliceOf s c x d.runs).foldl (fun a p =>
    let q := a.getD p Parcel.absent
    if badTable s q then a else setAt a p (updateParcel s c d air dt phi p q)) x.table

/-- Writes the slice's model fields into the column by serial (R120). -/
def writeSlice (s : State) (c : Nat) (x : Column) (runs : Nat) (new : List Parcel) : State :=
  (sliceOf s c x runs).foldl (fun s (p : Nat) =>
    let y := colOf s c
    match y.idx (x.k - (p : Int)) with
    | some i => setCol s c (y.mod i (fun q => q.withModel (new.getD p Parcel.absent)))
    | none => s) s

/-! ## The discharge rate (R127 to R131) -/

/-- Default decision point: first position of the first zone that is not HOLD (R145); the register holds it. -/
def decPos (s : State) (c : Nat) : Nat := regF s .dryTune c 0 12

/-- The order in which positions are looked at: d, d - 1, d + 1, d - 2, ... (R127). -/
def decOrder (d span : Nat) : List Int :=
  (d : Int) :: (List.range span).flatMap (fun (j : Nat) => [(d : Int) - ((j : Int) + 1), (d : Int) + ((j : Int) + 1)])

/-- A parcel that can decide (R127). -/
def qualifies (s : State) (p : Parcel) : Bool := p.kind == 1 && !p.has 5 && p.modelled && gtDry (grainOf s p.table)

/-- The decision parcel: its position and record (R127). -/
def decParcel (s : State) (c : Nat) (tab : List Parcel) : Option (Nat × Parcel) :=
  (decOrder (decPos s c) (regF s .dryTune c 12 7)).findSome? (fun (p : Int) =>
    if 0 ≤ p then
      match tab[p.toNat]? with
      | some q => if qualifies s q then some (p.toNat, q) else none
      | none => none
    else none)

/-- n bisection steps on an interval: the upper end moves where the test holds (R128, R131). -/
def bisect (test : F32 → Bool) : Nat → F32 → F32 → F32 × F32
  | 0, lo, hi => (lo, hi)
  | n + 1, lo, hi =>
    let mid := fDiv (fAdd lo hi) (fOfNat 2)
    if test mid then bisect test n lo mid else bisect test n mid hi

/-- r_des with the clamps that hold: low, high (R128). -/
def desiredRate (s : State) (c : Nat) (f : F32 → F32) : F32 × Bool × Bool :=
  let lo := rMin s c
  let hi := rMax s c
  if fLt 0#32 (f lo) then (lo, true, false)
  else if fLt (f hi) 0#32 then (hi, false, true)
  else
    let b := bisect (fun l => fLt 0#32 (f (fExp l))) 16 (fLog lo) (fLog hi)
    (fExp (fDiv (fAdd b.1 b.2) (fOfNat 2)), false, false)

/-- The filter of R129. -/
def rateFilter (s : State) (c period : Nat) (rOut rDes : F32) : F32 :=
  let tau := regF s .dryTune c 20 12
  if tau = 0 then rDes
  else
    let e := fExp (fNeg (fDiv (fRat period 1000000000) (fOfNat tau)))
    fAdd rOut (fMul (fSub rDes rOut) (fSub (fOfNat 1) e))

/-- trim_lo, trim_hi of a heat group, °C. -/
def trimLo (s : State) (h : Nat) : F32 := fOfInt (regI s .heatTrim h 8 8)
def trimHi (s : State) (h : Nat) : F32 := fOfNat (regF s .heatTrim h 16 8)

/-- The trim request at a clamped rate (R131); F falls with ΔT. -/
def trimRequest (s : State) (h : Nat) (f : F32 → F32) : F32 :=
  let lo := trimLo s h
  let hi := trimHi s h
  if fLe (f lo) 0#32 then lo
  else if fLe 0#32 (f hi) then hi
  else
    let b := bisect (fun dT => fLe (f dT) 0#32) 12 lo hi
    fDiv (fAdd b.1 b.2) (fOfNat 2)

/-- The wick is LOST and the column HELD (R110, R143), as the run's input set shows it. -/
def heldNow (s : State) (c : Nat) : Bool := (oldCol s c).st == .held || (wickOf s (colWick s c)).snap.st == .lost

/-- The source becomes FB_ONLY after fb_after seconds in HOLD (R127). -/
def fbDue (s : State) (c : Nat) (d : Dry) : Bool :=
  d.st == .cont && d.source == 2 && (match d.holdSince with | some t => decide (t + fbAfter s c ≤ s.now) | none => false)

/-- The rate decision of a run in CONT (R127 to R129, R131); source HOLD while the column is HELD (R143). -/
def decideRate (s : State) (c period : Nat) (d : Dry) (air : List (Option Air)) (phi : F32) (tab : List Parcel) : Dry :=
  match (if heldNow s c then none else decParcel s c tab) with
  | some (p, q) =>
    let m := fun r dT => fSub (fAdd (exitMoist s c d air p q phi r dT) d.beta) (dryTarget s c)
    let des := desiredRate s c (fun r => m r 0#32)
    let trim := match dryGroup s c with
      | some g => if (des.2.1 || des.2.2) && regB s .heatCfg g 20 then trimRequest s g (m des.1) else 0#32
      | none => 0#32
    { d with source := if p = decPos s c then 0 else 1, limLow := des.2.1, limHigh := des.2.2, trim := trim, holdSince := none,
             pred := fAdd q.mPred d.beta, rOut := rateFilter s c period d.rOut des.1 }
  | none =>
    let since := d.holdSince.getD s.now
    { d with limLow := false, limHigh := false, trim := 0#32, holdSince := some since,
             source := if heldNow s c = false ∧ (d.source = 3 ∨ since + fbAfter s c ≤ s.now) then 3 else 2 }

/-! ## Feedback and adaptation (R130, R132 to R135) -/

/-- The adaptation table (R107, R132). -/
def adaptTable (s : State) (c : Nat) : Nat :=
  if colIn s c then regF s .mstCfg (regF s .pclProbes c 0 5) 4 6 else regF s .pclAssumeTab c 0 6

/-- θ, P_θ, β and the history as after a change of table (R132). -/
def adaptReset (s : State) (d : Dry) (tab : Nat) : Dry :=
  { d with theta := gtLnA0 (grainOf s tab), pTheta := fRat 25 10000, beta := 0#32, hist := [], table := some tab, bound := false,
           conf := fRat 1 2 }

/-- Mean of singles. -/
def meanOf (l : List F32) : F32 := fDiv (l.foldl fAdd 0#32) (fOfNat l.length)
/-- Standard deviation (R135). -/
def sdOf (l : List F32) : F32 :=
  let m := meanOf l
  fSqrt (meanOf (l.map (fun x => fMul (fSub x m) (fSub x m))))

/-- Confidence of a history (R135). -/
def confOf (s : State) (c : Nat) (l : List F32) : F32 :=
  if l.length < 4 then fRat 1 2 else fMax 0#32 (fSub (fOfNat 1) (fDiv (sdOf l) (eConf s c)))

/-- The bounds of θ about a table's ln_a0 (R134). -/
def thetaLo (s : State) (tab : Nat) : F32 := fAdd (gtLnA0 (grainOf s tab)) (fLog (fRat 7 10))
def thetaHi (s : State) (tab : Nat) : F32 := fAdd (gtLnA0 (grainOf s tab)) (fLog (fRat 13 10))

/-- c_m by the present e_conf, and adapt_bound by the present θ (R134, R135). -/
def dryDerived (s : State) (c : Nat) (d : Dry) : Dry :=
  { d with conf := confOf s c d.hist,
           bound := match d.table with | some tab => fEq d.theta (thetaLo s tab) || fEq d.theta (thetaHi s tab) | none => false }

/-- The conditions of R133 before the last one. -/
def residualOk (d : Dry) (p : Parcel) : Bool :=
  decide (p.q / 4 % 4 < 2) && decide (8 ≤ p.nDis) && p.kind == 1 && p.modelled && !p.has 5 && !p.has 3 && !p.has 6 && !p.has 2 &&
  !p.has 8 && !p.has 9 && !p.has 4 && decide (d.table = some p.table) && decide (d.lastSubst < p.tEntry)

/-- Sensitivity φ in points w.b. (R134); 0 for a parcel without exposure. -/
def sensitivity (p : Parcel) : F32 :=
  if fEq p.exposure 0#32 then 0#32
  else
    let mi := toDb p.mIn
    let mx := toDb p.mModel
    let x := p.exposure
    let ex := fExp (fNeg x)
    let db := fDiv (fMul (fMul (fNeg (fSub mi mx)) x) ex) (fSub (fOfNat 1) ex)
    let w := fAdd (fOfNat 100) mx
    fDiv (fMul db (fOfNat 10000)) (fMul w w)

/-- An accepted residual (R134, R135). -/
def acceptResidual (s : State) (c : Nat) (d : Dry) (p : Parcel) (e : F32) : Dry :=
  let phi := sensitivity p
  let allowed := regB s .dryCfg c 6 && !p.has 10 && decide (p.q / 4 % 4 = 0) && fLe (confMin s c) d.conf && fLe (fRat 1 2) (fAbs phi)
  let lo := thetaLo s p.table
  let hi := thetaHi s p.table
  let lam := lambdaOf s c
  let g := fDiv (fMul d.pTheta phi) (fAdd lam (fMul (fMul phi phi) d.pTheta))
  let th := if allowed then fClamp lo hi (fAdd d.theta (fMul g e)) else d.theta
  let dth := if allowed then fSub th d.theta else 0#32
  let pt := if allowed then fClamp (fRat 1 1000000) (fRat 25 10000) (fDiv (fSub d.pTheta (fMul (fMul g phi) d.pTheta)) lam) else d.pTheta
  let ep := fSub e (fMul phi dth)
  let hist := (ep :: d.hist).take 16
  { d with theta := th, pTheta := pt, beta := fAdd d.beta (fDiv (fSub ep d.beta) (fOfNat (regF s .dryAdapt c 8 8))), hist := hist,
           conf := confOf s c hist, frozen := !allowed, bound := fEq th lo || fEq th hi, outliers := 0 }

/-- FB_ONLY at a usable discharge close (R130). -/
def fbAdjust (s : State) (c : Nat) (d : Dry) (p : Parcel) : Dry :=
  let tau := match d.lastClose with
    | some t => fMin (fOfNat 10) (fRat (s.now - t) 60000000000)
    | none => fOfNat 10
  let k := fSub (fOfNat 1) (fMul (fMul (fbKi s c) (fSub p.mDis (dryTarget s c))) tau)
  let r := if d.st = .cont ∧ d.source = 3 then fClamp (rMin s c) (rMax s c) (fMul d.rOut k) else d.rOut
  { d with rOut := r, lastClose := some s.now }

/-- Event of a drying column. -/
def dryEvent (s : State) (c : Nat) (e : EventName) (what : Nat := 0) : State := logEv s (srcInst s .dryColumn c) e what

/-- A discharge close (R130, R133, R134). -/
def takeClose (s : State) (c : Nat) (p : Parcel) : State :=
  let d := dryOf s c
  let usable := decide (p.q / 4 % 4 < 2) && decide (0 < p.nDis)
  let d1 := if usable then fbAdjust s c d p else d
  let e := fSub p.mDis p.mModel
  if !residualOk d1 p then setDry s c d1
  else if fLe (fAbs e) (eOut s c) then setDry s c (acceptResidual s c d1 p e)
  else if d1.outliers + 1 = 3 then dryEvent (stick (setDry s c { d1 with outliers := 0 }) .dryStatus c 11) c .modelMismatch c
  else setDry s c { d1 with outliers := d1.outliers + 1 }

/-- A report of COL_TRACK: an inlet close gives m_last (R142), a discharge close the feedback. -/
def takeReport (s : State) (c : Nat) (p : Parcel) : State :=
  let d := dryOf s c
  let s1 := if p.has 0 && p.kind == 1 && decide (0 < p.nIn) && !p.has 3 && !p.has 1 then setDry s c { d with mLast := some p.mIn } else s
  if p.has 1 then takeClose s1 c p else s1

/-- Inserts a report by serial, ascending (R132). -/
def insertReport (p : Parcel) (l : List Parcel) : List Parcel :=
  match l with
  | [] => [p]
  | q :: t => if signed 32 (wrapN 32 p.serial) < signed 32 (wrapN 32 q.serial) then p :: q :: t else q :: insertReport p t

/-- The reports of the input set in ascending serial order, at most 4 in a run (R132, R154); the others stay in their basket. -/
def dryReports (s : State) (x : Inst) : State × List Parcel :=
  let r := (upTo x.ins.length).foldl (fun a k => match x.src k with
    | .basket b =>
      let r := takeMsgs a.1 b (4 - a.2.length)
      (r.1, a.2 ++ r.2.filterMap (fun m => match m with | .parcel v => some v | _ => none))
    | _ => a) (s, [])
  (r.1, r.2.foldl (fun acc p => insertReport p acc) [])

/-! ## Column states (R140 to R142) -/

/-- A command refused with DRY_STATE. -/
def dryRefuse (s : State) (c : Nat) : State := stick s .dryStatus c 13

/-- The state is entered with an event record. -/
def dryEnter (s : State) (c : Nat) (st : DrySt) (rate : F32) : State :=
  dryEvent (setDry s c { dryOf s c with st := st, rOut := rate, trim := 0#32, coolSince := s.now, coolOver := false }) c .dryState st.code

/-- A host command (R140, R148). -/
def dryCmd (s : State) (c : Nat) (k : DryCmd) : State :=
  let d := dryOf s c
  match k, d.st with
  | .startCont, .off => setDry s c { d with st := .cont, rOut := rMin s c, source := 2, holdSince := none }
  | .startBatch, .off => setDry s c { d with st := .batchDry, rOut := regW s .dryBatchRate c }
  | .coolDown, .cont => setDry s c { d with st := .coolDown, trim := 0#32, coolSince := s.now, coolOver := false, rOut := fOfNat (regF s .dryCool c 18 14) }
  | .coolDown, .night => setDry s c { d with st := .coolDown, trim := 0#32, coolSince := s.now, coolOver := false, rOut := fOfNat (regF s .dryCool c 18 14) }
  | .resume, .night => setDry s c { d with st := .cont, holdSince := none }
  | .stop, _ => setDry s c { d with st := .off, rOut := 0#32, trim := 0#32 }
  | .resetAdapt, _ => dryEvent (setDry s c (adaptReset s d (adaptTable s c))) c .adaptReset c
  | .clearBias, _ => setDry s c { d with beta := 0#32 }
  | _, _ => dryRefuse s c

/-- The largest t_model of the modelled parcels is at most T_amb + cool_dt (R140); nothing modelled is cooled. -/
def cooled (s : State) (c : Nat) (tAmb : F32) (tab : List Parcel) : Bool :=
  let lim := fAdd tAmb (fOfNat (regF s .dryCool c 0 5))
  tab.all (fun p => !(p.modelled && p.kind == 1) || fLe p.tModel lim)

/-- The batch is dry (R141). -/
def batchDone (s : State) (c : Nat) (d : Dry) (tab : List Parcel) : Bool :=
  let ps := (tab.filter (fun p => p.kind == 1 && p.modelled)).map (fun p => fAdd p.mPred d.beta)
  let mt := dryTarget s c
  !(tab.any (fun p => p.has 5 || p.kind == 2)) && decide (colLen s c ≤ 2 * ps.length) && fLe (meanOf ps) mt &&
  ps.all (fun x => fLe x (fAdd mt (fRat 1 2)))

/-- A cooling state has lasted cool_max (R140). -/
def coolOut (s : State) (c : Nat) : Bool :=
  let d := dryOf s c
  (d.st == .batchCool || d.st == .coolDown) && (d.coolOver || decide (d.coolSince + coolMax s c ≤ s.now))

/-- Cooling ends: by temperature or by cool_max (R140). -/
def endCool (s : State) (c : Nat) (cold : Bool) : State :=
  match (dryOf s c).st with
  | .batchCool => if cold || coolOut s c then dryEnter s c .batchDone 0#32 else s
  | .coolDown => if cold || coolOut s c then dryEnter s c .off 0#32 else s
  | _ => s

/-- Points of the nightlight table in use: (moisture, rate) (R142, R148). -/
def nightPoints (s : State) (c : Nat) : List (F32 × F32) :=
  (upTo 8).filterMap (fun i =>
    let w := regW s .dryNight (8 * c + i)
    if fld w 0 16 = 0xFFFF then none else some (fRat (fld w 0 16) 100, fRat (fld w 16 16) 10))

/-- Linear interpolation, flat beyond the end points. -/
def interpolate (l : List (F32 × F32)) (x : F32) : Option F32 :=
  match l with
  | [] => none
  | (a, v) :: t =>
    if fLe x a then some v
    else
      match t with
      | [] => some v
      | (b, w) :: _ => if fLe x b then some (fAdd v (fMul (fSub w v) (fDiv (fSub x a) (fSub b a)))) else interpolate t x

/-- The rate of NIGHTLIGHT (R142). -/
def nightRate (s : State) (c : Nat) (d : Dry) : F32 :=
  match d.mLast with
  | some m => (interpolate (nightPoints s c) m).getD d.rOut
  | none => d.rOut

/-- The conditions of the state table that a run evaluates (R140). -/
def dryStates (s : State) (c : Nat) (tAmb : F32) (tab : List Parcel) : State :=
  let d := dryOf s c
  match d.st with
  | .batchDry => if batchDone s c d tab then dryEnter s c .batchCool d.rOut else s
  | _ => endCool s c (cooled s c tAmb tab)

/-- The host-silence timeout expires: a column in CONTINUOUS with night_en enters NIGHTLIGHT (R140, R142), unless the same input set
carries a stop (R146). -/
def nightDry (s : State) (c : Nat) : State :=
  let d := dryOf s c
  if d.st = .cont ∧ regB s .dryCfg c 4 = true ∧ d.cmds.contains .stop = false then
    dryEvent (stick (setDry s c { d with st := .night }) .dryStatus c 12) c .nightEntered c
  else s

/-- r_out × P / 3,600, ticks/s (R129). -/
def rollSpeed (s : State) (c : Nat) : F32 := fDiv (fMul (dryOf s c).rOut (fOfNat (colP s c))) (fOfNat 3600)

/-- A DRY_COLUMN run (R119, R146): commands, closes, slice, states and rate, posts. -/
def runDry (s : State) (inst : Nat) (x : Inst) : State :=
  let c := x.idx
  let d0 := dryOf s c
  let tab0 := adaptTable s c
  let s0 := if d0.table = some tab0 then s
    else
      let s' := setDry s c (adaptReset s d0 tab0)
      if d0.table.isSome then dryEvent s' c .adaptReset c else s'
  let e0 := dryDerived s0 c (dryOf s0 c)
  let s1 := setDry s0 c { e0 with source := if fbDue s0 c e0 && !heldNow s0 c then 3 else e0.source }
  let s2 := (dryOf s1 c).cmds.foldl (fun s k => dryCmd s c k) (setDry s1 c { dryOf s1 c with cmds := [] })
  let r := dryReports s2 x
  let s3 := r.2.foldl (fun s p => takeReport s c p) r.1
  let a := takeAir s3 c (dryOf s3 c)
  let air := a.2.2
  let s4 := a.1.fails.foldl (fun s f => dryEvent s c .inputSubst (32 * c + f.1)) (setDry s3 c a.1)
  let phi := stepFrac s4 c
  let old := oldCol s4 c
  let dt := fRat (drySlices s4 c * x.periodNs) 3600000000000
  let d := dryOf s4 c
  let up := sliceUpdate s4 c d air dt phi old
  let s5 := writeSlice (setDry s4 c { d with tableBad := old.table.any (badTable s4) }) c old d.runs up
  let s6 := dryStates s5 c a.2.1.t up
  let d6 := dryOf s6 c
  let d7 := match d6.st with
    | .cont => decideRate s6 c x.periodNs d6 air phi up
    | .night => { d6 with rOut := nightRate s6 c d6, trim := 0#32 }
    | _ => { d6 with trim := 0#32 }
  let s7 := setDry s6 c { d7 with runs := d7.runs + 1 }
  let s8 := postTo s7 inst (x.dst 0) (.value (rollSpeed s7 c) .good s7.now)
  postTo s8 inst (x.dst 1) (.cmd c d7.trim)

/-- A command joins the next input set: it takes effect at the run whose input set carries it (R140). -/
def dryTake (s : State) (c : Nat) (k : DryCmd) : State := setDry s c { dryOf s c with cmds := (dryOf s c).cmds ++ [k] }

/-- DRY_START_CONT (R140). -/
def execDryStartCont (c : Fin 16) (s : State) : Out := .next (rowCmd s .dryCmd c 1#32 (fun s => dryTake s c .startCont))
/-- DRY_START_BATCH (R140). -/
def execDryStartBatch (c : Fin 16) (s : State) : Out := .next (rowCmd s .dryCmd c 2#32 (fun s => dryTake s c .startBatch))
/-- DRY_COOL_DOWN (R140). -/
def execDryCoolDown (c : Fin 16) (s : State) : Out := .next (rowCmd s .dryCmd c 3#32 (fun s => dryTake s c .coolDown))
/-- DRY_STOP (R140). -/
def execDryStop (c : Fin 16) (s : State) : Out := .next (rowCmd s .dryCmd c 4#32 (fun s => dryTake s c .stop))
/-- DRY_RESUME (R140, R142). -/
def execDryResume (c : Fin 16) (s : State) : Out := .next (rowCmd s .dryCmd c 5#32 (fun s => dryTake s c .resume))
/-- DRY_RESET_ADAPT (R132, R148). -/
def execDryResetAdapt (c : Fin 16) (s : State) : Out := .next (rowCmd s .dryCmd c 6#32 (fun s => dryTake s c .resetAdapt))
/-- DRY_CLEAR_BIAS (R148). -/
def execDryClearBias (c : Fin 16) (s : State) : Out := .next (rowCmd s .dryCmd c 7#32 (fun s => dryTake s c .clearBias))
/-- DRY_COOL_MAX_EXPIRY (R140): cool_max has elapsed in a cooling state; the column moves on at its next run, which evaluates it. -/
def execDryCoolMaxExpiry (c : Fin 16) (t : Ns) (s : State) : Out :=
  let s := setNow s t
  .next (if coolOut s c then setDry s c { dryOf s c with coolOver := true } else s)

/-- INPUT_SUBST_TIMEOUT (R122): 60 s after its failure an input takes its substitute, from the next run on. -/
def execInputSubstTimeout (c : Fin 16) (inp : Nat) (t : Ns) (s : State) : Out :=
  let s := setNow s t
  let d := dryOf s c
  .next (match lookup d.fails inp with
    | some since =>
      if decide (since + 60 * secNs ≤ t) && !d.overT.contains inp then
        dryEvent (setDry s c { d with overT := inp :: d.overT }) c .inputSubst (32 * c.val + inp)
      else s
    | none => s)

/-- FB_ONLY_TIMEOUT (R127). -/
def execFbOnlyTimeout (c : Fin 16) (t : Ns) (s : State) : Out :=
  let s := setNow s t
  .next (if fbDue s c (dryOf s c) && !heldNow s c then setDry s c { dryOf s c with source := 3 } else s)

/-- DRY_CMD as the register takes it (R148). -/
def dryCmdReg (s : State) (c : Nat) (v : W32) : State :=
  let q := dryTake s c
  match fld v 0 4 with
  | 1 => q .startCont
  | 2 => q .startBatch
  | 3 => q .coolDown
  | 4 => q .stop
  | 5 => q .resume
  | 6 => q .resetAdapt
  | 7 => q .clearBias
  | _ => s

/-- A column's drying with the adapted model of a record (R136). -/
def Dry.withRecord (d : Dry) (r : DryRec) : Dry :=
  { d with theta := r.theta, pTheta := r.pTheta, beta := r.beta, hist := r.hist, table := some r.table }

/-- The drying record at restore (R136): the newer sound copy of the adaptation table; r_out at r_min, OFF. -/
def restoreDry (s : State) (c : Nat) : State :=
  if regB s .dryCfg c 0 then
    let d := { Dry.reset with recs := (dryOf s c).recs }
    let tab := adaptTable s c
    let y := match d.recs.find? (fun r => r.sound && r.table == tab) with
      | some r => dryDerived s c (d.withRecord r)
      | none => adaptReset s d tab
    setDry s c { y with st := .off, rOut := rMin s c }
  else s

/-! ## Heat groups (R137 to R139) -/

/-- Stream-only fields of a heat group. -/
def heatOnly (s : State) (h : Nat) : HeatOnly :=
  (lookup s.hld.str.heat h).getD { stalls := [], spLo := 0#32, spHi := fOfNat 100, ambDefault := fOfNat 10 }

/-- Member columns of a heat group (R118). -/
def heatMembers (s : State) (h : Nat) : List Nat := (upTo 16).filter (fun c => regB s .dryCfg c 0 && dryGroup s c == some h)

/-- Trim requests as they arrive: (column, request). -/
def takeTrims (s : State) (h : Nat) (x : Inst) : State :=
  (upTo x.ins.length).foldl (fun s k => match x.src k with
    | .basket b =>
      let r := takeMsgs s b x.msgLimit
      r.2.foldl (fun s m => match m with
        | .cmd c v => setHeat s h { heatOf s h with trims := spPut (heatOf s h).trims c v }
        | _ => s) r.1
    | _ => s) s

/-- Largest of a list, or a default. -/
def maxF (d : F32) (l : List F32) : F32 :=
  match l with
  | [] => d
  | a :: t => t.foldl fMax a

/-- T_x, the heatHottest grain-temperature input (R138). -/
def heatHottest (s : State) (h : Nat) : F32 :=
  let st := (heatOnly s h).stalls.map (fun i => (stlOf s i).value)
  let md := if regB s .heatCfg h 19 then
      (heatMembers s h).flatMap (fun c =>
        ((oldCol s c).table.filter (fun p => p.kind == 1 && p.modelled && zoneType s c p.zone == 1)).map (·.tModel))
    else []
  maxF (fOfInt (-40)) (st ++ md)

/-- The held offset of the next run (R137). -/
def nextOffset (s : State) (h period : Nat) : F32 :=
  let y := heatOf s h
  let req := fClamp (trimLo s h) (trimHi s h) (maxF 0#32 ((y.trims.filter (fun p => (heatMembers s h).contains p.1)).map (·.2)))
  let step := fMul (fRat (regF s .heatTrim h 0 8) 600) (fRat period 1000000000)
  if fLt (fAdd y.offset step) req then fAdd y.offset step else if fLt req (fSub y.offset step) then fSub y.offset step else req

/-- Transmitter command in units of 0.5 µA from mA (R139, R272). -/
def txUnits (ma : F32) : Nat := (fToInt (fMul ma (fOfNat 2000))).toNat

/-- A DRY_HEAT run (R137 to R139). -/
def runHeat (s : State) (x : Inst) : State :=
  let h := x.idx
  let s1 := takeTrims s h x
  let o := heatOnly s1 h
  let members := heatMembers s1 h
  let old := t0 s1
  let nightNow := members.any (fun c => (dryOf old c).st == .night)
  let y := heatOf s1 h
  let off := match nightNow, y.night with | true, some n => n.2 | true, none => y.offset | _, _ => nextOffset s1 h x.periodNs
  let req := match nightNow, y.night with | true, some n => n.1 | _, _ => regW s1 .heatSpReq h
  let night := if nightNow then some (y.night.getD (req, off)) else none
  let spb := fClamp (regW s1 .heatSpMin h) (regW s1 .heatSpMax h) (fAdd req off)
  let ambStall := regF s1 .heatCfg h 12 7
  let ambBad := stallFailed s1 ambStall
  let amb := if ambBad then o.ambDefault else stallScaled s1 ambStall
  let tx := heatHottest s1 h
  let failed := o.stalls.any (stallFailed s1)
  let dT := fSub tx (regW s1 .heatTLim h)
  let hf := if failed then 0#32 else fClamp 0#32 (fOfNat 1) (fSub (fOfNat 1) (fMul (fRat 5 100) dT))
  let rise := fSub spb amb
  let sp := if fLe rise 0#32 then spb else fAdd amb (fMul rise hf)
  let ask := members.any (fun c => match (dryOf old c).st with | .cont => true | .batchDry => true | .night => true | _ => false)
  let permit := ask && fLt 0#32 hf
  let thr := fLt 0#32 dT
  let s2 := setHeat s1 h { y with permit := permit, throttling := thr, ambSubst := ambBad, sensorFailed := failed, spOut := sp, tx := tx,
                                  hf := hf, offset := off, night := night }
  let s3 := if thr then stick s2 .heatStatus h 4 else s2
  let s4 := if thr && !y.throttling then logEv s3 (srcInst s3 .dryHeat h) .heatThrottled h else s3
  let fell := y.permit && !permit && fLe hf 0#32
  let s5 := if fell then logEv (stick s4 .heatStatus h 5) (srcInst s4 .dryHeat h) .permitDropped h else s4
  let ma := if permit then fClamp (fOfNat 4) (fOfNat 20)
      (fAdd (fOfNat 4) (fDiv (fMul (fOfNat 16) (fSub sp o.spLo)) (fSub o.spHi o.spLo))) else fOfNat 4
  let port := regF s5 .heatCfg h 1 4
  let stall := regF s5 .heatCfg h 5 7
  let s6 := setTx s5 port { txOf s5 port with nextCmd := some (txUnits ma) }
  setStl s6 stall { stlOf s6 stall with nextCmd := some permit }

/-! ## Silo aeration (R144) -/

/-- Stream-only fields of an aeration group. -/
def aerOnly (s : State) (g : Nat) : AerOnly :=
  (lookup s.hld.str.aer g).getD { ambT := 0, ambRh := 0, cable := [], speed := 0#32, dtCool := fOfNat 5 }

/-- A cable point flagged OPEN or SHORT. -/
def pointFailed (s : State) (i : Nat) : Bool := (stlOf s i).flags.toNat.testBit 0 || (stlOf s i).flags.toNat.testBit 1 || (stlOf s i).linkLost

/-- Value of a cable point: as a CABLE_CHECK routed to the block posted it, else the stall's (R263). -/
def pointOf (y : Aer) (i : Nat) (v : F32) : F32 := match lookup y.pts i with | some p => p.1 | none => v

/-- The corrected points that arrived since the last run (R263). -/
def takePoints (s : State) (g : Nat) (x : Inst) : State :=
  x.ins.foldl (fun s q => match q with
    | .basket b =>
      let r := takeMsgs s b x.msgLimit
      r.2.foldl (fun s m => match m with | .cable l => setAer s g { aerOf s g with pts := l } | _ => s) r.1
    | _ => s) s

/-- Rule of a run: 0 HOTSPOT, 1 INPUT_FAULT, 2 WET_AIR, 3 BAND, 4 IDLE, and M_amb (R144). -/
def aerRule (s : State) (g : Nat) : Nat × F32 :=
  let o := aerOnly s g
  let y := aerOf s g
  let hot := fOfNat (regF s .aerLimits g 8 8)
  let tA := goodStall s o.ambT
  let rA := goodStall s o.ambRh
  let tab := grainOf s (regF s .aerCfg g 1 6)
  let air := Air.clamped { t := tA.getD 0#32, rh := rA.getD 0#32, v := fOfNat 1 }
  let emc := toWb (equilDb tab air.t air.rh)
  if o.cable.any (fun i => pointFailed s i || fLe hot (pointOf y i (stlOf s i).value)) then (0, if tA.isSome && rA.isSome then emc else y.emc)
  else
    match tA, rA with
    | some t, some r =>
      let mg := regW s .aerGrainM g
      let hy := if y.band then fRat (regF s .aerBand g 20 10) 100 else 0#32
      let lo := fSub (fSub mg (fRat (regF s .aerBand g 0 10) 100)) hy
      let hi := fAdd (fAdd mg (fRat (regF s .aerBand g 10 10) 100)) hy
      let pts := (o.cable.filter (fun i => !pointFailed s i)).map (fun i => pointOf y i (stlOf s i).value)
      let cold := !regB s .aerCfg g 15 || (!pts.isEmpty && fLe t (fSub (meanOf pts) o.dtCool))
      if fLe (fRat (regF s .aerLimits g 0 8) 100) r then (2, emc)
      else if fLe lo emc && fLe emc hi && cold then (3, emc)
      else (4, emc)
    | _, _ => (1, y.emc)

/-- The fans take a condition: the command to the motor port or the DO stall (R144). -/
def aerSwitch (s : State) (g : Nat) (on : Bool) : State :=
  let y := aerOf s g
  let out := regF s .aerCfg g 8 7
  let s1 := setAer s g { y with fans := on, since := s.now, want := on, band := on && y.rule == 3, minOver := false }
  if regB s .aerCfg g 7 then setStl s1 out { stlOf s1 out with nextCmd := some on }
  else
    let m := motOf s1 out
    setMot s1 out { m with given := m.given ++ [if on then .start else .stop] }

/-- The minimum time of the present condition has passed (R144). -/
def aerMinOver (s : State) (g : Nat) : Bool :=
  let y := aerOf s g
  let m := if y.fans then regF s .aerTimes g 0 16 else regF s .aerTimes g 16 16
  y.minOver || decide (y.since + m * 60 * secNs ≤ s.now)

/-- An AER_SILO run (R144). -/
def runAer (s : State) (inst : Nat) (x : Inst) : State :=
  let g := x.idx
  let s := takePoints s g x
  let y := aerOf s g
  let r := aerRule s g
  let want := r.1 == 0 || r.1 == 3
  let force := r.1 == 0 || r.1 == 1
  let s1 := setAer s g { y with rule := r.1, emc := r.2, want := want, band := if r.1 = 3 then y.band else false }
  let s2 := if r.1 = 0 ∧ y.rule ≠ 0 then logEv (stick s1 .aerStatus g 4) (srcInst s1 .aerSilo g) .hotspotEntered g else s1
  let s3 := if r.1 = 1 ∧ y.rule ≠ 1 then logEv (stick s2 .aerStatus g 5) (srcInst s2 .aerSilo g) .aerInputFault g else s2
  let s4 := if want ≠ y.fans ∧ (force = true ∨ aerMinOver s3 g = true) then aerSwitch s3 g want else s3
  let s5 := if r.1 = 3 ∧ (aerOf s4 g).fans = true then setAer s4 g { aerOf s4 g with band := true } else s4
  if (aerOf s5 g).fans && !regB s5 .aerCfg g 7 then postTo s5 inst (x.dst 0) (.value (aerOnly s5 g).speed .good s5.now) else s5

/-- AER_MIN_TIME_EXPIRY (R144): the fans have been in their condition for the minimum time; a change that is wanted takes effect at the
next run, which decides it. -/
def execAerMinTimeExpiry (g : Fin 64) (t : Ns) (s : State) : Out :=
  let s := setNow s t
  .next (if aerMinOver s g then setAer s g { aerOf s g with minOver := true } else s)

end Sys2Proof.Machine
end

