-- ==== Sys2Proof/Machine/Motor.lean ====
section
/-!
DEFINITION. Motor ports (R190 to R220): starts, searches, braking, stops, faults, the current loop, the feedback record, and
what MOTOR_CTRL, MOTOR_OBSERVER, FAN_SUPERVISE and ENERGY_METER decide in a run.
-/
namespace Sys2Proof

/-- Duty of a leg (0 U, 1 V, 2 W) for a voltage vector (u_d, u_q) at bus voltage v_dc and electrical angle; the modulation is not stated
(R192, R199, log entry 42). -/
opaque Config.legDuty : F32 → F32 → F32 → Nat → Nat → F32
/-- How long an identification stays at 25 % of rated current before it goes to 50 %, ns; not stated (R218, log entry 42). -/
opaque Config.identStep : Nat

end Sys2Proof

namespace Sys2Proof.Machine

open Sys2Proof

/-- Changes a port. -/
def modMot (s : State) (m : Nat) (f : Motor → Motor) : State := setMot s m (f (motOf s m))

/-- A command refused with MOTOR_STATE (R212). -/
def motRefuse (s : State) (m : Nat) : State := stick s .motStatus m 18

/-- A truth value of the environment that no command carries (log entry 2). -/
def freeCond (s : State) : State × Bool := (useFree s, Config.freeBool s.free)

/-! ## Starts and stops (R206 to R212) -/

/-- Target of a port's taper: the forced value of MOTOR_CTRL, else TPR_TARGET (R205, R213). -/
def motTarget (s : State) (m : Nat) : F32 :=
  match motTaper s m with
  | some j => (match (taperOf s j).forced with | some v => v | none => regN s .tprTarget j)
  | none => 0#32

/-- The port begins a search (R206). -/
def toSearch (s : State) (m t : Nat) : State := modMot s m (fun x => { x.quiet .search with phaseAt := t })

/-- The start command (R206, R212): from OFF or RETRY_WAIT; without effect in SEARCH to RUN; refused elsewhere. A start's
direction is the sign of the taper's target. -/
def motStart (s : State) (m t : Nat) : State :=
  let x := motOf s m
  match x.st with
  | .off => toSearch (modMot s m (fun y => { y with dirRev := fLt (motTarget s m) 0#32 })) m t
  | .retryWait => toSearch (modMot s m (fun y => { y with dirRev := fLt (motTarget s m) 0#32 })) m t
  | .search => s
  | .probe => s
  | .catch_ => s
  | .brakeRegen => s
  | .brakeDc => s
  | .brakeCoast => s
  | .run => s
  | _ => motRefuse s m

/-- Forces the target of a port's taper, or gives it back (R210, R213). -/
def forceTaper (s : State) (m : Nat) (v : Option F32) : State :=
  match motTaper s m with
  | some j => setTaper s j { taperOf s j with forced := v }
  | none => s

/-- The target a port's taper takes when nothing of a stop is in force: the nightlight's while night is set (R213). -/
def restTarget (s : State) (m : Nat) : Option F32 :=
  if (motOf s m).night then (motNightInst s m).map (fun i => (blkOf s i).f.getD 0 0#32) else none

/-- The port enters OFF with all gates low; the stall count returns to 0 where the command says so (R210, R211). -/
def toOff (s : State) (m : Nat) (clearStalls : Bool) : State :=
  forceTaper (modMot s m (fun x => let y := x.quiet .off; if clearStalls then { y with stalls := 0 } else y)) m (restTarget s m)

/-- The stop command (R210, R212). -/
def motStop (s : State) (m t : Nat) : State :=
  match (motOf s m).st with
  | .run =>
    match motStopMode s m with
    | 0 => forceTaper (modMot s m (fun x => { x with st := .stopping, stalls := 0, phaseAt := t, zeroSince := none })) m (some 0#32)
    | 2 => modMot s m (fun x => { x with st := .stopping, stalls := 0, phaseAt := t, brakeAt := some t, zeroSince := none,
                                         iqCmd := 0#32, brakeSearch := false })
    | _ => toOff s m true
  | .search => toOff s m true
  | .probe => toOff s m true
  | .catch_ => toOff s m true
  | .brakeRegen => toOff s m true
  | .brakeDc => toOff s m true
  | .brakeCoast => toOff s m true
  | .retryWait => toOff s m true
  | _ => motRefuse s m

/-- The coast command: all gates low at once, OFF, in any state but DISABLED (R210, R212). -/
def motCoast (s : State) (m : Nat) : State :=
  if (motOf s m).st = .disabled then motRefuse s m else toOff s m true

/-- A reading of a temperature stall that is neither OPEN nor SHORT (R214). -/
def tempValid (s : State) (i : Nat) : Bool :=
  let x := stlOf s i
  x.q != .invalid && !(x.flags.getLsbD 0) && !(x.flags.getLsbD 1)

/-- Whether the condition of a latched fault is gone (R214, R215); land and modulator levels that no command carries are free. -/
def faultGone (s : State) (m : Nat) : State × Bool :=
  let x := motOf s m
  match x.fault with
  | .hwTrip => freeCond s
  | .sdLoss => freeCond s
  | .dcOvervolt => (s, fLt x.vdcLast (vMax s m))
  | .dcUndervolt => (s, fLe (vMin s m) x.vdcLast)
  | .motorOvertemp =>
    (s, (motTemps s m).all (fun i => !tempValid s i || fLt (stlOf s i).value (fOfInt ((tTrip s m : Int) - 5))))
  | _ => (s, true)

/-- The reset command (R212, R215, R217): in FAULT with the condition gone; refused otherwise. -/
def motReset (s : State) (m : Nat) : State :=
  if (motOf s m).st = .fault then
    let r := faultGone s m
    if r.2 then modMot (toOff r.1 m true) m (fun x => { x with fault := .none }) else motRefuse r.1 m
  else motRefuse s m

/-- The ident command: in OFF (R218). -/
def motIdent (s : State) (m t : Nat) : State :=
  if (motOf s m).st = .off then modMot s m (fun x => { x.quiet .ident with phaseAt := t }) else motRefuse s m

/-- The resume command ends the port's nightlight (R213). -/
def motResumeCmd (s : State) (m : Nat) : State :=
  if (motOf s m).night then
    forceTaper (modMot s m (fun x => { x with night := false })) m (if (motOf s m).st = .stopping then some 0#32 else none)
  else s

/-- What a command does when its port takes it (R212). -/
def motCommand (s : State) (m t : Nat) (c : MotCmd) : State :=
  match c with
  | .start => motStart s m t
  | .stop => motStop s m t
  | .coast => motCoast s m
  | .reset => motReset s m
  | .ident => motIdent s m t
  | .resume => motResumeCmd s m

/-! ## Searches and the start decision (R206 to R209) -/

/-- A state with PWM is entered only while R28 holds; without it the port enters OFF with all gates low (R28, R190, R216). DESIGN CHOICE (log
entry 42) for a start that comes while a condition fails. -/
def motDrive (s : State) (m : Nat) (f : State → State) : State := if driving s then f s else toOff s m true

/-- CATCH at the present speed (R208); a PM motor in ENC mode takes its offset from a search angle above v_detect, or aligns
from standstill (R202). -/
def toCatch (s : State) (m t : Nat) (still : Bool) (angle : Option Nat) : State := motDrive s m fun s =>
  let x := motOf s m
  let y := { x with st := .catch_, gates := true, phaseAt := t, iqCmd := 0#32, nextIq := none, brakeSearch := false, lowSince := none,
                    settled := none, aligning := false, idCmd := Config.freeWord s.free }
  let s1 := setMot (useFree s) m y
  if motPm s m && motFb s m == 0 then
    match angle with
    | some a => if still then modMot s1 m (fun z => { z with aligning := !z.offsetValid }) else setOffset s1 m a
    | none => if still then modMot s1 m (fun z => { z with aligning := !z.offsetValid }) else s1
  else s1

/-- A braking state: entered for the first time of this start, or again (R209). -/
def toBrake (s : State) (m t : Nat) (st : MotSt) : State := motDrive s m fun s =>
  modMot (useFree s) m (fun x => { x with
    st := st, gates := decide (st ≠ .brakeCoast), phaseAt := t, brakeSearch := false, lowSince := none,
    brakeAt := some (x.brakeAt.getD t), idCmd := Config.freeWord s.free })

/-- The start decision of R208 on a speed n in the commanded direction. -/
def startDecide (s : State) (m t : Nat) (n : F32) (angle : Option Nat) : State :=
  if fLt (fAbs n) (nZero s m) then toCatch s m t true angle
  else if fLt n (fNeg (nCatch s m)) then toBrake s m t .brakeRegen
  else toCatch s m t false angle

/-- A probe: i_probe as DC along U for 20 ms (R207). -/
def toProbe (s : State) (m t : Nat) : State := motDrive s m fun s =>
  modMot s m (fun x => { x with st := .probe, gates := true, phaseAt := t, probes := x.probes + 1 })

/-- DC along U for the measurements of an identification (R218). -/
def toMeasure (s : State) (m t : Nat) : State := motDrive s m fun s => modMot s m (fun x => { x with identMeas := true, gates := true, phaseAt := t })

/-- A search is under way whose window of t_search is over at t (R206, R207, R209, R218). -/
def searchOver (s : State) (m t : Nat) : Bool :=
  let x := motOf s m
  let on := (x.st == .search) || (x.st == .probe && !x.gates) || (x.st == .ident && !x.identMeas) || x.brakeSearch
  on && x.repeatAt.isNone && decide (x.phaseAt + tSearch s m ≤ t)

/-- What a finished search finds: forward speed, or none where V_l is below v_detect and no wick speaks (R206, R207). -/
def searchSpeed (s : State) (m : Nat) (r : SearchReading) : Option F32 :=
  match wickRpm s m with
  | some n => some n
  | none =>
    if fLe (vDetect s m) (fRat r.vLine 10) then
      let n := fDiv (fMul (fOfNat 60) r.fl) (fOfNat (motPoles s m))
      some (if r.reversed then fNeg n else n)
    else none

/-- A search that fails: its phase sequence changes, or it finds more than 1.5 × n_rated (R206). -/
def searchFails (s : State) (m : Nat) (r : SearchReading) : Bool :=
  fLe (vDetect s m) (fRat r.vLine 10) &&
  (!r.seqHeld || fLt (fDiv (fMul (nRated s m) (fOfNat 3)) (fOfNat 2)) (fDiv (fMul (fOfNat 60) r.fl) (fOfNat (motPoles s m))))

/-- SEARCH_COMPLETE (R206 to R209, R218). -/
def searchDone (s : State) (m t : Nat) (r : SearchReading) : State :=
  if !searchOver s m t then s
  else
    let x := motOf s m
    if searchFails s m r then
      if x.brakeSearch then
        modMot s m (fun y => { y with brakeSearch := false, gates := driving s && decide (y.st ≠ .brakeCoast), phaseAt := t })
      else if x.repeated then motFault s m .searchFail
      else modMot s m (fun y => { y with repeated := true, repeatAt := some (t + secNs) })
    else
      let found := searchSpeed s m r
      let res : SearchRes := { vLine := r.vLine, speed := found.getD 0#32, angle := r.angle, reversed := r.reversed }
      let s1 := setMot s m { x with search := some res }
      let n := inDir x (found.getD 0#32)
      let angle := if fLe (vDetect s m) (fRat r.vLine 10) then some r.angle else none
      if x.brakeSearch then
        if x.st = .stopping then
          if fLt (fAbs n) (nZero s m) then toOff s1 m false
          else modMot s1 m (fun y => { y with brakeSearch := false, gates := driving s, phaseAt := t })
        else if fLe (fAbs n) (nCatch s m) then toCatch s1 m t (fLt (fAbs n) (nZero s m)) angle
        else modMot s1 m (fun y => { y with brakeSearch := false, gates := driving s && decide (y.st ≠ .brakeCoast), phaseAt := t })
      else if x.st = .ident then
        if fLt (fAbs n) (nZero s m) then toMeasure s1 m t else motFault s1 m .identFail
      else if found.isNone && !motPm s m && decide (x.probes < 2) then toProbe s1 m t
      else startDecide s1 m t n angle

/-! ## Braking, catching, stopping -/

/-- t_brake_max has passed in a braking state; a search whose window is over is evaluated first (R209). -/
def brakeOver (s : State) (m t : Nat) : Bool :=
  let x := motOf s m
  let braking := x.st == .brakeRegen || x.st == .brakeDc || x.st == .brakeCoast
  braking && !searchOver s m t && (match x.brakeAt with | some t0 => decide (t0 + tBrakeMax s m ≤ t) | none => false)

/-- STOPPING ends: |n| < n_zero for 200 ms, or t_brake_max in DC (R210). -/
def stopOver (s : State) (m t : Nat) : Bool :=
  let x := motOf s m
  x.st == .stopping &&
  ((match x.zeroSince with | some t0 => decide (t0 + 200 * msNs ≤ t) | none => false) ||
   (match x.brakeAt with | some t0 => decide (t0 + tBrakeMax s m ≤ t) | none => false))

/-- The end of STOPPING: OFF; after t_brake_max in DC with an event record (R210). -/
def endStopping (s : State) (m t : Nat) : State :=
  let x := motOf s m
  let late := match x.zeroSince with | some t0 => !decide (t0 + 200 * msNs ≤ t) | none => true
  let s1 := toOff s m false
  if late then logEv s1 (srcMot m) .motorDelayed m else s1

/-- A stall is declared (R211): counted and recorded; with retries left the port waits, at the limit it latches FAN_STALL. -/
def motStall (s : State) (m t : Nat) : State :=
  let x := motOf s m
  if x.st ≠ .run then s
  else
    let s1 := logEv (setMot s m { x with stallCount := satInc 16 x.stallCount }) (srcMot m) .fanStall m
    if x.stalls < fanRetries s m then
      modMot s1 m (fun y => { y.quiet .retryWait with stalls := y.stalls + 1, retryAt := t + tRetry s m })
    else motFault s1 m .fanStall

/-- t_retry has elapsed (R211). -/
def motRetry (s : State) (m t : Nat) : State :=
  let x := motOf s m
  if x.st = .retryWait ∧ x.retryAt ≤ t then toSearch s m t else s

/-- Braking ends at |n| ≤ n_catch: in BRAKE_REGEN by the wick or the observer, in BRAKE_DC and BRAKE_COAST by the wick (R209). -/
def brakeSlow (s : State) (m : Nat) : Bool :=
  let x := motOf s m
  (match x.st with
   | .brakeRegen => true
   | .brakeDc => (wickRpm s m).isSome
   | .brakeCoast => (wickRpm s m).isSome
   | _ => false) && fLe (fAbs (inDir x (useSpeed s m))) (nCatch s m)

/-- The end of braking: CATCH at n (R209). -/
def brakeEnd (s : State) (m t : Nat) : State :=
  let x := motOf s m
  let n := inDir x (useSpeed s m)
  if brakeSlow s m then toCatch s m t (fLt (fAbs n) (nZero s m)) none else s

/-- A decision of a run takes effect (R25, R200). -/
def motAct (s : State) (m t : Nat) (a : MotAct) : State :=
  match a with
  | .cmd c => motCommand s m t c
  | .fault f => motFault s m f
  | .stall => motStall s m t
  | .retry => motRetry s m t
  | .stopped => if (motOf s m).st = .stopping then endStopping s m t else s
  | .brakeEnd => brakeEnd s m t

/-! ## Sigma-delta feedback (R196) -/

/-- Sums of n values in a row, at each place where n of them stand. -/
def boxSums (n : Nat) : List Int → List Int
  | [] => []
  | x :: t => if n ≤ t.length + 1 then ((x :: t).take n).sum :: boxSums n t else []

/-- A sinc filter of an order over a window of modulator bits at an oversampling ratio, in parts of full scale (R196): a one counts +1, a
zero -1. -/
def sincOf (order n : Nat) (bits : List Bool) : F32 :=
  match (List.range order).foldl (fun l _ => boxSums n l) (bits.map (fun b => if b then (1 : Int) else -1)) with
  | v :: _ => fRat v (n ^ order)
  | [] => 0#32

/-- The window's ones density is above 95 % or below 5 % (R196). -/
def densityClip (bits : List Bool) : Bool :=
  let k := bits.count true
  decide (95 * bits.length < 100 * k) || decide (100 * k < 5 * bits.length)

/-- OSR of the main filters (MOT_SD). -/
def motOsr (s : State) (m : Nat) : Nat := 32 * 2 ^ regF s .motSd m 2 2

/-- A channel's value from its code: gain × code + offset (R196); 0 U, 1 V, 2 W, 3 DC bus. DESIGN CHOICE (log entry 42): the offset is
in A or V. -/
def chanValue (s : State) (m k : Nat) (code : F32) : F32 :=
  match motOnly s m with
  | some o => fAdd (fMul (o.gain.getD k 0#32) code) (o.offset.getD k 0#32)
  | none => 0#32

/-- i_trip, A (MOT_LIMITS, R215). -/
def iTrip (s : State) (m : Nat) : F32 := fPart (iRated s m) (fld (motPar s m 0) 11 10) 100

/-! ## Commands and happenings -/

/-- A command reaches MOTOR_CTRL in its next input set; a port that is not defined accepts none (R212, R220). -/
def motTake (s : State) (m : Nat) (c : MotCmd) : State :=
  if (motOf s m).st = .disabled then motRefuse s m else modMot s m (fun x => { x with cmds := x.cmds ++ [c] })
/-- MOTOR_START (R206, R212, R220). -/
def execMotorStart (m : Fin 16) (s : State) : Out := .next (rowCmd s .motCmd m 1#32 (fun s => motTake s m .start))
/-- MOTOR_STOP (R210, R212, R220). -/
def execMotorStop (m : Fin 16) (s : State) : Out := .next (rowCmd s .motCmd m 2#32 (fun s => motTake s m .stop))
/-- MOTOR_COAST (R210, R212, R220). -/
def execMotorCoast (m : Fin 16) (s : State) : Out := .next (rowCmd s .motCmd m 3#32 (fun s => motTake s m .coast))
/-- MOTOR_RESET (R212, R215, R220). -/
def execMotorReset (m : Fin 16) (s : State) : Out := .next (rowCmd s .motCmd m 4#32 (fun s => motTake s m .reset))
/-- MOTOR_IDENT (R218, R220). -/
def execMotorIdent (m : Fin 16) (s : State) : Out := .next (rowCmd s .motCmd m 5#32 (fun s => motTake s m .ident))
/-- MOTOR_RESUME (R213, R220). -/
def execMotorResume (m : Fin 16) (s : State) : Out := .next (rowCmd s .motCmd m 6#32 (fun s => motTake s m .resume))
/-- MOT_COUNTS to 0 (R220). -/
def motClearCounts (s : State) (m : Nat) : State := modMot s m (fun x => { x with faults := 0, stallCount := 0 })
/-- MOTOR_CLEAR_COUNTS (R220). -/
def execMotorClearCounts (m : Fin 16) (s : State) : Out := .next (rowCmd s .motCmd m 7#32 (fun s => motClearCounts s m))
/-- A command code of MOT_CMD, from the register or the port's command basket (R220). -/
def motOp (s : State) (m op : Nat) : State :=
  match op with
  | 1 => motTake s m .start
  | 2 => motTake s m .stop
  | 3 => motTake s m .coast
  | 4 => motTake s m .reset
  | 5 => motTake s m .ident
  | 6 => motTake s m .resume
  | 7 => motClearCounts s m
  | _ => s
/-- HW_TRIP (R191, R215). -/
def execHwTrip (m : Fin 16) (t : Ns) (s : State) : Out := .next (motFault (setNow s t) m .hwTrip)
/-- MOTOR_OVERCURRENT (R196, R215): a fast filter stands at or beyond ±i_trip between two carrier extremes. -/
def execMotorOvercurrent (m : Fin 16) (t : Ns) (s : State) : Out := .next (motFault (setNow s t) m .overcurrent)
/-- DC_OVERVOLT (R215): v_dc above v_max in two successive main samples. -/
def execDcOvervolt (m : Fin 16) (t : Ns) (s : State) : Out :=
  let s := setNow s t
  .next (if fLt (vMax s m) (motOf s m).vdcLast && fLt (vMax s m) (motOf s m).vdcPrev then motFault s m .dcOvervolt else s)
/-- DC_UNDERVOLT (R208, R215): v_dc below v_min for 10 ms with gates driving. -/
def execDcUndervolt (m : Fin 16) (t : Ns) (s : State) : Out :=
  let s := setNow s t
  .next (match (motOf s m).lowVdc with
    | some t0 => if t0 + 10 * msNs ≤ t then motFault s m .dcUndervolt else s
    | none => s)
/-- SD_LOSS (R197): not while the port is gated, nor within 10 µs after its own clock started with the pair gate (R342). -/
def execSdLoss (m : Fin 16) (t : Ns) (s : State) : Out :=
  let s := setNow s t
  .next (match s.pair.gateAt with
    | some g => if driving s ∧ g + 10000 ≤ t then motFault s m .sdLoss else s
    | none => s)
/-- OBSERVER_INVALID_TIMEOUT (R204): invalid for 100 ms at a setpoint at or above obs_min. -/
def execObserverInvalidTimeout (m : Fin 16) (t : Ns) (s : State) : Out :=
  let s := setNow s t
  .next (match (motOf s m).obsBadSince with
    | some t0 => if t0 + 100 * msNs ≤ t then motFault s m .feedbackLost else s
    | none => s)
/-- PHASE_LOSS (R215): while the port drives current. -/
def execPhaseLoss (m : Fin 16) (t : Ns) (s : State) : Out :=
  let s := setNow s t
  .next (if (motOf s m).gates then motFault s m .phaseLoss else s)
/-- SEARCH_COMPLETE (R206 to R208). -/
def execSearchComplete (m : Fin 16) (t : Ns) (r : SearchReading) (s : State) : Out := .next (searchDone (setNow s t) m t r)
/-- SEARCH_RETRY (R206): the failed search is repeated. -/
def execSearchRetry (m : Fin 16) (t : Ns) (s : State) : Out :=
  let s := setNow s t
  let x := motOf s m
  .next (match x.repeatAt with
    | some t0 => if t0 ≤ t then setMot s m { x with repeatAt := none, phaseAt := t } else s
    | none => s)
/-- PROBE_COMPLETE (R207): gates low, and a search begins. -/
def execProbeComplete (m : Fin 16) (t : Ns) (s : State) : Out :=
  let s := setNow s t
  let x := motOf s m
  .next (if x.st = .probe ∧ x.gates = true ∧ x.phaseAt + 20 * msNs ≤ t then setMot s m { x with gates := false, phaseAt := t } else s)
/-- ANGLE_ALIGN_COMPLETE (R202): the rotor stands along U after 200 ms. -/
def execAngleAlignComplete (m : Fin 16) (t : Ns) (s : State) : Out :=
  let s := setNow s t
  let x := motOf s m
  .next (if x.st = .catch_ ∧ x.aligning = true ∧ x.phaseAt + 200 * msNs ≤ t then
      setOffset (setMot s m { x with aligning := false, phaseAt := t }) m 0
    else s)
/-- CATCH is over: the flux is built, and the error of both axes of the current loop has stayed within 5 % of rated current for 10 ms
(R208). -/
def catchOver (s : State) (m t : Nat) : Bool :=
  let x := motOf s m
  x.st == .catch_ && !x.aligning && (motPm s m || decide (x.phaseAt + tFlux s m ≤ t)) &&
  (match x.settled with | some t0 => decide (t0 + 10 * msNs ≤ t) | none => false)
/-- CATCH_COMPLETE (R208): RUN; i_q is 0 until the first torque command (R200). -/
def execCatchComplete (m : Fin 16) (t : Ns) (s : State) : Out :=
  let s := setNow s t
  let x := motOf s m
  .next (if catchOver s m t then
      setMot s m { x with st := .run, iqCmd := 0#32, nextIq := none, search := none, probes := 0, brakeAt := none }
    else s)
/-- BRAKE_FALLBACK (R209). -/
def execBrakeFallback (m : Fin 16) (t : Ns) (s : State) : Out :=
  let s := setNow s t
  let x := motOf s m
  .next (match x.lowSince with
    | some t0 => if x.st = .brakeRegen ∧ t0 + 2 * secNs ≤ t then toBrake s m t (if motPm s m then .brakeCoast else .brakeDc) else s
    | none => s)
/-- BRAKE_SEARCH (R209, R210): after 1 s of braking without a wick the gates go low for t_search. -/
def execBrakeSearch (m : Fin 16) (t : Ns) (s : State) : Out :=
  let s := setNow s t
  let x := motOf s m
  let dc := x.st == .brakeDc || x.st == .brakeCoast || (x.st == .stopping && x.brakeAt.isSome)
  .next (if dc && (wickRpm s m).isNone && !x.brakeSearch && decide (x.phaseAt + secNs ≤ t) then
      setMot s m { x with gates := false, brakeSearch := true, phaseAt := t }
    else s)
/-- REVERSE_HOLD (R209). -/
def execReverseHold (m : Fin 16) (t : Ns) (s : State) : Out :=
  let s := setNow s t
  .next (if brakeOver s m t then motFault s m .reverseHold else s)
/-- STOPPING_COMPLETE (R210). -/
def execStoppingComplete (m : Fin 16) (t : Ns) (s : State) : Out :=
  let s := setNow s t
  .next (if stopOver s m t then endStopping s m t else s)
/-- The stall condition of R211 has held for t_tach. -/
def stallOver (s : State) (m t : Nat) : Bool :=
  let x := motOf s m
  x.st == .run && (match x.belowSince with | some t0 => decide (t0 + tTach s m ≤ t) | none => false)
/-- FAN_STALL (R211). -/
def execFanStall (m : Fin 16) (t : Ns) (s : State) : Out :=
  let s := setNow s t
  .next (if stallOver s m t then motStall s m t else s)
/-- RETRY_WAIT_EXPIRY (R211). -/
def execRetryWaitExpiry (m : Fin 16) (t : Ns) (s : State) : Out := .next (motRetry (setNow s t) m t)
/-- 60 s above n_floor: the stall count returns to 0 (R211). -/
def stallClear (s : State) (m t : Nat) : State :=
  let x := motOf s m
  match x.aboveSince with
  | some t0 => if t0 + 60 * secNs ≤ t then setMot s m { x with stalls := 0 } else s
  | none => s
/-- STALL_COUNT_CLEAR (R211). -/
def execStallCountClear (m : Fin 16) (t : Ns) (s : State) : Out := .next (stallClear (setNow s t) m t)
/-- IDENT_COMPLETE (R218): results in range within 3 s are stored; otherwise IDENT_FAIL, keeping the previous ones. -/
def execIdentComplete (m : Fin 16) (t : Ns) (rs ls : F32) (ok : Bool) (s : State) : Out :=
  let s := setNow s t
  let x := motOf s m
  let good := ok && fLe (fRat 1 1000) rs && fLe rs (fOfNat 100) && fLe (fRat 1 1000000) ls && fLe ls (fOfNat 1) &&
    decide (t ≤ x.phaseAt + 3 * secNs)
  .next (if x.st = .ident ∧ x.identMeas = true then
      if good then stick (setMot s m { x.quiet .off with rs := rs, ls := ls, identified := true }) .motStatus m 17
      else motFault s m .identFail
    else s)

/-! ## The current loop (R193, R195, R199) -/

/-- 2π in binary32. -/
def fTwoPi : F32 := fRat 6283185307 1000000000

/-- Half period of the carrier, ns (R192, R193). -/
def halfNs (s : State) (m : Nat) : Nat := ((regF s .motPwm m 0 16 : Int) + (motOf s m).delta).toNat * 8

/-- ω_c = 2π × f_pwm / 10, rad/s (R218). -/
def omegaC (s : State) (m : Nat) : F32 := fDiv (fMul fTwoPi (fDiv (fOfNat 62500000) (fOfNat (regF s .motPwm m 0 16)))) (fOfNat 10)

/-- Kp_i and Ki_i in force: the expert registers, or from the stored identification, or the stream's defaults (R218). -/
def curGains (s : State) (m : Nat) : F32 × F32 :=
  let x := motOf s m
  if !motExpert s m && x.identified then (fMul x.ls (omegaC s m), fMul x.rs (omegaC s m)) else (motPar s m 3, motPar s m 4)

/-- The motor's inductance of the cross-coupling terms: identified, or as the gain Kp_i was derived from it (R199, R218). -/
def curInduct (s : State) (m : Nat) : F32 :=
  let x := motOf s m
  if x.identified then x.ls else fDiv (motPar s m 3) (omegaC s m)

/-- i_lim_eff = i_lim × g (R199). -/
def iLimEff (s : State) (m : Nat) : F32 := fMul (iLim s m) ((motOf s m).g.getD 0#32)

/-- The braking current that the bus limiter allows: all of i_brake below v_brake, some smaller value at it, which the spec
leaves open (R209, log entry 2). -/
def brakeAllowed (s : State) (m : Nat) (vdc : F32) : State × F32 :=
  if fLt vdc (vBrake s m) then (s, iBrake s m)
  else (useFree s, fClamp 0#32 (iBrake s m) (Config.freeWord s.free))

/-- Setpoint of the port's speed loop, rev/min, as the input set shows it. -/
def loopW (s : State) (m : Nat) : F32 := match motLoop s m with | some l => (loopOf (t0 s) l).w | none => 0#32

/-- A SENSORLESS port below obs_min drives a rotating vector of i_probe (R204). -/
def slowVector (s : State) (m : Nat) : Bool :=
  motFb s m == 2 && (motOf s m).st == .run && fLt (fAbs (loopW s m)) (obsMinRpm s m)

/-- References i_d*, i_q* of the present state with the limiter's and the current limit's flags (R199, R200, R209): BRAKE_REGEN
magnetises over t_flux before it brakes. -/
def curRefs (s : State) (m : Nat) (vdc : F32) : State × (F32 × F32 × Bool × Bool) :=
  let x := motOf s m
  if slowVector s m then (s, (iProbe s m, 0#32, false, false))
  else
  match x.st with
  | .probe => (s, (iProbe s m, 0#32, false, false))
  | .ident => (s, (fPart (iRated s m) (if s.now < x.phaseAt + Config.identStep then 25 else 50) 100, 0#32, false, false))
  | .brakeDc => (s, (iDc s m, 0#32, false, false))
  | .catch_ => (s, (if x.aligning then iProbe s m else x.idCmd, 0#32, false, false))
  | .brakeRegen =>
    if s.now < x.phaseAt + tFlux s m then (s, (x.idCmd, 0#32, false, false))
    else
    let a := brakeAllowed s m vdc
    let i := if fLt (useSpeed s m) 0#32 then a.2 else fNeg a.2
    (a.1, (x.idCmd, i, !fLt vdc (vBrake s m), false))
  | .stopping =>
    if x.brakeAt.isSome then (s, (iDc s m, 0#32, false, false))
    else
      let l := fSqrt (fSub (fMul (iLimEff s m) (iLimEff s m)) (fMul x.idCmd x.idCmd))
      (s, (x.idCmd, fClamp (fNeg l) l x.iqCmd, false, fLt l (fAbs x.iqCmd)))
  | .run =>
    let l := fSqrt (fSub (fMul (iLimEff s m) (iLimEff s m)) (fMul x.idCmd x.idCmd))
    (s, (x.idCmd, fClamp (fNeg l) l x.iqCmd, false, fLt l (fAbs x.iqCmd)))
  | _ => (s, (0#32, 0#32, false, false))

/-- Values of a phase sample (R195, R196, R199): phase currents, i_d and i_q, A, the bus voltage, V, the largest phase current, A, whether
a channel clipped. -/
structure PhaseVals where
  iu : F32
  iv : F32
  iw : F32
  id : F32
  iq : F32
  vdc : F32
  peak : F32
  clip : Bool
  deriving DecidableEq, Repr

/-- The decimated sample at electrical angle θ (R196, R199). PRESUMED (log entry 42): i_d and i_q by the amplitude-invariant
transforms. -/
def phaseVals (s : State) (m angle : Nat) (p : PhaseSample) : PhaseVals :=
  let ch := fun (k : Nat) (b : List Bool) => chanValue s m k (sincOf 3 (motOsr s m) b)
  let u := ch 0 p.iu
  let v := ch 1 p.iv
  let w := ch 2 p.iw
  let th := fMul fTwoPi (fRat angle 65536)
  let a := fMul (fRat 2 3) (fSub u (fDiv (fAdd v w) (fOfNat 2)))
  let b := fDiv (fSub v w) (fSqrt (fOfNat 3))
  let co := fCos th
  let si := fSin th
  { iu := u, iv := v, iw := w, id := fAdd (fMul a co) (fMul b si), iq := fSub (fMul b co) (fMul a si), vdc := ch 3 p.udc,
    peak := fMax (fAbs u) (fMax (fAbs v) (fAbs w)),
    clip := densityClip p.iu || densityClip p.iv || densityClip p.iw || densityClip p.udc }

/-- The PI laws of both axes with cross coupling and the voltage limit v_dc / √3, d axis first; the integrators hold while the
limit acts (R199). -/
def curLaw (s : State) (m : Nat) (smp : PhaseVals) (idRef iqRef : F32) (x : Motor) : Motor :=
  let g := curGains s m
  let l := curInduct s m
  let w := fDiv (fMul (fMul fTwoPi (useSpeed s m)) (fOfNat (motPoles s m))) (fOfNat 60)
  let ed := fSub idRef smp.id
  let eq := fSub iqRef smp.iq
  let ud := fSub (fAdd (fMul g.1 ed) x.intD) (fMul (fMul w l) smp.iq)
  let uq := fAdd (fAdd (fMul g.1 eq) x.intQ) (fMul (fMul w l) smp.id)
  let vm := fDiv smp.vdc (fSqrt (fOfNat 3))
  let ud' := fClamp (fNeg vm) vm ud
  let vq := fSqrt (fSub (fMul vm vm) (fMul ud' ud'))
  let uq' := fClamp (fNeg vq) vq uq
  let sat := !(fEq ud ud' && fEq uq uq')
  let h := fRat (halfNs s m) secNs
  { x with
    ud := ud', uq := uq', voltSat := sat,
    intD := if sat then x.intD else fAdd x.intD (fMul (fMul g.2 ed) h),
    intQ := if sat then x.intQ else fAdd x.intQ (fMul (fMul g.2 eq) h) }

/-- A fast filter of the sample, sinc2 with OSR 16, stands at or beyond ±i_trip (R196, R215). -/
def fastTrip (s : State) (m : Nat) (p : PhaseSample) : Bool :=
  [p.fu, p.fv, p.fw].zipIdx.any (fun q => !q.1.isEmpty && fLe (iTrip s m) (fAbs (chanValue s m q.2 (sincOf 2 16 q.1))))

/-! ## Legs (R190, R192, R194) -/

/-- Dead time, ns (MOT_PWM). -/
def deadNs (s : State) (m : Nat) : Nat := 4 * regF s .motPwm m 16 12

/-- Dead-time compensation of a leg (R194): above 2 % of rated current its duty moves by dead / (2 × H × 8 ns). DEDUCED (log entry 42):
upward for a current out of the leg. -/
def deadComp (s : State) (m : Nat) (i d : F32) : F32 :=
  let k := fRat (deadNs s m) (16 * regF s .motPwm m 0 16)
  if fLt (fPart (iRated s m) 2 100) (fAbs i) then (if fLt i 0#32 then fSub d k else fAdd d k) else d

/-- No on-time shorter than twice the dead time is produced: the duty is rounded to 0 or 1 (R194). -/
def roundDuty (s : State) (m : Nat) (d : F32) : F32 :=
  let period := fOfNat (2 * halfNs s m)
  let least := fOfNat (2 * deadNs s m)
  let c := fClamp 0#32 (fOfNat 1) d
  if fLt (fMul c period) least then 0#32 else if fLt (fMul (fSub (fOfNat 1) c) period) least then fOfNat 1 else c

/-- Duties of the three legs for the voltage vector of a half period (R192, R194, R195). -/
def legDuties (s : State) (m angle : Nat) (v : PhaseVals) (x : Motor) : List F32 :=
  [v.iu, v.iv, v.iw].zipIdx.map (fun p => roundDuty s m (deadComp s m p.1 (Config.legDuty x.ud x.uq v.vdc angle p.2)))

/-- Upper and lower gate command of one leg at counter value c, `since` ns after its latest change (R190, R192): the upper switch at or
above h × (1 − D), the lower for the rest, both low for the dead time and never less than 100 ns. -/
def legLands (h : Nat) (d : F32) (dead c since : Nat) : Bool × Bool :=
  if since < max dead 100 then (false, false)
  else
    let up := fLe (fMul (fOfNat h) (fSub (fOfNat 1) d)) (fOfNat c)
    (up, !up)

/-- The six gate lands of a port (R28, R190): all low unless the port commands PWM and R28 holds. `since`: per leg, ns. -/
def gateLands (s : State) (m c : Nat) (since : List Nat) : List (Bool × Bool) :=
  let x := motOf s m
  let h := halfNs s m / 8
  (upTo 3).map (fun k =>
    match x.duty[k]?, x.gates && driving s with
    | some d, true => legLands h d (deadNs s m) c (since.getD k 0)
    | _, _ => (false, false))

/-- The dither register advances once per carrier period; δ lies within ± floor(H × dither / 100) (R193). -/
def nextDither (s : State) (m : Nat) : State :=
  let h := regF s .motPwm m 0 16
  let d := h * regF s .motPwm m 28 4 / 100
  modMot s m (fun x =>
    let r := dither x.lfsr d
    { x with lfsr := r.1, delta := r.2 })

/-- Sums of the interval of the feedback record, and the main samples of v_dc (R198, R215); p_el = 3/2 × (u_d i_d + u_q i_q) (log entry
11). -/
def curSums (s : State) (m t : Nat) (smp : PhaseVals) (x : Motor) : Motor :=
  let p := fMul (fRat 3 2) (fAdd (fMul x.ud smp.id) (fMul x.uq smp.iq))
  let low := x.gates && fLt smp.vdc (vMin s m)
  { x with
    nSamp := x.nSamp + 1, sumId := fAdd x.sumId smp.id, sumIq := fAdd x.sumIq smp.iq, sumVdc := fAdd x.sumVdc smp.vdc,
    sumP := fAdd x.sumP p, iPeak := fMax x.iPeak smp.peak, sdClip := x.sdClip || smp.clip, vdcLast := smp.vdc, vdcPrev := x.vdcLast,
    lowVdc := if low then some (x.lowVdc.getD t) else none }

/-- Electrical angle at an instant (R201, R204); the slip angle of an induction motor's rotor-flux model is left open. -/
def motAngleAt (s : State) (m t : Nat) : Nat :=
  let x := motOf s m
  if slowVector s m then (x.rot / 65536 % 65536).toNat
  else if x.fallback || motFb s m == 2 then obsAngleAt s m t
  else if motFb s m = 1 then hallAngle s m t
  else (encAngle s m + x.offset + (if motPm s m then 0 else Config.freeNat s.free)) % 65536

/-- The rotating vector turns on at the setpoint for one half period (R204). -/
def turnVector (s : State) (m : Nat) : State :=
  if slowVector s m then
    let turns := fMul (fDiv (fMul (loopW s m) (fOfNat (motPoles s m))) (fOfNat 60)) (fRat (halfNs s m) secNs)
    modMot s m (fun x => { x with rot := (x.rot + fToInt (fMul turns (fOfNat 4294967296))) % 4294967296 })
  else s

/-- The current loop on one sample at angle θ (R195, R199): the result of the half period before takes effect, the next is computed. -/
def curStep (s : State) (m t angle : Nat) (v : PhaseVals) : State :=
  let x := motOf s m
  let r := curRefs s m v.vdc
  let q := r.2
  let low := x.st == .brakeRegen && q.2.2.1 && fLt (fAbs q.2.1) (fPart (iBrake s m) 20 100)
  let near := fun (a b : F32) => fLe (fAbs (fSub a b)) (fPart (iRated s m) 5 100)
  let calm := x.st == .catch_ && near q.1 v.id && near q.2.1 v.iq
  let y := curLaw r.1 m v q.1 q.2.1 (motOf r.1 m)
  turnVector (setMot r.1 m { y with
    busLim := q.2.2.1, curLim := q.2.2.2, lowSince := if low then some (y.lowSince.getD t) else none,
    settled := if calm then some (y.settled.getD t) else none, duty := y.dutyNext, dutyNext := legDuties r.1 m angle v y }) m

/-- CURRENT_LOOP_UPDATE (R193, R195, R196, R199). -/
def execCurrentLoopUpdate (m : Fin 16) (t : Ns) (smp : PhaseSample) (s : State) : Out :=
  let s := setNow s t
  if (motOf s m).st = .disabled then .next s
  else
    let angle := motAngleAt s m t
    let v := phaseVals s m angle smp
    let s0 := useFree (modMot s m (curSums s m t v))
    let s1 :=
      if (motOf s m).gates && driving s then curStep s0 m t angle v
      else modMot s0 m (fun y => { y with ud := 0#32, uq := 0#32, duty := [], dutyNext := [], busLim := false, curLim := false, voltSat := false })
    let s2 := if smp.valley then nextDither s1 m else s1
    .next (if fastTrip s2 m smp then motFault s2 m .overcurrent else s2)

/-! ## The feedback record (R198) -/

/-- derating: g < 1 (R214). -/
def Motor.derates (x : Motor) : Bool := match x.g with | some g => fLt g (fOfNat 1) | none => false

/-- Flags of the record (R198). -/
def fbFlags (s : State) (m : Nat) : Nat :=
  let x := motOf s m
  let rev := match x.search with | some r => r.reversed | none => false
  mapBits [x.voltSat, x.curLim, x.derates, x.obsValid, x.sdClip, x.busLim, x.gated, x.fallback, rev]

/-- PORT_FEEDBACK_LATCH of one port at the snapshot latch of instant t: every 2^fb_k frames (R198). -/
def fbLatch (s : State) (t m : Nat) : State :=
  let x := motOf s m
  if x.st = .disabled ∨ (frameOf t + 1) % 2 ^ regF s .motCfg m 16 3 ≠ 0 then s
  else
    let mean (y : F32) : F32 := if x.nSamp = 0 then 0#32 else fDiv y (fOfNat x.nSamp)
    let searching := x.st == .search || x.st == .probe
    let p := mean x.sumP
    let dt := 2 ^ regF s .motCfg m 16 3 * frameNs
    let r : FbRec :=
      { id := mean x.sumId, iq := mean x.sumIq, vdc := mean x.sumVdc, pEl := p,
        speed := if searching then (match x.search with | some q => q.speed | none => 0#32) else useSpeed s m,
        angle := motAngleAt s m t, st := x.st, fault := x.fault,
        vLine := match x.search with | some q => q.vLine | none => 0,
        iPeak := fScaleSat x.iPeak (fOfNat 10) 16, flags := fbFlags s m, seq := (x.rec_.seq + 1) % 65536 }
    let y := { x with rec_ := r, nSamp := 0, sumId := 0#32, sumIq := 0#32, sumVdc := 0#32, sumP := 0#32, iPeak := 0#32,
                      sdClip := false, pendE := x.pendE + fToInt (fMul p (fOfNat 1000)) * (dt : Int) }
    addItem (setMot (useFree s) m y) (.fb m r)

/-! ## What the blocks decide in a run -/

/-- Commands of one input set (R217): a coast wins over a stop, either over a start. -/
def pickCmds (cs : List MotCmd) : List MotCmd :=
  let rest := cs.filter (fun c => c != .start && c != .stop && c != .coast)
  if cs.contains .coast then .coast :: rest
  else if cs.contains .stop then .stop :: rest
  else if cs.contains .start then .start :: rest
  else rest

/-- T_m: the hotter of the port's temperature stalls, read as reported (R214). -/
def motHot (s : State) (m : Nat) : Option F32 :=
  match (motTemps s m).map (fun i => (stlOf s i).value) with
  | [] => none
  | v :: vs => some (vs.foldl fMax v)

/-- g of R214; 1 where the stream names no stall. -/
def derateFactor (s : State) (m : Nat) : F32 :=
  match motHot s m with
  | none => fOfNat 1
  | some t => fClamp (dFloor s m) (fOfNat 1) (fDiv (fSub (fOfNat (tEnd s m)) t) (fSub (fOfNat (tEnd s m)) (fOfNat (tDerate s m))))

/-- The condition of MOTOR_OVERTEMP (R214). -/
def overtemp (s : State) (m : Nat) : Bool :=
  (motTemps s m).any (fun i =>
    if tempValid s i then fLe (fOfNat (tTrip s m)) (stlOf s i).value else regB s .motCfg m 13)

/-- The nightlight's decision for a port (R213): its table's value is the target; a running port stops at n_zero, a port in OFF
starts above 2 × n_zero with night_start. -/
def nightActs (s : State) (m : Nat) : State × List MotAct :=
  let x := motOf s m
  match motNightInst s m with
  | some i =>
    if x.night then
      let v := (blkOf (t0 s) i).f.getD 0 0#32
      let s1 := if x.st = .stopping then s else forceTaper s m (some v)
      if x.st = .run ∧ fLe (fAbs v) (nZero s m) = true then (s1, [.cmd .stop])
      else if x.st = .off ∧ regB s .motCfg m 12 = true ∧ fLt (fMul (fOfNat 2) (nZero s m)) (fAbs v) = true then (s1, [.cmd .start])
      else (s1, [])
    else (s, [])
  | none => (s, [])

/-- MOTOR_CTRL's run (R205, R208 to R214): it takes the parameters, the commands of its input set and the records, and decides;
what it decides reaches the port at the next t1. -/
def runMotorCtrl (s : State) (m t : Nat) : State :=
  let x0 := motOf s m
  if x0.st = .disabled then s
  else
    let cmds := pickCmds x0.cmds
    let s1 := modMot s m (fun x => { x with par := motParRegs s m, cmds := [] })
    let s2 := modMot s1 m (fun x => { x with g := some (derateFactor s1 m) })
    let x := motOf s2 m
    let wickBack := x.fallback && (wickOf s2 (32 + m)).snap.st == .running
    let s3 := if wickBack then
        let s' := modMot s2 m (fun y => { y with fallback := false })
        if motPm s m && motFb s m == 0 then setOffset s' m (obsAngleAt s2 m t) else s'
      else s2
    let n := inDir x x.rec_.speed
    let slow := x.st == .stopping && fLt (fAbs n) (nZero s3 m) && (x.brakeAt.isNone || (wickRpm s3 m).isSome)
    let s4 := modMot s3 m (fun y => { y with zeroSince := if slow then some (y.zeroSince.getD t) else none })
    let night := nightActs s4 m
    let acts : List MotAct :=
      cmds.map .cmd ++ (if overtemp s4 m then [.fault .motorOvertemp] else []) ++
      (if brakeOver s4 m t then [.fault .reverseHold] else []) ++ (if stopOver s4 m t then [.stopped] else []) ++
      (if brakeSlow s4 m then [.brakeEnd] else []) ++
      (if x.st = .retryWait ∧ x.retryAt ≤ t then [.retry] else []) ++ night.2
    modMot night.1 m (fun y => { y with next := y.next ++ acts })

/-- MOTOR_OBSERVER's run (R204): the estimate's law is not stated, so its values are free; it is valid only at or above obs_min. The
command reaches the port at the next t1 (R25, R200). -/
def runObserver (s : State) (m t : Nat) : State :=
  let x := motOf s m
  if x.st = .disabled then s
  else
    let v := Config.freeWord s.free
    let ok := Config.freeBool s.free && fLe (obsMinRpm s m) (fAbs v)
    let bad := motFb s m == 2 && x.gates && !ok && fLe (obsMinRpm s m) (fAbs (loopW s m))
    setMot (useFree s) m { x with nextObs := some { speed := v, angle := Config.freeNat s.free % 65536, valid := ok, at_ := t, bad := bad } }

/-- The port takes an observer command (R204). -/
def Motor.takeObs (x : Motor) : Motor :=
  match x.nextObs with
  | some o => { x with nextObs := none, obsSpeed := o.speed, obsAngle := o.angle, obsValid := o.valid, obsAt := o.at_,
                       obsBadSince := if o.bad then some (x.obsBadSince.getD o.at_) else none }
  | none => x

/-- FAN_SUPERVISE's run (R211). -/
def runFan (s : State) (m t : Nat) : State :=
  let x := motOf s m
  if x.rec_.st ≠ .run then modMot s m (fun y => { y with belowSince := none, aboveSince := none })
  else
    let tach := (motOnly s m).bind (·.tach)
    let n := match tach with
      | some (w, tpr) => fDiv (fMul (fRat (wickOf s w).snap.speed 256) (fOfNat 60)) (fOfNat tpr)
      | none => x.rec_.speed
    let blind := tach.isNone && motFb s m == 2 && !x.rec_.flags.testBit 3
    let below := blind || fLt (inDir x n) (nFloor s m)
    let w := loopW s m
    let s1 := modMot s m (fun y => { y with
      belowSince := if below && fLt (nFloor s m) (inDir x w) then some (y.belowSince.getD t) else none,
      aboveSince := if !blind && fLt (nFloor s m) (inDir x n) then some (y.aboveSince.getD t) else none })
    let s2 := stallClear s1 m t
    if stallOver s2 m t then modMot s2 m (fun y => { y with next := y.next ++ [.stall], belowSince := none }) else s2

/-- ENERGY_METER's run (R198): p_el of the records since its last run joins the totaliser. -/
def runEnergy (s : State) (m : Nat) : State := modMot s m (fun x => { x with energy := x.energy + x.pendE, pendE := 0 })

/-- At t1 the decisions and the torque command of the previous frame take effect (R25, R200). A stop in the same run as a stall
applies, with the stall count at 0 (R217). -/
def motRelease (s : State) (m t : Nat) : State :=
  let x0 := (motOf s m).takeObs
  let x := { x0 with cmds := x0.cmds ++ x0.given, given := [] }
  if x.st = .disabled then s
  else
    let stops := x.next.contains (.cmd .stop) || x.next.contains (.cmd .coast)
    let acts := if stops then x.next.filter (· != .stall) else x.next
    let s1 := setMot s m { x with next := [], nextIq := none, iqCmd := match x.nextIq with
      | some i => if x.st = .run ∨ (x.st = .stopping ∧ x.brakeAt = none) then i else x.iqCmd
      | none => x.iqCmd }
    acts.foldl (fun s a => motAct s m t a) s1

/-- Host silence: a port with night_en enters nightlight; a port in FAULT does not (R213). -/
def motNightEnter (s : State) (m : Nat) : State :=
  let x := motOf s m
  if regB s .motCfg m 11 && x.st != .fault && x.st != .disabled && !x.night then
    logEv (setMot s m { x with night := true }) (srcMot m) .motorNight m
  else s

/-- The latch of the feedback record that a set of frame F carries for a port (R198, R346). -/
def mirrorStamp (s : State) (m frame : Nat) : Nat :=
  let n := 2 ^ regF s .motCfg m 16 3
  (frame - frame % n) * frameNs - 4000

/-- A port resumes as CATCH (R216): the speed from its own valid wick, otherwise from the mirror; the angle is the mirrored angle
advanced at that speed since the mirror's stamp. -/
def catchResume (s : State) (m t stamp : Nat) : State :=
  let own := wickRpm s m
  let s1 := modMot s m (fun y => { y with
    st := .catch_, gates := driving s, phaseAt := t, iqCmd := 0#32, nextIq := none, gated := false,
    search := none, settled := none, aligning := false, zeroSince := none, fallback := own.isNone && decide (motFb s m < 2),
    obsSpeed := own.getD y.rec_.speed, obsAngle := y.rec_.angle, obsAt := stamp })
  if motPm s m ∧ motFb s m = 0 ∧ own.isSome then setOffset s1 m (obsAngleAt s1 m t) else s1

/-- A port resumes from its mirrored state when its pair gate opens at take-over (R216). -/
def motMirrorResume (s : State) (m t stamp : Nat) : State :=
  let x := motOf s m
  match x.st with
  | .run => catchResume s m t stamp
  | .catch_ => catchResume s m t stamp
  | .stopping => catchResume s m t stamp
  | .brakeRegen => modMot s m (fun y => { y with gates := driving s, gated := false })
  | .brakeDc => modMot s m (fun y => { y with gates := driving s && !y.brakeSearch, gated := false })
  | .brakeCoast => modMot s m (fun y => { y with gated := false })
  | .search => modMot (toSearch s m t) m (fun y => { y with gated := false })
  | .probe => modMot (toSearch s m t) m (fun y => { y with gated := false })
  | .retryWait => modMot (toSearch s m t) m (fun y => { y with gated := false })
  | _ => modMot s m (fun y => { y with gated := false })

/-- The stream commits with the port enabled: DISABLED becomes OFF (R212). -/
def motCommit (s : State) (m : Nat) : State :=
  let x := motOf s m
  if regB s .motCfg m 0 then
    if x.st = .disabled then setMot s m { x.quiet .off with par := motParRegs s m } else modMot s m (fun y => { y with par := motParRegs s m })
  else if x.st = .disabled then s else setMot s m (x.quiet .disabled)

end Sys2Proof.Machine
end

