-- ==== Sys2Proof/Machine/Gate.lean ====
section
/-!
DEFINITION. Gates, homing and conveyor routes (R221 to R238): position mode, the homing sequence, routes with proof, belt slip
and diverters.
-/
namespace Sys2Proof.Machine

open Sys2Proof

/-- Changes a gate. -/
def modGate (s : State) (m : Nat) (f : Gate → Gate) : State := setGate s m (f (gateOf s m))

/-! ## Parameters (R236) -/

/-- Expert face of a position-mode port (GATE_CFG face). -/
def gateExpert (s : State) (m : Nat) : Bool := regB s .gateCfg m 30
/-- Position wick (R221). -/
def posWick (s : State) (m : Nat) : Nat := regF s .gateCfg m 0 6
/-- Home switch, forward and reverse limits: DI stalls (R221). -/
def homeStall (s : State) (m : Nat) : Nat := regF s .gateCfg m 9 7
def limFwd (s : State) (m : Nat) : Nat := regF s .gateCfg m 16 7
def limRev (s : State) (m : Nat) : Nat := regF s .gateCfg m 23 7
/-- A limit stall reads the class trip_class, or BREAK (R223). -/
def tripped (s : State) (m i : Nat) : Bool :=
  let c := (stlOf s i).cls
  c == .brk || (if regB s .gateCfg m 8 then c == .on else c == .off)
/-- t_deb, t_home_max in ns (R225, R227, R236). -/
def tDeb (s : State) (m : Nat) : Nat := (if gateExpert s m then regF s .gateHome m 0 8 else 20) * 100 * usNs
def tHomeMax (s : State) (m : Nat) : Nat := (if gateExpert s m then regF s .gateHome m 8 8 else 120) * secNs
/-- v_search, v_backoff, rev/min (R236). -/
def vSearch (s : State) (m : Nat) : F32 := fPart (nRated s m) (regF s .gateHome m 16 8) 100
def vBackoff (s : State) (m : Nat) : F32 := fPart (nRated s m) (regF s .gateHome m 24 8) 1000
/-- win in ticks, t_settle in ns (R222, R236). -/
def gateWinTicks (s : State) (m : Nat) : Nat := if gateExpert s m then regF s .gateWin m 0 16 else 8
def tSettle (s : State) (m : Nat) : Nat := (if gateExpert s m then regF s .gateWin m 16 16 else 50) * msNs
/-- The POSITION_LOOP instance: its item number is the position taper, its first parameter g (R221). -/
def posInst (s : State) (m : Nat) : Option (Nat × Inst) := instFor s .positionLoop m
def posTaper (s : State) (m : Nat) : Option Nat := (posInst s m).bind (fun p => p.2.id? 0)
def posGear (s : State) (m : Nat) : F32 := match posInst s m with | some (_, x) => x.val 0 | none => fOfNat 1
/-- The port is in position mode (R221). -/
def inPosMode (s : State) (m : Nat) : Bool := (posInst s m).isSome && (instFor s .homing m).isSome
/-- Integer count of the position wick's snapshot (R222). -/
def posCount (s : State) (m : Nat) : Int := snapCount s (posWick s m) (wickOf s (posWick s m)).snap

/-! ## Moves (R222 to R224, R227) -/

/-- Homing is active (R227). -/
def homing (g : Gate) : Bool := !(g.home == .idle || g.home == .fault)

/-- A move refused with NOT_HOMED, LIMIT or HOME_BUSY (R223, R224, R227). -/
def gateRefuse (s : State) (m : Nat) : State := stick s .gateStatus m 9

/-- Target of a position taper. -/
def posTarget (s : State) (m : Nat) : F32 :=
  match posTaper s m with
  | some j => (match (taperOf s j).forced with | some v => v | none => regN s .tprTarget j)
  | none => 0#32

/-- A move's target lies beyond x toward a tripped limit (R223). -/
def moveBlocked (s : State) (m : Nat) (v : F32) : Bool :=
  let x := fOfInt (posCount s m)
  (fLt x v && tripped s m (limFwd s m)) || (fLt v x && tripped s m (limRev s m))

/-- The move command (R222 to R224, R227). -/
def gateMove (s : State) (m : Nat) : State :=
  let g := gateOf s m
  if homing g then gateRefuse s m
  else if !g.homed && regB s .gateCfg m 7 then gateRefuse s m
  else if moveBlocked s m (posTarget s m) then gateRefuse s m
  else setGate s m { g with moving := true, inPos := false, winSince := none }

/-! ## Homing (R225 to R228) -/

/-- search_dir as a signed speed; `against` turns it round. -/
def dirSpeed (s : State) (m : Nat) (v : F32) (against : Bool) : F32 := if regB s .gateCfg m 6 != against then fNeg v else v

/-- The home switch is valid ON or valid OFF at t (R225). -/
def validHome (s : State) (m t : Nat) (on : Bool) : Bool :=
  let g := gateOf s m
  (stlOf s (homeStall s m)).cls == (if on then .on else .off) && decide (g.homeSince + tDeb s m ≤ t)

/-- A homing state begins: with a stop first where the table says so, then at speed v (R227). -/
def toHome (s : State) (m : Nat) (st : HomeSt) (stop : Bool) (v : F32) : State :=
  modGate s m (fun g => { g with home := st, stopping := stop, speedTgt := v, passFrom := none })

/-- Homing ends in IDLE with a stop (R227). -/
def homeEnd (s : State) (m : Nat) : State :=
  modGate s m (fun g => { g with home := .idle, stopping := true, speedTgt := 0#32, passFrom := none, moving := false })

/-- Homing faults: motion stops, the zero is not set, an event record with the code and the count (R227, R228). -/
def homeFault (s : State) (m : Nat) (f : HomeFault) : State :=
  let s1 := modGate s m (fun g => { g with home := .fault, fault := f, stopping := true, speedTgt := 0#32, passFrom := none, moving := false })
  logEv s1 (srcMot m) .homeFault (f.code + 8 * wrapN 48 (posCount s m))

/-- The home command (R227): from IDLE or FAULT; a port in OFF is started. DESIGN CHOICE (log entry 44): in an active state it changes
nothing. -/
def gateHome (s : State) (m t : Nat) : State :=
  let g := gateOf s m
  if homing g then s
  else
    let s1 := setGate s m { g with homed := false, trips := 0, fault := .none, startAt := t, ran := false, chatter := false, moving := false }
    let s2 := toHome s1 m .search false (dirSpeed s m (vSearch s m) false)
    if (motOf s2 m).st = .off then modMot s2 m (fun x => { x with given := x.given ++ [.start] }) else s2

/-- The abort command (R227): homed stays clear. -/
def gateAbort (s : State) (m : Nat) : State := if homing (gateOf s m) then homeEnd s m else s

/-- home_offset (GATE_OFS). -/
def homeOffset (s : State) (m : Nat) : Int := signed 48 (reg64 s .gateOfsLo .gateOfsHi m)

/-- HOME_RELEASE_PRESET (R226, R227): the release edge is stamped and valid OFF. -/
def homeRelease (s : State) (m : Nat) : State :=
  let g := gateOf s m
  let w := posWick s m
  let cE := Int.fdiv (coordAt s w g.homeSince).1 256
  let s1 := setWick s w { wickOf s w with pending := some (.rel cE (homeOffset s m)) }
  homeEnd (modGate s1 m (fun g => { g with homed := true })) m

/-- In BACKOFF the switch has been left and is valid OFF (R226, R227). -/
def released (s : State) (m t : Nat) : Bool := (gateOf s m).home == .backoff && validHome s m t false

/-- The port has left RUN, or a condition of R28 fails (R227). -/
def homeAborted (s : State) (m : Nat) : Bool :=
  ((gateOf s m).ran && (motOf s m).st != .run) || !driving s || (motOf s m).st == .fault

/-- A limit trips in an active homing state (R227). -/
def homeLimit (s : State) (m : Nat) : State :=
  let g := gateOf s m
  match g.home with
  | .search =>
    if g.trips = 0 then
      toHome (setGate s m { g with trips := 1 }) m .searchRev true (dirSpeed s m (vSearch s m) true)
    else homeFault s m .limit
  | _ => homeFault s m .limit

/-- A limit trips (R227): it reads tripped and did not at the run before, or it stands in the direction of the state's motion. DESIGN
CHOICE (log entry 44): the limit that turned the search, while the slide leaves it, is no new trip. -/
def newTrip (s : State) (m : Nat) : Bool :=
  let g := gateOf s m
  (tripped s m (limFwd s m) && (!g.wasFwd || fLt 0#32 g.speedTgt)) || (tripped s m (limRev s m) && (!g.wasRev || fLt g.speedTgt 0#32))

/-- The sequence's own moves (R227). -/
def homeMoves (s : State) (m t : Nat) : State :=
  let g := gateOf s m
  match g.home with
  | .search => if validHome s m t true then toHome s m .backoff true (dirSpeed s m (vBackoff s m) true) else s
  | .searchRev => if validHome s m t true then modGate s m (fun g => { g with home := .pass, passFrom := none }) else s
  | .pass =>
    match g.passFrom with
    | none => if validHome s m t false then setGate s m { g with passFrom := some (posCount s m) } else s
    | some c =>
      if (posCount s m - c).natAbs ≥ regF s .gateClear m 0 24 then toHome s m .search true (dirSpeed s m (vSearch s m) false) else s
  | .backoff => if released s m t then homeRelease s m else s
  | _ => s

/-- The port's speed taper follows HOMING: 0 while a stop is to be finished, then the state's speed (R227). -/
def homeSpeed (s : State) (m : Nat) : State :=
  let g := gateOf s m
  match motTaper s m with
  | none => s
  | some j =>
    let atRest := fEq (taperOf (t0 s) j).y 0#32
    let g' := if homing g && g.stopping && atRest then { g with stopping := false } else g
    let v := if homing g' && !g'.stopping then g'.speedTgt else 0#32
    forceTaper (setGate s m g') m (if homing g' || !atRest then some v else none)

/-- The limits as this run saw them, for the next. -/
def noteLimits (s : State) (m : Nat) : State := modGate s m (fun g => { g with wasFwd := tripped s m (limFwd s m), wasRev := tripped s m (limRev s m) })

/-- HOMING's run (R227, R228): chatter goes before a release, a limit before a valid switch, a release before the timeout. DESIGN CHOICE
(log entry 44): the order of the other causes that meet in one run. -/
def runHoming (s : State) (m t : Nat) : State :=
  let cmds := (gateOf s m).cmds
  let s0 := modGate s m (fun g => { g with cmds := g.cmds.filter (· == .move), ran := g.ran || (motOf s m).st == .run })
  let s1 := if cmds.contains .abort then gateAbort s0 m else if cmds.contains .home then gateHome s0 m t else s0
  let g := gateOf s1 m
  let s2 :=
    if !homing g then s1
    else if g.chatter || decide (8 < (g.edges.filter (fun e => decide (t < e + 100 * msNs))).length) then homeFault s1 m .chatter
    else if (stlOf s1 (homeStall s1 m)).cls = .brk then homeFault s1 m .switchBreak
    else if homeAborted s1 m then homeFault s1 m .aborted
    else if newTrip s1 m then homeLimit s1 m
    else
      let s' := homeMoves s1 m t
      if homing (gateOf s' m) && decide (g.startAt + tHomeMax s1 m ≤ t) then homeFault s' m .timeout else s'
  noteLimits (homeSpeed s2 m) m

/-- POSITION_LOOP's run (R222, R223): the speed setpoint, the limits outside homing, in position. -/
def runPosition (s : State) (m t : Nat) : State :=
  let cmds := (gateOf s m).cmds
  let s0 := modGate s m (fun g => { g with cmds := g.cmds.filter (· != .move) })
  let s1 := if cmds.contains .move then gateMove s0 m else s0
  let g := gateOf s1 m
  match posTaper s1 m with
  | none => s1
  | some j =>
    let tp := taperOf (t0 s) j
    let hold := fun (s : State) (h : Bool) => setTaper s j { taperOf s j with held := h }
    let x := fOfInt (posCount s1 m)
    if homing (gateOf (t0 s) m) || !g.moving then
      hold (setGate s1 m { g with nStar := 0#32, inPos := false, winSince := none }) true
    else
      let e := fSub tp.y x
      let n := fDiv (fMul (fAdd tp.r (fMul (regW s1 .gateKv m) e)) (fOfNat 60)) (posGear s1 m)
      let nc := fClamp (fNeg (nRated s1 m)) (nRated s1 m) n
      let hit := (fLt 0#32 nc && tripped s1 m (limFwd s1 m)) || (fLt nc 0#32 && tripped s1 m (limRev s1 m))
      if hit then
        stick (hold (setGate s1 m { g with nStar := 0#32, moving := false, inPos := false, winSince := none }) true) .gateStatus m 8
      else
        let inside := tp.atTarget && fLe (fAbs e) (fOfNat (gateWinTicks s1 m))
        let since := if inside then some (g.winSince.getD t) else none
        let ok := match since with | some t0 => decide (t0 + tSettle s1 m ≤ t) | none => false
        hold (setGate s1 m { g with nStar := nc, winSince := since, inPos := ok }) false

/-- A command of GATE_CMD reaches HOMING or POSITION_LOOP in its next input set (R236). -/
def gateTake (s : State) (m : Nat) (c : GateCmd) : State := modGate s m (fun g => { g with cmds := g.cmds ++ [c] })
/-- GATE_HOME (R227, R236). -/
def execGateHome (m : Fin 16) (s : State) : Out := .next (rowCmd s .gateCmd m 1#32 (fun s => gateTake s m .home))
/-- GATE_ABORT (R227, R236). -/
def execGateAbort (m : Fin 16) (s : State) : Out := .next (rowCmd s .gateCmd m 2#32 (fun s => gateTake s m .abort))
/-- GATE_MOVE (R222 to R224, R236). -/
def execGateMove (m : Fin 16) (s : State) : Out := .next (rowCmd s .gateCmd m 3#32 (fun s => gateTake s m .move))
/-- An op of GATE_CMD (R236). -/
def gateOp (s : State) (m op : Nat) : State :=
  match op with
  | 1 => gateTake s m .home
  | 2 => gateTake s m .abort
  | 3 => gateTake s m .move
  | _ => s
/-- HOME_TIMEOUT (R227, R228): a release edge in the same run is taken. -/
def execHomeTimeout (m : Fin 16) (t : Ns) (s : State) : Out :=
  let s := setNow s t
  let g := gateOf s m
  .next (if homing g && decide (g.startAt + tHomeMax s m ≤ t) then
      if released s m t then homeRelease s m else homeFault s m .timeout
    else s)

/-! ## Routes (R229 to R232) -/

/-- Members of a route. -/
def membersOf (s : State) (r : Nat) : List RouteMember := (lookup s.hld.str.routeMembers r).getD []
/-- A route's member record. -/
def memOf (x : Route) (i : Nat) : MemberRun := spGet MemberRun.idle x.mem i
/-- Changes a member record. -/
def modMem (s : State) (r i : Nat) (f : MemberRun → MemberRun) : State :=
  let x := routeOf s r
  setRoute s r { x with mem := spSet MemberRun.idle x.mem i (f (memOf x i)) }
/-- Changes a route. -/
def modRoute (s : State) (r : Nat) (f : Route → Route) : State := setRoute s r (f (routeOf s r))
/-- t_proof, t_hold in ns; proof_pct (ROUTE_TIMES). -/
def tProof (s : State) (r : Nat) : Nat := regF s .routeTimes r 0 10 * secNs
def tHold (s : State) (r : Nat) : Nat := regF s .routeTimes r 10 6 * secNs
def proofPct (s : State) (r : Nat) : Nat := regF s .routeTimes r 16 7
/-- The ROUTE_SEQ instance of a route. -/
def routeInst (s : State) (r : Nat) : Option (Nat × Inst) := instFor s .routeSeq r
/-- What a member is, as one number for the list of shared members (R229). -/
def memberKey (k : MemberKind) : Nat :=
  match k with | .motor m => m | .gate m => 100 + m | .do_ i => 1000 + i | .remote b => 100000 + b

/-- A request of ROUTE_SEQ to a remote route: 1 start, 2 stop, 3 status (R231). The reply comes to the input of the member. -/
def routeRequest (s : State) (r i b op : Nat) : State :=
  match routeInst s r with
  | some (n, x) =>
    let reply := match x.src i with | .basket b => b | _ => 0
    (issueRequest s n b reply (.cmd op (BitVec.ofNat 32 i))).1
  | none => s

/-- At t1 the gate takes the move that ROUTE_SEQ gave it in the frame before (R25, R230): the position taper's target and the move, or
the end of the move. -/
def gateRelease (s : State) (m : Nat) : State :=
  match (gateOf s m).given with
  | none => s
  | some v =>
    let s1 := modGate s m (fun g => { g with given := none })
    match v, posTaper s1 m with
    | some x, some j => modGate (setTaper s1 j { taperOf s1 j with forced := some x }) m (fun g => { g with cmds := g.cmds ++ [.move] })
    | some _, none => s1
    | none, _ => modGate s1 m (fun g => { g with moving := false })

/-- Another route in STARTING, RUNNING or STOPPING holds a shared member (R229). -/
def heldElse (s : State) (r key : Nat) : Bool :=
  s.motor.holds.any (fun h => h.1 == key && h.2 != r &&
    (match (routeOf s h.2).st with | .starting => true | .running => true | .stopping => true | _ => false))

/-- Starts member i (R229, R230): a shared member that another route holds runs already. -/
def startMember (s : State) (r i t : Nat) : State :=
  match (membersOf s r)[i]? with
  | none => s
  | some mb =>
    let s1 := modMem s r i (fun _ => { MemberRun.idle with started := true, startAt := t })
    let s2 := if mb.shared then
        { s1 with motor := { s1.motor with holds := (memberKey mb.kind, r) :: s1.motor.holds.filter (· != (memberKey mb.kind, r)) } }
      else s1
    if mb.shared && heldElse s r (memberKey mb.kind) then s2
    else
      match mb.kind with
      | .motor m => modMot s2 m (fun x => { x with given := x.given ++ [.start] })
      | .gate m => modGate s2 m (fun g => { g with given := some (some mb.target) })
      | .do_ n => setStl s2 n { stlOf s2 n with nextCmd := some true }
      | .remote b => routeRequest s2 r i b 1

/-- Stops member i: an ordinary stop, or the stop upstream of a fault (R230). A shared member stays started while another route
holds it (R229). -/
def stopMember (s : State) (r i t : Nat) (upstream : Bool) : State :=
  match (membersOf s r)[i]? with
  | none => s
  | some mb =>
    let key := memberKey mb.kind
    let s1 := modMem s r i (fun x => { x with started := false, proved := false, proofSince := none, lossSince := none, stopped := false, stopAt := t })
    let s2 := { s1 with motor := { s1.motor with holds := s1.motor.holds.filter (· != (key, r)) } }
    if mb.shared && heldElse s2 r key then s2
    else
      match mb.kind with
      | .motor m => modMot s2 m (fun x => { x with given := x.given ++ [if upstream then .coast else .stop] })
      | .gate m => modGate s2 m (fun g => { g with given := some none })
      | .do_ n => setStl s2 n { stlOf s2 n with nextCmd := some false }
      | .remote b => routeRequest s2 r i b 2

/-- A member whose stop was issued has come to rest (R230). DESIGN CHOICE (log entry 44): a remote one when its latest status shows no
proof, or when it is lost. -/
def atRest (s : State) (r i : Nat) : Bool :=
  match (membersOf s r)[i]? with
  | none => true
  | some mb =>
    if mb.shared && heldElse s r (memberKey mb.kind) then true
    else
      match mb.kind with
      | .motor m => (motOf s m).st == .off || (motOf s m).st == .fault || (motOf s m).st == .disabled
      | .gate m => !(gateOf (t0 s) m).moving && (gateOf s m).given.isNone
      | .do_ n => !(stlOf s n).cmd && (stlOf s n).nextCmd != some true
      | .remote _ => !(memOf (routeOf s r) i).remoteProved || decide (3 ≤ (memOf (routeOf s r) i).lostRuns)

/-- The member's proof holds now (R229). -/
def proofNow (s : State) (r i : Nat) : Bool :=
  match (membersOf s r)[i]? with
  | none => false
  | some mb =>
    match mb.kind with
    | .motor _ =>
      match mb.wick with
      | some w => fLe (fPart mb.vNom (proofPct s r) 100) (fRat (wickOf s w).snap.speed 256)
      | none => false
    | .gate m => (gateOf (t0 s) m).inPos && fEq (posTarget s m) mb.target
    | .do_ _ =>
      match mb.proofDi with
      | some n => (stlOf s n).cls == .on
      | none => true
    | .remote _ => (memOf (routeOf s r) i).remoteProved

/-- The member is in FAULT (R230). -/
def memberFault (s : State) (r i : Nat) : Bool :=
  match (membersOf s r)[i]? with
  | none => false
  | some mb => (match mb.kind with
    | .motor m => (motOf s m).st == .fault
    | .gate m => (motOf s m).st == .fault || (gateOf (t0 s) m).home == .fault
    | _ => false)

/-- Every member is startable (R230): none in FAULT, every gate homed. -/
def startable (s : State) (r : Nat) : Bool :=
  (List.range (membersOf s r).length).all (fun i =>
    !memberFault s r i && (match (membersOf s r)[i]? with
      | some mb => (match mb.kind with | .gate m => (gateOf (t0 s) m).homed | _ => true)
      | none => true))

/-- A command refused with ROUTE_STATE (R230). -/
def routeRefuse (s : State) (r : Nat) : State := stick s .routeStatus r 9

/-- The start command (R230): from the last member. -/
def routeStart (s : State) (r t : Nat) : State :=
  let n := (membersOf s r).length
  if (routeOf s r).st = .idle ∧ startable s r = true ∧ 0 < n then
    startMember (modRoute s r (fun x => { x with st := .starting, cause := 0, faultMember := 0, mem := [] })) r (n - 1) t
  else routeRefuse s r

/-- The stop command (R230): members that were never started count as stopped. -/
def routeStop (s : State) (r t : Nat) : State :=
  match (routeOf s r).st with
  | .starting =>
    let s1 := modRoute s r (fun x => { x with st := .stopping })
    let first := (List.range (membersOf s r).length).find? (fun i => (memOf (routeOf s r) i).started)
    match first with
    | some i => stopMember s1 r i t false
    | none => s1
  | .running => stopMember (modRoute s r (fun x => { x with st := .stopping })) r 0 t false
  | _ => routeRefuse s r

/-- The reset command (R230). -/
def routeReset (s : State) (r : Nat) : State :=
  if (routeOf s r).st = .faulted then modRoute s r (fun x => { x with st := .idle, cause := 0, mem := [] }) else routeRefuse s r

/-- FAULT_STOP with a cause (R230): 1 PROOF_FAIL, 2 REMOTE_LOST, 3 fault or slip. -/
def routeFault (s : State) (r f cause : Nat) : State :=
  logEv (modRoute s r (fun x => { x with st := .faultStop, faultMember := f, cause := cause })) (srcInst s .routeSeq r) .routeFault
    (64 * r + 4 * f + cause)

/-- RUNNING: member f fails: everything upstream of f stops in one run, f with it; what follows runs out (R230). -/
def runFault (s : State) (r f cause t : Nat) : State :=
  forEach (List.range (f + 1)) (routeFault s r f cause) (fun s i => stopMember s r i t true)

/-- STARTING: a member is not proved in time: the started members stop in stop order (R230). -/
def startFault (s : State) (r f t : Nat) : State :=
  stopMember (routeFault s r f 1) r f t false

/-- Proof of member i is taken (R229, R230): the next one starts, or the route runs. -/
def proveMember (s : State) (r i t : Nat) : State :=
  let s1 := modMem s r i (fun x => { x with proved := true })
  if (routeOf s r).st = .starting then
    if i = 0 then logEv (modRoute s1 r (fun x => { x with st := .running })) (srcInst s .routeSeq r) .routeRunning r
    else startMember s1 r (i - 1) t
  else s1

/-- Run-out of member i + 1 since member i stopped (R230): ticks of its proof wick, or t_clear without one. -/
def ranOut (s : State) (r i t : Nat) : Bool :=
  let x := memOf (routeOf s r) i
  match (membersOf s r)[i + 1]? with
  | none => false
  | some mb =>
    match mb.wick with
    | some w => decide (mb.runOut ≤ (snapCount s w (wickOf s w).snap - x.stopCount).natAbs)
    | none => decide (x.stopAt + mb.tClear * msNs ≤ t)

/-- The route stops in order. -/
def stoppingRoute (x : Route) : Bool := x.st == .stopping || x.st == .faultStop

/-- A member has come to rest: its time and the next member's count are kept (R230). -/
def noteRest (s : State) (r i t : Nat) : State :=
  let x := memOf (routeOf s r) i
  if !x.started && !x.stopped && atRest s r i then
    let c := match (membersOf s r)[i + 1]? with
      | some mb => (match mb.wick with | some w => snapCount s w (wickOf s w).snap | none => 0)
      | none => 0
    modMem s r i (fun y => { y with stopped := true, stopAt := t, stopCount := c })
  else s

/-- Stops member i + 1 once member i is at rest and the run-out is over (R230). -/
def runOut (s : State) (r i t : Nat) : State :=
  let x := routeOf s r
  if stoppingRoute x && (memOf x i).stopped && (memOf x (i + 1)).started && ranOut s r i t then stopMember s r (i + 1) t false else s

/-- The last member is stopped (R230). -/
def endStop (s : State) (r : Nat) : State :=
  let x := routeOf s r
  let n := (membersOf s r).length
  if stoppingRoute x && (List.range n).all (fun i => !(memOf x i).started) && (memOf x (n - 1)).stopped then
    if x.st = .stopping then logEv (setRoute s r { x with st := .idle }) (srcInst s .routeSeq r) .routeStopped r
    else setRoute s r { x with st := .faulted }
  else s

/-- Proof timers of started members (R229, R230). -/
def noteProof (s : State) (r i t : Nat) : State :=
  if (memOf (routeOf s r) i).started then
    let now := proofNow s r i
    modMem s r i (fun x => { x with
      proofSince := if now then some (x.proofSince.getD t) else none, lossSince := if now then none else some (x.lossSince.getD t) })
  else s

/-- The proof has held for t_hold (R229). -/
def provedAt (s : State) (r i t : Nat) : Bool :=
  let x := memOf (routeOf s r) i
  x.started && !x.proved && (match x.proofSince with | some t0 => decide (t0 + tHold s r ≤ t) | none => false)

/-- A running member has failed: cause 3 fault or slip, 2 REMOTE_LOST, 1 loss of proof for t_hold; 0 it has not (R230, R231). -/
def memberFails (s : State) (r i t : Nat) : Nat :=
  let x := memOf (routeOf s r) i
  if memberFault s r i || (memOf (routeOf (t0 s) r) i).slipped then 3
  else if x.lostRuns ≥ 3 then 2
  else if (match x.lossSince with | some t0 => decide (t0 + tHold s r ≤ t) | none => false) then 1
  else 0

/-- Replies and LOST statuses of remote members (R231). -/
def takeReplies (s : State) (r : Nat) : State :=
  match routeInst s r with
  | none => s
  | some (_, x) =>
    forEach (List.range (membersOf s r).length) s (fun s i =>
      match x.src i with
      | .basket b =>
        let q := takeMsgs s b x.msgLimit
        q.2.foldl (fun s m => match m with
          | .lost _ => modMem s r i (fun y => { y with lostRuns := y.lostRuns + 1 })
          | .cmd _ a => modMem s r i (fun y => { y with lostRuns := 0, remoteProved := bit a 0 })
          | .refused _ _ => modMem s r i (fun y => { y with lostRuns := 0, remoteProved := false })
          | _ => s) q.1
      | _ => s)

/-- Requests of other devices' ROUTE_SEQ to this route (R229, R231): 1 start, 2 stop, 3 status; each reply carries the proved flag, set
while the route is RUNNING. DESIGN CHOICE (log entry 44): they come to the input after those of the members, and the reply leaves by the
first output. -/
def serveRoute (s : State) (r : Nat) : State :=
  match routeInst s r with
  | none => s
  | some (n, x) =>
    match x.src (membersOf s r).length with
    | .basket b =>
      let qs := nextMsgs s b x.msgLimit
      qs.foldl (fun s q =>
        let s1 := match q.body with
          | .cmd 1 _ => modRoute s r (fun y => { y with cmds := y.cmds ++ [.start] })
          | .cmd 2 _ => modRoute s r (fun y => { y with cmds := y.cmds ++ [.stop] })
          | _ => s
        answerTo s1 n (x.dst 0) q 0 (.cmd 3 (putB 0 ((routeOf s r).st == .running)))) (takeMsgs s b x.msgLimit).1
    | _ => s

/-- A status request to each remote member at each run (R231). -/
def askRemotes (s : State) (r : Nat) : State :=
  forEach (List.range (membersOf s r).length) s (fun s i =>
    match (membersOf s r)[i]? with
    | some mb => (match mb.kind with | .remote b => routeRequest s r i b 3 | _ => s)
    | none => s)

/-- Advances a route by its members' proofs, timers and run-outs (R230, R232). -/
def advanceRoute (s : State) (r t : Nat) : State :=
  let n := (membersOf s r).length
  let s1 := forEach (List.range n) s (fun s i => noteProof s r i t)
  match (routeOf s1 r).st with
  | .starting =>
    match (List.range n).find? (fun i => (memOf (routeOf s1 r) i).started && !(memOf (routeOf s1 r) i).proved) with
    | some i =>
      if provedAt s1 r i t then proveMember s1 r i t
      else if decide ((memOf (routeOf s1 r) i).startAt + tProof s1 r ≤ t) then startFault s1 r i t
      else s1
    | none => s1
  | .running =>
    match (List.range n).find? (fun i => memberFails s1 r i t != 0) with
    | some f => runFault s1 r f (memberFails s1 r f t) t
    | none => s1
  | .stopping =>
    let s2 := forEach (List.range n) s1 (fun s i => noteRest s r i t)
    endStop (forEach (List.range n) s2 (fun s i => runOut s r i t)) r
  | .faultStop =>
    let s2 := forEach (List.range n) s1 (fun s i => noteRest s r i t)
    endStop (forEach (List.range n) s2 (fun s i => runOut s r i t)) r
  | _ => s1

/-- ROUTE_SEQ's run (R230 to R232): commands first, so that a stop precedes a proof of the same run. -/
def runRoute (s : State) (r t : Nat) : State :=
  let sv := serveRoute s r
  let cmds := (routeOf sv r).cmds
  let s0 := takeReplies (modRoute sv r (fun x => { x with cmds := [] })) r
  let s1 := cmds.foldl (fun s c => match c with
    | .start => routeStart s r t
    | .stop => routeStop s r t
    | .reset => routeReset s r) s0
  askRemotes (advanceRoute s1 r t) r

/-- A command of ROUTE_CMD reaches ROUTE_SEQ in its next input set (R230). -/
def routeTake (s : State) (r : Nat) (c : RouteCmd) : State := modRoute s r (fun x => { x with cmds := x.cmds ++ [c] })
/-- ROUTE_START (R230, R237). -/
def execRouteStart (r : Fin 32) (s : State) : Out := .next (rowCmd s .routeCmd r 1#32 (fun s => routeTake s r .start))
/-- ROUTE_STOP (R230, R237). -/
def execRouteStop (r : Fin 32) (s : State) : Out := .next (rowCmd s .routeCmd r 2#32 (fun s => routeTake s r .stop))
/-- ROUTE_RESET (R230, R237). -/
def execRouteReset (r : Fin 32) (s : State) : Out := .next (rowCmd s .routeCmd r 3#32 (fun s => routeTake s r .reset))
/-- An op of ROUTE_CMD (R237). -/
def routeOp (s : State) (r op : Nat) : State :=
  match op with
  | 1 => routeTake s r .start
  | 2 => routeTake s r .stop
  | 3 => routeTake s r .reset
  | _ => s
/-- PROOF_TIMEOUT (R230). -/
def execProofTimeout (r : Fin 32) (i : Fin 16) (t : Ns) (s : State) : Out :=
  let s := setNow s t
  let x := memOf (routeOf s r) i
  .next (if (routeOf s r).st = .starting ∧ x.started = true ∧ x.proved = false ∧ x.startAt + tProof s r ≤ t then startFault s r i t else s)
/-- MEMBER_PROVED (R229, R230): the proof holds since t_hold before t. -/
def execMemberProved (r : Fin 32) (i : Fin 16) (t : Ns) (s : State) : Out :=
  let s := setNow s t
  .next (if provedAt s r i t then proveMember s r i t else s)
/-- RUN_OUT_COMPLETE (R230): member i has stopped and the next one has run out; it is stopped. -/
def execRunOutComplete (r : Fin 32) (i : Fin 16) (t : Ns) (s : State) : Out := .next (runOut (setNow s t) r i t)

/-! ## Belt slip (R233) -/

/-- The BELT_SLIP instance: drive wick, tail wick, route and member; parameters ratio and nominal drive speed. -/
def slipInst (s : State) (i : Nat) : Option (Nat × Inst) := instFor s .beltSlip i

/-- BELT_SLIP is declared: slip_seen, an event record, and the belt as a faulted member of its route (R230, R233). -/
def declareSlip (s : State) (i : Nat) : State :=
  let x := slipOf s i
  let s1 := logEv (stick (setSlip s i { x with declared := true }) .slipStatus i 17) (srcInst s .beltSlip i) .beltSlip i
  match slipInst s i with
  | some (_, n) => (match n.id? 2, n.id? 3 with
    | some r, some m => modMem s1 r m (fun y => { y with slipped := true })
    | _, _ => s1)
  | none => s1

/-- Slip has stood at or above slip_lim for t_slip (R233, SLIP_CFG). -/
def slipOver (s : State) (i t : Nat) : Bool :=
  let x := slipOf s i
  !x.declared && (match x.since with | some t0 => decide (t0 + regF s .slipCfg i 7 10 * 100 * msNs ≤ t) | none => false)

/-- BELT_SLIP's run (R233). -/
def runSlip (s : State) (i t : Nat) : State :=
  match slipInst s i with
  | none => s
  | some (_, n) =>
    let x := slipOf s i
    let drive := (wickOf s ((n.id? 0).getD 0)).snap
    let tail := (wickOf s ((n.id? 1).getD 0)).snap
    let vd := fRat drive.speed 256
    let run := drive.st == .running && fLe (fPart (n.val 1) 20 100) (fAbs vd)
    if tail.st = .lost then setSlip s i { x with unknown := true, since := none }
    else if !run then setSlip s i { x with unknown := false, since := none, declared := false }
    else
      let sl := if tail.st = .still then fOfNat 1 else fSub (fOfNat 1) (fDiv (fRat tail.speed 256) (fMul (n.val 0) vd))
      let overT := fLe (fPart (fOfNat 1) (regF s .slipCfg i 0 7) 100) sl
      let shown := min 10000 (fToInt (fMul sl (fOfNat 10000))).toNat
      let s1 := setSlip s i { x with slip := shown, unknown := false, since := if overT then some (x.since.getD t) else none,
                                     declared := x.declared && overT }
      if slipOver s1 i t then declareSlip s1 i else s1

/-- BELT_SLIP (R233). -/
def execBeltSlip (i : Fin 64) (t : Ns) (s : State) : Out :=
  let s := setNow s t
  .next (if slipOver s i t then declareSlip s i else s)

/-! ## Diverters (R234, R235) -/

/-- What a diverter drives (R234). -/
inductive DivTarget where
  | do_ (i : Nat) | sol (v : Nat) | gate (b : Nat) | none
  deriving DecidableEq, Repr

/-- A DIVERTER instance's target: item numbers belt wick, kind (0 DO, 1 solenoid, 2 gate basket), target, safe_dest, d_div. -/
def divTarget (x : Inst) : DivTarget :=
  match x.id? 1, x.id? 2 with
  | some 0, some i => .do_ i
  | some 1, some v => .sol v
  | some 2, some b => .gate b
  | _, _ => .none

/-- The action record that drives a diverter to a destination (R234): SOL_START with the instance's hold time for a destination
other than 0, SOL_END for 0. -/
def divAction (x : Inst) (key : Int) (dest : Nat) : ActRec :=
  let a : ActRec := { ActRec.zero with key := key, wick := (x.id? 0).getD 0 }
  match divTarget x with
  | .do_ i => { a with typ := 1, target := i, value := if dest = 0 then 0 else 1 }
  | .sol v => if dest = 0 then { a with typ := 3, target := v } else { a with typ := 2, target := v, value := (fToInt (x.val 3)).toNat }
  | .gate b => { a with typ := 6, target := b, value := dest }
  | .none => a

/-- Drives a diverter at once, as a frame command (R25, R235). -/
def divNow (s : State) (n : Nat) (x : Inst) (dest : Nat) : State :=
  match divTarget x with
  | .do_ i => setStl s i { stlOf s i with nextCmd := some (decide (dest ≠ 0)) }
  | .sol v => setSol s v { solOf s v with nextCmd := (solOf s v).nextCmd ++ [(if dest = 0 then 2 else 1, (fToInt (x.val 3)).toNat)] }
  | .gate b => keepPost s n (plain b (.report dest true (s.now % 2 ^ 48) 0 0))
  | .none => s

/-- Smallest integer at or above a binary32 value. -/
def fCeil (x : F32) : Int := -fFloor (fNeg x)

/-- t_path in s (R234): 40 µs + d_sl for an aisle DO, 0 for a solenoid, the stream's value for a gate; with D for a SUBSCRIBED
wick (R49). -/
def divPath (s : State) (x : Inst) : F32 :=
  let base := match divTarget x with
    | .do_ i => fRat (40000 + slewNs s i : Nat) secNs
    | .gate _ => x.val 1
    | _ => 0#32
  let w := (x.id? 0).getD 0
  if wickKind s w = .subscribed then fAdd base (fRat (regF s .wckPublish w 8 8 * frameNs : Nat) secNs) else base

/-- K = x_b + d_div − ceil(v × (t_act + t_path)) (R234). -/
def divKey (s : State) (x : Inst) (xb : Int) : Int :=
  let r := (wickOf s ((x.id? 0).getD 0)).snap
  let v := if r.st = .running then fRat r.speed 256 else x.val 2
  xb + ((x.id? 4).getD 0 : Nat) - fCeil (fMul v (fAdd (x.val 0) (divPath s x)))

/-- DIVERTER_ARM for one boundary (R234, R235). -/
def divBoundary (s : State) (n i : Nat) (x : Inst) (xb : Int) (dest : Nat) : State :=
  let k := divKey s x xb
  let w := (x.id? 0).getD 0
  let c := snapCount s w (wickOf s w).snap
  if k ≤ c then stick (divNow s n x dest) .divStatus i 0
  else
    let r : ArmReq := { op := .arm, owner := .inst n, slot := 0, alloc := true, first := divAction x k dest, second := none, frame := frameNow s }
    let s1 := { s with llt := { s.llt with reqs := s.llt.reqs ++ [r] } }
    { s1 with motor := { s1.motor with div := spSet 0 s1.motor.div i (spGet 0 s1.motor.div i + 1) } }

/-- A report of a slot that is over frees it; a MISSED one drives the diverter to safe_dest (R235). -/
def divReport (s : State) (n i : Nat) (x : Inst) (slot st : Nat) : State :=
  if st = SlotSt.fired.code ∨ st = SlotSt.missed.code ∨ st = SlotSt.refused.code then
    let r : ArmReq := { op := .free, owner := .inst n, slot := slot, alloc := false, first := ActRec.zero, second := none, frame := frameNow s }
    let s1 := { s with llt := { s.llt with reqs := s.llt.reqs ++ [r] },
                       motor := { s.motor with div := spSet 0 s.motor.div i (spGet 0 s.motor.div i - 1) } }
    if st = SlotSt.missed.code then stick (divNow s1 n x ((x.id? 3).getD 0)) .divStatus i 1 else s1
  else s

/-- DIVERTER's run (R234, R235): boundaries come by its first input, reports of its slots by its second. -/
def runDiverter (s : State) (n : Nat) (x : Inst) : State :=
  let s1 := match x.src 0 with
    | .basket b =>
      let q := takeMsgs s b x.msgLimit
      q.2.foldl (fun s m => match m with | .boundary xb d => divBoundary s n x.idx x xb d | _ => s) q.1
    | _ => s
  match x.src 1 with
  | .basket b =>
    let q := takeMsgs s1 b x.msgLimit
    q.2.foldl (fun s m => match m with | .report p false _ st _ => divReport s n x.idx x (p / 2 ^ 48) st | _ => s) q.1
  | _ => s1

end Sys2Proof.Machine
end

