-- ==== Sys2Proof/Machine/Recorder.lean ====
section
/-!
DEFINITION. The event recorder (R331 to R338): writing queued events, committing them to the MRAM tail, the window and clears.
-/
namespace Sys2Proof.Machine

open Sys2Proof

/-- Changes the recorder. -/
def modRec (s : State) (f : RecState → RecState) : State := { s with rec_ := f s.rec_ }

/-- Discarded entries are reported when the queue has room again (R333). -/
def reportLost (s : State) : State :=
  if 0 < s.rec_.lostNow then
    logRaw (modRec s (fun r => { r with lostNow := 0 })) (srcDev 0) .eventsLost s.rec_.lostNow
  else s

/-- The recorder writes the oldest queued event (R333, R334), once the ring has been restored (R335). -/
def recordWrite (s : State) : State :=
  match s.rec_.queue with
  | [] => s
  | q :: rest => reportLost (modRec s (fun r => ringWrite { r with queue := rest } q s.now))

/-- EVENT_RECORD_COMMIT (R331 to R335, R496). -/
def execEventRecordCommit (t : Ns) (s : State) : Out :=
  let s := setNow s t
  .next (if s.snf.corePowered ∧ 3 ≤ s.snf.stage then recordWrite s else s)

/-- Records and updates that may still be committed: while more than 4,096 wait, only those of the newest 4,096 numbers (R335). -/
def awaiting (r : RecState) : List (Nat × EvRec) :=
  if r.uncommitted.length > 4096 then r.uncommitted.filter (fun p => decide (r.head < p.2.seq + 4096)) else r.uncommitted

/-- An item waits beyond 1 ms (R335). -/
def lagging (l : List (Nat × EvRec)) (t : Nat) : Bool := l.any (fun p => decide (p.1 + 1000000 < t))

/-- The onset and the end of a lag of the tail (R335). -/
def noteLag (s : State) (before after : List (Nat × EvRec)) : State :=
  if lagging before s.now && !s.rec_.mramLag then
    logRaw (modRec s (fun r => { r with mramLag := lagging after s.now })) (srcDev 0) .mramLag before.length
  else modRec s (fun r => { r with mramLag := r.mramLag && lagging after s.now })

/-- The oldest waiting item reaches the MRAM tail, or its commit fails (R335, EVR_STATUS mram_fault). -/
def tailCommit (s : State) (ok : Bool) : State :=
  let l := awaiting s.rec_
  match l with
  | [] => s
  | (_, x) :: rest =>
    let s1 := modRec s (fun r =>
      if ok then { r with tail := tailPut r.tail x, mramSeq := max r.mramSeq x.seq, uncommitted := rest } else { r with uncommitted := rest })
    noteLag (if ok then s1 else stick s1 .evrStatus 0 4) l rest

/-- MRAM_TAIL_COMMIT (R335). -/
def execMramTailCommit (t : Ns) (ok : Bool) (s : State) : Out := .next (tailCommit (setNow s t) ok)

/-- Restore at a start of the core domain (R335): the ring from the tail, the numbering at R_s, RECORDER_RESTORED. -/
def restoreRing (s : State) : State :=
  let r := s.rec_
  let s1 := modRec s (fun r => { r with
    ring := r.tail, head := r.mramSeq, nextSeq := r.reserve, uncommitted := [], mramLag := false })
  stick (logRaw s1 (srcDev 0) .recorderRestored (r.reserve - 1 - r.mramSeq)) .evrStatus 0 1

/-- Window base B (EVR_WIN). -/
def evWinBase (s : State) : Nat := reg64 s .evrWinLo .evrWinHi 0

/-- A sequence number is shown by the window (R336). -/
def shown (r : RecState) (n : Nat) : Bool := decide (n ≤ r.head) && decide (r.head < n + 65536) && decide (r.cleared ≤ n)

/-- The record a window position shows (R336). -/
def windowRec (s : State) (j : Nat) : Option EvRec :=
  let n := evWinBase s + j
  if shown s.rec_ n then s.rec_.ring.find? (fun x => x.seq == n) else none

/-- A read of word 0 latches the record (R336). -/
def latchWindow (s : State) (j : Nat) : State := { s with glb := { s.glb with evLatch := some (j, windowRec s j) } }

/-- EVENT_WINDOW_READ (R336). -/
def execEventWindowRead (j : Fin 256) (s : State) : Out := .next (latchWindow s j)

/-- Source word of the party that acts (R331, class RECORDER). -/
def partyOf (q : Requester) : EvSrc :=
  match q with
  | .host x _ _ => srcParty (if x < 0x8000 then x else 4096 + (x - 0x8000))
  | .monitor => srcParty 8191

/-- EVR_CLEAR with value c by a party (R337): the access code it reports. -/
def evrClear (s : State) (q : Requester) (c : Nat) : State × Acc :=
  if c = s.rec_.cleared then (s, .ok)
  else if s.rec_.cleared < c ∧ c ≤ s.rec_.head + 1 then
    let s1 := modRec s (fun r => { r with cleared := c })
    (stick (logRaw s1 (partyOf q) .recorderCleared (c % 2 ^ 48)) .evrStatus 0 3, .ok)
  else (s, .range)

/-- The address of EVR_CLEAR_HI. -/
def evrClearAddr : Nat := regAddr .evrClearHi 0

/-- EVR_CLEAR (R337): the high word is written; the low word was written before (R340). -/
def execEvrClear (v : W32) (s : State) : Out :=
  let r := evrClear s hostReq (join64 (regW s .evrClearLo) v)
  .next (report r.1 hostReq evrClearAddr r.2)

end Sys2Proof.Machine
end

