-- ==== Sys2Proof/Machine/Market.lean ====
section
/-!
DEFINITION. The market (R293 to R323): ports and the bridge, market time, hellos and membership, basket frames and credit, and
the acceptance of management datagrams. Switches and register access by datagram stand in their own files.
-/
namespace Sys2Proof.Machine

open Sys2Proof

/-- Changes the market block. -/
def modMkt (s : State) (f : MktState → MktState) : State := { s with mkt := f s.mkt }

/-- Puts something on the unit's lines. -/
def emit (s : State) (x : Sent) : State := modMkt s (fun m => { m with sent := x :: m.sent })

/-- Own market ID and market number (MKT_CFG, MKT_IDENT). -/
def marketId (s : State) : Nat :=
  if s.hld.committed then regF s .mktCfg 0 0 10 else fld ((lookup s.hld.identWords (regAddr .mktCfg 0)).getD 0#32) 0 10
def marketNo (s : State) : Nat :=
  if s.hld.committed then regF s .mktIdent 0 0 16 else fld ((lookup s.hld.identWords (regAddr .mktIdent 0)).getD 0#32) 0 16
/-- mtu: 576 in basic face (R305, R322). -/
def mtuOf (s : State) : Nat := if regB s .mktCfg 0 14 then regNF s .mktGate 0 14 11 else 576
/-- First 8 bytes of the committed structure hash (R375). -/
def hash8 (s : State) : Nat := s.hld.str.hash % 2 ^ 64
/-- Source of market events. -/
def srcMkt : EvSrc := srcDev 5
/-- The device exchanges basket frames: MEMBER or LEAVING (R307, R319). -/
def trades (s : State) : Bool := pairActs s && (s.mkt.member == .member || s.mkt.member == .leaving)

/-! ## Synchronisation (R296 to R302) -/

/-- A condition of UNSYNCED holds (R300). A grandmaster is synchronised to itself. -/
def unsyncCond (s : State) : Bool :=
  let m := s.mkt
  if m.gm then m.stepPend else m.syncLost || m.offBig || decide (35 < m.hops) || m.slewing || m.stepPend

/-- UNSYNCED is entered when a condition holds, and left after 16 good Syncs with none (R300, R302). -/
def evalSync (s : State) : State :=
  let m := s.mkt
  if unsyncCond s then
    if m.unsynced then s
    else logEv (stick (modMkt s (fun m => { m with unsynced := true, goodSyncs := 0, ppsOut := none })) .mktStatus 0 13) srcMkt .unsyncedEntered
  else if m.unsynced && (m.gm || decide (16 ≤ m.goodSyncs)) then modMkt s (fun m => { m with unsynced := false })
  else s

/-- Correction of an offset to the time received, ns, positive when the device leads (R298, R300). -/
def correct (s : State) (off : Int) : State :=
  let a := off.natAbs
  if a ≤ 1000000 then
    modMkt s (fun m => { m with slewing := if a ≤ 500 then false else m.slewing || decide (1000 < a), pendStep := none, stepPend := false })
  else if !s.snf.enabled || decide (off < 0) || s.mkt.stepAccept then
    modMkt s (fun m => { m with pendStep := some (-off), stepPend := true })
  else modMkt s (fun m => { m with slewing := true })

/-- PTP_SYNC (R296, R298, R300): a valid Sync from the grandmaster, with the servo's offset and the hops. -/
def execPtpSync (t : Ns) (offset : Int) (hops : Fin 64) (s : State) : Out :=
  let s := setNow s t
  let a := offset.natAbs
  let s1 := modMkt s (fun m => { m with
    syncLost := false, gm := false, noTai := false, taiHold := false, lastSync := t, offset := offset, hops := hops,
    offBig := decide (1000 < a), goodSyncs := if a ≤ 500 then min 16 (m.goodSyncs + 1) else 0 })
  .next (evalSync (correct s1 offset))

/-- SYNC_TIMEOUT (R300): no valid Sync for 250 ms; the best-master algorithm may make the device grandmaster (R296, R297). -/
def execSyncTimeout (t : Ns) (becomesGm : Bool) (s : State) : Out :=
  let s := setNow s t
  let gm := becomesGm && regB s .mktCfg 0 11
  .next (if s.mkt.gm then s
    else if s.mkt.lastSync + 250000000 ≤ t then
      if gm then
        evalSync (modMkt s (fun m => { m with gm := true, syncLost := false, offBig := false, slewing := false, hops := 0, offset := 0,
                                              noTai := !regB s .mktCfg 0 12, ppsLast := none, ppsBad := 0 }))
      else evalSync (modMkt s (fun m => { m with syncLost := true, goodSyncs := 0 }))
    else s)

/-- The mean link delay between the media, from the one measured at the SerDes lands: half the port's ingress and egress latencies of the
stream, in that order for P0 and then P1, is taken off (R293, log entry 49). -/
def mediumDelay (s : State) (p delay : Nat) : Nat :=
  let l := s.hld.str.ident.latencies
  delay - (l.getD (2 * p) 0 + l.getD (2 * p + 1) 0) / 2

/-- PEER_DELAY_MEASURE (R293, R296): the delay as measured at the lands. -/
def execPeerDelayMeasure (p : Fin 2) (t : Ns) (delay : Nat) (s : State) : Out :=
  let s := setNow s t
  let delay := mediumDelay s p delay
  .next (modMkt s (fun m => if p.val = 0 then { m with port0 := { m.port0 with delay := sat 16 delay } }
    else { m with port1 := { m.port1 with delay := sat 16 delay } }))

/-- The device takes MKT_PPS_IN (R297). -/
def takesPps (s : State) : Bool := s.mkt.gm && regB s .mktCfg 0 12

/-- The TAI second of the next edge: MKT_TAI_SEC with its high word from market time (R297, R323). -/
def nextTai (s : State) : Nat := (s.now / secNs / 2 ^ 32) * 2 ^ 32 + (regN s .mktTaiSec).toNat

/-- MKT_TAI_SEC names the edge after this one; a host write of the frame stands (R10). -/
def stepTai (s : State) : State := blockReg s .mktTaiSec 0 (regN s .mktTaiSec + 1#32)

/-- A missing or invalid edge; the third sets tai_holdover (R297). -/
def badPps (s : State) (last : Nat) : State :=
  modMkt s (fun m => { m with ppsLast := some last, ppsBad := min 3 (m.ppsBad + 1), taiHold := m.taiHold || decide (2 ≤ m.ppsBad) })

/-- PPS_IN_EDGE (R297). -/
def execPpsInEdge (t : Ns) (s : State) : Out :=
  let s := setNow s t
  .next (if takesPps s then
      match s.mkt.ppsLast with
      | none => stepTai (modMkt s (fun m => { m with ppsLast := some t }))
      | some l =>
        if l + secNs ≤ t + 100000 ∧ t ≤ l + secNs + 100000 then
          let tai := nextTai s
          let off : Int := (t : Int) - (tai * secNs : Nat)
          let s1 := modMkt s (fun m => { m with ppsLast := some t, ppsBad := 0, taiHold := false, taiSec := tai, offset := off })
          stepTai (correct s1 off)
        else badPps s t
    else s)

/-- PPS_MISSING (R297): 1 s + 100 µs without an edge. -/
def execPpsMissing (t : Ns) (s : State) : Out :=
  let s := setNow s t
  .next (match s.mkt.ppsLast with
    | some l => if takesPps s = true ∧ l + secNs + 100000 < t then stepTai (badPps s (l + secNs)) else s
    | none => s)

/-- PPS_OUT_SECOND (R302): the land rises for 10 ms. -/
def execPpsOutSecond (t : Ns) (s : State) : Out :=
  let s := setNow s t
  .next (if regB s .mktCfg 0 13 && !s.mkt.unsynced && decide (t % secNs = 0) then
      modMkt s (fun m => { m with ppsOut := some (t + 10 * msNs) })
    else s)

/-- step_accept (R298): a backward step that waits is made at the next frame boundary. -/
def stepAccept (s : State) : State :=
  let s1 := modMkt s (fun m => { m with stepAccept := true })
  if s1.mkt.slewing && decide (1000000 < s1.mkt.offset) then evalSync (correct s1 s1.mkt.offset) else s1
/-- MKT_STEP_ACCEPT (R298). -/
def execMktStepAccept (s : State) : Out := .next (stepAccept s)
/-- clear_counts (R323). -/
def mktClear (s : State) : State := modMkt s (fun m => { m with genMismatch := 0, badFrame := 0, noRoute := 0, authFail := 0 })
/-- MKT_CLEAR_COUNTS (R323). -/
def execMktClearCounts (s : State) : Out := .next (mktClear s)

/-! ## Ports and the bridge (R293 to R295, R303) -/

/-- PORT_LINK_CHANGE (R293): the port's role in the best-master algorithm is left open. -/
def execPortLinkChange (p : Fin 2) (t : Ns) (up : Bool) (s : State) : Out :=
  let s := setNow s t
  let role : MktPort → MktPort := fun x =>
    if up then { x with linkUp := true, ptp := Config.freeBool s.free, slave := Config.freeBool s.free && Config.freeBool (s.free + 1) }
    else { x with linkUp := false, ptp := false, slave := false }
  .next (modMkt (useFree (useFree s)) (fun m => if p.val = 0 then { m with port0 := role m.port0 } else { m with port1 := role m.port1 }))

/-- Unicast MAC of a market ID (R295). -/
def macOf (id : Nat) : Nat := 0x02F1A0000000 + id

/-- Learns a source address: 1,024 entries (R294). -/
def learn (s : State) (mac port t : Nat) : State :=
  modMkt s (fun m =>
    if (lookup m.addr mac).isSome ∨ m.addr.length < 1024 then { m with addr := spPut m.addr mac (port, t) } else m)

/-- Market VLAN (R294). -/
def marketVid (s : State) : Nat :=
  if s.hld.committed then regF s .mktIdent 0 16 12 else fld ((lookup s.hld.identWords (regAddr .mktIdent 0)).getD 0#32) 16 12

/-- PCP of a basket class on the wire (R303). -/
def classPcp (cls : Nat) : Nat := match cls with | 0 => 6 | 1 => 5 | 2 => 3 | _ => 1

/-- Egress queue of a frame by its PCP (R303); gPTP's queue 6 is served apart. -/
def pcpQueue (pcp : Nat) : Nat := match pcp with | 6 => 7 | 5 => 5 | 3 => 4 | 2 => 3 | 1 => 2 | _ => 1

/-- w0 and w1, ns: 40 µs and 20 µs in basic face (R304, R322). -/
def gateWindows (s : State) : Nat × Nat :=
  if regB s .mktCfg 0 14 then (regNF s .mktGate 0 0 7 * usNs, regNF s .mktGate 0 7 7 * usNs) else (40000, 20000)

/-- When the gate of a queue is open in a cycle of 125 µs, from and to (R304). -/
def gateOpen (w : Nat × Nat) (queue : Nat) : Nat × Nat :=
  if queue = 7 then (0, frameNs) else if queue = 5 then (w.1, w.1 + w.2) else (w.1 + w.2, frameNs)

/-- The first instant from t on at which a frame of len bytes may begin: it completes before its gate closes (R304), at 8 ns a byte. A gate
that stays open over the cycle's end bounds nothing. None: no window holds the frame. -/
def mayBegin (w : Nat × Nat) (queue len t : Nat) : Option Nat :=
  let g := gateOpen w queue
  let c := t - t % frameNs
  if queue = 7 then some t
  else if g.2 < g.1 + 8 * len then none
  else if max (t % frameNs) g.1 + 8 * len ≤ g.2 then some (c + max (t % frameNs) g.1)
  else some (c + frameNs + g.1)

/-- Sends a frame out of ports, in ascending order; the frames in progress and queued before it aside (R303, R304). -/
def sendOut (s : State) (ports : List Nat) (pcp len : Nat) : State :=
  ports.foldl (fun s p => emit s (.bridge p pcp (pcpQueue pcp) (mayBegin (gateWindows s) (pcpQueue pcp) len s.now))) s

/-- Ports of a mask but the one of arrival. -/
def maskPorts (mask arrival : Nat) : List Nat := (List.range 3).filter (fun p => mask.testBit p && p != arrival)

/-- A discarded frame is counted (R309, R323). -/
def badFrame (s : State) : State := modMkt s (fun m => { m with badFrame := satInc 16 m.badFrame })

/-- BRIDGE_FRAME_FORWARD (R294, R303, R305). -/
def bridge (s : State) (t : Nat) (f : BridgeFrame) : State :=
  if f.tagged && f.vid != marketVid s then s
  else if f.port < 2 ∧ mtuOf s < f.len ∧ !(f.basket && f.pcp == 6) = true then badFrame s
  else
    let s1 := learn s f.srcMac f.port t
    if f.basket then
      if f.srcMac = macOf (marketId s) ∧ f.port < 2 then stick s .mktStatus 0 11
      else
        match s.hld.str.routes.find? (fun r => r.pub == f.pub && r.id == f.dstId) with
        | some r => sendOut s1 (maskPorts r.mask f.port) f.pcp f.len
        | none => s1
    else
      let pcp := if f.port < 2 ∧ (f.pcp = 5 ∨ f.pcp = 6) then 0 else f.pcp
      match lookup s.mkt.addr f.dstMac with
      | some (p, _) => if p = f.port then s1 else sendOut s1 [p] pcp f.len
      | none => sendOut s1 (maskPorts 7 f.port) pcp f.len
/-- BRIDGE_FRAME_FORWARD (R294). -/
def execBridgeFrameForward (t : Ns) (f : BridgeFrame) (s : State) : Out := .next (bridge (setNow s t) t f)

/-- ADDRESS_AGEING (R294): 300 s. -/
def execAddressAgeing (t : Ns) (mac : Nat) (s : State) : Out :=
  let s := setNow s t
  .next (match lookup s.mkt.addr mac with
    | some (_, t0) => if t0 + 300 * secNs ≤ t then modMkt s (fun m => { m with addr := spDel m.addr mac }) else s
    | none => s)

/-- The identity in force: of the committed stream, or the one kept in MRAM from the last commit (R379, R380). -/
def identNow (s : State) : Option Identity := if s.hld.committed then some s.hld.str.ident else s.hld.mramIdent

/-- The management firmware runs: past t2, not halted, not in ROM recovery (R393, R425, R429). -/
def fwRuns (s : State) : Bool := coreRuns s && !s.mgt.halted && !s.mgt.recovery

/-- ARP_ICMP_REQUEST (R295): answered for the stream's own addresses. -/
def execArpIcmpRequest (t : Ns) (kind : IpKind) (ip : Nat) (s : State) : Out :=
  let s := setNow s t
  .next (match identNow s with
    | none => s
    | some x =>
      let own := match kind with
        | .arp => x.ipv4
        | .echo4 => x.ipv4
        | _ => x.ipv6
      if fwRuns s ∧ ip = own then emit s (.arpReply ip) else s)

/-! ## Reception of basket frames (R308, R309, R320) -/

/-- Whether an own frame came back (R294): loop_seen, and it is discarded. -/
def looped (s : State) (h : FrameHdr) : Bool := h.ownMac && h.src == marketId s

/-- Checks 1 to 3 of R309 and the length (R305). -/
def hdrOk (s : State) (h : FrameHdr) (group : Bool) : Bool :=
  h.fcsOk && h.version == 1 && h.market == marketNo s && (if group then h.dst == 0xFFFF else h.dst == marketId s) &&
  (h.cls == 0 || decide (h.len ≤ mtuOf s))

/-- Check 4 (R320): the present generation, or the previous one until S + 20 ms. -/
def genOk (s : State) (h : FrameHdr) (t : Nat) : Bool := h.gen == s.mkt.gen || (h.gen == s.mkt.prevGen && decide (t < s.mkt.prevUntil))

/-- A frame's checks in their order: the state with its discard counted, and whether the frame is taken. -/
def takeFrame (s : State) (t : Nat) (h : FrameHdr) (group checkGen : Bool) : State × Bool :=
  if h.fcsOk && looped s h then (stick s .mktStatus 0 11, false)
  else if !hdrOk s h group then (badFrame s, false)
  else if checkGen && !genOk s h t then (modMkt s (fun m => { m with genMismatch := satInc 16 m.genMismatch }), false)
  else (s, true)

/-- An entry's width is its basket's (R162); an entry for a basket that does not exist is not checked. -/
def entryOk (s : State) (e : Entry) : Bool := (bdescOf s e.basket).depth == 0 || e.width == (bdescOf s e.basket).width

/-- An entry of another length is a drop of its basket (R162, R173). -/
def badEntry (s : State) (e : Entry) : State :=
  if entryOk s e then s
  else bskAny (bskAny (modBsk s e.basket (fun b => { b with lengthErr := true, dropped := true, drops := satInc 16 b.drops })) 0) 3

/-- One DATA entry of an accepted frame (R308, R318): a reply is matched by its tag, and a request keeps its sender, generation and tag. -/
def takeEntry (h : FrameHdr) (s : State) (e : Entry) : State :=
  if (bdescOf s e.basket).depth = 0 then s
  else
    let m := if e.reply then (if e.status = 0 then e.msg else .refused e.tag e.status) else if e.request then .asked h.src h.gen e.tag e.msg else e.msg
    arrive s { basket := e.basket, msg := m, tag := if e.reply then some e.tag else none, isReply := e.reply }

/-- Check 5 of R309, then the entries in their order: a frame with an entry of another width is discarded. -/
def takeEntries (s : State) (h : FrameHdr) (es : List Entry) : State :=
  if es.all (entryOk s) then es.foldl (takeEntry h) s else es.foldl badEntry s

/-- DATA_FRAME_RECEIVE (R309, R319). -/
def execDataFrameReceive (t : Ns) (h : FrameHdr) (es : List Entry) (s : State) : Out :=
  let s := setNow s t
  let r := takeFrame s t h false true
  .next (if r.2 && (s.mkt.member == .member || s.mkt.member == .leaving) then takeEntries r.1 h es else r.1)

/-- The egress baskets that lead to a basket of a device. -/
def egressTo (s : State) (id basket : Nat) : List Nat := (s.hld.str.egress.filter (fun p => p.2 == (id, basket))).map (·.1)

/-- CREDIT_FRAME_RECEIVE (R310). -/
def execCreditFrameReceive (t : Ns) (h : FrameHdr) (cs : List (Nat × Nat)) (s : State) : Out :=
  let s := setNow s t
  let r := takeFrame s t h false true
  .next (if r.2 && (s.mkt.member == .member || s.mkt.member == .leaving) then
      cs.foldl (fun s c => forEach (egressTo s h.src c.1) s (fun s b => modBsk s b (fun x => { x with limit := some (c.2 % 65536) }))) r.1
    else r.1)

/-- A received record of a subscribed wick, in the order of its snap_time, newest first (R49). -/
def insertRec (r : SnapRec) (l : List SnapRec) : List SnapRec :=
  match l with
  | [] => [r]
  | x :: t => if x.snapTime < r.snapTime then r :: x :: t else if x.snapTime = r.snapTime then x :: t else x :: insertRec r t

/-- A wick takes the records of this market ID: of its publisher, or, where the stream names a pair, of the pair's unit whose hellos
report ACTIVE (R49, R359). -/
def publisherIs (s : State) (x id : Nat) : Bool :=
  match lookup s.hld.str.subPairs x with
  | some (a, b) => (id == a || id == b) && lookup s.mkt.heardPair id == some PairSt.active.code
  | none => regF s .wckSrc x 0 10 == id

/-- The wicks that subscribe to a wick of a publisher (R49, WCK_SRC). -/
def subscribers (s : State) (id w : Nat) : List Nat :=
  (upTo 64).filter (fun x => wickKind s x == .subscribed && publisherIs s x id && regF s .wckSrc x 16 6 == w)

/-- A subscribed wick takes a published record; one that is unsynced or LOST loses the wick at once (R49, R50). -/
def takePub (s : State) (w : Nat) (q : SnapRec) : State :=
  let s1 := setWick s w { wickOf s w with recs := insertRec q (wickOf s w).recs }
  if badRec q then loseWick s1 w s1.now else s1

/-- WICK_FRAME_RECEIVE (R48, R49, R319). -/
def execWickFrameReceive (t : Ns) (h : FrameHdr) (recs : List SnapRec) (s : State) : Out :=
  let s := setNow s t
  let r := takeFrame s t h true true
  .next (if r.2 && s.mkt.member == .member then
      recs.foldl (fun s q => forEach (subscribers s h.src q.wick) s (fun s w => takePub s w q)) r.1
    else r.1)

/-! ## Hellos and membership (R315, R319, R321) -/

/-- A newer generation in 16-bit serial arithmetic (R315). -/
def newerGen (g own : Nat) : Bool := let d := (g + 65536 - own) % 65536; decide (0 < d ∧ d < 32768)

/-- The third newer hello (R315): a MEMBER enters OUTSIDE. -/
def noteGen (s : State) (g : Nat) : State :=
  if s.mkt.member = .member ∧ newerGen g s.mkt.gen = true then
    if 2 ≤ s.mkt.newer then
      logEv (stick (modMkt s (fun m => { m with member := .outside, newer := 0 })) .mktStatus 0 8) srcMkt .genStale g
    else modMkt s (fun m => { m with newer := m.newer + 1 })
  else s

/-- HELLO_FRAME_RECEIVE (R308, R315, R321). -/
def execHelloFrameReceive (t : Ns) (h : FrameHdr) (i : HelloInfo) (s : State) : Out :=
  let s := setNow s t
  let r := takeFrame s t h true false
  .next (if r.2 then
      if h.src = marketId s then
        if i.otherMac then logEv (stick r.1 .mktStatus 0 7) srcMkt .idConflict h.src else r.1
      else
        let s1 := modMkt r.1 (fun m => { m with heard := spPut m.heard h.src t, heardPair := spPut m.heardPair h.src i.pair,
                                                missing := m.missing.filter (· != h.src) })
        noteGen s1 h.gen
    else r.1)

/-- The header of the next frame to a destination in a class: its seq counts for the two of them (R308). -/
def frameOut (s : State) (dst cls gen : Nat) : State × FrameOut :=
  let key := 4 * dst + cls
  let q := spGet 0 s.mkt.egSeq key
  (modMkt s (fun m => { m with egSeq := spSet 0 m.egSeq key ((q + 1) % 65536) }),
   { dst := dst, cls := cls, gen := gen, seq := q, stamp := s.now, unsynced := s.mkt.unsynced, leaving := s.mkt.member == .leaving })

/-- HELLO_SEND (R303, R308, R315): to all devices, in class 3's queue. -/
def execHelloSend (t : Ns) (s : State) : Out :=
  let s := setNow s t
  let h := frameOut s 0xFFFF 3 s.mkt.gen
  .next (if s.hld.committed then
      emit h.1 (.hello h.2 t s.mkt.member.code (!s.mkt.unsynced) s.mkt.hops s.pair.st.code s.mkt.gen (hash8 s))
    else s)

/-- A device of the market table (R321). -/
def inTable (s : State) (id : Nat) : Bool := s.hld.str.routes.any (fun r => !r.pub && r.id == id)

/-- PEER_MISSING (R321): 300 ms without a hello. -/
def execPeerMissing (id : Fin 1024) (t : Ns) (s : State) : Out :=
  let s := setNow s t
  let silent := match lookup s.mkt.heard id with
    | some t0 => decide (t0 + 300 * msNs ≤ t)
    | none => true
  .next (if inTable s id && silent && !s.mkt.missing.contains id && id.val != marketId s then
      logEv (stick (modMkt s (fun m => { m with missing := id.val :: m.missing })) .mktStatus 0 10) srcMkt .peerMissing id
    else s)

/-- LEAVING_END (R318, R320): S + 20 ms. -/
def execLeavingEnd (t : Ns) (s : State) : Out :=
  let s := setNow s t
  .next (if s.mkt.member = .leaving ∧ s.mkt.leaveEnd ≤ t then modMkt s (fun m => { m with member := .outside }) else s)

/-! ## Egress and credit (R307, R308, R310) -/

/-- Bytes of entries in one frame of a class (R305, R307): 42 bytes stand before the entries and 4 after. -/
def frameRoom (s : State) (cls : Nat) : Nat := if cls = 0 then 264 else mtuOf s - 46

/-- The DATA entry of a message (R308). -/
def entryOf (dst width : Nat) (m : Msg) : Entry :=
  match m with
  | .tagged g reply x => { basket := dst, tag := g, request := !reply, reply := reply, status := 0, width := width, msg := x }
  | .answer _ g st x => { basket := dst, tag := g, request := false, reply := true, status := st, width := width, msg := x }
  | x => { basket := dst, tag := 0, request := false, reply := false, status := 0, width := width, msg := x }

/-- Splits entries into frames of at most n. -/
def chunks {α : Type} (n : Nat) (fuel : Nat) (l : List α) : List (List α) :=
  match fuel, l with
  | 0, _ => []
  | _, [] => []
  | fuel + 1, l => l.take n :: chunks n fuel (l.drop n)

/-- Messages of an egress basket that may leave now: all, or those the credit allows (R310). -/
def mayLeave (s : State) (b : Nat) : Nat :=
  let x := bskOf s b
  let n := x.msgs.length - x.taken
  if s.hld.str.credited.contains b then
    match x.limit with
    | none => 0
    | some l => let c := (l + 65536 - x.sCount) % 65536; if c < 32768 then min n c else 0
  else n

/-- Sends one DATA frame (R308). -/
def sendData (s : State) (dst cls gen : Nat) (es : List Entry) : State := let h := frameOut s dst cls gen; emit h.1 (.data h.2 es)

/-- Generation and route of message k of an egress basket (R317, R318): the messages admitted before the latest switch leave with the old
generation by the old route, unless the patch removed their destination; a reply to a request of the old generation takes it and the old
route until S + 20 ms. None: no route. -/
def egressWay (s : State) (b k : Nat) (m : Msg) : Option (Nat × (Nat × Nat)) :=
  let new := lookup s.hld.str.egress b
  let old := match lookup s.mkt.oldEgress b with | some w => some w | none => new
  match m with
  | .answer g _ _ _ =>
    if g = s.mkt.prevGen ∧ g ≠ s.mkt.gen ∧ s.now < s.mkt.prevUntil then old.map (fun w => (g, w)) else new.map (fun w => (s.mkt.gen, w))
  | _ => if k < (bskOf s b).oldGen then new.bind (fun _ => old.map (fun w => (s.mkt.prevGen, w))) else new.map (fun w => (s.mkt.gen, w))

/-- Neighbours with the same generation and route, together, in their order. -/
def byWay (l : List ((Nat × (Nat × Nat)) × Entry)) : List ((Nat × (Nat × Nat)) × List Entry) :=
  match l with
  | [] => []
  | (w, e) :: t =>
    match byWay t with
    | (w', es) :: r => if w = w' then (w, e :: es) :: r else (w, [e]) :: (w', es) :: r
    | [] => [(w, [e])]

/-- One egress basket at t0 (R307, R317, R318): frames in message order; messages without a route are dropped and counted. -/
def egressBsk (s : State) (b : Nat) : State :=
  let d := bdescOf s b
  let all := (bskOf s b).msgs.drop (bskOf s b).taken
  let n := if (lookup s.hld.str.egress b).isNone && all.all (fun m => (egressWay s b 0 m).isNone) then all.length else mayLeave s b
  let ways := (all.take n).zipIdx.map (fun p => (egressWay s b p.2 p.1, p.1))
  let sent := ways.filterMap (fun p => p.1.map (fun w => (w, entryOf w.2.2 d.width p.2)))
  let s1 := modMkt (takeMsgs s b n).1 (fun m => { m with noRoute := satAdd 16 m.noRoute (ways.filter (fun p => p.1.isNone)).length })
  let s2 := modBsk s1 b (fun y => { y with sCount := (y.sCount + sent.length) % 65536, oldGen := y.oldGen - n })
  let per := max 1 (min 255 (frameRoom s d.cls / (8 + widthBytes d.width)))
  (byWay sent).foldl (fun s p => (chunks per p.2.length p.2).foldl (fun s es => sendData s p.1.2.1 d.cls p.1.1 es) s) s2

/-- Egress baskets in ascending number. -/
def egressBskts (s : State) : List Nat := (s.hld.str.baskets.filter (fun p => p.2.consumer == 0xFFFF)).map (·.1)

/-- Frames are built at t0, after admission (R307). -/
def egress (s : State) : State := if trades s then forEach (egressBskts s) s egressBsk else s

/-- A CREDIT of a BLOCK basket fed by the market, in the basket's class (R310). -/
def sendCredit (s : State) (b : Nat) : State :=
  match lookup s.hld.str.ingress b with
  | some id => let h := frameOut s id (bdescOf s b).cls s.mkt.gen; emit h.1 (.credit h.2 b (((bskOf s b).tCount + (bdescOf s b).depth) % 65536))
  | none => s

/-- The limits that changed at this boundary (R310): taken counts differ from those before the admission. -/
def changedCredits (old s : State) : State :=
  if trades s then
    forEach (s.hld.str.ingress.map (·.1)) s (fun s b => if (bskOf old b).tCount = (bskOf s b).tCount then s else sendCredit s b)
  else s

/-- CREDIT_REFRESH (R310): every limit again, at least every 8 ms. -/
def execCreditRefresh (t : Ns) (s : State) : Out :=
  let s := setNow s t
  .next (if trades s then forEach (s.hld.str.ingress.map (·.1)) s sendCredit else s)

/-- Wick publications of a snapshot latch (R48): the records just latched, six to a frame. -/
def publish (s : State) : State :=
  let seq := (s.wick.snapSeq + 65535) % 65536
  let ws := (upTo 64).filter (fun w => regB s .wckPublish w 0 && decide (seq % 2 ^ regF s .wckPublish w 1 3 = 0))
  let recs := ws.map (fun w => (wickOf s w).snap)
  if s.mkt.member = .member ∧ pairActs s = true then (chunks 6 recs.length recs).foldl (fun s rs => let h := frameOut s 0xFFFF 0 s.mkt.gen; emit h.1 (.wick h.2 rs)) s else s

/-! ## Management datagrams (R311 to R313, R436, R437) -/

/-- The market key slot a key ID names (R436). -/
def keySlotOf (s : State) (id : Nat) : Option (Nat × MktKey) := s.mgt.keys.find? (fun p => p.2.keyId == id)

/-- A sender the tables hold (R313). -/
def knownSender (x : Nat) : Bool := decide (x < 1024) || (decide (0x8000 ≤ x) && decide (x ≤ 0x80FF))

/-- Place of a sender in its slot's table of accepted numbers. -/
def seqKey (slot sender : Nat) : Nat := slot * 65536 + sender

/-- R312's conditions: the slot and the access level of the key. -/
def authOf (s : State) (d : Dgram) : Option (Nat × Nat) :=
  match keySlotOf s d.keyId with
  | none => none
  | some (slot, k) =>
    let fresh := match lookup s.mkt.seqTab (seqKey slot d.sender) with
      | some last => decide (last < d.seq)
      | none => true
    if d.macOk && d.market == marketNo s && (d.target == marketId s || d.target == 0xFFFF) && knownSender d.sender && fresh then
      some (slot, k.level)
    else none

/-- A datagram that fails R312 is dropped and counted. -/
def dropDgram (s : State) : State := modMkt s (fun m => { m with authFail := satInc 16 m.authFail })

/-- The new seq is committed first (R313); a host ID's datagram is host activity (R312, R466). -/
def acceptDgram (s : State) (d : Dgram) (slot : Nat) : State :=
  let s1 := modMkt s (fun m => { m with seqTab := spPut m.seqTab (seqKey slot d.sender) d.seq })
  if 0x8000 ≤ d.sender then { s1 with glb := { s1.glb with hostNow := true } } else s1

/-- A response (R311, R312): none to a broadcast, and only when asked for. It is authenticated under the key given. -/
def respond (s : State) (d : Dgram) (key status : Nat) (ws : List W32) : State :=
  if d.respond ∧ d.target ≠ 0xFFFF then emit s (.response d.sender d.seq status ws d.keyId key) else s

/-- The key that a slot holds, 0 for an empty slot. -/
def keyIn (s : State) (slot : Nat) : Nat := match lookup s.mgt.keys slot with | some k => k.key | none => 0

/-- An accepted datagram that changed state is recorded with its sender (R331, R437). -/
def noteChange (s : State) (d : Dgram) : State := logEv s (partyOf (.host d.sender 0 0)) .hostChange d.sender

/-- A datagram that needs an access level (R437): dropped, denied, or handled. While no firmware runs it is dropped without a count
(R425, R429), and so it is on a device without an identity (R380). The response goes out under the key of its request, also where
the request has installed or removed a key (R436). -/
def withDgram (s : State) (d : Dgram) (level : Nat) (f : State → Nat → State × Nat × List W32) : State :=
  if !(fwRuns s && (identNow s).isSome) then s else
  match authOf s d with
  | none => dropDgram s
  | some (slot, l) =>
    let s1 := acceptDgram s d slot
    if l < level then respond s1 d (keyIn s slot) Acc.denied.code []
    else let r := f s1 l; respond r.1 d (keyIn s slot) r.2.1 r.2.2

/-! ## SWITCH (R316) -/

/-- First 8 bytes of the staged patch's structure hash (R316, R381). -/
def stagedHash8 (s : State) : Option Nat := match s.hld.staged, s.hld.patch with | .valid, some p => some (p.hash % 2 ^ 64) | _, _ => none

/-- A SWITCH is refused with this status, 0 when it is accepted (R316, R464). -/
def switchStatus (s : State) (t at_ gen : Nat) (op : SwOp) (subject hash : Nat) : Nat :=
  let self := subject == marketId s
  if at_ < t + 50 * msNs then 16
  else if gen ≠ (s.mkt.gen + 1) % 65536 ∧ !(op == .join && self) = true then 17
  else if s.mkt.switch.isSome then 18
  else if hash ≠ 0 ∧ stagedHash8 s ≠ some hash then 19
  else if (op = .join ∧ self = true ∧ s.mkt.member = .member) ∨ (op = .leave ∧ self = true ∧ s.mkt.member = .outside) then 20
  else 0

/-- The staged patch waits for a SWITCH and applies in a frame (R316, R382). -/
def awaitSwitch (s : State) (frame : Nat) : State := { s with hld := { s.hld with staged := .switchPending, fa := frame, revalOk := false } }

/-- An accepted SWITCH is pending (R316); with a hash it takes the staged patch with it. -/
def takeSwitch (s : State) (x : Switch) : State :=
  let s1 := modMkt s (fun m => { m with switch := some x, lastS := x.s })
  if x.hash = 0 then s1 else awaitSwitch s1 (x.s / frameNs)

/-- What the device answers to a SWITCH: pending, or refused with the status of R316. -/
def answerSwitch (s : State) (t : Nat) (d : Dgram) (x : Switch) : State × Nat × List W32 :=
  let c := switchStatus s t x.s x.gen x.op x.subject x.hash
  if c = 0 then (noteChange (takeSwitch s x) d, 0, []) else (logEv s srcMkt .switchRefused c, c, [])

/-- SWITCH (R316). -/
def execSwitch (t : Ns) (d : Dgram) (s_ gen : Nat) (op : SwOp) (subject hash : Nat) (s : State) : Out :=
  .next (withDgram (setNow s t) d 2 (fun s _ => answerSwitch s t d { s := s_, gen := gen, op := op, subject := subject, hash := hash }))

end Sys2Proof.Machine
end

