-- ==== Sys2Proof/Machine/PairBase.lean ====
section
/-!
DEFINITION. The drive condition's changes (R28) and the pair's own output: what every output stage does when the condition
fails or holds again, OWN_OUT and the pair gate, and the entries into pair states (R354).
-/
namespace Sys2Proof.Machine

open Sys2Proof

/-! ## R28 -/

/-- A condition of R28 fails: every solenoid, motor and transmitter port goes off (R216, R275, R282). -/
def gateOffAll (s : State) : State :=
  let s1 := forEach (upTo 32) s (fun s v => solGateOff s v s.now)
  let s2 := forEach (upTo 16) s1 motGateOff
  forEach (upTo 16) s2 txGateOff

/-- Every condition of R28 holds again (R216, R282); no port starts by it. -/
def gateOnAll (s : State) : State := forEach (upTo 16) (forEach (upTo 32) s solGateOn) motGateOn

/-- After a change of a condition of R28; `was`: the drive condition before it. -/
def regate (was : Bool) (s : State) : State :=
  if was && !driving s then gateOffAll s else if !was && driving s then gateOnAll s else s

/-! ## OWN_OUT and the pair gate -/

/-- The pair gate passes while OWN is asserted and PEER_OWN deasserted (R28); a closed pair gate ends every sweep (R262). -/
def pairGate (s : State) : State :=
  let was := driving s
  let on := s.pair.ownOut && !s.pair.peerOwn
  let s1 := regate was { s with pair := { s.pair with gate := on, gateAt := if on then some (s.pair.gateAt.getD s.now) else none } }
  if s1.pair.gate then s1 else forEach (upTo 8) s1 sweepAbort

/-- Drives OWN_OUT; its land follows (R341). A unit that releases it does not complete a set in transmission (R347). -/
def setOwn (s : State) (b : Bool) : State :=
  pairGate { s with pair := { s.pair with ownOut := b, ownLand := b, closed := if b then s.pair.closed else none } }

/-! ## Pair states (R354) -/

/-- pair_mode of the committed stream. -/
def isPaired (s : State) : Bool := s.hld.committed && regB s .pairCfg 0 0
/-- Unit B: PAIR_ID strapped high (R341). -/
def isB (s : State) : Bool := s.snf.straps.testBit 0

/-- Entry into a pair state with its event record (R354). -/
def pairEnter (s : State) (st : PairSt) (ph : Phase) : State :=
  if s.pair.st = st ∧ s.pair.phase = ph then s
  else logEv { s with pair := { s.pair with st := st, phase := ph, waitAt := none, t3At := none } } (srcDev 4) .pairState (4 * st.code + ph.code)

/-- SPARE (WAIT): a copy and the sets behind it are discarded (R354, R366). -/
def pairWait (s : State) : State :=
  pairEnter { s with pair := { s.pair with asm := none, ready := none, copyAsm := [], copyDone := false, behind := [], retryAt := none,
                                           claimFrom := some s.now } } .spare .wait

/-- A command refused with PAIR_STATE (R354). -/
def pairRefuse (s : State) : State := stick s .pairStatus 0 19

/-! ## The mirror and the lantern (R349, R351, R365) -/

/-- Mirror age, ns (R349); none before the first complete set. -/
def mirrorAge (s : State) : Option Nat := s.pair.setClose.map (fun c => s.now - c)

/-- Mirror age in 10 us, 0xFFFF with none (R349 PAIR_MIRROR). -/
def mirrorAge10 (s : State) : Nat := match mirrorAge s with | some a => sat 16 (a / (10 * usNs)) | none => 0xFFFF

/-- The mirror is fresh (R349, R116). -/
def mirrorFresh (s : State) : Bool :=
  match mirrorAge s with
  | some a => decide (a ≤ 2 * msNs) && !s.pair.gap && !s.pair.actOverrun
  | none => false

/-- The wick with the largest |d| of the last 10 s, and that |d| (PAIR_WICK). -/
def worstWick (s : State) : Nat × Nat :=
  (s.pair.wickD.filter (fun p => decide (s.now < p.1 + 10 * secNs))).foldl (fun a p => if a.2 < p.2.2 then (p.2.1, p.2.2) else a) (0, 0)

/-- An AS sensor whose aisle link is lost (R410). -/
def sensStale (s : State) (i : Nat) : Bool := decide (16 ≤ i) && decide (i < 24) && (aisOf s (i - 16)).lostUp

/-- The hottest of the CS and AS sensors, the lowest number on a tie; a STALE one takes no part (R410, THR_HOT). -/
def hotSensor (s : State) : Nat :=
  (upTo 24).foldl (fun a i => if !sensStale s i && decide ((sensOf s a).checked < (sensOf s i).checked) then i else a) 0

/-- Hottest CS or AS checked value (THR_HOT). -/
def hottest (s : State) : Int := (sensOf s (hotSensor s)).checked

/-- The unit sends n frames on the pair link, the first with the next sequence number (R345). -/
def emitLink (s : State) (n : Nat) (x : Nat → Sent) : State :=
  { s with pair := { s.pair with linkSeq := (s.pair.linkSeq + n) % 2 ^ 32 }, mkt := { s.mkt with sent := x s.pair.linkSeq :: s.mkt.sent } }

/-- What the unit's next lantern says (R365). -/
def lanternNow (s : State) : LanternImg :=
  let p := s.pair
  { issued := s.now, epoch := p.epoch, state := p.st.code,
    status := p.phase.code + 4 * p.health.code + 16 * mapBits [p.ownLand, p.peerOwn, mirrorFresh s, s.snf.active],
    findings := p.findings, seen := p.seenLan, mirrorAge := mirrorAge10 s, selftest := p.selftest,
    mismatches := sat 16 (p.misTimes.filter (fun t => decide (s.now < t + 10 * secNs))).length, wickD := sat 16 (worstWick s).2,
    aislesLinked := mapBits ((upTo 8).map (fun n => (aisOf s n).st == .linked)),
    aislesSafe := mapBits ((upTo 8).map (fun n => (aisOf s n).st == .safe)),
    rowsFloor := mapBits ((upTo 8).map (fun r => (rowOf s r).atFloor)),
    halted := sat 8 (s.eng.e.filter (fun q => q.2.halted)).length, misses := p.missLan, eccCorrected := p.eccLan,
    hash8 := s.hld.str.hash % 2 ^ 64, evrHead := s.rec_.head, tHot := wrapN 16 (hottest s), seq := p.lanSeq }

/-- A lantern is sent, on the pair link when paired and to the stream's lantern address (R365): its bits collect anew. -/
def lanternSend (s : State) : State :=
  let link := isPaired s
  let s1 := emitLink s (if link then 1 else 0) (fun q => .lantern s.hld.str.ident.lanternAddr 0xFFFF (if link then some q else none) (lanternNow s))
  { s1 with pair := { s1.pair with lanSeq := (s1.pair.lanSeq + 1) % 65536, seenLan := s1.pair.findings, missLan := 0, eccLan := 0 } }

/-- Entry into FAILED on a severe finding: OWN_OUT released, the event record, a lantern at once (R352, R354). -/
def pairFail (s : State) : State :=
  if s.pair.st = .failed ∨ s.pair.st = .solo then s
  else lanternSend (logEv (pairEnter (setOwn { s with pair := { s.pair with claimed := false } } false) .failed .wait) (srcDev 4) .pairFinding s.pair.findings)

/-- Step 3 of the snuffer: OWN_OUT released; a paired unit enters FAILED, cause snuffer (R354, R402, R408). -/
def pairSnuff (s : State) : State :=
  let s1 := setOwn s false
  if isPaired s1 ∧ s1.pair.st ≠ .solo then
    { pairEnter s1 .failed .wait with pair := { (pairEnter s1 .failed .wait).pair with snufCause := true, claimed := false } }
  else s1

end Sys2Proof.Machine
end

