-- ==== Sys2Proof/Machine/Resets.lean ====
section
/-!
DEFINITION. What the resets clear and what they keep (R396, R397): the core domain's registers, SRAM, engines and ports; the
always-on domain, MRAM and, at CORE_RESET, the DRAM stay.
-/
namespace Sys2Proof.Machine

open Sys2Proof

/-- Registers that the always-on domain holds: the snuffer block and the wick counters' registers (R397). -/
def aonAddr (a : Nat) : Bool := (decide (0x1500000 ≤ a) && decide (a < 0x1520000)) || (decide (0x400000 ≤ a) && decide (a < 0x402000))
/-- Registers whose words stand in MRAM: the transmitter trims (R397, TX_TRIM). -/
def mramAddr (a : Nat) : Bool := (List.range 16).any (fun n => a == regAddr .txTrimZero n || a == regAddr .txTrimSpan n)

/-- A wick as the always-on counter keeps it over a core reset (R13, R51, R52, R396): count, losses, the present code of a Hall
wick, the periods of a MAINS wick, the dormant record; a line that is not LOST counts on. A MAINS wick has only the states RUNNING and
LOST (R46). -/
def Wick.kept (mains : Bool) (x : Wick) : Wick :=
  { Wick.reset with
    count := x.count, st := if mains then x.st else match x.st with | .disabled => .disabled | .lost => .lost | _ => .still,
    losses := x.losses, phaseErrors := x.phaseErrors, hallCode := x.hallCode, lastCross := x.lastCross, goodPeriods := x.goodPeriods,
    badPeriods := x.badPeriods, startLost := x.startLost, timing := x.timing, dormEntry := x.dormEntry, delta := x.delta,
    dormLost := x.dormLost, dormOverrun := x.dormOverrun, dormTick := x.dormTick }

/-- The wicks W0 to W51 over a core reset (R13). -/
def keptWicks (s : State) : List (Nat × Wick) :=
  (s.wick.w.filter (fun p => decide (p.1 < 52))).foldl (fun l p =>
    spSet Wick.reset l p.1 (p.2.kept (decide (regF s .wckCfg p.1 0 4 = 7)))) []

/-- A channel's MRAM: calibration, samples, fits (R89, R90). -/
def MoistCh.kept (x : MoistCh) : MoistCh := { MoistCh.reset with cal := x.cal, samples := x.samples, fits := x.fits }
/-- A column's MRAM: the checkpoint images; one whose write the reset cut short has no complete header (R112). -/
def Column.kept (x : Column) : Column :=
  let cut := !x.writing.isEmpty
  { Column.reset with imgA := if cut && !x.nextB then none else x.imgA, imgB := if cut && x.nextB then none else x.imgB, nextB := x.nextB }
/-- A drying column's MRAM: the drying records (R136). -/
def Dry.kept (x : Dry) : Dry := { Dry.reset with recs := x.recs }
/-- A motor port's MRAM: offset and identification; every reset kind clears the port (R396), which invalidates the offset (R202, R218). -/
def Motor.kept (x : Motor) : Motor :=
  { Motor.reset with offset := x.offset, rs := x.rs, ls := x.ls, identified := x.identified }
/-- A gate's MRAM: homed (R224). -/
def Gate.kept (x : Gate) : Gate := { Gate.reset with homed := x.homed }
/-- A transmitter port: the cell, its alarm line and MRAM lock stay; the core's part is reset (R274 to R278). -/
def TxPort.kept (x : TxPort) : TxPort :=
  { TxPort.reset with powered := x.powered, lineOn := x.lineOn, almHigh := x.almHigh, lockMram := x.lockMram,
                      lastFrame := x.lastFrame, st := if x.st = .quiescent then .quiescent else .alarm }
/-- A stall: the aisle's part stays, the core's part is reset. -/
def Stall.kept (x : Stall) : Stall :=
  { Stall.reset with aClass := x.aClass, aSettled := x.aSettled, aChanged := x.aChanged, aPrev := x.aPrev, aAt := x.aAt, aEdgeLost := x.aEdgeLost,
                     aValue := x.aValue, aCount := x.aCount, cntBase := false, aEdge := x.aEdge, aBreak := x.aBreak, aLevel := x.aLevel,
                     aHeld := x.aHeld, aOver := x.aOver, aRetry := x.aRetry, aThermal := x.aThermal, aSupplyLim := x.aSupplyLim,
                     aSupRetry := x.aSupRetry }
/-- An aisle: its own state stays; the core's side of the link starts anew. -/
def Aisle.kept (x : Aisle) : Aisle :=
  { x with coreFault := false, crcErrors := 0, losses := 0, sendConfig := true, lastUp := 0, upOk := 0, lostUp := true, resumeReq := false,
           resumeBit := false, toSend := [], sweep := Sweep.none }

/-- The recorder without the core domain: ring, queue and what was not committed are gone; the tail stays, and numbering goes on
above every number issued (R335). -/
def RecState.kept (r : RecState) : RecState :=
  { r with ring := [], queue := [], lostNow := 0, lost := 0, queuePeak := 0, uncommitted := [], mramLag := false, head := r.mramSeq }

/-- The wax after a reset: the tiers and a FROZEN image survive only where DRAM is kept (R448, R450). -/
def WaxState.kept (x : WaxState) (dram : Bool) : WaxState :=
  if dram then
    { WaxState.reset with segs := x.segs, keys := x.keys.filter (·.complete), summaries := x.summaries,
                          staging := if x.staging = .frozen then .frozen else .empty,
                          frozen := if x.staging = .frozen then x.frozen else none }
  else WaxState.reset

/-- The management subsystem after a reset: flash, OTP and MRAM stay, the staging region and the results are reset; a load in
progress leaves its bank as it stands (R424 to R441). -/
def MgtState.kept (x : MgtState) : MgtState :=
  { x with halted := false, img := .empty, imgBytes := [], imgFw := none, imgStr := none, flash := none, code := 0, op := 0,
           wrap := [], attest := 0 }

/-- The tally unit after a reset: every bank that was not FREE is lost, its number kept for TALLY_MISSED (R327). -/
def TallyState.kept (x : TallyState) : TallyState :=
  let n := fun (b : TallyBank) (old : Nat) => if b.st = .free then old else b.num
  { TallyState.reset with lost0 := n x.bank0 x.lost0, lost1 := n x.bank1 x.lost1,
                          lostAny := x.lostAny || x.bank0.st != .free || x.bank1.st != .free }

/-- The core domain is cleared (R396): everything but the always-on domain, MRAM, flash and, where `dram` holds, DRAM. -/
def coreClear (s : State) (dram : Bool) : State :=
  let keep := s.rf.filter (fun p => aonAddr p.1 || mramAddr p.1)
  let wst := keep.map (fun p => (p.1, p.2))
  { s with
    frame := 0, framed := false, rf := wst, rfF := wst,
    wick := { WickState.reset with w := keptWicks s },
    llt := LltState.reset,
    moist := { s.moist with c := spMap MoistCh.reset s.moist.c MoistCh.kept },
    col := { ColState.reset with c := spMap Column.reset s.col.c Column.kept, d := spMap Dry.reset s.col.d Dry.kept },
    eng := EngState.reset, loop := LoopState.reset,
    motor := { MotorState.reset with m := spMap Motor.reset s.motor.m Motor.kept, gate := spMap Gate.reset s.motor.gate Gate.kept },
    aisle := { AisleState.reset with a := spMap Aisle.reset s.aisle.a Aisle.kept, st := spMap Stall.reset s.aisle.st Stall.kept },
    tx := { TxState.reset with p := spMap TxPort.reset s.tx.p TxPort.kept, sel := s.tx.sel, selLog := s.tx.selLog },
    sol := [], mkt := { MktState.reset with seqTab := s.mkt.seqTab, sent := s.mkt.sent, port0 := MktPort.reset, port1 := MktPort.reset },
    tal := s.tal.kept, rec_ := s.rec_.kept,
    pair := { PairState.reset with epoch := s.pair.epoch, peerOwn := s.pair.peerOwn, idConflict := s.pair.idConflict },
    hld := { HldState.reset with identWords := s.hld.identWords, mramIdent := s.hld.mramIdent },
    thr := { s.thr with pol := [], mLaw := [], pIn := 0, st := if s.thr.st = .throttling then .normal else s.thr.st },
    mgt := s.mgt.kept, wax := s.wax.kept dram, rlt := RltState.reset, mon := MonState.reset,
    glb := { GlbState.reset with seq := s.glb.seq }, before := none, marks := [] }

/-- Changes the snuffer's state. -/
def modSnf (s : State) (f : SnfState → SnfState) : State := { s with snf := f s.snf }

/-- SAFE_OUT_N follows R403: asserted from AUX_POR until outputs are first enabled, while active, and in dormant mode. -/
def safeOut (s : State) : State := modSnf s (fun x => { x with safeOut := !x.everEnabled || x.active || x.dormant })

/-- The outputs go first: the first condition of R28 is cleared and OWN_OUT released. -/
def disableOutputs (s : State) : State :=
  let was := driving s
  setOwn (regate was { s with snf := { s.snf with enabled := false, restoredAt := none } }) false

/-- The core domain goes into reset: outputs off, then cleared. A dormant entry under way ends (R399). -/
def coreDown (s : State) (dram : Bool) : State :=
  let s1 := coreClear (disableOutputs s) dram
  safeOut (modSnf s1 (fun x => { x with stage := 0, powerGood := false, heldBoot := false, bootT := [], resetAfter := false,
                                        dormant := x.dormant && !x.dormEntering, dormEntering := false }))

/-- A boot instant is reached (R393): its market time is recorded as a boot event. -/
def bootStage (s : State) (k : Nat) : State :=
  logEv { s with snf := { s.snf with stage := max s.snf.stage k, bootT := (k, s.now) :: s.snf.bootT } } (srcDev 0) .bootInstant k

/-- The boot ROM arms the watchdog at 2,000 ms (R407). -/
def wdRom (s : State) : State := { s with snf := { s.snf with wdArmed := true, wdMs := 2000, wdLast := s.now, wdFrame := 0 } }

/-- The boot begins at power-good (t0), or at t1 after CORE_RESET (R393, R396). -/
def startBoot (s : State) : State :=
  wdRom (logEv { s with snf := { s.snf with corePowered := true, coreLost := false, powerGood := true, woken := false,
                                            bootT := [(0, s.now)] } } (srcDev 0) .bootInstant 0)

/-- CORE_RESET (R396): nothing while the core domain is unpowered or held in reset. cause: 0 host, 1 Dulo, 2 watchdog. -/
def coreReset (s : State) (cause : Nat) : State :=
  if !s.snf.corePowered || !s.snf.powerGood then s
  else
    let s1 := coreDown s true
    startBoot { s1 with snf := { s1.snf with kind := .coreReset, coreCause := cause }, glb := { s1.glb with seq := 0 } }

/-- The core domain loses its power (R396, R398): DRAM is lost. -/
def corePowerOff (s : State) : State :=
  let s1 := coreDown s false
  { s1 with snf := { s1.snf with corePowered := false, coreLost := true } }

end Sys2Proof.Machine
end

