-- ==== Sys2Proof/Machine/Snuffer.lean ====
section
/-!
DEFINITION. The snuffer (R401 to R408): triggers, its steps, the shutdown record, release, and the watchdog.
-/
namespace Sys2Proof.Machine

open Sys2Proof

/-- Sets or clears the condition of a cause (R401 holding). -/
def setHold (s : State) (c : Nat) (on : Bool) : State :=
  modSnf s (fun x => { x with holding := if on then x.holding ||| (1 <<< c) else if x.holding.testBit c then x.holding - 1 <<< c else x.holding })

/-! ## The shutdown record (R405) -/

/-- Rail voltage at the trigger, mV: as last told when it lies outside its window, else a free value (no command tells it). -/
def railMv (s : State) (k : Nat) (r : Rail) : Nat :=
  match s.snf.railBad.find? (fun p => p.1 == r) with
  | some p => p.2
  | none => Config.freeNat (s.free + k) % 65536

/-- The record of an activation, taken at its trigger (R405); the steps' times and the rails are the hardware's: free values
within R402's bounds. -/
def shutdownRec (s : State) (cause : Nat) : ShutdownRec :=
  let alive := s.framed && decide (s.now ≤ s.frame * frameNs + 1000000)
  let bound := fun (k b : Nat) => Config.freeNat (s.free + k) % (b + 1)
  { number := (s.snf.recNumber + 1) % 2 ^ 32, tTrigger := s.now, first := cause, causes := 1 <<< cause,
    timeEstimated := !s.snf.corePowered, coreAlive := alive, dormant := s.snf.dormant, outputsEnabled := s.snf.enabled,
    owning := s.pair.ownOut, pair := s.pair.st.code, auxResets := s.snf.auxResets % 65536, tHot := wrapN 16 (hottest s),
    frame := s.frame, evrHead := s.rec_.mramSeq, epoch := s.pair.epoch,
    rails := [railMv s 0 .vcore, railMv s 1 .vddq, railMv s 2 .vio, railMv s 3 .v33, railMv s 4 .vaux],
    aislesLinked := mapBits ((upTo 8).map (fun n => (aisOf s n).st == .linked)),
    aislesSafe := mapBits ((upTo 8).map (fun n => (aisOf s n).st == .safe)),
    motor := (upTo 16).map (fun m => (motOf s m).st.code + 256 * (motOf s m).fault.code),
    solOn := mapBits ((upTo 32).map (fun v => (solOf s v).st == .peak || (solOf s v).st == .hold)),
    txDrive := mapBits ((upTo 16).map (fun n => (txOf s n).st == .drive)),
    steps := [bound 5 5000, bound 6 50000, bound 7 5000, bound 8 5000],
    hash8 := s.hld.str.hash % 2 ^ 64,
    firmware := match (if s.mgt.fwB then s.mgt.fwBImg else s.mgt.fwA) with | some f => f.version | none => 0 }

/-- Step 5 (R402, R404): the record is committed whole while VAUX holds it; else the previous record stays and record_missed is
set. -/
def commitRecord (s : State) : State :=
  match s.snf.recWait with
  | none => s
  | some r =>
    let s1 := modSnf s (fun x => { x with recWait := none })
    if s.snf.vaux then modSnf s1 (fun x => { x with record := some { r with causes := x.causes, first := x.first, tTrigger := x.trigT }, recNumber := r.number })
    else logEv (stick s1 .snfStatus 0 18) (srcDev 2) .recordMissed

/-! ## Triggers and steps (R401, R402, R406, R408) -/

/-- Step 1 at the cells: every powered cell with its alarm line to the alarm current; FAULT and QUIESCENT stay (R275). -/
def cellsAlarm (s : State) : State :=
  forEach (upTo 16) s (fun s n =>
    match (txOf s n).st with
    | .drive => txEndForce s n .alarm
    | .forced => txEndForce s n .alarm
    | .bypass => txEndForce s n .alarm
    | _ => s)

/-- SNUFFER_STEPS 1 to 4 (R402): gates off, cells to alarm, aisles SAFE, OWN_OUT released, SAFE_OUT_N asserted. `was`: the drive
condition before the trigger. -/
def snufferSteps (s : State) (was : Bool) : State :=
  let s1 := cellsAlarm (regate was s)
  let s2 := forEach (upTo 8) s1 (fun s n => aisEnterSafe s n true)
  safeOut (pairSnuff s2)

/-- A trigger at the present time (R401): the first makes the snuffer active; a further one only sets its bits. A release in the same
cycle is refused (R408): the activation goes on. -/
def snufferTrigger (s : State) (cause : Nat) : State :=
  let was := driving s
  let s0 := stick (modSnf s (fun x => { x with lastTrig := some s.now })) .snfStatus 0 (8 + cause)
  if s.snf.active ∨ s.snf.relAt = some s.now then
    let s' := if s.snf.active then s0 else snufferSteps (modSnf s0 (fun x => { x with active := true, result := 1, resultOp := 2 })) was
    let s1 := modSnf s' (fun x => { x with
      causes := if s.now ≤ x.trigT + 2000 then x.causes ||| (1 <<< cause) else x.causes,
      first := if s.now = x.trigT ∧ cause < x.first then cause else x.first })
    logEv s1 (srcDev 2) .snufferTrigger cause
  else
    let r := shutdownRec s cause
    let s1 := modSnf { s0 with free := s0.free + 9 } (fun x => { x with
      active := true, first := cause, causes := 1 <<< cause, trigT := s.now, recWait := some r })
    logEv (snufferSteps s1 was) (srcDev 2) .snufferTrigger cause

/-- A snuffer that has been triggered is released (R406): SAFE_OUT_N by R403, a SOLO unit whose outputs are enabled asserts
OWN_OUT again, ports stand OFF. -/
def snufferRelease (s : State) : State :=
  let was := driving s
  let s1 := regate was (safeOut (modSnf s (fun x => { x with active := false })))
  if s1.snf.enabled && s1.pair.st == .solo then setOwn s1 true else s1

/-- A release is refused while a condition holds or a trigger fell in the same cycle (R406, R408). -/
def releaseHeld (s : State) : Bool := s.snf.holding != 0 || s.snf.lastTrig == some s.now

/-- SNF_RESULT of an op. -/
def snfResult (s : State) (op r : Nat) : State := modSnf s (fun x => { x with result := r, resultOp := op })

/-- The snuff op (R401 COMMAND). -/
def snfSnuff (s : State) : State := snfResult (snufferTrigger s 5) 1 0
/-- The release op (R406). -/
def snfRelease (s : State) : State :=
  if !s.snf.active then snfResult s 2 0
  else if releaseHeld s then snfResult s 2 1
  else snfResult (modSnf (snufferRelease s) (fun x => { x with relAt := some s.now })) 2 0
/-- The core_reset op (R396), from the host (0) or the Dulo monitor (1). -/
def snfCoreReset (s : State) (cause : Nat) : State := snfResult (coreReset s cause) 3 0

/-- SNF_SNUFF (R401). -/
def execSnfSnuff (s : State) : Out := .next (snfSnuff s)
/-- SNF_RELEASE (R406). -/
def execSnfRelease (s : State) : Out := .next (snfRelease s)
/-- SNF_CORE_RESET (R396). -/
def execSnfCoreReset (s : State) : Out := .next (snfCoreReset s 0)

/-- SNUFFER_BASKET_COMMAND (R186, R401): a message reaches the snuffer command basket. -/
def execSnufferBasketCommand (t : Ns) (s : State) : Out := .next (snufferTrigger (setNow s t) 5)

/-- SAFE_N_ASSERT (R401): low for at least 1 µs; a land that is low already makes no new edge. -/
def execSafeNAssert (t : Ns) (s : State) : Out :=
  let s := setNow s t
  .next (if s.snf.vaux && s.snf.safeN then snufferTrigger (setHold (modSnf s (fun x => { x with safeN := false })) 0 true) 0 else s)

/-- PWR_FAIL_N_ASSERT (R401). -/
def execPwrFailNAssert (t : Ns) (s : State) : Out :=
  let s := setNow s t
  .next (if s.snf.vaux && s.snf.pwrFailN then snufferTrigger (setHold (modSnf s (fun x => { x with pwrFailN := false })) 4 true) 4 else s)

/-- SAFE_N_DEASSERT (R406): the holding bit clears. -/
def execSafeNDeassert (t : Ns) (s : State) : Out :=
  .next (setHold (modSnf (setNow s t) (fun x => { x with safeN := true })) 0 false)

/-- PWR_FAIL_N_DEASSERT (R406). -/
def execPwrFailNDeassert (t : Ns) (s : State) : Out :=
  .next (setHold (modSnf (setNow s t) (fun x => { x with pwrFailN := true })) 4 false)

/-! ## Supplies (R391, R401, R404) -/

/-- Nominal voltage of a core rail, mV (the rails of chapter 23). -/
def railNom (r : Rail) : Nat := match r with | .vcore => 750 | .vddq => 1100 | .vio => 1800 | .v33 => 3300 | .vaux => 3300

/-- A reading lies outside the window of R401: ±10 % of nominal, or VAUX below 3.10 V. -/
def railOut (r : Rail) (mv : Nat) : Bool :=
  match r with
  | .vaux => decide (mv < 3100)
  | r => decide (mv * 10 < railNom r * 9) || decide (railNom r * 11 < mv * 10)

/-- A core rail is outside its window. -/
def coreRailBad (x : SnfState) : Bool := x.railBad.any (fun p => p.1 != .vaux)

/-- SUPPLY_FAULT (R401, R404): the monitor's reading of a rail after 10 µs. A reading inside the window ends that rail's part of
the condition. A core rail counts from power-good until it is switched off on purpose; its loss takes the core domain down
(R396). VAUX below 3.0 V ends step 5, below 2.7 V the always-on domain. -/
def execSupplyFault (t : Ns) (rail : Rail) (mv : Nat) (s : State) : Out :=
  let s := setNow s t
  let others := s.snf.railBad.filter (fun p => p.1 != rail)
  if !s.snf.vaux then .next s
  else if !railOut rail mv then
    let s1 := modSnf s (fun x => { x with railBad := others })
    .next (if others.isEmpty then setHold s1 3 false else s1)
  else if rail ≠ .vaux ∧ s.snf.corePowered = false ∧ coreRailBad s.snf = false then .next s
  else
    let s1 := setHold (modSnf s (fun x => { x with railBad := (rail, mv) :: others })) 3 true
    let s2 := snufferTrigger s1 3
    match rail with
    | .vaux =>
      let s3 := if mv < 3000 then commitRecord (modSnf s2 (fun x => { x with vaux := false })) else s2
      .next (if mv < 2700 then corePowerOff s3 else modSnf s3 (fun x => { x with vaux := true }))
    | _ => .next (corePowerOff s2)

/-! ## Watchdog (R407) -/

/-- WATCHDOG_RESTART (R407): the firmware restarts the watchdog only when the frame counter has advanced and its own checks
pass. -/
def execWatchdogRestart (t : Ns) (s : State) : Out :=
  let s := setNow s t
  .next (if s.snf.wdArmed && !s.mgt.halted && s.framed && decide (s.snf.wdFrame < s.frame) then
      modSnf s (fun x => { x with wdLast := t, wdFrame := s.frame })
    else s)

/-- The watchdog has expired at t: it is suspended in dormant mode. -/
def wdOver (s : State) (t : Nat) : Bool :=
  s.snf.vaux && s.snf.wdArmed && !s.snf.dormant && decide (s.snf.wdLast + s.snf.wdMs * msNs ≤ t)

/-- WATCHDOG_EXPIRY (R407): the snuffer triggers, and with wd_reset CORE_RESET follows step 5. -/
def execWatchdogExpiry (t : Ns) (s : State) : Out :=
  let s := setNow s t
  .next (if wdOver s t then
      let s1 := modSnf s (fun x => { x with wdArmed := false, expiries := satInc 16 x.expiries })
      let s2 := logEv (snufferTrigger s1 1) (srcDev 2) .watchdogExpired
      if regB s2 .snfWdog 0 14 then
        if s2.snf.recWait.isSome then modSnf s2 (fun x => { x with resetAfter := true }) else coreReset s2 2
      else s2
    else s)

/-- What follows step 5 (R407, R413): the watchdog's CORE_RESET, or a thermal shutdown's stop of the core: its supplies switched
off when the stream names PMBus addresses, in reverse order. -/
def afterStep5 (s : State) : State :=
  if s.snf.thermStop then
    let pm := s.hld.str.pmbus
    let s1 := modSnf s (fun x => { x with thermStop := false, resetAfter := false, pmbus := if pm then 0 :: x.pmbus else x.pmbus,
                                          pmOff := x.pmOff || pm })
    if pm then corePowerOff s1
    else modSnf (coreDown s1 true) (fun x => { x with wdArmed := false })
  else if s.snf.resetAfter then coreReset s 2
  else s

/-- SHUTDOWN_RECORD_COMMIT (R402, R405). -/
def execShutdownRecordCommit (t : Ns) (s : State) : Out :=
  let s := setNow s t
  .next (if s.snf.recWait.isSome then afterStep5 (commitRecord s) else s)

/-- A watchdog's CORE_RESET waits for step 5, at most until 2 ms after the trigger (R407). -/
def wdResetDue (s : State) : State := if s.snf.resetAfter && decide (s.snf.trigT + 2 * msNs ≤ s.now) then coreReset s 2 else s

end Sys2Proof.Machine
end

