-- ==== Sys2Proof/Machine/Thermal.lean ====
section
/-!
DEFINITION. Temperature, throttling and power (R410 to R423): sensors and their checked values, the throttle law, shutdown and
restart, thermal policies.
-/
namespace Sys2Proof.Machine

open Sys2Proof

/-- Whole °C in 1/128 °C. -/
def degC (x : Int) : Int := 128 * x

/-! ## Sensors (R410, R411): 0 to 15 CS, 16 to 23 AS, 24 to 31 TD -/

/-- The neighbours of a sensor (R411); a TD sensor's are the stream's. -/
def sensNbr (s : State) (i : Nat) : Option (Nat × Nat) :=
  if i < 16 then some ((i + 15) % 16, (i + 1) % 16)
  else if i < 24 then some (16 + (i - 16 + 7) % 8, 16 + (i - 16 + 1) % 8)
  else (lookup s.hld.str.tdNbr (i - 24)).map (fun p => (24 + p.1, 24 + p.2))

/-- The neighbours' readings when both may serve: neither FAILED nor STALE (R411). -/
def nbrReadings (s : State) (i : Nat) : Option (Int × Int) :=
  match sensNbr s i with
  | some (a, b) =>
    let ok := fun j => (sensOf s j).cls != .failed && !sensStale s j
    if ok a && ok b then some ((sensOf s a).raw, (sensOf s b).raw) else none
  | none => none

/-- R411's condition: more than 15 °C from both neighbours, which agree within 5 °C. -/
def outlier (x : Int) (n : Int × Int) : Bool :=
  decide (1920 < (x - n.1).natAbs) && decide (1920 < (x - n.2).natAbs) && decide ((n.1 - n.2).natAbs ≤ 640)

/-- Mean of the neighbours in 1/128 °C; the rounding of a half is open, a free choice. -/
def nbrMean (s : State) (n : Int × Int) : Int := Int.fdiv (n.1 + n.2 + (if Config.freeBool s.free then 1 else 0)) 2

/-- The converter reports a failure (R410): out of −45 to +155 °C, or an OPEN or SHORT diode pair. -/
def sensFails (i : Nat) (r : TempReading) : Bool :=
  if i < 24 then decide (r.raw < degC (-45)) || decide (degC 155 < r.raw) else r.fault

/-- SENSOR_CHECK (R410, R411): the sensor's record after a conversion. -/
def checkSensor (s : State) (i : Nat) (r : TempReading) : Sensor :=
  let x := sensOf s i
  let failed := sensFails i r
  let v := if failed then degC 150 else r.raw
  match nbrReadings s i with
  | none =>
    let stays := !failed && x.cls == .suspect && decide (x.clean + 1 < 8)
    { x with raw := v, checked := v, cls := if failed then .failed else if stays then .suspect else .ok, unchecked := true,
             clean := if stays then x.clean + 1 else 0 }
  | some n =>
    let o := outlier v n
    if failed then { x with raw := v, checked := if o then nbrMean s n else v, cls := .failed, unchecked := false, clean := 0 }
    else if o then { x with raw := v, checked := nbrMean s n, cls := .suspect, unchecked := false, clean := 0 }
    else if x.cls = .suspect ∧ x.clean + 1 < 8 then { x with raw := v, checked := nbrMean s n, unchecked := false, clean := x.clean + 1 }
    else { x with raw := v, checked := v, cls := .ok, unchecked := false, clean := 0 }

/-- A conversion's sensor record and the events of an entry into SUSPECT or FAILED (R411). -/
def takeSensor (s : State) (i : Nat) (r : TempReading) : State :=
  let old := sensOf s i
  let x := checkSensor s i r
  let enterS := x.cls == .suspect && old.cls != .suspect
  let s1 := setSens (useFree s) i { x with suspects := if enterS then satInc 16 x.suspects else x.suspects }
  let s2 := if 16 ≤ i ∧ i < 24 then setAis s1 (i - 16) { aisOf s1 (i - 16) with tDie := x.raw } else s1
  let s3 := if enterS then logEv (stick s2 .thrStatus 0 9) (srcDev 1) .sensorSuspect i else s2
  if x.cls = .failed ∧ old.cls ≠ .failed then logEv s3 (srcDev 1) .sensorFailed i else s3

/-! ## Shutdown and restart (R413 to R416) -/

/-- Shutdowns that the count of R415 covers at t. -/
def thrCount (s : State) (t : Nat) : Nat := (s.thr.times.filter (fun a => decide (t < a + 86400 * secNs))).length

/-- Auto permitted (R414): AUTO_RESTART sampled high and fewer than three shutdowns in the count. -/
def autoPermitted (s : State) (t : Nat) : Bool := s.snf.straps.testBit 3 && !s.thr.autoDis && decide (thrCount s t < 3)

/-- Every CS checked value lies below 100 °C (R413). -/
def allCool (s : State) : Bool := (upTo 16).all (fun i => decide ((sensOf s i).checked < degC 100))

/-- Hottest CS checked value. -/
def hotCs (s : State) : Int := (upTo 16).foldl (fun a i => max a (sensOf s i).checked) (sensOf s 0).checked

/-- Rewrites the newest history entry (R416). -/
def modHist (s : State) (f : ThrHist → ThrHist) : State :=
  match s.thr.hist with
  | [] => s
  | h :: t => { s with thr := { s.thr with hist := f h :: t } }

/-- THERMAL_SHUTDOWN_DECISION (R413, R415, R416, R422): counted, in the history, THERMAL triggers; after step 5 the core stops,
at once where no step 5 is pending. -/
def thermalShutdown (s : State) (i : Nat) : State :=
  let times := s.now :: s.thr.times.filter (fun a => decide (s.now < a + 86400 * secNs))
  let s1 := { s with thr := { s.thr with
    st := .shutdown, coolAt := none, times := times, total := (s.thr.total + 1) % 2 ^ 32, autoDis := s.thr.autoDis || decide (3 ≤ times.length) } }
  let h : ThrHist :=
    { tDecision := s.now, number := s1.thr.total, sensor := i, autoOk := autoPermitted s1 s.now, auto := false, byReset := false,
      off := s.hld.str.pmbus, dormant := s.snf.dormant, tDecide := (sensOf s i).checked,
      m := (upTo 8).map (fun r => (rowOf s r).m), tPeak := hotCs s, coolS := 65535 }
  let s2 := { s1 with thr := { s1.thr with hist := (h :: s1.thr.hist).take 16 } }
  let s3 := logEv (snufferTrigger (setHold s2 2 true) 2) (srcDev 1) .thermalShutdown i
  let s4 := modSnf s3 (fun x => { x with thermStop := !x.dormant })
  if s4.snf.recWait.isSome then s4 else afterStep5 s4

/-- The thermal states that CS values drive (R413, R414, R416). -/
def thermalStep (s : State) : State :=
  match s.thr.st with
  | .shutdown =>
    let s1 := modHist s (fun h => { h with tPeak := max h.tPeak (hotCs s) })
    if allCool s1 then
      let s2 := modHist (setHold s1 2 false) (fun h => if h.coolS = 65535 then { h with coolS := sat 16 ((s.now - h.tDecision) / secNs) } else h)
      if autoPermitted s2 s.now && s.snf.first == 2 then { s2 with thr := { s2.thr with st := .cooling, coolAt := some s.now } }
      else { s2 with thr := { s2.thr with st := .held } }
    else s1
  | .cooling => if allCool s then s else { setHold s 2 true with thr := { s.thr with st := .shutdown, coolAt := none } }
  | _ => s

/-- THERMAL_CONVERSION (R410 to R414). -/
def execThermalConversion (i : Fin 32) (t : Ns) (r : TempReading) (s : State) : Out :=
  let s := setNow s t
  if !s.snf.vaux then .next s
  else if sensStale s i then .next (setSens s i { sensOf s i with cls := .stale })
  else
    let before := (sensOf s i).hotOnce
    let s1 := takeSensor s i r
    let hot := decide (i.val < 24) && decide (degC 120 ≤ (sensOf s1 i).checked)
    let s2 := setSens s1 i { sensOf s1 i with hotOnce := hot }
    let running := s2.thr.st == .normal || s2.thr.st == .throttling
    .next (if hot && before && running then thermalShutdown s2 i else if i.val < 16 then thermalStep s2 else s2)

/-- The core starts again after a thermal shutdown (R414): by PMBus when its supplies were switched off, else as CORE_RESET. -/
def thermalBoot (s : State) : State :=
  if s.snf.dormant then s
  else if s.snf.pmOff && !s.snf.corePowered then modSnf s (fun x => { x with pmOff := false, pmbus := 0x80 :: x.pmbus })
  else if s.snf.corePowered && !s.snf.powerGood then
    startBoot { s with snf := { s.snf with kind := .coreReset, coreCause := Config.freeNat s.free % 4 }, free := s.free + 1, glb := { s.glb with seq := 0 } }
  else s

/-- restarted of THR_STATUS (R414). -/
def noteRestart (s : State) : State := logEv (stick s .thrStatus 0 10) (srcDev 1) .thermalRestart

/-- THERMAL_RESTART (R414): 60 s of COOLING. The snuffer is released where no other condition holds (R406). -/
def execThermalRestart (t : Ns) (s : State) : Out :=
  let s := setNow s t
  match s.thr.coolAt with
  | some a =>
    .next (if s.thr.st = .cooling ∧ a + 60 * secNs ≤ t then
        let s1 := modHist { s with thr := { s.thr with st := .normal, coolAt := none } } (fun h => { h with auto := true })
        let s2 := if releaseHeld s1 then s1 else snufferRelease s1
        noteRestart (thermalBoot s2)
      else s)
  | none => .next s

/-! ## Throttling (R157, R412) -/

/-- The law's step at a temperature (R412): 128 to 105 °C, then 5 % of 500 MHz less for each °C, at least 32. -/
def throttleLaw (t : Int) : Nat := if t ≤ degC 105 then 128 else max 32 (128 - (t - degC 105).toNat / 20)

/-- m_law of a row in force. -/
def mLawOf (s : State) (r : Nat) : Nat := spGet 128 s.thr.mLaw r

/-- THROTTLE_LAW (R412): where it would raise the row's present step it is evaluated 0.5 °C higher; it never lowers the step by that
(log entry 33). -/
def nextLaw (s : State) (r : Nat) : Nat :=
  let t := rowTemp s r
  let p := mLawOf s r
  let m := throttleLaw t
  if p < m ∧ (rowOf s r).m < m then max p (throttleLaw (t + 64)) else m

/-- ROW_CLOCK_SET of one row (R157): the higher of the law's step and the floor. -/
def setRowClock (s : State) (r : Nat) : State :=
  let law := nextLaw s r
  let fl := rowFloor s r
  let m := max law fl
  let x := rowOf s r
  let s1 := { s with thr := { s.thr with mLaw := spSet 128 s.thr.mLaw r law } }
  let s2 := setRow s1 r { x with m := m, throttling := decide (m < 128), atFloor := decide (law ≤ fl), floorHeld := x.floorHeld || decide (law < fl) }
  if m < 128 then stick s2 .thrStatus 0 8 else s2

/-- ROW_CLOCK_SET (R157, R412, R414): every row, and NORMAL or THROTTLING by the laws' steps. -/
def setRowClocks (s : State) : State :=
  let s1 := forEach (upTo 8) s setRowClock
  let throttled := (upTo 8).any (fun r => decide (mLawOf s1 r < 128))
  match s1.thr.st with
  | .normal => if throttled then { s1 with thr := { s1.thr with st := .throttling } } else s1
  | .throttling => if throttled then s1 else { s1 with thr := { s1.thr with st := .normal } }
  | _ => s1

/-! ## Thermal policies (R421) -/

/-- A temperature of the supervisor as it stands: of row k, of aisle k - 16, of diode k - 32. -/
def tempNow (s : State) (k : Nat) : TempIn :=
  let sensor := fun i => ({ t := (sensOf s i).checked, failed := (sensOf s i).cls == .failed, stale := sensStale s i } : TempIn)
  if k < 16 then { t := rowTemp s k, failed := false, stale := false } else if k < 32 then sensor k else sensor (k - 8)

/-- A temperature that has changed joins the input set (R24, R27). -/
def takeTemp (s : State) (k : Nat) : State :=
  let x := tempNow s k
  if tempIn s k = x then s
  else addItem { s with eng := { s.eng with temps := spSet TempIn.zero s.eng.temps k x } } (.temp k x)

/-- The temperatures of rows, aisles and diodes as the closing input set finds them (R24, R27, R421). -/
def takeTemps (s : State) : State := forEach (upTo 8 ++ (upTo 8).map (· + 16) ++ (upTo 8).map (· + 32)) s takeTemp

/-- An input of a policy: its temperature in 1/128 °C and whether it reads FAILED; none for a STALE one. -/
def polInput (s : State) (x : Src) : Option (Int × Bool) :=
  let sensor := fun k => let y := tempIn s k; if y.stale then none else some (if y.failed then (degC 150, true) else (y.t, false))
  match x with
  | .row r => some ((tempIn s r).t, false)
  | .aisleTemp n => sensor (16 + n)
  | .diode n => sensor (32 + n)
  | .stall n => some (fToInt (fMul (stlOf s n).value (fOfNat 128)), ((stlOf s n).flags &&& 0x03#8) != 0#8)
  | _ => none

/-- The hottest input of a policy: index, temperature; and whether any reads FAILED. -/
def polHot (s : State) (ins : List Src) : Option (Nat × Int) × Bool :=
  (List.range ins.length).foldl (fun a k =>
    match polInput s (ins.getD k .none) with
    | some (t, f) =>
      (match a.1 with
       | some (j, u) => some (if u < t then (k, t) else (j, u))
       | none => some (k, t), a.2 || f)
    | none => a) (none, false)

/-- Level of a policy at temperature t from its present level: 0 NORMAL, 1 WARN, 2 ACT (R421); hyst in 0.1 °C. -/
def polLevel (now : Nat) (t warn act : Int) (hyst : Nat) : Nat :=
  if act ≤ t ∨ (now = 2 ∧ 10 * act - degC hyst < 10 * t) then 2
  else if warn ≤ t ∨ (1 ≤ now ∧ 10 * warn - degC hyst < 10 * t) then 1
  else 0

/-- The action of ACT, or its end (R421). -/
def polAct (s : State) (n p : Nat) (on : Bool) (t : Int) : State :=
  let basic := !regB s .thrPolCfg p 1
  let a := regF s .thrPolCfg p 2 2
  let d := regF s .thrPolCfg p 4 7
  match a with
  | 1 => setStl s d { stlOf s d with nextCmd := some on }
  | 2 => if on && !basic then (match lookup s.hld.str.policies p with
      | some o => keepPost s n (plain o.basket (.policy (fRat t 128) 2))
      | none => s) else s
  | 3 => if on && !basic then snufferTrigger s 5 else s
  | _ => s

/-- THERMAL_POLICY's run (R421). -/
def runPolicy (s : State) (n p : Nat) : State :=
  let ins := match lookup s.hld.str.policies p with | some o => o.ins | none => []
  let h := polHot s ins
  let x := polOf s p
  match h.1 with
  | none => setPol s p { x with failed := h.2 }
  | some (k, t) =>
    let warn := degC (regF s .thrPolLevels p 0 8 : Nat)
    let act := degC (regF s .thrPolLevels p 8 8 : Nat)
    let hy := if regB s .thrPolCfg p 1 then regF s .thrPolHyst p 0 8 else 20
    let l := polLevel x.level t warn act hy
    let s1 := setPol s p { level := l, failed := h.2, input := k, tp := satS 16 t }
    let s2 := if x.level = 0 ∧ 1 ≤ l then logEv (stick s1 .thrPolStatus p 3) (srcBlk n) .thermalWarn (wrapN 16 t) else s1
    if x.level < 2 ∧ l = 2 then polAct (logEv (stick s2 .thrPolStatus p 4) (srcBlk n) .thermalAct (wrapN 16 t)) n p true t
    else if x.level = 2 ∧ l < 2 then polAct s2 n p false t
    else s2

/-- PMBUS_POWER_READ (R423): the input power, 0.01 W; 0 without addresses. -/
def execPmbusPowerRead (t : Ns) (p : Nat) (s : State) : Out :=
  let s := setNow s t
  .next (if s.mgt.halted then s else { s with thr := { s.thr with pIn := if s.hld.str.pmbus then sat 16 p else 0 } })

end Sys2Proof.Machine
end

