-- ==== Sys2Proof/Machine/Loops.lean ====
section
/-!
DEFINITION. Tapers, loop laws, modes and supervision of loops, and the freeze of a wick (R43, R174 to R189). Blocks read what
other blocks wrote up to the frame before: the records as they stood before this frame's runs.
-/
namespace Sys2Proof.Machine

open Sys2Proof

/-- A run's own period in seconds. -/
def periodS (x : Inst) : F32 := fRat x.periodNs secNs

/-- A taper, a loop as the frame's input set shows them (R24). -/
def oldTaper (s : State) (j : Nat) : Taper :=
  match s.before with
  | some k => spGet Taper.reset k.loop.t j
  | none => taperOf s j
def oldLoop (s : State) (i : Nat) : Loop :=
  match s.before with
  | some k => spGet Loop.reset k.loop.l i
  | none => loopOf s i

/-- Changes a taper, a loop. -/
def modTaper (s : State) (j : Nat) (f : Taper → Taper) : State := setTaper s j (f (taperOf s j))
def modLoop (s : State) (i : Nat) (f : Loop → Loop) : State := setLoop s i (f (loopOf s i))

/-! ## Taper plans (R175 to R177) -/

/-- −1, 0 or +1. -/
def fSign (x : F32) : Int := if fLt 0#32 x then 1 else if fLt x 0#32 then -1 else 0

/-- x times a sign. -/
def fSigned (k : Int) (x : F32) : F32 := if k < 0 then fNeg x else if k = 0 then 0#32 else x

/-- y_stop: where y comes to rest at full jerk (R175). -/
def yStop (y0 r0 j : F32) : F32 := fAdd y0 (fDiv (fMul r0 (fAbs r0)) (fMul (fOfNat 2) j))

/-- The plan from (y0, r0) to Y (R175), in the order of its program. -/
def makePlan (t : Nat) (y0 r0 target a j : F32) : Plan :=
  let k := fSign (fSub target (yStop y0 r0 j))
  if k = 0 then
    { tp := t, y0 := y0, r0 := r0, target := target, j1 := j, j3 := fSigned (-(fSign r0)) j, rp := r0,
      d1 := 0#32, d2 := 0#32, d3 := fDiv (fAbs r0) j }
  else
    let q := fSigned k (fSqrt (fDiv (fAdd (fMul (fSigned k (fMul (fOfNat 2) j)) (fSub target y0)) (fMul r0 r0)) (fOfNat 2)))
    let rp := if fLt a (fAbs q) then fSigned k a else q
    let j1 := if fLe r0 rp then j else fNeg j
    let d1 := fDiv (fSub rp r0) j1
    let dist := fAdd (fDiv (fSub (fMul rp rp) (fMul r0 r0)) (fMul (fOfNat 2) j1)) (fDiv (fMul rp rp) (fMul (fSigned k (fOfNat 2)) j))
    { tp := t, y0 := y0, r0 := r0, target := target, j1 := j1, j3 := fSigned (-k) j, rp := rp, d1 := d1,
      d2 := fDiv (fSub (fSub target y0) dist) rp, d3 := fDiv (fAbs rp) j }

/-- τ of a plan at market time t, s (R176). -/
def Plan.tau (p : Plan) (t : Nat) : F32 := fRat (t - p.tp : Nat) secNs

/-- Length of a plan, s. -/
def Plan.len (p : Plan) : F32 := fAdd (fAdd p.d1 p.d2) p.d3

/-- y and r within a phase of jerk j from (ya, ra) after d seconds (R176). -/
def phaseAt (ya ra j d : F32) : F32 × F32 := (fAdd (fAdd ya (fMul ra d)) (fDiv (fMul j (fMul d d)) (fOfNat 2)), fAdd ra (fMul j d))

/-- y and r of a plan at τ, and whether it has ended (R176). -/
def Plan.eval (p : Plan) (tau : F32) : F32 × F32 × Bool :=
  let a := phaseAt p.y0 p.r0 p.j1 p.d1
  let ya := a.1
  let yb := fAdd ya (fMul p.rp p.d2)
  if fLt tau p.d1 then let q := phaseAt p.y0 p.r0 p.j1 tau; (q.1, q.2, false)
  else if fLt tau (fAdd p.d1 p.d2) then (fAdd ya (fMul p.rp (fSub tau p.d1)), p.rp, false)
  else if fLt tau p.len then let q := phaseAt yb p.rp p.j3 (fSub tau (fAdd p.d1 p.d2)); (q.1, q.2, false)
  else (p.target, 0#32, true)

/-- The plan has not ended at t. -/
def Taper.busy (x : Taper) (t : Nat) : Bool := match x.plan with | some p => fLt (p.tau t) p.len | none => false

/-- Limits of a taper: A, J, y_min, y_max (R176, R189). -/
def tprA (s : State) (j : Nat) : F32 := regW s .tprAcc j
def tprJ (s : State) (j : Nat) : F32 := regW s .tprJerk j
def tprLo (s : State) (j : Nat) : F32 := regW s .tprYmin j
def tprHi (s : State) (j : Nat) : F32 := regW s .tprYmax j

/-- Present y and r of a taper from the plan in force (R175). -/
def Taper.present (x : Taper) (t : Nat) : F32 × F32 :=
  match x.plan with
  | some p => let q := p.eval (p.tau t); (q.1, q.2.1)
  | none => (x.y, x.r)

/-- A new plan replaces the one in force (R176); replanned is set when that had not ended. -/
def replan (s : State) (j t : Nat) (target : F32) (tgtBits : F32) : State :=
  let x := taperOf s j
  let q := x.present t
  let x' := { x with plan := some (makePlan t q.1 q.2 target (tprA s j) (tprJ s j)), accP := tprA s j, jerkP := tprJ s j,
                     yMinP := tprLo s j, yMaxP := tprHi s j, tgtP := tgtBits }
  let s1 := setTaper s j x'
  if x.busy t then stick s1 .tprStatus j 6 else s1

/-- The hold op (R177): the rate falls to 0 at jerk J. -/
def tprHold (s : State) (j t : Nat) : State :=
  let x := taperOf s j
  let q := x.present t
  let y := yStop q.1 q.2 (tprJ s j)
  replan (setTaper s j { x with mode := .hold }) j t y y

/-- The run op (R176, R177): RUN, and a plan from the present y and r at the taper's run. -/
def tprRun (s : State) (j t : Nat) : State :=
  let x := taperOf s j
  let q := x.present t
  let s1 := setTaper s j { x with mode := .run, plan := none, y := q.1, r := q.2 }
  if x.busy t then stick s1 .tprStatus j 6 else s1

/-- The track op (R177): the plan is dropped. -/
def tprTrack (s : State) (j t : Nat) : State :=
  let x := taperOf s j
  let q := x.present t
  setTaper s j { x with mode := .track, plan := none, y := q.1, r := q.2 }

/-- The set_value op (R177): refused in RUN. -/
def tprSetValue (s : State) (j : Nat) : State :=
  let x := taperOf s j
  if x.mode = .run then stick s .tprStatus j 7
  else setTaper s j { x with y := regW s .tprTarget j, r := 0#32, plan := none, atTarget := true, remain := 0#32 }

/-- The apply_coord op (R178). -/
def tprApply (s : State) (j : Nat) (fromPresent : Bool) : State :=
  modTaper s j (fun x => { x with
    xa := regI64 s .tprXaLo .tprXaHi j, xb := regI64 s .tprXbLo .tprXbHi j,
    ya := if fromPresent then x.y else regW s .tprYa j, yb := regW s .tprYb j })

/-- A command as the taper takes it. -/
def tprCmd (s : State) (j t : Nat) (c : TprCmd) : State :=
  match c with
  | .run => tprRun s j t
  | .hold => tprHold s j t
  | .track => tprTrack s j t
  | .setValue => tprSetValue s j
  | .applyCoord p => tprApply s j p

/-- A command waits for the taper's run (R24, R176, R177). -/
def tprTake (s : State) (j : Nat) (c : TprCmd) : State := modTaper s j (fun x => { x with cmds := x.cmds ++ [c] })

/-- TPR_RUN (R176, R177). -/
def execTprRun (j : Fin 256) (s : State) : Out := .next (rowCmd s .tprCmd j 1#32 (fun s => tprTake s j .run))
/-- TPR_HOLD (R177). -/
def execTprHold (j : Fin 256) (s : State) : Out := .next (rowCmd s .tprCmd j 2#32 (fun s => tprTake s j .hold))
/-- TPR_TRACK (R177). -/
def execTprTrack (j : Fin 256) (s : State) : Out := .next (rowCmd s .tprCmd j 3#32 (fun s => tprTake s j .track))
/-- TPR_SET_VALUE (R177): refused with ACCESS_BUSY in RUN. -/
def execTprSetValue (j : Fin 256) (s : State) : Out :=
  .next (if (taperOf s j).mode = .run then report (stick s .tprStatus j 7) hostReq (regAddr .tprCmd j) .busy
    else rowCmd s .tprCmd j 4#32 (fun s => tprTake s j .setValue))
/-- TPR_APPLY_COORD (R178). -/
def execTprApplyCoord (j : Fin 256) (fromPresent : Bool) (s : State) : Out :=
  .next (rowCmd s .tprCmd j (5#32 ||| putB 3 fromPresent) (fun s => tprTake s j (.applyCoord fromPresent)))

/-- The record shows the port in RUN, or in the ramp of a stop: its taper and its speed loop are released (R205, R210). -/
def speedFree (s : State) (m : Nat) : Bool :=
  let x := motOf s m
  x.rec_.st == .run || (x.rec_.st == .stopping && x.brakeAt.isNone)

/-- DEDUCED (log entry 44): in position mode the port's speed taper leaves TRACK while HOMING, or the ramp of a stop, gives it a target
(R210, R222, R227). -/
def homesBy (s : State) (m : Nat) : Option Nat :=
  match motTaper s m with
  | some j => if inPosMode s m && (oldTaper s j).forced.isSome then some j else none
  | none => none

/-- What holds a taper in TRACK and the value it tracks: a loop's feedback (R181), the record's speed of a port outside RUN and
in position mode (R205, R222), the position of a gate that does not move. -/
def trackOf (s : State) (j : Nat) : Option F32 :=
  let o := oldTaper s j
  match o.trackV with
  | some v => some v
  | none =>
    match (upTo 16).find? (fun m => motTaper s m == some j) with
    | some m =>
      if speedFree s m && (!inPosMode s m || o.forced.isSome) then none else some (motOf s m).rec_.speed
    | none =>
      match (upTo 16).find? (fun m => posTaper s m == some j) with
      | some m => if o.held then some (fOfInt (posCount s m)) else none
      | none => none

/-- Flags of TPR_STATUS bits 7:3 in a message (R174). -/
def tprFlags (s : State) (j : Nat) : Nat := regF s .tprStatus j 3 5 ||| (if (taperOf s j).wickLost then 4 else 0)

/-- The taper posts its message (R174). -/
def tprPost (s : State) (inst j : Nat) (x : Inst) : State :=
  let s1 := modTaper s j (fun y => { y with seq := (y.seq + 1) % 65536 })
  let y := taperOf s1 j
  postTo s1 inst (x.dst 0) (.taper y.y y.r y.seq y.mode.code (tprFlags s1 j))

/-- The target of a LEVEL taper at a run: MOTOR_CTRL's or HOMING's, else the input basket's last one, else TPR_TARGET (R176, R189). -/
def tprTargetOf (s : State) (inst j : Nat) (x : Inst) : State × F32 :=
  let r := if regB s .tprCfg j 1 then inVal s inst x 0 else (s, regN s .tprTarget j)
  match (oldTaper s j).forced with
  | some v => (r.1, v)
  | none => r

/-- TRACK: y copies its track input, r is the difference over T within ±A (R177). -/
def followTrack (s : State) (j : Nat) (x : Inst) (v : F32) : State :=
  let a := tprA s j
  modTaper s j (fun y => { y with
    y := v, yPrev := y.y, r := fClamp (fNeg a) a (fDiv (fSub v y.y) (periodS x)), plan := none, atTarget := false, remain := 0#32 })

/-- The plan's value at the run, clamped to the range (R176). -/
def followPlan (s : State) (j t : Nat) : State :=
  let y := taperOf s j
  match y.plan with
  | none => setTaper s j { y with yPrev := y.y, r := 0#32, atTarget := true, remain := 0#32 }
  | some p =>
    let tau := p.tau t
    let q := p.eval tau
    let c := fClamp (tprLo s j) (tprHi s j) q.1
    let s1 := setTaper s j { y with
      y := c, r := q.2.1, yPrev := y.y, atTarget := q.2.2, remain := if q.2.2 then 0#32 else fSub p.len tau }
    if c = q.1 then s1 else stick s1 .tprStatus j 3

/-- RUN replans on a new target, new limits or a run command (R176). -/
def needsPlan (s : State) (j : Nat) (target : F32) : Bool :=
  let y := taperOf s j
  y.plan.isNone || target != y.tgtP || tprA s j != y.accP || tprJ s j != y.jerkP ||
  fClamp (tprLo s j) (tprHi s j) target != fClamp y.yMinP y.yMaxP y.tgtP

/-- A LEVEL taper's run (R174 to R177). -/
def runLevel (s : State) (inst j t : Nat) (x : Inst) : State :=
  let r := tprTargetOf s inst j x
  let s1 := r.1
  let s2 :=
    match trackOf s1 j with
    | some v => modTaper (followTrack s1 j x v) j (fun y => { y with mode := .track, wasHeld := true })
    | none =>
      let y := taperOf s1 j
      let s' := setTaper s1 j { y with mode := if y.wasHeld then .run else y.mode, wasHeld := false }
      match (taperOf s' j).mode with
      | .track => let q := inVal s' inst x 1; followTrack q.1 j x q.2
      | .hold => followPlan s' j t
      | .run =>
        let s'' := if needsPlan s' j r.2 then replan s' j t (fClamp (tprLo s' j) (tprHi s' j) r.2) r.2 else s'
        followPlan s'' j t
  tprPost s2 inst j x

/-- u of R178, exact and clamped to [0, 1]. -/
def coordU (x xa xb : Int) : F32 :=
  let n := if xb < xa then xa - x else x - xa
  let d := (xb - xa).natAbs
  if n ≤ 0 then 0#32 else if (d : Int) ≤ n then fOfNat 1 else fRat n d

/-- A COORD taper's run (R178). -/
def runCoord (s : State) (inst j : Nat) (x : Inst) : State :=
  let y := taperOf s j
  let w := wickOf s (regF s .tprCfg j 2 6)
  let s1 :=
    match w.snap.st with
    | .lost => setTaper s j { y with wickLost := true, yPrev := y.y, r := 0#32 }
    | .still => setTaper s j { y with wickLost := false, yPrev := y.y, r := 0#32 }
    | _ =>
      let u := coordU w.snap.pos y.xa y.xb
      let v := fAdd y.ya (fMul (fMul (fSub y.yb y.ya) (fMul u u)) (fSub (fOfNat 3) (fMul (fOfNat 2) u)))
      let g := fMul (tprA s j) (periodS x)
      let c := fClamp (fSub y.y g) (fAdd y.y g) v
      let s' := setTaper s j { y with
        wickLost := false, yPrev := y.y, y := c, r := fDiv (fSub c y.y) (periodS x), atTarget := decide (u = fOfNat 1 ∧ c = y.yb) }
      if c = v then s' else stick s' .tprStatus j 4
  tprPost s1 inst j x

/-- A taper's run (R174 to R178): commands of its input set first. -/
def runTaper (s : State) (inst : Nat) (x : Inst) : State :=
  let j := x.idx
  let cmds := (taperOf s j).cmds
  let s1 := cmds.foldl (fun s c => tprCmd s j s.now c) (modTaper s j (fun y => { y with cmds := [] }))
  if regB s .tprCfg j 0 then runCoord s1 inst j x else runLevel s1 inst j s1.now x

/-! ## What serves a loop -/

/-- Law blocks (R179, R205). -/
def isLaw (t : BlockType) : Bool :=
  t == .piLoop || t == .pidLoop || t == .pi2dof || t == .ratioLoop || t == .speedLoop
/-- The law's instance of a loop. -/
def lawInst (s : State) (i : Nat) : Option (Nat × Inst) := s.hld.str.insts.find? (fun p => isLaw p.2.typ && p.2.idx == i)
/-- The supervisor's instance of a loop. -/
def supInst (s : State) (i : Nat) : Option (Nat × Inst) := instFor s .loopSupervise i
/-- Supervised (LOOP_CFG sup_en). -/
def supervised (s : State) (i : Nat) : Bool := regB s .loopCfg i 3
/-- Reaction (LOOP_CFG). -/
def loopReaction (s : State) (i : Nat) : Nat := regF s .loopCfg i 4 2
/-- The motor port whose speed a loop has as its feedback (R186, R205). -/
def loopPort (s : State) (i : Nat) : Option Nat :=
  (lawInst s i).bind (fun p => if p.2.typ = .speedLoop then p.2.id? 0 else match p.2.src 1 with | .motor m => some m | _ => none)
/-- e with the loop's direction: error of setpoint w and feedback x (R179). -/
def loopErr (s : State) (i : Nat) (w x : F32) : F32 := if regB s .loopCfg i 2 then fSub x w else fSub w x
/-- u_min, u_max, du_max (R188). -/
def uMin (s : State) (i : Nat) : F32 := regW s .loopOutMin i
def uMax (s : State) (i : Nat) : F32 := regW s .loopOutMax i
/-- A change of the output from u_a within ±du_max × T; 0 means no limit (R179). -/
def rateLimited (s : State) (i : Nat) (period ua u : F32) : F32 :=
  let d := regW s .loopRate i
  if fEq d 0#32 then u else fClamp (fSub ua (fMul d period)) (fAdd ua (fMul d period)) u
/-- t_err, t_ok, t_hold_max, stuck_time in ns; miss_runs (R188). -/
def tErr (s : State) (i : Nat) : Nat := regF s .loopSupTime i 0 16 * 10 * msNs
def tOk (s : State) (i : Nat) : Nat := regF s .loopSupTime i 16 16 * 10 * msNs
def tHoldMax (s : State) (i : Nat) : Nat := regF s .loopSupConf i 16 12 * secNs
def stuckTime (s : State) (i : Nat) : Nat := regF s .loopStuck i 0 13 * 100 * msNs
def missRuns (s : State) (i : Nat) : Nat := regF s .loopTune i 20 4

/-- A loop's event, with its state and cause. -/
def loopEvent (s : State) (i : Nat) (e : EventName) : State :=
  let l := loopOf s i
  logEv s (match supInst s i with | some (n, _) => srcBlk n | none => srcDev 0) e (64 * i + 8 * l.cause + l.st.code)

/-- Value of the NIGHTLIGHT_TABLE instance a law's item numbers name (R182). -/
def loopNight (s : State) (i : Nat) : F32 :=
  match (lawInst s i).bind (fun p => p.2.id? (if p.2.typ = .speedLoop then 1 else 0)) with
  | some n => (blkOf (t0 s) n).f.getD 0 0#32
  | none => 0#32

/-! ## The observer's estimate and confidence (R184, R185) -/

/-- x̂ of a supervisor's run, none while its source is invalid or missing: a port's observer speed or a basket (R184). -/
def takeEstimate (s : State) (inst : Nat) (x : Inst) : State × Option F32 :=
  match x.src 0 with
  | .none => (s, none)
  | .observer m => (s, if (motOf (t0 s) m).obsValid then some (motOf (t0 s) m).obsSpeed else none)
  | .basket b =>
    let r := takeMsgs s b x.msgLimit
    let y := blkOf r.1 inst
    let v := r.2.foldl (fun a m => match m with
      | .value v q _ => if q = .invalid then fNaN else v
      | _ => a) (y.f.getD 0 fNaN)
    (setBlk r.1 inst { y with f := setAt (if y.f.isEmpty then [0#32, 0#32] else y.f) 0 v }, if fIsNaN v then none else some v)
  | _ => let r := inVal s inst x 0; (r.1, some r.2)

/-- f of R185. -/
def confScale (s : State) (i : Nat) (c : F32) : F32 :=
  if regB s .loopCfg i 10 then
    fClamp (fRat 1 4) (fOfNat 4)
      (fAdd (fOfNat 1) (fMul (fRat (regF s .loopSupConf i 0 9) 100) (fSub (fRat (regF s .loopSupConf i 9 7) 100) c)))
  else fOfNat 1

/-! ## Output (R25, R183) -/

/-- An output of a loop reaches its destination: a basket, or the port it is the writing block of. -/
def applyDst (s : State) (inst : Nat) (d : Dst) (u : F32) : State :=
  match d with
  | .basket b => keepPost s inst (plain b (.value u .good s.now))
  | .torque m => setMot s m { motOf s m with nextIq := some u }
  | .tx n => setTx s n { txOf s n with nextCmd := some (txUnits u) }
  | .stall n => setStl s n { stlOf s n with nextCmd := some (!fEq u 0#32) }
  | _ => s

/-- The output a mode applies (R181, R182, R186), from the law's output u and the output u_a of the previous run. -/
def modeOutput (s : State) (i : Nat) (period : F32) (l : Loop) : F32 :=
  match l.st with
  | .auto => l.u
  | .observer => l.u
  | .manual => rateLimited s i period l.ua (regW s .loopMan i)
  | .night => loopNight s i
  | .track => l.trackVal
  | .held => l.uPre
  | .safe =>
    let d := fMul (regW s .loopSafeRate i) period
    fClamp (fSub l.ua d) (fAdd l.ua d) (regW s .loopSafe i)
  | .tripped => regW s .loopTrip i

/-! ## Modes (R181, R182, R187) -/

/-- A command refused with LOOP_STATE. -/
def loopRefuse (s : State) (i : Nat) : State := stick s .loopStatus i 13

/-- The feedback source changes under SWITCH (R186): I loses Kp × (e_new − e_old), x_prev takes the new x. -/
def switchSource (s : State) (i : Nat) (xNew : F32) : State :=
  modLoop s i (fun l => { l with
    i := fSub l.i (fMul (regW s .loopKp i) (fSub (loopErr s i l.w xNew) l.e)), xPrev := xNew, x := xNew, e := loopErr s i l.w xNew })

/-- The loop returns from HELD or OBSERVER to the mode it was in, or to NIGHTLIGHT (R186). -/
def loopBack (s : State) (i : Nat) : State :=
  let l := loopOf s i
  let toSt := if l.st = .held ∧ l.nightPending = true ∧ regB s .loopCfg i 7 = true then .night else l.entryMode
  let s1 := if l.st = .observer then switchSource s i l.xRaw else s
  loopEvent (modLoop s1 i (fun l => { l with st := toSt, cause := 0, returning := false, okSince := none, nightPending := false })) i .loopReturned

/-- u_man takes a value (R182, R186). -/
def setManual (s : State) (i : Nat) (u : F32) : State := modLoop (blockReg s .loopMan i u) i (fun l => { l with st := .manual })

/-- The return conditions have held for t_ok (R186). -/
def okHeld (s : State) (i : Nat) : Bool := match (loopOf s i).okSince with | some t0 => decide (t0 + tOk s i ≤ s.now) | none => false

/-- The auto command (R182, R186). -/
def loopAuto (s : State) (i : Nat) : State :=
  match (loopOf s i).st with
  | .manual => modLoop s i (fun l => { l with st := .auto })
  | .night => modLoop s i (fun l => { l with st := .auto })
  | .held => if okHeld s i then loopBack s i else loopRefuse s i
  | _ => loopRefuse s i

/-- The manual command (R182). -/
def loopManual (s : State) (i : Nat) : State :=
  match (loopOf s i).st with
  | .auto => setManual s i (loopOf s i).ua
  | .night => setManual s i (loopOf s i).ua
  | _ => loopRefuse s i

/-- The reset command (R186). -/
def loopReset (s : State) (i : Nat) : State :=
  let back (u : F32) : State :=
    loopEvent (modLoop (setManual s i u) i (fun l => { l with cause := 0, finds := [], tauF := 0, tauI := 0, stuckAt := none, silentRuns := 0 })) i .loopReturned
  match (loopOf s i).st with
  | .safe => back (loopOf s i).ua
  | .tripped => back (regW s .loopTrip i)
  | _ => loopRefuse s i

/-- The clear_findings command (R188). -/
def loopClear (s : State) (i : Nat) : State := modLoop s i (fun l => { l with nLost := 0, nFrozen := 0, nFollow := 0, nImpl := 0 })

/-- A command as the loop takes it. -/
def loopCmd (s : State) (i : Nat) (c : LoopCmd) : State :=
  match c with
  | .auto => loopAuto s i
  | .manual => loopManual s i
  | .reset => loopReset s i

/-- The host-silence timeout expires (R182, R187); HELD remembers it, with or without night_en (R188). -/
def loopSilence (s : State) (i : Nat) : State :=
  let night := regB s .loopCfg i 7
  match (loopOf s i).st with
  | .auto => if night then loopEvent (modLoop s i (fun l => { l with st := .night })) i .loopStateEntered else s
  | .manual => if night then loopEvent (modLoop s i (fun l => { l with st := .night })) i .loopStateEntered else s
  | .held => modLoop s i (fun l => { l with nightPending := true })
  | _ => s

/-- The track input is asserted or released (R182). -/
def loopTrack (s : State) (i : Nat) (on : Bool) : State :=
  match on, (loopOf s i).st with
  | true, .auto => modLoop s i (fun l => { l with beforeTrack := .auto, st := .track })
  | true, .manual => modLoop s i (fun l => { l with beforeTrack := .manual, st := .track })
  | false, .track => modLoop s i (fun l => { l with st := l.beforeTrack })
  | _, _ => s

/-- A command waits for the run that takes it (R24, R187). -/
def loopTake (s : State) (i : Nat) (c : LoopCmd) : State := modLoop s i (fun l => { l with cmds := l.cmds ++ [c] })

/-- LOOP_AUTO (R181, R182). -/
def execLoopAuto (i : Fin 512) (s : State) : Out := .next (rowCmd s .loopCmd i 1#32 (fun s => loopTake s i .auto))
/-- LOOP_MANUAL (R182). -/
def execLoopManual (i : Fin 512) (s : State) : Out := .next (rowCmd s .loopCmd i 2#32 (fun s => loopTake s i .manual))
/-- LOOP_RESET (R186). -/
def execLoopReset (i : Fin 512) (s : State) : Out := .next (rowCmd s .loopCmd i 3#32 (fun s => loopTake s i .reset))
/-- LOOP_CLEAR_FINDINGS (R188). -/
def execLoopClearFindings (i : Fin 512) (s : State) : Out := .next (rowCmd s .loopCmd i 4#32 (fun s => loopClear s i))

/-! ## Loop laws (R179 to R181) -/

/-- What a law's run takes: w, x, f. -/
structure LawIn where
  w : F32
  x : F32
  f : F32
  deriving DecidableEq, Repr

/-- Proportional part (R179 step 2). -/
def propPart (s : State) (i : Nat) (typ : BlockType) (v : LawIn) : F32 :=
  let kp := regW s .loopKp i
  if typ = .pi2dof then
    fMul kp (loopErr s i (fMul (fRat (regF s .loopTune i 6 7) 100) v.w) v.x)
  else fMul kp (loopErr s i v.w v.x)

/-- Derivative part (R179 step 3), of PID_LOOP only. -/
def derivPart (s : State) (i : Nat) (typ : BlockType) (period : F32) (l : Loop) (v : LawIn) : F32 :=
  if typ = .pidLoop then
    let td := regW s .loopTd i
    let n := fOfNat (regF s .loopTune i 0 6)
    let den := fAdd td (fMul n period)
    let g := fDiv (fMul (fMul (regW s .loopKp i) td) n) den
    let a := fMul (fDiv td den) l.d
    let b := fMul g (fSub v.x l.xPrev)
    if regB s .loopCfg i 2 then fAdd a b else fSub a b
  else 0#32

/-- The law's equations in their order (R179, R181); `track`: the loop is in a mode other than AUTO and OBSERVER. -/
def lawStep (s : State) (i : Nat) (typ : BlockType) (period ua : F32) (track : Bool) (l : Loop) (v : LawIn) : Loop :=
  let e := loopErr s i v.w v.x
  let p := propPart s i typ v
  let d := derivPart s i typ period l v
  let ff := fMul (regW s .loopKff i) v.f
  let raw := fAdd (fAdd (fAdd p l.i) d) ff
  let u := rateLimited s i period ua (fClamp (uMin s i) (uMax s i) raw)
  let ti := regW s .loopTi i
  let tt := fMul (fRat (regF s .loopTune i 13 7) 10) ti
  let i' :=
    if track then fSub (fSub (fSub ua p) d) ff
    else if fEq ti 0#32 then 0#32
    else fAdd (fAdd l.i (fMul (fDiv (fMul (regW s .loopKp i) period) ti) e)) (fMul (fDiv period tt) (fSub u raw))
  { l with i := i', d := d, xPrev := v.x, u := u, v := raw, w := v.w, x := v.x, e := e, seq := (l.seq + 1) % 65536,
           clamped := decide (u ≠ raw), posted := true }

/-- Tracks the law's inputs: setpoint, feedback (the observer's estimate in OBSERVER), feed-forward, track source (R179 to R182,
R186, R205). The last part is the feedback as its source gives it. -/
def lawInputs (s : State) (inst i : Nat) (x : Inst) (st : LoopSt) : State × LawIn × F32 :=
  let a := inVal s inst x 1
  let xr := a.2
  let xv := match st, loopPort s i with
    | .observer, some m => (motOf (t0 s) m).obsSpeed
    | _, _ => xr
  let b := if x.typ = .ratioLoop then
      let q := inVal a.1 inst x 3
      (q.1, fAdd (fMul (x.val 0) q.2) (x.val 1))
    else
      match (if x.typ = .speedLoop then (x.id? 0).bind (homesBy s) else none) with
      | some j => (a.1, (oldTaper s j).y)
      | none => inVal a.1 inst x 0
  let w := if regB s .loopCfg i 8 && st == .manual then xv else b.2
  let c := inVal b.1 inst x 2
  (c.1, { w := w, x := xv, f := c.2 }, xr)

/-- The track source of a law's run (R182, R205). -/
def takeTrack (s : State) (inst i : Nat) (x : Inst) : State :=
  match (if x.typ = .speedLoop then x.id? 0 else none) with
  | some m => modLoop s i (fun l => { l with trackOn := !speedFree s m, trackVal := (motOf (t0 s) m).iqCmd })
  | none =>
    let a := inVal s inst x 4
    let b := inVal a.1 inst x 5
    modLoop b.1 i (fun l => { l with trackOn := !fEq a.2 0#32, trackVal := b.2 })

/-- pv_track: the loop's taper follows the feedback while the loop is in MANUAL (R181). -/
def pvTrack (s : State) (i : Nat) (x : Inst) (st : LoopSt) (v : F32) : State :=
  match regB s .loopCfg i 8, (if x.typ = .speedLoop then (x.id? 0).bind (motTaper s) else x.id? 1) with
  | true, some j => modTaper s j (fun y => { y with trackV := if st = .manual then some v else none })
  | _, _ => s

/-- An unsupervised loop takes its own commands and applies its own output (R181, R183). -/
def applyOwn (s : State) (inst i : Nat) (x : Inst) : State :=
  let cmds := (loopOf s i).cmds
  let s1 := cmds.foldl (fun s c => loopCmd s i c) (modLoop (loopTrack s i (loopOf s i).trackOn) i (fun l => { l with cmds := [] }))
  let u := modeOutput s1 i (periodS x) (loopOf s1 i)
  let s2 := modLoop s1 i (fun l => { l with ua := u })
  match x.dst 0 with
  | .basket b =>
    let l := loopOf s2 i
    keepPost s2 inst (plain b (.law u l.v l.w l.x l.e l.seq))
  | d => applyDst s2 inst d u

/-- The law's part of a loop record (R179); the rest is the supervisor's (R184 to R187). -/
def Loop.withLaw (own theirs : Loop) : Loop :=
  { own with i := theirs.i, d := theirs.d, xPrev := theirs.xPrev, u := theirs.u, v := theirs.v, w := theirs.w, x := theirs.x,
             e := theirs.e, seq := theirs.seq, trackOn := theirs.trackOn, trackVal := theirs.trackVal, xRaw := theirs.xRaw,
             clamped := theirs.clamped, posted := theirs.posted }

/-- LOOP_LAW_RUN (R179 to R181). -/
def runLaw (s : State) (inst : Nat) (x : Inst) : State :=
  let i := x.idx
  let o := oldLoop s i
  let r := lawInputs s inst i x o.st
  let s1 := takeTrack r.1 inst i x
  let track := !(o.st == .auto || o.st == .observer)
  let s2 := modLoop s1 i (fun l => { lawStep s1 i x.typ (periodS x) o.ua track l r.2.1 with xRaw := r.2.2 })
  let s3 := pvTrack s2 i x o.st r.2.1.x
  if supervised s3 i then s3 else applyOwn s3 inst i x

/-! ## Findings (R184, R185) -/

/-- Feedback wick of a loop: the wick its law reads, or the port's wick of a speed taken from it. -/
def feedbackWick (s : State) (i : Nat) : Option Nat :=
  (lawInst s i).bind (fun p => match p.2.src 1 with
    | .wickSpeed w => some w
    | .wickPos w => some w
    | .motor m => if motFb s m < 2 ∧ (motOf s m).fallback = false then some (32 + m) else none
    | _ => none)

/-- A subscribed wick that is late counts as LOST feedback (R184). -/
def feedbackLost (s : State) (i : Nat) : Bool :=
  (match lawInst s i with
    | some (_, x) => inLost s x 1 || (match x.src 1 with | .stall n => stallFailed s n | _ => false)
    | none => false) ||
  (match feedbackWick s i with | some w => (wickOf s w).snap.late | none => false)

/-- Freeze time, ns, and thresholds, %, of a wick (R43). -/
def freezeOf (s : State) (w : Nat) : Nat × Nat × Nat := (lookup s.hld.str.freeze w).getD (1000, 5, 30)

/-- R43's conditions at an instant: STILL, while the associated port reports that it turns or drives torque. -/
def freezeCond (s : State) (w : Nat) : Bool :=
  let p := regF s .wckCfg w 10 5
  let x := motOf s p
  let f := freezeOf s w
  (wickOf s w).snap.st == .still && decide (p < 16) &&
  (fLe (fPart (nRated s p) f.2.1 100) (fAbs (motOf (t0 s) p).obsSpeed) || fLe (fPart (iRated s p) f.2.2 100) (fAbs x.rec_.iq))

/-- The conditions as each frame boundary finds them; the freeze ends at RUNNING (R43). -/
def freezeTrack (s : State) : State :=
  forEach (upTo 64) s (fun s w =>
    let x := wickOf s w
    if freezeCond s w then (match x.frzSince with | none => setWick s w { x with frzSince := some s.now } | some _ => s)
    else if x.frzSince.isSome || (x.frozen && x.st == .running) then
      setWick s w { x with frzSince := none, frozen := x.frozen && x.st != .running }
    else s)

/-- The wick's conditions have held for freeze_time and the freeze is not yet declared. -/
def freezeOver (s : State) (w t : Nat) : Bool :=
  let x := wickOf s w
  !x.frozen && (match x.frzSince with | some t0 => decide (t0 + (freezeOf s w).1 * msNs ≤ t) | none => false)

/-- WICK_FROZEN is declared and recorded (R43). -/
def declareFreeze (s : State) (w : Nat) : State := logEv (setWick s w { wickOf s w with frozen := true }) (srcWick w) .wickFrozen w

/-- WICK_FROZEN (R43). -/
def execWickFrozen (w : Fin 64) (t : Ns) (s : State) : Out :=
  let s := setNow s t
  .next (if freezeOver s w t then declareFreeze s w else s)

/-- A finding is looked for in the present mode (R184). -/
def findsIn (st : LoopSt) (f : Finding) : Bool :=
  match f with
  | .implausible => st == .auto || st == .observer
  | .following => st == .auto || st == .observer
  | _ => !(st == .safe || st == .tripped)

/-- LOOP_SILENT: miss_runs supervisor runs without a post (R184). -/
def isSilent (s : State) (i : Nat) : Bool := decide (missRuns s i ≤ (loopOf s i).silentRuns)

/-- Feedback other than a wick's is stuck for stuck_time (R184). -/
def isStuck (s : State) (i t : Nat) : Bool :=
  let l := loopOf s i
  let du := fPart (fSub (uMax s i) (uMin s i)) (regF s .loopStuck i 21 10) 1000
  decide (0 < stuckTime s i) && (feedbackWick s i).isNone &&
  (match l.stuckAt with | some t0 => decide (t0 + stuckTime s i ≤ t) | none => false) && fLe du (fAbs (fSub l.ua l.uRef))

/-- The FROZEN interval of other feedback: it restarts when x leaves the band (R184). -/
def trackStuck (s : State) (i t : Nat) : State :=
  let l := loopOf s i
  if stuckTime s i = 0 ∨ (feedbackWick s i).isSome = true then s
  else
    let band := fPart (regW s .loopSupE i) (regF s .loopStuck i 13 8) 100
    if l.stuckAt.isSome && fLe (fAbs (fSub l.xRaw l.xRef)) band then s
    else setLoop s i { l with stuckAt := some t, xRef := l.xRaw, uRef := l.ua }

/-- A finding's condition as the supervisor's records show it (R184, R185). -/
def findHolds (s : State) (i t : Nat) (f : Finding) : Bool :=
  let l := loopOf s i
  findsIn l.st f &&
  (match f with
    | .silent => isSilent s i
    | .lost => feedbackLost s i
    | .frozen => (match feedbackWick s i with | some w => (wickOf s w).frozen | none => false) || isStuck s i t
    | .implausible => decide (0 < l.tauI ∧ tErr s i ≤ l.tauI)
    | .following => decide (0 < l.tauF ∧ tErr s i ≤ l.tauF))

/-- Findings in the order of the table. -/
def allFindings : List Finding := [.silent, .lost, .frozen, .implausible, .following]

/-- W1C flag of a finding in LOOP_STATUS. -/
def Finding.seenBit (f : Finding) : Nat := 8 + f.ctorIdx

/-- The counts of LOOP_FINDINGS. -/
def countFinding (l : Loop) (f : Finding) : Loop :=
  match f with
  | .lost => { l with nLost := satInc 8 l.nLost }
  | .frozen => { l with nFrozen := satInc 8 l.nFrozen }
  | .following => { l with nFollow := satInc 8 l.nFollow }
  | .implausible => { l with nImpl := satInc 8 l.nImpl }
  | .silent => l

/-- A finding that holds sets its flag; a new one is counted (R184, R188). -/
def noteFinding (s : State) (i : Nat) (f : Finding) : State :=
  let l := loopOf s i
  stick (setLoop s i (if l.finds.contains f then l else { countFinding l f with finds := f :: l.finds })) .loopStatus i f.seenBit

/-- u_pre of a finding (R186). -/
def preOf (l : Loop) (f : Finding) : F32 :=
  match f with
  | .implausible => l.preI
  | .following => l.preF
  | _ => l.ua

/-- The loop enters a state of supervision (R186). -/
def enterSup (s : State) (i : Nat) (st : LoopSt) : State :=
  loopEvent (modLoop s i (fun l => { l with
    st := st, heldSince := s.now, okSince := none, returning := false, nightPending := false,
    entryMode := match l.st with | .auto => .auto | .manual => .manual | .night => .night | .track => .track | _ => l.entryMode })) i .loopStateEntered

/-- A trip message to the trip basket (R186). -/
def sendTrip (s : State) (i : Nat) : State :=
  match supInst s i with
  | some (n, x) => postTo s n (x.dst 1) (.trip i)
  | none => s

/-- The reaction to a finding (R186). -/
def react (s : State) (i : Nat) (f : Finding) : State :=
  let l := loopOf s i
  let s1 := setLoop s i { l with cause := f.code, uPre := preOf l f }
  match loopReaction s i with
  | 0 => enterSup s1 i .held
  | 1 =>
    match loopPort s i with
    | some m =>
      let y := motOf (t0 s) m
      if y.obsValid then switchSource (enterSup s1 i .observer) i y.obsSpeed else enterSup s1 i .safe
    | none => enterSup s1 i .safe
  | 2 => enterSup s1 i .safe
  | _ => sendTrip (enterSup s1 i .tripped) i

/-- A normal mode, in which a finding has its reaction (R182). -/
def normalMode (st : LoopSt) : Bool := st == .auto || st == .manual || st == .night || st == .track

/-- Takes the findings that hold: flags, counts, the first one's reaction (R184, R186, R187). -/
def takeFindings (s : State) (i t : Nat) : State :=
  let fs := allFindings.filter (findHolds s i t)
  let s1 := fs.foldl (fun s f => noteFinding s i f) s
  let s2 := modLoop s1 i (fun l => { l with finds := l.finds.filter (fun f => fs.contains f) })
  match fs with
  | [] => s2
  | f :: _ =>
    if normalMode (loopOf s2 i).st then react s2 i f
    else modLoop s2 i (fun l => { l with okSince := none, returning := false })

/-! ## Returns (R186) -/

/-- |x − x̂| ≤ e_base, for a return from OBSERVER. -/
def nearEstimate (s : State) (i : Nat) (est : Option F32) : Bool :=
  match est with
  | some h => fLe (fAbs (fSub (loopOf s i).xRaw h)) (regW s .loopSupE i)
  | none => false

/-- The return conditions hold now. -/
def returnCond (s : State) (i : Nat) (est : Option F32) : Bool :=
  let l := loopOf s i
  l.finds.isEmpty && !feedbackLost s i && (l.st != .observer || nearEstimate s i est)

/-- The interval of the return conditions (R186). -/
def trackReturn (s : State) (i t : Nat) (est : Option F32) : State :=
  let l := loopOf s i
  if l.st = .held ∨ l.st = .observer then
    if returnCond s i est then setLoop s i { l with okSince := some (l.okSince.getD t), returning := true }
    else setLoop s i { l with okSince := none, returning := false }
  else setLoop s i { l with okSince := none, returning := false }

/-- The loop returns by itself (R186). -/
def autoReturn (s : State) (i : Nat) : State :=
  let l := loopOf s i
  if okHeld s i && (l.st == .observer || (l.st == .held && regB s .loopCfg i 6)) then loopBack s i else s

/-- HELD or OBSERVER has lasted longer than t_hold_max (R186). -/
def holdOver (s : State) (i t : Nat) : Bool :=
  let l := loopOf s i
  (l.st == .held || l.st == .observer) && decide (0 < tHoldMax s i) && decide (l.heldSince + tHoldMax s i < t)

/-! ## The supervisor's run (R183 to R187) -/

/-- One timer of R185, with the output applied before it left 0. -/
def stepTimer (on : Bool) (period tau : Nat) (pre ua : F32) : Nat × F32 :=
  if on then (tau + period, if tau = 0 then ua else pre) else (tau - period, pre)

/-- The timers of FOLLOWING and IMPLAUSIBLE (R184, R185); they stand at 0 in the other modes. -/
def stepTimers (s : State) (i : Nat) (period : Nat) (est : Option F32) (c : F32) : State :=
  let l := loopOf s i
  let f := confScale s i c
  let el := fMul (regW s .loopSupE i) f
  let pl := fMul (regW s .loopSupP i) f
  if findsIn l.st .following then
    let a := stepTimer (fLt el (fAbs (fSub l.w l.x))) period l.tauF l.preF l.ua
    let imp := match est with
      | some h => regB s .loopCfg i 9 && fLt pl (fAbs (fSub l.xRaw h))
      | none => false
    let b := if regB s .loopCfg i 9 && est.isSome then stepTimer imp period l.tauI l.preI l.ua else (0, l.preI)
    setLoop s i { l with tauF := a.1, preF := a.2, tauI := b.1, preI := b.2, eLim := el, conf := c }
  else setLoop s i { l with tauF := 0, tauI := 0, eLim := el, conf := c }

/-- The count of runs without a post (R184). -/
def stepSilent (s : State) (i : Nat) : State :=
  let o := oldLoop s i
  modLoop s i (fun l =>
    { l with silentRuns := if o.posted then 0 else min 8 (l.silentRuns + 1), posted := l.posted && decide (l.seq ≠ o.seq) })

/-- The feedback wick's freeze, declared by the supervisor of the loop that uses it (R43). -/
def supFreeze (s : State) (i t : Nat) : State :=
  match feedbackWick s i with
  | some w => if freezeOver s w t then declareFreeze s w else s
  | none => s

/-- A loop with the law's outputs of another moment. -/
def Loop.lawAt (l o : Loop) : Loop :=
  { l with u := o.u, v := o.v, w := o.w, x := o.x, e := o.e, xRaw := o.xRaw, trackOn := o.trackOn, trackVal := o.trackVal }

/-- LOOP_SUPERVISE_RUN (R183 to R187), on the law's outputs as the input set holds them. -/
def runSup (s : State) (inst : Nat) (x : Inst) : State :=
  let i := x.idx
  let t := s.now
  let law := loopOf s i
  let a := takeEstimate (modLoop s i (fun l => l.lawAt (oldLoop s i))) inst x
  let b := if regB s .loopCfg i 10 then inVal a.1 inst x 1 else (a.1, 0#32)
  let s1 := loopTrack (stepSilent b.1 i) i (loopOf b.1 i).trackOn
  let s2 := supFreeze (trackStuck (stepTimers s1 i x.periodNs a.2 b.2) i t) i t
  let s3 := takeFindings s2 i t
  let blind := (loopOf s3 i).st == .observer && (match loopPort s3 i with | some m => !(motOf (t0 s3) m).obsValid | none => true)
  let s4 := if blind || holdOver s3 i t then enterSup s3 i .safe else s3
  let s5 := autoReturn (trackReturn s4 i t a.2) i
  let cmds := (loopOf s5 i).cmds
  let s6 := cmds.foldl (fun s c => loopCmd s i c) (modLoop s5 i (fun l => { l with cmds := [] }))
  let u := modeOutput s6 i (periodS x) (loopOf s6 i)
  applyDst (modLoop s6 i (fun l => { l.lawAt law with ua := u })) inst (x.dst 0) u

/-- A finding that holds and is not yet taken is declared between runs (R184). -/
def declareFinding (s : State) (i t : Nat) (f : Finding) : State :=
  if supervised s i && findHolds s i t f && !(loopOf s i).finds.contains f then
    let s1 := noteFinding s i f
    if normalMode (loopOf s1 i).st then react s1 i f else modLoop s1 i (fun l => { l with okSince := none, returning := false })
  else s

/-- SUPERVISION_TIMER_EXPIRY (R185). -/
def execSupervisionTimerExpiry (i : Fin 512) (following : Bool) (t : Ns) (s : State) : Out :=
  .next (declareFinding (setNow s t) i t (if following then .following else .implausible))
/-- LOOP_SILENT (R184). -/
def execLoopSilent (i : Fin 512) (t : Ns) (s : State) : Out := .next (declareFinding (setNow s t) i t .silent)
/-- LOOP_STUCK_EXPIRY (R184). -/
def execLoopStuckExpiry (i : Fin 512) (t : Ns) (s : State) : Out := .next (declareFinding (setNow s t) i t .frozen)
/-- LOOP_RETURN (R186). -/
def execLoopReturn (i : Fin 512) (t : Ns) (s : State) : Out :=
  let s := setNow s t
  .next (if supervised s i then autoReturn s i else s)
/-- LOOP_HOLD_MAX_EXPIRY (R186). -/
def execLoopHoldMaxExpiry (i : Fin 512) (t : Ns) (s : State) : Out :=
  let s := setNow s t
  .next (if supervised s i && holdOver s i t then enterSup s i .safe else s)

/-! ## SPLIT_RANGE and NIGHTLIGHT_TABLE (R180, R182) -/

/-- Linear from (a, lo) to (b, hi), held outside. -/
def ramp (a b lo hi u : F32) : F32 :=
  if fLe u a then lo else if fLe b u then hi else fAdd lo (fMul (fSub hi lo) (fDiv (fSub u a) (fSub b a)))

/-- SPLIT_RANGE (R180): parameters sp, range of A, range of B. -/
def runSplit (s : State) (inst : Nat) (x : Inst) : State :=
  let r := inVal s inst x 0
  let a := ramp 0#32 (x.val 0) (x.val 1) (x.val 2) r.2
  let b := ramp (x.val 0) (fOfNat 100) (x.val 3) (x.val 4) r.2
  applyDst (applyDst r.1 inst (x.dst 0) a) inst (x.dst 1) b

/-- NIGHTLIGHT_TABLE (R182, R213): its input is role 1; its value is the first of the instance's values. -/
def runNightTable (s : State) (inst : Nat) (x : Inst) : State :=
  let r := inVal s inst x 1
  let v := (interpolate ((lookup r.1.hld.str.night inst).getD []) r.2).getD 0#32
  let y := blkOf r.1 inst
  setBlk r.1 inst { y with f := setAt (if y.f.isEmpty then [0#32, 0#32] else y.f) 0 v }

end Sys2Proof.Machine
end

