-- ==== Sys2Proof/Machine/Ranges.lean ====
section
/-!
DEFINITION. The ranges of the RW and RWL fields (R8, R470 and the Meaning columns of the register chapters). A field with no entry
takes every value of its bits.
-/
namespace Sys2Proof.Machine

open Sys2Proof

/-- The range of one field: bit position, width and bounds; or of a whole word read as IEEE 754 single, bounds over `d`; `zf` also takes 0. -/
inductive FRange where
  | u (lo n a b : Nat)
  | i (lo n : Nat) (a b : Int)
  | f (a b : Int) (d : Nat)
  | pos
  | fin
  | zf (a b : Int) (d : Nat)
  deriving DecidableEq, Repr

/-- A word lies within a range. -/
def FRange.ok (r : FRange) (w : W32) : Bool :=
  match r with
  | .u lo n a b => decide (a ≤ fld w lo n) && decide (fld w lo n ≤ b)
  | .i lo n a b => decide (a ≤ sfld w lo n) && decide (sfld w lo n ≤ b)
  | .f a b d => fLe (fRat a d) w && fLe w (fRat b d)
  | .pos => fFinite w && fLt 0#32 w
  | .fin => fFinite w
  | .zf a b d => fEq w 0#32 || (fLe (fRat a d) w && fLe w (fRat b d))

/-- Ranges of wick, lamplighter, moisture and column fields. -/
def rangesA (r : RegName) : List FRange :=
  match r with
  | .wckCfg => [.u 0 4 0 9, .u 5 3 0 5]
  | .wckTiming => [.u 0 14 1 10000, .u 16 4 0 10]
  | .wckDiv => [.u 0 16 1 65535]
  | .wckPublish => [.u 1 3 0 6]
  | .lltHostRange => [.u 16 15 0 16384]
  | .mstProbeC0 => [.f 1 40 2]
  | .mstProbeCf => [.f 0 20 1]
  | .mstProc => [.u 0 4 0 10, .i 16 16 (-500) 500]
  | .mstLimits => [.u 0 8 10 200, .u 8 8 0 100, .u 16 8 5 100, .u 24 8 2 255]
  | .mstNoise => [.u 0 8 5 255]
  | .mstLab => [.f 0 60 1]
  | .pclCfg => [.u 8 12 7 4095]
  | .pclPlen => [.u 0 24 64 16777215]
  | .pclTol => [.u 16 14 0 10000]
  | .pclCkpt => [.u 0 10 1 600]
  | .pclAssumeM => [.f 5 35 1]
  | .pclAssumeT => [.f (-40) 100 1]
  | .pclAssumeRho => [.f 300 1000 1]
  | _ => []

/-- Ranges of drying, heat, aeration, loop and taper fields. -/
def rangesB (r : RegName) : List FRange :=
  match r with
  | .dryCfg => [.u 7 8 1 255]
  | .dryTarget => [.f 5 35 1]
  | .dryRateMin => [.f 1 6000 1]
  | .dryRateMax => [.f 1 6000 1]
  | .dryBatchRate => [.f 1 6000 1]
  | .dryTune => [.u 12 7 0 64, .u 20 12 0 3600]
  | .dryAdapt => [.u 0 8 1 100, .u 8 8 1 255, .u 16 8 1 100, .u 24 8 0 100]
  | .dryFb => [.u 0 10 0 500, .u 10 6 1 50, .u 16 12 0 3600]
  | .dryCool => [.u 0 5 0 30, .u 8 10 1 600, .u 18 14 1 6000]
  | .heatTLim => [.f 20 100 1]
  | .heatTrim => [.u 0 8 1 200, .i 8 8 (-50) 0, .u 16 8 0 50]
  | .aerGrainM => [.f 5 35 1]
  | .aerBand => [.u 0 10 0 1000, .u 10 10 0 1000, .u 20 10 0 500]
  | .aerTimes => [.u 0 16 0 1440, .u 16 16 0 1440]
  | .aerLimits => [.u 0 8 50 100, .u 8 8 10 80]
  | .loopSupE => [.pos]
  | .loopSupP => [.pos]
  | .loopSafeRate => [.pos]
  | .loopKp => [.fin]
  | .loopTi => [.zf 1 100000000 1000]
  | .loopTd => [.zf 1 100000000 1000]
  | .loopKff => [.fin]
  | .loopRate => [.fin]
  | .loopTune => [.u 0 6 2 50, .u 6 7 0 100, .u 13 7 1 100, .u 20 4 1 8]
  | .loopSupTime => [.u 0 16 1 60000, .u 16 16 10 60000]
  | .loopSupConf => [.u 0 9 0 400, .u 9 7 0 100, .u 16 12 0 3600]
  | .loopStuck => [.u 0 13 0 6000, .u 13 8 1 255, .u 21 10 1 1000]
  | .tprTarget => [.fin]
  | .tprAcc => [.pos, .f 0 1000000000 1]
  | .tprJerk => [.pos, .f 0 1000000000 1]
  | .tprYa => [.fin]
  | .tprYb => [.fin]
  | _ => []

/-- i_trip of a solenoid port in basic face, 10 mA: 150 % of i_peak, at most what SOL_LIMITS holds (R291, R292, log entry 47). -/
def basicTripOf (ipeak : Nat) : Nat := min (ipeak * 3 / 2) 4095

/-- Ranges of motor, gate, route, aisle, transmitter and solenoid fields. -/
def rangesC (r : RegName) : List FRange :=
  match r with
  | .motCfg => [.u 2 2 0 2, .u 6 4 1 12, .u 14 2 0 2, .u 16 3 0 4]
  | .motPwm => [.u 0 16 3907 31250, .u 16 12 25 2500, .u 28 4 0 10]
  | .motEnc => [.u 0 21 1 1048576]
  | .motRatedV => [.f 50 1000 1]
  | .motRatedI => [.f 1 4000 2]
  | .motRatedN => [.f 100 30000 1]
  | .motLimits => [.u 0 11 0 2000, .u 11 10 100 400]
  | .motFan => [.u 0 10 0 1000, .u 10 8 1 255, .u 22 10 1 1023]
  | .motCurKp => [.pos]
  | .motCurKi => [.pos]
  | .motStart => [.u 0 8 1 50, .u 8 8 1 100, .u 16 8 5 200, .u 24 8 10 250]
  | .motBrake => [.u 0 8 0 200, .u 8 8 0 150, .u 16 8 1 255, .u 24 8 5 50]
  | .motTemp => [.u 0 8 0 250, .u 16 8 0 250, .u 24 8 0 100]
  | .gateHome => [.u 0 8 1 255, .u 8 8 1 255, .u 16 8 1 100, .u 24 8 1 255]
  | .gateClear => [.u 0 24 1 16777215]
  | .gateKv => [.f 1 10000 10]
  | .routeTimes => [.u 0 10 1 600, .u 10 6 0 60, .u 16 7 1 100]
  | .slipCfg => [.u 0 7 1 100, .u 7 10 1 600]
  | .aisCfg => [.u 0 9 1 400]
  | .aisSweepCfg => [.u 0 11 100 2000, .u 16 10 1 1000]
  | .stlCfg => [.u 0 4 0 9, .u 12 2 0 2]
  | .stlOpt => [.u 5 6 0 50]
  | .cblLimits => [.u 0 8 1 50, .u 8 8 5 200]
  | .txCfg => [.u 1 2 0 2, .u 5 7 2 100]
  | .txTrimZero => [.i 0 16 (-400) 400]
  | .txTrimSpan => [.i 0 16 (-400) 400]
  | .txClamp => [.u 0 16 7600 41000, .u 16 16 0 41000]
  | .solCfg => [.u 3 10 1 1000]
  | .solPeak => [.u 0 12 5 3000, .u 12 14 0 10000]
  | .solHold => [.u 0 12 1 4095]
  | .solPwm => [.u 0 12 100 4000, .u 12 4 0 10]
  | .solDuty => [.u 0 7 1 100, .u 8 13 1 6000]
  | .solLimits => [.u 12 6 1 50, .u 18 8 1 255]
  | _ => []

/-- Ranges of market, pair, snuffer, thermal, wax and global fields. -/
def rangesD (r : RegName) : List FRange :=
  match r with
  | .mktIdent => [.u 16 12 1 4094]
  | .mktGate => [.u 0 7 0 100, .u 7 7 0 100, .u 14 11 320 1522]
  | .pairCfg => [.u 3 8 1 255, .u 11 8 1 255]
  | .snfWdog => [.u 0 14 10 10000]
  | .snfWake => [.u 2 6 0 51, .u 8 24 1 604800]
  | .snfWakeTicks => [.u 0 32 1 4294967295]
  | .thrPolLevels => [.u 0 8 0 150, .u 8 8 0 150]
  | .thrPolHyst => [.u 0 8 5 200]
  | .waxCfg => [.u 0 6 1 50, .u 6 9 10 300]
  | .waxExpLen => [.u 0 32 1 4294967295]
  | .waxExpRate => [.u 0 8 1 200]
  | .glbHost => [.u 0 16 10 60000]
  | .glbNotice => [.u 0 14 10 10000]
  | _ => []

/-- Every range of a register word. -/
def rangesOf (r : RegName) : List FRange := rangesA r ++ rangesB r ++ rangesC r ++ rangesD r

/-! ## Words of a structure -/

/-- The register words a structure carries; a word it does not carry reads its reset value. -/
def strRd (x : Structure) : RegRead := fun r i => (lookup x.words (regAddr r i)).getD (regDesc r).reset

/-- The structure carries a record whose words begin with this register. -/
def strHas (x : Structure) (r : RegName) (i : Nat) : Bool := (lookup x.words (regAddr r i)).isSome

/-- A field of a structure's word. -/
def strF (x : Structure) (r : RegName) (i lo n : Nat) : Nat := fld (strRd x r i) lo n
/-- A bit of a structure's word. -/
def strB (x : Structure) (r : RegName) (i b : Nat) : Bool := bit (strRd x r i) b

/-- Stream bounds of a heat group's setpoints (R149). -/
def strHeat (x : Structure) (g : Nat) : F32 × F32 :=
  match lookup x.heat g with
  | some h => (h.spLo, h.spHi)
  | none => (0#32, 0#32)

/-- Temperature tops of a port's stalls (R214). -/
def strTops (x : Structure) (m : Nat) : List Int :=
  match lookup x.motors m with
  | some o => o.temps.map (fun i => tmpTop (StallMode.ofCode (strF x .stlCfg i 0 4)))
  | none => []

/-! ## Ranges that join words -/

/-- r_min, r_max, batch_rate and cool_rate of a drying column (R128, R140, R146). -/
def dryRatesOk (rd : RegRead) (c : Nat) : Bool :=
  let lo := rd .dryRateMin c
  let hi := rd .dryRateMax c
  let cool := fOfNat (fld (rd .dryCool c) 18 14)
  fLe lo hi && fLe lo (rd .dryBatchRate c) && fLe (rd .dryBatchRate c) hi && fLe lo cool && fLe cool hi

/-- Used points of a nightlight table stand lowest, their moisture rising (R148). -/
def dryNightOk (rd : RegRead) (c : Nat) : Bool :=
  (upTo 7).all (fun k =>
    let m := fld (rd .dryNight (8 * c + k)) 0 16
    let n := fld (rd .dryNight (8 * c + k + 1)) 0 16
    n == 0xFFFF || decide (m < n))

/-- Ranges that join two fields or two words. `rd` reads the words with the new one in place, `x` is the structure they belong to. -/
def crossOk (rd : RegRead) (x : Structure) (r : RegName) (i : Nat) : Bool :=
  let w := rd r i
  let heat := strHeat x
  let inLoop := fun (v : F32) => fLe (rd .loopOutMin i) v && fLe v (rd .loopOutMax i)
  let loopAll := fLt (rd .loopOutMin i) (rd .loopOutMax i) && inLoop (rd .loopMan i) && inLoop (rd .loopSafe i) && inLoop (rd .loopTrip i)
  match r with
  | .wckCfg => (let p := fld w 10 5; (decide (p < 16) || p == 31) && (fld w 0 4 != 6 || fld w 5 3 == 4 || fld w 5 3 == 5))
  | .wckPublish => if fld (rd .wckCfg i) 0 4 = 9 then decide (2 ≤ fld w 8 8) && decide (fld w 8 8 ≤ 128) else true
  | .dryTune => decide (fld w 0 12 ≤ fld (rd .pclCfg i) 8 12)
  | .heatSpReq => fLe (heat i).1 w && fLe w (heat i).2
  | .heatSpMin => fLe (heat i).1 w && fLe w (heat i).2 && fLe w (rd .heatSpMax i)
  | .heatSpMax => fLe (heat i).1 w && fLe w (heat i).2 && fLe (rd .heatSpMin i) w
  | .loopOutMin => loopAll
  | .loopOutMax => loopAll
  | .loopMan => inLoop w
  | .loopSafe => inLoop w
  | .loopTrip => inLoop w
  | .tprYmin => fFinite w && fLt w (rd .tprYmax i)
  | .tprYmax => fFinite w && fLt (rd .tprYmin i) w
  | .motBus => decide (fld w 0 10 < fld w 10 10) && decide (fld w 10 10 < fld w 20 10)
  | .motTemp => decide (fld w 0 8 < fld w 8 8) && (strTops x i).all (fun t => decide ((fld w 8 8 : Int) ≤ t) && decide ((fld w 16 8 : Int) ≤ t))
  | .dryRateMin => dryRatesOk rd i
  | .dryRateMax => dryRatesOk rd i
  | .dryBatchRate => dryRatesOk rd i
  | .dryCool => dryRatesOk rd i
  | .dryNight => dryNightOk rd (i / 8)
  | .motCfg => !(bit w 1 && fld w 14 2 == 2)
  | .txClamp => decide (fld w 0 16 < fld w 16 16)
  | .solPeak => decide (fld (rd .solHold i) 0 12 ≤ fld w 0 12) && (!bit (rd .solCfg i) 2 || decide (fld w 0 12 < fld (rd .solLimits i) 0 12))
  | .solHold => decide (fld w 0 12 ≤ fld (rd .solPeak i) 0 12)
  | .solLimits => decide (fld (rd .solPeak i) 0 12 < fld w 0 12)
  | .mktGate => decide (fld w 0 7 + fld w 7 7 ≤ 100)
  | .thrPolLevels => decide (fld w 0 8 < fld w 8 8)
  | .stlOpt => decide (sfld w 11 11 ≤ tmpTop (StallMode.ofCode (fld (rd .stlCfg i) 0 4)))
  | _ => true

/-- A register word lies within its ranges (R8, R470). -/
def wordOk (rd : RegRead) (x : Structure) (r : RegName) (i : Nat) : Bool :=
  (rangesOf r).all (fun k => k.ok (rd r i)) && crossOk rd x r i

/-- The words of a state with one of them replaced. -/
def rdWith (rd : RegRead) (r : RegName) (i : Nat) (w : W32) : RegRead := fun r' i' => if r' = r ∧ i' = i then w else rd r' i'

end Sys2Proof.Machine
end

