-- ==== Sys2Proof/Machine/Validate.lean ====
section
/-!
DEFINITION. Validation of a stream image (R371 to R377, R385): the twelve steps of R377, each over the whole structure that would
result.
-/
namespace Sys2Proof.Machine

open Sys2Proof

/-- HLD_RESULT codes (R390). -/
inductive HldCode where
  | ok | busy | format | stepping | signature | rollback | badSection | hash | base | record | faceValue | capacity | rule
  | pairCombine | retiring | applyLate | applyFrame | switchOnly | notStaged | persistFull
  deriving DecidableEq, Repr

/-- Numeric code (R390). -/
def HldCode.code (c : HldCode) : Nat := c.ctorIdx

/-! ## Sections and hash (R372, R375) -/

/-- Section types a FULL stream carries (R372). -/
def requiredSecs : List Nat := [0x02, 0x03, 0x06, 0x07, 0x08, 0x09, 0x0C, 0x0F]

/-- Puts a section in type order; size 0 removes it (R371, R375). -/
def putSec (d : SecDigest) (l : List SecDigest) : List SecDigest :=
  match l with
  | [] => if d.size = 0 then [] else [d]
  | e :: t =>
    if d.typ = e.typ then (if d.size = 0 then t else d :: t)
    else if d.typ < e.typ then (if d.size = 0 then e :: t else d :: e :: t)
    else e :: putSec d t

/-- The sections after an image: those of a FULL stream, or the base's with the patch's in their place (R375). -/
def mergeSecs (base : Structure) (img : StreamImg) : List SecDigest :=
  img.secs.foldl (fun l d => putSec d l) (if img.full then [] else base.secs)

/-- The bytes the structure hash covers: 40 for each section (R375). -/
def hashBytes (l : List SecDigest) : List Byte :=
  l.flatMap (fun d => bytesLE 2 d.typ ++ bytesLE 2 0 ++ bytesLE 4 d.size ++ bytesLE 32 d.digest)

/-- The structure hash of a list of sections (R375). -/
def structHash (l : List SecDigest) : Nat := (Config.sha256 (hashBytes l)).toNat

/-- Step 5: section types, no repeats, required sections, IDENTITY (R371, R372, R377). `secOk` says what alignment, overlap and
CRCs of the image give. -/
def secsOk (img : StreamImg) : Bool :=
  let ts := img.secs.map (·.typ)
  img.secOk && ts.all (fun t => decide (2 ≤ t) && decide (t ≤ 0x12)) && decide ts.Nodup &&
  (if img.full then
    img.hasIdentity && requiredSecs.all (fun t => img.secs.any (fun d => d.typ == t && decide (0 < d.size)))
  else !img.hasIdentity && img.secs.all (fun d => decide (0 < d.size) || !requiredSecs.contains d.typ))

/-! ## Step 8: records and basic faces (R373, R385) -/

/-- Words of a record whose ranges hold only for some kinds of the item. -/
def wordApplies (x : Structure) (r : RegName) (i : Nat) : Bool :=
  match r with
  | .wckDiv => strF x .wckCfg i 0 4 == 8
  | _ => true

/-- Every carried word stands at a register and lies within its ranges (R373, R470); the ROWS section is complete (R156). -/
def recordsOk (img : StreamImg) : Bool :=
  let x := img.result
  img.recordOk && x.rows.length == 8 && x.we.length == 128 &&
  x.words.all (fun p => match decodeAddr p.1 with
    | some (r, i) => !wordApplies x r i || wordOk (strRd x) x r i
    | none => false)

/-- The values a chapter fixes for the expert fields of an item in basic face: (register, bit, width, value) (R145, R219, R264,
R291, R322, R421, R498). `m` is the stall mode, which fixes two of them. -/
def basicFields (r : RegName) (m : StallMode) : List (RegName × Nat × Nat × Nat) :=
  match r with
  | .dryCfg => [(.dryCfg, 6, 1, 1), (.dryTune, 12, 7, 8), (.dryTune, 20, 12, 60), (.dryAdapt, 0, 8, 20), (.dryAdapt, 8, 8, 8),
                (.dryAdapt, 16, 8, 20), (.dryAdapt, 24, 8, 30), (.dryFb, 0, 10, 20), (.dryFb, 10, 6, 10), (.dryFb, 16, 12, 300),
                (.dryCool, 0, 5, 10), (.dryCool, 8, 10, 60)]
  | .heatCfg => [(.heatCfg, 19, 1, 1), (.heatCfg, 20, 1, 0)]
  | .aerCfg => [(.aerCfg, 15, 1, 0), (.aerBand, 20, 10, 30), (.aerTimes, 0, 16, 30), (.aerTimes, 16, 16, 30),
                (.aerLimits, 0, 8, 90), (.aerLimits, 8, 8, 35)]
  | .motCfg => [(.motStart, 0, 8, 10), (.motStart, 8, 8, 10), (.motStart, 16, 8, 20), (.motStart, 24, 8, 20),
                (.motBrake, 0, 8, 100), (.motBrake, 8, 8, 50), (.motBrake, 16, 8, 30), (.motBrake, 24, 8, 20),
                (.motTemp, 24, 8, 50)]
  | .stlCfg => (match m with
    | .tmpRtd => [(.stlOpt, 0, 3, 0), (.stlOpt, 11, 11, 850)]
    | .tmpNtc => [(.stlOpt, 0, 3, 0), (.stlOpt, 11, 11, 125)]
    | .tmpDiode => [(.stlOpt, 0, 3, 0), (.stlOpt, 5, 6, 8), (.stlOpt, 11, 11, 150)]
    | .aiMa => [(.stlOpt, 0, 3, 0)]
    | .aiV => [(.stlOpt, 0, 3, 0)]
    | .di => [(.stlOpt, 3, 2, 0)]
    | .cnt => [(.stlOpt, 3, 2, 0)]
    | _ => [])
  | .txCfg => [(.txClamp, 0, 16, 7600), (.txClamp, 16, 16, 41000)]
  | .solCfg => [(.solPwm, 0, 12, 2000), (.solPwm, 12, 4, 5), (.solLimits, 12, 6, 5), (.solLimits, 18, 8, 50)]
  | .mktCfg => [(.mktGate, 0, 7, 40), (.mktGate, 7, 7, 20), (.mktGate, 14, 11, 576), (.mktCfg, 15, 8, 246)]
  | .thrPolCfg => [(.thrPolHyst, 0, 8, 20), (.thrPolCfg, 3, 1, 0)]
  | .mstCfg => [(.mstCfg, 17, 2, 0)]
  | _ => []

/-- Items with faces: the register that holds the face, its bit, and how many items there are. -/
def facedItems : List (RegName × Nat × Nat) :=
  [(.dryCfg, 5, 16), (.heatCfg, 21, 4), (.aerCfg, 16, 64), (.motCfg, 19, 16), (.stlCfg, 4, 128), (.txCfg, 4, 16), (.solCfg, 2, 32),
   (.mktCfg, 14, 1), (.thrPolCfg, 1, 16), (.mstCfg, 27, 32)]

/-- t_end, t_derate and t_trip of a motor port in basic face (R219), for a port with temperature stalls. -/
def basicTemps (x : Structure) (m : Nat) : Bool :=
  match strTops x m with
  | [] => true
  | t :: ts =>
    let e := (ts.foldl min (min 160 t)).toNat
    strF x .motTemp m 8 8 == e && strF x .motTemp m 0 8 == e - 30 && strF x .motTemp m 16 8 == e - 5

/-- i_trip of a solenoid port in basic face: 150 % of i_peak (R291). -/
def basicTrip (x : Structure) (v : Nat) : Bool := strF x .solLimits v 0 12 == basicTripOf (strF x .solPeak v 0 12)

/-- d of a drying column in basic face: the first position of the first zone that is not HOLD (R145). -/
def basicDec (x : Structure) (c : Nat) : Bool :=
  match (upTo (strF x .pclCfg c 20 3 + 1)).find? (fun i => strF x .pclZone (8 * c + i) 12 2 != 0) with
  | some i => strF x .dryTune c 0 12 == strF x .pclZone (8 * c + i) 0 12
  | none => true

/-- Every item in basic face carries the values its chapter fixes (R385). -/
def facesOk (x : Structure) : Bool :=
  facedItems.all (fun f => (upTo f.2.2).all (fun i =>
    !strHas x f.1 i || strB x f.1 i f.2.1 ||
    ((basicFields f.1 (StallMode.ofCode (strF x .stlCfg i 0 4))).all (fun q => strF x q.1 i q.2.1 q.2.2.1 == q.2.2.2) &&
     (f.1 != .dryCfg || basicDec x i) && (f.1 != .motCfg || basicTemps x i) && (f.1 != .solCfg || basicTrip x i))))

/-! ## Step 9: capacities (R4, R19, R151, R161, R168) -/

/-- The retiring instances and baskets of a state (R383). -/
def retInsts (s : State) : List (Nat × Inst) :=
  s.hld.str.insts.filter (fun p => s.hld.retiring.any (fun r => r.insts.contains p.1))
/-- The baskets that retiring items keep. -/
def retBaskets (s : State) : List (Nat × BasketDesc) :=
  s.hld.str.baskets.filter (fun p => s.hld.retiring.any (fun r => r.baskets.contains p.1))

/-- Everything placed, the retiring items among it. -/
def allInsts (s : State) (x : Structure) : List (Nat × Inst) :=
  x.insts ++ (retInsts s).filter (fun p => (lookup x.insts p.1).isNone)
/-- Every basket, those of retiring items among them. -/
def allBaskets (s : State) (x : Structure) : List (Nat × BasketDesc) :=
  x.baskets ++ (retBaskets s).filter (fun p => (lookup x.baskets p.1).isNone)

/-- Stalls in a mode. -/
def stallsIn (x : Structure) (m : StallMode) : List Nat := (upTo 128).filter (fun i => StallMode.ofCode (strF x .stlCfg i 0 4) == m)

/-- Instances of a type. -/
def typed (l : List (Nat × Inst)) (t : BlockType) : List (Nat × Inst) := l.filter (fun p => p.2.typ == t)

/-- Step 9 of R377. -/
def capacityOk (s : State) (x : Structure) : Bool :=
  let is := allInsts s x
  let bs := allBaskets s x
  is.all (fun p => decide (p.1 < 8192) && decide (p.2.engine < 128)) &&
  (upTo 128).all (fun e => decide ((is.filter (fun p => p.2.engine == e)).length ≤ 256)) &&
  bs.all (fun p => decide (p.1 < 32768) && decide (1 ≤ p.2.depth) && decide (p.2.depth ≤ 65535)) &&
  decide ((bs.map (fun p => p.2.depth * widthBytes p.2.width)).sum ≤ 24 * 1048576) &&
  decide ((x.quotas.map (·.2)).sum ≤ 4096) &&
  x.ranges.all (fun r => decide (r.hi < 16384)) && x.statics.all (fun p => decide (p.1 < 16384)) &&
  (upTo 8).all (fun n => decide (((stallsIn x .moist).filter (fun i => aisleOf i == n)).length ≤ 4)) &&
  x.routeMembers.all (fun r => decide (r.1 < 32) && decide (r.2.length ≤ 16)) && x.grain.all (fun g => decide (g.1 < 64)) &&
  x.routes.all (fun r => decide (r.pub = true ∨ r.id < 1024))

/-! ## Step 10: rules -/

/-- Port outputs that an instance commands (R25), as (kind, number): 0 a port's torque, 1 a transmitter port, 2 a DO stall, 3 a solenoid
port, 4 a motor port's commands. Beside its outputs, the port that its type serves, a thermal policy's DO, what a diverter drives and the
DO members of a route. -/
def portOuts (x : Structure) (p : Inst) : List (Nat × Nat) :=
  let outs := p.outs.filterMap (fun d => match d with
    | .torque m => some (0, m) | .tx n => some (1, n) | .stall i => some (2, i) | .sol v => some (3, v) | _ => none)
  let own := match p.typ with
    | .motorCtrl => [(4, p.idx)]
    | .solenoidCtrl => [(3, p.idx)]
    | .thermalPolicy => if strF x .thrPolCfg p.idx 2 2 = 1 then [(2, strF x .thrPolCfg p.idx 4 7)] else []
    | .diverter => (match p.ids[1]?, p.ids[2]? with | some 0, some i => [(2, i)] | some 1, some v => [(3, v)] | _, _ => [])
    | .routeSeq => ((lookup x.routeMembers p.idx).getD []).filterMap (fun q => match q.kind with | .do_ i => some (2, i) | _ => none)
    | _ => []
  (outs ++ own).eraseDups

/-- Each port output has at most one writing block (R25). -/
def writersOk (x : Structure) : Bool := decide ((x.insts.flatMap (fun p => portOuts x p.2)).Nodup)

/-- Numbers a wick kind is permitted on (R31). -/
def kindPermitted (k w : Nat) : Bool :=
  match k with
  | 0 => true
  | 1 => decide (w < 32)
  | 2 => decide (w < 32)
  | 3 => decide (w < 32)
  | 4 => decide (w < 32) || decide (52 ≤ w)
  | 5 => decide (32 ≤ w) && decide (w < 48)
  | 6 => decide (32 ≤ w) && decide (w < 48)
  | 7 => decide (48 ≤ w) && decide (w < 52)
  | 8 => decide (52 ≤ w)
  | 9 => decide (52 ≤ w)
  | _ => false

/-- Kind of a wick in a structure. -/
def strKind (x : Structure) (w : Nat) : Nat := strF x .wckCfg w 0 4

/-- Wicks that an instance refers to beside its inputs: a gate's position wick, a belt's two wicks, a diverter's belt wick, a COORD taper's
wick and the proof wicks of a route (R174, R221, R230, R233, R234). -/
def instWicks (x : Structure) (p : Inst) : List Nat :=
  let id (k : Nat) : List Nat := (p.ids[k]?).toList
  match p.typ with
  | .homing => [strF x .gateCfg p.idx 0 6]
  | .positionLoop => [strF x .gateCfg p.idx 0 6]
  | .beltSlip => id 0 ++ id 1
  | .diverter => id 0
  | .taperCoord => [strF x .tprCfg p.idx 2 6]
  | .routeSeq => ((lookup x.routeMembers p.idx).getD []).filterMap (·.wick)
  | _ => []

/-- Wicks that a static action refers to: its key's, and the one it presets. -/
def actWicks (a : ActRec) : List Nat := (if a.keyTime then [] else [a.wick]) ++ (if a.typ = 5 then [a.target] else [])

/-- Wicks that blocks, columns, moisture channels and static actions refer to (R31). -/
def wickRefs (x : Structure) : List Nat :=
  x.insts.flatMap (fun p => p.2.ins.filterMap (fun i => match i with | .wickSpeed w => some w | .wickPos w => some w | _ => none) ++ instWicks x p.2) ++
  ((upTo 16).filter (fun c => strB x .pclCfg c 0)).map (fun c => strF x .pclCfg c 1 6) ++
  ((upTo 32).filter (fun c => strHas x .mstCfg c && strB x .mstCfg c 16)).map (fun c => strF x .mstCfg c 10 6) ++
  x.statics.flatMap (fun p => actWicks p.2)

/-- Wicks that a structure publishes: of W0 to W51 with a source, or COMPUTED; at most 16 (R48). -/
def publishOk (x : Structure) : Bool :=
  let ws := (upTo 64).filter (fun w => strB x .wckPublish w 0)
  decide (ws.length ≤ 16) && ws.all (fun w => strKind x w == 8 || (decide (w < 52) && strKind x w != 0))

/-- Freeze times of 0.1 to 60 s and thresholds of 1 to 100 % (R43). -/
def freezesOk (x : Structure) : Bool :=
  x.freeze.all (fun p => decide (100 ≤ p.2.1) && decide (p.2.1 ≤ 60000) && decide (1 ≤ p.2.2.1) && decide (p.2.2.1 ≤ 100) &&
    decide (1 ≤ p.2.2.2) && decide (p.2.2.2 ≤ 100))

/-- R31, R33, R43, R45, R47 to R49. -/
def wicksOk (x : Structure) : Bool :=
  (upTo 64).all (fun w => kindPermitted (strKind x w) w) && (wickRefs x).all (fun w => decide (w < 64) && strKind x w != 0) &&
  publishOk x && freezesOk x &&
  (upTo 64).all (fun w =>
    match strKind x w with
    | 4 =>
      !strB x .wckSrc w 7 ||
      (StallMode.ofCode (strF x .stlCfg (strF x .wckSrc w 8 7) 0 4) == .di &&
       aisleOf (strF x .wckSrc w 8 7) == aisleOf (strF x .wckSrc w 0 7))
    | 6 => strF x .wckCfg w 5 3 == 4 || strF x .wckCfg w 5 3 == 5
    | 8 => decide (strF x .wckSrc w 16 6 < w) && (strF x .wckRatio w 16 16 == 0 || decide (strF x .wckSrc w 24 6 < w))
    | 9 =>
      match lookup x.subPaths w with
      | some (k, hops) => decide (125000 * 2 ^ k + 40000 + 8000 * hops ≤ 125000 * strF x .wckPublish w 8 8)
      | none => false
    | _ => true)

/-- R76: each MOIST stall has one slot of its aisle, and a slot names a MOIST stall. -/
def moistOk (x : Structure) : Bool :=
  let slots := (upTo 32).filter (fun c => strHas x .mstCfg c)
  let stall := fun c => 16 * (c / 4) + strF x .mstCfg c 0 4
  decide ((slots.map stall).Nodup) && (stallsIn x .moist).all (fun i => (slots.map stall).contains i)

/-- Enabled columns of a structure. -/
def strCols (x : Structure) : List Nat := (upTo 16).filter (fun c => strB x .pclCfg c 0)

/-- Moisture channels a column uses. -/
def colChans (x : Structure) (c : Nat) : List Nat :=
  (if strB x .pclProbes c 5 then [strF x .pclProbes c 0 5] else []) ++
  (if strB x .pclProbes c 13 then [strF x .pclProbes c 8 5] else [])

/-- R98: one column. -/
def colOk (x : Structure) (c : Nat) : Bool :=
  let p := strF x .pclPlen c 0 24
  let l := strF x .pclCfg c 8 12 + 1
  let n := strF x .pclCfg c 20 3 + 1
  let z := fun i => strF x .pclZone (8 * c + i) 0 12
  decide (64 ≤ p) && decide (8 ≤ l) && decide (l ≤ 4096) && strKind x (strF x .pclCfg c 1 6) != 0 &&
  z 0 == 0 && strF x .pclZone (8 * c) 12 2 == 0 && (upTo (n - 1)).all (fun i => decide (z i < z (i + 1))) && decide (z (n - 1) < l) &&
  (!strB x .pclProbes c 5 || decide ((strRd x .pclInOfs c).toNat < l * p)) &&
  (!strB x .pclProbes c 13 ||
    (decide ((l - 1) * p ≤ (strRd x .pclDisOfs c).toNat) && decide ((strRd x .pclDisOfs c).toNat < (l + 48) * p)))

/-- R98 over all columns; R99's one COL_TRACK of a column. -/
def colsOk (x : Structure) : Bool :=
  (strCols x).all (fun c => colOk x c && (typed x.insts .colTrack).any (fun p => p.2.idx == c)) &&
  decide (((strCols x).flatMap (fun c => (colChans x c).eraseDups)).Nodup)

/-- Largest number of runs of period exponent k that fall within one 1 ms mirror cycle. -/
def runsPerMs (k : Nat) : Nat := max 1 (2 ^ (3 - k))

/-- R116, R119: the slice writes of all drying columns fit the mirror budget. -/
def mirrorFits (x : Structure) : Bool :=
  let w := (typed x.insts .dryColumn).map (fun p =>
    runsPerMs p.2.k * ceilDiv (strF x .pclCfg p.2.idx 8 12 + 1) (max 1 (strF x .dryCfg p.2.idx 7 8)))
  decide (w.sum + 16 * (typed x.insts .colTrack).length ≤ 2048)

/-- R118. -/
def dryingOk (x : Structure) : Bool :=
  (typed x.insts .dryColumn).all (fun p =>
    let c := p.2.idx
    let ofs := if strB x .pclProbes c 5 then (strRd x .pclInOfs c).toNat else 0
    let n := strF x .pclCfg c 20 3 + 1
    strB x .pclCfg c 0 && decide (c < 16) &&
    (n == 1 || decide (ofs / max 1 (strF x .pclPlen c 0 24) < strF x .pclZone (8 * c + 1) 0 12)))

/-- R151: periods, phases, numbers given once. -/
def placementOk (x : Structure) : Bool :=
  x.insts.all (fun p =>
    let r := p.2.typ.kRange
    decide (r.1 ≤ p.2.k) && decide (p.2.k ≤ r.2) && decide (p.2.phase < 2 ^ p.2.k)) &&
  decide ((x.insts.map (·.1)).Nodup)

/-- R153: instruction memory and data memory of each engine. -/
def memoryOk (l : List (Nat × Inst)) : Bool :=
  (upTo 128).all (fun e =>
    let mine := (l.filter (fun p => p.2.engine == e)).map (·.2)
    let types := mine.foldl (fun (acc : List BlockType) p => if acc.contains p.typ then acc else p.typ :: acc) []
    decide (4096 + (types.map (·.codeBytes)).sum ≤ 65536) &&
    decide (9216 + (mine.map (fun p => p.typ.stateSize.1 + p.typ.stateSize.2 * p.items)).sum ≤ 65536))

/-- R155, R156: loads within 58,000 cycles, retiring instances counted, and the ROWS entries as the device computes them from the
resulting structure. -/
def rowsOk (all : List (Nat × Inst)) (x : Structure) : Bool :=
  let we := (upTo 128).map (fun e => worstLoad (strRd x) x.insts e)
  (upTo 128).all (fun e => decide (worstLoad (strRd x) all e ≤ 58000)) && x.we == we &&
  x.rows == (upTo 8).map (fun r => floorOf (((we.drop (16 * r)).take 16).foldl max 0))

/-- Baskets into which an instance posts (R162): its outputs, a column's report basket, a route's remote members, a policy's basket. -/
def postsInto (x : Structure) (p : Inst) : List Nat :=
  p.outs.filterMap (fun d => match d with | .basket b => some b | _ => none) ++
  (match p.typ with
   | .colTrack => (lookup x.colReport p.idx).toList
   | .routeSeq => ((lookup x.routeMembers p.idx).getD []).filterMap (fun q => match q.kind with | .remote b => some b | _ => none)
   | .thermalPolicy => if strF x .thrPolCfg p.idx 2 2 = 2 then (match lookup x.policies p.idx with | some o => [o.basket] | none => []) else []
   | .diverter => (match p.ids[1]?, p.ids[2]? with | some 2, some b => [b] | _, _ => [])
   | _ => [])

/-- Producers of a basket among the blocks, by instance number (R162). -/
def producersOf (x : Structure) (b : Nat) : List Nat := (x.insts.filter (fun p => (postsInto x p.2).contains b)).map (·.1)

/-- The lamplighter or a device source feeds a basket (R162): report baskets, static BASKET_POST actions, tally notices. -/
def deviceFed (x : Structure) (b : Nat) : Bool :=
  x.notice == some b || x.ranges.any (fun r => r.report == some b) || x.statics.any (fun q => q.2.typ == 6 && q.2.target == b)

/-- R161, R162: widths; exactly one producer of a BLOCK basket, a block or market ingress, as the descriptor names it. -/
def basketsOk (x : Structure) : Bool :=
  decide ((x.baskets.map (·.1)).Nodup) &&
  x.baskets.all (fun p =>
    decide (p.2.width ≤ 4) && decide (p.2.cls ≤ 3) &&
    (if p.2.policy = .block then
       !deviceFed x p.1 &&
       (match producersOf x p.1, (lookup x.ingress p.1).isSome with
        | [i], false => p.2.producer == i
        | [], true => p.2.producer == 0xFFFF
        | _, _ => false)
     else p.2.producer == 0xFFFD))

/-- Most items that the catalogue lets an instance of a type have (R154). -/
def BlockType.maxItems (b : BlockType) : Nat :=
  match b with
  | .doOut => 16
  | .stallFilter => 16
  | .diDebounce => 64
  | .cableCheck => 32
  | .logic => 64
  | .latch => 32
  | .edge => 32
  | .compare => 16
  | .minMax => 16
  | .deadTime => 4096
  | .timer => 16
  | .counter => 16
  | .eventRaise => 32
  | .runHours => 16
  | _ => 65535

/-- R154: the items of each instance: no more than its type may have, as many as the stream configures for it; up to 8 baskets of a FAN_OUT or
MERGE. -/
def itemsOk (x : Structure) : Bool :=
  x.insts.all (fun p =>
    let n := p.2.items
    decide (n ≤ p.2.typ.maxItems) &&
    (match p.2.typ with
     | .doOut => n == p.2.outs.length
     | .cableCheck => n == ((lookup x.cables p.2.idx).getD []).length
     | .routeSeq => n == ((lookup x.routeMembers p.2.idx).getD []).length
     | .aerSilo => n == (match lookup x.aer p.2.idx with | some o => o.cable.length | none => 0)
     | .dryHeat => n == (match lookup x.heat p.2.idx with | some o => o.stalls.length | none => 0)
     | .fanOut => decide (p.2.outs.length ≤ 8)
     | .merge => decide (p.2.ins.length ≤ 8)
     | _ => true))

/-- Laws of a loop index and its supervisor (R179, R180, R183, R186, R205). -/
def loopsOk (x : Structure) : Bool :=
  let laws := x.insts.filter (fun p => isLaw p.2.typ)
  laws.all (fun p => decide (p.2.idx < 512)) && decide ((laws.map (fun p => p.2.idx)).Nodup) &&
  (typed x.insts .loopSupervise).all (fun p => laws.any (fun q =>
    q.2.idx == p.2.idx && q.2.typ != .ratioLoop && p.2.k == q.2.k && p.2.phase == (q.2.phase + 1) % 2 ^ q.2.k)) &&
  laws.all (fun p =>
    let i := p.2.idx
    let port := if p.2.typ = .speedLoop then p.2.id? 0 else match p.2.src 1 with | .motor m => some m | _ => none
    (strF x .loopCfg i 4 2 != 1 || (match port with | some m => strB x .motCfg m 10 | none => false)) &&
    !(p.2.typ == .speedLoop && strB x .loopCfg i 7) && !(p.2.typ == .ratioLoop && strB x .loopCfg i 3)) &&
  (typed x.insts .splitRange).all (fun p => fLe (fOfNat 1) (p.2.val 0) && fLe (p.2.val 0) (fOfNat 99))

/-- Tapers (R174, R178). -/
def tapersOk (x : Structure) : Bool :=
  let ts := x.insts.filter (fun p => p.2.typ == .taper || p.2.typ == .taperCoord)
  ts.all (fun p => decide (p.2.idx < 256)) && decide ((ts.map (fun p => p.2.idx)).Nodup) &&
  (typed x.insts .taperCoord).all (fun p =>
    let j := p.2.idx
    !(strRd x .tprXaLo j == strRd x .tprXbLo j && strRd x .tprXaHi j == strRd x .tprXbHi j))

/-- A block that reads the feedback record of a port (R198). -/
def readsPort (p : Inst) (m : Nat) : Bool :=
  p.ins.contains (.motor m) ||
  ((p.typ == .motorCtrl || p.typ == .motorObserver || p.typ == .fanSupervise || p.typ == .energyMeter) && p.idx == m) ||
  (p.typ == .speedLoop && p.id? 0 == some m)

/-- Position mode of a port (R221): its position wick, its LEVEL taper and its three DI stalls, no SENSORLESS feedback, app GENERAL. -/
def positionOk (x : Structure) (m : Nat) : Bool :=
  let w := strF x .gateCfg m 0 6
  let k := strKind x w
  let di := fun (i : Nat) => StallMode.ofCode (strF x .stlCfg i 0 4) == .di
  (if w = 32 + m then k == 5 || k == 6 else decide (w < 32) && (k == 1 || k == 2)) &&
  (typed x.insts .positionLoop).all (fun p => p.2.idx != m || (match p.2.id? 0 with | some j => !strB x .tprCfg j 0 | none => false)) &&
  di (strF x .gateCfg m 9 7) && di (strF x .gateCfg m 16 7) && di (strF x .gateCfg m 23 7) &&
  strF x .motCfg m 2 2 != 2 && strF x .motCfg m 4 2 == 0

/-- One enabled motor port: R195, R198, R201, R214, R221 and the codes its chapter rejects. -/
def motorOk (x : Structure) (m : Nat) : Bool :=
  let fb := strF x .motCfg m 2 2
  let h := strF x .motPwm m 0 16
  let osr := 32 * 2 ^ strF x .motSd m 2 2
  let half := h - h * strF x .motPwm m 28 4 / 100
  let bound := (if strB x .motSd m 0 then 75 else 150) * osr + 700
  let position := (typed x.insts .positionLoop).any (fun p => p.2.idx == m) && (typed x.insts .homing).any (fun p => p.2.idx == m)
  decide (bound * 100 ≤ 90 * 8 * half) &&
  x.insts.all (fun p => !readsPort p.2 m || decide (strF x .motCfg m 16 3 ≤ p.2.k)) &&
  (fb != 1 || strF x .motEnc m 0 21 == 6 * strF x .motCfg m 6 4) &&
  (strTops x m).all (fun t =>
    decide (strF x .motTemp m 0 8 < strF x .motTemp m 8 8) && decide ((strF x .motTemp m 8 8 : Int) ≤ t) &&
    decide ((strF x .motTemp m 16 8 : Int) ≤ t)) &&
  (match lookup x.motors m with
   | some o =>
     decide (2 ≤ o.obsMin) && decide (o.obsMin ≤ 20) && decide (10 ≤ o.tFlux) && decide (o.tFlux ≤ 2000) && decide (o.temps.length ≤ 2) &&
     decide (o.gain.length = 6) && decide (o.offset.length = 6) && (match o.tach with | some q => decide (0 < q.2) | none => true)
   | none => false) &&
  (!position || positionOk x m)

/-- Every enabled motor port. -/
def motorsOk (x : Structure) : Bool := (upTo 16).all (fun m => !strB x .motCfg m 0 || motorOk x m)

/-- R229: a member of several routes is flagged shared in each. -/
def routesOk (x : Structure) : Bool :=
  let ms := x.routeMembers.flatMap (fun r => r.2.map (fun m => (r.1, m)))
  ms.all (fun a => a.2.shared || (match a.2.kind with
    | .remote _ => true
    | k => (ms.filter (fun b => b.2.kind == k && b.1 != a.1)).isEmpty))

/-- Stalls with loop_pwr or sensor_pwr set. -/
def powered (x : Structure) (i : Nat) : Bool := strB x .stlCfg i 7 || strB x .stlCfg i 8

/-- R240: field supply of each aisle, in 25 mA. -/
def fieldOk (x : Structure) : Bool :=
  (upTo 8).all (fun n =>
    let l := stallsOf n
    decide (20 * ((stallsIn x .do_).filter (fun i => aisleOf i == n)).length + (l.filter (powered x)).length ≤ 320))

/-- Aisle dissipation of a structure in 0.01 W (R420, THR_POWER). -/
def aisleDiss (x : Structure) : Nat :=
  640 + 10 * (stallsIn x .moist).length + 15 * (stallsIn x .do_).length + 3 * ((upTo 128).filter (powered x)).length

/-- R420: at most 21 W. -/
def dissipationOk (x : Structure) : Bool := decide (aisleDiss x ≤ 2100)

/-- The stream's unit is paired (R276, R344). -/
def strPaired (x : Structure) : Bool := strB x .pairCfg 0 0

/-- R276: pair_series asks for a paired unit and an alarm that is not LOW. -/
def seriesOk (x : Structure) : Bool :=
  (upTo 16).all (fun n => !strB x .txCfg n 0 || !strB x .txCfg n 3 || (strPaired x && strF x .txCfg n 1 2 != 0))

/-- R329: no more flagged items than a region of the tally bank holds. -/
def tallyOk (x : Structure) : Bool :=
  decide ((x.tally.map (·.slot)).Nodup) && x.tally.all (fun t => decide (16 ≤ t.slot) && decide (t.slot < 1024)) &&
  decide (((typed x.insts .runHours).filter (fun p => p.2.tally)).foldl (fun n p => n + p.2.items) 0 ≤ 512) &&
  decide (x.tallyBsk.length ≤ 2048)

/-- R346: flagged block states and baskets fed by market ingress. -/
def mirrorOk (x : Structure) : Bool :=
  decide (((x.insts.filter (fun p => p.2.mirror)).map (fun p => p.2.typ.stateSize.1 + p.2.typ.stateSize.2 * p.2.items)).sum ≤ 65536) &&
  decide (x.ingress.length ≤ 2048)

/-- R383: a range whose owner survives a patch grows or stays. -/
def rangesGrow (base x : Structure) : Bool :=
  base.ranges.all (fun r => x.ranges.all (fun q => q.owner != r.owner || (decide (q.lo ≤ r.lo) && decide (r.hi ≤ q.hi))))

/-- R55: direction code 3 is rejected. R63's type codes. -/
def staticsOk (x : Structure) : Bool := x.statics.all (fun p => decide (p.2.dir ≤ 2) && decide (p.2.typ ≤ 8))

/-- R445: the worst-case rate is within the budget of WAX_CFG, in 0.1 MB/s. -/
def waxFits (x : Structure) : Bool := decide (x.waxRate ≤ 100000 * (if strHas x .waxCfg 0 then strF x .waxCfg 0 0 6 else 50))

/-- Step 10 of R377. -/
def rulesOk (s : State) (full : Bool) (base x : Structure) : Bool :=
  writersOk x && wicksOk x && moistOk x && colsOk x && mirrorFits x && dryingOk x && placementOk x && memoryOk (allInsts s x) &&
  rowsOk (allInsts s x) x && basketsOk x && itemsOk x && loopsOk x && tapersOk x && motorsOk x && routesOk x && fieldOk x &&
  dissipationOk x && seriesOk x && tallyOk x && mirrorOk x && (full || rangesGrow base x) && staticsOk x && waxFits x

/-! ## Steps 11 and 12 -/

/-- Codes permitted for a kind and item (R376). -/
def codeOk (x : Structure) (e : PairEntry) : Bool :=
  match e.kind with
  | 1 => e.code == 1
  | 2 => e.code == 1
  | 3 => e.code == (if strB x .txCfg e.index 3 then 3 else 4)
  | 4 => e.code == 2 || (e.code == 4 && strF x .stlCfg e.index 12 2 != 1)
  | 5 =>
    let m := StallMode.ofCode (strF x .stlCfg e.index 0 4)
    e.code == 6 || (e.code == 5 && (m == .aiV || (m == .di && !strB x .stlCfg e.index 5))) || (e.code == 3 && m == .aiMa)
  | 6 => e.code == 5 && decide (e.index < 48)
  | _ => false

/-- Every item that needs an entry, as (kind, index) (R376). -/
def needsEntry (x : Structure) : List (Nat × Nat) :=
  ((upTo 16).filter (fun m => strB x .motCfg m 0)).map (fun m => (1, m)) ++
  ((upTo 32).filter (fun v => strB x .solCfg v 0)).map (fun v => (2, v)) ++
  ((upTo 16).filter (fun n => strB x .txCfg n 0)).map (fun n => (3, n)) ++
  (stallsIn x .do_).map (fun i => (4, i)) ++
  ((upTo 128).filter (fun i => match StallMode.ofCode (strF x .stlCfg i 0 4) with
    | .disabled => false | .do_ => false | _ => true)).map (fun i => (5, i)) ++
  ((upTo 48).filter (fun w => strKind x w != 0 && strKind x w != 4)).map (fun w => (6, w))

/-- Step 11 of R377. -/
def pairEntriesOk (x : Structure) : Bool :=
  !strPaired x ||
  ((needsEntry x).all (fun q => x.pairEntries.any (fun e => e.kind == q.1 && e.index == q.2)) && x.pairEntries.all (codeOk x))

/-- Ports and stalls that an instance writes. -/
def outPorts (l : List (Nat × Inst)) : List Dst :=
  l.flatMap (fun p => p.2.outs.filter (fun d => match d with
    | .torque _ => true | .tx _ => true | .stall _ => true | .sol _ => true | _ => false))

/-- Step 12 of R377: nothing that retires is used again. -/
def retiringOk (s : State) (x : Structure) : Bool :=
  s.hld.retiring.all (fun r =>
    !strB x .pclCfg r.col 0 && r.insts.all (fun i => (lookup x.insts i).isNone) && r.baskets.all (fun b => (lookup x.baskets b).isNone)) &&
  (outPorts (retInsts s)).all (fun d => !(outPorts x.insts).contains d)

/-! ## The order of R377 -/

/-- A key slot holds an unrevoked key for streams (R430). -/
def streamKeyOk (s : State) (slot : Nat) : Bool :=
  match lookup s.mgt.otp slot with
  | some (.stream, _) => true
  | _ => false

/-- Validation of an image against the structure it applies to: the code of the first failed step, or OK (R377). -/
def validate (s : State) (base : Structure) (img : StreamImg) : HldCode :=
  let x := img.result
  if !(img.headerOk && decide (img.length ≤ 16777216) && (img.hasIdentity || !img.secs.isEmpty)) then .format
  else if img.stepping ≠ 0xB1 then .stepping
  else if !(img.sigOk && streamKeyOk s img.keySlot) then .signature
  else if img.version < s.mgt.floorStr then .rollback
  else if !secsOk img then .badSection
  else if structHash (mergeSecs base img) ≠ img.hash then .hash
  else if !img.full && img.baseHash != base.hash then .base
  else if !recordsOk img then .record
  else if !facesOk x then .faceValue
  else if !capacityOk s x then .capacity
  else if !rulesOk s img.full base x then .rule
  else if !pairEntriesOk x then .pairCombine
  else if !img.full && !retiringOk s x then .retiring
  else .ok

/-- The structure an accepted image gives: its contents under its hash, its number and, for a patch, the base's version and
identity (R375, R390, R372). -/
def resultOf (base : Structure) (img : StreamImg) : Structure :=
  { img.result with
    secs := mergeSecs base img, hash := img.hash, patchNo := if img.full then 0 else img.patchNo,
    version := if img.full then img.version else base.version, mirrorVer := img.result.mirrorVer,
    ident := if img.full then img.result.ident else base.ident }

/-- HLD_RESULT after an operation (R390). Which section and record a rejection names is free where several could be named
(log entry 7). -/
def hldResult (s : State) (op : Nat) (c : HldCode) : State :=
  let named : Bool := match c with
    | .badSection => true | .record => true | .faceValue => true | .capacity => true | .rule => true | .pairCombine => true
    | .retiring => true | _ => false
  let s1 := if named then useFree s else s
  { s1 with hld := { s1.hld with
      code := c.code, op := op, section_ := if named then Config.freeNat s.free % 256 else 0,
      record := if named then Config.freeNat s.free / 256 % 65536 else 0xFFFF } }

end Sys2Proof.Machine
end

