-- ==== Sys2Proof/Machine/Install.lean ====
section
/-!
DEFINITION. Placing a structure (R379, R383 to R386): what the commit of a stream and the application of a patch do to registers,
instances, baskets, wicks, stalls, columns and ports. A commit is a placement over the empty structure.
-/
namespace Sys2Proof.Machine

open Sys2Proof

/-! ## Register words (R386) -/

/-- The RW fields of the words that hold more than one field of the stream, as (bit, width); any other word is one field. -/
def rwFields (r : RegName) : List (Nat × Nat) :=
  match r with
  | .wckTiming => [(0, 14), (16, 4)]
  | .mstProc => [(0, 4), (16, 16)]
  | .pclTol => [(0, 8), (16, 14)]
  | .dryTune => [(0, 12), (12, 7), (20, 12)]
  | .dryAdapt => [(0, 8), (8, 8), (16, 8), (24, 8)]
  | .dryFb => [(0, 10), (10, 6), (16, 12)]
  | .dryCool => [(0, 5), (8, 10), (18, 14)]
  | .dryNight => [(0, 16), (16, 16)]
  | .heatTrim => [(0, 8), (8, 8), (16, 8)]
  | .aerBand => [(0, 10), (10, 10), (20, 10)]
  | .aerTimes => [(0, 16), (16, 16)]
  | .aerLimits => [(0, 8), (8, 8)]
  | .loopTune => [(0, 6), (6, 7), (13, 7), (20, 4)]
  | .loopSupTime => [(0, 16), (16, 16)]
  | .loopSupConf => [(0, 9), (9, 7), (16, 12)]
  | .loopStuck => [(0, 13), (13, 8), (21, 10)]
  | .motLimits => [(0, 11), (11, 10)]
  | .motBus => [(0, 10), (10, 10), (20, 10)]
  | .motFan => [(0, 10), (10, 8), (18, 4), (22, 10)]
  | .motStart => [(0, 8), (8, 8), (16, 8), (24, 8)]
  | .motBrake => [(0, 8), (8, 8), (16, 8), (24, 8)]
  | .motTemp => [(0, 8), (8, 8), (16, 8), (24, 8)]
  | .gateHome => [(0, 8), (8, 8), (16, 8), (24, 8)]
  | .gateWin => [(0, 16), (16, 16)]
  | .routeTimes => [(0, 10), (10, 6), (16, 7)]
  | .cblLimits => [(0, 8), (8, 8)]
  | .txClamp => [(0, 16), (16, 16)]
  | .solPeak => [(0, 12), (12, 14)]
  | .solPwm => [(0, 12), (12, 4)]
  | .solDuty => [(0, 7), (8, 13)]
  | .solLimits => [(0, 12), (12, 6), (18, 8)]
  | .mktGate => [(0, 7), (7, 7), (14, 11)]
  | .thrPolLevels => [(0, 8), (8, 8)]
  | _ => [(0, 32)]

/-- The other word of a 64-bit RW pair that the stream gives (R7): the pair is one field. -/
def pairMate (r : RegName) : Option RegName :=
  match r with
  | .tprXaLo => some .tprXaHi
  | .tprXaHi => some .tprXaLo
  | .tprXbLo => some .tprXbHi
  | .tprXbHi => some .tprXbLo
  | .gateOfsLo => some .gateOfsHi
  | .gateOfsHi => some .gateOfsLo
  | _ => none

/-- The face bit of the instance that a register belongs to; an instance without one counts as expert. -/
def faceIn (x : Structure) (r : RegName) (i : Nat) : Bool :=
  match (regDesc r).face with
  | some (f, b) => strB x f i b
  | none => true

/-- Expert fields of an item that turns from expert to basic face: they take the record's values (R385). -/
def basicTurn (old new : Structure) (r : RegName) (i : Nat) : W32 :=
  if faceIn old r i && !faceIn new r i then (if (regDesc r).expert then 0xFFFFFFFF#32 else (regDesc r).xmask) else 0#32

/-- A word of an item that stays (R386): RWL and stream fields as the new stream has them; an RW field keeps its present value
unless its stream value changes; at a change from expert to basic face the expert fields take the record's value (R385). -/
def mergeWord (old new : Structure) (r : RegName) (i : Nat) (present : W32) : W32 :=
  let d := regDesc r
  let a := regAddr r i
  let o := (lookup old.words a).getD d.reset
  let n := (lookup new.words a).getD d.reset
  let mate : Bool := match pairMate r with
    | some q => strRd old q i != strRd new q i
    | none => false
  let changed := (rwFields r).foldl (fun (m : W32) (f : Nat × Nat) =>
    if mate = true ∨ fld o f.1 f.2 ≠ fld n f.1 f.2 then m ||| put f.1 f.2 (2 ^ f.2 - 1) else m) 0#32
  let keep := ((d.rw &&& ~~~ changed) &&& ~~~ basicTurn old new r i) ||| d.w1c
  (present &&& keep) ||| (n &&& ~~~ keep)

/-- A word as it stands for the patch: without what the host has written in the frame before F_a, which belongs to F_a's input set. -/
def beforeHost (s : State) (r : RegName) (i : Nat) : W32 :=
  if s.glb.wrote.contains (regAddr r i) then (regW s r i &&& ~~~(regDesc r).rw) ||| (regN s r i &&& (regDesc r).rw) else regW s r i

/-- A host write that belongs to the input set of F_a applies to the new structure (R386); `s` before, `u` after the patch's words. To a
removed item it reports ACCESS_UNMAPPED, out of range ACCESS_RANGE, and has no effect. -/
def hostWord (old new : Structure) (s u : State) (a : Nat) : State :=
  match decodeAddr a with
  | none => u
  | some (r, i) =>
    if (lookup old.words a).isNone then u
    else if (lookup new.words a).isNone then report u hostReq a .unmapped
    else
      let m := (regDesc r).rw &&& ~~~ basicTurn old new r i
      let w := (regW u r i &&& ~~~ m) ||| (regW s r i &&& m)
      if wordOk (rdWith (fun r i => regW u r i) r i w) new r i then setRegW u r i w else report u hostReq a .range

/-- Places the words of a structure: added words are taken, kept ones merged, removed ones read their reset value; then the host's writes
of the frame before. -/
def placeWords (old new : Structure) (s : State) : State :=
  let s1 := old.words.foldl (fun s p =>
    if (lookup new.words p.1).isSome then s
    else match decodeAddr p.1 with | some (r, i) => setRegW s r i (regDesc r).reset | none => s) s
  let s2 := new.words.foldl (fun s p =>
    match decodeAddr p.1 with
    | some (r, i) =>
      if (lookup old.words p.1).isSome then setRegW s r i (mergeWord old new r i (beforeHost s r i))
      else setRegW s r i (p.2 ||| (regW s r i &&& (regDesc r).w1c))
    | none => s) s1
  s.glb.wrote.foldl (hostWord old new s) s2

/-! ## Retiring columns (R383) -/

/-- Instances that keep running for a retiring column: its COL_TRACK and DRY_COLUMN. -/
def colInsts (x : Structure) (c : Nat) : List (Nat × Inst) :=
  x.insts.filter (fun p => (p.2.typ == .colTrack || p.2.typ == .dryColumn) && p.2.idx == c)

/-- Baskets that instances read or write. -/
def basketsUsed (l : List (Nat × Inst)) (x : Structure) : List Nat :=
  let outs := l.flatMap (fun p => p.2.outs.filterMap (fun d => match d with | .basket b => some b | _ => none))
  let ins := l.flatMap (fun p => p.2.ins.filterMap (fun i => match i with | .basket b => some b | _ => none))
  (x.baskets.filter (fun p => outs.contains p.1 || ins.contains p.1 || l.any (fun q => q.1 == p.2.consumer))).map (·.1)

/-- The retirement of one column. -/
def retireOf (x : Structure) (c : Nat) : Retiring :=
  let l := colInsts x c
  { col := c, insts := l.map (·.1), baskets := basketsUsed l x }

/-- Words of a column's own registers and of its drying registers. -/
def colWords (x : Structure) (c : Nat) : List (Nat × W32) :=
  x.words.filter (fun p => (decide (0xC00000 + 0x100 * c ≤ p.1) && decide (p.1 < 0xC00100 + 0x100 * c)) ||
                           (decide (0xC20000 + 0x100 * c ≤ p.1) && decide (p.1 < 0xC20100 + 0x100 * c)))

/-- Columns that a patch removes and that are still in use. -/
def removedCols (s : State) (old new : Structure) : List Nat :=
  (strCols old).filter (fun c => !(strCols new).contains c && (colOf s c).st != .disabled)

/-- What a structure keeps of an older one for the columns that retire. -/
def keepRetiring (rs : List Retiring) (old new : Structure) : Structure :=
  rs.foldl (fun x r =>
    { x with
      insts := (old.insts.filter (fun p => r.insts.contains p.1)).foldl (fun l p => spPut l p.1 p.2) x.insts,
      baskets := (old.baskets.filter (fun p => r.baskets.contains p.1)).foldl (fun l p => spPut l p.1 p.2) x.baskets,
      words := (colWords old r.col).foldl (fun l p => spPut l p.1 p.2) x.words,
      dry := match lookup old.dry r.col with | some d => spPut x.dry r.col d | none => x.dry,
      colReport := match lookup old.colReport r.col with | some b => spPut x.colReport r.col b | none => x.colReport }) new

/-! ## Instances (R383, R384) -/

/-- MOTOR_CTRL's own state in a port: parameters, derate factor, decisions, commands, nightlight, the retry count (R153). -/
def Motor.freshCtrl (x : Motor) : Motor :=
  { x with par := [], g := none, zeroSince := none, next := x.next.filter (· == .stall), cmds := [], given := [], night := false, retryAt := 0 }

/-- FAN_SUPERVISE's own state in a port (R153). -/
def Motor.freshFan (x : Motor) : Motor :=
  { x with belowSince := none, aboveSince := none, stalls := 0, next := x.next.filter (· != .stall) }

/-- MOTOR_OBSERVER's own state in a port (R153). -/
def Motor.freshObs (x : Motor) : Motor :=
  { x with obsSpeed := 0#32, obsAngle := 0, obsValid := false, obsAt := 0, obsBadSince := none, nextObs := none }

/-- An added instance starts from its initial state (R153). -/
def placeInst (s : State) (p : Nat × Inst) : State :=
  let s1 := setBlk s p.1 BlockSt.reset
  let j := p.2.idx
  match p.2.typ with
  | .taper => setTaper s1 j Taper.reset
  | .taperCoord => setTaper s1 j { Taper.reset with
      xa := regI64 s1 .tprXaLo .tprXaHi j, xb := regI64 s1 .tprXbLo .tprXbHi j, ya := regW s1 .tprYa j, yb := regW s1 .tprYb j }
  | .moistProc => setChan s1 j (chanOf s1 j).kept
  | .dryColumn => setDry s1 j (dryOf s1 j).kept
  | .dryHeat => setHeat s1 j Heat.reset
  | .aerSilo => setAer s1 j Aer.reset
  | .routeSeq => setRoute s1 j Route.reset
  | .homing => setGate s1 j { (gateOf s1 j).kept with nStar := (gateOf s1 j).nStar }
  | .positionLoop => setGate s1 j { gateOf s1 j with nStar := 0#32, inPos := false, winSince := none, moving := false }
  | .motorCtrl => setMot s1 j { (motOf s1 j).freshCtrl with par := if (motOf s1 j).st = .disabled then [] else motParRegs s1 j }
  | .motorObserver => setMot s1 j (motOf s1 j).freshObs
  | .fanSupervise => setMot s1 j (motOf s1 j).freshFan
  | .energyMeter => setMot s1 j { motOf s1 j with energy := 0, pendE := 0 }
  | .solenoidCtrl => setSol s1 j { solOf s1 j with inbox := [], nextCmd := [] }
  | .txOut => setTx s1 j { txOf s1 j with misSince := none, nextCmd := none }
  | .diverter => { s1 with motor := { s1.motor with div := spDel s1.motor.div j } }
  | .beltSlip => setSlip s1 j Slip.reset
  | .cableCheck => { s1 with aisle := { s1.aisle with cbl := spDel s1.aisle.cbl j } }
  | .thermalPolicy => setPol s1 j Policy421.reset
  | t => if isLaw t then setLoop s1 j Loop.reset else s1

/-- A slot of a removed owner's range: ARMED and HELD slots are freed; an OPEN window executes its end action first (R383). -/
def freeSlot (s : State) (i : Nat) : State :=
  let x := slotOf s i
  match x.st with
  | .armed => setSlot s i Slot.free
  | .held => setSlot s i Slot.free
  | .open_ =>
    if i = winBase i then setSlot (setSlot (runAct s (i + 1)) i Slot.free) (i + 1) Slot.free else s
  | _ => s

/-- The range of an owner that a patch removes. -/
def freeRange (s : State) (r : LampRange) : State :=
  forEach ((s.llt.slots.map (·.1)).filter (fun i => decide (r.lo ≤ i) && decide (i ≤ r.hi))) s freeSlot

/-- A removed instance: its tags are freed, so replies to them count as stray; its private state goes (R383). -/
def removeInst (s : State) (i : Nat) : State :=
  setBlk { s with eng := { s.eng with tags := s.eng.tags.filter (fun g => g.2.requester != i) } } i BlockSt.reset

/-! ## Baskets (R383) -/

/-- A basket that is removed: its messages are discarded and counted as drops. -/
def emptyBsk (s : State) (b : Nat) : State :=
  let x := bskOf s b
  let n := x.msgs.length
  let y := { Basket.reset with drops := satAdd 16 x.drops n, overwrites := x.overwrites, peak := x.peak,
                               dropped := x.dropped || decide (0 < n), overwritten := x.overwritten, refusedFull := x.refusedFull,
                               creditViol := x.creditViol, lengthErr := x.lengthErr }
  let s1 := setBsk s b y
  if 0 < n then bskAny s1 0 else s1

/-- A basket whose depth changes: the oldest messages stay, up to the new depth. -/
def cutBsk (s : State) (b depth : Nat) : State :=
  let x := bskOf s b
  let n := x.msgs.length - depth
  let s1 := setBsk s b { x with msgs := x.msgs.take depth, head := x.head % max 1 depth, taken := min x.taken depth,
                                drops := satAdd 16 x.drops n, dropped := x.dropped || decide (0 < n) }
  if 0 < n then bskAny s1 0 else s1

/-- Effects on one basket number. -/
def placeBsk (old new : Structure) (s : State) (b : Nat) : State :=
  match lookup old.baskets b, lookup new.baskets b with
  | none, some _ => setBsk s b Basket.reset
  | some _, none => emptyBsk s b
  | some o, some n =>
    if o.width ≠ n.width ∨ o.policy ≠ n.policy ∨ o.consumer ≠ n.consumer then emptyBsk s b
    else if o.depth ≠ n.depth then cutBsk s b n.depth else s
  | none, none => s

/-! ## Wicks, stalls, ports, columns -/

/-- State in which a wick starts at commit, on leaving dormant mode and when its source changes (R41, R46, R52), with WCK_TIMING as
the stream has it. -/
def wickStart (s : State) (w : Nat) : State :=
  let x := { wickOf s w with timing := regW s .wckTiming w, speed := 0, stillFrom := none }
  match wickKind s w with
  | .none => setWick s w { x with st := .disabled, timing := 0#32 }
  | .mains => setWick s w { x with st := .lost, startLost := true, goodPeriods := 0, badPeriods := 0 }
  | _ => setWick s w { x with st := .still, startLost := false, goodAt := none }

/-- Fields of a wick's record whose change counts as another source (R383). -/
def wickSource (x : Structure) (w : Nat) : List W32 :=
  [strRd x .wckCfg w &&& 0xF#32, strRd x .wckSrc w, strRd x .wckRatio w, strRd x .wckDiv w]

/-- A wick of a patch: another kind or source starts at count 0 in STILL (R383). -/
def patchWick (old new : Structure) (s : State) (w : Nat) : State :=
  if wickSource old w = wickSource new w ∧ lookup old.subPaths w = lookup new.subPaths w ∧ lookup old.subPairs w = lookup new.subPairs w then s
  else
    let s1 := setWick s w { Wick.reset with losses := (wickOf s w).losses, phaseErrors := (wickOf s w).phaseErrors,
                                            hallCode := (wickOf s w).hallCode }
    let s2 := setRegW s1 .wckStatus w (regW s1 .wckStatus w &&& ~~~ 0x500#32)
    logEv (wickStart s2 w) (srcWick w) .wickReplaced w

/-- Records of a stall that are still in flight are discarded, on the aisle and in the core (R244). -/
def dropStall (s : State) (i : Nat) : State :=
  let n := aisleOf i
  let mine := fun (r : UpRec) => match r with | .sample k _ _ _ _ _ => k == i | .edge k _ _ _ => k == i | .cnt k _ _ _ => k == i
  let a := aisOf s n
  let s1 := setAis s n { a with edges := a.edges.filter (fun r => !mine r), recs := a.recs.filter (fun r => !mine r),
                                timed := a.timed.filter (fun d => d.stall != i), toSend := a.toSend.filter (fun d => d.stall != i),
                                sendConfig := true }
  forEach (upTo 4) s1 (fun s k =>
    let c := 4 * n + k
    if mstStall s c = i then
      let x := chanOf s c
      setChan s c { x with sets := [], seq := (x.seq + x.sets.length) % 2 ^ 32 }
    else s)

/-- A stall of a patch (R244, R256): a new mode starts anew, a DO stall OFF; a new record is sent to its aisle. -/
def patchStall (old new : Structure) (s : State) (i : Nat) : State :=
  if strRd old .stlCfg i = strRd new .stlCfg i ∧ strRd old .stlOpt i = strRd new .stlOpt i then s
  else if strF old .stlCfg i 0 4 ≠ strF new .stlCfg i 0 4 then
    setStl (dropStall (if (stlOf s i).aLevel then setLevel s i false else s) i) i Stall.reset
  else setAis s (aisleOf i) { aisOf s (aisleOf i) with sendConfig := true }

/-- A solenoid port of a structure: enabled it enters OFF, removed its gates are low and it is DISABLED (R281, R383). -/
def placeSol (s : State) (v : Nat) : State :=
  let on := regB s .solCfg v 0
  let p := solOf s v
  if on ∧ p.st = .disabled then
    let s1 := setSol s v { SolPort.reset with st := .off, gated := !driving s }
    if driving s then solEnable s1 v s.now else s1
  else if on = false ∧ p.st ≠ .disabled then
    let s1 := solGateOff s v s.now
    setSol s1 v { solOf s1 v with st := .disabled }
  else s

/-- Geometry of a column whose change counts as another column (R383). -/
def colShape (x : Structure) (c : Nat) : List W32 :=
  [strRd x .pclCfg c &&& 0xFFF7E#32, strRd x .pclPlen c, strRd x .pclOriginLo c, strRd x .pclOriginHi c]

/-- A column of a patch. -/
def patchCol (old new : Structure) (s : State) (c : Nat) : State :=
  let was := (strCols old).contains c
  let is := (strCols new).contains c
  if is ∧ (was = false ∨ colShape old c ≠ colShape new c) then
    restoreDry (restoreCol (setCol s c { (colOf s c).kept with st := .restoring }) c) c
  else if was ∧ is = false ∧ (colOf s c).st ≠ .disabled then setCol s c { colOf s c with st := .draining }
  else s

/-- A moisture channel of a patch: another grain table, or another content of it, empties the window and holds for sets of frames
from F_a on (R94). -/
def patchChan (old new : Structure) (s : State) (c : Nat) : State :=
  let o := strF old .mstCfg c 4 6
  let n := strF new .mstCfg c 4 6
  if strHas new .mstCfg c ∧ (o ≠ n ∨ lookup old.grain n ≠ lookup new.grain n) then
    let t := (s.now / frameNs - 1) * frameNs
    let x := chanOf s c
    selectTable (setChan s c { x with tabPrev := o, tabFrom := t, winFrom := t }) c n
  else s

/-- Grain tables that the structure carries go to MRAM (R86, R379, R383). -/
def placeGrain (new : Structure) (s : State) : State :=
  new.grain.foldl (fun s g => { s with moist := { s.moist with grain := spPut s.moist.grain g.1 g.2 } }) s

/-- The instances of a structure, against those of the one before (R383): removed ones first, then added ones. One of the same
number and type keeps its state, wherever it is placed (R384). -/
def placeInsts (old new : Structure) (s : State) : State :=
  let same := fun (x : Structure) (p : Nat × Inst) => match lookup x.insts p.1 with | some y => y.typ == p.2.typ | none => false
  let gone := (old.insts.filter (fun p => !same new p)).map (·.1)
  let s1 := gone.foldl removeInst s
  let s2 := (old.ranges.filter (fun r => !new.ranges.any (fun q => q.owner == r.owner) ||
    (match r.owner with | .inst i => gone.contains i | _ => false))).foldl freeRange s1
  (new.insts.filter (fun p => !same old p)).foldl placeInst s2

/-- Places a structure over the one in force, at one instant (R379, R383). `retire` names the columns that go on retiring. -/
def install (new : Structure) (retire : List Retiring) (s : State) : State :=
  let old := s.hld.str
  let full := keepRetiring retire old new
  let s1 := placeWords old full { s with hld := { s.hld with str := full, retiring := retire } }
  let s2 := placeInsts old full (placeGrain new s1)
  let bs := (old.baskets.map (·.1)) ++ ((full.baskets.map (·.1)).filter (fun b => (lookup old.baskets b).isNone))
  let s3 := bs.foldl (placeBsk old full) s2
  let s4 := forEach (upTo 128) s3 (patchStall old new)
  let s5 := forEach ((upTo 16).filter (fun m => strB old .motCfg m 0 != strB full .motCfg m 0)) s4 motCommit
  noteWorst (forEach (upTo 32) s5 placeSol)

/-- The device frees what a retired column kept and tells it by an event (R383). -/
def freeRetired (s : State) (r : Retiring) : State :=
  let old := s.hld.str
  let new := { old with
    insts := old.insts.filter (fun p => !r.insts.contains p.1), baskets := old.baskets.filter (fun p => !r.baskets.contains p.1),
    words := old.words.filter (fun p => (lookup (colWords old r.col) p.1).isNone), dry := spDel old.dry r.col,
    colReport := spDel old.colReport r.col }
  logEv (install new (s.hld.retiring.filter (fun q => q.col != r.col)) s) (srcDev 0) .columnRetired r.col

/-- Columns that have reached DISABLED are done retiring. -/
def endRetiring (s : State) : State :=
  (s.hld.retiring.filter (fun r => (colOf s r.col).st == .disabled)).foldl freeRetired s

end Sys2Proof.Machine
end

