-- ==== Sys2Proof/Machine/Undo.lean ====
section
/-!
DEFINITION. A run that has no effect (R158, R160): the instance's state, its posts and its port commands as they were before the run. What
commands and events changed since the run stays.
-/
namespace Sys2Proof.Machine

open Sys2Proof

/-! ## What a run leaves beside its state -/

/-- Status words in which a run of an instance sets sticky bits. -/
def statusRegs (x : Inst) : List (RegName × Nat) :=
  match x.typ with
  | .piLoop => [(.loopStatus, x.idx)]
  | .pidLoop => [(.loopStatus, x.idx)]
  | .pi2dof => [(.loopStatus, x.idx)]
  | .ratioLoop => [(.loopStatus, x.idx)]
  | .speedLoop => [(.loopStatus, x.idx)]
  | .loopSupervise => [(.loopStatus, x.idx)]
  | .taper => [(.tprStatus, x.idx)]
  | .taperCoord => [(.tprStatus, x.idx)]
  | .homing => [(.gateStatus, x.idx)]
  | .positionLoop => [(.gateStatus, x.idx)]
  | .routeSeq => [(.routeStatus, x.idx)]
  | .beltSlip => [(.slipStatus, x.idx)]
  | .diverter => [(.divStatus, x.idx)]
  | .colTrack => [(.pclStatus, x.idx)]
  | .dryColumn => [(.dryStatus, x.idx)]
  | .thermalPolicy => [(.thrPolStatus, x.idx)]
  | .txOut => [(.txStatus, x.idx)]
  | .diagSweep => [(.aisSweepStatus, x.idx)]
  | _ => []

/-- The sticky bits that a run has newly set, and the events it has queued. -/
def markOf (old new : State) (p : Nat × Inst) : RunMark :=
  { inst := p.1,
    bits := (statusRegs p.2).filterMap (fun q =>
      let b := regW new q.1 q.2 &&& ~~~(regW old q.1 q.2) &&& (regDesc q.1).w1c
      if b = 0#32 then none else some (regAddr q.1 q.2, b)),
    evs := old.rec_.queue.foldl List.erase new.rec_.queue }

/-- The marks of a run are taken back. -/
def undoMark (s : State) (m : RunMark) : State :=
  let s1 := m.bits.foldl (fun s p => match decodeAddr p.1 with
    | some (r, i) => setRegW s r i (regW s r i &&& ~~~p.2)
    | none => s) s
  { s1 with rec_ := { s1.rec_ with queue := m.evs.foldl (fun q e => q.erase e) s1.rec_.queue } }

/-! ## Records, field by field: `b` before the run, `s` now -/

/-- A taper: what its block keeps; inputs of others and later commands stay. -/
def undoTaper (b s : Taper) : Taper := { b with cmds := b.cmds ++ s.cmds, forced := s.forced, held := s.held, trackV := s.trackV }

/-- A loop's supervisor. -/
def undoSup (b s : Loop) : Loop := { b.withLaw s with cmds := b.cmds ++ s.cmds }

/-- MOTOR_CTRL's part of a port. -/
def undoCtrl (b s : Motor) : Motor :=
  { s with par := b.par, cmds := b.cmds ++ s.cmds, g := b.g, fallback := b.fallback || s.fallback, zeroSince := b.zeroSince,
           offset := if b.fallback && !s.fallback then b.offset else s.offset,
           offsetValid := if b.fallback && !s.fallback then b.offsetValid else s.offsetValid,
           next := s.next.filter (· == .stall) }

/-- FAN_SUPERVISE's part of a port. -/
def undoFan (b s : Motor) : Motor :=
  { s with belowSince := b.belowSince, aboveSince := b.aboveSince, stalls := b.stalls, next := s.next.filter (· != .stall) }

/-- HOMING's part of a gate. -/
def undoHoming (b s : Gate) : Gate :=
  { s with home := b.home, fault := b.fault, homed := b.homed, trips := b.trips, startAt := b.startAt, passFrom := b.passFrom, stopping := b.stopping,
           ran := b.ran, wasFwd := b.wasFwd, wasRev := b.wasRev, speedTgt := b.speedTgt, moving := b.moving, cmds := b.cmds.filter (· != .move) ++ s.cmds }

/-- POSITION_LOOP's part of a gate. -/
def undoPosition (b s : Gate) : Gate :=
  { s with nStar := b.nStar, winSince := b.winSince, inPos := b.inPos, moving := b.moving, cmds := b.cmds.filter (· == .move) ++ s.cmds }

/-- A moisture channel: the block's window, output, latches and running sums. -/
def undoChan (t : Nat) (b s : MoistCh) : MoistCh :=
  let same := b.op == s.op
  { s with inbox := b.inbox.filter (fun p => decide (p.1 < t)) ++ s.inbox, win := b.win, out := b.out, eps := b.eps, validSets := b.validSets,
           fouled := b.fouled, uncAt := b.uncAt, uncSum := b.uncSum, uncN := b.uncN, ratioAt := b.ratioAt, condA := b.condA,
           condB := b.condB, uncLatched := b.uncLatched, left := if same then b.left else s.left, acc := if same then b.acc else s.acc,
           accM2 := if same then b.accM2 else s.accM2, accTg := if same then b.accTg else s.accTg, accRho := if same then b.accRho else s.accRho,
           accStamp := if same then b.accStamp else s.accStamp, accCoord := if same then b.accCoord else s.accCoord,
           good := if same then b.good else s.good, anyUncovered := if same then b.anyUncovered else s.anyUncovered }

/-- Each parcel of `x`, changed by what another column holds of its serial. -/
def Column.joined (x y : Column) (f : Parcel → Parcel → Parcel) : Column :=
  let step := fun (q : Parcel × Nat) => match (y.idx (x.k - (q.2 : Int))).bind y.at_ with | some p => f q.1 p | none => q.1
  let l := x.all.zipIdx.map step
  { x with table := l.take x.table.length, shadow := l.drop x.table.length }

/-- COL_TRACK's part of a column: parcels as before, with the model's fields as they are now. -/
def undoCol (b s : Column) : Column :=
  let ck := b.cmds.contains .checkpoint
  { b.joined s Parcel.withModel with
    cmds := b.cmds ++ s.cmds, imgA := if ck then b.imgA else s.imgA, imgB := if ck then b.imgB else s.imgB,
    nextB := if ck then b.nextB else s.nextB, writing := if ck then b.writing else s.writing }

/-- DRY_COLUMN's part of a column's parcels; one that nothing else has changed counts its change no more (R109). -/
def undoSlice (b s : Column) : Column :=
  s.joined b (fun p q => let r := p.withModel q; if r.differs q then r else { r with upd := q.upd })

/-- DRY_COLUMN's own state; the drying records are in MRAM. -/
def undoDry (b s : Dry) : Dry := { b with cmds := b.cmds ++ s.cmds, recs := s.recs }

/-! ## The instance -/

/-- What an instance of a type keeps in records of its own chapter, as it was before the run. -/
def undoState (b s : State) (x : Inst) : State :=
  let j := x.idx
  let law := fun (s : State) =>
    let s1 := setLoop s j ((loopOf s j).withLaw (loopOf b j))
    match (if x.typ = .speedLoop then (x.id? 0).bind (motTaper s) else x.id? 1) with
    | some t => setTaper s1 t { taperOf s1 t with trackV := (taperOf b t).trackV }
    | none => s1
  let forcedBack := fun (s : State) => match motTaper s j with
    | some t => setTaper s t { taperOf s t with forced := (taperOf b t).forced }
    | none => s
  match x.typ with
  | .piLoop => law s
  | .pidLoop => law s
  | .pi2dof => law s
  | .ratioLoop => law s
  | .speedLoop => law s
  | .loopSupervise => setLoop s j (undoSup (loopOf b j) (loopOf s j))
  | .taper => setTaper s j (undoTaper (taperOf b j) (taperOf s j))
  | .taperCoord => setTaper s j (undoTaper (taperOf b j) (taperOf s j))
  | .motorCtrl => forcedBack (setMot s j (undoCtrl (motOf b j) (motOf s j)))
  | .motorObserver => setMot s j { motOf s j with nextObs := (motOf b j).nextObs }
  | .fanSupervise => setMot s j (undoFan (motOf b j) (motOf s j))
  | .energyMeter => setMot s j { motOf s j with energy := (motOf b j).energy, pendE := (motOf b j).pendE + (motOf s j).pendE }
  | .homing =>
    let w := posWick s j
    let s1 := setWick (setGate s j (undoHoming (gateOf b j) (gateOf s j))) w { wickOf s w with pending := (wickOf b w).pending }
    forcedBack (setMot s1 j { motOf s1 j with given := (motOf b j).given })
  | .positionLoop =>
    let s1 := setGate s j (undoPosition (gateOf b j) (gateOf s j))
    (match posTaper s j with
     | some t => setTaper s1 t { taperOf s1 t with held := (taperOf b t).held }
     | none => s1)
  | .solenoidCtrl => setSol s j { solOf s j with inbox := (solOf b j).inbox ++ (solOf s j).inbox }
  | .txOut =>
    let p := txOf b j
    let q0 := txOf s j
    let q := { q0 with readback := p.readback, rbSum := fAdd p.rbSum q0.rbSum, rbN := p.rbN + q0.rbN }
    setTx s j (if q.st = .fault ∧ p.st = .drive ∧ p.misSince.isSome = true then { q with st := .drive, faults := p.faults, misSince := p.misSince }
               else { q with misSince := p.misSince })
  | .cableCheck => { s with aisle := { s.aisle with cbl := spSet (0, 0, 0) s.aisle.cbl j (spGet (0, 0, 0) b.aisle.cbl j) } }
  | .diagSweep => setAis s j { aisOf s j with sweep := (aisOf b j).sweep }
  | .moistProc => setChan s j (undoChan (s.frame * frameNs) (chanOf b j) (chanOf s j))
  | .colTrack => setCol s j (undoCol (colOf b j) (colOf s j))
  | .dryColumn => setDry (setCol s j (undoSlice (colOf b j) (colOf s j))) j (undoDry (dryOf b j) (dryOf s j))
  | .dryHeat => setHeat s j (heatOf b j)
  | .aerSilo => setAer s j { aerOf b j with minOver := (aerOf s j).minOver }
  | .routeSeq =>
    let s1 := setRoute s j { routeOf b j with cmds := (routeOf b j).cmds ++ (routeOf s j).cmds }
    { s1 with motor := { s1.motor with holds := b.motor.holds.filter (fun h => h.2 == j) ++ s1.motor.holds.filter (fun h => h.2 != j) } }
  | .beltSlip => setSlip s j (slipOf b j)
  | .diverter => { s with motor := { s.motor with div := spSet 0 s.motor.div j (spGet 0 b.motor.div j) } }
  | .thermalPolicy => setPol s j (polOf b j)
  | _ => s

/-- One port command back as it was before the run (R158): 0 torque, 1 transmitter port, 2 DO stall, 3 solenoid port. -/
def undoPort (b s : State) (d : Nat × Nat) : State :=
  match d with
  | (0, m) => setMot s m { motOf s m with nextIq := (motOf b m).nextIq }
  | (1, n) => setTx s n { txOf s n with nextCmd := (txOf b n).nextCmd }
  | (2, i) => setStl s i { stlOf s i with nextCmd := (stlOf b i).nextCmd }
  | (3, v) => setSol s v { solOf s v with nextCmd := (solOf b v).nextCmd }
  | _ => s

/-- What a run gave to the members of its route (R158). -/
def undoMembers (b s : State) (x : Inst) : State :=
  if x.typ = .routeSeq then
    ((lookup s.hld.str.routeMembers x.idx).getD []).foldl (fun s q => match q.kind with
      | .motor m => setMot s m { motOf s m with given := (motOf b m).given }
      | .gate m => setGate s m { gateOf s m with given := (gateOf b m).given }
      | _ => s) s
  else s

/-- The messages a run took are in their baskets again, its posts and overruns as before (R158). -/
def undoBaskets (b s : State) (i : Nat) (x : Inst) : State :=
  let ins := x.ins.filterMap (fun q => match q with | .basket k => some k | _ => none)
  let outs := x.outs.filterMap (fun q => match q with | .basket k => some k | _ => none)
  let mine := (s.eng.b.filter (fun p => (bdescOf s p.1).consumer == i)).map (·.1)
  let s1 := ins.foldl (fun s k => modBsk s k (fun y => { y with taken := (bskOf b k).taken })) s
  let s2 := mine.foldl (fun s k => modBsk s k (fun y => { y with overrun := (bskOf b k).overrun })) s1
  outs.foldl (fun s k => modBsk s k (fun y => { y with used := (bskOf b k).used, refusedFull := y.refusedFull && (bskOf b k).refusedFull })) s2

/-- A run of instance i has no effect (R158): state, posts, port commands, tags, arm requests, sticky bits, events. `b` is the state before
the frame's runs. -/
def undoRun (b s : State) (p : Nat × Inst) : State :=
  let i := p.1
  let s1 := setBlk (undoState b s p.2) i (blkOf b i)
  let s2 := undoBaskets b (undoMembers b ((portOuts s.hld.str p.2).foldl (undoPort b) s1) p.2) i p.2
  let s3 := (s.marks.filter (fun m => m.inst == i)).foldl undoMark s2
  { s3 with
    marks := s3.marks.filter (fun m => m.inst != i),
    eng := { s3.eng with posts := s3.eng.posts.filter (fun q => q.1 != i),
                         tags := s3.eng.tags.filter (fun q => q.2.requester != i || (lookup b.eng.tags q.1).isSome) },
    llt := { s3.llt with reqs := s3.llt.reqs.filter (fun q => q.owner != .inst i) } }

/-! ## Engine halt (R160) -/

/-- Runs of the present frame that a halt at the present time finds completed: none before t2, all from t4 on, between them a number that
the spec leaves open. -/
def runsDone (s : State) (n : Nat) : Nat :=
  if s.now < s.frame * frameNs + 2000 then 0 else if s.frame * frameNs + 120000 ≤ s.now then n else Config.freeNat s.free % (n + 1)

/-- An engine halts at once (R160): the run in progress and those still due in the frame have no effect. -/
def haltEngine (s : State) (e cause : Nat) : State :=
  if (engOf s e).halted then s
  else
    match s.before with
    | some k =>
      if frameOf s.now = s.frame ∧ relit s = false then
        let due := dueOf s e
        let gone := due.drop (runsDone s due.length)
        let s1 := gone.foldl (undoRun (withImage s k)) (useFree s)
        engHalt { s1 with wax := { s1.wax with outs := s1.wax.outs.filter (fun o => !gone.any (fun p => p.1 == o.inst)) } } e cause
      else engHalt s e cause
    | none => engHalt s e cause

end Sys2Proof.Machine
end

