-- ==== Sys2Proof/Machine/Pair.lean ====
section
/-!
DEFINITION. The pair (R341 to R370): what crosses to the peer, self-diagnosis, the pair states, take-over, the standby's self-test
and comparison, and the copy of a returning unit. The release of frame commands (R25) stands here too, because a take-over
makes one.
-/
namespace Sys2Proof.Machine

open Sys2Proof

/-- Changes the pair block. -/
def modPair (s : State) (f : PairState → PairState) : State := { s with pair := f s.pair }

/-! ## Frame commands (R25) -/

/-- The frame commands of the frame before take effect at t1 (R25): levels, cell commands, solenoid commands, motor commands. -/
def releaseCmds (s : State) (t : Nat) : State :=
  let s1 := forEach (s.aisle.st.map (·.1)) s (fun s i =>
    let x := stlOf s i
    match x.nextCmd with
    | some b => setStl s i { x with cmd := b, nextCmd := none }
    | none => s)
  let s2 := forEach (s1.tx.p.map (·.1)) s1 (fun s n =>
    let x := txOf s n
    match x.nextCmd with
    | some c => setTx s n { x with iCmd := c, nextCmd := none }
    | none => s)
  let s3 := forEach (s2.sol.map (·.1)) s2 (fun s v =>
    let cs := (solOf s v).nextCmd
    cs.foldl (fun s c => solFrameCmd s v t c) (setSol s v { solOf s v with nextCmd := [] }))
  forEach (s3.motor.gate.map (·.1)) (forEach (s3.motor.m.map (·.1)) s3 (fun s m => motRelease s m t)) gateRelease

/-- The output commands written in the present frame, by output (R346): 0 torque, 1,000 motor command, 2,000 cell current,
3,000 solenoid, 4,000 DO level, each plus the index. -/
def cmdsOf (s : State) : List (Nat × W32) :=
  let mot := s.motor.m.filterMap (fun p => p.2.nextIq.map (fun i => (p.1, i)))
  let act := s.motor.m.filterMap (fun p => p.2.next.getLast?.map (fun a => (1000 + p.1, lo32 (match a with
    | .cmd c => c.ctorIdx | .fault f => 16 + f.code | .stall => 32 | .retry => 33 | .stopped => 34 | .brakeEnd => 35))))
  let tx := s.tx.p.filterMap (fun p => p.2.nextCmd.map (fun c => (2000 + p.1, lo32 c)))
  let sol := s.sol.filterMap (fun p => p.2.nextCmd.getLast?.map (fun c => (3000 + p.1, lo32 (c.1 * 2 ^ 28 + c.2 % 2 ^ 28))))
  let do_ := s.aisle.st.filterMap (fun p => p.2.nextCmd.map (fun b => (4000 + p.1, putB 0 b)))
  mot ++ act ++ tx ++ sol ++ do_

/-- A paired unit notes its own commands of a mirror frame for the comparison (R363). -/
def noteOwnCmds (s : State) : State :=
  if isPaired s ∧ s.frame % 8 = 0 then modPair s (fun p => { p with ownCmds := ((s.frame, cmdsOf s) :: p.ownCmds).take 4 }) else s

/-! ## What crosses (R346, R350) -/

/-- State of a flagged instance as it crosses (R346). -/
def instState (s : State) (i : Nat) (x : Inst) : InstState :=
  match x.typ with
  | .piLoop => .loop (loopOf s x.idx)
  | .pidLoop => .loop (loopOf s x.idx)
  | .pi2dof => .loop (loopOf s x.idx)
  | .ratioLoop => .loop (loopOf s x.idx)
  | .speedLoop => .loop (loopOf s x.idx)
  | .loopSupervise => .loop (loopOf s x.idx)
  | .positionLoop => .gate (gateOf s x.idx)
  | .homing => .gate (gateOf s x.idx)
  | .taper => .taper (taperOf s x.idx)
  | .taperCoord => .taper (taperOf s x.idx)
  | .dryColumn => .dry (dryOf s x.idx)
  | .dryHeat => .heat (heatOf s x.idx)
  | .aerSilo => .aer (aerOf s x.idx)
  | .routeSeq => .route (routeOf s x.idx)
  | .beltSlip => .slip (slipOf s x.idx)
  | .moistProc => .moist (chanOf s x.idx)
  | .colTrack => .col (colOf s x.idx)
  | .motorCtrl => .motor (motOf s x.idx)
  | .motorObserver => .motor (motOf s x.idx)
  | .fanSupervise => .motor (motOf s x.idx)
  | .energyMeter => .motor (motOf s x.idx)
  | .txOut => .tx (txOf s x.idx)
  | .diagSweep => .sweep (aisOf s x.idx).sweep
  | .cableCheck => .cable (spGet (0, 0, 0) s.aisle.cbl x.idx)
  | .thermalPolicy => .policy (polOf s x.idx)
  | .diverter => .diverter (spGet 0 s.motor.div x.idx)
  | _ => .blk (blkOf s i)

/-- What the block of a motor port keeps replaces the unit's own (R348). -/
def putMotorState (typ : BlockType) (own theirs : Motor) : Motor :=
  match typ with
  | .motorObserver => { own with nextObs := theirs.nextObs, obsSpeed := theirs.obsSpeed, obsAngle := theirs.obsAngle, obsValid := theirs.obsValid,
                                 obsAt := theirs.obsAt, obsBadSince := theirs.obsBadSince }
  | .fanSupervise => { own with belowSince := theirs.belowSince, aboveSince := theirs.aboveSince, stalls := theirs.stalls }
  | .energyMeter => { own with energy := theirs.energy, pendE := theirs.pendE }
  | _ => { own with g := theirs.g, zeroSince := theirs.zeroSince, retryAt := theirs.retryAt, night := theirs.night }

/-- The state of a flagged instance replaces the unit's own (R348); MRAM and what a set carries elsewhere stay. -/
def putInstState (s : State) (i : Nat) (x : Inst) (q : InstState) : State :=
  match q with
  | .blk y => setBlk s i y
  | .loop y => setLoop s x.idx (if x.typ = .loopSupervise then y.withLaw (loopOf s x.idx) else (loopOf s x.idx).withLaw y)
  | .taper y => setTaper s x.idx y
  | .dry y => setDry s x.idx { y with recs := (dryOf s x.idx).recs, table := (dryOf s x.idx).table }
  | .heat y => setHeat s x.idx y
  | .aer y => setAer s x.idx y
  | .gate y => setGate s x.idx { y with homed := (gateOf s x.idx).homed }
  | .route y => setRoute s x.idx y
  | .slip y => setSlip s x.idx y
  | .moist y => let o := chanOf s x.idx; setChan s x.idx { y with cal := o.cal, samples := o.samples, fits := o.fits }
  | .col y =>
    let o := colOf s x.idx
    setCol s x.idx { o with lastIn := y.lastIn, uncovered := y.uncovered, reIn := y.reIn, reDis := y.reDis, settled := y.settled,
                            drops := y.drops, unknowns := y.unknowns, lostAt := y.lostAt, cmds := y.cmds }
  | .motor y => setMot s x.idx (putMotorState x.typ (motOf s x.idx) y)
  | .tx y => setTx s x.idx { txOf s x.idx with misSince := y.misSince }
  | .sweep y => setAis s x.idx { aisOf s x.idx with sweep := y }
  | .cable y => { s with aisle := { s.aisle with cbl := spSet (0, 0, 0) s.aisle.cbl x.idx y } }
  | .policy y => setPol s x.idx y
  | .diverter y => { s with motor := { s.motor with div := spSet 0 s.motor.div x.idx y } }

/-- A column's header (R115). -/
def colHead (s : State) (c : Nat) : ColHead :=
  let x := colOf s c
  { col := c, k := x.k, shadowN := x.shadow.length, st := x.st, restored := x.restored, noImage := x.noImage,
    status := regW s .pclStatus c, inSerial := x.inSerial, disSerial := x.disSerial }

/-- The record of a serial, if the column still holds it. -/
def parcelOf (s : State) (p : Nat × Int) : Option (Nat × Parcel) :=
  let x := colOf s p.1
  (x.idx p.2).bind (fun i => (x.at_ i).map (fun r => (p.1, r)))

/-- Drying record of a column (R136), on the mirror list by default. -/
def dryRecNow (s : State) (c : Nat) : Option (Nat × DryRec) :=
  let d := dryOf s c
  d.table.map (fun tab => (c, d.record tab))

/-- Enabled columns. -/
def enabledCols (s : State) : List Nat := (upTo 16).filter (fun c => regB s .pclCfg c 0)

/-- The market-fed BLOCK baskets with their taken counts (R310, R346). -/
def creditCounts (s : State) : List (Nat × Nat) := s.hld.str.ingress.map (fun p => (p.1, (bskOf s p.1).tCount))

/-- A mirror set of the present frame (R346). `full`: a full copy carries every parcel and slot (R366). -/
def mirrorOf (s : State) (full : Bool) (ps : List (Nat × Int)) (slots : List Nat) : MirrorSet :=
  { seq := s.pair.nextSet, epoch := s.pair.epoch, frame := s.frame, close := s.now, hash8 := s.hld.str.hash % 2 ^ 64,
    mirrorVer := s.hld.str.mirrorVer, overrun := s.pair.overrun, cols := (enabledCols s).map (colHead s),
    parcels := if full then (s.col.c.map (fun p => p.2.all.map (fun r => (p.1, r)))).flatten else ps.filterMap (parcelOf s),
    slots := if full then s.llt.slots else slots.map (fun i => (i, slotOf s i)),
    insts := (s.hld.str.insts.filter (fun p => p.2.mirror)).map (fun p => (p.1, instState s p.1 p.2)),
    dry := (upTo 16).filterMap (dryRecNow s),
    snaps := (upTo 64).map (fun w => (wickOf s w).snap),
    motors := s.motor.m, sols := s.sol.map (fun p => (p.1, { st := p.2.st, e := p.2.e, queued := p.2.queued, used := solUsed s p.1 s.now })),
    txs := s.tx.p.map (fun p => (p.1, p.2.iCmd)),
    doMap := (upTo 8).map (fun n => (n, mapBits ((upTo 16).map (fun k => (stlOf s (16 * n + k)).cmd)))),
    cmds := cmdsOf s, credits := creditCounts s }

/-- Largest number of parcel records, and of slots, in one set (R115, R346). -/
def mirrorBudget : Nat := 2048

/-- The device notes its own backlog (R116, R346): mirror_overrun holds while records wait. -/
def noteBacklog (s : State) (ps : List (Nat × Int)) (slots : List Nat) : State :=
  let overT := decide (mirrorBudget < ps.length) || decide (mirrorBudget < slots.length)
  let s1 := forEach (((ps.drop mirrorBudget).map (·.1)).eraseDups) s (fun s c => stick s .pclStatus c 8)
  modPair s1 (fun p => { p with overrun := overT })

/-- What has been sent no longer waits. -/
def clearSent (s : State) (ps : List (Nat × Int)) (slots : List Nat) : State :=
  { s with col := { s.col with dirty := ps.drop mirrorBudget }, llt := { s.llt with dirty := slots.drop mirrorBudget } }

/-- Bytes of a set as its sections count them (R346), for the staging region of 1 MiB (R19, R366). -/
def MirrorSet.bytes (s : State) (m : MirrorSet) : Nat :=
  let blocks := m.insts.foldl (fun n p => n + (match instOf s p.1 with
    | some x => x.typ.stateSize.1 + x.typ.stateSize.2 * x.items
    | none => 0)) 0
  64 + 64 * m.cols.length + 64 * m.parcels.length + 40 * m.slots.length + blocks + 32 * m.snaps.length + 64 * m.motors.length +
  32 * m.sols.length + 16 * m.txs.length + 8 * m.doMap.length + 8 * m.cmds.length + 2 * m.credits.length

/-- Frames of at most 4,096 payload bytes that carry a set or copy (R345). -/
def linkFrames (s : State) (m : MirrorSet) : Nat := ceilDiv (m.bytes s) 4096

/-- MIRROR_SET_CLOSE (R26, R346): the active closes the set at t4 of a mirror frame and begins to send it; a full copy that the
peer asked for is taken at the same instant (R366). -/
def execMirrorSetClose (t : Ns) (s : State) : Out :=
  let s := setNow s t
  if s.pair.st = .active ∧ isPaired s = true ∧ s.frame % 8 = 0 then
    let ps := s.col.dirty
    let slots := s.llt.dirty
    let s1 := noteBacklog s ps slots
    let m := mirrorOf s1 false (ps.take mirrorBudget) (slots.take mirrorBudget)
    let s2 := clearSent (modPair s1 (fun p => { p with closed := some m, nextSet := p.nextSet + 1 })) ps slots
    let s3 := emitLink s2 (linkFrames s1 m) (.mirror · m.seq)
    .next (if s.pair.copyAsked then
      let c := mirrorOf s1 true [] []
      emitLink (modPair s3 (fun p => { p with copied := some c, copyAsked := false })) (linkFrames s1 c) (.copy · s.frame)
    else s3)
  else .next s

/-! ## Arrival of a set (R347) -/

/-- How far the bytes from 0 have arrived without a hole. -/
def reach (fuel : Nat) (rs : List (Nat × Nat)) (n : Nat) : Nat :=
  match fuel with
  | 0 => n
  | fuel + 1 => reach fuel rs (rs.foldl (fun a r => if r.1 ≤ a then max a (r.1 + r.2) else a) n)

/-- Every byte of `total` has arrived (R347). -/
def arrived (rs : List (Nat × Nat)) (total : Nat) : Bool := decide (total ≤ reach rs.length rs 0)

/-! ## Applying a set (R348, R351, R363) -/

/-- A column takes the header and the records of a set (R115, R348). -/
def applyCol (s : State) (m : MirrorSet) (h : ColHead) : State :=
  let x := colOf s h.col
  let recs := (m.parcels.filter (fun p => p.1 == h.col)).map (·.2)
  let len := if x.table.isEmpty then colLen s h.col else x.table.length
  let pick := fun (i : Nat) =>
    let z : Int := h.k - (i : Int)
    match recs.find? (fun r => r.serial == ((wrapN 32 z : Nat) : Int)) with
    | some r => r
    | none => match (x.idx z).bind (fun j => x.at_ j) with
      | some r => r
      | none => Parcel.unknown z
  let s1 := setCol s h.col { x with
    k := h.k, st := h.st, restored := h.restored, noImage := h.noImage, inSerial := h.inSerial, disSerial := h.disSerial,
    table := (upTo len).map pick, shadow := (upTo h.shadowN).map (fun j => pick (len + j)) }
  setRegW s1 .pclStatus h.col h.status

/-- A drying record from a set replaces the adapted model (R136, R348). -/
def applyDry (s : State) (p : Nat × DryRec) : State :=
  let r := p.2
  setDry s p.1 (dryDerived s p.1 { (dryOf s p.1).withRecord r with
    rOut := r.rOut, st := r.st, source := r.source, coolSince := r.coolSince })

/-- Wicks that R351 aligns: W0 to W51 and every wick of kind CNT. -/
def alignedWicks (s : State) : List Nat := (upTo 64).filter (fun w => decide (w < 52) || wickKind s w == .cnt)

/-- Wick alignment (R351): the difference to the active's count at one snapshot time joins the own live count. -/
def alignWicks (s : State) (m : MirrorSet) : State :=
  let off := s.mkt.unsynced || m.snaps.any (·.unsynced)
  let s0 := modPair s (fun p => { p with alignOff := off, wickD := p.wickD.filter (fun q => decide (s.now < q.1 + 10 * secNs)) })
  if off then s0
  else
    forEach (alignedWicks s0) s0 (fun s w =>
      match m.snaps.find? (fun r => r.wick == w) with
      | none => s
      | some r =>
        match (wickOf s w).trail.find? (fun q => q.snapTime == r.snapTime) with
        | none => s
        | some q =>
          let d := snapCount s w r - snapCount s w q
          if d = 0 then s
          else
            let x := wickOf s w
            modPair (setWick s w { x with count := wrap48 (x.count + d) }) (fun p => { p with wickD := (s.now, w, d.natAbs) :: p.wickD }))

/-- cmp_n (R363). -/
def cmpN (s : State) : Nat := max 1 (regF s .pairCfg 0 11 8)

/-- An own command lies within the output's band about the active's (R363): equality for levels, states and starts; 1 % of the
output's range, or the stream's band, for torque and cell currents. -/
def inBand (s : State) (k : Nat) (own act : W32) : Bool :=
  let band := (lookup s.hld.str.bands k).getD (fRat 1 100)
  if k < 1000 then fLe (fAbs (fSub own act)) (fMul band (fMul (fOfNat 2) (iLim s k)))
  else if 2000 ≤ k ∧ k < 3000 then fLe (fAbs (fSub (fOfNat own.toNat) (fOfNat act.toNat))) (fMul band (fOfNat tx16))
  else own == act

/-- Comparison with the active's commands of the set's frame (R363). -/
def compareCmds (s : State) (m : MirrorSet) : State :=
  match s.pair.ownCmds.find? (fun p => p.1 == m.frame) with
  | none => s
  | some own =>
    let bad := own.2.filter (fun p => match lookup m.cmds p.1 with | some a => !inBand s p.1 p.2 a | none => true)
    let streak := bad.map (fun p => (p.1, (lookup s.pair.streak p.1).getD 0 + 1))
    let s1 := modPair s (fun p => { p with streak := streak })
    if streak.any (fun p => p.2 == cmpN s) then
      logEv (modPair s1 (fun p => { p with mismatches := satInc 16 p.mismatches, lastMis := some s.now, misTimes := s.now :: p.misTimes.filter (fun t => decide (s.now < t + 10 * secNs)), cleanFrom := s.now,
                                           shadowAt := if p.phase = .shadow then s.now else p.shadowAt })) (srcDev 4) .compareMismatch 0
    else s1

/-- Applies one complete set (R348). -/
def applySet (s : State) (m : MirrorSet) : State :=
  let s1 := m.cols.foldl (fun s h => applyCol s m h) s
  let s2 := m.dry.foldl applyDry s1
  let s3 := m.insts.foldl (fun s p => match instOf s p.1 with | some x => putInstState s p.1 x p.2 | none => s) s2
  let s4 := m.slots.foldl (fun s p => setSlot s p.1 p.2) s3
  let s5 := { s4 with llt := { s4.llt with dirty := [] } }
  let s6 := modPair s5 (fun p => { p with applied := some m, epoch := max p.epoch m.epoch })
  compareCmds (alignWicks s6 m) m

/-- The set that waits is applied (R348). -/
def applyReady (s : State) : State :=
  match s.pair.ready with
  | some m => if pairFollows s then applySet (modPair s (fun p => { p with ready := none })) m else modPair s (fun p => { p with ready := none })
  | none => s

/-- SET_APPLY (R348): as of t0 of the first boundary after the receipt. -/
def execSetApply (t : Ns) (s : State) : Out :=
  let s := setNow s t
  .next (if t % frameNs = 0 then applyReady s else s)

/-! ## The link (R345, R349) -/

/-- A valid frame arrived within the last 2 ms (R352 PAIR_LINK). -/
def pairLinkUp (s : State) : Bool := match s.pair.lastFrame with | some f => decide (s.now < f + 2 * msNs) | none => false

/-- The peer's lantern is at most 20 ms old (R365). -/
def peerLantern (s : State) : Option Lantern := s.pair.lan.filter (fun l => decide (s.now ≤ l.issued + 20 * msNs))

/-- A pair-link frame as received (R345): one with a bad CRC is discarded and counted; the second part says that it is good. -/
def takeLink (s : State) (t : Nat) (h : PairHdr) : State × Bool :=
  if !(isPaired s && coreRuns s) then (s, false)
  else if h.crcOk then (modPair s (fun p => { p with lastFrame := some t, peerEpoch := max p.peerEpoch h.epoch }), true)
  else (modPair s (fun p => { p with crcErrors := satInc 16 p.crcErrors }), false)

/-! ## Pair states (R354 to R356) -/

/-- The unit becomes ACTIVE by a claim or by R355: the epoch rises, OWN_OUT follows once startup enables outputs. -/
def becomeActive (s : State) : State :=
  let s1 := pairEnter (modPair s (fun p => { p with epoch := max p.epoch p.peerEpoch + 1, claimFrom := none, cedeReq := false })) .active .wait
  if s.snf.enabled then setOwn s1 true else modPair s1 (fun p => { p with claimed := true })

/-- The peer as its latest CONTROL frame shows it, while the link is up (R354). -/
def peerCtl (s : State) : Option Control := if pairLinkUp s then s.pair.ctl else none

/-- Structure hashes and mirror format versions are equal (R388). -/
def compatible (s : State) (c : Control) : Bool := c.hash8 == s.hld.str.hash % 2 ^ 64 && c.mirrorVer == s.hld.str.mirrorVer

/-- OWN_OUT has stayed released for 1 ms after a collision (R361). -/
def collHeld (s : State) : Bool := match s.pair.collAt with | some c => decide (s.now < c + msNs) | none => false

/-- This unit wins under R355. -/
def winsMeet (s : State) (c : Control) : Bool :=
  decide (c.epoch < s.pair.epoch) || (c.epoch == s.pair.epoch && !isB s)

/-- The state table's conditions on the peer (R354, R355, R388). -/
def pairMeet (s : State) : State :=
  match peerCtl s with
  | none => s
  | some c =>
    match s.pair.st with
    | .spare =>
      if s.pair.phase = .wait then
        if relit s then s
        else if c.st = .active then
          if !compatible s c then pairEnter s .mismatch .wait
          else if s.pair.idConflict then s
          else
            match s.pair.retryAt with
            | some r => if s.now < r then s
              else emit (modPair (pairEnter s .spare .copy) (fun p => { p with retryAt := none, setClose := none, gap := false, copied := none })) .copyRequest
            | none => emit (modPair (pairEnter s .spare .copy) (fun p => { p with setClose := none, gap := false, copied := none })) .copyRequest
        else if c.st = .spare ∧ c.phase = .wait ∧ compatible s c = true ∧ s.pair.idConflict = false ∧ collHeld s = false ∧ winsMeet s c = true then
          becomeActive s
        else s
      else if c.st ≠ .active ∧ s.pair.peerOwn = true then pairWait s
      else s
    | .standby => if c.st ≠ .active ∧ s.pair.peerOwn = true then pairWait s else s
    | .mismatch => if compatible s c ∧ s.pair.idConflict = false then pairWait s else s
    | _ => s

/-- Announcement of a patch by the active (R367, R388): a unit that holds the same staged patch VALID makes it PENDING; a
withdrawn announcement returns it to VALID. -/
def pairPatch (s : State) (c : Control) : State :=
  if s.pair.st = .standby ∨ s.pair.st = .spare then
    match c.patchFrame with
    | some fa =>
      if c.st = .active ∧ s.hld.staged = .valid ∧ (s.hld.patch.map (·.patchNo)) = some c.patchNo then
        { s with hld := { s.hld with staged := .pending, fa := fa, peerPending := true } }
      else s
    | none => if s.hld.peerPending ∧ s.hld.staged = .pending then { s with hld := { s.hld with staged := .valid, peerPending := false } } else s
  else s

/-- The frame of an announced patch is reached without it: SPARE_MISMATCH (R367). -/
def patchMissed (s : State) : State :=
  match s.pair.ctl with
  | some c =>
    if s.pair.st = .standby ∧ c.patchFrame = some s.frame ∧ c.st = .active ∧ ¬ (s.hld.staged = .pending ∧ s.hld.fa = s.frame)
    then pairEnter s .mismatch .wait else s
  | none => s

/-- CONTROL_FRAME_RECEIVE (R341, R345, R354, R357). -/
def execControlFrameReceive (t : Ns) (h : PairHdr) (c : Control) (s : State) : Out :=
  let s := setNow s t
  let r := takeLink s t h
  if !r.2 then .next r.1
  else
    let asks := c.st == .spare && c.phase == .copy && !(match s.pair.ctl with | some o => o.st == .spare && o.phase == .copy | none => false)
    let s1 := modPair r.1 (fun p => { p with ctl := some c, peerEpoch := max p.peerEpoch c.epoch,
                                             copyAsked := p.copyAsked || (asks && p.st == .active) })
    let s2 := if c.pairId = isB s1 ∧ s1.pair.idConflict = false then
        logEv (modPair s1 (fun p => { p with idConflict := true })) (srcDev 4) .pairIdConflict 0 else s1
    let s3 := if s2.pair.idConflict ∧ (s2.pair.st = .standby ∨ s2.pair.st = .spare) then pairEnter s2 .mismatch .wait else s2
    let s4 := match s3.pair.waitAt with
      | some _ => if c.owning then stick (modPair s3 (fun p => { p with waitAt := none })) .pairStatus 0 13 else s3
      | none => s3
    .next (pairPatch (pairMeet s4) c)

/-- A failed copy (R366): SPARE (WAIT), and a new request after 1 s. -/
def copyFail (s : State) : State := modPair (pairWait s) (fun p => { p with retryAt := some (s.now + secNs) })

/-- A complete set in unbroken order or a set gap (R347, R354, R366). -/
def setComplete (s : State) (m : MirrorSet) : State :=
  if s.pair.setClose.isSome ∧ m.seq ≠ s.pair.setSeq + 1 then
    let s1 := stick (modPair s (fun p => { p with gap := true, asm := none })) .pairStatus 0 17
    if s.pair.phase = .copy ∧ s.pair.st = .spare then copyFail s1 else pairWait s1
  else
    let s1 := modPair s (fun p => { p with asm := none, setSeq := m.seq, setClose := some m.close, actOverrun := m.overrun })
    if s.pair.st = .spare ∧ s.pair.phase = .copy then
      if 1048576 < (m :: s1.pair.behind).foldl (fun n x => n + x.bytes s) 0 then copyFail s1
      else modPair s1 (fun p => { p with behind := p.behind ++ [m] })
    else modPair (applyReady s1) (fun p => { p with ready := some m })

/-- A unit that takes sets: STANDBY, or SPARE past WAIT. -/
def takesSets (s : State) : Bool := s.pair.st == .standby || (s.pair.st == .spare && s.pair.phase != .wait)

/-- MIRROR_FRAME_RECEIVE (R345, R347, R356). -/
def execMirrorFrameReceive (t : Ns) (h : PairHdr) (m : MirrorSet) (s : State) : Out :=
  let r := takeLink (setNow s t) t h
  let s := r.1
  if !r.2 ∨ !takesSets s ∨ h.epoch < s.pair.epoch then .next s
  else
    let rs := match s.pair.asm with
      | some a => if a.1 = h.set then (h.offset, h.len) :: a.2 else [(h.offset, h.len)]
      | none => [(h.offset, h.len)]
    let s1 := modPair s (fun p => { p with asm := some (h.set, rs) })
    if arrived rs h.total then
      .next (if h.totalOk then setComplete s1 m else modPair s1 (fun p => { p with asm := none }))
    else .next s1

/-- COPY_FRAME_RECEIVE (R366). -/
def execCopyFrameReceive (t : Ns) (h : PairHdr) (m : MirrorSet) (s : State) : Out :=
  let r := takeLink (setNow s t) t h
  let s := r.1
  if !r.2 ∨ s.pair.st ≠ .spare ∨ s.pair.phase ≠ .copy ∨ h.epoch < s.pair.epoch then .next s
  else
    let rs := (h.offset, h.len) :: s.pair.copyAsm
    let s1 := modPair s (fun p => { p with copyAsm := rs })
    if arrived rs h.total then
      .next (if h.totalOk then modPair s1 (fun p => { p with copied := some m, copyDone := true }) else copyFail s1)
    else .next s1

/-- COPY_COMPLETE (R366): the copy with a good CRC, then the sets behind it, then SHADOW; a bad one is asked for again. -/
def execCopyComplete (t : Ns) (ok : Bool) (s : State) : Out :=
  let s := setNow s t
  if s.pair.st = .spare ∧ s.pair.phase = .copy then
    if !ok then .next (copyFail s)
    else
      match s.pair.copied with
      | none => .next s
      | some m =>
        if !s.pair.copyDone then .next s
        else
          let s1 := applySet s m
          let later := s.pair.behind.filter (fun x => decide (m.frame < x.frame))
          let s2 := later.foldl applySet s1
          .next (modPair (pairEnter s2 .spare .shadow) (fun p => { p with
            shadowAt := s.now, copyAsm := [], copyDone := false, behind := [], copied := none, streak := [] }))
  else .next s

/-- COPY_RETRY (R366): 1 s after a failed copy. -/
def execCopyRetry (t : Ns) (s : State) : Out :=
  let s := setNow s t
  match s.pair.retryAt with
  | some r => .next (if r ≤ t then pairMeet s else s)
  | none => .next s

/-- LANTERN_RECEIVE (R365). -/
def execLanternReceive (t : Ns) (h : PairHdr) (l : Lantern) (s : State) : Out :=
  let r := takeLink (setNow s t) t h
  .next (if r.2 then modPair r.1 (fun p => { p with lan := some l, peerEpoch := max p.peerEpoch l.epoch }) else r.1)

/-- LANTERN_SEND (R365): every unit from t6 of its boot on (R393). -/
def execLanternSend (t : Ns) (s : State) : Out :=
  .next (let s := setNow s t; if coreRuns s && !s.mgt.halted && decide (6 ≤ s.snf.stage) then lanternSend s else s)

/-! ## Self-diagnosis (R352, R353, R364) -/

/-- A finding bit (PAIR_FINDINGS). -/
def fbit (k : Nat) (b : Bool) : Nat := if b then 1 <<< k else 0

/-- Aisles whose link the core has lost (R241, R352). -/
def aislesLost (s : State) : List Nat := (upTo 8).filter (fun n => (aisOf s n).lostUp && decide (0 < (aisOf s n).losses))

/-- Junction sensors at or above 115 degC with the time since (R352); TD diodes are no junctions. -/
def hotSensors (s : State) : List (Nat × Nat) :=
  (upTo 24).filterMap (fun i => if 115 * 128 ≤ (sensOf s i).checked then some (i, (lookup s.pair.hotSince i).getD s.now) else none)

/-- Peer GOOD by a fresh lantern. -/
def peerGood (s : State) : Bool := match peerLantern s with | some l => l.health == .good | none => false

/-- An aisle lost while the peer holds it linked and is GOOD (R352). -/
def aisleSevere (s : State) : Bool :=
  match peerLantern s with
  | some l => l.health == .good && (aislesLost s).any (fun n => l.aislesLinked.testBit n)
  | none => false

/-- Outputs that lie outside their band in cmp_n sets in a row. -/
def compareBad (s : State) : Bool := s.pair.streak.any (fun p => decide (cmpN s ≤ p.2))

/-- Findings that hold at an evaluation (R352). -/
def findingsNow (s : State) : Nat :=
  let act := s.pair.st == .active
  let hot := s.pair.hotSince.any (fun p => decide (p.2 + secNs ≤ s.now))
  fbit 0 s.pair.missed + fbit 1 (s.eng.e.any (fun p => p.2.halted)) + fbit 2 s.mgt.halted + fbit 3 s.pair.eccFatal +
  fbit 4 (!(aislesLost s).isEmpty) + fbit 5 (s.snf.railBad.any (fun p => p.1 != .vaux)) + fbit 6 (hot && peerGood s) +
  fbit 7 (s.pair.ownLand != s.pair.ownOut) + fbit 8 (isPaired s && !pairLinkUp s) + fbit 9 (act && s.pair.overrun) +
  fbit 10 (!act && s.pair.selftest != 0) + fbit 11 (!act && compareBad s)

/-- Which of the findings are severe in the present state (R352). -/
def severeOf (s : State) (f : Nat) : Bool :=
  let hard := f.testBit 1 || f.testBit 2 || f.testBit 3 || f.testBit 5 || f.testBit 7
  if s.pair.st = .active then hard || f.testBit 0 || f.testBit 6 || (f.testBit 4 && aisleSevere s) else hard

/-- A gate buffer or DO switch has failed its self-test (R362). -/
def selftestBad (s : State) : Bool := s.pair.selftest % 2 ^ 25 != 0

/-- Health (R364). -/
def healthNow (s : State) (f : Nat) : Health :=
  if severeOf s f || selftestBad s || s.snf.active then .bad
  else if f != 0 || (match s.pair.lastMis with | some m => decide (s.now < m + 10 * secNs) | none => false) || s.pair.alignOff ||
      s.pair.wickD.any (fun q => decide (s.now < q.1 + 10 * secNs)) then .degraded
  else .good

/-- Findings shown and seen (R365, R370). -/
def showFindings (s : State) (f : Nat) : State :=
  setSticky (modPair s (fun p => { p with findings := f, seenLan := p.seenLan ||| f })) .pairSeen 0 (lo32 f)

/-- The peer is ready to take over for a cede (R353). -/
def cedeOk (s : State) : Bool :=
  match peerLantern s with | some l => l.st == .standby && l.health == .good && l.fresh | none => false

/-- A cede is accepted or refused (R353, R354). -/
def cedeDecide (s : State) : State :=
  if cedeOk s then
    logEv (stick (pairWait (setOwn (modPair s (fun p => { p with cedeReq := false })) false)) .pairStatus 0 16) (srcDev 4) .pairCeded 0
  else pairRefuse (modPair s (fun p => { p with cedeReq := false }))

/-- One evaluation (R352, R369): a severe finding comes before a cede. -/
def diagnose (s : State) : State :=
  let s0 := modPair s (fun p => { p with hotSince := hotSensors s })
  let f := findingsNow s0
  let s1 := showFindings s0 f
  let s2 := modPair s1 (fun p => { p with health := healthNow s1 f, missed := false, eccFatal := false })
  if severeOf s1 f && (s.pair.st == .active || s.pair.st == .standby || s.pair.st == .spare) then pairFail s2
  else if s.pair.st = .active ∧ s.pair.cedeReq = true then cedeDecide s2
  else if f.testBit 8 ∧ (s.pair.st = .standby ∨ (s.pair.st = .spare ∧ s.pair.phase ≠ .wait)) then pairWait s2
  else s2

/-- SELF_DIAGNOSIS (R352): at the boundaries with F mod 8 = 4. -/
def execSelfDiagnosis (t : Ns) (s : State) : Out :=
  let s := setNow s t
  .next (if coreRuns s ∧ s.hld.committed = true ∧ t % frameNs = 0 ∧ frameOf t % 8 = 4 then diagnose s else s)

/-- A finding that an ACTIVE unit acts on at once (R352); a STANDBY or SPARE waits for its evaluation. -/
def atOnce (s : State) (k : Nat) : State :=
  if s.pair.st = .active ∧ isPaired s = true then pairFail (showFindings s (s.pair.findings ||| 1 <<< k)) else s

/-- ENGINE_HALT (R160, R352): cause 1 instruction memory, 2 data memory, 3 fetch outside the placed code. -/
def execEngineHalt (e : Fin 128) (cause : Fin 4) (t : Ns) (s : State) : Out :=
  let s := setNow s t
  .next (if cause.val = 0 then s else atOnce (haltEngine s e cause) 1)

/-- LOCKSTEP_MISMATCH (R352, R424): both cores halt; lockstep_seen; an active pair unit fails at once. -/
def execLockstepMismatch (t : Ns) (s : State) : Out :=
  let s := setNow s t
  .next (if coreRuns s ∧ s.mgt.halted = false then
      atOnce (logEv { s with mgt := { s.mgt with halted := true, lockSeen := true } } (srcDev 3) .lockstepMismatch 0) 2
    else s)

/-- OWN_READBACK (R341, R352): what the OWN_OUT land has read for 10 µs. -/
def execOwnReadback (t : Ns) (land : Bool) (s : State) : Out :=
  let s1 := modPair (setNow s t) (fun p => { p with ownLand := land })
  .next (if land ≠ s.pair.ownOut then atOnce s1 7 else s1)

/-! ## Take-over (R357 to R361, R369) -/

/-- PEER_OWN_FALL (R354, R357): a STANDBY begins the wait, or refuses. -/
def execPeerOwnFall (t : Ns) (s : State) : Out :=
  let s := setNow s t
  let s1 := pairGate (modPair s (fun p => { p with peerOwn := false, collAt := if p.ownOut then none else p.collAt }))
  if s.pair.st = .standby ∧ isPaired s = true then
    if mirrorFresh s ∧ s.pair.health ≠ .bad ∧ s.snf.active = false then .next (modPair s1 (fun p => { p with waitAt := some t }))
    else .next (logEv (stick (pairWait s1) .pairStatus 0 18) (srcDev 4) .pairState 0)
  else .next s1

/-- PEER_OWN_RISE (R357): within the 200 µs the unit stays STANDBY and sets own_glitch. -/
def execPeerOwnRise (t : Ns) (s : State) : Out :=
  let s1 := pairGate (modPair (setNow s t) (fun p => { p with peerOwn := true }))
  match s1.pair.waitAt with
  | some w => .next (if t ≤ w + 200 * usNs then stick (modPair s1 (fun p => { p with waitAt := none })) .pairStatus 0 14 else s1)
  | none => .next s1

/-- TAKEOVER_WAIT_END (R356, R357, R358): OWN_OUT asserted at t3 with the raised epoch; the outputs stay off in logic until t5. -/
def execTakeoverWaitEnd (t : Ns) (s : State) : Out :=
  let s := setNow s t
  match s.pair.waitAt with
  | some w =>
    .next (if w + 200 * usNs ≤ t ∧ s.pair.st = .standby ∧ s.pair.peerOwn = false ∧ s.snf.active = false then
        setOwn (modPair s (fun p => { p with waitAt := none, t3At := some t, epoch := max p.epoch p.peerEpoch + 1 })) true
      else s)
  | none => .next s

/-- A motor port takes the mirrored state (R346): the state of R212, the timers, speed, angle and stamp; MRAM stays its own. -/
def Motor.mirrored (own theirs : Motor) : Motor :=
  { own with st := theirs.st, dirRev := theirs.dirRev, fault := theirs.fault, g := theirs.g, obsSpeed := theirs.obsSpeed,
             obsAngle := theirs.obsAngle, obsValid := theirs.obsValid, obsAt := theirs.obsAt, obsBadSince := theirs.obsBadSince,
             rec_ := theirs.rec_, search := theirs.search, probes := theirs.probes, repeated := theirs.repeated,
             phaseAt := theirs.phaseAt, repeatAt := theirs.repeatAt, brakeAt := theirs.brakeAt, lowSince := theirs.lowSince,
             brakeSearch := theirs.brakeSearch, zeroSince := theirs.zeroSince, belowSince := theirs.belowSince,
             aboveSince := theirs.aboveSince, stalls := theirs.stalls, retryAt := theirs.retryAt, night := theirs.night }

/-- A solenoid port starts from the mirrored state (R290): a full activation with the mirrored E for PEAK or HOLD, under R285 from
the mirrored U; OFF for DECAY and OFF. -/
def solResume (s : State) (v t : Nat) (q : SolMirror) : State :=
  let p := solOf s v
  if p.st = .disabled then s
  else
    let s1 := setSol s v { p with st := .off, gate := false, fd := false, queued := none, gated := false, onSince := none,
                                  ons := if q.used = 0 then [] else [(t - q.used * usNs, t)] }
    if !driving s then setSol s1 v { solOf s1 v with gated := true }
    else if q.st = .peak ∨ q.st = .hold then
      let h := match q.e with
        | .at_ e => (e - t) / usNs - regF s .solPeak v 12 14 * 100
        | .open_ => 0
      if solAdmits s1 v t (solNeed s1 v h) then
        let s2 := solBegin s1 v h t
        setSol s2 v { solOf s2 v with e := q.e }
      else solDutyRefuse s1 v
    else if q.st = .fault then setSol s1 v { solOf s1 v with st := .fault }
    else s1

/-- Ticks of a wick that lie between the set's snapshot count and the present one, taken in the direction of motion (R360). -/
def replayTicks (fuel : Nat) (s : State) (w : Nat) (up : Bool) : State :=
  match fuel with
  | 0 => s
  | fuel + 1 =>
    let x := wickOf s w
    let s1 := setWick s w { x with count := wrap48 (if up then x.count + 1 else x.count - 1) }
    let s2 := lltTick s1 w (!up) s1.now
    let late := (s2.llt.slots.filter (fun p => (slotOf s p.1).execs != p.2.execs)).map (·.1)
    replayTicks fuel (late.foldl markLate s2) w up

/-- A wick's keys that the active may have crossed after its last set (R360). -/
def replayWick (s : State) (r : SnapRec) : State :=
  let c1 := (wickOf s r.wick).count
  let c0 := snapCount s r.wick r
  if (wickOf s r.wick).st = .disabled ∨ c0 = c1 then s
  else
    let s1 := setWick s r.wick { wickOf s r.wick with count := c0 }
    replayTicks (c1 - c0).natAbs s1 r.wick (decide (c0 < c1))

/-- Time actions between the set's close and t5: local ones executed late, market ones REFUSED (R70, R360). -/
def replayTimes (s : State) (close : Nat) : State :=
  forEach (s.llt.slots.map (·.1)) s (fun s i =>
    let x := slotOf s i
    let a := x.rec_
    if x.st = .armed ∧ a.keyTime = true ∧ (close : Int) < a.key ∧ a.key ≤ (s.now : Int) then
      if a.market then enterSt s i .refused else dueSlot s i true
    else s)

/-- The lamplighter becomes live at t5 (R360). -/
def lltGoLive (s : State) (m : MirrorSet) : State := replayTimes (m.snaps.foldl replayWick s) m.close

/-- Credits of the new active (R359): L = T + depth from the mirrored T. -/
def creditsFrom (s : State) (m : MirrorSet) : State :=
  m.credits.foldl (fun s p =>
    let s1 := modBsk s p.1 (fun x => { x with tCount := p.2 })
    if trades s1 then sendCredit s1 p.1 else s1) s

/-- The drive condition opens at t5: the unit is ACTIVE and the outputs are no longer held off in logic (R358). -/
def t5Open (s : State) : State :=
  let was := driving s
  regate was (pairEnter (modPair s (fun p => { p with t3At := none })) .active .wait)

/-- The end of a unit in a collision it cannot leave (R361). -/
def collFail (s : State) : State :=
  if s.pair.st = .failed then s
  else lanternSend (pairEnter (setOwn (modPair s (fun p => { p with collAt := none, claimed := false })) false) .failed .wait)

/-- COLLISION (R361): own and peer asserted together for more than 1 µs. -/
def execCollision (t : Ns) (s : State) : Out :=
  let s := setNow s t
  if s.pair.ownOut ∧ s.pair.peerOwn = true ∧ isPaired s = true then
    let s1 := logEv (stick (modPair s (fun p => { p with collAt := some t })) .pairStatus 0 12) (srcDev 4) .pairCollision 0
    .next (if s.pair.idConflict then collFail s1
      else if isB s then pairWait (setOwn s1 false)
      else pairGate s1)
  else .next s

/-- COLLISION_TIMEOUT (R361): a unit still in the collision after 2 ms fails. -/
def execCollisionTimeout (t : Ns) (s : State) : Out :=
  let s := setNow s t
  match s.pair.collAt with
  | some c => .next (if c + 2 * msNs ≤ t ∧ s.pair.ownOut = true ∧ s.pair.peerOwn = true then collFail s else s)
  | none => .next s

/-! ## Commands (R353, R354, R370) -/

/-- A claim may make the unit ACTIVE (R354, R355, R369). -/
def claimOk (s : State) : Bool :=
  s.hld.committed && isPaired s && !relit s && !s.pair.idConflict && !s.pair.peerOwn && !collHeld s &&
  (match s.pair.st with
   | .spare => s.pair.phase == .wait && (match peerCtl s with
      | some c => !(c.st == .active || c.st == .standby || (c.st == .spare && c.phase == .wait && compatible s c))
      | none => true)
   | .mismatch => (match peerCtl s with | some c => c.st != .active | none => true)
   | _ => false)

/-- The claim op. -/
def pairClaim (s : State) : State := if claimOk s then becomeActive s else pairRefuse s
/-- The cede op: decided at the next evaluation (R353). -/
def pairCede (s : State) : State := if s.pair.st = .active then modPair s (fun p => { p with cedeReq := true }) else pairRefuse s
/-- The reset op (R354). -/
def pairReset (s : State) : State :=
  if s.pair.st = .failed ∧ severeOf s (findingsNow s) = false ∧ s.snf.active = false then
    pairWait (modPair s (fun p => { p with snufCause := false }))
  else pairRefuse s
/-- The resync op (R354, R370). -/
def pairResync (s : State) : State := if s.pair.st = .standby ∨ s.pair.st = .spare then pairWait s else pairRefuse s
/-- The clear_counts op (R370). -/
def pairClear (s : State) : State := modPair s (fun p => { p with mismatches := 0, cleanFrom := s.now, wickD := [], crcErrors := 0 })

/-- PAIR_CLAIM (R354). -/
def execPairClaim (s : State) : Out := .next (pairClaim s)
/-- PAIR_CEDE (R353). -/
def execPairCede (s : State) : Out := .next (pairCede s)
/-- PAIR_RESET (R354). -/
def execPairReset (s : State) : Out := .next (pairReset s)
/-- PAIR_RESYNC (R354). -/
def execPairResync (s : State) : Out := .next (pairResync s)
/-- PAIR_CLEAR_COUNTS (R370). -/
def execPairClearCounts (s : State) : Out := .next (pairClear s)

/-- AUTO_CLAIM (R354): claim_wait seconds in SPARE (WAIT). -/
def execAutoClaim (t : Ns) (s : State) : Out :=
  let s := setNow s t
  match s.pair.claimFrom with
  | some f =>
    .next (if regB s .pairCfg 0 2 ∧ f + regF s .pairCfg 0 3 8 * secNs ≤ t ∧ s.pair.st = .spare ∧ claimOk s = true then becomeActive s else s)
  | none => .next s

/-- SHADOW_COMPLETE (R354). -/
def execShadowComplete (t : Ns) (s : State) : Out :=
  let s := setNow s t
  .next (if s.pair.st = .spare ∧ s.pair.phase = .shadow ∧ s.pair.shadowAt + 10 * secNs ≤ t ∧ s.pair.health ≠ .bad then
      modPair (pairEnter s .standby .wait) (fun p => { p with gap := false })
    else s)

/-- PAIR_LINK_SILENCE (R30, R352, R354): a minor finding of an ACTIVE unit, with an event record when it arises. -/
def execPairLinkSilence (t : Ns) (s : State) : Out :=
  let s := setNow s t
  if isPaired s ∧ coreRuns s = true ∧ pairLinkUp s = false then
    let s0 := showFindings s (s.pair.findings ||| 256)
    let s1 := if s.pair.findings.testBit 8 then s0 else logEv s0 (srcDev 4) .pairFinding 256
    .next (if s.pair.st = .standby ∨ (s.pair.st = .spare ∧ s.pair.phase ≠ .wait) then pairWait s1 else s1)
  else .next s

/-- Bit of PAIR_SELFTEST for a stage (R362, R370). -/
def TestStage.bit (x : TestStage) : Nat :=
  match x with | .motor m => m | .solenoid => 16 | .aisle n => 17 + n | .transmitter => 25 | .scrub => 26

/-- SELFTEST_STAGE (R362): what a stage's test found. -/
def execSelftestStage (t : Ns) (stage : TestStage) (ok : Bool) (s : State) : Out :=
  let s := setNow s t
  if isPaired s ∧ (s.pair.st = .standby ∨ s.pair.st = .spare) then
    let b := stage.bit
    let old := s.pair.selftest
    if ok then .next (modPair s (fun p => { p with selftest := if old.testBit b then old - 1 <<< b else old }))
    else
      let s1 := modPair s (fun p => { p with selftest := old ||| 1 <<< b,
                                             eccFatal := p.eccFatal || stage == .scrub,
                                             health := if b < 25 then .bad else p.health })
      .next (if old.testBit b then s1 else logEv s1 (srcDev 4) .pairFinding 1024)
  else .next s

/-- The CONTROL frame of a boundary (R345, R388). -/
def sendControl (s : State) : State :=
  if isPaired s then
    let pend := s.pair.st == .active && s.hld.staged == .pending
    emitLink s 1 (.control · s.pair.st.code s.pair.phase.code (isB s) s.pair.ownLand (s.hld.str.hash % 2 ^ 64)
      ((s.hld.patch.map (·.patchNo)).getD 0) (if pend then some s.hld.fa else none) s.pair.epoch)
  else s

end Sys2Proof.Machine
end

