-- ==== Sys2Proof/Machine/Stream.lean ====
section
/-!
DEFINITION. The Haldun stream in a running device (R378 to R390): staging, validation, applying and persisting a patch, and the
loading of a stream at start.
-/
namespace Sys2Proof.Machine

open Sys2Proof

/-- Changes the stream block's state. -/
def modHld (s : State) (f : HldState → HldState) : State := { s with hld := f s.hld }

/-- Sticky bit rejected of HLD_STATUS and an event: a validation, apply or revalidation failed (R378, R382, R390). -/
def hldReject (s : State) (op : Nat) (c : HldCode) : State :=
  logEv (stick (hldResult s op c) .hldStatus 0 14) (srcDev 0) .streamRejected c.code

/-! ## Chunks (R381) -/

/-- Distinct bytes of a chunk put at their offsets. -/
def putBytes (m : List (Nat × Byte)) (offset : Nat) (data : List Byte) : List (Nat × Byte) :=
  (data.zipIdx offset).foldl (fun m p => spPut m p.2 p.1) m

/-- A staged image's size limit, bytes (R371, R381, R433). -/
def imageMax : Nat := 16777216

/-- STREAM_CHUNK (R381, R389): BUSY before commit and while a patch is PENDING or SWITCH_PENDING; SECTION beyond 16 MiB. Data that
reaches a validated or validating image makes it RECEIVING again (log entry 12). -/
def streamChunk (s : State) (offset : Nat) (first : Bool) (data : List Byte) : State × Nat :=
  if s.hld.committed = false ∨ s.hld.staged = .pending ∨ s.hld.staged = .switchPending then (hldResult s 7 .busy, Acc.busy.code)
  else if offset + data.length > imageMax then (hldResult s 7 .badSection, Acc.range.code)
  else
    let old := if first then [] else s.hld.bytes
    (modHld s (fun h => { h with
      staged := .receiving, patch := none, bytes := putBytes old offset data,
      appliedImg := if first then none else h.appliedImg }), 0)

/-- STREAM_CHUNK (R381). -/
def execStreamChunk (t : Ns) (d : Dgram) (offset : Nat) (first : Bool) (data : List Byte) (s : State) : Out :=
  let s := setNow s t
  .next (withDgram s d 3 (fun s _ => 
    let r := streamChunk s offset first data
    (if r.2 = 0 then noteChange r.1 d else r.1, r.2, [])))

/-! ## Validate (R377, R381, R389) -/

/-- The validate op: EMPTY, PENDING and SWITCH_PENDING report NOT_STAGED, VALIDATING reports BUSY. -/
def hldValidate (s : State) : State :=
  match s.hld.staged with
  | .receiving => modHld s (fun h => { h with staged := .validating, patch := none })
  | .valid => modHld s (fun h => { h with staged := .validating, patch := none })
  | .validating => hldResult s 1 .busy
  | _ => hldResult s 1 .notStaged

/-- What the management processor does it does not do while it is halted (R425): datagram handling, PMBus traffic, stream and image
operations. -/
def unlessHalted (s s' : State) : State := if s.mgt.halted then s else s'

/-- HLD_VALIDATE (R381). -/
def execHldValidate (s : State) : Out := .next (unlessHalted s (hldValidate s))

/-- The staged bytes hold an image from its first to its last byte (R371, R377). -/
def stagedWhole (s : State) (img : StreamImg) : Bool := (s.hld.bytes.filter (fun p => decide (p.1 < img.length))).length == img.length

/-- VALIDATION_COMPLETE (R377): OK makes the patch VALID; a failure leaves the staged bytes. A FULL stream is no patch. -/
def execValidationComplete (t : Ns) (img : StreamImg) (s : State) : Out :=
  let s := setNow s t
  .next (if s.mgt.halted = false ∧ s.hld.staged = .validating then
    let c := if img.full || !stagedWhole s img then .format else validate s s.hld.str img
    if c = .ok then hldResult (modHld s (fun h => { h with staged := .valid, patch := some img })) 1 .ok
    else hldReject (modHld s (fun h => { h with staged := .receiving, patch := none })) 1 c
  else s)

/-! ## Apply, cancel, discard (R382, R384, R389) -/

/-- State bytes of an instance (R154). -/
def Inst.bytes (x : Inst) : Nat := x.typ.stateSize.1 + x.typ.stateSize.2 * x.items

/-- State of the moved instances that are due in frame F_a - 1, bytes (R384). -/
def movedBytes (old new : Structure) (fa : Nat) : Nat :=
  ((old.insts.filter (fun p => match lookup new.insts p.1 with
    | some y => y.typ == p.2.typ && (y.engine != p.2.engine || y.k != p.2.k || y.phase != p.2.phase) && p.2.due (fa - 1)
    | none => false)).map (fun p => p.2.bytes)).sum

/-- APPLY_FRAME of R384. -/
def applyFrameBad (s : State) (img : StreamImg) (fa : Nat) : Bool := decide (4096 < movedBytes s.hld.str img.result fa)

/-- The cause for which the apply op is refused, if any (R382, R384). -/
def applyCode (s : State) (fa : Nat) : HldCode :=
  match s.hld.staged, s.hld.patch with
  | .valid, some img =>
    if fa * frameNs < s.now + 50 * msNs then .applyLate
    else if img.secs.any (fun d => d.typ == 2) then .switchOnly
    else if applyFrameBad s img fa then .applyFrame
    else .ok
  | _, _ => .notStaged

/-- The apply op at HLD_APPLY (R382). -/
def hldApply (s : State) : State :=
  let fa := reg64 s .hldApplyLo .hldApplyHi 0
  match applyCode s fa with
  | .ok => hldResult (modHld s (fun h => { h with staged := .pending, fa := fa, peerPending := false, revalOk := false })) 2 .ok
  | .notStaged => hldResult s 2 .notStaged
  | c => stick (hldResult s 2 c) .hldStatus 0 14

/-- HLD_APPLY (R382). -/
def execHldApply (s : State) : Out := .next (unlessHalted s (hldApply s))

/-- The cancel op: a PENDING patch returns to VALID; a switch cannot be cancelled (R382). The announcement goes with it (R388). -/
def hldCancel (s : State) : State :=
  if s.hld.staged = .pending then
    hldResult (modHld s (fun h => { h with staged := .valid, peerPending := false, revalOk := false })) 5 .ok
  else hldResult s 5 .notStaged

/-- HLD_CANCEL (R382). -/
def execHldCancel (s : State) : Out := .next (unlessHalted s (hldCancel s))

/-- The discard op (R389): refused with BUSY while PENDING or SWITCH_PENDING. -/
def hldDiscard (s : State) : State :=
  match s.hld.staged with
  | .empty => hldResult s 6 .notStaged
  | .pending => hldResult s 6 .busy
  | .switchPending => hldResult s 6 .busy
  | _ => hldResult (modHld s (fun h => { h with staged := .empty, bytes := [], patch := none })) 6 .ok

/-- HLD_DISCARD (R389). -/
def execHldDiscard (s : State) : Out := .next (unlessHalted s (hldDiscard s))

/-- PATCH_REVALIDATE (R382, R384): at t4 of F_a - 1 against the state in force. A patch that fails returns to VALID. -/
def execPatchRevalidate (t : Ns) (s : State) : Out :=
  let s := setNow s t
  .next (unlessHalted s <| match s.hld.patch with
    | some img =>
      if (s.hld.staged = .pending ∨ s.hld.staged = .switchPending) ∧ frameOf t + 1 = s.hld.fa then
        let c := match validate s s.hld.str img with
          | .ok => if applyFrameBad s img s.hld.fa then .applyFrame else .ok
          | c => c
        if c = .ok then hldResult (modHld s (fun h => { h with revalOk := true })) 3 .ok
        else hldReject (modHld s (fun h => { h with staged := .valid, peerPending := false, revalOk := false })) 3 c
      else s
    | none => s)

/-! ## The patch at its frame (R383 to R386) -/

/-- What an applied patch does, before the admission of its frame. -/
def applyPatch (s : State) (img : StreamImg) : State :=
  let old := s.hld.str
  let new := resultOf old img
  let gone := removedCols s old new
  let retire := s.hld.retiring ++ gone.map (retireOf old)
  let s0 := install new retire s
  let s1 := forEach (upTo 64) s0 (patchWick old new)
  let s2 := forEach (upTo 32) s1 (patchChan old s1.hld.str)
  let s3 := touchCols s2.col.c (forEach (upTo 16) s2 (patchCol old new))
  let s4 := modHld s3 (fun h => { h with
    removed := h.removed ++ (old.words.filter (fun p => (lookup new.words p.1).isNone)).map (·.1),
    staged := .empty, bytes := [], patch := none, peerPending := false, revalOk := false, unpersisted := true, appliedImg := some img })
  let s5 := stick (setRowClocks s4) .hldStatus 0 13
  addItem (logEv s5 (srcDev 0) .patchApplied img.patchNo) (.patch (img.hash % 2 ^ 64) img.patchNo)

/-! ## Persist (R387, R426, R440) -/

/-- Stream images of a bank. -/
def bankOf (s : State) (b : Bool) : List StreamImg := if b then s.mgt.bankB else s.mgt.bankA
/-- A bank is VALID. -/
def bankValid (s : State) (b : Bool) : Bool := if b then s.mgt.validB else s.mgt.validA
/-- Replaces a bank's images and state. -/
def setBank (s : State) (b : Bool) (l : List StreamImg) (valid : Bool) : State :=
  { s with mgt := if b then { s.mgt with bankB := l, validB := valid } else { s.mgt with bankA := l, validA := valid } }
/-- The bank carries the committed-once mark (R378). -/
def bankOnce (s : State) (b : Bool) : Bool := if b then s.mgt.onceB else s.mgt.onceA

/-- Codes of the flash operation in progress: 0 persist, 1 load (R426). -/
def flashPersist : Nat := 0
def flashLoad : Nat := 1

/-- The persist op (R387, R426, R440): it starts the write; refused with BUSY while another flash operation runs. -/
def hldPersist (s : State) : State :=
  match s.hld.appliedImg with
  | none => hldResult s 4 .notStaged
  | some img =>
    let l := bankOf s s.mgt.strB
    if s.hld.unpersisted = false then hldResult s 4 .notStaged
    else if s.mgt.flash.isSome then hldResult s 4 .busy
    else if 16 ≤ l.length ∨ 33554432 < (l.map (·.length)).sum + img.length then hldResult s 4 .persistFull
    else { s with mgt := { s.mgt with flash := some (flashPersist, s.now) } }

/-- HLD_PERSIST (R387). -/
def execHldPersist (s : State) : Out := .next (unlessHalted s (hldPersist s))

/-- PERSIST_COMPLETE (R387, R428): the patch counts as stored. What HLD_RESULT shows after a write that fails is not stated: its
code is free (log entry 12). -/
def execPersistComplete (t : Ns) (ok : Bool) (s : State) : Out :=
  let s := setNow s t
  .next (unlessHalted s <| match s.mgt.flash, s.hld.appliedImg with
    | some (0, _), some img =>
      let s1 := { s with mgt := { s.mgt with flash := none } }
      if ok then
        let s2 := setBank s1 s.mgt.strB (bankOf s s.mgt.strB ++ [img]) (bankValid s s.mgt.strB)
        hldResult (modHld s2 (fun h => { h with unpersisted := false })) 4 .ok
      else
        let s2 := useFree (hldResult s1 4 .ok)
        modHld s2 (fun h => { h with code := Config.freeNat s.free % 32 })
    | some (0, _), none => { s with mgt := { s.mgt with flash := none } }
    | _, _ => s)

/-! ## Loading at start (R378) -/

/-- Boot events and rejections at start. -/
def loadReject (s : State) (c : HldCode) : State := hldReject s 0 c

/-- The FULL stream of a bank and what its validation gives. -/
def fullOf (s : State) (b : Bool) : Option (StreamImg × HldCode) :=
  match bankOf s b with
  | img :: _ => if bankValid s b then some (img, if img.full then validate s Structure.empty img else .format) else none
  | [] => none

/-- The candidate of one bank. -/
def tryBank (s : State) (b : Bool) : State × Bool :=
  match fullOf s b with
  | some (img, .ok) =>
    (hldResult (modHld s (fun h => { h with cand := some (resultOf Structure.empty img), bankB := b, chainAt := 1 })) 0 .ok, true)
  | some (_, c) => (loadReject s c, false)
  | none => (s, false)

/-- STREAM_LOAD's search (R378, steps 1 and 3): the active bank, then the other if it carries the committed-once mark. -/
def loadStream (s : State) : State :=
  let a := tryBank s s.mgt.strB
  if a.2 then a.1
  else if bankOnce s (!s.mgt.strB) then
    let o := tryBank a.1 (!s.mgt.strB)
    if o.2 then logEv (modHld o.1 (fun h => { h with fallback := true })) (srcDev 0) .streamFallback 0 else o.1
  else a.1

/-- PATCH_CHAIN_APPLY's walk (R378, step 2): each patch against the structure of the one before, stopping at the first failure. -/
def applyChain (s : State) (l : List StreamImg) : State :=
  match l with
  | [] => s
  | img :: t =>
    match s.hld.cand with
    | none => s
    | some x =>
      let c := if img.full then .format else validate s x img
      if c = .ok then applyChain (modHld s (fun h => { h with cand := some (resultOf x img), chainAt := h.chainAt + 1 })) t
      else logEv (modHld (loadReject s c) (fun h => { h with chainBroken := true })) (srcDev 0) .chainBroken s.hld.chainAt

/-- The stored patches of the candidate's bank. -/
def chainOf (s : State) : List StreamImg := (bankOf s s.hld.bankB).drop 1

end Sys2Proof.Machine
end

