-- ==== Sys2Proof/Machine/Mgt.lean ====
section
/-!
DEFINITION. The management subsystem and the update path (R424 to R441): staged images, banks, floors, keys, attestation.
-/
namespace Sys2Proof.Machine

open Sys2Proof

/-- Changes the management state. -/
def modMgt (s : State) (f : MgtState → MgtState) : State := { s with mgt := f s.mgt }

/-- MGT_RESULT codes (R441). -/
inductive MgtCode where
  | ok | busy | running | format | signature | rollback | imgState | flash | keyState | keyWrap | notStaged | service | streamReject
  deriving DecidableEq, Repr

/-- Numeric code. -/
def MgtCode.code (c : MgtCode) : Nat := c.ctorIdx

/-- Writes MGT_RESULT. -/
def mgtResult (s : State) (op : Nat) (c : MgtCode) : State := modMgt s (fun m => { m with code := c.code, op := op })

/-! ## Staging an image (R433, R440) -/

/-- IMAGE_CHUNK (R433, R440): a chunk with first is refused with BUSY while the image is loading or being validated; any chunk is
while it is loading. Data that reaches a validated or validating image makes it RECEIVING again (log entry 12). -/
def imageChunk (s : State) (offset : Nat) (first : Bool) (data : List Byte) : State × Nat :=
  if s.mgt.img = .loading ∨ (first = true ∧ s.mgt.img = .validating) then (mgtResult s 0 .busy, Acc.busy.code)
  else if offset + data.length > imageMax then (mgtResult s 0 .format, Acc.range.code)
  else
    let old := if first then [] else s.mgt.imgBytes
    (modMgt s (fun m => { m with img := .receiving, imgBytes := putBytes old offset data, imgFw := none, imgStr := none }), 0)

/-- IMAGE_CHUNK (R433). -/
def execImageChunk (t : Ns) (d : Dgram) (offset : Nat) (first : Bool) (data : List Byte) (s : State) : Out :=
  let s := setNow s t
  .next (withDgram s d 3 (fun s _ =>
    let r := imageChunk s offset first data
    (if r.2 = 0 then noteChange r.1 d else r.1, r.2, [])))

/-- The img_validate op (R434). -/
def imgValidate (s : State) : State :=
  match s.mgt.img with
  | .empty => mgtResult s 1 .notStaged
  | .validating => mgtResult s 1 .busy
  | .loading => mgtResult s 1 .busy
  | _ => mgtResult (modMgt s (fun m => { m with img := .validating, imgFw := none, imgStr := none })) 1 .running

/-- IMG_VALIDATE (R434). -/
def execImgValidate (s : State) : Out := .next (unlessHalted s (imgValidate s))

/-- A key slot holds an unrevoked key for firmware (R430). -/
def fwKeyOk (s : State) (slot : Nat) : Bool :=
  match lookup s.mgt.otp slot with
  | some (.firmware, _) => true
  | _ => false

/-- A firmware image under R427, R430 and R432. -/
def checkFw (s : State) (x : FwImage) : MgtCode :=
  if !(x.headerOk && x.stepping == 0xB1 && decide (x.length ≤ 4194304)) then .format
  else if !(x.sigOk && fwKeyOk s x.keySlot) then .signature
  else if x.version < s.mgt.floorFw then .rollback
  else .ok

/-- A FULL stream under R377: nothing of the running structure joins it. -/
def checkFull (s : State) (x : StreamImg) : HldCode :=
  if x.full then validate (modHld s (fun h => { h with retiring := [] })) Structure.empty x else .format

/-- The staged bytes hold an image of this length from its first to its last byte (R371, R427). -/
def imageWhole (s : State) (length : Nat) : Bool := (s.mgt.imgBytes.filter (fun p => decide (p.1 < length))).length == length

/-- IMG_VALIDATE_COMPLETE (R434): the image is valid, or its code is shown. A staged image with bytes missing fails with FORMAT. -/
def execImgValidateComplete (t : Ns) (fw : Option FwImage) (str : Option StreamImg) (s : State) : Out :=
  let s := setNow s t
  .next (if s.mgt.halted = false ∧ s.mgt.img = .validating then
    match fw, str with
    | some x, _ =>
      let c := if imageWhole s x.length then checkFw s x else .format
      if c = .ok then mgtResult (modMgt s (fun m => { m with img := .valid, imgFw := some x })) 1 .ok
      else mgtResult (modMgt s (fun m => { m with img := .receiving })) 1 c
    | none, some x =>
      let c := if imageWhole s x.length then checkFull s x else .format
      let s1 := hldResult s 1 c
      if c = .ok then mgtResult (modMgt s1 (fun m => { m with img := .valid, imgStr := some x })) 1 .ok
      else mgtResult (modMgt (hldReject s 1 c) (fun m => { m with img := .receiving })) 1 .streamReject
    | none, none => mgtResult (modMgt s (fun m => { m with img := .receiving })) 1 .format
  else s)

/-! ## Loading and activating (R428, R434, R435) -/

/-- The img_load op: the inactive bank is EMPTY from the erase on. -/
def imgLoad (s : State) : State :=
  if s.mgt.img = .loading ∨ s.mgt.img = .validating ∨ s.mgt.flash.isSome then mgtResult s 2 .busy
  else if s.mgt.img = .valid then
    let s1 := mgtResult (modMgt s (fun m => { m with img := .loading, flash := some (flashLoad, s.now) })) 2 .running
    match s.mgt.imgFw with
    | some _ =>
      modMgt s1 (fun m => if m.fwB then { m with fwStA := .empty, fwA := none } else { m with fwStB := .empty, fwBImg := none })
    | none =>
      let s2 := setBank s1 (!s.mgt.strB) [] false
      modMgt s2 (fun m => if m.strB then { m with onceA := false } else { m with onceB := false })
  else mgtResult s 2 .notStaged

/-- IMG_LOAD (R434). -/
def execImgLoad (s : State) : Out := .next (unlessHalted s (imgLoad s))

/-- IMG_LOAD_COMPLETE (R428, R434): the bank read back matches and is VALID, or stays EMPTY. A FULL stream's bank has no patches. -/
def execImgLoadComplete (t : Ns) (ok : Bool) (s : State) : Out :=
  let s := setNow s t
  .next (unlessHalted s <| match s.mgt.flash with
    | some (1, _) =>
      let s1 := modMgt s (fun m => { m with flash := none, img := .valid })
      if ok then
        match s.mgt.imgFw, s.mgt.imgStr with
        | some x, _ =>
          mgtResult (modMgt s1 (fun m =>
            if m.fwB then { m with fwStA := .valid, fwA := some x, lastLoad := some (false, false) }
            else { m with fwStB := .valid, fwBImg := some x, lastLoad := some (false, true) })) 2 .ok
        | none, some x =>
          mgtResult (modMgt (setBank s1 (!s.mgt.strB) [x] true) (fun m => { m with lastLoad := some (true, !m.strB) })) 2 .ok
        | none, none => s1
      else mgtResult s1 2 .flash
    | _ => s)

/-- The port states that activation asks for (R435). -/
def portsIdle (s : State) : Bool :=
  (upTo 16).all (fun m => match (motOf s m).st with | .off => true | .disabled => true | .fault => true | _ => false) &&
  (upTo 32).all (fun v => match (solOf s v).st with | .peak => false | .hold => false | .decay => false | _ => true)

/-- The last loaded bank is VALID. -/
def lastValid (s : State) : Bool :=
  match s.mgt.lastLoad with
  | some (false, b) => (if b then s.mgt.fwStB else s.mgt.fwStA) == .valid
  | some (true, b) => bankValid s b
  | none => false

/-- The img_activate op: the last loaded bank becomes active, then CORE_RESET (R435). -/
def imgActivate (s : State) : State :=
  if !lastValid s || s.pair.st == .active || !portsIdle s then mgtResult s 3 .imgState
  else
    let s1 := match s.mgt.lastLoad with
      | some (false, b) =>
        modMgt s (fun m => { m with fwB := b, trialTry := false, fwStA := if b then m.fwStA else .trial, fwStB := if b then .trial else m.fwStB })
      | some (true, b) => modMgt s (fun m => { m with strB := b })
      | none => s
    coreReset (mgtResult s1 3 .ok) 0

/-- IMG_ACTIVATE (R435). -/
def execImgActivate (s : State) : Out := .next (unlessHalted s (imgActivate s))

/-- The img_discard op. -/
def imgDiscard (s : State) : State :=
  match s.mgt.img with
  | .empty => mgtResult s 4 .notStaged
  | .validating => mgtResult s 4 .busy
  | .loading => mgtResult s 4 .busy
  | _ => mgtResult (modMgt s (fun m => { m with img := .empty, imgBytes := [], imgFw := none, imgStr := none })) 4 .ok

/-- IMG_DISCARD (R441). -/
def execImgDiscard (s : State) : Out := .next (unlessHalted s (imgDiscard s))

/-- State of the active firmware bank. -/
def fwActive (s : State) : FwSt := if s.mgt.fwB then s.mgt.fwStB else s.mgt.fwStA
/-- Image in the active firmware bank. -/
def fwImage (s : State) : Option FwImage := if s.mgt.fwB then s.mgt.fwBImg else s.mgt.fwA
/-- Replaces the state of a firmware bank. -/
def setFw (s : State) (b : Bool) (x : FwSt) : State := modMgt s (fun m => if b then { m with fwStB := x } else { m with fwStA := x })

/-- TRIAL_CONFIRM (R435): 10 s past t2 without a watchdog expiry, and t7 reached where a stream is committed. -/
def execTrialConfirm (t : Ns) (s : State) : Out :=
  let s := setNow s t
  let ran := match lookup s.snf.bootT 2 with
    | some t2 => decide (t2 + 10 * secNs ≤ t)
    | none => false
  .next (if fwRuns s ∧ fwActive s = .trial ∧ ran = true ∧ s.snf.wdArmed = true ∧ (s.hld.committed = true → 7 ≤ s.snf.stage) then
      modMgt (setFw s s.mgt.fwB .confirmed) (fun m => { m with trialTry := false })
    else s)

/-! ## Floors (R432) -/

/-- The raise_floor_fw op. -/
def raiseFloorFw (s : State) : State :=
  if fwActive s = .confirmed then
    mgtResult (modMgt s (fun m => { m with floorFw := max m.floorFw ((fwImage s).map (·.version) |>.getD 0) })) 5 .ok
  else mgtResult s 5 .imgState

/-- RAISE_FLOOR_FW (R432). -/
def execRaiseFloorFw (s : State) : Out := .next (unlessHalted s (raiseFloorFw s))

/-- The raise_floor_stream op. -/
def raiseFloorStream (s : State) : State :=
  if bankOnce s s.mgt.strB then
    mgtResult (modMgt s (fun m => { m with floorStr := max m.floorStr (((bankOf s m.strB).head?).map (·.version) |>.getD 0) })) 6 .ok
  else mgtResult s 6 .imgState

/-- RAISE_FLOOR_STREAM (R432). -/
def execRaiseFloorStream (s : State) : Out := .next (unlessHalted s (raiseFloorStream s))

/-! ## Market keys (R436) -/

/-- Word i of MGT_WRAP. -/
def wrapWord (s : State) (i : Nat) : W32 := spGet 0#32 s.mgt.wrap i
/-- The first n bytes staged in MGT_WRAP. -/
def wrapBytes (s : State) (n : Nat) : List Byte := ((upTo 16).flatMap (fun i => bytesLE 4 (wrapWord s i).toNat)).take n
/-- MGT_WRAP is cleared after every install, enrol or failure. -/
def clearWrap (s : State) : State := modMgt s (fun m => { m with wrap := [] })

/-- Installing or removing a key empties the slot's table of accepted sequence numbers (R313). -/
def clearSeqs (s : State) (slot : Nat) : State :=
  { s with mkt := { s.mkt with seqTab := s.mkt.seqTab.filter (fun p => p.1 / 65536 != slot) } }

/-- Puts a key into a slot. -/
def putKey (s : State) (slot : Nat) (k : MktKey) : State := clearSeqs (modMgt s (fun m => { m with keys := spPut m.keys slot k })) slot

/-- The key-encryption key of an install (R436): over device ID, slot and key ID, keyed with the key that accepted the write. -/
def kekOf (s : State) (slot keyId auth : Nat) : BitVec 256 :=
  let key := match lookup s.mgt.keys auth with
    | some k => bytesLE 32 k.key
    | none => []
  Config.hmac key (bytesLE 8 s.mgt.devId ++ [BitVec.ofNat 8 slot, BitVec.ofNat 8 keyId])

/-- The key_install op (R436). -/
def keyInstall (s : State) (slot keyId level auth : Nat) : State :=
  match Config.unwrapKey (kekOf s slot keyId auth) (wrapBytes s 40) with
  | some k => clearWrap (mgtResult (putKey s slot { key := k.toNat, keyId := keyId, level := level }) 7 .ok)
  | none => clearWrap (mgtResult s 7 .keyWrap)

/-- KEY_INSTALL (R436): level 0 is outside the field's range. -/
def execKeyInstall (slot : Fin 4) (keyId : Fin 256) (level auth : Fin 4) (s : State) : Out :=
  .next (unlessHalted s (if level.val = 0 then report s hostReq (regAddr .mgtCmd 0) .range else keyInstall s slot keyId level auth))

/-- The key_remove op (R436): not the last key with ADMIN access. -/
def keyRemove (s : State) (slot : Nat) : State :=
  let admin := s.mgt.keys.filter (fun p => p.2.level == 3)
  if admin.map (·.1) = [slot] then mgtResult s 8 .keyState
  else mgtResult (clearSeqs (modMgt s (fun m => { m with keys := spDel m.keys slot })) slot) 8 .ok

/-- KEY_REMOVE (R436). -/
def execKeyRemove (slot : Fin 4) (s : State) : Out := .next (unlessHalted s (keyRemove s slot))

/-! ## OTP keys (R430, R431, R440) -/

/-- Held boot with SERVICE_EN sampled high (R431). -/
def serviceOk (s : State) : Bool := s.snf.heldBoot && s.snf.straps.testBit 4

/-- Use of an OTP slot. -/
def otpUse (s : State) (slot : Nat) : KeyUse := match lookup s.mgt.otp slot with | some (u, _) => u | none => .empty

/-- The enrol op: an empty slot of 2 to 7 takes the 64 bytes staged in MGT_WRAP. -/
def enrol (s : State) (q : Requester) (slot : Nat) : State :=
  if !serviceOk s then clearWrap (mgtResult s 9 .service)
  else if slot < 2 ∨ otpUse s slot ≠ .empty then clearWrap (mgtResult s 9 .keyState)
  else
    let s1 := modMgt s (fun m => { m with otp := spPut m.otp slot (.stream, natLE (wrapBytes s 64)) })
    logEv (clearWrap (mgtResult s1 9 .ok)) (partyOf q) .keyEnrolled slot

/-- ENROL (R431). -/
def execEnrol (slot : Fin 8) (s : State) : Out := .next (unlessHalted s (enrol s hostReq slot))

/-- The image or FULL stream active in its own bank is signed by the slot (R431). -/
def slotInUse (s : State) (slot : Nat) (u : KeyUse) : Bool :=
  match u with
  | .firmware => (fwImage s).any (fun x => x.keySlot == slot)
  | .stream => ((bankOf s s.mgt.strB).head?).any (fun x => x.keySlot == slot)
  | _ => false

/-- Staging that a revoked slot has signed goes back to RECEIVING (R440). -/
def unstage (s : State) (slot : Nat) : State :=
  if s.mgt.img = .valid ∧ (s.mgt.imgFw.any (fun x => x.keySlot == slot) || s.mgt.imgStr.any (fun x => x.keySlot == slot)) = true then
    modMgt s (fun m => { m with img := .receiving, imgFw := none, imgStr := none })
  else s

/-- The revoke op: refused where no other slot of the same usage would remain or the slot's signature is in use. -/
def revoke (s : State) (q : Requester) (slot : Nat) : State :=
  let u := otpUse s slot
  let other := s.mgt.otp.any (fun p => p.1 != slot && p.2.1 == u)
  if !serviceOk s then mgtResult s 10 .service
  else if (u ≠ .firmware ∧ u ≠ .stream) ∨ other = false ∨ slotInUse s slot u = true then mgtResult s 10 .keyState
  else
    let key := match lookup s.mgt.otp slot with | some (_, k) => k | none => 0
    let s1 := modMgt s (fun m => { m with otp := spPut m.otp slot (.revoked (u == .stream), key) })
    logEv (mgtResult (unstage s1 slot) 10 .ok) (partyOf q) .keyRevoked slot

/-- REVOKE (R431). -/
def execRevoke (slot : Fin 8) (s : State) : Out := .next (unlessHalted s (revoke s hostReq slot))

/-! ## Attestation (R438) -/

/-- The 80-byte statement. -/
def statement (s : State) : List Byte :=
  bytesLE 8 s.mgt.devId ++ (upTo 8).flatMap (fun i => bytesLE 4 (regW s .mgtNonce i).toNat) ++
  bytesLE 4 ((fwImage s).map (·.version) |>.getD 0) ++ bytesLE 4 s.hld.str.version ++ bytesLE 32 s.hld.str.hash

/-- The attest op: the signature of the statement's digest stands in MGT_ATTEST. -/
def attest (s : State) : State :=
  let digest := bytesLE 32 (Config.sha256 (statement s)).toNat
  mgtResult (modMgt s (fun m => { m with attest := (Config.signature digest).toNat })) 11 .ok

/-- ATTEST (R438). -/
def execAttest (s : State) : Out := .next (unlessHalted s (attest s))

end Sys2Proof.Machine
end

