-- ==== Sys2Proof/Machine/Views.lean ====
section
/-!
DEFINITION. What a register read shows (R8, R472): the RO fields are views of the block's records; the RW, RWL and W1C fields are
the stored words. A W1C bit that its unit keeps in a record of its own is shown from there.
-/
namespace Sys2Proof.Machine

open Sys2Proof

/-- Several truth values at bits. -/
def putBits (l : List (Nat × Bool)) : W32 := l.foldl (fun w p => w ||| putB p.1 p.2) 0#32

/-- A map of n truth values from bit 0. -/
def mapW (n : Nat) (f : Nat → Bool) : W32 := BitVec.ofNat 32 (mapBits ((upTo n).map f))

/-- Two 16-bit halves. -/
def half (lo hi : Nat) : W32 := put 0 16 lo ||| put 16 16 hi

/-- Word i of 32 bits of a long number, the low word first. -/
def wordAt (x i : Nat) : W32 := BitVec.ofNat 32 (x >>> (32 * i))

/-! ### Wicks, lamplighter, moisture -/

/-- R54. -/
def viewWick (s : State) (r : RegName) (i : Nat) : Option W32 :=
  let x := wickOf s i
  let is (st : WickSt) (k : Nat) : Bool := (wickOf s k).st == st
  match r with
  | .wckStatus => some (put 0 3 x.st.code ||| putBits [(3, x.rev), (4, x.late), (5, x.srcUnsynced || (s.mkt.unsynced && x.st != .disabled))])
  | .wckPosLo => some (loI (wickPosWord s i s.now))
  | .wckPosHi => some (hiI (wickPosWord s i s.now))
  | .wckSpeed => some (loI x.speed)
  | .wckEdgeTimeLo => some (lo32 x.edgeTime)
  | .wckEdgeTimeHi => some (hi32 x.edgeTime)
  | .wckDiag => some (half x.phaseErrors x.losses)
  | .wckDormantDeltaLo => some (loI x.delta)
  | .wckDormantDeltaHi => some (hiI x.delta)
  | .wckLostMapLo => some (mapW 32 (is .lost))
  | .wckLostMapHi => some (mapW 32 (fun k => is .lost (32 + k)))
  | .wckStillMapLo => some (mapW 32 (is .still))
  | .wckStillMapHi => some (mapW 32 (fun k => is .still (32 + k)))
  | .wckSnapTimeLo => some (lo32 s.wick.snapTime)
  | .wckSnapTimeHi => some (hi32 s.wick.snapTime)
  | _ => none

/-- Slots in ARMED, HELD or OPEN, and open windows (R75 LLT_OCCUPANCY). -/
def lltArmed (s : State) : Nat := (s.llt.slots.filter (fun p => !armable p.2.st)).length
def lltOpen (s : State) : Nat := (s.llt.slots.filter (fun p => p.2.st == .open_ && p.1 % 2 == 0)).length

/-- R75. -/
def viewLlt (s : State) (r : RegName) (i : Nat) : Option W32 :=
  match r with
  | .lltOccupancy => some (put 0 15 (lltArmed s) ||| put 16 14 (lltOpen s))
  | .lltResult => some (put 0 8 s.llt.result ||| put 16 14 s.llt.resultSlot)
  | .lltExecLo => some (lo32 s.llt.exec)
  | .lltExecHi => some (hi32 s.llt.exec)
  | .lltDiag => some (half s.llt.refused s.llt.drops)
  | .lltSlotStatus =>
    let x := slotOf s i
    some (put 0 4 x.st.code ||| putBits [(4, x.inhibited), (5, x.late), (6, x.missed), (7, x.conflict), (8, x.tgtFault)] |||
      put 16 16 (sat 16 x.execs))
  | _ => none

/-- Numbers of the sample slots that hold a capture, and of those that hold a laboratory value too (R97 MST_CAL_STATUS). -/
def captured (x : MoistCh) : Nat := (x.samples.filter (fun p => p.2.captured)).length
def labSamples (x : MoistCh) : Nat := (x.samples.filter (fun p => p.2.captured && p.2.lab.isSome)).length

/-- R97. -/
def viewMoist (s : State) (r : RegName) (i : Nat) : Option W32 :=
  let x := chanOf s i
  let o := x.out
  match r with
  | .mstStatus =>
    some (put 0 2 o.q.code ||| (put 2 16 o.flags.toNat &&& ~~~(putB 4 true)) ||| putB 4 x.fouled ||| put 20 11 x.validSets)
  | .mstMoisture => some o.moisture
  | .mstGrainTemp => some o.tGrain
  | .mstDensity => some o.density
  | .mstTimeLo => some (lo32 o.stamp)
  | .mstTimeHi => some (hi32 o.stamp)
  | .mstCoordLo => some (loI o.coord)
  | .mstCoordHi => some (hiI o.coord)
  | .mstEps =>
    let y := chanOf s (i / 8)
    let e := cxAt y.eps (i % 8 / 2)
    some (if i % 2 = 0 then e.re else e.im)
  | .mstCalStatus =>
    some (put 0 4 x.lastOp ||| put 4 4 x.result |||
      putBits [(8, x.pOpen.isSome), (9, x.pShort.isSome), (10, x.pLoad.isSome), (11, x.pAir.isSome)] |||
      put 12 6 (labSamples x) ||| put 18 6 (captured x))
  | .mstFitSlope => some (mstFit s i).1
  | .mstFitOffset => some (mstFit s i).2
  | _ => none

/-! ### Columns, drying, heat, aeration -/

/-- Capture time of the newest image of a column, 0 with none (R117). -/
def ckptTime (x : Column) : Nat :=
  let t (m : Option Ckpt) : Nat := match m with | some k => k.time | none => 0
  max (t x.imgA) (t x.imgB)

/-- R117. -/
def viewCol (s : State) (r : RegName) (i : Nat) : Option W32 :=
  let x := colOf s i
  match r with
  | .pclStatus => some (put 0 3 x.st.code ||| putBits [(3, colStale x), (4, x.restored), (5, x.noImage)])
  | .pclStepLo => some (loI x.k)
  | .pclStepHi => some (hiI x.k)
  | .pclCounts => some (put 0 7 x.shadow.length ||| put 16 13 (x.table.filter (fun p => p.has 5)).length)
  | .pclDiag => some (half x.drops x.unknowns)
  | .pclCkptTimeLo => some (lo32 (ckptTime x))
  | .pclCkptTimeHi => some (hi32 (ckptTime x))
  | .pclStaleMap => some (mapW 16 (fun c => colStale (colOf s c)) ||| (mapW 16 (fun c => (colOf s c).st == .held) <<< 16))
  | _ => none

/-- R148 to R150. -/
def viewDry (s : State) (r : RegName) (i : Nat) : Option W32 :=
  let d := dryOf s i
  let h := heatOf s i
  let a := aerOf s i
  match r with
  | .dryStatus =>
    some (put 0 3 d.st.code ||| put 3 2 d.source |||
      putBits [(5, d.limLow), (6, d.limHigh), (7, d.frozen), (8, d.bound), (9, d.airSubst), (10, d.tableBad)])
  | .dryRateOut => some d.rOut
  | .dryPred => some d.pred
  | .dryBias => some d.beta
  | .dryLnA => some d.theta
  | .dryConf => some d.conf
  | .dryTrim => some d.trim
  | .heatStatus => some (putBits [(0, h.permit), (1, h.throttling), (2, h.ambSubst), (3, h.sensorFailed)])
  | .heatSpOut => some h.spOut
  | .heatTMax => some h.tx
  | .heatFactor => some h.hf
  | .aerStatus => some (put 0 3 a.rule ||| putB 3 a.fans)
  | .aerEmc => some a.emc
  | _ => none

/-! ### Engines, rows, baskets, tags -/

/-- state of ENG_STATUS (R172): HALTED, RELIGHT, RUN with blocks placed, IDLE. -/
def engState (s : State) (e : Nat) : Nat :=
  if (engOf s e).halted then 2 else if !engPlaced s e then 0 else if relit s then 3 else 1

/-- Blocks placed on an engine, and the KiB of its two memories in use (R153, ENG_USE). -/
def engInsts (s : State) (e : Nat) : List Inst := (s.hld.str.insts.filter (fun p => p.2.engine == e)).map (·.2)
def imKib (l : List Inst) : Nat :=
  let types := l.foldl (fun (acc : List BlockType) p => if acc.contains p.typ then acc else p.typ :: acc) []
  ceilDiv (4096 + (types.map (·.codeBytes)).sum) 1024
def dmKib (l : List Inst) : Nat := ceilDiv (9216 + (l.map (fun p => p.typ.stateSize.1 + p.typ.stateSize.2 * p.items)).sum) 1024

/-- The 16 bytes of a basket's descriptor (R161). -/
def bskDescBytes (d : BasketDesc) (x : Basket) : List Byte :=
  bytesLE 4 d.offset ++ bytesLE 2 d.depth ++ bytesLE 1 (d.width + 8 * d.policy.code + 32 * d.cls) ++ bytesLE 1 0 ++
  bytesLE 2 d.consumer ++ bytesLE 2 d.producer ++ bytesLE 2 x.head ++ bytesLE 2 x.msgs.length

/-- KiB of basket storage allocated (R161). -/
def bskKib (s : State) : Nat := ceilDiv (s.hld.str.baskets.map (fun p => p.2.depth * widthBytes p.2.width)).sum 1024

/-- What the basket and tag registers show: as at the latest t0 (R173); what was cleared since reads 0. -/
def shownBsk (s : State) (b : Nat) : Basket :=
  let x := bskOf s b
  let y := bskOf (t0 s) b
  { y with dropped := y.dropped && x.dropped, overwritten := y.overwritten && x.overwritten, refusedFull := y.refusedFull && x.refusedFull,
           creditViol := y.creditViol && x.creditViol, lengthErr := y.lengthErr && x.lengthErr, drops := min y.drops x.drops,
           overwrites := min y.overwrites x.overwrites, peak := min y.peak x.peak }

/-- R172, R173. -/
def viewEng (s : State) (r : RegName) (i : Nat) : Option W32 :=
  let x := engOf s i
  let y := rowOf s i
  let b := shownBsk s (bskSel s)
  let g := (t0 s).eng
  match r with
  | .engStatus => some (put 0 2 (engState s i) ||| putBits [(8, x.miss), (9, x.eccCorr)] ||| put 12 2 x.haltCause)
  | .engLoad => some (half (s.hld.str.we.getD i 0) x.peak)
  | .engUse => some (let l := engInsts s i; if l.isEmpty then 0#32 else put 0 9 l.length ||| put 16 7 (imKib l) ||| put 24 7 (dmKib l))
  | .engMisses => some (half x.misses x.skipped)
  | .engMissFrameLo => some (lo32 x.missFrame)
  | .engMissFrameHi => some (hi32 x.missFrame)
  | .engMissInst => some (put 0 13 x.missInst)
  | .rowClock => some (put 0 8 y.m ||| put 8 8 (s.hld.str.rows.getD i 0) ||| putBits [(16, y.atFloor), (17, y.throttling), (18, y.floorHeld)])
  | .rowWorst => some (put 0 16 (rowWorst s i))
  | .engMissMap => some (mapW 32 (fun k => (engOf s (32 * i + k)).missMap))
  | .engHaltMap => some (mapW 32 (fun k => (engOf s (32 * i + k)).halted))
  | .bskDesc => some (BitVec.ofNat 32 (natLE (((bskDescBytes (bdescOf s (bskSel s)) b).drop (4 * i)).take 4)))
  | .bskStatus =>
    some (put 0 16 b.msgs.length |||
      putBits [(16, b.dropped), (17, b.overwritten), (18, b.refusedFull), (19, b.creditViol), (20, b.lengthErr)])
  | .bskCounts => some (half b.drops b.overwrites)
  | .bskPeak => some (put 0 16 b.peak)
  | .bskGlobal => some ((g.bskGlobal &&& s.eng.bskGlobal).setWidth 32)
  | .bskStorage => some (put 0 15 (bskKib s) ||| put 16 16 s.hld.str.baskets.length)
  | .tagStatus =>
    some (put 0 13 (g.tags.filter (fun p => !p.2.quarantined)).length ||| put 16 13 (g.tags.filter (fun p => p.2.quarantined)).length)
  | .tagDiag => some (half g.tagLost g.tagStray)
  | .tagFlags => some ((g.tagFlags &&& s.eng.tagFlags).setWidth 32)
  | _ => none

/-! ### Loops, tapers, motors, gates, routes -/

/-- R188, R189. -/
def viewLoop (s : State) (r : RegName) (i : Nat) : Option W32 :=
  let x := loopOf s i
  let y := taperOf s i
  match r with
  | .loopStatus => some (put 0 3 x.st.code ||| put 3 3 x.cause ||| putBits [(6, x.clamped), (7, x.returning), (14, x.nightPending)])
  | .loopOut => some x.ua
  | .loopSp => some x.w
  | .loopPv => some x.x
  | .loopErr => some x.e
  | .loopLimit => some x.eLim
  | .loopConf => some x.conf
  | .loopFindings => some (put 0 8 x.nLost ||| put 8 8 x.nFrozen ||| put 16 8 x.nFollow ||| put 24 8 x.nImpl)
  | .tprStatus => some (put 0 2 y.mode.code ||| putBits [(2, y.atTarget), (5, y.wickLost)])
  | .tprOut => some y.y
  | .tprRate => some y.r
  | .tprRemain => some y.remain
  | _ => none

/-- R220. -/
def viewMotor (s : State) (r : RegName) (i : Nat) : Option W32 :=
  let x := motOf s i
  let f (k : Nat) : Bool := x.rec_.flags.testBit k
  match r with
  | .motStatus =>
    some (put 0 4 x.st.code ||| putBits [(4, x.dirRev), (5, x.obsValid), (6, x.fallback), (7, f 2), (8, f 5), (9, f 0), (10, f 1),
      (11, x.night), (12, x.gated)] ||| put 13 4 x.stalls ||| putB 19 x.offsetValid)
  | .motFault => some (put 0 4 x.fault.code)
  | .motSpeed => some x.rec_.speed
  | .motObsSpeed => some x.obsSpeed
  | .motId => some x.rec_.id
  | .motIq => some x.rec_.iq
  | .motVdc => some x.rec_.vdc
  | .motVline => some (fRat x.rec_.vLine 10)
  | .motDerate => some (x.g.getD 0#32)
  | .motAngle => some (put 0 16 x.rec_.angle)
  | .motIdentRs => some x.rs
  | .motIdentLs => some x.ls
  | .motCounts => some (half x.faults x.stallCount)
  | _ => none

/-- R228, R230, R238. -/
def viewGate (s : State) (r : RegName) (i : Nat) : Option W32 :=
  let g := gateOf s i
  let x := routeOf s i
  let m (k : Nat) : MemberRun := spGet MemberRun.idle x.mem k
  match r with
  | .gateStatus => some (put 0 3 g.home.code ||| put 3 3 g.fault.code ||| putBits [(6, g.homed), (7, g.inPos)])
  | .routeStatus => some (put 0 3 x.st.code ||| put 3 4 x.faultMember ||| put 7 2 x.cause)
  | .routeMembers => some (mapW 16 (fun k => (m k).started) ||| (mapW 16 (fun k => (m k).proved) <<< 16))
  | .slipStatus => some (put 0 16 (slipOf s i).slip ||| putB 16 (slipOf s i).unknown)
  | .divStatus => some (put 16 16 (sat 16 (spGet 0 s.motor.div i)))
  | _ => none

/-! ### Aisles and stalls, transmitters, solenoids -/

/-- R267, R268. -/
def viewAisle (s : State) (r : RegName) (i : Nat) : Option W32 :=
  let a := aisOf s i
  let x := stlOf s i
  match r with
  | .aisStatus => some (put 0 2 a.st.code ||| putBits [(2, a.coreFault), (3, a.snuffed), (4, a.ownedAtEntry), (5, a.localOsc)])
  | .aisSupply => some (half a.avf a.avl)
  | .aisTemp => some (put 0 16 (wrapN 16 a.tDie))
  | .aisLink => some (half a.crcErrors a.losses)
  | .aisSafeCrc => some a.safeCrc
  | .aisDiMap =>
    some (diMap s i)
  | .aisDoMap => some (doMap s i)
  | .aisSweepStatus => some (putB 0 a.sweep.running ||| put 1 4 a.sweep.stall ||| putBits [(6, a.sweep.aborted), (7, a.sweep.wide)])
  | .aisSweepResult => some ((upTo 16).foldl (fun w k => w ||| put (2 * k) 2 (a.sweep.results.getD k 0)) 0#32)
  | .aisSummary =>
    some (mapW 8 (fun n => (aisOf s n).coreFault) ||| (mapW 8 (fun n => (aisOf s n).st == .safe) <<< 8) |||
      (mapW 8 (fun n => (aisOf s n).lostUp) <<< 16))
  | .stlStatus =>
    some (put 0 2 x.q.code ||| put 2 2 x.cls.code ||| put 4 7 x.flags.toNat ||| putBits [(11, x.linkLost), (12, x.supplyLim)])
  | .stlValue => some x.value
  | .stlRaw => some x.raw
  | .stlTimeLo => some (lo32 x.stamp)
  | .stlTimeHi => some (hi32 x.stamp)
  | .stlCount => some (loI x.count)
  | .stlDiag => some (half x.failures x.lostEdges)
  | .cblSuspect => some (BitVec.ofNat 32 (spGet (0, 0, 0) s.aisle.cbl i).1)
  | .cblFailed => some (BitVec.ofNat 32 (spGet (0, 0, 0) s.aisle.cbl i).2.1)
  | .cblUnchecked => some (BitVec.ofNat 32 (spGet (0, 0, 0) s.aisle.cbl i).2.2)
  | _ => none

/-- The lock in force for a port's buttons (R278). -/
def txLocked (s : State) (n : Nat) : Bool := (txOf s n).lockMram.getD false

/-- R280. -/
def viewTx (s : State) (r : RegName) (i : Nat) : Option W32 :=
  let p := txOf s i
  match r with
  | .txStatus => some (put 0 3 p.st.code ||| putBits [(3, p.almHigh), (4, txLocked s i), (5, p.clamped), (6, p.lowComp), (7, p.silent)])
  | .txTarget => some (fRat (txLevel s i) 64000000)
  | .txReadback => some p.readback
  | .txTermV => some p.termV
  | .txCounts => some (half p.faults p.trims)
  | .txSession =>
    match s.tx.sess with
    | none => some 0#32
    | some x => some (putBits [(0, true), (1, x.span)] ||| put 2 4 x.port ||| put 6 9 (wrapN 9 x.steps))
  | .txLockMap => some (mapW 16 (txLocked s) ||| (mapW 16 (fun n => (txOf s n).st == .fault) <<< 16))
  | _ => none

/-- E as 64 bits, all ones while open (R292). -/
def SolEnd.word (e : SolEnd) : Nat := match e with | .at_ t => t | .open_ => 2 ^ 64 - 1

/-- R292. -/
def viewSol (s : State) (r : RegName) (i : Nat) : Option W32 :=
  let p := solOf s i
  match r with
  | .solStatus => some (put 0 3 p.st.code ||| putBits [(3, p.queued.isSome), (4, p.gated)] ||| put 5 3 p.fault.code)
  | .solCurrent => some p.current
  | .solDutyUsed => some p.dutyUsed
  | .solEndLo => some (lo32 p.e.word)
  | .solEndHi => some (hi32 p.e.word)
  | .solCounts => some (half p.activations p.faults)
  | .solFaultMap => some (mapW 32 (fun v => (solOf s v).st == .fault))
  | .solOnMap => some (mapW 32 (fun v => (solOf s v).st == .peak || (solOf s v).st == .hold))
  | _ => none

/-! ### Market, tallies, recorder, pair -/

/-- R323. -/
def viewMkt (s : State) (r : RegName) (i : Nat) : Option W32 :=
  let m := s.mkt
  let p := if i = 0 then m.port0 else m.port1
  match r with
  | .mktStatus =>
    some (put 0 2 m.member.code ||| putBits [(2, m.unsynced), (3, m.gm), (4, m.taiHold), (5, m.noTai), (6, m.switch.isSome)])
  | .mktSync => some (put 0 24 (wrapN 24 (satS 24 m.offset)) ||| put 24 6 m.hops)
  | .mktTimeLo => some (lo32 s.now)
  | .mktTimeHi => some (hi32 s.now)
  | .mktGen =>
    some (put 0 16 m.gen ||| (match m.switch with | some q => put 16 2 q.op.code ||| put 18 10 q.subject | none => 0#32))
  | .mktSwitchLo => some (lo32 m.lastS)
  | .mktSwitchHi => some (hi32 m.lastS)
  | .mktDiscards => some (half m.genMismatch m.badFrame)
  | .mktDrops => some (half m.noRoute m.authFail)
  | .mktPort => some (putBits [(1, p.linkUp), (2, p.ptp), (3, p.slave)] ||| put 16 16 (sat 16 p.delay))
  | .mktHeard =>
    some (mapW 32 (fun k => match lookup m.heard (32 * i + k) with | some t => decide (s.now < t + 300 * msNs) | none => false))
  | _ => none

/-- Code of a tally bank's state (R339). -/
def BankState.code (b : BankState) : Nat := b.ctorIdx

/-- R339, R340. -/
def viewRec (s : State) (r : RegName) (i : Nat) : Option W32 :=
  let t := s.tal
  let e := s.rec_
  match r with
  | .talResult => some (put 0 4 t.result ||| put 4 1 t.resultBank)
  | .talBank => some (put 0 2 t.bank0.st.code ||| put 2 2 t.bank1.st.code)
  | .talNum => some (BitVec.ofNat 32 (if i = 0 then t.bank0.num else t.bank1.num))
  | .evrHeadLo => some (lo32 e.head)
  | .evrHeadHi => some (hi32 e.head)
  | .evrClearedLo => some (lo32 e.cleared)
  | .evrClearedHi => some (hi32 e.cleared)
  | .evrMramLo => some (lo32 e.mramSeq)
  | .evrMramHi => some (hi32 e.mramSeq)
  | .evrStatus => some (putB 0 e.mramLag)
  | .evrCounts => some (half e.lost e.queuePeak)
  | _ => none

/-- R370. -/
def viewPair (s : State) (r : RegName) : Option W32 :=
  let p := s.pair
  match r with
  | .pairCfg => some (putB 1 (isB s))
  | .pairStatus =>
    some (put 0 3 p.st.code ||| put 3 2 p.phase.code ||| put 5 2 p.health.code |||
      putBits [(7, p.ownLand), (8, p.peerOwn), (9, p.gate), (10, mirrorFresh s), (11, !pairLinkUp s), (20, p.snufCause), (21, p.idConflict)])
  | .pairEpochLo => some (lo32 p.epoch)
  | .pairEpochHi => some (hi32 p.epoch)
  | .pairMirror => some (half (mirrorAge10 s) p.setSeq)
  | .pairFindings => some (put 0 12 p.findings)
  | .pairSelftest => some (put 0 27 p.selftest)
  | .pairCompare => some (half p.mismatches (sat 16 ((s.now - p.cleanFrom) / secNs)))
  | .pairWick => some (put 0 6 (worstWick s).1 ||| put 16 16 (sat 16 (worstWick s).2))
  | .pairLink => some (putB 0 (pairLinkUp s) ||| put 16 16 p.crcErrors)
  | .pairTakeoverLo => some (lo32 p.takeT)
  | .pairTakeoverHi => some (hi32 p.takeT)
  | .pairPeer =>
    match p.lan with
    | none => some (put 3 2 2)
    | some l => some (put 0 3 l.st.code ||| put 3 2 l.health.code ||| putB 5 (peerLantern s).isSome)
  | _ => none

/-! ### Stream, snuffer, thermal, management -/

/-- The staged patch's hash, shown while it is VALID (HLD_STAGED_HASH). -/
def stagedHash (s : State) : Nat := match s.hld.staged, s.hld.patch with | .valid, some p => p.hash | _, _ => 0

/-- R390. -/
def viewHld (s : State) (r : RegName) (i : Nat) : Option W32 :=
  let h := s.hld
  match r with
  | .hldStatus =>
    some (putBits [(0, h.committed), (1, h.bankB), (2, h.fallback), (3, h.chainBroken)] ||| put 4 3 h.staged.code |||
      putBits [(7, h.unpersisted), (8, !h.retiring.isEmpty), (15, h.peerPending)] ||| put 9 4 ((bankOf s s.mgt.strB).length - 1))
  | .hldResult => some (put 0 5 h.code ||| put 5 3 h.op ||| put 8 8 h.section_ ||| put 16 16 h.record)
  | .hldUpload => some (put 0 25 h.bytes.length)
  | .hldVersion => some (BitVec.ofNat 32 h.str.version)
  | .hldPatch => some (BitVec.ofNat 32 h.str.patchNo)
  | .hldHash => some (wordAt h.str.hash i)
  | .hldStagedHash => some (wordAt (stagedHash s) i)
  | _ => none

/-- R409. -/
def viewSnf (s : State) (r : RegName) : Option W32 :=
  let x := s.snf
  match r with
  | .snfStatus =>
    some (putB 0 x.active ||| put 1 6 x.holding ||| put 14 3 x.first |||
      putBits [(17, x.record.isSome), (19, x.safeOut), (20, x.dormant || x.dormEntering)])
  | .snfResult => some (put 0 3 x.result ||| put 3 3 x.resultOp)
  | .snfWdog => some (put 16 16 x.expiries)
  | .snfReset => some (put 0 2 x.kind.code ||| put 2 2 x.coreCause ||| put 16 16 x.auxResets)
  | .snfStraps => some (put 0 5 x.straps)
  | .snfBoot => some (put 0 4 x.stage ||| putBits [(4, x.heldBoot), (5, x.enabled)] ||| put 16 16 x.bootMs)
  | _ => none

/-- Class shown for a sensor: STALE while its link is lost (R411). -/
def sensClass (s : State) (i : Nat) : SensClass := if sensStale s i then .stale else (sensOf s i).cls

/-- Some sensor stands in a class. -/
def anySens (s : State) (c : SensClass) : Bool := (upTo 32).any (fun i => sensClass s i == c)

/-- R423. -/
def viewThr (s : State) (r : RegName) (i : Nat) : Option W32 :=
  let t := s.thr
  let x := sensOf s i
  let p := polOf s i
  match r with
  | .thrStatus =>
    some (put 0 3 t.st.code ||| putBits [(3, autoPermitted s s.now), (4, t.autoDis), (5, t.otpBad), (6, anySens s .suspect), (7, anySens s .failed)])
  | .thrHot => some (put 0 16 (wrapN 16 (sensOf s (hotSensor s)).checked) ||| put 16 5 (hotSensor s))
  | .thrCount => some (put 0 8 (thrCount s s.now) ||| put 16 16 (sat 16 t.total))
  | .thrPower => some (half t.pIn (if s.hld.committed then aisleDiss s.hld.str else 0))
  | .thrRowT => some (put 0 16 (wrapN 16 (rowTemp s i)) ||| put 16 8 (mLawOf s i))
  | .thrSensVal => some (put 0 16 (wrapN 16 x.checked) ||| put 16 2 (sensClass s i).code ||| putB 18 x.unchecked)
  | .thrSensRaw => some (put 0 16 (wrapN 16 x.raw) ||| put 16 16 x.suspects)
  | .thrPolStatus => some (put 0 2 p.level ||| putB 2 p.failed ||| put 8 3 p.input ||| put 16 16 (wrapN 16 p.tp))
  | _ => none

/-- Version of a firmware bank's image, 0 when EMPTY (R441). -/
def fwVer (st : FwSt) (x : Option FwImage) : Nat := match st, x with | .empty, _ => 0 | _, some f => f.version | _, none => 0

/-- Four staged bytes as a little-endian number, where all of them are there (R371, R427). -/
def imgField (m : MgtState) (off : Nat) : Option Nat :=
  let l := (upTo 4).filterMap (fun i => lookup m.imgBytes (off + i))
  if l.length = 4 then some (natLE l) else none

/-- Kind of the staged image (MGT_IMG): from its magic (R433). -/
def imgKind (m : MgtState) : Nat :=
  if m.imgFw.isSome then 1 else if m.imgStr.isSome then 2
  else match imgField m 0 with
    | some 0x57464A50 => 1
    | some 0x4E444C48 => 2
    | _ => 0
/-- Version of the staged image (R441): of the validated image, else as its header stands in the staging area (R371, R427). -/
def imgVer (m : MgtState) : Nat :=
  match m.imgFw, m.imgStr with
  | some f, _ => f.version
  | none, some x => x.version
  | none, none => match imgKind m with | 1 => (imgField m 16).getD 0 | 2 => (imgField m 20).getD 0 | _ => 0

/-- R441, R461. -/
def viewMgt (s : State) (r : RegName) (i : Nat) : Option W32 :=
  let m := s.mgt
  match r with
  | .mgtStatus =>
    some (putB 0 m.fwB ||| put 1 3 m.fwStA.code ||| put 4 3 m.fwStB.code ||| putBits [(8, m.strB), (9, m.validA), (10, m.validB)] |||
      put 11 3 m.img.code ||| putBits [(14, m.flash.isSome), (15, m.lockSeen), (16, m.debugLock)])
  | .mgtResult => some (put 0 4 m.code ||| put 4 4 m.op)
  | .mgtFwVerA => some (BitVec.ofNat 32 (fwVer m.fwStA m.fwA))
  | .mgtFwVerB => some (BitVec.ofNat 32 (fwVer m.fwStB m.fwBImg))
  | .mgtFloorFw => some (BitVec.ofNat 32 m.floorFw)
  | .mgtFloorStream => some (BitVec.ofNat 32 m.floorStr)
  | .mgtOtpKeys => some ((upTo 8).foldl (fun w k => w ||| put (2 * k) 2 (otpUse s k).code) 0#32)
  | .mgtMkey => match lookup m.keys i with | some k => some (put 0 8 k.keyId ||| put 8 2 k.level) | none => some 0#32
  | .mgtImg => some (put 0 25 m.imgBytes.length ||| put 25 2 (imgKind m))
  | .mgtImgVer => some (BitVec.ofNat 32 (imgVer m))
  | .mgtDevidLo => some (lo32 m.devId)
  | .mgtDevidHi => some (hi32 m.devId)
  | .mgtSerial => some (BitVec.ofNat 32 (natLE ((m.serial.drop (4 * i)).take 4)))
  | .mgtAttest => some (wordAt m.attest i)
  | .mgtDevkey => some (wordAt m.devKey i)
  | .monStatus => some (putB 0 s.mon.latched ||| put 1 2 s.mon.baud ||| putB 3 s.mon.loading.isSome)
  | _ => none

/-! ### Wax, relight, global registers -/

/-- Market time of the oldest retained keyframe, 0 with none (WAX_OLDEST). -/
def waxOldest (s : State) : Nat := match s.wax.keys.getLast? with | some k => k.frame * frameNs | none => 0

/-- Length of the frozen image, 0 with none (WAX_SIZE). -/
def waxSize (s : State) : Nat := match s.wax.frozen with | some f => f.bytes | none => 0

/-- R460. -/
def viewWax (s : State) (r : RegName) : Option W32 :=
  let w := s.wax
  let x := s.rlt
  match r with
  | .waxStatus => some (putB 0 w.recording ||| put 1 2 w.staging.code ||| putB 3 w.export_.isSome)
  | .waxRate => some (half (sat 16 w.rate) (sat 16 w.peak))
  | .waxSpan => some (half (sat 16 w.segs.length) (w.summaries.length / 60))
  | .waxOldestLo => some (lo32 (waxOldest s))
  | .waxOldestHi => some (hi32 (waxOldest s))
  | .waxSizeLo => some (lo32 (waxSize s))
  | .waxSizeHi => some (hi32 (waxSize s))
  | .waxResult => some (put 0 4 w.code ||| put 4 3 w.op)
  | .rltStatus => some (put 0 3 x.st.code ||| put 3 4 x.stop ||| put 7 4 x.refusal)
  | .rltFrameLo => some (lo32 x.frame)
  | .rltFrameHi => some (hi32 x.frame)
  | .rltDigestRec => some x.digRec
  | .rltDigestOwn => some x.digOwn
  | .rltLib => some (BitVec.ofNat 32 (match fwImage s with | some f => f.lib | none => 0))
  | _ => none

/-- R470. -/
def viewGlb (s : State) (r : RegName) (i : Nat) : Option W32 :=
  let g := s.glb
  match r with
  | .glbId => some (half 0x00B1 0x0128)
  | .glbCaps =>
    some (if i = 0 then put 0 8 127 ||| put 8 8 127 ||| put 16 4 7 ||| put 20 4 15 ||| put 24 5 31
      else put 0 6 63 ||| put 6 4 15 ||| put 10 4 15 ||| put 14 10 1023)
  | .glbState =>
    some (putBits [(0, s.hld.committed), (1, s.snf.enabled), (2, s.snf.active)] ||| put 3 3 s.pair.st.code ||| put 6 2 s.mkt.member.code |||
      putB 8 s.mkt.unsynced ||| put 9 3 s.thr.st.code ||| putBits [(12, g.silent), (13, s.snf.heldBoot)])
  | .glbFrameLo => some (lo32 s.frame)
  | .glbFrameHi => some (hi32 s.frame)
  | .glbHost => some (putB 16 g.silent)
  | .glbHostAge => some (BitVec.ofNat 32 (sat 32 ((s.now - g.lastHost) / msNs)))
  | .glbAccess => some (put 0 5 g.accCode ||| putB 6 g.accKind ||| put 16 16 g.accSender)
  | .glbAccessAddr => some (BitVec.ofNat 32 g.accAddr)
  | .glbAccessCount => some (put 0 16 g.accCount)
  | .glbIrqRaw => some (put 0 23 g.raw)
  | _ => none

/-- The first view that knows the register. -/
def firstView : List (Option W32) → Option W32
  | [] => none
  | some w :: _ => some w
  | none :: t => firstView t

/-- The RO fields of a register, the rest of the word 0. -/
def viewRO (s : State) (r : RegName) (i : Nat) : W32 :=
  (firstView [viewWick s r i, viewLlt s r i, viewMoist s r i, viewCol s r i, viewDry s r i, viewEng s r i, viewLoop s r i, viewMotor s r i,
    viewGate s r i, viewAisle s r i, viewTx s r i, viewSol s r i, viewMkt s r i, viewRec s r i, viewPair s r, viewHld s r i, viewSnf s r,
    viewThr s r i, viewMgt s r i, viewWax s r, viewGlb s r i]).getD 0#32

/-- The word a read of a register shows (R7, R8): WO fields read 0. C_f and the generation come from the stream and change in use, so
their views replace the stored word. -/
def readWord (s : State) (r : RegName) (i : Nat) : W32 :=
  match r with
  | .mstProbeCf => mstCf s i (chanOf s i).cal
  | .wckSrc =>
    match wickKind s i with
    | .cnt => regW s r i
    | .computed => regW s r i
    | .subscribed => regW s r i
    | _ => 0#32
  | .mktGen => viewRO s .mktGen i
  | .pclZone => if i % 8 ≤ fld (regW s .pclCfg (i / 8)) 20 3 then regW s r i else 0#32
  | .pclOriginHi => let w := regW s r i; BitVec.signExtend 32 (w.setWidth 16)
  | _ => if supHidden s r i then 0#32 else (regW s r i &&& ~~~(regDesc r).wo) ||| viewRO s r i

end Sys2Proof.Machine
end

