-- ==== Sys2Proof/Machine/Flags.lean ====
section
/-!
DEFINITION. The interrupt flags (R467): the level of each bit of GLB_IRQ_RAW, from the registers its field table names, and the
setting of GLB_IRQ_PEND.
-/
namespace Sys2Proof.Machine

open Sys2Proof

/-- A field of a register as read is not 0. -/
def anyFld (s : State) (r : RegName) (i lo n : Nat) : Bool := fld (readWord s r i) lo n != 0

/-- Some register of an array shows a field other than 0. -/
def anyOf (n : Nat) (f : Nat → Bool) : Bool := (upTo n).any f

/-- Raw bits of the device: snuffer, thermal, pair, market (R467). -/
def rawDevice (s : State) : List Bool :=
  [anyFld s .snfStatus 0 8 6,
   s.thr.st != .normal || anySens s .suspect || anySens s .failed,
   s.pair.st == .mismatch || s.pair.st == .failed || s.pair.health != .good || regB s .pairStatus 0 15,
   s.mkt.unsynced || regB s .mktStatus 0 10]

/-- Raw bits of the ports: aisle, motor, solenoid, transmitter (R467). -/
def rawPorts (s : State) : List Bool :=
  [anyFld s .aisSummary 0 0 24,
   anyOf 16 (fun m => (motOf s m).fault != .none),
   anyOf 32 (fun v => (solOf s v).st == .fault),
   anyOf 16 (fun n => (txOf s n).st == .fault)]

/-- Raw bits of the core: engine, basket, lamplighter, wick, column, loop, drying, route (R467). -/
def rawCore (s : State) : List Bool :=
  [anyOf 128 (fun e => (engOf s e).missMap || (engOf s e).halted),
   s.eng.bskGlobal != 0#4 || s.eng.tagFlags &&& 3#3 != 0#3,
   anyFld s .lltStatus 0 0 8,
   anyOf 64 (fun w => (wickOf s w).st == .lost),
   anyFld s .pclStaleMap 0 0 32,
   anyOf 512 (fun i => let x := loopOf s i; x.st == .held || x.st == .observer || x.st == .safe || x.st == .tripped),
   anyOf 16 (fun c => regB s .dryStatus c 11) || anyOf 4 (fun h => (heatOf s h).sensorFailed),
   anyOf 32 (fun r => (routeOf s r).st == .faultStop || (routeOf s r).st == .faulted) || anyOf 64 (fun i => regB s .slipStatus i 17)]

/-- Raw bits of records and management: tally, recorder, stream, wax, management, access, host silence (R467). -/
def rawSystem (s : State) : List Bool :=
  [s.tal.bank0.st == .latched || s.tal.bank1.st == .latched,
   s.rec_.mramLag || regB s .evrStatus 0 2 || regB s .evrStatus 0 4,
   regB s .hldStatus 0 14 || s.hld.chainBroken || s.hld.fallback,
   regB s .waxStatus 0 4 || regB s .waxStatus 0 6 || s.rlt.st == .stopped,
   regB s .mgtStatus 0 7 || s.mgt.lockSeen,
   regB s .glbAccess 0 5,
   s.glb.silent]

/-- GLB_IRQ_RAW as the registers stand now (R467). -/
def irqRaw (s : State) : Nat := mapBits (rawDevice s ++ rawPorts s ++ rawCore s ++ rawSystem s)

/-- The evaluation at t0 of a frame: a raw bit that passes from 0 to 1 sets its pending bit (R467). The new pending bits are returned. -/
def irqEval (s : State) : State × Nat :=
  let raw := irqRaw s
  let rise := raw &&& (raw ^^^ s.glb.raw)
  (setSticky { s with glb := { s.glb with raw := raw } } .glbIrqPend 0 (put 0 23 rise), rise &&& ((regW s .glbIrqPend).toNat ^^^ 0x7FFFFF))

/-- At t6 of the boot every raw bit that is 1 sets its pending bit (R467). -/
def irqBoot (s : State) : State := setSticky { s with glb := { s.glb with raw := irqRaw s } } .glbIrqPend 0 (put 0 23 (irqRaw s))

end Sys2Proof.Machine
end

