-- ==== Sys2Proof/Machine/Boot.lean ====
section
/-!
DEFINITION. Power-up, the boot instants, the resets and dormant mode (R391 to R400), with the selection of the firmware (R429), the
commit of the stream (R378, R379) and the enabling of outputs (R394).
-/
namespace Sys2Proof.Machine

open Sys2Proof

/-! ## Power (R391, R396) -/

/-- Dormant mode ends: its deltas are written when the core runs again (R52). -/
def endDormant (s : State) : State :=
  safeOut (modSnf s (fun x => { x with dormDue := x.dormDue || (x.dormant && !x.dormEntering), dormant := false, dormEntering := false }))

/-- Core power is there again. After a loss, or a switching-off, it is a CORE_POWER reset, cause 3 on a wake (R396, R399); the cause
shown after a loss of a rail is not stated: free. -/
def coreReturn (s : State) : State :=
  if s.snf.vaux && !s.snf.corePowered then
    let lost := s.snf.coreLost
    let bad := s.snf.railBad.filter (fun p => p.1 == .vaux)
    let s1 := modSnf { s with free := s.free + 1 } (fun x => { x with
      corePowered := true, coreLost := false, pmOff := false, woken := false, railBad := bad,
      kind := if lost then .corePower else x.kind,
      coreCause := if !lost then x.coreCause else if x.woken then 3 else Config.freeNat s.free % 4 })
    endDormant (if bad.isEmpty then setHold s1 3 false else s1)
  else s

/-- CORE_POWER_RETURN (R396, R399, R400). -/
def execCorePowerReturn (t : Ns) (s : State) : Out :=
  let s := setNow s t
  .next (if s.snf.coreLost then coreReturn s else s)

/-- The thermal state lets the core start (R413, R414). -/
def thermalRuns (s : State) : Bool := s.thr.st == .normal || s.thr.st == .throttling

/-- POWER_GOOD (R391, R393): every core rail within its window for 1 ms. Rails that rose out of order set seq_fault. -/
def execPowerGood (t : Ns) (inOrder : Bool) (s : State) : Out :=
  let s := setNow s t
  .next (if s.snf.vaux && !s.snf.powerGood then
      let s1 := coreReturn s
      let s2 := if inOrder then s1 else logEv (stick s1 .snfReset 0 4) (srcDev 2) .seqFault
      if thermalRuns s2 then startBoot s2 else s2
    else s)

/-! ## Boot instants t1 to t5 (R393) -/

/-- Kinds whose movement while dormant is unknown (R52). -/
def dormUnknown (k : WickKind) : Bool := k == .cnt || k == .computed || k == .subscribed

/-- One of W0 to W51 on leaving dormant mode (R52): its delta, its flags and the start of its state machine. -/
def wakeWickState (s : State) (w : Nat) : State :=
  let x := wickOf s w
  let unknown := dormUnknown (wickKind s w)
  let y := { x with delta := if unknown then 0 else wrap48 (x.count - x.dormEntry), dormLost := x.dormLost || unknown }
  let s1 := setWick s w y
  let s2 := if y.dormLost then stick s1 .wckStatus w 12 else s1
  wickStart (if y.dormOverrun then stick s2 .wckStatus w 11 else s2) w

/-- After a dormant period (R52): the movement of the virtual and CNT wicks W52 to W63 is unknown too. -/
def wakeWicks (s : State) : State :=
  if s.snf.dormDue then
    let s1 := forEach (upTo 52) (modSnf s (fun x => { x with dormDue := false })) wakeWickState
    let s2 := forEach (upTo 64) s1 (fun s w => if 52 ≤ w ∧ dormUnknown (wickKind s w) = true then stick s .wckStatus w 12 else s)
    stick s2 .wckDormantStatus 0 0
  else s

/-- CORE_PLL_LOCK, t1 (R393, R418): the core domain out of reset; the OTP polynomials are checked. -/
def execCorePllLock (t : Ns) (otpOk : Bool) (s : State) : Out :=
  let s := setNow s t
  .next (if s.snf.powerGood ∧ s.snf.stage = 0 then
      let s1 := bootStage s 1
      let s2 := { s1 with thr := { s1.thr with otpBad := !otpOk } }
      wakeWicks (if otpOk then s2 else logEv s2 (srcDev 1) .otpBad)
    else s)

/-- A firmware bank boots (R429): t2. A fallback is told by an event now that the firmware runs. -/
def bootFw (s : State) : State :=
  let s1 := bootStage s 2
  if s1.mgt.tellFallback then logEv (modMgt s1 (fun m => { m with tellFallback := false })) (srcDev 3) .fwFallback else s1

/-- State and image of a firmware bank. -/
def fwStOf (s : State) (b : Bool) : FwSt := if b then s.mgt.fwStB else s.mgt.fwStA
def fwImgOf (s : State) (b : Bool) : Option FwImage := if b then s.mgt.fwBImg else s.mgt.fwA

/-- The image of a bank verifies (R427, R429). -/
def fwVerifies (s : State) (b : Bool) : Bool := match fwImgOf s b with | some x => decide (checkFw s x = .ok) | none => false

/-- The active bank is given up (R429): BAD, the other bank tried, fw_fallback; with none, ROM recovery. -/
def fwFallback (s : State) : State :=
  let other := !s.mgt.fwB
  let s1 := modMgt (stick (setFw s s.mgt.fwB .bad) .mgtStatus 0 7) (fun m => { m with tellFallback := true, trialTry := false })
  if (fwStOf s1 other = .confirmed ∨ fwStOf s1 other = .valid) ∧ fwVerifies s1 other = true then
    bootFw (modMgt s1 (fun m => { m with fwB := other }))
  else modMgt s1 (fun m => { m with recovery := true })

/-- The ROM's choice (R429). -/
def fwSelect (s : State) : State :=
  if s.mgt.recovery then s
  else
    match fwActive s with
    | .trial =>
      if s.mgt.trialTry then fwFallback s
      else if fwVerifies s s.mgt.fwB then bootFw (modMgt s (fun m => { m with trialTry := true })) else fwFallback s
    | .confirmed => if fwVerifies s s.mgt.fwB then bootFw s else fwFallback s
    | .valid => if fwVerifies s s.mgt.fwB then bootFw s else fwFallback s
    | _ => fwFallback s

/-- FIRMWARE_SELECT, t2 (R393, R429). -/
def execFirmwareSelect (t : Ns) (s : State) : Out :=
  let s := setNow s t
  .next (if s.snf.stage = 1 then fwSelect s else s)

/-- Tally banks that the reset lost are told (R327): tally_lost, and TALLY_MISSED with both numbers, 24 bits each. -/
def tellTallyLost (s : State) : State :=
  if s.tal.lostAny then
    let s1 := stick { s with tal := { s.tal with lost0 := 0, lost1 := 0, lostAny := false } } .talStatus 0 2
    logRaw s1 (srcDev 0) .tallyMissed (s.tal.lost0 % 2 ^ 24 + (s.tal.lost1 % 2 ^ 24) * 2 ^ 24)
  else s

/-- DRAM_TRAINED, t3 (R335, R393): the event ring is restored. With BOOT_SEL high the boot stops here (R395). -/
def execDramTrained (t : Ns) (s : State) : Out :=
  let s := setNow s t
  .next (if s.snf.stage = 2 then
      let s1 := tellTallyLost (restoreRing (bootStage s 3))
      modSnf s1 (fun x => { x with heldBoot := x.straps.testBit 1 })
    else s)

/-- STREAM_LOAD, t4 (R378, R393): t4 is reached with a stream that validated. -/
def execStreamLoad (t : Ns) (s : State) : Out :=
  let s := setNow s t
  .next (if s.snf.stage = 3 ∧ s.snf.heldBoot = false ∧ s.hld.committed = false then
      let s1 := loadStream s
      if s1.hld.cand.isSome then bootStage s1 4 else s1
    else s)

/-- PATCH_CHAIN_APPLY, t5 (R378, R393). -/
def execPatchChainApply (t : Ns) (s : State) : Out :=
  let s := setNow s t
  .next (if s.snf.stage = 4 then bootStage (applyChain s (chainOf s)) 5 else s)

/-! ## Commit, t6 (R379, R393) -/

/-- The wick registers start from the stream: the words an earlier stream left in the always-on domain go. -/
def clearWickWords (s : State) : State :=
  forEach (upTo 64) s (fun s w =>
    [RegName.wckCfg, .wckTiming, .wckSrc, .wckRatio, .wckDiv, .wckPublish].foldl (fun s r => setRegW s r w (regDesc r).reset) s)

/-- A transmitter port at commit: its alarm direction by its own setting, its lock value where MRAM holds none (R274, R278). -/
def commitTx (s : State) (n : Nat) : State :=
  if hasWord s .txCfg n then
    let p := txOf s n
    let lock := match p.lockMram with
      | some b => some b
      | none => some (s.hld.str.txLocks.contains n)
    setTx s n { p with almHigh := txDirection s n, lockMram := lock }
  else s

/-- homed is cleared where the position wick reported dormant_lost or dormant_overrun in the dormant period before (R224). -/
def commitHomed (s : State) (w : Nat) : State :=
  let x := wickOf s w
  if x.dormLost || x.dormOverrun then setWick (dropHomed s w) w { x with dormLost := false, dormOverrun := false } else s

/-- Membership at commit (R315). -/
def commitMember (s : State) : State :=
  let g := regF s .mktGen 0 0 16
  modMkt s (fun m => { m with member := if s.hld.str.ident.memberAtStart then .member else .outside, gen := g, prevGen := g })

/-- The columns of the stream wait for their restore (R111, R379). -/
def commitCol (s : State) (c : Nat) : State := if colOn s c then setCol s c { colOf s c with st := .restoring } else s

/-- The stream is in force: committed, IDENTITY and the committed-once mark in MRAM (R378, R379). -/
def noteCommit (s : State) : State :=
  let s1 := modHld s (fun h => { h with
    committed := true, cand := none, mramIdent := some h.str.ident,
    identWords := [(regAddr .mktCfg 0, regW s .mktCfg), (regAddr .mktIdent 0, regW s .mktIdent)] })
  modMgt s1 (fun m => if s.hld.bankB then { m with onceB := true } else { m with onceA := true })

/-- Commit (R379): every word, instance, table and port of the structure at once, each with its initial state. -/
def commit (s : State) (x : Structure) : State :=
  let s1 := noteCommit (install x [] (clearWickWords s))
  let s2 := forEach (upTo 64) s1 (fun s w => commitHomed (wickStart s w) w)
  let s3 := forEach (upTo 16) s2 (fun s n => commitCol (commitTx s n) n)
  let s4 := forEach (upTo 32) s3 (fun s c => if mstUsed s c then noteConst (selectTable s c (regF s .mstCfg c 4 6)) c else s)
  let s5 := forEach (upTo 8) s4 (fun s n => setAis s n { aisOf s n with sendConfig := true })
  let s6 := commitMember s5
  let s7 := if regB s6 .pairCfg 0 0 then s6 else pairEnter s6 .solo .wait
  let s8 := modSnf s7 (fun y => { y with wdArmed := true, wdMs := regF s7 .snfWdog 0 0 14, wdLast := s7.now })
  setRowClocks { s8 with rfF := s8.rf }

/-- STREAM_COMMIT, t6 (R379, R393, R467). -/
def execStreamCommit (t : Ns) (s : State) : Out :=
  let s := setNow s t
  .next (match s.hld.cand with
    | some x => if s.snf.stage = 5 then irqBoot (bootStage (commit s x) 6) else s
    | none => s)

/-! ## Restore and outputs, t7 and t8 (R393, R394) -/

/-- A paired unit enters SPARE (WAIT) at t7 (R354, R394); with the snuffer active it is FAILED. -/
def pairStart (s : State) : State :=
  if isPaired s then
    let s1 := logEv (pairWait s) (srcDev 4) .pairState (4 * PairSt.spare.code)
    if s1.snf.active then pairSnuff s1 else s1
  else s

/-- sync_wait is satisfied (R394): not set, synchronised, or 10 s after t7. -/
def syncOk (s : State) : Bool :=
  !regB s .snfWdog 0 15 || !s.mkt.unsynced || (match s.snf.restoredAt with | some a => decide (a + 10 * secNs ≤ s.now) | none => false)

/-- The conditions of the enabling of outputs (R394). -/
def enableOk (s : State) : Bool :=
  s.snf.vaux && decide (s.snf.stage = 7) && !s.snf.enabled && s.hld.committed && s.snf.safeN && s.snf.pwrFailN && !s.snf.active &&
  !s.snf.dormant && syncOk s

/-- RESTORE_COMPLETE, t7 (R114, R136, R393): columns and drying records restored, every aisle sent its configuration. -/
def execRestoreComplete (t : Ns) (s : State) : Out :=
  let s := setNow s t
  .next (if s.snf.stage = 6 then
      let s1 := forEach (upTo 16) s (fun s c => restoreDry (restoreCol s c) c)
      let s2 := forEach (upTo 8) s1 (fun s n => setAis s n { aisOf s n with sendConfig := true })
      let s3 := pairStart (modSnf (bootStage s2 7) (fun x => { x with restoredAt := some s2.now }))
      modSnf s3 (fun x => { x with enableLate := !enableOk s3 })
    else s)

/-- Time of t0 of the present boot. -/
def bootStart (s : State) : Nat := match lookup s.snf.bootT 0 with | some t => t | none => s.now

/-- OUTPUT_ENABLE, t8 (R394): the five steps. -/
def enableOutputs (s : State) : State :=
  let was := driving s
  let s1 := modSnf (bootStage s 8) (fun x => { x with
    enabled := true, everEnabled := true, bootMs := sat 16 ((s.now - bootStart s) / msNs) })
  let s2 := forEach (upTo 32) { s1 with llt := { s1.llt with staticDue := some (frameNow s1) } } (fun s v => if regB s .solCfg v 0 then solEnable s v s.now else s)
  let s3 := regate was (safeOut { s2 with glb := { s2.glb with lastHost := s2.now, silent := false } })
  if s3.pair.st = .solo then setOwn s3 true
  else if s3.pair.st = .active ∧ s3.pair.claimed = true then setOwn (modPair s3 (fun p => { p with claimed := false })) true
  else s3

/-- OUTPUT_ENABLE (R394): at t8, or, where a condition failed at t7 or t8, at the first frame boundary at which all hold. -/
def execOutputEnable (t : Ns) (s : State) : Out :=
  let s := setNow s t
  .next (if !enableOk s then modSnf s (fun x => { x with enableLate := x.enableLate || decide (x.stage = 7) })
    else if s.snf.enableLate ∧ t % frameNs ≠ 0 then s
    else enableOutputs s)

/-! ## Resets (R396, R397) -/

/-- Lands that are low hold their conditions and trigger (R401). -/
def lowLands (s : State) : State :=
  let s1 := if s.snf.safeN then s else snufferTrigger (setHold s 0 true) 0
  if s1.snf.pwrFailN then s1 else snufferTrigger (setHold s1 4 true) 4

/-- The thermal supervisor after SYS_RESET or AUX_POR (R414, R415): the count restarts; a device that was stopped is NORMAL again. -/
def thermalByReset (s : State) : State :=
  let stopped := !thermalRuns s
  let s1 := { s with thr := { s.thr with st := .normal, coolAt := none, times := [], autoDis := false } }
  if stopped then noteRestart (modHist s1 (fun h => { h with byReset := true })) else s1

/-- The straps are sampled (R392); a pair ID that differs ends a conflict (R341). -/
def sampleStraps (s : State) (straps : Nat) : State :=
  let same := s.snf.straps.testBit 0 == straps.testBit 0
  modPair (modSnf s (fun x => { x with straps := straps })) (fun p => { p with idConflict := p.idConflict && same })

/-- Registers and wicks of the always-on domain after AUX_POR (R396, R397): reset values, counts 0, dormant_lost. -/
def auxClear (s : State) : State :=
  let words := auxWords ++ s.rf.filter (fun p => mramAddr p.1)
  let rf := words.foldl (fun l p => spPut l p.1 p.2) []
  { s with rf := rf, rfF := rf, wick := { WickState.reset with w := (upTo 52).map (fun w => (w, { Wick.reset with dormLost := true })) } }

/-- The always-on domain after AUX_POR (R396): lands as they are, MRAM kept, one more aux reset. -/
def auxSnf (x : SnfState) (straps : Nat) : SnfState :=
  { SnfState.reset with
    straps := straps, auxResets := x.auxResets + 1, safeN := x.safeN, pwrFailN := x.pwrFailN, record := x.record, recNumber := x.recNumber,
    pmbus := if x.pmOff then 0x80 :: x.pmbus else x.pmbus }

/-- The transmitter alarm lines after AUX_POR (R274, R396): present, every direction at the strap. -/
def auxTx (s : State) (straps : Nat) : State :=
  forEach (upTo 16) s (fun s n => setTx s n { txOf s n with almHigh := straps.testBit 2, lineOn := true })

/-- AUX_POR (R396). A record whose commit VAUX did not hold for is missed (R404). -/
def auxPor (s : State) (straps : Nat) : State :=
  let missed := s.snf.recWait.isSome
  let s1 := sampleStraps (coreDown s false) straps
  let s2 := auxTx (auxClear (modMgt { s1 with snf := auxSnf s1.snf straps } (fun m => { m with lockSeen := false, recovery := false, tellFallback := false }))) straps
  let s3 := thermalByReset { s2 with wax := WaxState.reset, glb := GlbState.reset, thr := { s2.thr with s := [], otpBad := false } }
  lowLands (if missed then stick s3 .snfStatus 0 18 else s3)

/-- AUX_POR (R392, R396). -/
def execAuxPor (t : Ns) (straps : Fin 32) (s : State) : Out := .next (auxPor (setNow s t) straps)

/-- The always-on domain's part of SYS_RESET (R396, R399): the watchdog at its ROM value, dormant mode ended and the supplies switched
on again. -/
def sysAon (s : State) : State :=
  let off := s.snf.pmOff && !s.snf.corePowered
  endDormant (modSnf (setRegW s .snfWdog 0 (regDesc .snfWdog).reset) (fun x => { x with
    kind := .sysReset, coreCause := 0, coreLost := false, woken := false, pmOff := false, thermStop := false, wdArmed := true, wdMs := 2000, wdLast := s.now,
    pmbus := if off then 0x80 :: x.pmbus else x.pmbus }))

/-- SYS_RESET (R396): step 5 of a running activation completes first (R408); the snuffer is released where no condition holds
(R406); the boot follows, except in thermal SHUTDOWN, and in COOLING or HELD while a condition holds (R414). -/
def sysReset (s : State) (straps : Nat) : State :=
  let s0 := commitRecord s
  let stop := s0.thr.st == .shutdown || (!thermalRuns s0 && s0.snf.holding != 0)
  let s1 := sampleStraps (coreDown s0 false) straps
  let s2 := { s1 with glb := { s1.glb with seq := 0 } }
  if stop then modSnf s2 (fun x => { x with kind := .sysReset, coreCause := 0 })
  else
    let s3 := sysAon s2
    let s4 := if s3.snf.active && s3.snf.holding == 0 then snufferRelease s3 else s3
    let s5 := thermalByReset s4
    if s5.snf.corePowered then startBoot s5 else s5

/-- SYS_RESET (R392, R396). -/
def execSysReset (t : Ns) (straps : Fin 32) (s : State) : Out :=
  let s := setNow s t
  .next (if s.snf.vaux then sysReset s straps else s)

/-! ## Dormant mode (R398 to R400) -/

/-- The causes of DORMANT_STATE (R398), and a device that is dormant or has no core power. -/
def dormantRefused (s : State) : Bool :=
  s.snf.dormant || !s.snf.corePowered || !s.hld.str.pmbus ||
  anyOf 16 (fun m => let x := (motOf s m).st; !(x == .off || x == .disabled || x == .fault)) ||
  anyOf 32 (fun v => let x := (solOf s v).st; x == .peak || x == .hold || x == .decay) ||
  (isPaired s && !(s.pair.st == .spare || s.pair.st == .mismatch || s.pair.st == .failed))

/-- The dormant op of SNF_CMD (R398, step 1): outputs off, OWN_OUT released. -/
def snfDormant (s : State) : State :=
  if dormantRefused s then snfResult s 4 2
  else snfResult (safeOut (modSnf (disableOutputs s) (fun x => { x with dormant := true, dormEntering := true }))) 4 0

/-- SNF_DORMANT (R398). -/
def execSnfDormant (s : State) : Out := .next (snfDormant s)

/-- A column's checkpoint is captured and written (R398, step 2). -/
def dormCkpt (s : State) (c : Nat) : State :=
  if colOn s c ∧ colLive (colOf s c) = true then
    let x := colOf s c
    let m := colImage s c s.now
    let y := if x.nextB then { x with imgB := some m } else { x with imgA := some m }
    dryCapture s (setCol s c { y with nextB := !x.nextB, writing := [] }) c
  else s

/-- The MRAM tail is brought up to date (R398, step 3): every queued event is written and committed. -/
def flushTail (s : State) : State :=
  let s1 := forEach (upTo (2 * s.rec_.queue.length)) s (fun s _ => recordWrite s)
  forEach (upTo s1.rec_.uncommitted.length) s1 (fun s _ => tailCommit s true)

/-- What a wick keeps at dormant entry (R51, R52). -/
def dormWick (s : State) (w : Nat) : State :=
  let x := wickOf s w
  setWick s w { x with dormEntry := x.count, dormLost := x.st == .lost, dormOverrun := false, dormTick := none }

/-- Core power falls: the device is dormant (R398, step 4). -/
def enterDormant (s : State) : State :=
  let s1 := flushTail (forEach (upTo 16) s dormCkpt)
  let s2 := forEach (upTo 52) s1 dormWick
  let s3 := corePowerOff (modSnf s2 (fun x => { x with dormEntering := false, pmbus := 0 :: x.pmbus }))
  safeOut (modSnf s3 (fun x => { x with dormant := true, pmOff := true, woken := false, dormSince := s3.now }))

/-- DORMANT_ENTRY_COMPLETE (R398): after step 5 of an activation that came in between (R408). -/
def execDormantEntryComplete (t : Ns) (s : State) : Out :=
  let s := setNow s t
  .next (if s.snf.dormEntering && s.snf.recWait.isNone then enterDormant s else s)

/-- The wake (R399): the supplies are switched on; the boot follows as CORE_POWER. -/
def wakeUp (s : State) : State :=
  if s.snf.dormant && !s.snf.dormEntering && s.snf.pmOff then
    modSnf s (fun x => { x with pmOff := false, woken := true, pmbus := 0x80 :: x.pmbus })
  else s

/-- WAKE_TIMER (R399): wake_s seconds since entry; 0, its reset value, never. -/
def execWakeTimer (t : Ns) (s : State) : Out :=
  let s := setNow s t
  let n := regF s .snfWake 0 8 24
  .next (if regB s .snfWake 0 0 && decide (0 < n) && decide (s.snf.dormSince + n * secNs ≤ t) then wakeUp s else s)

/-- WAKE_WICK (R399): the named wick has moved by wake_ticks; 0, its reset value, never. -/
def execWakeWick (w : Fin 64) (t : Ns) (s : State) : Out :=
  let s := setNow s t
  let n := (regW s .snfWakeTicks).toNat
  let x := wickOf s w
  .next (if regB s .snfWake 0 1 && regF s .snfWake 0 2 6 == w.val && decide (w.val < 52) && decide (0 < n) &&
      decide (n ≤ (wrap48 (x.count - x.dormEntry)).natAbs) then wakeUp s else s)

end Sys2Proof.Machine
end

