-- ==== Sys2Proof/Machine/Commands.lean ====
section
/-!
DEFINITION. A write to a block-facing register word: what its fields take under their access codes (R8, R11), the W1C bits that live
in unit records, and the ops of the units' command registers.
-/
namespace Sys2Proof.Machine

open Sys2Proof

/-! ## What a word takes (R8, R11) -/

/-- The block that serves an item is owned by a function in basic face (R374). -/
def ownedBasic (s : State) (t : BlockType) (i : Nat) : Bool :=
  match instFor s t i with
  | some (_, x) => x.owner.isSome && !x.expert
  | none => false

/-- The instance of a register stands in basic face (R11): by its face bit, or, for the registers of a block without one, by the face of
the function that owns the block (R374). -/
def basicFace (s : State) (r : RegName) (i : Nat) : Bool :=
  match (regDesc r).face with
  | some (f, b) => !regB s f i b
  | none =>
    match r with
    | .slipCfg => ownedBasic s .beltSlip i
    | .cblLimits => ownedBasic s .cableCheck i
    | _ => false

/-- Bits of a word that a write stores now: RW, and RWL before commit; not the expert fields of a basic instance. -/
def openBits (s : State) (r : RegName) (i : Nat) : W32 :=
  let d := regDesc r
  let m := if s.hld.committed then d.rw else d.rw ||| d.rwl
  if supHidden s r i then 0#32 else if basicFace s r i then m &&& ~~~d.xmask else m

/-- The stored word after a write of v. -/
def mergedWord (s : State) (r : RegName) (i : Nat) (v : W32) : W32 :=
  let m := openBits s r i
  ((regW s r i &&& ~~~m) ||| (v &&& m)) &&& ~~~(v &&& (regDesc r).w1c)

/-- A locked field would change (R8): ACCESS_LOCKED. -/
def lockedHit (s : State) (r : RegName) (i : Nat) (v : W32) : Bool :=
  s.hld.committed && ((regW s r i ^^^ v) &&& (regDesc r).rwl) != 0#32

/-- An expert field of a basic instance would change (R11): ACCESS_FACE, for a locked field too. -/
def faceHit (s : State) (r : RegName) (i : Nat) (v : W32) : Bool :=
  let d := regDesc r
  !supHidden s r i && basicFace s r i && ((regW s r i ^^^ v) &&& d.xmask &&& (d.rw ||| d.rwl)) != 0#32

/-- Bits of a word that a range speaks of. -/
def FRange.bits (x : FRange) : W32 :=
  match x with
  | .u lo n _ _ => put lo n (2 ^ n - 1)
  | .i lo n _ _ => put lo n (2 ^ n - 1)
  | _ => 0xFFFFFFFF#32

/-- The words as they stand with some of them replaced, for the ranges. -/
def readWith (s : State) (ws : List (RegName × Nat × W32)) : RegRead := fun r i =>
  match ws.find? (fun p => decide (p.1 = r) && p.2.1 == i) with
  | some p => p.2.2
  | none => regW s r i

/-- A word of the write puts a field that it stores outside its range. -/
def outOfRange (s : State) (ws : List (RegName × Nat × W32)) : Bool :=
  ws.any (fun p =>
    let m := openBits s p.1 p.2.1
    let rd := readWith s ws
    (m != 0#32) &&
    ((rangesOf p.1).any (fun x => (x.bits &&& m) != 0#32 && !x.ok (rd p.1 p.2.1)) || !crossOk rd s.hld.str p.1 p.2.1))

/-- The largest op of a command register and the width of its op field; higher ones are refused with ACCESS_RANGE. -/
def opLimit (r : RegName) : Option (Nat × Nat) :=
  match r with
  | .mstCmd => some (4, 10)
  | .pclCmd => some (3, 5)
  | .dryCmd => some (4, 7)
  | .loopCmd => some (3, 4)
  | .tprCmd => some (3, 5)
  | .txCmd => some (3, 6)
  | .solCmd => some (3, 4)
  | .pairCmd => some (3, 5)
  | .hldCmd => some (3, 5)
  | .snfCmd => some (3, 4)
  | .mgtCmd => some (4, 11)
  | .waxCmd => some (3, 5)
  | .rltCmd => some (3, 5)
  | _ => none

/-- The op field of a write names no op. -/
def badOp (r : RegName) (v : W32) : Bool :=
  match opLimit r with
  | some (n, m) => decide (m < fld v 0 n)
  | none => false

/-! ## W1C bits that stand in unit records (R8, R10) -/

/-- Clears the sticky bits of a record that a write of v to the word names. -/
def clearBits (s : State) (r : RegName) (i : Nat) (v : W32) : State :=
  let c := fun k => bit v k
  match r with
  | .engStatus =>
    let x := engOf s i
    setEng s i { x with miss := x.miss && !c 8, eccCorr := x.eccCorr && !c 9 }
  | .engMissMap =>
    forEach (upTo 32) s (fun s j =>
      let x := engOf s (32 * i + j)
      if c j ∧ x.missMap = true then setEng s (32 * i + j) { x with missMap := false } else s)
  | .rowClock => let x := rowOf s i; setRow s i { x with floorHeld := x.floorHeld && !c 18 }
  | .bskStatus =>
    let b := bskSel s
    let x := bskOf s b
    let y := shownBsk s b
    setBsk s b { x with dropped := x.dropped && !(c 16 && y.dropped), overwritten := x.overwritten && !(c 17 && y.overwritten),
                        refusedFull := x.refusedFull && !(c 18 && y.refusedFull), creditViol := x.creditViol && !(c 19 && y.creditViol),
                        lengthErr := x.lengthErr && !(c 20 && y.lengthErr) }
  | .bskGlobal => { s with eng := { s.eng with bskGlobal := s.eng.bskGlobal &&& ~~~(v.setWidth 4 &&& (t0 s).eng.bskGlobal) } }
  | .tagFlags => { s with eng := { s.eng with tagFlags := s.eng.tagFlags &&& ~~~(v.setWidth 3 &&& (t0 s).eng.tagFlags) } }
  | .lltSlotStatus =>
    let x := slotOf s i
    setSlot s i { x with late := x.late && !c 5, missed := x.missed && !c 6, conflict := x.conflict && !c 7, tgtFault := x.tgtFault && !c 8 }
  | .mstStatus => let x := chanOf s i; setChan s i { x with fouled := x.fouled && !c 4 }
  | _ => s

/-! ## The units' command registers -/

/-- Host silence as the functions with a nightlight rule hear of it (R142, R182, R213, R466). -/
def silenceActs (s : State) : State := forEach (upTo 16) (forEach (upTo 16) (forEach (upTo 512) s loopSilence) motNightEnter) nightDry

/-- LOOP_CMD. -/
def loopCmdReg (s : State) (i : Nat) (v : W32) : State :=
  match fld v 0 3 with
  | 1 => loopTake s i .auto
  | 2 => loopTake s i .manual
  | 3 => loopTake s i .reset
  | 4 => loopClear s i
  | _ => s

/-- TPR_CMD; a set_value in RUN is refused at the write (R177). -/
def tprCmdReg (s : State) (j : Nat) (v : W32) : State × Acc :=
  let q := fun k => (tprTake s j k, Acc.ok)
  match fld v 0 3 with
  | 1 => q .run
  | 2 => q .hold
  | 3 => q .track
  | 4 => if (taperOf s j).mode = .run then (stick s .tprStatus j 7, .busy) else q .setValue
  | 5 => q (.applyCoord (bit v 3))
  | _ => (s, .ok)

/-- SOL_CMD: a start carries SOL_REQ as it stands at the write (R289). -/
def solCmdReg (s : State) (v : Nat) (w : W32) : State :=
  match fld w 0 3 with
  | 1 => solOp s v (1, (regW s .solReq v).toNat)
  | 2 => solOp s v (2, 0)
  | 3 => solOp s v (3, 0)
  | 4 => solOp s v (4, 0)
  | _ => s

/-- In basic face i_trip follows a write of SOL_PEAK: 150 % of i_peak, at most the field's 4,095 (R291, R292, log entry 47). -/
def solFollow (s : State) (r : RegName) (v : Nat) : State :=
  if r = .solPeak ∧ regB s .solCfg v 2 = false then
    setRegF s .solLimits v 0 12 (basicTripOf (regF s .solPeak v 0 12))
  else s

/-- What an op answers with a next state, as a state: the meanings of single ops never answer otherwise. -/
def outState (s : State) (o : Out) : State :=
  match o with
  | .next s' => s'
  | _ => s

/-- TX_CMD (R275, R278). -/
def txCmdReg (s : State) (n : Nat) (v : W32) : State :=
  match fld v 0 3 with
  | 1 => txReset s n
  | 2 => txForceOp s n false
  | 3 => txForceOp s n true
  | 4 => txRelease s n
  | 5 => txLock s n true
  | 6 => txLock s n false
  | _ => s

/-- AIS_CMD: its four bits each name an op (R243, R261, R262, R267). -/
def aisCmdReg (s : State) (n : Nat) (v : W32) : State :=
  let s1 := if bit v 0 then aisResume s n else s
  let s2 := if bit v 2 then sweepAbort s1 n else s1
  let s3 := if bit v 1 then sweepBegin s2 n else s2
  if bit v 3 then aisClear s3 n else s3

/-- WCK_CMD: the preset takes the integer part of WCK_PRESET, bits 55:8, as it stands (R44, R54). -/
def wckCmdReg (s : State) (w : Nat) (v : W32) : State :=
  let x := wickOf s w
  let s1 := if bit v 0 ∧ x.st ≠ .disabled then setWick s w { x with pending := some (.abs (wrap48 (Int.fdiv (regI64 s .wckPresetLo .wckPresetHi w) 256))) } else s
  if bit v 1 then setWick s1 w { wickOf s1 w with phaseErrors := 0, losses := 0 } else s1

/-- A command register of a block-facing unit acts: the state and the access code. -/
def blockCmd (s : State) (r : RegName) (i : Nat) (v : W32) : State × Acc :=
  match r with
  | .wckCmd => (wckCmdReg s i v, .ok)
  | .mstCmd => (mstCmd s i v, .ok)
  | .pclCmd => (pclCmd s i v, .ok)
  | .dryCmd => (dryCmdReg s i v, .ok)
  | .engCmd =>
    let s1 := if bit v 0 then engClearPeak s i else s
    (if bit v 1 then engClearCounts s1 i else s1, .ok)
  | .bskCmd => (if bit v 0 then bskClear s else s, .ok)
  | .loopCmd => (loopCmdReg s i v, .ok)
  | .tprCmd => tprCmdReg s i v
  | .motCmd => (motOp s i (fld v 0 3), .ok)
  | .gateCmd => (gateOp s i (fld v 0 2), .ok)
  | .routeCmd => (routeOp s i (fld v 0 2), .ok)
  | .aisCmd => (aisCmdReg s i v, .ok)
  | .txCmd => (txCmdReg s i v, .ok)
  | .solCmd => (solCmdReg s i v, .ok)
  | _ => (s, .ok)

/-- A host write of an RW word is noted for the frame (R10), and one in the clock cycle of a boundary not yet taken with the word it
replaces (R24). -/
def noteWord (s : State) (r : RegName) (i : Nat) : State :=
  if (regDesc r).rw = 0#32 then s
  else
    let a := regAddr r i
    { s with glb := { s.glb with wrote := if s.glb.wrote.contains a then s.glb.wrote else a :: s.glb.wrote,
                                 edgeWords := if onEdge s ∧ lookup s.glb.edgeWords a = none then (a, regW s r i) :: s.glb.edgeWords
                                              else s.glb.edgeWords } }

/-- A trim that the host writes is a stored trim: counted, with an event record of the old and the new value (R278, R280). -/
def noteTrim (s : State) (r : RegName) (n : Nat) (v : W32) : State :=
  let store := fun (r : RegName) =>
    let s1 := setTx s n { txOf s n with trims := satInc 16 (txOf s n).trims }
    logEv s1 (srcTx n) .txTrimStored (regF s r n 0 16 * 65536 + fld v 0 16)
  match r with
  | .txTrimZero => store .txTrimZero
  | .txTrimSpan => store .txTrimSpan
  | _ => s

/-- A word is written: the stored fields, the W1C bits of records, then the unit's command. -/
def storeWord (s : State) (r : RegName) (i : Nat) (v : W32) : State × Acc :=
  let s := noteTrim s r i v
  blockCmd (clearBits (solFollow (setRegW (noteWord s r i) r i (mergedWord s r i v)) r i) r i v) r i v

end Sys2Proof.Machine
end

