-- ==== Sys2Proof/Machine/Tally.lean ====
section
/-!
DEFINITION. Tally banks (R324 to R330): posts, acknowledgments, the latch of the counters, and the bank's 65,536 bytes.
-/
namespace Sys2Proof.Machine

open Sys2Proof

/-- Source of tally events (R331). -/
def srcTal : EvSrc := srcDev 7

/-- Changes the tally unit. -/
def modTal (s : State) (f : TallyState → TallyState) : State := { s with tal := f s.tal }
/-- A tally bank. -/
def talBank (s : State) (b : Bool) : TallyBank := if b then s.tal.bank1 else s.tal.bank0
/-- Replaces a tally bank. -/
def setTalBank (s : State) (b : Bool) (x : TallyBank) : State :=
  modTal s (fun y => if b then { y with bank1 := x } else { y with bank0 := x })
/-- A bank armed by a post of the present input set: to an acknowledgment of that set, which applies first, it is still FREE (R327). -/
def TallyBank.justArmed (x : TallyBank) (now : Nat) : Bool := x.st == .armed && x.armedIn == some (frameOf now)
/-- The bank that is not FREE and holds tally number n. -/
def talHolds (s : State) (n : Nat) : Option Bool :=
  if s.tal.bank0.st ≠ .free ∧ s.tal.bank0.num = n then some false
  else if s.tal.bank1.st ≠ .free ∧ s.tal.bank1.num = n then some true
  else none
/-- The lower-numbered FREE bank. -/
def talFree (s : State) : Option Bool :=
  if s.tal.bank0.st = .free then some false else if s.tal.bank1.st = .free then some true else none

/-- Result code of a post (R324), in the order of its table. -/
def tallyCode (s : State) (inst num : Nat) : Nat :=
  if inst < s.now + 20 * msNs then 1
  else if inst % frameNs ≠ 0 then 3
  else if (talHolds s num).isSome then 4
  else match talFree s with
    | some _ => 0
    | none => 2

/-- A post (R324). -/
def tallyPost (s : State) (inst num : Nat) : State :=
  let c := tallyCode s inst num
  let s1 := modTal s (fun y => { y with result := c })
  if c = 0 then
    match talFree s1 with
    | some b => setTalBank (modTal s1 (fun y => { y with resultBank := b.toNat })) b { st := .armed, num := num, tPost := inst, armedIn := some (frameOf s.now), image := BankImage.empty }
    | none => s1
  else
    let again := if c = 1 ∨ c = 3 then s.tal.retry else some (frameOf s.now, inst, num, regB s .talStatus 0 1)
    stick (modTal s1 (fun y => { y with retry := again })) .talStatus 0 1

/-- The bank an acknowledgment frees. -/
def freeTalBank (s : State) (b : Bool) : State :=
  let x := talBank s b
  let s1 := setTalBank s b TallyBank.freeBank
  if x.st = .armed then logRaw s1 srcTal .tallyCancelled (x.num % 2 ^ 32 + b.toNat * 2 ^ 32) else s1

/-- An acknowledgment (R325). A post of the same input set that found no bank is decided after it (R327). -/
def tallyAck (s : State) (num : Nat) : State :=
  match talHolds s num with
  | none => modTal s (fun y => { y with result := 5 })
  | some b =>
    if (talBank s b).justArmed s.now then s else
    let s1 := freeTalBank s b
    match s1.tal.retry with
    | some (f, inst, n, refused) =>
      let s2 := modTal s1 (fun y => { y with retry := none })
      if f = frameOf s.now then
        tallyPost (setRegF s2 .talStatus 0 1 1 refused.toNat) inst n
      else s2
    | none => s1

/-- TALLY_POST (R311, R324, R437). -/
def execTallyPost (t : Ns) (d : Dgram) (num : W32) (inst : Nat) (s : State) : Out :=
  .next (withDgram (setNow s t) d 1 (fun s _ => (noteChange (tallyPost s inst num.toNat) d, 0, [])))

/-- The post of the registers (R339 TAL_CMD). -/
def talPostRegs (s : State) : State :=
  tallyPost s (reg64 s .talPostTLo .talPostTHi 0) (regW s .talPostNum 0).toNat
/-- TAL_POST (R324, R339). -/
def execTalPost (s : State) : Out := .next (talPostRegs s)
/-- TAL_ACK (R325). -/
def execTalAck (num : W32) (s : State) : Out := .next (tallyAck s num.toNat)

/-! ## The latch (R325 to R329) -/

/-- A stall's count at the latch (R326, R328): the aisle's own where it is LINKED, else the last value received. -/
def talStall (s : State) (i : Nat) : W32 :=
  let x := stlOf s i
  let linked := (aisOf s (aisleOf i)).st == .linked
  match stlMode s i with
  | .cnt => loI (if linked then x.aCount else x.count)
  | .di => loI (if linked && x.aSettled && x.aChanged && x.aClass != x.cls then wrapS 32 (x.count + 1) else x.count)
  | _ => 0#32

/-- An energy of n pJ in Wh; where it falls between two, which of them is shown is left open. -/
def inWh (s : State) (n : Int) : Int :=
  let d : Int := 3600000000000000
  let q := n / d
  if n % d = 0 then q else if Config.freeBool s.free then q + 1 else q

/-- Totals slots of motor ports with an ENERGY_METER, and of the flagged blocks (R329): (slot, value). -/
def talTotals (s : State) : List (Nat × Int) :=
  (instsOf s .energyMeter).map (fun p => (p.2.idx, inWh s (motOf s p.2.idx).energy)) ++
  (s.hld.str.tally.filter (fun x => decide (16 ≤ x.slot))).map (fun x => (x.slot, signed 64 ((blkOf s x.inst).n.getD x.item 0)))

/-- Slots from 0 to the highest in use (R328 n_tot). -/
def talSlots (l : List (Nat × Int)) : List Int :=
  (upTo (l.foldl (fun m p => max m (p.1 + 1)) 0)).map (fun k => (lookup l k).getD 0)

/-- Run-time slots: the flagged RUN_HOURS items, from the lowest (R329). -/
def talRuns (s : State) : List Nat :=
  ((instsOf s .runHours).filter (fun p => p.2.tally)).flatMap (fun p => (upTo p.2.items).map (fun k => (blkOf s p.1).n.getD k 0))

/-- Basket entries in ascending basket number (R329). -/
def talBskts (s : State) : List (Nat × Nat × Nat × Nat) :=
  ((upTo 32768).filter (fun b => s.hld.str.tallyBsk.contains b)).map (fun b =>
    let x := bskOf s b
    (b, x.drops, x.overwrites, x.peak))

/-- Bit n set while aisle n is not LINKED. -/
def aislesDown (s : State) : Nat := mapBits ((upTo 8).map (fun n => (aisOf s n).st != .linked))

/-- The counters as they stand now (R326, R328). -/
def talImage (s : State) (stepped : Bool) : BankImage :=
  { unsynced := s.mkt.unsynced, late := stepped, stepped := stepped, aislesDown := aislesDown s, marketId := marketId s, tLatch := s.now,
    evrHead := s.rec_.head, lltExec := s.llt.exec,
    wicks := (upTo 64).map (fun w => countBefore s w),
    stalls := (upTo 128).map (talStall s),
    motCounts := (upTo 16).map (readWord s .motCounts),
    solCounts := (upTo 32).map (readWord s .solCounts),
    txCounts := (upTo 16).map (readWord s .txCounts),
    aisLink := (upTo 8).map (readWord s .aisLink),
    engMisses := (upTo 128).map (readWord s .engMisses),
    diags := [readWord s .tagDiag 0, readWord s .lltDiag 0, readWord s .mktDiscards 0, readWord s .mktDrops 0],
    totals := talSlots (talTotals s), runs := talRuns s, bsk := talBskts s, hash8 := hash8 s }

/-- Header flags (R328). -/
def BankImage.flags (x : BankImage) : Nat := mapBits [x.unsynced, x.late, x.stepped, decide (x.aislesDown ≠ 0)]

/-- The notice of a latched bank (R330). -/
def talNotice (b : Bool) (x : TallyBank) : List Byte :=
  bytesLE 4 x.num ++ bytesLE 1 b.toNat ++ bytesLE 1 x.image.flags ++ bytesLE 2 0 ++ bytesLE 8 x.tPost

/-- Posts the notice when the stream names a basket; one that does not fit is dropped and counted (R330). -/
def sendTalNotice (s : State) (b : Bool) (x : TallyBank) : State :=
  match s.hld.str.notice with
  | none => s
  | some k =>
    if bskRoom s k then arrive s (plain k (.bytes (talNotice b x)))
    else stick (modTal s (fun y => { y with noticeDrops := satInc 16 y.noticeDrops })) .talStatus 0 4

/-- Latches an ARMED bank whose instant has come (R325, R327, R330). -/
def latchBank (stepped : Bool) (s : State) (b : Bool) : State :=
  let x := talBank s b
  if x.st = .armed ∧ x.tPost ≤ s.now then
    let y := { x with st := .latched, image := talImage s stepped }
    let s1 := stick (useFree (setTalBank s b y)) .talStatus 0 0
    let s2 := if stepped then stick s1 .talStatus 0 3 else s1
    let s3 := logRaw s2 srcTal .tallyLatched (x.num % 2 ^ 32 + b.toNat * 2 ^ 32 + y.image.flags * 2 ^ 40)
    sendTalNotice s3 b y
  else s

/-- Every ARMED bank whose instant has come latches. -/
def latchDue (s : State) (stepped : Bool) : State := latchBank stepped (latchBank stepped s false) true

/-- TALLY_LATCH (R325): at T. -/
def execTallyLatch (t : Ns) (s : State) : Out := .next (latchDue (setNow s t) false)

/-! ## The bank's bytes (R328) -/

/-- A list as bytes of k each, padded with zeros to n bytes. -/
def tableBytes (k n : Nat) (l : List Nat) : List Byte := ((l.flatMap (bytesLE k)) ++ List.replicate n (0#8 : Byte)).take n
/-- Words as a table. -/
def wordTable (n : Nat) (l : List W32) : List Byte := tableBytes 4 n (l.map (·.toNat))

/-- The header of a bank (R328). -/
def talHeader (x : TallyBank) : List Byte :=
  let y := x.image
  bytesLE 4 x.num ++ bytesLE 2 y.marketId ++ bytesLE 1 y.flags ++ bytesLE 1 y.aislesDown ++ bytesLE 8 x.tPost ++ bytesLE 8 y.tLatch ++
  bytesLE 8 y.evrHead ++ bytesLE 8 y.lltExec ++ bytesLE 2 y.totals.length ++ bytesLE 2 y.runs.length ++ bytesLE 2 y.bsk.length ++
  bytesLE 2 0 ++ bytesLE 8 y.hash8 ++ bytesLE 8 0

/-- Bytes 0x0000 to 0xFFFB (R328). -/
def talBody (x : TallyBank) : List Byte :=
  let y := x.image
  let head := talHeader x ++ tableBytes 8 512 (y.wicks.map (wrapN 64)) ++ wordTable 512 y.stalls ++ wordTable 64 y.motCounts ++
    wordTable 128 y.solCounts ++ wordTable 64 y.txCounts ++ wordTable 32 y.aisLink ++ wordTable 512 y.engMisses ++ wordTable 16 y.diags ++
    List.replicate 208 0#8 ++ tableBytes 8 8192 (y.totals.map (wrapN 64)) ++ tableBytes 8 4096 y.runs ++
    tableBytes 8 16384 (y.bsk.map (fun b => b.1 + b.2.1 * 2 ^ 16 + b.2.2.1 * 2 ^ 32 + b.2.2.2 * 2 ^ 48))
  (head ++ List.replicate 65532 0#8).take 65532

/-- The 65,536 bytes of a LATCHED bank with their CRC-32 (R328). -/
def talBytes (x : TallyBank) : List Byte :=
  let l := talBody x
  l ++ bytesLE 4 (crc32 l).toNat

/-- Word k of a bank's window (R339): 0 while the bank is not LATCHED. -/
def talWord (s : State) (b : Bool) (k : Nat) : W32 :=
  let x := talBank s b
  if x.st = .latched then BitVec.ofNat 32 (natLE (((talBytes x).drop (4 * k)).take 4)) else 0#32

end Sys2Proof.Machine
end

