-- ==== Sys2Proof/Machine/Apply.lean ====
section
/-!
DEFINITION. What happens at a frame boundary beside the frame itself: a patch at its apply frame (R383), a switch of the market
(R316 to R320), a step of market time (R298, R299, R71). A tally of the same instant is latched first (R327).
-/
namespace Sys2Proof.Machine

open Sys2Proof

/-- A PENDING patch whose revalidation passed, at t0 of F_a (R382, R383); a tally of the same instant is latched first (R327, R389). -/
def duePatch (s : State) : State :=
  match s.hld.patch with
  | some img =>
    if s.hld.staged = .pending ∧ s.hld.revalOk = true ∧ s.now = s.hld.fa * frameNs then applyPatch (latchDue s false) img else s
  | none => s

/-- PATCH_APPLY (R382, R383): at t0 of F_a, after its revalidation passed. -/
def execPatchApply (t : Ns) (s : State) : Out := .next (duePatch (setNow s t))

/-! ## Take-over at the boundary (R358, R359) -/

/-- TAKEOVER_T5 (R358, R359): the first frame boundary after the pair gate passes. A patch of the same
instant applies first (R369, R389). -/
def execTakeoverT5 (t : Ns) (s : State) : Out :=
  let s := setNow s t
  match s.pair.t3At with
  | none => .next s
  | some t3 =>
    if t < t3 ∨ t % frameNs ≠ 0 ∨ s.pair.gate = false ∨ s.pair.st ≠ .standby then .next s
    else
      let s1 := applyReady (duePatch s)
      let s2 := t5Open s1
      let s3 := logEv (stick (modPair s2 (fun p => { p with takeT := t })) .pairStatus 0 15) (srcDev 4) .pairTakeover 0
      match s3.pair.applied with
      | none => .next (releaseCmds s3 t)
      | some m =>
        let s4 := m.motors.foldl (fun s p => motMirrorResume (setMot s p.1 ((motOf s p.1).mirrored p.2)) p.1 t (mirrorStamp s p.1 m.frame)) (releaseCmds s3 t)
        let s5 := m.sols.foldl (fun s p => solResume s p.1 t p.2) s4
        .next (creditsFrom (lltGoLive s5 m) m)

/-! ## Switch (R316 to R320) -/

/-- The switch's patch, if it has one that passed its revalidation (R317, R382). -/
def switchPatch (s : State) : Option StreamImg :=
  if s.hld.staged = .switchPending ∧ s.hld.revalOk = true then s.hld.patch else none

/-- Credit counts start again at 0 where the patch changed a basket's producer or destination (R310). -/
def switchCredit (old : Structure) (s : State) : State :=
  let new := s.hld.str
  let s1 := forEach ((new.ingress.filter (fun p => lookup old.ingress p.1 != some p.2)).map (·.1)) s (fun s b => modBsk s b (fun x => { x with tCount := 0 }))
  forEach ((new.egress.filter (fun p => lookup old.egress p.1 != some p.2)).map (·.1)) s1 (fun s b =>
    modBsk s b (fun x => { x with sCount := 0, limit := none }))

/-- Messages admitted before F_S leave with the old generation (R317). -/
def keepOldGen (s : State) : State := forEach (egressBskts s) s (fun s b => modBsk s b (fun x => { x with oldGen := x.msgs.length }))

/-- Membership after a switch (R318, R319). -/
def switchMember (s : State) (w : Switch) : Member :=
  if w.op = .join ∧ w.subject = marketId s then .member
  else if w.op = .leave ∧ w.subject = marketId s ∧ s.mkt.member = .member then .leaving
  else s.mkt.member

/-- A JOIN that fails at S: the device is UNSYNCED or its ID conflicts (R318). -/
def joinFails (s : State) (w : Switch) : Bool :=
  w.op == .join && w.subject == marketId s && s.mkt.member == .outside && (s.mkt.unsynced || regB s .mktStatus 0 7)

/-- The switch takes place (R317): patch, generation and membership in one step. -/
def doSwitch (s : State) (w : Switch) : State :=
  let old := s.hld.str
  let m := switchMember s w
  let s1 := match switchPatch s with
    | some img => switchCredit old (applyPatch s img)
    | none => s
  let s2 := keepOldGen s1
  let s3 := modMkt s2 (fun x => { x with switch := none, oldEgress := old.egress, member := m, prevGen := s.mkt.gen, gen := w.gen, prevUntil := w.s + 20 * msNs,
                                         leaveEnd := if m = .leaving then w.s + 20 * msNs else x.leaveEnd, newer := 0 })
  logEv s3 srcMkt .switchApplied w.gen

/-- The failed JOIN (R318): JOIN_FAILED, and the patch is not applied. -/
def failJoin (s : State) (w : Switch) : State :=
  let s1 := modMkt s (fun x => { x with switch := none })
  let s2 := if s1.hld.staged = .switchPending then modHld s1 (fun h => { h with staged := .valid, revalOk := false }) else s1
  logEv (stick s2 .mktStatus 0 9) srcMkt .joinFailed w.gen

/-- SWITCH_INSTANT (R317): at t0 of F_S; a tally of the same instant is latched first (R327). -/
def execSwitchInstant (t : Ns) (s : State) : Out :=
  let s := setNow s t
  .next (match s.mkt.switch with
    | some w =>
      if w.s ≤ t ∧ t % frameNs = 0 then
        let s1 := latchDue s false
        if joinFails s1 w then failJoin s1 w else doSwitch s1 w
      else s
    | none => s)

/-! ## Step of market time (R298, R299) -/

/-- The frame after which the next boundary lies: the first multiple of 125 µs at least 124 µs after this boundary (R299). -/
def pauseFrame (new : Nat) : Nat := ceilDiv (new + 124000) frameNs - 1

/-- MARKET_TIME_STEP (R71, R298, R299, R327). -/
def execMarketTimeStep (t : Ns) (s : State) : Out :=
  let s := setNow s t
  .next (match s.mkt.pendStep with
    | some d =>
      if t % frameNs = 0 then
        let new := ((s.now : Int) + d).toNat
        let s1 := { modMkt s (fun m => { m with pendStep := none, stepPend := false, stepAccept := false, slewing := false,
                                                pausedAt := some (pauseFrame new) }) with now := new }
        let s2 := logAt (stick s1 .mktStatus 0 12) new srcMkt .timeStep
          (Config.eventData EventName.timeStep.ctorIdx (s.now + new * 2 ^ 64) % 2 ^ 144) 2
        let back := decide (new < s.now)
        let s3 := addItem { s2 with wax := { s2.wax with afterGap := s2.wax.afterGap || back, keyDue := s2.wax.keyDue || back } }
          (.step s.now new)
        evalSync (if s.now < new then latchDue (lltStep s3) true else s3)
      else s
    | none => s)

end Sys2Proof.Machine
end

