-- ==== Sys2Proof/Machine/Library.lean ====
section
/-!
DEFINITION. One run of each block type of the catalogue (R152, R154): the laws of the chapters, and the library blocks. A block
for which the spec states a function but no law runs with free values (log entry 13).
-/
namespace Sys2Proof.Machine

open Sys2Proof

/-! ## Ports and cables -/

/-- A cable point that is not failed: its number in the cable and its value. -/
abbrev CblPt := Nat × F32

/-- The neighbours of point k: for an inner point the nearest good one on each side, for an end point the nearest two (R263). The first
is the nearer neighbour of an end point; the last part tells an inner point. -/
def cblNeighbours (good : List CblPt) (k : Nat) : Option (F32 × F32 × Bool) :=
  let below := (good.filter (fun p => decide (p.1 < k))).reverse
  let above := good.filter (fun p => decide (k < p.1))
  match below, above with
  | b :: _, a :: _ => some (b.2, a.2, true)
  | [], a :: b :: _ => some (a.2, b.2, false)
  | a :: b :: _, [] => some (a.2, b.2, false)
  | _, _ => none

/-- Classification of a point: 0 good, 1 SUSPECT, 2 failed, 3 UNCHECKED, with the value it is given (R263). -/
def cblPoint (dif agree : F32) (good : List CblPt) (failed : Bool) (k : Nat) (v : F32) : Nat × F32 :=
  if failed then (2, v)
  else
    match cblNeighbours good k with
    | none => (3, v)
    | some (a, b, inner) =>
      let far := fun (x : F32) => fLt dif (fAbs (fSub v x))
      let bad := far a && (!inner || far b) && fLe (fAbs (fSub a b)) agree
      if bad then (1, if inner then fDiv (fAdd a b) (fOfNat 2) else a) else (0, v)

/-- CABLE_CHECK's run (R263). -/
def runCable (s : State) (inst : Nat) (x : Inst) : State :=
  let j := x.idx
  let pts := (lookup s.hld.str.cables j).getD []
  let vals : List (Nat × Nat × F32 × Bool) := (upTo pts.length).map (fun k => let i := pts.getD k 0; (k, i, (stlOf s i).value, pointFailed s i))
  let good : List CblPt := (vals.filter (fun p => !p.2.2.2)).map (fun p => (p.1, p.2.2.1))
  let dif := fOfNat (regF s .cblLimits j 0 8)
  let agree := fRat (regF s .cblLimits j 8 8) 10
  let res := vals.map (fun p => (p.2.1, cblPoint dif agree good p.2.2.2 p.1 p.2.2.1))
  let mask := fun (c : Nat) => mapBits (res.map (fun p => p.2.1 == c))
  let old := (spGet (0, 0, 0) s.aisle.cbl j).1
  let new := mask 1
  let s1 := { s with aisle := { s.aisle with cbl := spSet (0, 0, 0) s.aisle.cbl j (new, mask 2, mask 3) } }
  let s2 := forEach ((upTo pts.length).filter (fun k => new.testBit k && !old.testBit k)) s1 (fun s k =>
    logEv s (srcBlk inst) .cableSuspect (j * 32 + k))
  postTo s2 inst (x.dst 0) (.cable (res.map (fun p => (p.1, p.2.2, p.2.1))))

/-- TX_OUT's run (R272, R277): the command of its input, and the mismatch timer in DRIVE. Its first two values scale the input:
offset in mA and mA per unit. -/
def runTxOut (s : State) (inst : Nat) (x : Inst) : State :=
  let n := x.idx
  let v := inVal s inst x 0
  let ma := fAdd (x.val 0) (fMul (x.val 1) v.2)
  let s1 := applyDst v.1 inst (x.dst 0) ma
  let p := (txOf s1 n).average
  let off := fLt (fRat 2 10) (fAbs (fSub p.readback (fRat p.target (tx16 * 2000))))
  if p.st ≠ .drive then setTx s1 n { p with misSince := none }
  else if off then
    let s2 := setTx s1 n { p with misSince := some (p.misSince.getD s1.now) }
    if txMisDue s2 n s2.now then txFault s2 n else s2
  else setTx s1 n { p with misSince := none }

/-- SOLENOID_CTRL's run (R289): the commands of its input set, from registers and from its basket. -/
def runSolenoid (s : State) (x : Inst) : State :=
  let v := x.idx
  let r := match x.src 0 with
    | .basket b =>
      let q := takeMsgs s b x.msgLimit
      (q.1, q.2.filterMap (fun (m : Msg) => match m with | .cmd op a => some (op, a.toNat) | _ => none))
    | _ => (s, ([] : List (Nat × Nat)))
  let p := solOf r.1 v
  if p.st = .disabled then r.1 else setSol r.1 v { p with inbox := [], nextCmd := p.nextCmd ++ p.inbox ++ r.2 }

/-- Command codes of an instance's command basket, its first input (R220). DESIGN CHOICE (log entry 44): which input. -/
def takeOps (s : State) (x : Inst) (f : State → Nat → State) : State :=
  match x.src 0 with
  | .basket b =>
    let q := takeMsgs s b x.msgLimit
    q.2.foldl (fun s m => match m with | .cmd op _ => f s op | _ => s) q.1
  | _ => s

/-- DO_OUT's run: input k gives output k its level. -/
def runDoOut (s : State) (inst : Nat) (x : Inst) : State :=
  forEach (upTo x.outs.length) s (fun s k => let v := inVal s inst x k; applyDst v.1 inst (x.dst k) v.2)

/-- DIAG_SWEEP's run (R261): a message of its input starts the sweep of its aisle. -/
def runSweep (s : State) (x : Inst) : State :=
  match x.src 0 with
  | .basket b =>
    let q := takeMsgs s b x.msgLimit
    if q.2.isEmpty then q.1 else sweepBegin q.1 x.idx
  | _ => s

/-! ## Messages -/

/-- The stamp of a message, 0 where it carries none. -/
def msgStamp (m : Msg) : Nat :=
  match m with
  | .value _ _ t => t
  | .moist r => r.stamp
  | .parcel p => p.tEntry
  | .report _ _ t _ _ => t
  | .wick r => r.snapTime
  | _ => 0

/-- Posts a message to every output basket. -/
def postAll (s : State) (inst : Nat) (ds : List Dst) (m : Msg) : State := ds.foldl (fun s d => postTo s inst d m) s

/-- FAN_OUT's run: up to n messages, each copied to every output. -/
def runFanOut (s : State) (inst : Nat) (x : Inst) : State :=
  match x.src 0 with
  | .basket b =>
    let q := takeMsgs s b x.items
    q.2.foldl (fun s m => postAll s inst x.outs m) q.1
  | _ => s

/-- The input basket whose next message has the lowest stamp; the lower input first. -/
def mergeNext (s : State) (bs : List Nat) : Option Nat :=
  (bs.foldl (fun (a : Option (Nat × Nat)) b =>
    let y := bskOf s b
    match (y.msgs.drop y.taken).head? with
    | none => a
    | some m =>
      match a with
      | some (t, _) => if msgStamp m < t then some (msgStamp m, b) else a
      | none => some (msgStamp m, b)) none).map (·.2)

/-- MERGE's run: up to n messages of its inputs in stamp order. -/
def runMerge (s : State) (inst : Nat) (x : Inst) : State :=
  let bs := x.ins.filterMap (fun q => match q with | .basket b => some b | _ => none)
  (upTo x.items).foldl (fun s _ =>
    match mergeNext s bs with
    | some b => let q := takeMsgs s b 1; q.2.foldl (fun s m => postTo s inst (x.dst 0) m) q.1
    | none => s) s

/-- One request of a TRANSACT: it leaves its input only when a tag is free (R168). -/
def transactOne (s : State) (inst : Nat) (x : Inst) (b out : Nat) : State :=
  match (bskOf s b).msgs.drop (bskOf s b).taken with
  | [] => s
  | m :: _ =>
    let r := issueRequest s inst out ((x.id? 0).getD 0) m
    if r.2 then (takeMsgs r.1 b 1).1 else r.1

/-- TRANSACT's run (R168): up to n requests from its first input, and its replies passed on. -/
def runTransact (s : State) (inst : Nat) (x : Inst) : State :=
  let s1 := match x.src 0, x.dst 0 with
    | .basket b, .basket out => (upTo x.items).foldl (fun s _ => transactOne s inst x b out) s
    | _, _ => s
  match x.src 1 with
  | .basket b => let q := takeMsgs s1 b x.items; q.2.foldl (fun s m => postTo s inst (x.dst 1) m) q.1
  | _ => s1

/-! ## Blocks without a stated law -/

/-- A free number. -/
def drawNat (s : State) : State × Nat := (useFree s, Config.freeNat s.free)

/-- One output of a block without a law: whether it posts and what it puts out are free. -/
def freeOut (inst : Nat) (s : State) (d : Dst) : State :=
  let v := Config.freeWord s.free
  let go := Config.freeBool s.free
  let s1 := useFree s
  if go then
    match d with
    | .basket b => keepPost s1 inst (plain b (.value v .good s1.now))
    | d => applyDst s1 inst d v
  else s1

/-- The private state of a block without a law: one free number per item, and whether it has divided an integer by zero (R170). -/
def freeState (s : State) (inst : Nat) (x : Inst) : State :=
  let r := (upTo x.items).foldl (fun (a : State × List Nat) _ => let q := drawNat a.1; (q.1, a.2 ++ [q.2])) (s, [])
  let y := blkOf r.1 inst
  setBlk (useFree r.1) inst { y with n := r.2, divZero := y.divZero || Config.freeBool r.1.free }

/-- Its inputs are taken up to its message limit (R167). -/
def takeInputs (s : State) (x : Inst) : State :=
  x.ins.foldl (fun s q => match q with | .basket b => (takeMsgs s b x.msgLimit).1 | _ => s) s

/-- Requests of the market among the messages that a run takes. -/
def askedIn (s : State) (x : Inst) : List Msg :=
  x.ins.flatMap (fun q => match q with
    | .basket b => (nextMsgs s b x.msgLimit).filter (fun m => match m with | .asked _ _ _ _ => true | _ => false)
    | _ => [])

/-- A block without a law may answer a request that it took, by its first output; whether it does and what it says are free. -/
def freeAnswer (inst : Nat) (d : Dst) (s : State) (q : Msg) : State :=
  let s1 := useFree s
  if Config.freeBool s.free then
    answerTo (useFree s1) inst d q (Config.freeNat s.free % 256) (.value (Config.freeWord s1.free) .good s1.now)
  else s1

/-- A run of a block whose law the spec does not state. -/
def runFree (s : State) (inst : Nat) (x : Inst) : State :=
  (askedIn s x).foldl (freeAnswer inst (x.dst 0)) (x.outs.foldl (freeOut inst) (freeState (takeInputs s x) inst x))

/-- EVENT_RAISE's run: which of its signals raise their event now is free. -/
def runRaise (s : State) (inst : Nat) (x : Inst) : State :=
  forEach (upTo x.items) (takeInputs s x) (fun s k =>
    let s1 := useFree s
    if Config.freeBool s.free then logEv s1 (srcBlk inst) .signalRaised k else s1)

/-- PACK's run (R168): it takes its values and posts one message to its output. With a tag quota the message is a request whose reply
comes to the basket its first item number names; one refused with TAG_FULL is not sent. What the message says is free (log entry 13). -/
def runPack (s : State) (inst : Nat) (x : Inst) : State :=
  let s1 := takeInputs s x
  let m : Msg := .value (Config.freeWord s1.free) .good s1.now
  match x.dst 0 with
  | .basket b =>
    if (lookup s1.hld.str.quotas inst).getD 0 = 0 then keepPost (useFree s1) inst (plain b m)
    else (issueRequest (useFree s1) inst b ((x.id? 0).getD 0) m).1
  | _ => s1

/-! ## One run -/

/-- POSITION_LOOP's run with its post (R222). -/
def runPos (s : State) (inst : Nat) (x : Inst) : State :=
  let s1 := runPosition s x.idx s.now
  postTo s1 inst (x.dst 0) (.value (gateOf s1 x.idx).nStar .good s1.now)

/-- The law of a block type. -/
def runLawOf (s : State) (inst : Nat) (x : Inst) : State :=
  match x.typ with
  | .piLoop => runLaw s inst x
  | .pidLoop => runLaw s inst x
  | .pi2dof => runLaw s inst x
  | .ratioLoop => runLaw s inst x
  | .speedLoop => runLaw s inst x
  | .splitRange => runSplit s inst x
  | .positionLoop => runPos s inst x
  | .taper => runTaper s inst x
  | .taperCoord => runTaper s inst x
  | .loopSupervise => runSup s inst x
  | .motorCtrl => runMotorCtrl (takeOps s x (fun s op => motOp s x.idx op)) x.idx s.now
  | .motorObserver => runObserver s x.idx s.now
  | .fanSupervise => runFan s x.idx s.now
  | .energyMeter => runEnergy s x.idx
  | .homing => runHoming s x.idx s.now
  | .solenoidCtrl => runSolenoid s x
  | .txOut => runTxOut s inst x
  | .doOut => runDoOut s inst x
  | .cableCheck => runCable s inst x
  | .moistProc => runMoist s inst x
  | .colTrack => runCol s inst x
  | .dryColumn => runDry s inst x
  | .dryHeat => runHeat s x
  | .aerSilo => runAer s inst x
  | .routeSeq => runRoute s x.idx s.now
  | .beltSlip => runSlip s x.idx s.now
  | .diverter => runDiverter s inst x
  | .nightlightTable => runNightTable s inst x
  | .fanOut => runFanOut s inst x
  | .merge => runMerge s inst x
  | .pack => runPack s inst x
  | .transact => runTransact s inst x
  | .eventRaise => runRaise s inst x
  | .thermalPolicy => runPolicy s inst x.idx
  | .diagSweep => runSweep s x
  | _ => runFree s inst x

/-- What a run put out against the state before it, for the output digest (R455). -/
def outOfRun (old new : State) (inst : Nat) : RunOut :=
  { inst := inst, aborted := false, cmds := (cmdsOf new).filter (fun c => !(cmdsOf old).contains c),
    posts := ((new.eng.posts.drop old.eng.posts.length).filter (fun p => p.1 == inst)).map (·.2),
    arms := new.llt.reqs.drop old.llt.reqs.length }

/-- BLOCK_RUN of one instance (R152, R163, R166): what was refused before is posted again first. -/
def runInst (s : State) (p : Nat × Inst) : State :=
  let s1 := runLawOf (repost (takeOverruns s p.1) p.1) p.1 p.2
  { s1 with wax := { s1.wax with outs := s1.wax.outs ++ [outOfRun s s1 p.1] }, marks := s1.marks ++ [markOf s s1 p] }

/-- An engine's runs of the present frame in ascending instance number (R152); a HALTED engine runs nothing. Its peak load is at
most its worst frame load, and otherwise open (R155, R172). -/
def runEngine (s : State) (e : Nat) : State :=
  if (engOf s e).halted then s
  else
    let due := dueOf s e
    let s1 := due.foldl runInst s
    if due.isEmpty then s1
    else
      let x := engOf s1 e
      let cap := frameLoad (rdState s1) s1.hld.str.insts e s1.frame
      setEng (useFree s1) e { x with peak := sat 16 (max x.peak (Config.freeNat s1.free % (cap + 1))) }

/-- The engines with instances. -/
def placedEngines (s : State) : List Nat := (upTo 128).filter (engPlaced s)

/-- All runs of the present frame. -/
def runAll (s : State) : State := forEach (placedEngines s) s runEngine

end Sys2Proof.Machine
end

