-- ==== Sys2Proof/Machine/Frame.lean ====
section
/-!
DEFINITION. The frame (R22 to R27, R152, R158, R159, R164): the boundary with everything it holds, the wick snapshot latch before
it, the deadline abort, and the frame record of the wax (R442, R443, R446).
-/
namespace Sys2Proof

/-- The output digest of a frame (R455): CRC-32 over what its runs put out. The byte layout of what it covers stands in a data
file that is not part of the spec given here, so it is a free function of what was put out (log entry 7). -/
opaque Config.outDigest : List Machine.RunOut → W32

end Sys2Proof

namespace Sys2Proof.Machine

open Sys2Proof

/-! ## The wax's frame record -/

/-- Changes the wax. -/
def modWax (s : State) (f : WaxState → WaxState) : State := { s with wax := f s.wax }

/-- Bytes of the full-rate tier's ring (R20, R446). -/
def waxRing : Nat := 9126805504

/-- Drops the oldest segments while the ring is over its size. -/
def evictSegs (l : List Segment) (room : Nat) : List Segment :=
  match l with
  | [] => []
  | g :: t => if g.bytes + 64 ≤ room then g :: evictSegs t (room - (g.bytes + 64)) else []

/-- Puts a record into the segment of its second (R446). -/
def putRec (segs : List Segment) (r : FrameRec) : List Segment :=
  let sec := r.frame * frameNs / secNs
  match segs with
  | g :: t =>
    if g.second = sec then { g with recs := r :: g.recs, bytes := g.bytes + r.bytes, gap := g.gap || r.afterGap } :: t
    else { second := sec, recs := [r], bytes := r.bytes, damaged := false, gap := r.afterGap, halt := false } :: segs
  | [] => [{ second := sec, recs := [r], bytes := r.bytes, damaged := false, gap := r.afterGap, halt := false }]

/-- Keyframes are evicted with the segment they start (R447). -/
def keepKeys (segs : List Segment) (keys : List Keyframe) : List Keyframe :=
  match segs.getLast? with
  | some g => keys.filter (fun k => decide (g.second ≤ k.frame * frameNs / secNs))
  | none => []

/-- The wax records: its DRAM runs, and no relight does (R442, R454). -/
def waxOn (s : State) : Bool := s.snf.corePowered && decide (3 ≤ s.snf.stage) && !relit s

/-- Adds to the entry of a key in a list of lists. -/
def addTo {α : Type} (l : List (Nat × List α)) (k : Nat) (x : α) : List (Nat × List α) := spPut l k (((lookup l k).getD []) ++ [x])

/-- A selected value as the latest runs left it, where the model holds that output (R449). -/
def selValue (s : State) (x : SelOut) : Option F32 :=
  match x with
  | .taper j => some (taperOf s j).y
  | .law i => some (loopOf s i).u
  | .moisture c => some (chanOf s c).out.moisture
  | .rate c => some (dryOf s c).rOut
  | .observer m => some (motOf s m).obsSpeed
  | .other _ _ => none

/-- The selected values at t4 of the frame that ends join its second (R449). -/
def noteSel (s : State) (a : SumAcc) : SumAcc :=
  if a.second.isNone then a
  else (upTo s.hld.str.waxSel.length).foldl (fun (a : SumAcc) k => match (s.hld.str.waxSel[k]?).bind (selValue s) with
    | some v => { a with sel := addTo a.sel k v }
    | none => a) a

/-- A wick's snapshot joins its second (R449): the counts at start and end, the largest |speed|, the states, the entries into LOST. -/
def noteWick (a : SumAcc) (w : Nat) (r : SnapRec) : SumAcc :=
  let pos := Int.fdiv r.pos 256
  let new : WickSum := match lookup a.wicks w with
    | some (x, st) => { x with last := pos, speed := max x.speed r.speed.natAbs, states := x.states ||| 2 ^ r.st.code,
                               losses := x.losses + (if r.st = .lost ∧ st ≠ .lost then 1 else 0) }
    | none => { first := pos, last := pos, speed := r.speed.natAbs, states := 2 ^ r.st.code, losses := 0 }
  { a with wicks := spPut a.wicks w (new, r.st) }

/-- What the boundary shows of wicks, channels, transmitter ports and rows joins the second's summary (R449). -/
def noteInputs (s : State) (a : SumAcc) : SumAcc :=
  let a0 := s.wick.w.foldl (fun (a : SumAcc) p => noteWick a p.1 p.2.snap) a
  let a1 := s.moist.c.foldl (fun (a : SumAcc) p =>
    let o := p.2.out
    { a with moist := if o.q = .invalid then a.moist else addTo a.moist p.1 (o.moisture, o.tGrain, o.density),
             quality := spPut a.quality p.1 (max ((lookup a.quality p.1).getD 0) o.q.code) }) a0
  let a2 := s.tx.p.foldl (fun (a : SumAcc) p => { a with tx := addTo a.tx p.1 (fRat p.2.target (tx16 * 2000), p.2.readback) }) a1
  (upTo 8).foldl (fun (a : SumAcc) r =>
    let old := (lookup a.rows r).getD (rowTemp s r, (rowOf s r).m)
    { a with rows := spPut a.rows r (max old.1 (rowTemp s r), min old.2 (rowOf s r).m) }) a2

/-- The boundary in the second's summary (R449); with a new second the old one's is complete. -/
def noteSecond (s : State) : State :=
  let sec := s.frame * frameNs / secNs
  let a := noteSel s s.wax.acc
  if a.second = some sec then modWax s (fun x => { x with acc := noteInputs s a })
  else modWax s (fun x => { x with accLast := { a with evrHead := s.rec_.head }, acc := noteInputs s { SumAcc.zero with second := some sec } })

/-- FRAME_RECORD_WRITE (R442, R443): the closed input set becomes one record. -/
def recordFrame (s : State) : State :=
  if waxOn s then
    let r : FrameRec := { frame := s.frame, items := s.wax.items.reverse, afterGap := s.wax.afterGap, unsynced := s.mkt.unsynced,
                          halted := false, outDigest := Config.outDigest s.wax.outs }
    let segs := evictSegs (putRec s.wax.segs r) waxRing
    let s1 := modWax (noteSecond s) (fun x => { x with recording := true, segs := segs, keys := keepKeys segs x.keys, items := [], outs := [], afterGap := false })
    if r.afterGap then stick s1 .waxStatus 0 7 else s1
  else modWax s (fun x => { x with recording := false, items := [], outs := [], afterGap := true, keyDue := true })

/-! ## Host activity and interrupts at the boundary (R466 to R469) -/

/-- Host activity of the closed input set clears silent, and the end of silence is written into the input set (R466). -/
def hostAtBoundary (s : State) (t : Nat) : State :=
  if s.glb.hostNow then
    let s1 := { s with glb := { s.glb with hostNow := false, lastHost := t, silent := false } }
    if s.glb.silent then modWax s1 (fun x => { x with items := .write (regAddr .glbHost 0) (readWord s1 .glbHost 0) :: x.items }) else s1
  else s

/-- Interrupts at t0 (R467), and the enables written before (R468, R469): which pending bits are new. -/
def irqAtBoundary (s : State) : State :=
  let r := irqEval s
  let s1 := r.1
  let en := regF s1 .glbIrqEn 0 0 23
  let on := regB s1 .glbNotice 0 22
  let pend := regF s1 .glbIrqPend 0 0 23
  let fresh := (r.2 &&& s.glb.enNow) ||| (pend &&& (en &&& (en ^^^ s.glb.enNow))) ||| (if on && !s.glb.noticeEn then pend &&& en else 0)
  { s1 with glb := { s1.glb with enNow := en, noticeEn := on, newBits := if on then s1.glb.newBits ||| fresh else 0 } }

/-! ## The boundary -/

/-- A frame boundary may fall at t: a multiple of 125 µs, later than the last one and past a step's pause (R22, R299), with the
core domain past its reset. -/
def boundaryOk (s : State) (t : Nat) : Bool :=
  decide (t % frameNs = 0) && s.snf.corePowered && decide (1 ≤ s.snf.stage) && (!s.framed || decide (s.frame < frameOf t)) &&
  (match s.mkt.pausedAt with | some p => decide (p < frameOf t) | none => true)

/-- The register words written before the clock cycle of the boundary (R24). -/
def beforeEdge (s : State) : List (Nat × W32) :=
  s.glb.edgeWords.foldl (fun l p => match decodeAddr p.1 with | some (r, _) => spSet (regDesc r).reset l p.1 p.2 | none => l) s.rf

/-- What completed in the clock cycle of the boundary begins the next frame's input set; subframes of that cycle are taken now (R24). -/
def takeEdge0 (s : State) : State :=
  let s1 := { s with eng := { s.eng with arrivals := s.eng.arrivals ++ s.eng.edgeArrivals, edgeArrivals := [] },
                     wax := { s.wax with items := s.wax.edgeItems ++ s.wax.items, edgeItems := [] },
                     aisle := { s.aisle with edgeUps := [] } }
  s.aisle.edgeUps.foldl (fun s n => takeUp s n s.now) s1

/-- The words written in the clock cycle of the boundary, as they stand. -/
def edgeNow (s : State) : List (Nat × W32) :=
  s.glb.edgeWords.filterMap (fun p => match decodeAddr p.1 with | some (r, i) => some (p.1, regW s r i) | none => none)

/-- What was written in the clock cycle of the boundary stands again after this frame's runs, for the frame after (R24). -/
def restoreEdge (s : State) (l : List (Nat × W32)) : State :=
  l.foldl (fun s p => match decodeAddr p.1 with
    | some (r, i) => let m := (regDesc r).rw; setRegW s r i ((regW s r i &&& ~~~m) ||| (p.2 &&& m))
    | none => s) s

/-- INPUT_SET_CLOSE and COMMAND_RELEASE (R24, R25): writes of the frame before are in force; commands are released at t1, but not
between t4 and t5 of a take-over (R358). -/
def openFrame (s : State) (t : Nat) : State :=
  let s0 := applyReady (noteOwnCmds s)
  let s1 := { s0 with frame := frameOf t, framed := true, mkt := { s0.mkt with pausedAt := none }, rf := beforeEdge s0, rfF := beforeEdge s0,
                      glb := { s0.glb with wrote := s0.glb.edgeWords.map (·.1), edgeWords := [] } }
  patchMissed (if takeOverWait s1 then s1 else releaseCmds s1 t)

/-- Aborts of the frame before are in this frame's input set (R159); from here on an abort can undo a run (R158). -/
def closeInputs (s : State) : State :=
  let s1 := admission s
  { s1 with eng := { s1.eng with aborts := [] }, before := some (imageOf s1), marks := [] }

/-- The frame's work in a unit that runs its own structure. -/
def frameWork (s : State) : State :=
  let s1 := freezeTrack (closeInputs (takeTemps s))
  let s2 := runAll (recordFrame (forEach (upTo 8) s1 lostItems))
  let s3 := endRetiring (touchCols s1.col.c s2)
  changedCredits s (egress s3)

/-- FRAME_BOUNDARY (R22, R24, R25, R152, R157, R164, R307, R345, R442, R467). -/
def execFrameBoundary (t : Ns) (s : State) : Out :=
  let s := setNow s t
  .next (if boundaryOk s t then
      let s1 := irqAtBoundary (hostAtBoundary (wdResetDue (duePatch (latchDue s false))) t)
      let s2 := setRowClocks (openFrame s1 t)
      let s3 := if s2.hld.committed && !relit s2 then frameWork { s2 with now := t } else recordFrame s2
      takeEdge0 (restoreEdge (resumeBits (sendControl { s3 with now := s2.now })) (edgeNow s1))
    else s)

/-! ## The snapshot latch (R35, R198, R289) -/

/-- The snapshot latch of every wick and port at t, with the publications (R35, R48, R198, R289). -/
def snapAll (s : State) (t : Nat) : State :=
  let s1 := publish (latchWicks s t)
  let s2 := forEach (upTo 16) s1 (fun s m => fbLatch s t m)
  forEach (upTo 32) s2 (fun s v => if (solOf s v).st = .disabled then s else solSnap s v t)

/-- WICK_SNAPSHOT_LATCH (R35): 4 µs before a boundary. -/
def execWickSnapshotLatch (t : Ns) (s : State) : Out :=
  let s := setNow s t
  .next (if (t + 4000) % frameNs = 0 ∧ s.snf.corePowered = true ∧ 1 ≤ s.snf.stage then snapAll s t else s)

/-! ## Deadline aborts (R158, R159) -/

/-- The abort's reports (R159): miss, the map, the counters, the event; a severe finding in a pair (R352). -/
def noteMiss (s : State) (e i skipped : Nat) : State :=
  let x := engOf s e
  let s1 := setEng s e { x with miss := true, missMap := true, misses := satInc 16 x.misses, skipped := satAdd 16 x.skipped skipped,
                                missFrame := s.frame, missInst := i }
  let s2 := logEv s1 (srcEng e) .engineAbort (i + 8192 * s.frame)
  let s3 := modPair s2 (fun p => { p with missed := true, missLan := satInc 16 p.missLan })
  addItem { s3 with eng := { s3.eng with aborts := s3.eng.aborts ++ [(e, i, skipped)] } } (.abort e i skipped)

/-- Undoes a run and the later ones of its engine; the aborted one is known by its number alone (R155, R158). -/
def abortRuns (b s : State) (e i : Nat) : State :=
  let gone := (dueOf s e).filter (fun p => decide (i ≤ p.1))
  let s1 := gone.foldl (undoRun b) s
  modWax s1 (fun x => { x with outs := (x.outs.filter (fun o => !gone.any (fun p => p.1 == o.inst && p.1 != i))).map (fun o =>
    if o.inst = i then { inst := i, aborted := true, cmds := [], posts := [], arms := [] } else o) })

/-- DEADLINE_ABORT (R158, R159): engine e has not completed instance i at t0 + 120 µs of the present frame. -/
def execDeadlineAbort (e : Fin 128) (i : Fin 8192) (t : Ns) (s : State) : Out :=
  let s := setNow s t
  .next (match s.before with
    | some k =>
      let due := dueOf s e
      if frameOf t = s.frame ∧ due.any (fun p => p.1 == i.val) = true ∧ (engOf s e).halted = false ∧ relit s = false then
        noteMiss (abortRuns (withImage s k) s e i) e i (due.filter (fun p => decide (i.val < p.1))).length
      else s
    | none => s)

end Sys2Proof.Machine
end

