-- ==== Sys2Proof/Machine/Wax.lean ====
section
/-!
DEFINITION. The wax beside its frame records (R447 to R452, R456): keyframes, summaries, freeze, export and import.
-/
namespace Sys2Proof.Machine

open Sys2Proof

/-- Result of a wax op (WAX_RESULT): 0 OK, 1 WAX_BUSY, 2 WAX_GONE, 3 WAX_SIZE, 4 WAX_GAP, 5 WAX_FORMAT, 6 RUNNING. -/
def waxResult (s : State) (op code : Nat) : State := modWax s (fun x => { x with op := op, code := code })

/-! ## Keyframes (R447) -/

/-- A keyframe is due at t4 of the present frame: at a multiple of kf_s seconds, or as the first after a gap. -/
def keyframeDue (s : State) : Bool :=
  waxOn s && s.hld.committed &&
  (s.wax.keyDue || decide (s.frame * frameNs % (regF s .waxCfg 0 6 9 * secNs) = 0))

/-- KEYFRAME_CAPTURE (R447): at t4 of the present frame, when its runs have completed; a deadline abort of the same instant goes
first. -/
def execKeyframeCapture (t : Ns) (s : State) : Out :=
  let s := setNow s t
  .next (if frameOf t = s.frame ∧ keyframeDue s = true ∧ (s.wax.keys.any (fun k => k.frame == s.frame)) = false then
      modWax s (fun x => { x with keyDue := false,
                                  keys := { frame := s.frame, hash8 := hash8 s, image := imageOf s, seen := s.wax.items.length, complete := false } :: x.keys })
    else s)

/-- KEYFRAME_COMPLETE (R447): usable, or keyframe_fault. -/
def execKeyframeComplete (t : Ns) (frame : Nat) (ok : Bool) (s : State) : Out :=
  let s := setNow s t
  .next (if s.wax.keys.any (fun k => k.frame == frame && !k.complete) then
      if ok then modWax s (fun x => { x with keys := x.keys.map (fun k => if k.frame = frame then { k with complete := true } else k) })
      else stick (modWax s (fun x => { x with keys := x.keys.filter (fun k => k.frame != frame || k.complete) })) .waxStatus 0 6
    else s)

/-! ## Summaries (R449) -/

/-- The worse of two qualities. -/
def worse (a b : Quality) : Quality := if a.code ≤ b.code then b else a

/-- A stall sample joins its summary's list: (values, worst, flags, samples). -/
def stallSum (l : List (Quality × F32 × StallFlags)) : StallSum :=
  let vs := (l.filter (fun p => p.1 != .invalid)).map (fun p => p.2.1)
  { min := match vs with | [] => 0#32 | v :: t => t.foldl fMin v, max := match vs with | [] => 0#32 | v :: t => t.foldl fMax v,
    mean := if vs.isEmpty then 0#32 else meanF vs, worst := l.foldl (fun a p => worse a p.1) .good,
    flags := l.foldl (fun a p => a ||| p.2.2) 0#8, samples := sat 16 l.length }

/-- States seen, as bits of their codes. -/
def stateBits (l : List Nat) : Nat := l.foldl (fun a c => a ||| 2 ^ c) 0

/-- The samples of a stall in a list of items. -/
def stallItems (l : List WaxItem) (i : Nat) : List (Quality × F32 × StallFlags) :=
  l.filterMap (fun x => match x with | .stall _ (.sample j f q v _ _) => if j = i then some (q, v, f) else none | _ => none)
/-- The feedback records of a motor port. -/
def fbItems (l : List WaxItem) (m : Nat) : List FbRec :=
  l.filterMap (fun x => match x with | .fb v r => if v = m then some r else none | _ => none)
/-- The latches of a solenoid port. -/
def solItems (l : List WaxItem) (v : Nat) : List (SolSt × Nat × SolFault) :=
  l.filterMap (fun x => match x with | .sol k st u _ f => if k = v then some (st, u, f) else none | _ => none)
/-- Sets of a channel. -/
def setItems (l : List WaxItem) (c : Nat) : Nat :=
  (l.filter (fun x => match x with | .set r => r.channel == c | _ => false)).length

/-- A motor port's summary. -/
def motSum (l : List FbRec) : MotSum :=
  { speed := meanF (l.map (·.speed)), iq := meanF (l.map (·.iq)), vdc := meanF (l.map (·.vdc)), pEl := meanF (l.map (·.pEl)),
    iPeak := l.foldl (fun a r => max a r.iPeak) 0, states := stateBits (l.map (fun r => r.st.code)),
    fault := match l.getLast? with | some r => r.fault.code | none => 0 }
/-- A solenoid port's summary. -/
def solSum (l : List (SolSt × Nat × SolFault)) : SolSum :=
  { u := match l.getLast? with | some r => r.2.1 | none => 0, states := stateBits (l.map (fun r => r.1.code)),
    fault := match l.getLast? with | some r => r.2.2.code | none => 0 }

/-- The entries with something in them. -/
def someOf {α β : Type} (n : Nat) (f : Nat → List α) (g : Nat → List α → β) : List (Nat × β) :=
  (upTo n).filterMap (fun k => let l := f k; if l.isEmpty then none else some (k, g k l))

/-- A channel's summary from the boundaries of the second and its sets. -/
def chanSum (a : SumAcc) (items : List WaxItem) (c : Nat) : Option (Nat × ChSum) :=
  let l := (lookup a.moist c).getD []
  let n := setItems items c
  if l.isEmpty ∧ n = 0 then none
  else some (c, { m := meanF (l.map (·.1)), tg := meanF (l.map (·.2.1)), rho := meanF (l.map (·.2.2)),
                  worst := match (lookup a.quality c).getD 0 with | 0 => .good | 1 => .degraded | _ => .invalid, sets := sat 16 n })

/-- Mean and last of the selected values (R449). What an output the model does not hold has put out is free. -/
def selSums (s : State) (a : SumAcc) : State × List (F32 × F32) :=
  (upTo s.hld.str.waxSel.length).foldl (fun (r : State × List (F32 × F32)) k =>
    match s.hld.str.waxSel[k]? with
    | some (SelOut.other _ _) => (useFree (useFree r.1), r.2 ++ [(Config.freeWord r.1.free, Config.freeWord (r.1.free + 1))])
    | _ =>
      let l := (lookup a.sel k).getD []
      (r.1, r.2 ++ [(if l.isEmpty then 0#32 else meanF l, l.getLast?.getD 0#32)])) (s, [])

/-- What a second has shown; evr head as it stands while the second is the present one. -/
def accOf (s : State) (sec : Nat) : SumAcc :=
  if s.wax.acc.second = some sec then noteSel s { s.wax.acc with evrHead := s.rec_.head }
  else if s.wax.accLast.second = some sec then s.wax.accLast
  else { SumAcc.zero with evrHead := s.rec_.head }

/-- The summary of a second. -/
def summaryOf (s : State) (sec : Nat) (sel : List (F32 × F32)) : Summary :=
  let g := s.wax.segs.find? (fun g => g.second == sec)
  let recs := match g with | some g => g.recs.reverse | none => []
  let items := recs.flatMap (·.items)
  let a := accOf s sec
  { second := sec, firstFrame := match recs.head? with | some r => r.frame | none => 0, frames := recs.length,
    bytes := match g with | some g => g.bytes | none => 0, evrHead := a.evrHead,
    gap := match g with | some g => g.gap | none => true, damaged := match g with | some g => g.damaged | none => false,
    unsynced := recs.any (·.unsynced), stepped := recs.any (·.stepped),
    stalls := someOf 128 (stallItems items) (fun _ l => stallSum l), wicks := a.wicks.map (fun p => (p.1, p.2.1)),
    motors := someOf 16 (fbItems items) (fun _ l => motSum l), sols := someOf 32 (solItems items) (fun _ l => solSum l),
    chans := (upTo 32).filterMap (chanSum a items),
    txs := a.tx.map (fun p => (p.1, (meanF (p.2.map (·.1)), meanF (p.2.map (·.2))))), rows := a.rows,
    aisles := (upTo 8).map (fun n => (aisOf s n).st.code), rails := s.snf.railBad.map (·.2), selected := sel }

/-- SUMMARY_WRITE (R449): after each whole second, once. -/
def execSummaryWrite (t : Ns) (s : State) : Out :=
  let s := setNow s t
  let sec := t / secNs - 1
  let due := match s.wax.summaries with | [] => true | x :: _ => x.second != sec
  .next (if secNs ≤ t ∧ due = true ∧ waxOn s = true then
      let r := selSums s (accOf s sec)
      let x := summaryOf r.1 sec r.2
      let kb := x.bytes / 1000
      modWax r.1 (fun w => { w with summaries := (x :: w.summaries).take 86400, rate := kb, peak := max w.peak kb })
    else s)

/-! ## Freeze (R450, R451) -/

/-- The staging region is held (R450, R456). -/
def stagingHeld (s : State) : Bool :=
  s.wax.export_.isSome || s.wax.staging == .importing || s.wax.staging == .freezing || s.rlt.st != .idle

/-- Last second of the span: that of t_to, or the last whole one before the op (R450). -/
def freezeEnd (s : State) : Nat :=
  let to_ := reg64 s .waxToLo .waxToHi 0
  if to_ = 0 then s.now / secNs - 1 else to_ / secNs

/-- The newest complete keyframe at or before t_from (R450, R456). -/
def freezeKey (s : State) : Option Keyframe :=
  s.wax.keys.find? (fun k => k.complete && decide (k.frame * frameNs ≤ reg64 s .waxFromLo .waxFromHi 0))

/-- Segments from a keyframe's second to the last one, oldest first. -/
def freezeSegs (s : State) (k : Keyframe) (last : Nat) : List Segment :=
  (s.wax.segs.filter (fun g => decide (k.frame * frameNs / secNs ≤ g.second) && decide (g.second ≤ last))).reverse

/-- The span crosses a gap: a record after the keyframe stands first after one, or a second has no segment (R448). -/
def spanGap (k : Keyframe) (l : List Segment) (last : Nat) : Bool :=
  l.any (fun g => g.recs.any (fun r => r.afterGap && decide (k.frame < r.frame))) ||
  (upTo (last + 1 - k.frame * frameNs / secNs)).any (fun j => !l.any (fun g => g.second == k.frame * frameNs / secNs + j))

/-- Stream images as they stand in the bank, and the patch applied but not stored (R451). -/
def streamsNow (s : State) : List StreamImg :=
  bankOf s s.hld.bankB ++ (match s.hld.appliedImg with | some x => if s.hld.unpersisted then [x] else [] | none => [])

/-- The chain up to a structure hash, then the patches whose markers stand in the span (R451). -/
def imageStreams (s : State) (k : Keyframe) (l : List Segment) : List StreamImg × Nat :=
  let all := streamsNow s
  let n := match (upTo all.length).find? (fun j => match all[j]? with | some x => x.hash % 2 ^ 64 == k.hash8 | none => false) with
    | some j => j + 1
    | none => all.length
  let marks := l.flatMap (fun g => g.recs.flatMap (fun r => r.items.filterMap (fun x => match x with
    | .patch h _ => if k.frame < r.frame then some h else none | _ => none)))
  let later := (all.drop n).filter (fun x => marks.contains (x.hash % 2 ^ 64))
  (all.take n ++ later, n)

/-- The signature by the identity key over the SHA-256 of the header's bytes 0 to 159 (R451). -/
def Frozen.sign (f : Frozen) : Frozen := { f with sig := (Config.signature (bytesLE 32 (Config.sha256 f.signed).toNat)).toNat }

/-- The image of a span (R451). -/
def frozenOf (s : State) (k : Keyframe) (last : Nat) : Frozen :=
  let l := freezeSegs s k last
  let st := imageStreams s k l
  let f : Frozen := {
    stepping := 0xB1, device := s.mgt.devId, market := marketId s,
    firmware := match fwImage s with | some f => f.version | none => 0, lib := match fwImage s with | some f => f.lib | none => 0,
    hash := k.image.str.hash, first := k.frame,
    last := match l.getLast? with | some g => (match g.recs with | r :: _ => r.frame | [] => k.frame) | none => k.frame,
    streams := st.1, chain := st.2, key := k, segs := l, imported := false, sig := 0, formatOk := true }
  f.sign

/-- The freeze op (R450, R456). -/
def waxFreeze (s : State) : State :=
  if stagingHeld s then waxResult s 1 1
  else
    match freezeKey s with
    | none => waxResult s 1 2
    | some k =>
      let last := freezeEnd s
      if 4294967296 < (frozenOf s k last).bytes then waxResult s 1 3
      else if spanGap k (freezeSegs s k last) last then waxResult s 1 4
      else waxResult (modWax s (fun x => { x with staging := .freezing, frozen := none, importBytes := [], freezeReq := some (k.frame, last) })) 1 6
/-- WAX_FREEZE (R450). -/
def execWaxFreeze (s : State) : Out := .next (waxFreeze s)

/-- FREEZE_COMPLETE (R450, R451): the image stands FROZEN and signed, unless eviction overtook the copy. -/
def execFreezeComplete (t : Ns) (overtaken : Bool) (s : State) : Out :=
  let s := setNow s t
  .next (match s.wax.staging, s.wax.freezeReq with
    | .freezing, some (f, last) =>
      match s.wax.keys.find? (fun k => k.frame == f && k.complete), overtaken with
      | some k, false =>
        waxResult (modWax s (fun x => { x with staging := .frozen, frozen := some (frozenOf s k last), freezeReq := none })) 1 0
      | _, _ => waxResult (modWax s (fun x => { x with staging := .empty, freezeReq := none })) 1 2
    | _, _ => s)

/-! ## Export (R452) -/

/-- Bytes of one summary (R449). -/
def summaryBytes : Nat := 16384

/-- Bytes of an export source: 0 the frozen image, 1 the summary tier. -/
def sourceSize (s : State) (source : Nat) : Nat := if source = 0 then waxSize s else s.wax.summaries.length * summaryBytes

/-- The export op (R452, R456): the range in WAX_EXP_OFS and WAX_EXP_LEN goes to the sender. A relight reads the image too and does not
refuse it (log entry 59). -/
def waxExport (s : State) (sender : Nat) : State :=
  let source := regF s .waxExpRate 0 8 1
  if s.wax.export_.isSome || (source == 0 && (s.wax.staging == .importing || s.wax.staging == .freezing)) then waxResult s 2 1
  else if source = 0 ∧ s.wax.staging ≠ .frozen then waxResult s 2 2
  else
    let ofs := reg64 s .waxExpOfsLo .waxExpOfsHi 0
    let last := min (sourceSize s source) (ofs + (regW s .waxExpLen 0).toNat)
    if last ≤ ofs then waxResult s 2 0
    else waxResult (modWax s (fun x => { x with export_ := some (sender, source, ofs, last) })) 2 6
/-- WAX_EXPORT (R452). -/
def execWaxExport (sender : Nat) (s : State) : Out := .next (waxExport s sender)

/-- EXPORT_DATAGRAM_SEND (R452): the next datagram of up to 400 bytes, in ascending offset. -/
def execExportDatagramSend (t : Ns) (s : State) : Out :=
  let s := setNow s t
  .next (match s.wax.export_ with
    | some (to_, source, ofs, last) =>
      if fwRuns s then
        let n := min 400 (last - ofs)
        let overT := decide (last ≤ ofs + n)
        let s1 := emit s (.waxData to_ source ofs n overT)
        if overT then waxResult (modWax s1 (fun x => { x with export_ := none })) 2 0
        else modWax s1 (fun x => { x with export_ := some (to_, source, ofs + n, last) })
      else s
    | none => s)

/-- The export_stop op (R460). -/
def waxExportStop (s : State) : State := waxResult (modWax s (fun x => { x with export_ := none })) 3 0
/-- WAX_EXPORT_STOP (R460). -/
def execWaxExportStop (s : State) : Out := .next (waxExportStop s)

/-! ## Import and discard (R452) -/

/-- Takes an import chunk: the first offset 0 empties the region; BUSY while an export, a freeze or a relight holds it. -/
def importChunk (s : State) (offset : Nat) (data : List Byte) : State × Nat :=
  if s.wax.export_.isSome || s.wax.staging == .freezing || s.rlt.st != .idle then (s, Acc.busy.code)
  else if 4294967296 < offset + data.length then (s, Acc.range.code)
  else
    (modWax s (fun x => { x with staging := .importing, frozen := none,
                                 importBytes := putBytes (if offset = 0 then [] else x.importBytes) offset data }), 0)

/-- WAX_DATA_IMPORT (R437, R452): needs ADMIN access. -/
def execWaxDataImport (t : Ns) (d : Dgram) (offset : Nat) (data : List Byte) (s : State) : Out :=
  .next (withDgram (setNow s t) d 3 (fun s _ =>
    let r := importChunk s offset data
    (if r.2 = 0 then noteChange r.1 d else r.1, r.2, [])))

/-- The import_done op (R452): `img` is the staged image when its header CRC and its digest are good. -/
def waxImportDone (s : State) (img : Option Frozen) : State :=
  match s.wax.staging, img with
  | .importing, some f => waxResult (modWax s (fun x => { x with staging := .frozen, frozen := some { f with imported := true }, importBytes := [] })) 4 0
  | .freezing, _ => waxResult s 4 1
  | _, _ => waxResult s 4 5
/-- WAX_IMPORT_DONE (R452). -/
def execWaxImportDone (img : Option Frozen) (s : State) : Out := .next (waxImportDone s img)

/-- The discard op (R460): the staging region is EMPTY, unless something holds it; an import may be discarded. -/
def waxDiscard (s : State) : State :=
  if s.wax.export_.isSome || s.wax.staging == .freezing || s.rlt.st != .idle then waxResult s 5 1
  else waxResult (modWax s (fun x => { x with staging := .empty, frozen := none, importBytes := [] })) 5 0
/-- WAX_DISCARD (R460). -/
def execWaxDiscard (s : State) : Out := .next (waxDiscard s)

end Sys2Proof.Machine
end

