-- ==== Sys2Proof/Machine/Relight.lean ====
section
/-!
DEFINITION. The relight (R453 to R456): the context is a block-facing state of its own, beside the unit's, in which recorded frames
run again.
-/
namespace Sys2Proof.Machine

open Sys2Proof

/-- Changes the relight. -/
def modRlt (s : State) (f : RltState → RltState) : State := { s with rlt := f s.rlt }

/-! ## Prepare (R453) -/

/-- The unit may relight: SOLO or NO_STREAM without enabled outputs, or a pair state that does not act (R453). -/
def rltAllowed (s : State) : Bool :=
  s.wax.staging == .frozen && s.rlt.st == .idle &&
  (match s.pair.st with
   | .solo => !s.snf.enabled
   | .spare => (s.hld.committed == false && !s.snf.enabled) || s.pair.phase == .wait
   | .mismatch => true
   | .failed => true
   | .standby => true
   | .active => false)

/-- R377 without step 4 (R453). -/
def validateRlt (s : State) (base : Structure) (img : StreamImg) : HldCode :=
  validate { s with mgt := { s.mgt with floorStr := 0 }, hld := { s.hld with retiring := [] } } base img

/-- The carried chain: its code, and the structure it gives (R453, checks 3 and 4). -/
def rltChain (s : State) (base : Structure) (first : Bool) (l : List StreamImg) : HldCode × Structure :=
  match l with
  | [] => (.ok, base)
  | img :: t =>
    let c := if img.full ≠ first then .format else validateRlt s base img
    if c = .ok then rltChain s (resultOf base img) false t else (c, base)

/-- The first check of a prepare that fails: 2 RLT_FORMAT, 3 RLT_STEPPING, 4 RLT_LIBRARY, 5 RLT_STREAM; 0 when none does. The second
part is what HLD_RESULT takes. -/
def rltCheck (s : State) (f : Frozen) : Nat × Option HldCode :=
  if f.formatOk = false then (2, none)
  else if f.stepping ≠ 0xB1 then (3, none)
  else if (match fwImage s with | some x => x.lib | none => 0) ≠ f.lib then (4, none)
  else
    let r := rltChain s Structure.empty true (f.streams.take f.chain)
    if f.streams.isEmpty then (5, some .format)
    else if r.1 ≠ .ok then (5, some r.1)
    else if r.2.hash ≠ f.hash then (5, some .hash)
    else (0, none)

/-- The records that follow the keyframe, oldest first, with their segments' damage (R446, R454). -/
def rltTodo (f : Frozen) : List (Bool × FrameRec) :=
  f.segs.flatMap (fun g => ((g.recs.reverse).filter (fun r => decide (f.first < r.frame))).map (fun r => (g.damaged, r)))

/-- The items of a record still to be taken: in the first frame those the keyframe does not hold (R447, R454). -/
def itemsToTake (f : Frozen) (r : FrameRec) : List WaxItem := if r.frame = f.first + 1 then r.items.drop f.key.seen else r.items

/-- A recorded snapshot is the wick's at this frame. -/
def takeSnap (s : State) (w : Nat) (r : SnapRec) : State :=
  let x := wickOf s w
  setWick s w { x with snap := r, speed := r.speed, st := r.st, rev := r.rev, trail := if r.st = .disabled then x.trail else (r :: x.trail).take 512 }

/-- A wick without an item in the record has its previous snapshot advanced, at most to the frame's own latch (R443). -/
def advanceSnap (r : FrameRec) (s : State) (w : Nat) : State :=
  let old := (wickOf s w).snap
  if r.hasSnap w || decide (r.frame * frameNs < old.snapTime + frameNs + 4000) then s else takeSnap s w old.next

/-- A passing prepare (R453): the context stands, and the drive condition is inhibited. -/
def rltEnter (s : State) (f : Frozen) : State :=
  let was := driving s
  regate was (modRlt s (fun x => { x with st := .prepared, stop := 0, refusal := 0, frame := f.first, digRec := 0#32, digOwn := 0#32,
                                          ctx := some f.key.image, todo := rltTodo f }))

/-- The prepare op (R453). -/
def rltPrepare (s : State) : State :=
  match s.wax.frozen with
  | some f =>
    if rltAllowed s then
      let s1 := if s.pair.st = .standby then pairWait s else s
      match rltCheck s1 f with
      | (0, _) => rltEnter s1 f
      | (c, h) =>
        let s2 := modRlt s1 (fun x => { x with refusal := c })
        match h with
        | some e => hldResult s2 1 e
        | none => s2
    else modRlt s (fun x => { x with refusal := 1 })
  | none => modRlt s (fun x => { x with refusal := 1 })
/-- RLT_PREPARE (R453). -/
def execRltPrepare (s : State) : Out := .next (rltPrepare s)

/-! ## One frame (R454, R455) -/

/-- A stop (R455): the context is kept, and the unit writes an event record. -/
def rltStop (s : State) (cause : Nat) : State :=
  logEv (modRlt s (fun x => { x with st := .stopped, stop := cause })) (srcDev 6) .relightStopped cause

/-- A recorded register write into the context (R442, R454): the unit takes it as it took it then. What an MST_CMD op changed for the
block stands in the recorded constants, and the op itself is not run again (R96). -/
def replayWrite (s : State) (addr : Nat) (v : W32) : State :=
  match decodeAddr addr with
  | some (.mstCmd, _) => s
  | some (r, i) =>
    let s1 := (storeWord s r i v).1
    if r = .glbHost ∧ bit v 16 = true then silenceActs s1 else s1
  | none => s

/-- A recorded item goes into the input areas of the context (R454). -/
def replay (f : Frozen) (s : State) (i : WaxItem) : State :=
  match i with
  | .stall n r => takeRec s n r
  | .lost _ r => (match r with | .sample i _ _ _ _ _ => lostStall s i | .edge i _ _ _ => lostStall s i | .cnt _ _ _ _ => s)
  | .set r => setChan s r.channel { chanOf s r.channel with inbox := (chanOf s r.channel).inbox ++ [(s.now - frameNs, r)] }
  | .snap w _ r => takeSnap s w r
  | .fb m r => setMot s m { motOf s m with rec_ := r, st := r.st, fault := r.fault }
  | .sol v st u e q => setSol s v { solOf s v with st := st, latchSt := st, latchU := u, latchE := e, e := e, fault := q }
  | .msg _ p => { s with eng := { s.eng with arrivals := s.eng.arrivals ++ [p] } }
  | .report p => { s with eng := { s.eng with arrivals := s.eng.arrivals ++ [p] } }
  | .write a v => replayWrite s a v
  | .patch h _ =>
    match f.streams.find? (fun x => !x.full && x.hash % 2 ^ 64 == h) with
    | some img => applyPatch s img
    | none => s
  | .abort _ _ _ => s
  | .step _ _ => s
  | .const i k =>
    match lookup s.hld.str.insts i with
    | some x => setChan s x.idx ((chanOf s x.idx).withConst k)
    | none => s
  | .temp k x => { s with eng := { s.eng with temps := spSet TempIn.zero s.eng.temps k x } }
  | .maps n di do_ => takeMaps s n di do_

/-- The state in which a frame of the context runs: the context's block-facing state at the frame's market time. What the unit
itself does stays out of it. -/
def rltState (s : State) (k : KeyImage) (frame : Nat) : State :=
  let s1 := withImage s k
  { s1 with now := frame * frameNs, frame := frame, hld := { s1.hld with committed := true, retiring := [] }, before := none,
            wax := { s1.wax with outs := [], items := [] }, pair := { s1.pair with st := .solo }, llt := { s1.llt with reqs := [] } }

/-- Aborts of a frame, as the record after it tells them (R159, R171): (engine, instance). -/
def abortsOf (next : Option (Bool × FrameRec)) : List (Nat × Nat) :=
  match next with
  | some (_, r) => r.items.filterMap (fun x => match x with | .abort e i _ => some (e, i) | _ => none)
  | none => []

/-- Runs the frame's instances of one engine with the recorded abort and its skips (R159, R454). -/
def rltEngine (aborts : List (Nat × Nat)) (s : State) (e : Nat) : State :=
  let due := dueOf s e
  match aborts.find? (fun a => a.1 == e) with
  | some (_, i) =>
    let s1 := (due.filter (fun p => decide (p.1 < i))).foldl runInst s
    modWax s1 (fun x => { x with outs := x.outs ++ [{ inst := i, aborted := true, cmds := [], posts := [], arms := [] }] })
  | none => due.foldl runInst s

/-- The egress baskets of the context give up what could leave in the frame; no frame goes out of a relight (R171, R307, R454). -/
def rltEgress (s : State) : State := forEach (egressBskts s) s egressBsk

/-- One recorded frame in the context: its items in their order, then the due instances, then egress (R171, R454). -/
def rltRun (f : Frozen) (s : State) (k : KeyImage) (r : FrameRec) (next : Option (Bool × FrameRec)) : State :=
  let s0 := forEach (upTo 64) (rltState s k r.frame) (advanceSnap r)
  let s1 := (itemsToTake f r).foldl (replay f) s0
  let s2 := freezeTrack (closeInputs (releaseCmds { s1 with rfF := s1.rf } s1.now))
  rltEgress (endRetiring (touchCols s2.col.c (forEach (placedEngines s2) s2 (rltEngine (abortsOf next)))))

/-- The first stop cause after a frame (R455); 0 when the relight goes on. -/
def rltCause (s : State) (r : FrameRec) (own : W32) (next : Option (Bool × FrameRec)) : Nat :=
  let stop := reg64 s .rltStopLo .rltStopHi 0
  if stop ≠ 0 ∧ stop = r.frame then 1
  else
    match next with
    | none => 2
    | some (damaged, n) =>
      if n.outDigest ≠ own then 3
      else if n.afterGap then 4
      else if damaged then 5
      else if n.halted then 6
      else 0

/-- An engine of the unit that the context needs has halted (R455). -/
def rltHalted (s : State) (k : KeyImage) : Bool := (upTo 128).any (fun e => (engOf s e).halted && k.str.insts.any (fun p => p.2.engine == e))

/-- What may already stand in the way of the next frame (R455). -/
def rltBefore (s : State) (k : KeyImage) (todo : List (Bool × FrameRec)) : Nat :=
  match todo with
  | [] => 2
  | (damaged, r) :: _ => if r.afterGap then 4 else if damaged then 5 else if r.halted then 6 else if rltHalted s k then 7 else 0

/-- Relights the next frame (R454, R455). -/
def rltFrame (s : State) : State :=
  match s.wax.frozen, s.rlt.ctx, s.rlt.todo with
  | some f, some k, (d, r) :: t =>
    let b := rltBefore s k ((d, r) :: t)
    if b ≠ 0 then rltStop s b
    else
      let s1 := rltRun f s k r t.head?
      let own := Config.outDigest s1.wax.outs
      let s2 := modRlt { s with free := s1.free } (fun x => { x with ctx := some (imageOf s1), todo := t, frame := r.frame })
      let c := rltCause s r own t.head?
      let s3 := if c = 3 then
          stick (modRlt s2 (fun x => { x with digRec := match t.head? with | some (_, n) => n.outDigest | none => 0#32, digOwn := own })) .rltStatus 0 11
        else s2
      if c = 0 then s3 else rltStop s3 c
  | _, _, [] => rltStop s 2
  | _, _, _ => s

/-- RELIGHT_FRAME (R454, R455). -/
def execRelightFrame (t : Ns) (s : State) : Out :=
  let s := setNow s t
  .next (if s.rlt.st = .running then rltFrame s else s)

/-! ## Ops (R454, R455) -/

/-- The run op (R454). -/
def rltGo (s : State) : State := if s.rlt.st = .prepared ∨ s.rlt.st = .paused then modRlt s (fun x => { x with st := .running }) else s
/-- RLT_RUN (R454). -/
def execRltRun (s : State) : Out := .next (rltGo s)
/-- The pause op, at the end of the current frame (R454). -/
def rltPause (s : State) : State := if s.rlt.st = .running then modRlt s (fun x => { x with st := .paused }) else s
/-- RLT_PAUSE (R454). -/
def execRltPause (s : State) : Out := .next (rltPause s)
/-- The step op: one frame (R454). -/
def rltStep (s : State) : State :=
  if s.rlt.st = .prepared ∨ s.rlt.st = .paused then
    let s1 := rltFrame (modRlt s (fun x => { x with st := .paused }))
    s1
  else s
/-- RLT_STEP (R454). -/
def execRltStep (s : State) : Out := .next (rltStep s)

/-- The abort op (R455): the context is discarded and the unit's own stream stands again; the drive condition is no longer inhibited. -/
def rltAbort (s : State) : State :=
  if s.rlt.st = .idle then s
  else
    let was := driving s
    let s1 := logEv (modRlt s (fun x => { x with st := .idle, stop := 8, ctx := none, todo := [] })) (srcDev 6) .relightStopped 8
    regate was s1
/-- RLT_ABORT (R455). -/
def execRltAbort (s : State) : Out := .next (rltAbort s)

end Sys2Proof.Machine
end

