-- ==== Sys2Proof/Machine/Windows.lean ====
section
/-!
DEFINITION. The read-only windows and views beside the registers: parcel views (R109, R117), action records (R75), tally banks (R339),
the event window (R331, R336), the thermal history (R416), the shutdown record (R405) and the shared SRAM window (R471).
-/
namespace Sys2Proof.Machine

open Sys2Proof

/-- Word k of a list of bytes, 0 beyond its end. -/
def wordOf (l : List Byte) (k : Nat) : W32 := BitVec.ofNat 32 (natLE ((l.drop (4 * k)).take 4))

/-- Number of the record and word of an address in an array of records of n words. -/
def recWord (a base n : Nat) : Nat × Nat := ((a - base) / (4 * n), ((a - base) / 4) % n)

/-- An address lies in a region of n bytes. -/
def inRegion (a base n : Nat) : Bool := decide (base ≤ a) && decide (a < base + n)

/-! ## Records as bytes -/

/-- A parcel record (R109). -/
def Parcel.bytes (p : Parcel) : List Byte :=
  bytesLE 4 (wrapN 32 p.serial) ++ bytesLE 1 p.kind ++ bytesLE 1 p.zone ++ bytesLE 2 p.flags.toNat ++ bytesLE 8 p.tEntry ++
  bytesLE 4 p.mIn.toNat ++ bytesLE 4 p.tIn.toNat ++ bytesLE 4 p.rhoIn.toNat ++ bytesLE 2 p.nIn ++ bytesLE 2 p.nDis ++
  bytesLE 4 p.mDis.toNat ++ bytesLE 4 p.tDis.toNat ++ bytesLE 4 p.mModel.toNat ++ bytesLE 4 p.tModel.toNat ++
  bytesLE 4 p.exposure.toNat ++ bytesLE 4 p.mPred.toNat ++ bytesLE 1 p.table ++ bytesLE 1 p.q ++ bytesLE 2 p.modelSeq ++
  bytesLE 2 0 ++ bytesLE 2 p.upd

/-- An event record (R331). -/
def EvRec.bytes (x : EvRec) : List Byte :=
  bytesLE 8 x.seq ++ bytesLE 8 x.tFirst ++ bytesLE 4 x.tLastUs ++ bytesLE 2 x.src.toNat ++
  bytesLE 2 ((eventCodeOf x.name).toNat + 4096 * x.conts + 16384 * x.isCont.toNat) ++ bytesLE 2 x.rep ++ bytesLE 6 x.data

/-- A thermal history entry (R416). -/
def ThrHist.bytes (x : ThrHist) : List Byte :=
  let flags := x.autoOk.toNat + 2 * x.auto.toNat + 4 * x.byReset.toNat + 8 * x.off.toNat + 16 * x.dormant.toNat
  let l := bytesLE 8 x.tDecision ++ bytesLE 4 x.number ++ bytesLE 1 x.sensor ++ bytesLE 1 flags ++ bytesLE 2 (wrapN 16 x.tDecide) ++
    tableBytes 1 8 x.m ++ bytesLE 2 (wrapN 16 x.tPeak) ++ bytesLE 2 x.coolS
  l ++ bytesLE 4 (crc32 l).toNat

/-- The shutdown record (R405). -/
def ShutdownRec.bytes (x : ShutdownRec) : List Byte :=
  let flags := x.timeEstimated.toNat + 2 * x.coreAlive.toNat + 4 * x.dormant.toNat + 8 * x.outputsEnabled.toNat + 16 * x.owning.toNat
  let l := bytesLE 4 0x53464E53 ++ bytesLE 4 x.number ++ bytesLE 8 x.tTrigger ++ bytesLE 1 x.first ++ bytesLE 1 x.causes ++ bytesLE 1 flags ++
    bytesLE 1 x.pair ++ bytesLE 2 x.auxResets ++ bytesLE 2 x.tHot ++ bytesLE 8 x.frame ++ bytesLE 8 x.evrHead ++ bytesLE 8 x.epoch ++
    tableBytes 2 10 x.rails ++ bytesLE 1 x.aislesLinked ++ bytesLE 1 x.aislesSafe ++ tableBytes 2 32 x.motor ++ bytesLE 4 x.solOn ++
    bytesLE 2 x.txDrive ++ bytesLE 2 0 ++ tableBytes 4 16 x.steps ++ bytesLE 8 x.hash8 ++ bytesLE 4 x.firmware ++
    List.replicate 124 (0#8 : Byte)
  l ++ bytesLE 4 (crc32 l).toNat

/-! ## Views -/

/-- The column shown in the parcel views (PCL_WIN_SEL). -/
def winCol (s : State) : Column := colOf s (regF s .pclWinSel 0 0 4)

/-- Word k of the record at index j of a list, zeros beyond it (R109). -/
def parcelWord (l : List Parcel) (j k : Nat) : W32 :=
  match l[j]? with
  | some p => if p.kind = 0 then 0#32 else wordOf p.bytes k
  | none => 0#32

/-- Word k of the event window's position j: as latched by the read of word 0 in this request, else the present record (R336). -/
def eventWord (s : State) (j k : Nat) : W32 :=
  let present := fun (x : Option EvRec) => match x with | some e => wordOf e.bytes k | none => 0#32
  match s.glb.evLatch with
  | some (j', x) => present (if j' = j then x else windowRec s j)
  | none => present (windowRec s j)

/-- Word of a view at an address; the raw SRAM window stands apart. -/
def viewWord (s : State) (a : Nat) : Option W32 :=
  if inRegion a 0x00C10000 0x1000 then let p := recWord a 0x00C10000 16; some (parcelWord (winCol s).shadow p.1 p.2)
  else if inRegion a 0x00C40000 0x40000 then let p := recWord a 0x00C40000 16; some (parcelWord (winCol s).table p.1 p.2)
  else if inRegion a 0x00580000 0x80000 then let p := recWord a 0x00580000 8; some (actWord (slotOf s p.1).rec_ p.2)
  else if inRegion a 0x01210000 0x20000 then some (talWord s (decide (0x01220000 ≤ a)) (((a - 0x01210000) % 0x10000) / 4))
  else if inRegion a 0x01310000 0x2000 then let p := recWord a 0x01310000 8; some (eventWord s p.1 p.2)
  else if inRegion a 0x01410000 0x200 then
    let p := recWord a 0x01410000 8
    some (match s.thr.hist.reverse[p.1]? with | some x => wordOf x.bytes p.2 | none => 0#32)
  else if inRegion a 0x01510000 0x100 then
    some (match s.snf.record with | some x => wordOf x.bytes ((a - 0x01510000) / 4) | none => 0#32)
  else none

/-- The bytes of a message whose layout the spec gives (R36, R93, R109); none for the others. -/
def Msg.image (m : Msg) : Option (List Byte) :=
  match m with
  | .moist r => some r.bytes
  | .wick r => some r.bytes
  | .parcel p => some p.bytes
  | .bytes b => some b
  | _ => none

/-- A word of basket storage (R161, R471): of a message held in the slot it lies in, at its basket's offset. None where no basket or no
message holds it, or where no layout is given. -/
def storageWord (s : State) (a : Nat) : Option W32 :=
  let o := a - 0x02510000
  match s.hld.str.baskets.find? (fun p => decide (16 * p.2.offset ≤ o) && decide (o < 16 * p.2.offset + p.2.depth * widthBytes p.2.width)) with
  | some (b, d) =>
    let y := bskOf s b
    let n := widthBytes d.width
    let slot := (o - 16 * d.offset) / n
    let k := (o - 16 * d.offset) % n
    match y.msgs[(slot + d.depth - y.head) % d.depth]? with
    | some m => match m.image with | some l => if k + 4 ≤ l.length then some (wordOf l (k / 4)) else none | none => none
    | none => none
  | none => none

/-- A word of the shared SRAM window (R471). Lists, descriptors and held messages stand by number; the spec places no words in the other
regions, so what those show is free. The second part says that a free value was used. -/
def sramWord (s : State) (a : Nat) : W32 × Bool :=
  if inRegion a 0x02410000 0x80000 then let p := recWord a 0x02410000 8; (actWord (slotOf s p.1).rec_ p.2, false)
  else if inRegion a 0x02490000 0x80000 then
    let p := recWord a 0x02490000 4
    (match lookup s.hld.str.baskets p.1 with
     | some d => wordOf (bskDescBytes d (bskOf s p.1)) p.2
     | none => 0#32, false)
  else if inRegion a 0x02510000 0x1800000 then
    match storageWord s a with | some w => (w, false) | none => (Config.freeWord s.free, true)
  else if inRegion a 0x03E20000 0x20000 then
    let b := decide (0x03E30000 ≤ a)
    if (talBank s b).st = .latched then (talWord s b (((a - 0x03E20000) % 0x10000) / 4), false) else (Config.freeWord s.free, true)
  else if 0x03F40000 ≤ a then (0#32, false)
  else (Config.freeWord s.free, true)

end Sys2Proof.Machine
end

