-- ==== Sys2Proof/Machine/Access.lean ====
section
/-!
DEFINITION. Register accesses (R7 to R11, R462 to R465): requests and their latches, reads of registers and views, writes with their
access codes, the command registers, and the READ and WRITE datagrams (R314, R437).
-/
namespace Sys2Proof

/-- The wax image staged by an import as its bytes give it (R451, R452); the layout of its parts is not given (log entry 7). -/
opaque Config.parseWax : List (Nat × Byte) → Option Machine.Frozen

end Sys2Proof

namespace Sys2Proof.Machine

open Sys2Proof

/-! ## Pairs and requests (R7, R463) -/

/-- The 64-bit pairs: low word, high word. -/
def pairRegs : List (RegName × RegName) :=
  [(.wckPosLo, .wckPosHi), (.wckEdgeTimeLo, .wckEdgeTimeHi), (.wckPresetLo, .wckPresetHi), (.wckDormantDeltaLo, .wckDormantDeltaHi),
   (.wckLostMapLo, .wckLostMapHi), (.wckStillMapLo, .wckStillMapHi),
   (.wckSnapTimeLo, .wckSnapTimeHi), (.lltExecLo, .lltExecHi), (.mstTimeLo, .mstTimeHi), (.mstCoordLo, .mstCoordHi),
   (.pclOriginLo, .pclOriginHi), (.pclStepLo, .pclStepHi), (.pclCkptTimeLo, .pclCkptTimeHi), (.engMissFrameLo, .engMissFrameHi),
   (.tprXaLo, .tprXaHi), (.tprXbLo, .tprXbHi), (.gateOfsLo, .gateOfsHi), (.stlTimeLo, .stlTimeHi), (.solEndLo, .solEndHi),
   (.mktTimeLo, .mktTimeHi), (.mktSwitchLo, .mktSwitchHi), (.talPostTLo, .talPostTHi)] ++
  [(.evrHeadLo, .evrHeadHi), (.evrClearedLo, .evrClearedHi), (.evrClearLo, .evrClearHi), (.evrMramLo, .evrMramHi), (.evrWinLo, .evrWinHi),
   (.pairEpochLo, .pairEpochHi), (.pairTakeoverLo, .pairTakeoverHi), (.hldApplyLo, .hldApplyHi), (.mgtDevidLo, .mgtDevidHi),
   (.waxOldestLo, .waxOldestHi), (.waxFromLo, .waxFromHi), (.waxToLo, .waxToHi), (.waxSizeLo, .waxSizeHi), (.waxExpOfsLo, .waxExpOfsHi),
   (.rltFrameLo, .rltFrameHi), (.rltStopLo, .rltStopHi), (.glbFrameLo, .glbFrameHi)]

/-- The high word of a low word. -/
def highOf (r : RegName) : Option RegName := (pairRegs.find? (fun p => decide (p.1 = r))).map (·.2)
/-- The low word of a high word. -/
def lowOf (r : RegName) : Option RegName := (pairRegs.find? (fun p => decide (p.2 = r))).map (·.1)

/-- A word holds a field that accepts writes now: RW, WO, W1C, or RWL before commit (R463). -/
def wordAccepts (s : State) (r : RegName) : Bool :=
  let d := regDesc r
  (d.rw ||| d.wo ||| d.w1c ||| (if s.hld.committed then 0#32 else d.rwl)) != 0#32

/-- The pair of a word accepts writes now. -/
def pairAccepts (s : State) (lo hi : RegName) : Bool := wordAccepts s lo || wordAccepts s hi

/-- Ends the running request: no later request sees its latches (R463). -/
def endRequest (s : State) : State := { s with glb := { s.glb with rdLatch := [], wrLatch := [], evLatch := none } }

/-! ## Reads -/

/-- A block whose registers show the relight context (R454): the blocks from the aisles to the parcel window, without the wicks' own
sequencers' always-on side, the lamplighter and what lies beyond. -/
def blockFacing (a : Nat) : Bool :=
  decide (0x00100000 ≤ a) && decide (a < 0x01000000) && !(inRegion a 0x00500000 0x00100000)

/-- The state that a read of an address shows: the relight context in the block-facing registers (R454). -/
def shownState (s : State) (a : Nat) : State :=
  match s.rlt.ctx with
  | some k => if blockFacing a then withImage s k else s
  | none => s

/-- A read of one word (R7, R11, R336, R462, R471): its value and the access code; a low word latches its high word. -/
def readAddr (s : State) (q : Requester) (a : Nat) : State × W32 × Acc :=
  let bad := fun (c : Acc) => (report s q a c, 0#32, c)
  if a % 4 ≠ 0 then bad .align
  else
    match lookup s.glb.rdLatch a with
    | some w => (s, w, .ok)
    | none =>
      let x := shownState s a
      match decodeAddr a with
      | some (r, i) =>
        let s1 := match highOf r with
          | some h => { s with glb := { s.glb with rdLatch := spPut s.glb.rdLatch (a + 4) (readWord x h i) } }
          | none => s
        (s1, readWord x r i, .ok)
      | none =>
        if inRegion a 0x01310000 0x2000 then
          let p := recWord a 0x01310000 8
          let s1 := if p.2 = 0 then latchWindow s p.1 else s
          (s1, eventWord s1 p.1 p.2, .ok)
        else
          match viewWord x a with
          | some w => (s, w, .ok)
          | none =>
            if 0x02000000 ≤ a ∧ a < 0x04000000 then
              let w := sramWord s a
              (if w.2 then useFree s else s, w.1, .ok)
            else bad .unmapped

/-- Reads n words from an address: the state, the words, and the first code other than OK. -/
def readRun (s : State) (q : Requester) (a : Nat) : Nat → State × List W32 × Acc
  | 0 => (s, [], .ok)
  | n + 1 =>
    let x := readAddr s q a
    let y := readRun x.1 q ((a + 4) % 2 ^ 32) n
    (y.1, x.2.1 :: y.2.1, if x.2.2 = .ok then y.2.2 else x.2.2)

/-! ## Command registers of the device -/

/-- LLT_CMD (R58, R75). -/
def lltCmdReg (s : State) (v : W32) : State × Acc :=
  let go := fun op => lltHost s op (fld v 0 14) (bit v 14) (bit v 15)
  match fld v 16 2 with
  | 1 => go .arm
  | 2 => go .disarm
  | 3 => go .free
  | _ => (s, .ok)

/-- HLD_CMD (R390). -/
def hldCmdReg (s : State) (v : W32) : State :=
  match fld v 0 3 with
  | 1 => hldValidate s
  | 2 => hldApply s
  | 3 => hldCancel s
  | 4 => hldPersist s
  | 5 => hldDiscard s
  | _ => s

/-- MGT_CMD (R441): key_install with level 0 is outside the field's range. -/
def mgtCmdReg (s : State) (q : Requester) (v : W32) : State × Acc :=
  let slot := fld v 4 3
  let auth := match q with
    | .host _ _ k => k
    | .monitor => 4
  match fld v 0 4 with
  | 1 => (imgValidate s, .ok)
  | 2 => (imgLoad s, .ok)
  | 3 => (imgActivate s, .ok)
  | 4 => (imgDiscard s, .ok)
  | 5 => (raiseFloorFw s, .ok)
  | 6 => (raiseFloorStream s, .ok)
  | 7 => if fld v 7 2 = 0 ∨ 4 ≤ slot then (s, .range) else (keyInstall s slot (fld v 9 8) (fld v 7 2) auth, .ok)
  | 8 => if 4 ≤ slot then (s, .range) else (keyRemove s slot, .ok)
  | 9 => (enrol s q slot, .ok)
  | 10 => (revoke s q slot, .ok)
  | 11 => (attest s, .ok)
  | _ => (s, .ok)

/-- SNF_CMD (R409). -/
def snfCmdReg (s : State) (v : W32) : State :=
  match fld v 0 3 with
  | 1 => snfSnuff s
  | 2 => snfRelease s
  | 3 => snfCoreReset s 0
  | 4 => snfDormant s
  | _ => s

/-- PAIR_CMD (R370). -/
def pairCmdReg (s : State) (v : W32) : State :=
  match fld v 0 3 with
  | 1 => pairClaim s
  | 2 => pairCede s
  | 3 => pairReset s
  | 4 => pairResync s
  | 5 => pairClear s
  | _ => s

/-- WAX_CMD (R460). -/
def waxCmdReg (s : State) (q : Requester) (v : W32) : State :=
  match fld v 0 3 with
  | 1 => waxFreeze s
  | 2 => waxExport s q.sender
  | 3 => waxExportStop s
  | 4 => waxImportDone s (Config.parseWax s.wax.importBytes)
  | 5 => waxDiscard s
  | _ => s

/-- RLT_CMD (R460). -/
def rltCmdReg (s : State) (v : W32) : State :=
  match fld v 0 3 with
  | 1 => rltPrepare s
  | 2 => rltGo s
  | 3 => rltPause s
  | 4 => rltStep s
  | 5 => rltAbort s
  | _ => s

/-- MKT_CMD (R323). -/
def mktCmdReg (s : State) (v : W32) : State :=
  let s1 := if bit v 0 then stepAccept s else s
  if bit v 1 then mktClear s1 else s1

/-- A register outside the blocks acts on a write: the command registers, the wrapped key words, and EVR_CLEAR (R337). -/
def deviceCmd (s : State) (q : Requester) (r : RegName) (i : Nat) (v : W32) : State × Acc :=
  match r with
  | .lltCmd => lltCmdReg s v
  | .hldCmd => (hldCmdReg s v, .ok)
  | .mgtCmd => mgtCmdReg s q v
  | .mgtWrap => (modMgt s (fun m => { m with wrap := spSet 0#32 m.wrap i v }), .ok)
  | .mgtStatus => (modMgt s (fun m => { m with lockSeen := m.lockSeen && !bit v 15 }), .ok)
  | .snfCmd => (snfCmdReg s v, .ok)
  | .pairCmd => (pairCmdReg s v, .ok)
  | .waxCmd => (waxCmdReg s q v, .ok)
  | .rltCmd => (rltCmdReg s v, .ok)
  | .mktCmd => (mktCmdReg s v, .ok)
  | .talCmd => (if bit v 0 then talPostRegs s else s, .ok)
  | .talAck => (tallyAck s v.toNat, .ok)
  | .evrClearHi => evrClear s q (join64 (regW s .evrClearLo) v)
  | _ => (s, .ok)

/-! ## Writes (R8, R11, R463) -/

/-- A register refuses a write while its function is busy: the block-facing registers in a relight (R454), the trims in a button session
(R279), LLT_CMD while a request is pending (R75). -/
def busyReg (s : State) (r : RegName) (a : Nat) (v : W32) : Bool :=
  (s.rlt.ctx.isSome && blockFacing a) ||
  (match r with
   | .txTrimZero => s.tx.sess.isSome
   | .txTrimSpan => s.tx.sess.isSome
   | .lltCmd => fld v 16 2 != 0 && s.llt.result == 1
   | _ => false)

/-- Stride of the items of an array: the innermost stride that spans more than one register. -/
def itemStride (r : RegName) : Option Nat := ((regDesc r).dims.reverse.find? (fun d => decide (16 ≤ d.2))).map (·.2)

/-- A word of an item that a patch has removed (R386): the structure gave the item words before and gives it none now. -/
def removedWord (s : State) (r : RegName) (i : Nat) : Bool :=
  match itemStride r with
  | some n =>
    let same := fun (a : Nat) => a / n == regAddr r i / n
    s.hld.removed.any same && !s.hld.str.words.any (fun p => same p.1)
  | none => false

/-- A write that changes nothing here: the code that refuses the words as a whole. `ws` are the words of the write, one or a pair. DESIGN
CHOICE (log entry 18): where several such refusals hold, one code is reported, of a removed item, busy, face, op, range, in this order. -/
def refusal (s : State) (ws : List (RegName × Nat × W32)) : Acc :=
  if ws.any (fun p => removedWord s p.1 p.2.1) then .unmapped
  else if ws.any (fun p => busyReg s p.1 (regAddr p.1 p.2.1) p.2.2) then .busy
  else if ws.any (fun p => (regDesc p.1).expert && !supHidden s p.1 p.2.1 && basicFace s p.1 p.2.1) then .face
  else if ws.any (fun p => badOp p.1 p.2.2) then .range
  else if outOfRange s (ws.map (fun p => (p.1, p.2.1, mergedWord s p.1 p.2.1 p.2.2))) then .range
  else .ok

/-- The reports of fields that keep their value (R8, R11). -/
def fieldReports (s : State) (r : RegName) (i : Nat) (v : W32) : List Acc :=
  (if lockedHit s r i v then [Acc.locked] else []) ++ (if faceHit s r i v then [Acc.face] else [])

/-- A write joins the input set of the next frame (R24, R442); GLB_SCRATCH is no item of the input area. -/
def noteWrite (s : State) (r : RegName) (a : Nat) (v : W32) : State := if r = .glbScratch then s else addItem s (.write a v)

/-- One word is written: its reports, its fields and its command. -/
def writeOne (s : State) (q : Requester) (p : RegName × Nat × W32) : State × List Acc :=
  let a := regAddr p.1 p.2.1
  let notes := fieldReports s p.1 p.2.1 p.2.2
  let s1 := noteWrite s p.1 a p.2.2
  let x := storeWord s1 p.1 p.2.1 p.2.2
  let y := if x.2 = .ok then deviceCmd x.1 q p.1 p.2.1 p.2.2 else x
  (y.1, notes ++ (if y.2 = .ok then [] else [y.2]))

/-- Reports codes in order. -/
def reportAll (s : State) (q : Requester) (a : Nat) (l : List Acc) : State := l.foldl (fun s c => report s q a c) s

/-- Applies the words of one write, a single word or both words of a pair, in address order. -/
def writeWords (s : State) (q : Requester) (a : Nat) (ws : List (RegName × Nat × W32)) : State × List Acc :=
  let c := refusal s ws
  if c ≠ .ok then (report s q a c, [c])
  else
    let r := ws.foldl (fun (x : State × List Acc) p => let y := writeOne x.1 q p; (y.1, x.2 ++ y.2)) (s, [])
    (reportAll r.1 q a r.2, r.2)

/-- A write of one word (R8, R11, R462, R463): the codes it reports. A low word of a pair that accepts writes waits for the high word. -/
def writeAddr (s : State) (q : Requester) (a : Nat) (v : W32) : State × List Acc :=
  let bad := fun (c : Acc) => (report s q a c, [c])
  if a % 4 ≠ 0 then bad .align
  else
    match decodeAddr a with
    | some (r, i) =>
      match highOf r, lowOf r with
      | some h, _ =>
        if pairAccepts s r h then ({ s with glb := { s.glb with wrLatch := spPut s.glb.wrLatch a v } }, [])
        else writeWords s q a [(r, i, v)]
      | none, some l =>
        if pairAccepts s l r then
          match lookup s.glb.wrLatch (a - 4) with
          | some w => writeWords s q a [(l, i, w), (r, i, v)]
          | none => bad .split
        else writeWords s q a [(r, i, v)]
      | none, none => writeWords s q a [(r, i, v)]
    | none => if (viewWord s a).isSome ∨ (0x02000000 ≤ a ∧ a < 0x04000000) then (s, []) else bad .unmapped

/-- Writes words from an address in order: the state and every code reported. -/
def writeRun (s : State) (q : Requester) (a : Nat) : List W32 → State × List Acc
  | [] => (s, [])
  | v :: t =>
    let x := writeAddr s q a v
    let y := writeRun x.1 q ((a + 4) % 2 ^ 32) t
    (y.1, x.2 ++ y.2)

/-! ## Rights (R437) -/

/-- What the READ level may write: the registers that R437 names, and the attest op. -/
def readMayWrite (a : Nat) (v : W32) : Bool :=
  match decodeAddr a with
  | some (r, _) =>
    (match r with
     | .talPostTLo => true
     | .talPostTHi => true
     | .talPostNum => true
     | .talCmd => true
     | .talAck => true
     | .evrClearLo => true
     | .evrClearHi => true
     | .evrWinLo => true
     | .evrWinHi => true
     | .pclWinSel => true
     | .bskSel => true
     | .mgtNonce => true
     | .mgtCmd => fld v 0 4 == 11
     | _ => false)
  | none => false

/-- A level may write a word to an address (R437). -/
def mayWrite (level a : Nat) (v : W32) : Bool :=
  if level = 3 then true
  else if level = 2 then
    readMayWrite a v ||
    (if inRegion a 0x00010000 0x10000 then false
     else if a = regAddr .snfCmd 0 then fld v 0 3 == 1
     else true)
  else readMayWrite a v

/-- The first word of a write beyond the level's rights. -/
def deniedAt (level a : Nat) : List W32 → Option Nat
  | [] => none
  | v :: t => if mayWrite level a v then deniedAt level ((a + 4) % 2 ^ 32) t else some a

/-! ## Datagrams (R314, R464, R465) -/

/-- The slot of the key that a datagram names, for the requester. -/
def dgramReq (s : State) (d : Dgram) (level : Nat) : Requester :=
  .host d.sender level (match keySlotOf s d.keyId with | some (k, _) => k | none => 4)

/-- DATAGRAM_READ (R314, R463): one request; a count outside 1 to 100 reads nothing. -/
def execDatagramRead (t : Ns) (d : Dgram) (addr count : Nat) (s : State) : Out :=
  .next (withDgram (setNow s t) d 1 (fun s level =>
    let q := dgramReq s d level
    if count = 0 ∨ 100 < count then (s, Acc.range.code, [])
    else
      let r := readRun (endRequest s) q (addr % 2 ^ 32) count
      (endRequest r.1, r.2.2.code, r.2.1)))

/-- DATAGRAM_WRITE (R314, R437, R463): one request; beyond the key's rights nothing is applied. -/
def execDatagramWrite (t : Ns) (d : Dgram) (addr : Nat) (ws : List W32) (s : State) : Out :=
  .next (withDgram (setNow s t) d 1 (fun s level =>
    let q := dgramReq s d level
    let a := addr % 2 ^ 32
    if ws.length = 0 ∨ 100 < ws.length then (s, Acc.range.code, [])
    else
      match deniedAt level a ws with
      | some x => (report s q x .denied, Acc.denied.code, [])
      | none =>
        let r := writeRun (endRequest s) q a ws
        let s1 := endRequest r.1
        (if r.2.length < ws.length then noteChange s1 d else s1, (r.2.head?.getD .ok).code, [])))

/-- PAIR_LOW_WORD_READ (R7): a read within the running request. -/
def execPairLowWordRead (addr : Nat) (s : State) : Out := .next (readAddr s hostReq (addr % 2 ^ 32)).1

/-- PAIR_HIGH_WORD_WRITE (R463): a write within the running request. -/
def execPairHighWordWrite (addr : Nat) (v : W32) (s : State) : Out := .next (writeAddr s hostReq (addr % 2 ^ 32) v).1

/-- REGISTER_WRITE (R8): a write within the running request. -/
def execRegisterWrite (addr : Nat) (v : W32) (s : State) : Out := .next (writeAddr s hostReq (addr % 2 ^ 32) v).1

end Sys2Proof.Machine
end

