-- ==== Sys2Proof/Machine/Monitor.lean ====
section
/-!
DEFINITION. The Dulo monitor (R457 to R459, R461): its commands, the service latch, binary transfers and the ROM recovery.
-/
namespace Sys2Proof

/-- The signature in the trailer of these bytes verifies under a public key (R371, R430); the curve is not computed here (log entry 7). -/
opaque Config.verifies : Nat → List (Nat × Byte) → Bool
/-- Library version of a firmware image: its place in the image is not given (R427, R451, log entry 7). -/
opaque Config.fwLib : List (Nat × Byte) → Nat

end Sys2Proof

namespace Sys2Proof.Machine

open Sys2Proof

/-! ## The line (R457, R458) -/

/-- Changes the monitor. -/
def modMon (s : State) (f : MonState → MonState) : State := { s with mon := f s.mon }

/-- What ends a response: "ok", "err" with a code, "ready", and the bytes of a transfer (R457, R459). The numbers are this model's. -/
inductive MonEnd where
  | ok | service | serial | access (a : Acc) | result (code : Nat) | argument | ready | ack | nak
  deriving DecidableEq, Repr

/-- The first number of a sent line. -/
def MonEnd.nums (e : MonEnd) : List Nat :=
  match e with
  | .ok => [0]
  | .service => [1]
  | .serial => [2]
  | .access a => [3, a.code]
  | .result c => [4, c]
  | .argument => [5]
  | .ready => [6]
  | .ack => [0x06 + 256]
  | .nak => [0x15 + 256]

/-- Sends a response: its numbers, then how it ends. -/
def answer (s : State) (ws : List Nat) (e : MonEnd) : State := emit s (.monitor (e.nums ++ ws))

/-- The monitor answers: VAUX is there and the management processor is not halted (R425, R457). -/
def monRuns (s : State) : Bool := s.snf.vaux && !s.mgt.halted

/-- A refusal with SERVICE or SERIAL sets refused_seen (R461). -/
def monRefuse (s : State) (e : MonEnd) : State := answer (stick s .monStatus 0 5) [] e

/-- A command line arrives: the run of wr commands ends (R463). -/
def monLine (s : State) (t : Nat) (f : State → State) : State :=
  let s1 := setNow s t
  if monRuns s1 then f (endRequest (modMon s1 (fun m => { m with lastChar := t, low := [] }))) else s1

/-- A command that needs the service latch (R458); every change made under it writes an event record. -/
def monLatched (s : State) (t : Nat) (f : State → State × List Nat × MonEnd) : State :=
  monLine s t (fun s =>
    if s.mon.latched then
      let r := f s
      let s1 := if r.2.2 = .ok ∨ r.2.2 = .ready then logEv r.1 (partyOf .monitor) .latchedChange else r.1
      answer s1 r.2.1 r.2.2
    else monRefuse s .service)

/-! ## Commands in any state (R457, R458) -/

/-- DULO_HELP: the command list. -/
def execDuloHelp (t : Ns) (s : State) : Out := .next (monLine s t (fun s => answer s [] .ok))

/-- DULO_ID: device ID, stepping, firmware and stream versions, serial. -/
def execDuloId (t : Ns) (s : State) : Out :=
  .next (monLine s t (fun s =>
    answer s ([s.mgt.devId, 0xB1, (fwImage s).elim 0 (·.version), s.hld.str.version] ++ s.mgt.serial.map (·.toNat)) .ok))

/-- DULO_STATUS: the six status registers. -/
def execDuloStatus (t : Ns) (s : State) : Out :=
  .next (monLine s t (fun s =>
    answer s ([RegName.snfStatus, .snfBoot, .pairStatus, .mktStatus, .hldStatus, .mgtStatus].map (fun r => (readWord s r 0).toNat)) .ok))

/-- DULO_RD: one request of 1 to 64 words (R463). -/
def execDuloRd (t : Ns) (addr count : Nat) (s : State) : Out :=
  .next (monLine s t (fun s =>
    if count = 0 ∨ 64 < count then answer s [] .argument
    else
      let r := readRun s .monitor (addr % 2 ^ 32) count
      answer (endRequest r.1) (r.2.1.map (·.toNat)) (if r.2.2 = .ok then .ok else .access r.2.2)))

/-- DULO_EVR: the newest records that the window would show (R336), newest first, as words. -/
def execDuloEvr (t : Ns) (count : Nat) (s : State) : Out :=
  .next (monLine s t (fun s =>
    if count = 0 ∨ 256 < count then answer s [] .argument
    else
      let l := (s.rec_.ring.filter (fun x => shown s.rec_ x.seq)).take count
      answer s (l.flatMap (fun x => (upTo 8).map (fun k => (wordOf x.bytes k).toNat))) .ok))

/-- DULO_SNUFF: the snuff op (R401). -/
def execDuloSnuff (t : Ns) (s : State) : Out := .next (monLine s t (fun s => answer (snfSnuff s) [] .ok))

/-- DULO_BAUD (R457): 921,600 or 3,000,000 bit/s, after the ok. -/
def execDuloBaud (t : Ns) (rate : Nat) (s : State) : Out :=
  .next (monLine s t (fun s =>
    if rate = 921600 then modMon (answer s [] .ok) (fun m => { m with baud := 1 })
    else if rate = 3000000 then modMon (answer s [] .ok) (fun m => { m with baud := 2 })
    else answer s [] .argument))

/-! ## The service latch (R458) -/

/-- DULO_LATCH: refused with SERVICE while SERVICE_EN was sampled low, with SERIAL when the argument is not the serial number. -/
def execDuloLatch (t : Ns) (serial : List Byte) (s : State) : Out :=
  .next (monLine s t (fun s =>
    if s.snf.straps.testBit 4 = false then monRefuse s .service
    else if serial ≠ s.mgt.serial then monRefuse s .serial
    else
      let s1 := logEv (stick (modMon s (fun m => { m with latched := true })) .monStatus 0 4) (partyOf .monitor) .serviceLatch 1
      answer s1 [] .ok))

/-- The latch ends: the event, and with it what was waiting under it. -/
def unlatch (s : State) : State :=
  if s.mon.latched then logEv (modMon s (fun m => { m with latched := false })) (partyOf .monitor) .serviceLatch 0 else s

/-- DULO_UNLATCH. -/
def execDuloUnlatch (t : Ns) (s : State) : Out := .next (monLine s t (fun s => answer (unlatch s) [] .ok))

/-- DULO_LATCH_TIMEOUT: 15 min without a received character. -/
def execDuloLatchTimeout (t : Ns) (s : State) : Out :=
  let s := setNow s t
  .next (if s.mon.lastChar + 900 * secNs ≤ t then unlatch s else s)

/-- DULO_BREAK (R457): the line returns to 115,200 bit/s. -/
def execDuloBreak (t : Ns) (s : State) : Out :=
  let s := setNow s t
  .next (if monRuns s then modMon s (fun m => { m with baud := 0 }) else s)

/-! ## Commands under the latch (R458) -/

/-- DULO_WR: consecutive wr commands are one request (R463). -/
def execDuloWr (t : Ns) (addr : Nat) (v : W32) (s : State) : Out :=
  let low := s.mon.low
  .next (monLatched s t (fun s =>
    let r := writeAddr { s with glb := { s.glb with wrLatch := low } } .monitor (addr % 2 ^ 32) v
    let s1 := endRequest (modMon r.1 (fun m => if m.latched then { m with low := r.1.glb.wrLatch } else m))
    (s1, [], match r.2 with | [] => .ok | c :: _ => .access c)))

/-- DULO_RELEASE: the release op (R406). -/
def execDuloRelease (t : Ns) (s : State) : Out := .next (monLatched s t (fun s => (snfRelease s, [], .ok)))

/-- DULO_RESET: CORE_RESET with core_cause Dulo; the answer goes first, the reset ends the latch. -/
def execDuloReset (t : Ns) (s : State) : Out :=
  .next (monLine s t (fun s =>
    if s.mon.latched then coreReset (answer (logEv s (partyOf .monitor) .latchedChange) [] .ok) 1 else monRefuse s .service))

/-- DULO_WAKE: the wake of a dormant device (R399). -/
def execDuloWake (t : Ns) (s : State) : Out := .next (monLatched s t (fun s => (wakeUp s, [], .ok)))

/-- DULO_VALIDATE: img_validate (R434). -/
def execDuloValidate (t : Ns) (s : State) : Out :=
  .next (monLatched s t (fun s => let r := imgValidate s; (r, [], if r.mgt.code = MgtCode.running.code then .ok else .result r.mgt.code)))

/-- The firmware image that the staged bytes give (R371, R427): none while bytes are missing. -/
def fwOfBytes (s : State) : Option FwImage :=
  let b := s.mgt.imgBytes
  match imgField s.mgt 0, imgField s.mgt 4, imgField s.mgt 8, imgField s.mgt 12, imgField s.mgt 16 with
  | some magic, some form, some len, some step, some ver =>
    if imageWhole s len then
      let slot := match lookup b (len - 72) with | some x => x.toNat | none => 0
      some { length := len, stepping := step % 65536, mirrorVer := step / 65536, version := ver,
             headerOk := decide (magic = 0x57464A50) && decide (form = 0x00030001) &&
               ((upTo 9).all (fun k => imgField s.mgt (28 + 4 * k) == some 0)),
             keySlot := slot, sigOk := Config.verifies (match lookup s.mgt.otp slot with | some (_, k) => k | none => 0) b, lib := Config.fwLib b }
    else none
  | _, _, _, _, _ => none

/-- The staged firmware image: as validated, else as its bytes give it. -/
def stagedFw (s : State) : Option FwImage :=
  match s.mgt.imgFw with
  | some x => some x
  | none => fwOfBytes s

/-- activate in ROM recovery (R429, R459): the image goes into the bank not last active, as TRIAL, and is booted. -/
def recoverFw (s : State) : State × MgtCode :=
  match stagedFw s with
  | none => (mgtResult s 3 .format, .format)
  | some x =>
    let c := checkFw s x
    if c ≠ .ok then (mgtResult s 3 c, c)
    else
      let b := !s.mgt.fwB
      let s1 := setFw (modMgt s (fun m => if b then { m with fwBImg := some x } else { m with fwA := some x })) b .trial
      (fwSelect (mgtResult (modMgt s1 (fun m => { m with fwB := b, trialTry := false, recovery := false })) 3 .ok), .ok)

/-- DULO_ACTIVATE: img_activate (R435), or the end of ROM recovery. -/
def execDuloActivate (t : Ns) (s : State) : Out :=
  .next (monLatched s t (fun s =>
    if s.mgt.recovery then
      let r := recoverFw s
      (r.1, [], if r.2 = .ok then .ok else .result r.2.code)
    else if !lastValid s || s.pair.st == .active || !portsIdle s then (imgActivate s, [], .result MgtCode.imgState.code)
    else (imgActivate s, [], .ok)))

/-- DULO_KEY: the 32 bytes of the last key load, in plain form (R436). -/
def execDuloKey (t : Ns) (slot : Fin 4) (keyId : Fin 256) (level : Fin 4) (s : State) : Out :=
  .next (monLatched s t (fun s =>
    match s.mon.key with
    | none => (s, [], .result MgtCode.notStaged.code)
    | some k =>
      if level.val = 0 then (s, [], .argument)
      else (putKey s slot { key := natLE k, keyId := keyId, level := level }, [], .ok)))

/-! ## Binary transfers (R459) -/

/-- DULO_LOAD: the device answers "ready"; a firmware or stream transfer empties the staging area (R433). -/
def execDuloLoad (t : Ns) (kind : LoadKind) (s : State) : Out :=
  .next (monLatched s t (fun s =>
    let s1 := modMon s (fun m => { m with loading := some kind, bytes := [] })
    if kind = .key then (modMon s1 (fun m => { m with key := none }), [], .ready)
    else if s.mgt.img = .loading ∨ s.mgt.img = .validating then (s, [], .result MgtCode.busy.code)
    else (modMgt s1 (fun m => { m with img := .receiving, imgBytes := [], imgFw := none, imgStr := none }), [], .ready)))

/-- The CRC-32 of a block: over offset, length and data. -/
def blockCrc (offset : Nat) (data : List Byte) : W32 := crc32 (bytesLE 4 offset ++ bytesLE 2 data.length ++ data)

/-- Bytes a transfer may fill. -/
def loadRoom (k : LoadKind) : Nat := match k with | .key => 32 | _ => imageMax

/-- The end of a transfer: the byte count; a key load accepts exactly 32 bytes. -/
def loadEnd (s : State) (k : LoadKind) : State :=
  let n := s.mon.bytes.length
  let s1 := modMon s (fun m => { m with loading := none, bytes := [] })
  if k = .key then
    if n = 32 then answer (modMon s1 (fun m => { m with key := some (s.mon.bytes.map (·.2)) })) [n] .ok else answer s1 [n] .argument
  else answer s1 [n] .ok

/-- DULO_BINARY_BLOCK: 0x06 to a good block, 0x15 to a bad one; a good block of length 0 ends the transfer. -/
def execDuloBinaryBlock (t : Ns) (offset : Nat) (data : List Byte) (crc : W32) (s : State) : Out :=
  .next (monLine s t (fun s =>
    match s.mon.loading with
    | none => s
    | some k =>
      let busy := k != .key && (s.mgt.img == .loading || s.mgt.img == .validating)
      if crc ≠ blockCrc offset data ∨ 1024 < data.length ∨ loadRoom k < offset + data.length ∨ busy = true then answer s [] .nak
      else if data.length = 0 then loadEnd s k
      else
        let s1 := modMon s (fun m => { m with bytes := putBytes m.bytes offset data })
        let s2 := if k = .key then s1 else modMgt s1 (fun m => { m with img := .receiving, imgBytes := putBytes m.imgBytes offset data, imgFw := none, imgStr := none })
        answer s2 [] .ack))

end Sys2Proof.Machine
end

