-- ==== Sys2Proof/Machine/Notice.lean ====
section
/-!
DEFINITION. Host silence (R466), the NOTICE datagrams (R468, R469) and memory errors (R21, R160).
-/
namespace Sys2Proof.Machine

open Sys2Proof

/-! ## Host silence (R466) -/

/-- The host-silence timeout of the stream, ns. -/
def hostTimeout (s : State) : Nat := regF s .glbHost 0 0 16 * 10 * msNs

/-- The timeout expires: every function with a nightlight rule hears of it, and the input set holds a write of GLB_HOST. -/
def goSilent (s : State) : State :=
  let s1 := logEv (stick { s with glb := { s.glb with silent := true } } .glbHost 0 17) (srcDev 0) .hostSilence
  silenceActs { s1 with wax := { s1.wax with items := .write (regAddr .glbHost 0) (readWord s1 .glbHost 0) :: s1.wax.items } }

/-- HOST_SILENCE_EXPIRY (R466, R469): at t0 of a frame, unless host activity joins its input set. -/
def execHostSilenceExpiry (t : Ns) (s : State) : Out :=
  let s := setNow s t
  .next (if s.hld.committed = true ∧ t % frameNs = 0 ∧ s.glb.silent = false ∧ s.glb.hostNow = false ∧ s.glb.lastHost + hostTimeout s ≤ t then
      goSilent s
    else s)

/-! ## Notices (R468) -/

/-- Pending bits that are enabled. -/
def pendEn (s : State) : Nat := regF s .glbIrqPend 0 0 23 &&& s.glb.enNow

/-- The device can send a NOTICE: the firmware runs, it knows its market, a key slot holds a key, and notice_en is in force. -/
def noticeReady (s : State) : Bool := s.glb.noticeEn && fwRuns s && (identNow s).isSome && !s.mgt.keys.isEmpty

/-- notice_ms has passed since the previous NOTICE at t. -/
def holdoffOver (s : State) (t : Nat) : Bool :=
  match s.glb.lastNotice with
  | some l => decide (l + regF s .glbNotice 0 0 14 * msNs ≤ t)
  | none => true

/-- Sends a NOTICE. -/
def sendNotice (s : State) (t : Nat) : State :=
  let n := (s.glb.seq + 1) % 2 ^ 32
  emit { s with glb := { s.glb with seq := n, lastNotice := some t, newBits := 0 } } (.notice t (pendEn s) s.glb.raw s.rec_.head n)

/-- NOTICE_NEW (R468): a bit became new and no NOTICE was sent within the holdoff. -/
def execNoticeNew (t : Ns) (s : State) : Out :=
  let s := setNow s t
  .next (if noticeReady s = true ∧ s.glb.newBits ≠ 0 ∧ holdoffOver s t = true then sendNotice s t else s)

/-- NOTICE_HOLDOFF_END (R468): a bit that became new during the holdoff is still pending. -/
def execNoticeHoldoffEnd (t : Ns) (s : State) : Out :=
  let s := setNow s t
  .next (if noticeReady s = true ∧ s.glb.lastNotice.isSome = true ∧ s.glb.newBits ≠ 0 ∧ holdoffOver s t = true then
      if s.glb.newBits &&& regF s .glbIrqPend 0 0 23 = 0 then { s with glb := { s.glb with newBits := 0 } } else sendNotice s t
    else s)

/-- NOTICE_REPEAT (R468): notice_repeat has passed since the previous NOTICE with an enabled bit still pending. -/
def execNoticeRepeat (t : Ns) (s : State) : Out :=
  let s := setNow s t
  let n := regF s .glbNotice 0 14 8
  .next (match s.glb.lastNotice with
    | some l => if noticeReady s = true ∧ n ≠ 0 ∧ pendEn s ≠ 0 ∧ l + n * secNs ≤ t then sendNotice s t else s
    | none => s)

/-! ## Memory errors (R21, R160) -/

/-- A corrected error is counted and recorded; an engine's sets its flag (R160). -/
def eccFixed (s : State) (r : EccRegion) : State :=
  let s1 := { s with pair := { s.pair with eccLan := satInc 16 s.pair.eccLan } }
  match r with
  | .engine e _ => logEv (setEng s1 e { engOf s1 e with eccCorr := true }) (srcEng e) .eccCorrected e
  | _ => logEv s1 (srcDev 0) .eccCorrected

/-- Marks the segments of a second damaged (R21). -/
def damage (l : List Segment) (second : Nat) : List Segment := l.map (fun g => if g.second = second then { g with damaged := true } else g)

/-- The severe finding ECC_FATAL waits for the next evaluation (R352). -/
def eccSevere (s : State) : State := { s with pair := { s.pair with eccFatal := true } }

/-- What a failed check of an MRAM record costs: a calibration store leaves its channel without one (R89), a grain table is not valid
(R86), a checkpoint image or a drying record is not usable (R114, R136). -/
def mramBroken (s : State) (m : MramPart) : State :=
  match m with
  | .cal c => noteConst (setChan s c { chanOf s c with cal := none, calPrev := none }) c
  | .grain g => { s with moist := { s.moist with grain := s.moist.grain.filter (fun p => p.1 != g.val) } }
  | .image c b =>
    let bad := fun (m : Option Ckpt) => m.map (fun y => { y with crc := ~~~y.crc })
    setCol s c (if b then { colOf s c with imgB := bad (colOf s c).imgB } else { colOf s c with imgA := bad (colOf s c).imgA })
  | .dryRec c b =>
    let d := dryOf s c
    setDry s c { d with recs := match d.recs[b.toNat]? with | some r => setAt d.recs b.toNat { r with crc := ~~~r.crc } | none => d.recs }
  | .other => s

/-- An uncorrectable error (R21, R160, R362): a severe finding in the engines' data path, a damaged interval in the wax. -/
def eccBroken (s : State) (r : EccRegion) : State :=
  let s1 := logEv s (srcDev 0) .eccUncorrectable
  match r with
  | .sram _ => eccSevere s1
  | .dramEngine => eccSevere s1
  | .engine e data => haltEngine (eccSevere s1) e (if data then 2 else 1)
  | .dramWax second => stick (modWax s1 (fun x => { x with segs := damage x.segs second })) .waxStatus 0 5
  | .dramStaging second =>
    stick (modWax s1 (fun x => { x with frozen := x.frozen.map (fun f => { f with segs := damage f.segs second }) })) .waxStatus 0 5
  | .mram m => mramBroken s1 m
  | _ => s1

/-- A memory that is powered: those of the always-on domain with VAUX, the others with the core domain (R13). -/
def eccPowered (s : State) (r : EccRegion) : Bool :=
  match r with
  | .mram _ => s.snf.vaux
  | .mgtRam => s.snf.vaux
  | _ => coreRuns s

/-- MEMORY_ECC_ERROR (R21). -/
def execMemoryEccError (t : Ns) (r : EccRegion) (corrected : Bool) (s : State) : Out :=
  let s := setNow s t
  .next (if eccPowered s r then (if corrected then eccFixed s r else eccBroken s r) else s)

end Sys2Proof.Machine
end

