-- ==== Sys2Proof/Machine/Dispatch.lean ====
section
/-!
DEFINITION. Which meaning each command has.
-/
namespace Sys2Proof.Machine

open Sys2Proof

/-- The effect of a command on everything but the queue. -/
def exec (i : Instr) (s : State) : Host.Outcome State Fault Refusal :=
  match i with
  | .frameBoundary t => Sys2Proof.Machine.execFrameBoundary t s
  | .mirrorSetClose t => Sys2Proof.Machine.execMirrorSetClose t s
  | .aisleUpstreamSubframe n t valid => Sys2Proof.Machine.execAisleUpstreamSubframe n t valid s
  | .aisleDownstreamSubframe n t valid => Sys2Proof.Machine.execAisleDownstreamSubframe n t valid s
  | .aisleTimedAction n t => Sys2Proof.Machine.execAisleTimedAction n t s
  | .wickTick w t e => Sys2Proof.Machine.execWickTick w t e s
  | .wickPhaseError w t => Sys2Proof.Machine.execWickPhaseError w t s
  | .wickStandstillTimeout w t => Sys2Proof.Machine.execWickStandstillTimeout w t s
  | .wickSnapshotLatch t => Sys2Proof.Machine.execWickSnapshotLatch t s
  | .wickLoss w t => Sys2Proof.Machine.execWickLoss w t s
  | .wickRecovery w t => Sys2Proof.Machine.execWickRecovery w t s
  | .mainsCrossingTimeout w t => Sys2Proof.Machine.execMainsCrossingTimeout w t s
  | .wickFrozen w t => Sys2Proof.Machine.execWickFrozen w t s
  | .wickPresetRequest w v => Sys2Proof.Machine.execWickPresetRequest w v s
  | .wickClearDiag w => Sys2Proof.Machine.execWickClearDiag w s
  | .wickFrameReceive t h recs => Sys2Proof.Machine.execWickFrameReceive t h recs s
  | .subscribedWickLoss w t => Sys2Proof.Machine.execSubscribedWickLoss w t s
  | .lltArm slot alloc window => Sys2Proof.Machine.execLltArm slot alloc window s
  | .lltDisarm slot alloc window => Sys2Proof.Machine.execLltDisarm slot alloc window s
  | .lltFree slot alloc window => Sys2Proof.Machine.execLltFree slot alloc window s
  | .armRequestsApply t => Sys2Proof.Machine.execArmRequestsApply t s
  | .timeActionDue slot t => Sys2Proof.Machine.execTimeActionDue slot t s
  | .windowCapExpiry slot t => Sys2Proof.Machine.execWindowCapExpiry slot t s
  | .measurementSetStart n t => Sys2Proof.Machine.execMeasurementSetStart n t s
  | .measurementSetEnd c t r => Sys2Proof.Machine.execMeasurementSetEnd c t r s
  | .calOpen c => Sys2Proof.Machine.execCalOpen c s
  | .calShort c => Sys2Proof.Machine.execCalShort c s
  | .calLoad c => Sys2Proof.Machine.execCalLoad c s
  | .calAir c => Sys2Proof.Machine.execCalAir c s
  | .calAverageDone c => Sys2Proof.Machine.execCalAverageDone c s
  | .calCommit c => Sys2Proof.Machine.execCalCommit c s
  | .calAbort c => Sys2Proof.Machine.execCalAbort c s
  | .capture c slot => Sys2Proof.Machine.execCapture c slot s
  | .captureDone c => Sys2Proof.Machine.execCaptureDone c s
  | .labWrite c slot => Sys2Proof.Machine.execLabWrite c slot s
  | .fit c => Sys2Proof.Machine.execFit c s
  | .clearSamples c => Sys2Proof.Machine.execClearSamples c s
  | .pclAccept c => Sys2Proof.Machine.execPclAccept c s
  | .pclSetEmpty c => Sys2Proof.Machine.execPclSetEmpty c s
  | .pclCheckpointNow c => Sys2Proof.Machine.execPclCheckpointNow c s
  | .pclClearDiag c => Sys2Proof.Machine.execPclClearDiag c s
  | .pclDiscard c => Sys2Proof.Machine.execPclDiscard c s
  | .checkpointCapture c t => Sys2Proof.Machine.execCheckpointCapture c t s
  | .checkpointWriteComplete c ok => Sys2Proof.Machine.execCheckpointWriteComplete c ok s
  | .inputSubstTimeout c inp t => Sys2Proof.Machine.execInputSubstTimeout c inp t s
  | .fbOnlyTimeout c t => Sys2Proof.Machine.execFbOnlyTimeout c t s
  | .dryStartCont c => Sys2Proof.Machine.execDryStartCont c s
  | .dryStartBatch c => Sys2Proof.Machine.execDryStartBatch c s
  | .dryCoolDown c => Sys2Proof.Machine.execDryCoolDown c s
  | .dryStop c => Sys2Proof.Machine.execDryStop c s
  | .dryResume c => Sys2Proof.Machine.execDryResume c s
  | .dryResetAdapt c => Sys2Proof.Machine.execDryResetAdapt c s
  | .dryClearBias c => Sys2Proof.Machine.execDryClearBias c s
  | .dryCoolMaxExpiry c t => Sys2Proof.Machine.execDryCoolMaxExpiry c t s
  | .aerMinTimeExpiry g t => Sys2Proof.Machine.execAerMinTimeExpiry g t s
  | .deadlineAbort e k t => Sys2Proof.Machine.execDeadlineAbort e k t s
  | .engineHalt e cause t => Sys2Proof.Machine.execEngineHalt e cause t s
  | .transactionTimeout tag t => Sys2Proof.Machine.execTransactionTimeout tag t s
  | .tagQuarantineEnd tag t => Sys2Proof.Machine.execTagQuarantineEnd tag t s
  | .engClearPeak e => Sys2Proof.Machine.execEngClearPeak e s
  | .engClearCounts e => Sys2Proof.Machine.execEngClearCounts e s
  | .bskClearCounts => Sys2Proof.Machine.execBskClearCounts s
  | .tprRun j => Sys2Proof.Machine.execTprRun j s
  | .tprHold j => Sys2Proof.Machine.execTprHold j s
  | .tprTrack j => Sys2Proof.Machine.execTprTrack j s
  | .tprSetValue j => Sys2Proof.Machine.execTprSetValue j s
  | .tprApplyCoord j fromPresent => Sys2Proof.Machine.execTprApplyCoord j fromPresent s
  | .supervisionTimerExpiry k following t => Sys2Proof.Machine.execSupervisionTimerExpiry k following t s
  | .loopSilent k t => Sys2Proof.Machine.execLoopSilent k t s
  | .loopStuckExpiry k t => Sys2Proof.Machine.execLoopStuckExpiry k t s
  | .loopReturn k t => Sys2Proof.Machine.execLoopReturn k t s
  | .loopHoldMaxExpiry k t => Sys2Proof.Machine.execLoopHoldMaxExpiry k t s
  | .loopAuto k => Sys2Proof.Machine.execLoopAuto k s
  | .loopManual k => Sys2Proof.Machine.execLoopManual k s
  | .loopReset k => Sys2Proof.Machine.execLoopReset k s
  | .loopClearFindings k => Sys2Proof.Machine.execLoopClearFindings k s
  | .motorStart m => Sys2Proof.Machine.execMotorStart m s
  | .motorStop m => Sys2Proof.Machine.execMotorStop m s
  | .motorCoast m => Sys2Proof.Machine.execMotorCoast m s
  | .motorReset m => Sys2Proof.Machine.execMotorReset m s
  | .motorIdent m => Sys2Proof.Machine.execMotorIdent m s
  | .motorResume m => Sys2Proof.Machine.execMotorResume m s
  | .motorClearCounts m => Sys2Proof.Machine.execMotorClearCounts m s
  | .hwTrip m t => Sys2Proof.Machine.execHwTrip m t s
  | .motorOvercurrent m t => Sys2Proof.Machine.execMotorOvercurrent m t s
  | .dcOvervolt m t => Sys2Proof.Machine.execDcOvervolt m t s
  | .dcUndervolt m t => Sys2Proof.Machine.execDcUndervolt m t s
  | .sdLoss m t => Sys2Proof.Machine.execSdLoss m t s
  | .observerInvalidTimeout m t => Sys2Proof.Machine.execObserverInvalidTimeout m t s
  | .phaseLoss m t => Sys2Proof.Machine.execPhaseLoss m t s
  | .currentLoopUpdate m t s_ => Sys2Proof.Machine.execCurrentLoopUpdate m t s_ s
  | .searchComplete m t r => Sys2Proof.Machine.execSearchComplete m t r s
  | .searchRetry m t => Sys2Proof.Machine.execSearchRetry m t s
  | .probeComplete m t => Sys2Proof.Machine.execProbeComplete m t s
  | .angleAlignComplete m t => Sys2Proof.Machine.execAngleAlignComplete m t s
  | .catchComplete m t => Sys2Proof.Machine.execCatchComplete m t s
  | .brakeFallback m t => Sys2Proof.Machine.execBrakeFallback m t s
  | .brakeSearch m t => Sys2Proof.Machine.execBrakeSearch m t s
  | .reverseHold m t => Sys2Proof.Machine.execReverseHold m t s
  | .stoppingComplete m t => Sys2Proof.Machine.execStoppingComplete m t s
  | .fanStall m t => Sys2Proof.Machine.execFanStall m t s
  | .retryWaitExpiry m t => Sys2Proof.Machine.execRetryWaitExpiry m t s
  | .stallCountClear m t => Sys2Proof.Machine.execStallCountClear m t s
  | .identComplete m t rs ls ok => Sys2Proof.Machine.execIdentComplete m t rs ls ok s
  | .gateHome m => Sys2Proof.Machine.execGateHome m s
  | .gateAbort m => Sys2Proof.Machine.execGateAbort m s
  | .gateMove m => Sys2Proof.Machine.execGateMove m s
  | .homeTimeout m t => Sys2Proof.Machine.execHomeTimeout m t s
  | .routeStart r => Sys2Proof.Machine.execRouteStart r s
  | .routeStop r => Sys2Proof.Machine.execRouteStop r s
  | .routeReset r => Sys2Proof.Machine.execRouteReset r s
  | .proofTimeout r k t => Sys2Proof.Machine.execProofTimeout r k t s
  | .memberProved r k t => Sys2Proof.Machine.execMemberProved r k t s
  | .runOutComplete r k t => Sys2Proof.Machine.execRunOutComplete r k t s
  | .beltSlip k t => Sys2Proof.Machine.execBeltSlip k t s
  | .aisleLinkLost n t => Sys2Proof.Machine.execAisleLinkLost n t s
  | .coreLinkLost n t => Sys2Proof.Machine.execCoreLinkLost n t s
  | .aislePowerUp n t avl => Sys2Proof.Machine.execAislePowerUp n t avl s
  | .avlUndervoltage n t avl => Sys2Proof.Machine.execAvlUndervoltage n t avl s
  | .fieldUndervoltage n t avf => Sys2Proof.Machine.execFieldUndervoltage n t avf s
  | .fieldUndervoltageEnd n t avf => Sys2Proof.Machine.execFieldUndervoltageEnd n t avf s
  | .aisleResumeCmd n => Sys2Proof.Machine.execAisleResumeCmd n s
  | .stallConversion s_ t r => Sys2Proof.Machine.execStallConversion s_ t r s
  | .diClassChange s_ t cls => Sys2Proof.Machine.execDiClassChange s_ t cls s
  | .cntEdge s_ t => Sys2Proof.Machine.execCntEdge s_ t s
  | .cntBreak s_ t => Sys2Proof.Machine.execCntBreak s_ t s
  | .doOverloadTrip s_ t => Sys2Proof.Machine.execDoOverloadTrip s_ t s
  | .doOverloadRetry s_ t limited => Sys2Proof.Machine.execDoOverloadRetry s_ t limited s
  | .doThermalShutdown s_ t => Sys2Proof.Machine.execDoThermalShutdown s_ t s
  | .doThermalRecovery s_ t => Sys2Proof.Machine.execDoThermalRecovery s_ t s
  | .supplyLimitRetry s_ t limited => Sys2Proof.Machine.execSupplyLimitRetry s_ t limited s
  | .safeTableCheck n t ok => Sys2Proof.Machine.execSafeTableCheck n t ok s
  | .sweepStart n => Sys2Proof.Machine.execSweepStart n s
  | .sweepAbort n => Sys2Proof.Machine.execSweepAbort n s
  | .aisleClearCounts n => Sys2Proof.Machine.execAisleClearCounts n s
  | .sweepPulseEnd n t fault => Sys2Proof.Machine.execSweepPulseEnd n t fault s
  | .sweepGapEnd n t => Sys2Proof.Machine.execSweepGapEnd n t s
  | .cellCommandFrame n t r => Sys2Proof.Machine.execCellCommandFrame n t r s
  | .cellTimeout n t => Sys2Proof.Machine.execCellTimeout n t s
  | .alarmLineAssert n t => Sys2Proof.Machine.execAlarmLineAssert n t s
  | .alarmLineLoss n t => Sys2Proof.Machine.execAlarmLineLoss n t s
  | .txMismatch n t => Sys2Proof.Machine.execTxMismatch n t s
  | .forcedTimeout n t => Sys2Proof.Machine.execForcedTimeout n t s
  | .txReset n => Sys2Proof.Machine.execTxReset n s
  | .txForce4 n => Sys2Proof.Machine.execTxForce4 n s
  | .txForce20 n => Sys2Proof.Machine.execTxForce20 n s
  | .txRelease n => Sys2Proof.Machine.execTxRelease n s
  | .txLock n => Sys2Proof.Machine.execTxLock n s
  | .txUnlock n => Sys2Proof.Machine.execTxUnlock n s
  | .trimSessionStart span t => Sys2Proof.Machine.execTrimSessionStart span t s
  | .trimShortPress up t => Sys2Proof.Machine.execTrimShortPress up t s
  | .trimStore t => Sys2Proof.Machine.execTrimStore t s
  | .trimSessionTimeout t => Sys2Proof.Machine.execTrimSessionTimeout t s
  | .trimSelChange sel t => Sys2Proof.Machine.execTrimSelChange sel t s
  | .solStart v h => Sys2Proof.Machine.execSolStart v h s
  | .solEnd v => Sys2Proof.Machine.execSolEnd v s
  | .solReset v => Sys2Proof.Machine.execSolReset v s
  | .solClearCounts v => Sys2Proof.Machine.execSolClearCounts v s
  | .peakEnd v t cur => Sys2Proof.Machine.execPeakEnd v t cur s
  | .holdEnd v t => Sys2Proof.Machine.execHoldEnd v t s
  | .decayEnd v t => Sys2Proof.Machine.execDecayEnd v t s
  | .decayTimeout v t => Sys2Proof.Machine.execDecayTimeout v t s
  | .solOvercurrent v t => Sys2Proof.Machine.execSolOvercurrent v t s
  | .holdLow v t => Sys2Proof.Machine.execHoldLow v t s
  | .dutyCut v t => Sys2Proof.Machine.execDutyCut v t s
  | .senseFault v t => Sys2Proof.Machine.execSenseFault v t s
  | .dataFrameReceive t h es => Sys2Proof.Machine.execDataFrameReceive t h es s
  | .creditFrameReceive t h cs => Sys2Proof.Machine.execCreditFrameReceive t h cs s
  | .helloFrameReceive t h k => Sys2Proof.Machine.execHelloFrameReceive t h k s
  | .creditRefresh t => Sys2Proof.Machine.execCreditRefresh t s
  | .helloSend t => Sys2Proof.Machine.execHelloSend t s
  | .ptpSync t offset hops => Sys2Proof.Machine.execPtpSync t offset hops s
  | .peerDelayMeasure p t delay => Sys2Proof.Machine.execPeerDelayMeasure p t delay s
  | .syncTimeout t becomesGm => Sys2Proof.Machine.execSyncTimeout t becomesGm s
  | .ppsInEdge t => Sys2Proof.Machine.execPpsInEdge t s
  | .ppsMissing t => Sys2Proof.Machine.execPpsMissing t s
  | .ppsOutSecond t => Sys2Proof.Machine.execPpsOutSecond t s
  | .marketTimeStep t => Sys2Proof.Machine.execMarketTimeStep t s
  | .datagramRead t d addr count => Sys2Proof.Machine.execDatagramRead t d addr count s
  | .datagramWrite t d addr ws => Sys2Proof.Machine.execDatagramWrite t d addr ws s
  | .switch t d s_ gen op subject hash => Sys2Proof.Machine.execSwitch t d s_ gen op subject hash s
  | .switchInstant t => Sys2Proof.Machine.execSwitchInstant t s
  | .leavingEnd t => Sys2Proof.Machine.execLeavingEnd t s
  | .peerMissing id t => Sys2Proof.Machine.execPeerMissing id t s
  | .mktStepAccept => Sys2Proof.Machine.execMktStepAccept s
  | .mktClearCounts => Sys2Proof.Machine.execMktClearCounts s
  | .tallyPost t d num inst => Sys2Proof.Machine.execTallyPost t d num inst s
  | .talPost => Sys2Proof.Machine.execTalPost s
  | .talAck num => Sys2Proof.Machine.execTalAck num s
  | .tallyLatch t => Sys2Proof.Machine.execTallyLatch t s
  | .eventRecordCommit t => Sys2Proof.Machine.execEventRecordCommit t s
  | .mramTailCommit t ok => Sys2Proof.Machine.execMramTailCommit t ok s
  | .evrClear v => Sys2Proof.Machine.execEvrClear v s
  | .eventWindowRead j => Sys2Proof.Machine.execEventWindowRead j s
  | .pairLowWordRead addr => Sys2Proof.Machine.execPairLowWordRead addr s
  | .pairHighWordWrite addr v => Sys2Proof.Machine.execPairHighWordWrite addr v s
  | .controlFrameReceive t h c => Sys2Proof.Machine.execControlFrameReceive t h c s
  | .mirrorFrameReceive t h m => Sys2Proof.Machine.execMirrorFrameReceive t h m s
  | .setApply t => Sys2Proof.Machine.execSetApply t s
  | .copyFrameReceive t h m => Sys2Proof.Machine.execCopyFrameReceive t h m s
  | .copyComplete t ok => Sys2Proof.Machine.execCopyComplete t ok s
  | .copyRetry t => Sys2Proof.Machine.execCopyRetry t s
  | .lanternReceive t h l => Sys2Proof.Machine.execLanternReceive t h l s
  | .lanternSend t => Sys2Proof.Machine.execLanternSend t s
  | .selfDiagnosis t => Sys2Proof.Machine.execSelfDiagnosis t s
  | .lockstepMismatch t => Sys2Proof.Machine.execLockstepMismatch t s
  | .ownReadback t land => Sys2Proof.Machine.execOwnReadback t land s
  | .peerOwnFall t => Sys2Proof.Machine.execPeerOwnFall t s
  | .peerOwnRise t => Sys2Proof.Machine.execPeerOwnRise t s
  | .takeoverWaitEnd t => Sys2Proof.Machine.execTakeoverWaitEnd t s
  | .takeoverT5 t => Sys2Proof.Machine.execTakeoverT5 t s
  | .collision t => Sys2Proof.Machine.execCollision t s
  | .collisionTimeout t => Sys2Proof.Machine.execCollisionTimeout t s
  | .pairClaim => Sys2Proof.Machine.execPairClaim s
  | .pairCede => Sys2Proof.Machine.execPairCede s
  | .pairReset => Sys2Proof.Machine.execPairReset s
  | .pairResync => Sys2Proof.Machine.execPairResync s
  | .pairClearCounts => Sys2Proof.Machine.execPairClearCounts s
  | .autoClaim t => Sys2Proof.Machine.execAutoClaim t s
  | .shadowComplete t => Sys2Proof.Machine.execShadowComplete t s
  | .pairLinkSilence t => Sys2Proof.Machine.execPairLinkSilence t s
  | .selftestStage t stage ok => Sys2Proof.Machine.execSelftestStage t stage ok s
  | .streamChunk t d offset first data => Sys2Proof.Machine.execStreamChunk t d offset first data s
  | .hldValidate => Sys2Proof.Machine.execHldValidate s
  | .validationComplete t img => Sys2Proof.Machine.execValidationComplete t img s
  | .hldApply => Sys2Proof.Machine.execHldApply s
  | .hldCancel => Sys2Proof.Machine.execHldCancel s
  | .hldPersist => Sys2Proof.Machine.execHldPersist s
  | .hldDiscard => Sys2Proof.Machine.execHldDiscard s
  | .patchRevalidate t => Sys2Proof.Machine.execPatchRevalidate t s
  | .patchApply t => Sys2Proof.Machine.execPatchApply t s
  | .powerGood t inOrder => Sys2Proof.Machine.execPowerGood t inOrder s
  | .corePllLock t otpOk => Sys2Proof.Machine.execCorePllLock t otpOk s
  | .firmwareSelect t => Sys2Proof.Machine.execFirmwareSelect t s
  | .dramTrained t => Sys2Proof.Machine.execDramTrained t s
  | .streamLoad t => Sys2Proof.Machine.execStreamLoad t s
  | .patchChainApply t => Sys2Proof.Machine.execPatchChainApply t s
  | .streamCommit t => Sys2Proof.Machine.execStreamCommit t s
  | .restoreComplete t => Sys2Proof.Machine.execRestoreComplete t s
  | .outputEnable t => Sys2Proof.Machine.execOutputEnable t s
  | .auxPor t straps => Sys2Proof.Machine.execAuxPor t straps s
  | .sysReset t straps => Sys2Proof.Machine.execSysReset t straps s
  | .corePowerReturn t => Sys2Proof.Machine.execCorePowerReturn t s
  | .snfSnuff => Sys2Proof.Machine.execSnfSnuff s
  | .snfRelease => Sys2Proof.Machine.execSnfRelease s
  | .snfCoreReset => Sys2Proof.Machine.execSnfCoreReset s
  | .snfDormant => Sys2Proof.Machine.execSnfDormant s
  | .dormantEntryComplete t => Sys2Proof.Machine.execDormantEntryComplete t s
  | .wakeTimer t => Sys2Proof.Machine.execWakeTimer t s
  | .wakeWick w t => Sys2Proof.Machine.execWakeWick w t s
  | .safeNAssert t => Sys2Proof.Machine.execSafeNAssert t s
  | .pwrFailNAssert t => Sys2Proof.Machine.execPwrFailNAssert t s
  | .supplyFault t rail mv => Sys2Proof.Machine.execSupplyFault t rail mv s
  | .snufferBasketCommand t => Sys2Proof.Machine.execSnufferBasketCommand t s
  | .shutdownRecordCommit t => Sys2Proof.Machine.execShutdownRecordCommit t s
  | .watchdogRestart t => Sys2Proof.Machine.execWatchdogRestart t s
  | .watchdogExpiry t => Sys2Proof.Machine.execWatchdogExpiry t s
  | .thermalConversion k t r => Sys2Proof.Machine.execThermalConversion k t r s
  | .thermalRestart t => Sys2Proof.Machine.execThermalRestart t s
  | .imageChunk t d offset first data => Sys2Proof.Machine.execImageChunk t d offset first data s
  | .imgValidate => Sys2Proof.Machine.execImgValidate s
  | .imgLoad => Sys2Proof.Machine.execImgLoad s
  | .imgLoadComplete t ok => Sys2Proof.Machine.execImgLoadComplete t ok s
  | .imgActivate => Sys2Proof.Machine.execImgActivate s
  | .imgDiscard => Sys2Proof.Machine.execImgDiscard s
  | .trialConfirm t => Sys2Proof.Machine.execTrialConfirm t s
  | .raiseFloorFw => Sys2Proof.Machine.execRaiseFloorFw s
  | .raiseFloorStream => Sys2Proof.Machine.execRaiseFloorStream s
  | .keyInstall slot keyId level auth => Sys2Proof.Machine.execKeyInstall slot keyId level auth s
  | .keyRemove slot => Sys2Proof.Machine.execKeyRemove slot s
  | .enrol slot => Sys2Proof.Machine.execEnrol slot s
  | .revoke slot => Sys2Proof.Machine.execRevoke slot s
  | .attest => Sys2Proof.Machine.execAttest s
  | .summaryWrite t => Sys2Proof.Machine.execSummaryWrite t s
  | .keyframeCapture t => Sys2Proof.Machine.execKeyframeCapture t s
  | .waxFreeze => Sys2Proof.Machine.execWaxFreeze s
  | .freezeComplete t overtaken => Sys2Proof.Machine.execFreezeComplete t overtaken s
  | .waxExport sender => Sys2Proof.Machine.execWaxExport sender s
  | .exportDatagramSend t => Sys2Proof.Machine.execExportDatagramSend t s
  | .waxExportStop => Sys2Proof.Machine.execWaxExportStop s
  | .waxDataImport t d offset data => Sys2Proof.Machine.execWaxDataImport t d offset data s
  | .waxImportDone img => Sys2Proof.Machine.execWaxImportDone img s
  | .waxDiscard => Sys2Proof.Machine.execWaxDiscard s
  | .rltPrepare => Sys2Proof.Machine.execRltPrepare s
  | .rltRun => Sys2Proof.Machine.execRltRun s
  | .rltPause => Sys2Proof.Machine.execRltPause s
  | .rltStep => Sys2Proof.Machine.execRltStep s
  | .rltAbort => Sys2Proof.Machine.execRltAbort s
  | .relightFrame t => Sys2Proof.Machine.execRelightFrame t s
  | .duloHelp t => Sys2Proof.Machine.execDuloHelp t s
  | .duloId t => Sys2Proof.Machine.execDuloId t s
  | .duloStatus t => Sys2Proof.Machine.execDuloStatus t s
  | .duloRd t addr count => Sys2Proof.Machine.execDuloRd t addr count s
  | .duloEvr t count => Sys2Proof.Machine.execDuloEvr t count s
  | .duloSnuff t => Sys2Proof.Machine.execDuloSnuff t s
  | .duloBaud t rate => Sys2Proof.Machine.execDuloBaud t rate s
  | .duloLatch t serial => Sys2Proof.Machine.execDuloLatch t serial s
  | .duloUnlatch t => Sys2Proof.Machine.execDuloUnlatch t s
  | .duloWr t addr v => Sys2Proof.Machine.execDuloWr t addr v s
  | .duloRelease t => Sys2Proof.Machine.execDuloRelease t s
  | .duloReset t => Sys2Proof.Machine.execDuloReset t s
  | .duloWake t => Sys2Proof.Machine.execDuloWake t s
  | .duloLoad t kind => Sys2Proof.Machine.execDuloLoad t kind s
  | .duloBinaryBlock t offset data crc => Sys2Proof.Machine.execDuloBinaryBlock t offset data crc s
  | .duloValidate t => Sys2Proof.Machine.execDuloValidate t s
  | .duloActivate t => Sys2Proof.Machine.execDuloActivate t s
  | .duloKey t slot keyId level => Sys2Proof.Machine.execDuloKey t slot keyId level s
  | .duloBreak t => Sys2Proof.Machine.execDuloBreak t s
  | .duloLatchTimeout t => Sys2Proof.Machine.execDuloLatchTimeout t s
  | .hostSilenceExpiry t => Sys2Proof.Machine.execHostSilenceExpiry t s
  | .noticeNew t => Sys2Proof.Machine.execNoticeNew t s
  | .noticeHoldoffEnd t => Sys2Proof.Machine.execNoticeHoldoffEnd t s
  | .noticeRepeat t => Sys2Proof.Machine.execNoticeRepeat t s
  | .registerWrite addr v => Sys2Proof.Machine.execRegisterWrite addr v s
  | .memoryEccError t r corrected => Sys2Proof.Machine.execMemoryEccError t r corrected s
  | .loopPowerChange n t on => Sys2Proof.Machine.execLoopPowerChange n t on s
  | .cellStatusSilent n t => Sys2Proof.Machine.execCellStatusSilent n t s
  | .portLinkChange p t up => Sys2Proof.Machine.execPortLinkChange p t up s
  | .bridgeFrameForward t f => Sys2Proof.Machine.execBridgeFrameForward t f s
  | .addressAgeing t mac => Sys2Proof.Machine.execAddressAgeing t mac s
  | .arpIcmpRequest t kind ip => Sys2Proof.Machine.execArpIcmpRequest t kind ip s
  | .safeNDeassert t => Sys2Proof.Machine.execSafeNDeassert t s
  | .pwrFailNDeassert t => Sys2Proof.Machine.execPwrFailNDeassert t s
  | .pmbusPowerRead t p => Sys2Proof.Machine.execPmbusPowerRead t p s
  | .imgValidateComplete t fw str => Sys2Proof.Machine.execImgValidateComplete t fw str s
  | .persistComplete t ok => Sys2Proof.Machine.execPersistComplete t ok s
  | .keyframeComplete t frame ok => Sys2Proof.Machine.execKeyframeComplete t frame ok s

end Sys2Proof.Machine
end

