-- ==== Sys2Proof/Safety.lean ====
section
/-!
DEFINITION. The terms the claims are made in: that a command completes with an effect and leaves the rest of the block as it
was, and the bounds that every state of a run keeps. Nothing here stops a run: no rule of the spec makes the block stop.
-/
namespace Sys2Proof.Machine

open Sys2Proof

/-- The parts of the state beside the stored register words: one for each other field of `State`. -/
inductive Part where
  | queue | time | frame | free | inForce | wick | llt | moist | col | eng | loop | motor | aisle | tx | sol | mkt | tal | recorder
  | pair | hld | snf | thr | mgt | wax | rlt | mon | glb | before
  deriving DecidableEq, Repr

/-- A part stands in one state as in another. -/
def Part.same (p : Part) (s t : State) : Prop :=
  match p with
  | .queue => t.pending = s.pending
  | .time => t.now = s.now
  | .frame => t.frame = s.frame ∧ t.framed = s.framed
  | .free => t.free = s.free
  | .inForce => t.rfF = s.rfF
  | .wick => t.wick = s.wick
  | .llt => t.llt = s.llt
  | .moist => t.moist = s.moist
  | .col => t.col = s.col
  | .eng => t.eng = s.eng
  | .loop => t.loop = s.loop
  | .motor => t.motor = s.motor
  | .aisle => t.aisle = s.aisle
  | .tx => t.tx = s.tx
  | .sol => t.sol = s.sol
  | .mkt => t.mkt = s.mkt
  | .tal => t.tal = s.tal
  | .recorder => t.rec_ = s.rec_
  | .pair => t.pair = s.pair
  | .hld => t.hld = s.hld
  | .snf => t.snf = s.snf
  | .thr => t.thr = s.thr
  | .mgt => t.mgt = s.mgt
  | .wax => t.wax = s.wax
  | .rlt => t.rlt = s.rlt
  | .mon => t.mon = s.mon
  | .glb => t.glb = s.glb
  | .before => t.before = s.before ∧ t.marks = s.marks

/-- Every part outside the list stands as before. -/
def Frame (ps : List Part) (s t : State) : Prop := ∀ p, p ∉ ps → p.same s t

/-- Every register word at an address outside the list's is stored as before. -/
def OnlyRegs (rs : List (RegName × Nat)) (s t : State) : Prop :=
  ∀ r i, (∀ p ∈ rs, regAddr p.1 p.2 ≠ regAddr r i) → regW t r i = regW s r i

/-- Of a numbered family of records, only number k may differ. -/
def OnlyAt {α : Type} (f : State → Nat → α) (k : Nat) (s t : State) : Prop := ∀ j, j ≠ k → f t j = f s j

/-- Of the wicks, only wick w may differ; the latch's own state stands. -/
def OnlyWick (w : Nat) (s t : State) : Prop := OnlyAt wickOf w s t ∧ t.wick = { s.wick with w := t.wick.w }
/-- Of the moisture channels, only channel c may differ. -/
def OnlyChan (c : Nat) (s t : State) : Prop := OnlyAt chanOf c s t ∧ t.moist = { s.moist with c := t.moist.c }
/-- Of the columns, only column c may differ; drying, heat and aeration stand. -/
def OnlyCol (c : Nat) (s t : State) : Prop := OnlyAt colOf c s t ∧ t.col = { s.col with c := t.col.c }
/-- Of the drying columns, only column c may differ; parcels, heat and aeration stand. -/
def OnlyDry (c : Nat) (s t : State) : Prop := OnlyAt dryOf c s t ∧ t.col = { s.col with d := t.col.d }
/-- Of the engines, only engine e may differ; rows, baskets, tags and messages stand. -/
def OnlyEng (e : Nat) (s t : State) : Prop := OnlyAt engOf e s t ∧ t.eng = { s.eng with e := t.eng.e }
/-- Of the baskets, only basket b may differ; engines, rows, tags and messages stand. -/
def OnlyBsk (b : Nat) (s t : State) : Prop := OnlyAt bskOf b s t ∧ t.eng = { s.eng with b := t.eng.b }
/-- Of the tapers, only taper j may differ; the loops stand. -/
def OnlyTaper (j : Nat) (s t : State) : Prop := OnlyAt taperOf j s t ∧ t.loop = { s.loop with t := t.loop.t }
/-- Of the loops, only loop i may differ; the tapers stand. -/
def OnlyLoop (i : Nat) (s t : State) : Prop := OnlyAt loopOf i s t ∧ t.loop = { s.loop with l := t.loop.l }
/-- Of the motor ports, only port m may differ; gates, routes and belts stand. -/
def OnlyMot (m : Nat) (s t : State) : Prop := OnlyAt motOf m s t ∧ t.motor = { s.motor with m := t.motor.m }
/-- Of the gates, only gate m may differ; ports, routes and belts stand. -/
def OnlyGate (m : Nat) (s t : State) : Prop := OnlyAt gateOf m s t ∧ t.motor = { s.motor with gate := t.motor.gate }
/-- Of the routes, only route r may differ; ports, gates and belts stand. -/
def OnlyRoute (r : Nat) (s t : State) : Prop := OnlyAt routeOf r s t ∧ t.motor = { s.motor with route := t.motor.route }
/-- Of the aisles, only aisle n may differ; the stalls stand. -/
def OnlyAis (n : Nat) (s t : State) : Prop := OnlyAt aisOf n s t ∧ t.aisle = { s.aisle with a := t.aisle.a }
/-- Of the stalls, only stall i may differ; the aisles stand. -/
def OnlyStl (i : Nat) (s t : State) : Prop := OnlyAt stlOf i s t ∧ t.aisle = { s.aisle with st := t.aisle.st }
/-- Of the transmitter ports, only port n may differ; the trim session and TRIM_SEL stand. -/
def OnlyTx (n : Nat) (s t : State) : Prop := OnlyAt txOf n s t ∧ t.tx = { s.tx with p := t.tx.p }
/-- Of the temperature sensors, only sensor i may differ; the rest of the supervisor stands. -/
def OnlySens (i : Nat) (s t : State) : Prop := OnlyAt sensOf i s t ∧ t.thr = { s.thr with s := t.thr.s }

/-- The command completes: it answers a next state, of which P holds; the parts outside `ps` and the register words outside
`rs` stand as before. -/
def Effect (c : Instr) (s : State) (ps : List Part) (rs : List (RegName × Nat)) (P : State → Prop) : Prop :=
  ∃ t, exec c s = .next t ∧ Frame ps s t ∧ OnlyRegs rs s t ∧ P t

/-- A change of state that is no command, such as what a block's run makes of a command that waits for it: P holds of the new state; the
parts outside `ps` and the register words outside `rs` stand as before. -/
def Changes (s t : State) (ps : List Part) (rs : List (RegName × Nat)) (P : State → Prop) : Prop := Frame ps s t ∧ OnlyRegs rs s t ∧ P t

/-- The command completes and P holds of the next state; the statement says nothing of the rest of the block but that the
queue stands as before. -/
def Yields (c : Instr) (s : State) (P : State → Prop) : Prop := ∃ t, exec c s = .next t ∧ t.pending = s.pending ∧ P t

/-- The bounds of the event recorder (R331, R333, R335): 65,536 records, 1,024 queued entries, 4,096 records in MRAM, a saturating
count of lost events, every number issued below the sequence reserve, and three continuation records at most to an event. -/
def RecState.bounded (r : RecState) : Prop :=
  r.ring.length ≤ 65536 ∧ r.queue.length ≤ 1024 ∧ r.tail.length ≤ 4096 ∧ r.lost < 2 ^ 16 ∧ r.nextSeq ≤ r.reserve ∧
  ∀ q ∈ r.queue, q.conts ≤ 3

/-- A recorder that may come after another: within the bounds where that one was, no sequence number issued twice (R335), and
nothing shown again that was cleared (R337). -/
def RecState.follows (r u : RecState) : Prop :=
  r.bounded → u.bounded ∧ r.nextSeq ≤ u.nextSeq ∧ r.reserve ≤ u.reserve ∧ r.cleared ≤ u.cleared

/-- SAFE_OUT_N as R403 has it: asserted until outputs are first enabled, while the snuffer is active, and in dormant mode. -/
def SnfState.safeRight (x : SnfState) : Prop := x.safeOut = (!x.everEnabled || x.active || x.dormant)

/-- What every step keeps: the recorder within its bounds, and SAFE_OUT_N as R403 has it. -/
def State.Inv (s : State) : Prop := s.rec_.bounded ∧ s.snf.safeRight

/-- What a step may do to the queue, the recorder, the floors of R432, the pair epoch of R356 and SAFE_OUT_N: the queue is as it
was, the recorder follows, no floor and no epoch is lower, and SAFE_OUT_N stays as R403 has it. -/
def Kept (s : State) (p : List Instr) (r : RecState) (fw str ep : Nat) (x : SnfState) : Prop :=
  p = s.pending ∧ s.rec_.follows r ∧ s.mgt.floorFw ≤ fw ∧ s.mgt.floorStr ≤ str ∧ s.pair.epoch ≤ ep ∧ (s.snf.safeRight → x.safeRight)

/-- A state that may come after another by one command. -/
def State.follows (s t : State) : Prop := Kept s t.pending t.rec_ t.mgt.floorFw t.mgt.floorStr t.pair.epoch t.snf

/-! ## States that statements name -/

/-- A switch fails the sweep: a live fault that its pulse OFF clears, or one that its pulse ON brings (R261). -/
def sweepBad (w : Sweep) (f : Bool) : Bool := (w.onBefore && w.faultBefore && !f) || (!w.onBefore && !w.faultBefore && f)

/-- The new time of a step of d ns (R298). -/
def stepTo (s : State) (t : Ns) (d : Int) : Nat := (((max s.now t : Nat) : Int) + d).toNat

/-- The state in which a time step has set the time (R298). -/
def stepped (s : State) (t : Ns) (d : Int) : State :=
  let m := { s.mkt with pendStep := none, stepPend := false, stepAccept := false, slewing := false, pausedAt := some (pauseFrame (stepTo s t d)) }
  { setNow s t with now := stepTo s t d, mkt := m }

/-- What a time step has written before the work that the skipped time was due for (R298, R300). -/
def afterStep (s : State) (t : Ns) (d : Int) : State :=
  let data := Config.eventData EventName.timeStep.ctorIdx (max s.now t + stepTo s t d * 2 ^ 64) % 2 ^ 144
  let w := logAt (stick (stepped s t d) .mktStatus 0 12) (stepTo s t d) srcMkt .timeStep data 2
  let back := decide (stepTo s t d < max s.now t)
  let x := { w.wax with afterGap := w.wax.afterGap || back, keyDue := w.wax.keyDue || back }
  addItem { w with wax := x } (.step (max s.now t) (stepTo s t d))

/-- The state in which the monitor reads a line received at t: the line's time is noted and earlier reads are over (R483). -/
def monAt (s : State) (t : Ns) : State := endRequest (modMon (setNow s t) (fun m => { m with lastChar := t, low := [] }))

/-- The take-over at t5, opened and recorded (R358, R359). -/
def t5Taken (s : State) (t : Ns) : State :=
  logEv (stick (modPair (t5Open (applyReady (duePatch (setNow s t)))) (fun p => { p with takeT := t })) .pairStatus 0 15) (srcDev 4) .pairTakeover 0

end Sys2Proof.Machine
end

