-- ==== Sys2Proof/Certificates/Slice0/Obligations.lean ====
section
/-!
DEFINITION. The statements for the provers: what each command does where the spec has it act, and what holds of every step.
-/

open Sys2Proof Sys2Proof.Machine

/-- A step runs the command at the front of the queue on the state whose queue is the rest (R440: in order of arrival). -/
def Obligations.StepTakesTheFrontCommand : Prop :=
  ∀ (c : Instr) (rest : List Instr) (s : State), s.pending = c :: rest → step s = exec c { s with pending := rest }

/-- With no command waiting the block idles: the model's own choice (log entry 1), no rule of the spec. -/
def Obligations.EmptyQueueIdles : Prop :=
  ∀ s : State, s.pending = [] → step s = .next s

/-- The state after reset lies within the recorder's bounds and has SAFE_OUT_N as R403 has it. -/
def Obligations.ResetMeetsTheInvariant : Prop :=
  State.reset.Inv

/-- What the spec gives for a new device at power-up: the recorder's tail has never been written, so that the first number is 1 and
cleared-below is 1 (R335); SAFE_OUT_N is asserted and outputs are not enabled (R394, R403); no configuration is committed, every
wick, motor port and solenoid port is DISABLED, and no output is driven. -/
def Obligations.ResetLeavesTheSpecValues : Prop :=
  (State.reset.pending = [] ∧ State.reset.rec_.nextSeq = 1 ∧ State.reset.rec_.reserve = 1 ∧ State.reset.rec_.cleared = 1 ∧ State.reset.rec_.ring = [] ∧ State.reset.rec_.tail = []) ∧
  (State.reset.snf.safeOut = true ∧ State.reset.snf.enabled = false ∧ State.reset.snf.everEnabled = false ∧ State.reset.hld.committed = false ∧ driving State.reset = false) ∧
  ((∀ w : Fin 64, (wickOf State.reset w).st = .disabled) ∧ (∀ m : Fin 16, (motOf State.reset m).st = .disabled) ∧ (∀ v : Fin 32, (solOf State.reset v).st = .disabled))

/-- A wick's own commands and events, each where the spec has it act: a preset is kept for the next latch (R44), the diagnostic counts
go to 0 (R54), a phase error is counted, flagged and recorded (R34), a wick without a tick for still_ms stands (R39). In the cycle
of a latch a tick or timeout waits until the latch is taken (R35, R40). Where the spec leaves a value or a way open it follows the
model's own choices of log entry 34. Commands that it says complete with their own effect: wickPresetRequest, wickClearDiag,
wickPhaseError, wickStandstillTimeout. -/
def Obligations.WickCommandsComplete : Prop :=
  (∀ (w : Fin 64) (v : Int) (s : State), (wickOf s w).st ≠ .disabled → Effect (.wickPresetRequest w v) s [.wick] [] (fun u =>
      OnlyWick w s u ∧ wickOf u w = { wickOf s w with pending := some (.abs (wrap48 v)) })) ∧
  (∀ (w : Fin 64) (s : State), Effect (.wickClearDiag w) s [.wick] [] (fun u =>
      OnlyWick w s u ∧ wickOf u w = { wickOf s w with phaseErrors := 0, losses := 0 })) ∧
  (∀ (w : Fin 64) (t : Ns) (s : State),
    wickKind s w = .quad ∨ wickKind s w = .enc ∨ wickKind s w = .hall → (wickOf s w).st ≠ .lost → (wickOf s w).st ≠ .disabled →
    Effect (.wickPhaseError w t) s [.time, .wick, .recorder] [(.wckStatus, w), (.evrStatus, 0)] (fun u =>
      u.now = max s.now t ∧ OnlyWick w s u ∧ wickOf u w = { wickOf s w with phaseErrors := satInc 16 (wickOf s w).phaseErrors } ∧ regB u .wckStatus w 9 = true)) ∧
  (∀ (w : Fin 64) (t : Ns) (s : State),
    (wickOf s w).st = .starting ∨ (wickOf s w).st = .running ∨ (wickOf s w).st = .reversing → wickKind s w ≠ .mains → wickKind s w ≠ .subscribed → (wickOf s w).edgeTime + stillNs s w ≤ t → s.wick.held = [] → inLatchCycle (setNow s t) t = false →
    Effect (.wickStandstillTimeout w t) s [.time, .wick] [] (fun u =>
      u.now = max s.now t ∧ OnlyWick w s u ∧ wickOf u w = { wickOf s w with st := .still, speed := 0, stillFrom := some (cycleOf t, (wickOf s w).st, (wickOf s w).speed) })) ∧
  (∀ (w : Fin 64) (v : Int) (s : State), (wickOf s w).st ≠ .disabled → exec (.wickPresetRequest w v) s = .next (setWick s w { wickOf s w with pending := some (.abs (wrap48 v)) })) ∧
  (∀ (w : Fin 64) (s : State), exec (.wickClearDiag w) s = .next (setWick s w { wickOf s w with phaseErrors := 0, losses := 0 })) ∧
  (∀ (w : Fin 64) (t : Ns) (s : State),
    wickKind s w = .quad ∨ wickKind s w = .enc ∨ wickKind s w = .hall → (wickOf s w).st ≠ .lost → (wickOf s w).st ≠ .disabled →
    exec (.wickPhaseError w t) s = .next (phaseError (setNow s t) w)) ∧
  (∀ (w : Fin 64) (t : Ns) (s : State),
    (wickOf s w).st = .starting ∨ (wickOf s w).st = .running ∨ (wickOf s w).st = .reversing → wickKind s w ≠ .mains → wickKind s w ≠ .subscribed → (wickOf s w).edgeTime + stillNs s w ≤ t → s.wick.held = [] → inLatchCycle (setNow s t) t = false →
    exec (.wickStandstillTimeout w t) s = .next (setWick (setNow s t) w { wickOf s w with st := .still, speed := 0, stillFrom := some (cycleOf t, (wickOf s w).st, (wickOf s w).speed) }))

/-- Ticks and losses of wicks, each where the spec has it act (R31, R35, R39, R41 to R43, R46, R50, R51): an edge is a tick of its
direction or an edge of the kind's own decoder; a loss leaves the wick LOST at speed 0 with one more loss. Where the spec leaves a
value or a way open it follows the model's own choices of log entries 9, 34. Commands that it says complete with their own effect:
wickTick, wickSnapshotLatch, wickLoss, mainsCrossingTimeout, subscribedWickLoss, wickRecovery, wickFrozen. -/
def Obligations.WickTicksComplete : Prop :=
  (∀ (w : Fin 64) (t : Ns) (e : TickEdge) (r : Bool) (s : State),
    (wickOf s w).st ≠ .disabled → (wickOf s w).st ≠ .lost → s.snf.corePowered = true → wickKind s w ≠ .mains → edgeRev s w e = some r → s.wick.held = [] → inLatchCycle (setNow s t) t = false →
    exec (.wickTick w t e) s = .next (countTick (setNow s t) w (wickDir s w r) t)) ∧
  (∀ (w : Fin 64) (t : Ns) (e : TickEdge) (s : State), s.wick.held = [] → inLatchCycle (setNow s t) t = true → exec (.wickTick w t e) s = .next ({ setNow s t with wick := { s.wick with held := [{ wick := w, t := t, edge := some e }] } })) ∧
  (∀ (w : Fin 64) (t : Ns) (s : State),
    (wickOf s w).st ≠ .disabled → s.snf.corePowered = true → wickKind s w = .mains → s.wick.held = [] → inLatchCycle (setNow s t) t = false →
    exec (.wickTick w t .cross) s = .next (mainsCross (setNow s t) w t)) ∧
  (∀ (w : Fin 64) (t : Ns) (c : Nat) (s : State),
    (wickOf s w).st ≠ .disabled → (wickOf s w).st ≠ .lost → s.snf.corePowered = true → wickKind s w = .hall → s.wick.held = [] → inLatchCycle (setNow s t) t = false →
    exec (.wickTick w t (.hall c)) s = .next (hallEdge (setNow s t) w t c)) ∧
  (∀ (w : Fin 64) (t : Ns) (e : TickEdge) (s : State),
    (wickOf s w).st ≠ .disabled → s.snf.corePowered = false → s.wick.held = [] →
    exec (.wickTick w t e) s = .next (dormantEdge (setNow s t) w t e)) ∧
  (∀ (t : Ns) (s : State),
    (t + 4000) % 125000 = 0 → s.snf.corePowered = true → 1 ≤ s.snf.stage →
    exec (.wickSnapshotLatch t) s = .next (snapAll (setNow s t) t)) ∧
  (∀ (w : Fin 64) (t : Ns) (s : State),
    (wickOf s w).st ≠ .lost → (wickOf s w).st ≠ .disabled → lossHolds s w = true →
    Yields (.wickLoss w t) s (fun u => OnlyWick w s u ∧ (wickOf u w).st = .lost ∧ (wickOf u w).speed = 0 ∧ (wickOf u w).losses = satInc 16 (wickOf s w).losses)) ∧
  (∀ (w : Fin 64) (t : Ns) (s : State),
    (wickOf s w).st ≠ .lost → (wickOf s w).st ≠ .disabled → wickKind s w = .mains → (wickOf s w).st = .running → (wickOf s w).lastCross + mainsTimeout s w ≤ t → s.snf.corePowered = true →
    Yields (.mainsCrossingTimeout w t) s (fun u => OnlyWick w s u ∧ (wickOf u w).st = .lost ∧ (wickOf u w).speed = 0 ∧ (wickOf u w).losses = satInc 16 (wickOf s w).losses)) ∧
  (∀ (w : Fin 64) (t : Ns) (s : State),
    wickKind s w = .mains → (wickOf s w).lastCross + mainsTimeout s w ≤ t → (wickOf s w).st ≠ .disabled → s.snf.corePowered = false →
    Effect (.mainsCrossingTimeout w t) s [.time, .wick] [] (fun u =>
      u.now = max s.now t ∧ OnlyWick w s u ∧ wickOf u w = { wickOf s w with dormLost := true })) ∧
  (∀ (w : Fin 64) (t a : Ns) (s : State),
    (wickOf s w).st ≠ .lost → (wickOf s w).st ≠ .disabled → (wickOf s w).lateSince = some a → wickKind s w = .subscribed → a + 3 * pubPeriod s w ≤ t →
    Yields (.subscribedWickLoss w t) s (fun u => OnlyWick w s u ∧ (wickOf u w).st = .lost ∧ (wickOf u w).speed = 0 ∧ (wickOf u w).losses = satInc 16 (wickOf s w).losses)) ∧
  (∀ (w : Fin 64) (t : Ns) (s : State), (wickOf s w).st = .lost → recoverHolds s w t = true → exec (.wickRecovery w t) s = .next (recoverWick (setNow s t) w)) ∧
  (∀ (w : Fin 64) (t : Ns) (s : State), freezeOver s w t = true → Effect (.wickFrozen w t) s [.time, .wick, .recorder] [(.evrStatus, 0)] (fun u =>
      u.now = max s.now t ∧ OnlyWick w s u ∧ wickOf u w = { wickOf s w with frozen := true }))

/-- Requests, due actions and caps of the lamplighter, each where the spec has it act (R56 to R62, R65, R70): a host request is staged
as PENDING, and turned away as BUSY while one is pending; a due time action fires or repeats; an open window's cap ends it. Where
the spec leaves a value or a way open it follows the model's own choices of log entry 35. Commands that it says complete with their
own effect: lltArm, lltDisarm, lltFree, armRequestsApply, timeActionDue, windowCapExpiry. -/
def Obligations.LamplighterCommandsComplete : Prop :=
  (∀ (slot : Fin 16384) (alloc window : Bool) (s : State), s.llt.result ≠ 1 → Effect (.lltArm slot alloc window) s [.llt] [] (fun u =>
      u.llt = { s.llt with result := 1, resultSlot := slot, reqs := s.llt.reqs ++ [{ op := .arm, owner := .host, slot := slot, alloc := alloc, first := actOfWords (fun i => regW s .lltStage i), second := if window then some (actOfWords (fun i => regW s .lltStageEnd i)) else none, frame := frameNow s }] })) ∧
  (∀ (slot : Fin 16384) (alloc window : Bool) (s : State), s.llt.result ≠ 1 → Effect (.lltDisarm slot alloc window) s [.llt] [] (fun u =>
      u.llt = { s.llt with result := 1, resultSlot := slot, reqs := s.llt.reqs ++ [{ op := .disarm, owner := .host, slot := slot, alloc := alloc, first := actOfWords (fun i => regW s .lltStage i), second := none, frame := frameNow s }] })) ∧
  (∀ (slot : Fin 16384) (alloc window : Bool) (s : State), s.llt.result ≠ 1 → Effect (.lltFree slot alloc window) s [.llt] [] (fun u =>
      u.llt = { s.llt with result := 1, resultSlot := slot, reqs := s.llt.reqs ++ [{ op := .free, owner := .host, slot := slot, alloc := alloc, first := actOfWords (fun i => regW s .lltStage i), second := none, frame := frameNow s }] })) ∧
  (∀ (slot : Fin 16384) (alloc window : Bool) (s : State), s.llt.result = 1 → exec (.lltArm slot alloc window) s = .next (report s hostReq (regAddr .lltCmd 0) .busy)) ∧
  (∀ (t : Ns) (s : State), exec (.armRequestsApply t) s = .next (applyReqs (setNow s t))) ∧
  (∀ (slot : Fin 16384) (t : Ns) (s : State),
    lltLive s = true → (slotOf s slot).st = .armed → (slotOf s slot).rec_.keyTime = true → (slotOf s slot).rec_.key ≤ (max s.now t : Nat) → (slotOf s slot).rec_.market = false → dueBefore (setNow s t) slot = [] →
    exec (.timeActionDue slot t) s = .next (let k := (slotOf s slot).rec_.key.toNat
      let u := if waitLate (setNow s t) (slotOf s slot).rec_ k then markLate (setNow s t) slot else setNow s t
      if (slotOf s slot).rec_.rep then advance (runActAt u slot k (max s.now t)) slot else runActAt (setSt u slot .fired) slot k (max s.now t))) ∧
  (∀ (slot : Fin 16384) (t c : Ns) (s : State),
    (slotOf s (winBase slot)).capAt = some c → lltLive s = true → (slotOf s (winBase slot)).st = .open_ → c ≤ t →
    exec (.windowCapExpiry slot t) s = .next (endWindow (setNow s t) (winBase slot) .capped (max s.now t)))

/-- Calibration commands of a moisture channel, each where the spec has it act (R89): a standard starts an average of 400 sets with
result 7 RUNNING; a finished average is kept as pending; abort ends the session and its averages; a command to a channel with an
operation under way answers 1 BUSY and changes nothing else. Where the spec leaves a value or a way open it follows the model's own
choices of log entry 36. Commands that it says complete with their own effect: calOpen, calShort, calLoad, calAir, calAbort,
calAverageDone. -/
def Obligations.CalibrationCompletes : Prop :=
  (∀ (c : Fin 32) (s : State), relit s = false → (chanOf s c).op = none → Effect (.calOpen c) s [.moist] [] (fun u =>
      OnlyChan c s u ∧ chanOf u c = { (if (chanOf s c).spent then { chanOf s c with pOpen := none, pShort := none, pLoad := none, pAir := none, spent := false } else chanOf s c) with session := true, op := some .calOpen, left := 400, acc := [], accCoord := 0, lastOp := 1, result := 7 })) ∧
  (∀ (c : Fin 32) (s : State), relit s = false → (chanOf s c).op = none → Effect (.calShort c) s [.moist] [] (fun u =>
      OnlyChan c s u ∧ chanOf u c = { (if (chanOf s c).spent then { chanOf s c with pOpen := none, pShort := none, pLoad := none, pAir := none, spent := false } else chanOf s c) with session := true, op := some .calShort, left := 400, acc := [], accCoord := 0, lastOp := 2, result := 7 })) ∧
  (∀ (c : Fin 32) (s : State), relit s = false → (chanOf s c).op = none → Effect (.calLoad c) s [.moist] [] (fun u =>
      OnlyChan c s u ∧ chanOf u c = { (if (chanOf s c).spent then { chanOf s c with pOpen := none, pShort := none, pLoad := none, pAir := none, spent := false } else chanOf s c) with session := true, op := some .calLoad, left := 400, acc := [], accCoord := 0, lastOp := 3, result := 7 })) ∧
  (∀ (c : Fin 32) (s : State), relit s = false → (chanOf s c).op = none → Effect (.calAir c) s [.moist] [] (fun u =>
      OnlyChan c s u ∧ chanOf u c = { (if (chanOf s c).spent then { chanOf s c with pOpen := none, pShort := none, pLoad := none, pAir := none, spent := false } else chanOf s c) with session := true, op := some .calAir, left := 400, acc := [], accCoord := 0, lastOp := 4, result := 7 })) ∧
  (∀ (c : Fin 32) (s : State), relit s = true ∨ (chanOf s c).op.isSome = true → Effect (.calOpen c) s [.moist] [] (fun u =>
      OnlyChan c s u ∧ chanOf u c = { chanOf s c with lastOp := 1, result := 1 })) ∧
  (∀ (c : Fin 32) (s : State),
    relit s = false → (∀ k, (chanOf s c).op ≠ some (.capture k)) →
    Effect (.calAbort c) s [.moist] [] (fun u =>
      OnlyChan c s u ∧ chanOf u c = { chanOf s c with session := false, spent := false, pOpen := none, pShort := none, pLoad := none, pAir := none, op := none, lastOp := 6, result := 0 })) ∧
  (∀ (c : Fin 32) (s : State), (chanOf s c).left = 0 → (chanOf s c).op = some .calOpen → Effect (.calAverageDone c) s [.moist] [] (fun u =>
      OnlyChan c s u ∧ chanOf u c = { chanOf s c with op := none, result := 0, pTa := Int.fdiv (chanOf s c).accCoord 400, pOpen := some ((chanOf s c).acc.map (fun z => Cx.scale (fRat 1 400) z)) })) ∧
  (∀ (c : Fin 32) (s : State), (chanOf s c).left = 0 → (chanOf s c).op = some .calShort → Effect (.calAverageDone c) s [.moist] [] (fun u =>
      OnlyChan c s u ∧ chanOf u c = { chanOf s c with op := none, result := 0, pTa := Int.fdiv (chanOf s c).accCoord 400, pShort := some ((chanOf s c).acc.map (fun z => Cx.scale (fRat 1 400) z)) })) ∧
  (∀ (c : Fin 32) (s : State), (chanOf s c).left = 0 → (chanOf s c).op = some .calLoad → Effect (.calAverageDone c) s [.moist] [] (fun u =>
      OnlyChan c s u ∧ chanOf u c = { chanOf s c with op := none, result := 0, pTa := Int.fdiv (chanOf s c).accCoord 400, pLoad := some ((chanOf s c).acc.map (fun z => Cx.scale (fRat 1 400) z)) })) ∧
  (∀ (c : Fin 32) (s : State), (chanOf s c).left = 0 → (chanOf s c).op = some .calAir → Effect (.calAverageDone c) s [.moist] [] (fun u =>
      OnlyChan c s u ∧ chanOf u c = { chanOf s c with op := none, result := 0, pTa := Int.fdiv (chanOf s c).accCoord 400, pAir := some ((chanOf s c).acc.map (fun z => Cx.scale (fRat 1 400) z)) }))

/-- Measurement sets, captures, laboratory values, fits and the commit of a calibration, each where the spec has it act (R79, R80, R89,
R90): a set begins on each used channel at a multiple of 2.5 ms and ends in its inbox; a capture takes 800 sets and is refused with
5 NO_COVER; a laboratory value goes into its slot. Where the spec leaves a value or a way open it follows the model's own choices of
log entry 36. Commands that it says complete with their own effect: measurementSetStart, measurementSetEnd, calCommit, capture,
captureDone, labWrite, fit, clearSamples. -/
def Obligations.MoistureSetsAndSamplesComplete : Prop :=
  (∀ (n : Fin 8) (t : Ns) (s : State),
    coreRuns s = true → t % 2500000 = 0 → aisMeasures (aisOf s n) = true → (aisOf s n).lostDown = false → (aisOf s n).lostUp = false →
    exec (.measurementSetStart n t) s = .next (forEach (upTo 4) (setNow s t) (fun s k => if mstUsed s (4 * n.val + k) && !(chanOf s (4 * n.val + k)).sets.contains t then
      setChan s (4 * n.val + k) { chanOf s (4 * n.val + k) with sets := (chanOf s (4 * n.val + k)).sets ++ [t] } else s))) ∧
  (∀ (c : Fin 32) (t t0 : Ns) (rest : List Nat) (r : SetReading) (s : State), (chanOf s c).sets = t0 :: rest → t0 + 2500000 ≤ t → Effect (.measurementSetEnd c t r) s [.time, .moist, .wax] [] (fun u =>
      u.now = max s.now t ∧ OnlyChan c s u ∧ chanOf u c = { chanOf s c with sets := rest, seq := ((chanOf s c).seq + 1) % 2 ^ 32, inbox := (chanOf s c).inbox ++ [(t, setRecord (setNow s t) c t0 r)] })) ∧
  (∀ (c : Fin 32) (a : List Cx) (k : CalStore) (s : State),
    relit s = false → (chanOf s c).op = none → (chanOf s c).spent = false → (chanOf s c).pOpen = none → (chanOf s c).pShort = none → (chanOf s c).pLoad = none → (chanOf s c).pAir = some a → (chanOf s c).cal = some k →
    exec (.calCommit c) s = .next (calTry s c { k with ta := (chanOf s c).pTa } true a)) ∧
  (∀ (c : Fin 32) (a b d e : List Cx) (s : State),
    relit s = false → (chanOf s c).op = none → (chanOf s c).spent = false → (chanOf s c).pOpen = some a → (chanOf s c).pShort = some b → (chanOf s c).pLoad = some d → (chanOf s c).pAir = some e →
    exec (.calCommit c) s = .next (calTry s c { e00 := (cableTerms a b d).1, e11 := (cableTerms a b d).2.1, e := (cableTerms a b d).2.2, cf := 0#32, ta := (chanOf s c).pTa }
      (termsOk (cableTerms a b d).1 (cableTerms a b d).2.1 (cableTerms a b d).2.2) e)) ∧
  (∀ (c slot : Fin 32) (s : State),
    relit s = false → (chanOf s c).op = none → (chanOf s c).session = false →
    Effect (.capture c slot) s [.moist] [] (fun u =>
      OnlyChan c s u ∧ chanOf u c = { chanOf s c with op := some (.capture slot), left := 800, good := 0, anyUncovered := false, accM2 := 0#32, accTg := 0#32, accRho := 0#32, accStamp := 0, accCoord := 0, lastOp := 7, result := 7 })) ∧
  (∀ (c : Fin 32) (k : Nat) (s : State),
    (chanOf s c).op = some (.capture k) → (chanOf s c).left = 0 → (chanOf s c).good < 600 ∨ (chanOf s c).anyUncovered = true →
    Effect (.captureDone c) s [.moist] [] (fun u =>
      OnlyChan c s u ∧ chanOf u c = { chanOf s c with op := none, result := 5 })) ∧
  (∀ (c : Fin 32) (k : Nat) (s : State),
    (chanOf s c).op = some (.capture k) → (chanOf s c).left = 0 → 600 ≤ (chanOf s c).good → (chanOf s c).anyUncovered = false →
    Yields (.captureDone c) s (fun u => OnlyChan c s u ∧ (chanOf u c).op = none ∧ (chanOf u c).result = 0 ∧ (sampleOf (chanOf u c) k).captured = true ∧
      (sampleOf (chanOf u c) k).m2 = fDiv (chanOf s c).accM2 (fOfNat (chanOf s c).good))) ∧
  (∀ (c slot : Fin 32) (s : State), relit s = false → Effect (.labWrite c slot) s [.moist] [] (fun u =>
      OnlyChan c s u ∧ chanOf u c = { chanOf s c with lastOp := 8, result := 0, samples := spSet Sample.empty (chanOf s c).samples slot { sampleOf (chanOf s c) slot with lab := some (regW s .mstLab c) } })) ∧
  (∀ (c : Fin 32) (s : State),
    relit s = false → calRuns (chanOf s c) = false → (chanOf s c).session = false → labPairs (chanOf s c) ≠ [] → fitOk (fitOf (labPairs (chanOf s c))) = true →
    Yields (.fit c) s (fun u => OnlyChan c s u ∧ (chanOf u c).result = 0 ∧ (chanOf u c).lastOp = 9 ∧ (chanOf u c).fits.head? =
      some { table := regF s .mstCfg c 4 6, s := (fitOf (labPairs (chanOf s c))).1, b := (fitOf (labPairs (chanOf s c))).2 })) ∧
  (∀ (c : Fin 32) (s : State), relit s = false → Yields (.clearSamples c) s (fun u => OnlyChan c s u ∧ (chanOf u c).samples = []))

/-- Commands and checkpoints of a column's parcels, each where the spec has it act (R111, R112, R117): a command of PCL_CMD waits for
the run whose input set carries it, and the wax keeps the write; in that run accept clears stale in every parcel, set_empty makes
every parcel EMPTY, discard ends a DRAINING column, checkpoint_now captures the column; a written image becomes valid and the other
copy is the next to be written, a failed write sets ckpt_fault. Where the spec leaves a value or a way open it follows the model's
own choices of log entry 37. Commands that it says complete with their own effect: pclAccept, pclSetEmpty, pclCheckpointNow,
pclClearDiag, pclDiscard, checkpointCapture, checkpointWriteComplete. -/
def Obligations.ColumnCommandsComplete : Prop :=
  (∀ (c : Fin 16) (s : State), s.rlt.ctx = none → Effect (.pclAccept c) s [.col, .wax] [] (fun u =>
      u.wax = (addItem s (.write (regAddr .pclCmd c) 1#32)).wax ∧ OnlyCol c s u ∧ colOf u c = { colOf s c with cmds := (colOf s c).cmds ++ [.accept] })) ∧
  (∀ (c : Fin 16) (s : State), s.rlt.ctx = none → Effect (.pclSetEmpty c) s [.col, .wax] [] (fun u =>
      u.wax = (addItem s (.write (regAddr .pclCmd c) 2#32)).wax ∧ OnlyCol c s u ∧ colOf u c = { colOf s c with cmds := (colOf s c).cmds ++ [.setEmpty] })) ∧
  (∀ (c : Fin 16) (s : State), s.rlt.ctx = none → Effect (.pclCheckpointNow c) s [.col, .wax] [] (fun u =>
      u.wax = (addItem s (.write (regAddr .pclCmd c) 3#32)).wax ∧ OnlyCol c s u ∧ colOf u c = { colOf s c with cmds := (colOf s c).cmds ++ [.checkpoint] })) ∧
  (∀ (c : Fin 16) (s : State), s.rlt.ctx = none → Effect (.pclClearDiag c) s [.col, .wax] [] (fun u =>
      u.wax = (addItem s (.write (regAddr .pclCmd c) 4#32)).wax ∧ OnlyCol c s u ∧ colOf u c = { colOf s c with cmds := (colOf s c).cmds ++ [.clearDiag] })) ∧
  (∀ (c : Fin 16) (s : State), s.rlt.ctx = none → Effect (.pclDiscard c) s [.col, .wax] [] (fun u =>
      u.wax = (addItem s (.write (regAddr .pclCmd c) 5#32)).wax ∧ OnlyCol c s u ∧ colOf u c = { colOf s c with cmds := (colOf s c).cmds ++ [.discard] })) ∧
  (∀ (c : Fin 16) (s : State), s.rlt.ctx.isSome = true →
    exec (.pclAccept c) s = .next (report s hostReq (regAddr .pclCmd c) .busy) ∧
    exec (.pclSetEmpty c) s = .next (report s hostReq (regAddr .pclCmd c) .busy) ∧
    exec (.pclCheckpointNow c) s = .next (report s hostReq (regAddr .pclCmd c) .busy) ∧
    exec (.pclClearDiag c) s = .next (report s hostReq (regAddr .pclCmd c) .busy) ∧
    exec (.pclDiscard c) s = .next (report s hostReq (regAddr .pclCmd c) .busy)) ∧
  (∀ (c : Fin 16) (s : State), Changes s (colCmd s c .accept) [.col, .recorder] [(.evrStatus, 0)] (fun u =>
      OnlyCol c s u ∧ colOf u c = (colOf s c).mapAll (fun p => if p.has 5 then (p.flag 5 false).flag 7 true else p))) ∧
  (∀ (c : Fin 16) (s : State), Changes s (colCmd s c .setEmpty) [.col, .recorder] [(.evrStatus, 0)] (fun u =>
      OnlyCol c s u ∧ colOf u c = { (colOf s c).mapAll (fun p => { p with kind := 3 }.flag 5 false) with lastIn := none })) ∧
  (∀ (c : Fin 16) (s : State), colLive (colOf (t0 s) c) = true → Changes s (colCmd s c .checkpoint) [.col] [] (fun u =>
      OnlyAt colOf c s u ∧ (colOf u c).writing = (colOf s c).writing ++ [colImage (t0 s) c (s.frame * 125000)])) ∧
  (∀ (c : Fin 16) (s : State), Changes s (colCmd s c .clearDiag) [.col] [] (fun u =>
      OnlyCol c s u ∧ colOf u c = { colOf s c with drops := 0, unknowns := 0 })) ∧
  (∀ (c : Fin 16) (s : State), (colOf s c).st = .draining → Changes s (colCmd s c .discard) [.col, .recorder] [(.evrStatus, 0)] (fun u =>
      OnlyCol c s u ∧ colOf u c = { colOf s c with st := .disabled, table := [], shadow := [] })) ∧
  (∀ (c : Fin 16) (s : State), (colOf s c).st ≠ .draining → colCmd s c .discard = s) ∧
  (∀ (c : Fin 16) (t : Ns) (s : State), coreRuns s = true → captureDue s c t = true → exec (.checkpointCapture c t) s = .next (colCapture (atFrame (setNow s t) t) (setNow s t) c t)) ∧
  (∀ (c : Fin 16) (m : Ckpt) (rest : List Ckpt) (s : State), (colOf s c).writing = m :: rest → Effect (.checkpointWriteComplete c true) s [.col] [] (fun u =>
      OnlyCol c s u ∧ (colOf u c).writing = rest ∧ (colOf u c).nextB = !(colOf s c).nextB ∧
      (if (colOf s c).nextB then (colOf u c).imgB else (colOf u c).imgA) = some m)) ∧
  (∀ (c : Fin 16) (m : Ckpt) (rest : List Ckpt) (s : State), (colOf s c).writing = m :: rest → Yields (.checkpointWriteComplete c false) s (fun u => OnlyCol c s u ∧ ((colOf u c).writing = rest ∧ (colOf u c).nextB = (colOf s c).nextB) ∧ regB u .pclStatus c 7 = true))

/-- Commands and timers of a drying column and the minimum time of an aeration group, each where the spec has it act (R122, R127, R132,
R140, R144, R148): a command of DRY_CMD waits for the run whose input set carries it, and the wax keeps the write; in that run the
state table's commands act from the states that take them, DRY_STATE where the state does not take one; a time that has run out is
acted on at the next run. Where the spec leaves a value or a way open it follows the model's own choices of log entry 38. Commands
that it says complete with their own effect: dryStartCont, dryStartBatch, dryCoolDown, dryStop, dryResume, dryResetAdapt,
dryClearBias, dryCoolMaxExpiry, inputSubstTimeout, fbOnlyTimeout, aerMinTimeExpiry. -/
def Obligations.DryingCommandsComplete : Prop :=
  (∀ (c : Fin 16) (s : State), s.rlt.ctx = none → Effect (.dryStartCont c) s [.col, .wax] [] (fun u =>
      u.wax = (addItem s (.write (regAddr .dryCmd c) 1#32)).wax ∧ OnlyDry c s u ∧ dryOf u c = { dryOf s c with cmds := (dryOf s c).cmds ++ [.startCont] })) ∧
  (∀ (c : Fin 16) (s : State), s.rlt.ctx = none → Effect (.dryStartBatch c) s [.col, .wax] [] (fun u =>
      u.wax = (addItem s (.write (regAddr .dryCmd c) 2#32)).wax ∧ OnlyDry c s u ∧ dryOf u c = { dryOf s c with cmds := (dryOf s c).cmds ++ [.startBatch] })) ∧
  (∀ (c : Fin 16) (s : State), s.rlt.ctx = none → Effect (.dryCoolDown c) s [.col, .wax] [] (fun u =>
      u.wax = (addItem s (.write (regAddr .dryCmd c) 3#32)).wax ∧ OnlyDry c s u ∧ dryOf u c = { dryOf s c with cmds := (dryOf s c).cmds ++ [.coolDown] })) ∧
  (∀ (c : Fin 16) (s : State), s.rlt.ctx = none → Effect (.dryStop c) s [.col, .wax] [] (fun u =>
      u.wax = (addItem s (.write (regAddr .dryCmd c) 4#32)).wax ∧ OnlyDry c s u ∧ dryOf u c = { dryOf s c with cmds := (dryOf s c).cmds ++ [.stop] })) ∧
  (∀ (c : Fin 16) (s : State), s.rlt.ctx = none → Effect (.dryResume c) s [.col, .wax] [] (fun u =>
      u.wax = (addItem s (.write (regAddr .dryCmd c) 5#32)).wax ∧ OnlyDry c s u ∧ dryOf u c = { dryOf s c with cmds := (dryOf s c).cmds ++ [.resume] })) ∧
  (∀ (c : Fin 16) (s : State), s.rlt.ctx = none → Effect (.dryResetAdapt c) s [.col, .wax] [] (fun u =>
      u.wax = (addItem s (.write (regAddr .dryCmd c) 6#32)).wax ∧ OnlyDry c s u ∧ dryOf u c = { dryOf s c with cmds := (dryOf s c).cmds ++ [.resetAdapt] })) ∧
  (∀ (c : Fin 16) (s : State), s.rlt.ctx = none → Effect (.dryClearBias c) s [.col, .wax] [] (fun u =>
      u.wax = (addItem s (.write (regAddr .dryCmd c) 7#32)).wax ∧ OnlyDry c s u ∧ dryOf u c = { dryOf s c with cmds := (dryOf s c).cmds ++ [.clearBias] })) ∧
  (∀ (c : Fin 16) (s : State), s.rlt.ctx.isSome = true →
    exec (.dryStartCont c) s = .next (report s hostReq (regAddr .dryCmd c) .busy) ∧
    exec (.dryStartBatch c) s = .next (report s hostReq (regAddr .dryCmd c) .busy) ∧
    exec (.dryCoolDown c) s = .next (report s hostReq (regAddr .dryCmd c) .busy) ∧
    exec (.dryStop c) s = .next (report s hostReq (regAddr .dryCmd c) .busy) ∧
    exec (.dryResume c) s = .next (report s hostReq (regAddr .dryCmd c) .busy) ∧
    exec (.dryResetAdapt c) s = .next (report s hostReq (regAddr .dryCmd c) .busy) ∧
    exec (.dryClearBias c) s = .next (report s hostReq (regAddr .dryCmd c) .busy)) ∧
  (∀ (c : Fin 16) (s : State), (dryOf s c).st = .off → Changes s (dryCmd s c .startCont) [.col] [] (fun u =>
      OnlyDry c s u ∧ dryOf u c = { dryOf s c with st := .cont, rOut := rMin s c, source := 2, holdSince := none })) ∧
  (∀ (c : Fin 16) (s : State), (dryOf s c).st = .off → Changes s (dryCmd s c .startBatch) [.col] [] (fun u =>
      OnlyDry c s u ∧ dryOf u c = { dryOf s c with st := .batchDry, rOut := regW s .dryBatchRate c })) ∧
  (∀ (c : Fin 16) (s : State), (dryOf s c).st = .cont → Changes s (dryCmd s c .coolDown) [.col] [] (fun u =>
      OnlyDry c s u ∧ dryOf u c = { dryOf s c with st := .coolDown, trim := 0#32, coolSince := s.now, coolOver := false, rOut := fOfNat (regF s .dryCool c 18 14) })) ∧
  (∀ (c : Fin 16) (s : State), (dryOf s c).st = .night → Changes s (dryCmd s c .coolDown) [.col] [] (fun u =>
      OnlyDry c s u ∧ dryOf u c = { dryOf s c with st := .coolDown, trim := 0#32, coolSince := s.now, coolOver := false, rOut := fOfNat (regF s .dryCool c 18 14) })) ∧
  (∀ (c : Fin 16) (s : State), Changes s (dryCmd s c .stop) [.col] [] (fun u =>
      OnlyDry c s u ∧ dryOf u c = { dryOf s c with st := .off, rOut := 0#32, trim := 0#32 })) ∧
  (∀ (c : Fin 16) (s : State), (dryOf s c).st = .night → Changes s (dryCmd s c .resume) [.col] [] (fun u =>
      OnlyDry c s u ∧ dryOf u c = { dryOf s c with st := .cont, holdSince := none })) ∧
  (∀ (c : Fin 16) (s : State), Changes s (dryCmd s c .clearBias) [.col] [] (fun u =>
      OnlyDry c s u ∧ dryOf u c = { dryOf s c with beta := 0#32 })) ∧
  (∀ (c : Fin 16) (s : State), (dryOf s c).st ≠ .off → Changes s (dryCmd s c .startCont) [] [(.dryStatus, c)] (fun u =>
      regB u .dryStatus c 13 = true)) ∧
  (∀ (c : Fin 16) (s : State), (dryOf s c).st ≠ .off → Changes s (dryCmd s c .startBatch) [] [(.dryStatus, c)] (fun u =>
      regB u .dryStatus c 13 = true)) ∧
  (∀ (c : Fin 16) (s : State), (dryOf s c).st ≠ .cont ∧ (dryOf s c).st ≠ .night → Changes s (dryCmd s c .coolDown) [] [(.dryStatus, c)] (fun u =>
      regB u .dryStatus c 13 = true)) ∧
  (∀ (c : Fin 16) (s : State), (dryOf s c).st ≠ .night → Changes s (dryCmd s c .resume) [] [(.dryStatus, c)] (fun u =>
      regB u .dryStatus c 13 = true)) ∧
  (∀ (c : Fin 16) (s : State), Changes s (dryCmd s c .resetAdapt) [.col, .recorder] [(.evrStatus, 0)] (fun u =>
      OnlyDry c s u ∧ dryOf u c = adaptReset s (dryOf s c) (adaptTable s c))) ∧
  (∀ (c : Fin 16) (t : Ns) (s : State), coolOut (setNow s t) c = true → Effect (.dryCoolMaxExpiry c t) s [.time, .col] [] (fun u =>
      u.now = max s.now t ∧ OnlyDry c s u ∧ dryOf u c = { dryOf s c with coolOver := true })) ∧
  (∀ (c : Fin 16) (s : State), (dryOf s c).st = .batchCool → (dryOf s c).coolOver = true → Changes s (endCool s c false) [.col, .recorder] [(.evrStatus, 0)] (fun u =>
      OnlyDry c s u ∧ dryOf u c = { dryOf s c with st := .batchDone, rOut := 0#32, trim := 0#32, coolSince := s.now, coolOver := false })) ∧
  (∀ (c : Fin 16) (s : State), (dryOf s c).st = .coolDown → (dryOf s c).coolOver = true → Changes s (endCool s c false) [.col, .recorder] [(.evrStatus, 0)] (fun u =>
      OnlyDry c s u ∧ dryOf u c = { dryOf s c with st := .off, rOut := 0#32, trim := 0#32, coolSince := s.now, coolOver := false })) ∧
  (∀ (c : Fin 16) (inp : Nat) (t since : Ns) (s : State),
    lookup (dryOf s c).fails inp = some since → since + 60 * 1000000000 ≤ t → (dryOf s c).overT.contains inp = false →
    Effect (.inputSubstTimeout c inp t) s [.time, .col, .recorder] [(.evrStatus, 0)] (fun u =>
      u.now = max s.now t ∧ OnlyDry c s u ∧ dryOf u c = { dryOf s c with overT := inp :: (dryOf s c).overT })) ∧
  (∀ (c : Fin 16) (t : Ns) (s : State),
    fbDue (setNow s t) c (dryOf s c) = true → heldNow (setNow s t) c = false →
    Effect (.fbOnlyTimeout c t) s [.time, .col] [] (fun u =>
      u.now = max s.now t ∧ OnlyDry c s u ∧ dryOf u c = { dryOf s c with source := 3 })) ∧
  (∀ (g : Fin 64) (t : Ns) (s : State), aerMinOver (setNow s t) g = true → Effect (.aerMinTimeExpiry g t) s [.time, .col] [] (fun u =>
      u.now = max s.now t ∧ aerOf u g = { aerOf s g with minOver := true } ∧ ((∀ j, j ≠ g.val → aerOf u j = aerOf s j))))

/-- Engines, transactions and basket counts, each where the spec has it act (R158 to R160, R168, R169, R172, R173): a reply that has not
come after 160 frames admits LOST and quarantines its tag, which is free again after 320; an engine that halts is marked so, and the
runs of the frame that it has not completed have no effect. The counts are cleared outside a relight. Where the spec leaves a value
or a way open it follows the model's own choices of log entries 39, 40. Commands that it says complete with their own effect:
tagQuarantineEnd, transactionTimeout, engineHalt, deadlineAbort, engClearPeak, engClearCounts, bskClearCounts. -/
def Obligations.EngineCommandsComplete : Prop :=
  (∀ (tag : Fin 4096) (t : Ns) (x : Tag) (s : State),
    tagOf s tag = some x → x.quarantined = true → x.frame + 320 ≤ t / 125000 →
    Effect (.tagQuarantineEnd tag t) s [.time, .eng] [] (fun u =>
      u.now = max s.now t ∧ tagOf u tag = none ∧ u.eng = { s.eng with tags := spDel s.eng.tags tag })) ∧
  (∀ (tag : Fin 4096) (t : Ns) (x : Tag) (s : State),
    tagOf s tag = some x → x.late (t / 125000) = true → replyWaits (setNow s t) tag = false →
    exec (.transactionTimeout tag t) s = .next (let s1 := setTag (setNow s t) tag (some { x with quarantined := true })
      let s2 := tagFlag { s1 with eng := { s1.eng with tagLost := satInc 16 s1.eng.tagLost } } 1
      { s2 with eng := { s2.eng with arrivals := s2.eng.arrivals ++ [plain x.reply (.lost tag)] } })) ∧
  (∀ (tag : Fin 4096) (t : Ns) (x : Tag) (s : State),
    tagOf s tag = some x → x.late (t / 125000) = false ∨ replyWaits (setNow s t) tag = true →
    exec (.transactionTimeout tag t) s = .next (setNow s t)) ∧
  (∀ (e : Fin 128) (cause : Fin 4) (t : Ns) (s : State),
    cause ≠ 0 → (engOf s e).halted = false → s.pair.st ≠ .active → s.before = none →
    Effect (.engineHalt e cause t) s [.time, .eng, .recorder, .wax] [(.evrStatus, 0)] (fun u =>
      u.now = max s.now t ∧ OnlyAt engOf e s u ∧ engOf u e = { engOf s e with halted := true, haltCause := cause })) ∧
  (∀ (e : Fin 128) (cause : Fin 4) (t : Ns) (s : State), cause ≠ 0 → exec (.engineHalt e cause t) s = .next (atOnce (haltEngine (setNow s t) e cause) 1)) ∧
  (∀ (e : Fin 128) (i : Fin 8192) (t : Ns) (k : KeyImage) (s : State),
    s.before = some k → t / 125000 = s.frame → (dueOf (setNow s t) e).any (fun p => p.1 == i.val) = true → (engOf s e).halted = false → relit s = false →
    exec (.deadlineAbort e i t) s = .next (noteMiss (abortRuns (withImage (setNow s t) k) (setNow s t) e i) e i ((dueOf (setNow s t) e).filter (fun p => decide (i.val < p.1))).length)) ∧
  (∀ (e : Fin 128) (s : State), s.rlt.ctx = none → Effect (.engClearPeak e) s [.eng, .wax] [] (fun u =>
      u.wax = (addItem s (.write (regAddr .engCmd e) 1#32)).wax ∧ OnlyEng e s u ∧ engOf u e = { engOf s e with peak := 0 })) ∧
  (∀ (e : Fin 128) (s : State), s.rlt.ctx = none → Effect (.engClearCounts e) s [.eng, .wax] [] (fun u =>
      u.wax = (addItem s (.write (regAddr .engCmd e) 2#32)).wax ∧ OnlyEng e s u ∧ engOf u e = { engOf s e with misses := 0, skipped := 0 })) ∧
  (∀ (s : State), s.rlt.ctx = none → Effect (.bskClearCounts) s [.eng, .wax] [] (fun u =>
      u.wax = (addItem s (.write (regAddr .bskCmd 0) 1#32)).wax ∧ OnlyBsk (regF s .bskSel 0 0 15) s u ∧ bskOf u (regF s .bskSel 0 0 15) = { bskOf s (regF s .bskSel 0 0 15) with drops := 0, overwrites := 0, peak := 0 })) ∧
  (∀ (e : Fin 128) (s : State), s.rlt.ctx.isSome = true →
    exec (.engClearPeak e) s = .next (report s hostReq (regAddr .engCmd e) .busy) ∧
    exec (.engClearCounts e) s = .next (report s hostReq (regAddr .engCmd e) .busy) ∧
    exec (.bskClearCounts) s = .next (report s hostReq (regAddr .bskCmd 0) .busy))

/-- The five ops of a taper (R175 to R178): a row waits for the taper's run, and the wax keeps the write; there run and track leave the
plan at the present value and rate, hold brings the taper to rest at y_stop, set_value sets the output at once and is refused in
RUN, where the row answers ACCESS_BUSY, and apply_coord takes the endpoints of the coordinate curve. Where the spec leaves a value
or a way open it follows the model's own choices of log entries 5, 41. Commands that it says complete with their own effect: tprRun,
tprHold, tprTrack, tprSetValue, tprApplyCoord. -/
def Obligations.TaperCommandsComplete : Prop :=
  (∀ (j : Fin 256) (s : State), s.rlt.ctx = none → Effect (.tprRun j) s [.loop, .wax] [] (fun u =>
      u.wax = (addItem s (.write (regAddr .tprCmd j) 1#32)).wax ∧ OnlyTaper j s u ∧ taperOf u j = { taperOf s j with cmds := (taperOf s j).cmds ++ [.run] })) ∧
  (∀ (j : Fin 256) (s : State), s.rlt.ctx = none → Effect (.tprHold j) s [.loop, .wax] [] (fun u =>
      u.wax = (addItem s (.write (regAddr .tprCmd j) 2#32)).wax ∧ OnlyTaper j s u ∧ taperOf u j = { taperOf s j with cmds := (taperOf s j).cmds ++ [.hold] })) ∧
  (∀ (j : Fin 256) (s : State), s.rlt.ctx = none → Effect (.tprTrack j) s [.loop, .wax] [] (fun u =>
      u.wax = (addItem s (.write (regAddr .tprCmd j) 3#32)).wax ∧ OnlyTaper j s u ∧ taperOf u j = { taperOf s j with cmds := (taperOf s j).cmds ++ [.track] })) ∧
  (∀ (j : Fin 256) (s : State), s.rlt.ctx = none → (taperOf s j).mode ≠ .run → Effect (.tprSetValue j) s [.loop, .wax] [] (fun u =>
      u.wax = (addItem s (.write (regAddr .tprCmd j) 4#32)).wax ∧ OnlyTaper j s u ∧ taperOf u j = { taperOf s j with cmds := (taperOf s j).cmds ++ [.setValue] })) ∧
  (∀ (j : Fin 256) (s : State), (taperOf s j).mode = .run → exec (.tprSetValue j) s = .next (report (stick s .tprStatus j 7) hostReq (regAddr .tprCmd j) .busy)) ∧
  (∀ (j : Fin 256) (s : State), (taperOf s j).mode ≠ .run → s.rlt.ctx.isSome = true → exec (.tprSetValue j) s = .next (report s hostReq (regAddr .tprCmd j) .busy)) ∧
  (∀ (j : Fin 256) (fromPresent : Bool) (s : State), s.rlt.ctx = none → Effect (.tprApplyCoord j fromPresent) s [.loop, .wax] [] (fun u =>
      u.wax = (addItem s (.write (regAddr .tprCmd j) (5#32 ||| putB 3 fromPresent))).wax ∧ OnlyTaper j s u ∧ taperOf u j = { taperOf s j with cmds := (taperOf s j).cmds ++ [(.applyCoord fromPresent)] })) ∧
  (∀ (j : Fin 256) (fromPresent : Bool) (s : State), s.rlt.ctx.isSome = true →
    exec (.tprRun j) s = .next (report s hostReq (regAddr .tprCmd j) .busy) ∧
    exec (.tprHold j) s = .next (report s hostReq (regAddr .tprCmd j) .busy) ∧
    exec (.tprTrack j) s = .next (report s hostReq (regAddr .tprCmd j) .busy) ∧
    exec (.tprApplyCoord j fromPresent) s = .next (report s hostReq (regAddr .tprCmd j) .busy)) ∧
  (∀ (j : Fin 256) (t : Nat) (s : State), Changes s (tprCmd s j t .run) [.loop] [(.tprStatus, j)] (fun u =>
      OnlyTaper j s u ∧ taperOf u j = { taperOf s j with mode := .run, plan := none, y := ((taperOf s j).present t).1, r := ((taperOf s j).present t).2 } ∧ ((taperOf s j).busy t = true → regB u .tprStatus j 6 = true))) ∧
  (∀ (j : Fin 256) (t : Nat) (s : State), Changes s (tprCmd s j t .hold) [.loop] [(.tprStatus, j)] (fun u =>
      OnlyTaper j s u ∧ (taperOf u j).mode = .hold ∧ (taperOf u j).plan = some (makePlan t ((taperOf s j).present t).1 ((taperOf s j).present t).2 (yStop ((taperOf s j).present t).1 ((taperOf s j).present t).2 (regW s .tprJerk j)) (regW s .tprAcc j) (regW s .tprJerk j)) ∧ ((taperOf s j).busy t = true → regB u .tprStatus j 6 = true))) ∧
  (∀ (j : Fin 256) (t : Nat) (s : State), Changes s (tprCmd s j t .track) [.loop] [] (fun u =>
      OnlyTaper j s u ∧ taperOf u j = { taperOf s j with mode := .track, plan := none, y := ((taperOf s j).present t).1, r := ((taperOf s j).present t).2 })) ∧
  (∀ (j : Fin 256) (t : Nat) (s : State), (taperOf s j).mode ≠ .run → Changes s (tprCmd s j t .setValue) [.loop] [] (fun u =>
      OnlyTaper j s u ∧ taperOf u j = { taperOf s j with y := regW s .tprTarget j, r := 0#32, plan := none, atTarget := true, remain := 0#32 })) ∧
  (∀ (j : Fin 256) (t : Nat) (s : State), (taperOf s j).mode = .run → Changes s (tprCmd s j t .setValue) [] [(.tprStatus, j)] (fun u =>
      regB u .tprStatus j 7 = true)) ∧
  (∀ (j : Fin 256) (t : Nat) (fromPresent : Bool) (s : State), Changes s (tprCmd s j t (.applyCoord fromPresent)) [.loop] [] (fun u =>
      OnlyTaper j s u ∧ taperOf u j = { taperOf s j with xa := regI64 s .tprXaLo .tprXaHi j, xb := regI64 s .tprXbLo .tprXbHi j, ya := if fromPresent then (taperOf s j).y else regW s .tprYa j, yb := regW s .tprYb j }))

/-- Commands and findings of a supervised loop, each where the spec has it act (R181, R182, R184 to R188): a row waits for the
supervisor's run, and the wax keeps the write; a command that the mode does not take is refused with loop_state there, and u_man is
not changed where the host has written it in the same frame (R10); a new finding in a normal mode of a loop whose reaction is HOLD
leaves it HELD with that cause; HELD for longer than t_hold_max goes to SAFE. Where the spec leaves a value or a way open it follows
the model's own choices of log entry 41. Commands that it says complete with their own effect: loopAuto, loopManual, loopReset,
loopClearFindings, supervisionTimerExpiry, loopSilent, loopStuckExpiry, loopReturn, loopHoldMaxExpiry. -/
def Obligations.LoopCommandsComplete : Prop :=
  (∀ (i : Fin 512) (s : State), s.rlt.ctx = none → Effect (.loopAuto i) s [.loop, .wax] [] (fun u =>
      u.wax = (addItem s (.write (regAddr .loopCmd i) 1#32)).wax ∧ OnlyLoop i s u ∧ loopOf u i = { loopOf s i with cmds := (loopOf s i).cmds ++ [.auto] })) ∧
  (∀ (i : Fin 512) (s : State), s.rlt.ctx = none → Effect (.loopManual i) s [.loop, .wax] [] (fun u =>
      u.wax = (addItem s (.write (regAddr .loopCmd i) 2#32)).wax ∧ OnlyLoop i s u ∧ loopOf u i = { loopOf s i with cmds := (loopOf s i).cmds ++ [.manual] })) ∧
  (∀ (i : Fin 512) (s : State), s.rlt.ctx = none → Effect (.loopReset i) s [.loop, .wax] [] (fun u =>
      u.wax = (addItem s (.write (regAddr .loopCmd i) 3#32)).wax ∧ OnlyLoop i s u ∧ loopOf u i = { loopOf s i with cmds := (loopOf s i).cmds ++ [.reset] })) ∧
  (∀ (i : Fin 512) (s : State), s.rlt.ctx = none → Effect (.loopClearFindings i) s [.loop, .wax] [] (fun u =>
      u.wax = (addItem s (.write (regAddr .loopCmd i) 4#32)).wax ∧ OnlyLoop i s u ∧ loopOf u i = { loopOf s i with nLost := 0, nFrozen := 0, nFollow := 0, nImpl := 0 })) ∧
  (∀ (i : Fin 512) (s : State), s.rlt.ctx.isSome = true →
    exec (.loopAuto i) s = .next (report s hostReq (regAddr .loopCmd i) .busy) ∧
    exec (.loopManual i) s = .next (report s hostReq (regAddr .loopCmd i) .busy) ∧
    exec (.loopReset i) s = .next (report s hostReq (regAddr .loopCmd i) .busy) ∧
    exec (.loopClearFindings i) s = .next (report s hostReq (regAddr .loopCmd i) .busy)) ∧
  (∀ (i : Fin 512) (s : State), (loopOf s i).st = .manual → Changes s (loopCmd s i .auto) [.loop] [] (fun u =>
      OnlyLoop i s u ∧ loopOf u i = { loopOf s i with st := .auto })) ∧
  (∀ (i : Fin 512) (s : State), (loopOf s i).st = .night → Changes s (loopCmd s i .auto) [.loop] [] (fun u =>
      OnlyLoop i s u ∧ loopOf u i = { loopOf s i with st := .auto })) ∧
  (∀ (i : Fin 512) (s : State),
    (loopOf s i).st = .auto ∨ (loopOf s i).st = .track ∨ (loopOf s i).st = .observer ∨ (loopOf s i).st = .safe ∨ (loopOf s i).st = .tripped →
    Changes s (loopCmd s i .auto) [] [(.loopStatus, i)] (fun u =>
      regB u .loopStatus i 13 = true)) ∧
  (∀ (i : Fin 512) (s : State), (loopOf s i).st ≠ .auto ∧ (loopOf s i).st ≠ .night → Changes s (loopCmd s i .manual) [] [(.loopStatus, i)] (fun u =>
      regB u .loopStatus i 13 = true)) ∧
  (∀ (i : Fin 512) (s : State), (loopOf s i).st ≠ .safe ∧ (loopOf s i).st ≠ .tripped → Changes s (loopCmd s i .reset) [] [(.loopStatus, i)] (fun u =>
      regB u .loopStatus i 13 = true)) ∧
  (∀ (i : Fin 512) (s : State),
    (loopOf s i).st = .auto → s.glb.wrote.contains (regAddr .loopMan i) = false →
    Changes s (loopCmd s i .manual) [.loop, .inForce] [(.loopMan, i)] (fun u =>
      OnlyLoop i s u ∧ loopOf u i = { loopOf s i with st := .manual } ∧ regW u .loopMan i = (loopOf s i).ua)) ∧
  (∀ (i : Fin 512) (s : State),
    (loopOf s i).st = .auto → s.glb.wrote.contains (regAddr .loopMan i) = true →
    Changes s (loopCmd s i .manual) [.loop] [] (fun u =>
      OnlyLoop i s u ∧ loopOf u i = { loopOf s i with st := .manual })) ∧
  (∀ (i : Fin 512) (s : State),
    (loopOf s i).st = .night → s.glb.wrote.contains (regAddr .loopMan i) = false →
    Changes s (loopCmd s i .manual) [.loop, .inForce] [(.loopMan, i)] (fun u =>
      OnlyLoop i s u ∧ loopOf u i = { loopOf s i with st := .manual } ∧ regW u .loopMan i = (loopOf s i).ua)) ∧
  (∀ (i : Fin 512) (s : State),
    (loopOf s i).st = .night → s.glb.wrote.contains (regAddr .loopMan i) = true →
    Changes s (loopCmd s i .manual) [.loop] [] (fun u =>
      OnlyLoop i s u ∧ loopOf u i = { loopOf s i with st := .manual })) ∧
  (∀ (i : Fin 512) (s : State),
    (loopOf s i).st = .safe → s.glb.wrote.contains (regAddr .loopMan i) = false →
    Changes s (loopCmd s i .reset) [.loop, .inForce, .recorder] [(.loopMan, i), (.evrStatus, 0)] (fun u =>
      OnlyLoop i s u ∧ loopOf u i = { loopOf s i with st := .manual, cause := 0, finds := [], tauF := 0, tauI := 0, stuckAt := none, silentRuns := 0 } ∧ regW u .loopMan i = (loopOf s i).ua)) ∧
  (∀ (i : Fin 512) (s : State),
    (loopOf s i).st = .tripped → s.glb.wrote.contains (regAddr .loopMan i) = false →
    Changes s (loopCmd s i .reset) [.loop, .inForce, .recorder] [(.loopMan, i), (.evrStatus, 0)] (fun u =>
      OnlyLoop i s u ∧ loopOf u i = { loopOf s i with st := .manual, cause := 0, finds := [], tauF := 0, tauI := 0, stuckAt := none, silentRuns := 0 } ∧ regW u .loopMan i = regW s .loopTrip i)) ∧
  (∀ (i : Fin 512) (t : Ns) (s : State),
    supervised s i = true → findHolds (setNow s t) i t .following = true → (loopOf s i).finds.contains .following = false → normalMode (loopOf s i).st = true → loopReaction s i = 0 →
    Yields (.supervisionTimerExpiry i true t) s (fun u => (loopOf u i).st = .held ∧ (loopOf u i).cause = Finding.code .following ∧ (loopOf u i).finds = .following :: (loopOf s i).finds ∧ (loopOf u i).heldSince = max s.now t)) ∧
  (∀ (i : Fin 512) (t : Ns) (s : State),
    supervised s i = true → findHolds (setNow s t) i t .implausible = true → (loopOf s i).finds.contains .implausible = false → normalMode (loopOf s i).st = true → loopReaction s i = 0 →
    Yields (.supervisionTimerExpiry i false t) s (fun u => (loopOf u i).st = .held ∧ (loopOf u i).cause = Finding.code .implausible ∧ (loopOf u i).finds = .implausible :: (loopOf s i).finds ∧ (loopOf u i).heldSince = max s.now t)) ∧
  (∀ (i : Fin 512) (t : Ns) (s : State),
    supervised s i = true → findHolds (setNow s t) i t .silent = true → (loopOf s i).finds.contains .silent = false → normalMode (loopOf s i).st = true → loopReaction s i = 0 →
    Yields (.loopSilent i t) s (fun u => (loopOf u i).st = .held ∧ (loopOf u i).cause = Finding.code .silent ∧ (loopOf u i).finds = .silent :: (loopOf s i).finds ∧ (loopOf u i).heldSince = max s.now t)) ∧
  (∀ (i : Fin 512) (t : Ns) (s : State),
    supervised s i = true → findHolds (setNow s t) i t .frozen = true → (loopOf s i).finds.contains .frozen = false → normalMode (loopOf s i).st = true → loopReaction s i = 0 →
    Yields (.loopStuckExpiry i t) s (fun u => (loopOf u i).st = .held ∧ (loopOf u i).cause = Finding.code .frozen ∧ (loopOf u i).finds = .frozen :: (loopOf s i).finds ∧ (loopOf u i).heldSince = max s.now t)) ∧
  (∀ (i : Fin 512) (t : Ns) (s : State),
    supervised s i = true → okHeld (setNow s t) i = true → (loopOf s i).st = .observer ∨ ((loopOf s i).st = .held ∧ regB s .loopCfg i 6 = true) →
    exec (.loopReturn i t) s = .next (loopBack (setNow s t) i)) ∧
  (∀ (i : Fin 512) (t : Ns) (s : State), supervised s i = true → holdOver s i t = true → Effect (.loopHoldMaxExpiry i t) s [.time, .loop, .recorder] [(.evrStatus, 0)] (fun u =>
      u.now = max s.now t ∧ OnlyLoop i s u ∧ (loopOf u i).st = .safe ∧ (loopOf u i).heldSince = max s.now t ∧ (loopOf u i).cause = (loopOf s i).cause))

/-- Commands of a motor port, each where the spec has it act (R200, R206, R210, R212, R213, R215, R218, R220): a row waits for
MOTOR_CTRL's input set, and the wax keeps the write; a port that is not defined refuses it. When the port takes it, start begins a
search in the direction of the taper's target, stop and coast take all gates low, reset clears a fault whose condition is gone, and
a command that the state does not take is refused with motor_state; the current loop runs while the gates drive. Where the spec
leaves a value or a way open it follows the model's own choices of log entries 42, 43. Commands that it says complete with their own
effect: motorStart, motorStop, motorCoast, motorReset, motorIdent, motorResume, motorClearCounts, currentLoopUpdate. -/
def Obligations.MotorCommandsComplete : Prop :=
  (∀ (m : Fin 16) (s : State), s.rlt.ctx = none → (motOf s m).st ≠ .disabled → Effect (.motorStart m) s [.motor, .wax] [] (fun u =>
      u.wax = (addItem s (.write (regAddr .motCmd m) 1#32)).wax ∧ OnlyMot m s u ∧ motOf u m = { motOf s m with cmds := (motOf s m).cmds ++ [.start] })) ∧
  (∀ (m : Fin 16) (s : State), s.rlt.ctx = none → (motOf s m).st ≠ .disabled → Effect (.motorStop m) s [.motor, .wax] [] (fun u =>
      u.wax = (addItem s (.write (regAddr .motCmd m) 2#32)).wax ∧ OnlyMot m s u ∧ motOf u m = { motOf s m with cmds := (motOf s m).cmds ++ [.stop] })) ∧
  (∀ (m : Fin 16) (s : State), s.rlt.ctx = none → (motOf s m).st ≠ .disabled → Effect (.motorCoast m) s [.motor, .wax] [] (fun u =>
      u.wax = (addItem s (.write (regAddr .motCmd m) 3#32)).wax ∧ OnlyMot m s u ∧ motOf u m = { motOf s m with cmds := (motOf s m).cmds ++ [.coast] })) ∧
  (∀ (m : Fin 16) (s : State), s.rlt.ctx = none → (motOf s m).st ≠ .disabled → Effect (.motorReset m) s [.motor, .wax] [] (fun u =>
      u.wax = (addItem s (.write (regAddr .motCmd m) 4#32)).wax ∧ OnlyMot m s u ∧ motOf u m = { motOf s m with cmds := (motOf s m).cmds ++ [.reset] })) ∧
  (∀ (m : Fin 16) (s : State), s.rlt.ctx = none → (motOf s m).st ≠ .disabled → Effect (.motorIdent m) s [.motor, .wax] [] (fun u =>
      u.wax = (addItem s (.write (regAddr .motCmd m) 5#32)).wax ∧ OnlyMot m s u ∧ motOf u m = { motOf s m with cmds := (motOf s m).cmds ++ [.ident] })) ∧
  (∀ (m : Fin 16) (s : State), s.rlt.ctx = none → (motOf s m).st ≠ .disabled → Effect (.motorResume m) s [.motor, .wax] [] (fun u =>
      u.wax = (addItem s (.write (regAddr .motCmd m) 6#32)).wax ∧ OnlyMot m s u ∧ motOf u m = { motOf s m with cmds := (motOf s m).cmds ++ [.resume] })) ∧
  (∀ (m : Fin 16) (s : State), s.rlt.ctx = none → Effect (.motorClearCounts m) s [.motor, .wax] [] (fun u =>
      u.wax = (addItem s (.write (regAddr .motCmd m) 7#32)).wax ∧ OnlyMot m s u ∧ motOf u m = { motOf s m with faults := 0, stallCount := 0 })) ∧
  (∀ (m : Fin 16) (s : State), s.rlt.ctx = none → (motOf s m).st = .disabled →
    exec (.motorStart m) s = .next (stick (addItem s (.write (regAddr .motCmd m) 1#32)) .motStatus m 18) ∧
    exec (.motorStop m) s = .next (stick (addItem s (.write (regAddr .motCmd m) 2#32)) .motStatus m 18) ∧
    exec (.motorCoast m) s = .next (stick (addItem s (.write (regAddr .motCmd m) 3#32)) .motStatus m 18) ∧
    exec (.motorReset m) s = .next (stick (addItem s (.write (regAddr .motCmd m) 4#32)) .motStatus m 18) ∧
    exec (.motorIdent m) s = .next (stick (addItem s (.write (regAddr .motCmd m) 5#32)) .motStatus m 18) ∧
    exec (.motorResume m) s = .next (stick (addItem s (.write (regAddr .motCmd m) 6#32)) .motStatus m 18)) ∧
  (∀ (m : Fin 16) (s : State), s.rlt.ctx.isSome = true →
    exec (.motorStart m) s = .next (report s hostReq (regAddr .motCmd m) .busy) ∧
    exec (.motorStop m) s = .next (report s hostReq (regAddr .motCmd m) .busy) ∧
    exec (.motorCoast m) s = .next (report s hostReq (regAddr .motCmd m) .busy) ∧
    exec (.motorReset m) s = .next (report s hostReq (regAddr .motCmd m) .busy) ∧
    exec (.motorIdent m) s = .next (report s hostReq (regAddr .motCmd m) .busy) ∧
    exec (.motorResume m) s = .next (report s hostReq (regAddr .motCmd m) .busy) ∧
    exec (.motorClearCounts m) s = .next (report s hostReq (regAddr .motCmd m) .busy)) ∧
  (∀ (m : Fin 16) (t : Nat) (s : State), (motOf s m).st = .off → Changes s (motCommand s m t .start) [.motor] [] (fun u =>
      OnlyMot m s u ∧ motOf u m = { Motor.quiet { motOf s m with dirRev := fLt (motTarget s m) 0#32 } .search with phaseAt := t })) ∧
  (∀ (m : Fin 16) (t : Nat) (s : State), (motOf s m).st = .retryWait → Changes s (motCommand s m t .start) [.motor] [] (fun u =>
      OnlyMot m s u ∧ motOf u m = { Motor.quiet { motOf s m with dirRev := fLt (motTarget s m) 0#32 } .search with phaseAt := t })) ∧
  (∀ (m : Fin 16) (t : Nat) (s : State),
    (motOf s m).st = .stopping ∨ (motOf s m).st = .ident ∨ (motOf s m).st = .fault →
    Changes s (motCommand s m t .start) [] [(.motStatus, m)] (fun u =>
      regB u .motStatus m 18 = true)) ∧
  (∀ (m : Fin 16) (t : Nat) (s : State), (motOf s m).st = .run → motStopMode s m = 0 → Changes s (motCommand s m t .stop) [.motor, .loop] [] (fun u =>
      OnlyMot m s u ∧ motOf u m = { motOf s m with st := .stopping, stalls := 0, phaseAt := t, zeroSince := none } ∧ (∀ j, motTaper s m = some j → (taperOf u j).forced = some 0#32))) ∧
  (∀ (m : Fin 16) (t : Nat) (s : State), (motOf s m).st = .run → motStopMode s m = 2 → Changes s (motCommand s m t .stop) [.motor] [] (fun u =>
      OnlyMot m s u ∧ motOf u m = { motOf s m with st := .stopping, stalls := 0, phaseAt := t, brakeAt := some t, zeroSince := none, iqCmd := 0#32, brakeSearch := false })) ∧
  (∀ (m : Fin 16) (t : Nat) (s : State), (motOf s m).st = .search → Changes s (motCommand s m t .stop) [.motor, .loop] [] (fun u =>
      OnlyMot m s u ∧ motOf u m = { (motOf s m).quiet .off with stalls := 0 })) ∧
  (∀ (m : Fin 16) (t : Nat) (s : State), (motOf s m).st = .probe → Changes s (motCommand s m t .stop) [.motor, .loop] [] (fun u =>
      OnlyMot m s u ∧ motOf u m = { (motOf s m).quiet .off with stalls := 0 })) ∧
  (∀ (m : Fin 16) (t : Nat) (s : State), (motOf s m).st = .catch_ → Changes s (motCommand s m t .stop) [.motor, .loop] [] (fun u =>
      OnlyMot m s u ∧ motOf u m = { (motOf s m).quiet .off with stalls := 0 })) ∧
  (∀ (m : Fin 16) (t : Nat) (s : State), (motOf s m).st = .brakeRegen → Changes s (motCommand s m t .stop) [.motor, .loop] [] (fun u =>
      OnlyMot m s u ∧ motOf u m = { (motOf s m).quiet .off with stalls := 0 })) ∧
  (∀ (m : Fin 16) (t : Nat) (s : State), (motOf s m).st = .brakeDc → Changes s (motCommand s m t .stop) [.motor, .loop] [] (fun u =>
      OnlyMot m s u ∧ motOf u m = { (motOf s m).quiet .off with stalls := 0 })) ∧
  (∀ (m : Fin 16) (t : Nat) (s : State), (motOf s m).st = .brakeCoast → Changes s (motCommand s m t .stop) [.motor, .loop] [] (fun u =>
      OnlyMot m s u ∧ motOf u m = { (motOf s m).quiet .off with stalls := 0 })) ∧
  (∀ (m : Fin 16) (t : Nat) (s : State), (motOf s m).st = .retryWait → Changes s (motCommand s m t .stop) [.motor, .loop] [] (fun u =>
      OnlyMot m s u ∧ motOf u m = { (motOf s m).quiet .off with stalls := 0 })) ∧
  (∀ (m : Fin 16) (t : Nat) (s : State), (motOf s m).st ≠ .disabled → Changes s (motCommand s m t .coast) [.motor, .loop] [] (fun u =>
      OnlyMot m s u ∧ motOf u m = { (motOf s m).quiet .off with stalls := 0 })) ∧
  (∀ (m : Fin 16) (t : Nat) (s : State), (motOf s m).st = .fault → (faultGone s m).2 = true → Changes s (motCommand s m t .reset) [.motor, .loop, .free] [] (fun u =>
      OnlyMot m s u ∧ motOf u m = { (motOf s m).quiet .off with stalls := 0, fault := .none })) ∧
  (∀ (m : Fin 16) (t : Nat) (s : State), (motOf s m).st ≠ .fault → Changes s (motCommand s m t .reset) [] [(.motStatus, m)] (fun u =>
      regB u .motStatus m 18 = true)) ∧
  (∀ (m : Fin 16) (t : Nat) (s : State), (motOf s m).st = .off → Changes s (motCommand s m t .ident) [.motor] [] (fun u =>
      OnlyMot m s u ∧ motOf u m = { (motOf s m).quiet .ident with phaseAt := t })) ∧
  (∀ (m : Fin 16) (t : Nat) (s : State), (motOf s m).st ≠ .off → Changes s (motCommand s m t .ident) [] [(.motStatus, m)] (fun u =>
      regB u .motStatus m 18 = true)) ∧
  (∀ (m : Fin 16) (t : Nat) (s : State), (motOf s m).night = true → Changes s (motCommand s m t .resume) [.motor, .loop] [] (fun u =>
      OnlyMot m s u ∧ motOf u m = { motOf s m with night := false })) ∧
  (∀ (m : Fin 16) (t : Ns) (smp : PhaseSample) (s : State),
    (motOf s m).st ≠ .disabled → (motOf s m).gates = false ∨ driving s = false → smp.valley = false → fastTrip s m smp = false →
    Effect (.currentLoopUpdate m t smp) s [.time, .motor, .free] [] (fun u =>
      u.now = max s.now t ∧ OnlyMot m s u ∧ motOf u m = { curSums (setNow s t) m t (phaseVals (setNow s t) m (motAngleAt (setNow s t) m t) smp) (motOf s m) with ud := 0#32, uq := 0#32, duty := [], dutyNext := [], busLim := false, curLim := false, voltSat := false })) ∧
  (∀ (m : Fin 16) (t : Ns) (smp : PhaseSample) (s : State),
    (motOf s m).st ≠ .disabled → (motOf s m).gates = false ∨ driving s = false → smp.valley = false → fastTrip s m smp = true →
    exec (.currentLoopUpdate m t smp) s = .next (motFault (modMot (useFree (setMot (setNow s t) m (curSums (setNow s t) m t (phaseVals (setNow s t) m (motAngleAt (setNow s t) m t) smp) (motOf s m)))) m (fun y => { y with ud := 0#32, uq := 0#32, duty := [], dutyNext := [], busLim := false, curLim := false, voltSat := false })) m .overcurrent)) ∧
  (∀ (m : Fin 16) (t : Ns) (smp : PhaseSample) (s : State),
    (motOf s m).st = .run → (motOf s m).gates = true → driving s = true → smp.valley = false → slowVector s m = false → fastTrip s m smp = false →
    Yields (.currentLoopUpdate m t smp) s (fun u => u.now = max s.now t ∧ OnlyMot m s u ∧ (motOf u m).duty = (motOf s m).dutyNext ∧ (motOf u m).nSamp = (motOf s m).nSamp + 1 ∧ (motOf u m).vdcLast = ((phaseVals (setNow s t) m (motAngleAt (setNow s t) m t) smp)).vdc ∧ (motOf u m).lowSince = none))

/-- The faults of a motor port (R191, R197, R204, R209, R215): with no fault latched, the condition takes all gates low, latches its
fault, counts it, sets its seen flag and records it. Where the spec leaves a value or a way open it follows the model's own choices
of log entry 42. Commands that it says complete with their own effect: hwTrip, motorOvercurrent, dcOvervolt, sdLoss, dcUndervolt,
phaseLoss, observerInvalidTimeout, reverseHold. -/
def Obligations.MotorFaultsComplete : Prop :=
  (∀ (m : Fin 16) (t : Ns) (s : State), exec (.hwTrip m t) s = .next (motFault (setNow s t) m .hwTrip)) ∧
  (∀ (m : Fin 16) (t : Ns) (s : State),
    (motOf s m).st ≠ .disabled → (motOf s m).st ≠ .fault → (motOf s m).fault = .none →
    Effect (.hwTrip m t) s [.time, .motor, .recorder] [(.motFault, m), (.evrStatus, 0)] (fun u =>
      u.now = max s.now t ∧ OnlyMot m s u ∧ motOf u m = { (motOf s m).quiet .fault with fault := .hwTrip, faults := satInc 16 (motOf s m).faults } ∧ regB u .motFault m (15 + MotFault.code .hwTrip) = true)) ∧
  (∀ (m : Fin 16) (t : Ns) (s : State), exec (.motorOvercurrent m t) s = .next (motFault (setNow s t) m .overcurrent)) ∧
  (∀ (m : Fin 16) (t : Ns) (s : State),
    (motOf s m).st ≠ .disabled → (motOf s m).st ≠ .fault → (motOf s m).fault = .none →
    Effect (.motorOvercurrent m t) s [.time, .motor, .recorder] [(.motFault, m), (.evrStatus, 0)] (fun u =>
      u.now = max s.now t ∧ OnlyMot m s u ∧ motOf u m = { (motOf s m).quiet .fault with fault := .overcurrent, faults := satInc 16 (motOf s m).faults } ∧ regB u .motFault m (15 + MotFault.code .overcurrent) = true)) ∧
  (∀ (m : Fin 16) (t : Ns) (s : State),
    fLt (vMax (setNow s t) m) (motOf s m).vdcLast = true → fLt (vMax (setNow s t) m) (motOf s m).vdcPrev = true →
    exec (.dcOvervolt m t) s = .next (motFault (setNow s t) m .dcOvervolt)) ∧
  (∀ (m : Fin 16) (t : Ns) (s : State),
    (motOf s m).st ≠ .disabled → (motOf s m).st ≠ .fault → (motOf s m).fault = .none → fLt (vMax (setNow s t) m) (motOf s m).vdcLast = true → fLt (vMax (setNow s t) m) (motOf s m).vdcPrev = true →
    Effect (.dcOvervolt m t) s [.time, .motor, .recorder] [(.motFault, m), (.evrStatus, 0)] (fun u =>
      u.now = max s.now t ∧ OnlyMot m s u ∧ motOf u m = { (motOf s m).quiet .fault with fault := .dcOvervolt, faults := satInc 16 (motOf s m).faults } ∧ regB u .motFault m (15 + MotFault.code .dcOvervolt) = true)) ∧
  (∀ (m : Fin 16) (t g : Ns) (s : State), driving s = true → s.pair.gateAt = some g → g + 10000 ≤ t → exec (.sdLoss m t) s = .next (motFault (setNow s t) m .sdLoss)) ∧
  (∀ (m : Fin 16) (t g : Ns) (s : State),
    (motOf s m).st ≠ .disabled → (motOf s m).st ≠ .fault → (motOf s m).fault = .none → driving s = true → s.pair.gateAt = some g → g + 10000 ≤ t →
    Effect (.sdLoss m t) s [.time, .motor, .recorder] [(.motFault, m), (.evrStatus, 0)] (fun u =>
      u.now = max s.now t ∧ OnlyMot m s u ∧ motOf u m = { (motOf s m).quiet .fault with fault := .sdLoss, faults := satInc 16 (motOf s m).faults } ∧ regB u .motFault m (15 + MotFault.code .sdLoss) = true)) ∧
  (∀ (m : Fin 16) (t t0 : Ns) (s : State), (motOf s m).lowVdc = some t0 → t0 + 10 * 1000000 ≤ t → exec (.dcUndervolt m t) s = .next (motFault (setNow s t) m .dcUndervolt)) ∧
  (∀ (m : Fin 16) (t t0 : Ns) (s : State),
    (motOf s m).st ≠ .disabled → (motOf s m).st ≠ .fault → (motOf s m).fault = .none → (motOf s m).lowVdc = some t0 → t0 + 10 * 1000000 ≤ t →
    Effect (.dcUndervolt m t) s [.time, .motor, .recorder] [(.motFault, m), (.evrStatus, 0)] (fun u =>
      u.now = max s.now t ∧ OnlyMot m s u ∧ motOf u m = { (motOf s m).quiet .fault with fault := .dcUndervolt, faults := satInc 16 (motOf s m).faults } ∧ regB u .motFault m (15 + MotFault.code .dcUndervolt) = true)) ∧
  (∀ (m : Fin 16) (t : Ns) (s : State), (motOf s m).gates = true → exec (.phaseLoss m t) s = .next (motFault (setNow s t) m .phaseLoss)) ∧
  (∀ (m : Fin 16) (t : Ns) (s : State),
    (motOf s m).st ≠ .disabled → (motOf s m).st ≠ .fault → (motOf s m).fault = .none → (motOf s m).gates = true →
    Effect (.phaseLoss m t) s [.time, .motor, .recorder] [(.motFault, m), (.evrStatus, 0)] (fun u =>
      u.now = max s.now t ∧ OnlyMot m s u ∧ motOf u m = { (motOf s m).quiet .fault with fault := .phaseLoss, faults := satInc 16 (motOf s m).faults } ∧ regB u .motFault m (15 + MotFault.code .phaseLoss) = true)) ∧
  (∀ (m : Fin 16) (t t0 : Ns) (s : State), (motOf s m).obsBadSince = some t0 → t0 + 100 * 1000000 ≤ t → exec (.observerInvalidTimeout m t) s = .next (motFault (setNow s t) m .feedbackLost)) ∧
  (∀ (m : Fin 16) (t t0 : Ns) (s : State),
    (motOf s m).st ≠ .disabled → (motOf s m).st ≠ .fault → (motOf s m).fault = .none → (motOf s m).obsBadSince = some t0 → t0 + 100 * 1000000 ≤ t →
    Effect (.observerInvalidTimeout m t) s [.time, .motor, .recorder] [(.motFault, m), (.evrStatus, 0)] (fun u =>
      u.now = max s.now t ∧ OnlyMot m s u ∧ motOf u m = { (motOf s m).quiet .fault with fault := .feedbackLost, faults := satInc 16 (motOf s m).faults } ∧ regB u .motFault m (15 + MotFault.code .feedbackLost) = true)) ∧
  (∀ (m : Fin 16) (t : Ns) (s : State), brakeOver s m t = true → exec (.reverseHold m t) s = .next (motFault (setNow s t) m .reverseHold)) ∧
  (∀ (m : Fin 16) (t : Ns) (s : State),
    (motOf s m).st ≠ .disabled → (motOf s m).st ≠ .fault → (motOf s m).fault = .none → brakeOver s m t = true →
    Effect (.reverseHold m t) s [.time, .motor, .recorder] [(.motFault, m), (.evrStatus, 0)] (fun u =>
      u.now = max s.now t ∧ OnlyMot m s u ∧ motOf u m = { (motOf s m).quiet .fault with fault := .reverseHold, faults := satInc 16 (motOf s m).faults } ∧ regB u .motFault m (15 + MotFault.code .reverseHold) = true))

/-- Searches, braking, stopping, stalls and identification of a motor port, each where the spec has it act (R202, R206 to R211, R218).
Where the spec leaves a value or a way open it follows the model's own choices of log entries 42, 43. Commands that it says complete
with their own effect: searchComplete, searchRetry, probeComplete, angleAlignComplete, catchComplete, brakeFallback, brakeSearch,
stoppingComplete, fanStall, retryWaitExpiry, stallCountClear, identComplete. -/
def Obligations.MotorPhasesComplete : Prop :=
  (∀ (m : Fin 16) (t : Ns) (r : SearchReading) (s : State),
    searchOver (setNow s t) m t = true → searchFails (setNow s t) m r = true → (motOf s m).brakeSearch = false → (motOf s m).repeated = false →
    Effect (.searchComplete m t r) s [.time, .motor] [] (fun u =>
      u.now = max s.now t ∧ OnlyMot m s u ∧ motOf u m = { motOf s m with repeated := true, repeatAt := some (t + 1000000000) })) ∧
  (∀ (m : Fin 16) (t : Ns) (r : SearchReading) (s : State),
    (motOf s m).st = .search → searchOver (setNow s t) m t = true → searchFails (setNow s t) m r = false → (motOf s m).brakeSearch = false → searchSpeed (setNow s t) m r = none → motPm s m = false → (motOf s m).probes < 2 → driving s = true →
    Yields (.searchComplete m t r) s (fun u => ((motOf u m).st = .probe ∧ (motOf u m).gates = true ∧ (motOf u m).probes = (motOf s m).probes + 1 ∧ (motOf u m).phaseAt = t) ∧ OnlyMot m s u)) ∧
  (∀ (m : Fin 16) (t t0 : Ns) (s : State), (motOf s m).repeatAt = some t0 → t0 ≤ t → Effect (.searchRetry m t) s [.time, .motor] [] (fun u =>
      u.now = max s.now t ∧ OnlyMot m s u ∧ motOf u m = { motOf s m with repeatAt := none, phaseAt := t })) ∧
  (∀ (m : Fin 16) (t : Ns) (s : State),
    (motOf s m).st = .probe → (motOf s m).gates = true → (motOf s m).phaseAt + 20 * 1000000 ≤ t →
    Effect (.probeComplete m t) s [.time, .motor] [] (fun u =>
      u.now = max s.now t ∧ OnlyMot m s u ∧ motOf u m = { motOf s m with gates := false, phaseAt := t })) ∧
  (∀ (m : Fin 16) (t : Ns) (s : State),
    (motOf s m).st = .catch_ → (motOf s m).aligning = true → (motOf s m).phaseAt + 200 * 1000000 ≤ t →
    Yields (.angleAlignComplete m t) s (fun u => OnlyMot m s u ∧ (motOf u m).aligning = false ∧ (motOf u m).offsetValid = true ∧ (motOf u m).phaseAt = t ∧
      (motOf u m).offset = (65536 - encAngle s m) % 65536)) ∧
  (∀ (m : Fin 16) (t t0 : Ns) (s : State),
    (motOf s m).st = .catch_ → (motOf s m).aligning = false → motPm s m = true ∨ (motOf s m).phaseAt + tFlux s m ≤ t → (motOf s m).settled = some t0 → t0 + 10 * 1000000 ≤ t →
    Effect (.catchComplete m t) s [.time, .motor] [] (fun u =>
      u.now = max s.now t ∧ OnlyMot m s u ∧ motOf u m = { motOf s m with st := .run, iqCmd := 0#32, nextIq := none, search := none, probes := 0, brakeAt := none })) ∧
  (∀ (m : Fin 16) (t t0 : Ns) (s : State),
    (motOf s m).lowSince = some t0 → (motOf s m).st = .brakeRegen → t0 + 2 * 1000000000 ≤ t → driving s = true →
    Yields (.brakeFallback m t) s (fun u => OnlyMot m s u ∧ (motOf u m).st = (if motPm s m then .brakeCoast else .brakeDc) ∧ (motOf u m).gates = !motPm s m ∧ (motOf u m).phaseAt = t)) ∧
  (∀ (m : Fin 16) (t : Ns) (s : State),
    (motOf s m).st = .brakeDc ∨ (motOf s m).st = .brakeCoast ∨ ((motOf s m).st = .stopping ∧ (motOf s m).brakeAt.isSome = true) → wickRpm s m = none → (motOf s m).brakeSearch = false → (motOf s m).phaseAt + 1000000000 ≤ t →
    Effect (.brakeSearch m t) s [.time, .motor] [] (fun u =>
      u.now = max s.now t ∧ OnlyMot m s u ∧ motOf u m = { motOf s m with gates := false, brakeSearch := true, phaseAt := t })) ∧
  (∀ (m : Fin 16) (t t0 : Ns) (s : State),
    (motOf s m).st = .stopping → (motOf s m).zeroSince = some t0 → t0 + 200 * 1000000 ≤ t →
    Yields (.stoppingComplete m t) s (fun u => OnlyMot m s u ∧ motOf u m = (motOf s m).quiet .off)) ∧
  (∀ (m : Fin 16) (t : Ns) (s : State),
    stallOver s m t = true → (motOf s m).st = .run → (motOf s m).stalls < fanRetries s m →
    Effect (.fanStall m t) s [.time, .motor, .recorder] [(.evrStatus, 0)] (fun u =>
      u.now = max s.now t ∧ OnlyMot m s u ∧ motOf u m = { Motor.quiet { motOf s m with stallCount := satInc 16 (motOf s m).stallCount } .retryWait with stalls := (motOf s m).stalls + 1, retryAt := t + tRetry s m })) ∧
  (∀ (m : Fin 16) (t : Ns) (s : State), (motOf s m).st = .retryWait → (motOf s m).retryAt ≤ t → Effect (.retryWaitExpiry m t) s [.time, .motor] [] (fun u =>
      u.now = max s.now t ∧ OnlyMot m s u ∧ motOf u m = { (motOf s m).quiet .search with phaseAt := t })) ∧
  (∀ (m : Fin 16) (t t0 : Ns) (s : State),
    (motOf s m).aboveSince = some t0 → t0 + 60 * 1000000000 ≤ t →
    Effect (.stallCountClear m t) s [.time, .motor] [] (fun u =>
      u.now = max s.now t ∧ OnlyMot m s u ∧ motOf u m = { motOf s m with stalls := 0 })) ∧
  (∀ (m : Fin 16) (t : Ns) (rs ls : F32) (s : State),
    (motOf s m).st = .ident → (motOf s m).identMeas = true → fLe (fRat 1 1000) rs = true → fLe rs (fOfNat 100) = true → fLe (fRat 1 1000000) ls = true → fLe ls (fOfNat 1) = true → t ≤ (motOf s m).phaseAt + 3 * 1000000000 →
    Effect (.identComplete m t rs ls true) s [.time, .motor] [(.motStatus, m)] (fun u =>
      u.now = max s.now t ∧ OnlyMot m s u ∧ motOf u m = { (motOf s m).quiet .off with rs := rs, ls := ls, identified := true } ∧ regB u .motStatus m 17 = true))

/-- Homing and moves of a position port, and belt slip, each where the spec has it act (R222 to R228, R233, R236): a row waits for the
run of HOMING or POSITION_LOOP, and the wax keeps the write; there home begins a search with the zero dropped and starts a port that
is OFF, abort ends it with homed clear, a move begins or is refused, a homing that lasts too long faults. Where the spec leaves a
value or a way open it follows the model's own choices of log entry 44. Commands that it says complete with their own effect:
gateHome, gateAbort, gateMove, homeTimeout, beltSlip. -/
def Obligations.GateCommandsComplete : Prop :=
  (∀ (m : Fin 16) (s : State), s.rlt.ctx = none → Effect (.gateHome m) s [.motor, .wax] [] (fun u =>
      u.wax = (addItem s (.write (regAddr .gateCmd m) 1#32)).wax ∧ OnlyGate m s u ∧ gateOf u m = { gateOf s m with cmds := (gateOf s m).cmds ++ [.home] })) ∧
  (∀ (m : Fin 16) (s : State), s.rlt.ctx = none → Effect (.gateAbort m) s [.motor, .wax] [] (fun u =>
      u.wax = (addItem s (.write (regAddr .gateCmd m) 2#32)).wax ∧ OnlyGate m s u ∧ gateOf u m = { gateOf s m with cmds := (gateOf s m).cmds ++ [.abort] })) ∧
  (∀ (m : Fin 16) (s : State), s.rlt.ctx = none → Effect (.gateMove m) s [.motor, .wax] [] (fun u =>
      u.wax = (addItem s (.write (regAddr .gateCmd m) 3#32)).wax ∧ OnlyGate m s u ∧ gateOf u m = { gateOf s m with cmds := (gateOf s m).cmds ++ [.move] })) ∧
  (∀ (m : Fin 16) (s : State), s.rlt.ctx.isSome = true →
    exec (.gateHome m) s = .next (report s hostReq (regAddr .gateCmd m) .busy) ∧
    exec (.gateAbort m) s = .next (report s hostReq (regAddr .gateCmd m) .busy) ∧
    exec (.gateMove m) s = .next (report s hostReq (regAddr .gateCmd m) .busy)) ∧
  (∀ (m : Fin 16) (t : Nat) (s : State), homing (gateOf s m) = false → (motOf s m).st ≠ .off → Changes s (gateHome s m t) [.motor] [] (fun u =>
      OnlyGate m s u ∧ gateOf u m = { gateOf s m with homed := false, trips := 0, fault := .none, startAt := t, ran := false, chatter := false, moving := false, home := .search, stopping := false, speedTgt := dirSpeed s m (vSearch s m) false, passFrom := none })) ∧
  (∀ (m : Fin 16) (t : Nat) (s : State), homing (gateOf s m) = false → (motOf s m).st = .off → Changes s (gateHome s m t) [.motor] [] (fun u =>
      gateOf u m = { gateOf s m with homed := false, trips := 0, fault := .none, startAt := t, ran := false, chatter := false, moving := false, home := .search, stopping := false, speedTgt := dirSpeed s m (vSearch s m) false, passFrom := none } ∧ (motOf u m).given = (motOf s m).given ++ [.start])) ∧
  (∀ (m : Fin 16) (s : State), homing (gateOf s m) = true → Changes s (gateAbort s m) [.motor] [] (fun u =>
      OnlyGate m s u ∧ gateOf u m = { gateOf s m with home := .idle, stopping := true, speedTgt := 0#32, passFrom := none, moving := false })) ∧
  (∀ (m : Fin 16) (s : State),
    homing (gateOf s m) = false → (gateOf s m).homed = true ∨ regB s .gateCfg m 7 = false → moveBlocked s m (posTarget s m) = false →
    Changes s (gateMove s m) [.motor] [] (fun u =>
      OnlyGate m s u ∧ gateOf u m = { gateOf s m with moving := true, inPos := false, winSince := none })) ∧
  (∀ (m : Fin 16) (s : State),
    homing (gateOf s m) = true ∨ ((gateOf s m).homed = false ∧ regB s .gateCfg m 7 = true) ∨ moveBlocked s m (posTarget s m) = true →
    Changes s (gateMove s m) [] [(.gateStatus, m)] (fun u =>
      regB u .gateStatus m 9 = true)) ∧
  (∀ (m : Fin 16) (t : Ns) (s : State),
    homing (gateOf s m) = true → (gateOf s m).startAt + tHomeMax s m ≤ t → released s m t = false →
    Effect (.homeTimeout m t) s [.time, .motor, .recorder] [(.evrStatus, 0)] (fun u =>
      u.now = max s.now t ∧ OnlyGate m s u ∧ gateOf u m = { gateOf s m with home := .fault, fault := .timeout, stopping := true, speedTgt := 0#32, passFrom := none, moving := false })) ∧
  (∀ (i : Fin 64) (t : Ns) (s : State), slipOver s i t = true → Yields (.beltSlip i t) s (fun u => ((slipOf u i).declared = true ∧ u.now = max s.now t) ∧ OnlyAt slipOf i s u ∧ regB u .slipStatus i 17 = true))

/-- Starting, proving, stopping and faulting a route, each where the spec has it act (R229, R230, R237): a row waits for ROUTE_SEQ's
run, and the wax keeps the write; there members start from the last and stop from member 0; a member proved makes the route run or
starts the next one; a member not proved in time faults the route; a command that the state does not take is refused with
route_state. Where the spec leaves a value or a way open it follows the model's own choices of log entry 44. Commands that it says
complete with their own effect: routeStart, routeStop, routeReset, proofTimeout, memberProved, runOutComplete. -/
def Obligations.RouteCommandsComplete : Prop :=
  (∀ (r : Fin 32) (s : State), s.rlt.ctx = none → Effect (.routeStart r) s [.motor, .wax] [] (fun u =>
      u.wax = (addItem s (.write (regAddr .routeCmd r) 1#32)).wax ∧ OnlyRoute r s u ∧ routeOf u r = { routeOf s r with cmds := (routeOf s r).cmds ++ [.start] })) ∧
  (∀ (r : Fin 32) (s : State), s.rlt.ctx = none → Effect (.routeStop r) s [.motor, .wax] [] (fun u =>
      u.wax = (addItem s (.write (regAddr .routeCmd r) 2#32)).wax ∧ OnlyRoute r s u ∧ routeOf u r = { routeOf s r with cmds := (routeOf s r).cmds ++ [.stop] })) ∧
  (∀ (r : Fin 32) (s : State), s.rlt.ctx = none → Effect (.routeReset r) s [.motor, .wax] [] (fun u =>
      u.wax = (addItem s (.write (regAddr .routeCmd r) 3#32)).wax ∧ OnlyRoute r s u ∧ routeOf u r = { routeOf s r with cmds := (routeOf s r).cmds ++ [.reset] })) ∧
  (∀ (r : Fin 32) (s : State), s.rlt.ctx.isSome = true →
    exec (.routeStart r) s = .next (report s hostReq (regAddr .routeCmd r) .busy) ∧
    exec (.routeStop r) s = .next (report s hostReq (regAddr .routeCmd r) .busy) ∧
    exec (.routeReset r) s = .next (report s hostReq (regAddr .routeCmd r) .busy)) ∧
  (∀ (r : Fin 32) (t : Nat) (s : State), (routeOf s r).st = .idle → startable s r = true → 0 < (membersOf s r).length →
    routeStart s r t = startMember (setRoute s r { routeOf s r with st := .starting, cause := 0, faultMember := 0, mem := [] }) r ((membersOf s r).length - 1) t) ∧
  (∀ (r : Fin 32) (t : Nat) (s : State),
    (routeOf s r).st ≠ .idle ∨ startable s r = false ∨ (membersOf s r).length = 0 →
    Changes s (routeStart s r t) [] [(.routeStatus, r)] (fun u =>
      regB u .routeStatus r 9 = true)) ∧
  (∀ (r : Fin 32) (t : Nat) (s : State), (routeOf s r).st = .running → routeStop s r t = stopMember (setRoute s r { routeOf s r with st := .stopping }) r 0 t false) ∧
  (∀ (r : Fin 32) (t : Nat) (s : State),
    (routeOf s r).st ≠ .starting → (routeOf s r).st ≠ .running →
    Changes s (routeStop s r t) [] [(.routeStatus, r)] (fun u =>
      regB u .routeStatus r 9 = true)) ∧
  (∀ (r : Fin 32) (s : State), (routeOf s r).st = .faulted → Changes s (routeReset s r) [.motor] [] (fun u =>
      OnlyRoute r s u ∧ routeOf u r = { routeOf s r with st := .idle, cause := 0, mem := [] })) ∧
  (∀ (r : Fin 32) (s : State), (routeOf s r).st ≠ .faulted → Changes s (routeReset s r) [] [(.routeStatus, r)] (fun u =>
      regB u .routeStatus r 9 = true)) ∧
  (∀ (r : Fin 32) (i : Fin 16) (t : Ns) (s : State),
    (routeOf s r).st = .starting → (memOf (routeOf s r) i).started = true → (memOf (routeOf s r) i).proved = false → (memOf (routeOf s r) i).startAt + tProof s r ≤ t →
    exec (.proofTimeout r i t) s = .next (stopMember (routeFault (setNow s t) r i 1) r i t false)) ∧
  (∀ (r : Fin 32) (t : Ns) (s : State), provedAt s r 0 t = true → (routeOf s r).st = .starting → Yields (.memberProved r 0 t) s (fun u => ((routeOf u r).st = .running ∧ (memOf (routeOf u r) 0).proved = true) ∧ OnlyRoute r s u)) ∧
  (∀ (r : Fin 32) (i : Fin 16) (t : Ns) (s : State), i ≠ 0 → provedAt s r i t = true → (routeOf s r).st = .starting → exec (.memberProved r i t) s = .next (startMember (modMem (setNow s t) r i (fun x => { x with proved := true })) r (i - 1) t)) ∧
  (∀ (r : Fin 32) (i : Fin 16) (t : Ns) (s : State),
    (routeOf s r).st = .stopping ∨ (routeOf s r).st = .faultStop → (memOf (routeOf s r) i).stopped = true → (memOf (routeOf s r) (i + 1)).started = true → ranOut s r i t = true →
    exec (.runOutComplete r i t) s = .next (stopMember (setNow s t) r (i + 1) t false))

/-- Stalls, their digital inputs and outputs (R244 to R252), each where the spec has it act: a conversion writes the class's value and
queues its record; a settled class is stamped and queued as an edge record or, with 64 waiting, counted as lost; a counter counts up
or down by its direction; a break with wire-break detection is held; an overloaded switch turns off for 100 ms and retries; the
junction limit turns a switch off until it has cooled; the sensor supply retries every 100 ms. Where the spec leaves a value or a
way open it follows the model's own choices of log entries 9, 45. Commands that it says complete with their own effect:
stallConversion, diClassChange, cntEdge, cntBreak, doOverloadTrip, doOverloadRetry, doThermalShutdown, doThermalRecovery,
supplyLimitRetry. -/
def Obligations.StallCommandsComplete : Prop :=
  (∀ (i : Fin 128) (t : Ns) (r : StallReading) (c : AnaClass) (s : State),
    anaClass s i r = some c → aisMeasures (aisOf s (aisleOf i)) = true →
    Yields (.stallConversion i t r) s (fun u => u.now = max s.now t ∧ OnlyAt stlOf i s u ∧ stlOf u i = { stlOf s i with aValue := c.value } ∧ OnlyAt aisOf (aisleOf i) s u ∧ (aisOf u (aisleOf i)).recs = (aisOf s (aisleOf i)).recs ++ [.sample i c.flags c.q c.value r.raw t])) ∧
  (∀ (i : Fin 128) (t : Ns) (c : DiClass) (s : State),
    stlMode s i = .di → aisMeasures (aisOf s (aisleOf i)) = true → c ≠ .brk ∨ wbEn s i = true → (stlOf s i).aClass ≠ c → (aisOf s (aisleOf i)).edges.length < 64 →
    Yields (.diClassChange i t c) s (fun u => u.now = max s.now t ∧ OnlyAt stlOf i s u ∧ stlOf u i = { stlOf s i with aClass := c, aSettled := true, aChanged := true, aPrev := (stlOf s i).aClass, aAt := t, aEdgeLost := false } ∧ OnlyAt aisOf (aisleOf i) s u ∧ (aisOf u (aisleOf i)).edges = (aisOf s (aisleOf i)).edges ++ [.edge i c ((if c = .brk then 0x04#8 else 0#8) ||| (if (stlOf s i).aEdgeLost then 0x80#8 else 0#8)) t])) ∧
  (∀ (i : Fin 128) (t : Ns) (c : DiClass) (s : State),
    stlMode s i = .di → aisMeasures (aisOf s (aisleOf i)) = true → c ≠ .brk ∨ wbEn s i = true → (stlOf s i).aClass ≠ c → 64 ≤ (aisOf s (aisleOf i)).edges.length →
    Yields (.diClassChange i t c) s (fun u => u.now = max s.now t ∧ OnlyAt stlOf i s u ∧ stlOf u i = { stlOf s i with aClass := c, aSettled := true, aChanged := true, aPrev := (stlOf s i).aClass, aAt := t, aEdgeLost := true, lostEdges := satInc 16 (stlOf s i).lostEdges } ∧ aisOf u = aisOf s)) ∧
  (∀ (i : Fin 128) (t : Ns) (c : DiClass) (s : State),
    stlMode s i = .di → aisMeasures (aisOf s (aisleOf i)) = true → c ≠ .brk ∨ wbEn s i = true → (stlOf s i).aClass = c →
    Effect (.diClassChange i t c) s [.time, .aisle] [] (fun u =>
      u.now = max s.now t ∧ OnlyStl i s u ∧ stlOf u i = { stlOf s i with aSettled := true })) ∧
  (∀ (i : Fin 128) (t : Ns) (s : State),
    stlMode s i = .cnt → (aisOf s (aisleOf i)).st = .linked → (aisOf s (aisleOf i)).lostDown = false → aisleRev s i = false →
    Effect (.cntEdge i t) s [.time, .aisle] [] (fun u =>
      u.now = max s.now t ∧ OnlyStl i s u ∧ stlOf u i = { stlOf s i with aCount := wrapS 32 ((stlOf s i).aCount + 1), aEdge := t, aBreak := false })) ∧
  (∀ (i : Fin 128) (t : Ns) (s : State),
    stlMode s i = .cnt → (aisOf s (aisleOf i)).st = .linked → (aisOf s (aisleOf i)).lostDown = false → aisleRev s i = true →
    Effect (.cntEdge i t) s [.time, .aisle] [] (fun u =>
      u.now = max s.now t ∧ OnlyStl i s u ∧ stlOf u i = { stlOf s i with aCount := wrapS 32 ((stlOf s i).aCount + -1), aEdge := t, aBreak := false })) ∧
  (∀ (i : Fin 128) (t : Ns) (s : State),
    stlMode s i = .cnt → wbEn s i = true → aisMeasures (aisOf s (aisleOf i)) = true →
    Effect (.cntBreak i t) s [.time, .aisle] [] (fun u =>
      u.now = max s.now t ∧ OnlyStl i s u ∧ stlOf u i = { stlOf s i with aBreak := true })) ∧
  (∀ (i : Fin 128) (t : Ns) (s : State), isDo s i = true → doLevel s i = true → Effect (.doOverloadTrip i t) s [.time, .aisle] [] (fun u =>
      u.now = max s.now t ∧ OnlyStl i s u ∧ stlOf u i = { stlOf s i with aOver := true, aRetry := t + 100 * msNs })) ∧
  (∀ (i : Fin 128) (t : Ns) (s : State),
    (stlOf s i).aOver = true → wantLevel s i = true → (stlOf s i).aRetry ≤ t →
    Effect (.doOverloadRetry i t true) s [.time, .aisle] [] (fun u =>
      u.now = max s.now t ∧ OnlyStl i s u ∧ stlOf u i = { stlOf s i with aRetry := t + 100 * msNs })) ∧
  (∀ (i : Fin 128) (t : Ns) (s : State),
    (stlOf s i).aOver = true → wantLevel s i = true → (stlOf s i).aRetry ≤ t →
    Effect (.doOverloadRetry i t false) s [.time, .aisle] [] (fun u =>
      u.now = max s.now t ∧ OnlyStl i s u ∧ stlOf u i = { stlOf s i with aOver := false })) ∧
  (∀ (i : Fin 128) (t : Ns) (s : State), isDo s i = true → Effect (.doThermalShutdown i t) s [.time, .aisle] [] (fun u =>
      u.now = max s.now t ∧ OnlyStl i s u ∧ stlOf u i = { stlOf s i with aThermal := true })) ∧
  (∀ (i : Fin 128) (t : Ns) (s : State), Effect (.doThermalRecovery i t) s [.time, .aisle] [] (fun u =>
      u.now = max s.now t ∧ OnlyStl i s u ∧ stlOf u i = { stlOf s i with aThermal := false })) ∧
  (∀ (i : Fin 128) (t : Ns) (b : Bool) (s : State),
    hasSupply s i = true → aisMeasures (aisOf s (aisleOf i)) = true → (stlOf s i).aSupplyLim = false ∨ (stlOf s i).aSupRetry ≤ t →
    Effect (.supplyLimitRetry i t b) s [.time, .aisle] [] (fun u =>
      u.now = max s.now t ∧ OnlyStl i s u ∧ stlOf u i = { stlOf s i with aSupplyLim := b, supplyLim := b, aSupRetry := t + 100 * msNs }))

/-- Aisles and their links (R17, R18, R240 to R243, R256, R261, R262, R266, R267), each where the spec has it act: power up from 4.5 V,
reset below 4.3 V, the field supply's thresholds, a lost link on either side, a subframe refused for its CRC, the safe table's
check, the resume command held for a SAFE aisle, and the sweep from its start to its end or its abort. A row of AIS_CMD is kept by
the wax and answers ACCESS_BUSY in a relight; a subframe that completes in the clock cycle of a boundary waits for it (R24). Where
the spec leaves a value or a way open it follows the model's own choices of log entries 9, 10, 45. Commands that it says complete
with their own effect: aislePowerUp, fieldUndervoltage, fieldUndervoltageEnd, avlUndervoltage, aisleUpstreamSubframe,
aisleDownstreamSubframe, coreLinkLost, aisleLinkLost, aisleResumeCmd, safeTableCheck, aisleClearCounts, sweepStart, sweepAbort,
sweepPulseEnd, sweepGapEnd, aisleTimedAction. -/
def Obligations.AisleCommandsComplete : Prop :=
  (∀ (n : Fin 8) (t : Ns) (v : Nat) (s : State), 4500 ≤ v → (aisOf s n).st = .unpowered → Effect (.aislePowerUp n t v) s [.time, .aisle] [] (fun u =>
      u.now = max s.now t ∧ OnlyAis n s u ∧ aisOf u n = { aisOf s n with avl := sat 16 v, st := .unconfigured })) ∧
  (∀ (n : Fin 8) (t : Ns) (v : Nat) (s : State), 4500 ≤ v → (aisOf s n).st ≠ .unpowered → Effect (.aislePowerUp n t v) s [.time, .aisle] [] (fun u =>
      u.now = max s.now t ∧ OnlyAis n s u ∧ aisOf u n = { aisOf s n with avl := sat 16 v })) ∧
  (∀ (n : Fin 8) (t : Ns) (v : Nat) (s : State), v < 18000 → Effect (.fieldUndervoltage n t v) s [.time, .aisle] [] (fun u =>
      u.now = max s.now t ∧ OnlyAis n s u ∧ aisOf u n = { aisOf s n with avf := v, fieldUv := true })) ∧
  (∀ (n : Fin 8) (t : Ns) (v : Nat) (s : State), 18500 ≤ v → Effect (.fieldUndervoltageEnd n t v) s [.time, .aisle] [] (fun u =>
      u.now = max s.now t ∧ OnlyAis n s u ∧ aisOf u n = { aisOf s n with avf := sat 16 v, fieldUv := false })) ∧
  (∀ (n : Fin 8) (t : Ns) (v : Nat) (s : State), v < 4300 → exec (.avlUndervoltage n t v) s = .next (stick (aisPowerDown (setNow s t) n v) .aisStatus n 9)) ∧
  (∀ (n : Fin 8) (t : Ns) (s : State), coreRuns s = true → (aisOf s n).st ≠ .unpowered → Yields (.aisleUpstreamSubframe n t false) s (fun u => u.now = max s.now t ∧ OnlyAt aisOf n s u ∧ aisOf u n = { aisOf s n with crcErrors := satInc 16 (aisOf s n).crcErrors, upOk := 0, edges := (aisOf s n).edges.drop 8, recs := [] })) ∧
  (∀ (n : Fin 8) (t : Ns) (s : State), coreRuns s = true → (aisOf s n).st ≠ .unpowered → Yields (.aisleDownstreamSubframe n t false) s (fun u => u.now = max s.now t ∧ OnlyAt aisOf n s u ∧ (aisOf u n).crcErrors = satInc 16 (aisOf s n).crcErrors ∧ (aisOf u n).downOk = 0 ∧ (aisOf u n).toSend = [])) ∧
  (∀ (n : Fin 8) (t : Ns) (s : State),
    coreRuns s = true → (aisOf s n).st ≠ .unpowered → onEdge (setNow s t) = false →
    exec (.aisleUpstreamSubframe n t true) s = .next (takeUp (setNow s t) n t)) ∧
  (∀ (n : Fin 8) (t : Ns) (s : State),
    coreRuns s = true → (aisOf s n).st ≠ .unpowered → onEdge (setNow s t) = true →
    exec (.aisleUpstreamSubframe n t true) s = .next ({ setNow s t with aisle := { s.aisle with edgeUps := s.aisle.edgeUps ++ [n.val] } })) ∧
  (∀ (n : Fin 8) (t : Ns) (s : State), coreRuns s = true → (aisOf s n).st ≠ .unpowered → exec (.aisleDownstreamSubframe n t true) s = .next (takeDown (setNow s t) n t)) ∧
  (∀ (n : Fin 8) (t : Ns) (s : State),
    coreRuns s = true → (aisOf s n).lostUp = false → (aisOf s n).lastUp + aisTimeout s n ≤ t →
    exec (.coreLinkLost n t) s = .next (loseCnt (forEach (stallsOf n) (dropSets (logEv (stick (setAis (setNow s t) n { aisOf s n with lostUp := true, upOk := 0, losses := satInc 16 (aisOf s n).losses }) .aisStatus n 7) (srcAisle n) .aisleLinkLost n) n) lostStall) n t)) ∧
  (∀ (n : Fin 8) (t : Ns) (s : State),
    (aisOf s n).st ≠ .unpowered → (aisOf s n).lostDown = false → (aisOf s n).lastDown + aisTimeout s n ≤ t → (aisOf s n).st = .linked →
    exec (.aisleLinkLost n t) s = .next (logEv (aisEnterSafe (dropSets (stick (setAis (setNow s t) n { aisOf s n with lostDown := true, localOsc := true, downOk := 0, losses := satInc 16 (aisOf s n).losses }) .aisStatus n 7) n) n false) (srcAisle n) .aisleSafe n)) ∧
  (∀ (n : Fin 8) (t : Ns) (s : State),
    (aisOf s n).st ≠ .unpowered → (aisOf s n).lostDown = false → (aisOf s n).lastDown + aisTimeout s n ≤ t → (aisOf s n).st ≠ .linked →
    exec (.aisleLinkLost n t) s = .next (aisEnterSafe (dropSets (stick (setAis (setNow s t) n { aisOf s n with lostDown := true, localOsc := true, downOk := 0, losses := satInc 16 (aisOf s n).losses }) .aisStatus n 7) n) n false)) ∧
  (∀ (n : Fin 8) (s : State), s.rlt.ctx = none → (aisOf s n).st = .safe → Effect (.aisleResumeCmd n) s [.aisle, .wax] [] (fun u =>
      u.wax = (addItem s (.write (regAddr .aisCmd n) 1#32)).wax ∧ OnlyAis n s u ∧ aisOf u n = { aisOf s n with resumeReq := true })) ∧
  (∀ (n : Fin 8) (s : State), s.rlt.ctx = none → (aisOf s n).st ≠ .safe → exec (.aisleResumeCmd n) s = .next (addItem s (.write (regAddr .aisCmd n) 1#32))) ∧
  (∀ (n : Fin 8) (t : Ns) (s : State), (aisOf s n).safeTable ≠ [] → (aisOf s n).tableBad = false → Effect (.safeTableCheck n t false) s [.time, .aisle, .recorder] [(.aisStatus, n), (.evrStatus, 0)] (fun u =>
      OnlyAis n s u ∧ aisOf u n = { aisOf s n with tableBad := true } ∧ regB u .aisStatus n 8 = true)) ∧
  (∀ (n : Fin 8) (t : Ns) (s : State), Effect (.safeTableCheck n t true) s [.time] [] (fun u =>
      u.now = max s.now t)) ∧
  (∀ (n : Fin 8) (s : State), s.rlt.ctx = none → Yields (.aisleClearCounts n) s (fun u => OnlyAt aisOf n s u ∧ aisOf u n = { aisOf s n with crcErrors := 0, losses := 0 } ∧ u.rec_ = s.rec_ ∧ u.rf = s.rf ∧ u.loop = s.loop ∧ u.moist = s.moist)) ∧
  (∀ (n : Fin 8) (s : State), s.rlt.ctx = none → exec (.sweepStart n) s = .next (sweepBegin (addItem s (.write (regAddr .aisCmd n) 2#32)) n)) ∧
  (∀ (n : Fin 8) (s : State), (aisOf s n).st = .linked → s.pair.gate = true → started s = true → (aisOf s n).sweep.running = false →
    sweepBegin s n = sweepGo (setAis s n { aisOf s n with sweep := { Sweep.none with running := true, allLive := aisFault s n, results := (stallsOf n).map (fun i => if isDo s i then 0 else 3) } }) n 0) ∧
  (∀ (n : Fin 8) (s : State),
    (aisOf s n).st ≠ .linked ∨ s.pair.gate = false ∨ started s = false ∨ (aisOf s n).sweep.running = true →
    Changes s (sweepBegin s n) [] [(.aisSweepStatus, n)] (fun u =>
      regB u .aisSweepStatus n 8 = true)) ∧
  (∀ (n : Fin 8) (s : State), s.rlt.ctx = none → (aisOf s n).sweep.running = true → Effect (.sweepAbort n) s [.aisle, .wax] [(.aisSweepStatus, n)] (fun u =>
      u.wax = (addItem s (.write (regAddr .aisCmd n) 4#32)).wax ∧ OnlyAis n s u ∧ aisOf u n = { aisOf s n with sweep := { (aisOf s n).sweep with running := false, pulsing := false, gap := false, done := true, aborted := true, wide := false } } ∧ regB u .aisSweepStatus n 5 = true)) ∧
  (∀ (n : Fin 8) (s : State), s.rlt.ctx = none → (aisOf s n).sweep.running = false → exec (.sweepAbort n) s = .next (addItem s (.write (regAddr .aisCmd n) 4#32))) ∧
  (∀ (n : Fin 8) (s : State), s.rlt.ctx.isSome = true →
    exec (.aisleResumeCmd n) s = .next (report s hostReq (regAddr .aisCmd n) .busy) ∧
    exec (.aisleClearCounts n) s = .next (report s hostReq (regAddr .aisCmd n) .busy) ∧
    exec (.sweepStart n) s = .next (report s hostReq (regAddr .aisCmd n) .busy) ∧
    exec (.sweepAbort n) s = .next (report s hostReq (regAddr .aisCmd n) .busy)) ∧
  (∀ (n : Fin 8) (t : Ns) (f : Bool) (s : State),
    (aisOf s n).sweep.pulsing = true → (aisOf s n).sweep.until_ ≤ t → (sweepNext s n ((aisOf s n).sweep.stall + 1)).isNone = false →
    exec (.sweepPulseEnd n t f) s = .next (setAis (setNow s t) n { aisOf s n with sweep := { (aisOf s n).sweep with pulsing := false, gap := true, results := setAt (aisOf s n).sweep.results (aisOf s n).sweep.stall (if sweepBad (aisOf s n).sweep f then 2 else 1), allLive := (aisOf s n).sweep.allLive && f, until_ := t + regF s .aisSweepCfg n 16 10 * msNs } })) ∧
  (∀ (n : Fin 8) (t : Ns) (f : Bool) (s : State),
    (aisOf s n).sweep.pulsing = true → (aisOf s n).sweep.until_ ≤ t → (sweepNext s n ((aisOf s n).sweep.stall + 1)).isNone = true →
    exec (.sweepPulseEnd n t f) s = .next (sweepFinish (setAis (setNow s t) n { aisOf s n with sweep := { (aisOf s n).sweep with pulsing := false, gap := true, results := setAt (aisOf s n).sweep.results (aisOf s n).sweep.stall (if sweepBad (aisOf s n).sweep f then 2 else 1), allLive := (aisOf s n).sweep.allLive && f, until_ := t + regF s .aisSweepCfg n 16 10 * msNs } }) n false)) ∧
  (∀ (n : Fin 8) (t : Ns) (s : State),
    (aisOf s n).sweep.running = true → (aisOf s n).sweep.gap = true → (aisOf s n).sweep.until_ ≤ t →
    exec (.sweepGapEnd n t) s = .next (sweepGo (setNow s t) n ((aisOf s n).sweep.stall + 1))) ∧
  (∀ (n : Fin 8) (t : Ns) (s : State), (aisOf s n).st = .linked → (aisOf s n).lostDown = false → exec (.aisleTimedAction n t) s = .next (((aisOf s n).timed.filter (fun x => decide (x.at_ ≤ t))).foldl (fun v x => setStl (setLevel v x.stall x.level) x.stall { stlOf (setLevel v x.stall x.level) x.stall with cmd := x.level }) (setAis (setNow s t) n { aisOf s n with timed := (aisOf s n).timed.filter (fun x => decide (t < x.at_)) })))

/-- Transmitter ports (R268 to R276), each where the spec has it act: a valid frame to a port that takes frames writes its readings and
target; a cell without a frame for its timeout goes to its alarm level; the alarm line, the loop's power, a mismatch, and the
register commands that force, release, reset and lock a port, or are refused with tx_state; a row of TX_CMD is kept by the wax and
answers ACCESS_BUSY in a relight. Where the spec leaves a value or a way open it follows the model's own choices of log entry 46.
Commands that it says complete with their own effect: cellCommandFrame, cellTimeout, cellStatusSilent, alarmLineAssert,
alarmLineLoss, loopPowerChange, txMismatch, forcedTimeout, txReset, txForce4, txForce20, txRelease, txLock, txUnlock. -/
def Obligations.CellCommandsComplete : Prop :=
  (∀ (n : Fin 16) (t : Ns) (r : CellReading) (s : State),
    r.valid = true → (txOf s n).powered = true → (txOf s n).lineOn = true → regB s .txCfg n 0 = true → (txOf s n).st ≠ .quiescent →
    exec (.cellCommandFrame n t r) s = .next (txFrame (setNow s t) n t r)) ∧
  (∀ (n : Fin 16) (t : Ns) (r : CellReading) (s : State),
    r.valid = false ∨ (txOf s n).powered = false ∨ (txOf s n).lineOn = false ∨ regB s .txCfg n 0 = false ∨ (txOf s n).st = .quiescent →
    Effect (.cellCommandFrame n t r) s [.time] [] (fun u =>
      u.now = max s.now t)) ∧
  (∀ (n : Fin 16) (t : Ns) (s : State),
    (txOf s n).st = .drive → (txOf s n).lastFrame + txTimeout s n ≤ t →
    Effect (.cellTimeout n t) s [.time, .tx] [] (fun u =>
      u.now = max s.now t ∧ OnlyTx n s u ∧ txOf u n = { txOf s n with st := .alarm, silent := true, misSince := none })) ∧
  (∀ (n : Fin 16) (t : Ns) (s : State),
    (txOf s n).st = .bypass → (txOf s n).lastFrame + txTimeout s n ≤ t →
    Effect (.cellTimeout n t) s [.time, .tx] [] (fun u =>
      u.now = max s.now t ∧ OnlyTx n s u ∧ txOf u n = { txOf s n with st := .alarm, silent := true, misSince := none })) ∧
  (∀ (n : Fin 16) (t : Ns) (s : State), (txOf s n).lastStatus + txTimeout s n ≤ t → Effect (.cellStatusSilent n t) s [.time, .tx] [] (fun u =>
      u.now = max s.now t ∧ OnlyTx n s u ∧ txOf u n = { txOf s n with silent := true })) ∧
  (∀ (n : Fin 16) (t : Ns) (s : State), (txOf s n).st = .quiescent → (txOf s n).powered = true → Effect (.alarmLineAssert n t) s [.time, .tx] [] (fun u =>
      u.now = max s.now t ∧ OnlyTx n s u ∧ txOf u n = { txOf s n with lineOn := true, st := .alarm })) ∧
  (∀ (n : Fin 16) (t : Ns) (s : State), (txOf s n).st ≠ .quiescent → Effect (.alarmLineAssert n t) s [.time, .tx] [] (fun u =>
      u.now = max s.now t ∧ OnlyTx n s u ∧ txOf u n = { txOf s n with lineOn := true, st := (txOf s n).st })) ∧
  (∀ (n : Fin 16) (t : Ns) (s : State), Yields (.alarmLineLoss n t) s (fun u => (u.rec_ = s.rec_ ∧ u.rf = s.rf) ∧ OnlyAt txOf n s u ∧ txOf u n = { txOf s n with st := .quiescent, forceSess := false, misSince := none, lineOn := false } ∧ ((∀ x, u.tx.sess = some x → x.port ≠ n.val)))) ∧
  (∀ (n : Fin 16) (t : Ns) (s : State), Yields (.loopPowerChange n t false) s (fun u => (u.rec_ = s.rec_ ∧ u.rf = s.rf) ∧ OnlyAt txOf n s u ∧ txOf u n = { txOf s n with st := .quiescent, forceSess := false, misSince := none, powered := false } ∧ ((∀ x, u.tx.sess = some x → x.port ≠ n.val)))) ∧
  (∀ (n : Fin 16) (t : Ns) (s : State), (txOf s n).powered = false → (txOf s n).lineOn = true → Effect (.loopPowerChange n t true) s [.time, .tx] [] (fun u =>
      u.now = max s.now t ∧ OnlyTx n s u ∧ txOf u n = { txOf s n with powered := true, st := .alarm })) ∧
  (∀ (n : Fin 16) (t : Ns) (s : State), (txOf s n).powered = false → (txOf s n).lineOn = false → Effect (.loopPowerChange n t true) s [.time, .tx] [] (fun u =>
      u.now = max s.now t ∧ OnlyTx n s u ∧ txOf u n = { txOf s n with powered := true, st := .quiescent })) ∧
  (∀ (n : Fin 16) (t : Ns) (s : State), (txOf s n).powered = true → Effect (.loopPowerChange n t true) s [.time, .tx] [] (fun u =>
      u.now = max s.now t ∧ OnlyTx n s u ∧ txOf u n = { txOf s n with powered := true, st := (txOf s n).st })) ∧
  (∀ (n : Fin 16) (t : Ns) (s : State), txMisDue s n t = true → Effect (.txMismatch n t) s [.time, .tx, .recorder] [(.txStatus, n), (.evrStatus, 0)] (fun u =>
      u.now = max s.now t ∧ OnlyTx n s u ∧ txOf u n = { txOf s n with st := .fault, misSince := none, faults := satInc 16 (txOf s n).faults } ∧ regB u .txStatus n 8 = true)) ∧
  (∀ (n : Fin 16) (t : Ns) (s : State), (txOf s n).st = .forced → (txOf s n).forceAt + 600 * secNs ≤ t → exec (.forcedTimeout n t) s = .next (logEv (txEndForce (setNow s t) n .drive) (srcTx n) .txForced n)) ∧
  (∀ (n : Fin 16) (s : State),
    s.rlt.ctx = none → (txOf s n).st = .fault → driving s = true →
    Effect (.txReset n) s [.tx, .wax] [] (fun u =>
      u.wax = (addItem s (.write (regAddr .txCmd n) 1#32)).wax ∧ OnlyTx n s u ∧ txOf u n = { txOf s n with st := .drive, misSince := none })) ∧
  (∀ (n : Fin 16) (s : State),
    s.rlt.ctx = none → (txOf s n).st ≠ .fault ∨ driving s = false →
    Effect (.txReset n) s [.wax] [(.txStatus, n)] (fun u =>
      u.wax = (addItem s (.write (regAddr .txCmd n) 1#32)).wax ∧ regB u .txStatus n 10 = true)) ∧
  (∀ (n : Fin 16) (s : State),
    s.rlt.ctx = none → txMisDue s n s.now = false → (txOf s n).st = .drive →
    Effect (.txForce4 n) s [.tx, .wax] [] (fun u =>
      u.wax = (addItem s (.write (regAddr .txCmd n) 2#32)).wax ∧ OnlyTx n s u ∧ txOf u n = { txOf s n with st := .forced, forceSpan := false, forceSess := false, forceAt := s.now, misSince := none })) ∧
  (∀ (n : Fin 16) (s : State),
    s.rlt.ctx = none → txMisDue s n s.now = false → (txOf s n).st ≠ .drive →
    Effect (.txForce4 n) s [.wax] [(.txStatus, n)] (fun u =>
      u.wax = (addItem s (.write (regAddr .txCmd n) 2#32)).wax ∧ regB u .txStatus n 10 = true)) ∧
  (∀ (n : Fin 16) (s : State),
    s.rlt.ctx = none → txMisDue s n s.now = false → (txOf s n).st = .drive →
    Effect (.txForce20 n) s [.tx, .wax] [] (fun u =>
      u.wax = (addItem s (.write (regAddr .txCmd n) 3#32)).wax ∧ OnlyTx n s u ∧ txOf u n = { txOf s n with st := .forced, forceSpan := true, forceSess := false, forceAt := s.now, misSince := none })) ∧
  (∀ (n : Fin 16) (s : State),
    s.rlt.ctx = none → txMisDue s n s.now = false → (txOf s n).st ≠ .drive →
    Effect (.txForce20 n) s [.wax] [(.txStatus, n)] (fun u =>
      u.wax = (addItem s (.write (regAddr .txCmd n) 3#32)).wax ∧ regB u .txStatus n 10 = true)) ∧
  (∀ (n : Fin 16) (s : State), s.rlt.ctx = none → (txOf s n).st = .forced → exec (.txRelease n) s = .next (logEv (txEndForce (addItem s (.write (regAddr .txCmd n) 4#32)) n .drive) (srcTx n) .txForced n)) ∧
  (∀ (n : Fin 16) (s : State), s.rlt.ctx = none → (txOf s n).st ≠ .forced → Effect (.txRelease n) s [.wax] [(.txStatus, n)] (fun u =>
      u.wax = (addItem s (.write (regAddr .txCmd n) 4#32)).wax ∧ regB u .txStatus n 10 = true)) ∧
  (∀ (n : Fin 16) (s : State), s.rlt.ctx = none → Effect (.txLock n) s [.tx, .wax] [] (fun u =>
      u.wax = (addItem s (.write (regAddr .txCmd n) 5#32)).wax ∧ OnlyTx n s u ∧ txOf u n = { txOf s n with lockMram := some true })) ∧
  (∀ (n : Fin 16) (s : State), s.rlt.ctx = none → Effect (.txUnlock n) s [.tx, .wax] [] (fun u =>
      u.wax = (addItem s (.write (regAddr .txCmd n) 6#32)).wax ∧ OnlyTx n s u ∧ txOf u n = { txOf s n with lockMram := some false })) ∧
  (∀ (n : Fin 16) (s : State), s.rlt.ctx.isSome = true →
    exec (.txReset n) s = .next (report s hostReq (regAddr .txCmd n) .busy) ∧
    exec (.txForce4 n) s = .next (report s hostReq (regAddr .txCmd n) .busy) ∧
    exec (.txForce20 n) s = .next (report s hostReq (regAddr .txCmd n) .busy) ∧
    exec (.txRelease n) s = .next (report s hostReq (regAddr .txCmd n) .busy) ∧
    exec (.txLock n) s = .next (report s hostReq (regAddr .txCmd n) .busy) ∧
    exec (.txUnlock n) s = .next (report s hostReq (regAddr .txCmd n) .busy))

/-- The trim buttons (R273 to R275), each where the spec has it act: a session starts at the selected port, unlocked and driving, and
forces 4 or 20 mA (the selected port is the one that TRIM_SEL named when the press began); a press moves the trim by one step within
4 percent; the store writes the sum, unless the host has written the register in the same frame (R10), and ends the session; a
minute without a press, or another selection, ends it without storing. Where the spec leaves a value or a way open it follows the
model's own choices of log entry 46. Commands that it says complete with their own effect: trimSessionStart, trimShortPress,
trimStore, trimSessionTimeout, trimSelChange. -/
def Obligations.TrimCommandsComplete : Prop :=
  (∀ (b : Bool) (t : Ns) (s : State),
    s.tx.sess = none → (txOf s (selAt s.tx.selLog s.tx.sel (t - 3 * secNs))).lockMram ≠ some true → regB s .txCfg (selAt s.tx.selLog s.tx.sel (t - 3 * secNs)) 0 = true → (txOf s (selAt s.tx.selLog s.tx.sel (t - 3 * secNs))).st = .drive →
    Yields (.trimSessionStart b t) s (fun u => u.tx.sess = some { span := b, port := (selAt s.tx.selLog s.tx.sel (t - 3 * secNs)), steps := 0, lastPress := t } ∧ OnlyAt txOf (selAt s.tx.selLog s.tx.sel (t - 3 * secNs)) s u ∧ txOf u (selAt s.tx.selLog s.tx.sel (t - 3 * secNs)) = { txOf s (selAt s.tx.selLog s.tx.sel (t - 3 * secNs)) with st := .forced, forceSpan := b, forceSess := true, forceAt := max s.now t, misSince := none } ∧ u.rec_ = s.rec_ ∧ u.rf = s.rf ∧ u.loop = s.loop)) ∧
  (∀ (b : Bool) (t : Ns) (s : State),
    s.tx.sess = none → (txOf s (selAt s.tx.selLog s.tx.sel (t - 3 * secNs))).lockMram = some true ∨ regB s .txCfg (selAt s.tx.selLog s.tx.sel (t - 3 * secNs)) 0 = false ∨ (txOf s (selAt s.tx.selLog s.tx.sel (t - 3 * secNs))).st ≠ .drive →
    Effect (.trimSessionStart b t) s [.time, .recorder] [(.txStatus, (selAt s.tx.selLog s.tx.sel (t - 3 * secNs))), (.evrStatus, 0)] (fun u =>
      u.now = max s.now t)) ∧
  (∀ (t : Ns) (x : TrimSession) (s : State), s.tx.sess = some x → exec (.trimShortPress true t) s = .next ({ setNow s t with tx := { s.tx with sess := some { x with steps := if -400 ≤ (if x.span then regNI s .txTrimSpan x.port 0 16 else regNI s .txTrimZero x.port 0 16) + 4 * (x.steps + 1) ∧ (if x.span then regNI s .txTrimSpan x.port 0 16 else regNI s .txTrimZero x.port 0 16) + 4 * (x.steps + 1) ≤ 400 then x.steps + 1 else x.steps, lastPress := t } } })) ∧
  (∀ (t : Ns) (x : TrimSession) (s : State), s.tx.sess = some x → exec (.trimShortPress false t) s = .next ({ setNow s t with tx := { s.tx with sess := some { x with steps := if -400 ≤ (if x.span then regNI s .txTrimSpan x.port 0 16 else regNI s .txTrimZero x.port 0 16) + 4 * (x.steps - 1) ∧ (if x.span then regNI s .txTrimSpan x.port 0 16 else regNI s .txTrimZero x.port 0 16) + 4 * (x.steps - 1) ≤ 400 then x.steps - 1 else x.steps, lastPress := t } } })) ∧
  (∀ (t : Ns) (x : TrimSession) (s : State),
    s.tx.sess = some x → x.span = true → s.glb.wrote.contains (regAddr .txTrimSpan x.port) = false →
    exec (.trimStore t) s = .next (logEv (setTx (txEndForce (putReg (setNow s t) .txTrimSpan x.port (put 0 16 (wrapN 16 (regNI s .txTrimSpan x.port 0 16 + 4 * x.steps)))) x.port .drive) x.port { txOf (txEndForce (putReg (setNow s t) .txTrimSpan x.port (put 0 16 (wrapN 16 (regNI s .txTrimSpan x.port 0 16 + 4 * x.steps)))) x.port .drive) x.port with trims := satInc 16 (txOf (txEndForce (putReg (setNow s t) .txTrimSpan x.port (put 0 16 (wrapN 16 (regNI s .txTrimSpan x.port 0 16 + 4 * x.steps)))) x.port .drive) x.port).trims }) (srcTx x.port) .txTrimStored (wrapN 16 (regNI s .txTrimSpan x.port 0 16) * 65536 + wrapN 16 (regNI s .txTrimSpan x.port 0 16 + 4 * x.steps)))) ∧
  (∀ (t : Ns) (x : TrimSession) (s : State),
    s.tx.sess = some x → x.span = false → s.glb.wrote.contains (regAddr .txTrimZero x.port) = false →
    exec (.trimStore t) s = .next (logEv (setTx (txEndForce (putReg (setNow s t) .txTrimZero x.port (put 0 16 (wrapN 16 (regNI s .txTrimZero x.port 0 16 + 4 * x.steps)))) x.port .drive) x.port { txOf (txEndForce (putReg (setNow s t) .txTrimZero x.port (put 0 16 (wrapN 16 (regNI s .txTrimZero x.port 0 16 + 4 * x.steps)))) x.port .drive) x.port with trims := satInc 16 (txOf (txEndForce (putReg (setNow s t) .txTrimZero x.port (put 0 16 (wrapN 16 (regNI s .txTrimZero x.port 0 16 + 4 * x.steps)))) x.port .drive) x.port).trims }) (srcTx x.port) .txTrimStored (wrapN 16 (regNI s .txTrimZero x.port 0 16) * 65536 + wrapN 16 (regNI s .txTrimZero x.port 0 16 + 4 * x.steps)))) ∧
  (∀ (t : Ns) (x : TrimSession) (s : State),
    s.tx.sess = some x → x.span = true → s.glb.wrote.contains (regAddr .txTrimSpan x.port) = true →
    exec (.trimStore t) s = .next (logEv (setTx (txEndForce (setNow s t) x.port .drive) x.port { txOf (txEndForce (setNow s t) x.port .drive) x.port with trims := satInc 16 (txOf (txEndForce (setNow s t) x.port .drive) x.port).trims }) (srcTx x.port) .txTrimStored (wrapN 16 (regNI s .txTrimSpan x.port 0 16) * 65536 + wrapN 16 (regNI s .txTrimSpan x.port 0 16 + 4 * x.steps)))) ∧
  (∀ (t : Ns) (x : TrimSession) (s : State),
    s.tx.sess = some x → x.span = false → s.glb.wrote.contains (regAddr .txTrimZero x.port) = true →
    exec (.trimStore t) s = .next (logEv (setTx (txEndForce (setNow s t) x.port .drive) x.port { txOf (txEndForce (setNow s t) x.port .drive) x.port with trims := satInc 16 (txOf (txEndForce (setNow s t) x.port .drive) x.port).trims }) (srcTx x.port) .txTrimStored (wrapN 16 (regNI s .txTrimZero x.port 0 16) * 65536 + wrapN 16 (regNI s .txTrimZero x.port 0 16 + 4 * x.steps)))) ∧
  (∀ (t : Ns) (x : TrimSession) (s : State), s.tx.sess = some x → x.lastPress + 60 * secNs ≤ t → exec (.trimSessionTimeout t) s = .next (logEv (txEndForce (setNow s t) x.port .drive) (srcTx x.port) .txForced x.port)) ∧
  (∀ (i : Fin 16) (t : Ns) (s : State), s.tx.sel ≠ i → s.tx.sess = none → Effect (.trimSelChange i t) s [.time, .tx] [] (fun u =>
      u.now = max s.now t ∧ u.tx = { s.tx with sel := i, selLog := (t, s.tx.sel) :: s.tx.selLog.filter (fun p => decide (t < p.1 + 3 * secNs)) })) ∧
  (∀ (i : Fin 16) (t : Ns) (x : TrimSession) (s : State), s.tx.sel ≠ i → s.tx.sess = some x → exec (.trimSelChange i t) s = .next ({ logEv (txEndForce (setNow s t) x.port .drive) (srcTx x.port) .txForced x.port with tx := { (logEv (txEndForce (setNow s t) x.port .drive) (srcTx x.port) .txForced x.port).tx with sel := i, selLog := (t, (logEv (txEndForce (setNow s t) x.port .drive) (srcTx x.port) .txForced x.port).tx.sel) :: (logEv (txEndForce (setNow s t) x.port .drive) (srcTx x.port) .txForced x.port).tx.selLog.filter (fun p => decide (t < p.1 + 3 * secNs)) } }))

/-- Solenoid ports (R277 to R287), each where the spec has it act: a start begins an activation in OFF within the duty budget, is queued
in DECAY, extends a running activation, and is refused in FAULT or beyond the budget; an end takes the port to decay; the peak
phase's end, the end instant, the decay's end and its limit, and every protection that latches FAULT with the gate low. Where the
spec leaves a value or a way open it follows the model's own choices of log entries 5, 47. Commands that it says complete with their
own effect: solStart, solEnd, solReset, solClearCounts, solOvercurrent, senseFault, holdLow, decayTimeout, dutyCut, peakEnd,
holdEnd, decayEnd. -/
def Obligations.SolenoidCommandsComplete : Prop :=
  (∀ (v : Fin 32) (h : Nat) (s : State),
    s.rlt.ctx = none → (instFor s .solenoidCtrl v).isSome = true →
    Effect (.solStart v h) s [.sol, .wax] [] (fun u =>
      u.wax = (addItem s (.write (regAddr .solCmd v) 1#32)).wax ∧ OnlyAt solOf v s u ∧ solOf u v = { solOf s v with inbox := (solOf s v).inbox ++ [(1, h)] })) ∧
  (∀ (v : Fin 32) (h : Nat) (s : State),
    s.rlt.ctx = none → (instFor s .solenoidCtrl v).isSome = false →
    Effect (.solStart v h) s [.sol, .wax] [] (fun u =>
      u.wax = (addItem s (.write (regAddr .solCmd v) 1#32)).wax ∧ OnlyAt solOf v s u ∧ solOf u v = { solOf s v with nextCmd := (solOf s v).nextCmd ++ [(1, h)] })) ∧
  (∀ (v : Fin 32) (s : State),
    s.rlt.ctx = none → (instFor s .solenoidCtrl v).isSome = true →
    Effect (.solEnd v) s [.sol, .wax] [] (fun u =>
      u.wax = (addItem s (.write (regAddr .solCmd v) 2#32)).wax ∧ OnlyAt solOf v s u ∧ solOf u v = { solOf s v with inbox := (solOf s v).inbox ++ [(2, 0)] })) ∧
  (∀ (v : Fin 32) (s : State),
    s.rlt.ctx = none → (instFor s .solenoidCtrl v).isSome = false →
    Effect (.solEnd v) s [.sol, .wax] [] (fun u =>
      u.wax = (addItem s (.write (regAddr .solCmd v) 2#32)).wax ∧ OnlyAt solOf v s u ∧ solOf u v = { solOf s v with nextCmd := (solOf s v).nextCmd ++ [(2, 0)] })) ∧
  (∀ (v : Fin 32) (s : State),
    s.rlt.ctx = none → (instFor s .solenoidCtrl v).isSome = true →
    Effect (.solReset v) s [.sol, .wax] [] (fun u =>
      u.wax = (addItem s (.write (regAddr .solCmd v) 3#32)).wax ∧ OnlyAt solOf v s u ∧ solOf u v = { solOf s v with inbox := (solOf s v).inbox ++ [(3, 0)] })) ∧
  (∀ (v : Fin 32) (s : State),
    s.rlt.ctx = none → (instFor s .solenoidCtrl v).isSome = false →
    Effect (.solReset v) s [.sol, .wax] [] (fun u =>
      u.wax = (addItem s (.write (regAddr .solCmd v) 3#32)).wax ∧ OnlyAt solOf v s u ∧ solOf u v = { solOf s v with nextCmd := (solOf s v).nextCmd ++ [(3, 0)] })) ∧
  (∀ (v : Fin 32) (s : State),
    s.rlt.ctx = none → (instFor s .solenoidCtrl v).isSome = true →
    Effect (.solClearCounts v) s [.sol, .wax] [] (fun u =>
      u.wax = (addItem s (.write (regAddr .solCmd v) 4#32)).wax ∧ OnlyAt solOf v s u ∧ solOf u v = { solOf s v with inbox := (solOf s v).inbox ++ [(4, 0)] })) ∧
  (∀ (v : Fin 32) (s : State),
    s.rlt.ctx = none → (instFor s .solenoidCtrl v).isSome = false →
    Effect (.solClearCounts v) s [.sol, .wax] [] (fun u =>
      u.wax = (addItem s (.write (regAddr .solCmd v) 4#32)).wax ∧ OnlyAt solOf v s u ∧ solOf u v = { solOf s v with nextCmd := (solOf s v).nextCmd ++ [(4, 0)] })) ∧
  (∀ (v : Fin 32) (h : Nat) (s : State), s.rlt.ctx.isSome = true →
    exec (.solStart v h) s = .next (report s hostReq (regAddr .solCmd v) .busy) ∧
    exec (.solEnd v) s = .next (report s hostReq (regAddr .solCmd v) .busy) ∧
    exec (.solReset v) s = .next (report s hostReq (regAddr .solCmd v) .busy) ∧
    exec (.solClearCounts v) s = .next (report s hostReq (regAddr .solCmd v) .busy)) ∧
  (∀ (v : Fin 32) (t : Nat) (s : State),
    driving s = true → (solOf s v).st = .off → solAdmits s v t (solNeed s v 0) = true → (regF s .solPeak v 12 14 * 100 * usNs) = 0 →
    Changes s ((solTakeStart s v 0 t).1) [.sol] [] (fun u =>
      OnlyAt solOf v s u ∧ solOf u v = { ({ solOf s v with decayMax := (solSettings s v).1, pwmNs := (solSettings s v).2.1, dith := (solSettings s v).2.2 } : SolPort).newPeriod t with st := .hold, e := .open_, ts := t, tPeak := (regF s .solPeak v 12 14 * 100 * usNs), iPeak := regF s .solPeak v 0 12, onSince := some t, gate := true, fd := true, queued := none, activations := satInc 16 (solOf s v).activations })) ∧
  (∀ (v : Fin 32) (t : Nat) (s : State),
    driving s = true → (solOf s v).st = .off → solAdmits s v t (solNeed s v 0) = true → (regF s .solPeak v 12 14 * 100 * usNs) ≠ 0 →
    Changes s ((solTakeStart s v 0 t).1) [.sol] [] (fun u =>
      OnlyAt solOf v s u ∧ solOf u v = { ({ solOf s v with decayMax := (solSettings s v).1, pwmNs := (solSettings s v).2.1, dith := (solSettings s v).2.2 } : SolPort).newPeriod t with st := .peak, e := .open_, ts := t, tPeak := (regF s .solPeak v 12 14 * 100 * usNs), iPeak := regF s .solPeak v 0 12, onSince := some t, gate := true, fd := true, queued := none, activations := satInc 16 (solOf s v).activations })) ∧
  (∀ (v : Fin 32) (h t : Nat) (s : State),
    driving s = true → (solOf s v).st = .off → solAdmits s v t (solNeed s v h) = true → h ≠ 0 → (regF s .solPeak v 12 14 * 100 * usNs) = 0 →
    Changes s ((solTakeStart s v h t).1) [.sol] [] (fun u =>
      OnlyAt solOf v s u ∧ solOf u v = { ({ solOf s v with decayMax := (solSettings s v).1, pwmNs := (solSettings s v).2.1, dith := (solSettings s v).2.2 } : SolPort).newPeriod t with st := .hold, e := .at_ (t + (regF s .solPeak v 12 14 * 100 * usNs) + h * usNs), ts := t, tPeak := (regF s .solPeak v 12 14 * 100 * usNs), iPeak := regF s .solPeak v 0 12, onSince := some t, gate := true, fd := true, queued := none, activations := satInc 16 (solOf s v).activations })) ∧
  (∀ (v : Fin 32) (h t : Nat) (s : State),
    driving s = true → (solOf s v).st = .off → solAdmits s v t (solNeed s v h) = true → h ≠ 0 → (regF s .solPeak v 12 14 * 100 * usNs) ≠ 0 →
    Changes s ((solTakeStart s v h t).1) [.sol] [] (fun u =>
      OnlyAt solOf v s u ∧ solOf u v = { ({ solOf s v with decayMax := (solSettings s v).1, pwmNs := (solSettings s v).2.1, dith := (solSettings s v).2.2 } : SolPort).newPeriod t with st := .peak, e := .at_ (t + (regF s .solPeak v 12 14 * 100 * usNs) + h * usNs), ts := t, tPeak := (regF s .solPeak v 12 14 * 100 * usNs), iPeak := regF s .solPeak v 0 12, onSince := some t, gate := true, fd := true, queued := none, activations := satInc 16 (solOf s v).activations })) ∧
  (∀ (v : Fin 32) (h t : Nat) (s : State),
    driving s = true → (solOf s v).st = .off → solAdmits s v t (solNeed s v h) = false →
    Changes s ((solTakeStart s v h t).1) [.recorder] [(.solStatus, v), (.evrStatus, 0)] (fun u =>
      regB u .solStatus v 9 = true)) ∧
  (∀ (v : Fin 32) (h t : Nat) (s : State), driving s = true → (solOf s v).st = .fault → Changes s ((solTakeStart s v h t).1) [] [(.solStatus, v)] (fun u =>
      regB u .solStatus v 11 = true)) ∧
  (∀ (v : Fin 32) (h t : Nat) (s : State),
    driving s = true → (solOf s v).st = .decay → (solOf s v).queued = none →
    Changes s ((solTakeStart s v h t).1) [.sol] [] (fun u =>
      OnlyAt solOf v s u ∧ solOf u v = { solOf s v with queued := some h })) ∧
  (∀ (v : Fin 32) (h t : Nat) (s : State),
    driving s = true → (solOf s v).st = .peak → h ≠ 0 → SolEnd.max (solOf s v).e (.at_ (t + (solOf s v).tPeak + h * usNs)) = (solOf s v).e →
    Changes s ((solTakeStart s v h t).1) [.sol] [] (fun u =>
      OnlyAt solOf v s u ∧ solOf u v = { solOf s v with e := (solOf s v).e })) ∧
  (∀ (v : Fin 32) (h t : Nat) (s : State),
    driving s = true → (solOf s v).st = .hold → h ≠ 0 → SolEnd.max (solOf s v).e (.at_ (t + (solOf s v).tPeak + h * usNs)) = (solOf s v).e →
    Changes s ((solTakeStart s v h t).1) [.sol] [] (fun u =>
      OnlyAt solOf v s u ∧ solOf u v = { solOf s v with e := (solOf s v).e })) ∧
  (∀ (v : Fin 32) (h t : Nat) (s : State), driving s = false → solTakeStart s v h t = (s, true)) ∧
  (∀ (v : Fin 32) (t : Nat) (s : State), (solOf s v).st = .hold → Changes s (solTakeEnd s v t) [.sol] [] (fun u =>
      OnlyAt solOf v s u ∧ solOf u v = { ({ solOf s v with e := .at_ t } : SolPort).toDecay (solFast s v) t with queued := none })) ∧
  (∀ (v : Fin 32) (t : Nat) (s : State), (solOf s v).st = .peak → Changes s (solTakeEnd s v t) [.sol] [] (fun u =>
      OnlyAt solOf v s u ∧ solOf u v = { solOf s v with e := .at_ ((solOf s v).ts + (solOf s v).tPeak) })) ∧
  (∀ (v : Fin 32) (t : Nat) (s : State), (solOf s v).st = .decay → Changes s (solTakeEnd s v t) [.sol] [] (fun u =>
      OnlyAt solOf v s u ∧ solOf u v = { solOf s v with queued := none })) ∧
  (∀ (v : Fin 32) (t : Nat) (s : State),
    (solOf s v).st = .fault → (solOf s v).fault = .openCoil → (solOf s v).freshFault t = false →
    Changes s (solTakeReset s v t) [.sol, .free] [] (fun u =>
      OnlyAt solOf v s u ∧ solOf u v = { solOf s v with st := .off, fault := .none, gate := false, fd := false })) ∧
  (∀ (v : Fin 32) (t : Nat) (s : State),
    (solOf s v).st = .fault → (solOf s v).fault = .holdLow → (solOf s v).freshFault t = false →
    Changes s (solTakeReset s v t) [.sol, .free] [] (fun u =>
      OnlyAt solOf v s u ∧ solOf u v = { solOf s v with st := .off, fault := .none, gate := false, fd := false })) ∧
  (∀ (v : Fin 32) (t : Nat) (s : State),
    (solOf s v).st = .fault → (solOf s v).fault = .overcurrent → (solOf s v).freshFault t = false →
    Changes s (solTakeReset s v t) [.sol, .free] [] (fun u =>
      OnlyAt solOf v s u ∧ solOf u v = { solOf s v with st := .off, fault := .none, gate := false, fd := false })) ∧
  (∀ (v : Fin 32) (t : Nat) (s : State),
    (solOf s v).st = .fault → (solOf s v).fault = .dutyCut → (solOf s v).freshFault t = false →
    Changes s (solTakeReset s v t) [.sol, .free] [] (fun u =>
      OnlyAt solOf v s u ∧ solOf u v = { solOf s v with st := .off, fault := .none, gate := false, fd := false })) ∧
  (∀ (v : Fin 32) (t : Nat) (s : State), (solOf s v).st = .fault → (solOf s v).freshFault t = true → Changes s (solTakeReset s v t) [.free] [(.solStatus, v)] (fun u =>
      regB u .solStatus v 11 = true)) ∧
  (∀ (v : Fin 32) (t : Nat) (s : State), (solOf s v).st ≠ .fault → (solOf s v).st ≠ .disabled → Changes s (solTakeReset s v t) [] [(.solStatus, v)] (fun u =>
      regB u .solStatus v 11 = true)) ∧
  (∀ (v : Fin 32) (s : State), Changes s (solClear s v) [.sol] [] (fun u =>
      OnlyAt solOf v s u ∧ solOf u v = { solOf s v with activations := 0, faults := 0 })) ∧
  (∀ (v : Fin 32) (t : Ns) (s : State), (solOf s v).st ≠ .disabled → (solOf s v).st ≠ .fault → Effect (.solOvercurrent v t) s [.time, .sol, .recorder] [(.evrStatus, 0)] (fun u =>
      u.now = max s.now t ∧ OnlyAt solOf v s u ∧ solOf u v = { ((solOf s v).regulate t).closeOn t with st := .fault, fault := .overcurrent, faultAt := some t, gate := false, fd := !solFast s v, queued := none, faults := satInc 16 (solOf s v).faults })) ∧
  (∀ (v : Fin 32) (t : Ns) (s : State), (solOf s v).st ≠ .disabled → (solOf s v).st ≠ .fault → Effect (.senseFault v t) s [.time, .sol, .recorder] [(.evrStatus, 0)] (fun u =>
      u.now = max s.now t ∧ OnlyAt solOf v s u ∧ solOf u v = { ((solOf s v).regulate t).closeOn t with st := .fault, fault := .senseFault, faultAt := some t, gate := false, fd := !solFast s v, queued := none, faults := satInc 16 (solOf s v).faults })) ∧
  (∀ (v : Fin 32) (t : Ns) (s : State),
    (solOf s v).st = .hold → (solOf s v).ts + (solOf s v).tPeak + 10 * msNs ≤ t → (solOf s v).st ≠ .disabled → (solOf s v).st ≠ .fault →
    Effect (.holdLow v t) s [.time, .sol, .recorder] [(.evrStatus, 0)] (fun u =>
      u.now = max s.now t ∧ OnlyAt solOf v s u ∧ solOf u v = { ((solOf s v).regulate t).closeOn t with st := .fault, fault := .holdLow, faultAt := some t, gate := false, fd := !solFast s v, queued := none, faults := satInc 16 (solOf s v).faults })) ∧
  (∀ (v : Fin 32) (t : Ns) (s : State),
    (solOf s v).st = .decay → (solOf s v).decayAt + (solOf s v).decayMax ≤ t → (solOf s v).st ≠ .disabled → (solOf s v).st ≠ .fault →
    Effect (.decayTimeout v t) s [.time, .sol, .recorder] [(.evrStatus, 0)] (fun u =>
      u.now = max s.now t ∧ OnlyAt solOf v s u ∧ solOf u v = { ((solOf s v).regulate t).closeOn t with st := .fault, fault := .decayTimeout, faultAt := some t, gate := false, fd := !solFast s v, queued := none, faults := satInc 16 (solOf s v).faults })) ∧
  (∀ (v : Fin 32) (t : Ns) (l : Nat) (s : State),
    (solOf s v).st = .peak → SolEnd.reached (solOf s v).e t = false → solBudget s v = some l → l ≤ solUsed s v t → (solOf s v).st ≠ .disabled → (solOf s v).st ≠ .fault →
    Effect (.dutyCut v t) s [.time, .sol, .recorder] [(.evrStatus, 0)] (fun u =>
      u.now = max s.now t ∧ OnlyAt solOf v s u ∧ solOf u v = { ((solOf s v).regulate t).closeOn t with st := .fault, fault := .dutyCut, faultAt := some t, gate := false, fd := !solFast s v, queued := none, faults := satInc 16 (solOf s v).faults })) ∧
  (∀ (v : Fin 32) (t : Ns) (l : Nat) (s : State),
    (solOf s v).st = .hold → SolEnd.reached (solOf s v).e t = false → solBudget s v = some l → l ≤ solUsed s v t → (solOf s v).st ≠ .disabled → (solOf s v).st ≠ .fault →
    Effect (.dutyCut v t) s [.time, .sol, .recorder] [(.evrStatus, 0)] (fun u =>
      u.now = max s.now t ∧ OnlyAt solOf v s u ∧ solOf u v = { ((solOf s v).regulate t).closeOn t with st := .fault, fault := .dutyCut, faultAt := some t, gate := false, fd := !solFast s v, queued := none, faults := satInc 16 (solOf s v).faults })) ∧
  (∀ (v : Fin 32) (t : Ns) (cur : F32) (s : State),
    (solOf s v).st = .peak → (solOf s v).ts + (solOf s v).tPeak ≤ t + usNs → fLt cur (fDiv (fOfNat (solOf s v).iPeak) (fOfNat 1000)) = true → (solOf s v).st ≠ .disabled → (solOf s v).st ≠ .fault →
    Effect (.peakEnd v t cur) s [.time, .sol, .recorder] [(.evrStatus, 0)] (fun u =>
      u.now = max s.now t ∧ OnlyAt solOf v s u ∧ solOf u v = { ((solOf s v).regulate t).closeOn t with st := .fault, fault := .openCoil, faultAt := some t, gate := false, fd := !solFast s v, queued := none, faults := satInc 16 (solOf s v).faults })) ∧
  (∀ (v : Fin 32) (t : Ns) (cur : F32) (s : State),
    (solOf s v).st = .peak → (solOf s v).ts + (solOf s v).tPeak ≤ t + usNs → fLt cur (fDiv (fOfNat (solOf s v).iPeak) (fOfNat 1000)) = false → fLe cur (fMul (fOfNat 9) (fDiv (fOfNat (solOf s v).iPeak) (fOfNat 1000))) = false → SolEnd.reached (solOf s v).e t = false →
    Effect (.peakEnd v t cur) s [.time, .sol] [] (fun u =>
      u.now = max s.now t ∧ OnlyAt solOf v s u ∧ solOf u v = { (solOf s v).regulate t with st := .hold })) ∧
  (∀ (v : Fin 32) (t : Ns) (cur : F32) (s : State),
    (solOf s v).st = .peak → (solOf s v).ts + (solOf s v).tPeak ≤ t + usNs → fLt cur (fDiv (fOfNat (solOf s v).iPeak) (fOfNat 1000)) = false → fLe cur (fMul (fOfNat 9) (fDiv (fOfNat (solOf s v).iPeak) (fOfNat 1000))) = false → SolEnd.reached (solOf s v).e t = true →
    Effect (.peakEnd v t cur) s [.time, .sol] [] (fun u =>
      u.now = max s.now t ∧ OnlyAt solOf v s u ∧ solOf u v = ((solOf s v).toDecay (solFast s v) t))) ∧
  (∀ (v : Fin 32) (t : Ns) (s : State),
    (solOf s v).st = .hold → SolEnd.reached (solOf s v).e t = true →
    Effect (.holdEnd v t) s [.time, .sol] [] (fun u =>
      u.now = max s.now t ∧ OnlyAt solOf v s u ∧ solOf u v = ((solOf s v).toDecay (solFast s v) t))) ∧
  (∀ (v : Fin 32) (t : Ns) (s : State), (solOf s v).st = .decay → (solOf s v).queued = none → Effect (.decayEnd v t) s [.time, .sol] [] (fun u =>
      u.now = max s.now t ∧ OnlyAt solOf v s u ∧ solOf u v = { solOf s v with st := .off, fd := false })) ∧
  (∀ (v : Fin 32) (t : Ns) (s : State), (solOf s v).st = .fault → Effect (.decayEnd v t) s [.time, .sol] [] (fun u =>
      u.now = max s.now t ∧ OnlyAt solOf v s u ∧ solOf u v = { solOf s v with fd := false })) ∧
  (∀ (v : Fin 32) (t : Ns) (h : Nat) (s : State),
    (solOf s v).st = .decay → (solOf s v).queued = some h → solAdmits s v t (solNeed s v h) = true →
    exec (.decayEnd v t) s = .next (solBegin (setNow s t) v h t))

/-- Tally banks (R323 to R325): a post that nothing forbids arms the lower free bank with its number and instant, by datagram or by the
registers; an acknowledged bank is freed; an unknown number gives result 5; the latch is taken at or after the posted instant. Where
the spec leaves a value or a way open it follows the model's own choices of log entries 50, 51. Commands that it says complete with
their own effect: tallyPost, talPost, talAck, tallyLatch. -/
def Obligations.TallyCommandsComplete : Prop :=
  (∀ (t : Ns) (d : Dgram) (n : W32) (i k l : Nat) (s : State),
    fwRuns (setNow s t) = true → (identNow (setNow s t)).isSome = true → authOf (setNow s t) d = some (k, l) → 1 ≤ l →
    exec (.tallyPost t d n i) s = .next (respond (noteChange (tallyPost (acceptDgram (setNow s t) d k) i n.toNat) d) d (keyIn (setNow s t) k) 0 [])) ∧
  (∀ (s : State),
    tallyCode s (reg64 s .talPostTLo .talPostTHi 0) (regW s .talPostNum 0).toNat = 0 → s.tal.bank0.st = .free →
    Effect (.talPost) s [.tal] [] (fun u =>
      u.tal = { s.tal with result := 0, resultBank := 0, bank0 := { st := .armed, num := (regW s .talPostNum 0).toNat, tPost := reg64 s .talPostTLo .talPostTHi 0, armedIn := some (frameOf s.now), image := BankImage.empty } })) ∧
  (∀ (s : State),
    tallyCode s (reg64 s .talPostTLo .talPostTHi 0) (regW s .talPostNum 0).toNat = 0 → s.tal.bank0.st ≠ .free → s.tal.bank1.st = .free →
    Effect (.talPost) s [.tal] [] (fun u =>
      u.tal = { s.tal with result := 0, resultBank := 1, bank1 := { st := .armed, num := (regW s .talPostNum 0).toNat, tPost := reg64 s .talPostTLo .talPostTHi 0, armedIn := some (frameOf s.now), image := BankImage.empty } })) ∧
  (∀ (s : State),
    tallyCode s (reg64 s .talPostTLo .talPostTHi 0) (regW s .talPostNum 0).toNat = 4 →
    Effect (.talPost) s [.tal] [(.talStatus, 0)] (fun u =>
      u.tal = { s.tal with result := 4, retry := some (frameOf s.now, reg64 s .talPostTLo .talPostTHi 0, (regW s .talPostNum 0).toNat, regB s .talStatus 0 1) } ∧ regB u .talStatus 0 1 = true)) ∧
  (∀ (n : W32) (s : State), talHolds s n.toNat = none → Effect (.talAck n) s [.tal] [] (fun u =>
      u.tal = { s.tal with result := 5 })) ∧
  (∀ (n : W32) (s : State),
    talHolds s n.toNat = some false → s.tal.retry = none → (talBank s false).st = .latched →
    Effect (.talAck n) s [.tal] [] (fun u =>
      u.tal = { s.tal with bank0 := TallyBank.freeBank })) ∧
  (∀ (n : W32) (s : State),
    talHolds s n.toNat = some true → s.tal.retry = none → (talBank s true).st = .latched →
    Effect (.talAck n) s [.tal] [] (fun u =>
      u.tal = { s.tal with bank1 := TallyBank.freeBank })) ∧
  (∀ (t : Ns) (s : State),
    s.tal.bank0.st = .armed → s.tal.bank0.tPost ≤ max s.now t → s.tal.bank1.st ≠ .armed → s.hld.str.notice = none →
    exec (.tallyLatch t) s = .next (logRaw (stick (useFree (setTalBank (setNow s t) false { s.tal.bank0 with st := .latched, image := talImage (setNow s t) false })) .talStatus 0 0) srcTal .tallyLatched (s.tal.bank0.num % 2 ^ 32 + 0 * 2 ^ 32 + BankImage.flags (talImage (setNow s t) false) * 2 ^ 40)))

/-- Reads and writes of registers (R463 to R465, R473): a misaligned access and an address without a register change nothing but the
report of their code; a word goes to its register; the low word of a pair is held for its high word, a high word without it is
SPLIT; a read of a low word latches the high one; a datagram's accesses follow its authentication. Where the spec leaves a value or
a way open it follows the model's own choices of log entries 16, 18, 19. Commands that it says complete with their own effect:
registerWrite, pairHighWordWrite, pairLowWordRead, eventWindowRead, datagramRead, datagramWrite. -/
def Obligations.RegisterAccessesComplete : Prop :=
  (∀ (a : Nat) (v : W32) (s : State), a % 4 ≠ 0 → Effect (.registerWrite a v) s [.glb] [(.glbAccess, 0)] (fun u =>
      u.glb = { s.glb with accCode := Acc.code .align, accKind := false, accSender := 0x8000, accAddr := a % 2 ^ 32, accCount := satInc 16 s.glb.accCount } ∧ regB u .glbAccess 0 5 = true)) ∧
  (∀ (a : Nat) (v : W32) (s : State),
    a % 4 = 0 → decodeAddr (a % 2 ^ 32) = none → viewWord s (a % 2 ^ 32) = none → ¬(0x02000000 ≤ a % 2 ^ 32 ∧ a % 2 ^ 32 < 0x04000000) →
    Effect (.registerWrite a v) s [.glb] [(.glbAccess, 0)] (fun u =>
      u.glb = { s.glb with accCode := Acc.code .unmapped, accKind := false, accSender := 0x8000, accAddr := a % 2 ^ 32, accCount := satInc 16 s.glb.accCount } ∧ regB u .glbAccess 0 5 = true)) ∧
  (∀ (a : Nat) (v : W32) (r : RegName) (i : Nat) (s : State),
    a % 4 = 0 → decodeAddr (a % 2 ^ 32) = some (r, i) → highOf r = none → lowOf r = none →
    exec (.registerWrite a v) s = .next ((writeWords s hostReq (a % 2 ^ 32) [(r, i, v)]).1)) ∧
  (∀ (a : Nat) (v : W32) (r p : RegName) (i : Nat) (s : State),
    a % 4 = 0 → decodeAddr (a % 2 ^ 32) = some (r, i) → highOf r = some p → pairAccepts s r p = true →
    Effect (.registerWrite a v) s [.glb] [] (fun u =>
      u.glb = { s.glb with wrLatch := spPut s.glb.wrLatch (a % 2 ^ 32) v })) ∧
  (∀ (a : Nat) (v w : W32) (r p : RegName) (i : Nat) (s : State),
    a % 4 = 0 → decodeAddr (a % 2 ^ 32) = some (r, i) → highOf r = none → lowOf r = some p → pairAccepts s p r = true → lookup s.glb.wrLatch (a % 2 ^ 32 - 4) = some w →
    exec (.registerWrite a v) s = .next ((writeWords s hostReq (a % 2 ^ 32) [(p, i, w), (r, i, v)]).1)) ∧
  (∀ (a : Nat) (v : W32) (r p : RegName) (i : Nat) (s : State),
    a % 4 = 0 → decodeAddr (a % 2 ^ 32) = some (r, i) → highOf r = none → lowOf r = some p → pairAccepts s p r = true → lookup s.glb.wrLatch (a % 2 ^ 32 - 4) = none →
    Effect (.registerWrite a v) s [.glb] [(.glbAccess, 0)] (fun u =>
      u.glb = { s.glb with accCode := Acc.code .split, accKind := false, accSender := 0x8000, accAddr := a % 2 ^ 32, accCount := satInc 16 s.glb.accCount })) ∧
  (∀ (a : Nat) (v : W32) (s : State), a % 4 ≠ 0 → Effect (.pairHighWordWrite a v) s [.glb] [(.glbAccess, 0)] (fun u =>
      u.glb = { s.glb with accCode := Acc.code .align, accKind := false, accSender := 0x8000, accAddr := a % 2 ^ 32, accCount := satInc 16 s.glb.accCount } ∧ regB u .glbAccess 0 5 = true)) ∧
  (∀ (a : Nat) (v : W32) (s : State),
    a % 4 = 0 → decodeAddr (a % 2 ^ 32) = none → viewWord s (a % 2 ^ 32) = none → ¬(0x02000000 ≤ a % 2 ^ 32 ∧ a % 2 ^ 32 < 0x04000000) →
    Effect (.pairHighWordWrite a v) s [.glb] [(.glbAccess, 0)] (fun u =>
      u.glb = { s.glb with accCode := Acc.code .unmapped, accKind := false, accSender := 0x8000, accAddr := a % 2 ^ 32, accCount := satInc 16 s.glb.accCount } ∧ regB u .glbAccess 0 5 = true)) ∧
  (∀ (a : Nat) (v : W32) (r : RegName) (i : Nat) (s : State),
    a % 4 = 0 → decodeAddr (a % 2 ^ 32) = some (r, i) → highOf r = none → lowOf r = none →
    exec (.pairHighWordWrite a v) s = .next ((writeWords s hostReq (a % 2 ^ 32) [(r, i, v)]).1)) ∧
  (∀ (a : Nat) (v : W32) (r p : RegName) (i : Nat) (s : State),
    a % 4 = 0 → decodeAddr (a % 2 ^ 32) = some (r, i) → highOf r = some p → pairAccepts s r p = true →
    Effect (.pairHighWordWrite a v) s [.glb] [] (fun u =>
      u.glb = { s.glb with wrLatch := spPut s.glb.wrLatch (a % 2 ^ 32) v })) ∧
  (∀ (a : Nat) (v w : W32) (r p : RegName) (i : Nat) (s : State),
    a % 4 = 0 → decodeAddr (a % 2 ^ 32) = some (r, i) → highOf r = none → lowOf r = some p → pairAccepts s p r = true → lookup s.glb.wrLatch (a % 2 ^ 32 - 4) = some w →
    exec (.pairHighWordWrite a v) s = .next ((writeWords s hostReq (a % 2 ^ 32) [(p, i, w), (r, i, v)]).1)) ∧
  (∀ (a : Nat) (v : W32) (r p : RegName) (i : Nat) (s : State),
    a % 4 = 0 → decodeAddr (a % 2 ^ 32) = some (r, i) → highOf r = none → lowOf r = some p → pairAccepts s p r = true → lookup s.glb.wrLatch (a % 2 ^ 32 - 4) = none →
    Effect (.pairHighWordWrite a v) s [.glb] [(.glbAccess, 0)] (fun u =>
      u.glb = { s.glb with accCode := Acc.code .split, accKind := false, accSender := 0x8000, accAddr := a % 2 ^ 32, accCount := satInc 16 s.glb.accCount })) ∧
  (∀ (a : Nat) (s : State), a % 4 ≠ 0 → Effect (.pairLowWordRead a) s [.glb] [(.glbAccess, 0)] (fun u =>
      u.glb = { s.glb with accCode := Acc.code .align, accKind := false, accSender := 0x8000, accAddr := a % 2 ^ 32, accCount := satInc 16 s.glb.accCount } ∧ regB u .glbAccess 0 5 = true)) ∧
  (∀ (a : Nat) (r p : RegName) (i : Nat) (s : State),
    a % 4 = 0 → lookup s.glb.rdLatch (a % 2 ^ 32) = none → decodeAddr (a % 2 ^ 32) = some (r, i) → highOf r = some p →
    Effect (.pairLowWordRead a) s [.glb] [] (fun u =>
      u.glb = { s.glb with rdLatch := spPut s.glb.rdLatch (a % 2 ^ 32 + 4) (readWord (shownState s (a % 2 ^ 32)) p i) })) ∧
  (∀ (a : Nat) (r : RegName) (i : Nat) (s : State),
    a % 4 = 0 → lookup s.glb.rdLatch (a % 2 ^ 32) = none → decodeAddr (a % 2 ^ 32) = some (r, i) → highOf r = none →
    Effect (.pairLowWordRead a) s [] [] (fun u =>
      u = s)) ∧
  (∀ (j : Fin 256) (s : State), Effect (.eventWindowRead j) s [.glb] [] (fun u =>
      u.glb = { s.glb with evLatch := some (j, windowRec s j) })) ∧
  (∀ (t : Ns) (d : Dgram) (a n k l : Nat) (s : State),
    fwRuns (setNow s t) = true → (identNow (setNow s t)).isSome = true → authOf (setNow s t) d = some (k, l) → 1 ≤ l → 0 < n → n ≤ 100 →
    exec (.datagramRead t d a n) s = .next (respond (endRequest (readRun (endRequest (acceptDgram (setNow s t) d k)) (dgramReq (acceptDgram (setNow s t) d k) d l) (a % 2 ^ 32) n).1) d (keyIn (setNow s t) k) (readRun (endRequest (acceptDgram (setNow s t) d k)) (dgramReq (acceptDgram (setNow s t) d k) d l) (a % 2 ^ 32) n).2.2.code (readRun (endRequest (acceptDgram (setNow s t) d k)) (dgramReq (acceptDgram (setNow s t) d k) d l) (a % 2 ^ 32) n).2.1)) ∧
  (∀ (t : Ns) (d : Dgram) (a n k l : Nat) (s : State),
    fwRuns (setNow s t) = true → (identNow (setNow s t)).isSome = true → authOf (setNow s t) d = some (k, l) → 1 ≤ l → n = 0 ∨ 100 < n →
    exec (.datagramRead t d a n) s = .next (respond (acceptDgram (setNow s t) d k) d (keyIn (setNow s t) k) Acc.range.code [])) ∧
  (∀ (t : Ns) (d : Dgram) (a k l : Nat) (ws : List W32) (s : State),
    fwRuns (setNow s t) = true → (identNow (setNow s t)).isSome = true → authOf (setNow s t) d = some (k, l) → 1 ≤ l → ws.length = 0 ∨ 100 < ws.length →
    exec (.datagramWrite t d a ws) s = .next (respond (acceptDgram (setNow s t) d k) d (keyIn (setNow s t) k) Acc.range.code [])) ∧
  (∀ (t : Ns) (d : Dgram) (a k l : Nat) (ws : List W32) (s : State),
    fwRuns (setNow s t) = true → (identNow (setNow s t)).isSome = true → authOf (setNow s t) d = some (k, l) → 1 ≤ l → ¬(ws.length = 0 ∨ 100 < ws.length) → deniedAt l (a % 2 ^ 32) ws = none → (writeRun (endRequest (acceptDgram (setNow s t) d k)) (dgramReq (acceptDgram (setNow s t) d k) d l) (a % 2 ^ 32) ws).2.length < ws.length →
    exec (.datagramWrite t d a ws) s = .next (respond (noteChange (endRequest (writeRun (endRequest (acceptDgram (setNow s t) d k)) (dgramReq (acceptDgram (setNow s t) d k) d l) (a % 2 ^ 32) ws).1) d) d (keyIn (setNow s t) k) ((writeRun (endRequest (acceptDgram (setNow s t) d k)) (dgramReq (acceptDgram (setNow s t) d k) d l) (a % 2 ^ 32) ws).2.head?.getD .ok).code [])) ∧
  (∀ (t : Ns) (d : Dgram) (a k l x : Nat) (ws : List W32) (s : State),
    fwRuns (setNow s t) = true → (identNow (setNow s t)).isSome = true → authOf (setNow s t) d = some (k, l) → 1 ≤ l → ¬(ws.length = 0 ∨ 100 < ws.length) → deniedAt l (a % 2 ^ 32) ws = some x →
    exec (.datagramWrite t d a ws) s = .next (respond (report (acceptDgram (setNow s t) d k) (dgramReq (acceptDgram (setNow s t) d k) d l) x .denied) d (keyIn (setNow s t) k) Acc.denied.code []))

/-- The recorder's writer, its copy to MRAM and its clear register (R333 to R337), the notice path (R467 to R470), host silence (R466)
and memory errors (R431, R498), each where the spec has it act. Where the spec leaves a value or a way open it follows the model's
own choices of log entries 6, 25, 26, 52. Commands that it says complete with their own effect: eventRecordCommit, mramTailCommit,
evrClear, noticeNew, noticeHoldoffEnd, noticeRepeat, hostSilenceExpiry, memoryEccError, frameBoundary. -/
def Obligations.RecorderAndNoticesComplete : Prop :=
  (∀ (t : Ns) (q : EvReq) (l : List EvReq) (s : State), s.snf.corePowered = true → 3 ≤ s.snf.stage → s.rec_.queue = q :: l → exec (.eventRecordCommit t) s = .next (reportLost (modRec (setNow s t) (fun r => ringWrite { r with queue := l } q (max s.now t))))) ∧
  (∀ (t : Ns) (s : State), s.rec_.queue = [] → Effect (.eventRecordCommit t) s [.time] [] (fun u =>
      u.now = max s.now t)) ∧
  (∀ (t : Ns) (p : Nat × EvRec) (l : List (Nat × EvRec)) (s : State), awaiting s.rec_ = p :: l → exec (.mramTailCommit t true) s = .next (noteLag (modRec (setNow s t) (fun r => { r with tail := tailPut r.tail p.2, mramSeq := max r.mramSeq p.2.seq, uncommitted := l })) (p :: l) l)) ∧
  (∀ (t : Ns) (p : Nat × EvRec) (l : List (Nat × EvRec)) (s : State), awaiting s.rec_ = p :: l → exec (.mramTailCommit t false) s = .next (noteLag (stick (modRec (setNow s t) (fun r => { r with uncommitted := l })) .evrStatus 0 4) (p :: l) l)) ∧
  (∀ (v : W32) (s : State),
    s.rec_.cleared < (join64 (regW s .evrClearLo) v) → (join64 (regW s .evrClearLo) v) ≤ s.rec_.head + 1 →
    Yields (.evrClear v) s (fun u => u.rec_.cleared = (join64 (regW s .evrClearLo) v) ∧ (u.rec_.ring = s.rec_.ring ∧ u.rec_.head = s.rec_.head) ∧ regB u .evrStatus 0 3 = true ∧ u.loop = s.loop ∧ u.wick = s.wick ∧ u.mkt = s.mkt)) ∧
  (∀ (v : W32) (s : State), (join64 (regW s .evrClearLo) v) = s.rec_.cleared → Effect (.evrClear v) s [] [] (fun u =>
      u = s)) ∧
  (∀ (v : W32) (s : State),
    (join64 (regW s .evrClearLo) v) ≠ s.rec_.cleared → (join64 (regW s .evrClearLo) v) < s.rec_.cleared ∨ s.rec_.head + 1 < (join64 (regW s .evrClearLo) v) →
    exec (.evrClear v) s = .next (report s hostReq evrClearAddr .range)) ∧
  (∀ (t : Ns) (s : State),
    noticeReady s = true → s.glb.newBits ≠ 0 → holdoffOver s t = true →
    Effect (.noticeNew t) s [.time, .glb, .mkt] [] (fun u =>
      u.now = max s.now t ∧ u.glb = { s.glb with seq := (s.glb.seq + 1) % 2 ^ 32, lastNotice := some t, newBits := 0 } ∧ u.mkt.sent = .notice t (pendEn s) s.glb.raw s.rec_.head ((s.glb.seq + 1) % 2 ^ 32) :: s.mkt.sent)) ∧
  (∀ (t : Ns) (s : State),
    noticeReady s = true → s.glb.lastNotice.isSome = true → s.glb.newBits ≠ 0 → holdoffOver s t = true → s.glb.newBits &&& regF s .glbIrqPend 0 0 23 ≠ 0 →
    Effect (.noticeHoldoffEnd t) s [.time, .glb, .mkt] [] (fun u =>
      u.now = max s.now t ∧ u.glb = { s.glb with seq := (s.glb.seq + 1) % 2 ^ 32, lastNotice := some t, newBits := 0 } ∧ u.mkt.sent = .notice t (pendEn s) s.glb.raw s.rec_.head ((s.glb.seq + 1) % 2 ^ 32) :: s.mkt.sent)) ∧
  (∀ (t : Ns) (l : Nat) (s : State),
    s.glb.lastNotice = some l → noticeReady s = true → regF s .glbNotice 0 14 8 ≠ 0 → pendEn s ≠ 0 → l + regF s .glbNotice 0 14 8 * secNs ≤ t →
    Effect (.noticeRepeat t) s [.time, .glb, .mkt] [] (fun u =>
      u.now = max s.now t ∧ u.glb = { s.glb with seq := (s.glb.seq + 1) % 2 ^ 32, lastNotice := some t, newBits := 0 } ∧ u.mkt.sent = .notice t (pendEn s) s.glb.raw s.rec_.head ((s.glb.seq + 1) % 2 ^ 32) :: s.mkt.sent)) ∧
  (∀ (t : Ns) (s : State),
    s.hld.committed = true → t % frameNs = 0 → s.glb.silent = false → s.glb.hostNow = false → s.glb.lastHost + hostTimeout s ≤ t →
    exec (.hostSilenceExpiry t) s = .next (goSilent (setNow s t))) ∧
  (∀ (t : Ns) (e : Fin 128) (b : Bool) (s : State), coreRuns s = true → Effect (.memoryEccError t (.engine e b) true) s [.time, .eng, .pair, .recorder] [(.evrStatus, 0)] (fun u =>
      u.now = max s.now t ∧ OnlyEng e s u ∧ engOf u e = { engOf s e with eccCorr := true } ∧ u.pair = { s.pair with eccLan := satInc 16 s.pair.eccLan })) ∧
  (∀ (t : Ns) (s : State), s.snf.vaux = true → Effect (.memoryEccError t .mgtRam true) s [.time, .pair, .recorder] [(.evrStatus, 0)] (fun u =>
      u.now = max s.now t ∧ u.pair = { s.pair with eccLan := satInc 16 s.pair.eccLan })) ∧
  (∀ (t : Ns) (m : MramPart) (s : State), s.snf.vaux = true → Effect (.memoryEccError t (.mram m) true) s [.time, .pair, .recorder] [(.evrStatus, 0)] (fun u =>
      u.now = max s.now t ∧ u.pair = { s.pair with eccLan := satInc 16 s.pair.eccLan })) ∧
  (∀ (t : Ns) (a : Nat) (s : State), coreRuns s = true → Effect (.memoryEccError t (.sram a) false) s [.time, .pair, .recorder] [(.evrStatus, 0)] (fun u =>
      u.now = max s.now t ∧ u.pair = { s.pair with eccFatal := true })) ∧
  (∀ (t : Ns) (s : State), coreRuns s = true → Effect (.memoryEccError t .dramEngine false) s [.time, .pair, .recorder] [(.evrStatus, 0)] (fun u =>
      u.now = max s.now t ∧ u.pair = { s.pair with eccFatal := true })) ∧
  (∀ (t : Ns) (e : Fin 128) (b : Bool) (s : State), coreRuns s = true → exec (.memoryEccError t (.engine e b) false) s = .next (haltEngine (eccSevere (logEv (setNow s t) (srcDev 0) .eccUncorrectable)) e (if b then 2 else 1))) ∧
  (∀ (t : Ns) (m : MramPart) (s : State), s.snf.vaux = true → exec (.memoryEccError t (.mram m) false) s = .next (mramBroken (logEv (setNow s t) (srcDev 0) .eccUncorrectable) m)) ∧
  (∀ (t : Ns) (x : Nat) (s : State), coreRuns s = true → exec (.memoryEccError t (.dramWax x) false) s = .next (stick (modWax (logEv (setNow s t) (srcDev 0) .eccUncorrectable) (fun y => { y with segs := damage y.segs x })) .waxStatus 0 5)) ∧
  (∀ (t : Ns) (s : State),
    boundaryOk s t = true → (setRowClocks (openFrame (irqAtBoundary (hostAtBoundary (wdResetDue (duePatch (latchDue (setNow s t) false))) t)) t)).hld.committed = true → relit (setRowClocks (openFrame (irqAtBoundary (hostAtBoundary (wdResetDue (duePatch (latchDue (setNow s t) false))) t)) t)) = false →
    exec (.frameBoundary t) s = .next (takeEdge0 (restoreEdge (resumeBits (sendControl { (frameWork { (setRowClocks (openFrame (irqAtBoundary (hostAtBoundary (wdResetDue (duePatch (latchDue (setNow s t) false))) t)) t)) with now := t }) with now := (setRowClocks (openFrame (irqAtBoundary (hostAtBoundary (wdResetDue (duePatch (latchDue (setNow s t) false))) t)) t)).now })) (edgeNow (irqAtBoundary (hostAtBoundary (wdResetDue (duePatch (latchDue (setNow s t) false))) t)))))) ∧
  (∀ (t : Ns) (s : State),
    boundaryOk s t = true → (setRowClocks (openFrame (irqAtBoundary (hostAtBoundary (wdResetDue (duePatch (latchDue (setNow s t) false))) t)) t)).hld.committed = false →
    exec (.frameBoundary t) s = .next (takeEdge0 (restoreEdge (resumeBits (sendControl { (recordFrame (setRowClocks (openFrame (irqAtBoundary (hostAtBoundary (wdResetDue (duePatch (latchDue (setNow s t) false))) t)) t))) with now := (setRowClocks (openFrame (irqAtBoundary (hostAtBoundary (wdResetDue (duePatch (latchDue (setNow s t) false))) t)) t)).now })) (edgeNow (irqAtBoundary (hostAtBoundary (wdResetDue (duePatch (latchDue (setNow s t) false))) t)))))) ∧
  (∀ (t : Ns) (s : State), boundaryOk s t = false → Effect (.frameBoundary t) s [.time] [] (fun u =>
      u.now = max s.now t))

/-- Market time (R296 to R300), each where the spec has it act: a sync adopts the grandmaster's offset and hops; without one for 250 ms
the device is the grandmaster or counts as out of sync; the peer delay, the pulse inputs and the pulse output; the permission of a
backward step and the step itself at a frame boundary. Where the spec leaves a value or a way open it follows the model's own
choices of log entries 6, 27, 48. Commands that it says complete with their own effect: ptpSync, peerDelayMeasure, syncTimeout,
ppsInEdge, ppsMissing, ppsOutSecond, mktStepAccept, mktClearCounts, marketTimeStep. -/
def Obligations.MarketTimeCommandsComplete : Prop :=
  (∀ (t : Ns) (x : Int) (h : Fin 64) (s : State), exec (.ptpSync t x h) s = .next (evalSync (correct { setNow s t with mkt := { s.mkt with syncLost := false, gm := false, noTai := false, taiHold := false, lastSync := t, offset := x, hops := h, offBig := decide (1000 < x.natAbs), goodSyncs := if x.natAbs ≤ 500 then min 16 (s.mkt.goodSyncs + 1) else 0 } } x))) ∧
  (∀ (t : Ns) (d : Nat) (s : State), Effect (.peerDelayMeasure 0 t d) s [.time, .mkt] [] (fun u =>
      u.now = max s.now t ∧ u.mkt = { s.mkt with port0 := { s.mkt.port0 with delay := sat 16 (mediumDelay s 0 d) } })) ∧
  (∀ (t : Ns) (d : Nat) (s : State), Effect (.peerDelayMeasure 1 t d) s [.time, .mkt] [] (fun u =>
      u.now = max s.now t ∧ u.mkt = { s.mkt with port1 := { s.mkt.port1 with delay := sat 16 (mediumDelay s 1 d) } })) ∧
  (∀ (t : Ns) (b : Bool) (s : State),
    s.mkt.gm = false → s.mkt.lastSync + 250000000 ≤ t → (b && regB s .mktCfg 0 11) = true →
    exec (.syncTimeout t b) s = .next (evalSync { setNow s t with mkt := { s.mkt with gm := true, syncLost := false, offBig := false, slewing := false, hops := 0, offset := 0, noTai := !regB s .mktCfg 0 12, ppsLast := none, ppsBad := 0 } })) ∧
  (∀ (t : Ns) (b : Bool) (s : State),
    s.mkt.gm = false → s.mkt.lastSync + 250000000 ≤ t → (b && regB s .mktCfg 0 11) = false →
    exec (.syncTimeout t b) s = .next (evalSync { setNow s t with mkt := { s.mkt with syncLost := true, goodSyncs := 0 } })) ∧
  (∀ (t : Ns) (s : State), takesPps s = true → s.mkt.ppsLast = none → exec (.ppsInEdge t) s = .next (stepTai { setNow s t with mkt := { s.mkt with ppsLast := some t } })) ∧
  (∀ (t l : Ns) (s : State),
    takesPps s = true → s.mkt.ppsLast = some l → ¬(l + secNs ≤ t + 100000 ∧ t ≤ l + secNs + 100000) →
    exec (.ppsInEdge t) s = .next (badPps (setNow s t) t)) ∧
  (∀ (t l : Ns) (s : State),
    takesPps s = true → s.mkt.ppsLast = some l → l + secNs ≤ t + 100000 ∧ t ≤ l + secNs + 100000 →
    exec (.ppsInEdge t) s = .next (stepTai (correct { setNow s t with mkt := { s.mkt with ppsLast := some t, ppsBad := 0, taiHold := false, taiSec := nextTai (setNow s t), offset := ((t : Int) - (nextTai (setNow s t) * secNs : Nat)) } } ((t : Int) - (nextTai (setNow s t) * secNs : Nat))))) ∧
  (∀ (t l : Ns) (s : State),
    takesPps s = true → s.mkt.ppsLast = some l → l + secNs + 100000 < t →
    exec (.ppsMissing t) s = .next (stepTai (badPps (setNow s t) (l + secNs)))) ∧
  (∀ (t : Ns) (s : State),
    regB s .mktCfg 0 13 = true → s.mkt.unsynced = false → t % secNs = 0 →
    Effect (.ppsOutSecond t) s [.time, .mkt] [] (fun u =>
      u.now = max s.now t ∧ u.mkt = { s.mkt with ppsOut := some (t + 10 * msNs) })) ∧
  (∀ (s : State), s.mkt.slewing = true → 1000000 < s.mkt.offset → exec (.mktStepAccept) s = .next (evalSync (correct { s with mkt := { s.mkt with stepAccept := true } } s.mkt.offset))) ∧
  (∀ (s : State), s.mkt.slewing = false ∨ s.mkt.offset ≤ 1000000 → Effect (.mktStepAccept) s [.mkt] [] (fun u =>
      u.mkt = { s.mkt with stepAccept := true })) ∧
  (∀ (s : State), Effect (.mktClearCounts) s [.mkt] [] (fun u =>
      u.mkt = { s.mkt with genMismatch := 0, badFrame := 0, noRoute := 0, authFail := 0 })) ∧
  (∀ (t : Ns) (s : State), s.mkt.pendStep = none ∨ t % frameNs ≠ 0 → Effect (.marketTimeStep t) s [.time] [] (fun u =>
      u.now = max s.now t)) ∧
  (∀ (t : Ns) (d : Int) (s : State),
    s.mkt.pendStep = some d → t % frameNs = 0 → max s.now t < stepTo s t d →
    exec (.marketTimeStep t) s = .next (evalSync (latchDue (lltStep (afterStep s t d)) true))) ∧
  (∀ (t : Ns) (d : Int) (s : State),
    s.mkt.pendStep = some d → t % frameNs = 0 → stepTo s t d ≤ max s.now t →
    exec (.marketTimeStep t) s = .next (evalSync (afterStep s t d)))

/-- Frames of the market (R290 to R295, R301 to R310, R314 to R322), each where the spec has it act: a frame that passes every check is
taken, one that fails is counted; credits, hellos and their answers, missing peers, the bridge and its table, the end of leaving,
and what the device answers for its own address. Where the spec leaves a value or a way open it follows the model's own choices of
log entries 9, 49. Commands that it says complete with their own effect: dataFrameReceive, creditFrameReceive, wickFrameReceive,
helloFrameReceive, helloSend, creditRefresh, peerMissing, leavingEnd, portLinkChange, bridgeFrameForward, addressAgeing,
arpIcmpRequest. -/
def Obligations.MarketFramesComplete : Prop :=
  (∀ (t : Ns) (h : FrameHdr) (es : List Entry) (s : State),
    looped s h = false → hdrOk s h false = true → genOk s h t = true → s.mkt.member = .member ∨ s.mkt.member = .leaving → es.all (entryOk s) = true →
    exec (.dataFrameReceive t h es) s = .next (es.foldl (takeEntry h) (setNow s t))) ∧
  (∀ (t : Ns) (h : FrameHdr) (es : List Entry) (s : State),
    looped s h = false → hdrOk s h false = true → genOk s h t = true → s.mkt.member = .member ∨ s.mkt.member = .leaving → es.all (entryOk s) = false →
    exec (.dataFrameReceive t h es) s = .next (es.foldl badEntry (setNow s t))) ∧
  (∀ (t : Ns) (h : FrameHdr) (es : List Entry) (s : State), h.fcsOk = true → looped s h = true → Effect (.dataFrameReceive t h es) s [.time] [(.mktStatus, 0)] (fun u =>
      u.now = max s.now t ∧ regB u .mktStatus 0 11 = true)) ∧
  (∀ (t : Ns) (h : FrameHdr) (es : List Entry) (s : State), (h.fcsOk && looped s h) = false → hdrOk s h false = false → Effect (.dataFrameReceive t h es) s [.time, .mkt] [] (fun u =>
      u.now = max s.now t ∧ u.mkt = { s.mkt with badFrame := satInc 16 s.mkt.badFrame })) ∧
  (∀ (t : Ns) (h : FrameHdr) (es : List Entry) (s : State),
    looped s h = false → hdrOk s h false = true → genOk s h t = false →
    Effect (.dataFrameReceive t h es) s [.time, .mkt] [] (fun u =>
      u.now = max s.now t ∧ u.mkt = { s.mkt with genMismatch := satInc 16 s.mkt.genMismatch })) ∧
  (∀ (t : Ns) (h : FrameHdr) (es : List (Nat × Nat)) (s : State),
    looped s h = false → hdrOk s h false = true → genOk s h t = true → s.mkt.member = .member ∨ s.mkt.member = .leaving →
    exec (.creditFrameReceive t h es) s = .next (es.foldl (fun s c => forEach (egressTo s h.src c.1) s (fun s b => modBsk s b (fun x => { x with limit := some (c.2 % 65536) }))) (setNow s t))) ∧
  (∀ (t : Ns) (h : FrameHdr) (es : List (Nat × Nat)) (s : State), h.fcsOk = true → looped s h = true → Effect (.creditFrameReceive t h es) s [.time] [(.mktStatus, 0)] (fun u =>
      u.now = max s.now t ∧ regB u .mktStatus 0 11 = true)) ∧
  (∀ (t : Ns) (h : FrameHdr) (es : List (Nat × Nat)) (s : State), (h.fcsOk && looped s h) = false → hdrOk s h false = false → Effect (.creditFrameReceive t h es) s [.time, .mkt] [] (fun u =>
      u.now = max s.now t ∧ u.mkt = { s.mkt with badFrame := satInc 16 s.mkt.badFrame })) ∧
  (∀ (t : Ns) (h : FrameHdr) (es : List (Nat × Nat)) (s : State),
    looped s h = false → hdrOk s h false = true → genOk s h t = false →
    Effect (.creditFrameReceive t h es) s [.time, .mkt] [] (fun u =>
      u.now = max s.now t ∧ u.mkt = { s.mkt with genMismatch := satInc 16 s.mkt.genMismatch })) ∧
  (∀ (t : Ns) (h : FrameHdr) (es : List SnapRec) (s : State),
    looped s h = false → hdrOk s h true = true → genOk s h t = true → s.mkt.member = .member →
    exec (.wickFrameReceive t h es) s = .next (es.foldl (fun s q => forEach (subscribers s h.src q.wick) s (fun s w => takePub s w q)) (setNow s t))) ∧
  (∀ (t : Ns) (h : FrameHdr) (es : List SnapRec) (s : State), h.fcsOk = true → looped s h = true → Effect (.wickFrameReceive t h es) s [.time] [(.mktStatus, 0)] (fun u =>
      u.now = max s.now t ∧ regB u .mktStatus 0 11 = true)) ∧
  (∀ (t : Ns) (h : FrameHdr) (es : List SnapRec) (s : State), (h.fcsOk && looped s h) = false → hdrOk s h true = false → Effect (.wickFrameReceive t h es) s [.time, .mkt] [] (fun u =>
      u.now = max s.now t ∧ u.mkt = { s.mkt with badFrame := satInc 16 s.mkt.badFrame })) ∧
  (∀ (t : Ns) (h : FrameHdr) (es : List SnapRec) (s : State),
    looped s h = false → hdrOk s h true = true → genOk s h t = false →
    Effect (.wickFrameReceive t h es) s [.time, .mkt] [] (fun u =>
      u.now = max s.now t ∧ u.mkt = { s.mkt with genMismatch := satInc 16 s.mkt.genMismatch })) ∧
  (∀ (t : Ns) (h : FrameHdr) (i : HelloInfo) (s : State), looped s h = false → hdrOk s h true = true → h.src ≠ marketId s → exec (.helloFrameReceive t h i) s = .next (noteGen { setNow s t with mkt := { s.mkt with heard := spPut s.mkt.heard h.src t, heardPair := spPut s.mkt.heardPair h.src i.pair, missing := s.mkt.missing.filter (· != h.src) } } h.gen)) ∧
  (∀ (t : Ns) (h : FrameHdr) (i : HelloInfo) (s : State),
    looped s h = false → hdrOk s h true = true → h.src = marketId s → i.otherMac = true →
    Effect (.helloFrameReceive t h i) s [.time, .recorder] [(.mktStatus, 0), (.evrStatus, 0)] (fun u =>
      u.now = max s.now t)) ∧
  (∀ (t : Ns) (s : State), s.hld.committed = true → Effect (.helloSend t) s [.time, .mkt] [] (fun u =>
      u.now = max s.now t ∧ u.mkt = { (frameOut (setNow s t) 0xFFFF 3 s.mkt.gen).1.mkt with sent := .hello (frameOut (setNow s t) 0xFFFF 3 s.mkt.gen).2 t s.mkt.member.code (!s.mkt.unsynced) s.mkt.hops s.pair.st.code s.mkt.gen (hash8 s) :: (frameOut (setNow s t) 0xFFFF 3 s.mkt.gen).1.mkt.sent })) ∧
  (∀ (t : Ns) (s : State), trades s = true → exec (.creditRefresh t) s = .next (forEach (s.hld.str.ingress.map (·.1)) (setNow s t) sendCredit)) ∧
  (∀ (i : Fin 1024) (t : Ns) (s : State),
    inTable s i = true → (match lookup s.mkt.heard i with | some a => decide (a + 300 * msNs ≤ t) | none => true) = true → s.mkt.missing.contains i.val = false → i.val ≠ marketId s →
    Effect (.peerMissing i t) s [.time, .mkt, .recorder] [(.mktStatus, 0), (.evrStatus, 0)] (fun u =>
      u.now = max s.now t ∧ u.mkt = { s.mkt with missing := i.val :: s.mkt.missing })) ∧
  (∀ (t : Ns) (s : State), s.mkt.member = .leaving → s.mkt.leaveEnd ≤ t → Effect (.leavingEnd t) s [.time, .mkt] [] (fun u =>
      u.now = max s.now t ∧ u.mkt = { s.mkt with member := .outside })) ∧
  (∀ (t : Ns) (s : State), exec (.portLinkChange 0 t true) s = .next ({ useFree (useFree (setNow s t)) with mkt := { s.mkt with port0 := { s.mkt.port0 with linkUp := true, ptp := Config.freeBool s.free, slave := Config.freeBool s.free && Config.freeBool (s.free + 1) } } })) ∧
  (∀ (t : Ns) (s : State), exec (.portLinkChange 1 t true) s = .next ({ useFree (useFree (setNow s t)) with mkt := { s.mkt with port1 := { s.mkt.port1 with linkUp := true, ptp := Config.freeBool s.free, slave := Config.freeBool s.free && Config.freeBool (s.free + 1) } } })) ∧
  (∀ (t : Ns) (s : State), exec (.portLinkChange 0 t false) s = .next ({ useFree (useFree (setNow s t)) with mkt := { s.mkt with port0 := { s.mkt.port0 with linkUp := false, ptp := false, slave := false } } })) ∧
  (∀ (t : Ns) (s : State), exec (.portLinkChange 1 t false) s = .next ({ useFree (useFree (setNow s t)) with mkt := { s.mkt with port1 := { s.mkt.port1 with linkUp := false, ptp := false, slave := false } } })) ∧
  (∀ (t : Ns) (f : BridgeFrame) (s : State), (f.tagged && f.vid != marketVid s) = true → Effect (.bridgeFrameForward t f) s [.time] [] (fun u =>
      u.now = max s.now t)) ∧
  (∀ (t : Ns) (f : BridgeFrame) (s : State),
    (f.tagged && f.vid != marketVid s) = false → f.port < 2 → mtuOf s < f.len → f.basket = false ∨ f.pcp ≠ 6 →
    Effect (.bridgeFrameForward t f) s [.time, .mkt] [] (fun u =>
      u.now = max s.now t ∧ u.mkt = { s.mkt with badFrame := satInc 16 s.mkt.badFrame })) ∧
  (∀ (t : Ns) (f : BridgeFrame) (s : State),
    (f.tagged && f.vid != marketVid s) = false → 2 ≤ f.port ∨ f.len ≤ mtuOf s ∨ (f.basket = true ∧ f.pcp = 6) → f.basket = true → f.srcMac = macOf (marketId s) ∧ f.port < 2 →
    Effect (.bridgeFrameForward t f) s [.time] [(.mktStatus, 0)] (fun u =>
      u.now = max s.now t ∧ regB u .mktStatus 0 11 = true)) ∧
  (∀ (t : Ns) (f : BridgeFrame) (r : MktRoute) (s : State),
    (f.tagged && f.vid != marketVid s) = false → 2 ≤ f.port ∨ f.len ≤ mtuOf s ∨ (f.basket = true ∧ f.pcp = 6) → f.basket = true → ¬(f.srcMac = macOf (marketId s) ∧ f.port < 2) → s.hld.str.routes.find? (fun r => r.pub == f.pub && r.id == f.dstId) = some r →
    exec (.bridgeFrameForward t f) s = .next (sendOut (learn (setNow s t) f.srcMac f.port t) (maskPorts r.mask f.port) f.pcp f.len)) ∧
  (∀ (t : Ns) (f : BridgeFrame) (s : State),
    (f.tagged && f.vid != marketVid s) = false → 2 ≤ f.port ∨ f.len ≤ mtuOf s ∨ (f.basket = true ∧ f.pcp = 6) → f.basket = false → lookup s.mkt.addr f.dstMac = none →
    exec (.bridgeFrameForward t f) s = .next (sendOut (learn (setNow s t) f.srcMac f.port t) (maskPorts 7 f.port) (if f.port < 2 ∧ (f.pcp = 5 ∨ f.pcp = 6) then 0 else f.pcp) f.len)) ∧
  (∀ (t : Ns) (m p a : Nat) (s : State), lookup s.mkt.addr m = some (p, a) → a + 300 * secNs ≤ t → Effect (.addressAgeing t m) s [.time, .mkt] [] (fun u =>
      u.now = max s.now t ∧ u.mkt = { s.mkt with addr := spDel s.mkt.addr m })) ∧
  (∀ (t : Ns) (x : Identity) (s : State), identNow s = some x → fwRuns s = true → Effect (.arpIcmpRequest t .arp x.ipv4) s [.time, .mkt] [] (fun u =>
      u.now = max s.now t ∧ u.mkt = { s.mkt with sent := .arpReply x.ipv4 :: s.mkt.sent })) ∧
  (∀ (t : Ns) (x : Identity) (s : State), identNow s = some x → fwRuns s = true → Effect (.arpIcmpRequest t .echo4 x.ipv4) s [.time, .mkt] [] (fun u =>
      u.now = max s.now t ∧ u.mkt = { s.mkt with sent := .arpReply x.ipv4 :: s.mkt.sent }))

/-- The switch of the market (R316 to R319): a switch that its conditions allow is staged, with its patch where it names one; another is
refused with the condition's status and recorded; at its instant the device joins, leaves or takes the new generation, or its join
fails. Where the spec leaves a value or a way open it follows the model's own choices of log entries 22, 49. Commands that it says
complete with their own effect: switch, switchInstant. -/
def Obligations.SwitchCommandsComplete : Prop :=
  (∀ (t : Ns) (d : Dgram) (a g x y k l : Nat) (op : SwOp) (s : State),
    fwRuns (setNow s t) = true → (identNow (setNow s t)).isSome = true → authOf (setNow s t) d = some (k, l) → 2 ≤ l → switchStatus (acceptDgram (setNow s t) d k) t a g op x y = 0 → y = 0 →
    exec (.switch t d a g op x y) s = .next (respond (noteChange { acceptDgram (setNow s t) d k with mkt := { (acceptDgram (setNow s t) d k).mkt with switch := some { s := a, gen := g, op := op, subject := x, hash := 0 }, lastS := a } } d) d (keyIn (setNow s t) k) 0 [])) ∧
  (∀ (t : Ns) (d : Dgram) (a g x y k l : Nat) (op : SwOp) (s : State),
    fwRuns (setNow s t) = true → (identNow (setNow s t)).isSome = true → authOf (setNow s t) d = some (k, l) → 2 ≤ l → switchStatus (acceptDgram (setNow s t) d k) t a g op x y ≠ 0 →
    exec (.switch t d a g op x y) s = .next (respond (logEv (acceptDgram (setNow s t) d k) srcMkt .switchRefused (switchStatus (acceptDgram (setNow s t) d k) t a g op x y)) d (keyIn (setNow s t) k) (switchStatus (acceptDgram (setNow s t) d k) t a g op x y) [])) ∧
  (∀ (t : Ns) (w : Switch) (s : State),
    s.mkt.switch = some w → w.s ≤ t ∧ t % frameNs = 0 → joinFails (latchDue (setNow s t) false) w = true →
    exec (.switchInstant t) s = .next (failJoin (latchDue (setNow s t) false) w)) ∧
  (∀ (t : Ns) (w : Switch) (s : State),
    s.mkt.switch = some w → w.s ≤ t ∧ t % frameNs = 0 → joinFails (latchDue (setNow s t) false) w = false →
    exec (.switchInstant t) s = .next (doSwitch (latchDue (setNow s t) false) w)) ∧
  (∀ (t : Ns) (s : State), s.mkt.switch = none → Effect (.switchInstant t) s [.time] [] (fun u =>
      u.now = max s.now t))

/-- Operations of PAIR_CMD and the pair's own timers (R345 to R354, R370), each where the spec has it act: claim, cede, reset, resync,
clear counts, or the refusal with pair_state; the automatic claim; the end of the shadow phase; a link silent for 2 ms; the
self-test. Where the spec leaves a value or a way open it follows the model's own choices of log entries 53, 54. Commands that it
says complete with their own effect: pairClaim, pairCede, pairReset, pairResync, pairClearCounts, autoClaim, shadowComplete,
pairLinkSilence, selftestStage. -/
def Obligations.PairOperationsComplete : Prop :=
  (∀ (s : State), claimOk s = true → exec (.pairClaim) s = .next (becomeActive s)) ∧
  (∀ (s : State), claimOk s = false → Effect (.pairClaim) s [] [(.pairStatus, 0)] (fun u =>
      regB u .pairStatus 0 19 = true)) ∧
  (∀ (s : State), s.pair.st = .active → Effect (.pairCede) s [.pair] [] (fun u =>
      u.pair = { s.pair with cedeReq := true })) ∧
  (∀ (s : State), s.pair.st ≠ .active → Effect (.pairCede) s [] [(.pairStatus, 0)] (fun u =>
      regB u .pairStatus 0 19 = true)) ∧
  (∀ (s : State),
    s.pair.st = .failed → severeOf s (findingsNow s) = false → s.snf.active = false →
    exec (.pairReset) s = .next (pairWait { s with pair := { s.pair with snufCause := false } })) ∧
  (∀ (s : State), s.pair.st ≠ .failed → Effect (.pairReset) s [] [(.pairStatus, 0)] (fun u =>
      regB u .pairStatus 0 19 = true)) ∧
  (∀ (s : State), s.pair.st = .standby → exec (.pairResync) s = .next (pairWait s)) ∧
  (∀ (s : State), s.pair.st = .spare → exec (.pairResync) s = .next (pairWait s)) ∧
  (∀ (s : State), s.pair.st ≠ .standby → s.pair.st ≠ .spare → Effect (.pairResync) s [] [(.pairStatus, 0)] (fun u =>
      regB u .pairStatus 0 19 = true)) ∧
  (∀ (s : State), Effect (.pairClearCounts) s [.pair] [] (fun u =>
      u.pair = { s.pair with mismatches := 0, cleanFrom := s.now, wickD := [], crcErrors := 0 })) ∧
  (∀ (t f : Ns) (s : State),
    s.pair.claimFrom = some f → regB s .pairCfg 0 2 = true → f + regF s .pairCfg 0 3 8 * secNs ≤ t → s.pair.st = .spare → claimOk (setNow s t) = true →
    exec (.autoClaim t) s = .next (becomeActive (setNow s t))) ∧
  (∀ (t : Ns) (s : State),
    s.pair.st = .spare → s.pair.phase = .shadow → s.pair.shadowAt + 10 * secNs ≤ t → s.pair.health ≠ .bad →
    exec (.shadowComplete t) s = .next (modPair (pairEnter (setNow s t) .standby .wait) (fun p => { p with gap := false }))) ∧
  (∀ (t : Ns) (s : State),
    s.pair.st = .spare → s.pair.phase = .shadow → s.pair.shadowAt + 10 * secNs ≤ t → s.pair.health ≠ .bad →
    Yields (.shadowComplete t) s (fun u => u.pair = { s.pair with st := .standby, phase := .wait, waitAt := none, t3At := none, gap := false } ∧ u.wick = s.wick ∧ u.llt = s.llt ∧ u.loop = s.loop ∧ u.motor = s.motor)) ∧
  (∀ (t : Ns) (s : State),
    isPaired s = true → coreRuns s = true → pairLinkUp (setNow s t) = false → s.pair.st = .standby → s.pair.findings.testBit 8 = true →
    exec (.pairLinkSilence t) s = .next (pairWait (showFindings (setNow s t) (s.pair.findings ||| 256)))) ∧
  (∀ (t : Ns) (s : State),
    isPaired s = true → coreRuns s = true → pairLinkUp (setNow s t) = false → s.pair.st = .spare → s.pair.phase ≠ .wait → s.pair.findings.testBit 8 = true →
    exec (.pairLinkSilence t) s = .next (pairWait (showFindings (setNow s t) (s.pair.findings ||| 256)))) ∧
  (∀ (t : Ns) (s : State),
    isPaired s = true → coreRuns s = true → pairLinkUp (setNow s t) = false → s.pair.st = .active → s.pair.findings.testBit 8 = true →
    exec (.pairLinkSilence t) s = .next (showFindings (setNow s t) (s.pair.findings ||| 256))) ∧
  (∀ (t : Ns) (s : State),
    isPaired s = true → coreRuns s = true → pairLinkUp (setNow s t) = false → s.pair.st = .standby → s.pair.findings.testBit 8 = false →
    exec (.pairLinkSilence t) s = .next (pairWait (logEv (showFindings (setNow s t) (s.pair.findings ||| 256)) (srcDev 4) .pairFinding 256))) ∧
  (∀ (t : Ns) (s : State),
    isPaired s = true → coreRuns s = true → pairLinkUp (setNow s t) = false → s.pair.st = .spare → s.pair.phase ≠ .wait → s.pair.findings.testBit 8 = false →
    exec (.pairLinkSilence t) s = .next (pairWait (logEv (showFindings (setNow s t) (s.pair.findings ||| 256)) (srcDev 4) .pairFinding 256))) ∧
  (∀ (t : Ns) (s : State),
    isPaired s = true → coreRuns s = true → pairLinkUp (setNow s t) = false → s.pair.st = .active → s.pair.findings.testBit 8 = false →
    exec (.pairLinkSilence t) s = .next (logEv (showFindings (setNow s t) (s.pair.findings ||| 256)) (srcDev 4) .pairFinding 256)) ∧
  (∀ (t : Ns) (x : TestStage) (s : State),
    isPaired s = true → s.pair.st = .standby → s.pair.selftest.testBit x.bit = true →
    Effect (.selftestStage t x true) s [.time, .pair] [] (fun u =>
      u.now = max s.now t ∧ u.pair = { s.pair with selftest := s.pair.selftest - 1 <<< x.bit })) ∧
  (∀ (t : Ns) (x : TestStage) (s : State),
    isPaired s = true → s.pair.st = .standby → s.pair.selftest.testBit x.bit = true →
    Effect (.selftestStage t x false) s [.time, .pair] [] (fun u =>
      u.now = max s.now t ∧ u.pair = { s.pair with selftest := s.pair.selftest ||| 1 <<< x.bit, eccFatal := s.pair.eccFatal || x == .scrub, health := if x.bit < 25 then .bad else s.pair.health })) ∧
  (∀ (t : Ns) (x : TestStage) (s : State),
    isPaired s = true → s.pair.st = .spare → s.pair.selftest.testBit x.bit = true →
    Effect (.selftestStage t x true) s [.time, .pair] [] (fun u =>
      u.now = max s.now t ∧ u.pair = { s.pair with selftest := s.pair.selftest - 1 <<< x.bit })) ∧
  (∀ (t : Ns) (x : TestStage) (s : State),
    isPaired s = true → s.pair.st = .spare → s.pair.selftest.testBit x.bit = true →
    Effect (.selftestStage t x false) s [.time, .pair] [] (fun u =>
      u.now = max s.now t ∧ u.pair = { s.pair with selftest := s.pair.selftest ||| 1 <<< x.bit, eccFatal := s.pair.eccFatal || x == .scrub, health := if x.bit < 25 then .bad else s.pair.health }))

/-- Owning, losing and taking over (R351 to R366), each where the spec has it act: a diagnosis at its frame, a severe finding at once,
the peer's release and return, the 200 us wait, t5, and a collision from its detection to its end. Where the spec leaves a value or
a way open it follows the model's own choices of log entries 53, 54. Commands that it says complete with their own effect:
selfDiagnosis, lockstepMismatch, ownReadback, peerOwnFall, peerOwnRise, takeoverWaitEnd, takeoverT5, collision, collisionTimeout. -/
def Obligations.PairTakeoverComplete : Prop :=
  (∀ (t : Ns) (s : State),
    coreRuns s = true → s.hld.committed = true → t % frameNs = 0 → frameOf t % 8 = 4 →
    exec (.selfDiagnosis t) s = .next (diagnose (setNow s t))) ∧
  (∀ (t : Ns) (s : State), coreRuns s = true → s.mgt.halted = false → exec (.lockstepMismatch t) s = .next (atOnce (logEv { setNow s t with mgt := { s.mgt with halted := true, lockSeen := true } } (srcDev 3) .lockstepMismatch 0) 2)) ∧
  (∀ (t : Ns) (b : Bool) (s : State), b = s.pair.ownOut → Effect (.ownReadback t b) s [.time, .pair] [] (fun u =>
      u.now = max s.now t ∧ u.pair = { s.pair with ownLand := b })) ∧
  (∀ (t : Ns) (b : Bool) (s : State), b ≠ s.pair.ownOut → exec (.ownReadback t b) s = .next (atOnce { setNow s t with pair := { s.pair with ownLand := b } } 7)) ∧
  (∀ (t : Ns) (s : State),
    s.pair.st = .standby → isPaired s = true → mirrorFresh (setNow s t) = true → s.pair.health ≠ .bad → s.snf.active = false →
    exec (.peerOwnFall t) s = .next (modPair (pairGate { setNow s t with pair := { s.pair with peerOwn := false, collAt := if s.pair.ownOut then none else s.pair.collAt } }) (fun p => { p with waitAt := some t }))) ∧
  (∀ (t : Ns) (s : State),
    s.pair.st = .standby → isPaired s = true → mirrorFresh (setNow s t) = false ∨ s.pair.health = .bad ∨ s.snf.active = true →
    exec (.peerOwnFall t) s = .next (logEv (stick (pairWait (pairGate { setNow s t with pair := { s.pair with peerOwn := false, collAt := if s.pair.ownOut then none else s.pair.collAt } })) .pairStatus 0 18) (srcDev 4) .pairState 0)) ∧
  (∀ (t : Ns) (s : State), s.pair.st ≠ .standby → exec (.peerOwnFall t) s = .next (pairGate { setNow s t with pair := { s.pair with peerOwn := false, collAt := if s.pair.ownOut then none else s.pair.collAt } })) ∧
  (∀ (t : Ns) (s : State),
    (pairGate { setNow s t with pair := { s.pair with peerOwn := true } }).pair.waitAt = none →
    exec (.peerOwnRise t) s = .next (pairGate { setNow s t with pair := { s.pair with peerOwn := true } })) ∧
  (∀ (t w : Ns) (s : State),
    (pairGate { setNow s t with pair := { s.pair with peerOwn := true } }).pair.waitAt = some w → t ≤ w + 200 * usNs →
    exec (.peerOwnRise t) s = .next (stick (modPair (pairGate { setNow s t with pair := { s.pair with peerOwn := true } }) (fun p => { p with waitAt := none })) .pairStatus 0 14)) ∧
  (∀ (t w : Ns) (s : State),
    s.pair.waitAt = some w → w + 200 * usNs ≤ t → s.pair.st = .standby → s.pair.peerOwn = false → s.snf.active = false →
    exec (.takeoverWaitEnd t) s = .next (setOwn { setNow s t with pair := { s.pair with waitAt := none, t3At := some t, epoch := max s.pair.epoch s.pair.peerEpoch + 1 } } true)) ∧
  (∀ (t a : Ns) (s : State),
    s.pair.t3At = some a → a ≤ t → t % frameNs = 0 → s.pair.gate = true → s.pair.st = .standby → (t5Taken s t).pair.applied = none →
    exec (.takeoverT5 t) s = .next (releaseCmds (t5Taken s t) t)) ∧
  (∀ (t a : Ns) (m : MirrorSet) (s : State),
    s.pair.t3At = some a → a ≤ t → t % frameNs = 0 → s.pair.gate = true → s.pair.st = .standby → (t5Taken s t).pair.applied = some m →
    exec (.takeoverT5 t) s = .next (creditsFrom (lltGoLive (m.sols.foldl (fun s p => solResume s p.1 t p.2) (m.motors.foldl (fun s p => motMirrorResume (setMot s p.1 ((motOf s p.1).mirrored p.2)) p.1 t (mirrorStamp s p.1 m.frame)) (releaseCmds (t5Taken s t) t))) m) m)) ∧
  (∀ (t : Ns) (s : State),
    s.pair.ownOut = true → s.pair.peerOwn = true → isPaired s = true → s.pair.idConflict = true →
    exec (.collision t) s = .next (collFail (logEv (stick { setNow s t with pair := { s.pair with collAt := some t } } .pairStatus 0 12) (srcDev 4) .pairCollision 0))) ∧
  (∀ (t : Ns) (s : State),
    s.pair.ownOut = true → s.pair.peerOwn = true → isPaired s = true → s.pair.idConflict = false → isB s = true →
    exec (.collision t) s = .next (pairWait (setOwn (logEv (stick { setNow s t with pair := { s.pair with collAt := some t } } .pairStatus 0 12) (srcDev 4) .pairCollision 0) false))) ∧
  (∀ (t : Ns) (s : State),
    s.pair.ownOut = true → s.pair.peerOwn = true → isPaired s = true → s.pair.idConflict = false → isB s = false →
    exec (.collision t) s = .next (pairGate (logEv (stick { setNow s t with pair := { s.pair with collAt := some t } } .pairStatus 0 12) (srcDev 4) .pairCollision 0))) ∧
  (∀ (t c : Ns) (s : State),
    s.pair.collAt = some c → c + 2 * msNs ≤ t → s.pair.ownOut = true → s.pair.peerOwn = true →
    exec (.collisionTimeout t) s = .next (collFail (setNow s t)))

/-- The pair link (R343 to R350, R355 to R357), each where the spec has it act: a frame with a bad CRC is counted and discarded, an
intact one is taken; the mirror set closes every eighth frame; sets and copies are assembled, completed and applied; lanterns are
sent and held. Where the spec leaves a value or a way open it follows the model's own choices of log entries 53, 54. Commands that
it says complete with their own effect: lanternReceive, controlFrameReceive, mirrorFrameReceive, copyFrameReceive, lanternSend,
copyComplete, copyRetry, setApply, mirrorSetClose. -/
def Obligations.PairLinkComplete : Prop :=
  (∀ (t : Ns) (h : PairHdr) (l : Lantern) (s : State), isPaired s = true → coreRuns s = true → h.crcOk = false → Effect (.lanternReceive t h l) s [.time, .pair] [] (fun u =>
      u.now = max s.now t ∧ u.pair = { s.pair with crcErrors := satInc 16 s.pair.crcErrors })) ∧
  (∀ (t : Ns) (h : PairHdr) (l : Control) (s : State), isPaired s = true → coreRuns s = true → h.crcOk = false → Effect (.controlFrameReceive t h l) s [.time, .pair] [] (fun u =>
      u.now = max s.now t ∧ u.pair = { s.pair with crcErrors := satInc 16 s.pair.crcErrors })) ∧
  (∀ (t : Ns) (h : PairHdr) (l : MirrorSet) (s : State), isPaired s = true → coreRuns s = true → h.crcOk = false → Effect (.mirrorFrameReceive t h l) s [.time, .pair] [] (fun u =>
      u.now = max s.now t ∧ u.pair = { s.pair with crcErrors := satInc 16 s.pair.crcErrors })) ∧
  (∀ (t : Ns) (h : PairHdr) (l : MirrorSet) (s : State), isPaired s = true → coreRuns s = true → h.crcOk = false → Effect (.copyFrameReceive t h l) s [.time, .pair] [] (fun u =>
      u.now = max s.now t ∧ u.pair = { s.pair with crcErrors := satInc 16 s.pair.crcErrors })) ∧
  (∀ (t : Ns) (h : PairHdr) (l : Lantern) (s : State), isPaired s = true → coreRuns s = true → h.crcOk = true → Effect (.lanternReceive t h l) s [.time, .pair] [] (fun u =>
      u.now = max s.now t ∧ u.pair = { s.pair with lastFrame := some t, peerEpoch := max (max s.pair.peerEpoch h.epoch) l.epoch, lan := some l })) ∧
  (∀ (t : Ns) (s : State),
    coreRuns s = true → s.mgt.halted = false → 6 ≤ s.snf.stage →
    Effect (.lanternSend t) s [.time, .pair, .mkt] [] (fun u =>
      u.now = max s.now t ∧ u.pair = { s.pair with linkSeq := (s.pair.linkSeq + (if isPaired s then 1 else 0)) % 2 ^ 32, lanSeq := (s.pair.lanSeq + 1) % 65536, seenLan := s.pair.findings, missLan := 0, eccLan := 0 } ∧ u.mkt = { s.mkt with sent := .lantern s.hld.str.ident.lanternAddr 0xFFFF (if isPaired s then some s.pair.linkSeq else none) (lanternNow (setNow s t)) :: s.mkt.sent })) ∧
  (∀ (t : Ns) (h : PairHdr) (l : Control) (s : State),
    isPaired s = true → coreRuns s = true → h.crcOk = true → (l.st == .spare && l.phase == .copy) = false → l.pairId ≠ isB s → s.pair.idConflict = false → s.pair.waitAt = none →
    exec (.controlFrameReceive t h l) s = .next (pairPatch (pairMeet { setNow s t with pair := { s.pair with lastFrame := some t, ctl := some l, peerEpoch := max (max s.pair.peerEpoch h.epoch) l.epoch, copyAsked := s.pair.copyAsked } }) l)) ∧
  (∀ (t : Ns) (h : PairHdr) (m : MirrorSet) (s : State),
    isPaired s = true → coreRuns s = true → h.crcOk = true → s.pair.st = .standby → s.pair.epoch ≤ h.epoch → s.pair.asm = none → arrived [(h.offset, h.len)] h.total = false →
    Effect (.mirrorFrameReceive t h m) s [.time, .pair] [] (fun u =>
      u.now = max s.now t ∧ u.pair = { s.pair with lastFrame := some t, peerEpoch := max s.pair.peerEpoch h.epoch, asm := some (h.set, [(h.offset, h.len)]) })) ∧
  (∀ (t : Ns) (h : PairHdr) (m : MirrorSet) (s : State),
    isPaired s = true → coreRuns s = true → h.crcOk = true → s.pair.st = .standby → s.pair.epoch ≤ h.epoch → s.pair.asm = none → arrived [(h.offset, h.len)] h.total = true → h.totalOk = true →
    exec (.mirrorFrameReceive t h m) s = .next (setComplete { setNow s t with pair := { s.pair with lastFrame := some t, peerEpoch := max s.pair.peerEpoch h.epoch, asm := some (h.set, [(h.offset, h.len)]) } } m)) ∧
  (∀ (t : Ns) (h : PairHdr) (m : MirrorSet) (s : State),
    isPaired s = true → coreRuns s = true → h.crcOk = true → s.pair.st = .spare → s.pair.phase = .copy → s.pair.epoch ≤ h.epoch → arrived ((h.offset, h.len) :: s.pair.copyAsm) h.total = true → h.totalOk = true →
    Effect (.copyFrameReceive t h m) s [.time, .pair] [] (fun u =>
      u.now = max s.now t ∧ u.pair = { s.pair with lastFrame := some t, peerEpoch := max s.pair.peerEpoch h.epoch, copyAsm := (h.offset, h.len) :: s.pair.copyAsm, copied := some m, copyDone := true })) ∧
  (∀ (t : Ns) (h : PairHdr) (m : MirrorSet) (s : State),
    isPaired s = true → coreRuns s = true → h.crcOk = true → s.pair.st = .spare → s.pair.phase = .copy → s.pair.epoch ≤ h.epoch → arrived ((h.offset, h.len) :: s.pair.copyAsm) h.total = false →
    Effect (.copyFrameReceive t h m) s [.time, .pair] [] (fun u =>
      u.now = max s.now t ∧ u.pair = { s.pair with lastFrame := some t, peerEpoch := max s.pair.peerEpoch h.epoch, copyAsm := (h.offset, h.len) :: s.pair.copyAsm })) ∧
  (∀ (t : Ns) (s : State), s.pair.st = .spare → s.pair.phase = .copy → exec (.copyComplete t false) s = .next (copyFail (setNow s t))) ∧
  (∀ (t : Ns) (m : MirrorSet) (s : State),
    s.pair.st = .spare → s.pair.phase = .copy → s.pair.copied = some m → s.pair.copyDone = true →
    exec (.copyComplete t true) s = .next (modPair (pairEnter ((s.pair.behind.filter (fun x => decide (m.frame < x.frame))).foldl applySet (applySet (setNow s t) m)) .spare .shadow) (fun p => { p with shadowAt := max s.now t, copyAsm := [], copyDone := false, behind := [], copied := none, streak := [] }))) ∧
  (∀ (t r : Ns) (s : State), s.pair.retryAt = some r → r ≤ t → exec (.copyRetry t) s = .next (pairMeet (setNow s t))) ∧
  (∀ (t : Ns) (s : State), t % frameNs = 0 → exec (.setApply t) s = .next (applyReady (setNow s t))) ∧
  (∀ (t : Ns) (s : State),
    s.pair.st = .active → isPaired s = true → s.frame % 8 = 0 → s.pair.copyAsked = false →
    exec (.mirrorSetClose t) s = .next (emitLink (clearSent (modPair (noteBacklog (setNow s t) s.col.dirty s.llt.dirty) (fun p => { p with closed := some (mirrorOf (noteBacklog (setNow s t) s.col.dirty s.llt.dirty) false (s.col.dirty.take mirrorBudget) (s.llt.dirty.take mirrorBudget)), nextSet := p.nextSet + 1 })) s.col.dirty s.llt.dirty) (linkFrames (noteBacklog (setNow s t) s.col.dirty s.llt.dirty) (mirrorOf (noteBacklog (setNow s t) s.col.dirty s.llt.dirty) false (s.col.dirty.take mirrorBudget) (s.llt.dirty.take mirrorBudget))) (fun n => .mirror n (mirrorOf (noteBacklog (setNow s t) s.col.dirty s.llt.dirty) false (s.col.dirty.take mirrorBudget) (s.llt.dirty.take mirrorBudget)).seq))) ∧
  (∀ (t : Ns) (s : State),
    s.pair.st = .active → isPaired s = true → s.frame % 8 = 0 → s.pair.copyAsked = true →
    exec (.mirrorSetClose t) s = .next (emitLink (modPair (emitLink (clearSent (modPair (noteBacklog (setNow s t) s.col.dirty s.llt.dirty) (fun p => { p with closed := some (mirrorOf (noteBacklog (setNow s t) s.col.dirty s.llt.dirty) false (s.col.dirty.take mirrorBudget) (s.llt.dirty.take mirrorBudget)), nextSet := p.nextSet + 1 })) s.col.dirty s.llt.dirty) (linkFrames (noteBacklog (setNow s t) s.col.dirty s.llt.dirty) (mirrorOf (noteBacklog (setNow s t) s.col.dirty s.llt.dirty) false (s.col.dirty.take mirrorBudget) (s.llt.dirty.take mirrorBudget))) (fun n => .mirror n (mirrorOf (noteBacklog (setNow s t) s.col.dirty s.llt.dirty) false (s.col.dirty.take mirrorBudget) (s.llt.dirty.take mirrorBudget)).seq)) (fun p => { p with copied := some (mirrorOf (noteBacklog (setNow s t) s.col.dirty s.llt.dirty) true [] []), copyAsked := false })) (linkFrames (noteBacklog (setNow s t) s.col.dirty s.llt.dirty) (mirrorOf (noteBacklog (setNow s t) s.col.dirty s.llt.dirty) true [] [])) (fun n => .copy n s.frame)))

/-- The boot from power-good to t8 and the resets (R392 to R399), each where the spec has it act: each instant needs the one before it
and is recorded; the wake from dormant mode by its timer or its wick. Where the spec leaves a value or a way open it follows the
model's own choices of log entries 28, 29, 30. Commands that it says complete with their own effect: powerGood, corePllLock,
firmwareSelect, dramTrained, streamLoad, patchChainApply, streamCommit, restoreComplete, outputEnable, auxPor, sysReset,
corePowerReturn, snfDormant, dormantEntryComplete, wakeTimer, wakeWick. -/
def Obligations.BootCommandsComplete : Prop :=
  (∀ (t : Ns) (s : State),
    s.snf.vaux = true → s.snf.powerGood = false → thermalRuns (coreReturn (setNow s t)) = true →
    exec (.powerGood t true) s = .next (startBoot (coreReturn (setNow s t)))) ∧
  (∀ (t : Ns) (s : State),
    s.snf.vaux = true → s.snf.powerGood = false → thermalRuns (logEv (stick (coreReturn (setNow s t)) .snfReset 0 4) (srcDev 2) .seqFault) = true →
    exec (.powerGood t false) s = .next (startBoot (logEv (stick (coreReturn (setNow s t)) .snfReset 0 4) (srcDev 2) .seqFault))) ∧
  (∀ (t : Ns) (s : State), s.snf.powerGood = true → s.snf.stage = 0 → exec (.corePllLock t true) s = .next (wakeWicks { bootStage (setNow s t) 1 with thr := { (bootStage (setNow s t) 1).thr with otpBad := false } })) ∧
  (∀ (t : Ns) (s : State), s.snf.powerGood = true → s.snf.stage = 0 → exec (.corePllLock t false) s = .next (wakeWicks (logEv { bootStage (setNow s t) 1 with thr := { (bootStage (setNow s t) 1).thr with otpBad := true } } (srcDev 1) .otpBad))) ∧
  (∀ (t : Ns) (s : State), s.snf.stage = 1 → exec (.firmwareSelect t) s = .next (fwSelect (setNow s t))) ∧
  (∀ (t : Ns) (s : State), s.snf.stage = 2 → exec (.dramTrained t) s = .next (modSnf (tellTallyLost (restoreRing (bootStage (setNow s t) 3))) (fun x => { x with heldBoot := x.straps.testBit 1 }))) ∧
  (∀ (t : Ns) (s : State),
    s.snf.stage = 3 → s.snf.heldBoot = false → s.hld.committed = false → (loadStream (setNow s t)).hld.cand.isSome = true →
    exec (.streamLoad t) s = .next (bootStage (loadStream (setNow s t)) 4)) ∧
  (∀ (t : Ns) (s : State),
    s.snf.stage = 3 → s.snf.heldBoot = false → s.hld.committed = false → (loadStream (setNow s t)).hld.cand = none →
    exec (.streamLoad t) s = .next (loadStream (setNow s t))) ∧
  (∀ (t : Ns) (s : State), s.snf.stage = 4 → exec (.patchChainApply t) s = .next (bootStage (applyChain (setNow s t) (chainOf (setNow s t))) 5)) ∧
  (∀ (t : Ns) (x : Structure) (s : State), s.hld.cand = some x → s.snf.stage = 5 → exec (.streamCommit t) s = .next (irqBoot (bootStage (commit (setNow s t) x) 6))) ∧
  (∀ (t : Ns) (s : State), s.snf.stage = 6 → exec (.restoreComplete t) s = .next (modSnf (pairStart (modSnf (bootStage (forEach (upTo 8) (forEach (upTo 16) (setNow s t) (fun s c => restoreDry (restoreCol s c) c)) (fun s n => setAis s n { aisOf s n with sendConfig := true })) 7) (fun x => { x with restoredAt := some (forEach (upTo 8) (forEach (upTo 16) (setNow s t) (fun s c => restoreDry (restoreCol s c) c)) (fun s n => setAis s n { aisOf s n with sendConfig := true })).now }))) (fun x => { x with enableLate := !enableOk (pairStart (modSnf (bootStage (forEach (upTo 8) (forEach (upTo 16) (setNow s t) (fun s c => restoreDry (restoreCol s c) c)) (fun s n => setAis s n { aisOf s n with sendConfig := true })) 7) (fun x => { x with restoredAt := some (forEach (upTo 8) (forEach (upTo 16) (setNow s t) (fun s c => restoreDry (restoreCol s c) c)) (fun s n => setAis s n { aisOf s n with sendConfig := true })).now }))) }))) ∧
  (∀ (t : Ns) (s : State),
    enableOk (setNow s t) = true → s.snf.enableLate = false ∨ t % frameNs = 0 →
    exec (.outputEnable t) s = .next (enableOutputs (setNow s t))) ∧
  (∀ (t : Ns) (s : State),
    enableOk (setNow s t) = true → s.snf.enableLate = true → t % frameNs ≠ 0 →
    Effect (.outputEnable t) s [.time] [] (fun u =>
      u.now = max s.now t)) ∧
  (∀ (t : Ns) (s : State), enableOk (setNow s t) = false → Effect (.outputEnable t) s [.time, .snf] [] (fun u =>
      u.now = max s.now t ∧ u.snf = { s.snf with enableLate := s.snf.enableLate || decide (s.snf.stage = 7) })) ∧
  (∀ (t : Ns) (x : Fin 32) (s : State), exec (.auxPor t x) s = .next (auxPor (setNow s t) x)) ∧
  (∀ (t : Ns) (x : Fin 32) (s : State), s.snf.vaux = true → exec (.sysReset t x) s = .next (sysReset (setNow s t) x)) ∧
  (∀ (t : Ns) (s : State), s.snf.coreLost = true → exec (.corePowerReturn t) s = .next (coreReturn (setNow s t))) ∧
  (∀ (s : State), dormantRefused s = false → exec (.snfDormant) s = .next (snfResult (safeOut (modSnf (disableOutputs s) (fun x => { x with dormant := true, dormEntering := true }))) 4 0)) ∧
  (∀ (s : State), dormantRefused s = true → Effect (.snfDormant) s [.snf] [] (fun u =>
      u.snf = { s.snf with result := 2, resultOp := 4 })) ∧
  (∀ (t : Ns) (s : State), s.snf.dormEntering = true → s.snf.recWait = none → exec (.dormantEntryComplete t) s = .next (enterDormant (setNow s t))) ∧
  (∀ (t : Ns) (s : State),
    regB s .snfWake 0 0 = true → 0 < regF s .snfWake 0 8 24 → s.snf.dormSince + regF s .snfWake 0 8 24 * secNs ≤ t →
    exec (.wakeTimer t) s = .next (wakeUp (setNow s t))) ∧
  (∀ (w : Fin 64) (t : Ns) (s : State),
    regB s .snfWake 0 1 = true → regF s .snfWake 0 2 6 = w.val → w.val < 52 → 0 < (regW s .snfWakeTicks).toNat → (regW s .snfWakeTicks).toNat ≤ (wrap48 ((wickOf s w).count - (wickOf s w).dormEntry)).natAbs →
    exec (.wakeWick w t) s = .next (wakeUp (setNow s t)))

/-- The snuffer, the supplies and the watchdog (R400 to R409), each where the spec has it act: every cause triggers it; a release is
refused while a condition holds; the shutdown record is committed; the watchdog is restarted by the frames and expires. Where the
spec leaves a value or a way open it follows the model's own choices of log entry 31. Commands that it says complete with their own
effect: snfSnuff, snfRelease, snfCoreReset, snufferBasketCommand, safeNAssert, pwrFailNAssert, safeNDeassert, pwrFailNDeassert,
supplyFault, shutdownRecordCommit, watchdogRestart, watchdogExpiry. -/
def Obligations.SnufferCommandsComplete : Prop :=
  (∀ (s : State), exec (.snfSnuff) s = .next (snfResult (snufferTrigger s 5) 1 0)) ∧
  (∀ (s : State), s.snf.active = false → Effect (.snfRelease) s [.snf] [] (fun u =>
      u.snf = { s.snf with result := 0, resultOp := 2 })) ∧
  (∀ (s : State), s.snf.active = true → releaseHeld s = true → Effect (.snfRelease) s [.snf] [] (fun u =>
      u.snf = { s.snf with result := 1, resultOp := 2 })) ∧
  (∀ (s : State), s.snf.active = true → releaseHeld s = false → exec (.snfRelease) s = .next (snfResult (modSnf (snufferRelease s) (fun x => { x with relAt := some s.now })) 2 0)) ∧
  (∀ (s : State), s.snf.corePowered = true → s.snf.powerGood = true → exec (.snfCoreReset) s = .next (snfResult (startBoot { coreDown s true with snf := { (coreDown s true).snf with kind := .coreReset, coreCause := 0 }, glb := { (coreDown s true).glb with seq := 0 } }) 3 0)) ∧
  (∀ (t : Ns) (s : State), exec (.snufferBasketCommand t) s = .next (snufferTrigger (setNow s t) 5)) ∧
  (∀ (t : Ns) (s : State), s.snf.vaux = true → s.snf.safeN = true → exec (.safeNAssert t) s = .next (snufferTrigger { setNow s t with snf := { s.snf with safeN := false, holding := s.snf.holding ||| (1 <<< 0) } } 0)) ∧
  (∀ (t : Ns) (s : State), s.snf.vaux = true → s.snf.pwrFailN = true → exec (.pwrFailNAssert t) s = .next (snufferTrigger { setNow s t with snf := { s.snf with pwrFailN := false, holding := s.snf.holding ||| (1 <<< 4) } } 4)) ∧
  (∀ (t : Ns) (s : State), Effect (.safeNDeassert t) s [.time, .snf] [] (fun u =>
      u.now = max s.now t ∧ u.snf = { s.snf with safeN := true, holding := if s.snf.holding.testBit 0 then s.snf.holding - 1 <<< 0 else s.snf.holding })) ∧
  (∀ (t : Ns) (s : State), Effect (.pwrFailNDeassert t) s [.time, .snf] [] (fun u =>
      u.now = max s.now t ∧ u.snf = { s.snf with pwrFailN := true, holding := if s.snf.holding.testBit 4 then s.snf.holding - 1 <<< 4 else s.snf.holding })) ∧
  (∀ (t : Ns) (r : Rail) (v : Nat) (s : State),
    s.snf.vaux = true → railOut r v = false → s.snf.railBad.filter (fun p => p.1 != r) ≠ [] →
    Effect (.supplyFault t r v) s [.time, .snf] [] (fun u =>
      u.now = max s.now t ∧ u.snf = { s.snf with railBad := s.snf.railBad.filter (fun p => p.1 != r) })) ∧
  (∀ (t : Ns) (r : Rail) (v : Nat) (s : State),
    s.snf.vaux = true → railOut r v = true → r ≠ .vaux → s.snf.corePowered = true →
    exec (.supplyFault t r v) s = .next (corePowerOff (snufferTrigger (setHold (modSnf (setNow s t) (fun x => { x with railBad := (r, v) :: s.snf.railBad.filter (fun p => p.1 != r) })) 3 true) 3))) ∧
  (∀ (t : Ns) (s : State), s.snf.recWait.isSome = true → exec (.shutdownRecordCommit t) s = .next (afterStep5 (commitRecord (setNow s t)))) ∧
  (∀ (t : Ns) (s : State),
    s.snf.wdArmed = true → s.mgt.halted = false → s.framed = true → s.snf.wdFrame < s.frame →
    Effect (.watchdogRestart t) s [.time, .snf] [] (fun u =>
      u.now = max s.now t ∧ u.snf = { s.snf with wdLast := t, wdFrame := s.frame })) ∧
  (∀ (t : Ns) (s : State),
    wdOver s t = true → regB (logEv (snufferTrigger { setNow s t with snf := { s.snf with wdArmed := false, expiries := satInc 16 s.snf.expiries } } 1) (srcDev 2) .watchdogExpired) .snfWdog 0 14 = false →
    exec (.watchdogExpiry t) s = .next (logEv (snufferTrigger { setNow s t with snf := { s.snf with wdArmed := false, expiries := satInc 16 s.snf.expiries } } 1) (srcDev 2) .watchdogExpired))

/-- The thermal supervisor (R410 to R417), each where the spec has it act: a stale sensor is marked, a reading is taken and steps the
states, a second hot reading shuts down, the chip restarts a minute after it has cooled, and the input power is kept where the
stream reads it. Where the spec leaves a value or a way open it follows the model's own choices of log entry 33. Commands that it
says complete with their own effect: thermalConversion, thermalRestart, pmbusPowerRead. -/
def Obligations.ThermalCommandsComplete : Prop :=
  (∀ (i : Fin 32) (t : Ns) (r : TempReading) (s : State), s.snf.vaux = true → sensStale (setNow s t) i = true → Effect (.thermalConversion i t r) s [.time, .thr] [] (fun u =>
      u.now = max s.now t ∧ OnlySens i s u ∧ sensOf u i = { sensOf s i with cls := .stale })) ∧
  (∀ (i : Fin 32) (t : Ns) (r : TempReading) (s : State),
    s.snf.vaux = true → sensStale (setNow s t) i = false → (decide (i.val < 24) && decide (degC 120 ≤ (sensOf (takeSensor (setNow s t) i r) i).checked)) = false → i.val < 16 →
    exec (.thermalConversion i t r) s = .next (thermalStep (setSens (takeSensor (setNow s t) i r) i { sensOf (takeSensor (setNow s t) i r) i with hotOnce := false }))) ∧
  (∀ (i : Fin 32) (t : Ns) (r : TempReading) (s : State),
    s.snf.vaux = true → sensStale (setNow s t) i = false → (decide (i.val < 24) && decide (degC 120 ≤ (sensOf (takeSensor (setNow s t) i r) i).checked)) = false → 16 ≤ i.val →
    exec (.thermalConversion i t r) s = .next (setSens (takeSensor (setNow s t) i r) i { sensOf (takeSensor (setNow s t) i r) i with hotOnce := false })) ∧
  (∀ (i : Fin 32) (t : Ns) (r : TempReading) (s : State),
    s.snf.vaux = true → sensStale (setNow s t) i = false → (decide (i.val < 24) && decide (degC 120 ≤ (sensOf (takeSensor (setNow s t) i r) i).checked)) = true → (sensOf s i).hotOnce = true → (setSens (takeSensor (setNow s t) i r) i { sensOf (takeSensor (setNow s t) i r) i with hotOnce := true }).thr.st = .normal ∨ (setSens (takeSensor (setNow s t) i r) i { sensOf (takeSensor (setNow s t) i r) i with hotOnce := true }).thr.st = .throttling →
    exec (.thermalConversion i t r) s = .next (thermalShutdown (setSens (takeSensor (setNow s t) i r) i { sensOf (takeSensor (setNow s t) i r) i with hotOnce := true }) i)) ∧
  (∀ (t a : Ns) (s : State),
    s.thr.coolAt = some a → s.thr.st = .cooling → a + 60 * secNs ≤ t → releaseHeld (modHist { setNow s t with thr := { s.thr with st := .normal, coolAt := none } } (fun h => { h with auto := true })) = true →
    exec (.thermalRestart t) s = .next (noteRestart (thermalBoot (modHist { setNow s t with thr := { s.thr with st := .normal, coolAt := none } } (fun h => { h with auto := true }))))) ∧
  (∀ (t a : Ns) (s : State),
    s.thr.coolAt = some a → s.thr.st = .cooling → a + 60 * secNs ≤ t → releaseHeld (modHist { setNow s t with thr := { s.thr with st := .normal, coolAt := none } } (fun h => { h with auto := true })) = false →
    exec (.thermalRestart t) s = .next (noteRestart (thermalBoot (snufferRelease (modHist { setNow s t with thr := { s.thr with st := .normal, coolAt := none } } (fun h => { h with auto := true })))))) ∧
  (∀ (t : Ns) (p : Nat) (s : State), s.mgt.halted = false → s.hld.str.pmbus = true → Effect (.pmbusPowerRead t p) s [.time, .thr] [] (fun u =>
      u.now = max s.now t ∧ u.thr = { s.thr with pIn := sat 16 p })) ∧
  (∀ (t : Ns) (p : Nat) (s : State), s.mgt.halted = false → s.hld.str.pmbus = false → Effect (.pmbusPowerRead t p) s [.time, .thr] [] (fun u =>
      u.now = max s.now t ∧ u.thr = { s.thr with pIn := 0 }))

/-- The streaming unit (R374 to R391), each where the spec has it act: a chunk is staged, the staged image is validated, applied at its
frame, cancelled, discarded or persisted, and every refusal is the code the spec names. Where the spec leaves a value or a way open
it follows the model's own choices of log entries 7, 55, 56. Commands that it says complete with their own effect: streamChunk,
hldValidate, validationComplete, hldApply, hldCancel, hldDiscard, hldPersist, persistComplete, patchRevalidate, patchApply. -/
def Obligations.StreamCommandsComplete : Prop :=
  (∀ (t : Ns) (d : Dgram) (a k l : Nat) (b : Bool) (x : List Byte) (s : State),
    fwRuns (setNow s t) = true → (identNow (setNow s t)).isSome = true → authOf (setNow s t) d = some (k, l) → 3 ≤ l → (streamChunk (acceptDgram (setNow s t) d k) a b x).2 = 0 →
    exec (.streamChunk t d a b x) s = .next (respond (noteChange (streamChunk (acceptDgram (setNow s t) d k) a b x).1 d) d (keyIn (setNow s t) k) 0 [])) ∧
  (∀ (t : Ns) (d : Dgram) (a k l : Nat) (b : Bool) (x : List Byte) (s : State),
    fwRuns (setNow s t) = true → (identNow (setNow s t)).isSome = true → authOf (setNow s t) d = some (k, l) → 3 ≤ l → (streamChunk (acceptDgram (setNow s t) d k) a b x).2 ≠ 0 →
    exec (.streamChunk t d a b x) s = .next (respond (streamChunk (acceptDgram (setNow s t) d k) a b x).1 d (keyIn (setNow s t) k) (streamChunk (acceptDgram (setNow s t) d k) a b x).2 [])) ∧
  (∀ (s : State), s.hld.staged = .receiving → s.mgt.halted = false → Effect (.hldValidate) s [.hld] [] (fun u =>
      u.hld = { s.hld with staged := .validating, patch := none })) ∧
  (∀ (s : State), s.hld.staged = .valid → s.mgt.halted = false → Effect (.hldValidate) s [.hld] [] (fun u =>
      u.hld = { s.hld with staged := .validating, patch := none })) ∧
  (∀ (s : State), s.hld.staged = .validating → s.mgt.halted = false → Effect (.hldValidate) s [.hld] [] (fun u =>
      u.hld = { s.hld with op := 1, code := HldCode.code .busy, section_ := 0, record := 0xFFFF })) ∧
  (∀ (s : State), s.hld.staged = .empty → s.mgt.halted = false → Effect (.hldValidate) s [.hld] [] (fun u =>
      u.hld = { s.hld with op := 1, code := HldCode.code .notStaged, section_ := 0, record := 0xFFFF })) ∧
  (∀ (s : State), s.hld.staged = .pending → s.mgt.halted = false → Effect (.hldValidate) s [.hld] [] (fun u =>
      u.hld = { s.hld with op := 1, code := HldCode.code .notStaged, section_ := 0, record := 0xFFFF })) ∧
  (∀ (s : State), s.hld.staged = .switchPending → s.mgt.halted = false → Effect (.hldValidate) s [.hld] [] (fun u =>
      u.hld = { s.hld with op := 1, code := HldCode.code .notStaged, section_ := 0, record := 0xFFFF })) ∧
  (∀ (t : Ns) (m : StreamImg) (s : State),
    s.hld.staged = .validating → m.full = false → validate s s.hld.str m = .ok → stagedWhole s m = true → s.mgt.halted = false →
    Effect (.validationComplete t m) s [.time, .hld] [] (fun u =>
      u.now = max s.now t ∧ u.hld = { s.hld with staged := .valid, patch := some m, op := 1, code := HldCode.code .ok, section_ := 0, record := 0xFFFF })) ∧
  (∀ (t : Ns) (m : StreamImg) (s : State),
    s.hld.staged = .validating → m.full = true ∨ stagedWhole s m = false → s.mgt.halted = false →
    exec (.validationComplete t m) s = .next (hldReject (modHld (setNow s t) (fun h => { h with staged := .receiving, patch := none })) 1 .format)) ∧
  (∀ (t : Ns) (m : StreamImg) (s : State),
    s.hld.staged = .validating → m.full = false → stagedWhole s m = true → validate s s.hld.str m ≠ .ok → s.mgt.halted = false →
    exec (.validationComplete t m) s = .next (hldReject (modHld (setNow s t) (fun h => { h with staged := .receiving, patch := none })) 1 (validate s s.hld.str m))) ∧
  (∀ (s : State),
    applyCode s (reg64 s .hldApplyLo .hldApplyHi 0) = .ok → s.mgt.halted = false →
    Effect (.hldApply) s [.hld] [] (fun u =>
      u.hld = { s.hld with staged := .pending, fa := reg64 s .hldApplyLo .hldApplyHi 0, peerPending := false, revalOk := false, op := 2, code := HldCode.code .ok, section_ := 0, record := 0xFFFF })) ∧
  (∀ (s : State),
    applyCode s (reg64 s .hldApplyLo .hldApplyHi 0) = .notStaged → s.mgt.halted = false →
    Effect (.hldApply) s [.hld] [] (fun u =>
      u.hld = { s.hld with op := 2, code := HldCode.code .notStaged, section_ := 0, record := 0xFFFF })) ∧
  (∀ (s : State),
    applyCode s (reg64 s .hldApplyLo .hldApplyHi 0) ≠ .ok → applyCode s (reg64 s .hldApplyLo .hldApplyHi 0) ≠ .notStaged → s.mgt.halted = false →
    exec (.hldApply) s = .next (stick (hldResult s 2 (applyCode s (reg64 s .hldApplyLo .hldApplyHi 0))) .hldStatus 0 14)) ∧
  (∀ (s : State), s.hld.staged = .pending → s.mgt.halted = false → Effect (.hldCancel) s [.hld] [] (fun u =>
      u.hld = { s.hld with staged := .valid, peerPending := false, revalOk := false, op := 5, code := HldCode.code .ok, section_ := 0, record := 0xFFFF })) ∧
  (∀ (s : State), s.hld.staged ≠ .pending → s.mgt.halted = false → Effect (.hldCancel) s [.hld] [] (fun u =>
      u.hld = { s.hld with op := 5, code := HldCode.code .notStaged, section_ := 0, record := 0xFFFF })) ∧
  (∀ (s : State), s.hld.staged = .empty → s.mgt.halted = false → Effect (.hldDiscard) s [.hld] [] (fun u =>
      u.hld = { s.hld with op := 6, code := HldCode.code .notStaged, section_ := 0, record := 0xFFFF })) ∧
  (∀ (s : State), s.hld.staged = .pending → s.mgt.halted = false → Effect (.hldDiscard) s [.hld] [] (fun u =>
      u.hld = { s.hld with op := 6, code := HldCode.code .busy, section_ := 0, record := 0xFFFF })) ∧
  (∀ (s : State), s.hld.staged = .switchPending → s.mgt.halted = false → Effect (.hldDiscard) s [.hld] [] (fun u =>
      u.hld = { s.hld with op := 6, code := HldCode.code .busy, section_ := 0, record := 0xFFFF })) ∧
  (∀ (s : State), s.hld.staged = .receiving → s.mgt.halted = false → Effect (.hldDiscard) s [.hld] [] (fun u =>
      u.hld = { s.hld with staged := .empty, bytes := [], patch := none, op := 6, code := HldCode.code .ok, section_ := 0, record := 0xFFFF })) ∧
  (∀ (s : State), s.hld.staged = .validating → s.mgt.halted = false → Effect (.hldDiscard) s [.hld] [] (fun u =>
      u.hld = { s.hld with staged := .empty, bytes := [], patch := none, op := 6, code := HldCode.code .ok, section_ := 0, record := 0xFFFF })) ∧
  (∀ (s : State), s.hld.staged = .valid → s.mgt.halted = false → Effect (.hldDiscard) s [.hld] [] (fun u =>
      u.hld = { s.hld with staged := .empty, bytes := [], patch := none, op := 6, code := HldCode.code .ok, section_ := 0, record := 0xFFFF })) ∧
  (∀ (m : StreamImg) (s : State),
    s.hld.appliedImg = some m → s.hld.unpersisted = true → s.mgt.flash = none → ¬(16 ≤ (bankOf s s.mgt.strB).length ∨ 33554432 < ((bankOf s s.mgt.strB).map (·.length)).sum + m.length) → s.mgt.halted = false →
    Effect (.hldPersist) s [.mgt] [] (fun u =>
      u.mgt = { s.mgt with flash := some (flashPersist, s.now) })) ∧
  (∀ (s : State), s.hld.appliedImg = none → s.mgt.halted = false → Effect (.hldPersist) s [.hld] [] (fun u =>
      u.hld = { s.hld with op := 4, code := HldCode.code .notStaged, section_ := 0, record := 0xFFFF })) ∧
  (∀ (m : StreamImg) (s : State),
    s.hld.appliedImg = some m → s.hld.unpersisted = true → s.mgt.flash.isSome = true → s.mgt.halted = false →
    Effect (.hldPersist) s [.hld] [] (fun u =>
      u.hld = { s.hld with op := 4, code := HldCode.code .busy, section_ := 0, record := 0xFFFF })) ∧
  (∀ (t a : Ns) (m : StreamImg) (s : State),
    s.mgt.flash = some (0, a) → s.hld.appliedImg = some m → s.mgt.halted = false →
    exec (.persistComplete t true) s = .next (hldResult (modHld (setBank { setNow s t with mgt := { s.mgt with flash := none } } s.mgt.strB (bankOf s s.mgt.strB ++ [m]) (bankValid s s.mgt.strB)) (fun h => { h with unpersisted := false })) 4 .ok)) ∧
  (∀ (t : Ns) (m : StreamImg) (s : State),
    s.hld.patch = some m → s.hld.staged = .pending → frameOf t + 1 = s.hld.fa → validate s s.hld.str m = .ok → applyFrameBad s m s.hld.fa = false → s.mgt.halted = false →
    Effect (.patchRevalidate t) s [.time, .hld] [] (fun u =>
      u.now = max s.now t ∧ u.hld = { s.hld with revalOk := true, op := 3, code := HldCode.code .ok, section_ := 0, record := 0xFFFF })) ∧
  (∀ (t : Ns) (m : StreamImg) (s : State),
    s.hld.patch = some m → s.hld.staged = .pending → frameOf t + 1 = s.hld.fa → validate s s.hld.str m ≠ .ok → s.mgt.halted = false →
    exec (.patchRevalidate t) s = .next (hldReject (modHld (setNow s t) (fun h => { h with staged := .valid, peerPending := false, revalOk := false })) 3 (validate s s.hld.str m))) ∧
  (∀ (t : Ns) (m : StreamImg) (s : State),
    s.hld.patch = some m → s.hld.staged = .pending → s.hld.revalOk = true → max s.now t = s.hld.fa * frameNs →
    exec (.patchApply t) s = .next (applyPatch (latchDue (setNow s t) false) m)) ∧
  (∀ (s : State), s.mgt.halted = true →
    exec (.hldValidate) s = .next s ∧
    exec (.hldApply) s = .next s ∧
    exec (.hldCancel) s = .next s ∧
    exec (.hldDiscard) s = .next s ∧
    exec (.hldPersist) s = .next s)

/-- Images, trials, floors and keys (R428 to R441), each where the spec has it act: a chunk is received, the image validated, loaded,
activated or discarded; a trial is confirmed; a floor is raised to the running version; a market key is installed or removed, a
stream key enrolled or revoked only in a service boot; an attestation is signed. Where the spec leaves a value or a way open it
follows the model's own choices of log entries 7, 22, 57. Commands that it says complete with their own effect: imageChunk,
imgValidate, imgValidateComplete, imgLoad, imgLoadComplete, imgActivate, imgDiscard, trialConfirm, raiseFloorFw, raiseFloorStream,
keyInstall, keyRemove, enrol, revoke, attest. -/
def Obligations.ManagementCommandsComplete : Prop :=
  (∀ (t : Ns) (d : Dgram) (a k l : Nat) (b : Bool) (x : List Byte) (s : State),
    fwRuns (setNow s t) = true → (identNow (setNow s t)).isSome = true → authOf (setNow s t) d = some (k, l) → 3 ≤ l → (imageChunk (acceptDgram (setNow s t) d k) a b x).2 = 0 →
    exec (.imageChunk t d a b x) s = .next (respond (noteChange (imageChunk (acceptDgram (setNow s t) d k) a b x).1 d) d (keyIn (setNow s t) k) 0 [])) ∧
  (∀ (t : Ns) (d : Dgram) (a k l : Nat) (b : Bool) (x : List Byte) (s : State),
    fwRuns (setNow s t) = true → (identNow (setNow s t)).isSome = true → authOf (setNow s t) d = some (k, l) → 3 ≤ l → (imageChunk (acceptDgram (setNow s t) d k) a b x).2 ≠ 0 →
    exec (.imageChunk t d a b x) s = .next (respond (imageChunk (acceptDgram (setNow s t) d k) a b x).1 d (keyIn (setNow s t) k) (imageChunk (acceptDgram (setNow s t) d k) a b x).2 [])) ∧
  (∀ (s : State), s.mgt.img = .empty → s.mgt.halted = false → Effect (.imgValidate) s [.mgt] [] (fun u =>
      u.mgt = { s.mgt with code := MgtCode.code .notStaged, op := 1 })) ∧
  (∀ (s : State), s.mgt.img = .validating → s.mgt.halted = false → Effect (.imgValidate) s [.mgt] [] (fun u =>
      u.mgt = { s.mgt with code := MgtCode.code .busy, op := 1 })) ∧
  (∀ (s : State), s.mgt.img = .loading → s.mgt.halted = false → Effect (.imgValidate) s [.mgt] [] (fun u =>
      u.mgt = { s.mgt with code := MgtCode.code .busy, op := 1 })) ∧
  (∀ (s : State), s.mgt.img = .receiving → s.mgt.halted = false → Effect (.imgValidate) s [.mgt] [] (fun u =>
      u.mgt = { s.mgt with img := .validating, imgFw := none, imgStr := none, code := MgtCode.code .running, op := 1 })) ∧
  (∀ (s : State), s.mgt.img = .valid → s.mgt.halted = false → Effect (.imgValidate) s [.mgt] [] (fun u =>
      u.mgt = { s.mgt with img := .validating, imgFw := none, imgStr := none, code := MgtCode.code .running, op := 1 })) ∧
  (∀ (t : Ns) (x : FwImage) (q : Option StreamImg) (s : State),
    s.mgt.img = .validating → checkFw s x = .ok → imageWhole s x.length = true → s.mgt.halted = false →
    Effect (.imgValidateComplete t (some x) q) s [.time, .mgt] [] (fun u =>
      u.now = max s.now t ∧ u.mgt = { s.mgt with img := .valid, imgFw := some x, code := MgtCode.code .ok, op := 1 })) ∧
  (∀ (t : Ns) (x : FwImage) (q : Option StreamImg) (s : State),
    s.mgt.img = .validating → checkFw s x ≠ .ok → imageWhole s x.length = true → s.mgt.halted = false →
    Effect (.imgValidateComplete t (some x) q) s [.time, .mgt] [] (fun u =>
      u.now = max s.now t ∧ u.mgt = { s.mgt with img := .receiving, code := (checkFw s x).code, op := 1 })) ∧
  (∀ (t : Ns) (x : FwImage) (q : Option StreamImg) (s : State),
    s.mgt.img = .validating → imageWhole s x.length = false → s.mgt.halted = false →
    Effect (.imgValidateComplete t (some x) q) s [.time, .mgt] [] (fun u =>
      u.now = max s.now t ∧ u.mgt = { s.mgt with img := .receiving, code := MgtCode.code .format, op := 1 })) ∧
  (∀ (t : Ns) (s : State), s.mgt.img = .validating → s.mgt.halted = false → Effect (.imgValidateComplete t none none) s [.time, .mgt] [] (fun u =>
      u.now = max s.now t ∧ u.mgt = { s.mgt with img := .receiving, code := MgtCode.code .format, op := 1 })) ∧
  (∀ (s : State), s.mgt.img = .loading → s.mgt.halted = false → Effect (.imgLoad) s [.mgt] [] (fun u =>
      u.mgt = { s.mgt with code := MgtCode.code .busy, op := 2 })) ∧
  (∀ (s : State), s.mgt.img = .validating → s.mgt.halted = false → Effect (.imgLoad) s [.mgt] [] (fun u =>
      u.mgt = { s.mgt with code := MgtCode.code .busy, op := 2 })) ∧
  (∀ (x : FwImage) (s : State),
    s.mgt.img = .valid → s.mgt.flash = none → s.mgt.imgFw = some x → s.mgt.fwB = false → s.mgt.halted = false →
    Effect (.imgLoad) s [.mgt] [] (fun u =>
      u.mgt = { s.mgt with img := .loading, flash := some (flashLoad, s.now), fwStB := .empty, fwBImg := none, code := MgtCode.code .running, op := 2 })) ∧
  (∀ (x : FwImage) (s : State),
    s.mgt.img = .valid → s.mgt.flash = none → s.mgt.imgFw = some x → s.mgt.fwB = true → s.mgt.halted = false →
    Effect (.imgLoad) s [.mgt] [] (fun u =>
      u.mgt = { s.mgt with img := .loading, flash := some (flashLoad, s.now), fwStA := .empty, fwA := none, code := MgtCode.code .running, op := 2 })) ∧
  (∀ (s : State),
    s.mgt.img = .empty ∨ s.mgt.img = .receiving → s.mgt.flash = none → s.mgt.halted = false →
    Effect (.imgLoad) s [.mgt] [] (fun u =>
      u.mgt = { s.mgt with code := MgtCode.code .notStaged, op := 2 })) ∧
  (∀ (t a : Ns) (x : FwImage) (s : State),
    s.mgt.flash = some (1, a) → s.mgt.imgFw = some x → s.mgt.fwB = false → s.mgt.halted = false →
    Effect (.imgLoadComplete t true) s [.time, .mgt] [] (fun u =>
      u.now = max s.now t ∧ u.mgt = { s.mgt with flash := none, img := .valid, fwStB := .valid, fwBImg := some x, lastLoad := some (false, true), code := MgtCode.code .ok, op := 2 })) ∧
  (∀ (t a : Ns) (x : FwImage) (s : State),
    s.mgt.flash = some (1, a) → s.mgt.imgFw = some x → s.mgt.fwB = true → s.mgt.halted = false →
    Effect (.imgLoadComplete t true) s [.time, .mgt] [] (fun u =>
      u.now = max s.now t ∧ u.mgt = { s.mgt with flash := none, img := .valid, fwStA := .valid, fwA := some x, lastLoad := some (false, false), code := MgtCode.code .ok, op := 2 })) ∧
  (∀ (t a : Ns) (s : State), s.mgt.flash = some (1, a) → s.mgt.halted = false → Effect (.imgLoadComplete t false) s [.time, .mgt] [] (fun u =>
      u.now = max s.now t ∧ u.mgt = { s.mgt with flash := none, img := .valid, code := MgtCode.code .flash, op := 2 })) ∧
  (∀ (b : Bool) (s : State),
    lastValid s = true → s.pair.st ≠ .active → portsIdle s = true → s.mgt.lastLoad = some (true, b) → s.mgt.halted = false →
    exec (.imgActivate) s = .next (coreReset (mgtResult (modMgt s (fun m => { m with strB := b })) 3 .ok) 0)) ∧
  (∀ (b : Bool) (s : State),
    lastValid s = true → s.pair.st ≠ .active → portsIdle s = true → s.mgt.lastLoad = some (false, b) → s.mgt.halted = false →
    exec (.imgActivate) s = .next (coreReset (mgtResult (modMgt s (fun m => { m with fwB := b, trialTry := false, fwStA := if b then m.fwStA else .trial, fwStB := if b then .trial else m.fwStB })) 3 .ok) 0)) ∧
  (∀ (s : State),
    lastValid s = false ∨ s.pair.st = .active ∨ portsIdle s = false → s.mgt.halted = false →
    Effect (.imgActivate) s [.mgt] [] (fun u =>
      u.mgt = { s.mgt with code := MgtCode.code .imgState, op := 3 })) ∧
  (∀ (s : State), s.mgt.img = .empty → s.mgt.halted = false → Effect (.imgDiscard) s [.mgt] [] (fun u =>
      u.mgt = { s.mgt with code := MgtCode.code .notStaged, op := 4 })) ∧
  (∀ (s : State), s.mgt.img = .validating → s.mgt.halted = false → Effect (.imgDiscard) s [.mgt] [] (fun u =>
      u.mgt = { s.mgt with code := MgtCode.code .busy, op := 4 })) ∧
  (∀ (s : State), s.mgt.img = .loading → s.mgt.halted = false → Effect (.imgDiscard) s [.mgt] [] (fun u =>
      u.mgt = { s.mgt with code := MgtCode.code .busy, op := 4 })) ∧
  (∀ (s : State), s.mgt.img = .receiving → s.mgt.halted = false → Effect (.imgDiscard) s [.mgt] [] (fun u =>
      u.mgt = { s.mgt with img := .empty, imgBytes := [], imgFw := none, imgStr := none, code := MgtCode.code .ok, op := 4 })) ∧
  (∀ (s : State), s.mgt.img = .valid → s.mgt.halted = false → Effect (.imgDiscard) s [.mgt] [] (fun u =>
      u.mgt = { s.mgt with img := .empty, imgBytes := [], imgFw := none, imgStr := none, code := MgtCode.code .ok, op := 4 })) ∧
  (∀ (t a : Ns) (s : State),
    fwRuns s = true → fwActive s = .trial → lookup s.snf.bootT 2 = some a → a + 10 * secNs ≤ t → s.snf.wdArmed = true → (s.hld.committed = true → 7 ≤ s.snf.stage) → s.mgt.fwB = true →
    Effect (.trialConfirm t) s [.time, .mgt] [] (fun u =>
      u.now = max s.now t ∧ u.mgt = { s.mgt with fwStB := .confirmed, trialTry := false })) ∧
  (∀ (t a : Ns) (s : State),
    fwRuns s = true → fwActive s = .trial → lookup s.snf.bootT 2 = some a → a + 10 * secNs ≤ t → s.snf.wdArmed = true → (s.hld.committed = true → 7 ≤ s.snf.stage) → s.mgt.fwB = false →
    Effect (.trialConfirm t) s [.time, .mgt] [] (fun u =>
      u.now = max s.now t ∧ u.mgt = { s.mgt with fwStA := .confirmed, trialTry := false })) ∧
  (∀ (x : FwImage) (s : State),
    fwActive s = .confirmed → fwImage s = some x → s.mgt.halted = false →
    Effect (.raiseFloorFw) s [.mgt] [] (fun u =>
      u.mgt = { s.mgt with floorFw := max s.mgt.floorFw x.version, code := MgtCode.code .ok, op := 5 })) ∧
  (∀ (s : State), fwActive s ≠ .confirmed → s.mgt.halted = false → Effect (.raiseFloorFw) s [.mgt] [] (fun u =>
      u.mgt = { s.mgt with code := MgtCode.code .imgState, op := 5 })) ∧
  (∀ (m : StreamImg) (l : List StreamImg) (s : State),
    bankOnce s s.mgt.strB = true → bankOf s s.mgt.strB = m :: l → s.mgt.halted = false →
    Effect (.raiseFloorStream) s [.mgt] [] (fun u =>
      u.mgt = { s.mgt with floorStr := max s.mgt.floorStr m.version, code := MgtCode.code .ok, op := 6 })) ∧
  (∀ (s : State), bankOnce s s.mgt.strB = false → s.mgt.halted = false → Effect (.raiseFloorStream) s [.mgt] [] (fun u =>
      u.mgt = { s.mgt with code := MgtCode.code .imgState, op := 6 })) ∧
  (∀ (i : Fin 4) (k : Fin 256) (l a : Fin 4) (s : State), l.val ≠ 0 → s.mgt.halted = false → Effect (.keyInstall i k l a) s [.mgt, .mkt] [] (fun u =>
      u.mgt = (match Config.unwrapKey (kekOf s i k a) (wrapBytes s 40) with
        | some w => { s.mgt with keys := spPut s.mgt.keys i { key := w.toNat, keyId := k, level := l }, wrap := [], code := MgtCode.code .ok, op := 7 }
        | none => { s.mgt with wrap := [], code := MgtCode.code .keyWrap, op := 7 }) ∧ u.mkt = (match Config.unwrapKey (kekOf s i k a) (wrapBytes s 40) with
        | some _ => { s.mkt with seqTab := s.mkt.seqTab.filter (fun p => p.1 / 65536 != i.val) }
        | none => s.mkt))) ∧
  (∀ (i : Fin 4) (k : Fin 256) (l a : Fin 4) (s : State), l.val = 0 → s.mgt.halted = false → exec (.keyInstall i k l a) s = .next (report s hostReq (regAddr .mgtCmd 0) .range)) ∧
  (∀ (i : Fin 4) (s : State),
    (s.mgt.keys.filter (fun p => p.2.level == 3)).map (·.1) = [i.val] → s.mgt.halted = false →
    Effect (.keyRemove i) s [.mgt] [] (fun u =>
      u.mgt = { s.mgt with code := MgtCode.code .keyState, op := 8 })) ∧
  (∀ (i : Fin 4) (s : State),
    (s.mgt.keys.filter (fun p => p.2.level == 3)).map (·.1) ≠ [i.val] → s.mgt.halted = false →
    Effect (.keyRemove i) s [.mgt, .mkt] [] (fun u =>
      u.mgt = { s.mgt with keys := spDel s.mgt.keys i, code := MgtCode.code .ok, op := 8 } ∧ u.mkt = { s.mkt with seqTab := s.mkt.seqTab.filter (fun p => p.1 / 65536 != i.val) })) ∧
  (∀ (i : Fin 8) (s : State), serviceOk s = false → s.mgt.halted = false → Effect (.enrol i) s [.mgt] [] (fun u =>
      u.mgt = { s.mgt with wrap := [], code := MgtCode.code .service, op := 9 })) ∧
  (∀ (i : Fin 8) (s : State),
    serviceOk s = true → i.val < 2 ∨ otpUse s i ≠ .empty → s.mgt.halted = false →
    Effect (.enrol i) s [.mgt] [] (fun u =>
      u.mgt = { s.mgt with wrap := [], code := MgtCode.code .keyState, op := 9 })) ∧
  (∀ (i : Fin 8) (s : State),
    serviceOk s = true → 2 ≤ i.val → otpUse s i = .empty → s.mgt.halted = false →
    Effect (.enrol i) s [.mgt, .recorder] [(.evrStatus, 0)] (fun u =>
      u.mgt = { s.mgt with otp := spPut s.mgt.otp i (.stream, natLE (wrapBytes s 64)), wrap := [], code := MgtCode.code .ok, op := 9 })) ∧
  (∀ (i : Fin 8) (s : State), serviceOk s = false → s.mgt.halted = false → Effect (.revoke i) s [.mgt] [] (fun u =>
      u.mgt = { s.mgt with code := MgtCode.code .service, op := 10 })) ∧
  (∀ (i : Fin 8) (k : Nat) (s : State),
    serviceOk s = true → lookup s.mgt.otp i = some (.stream, k) → s.mgt.otp.any (fun p => p.1 != i.val && p.2.1 == .stream) = true → slotInUse s i .stream = false → s.mgt.halted = false →
    exec (.revoke i) s = .next (logEv (mgtResult (unstage { s with mgt := { s.mgt with otp := spPut s.mgt.otp i (.revoked true, k) } } i) 10 .ok) (partyOf hostReq) .keyRevoked i)) ∧
  (∀ (s : State), s.mgt.halted = true →
    exec (.imgValidate) s = .next s ∧
    exec (.imgLoad) s = .next s ∧
    exec (.imgActivate) s = .next s ∧
    exec (.imgDiscard) s = .next s ∧
    exec (.raiseFloorFw) s = .next s ∧
    exec (.raiseFloorStream) s = .next s ∧
    exec (.attest) s = .next s) ∧
  (∀ (i : Fin 4) (j : Fin 8) (k : Fin 256) (l a : Fin 4) (s : State), s.mgt.halted = true →
    exec (.keyInstall i k l a) s = .next s ∧
    exec (.keyRemove i) s = .next s ∧
    exec (.enrol j) s = .next s ∧
    exec (.revoke j) s = .next s) ∧
  (∀ (s : State), s.mgt.halted = false → Effect (.attest) s [.mgt] [] (fun u =>
      u.mgt = { s.mgt with attest := (Config.signature (bytesLE 32 (Config.sha256 (statement s)).toNat)).toNat, code := MgtCode.code .ok, op := 11 }))

/-- The wax recorder (R442 to R452, R460), each where the spec has it act: a keyframe is captured at its frame and completes or is
dropped; a summary closes each second; freeze, export, import and discard act on the staging region or give the code the spec names.
Where the spec leaves a value or a way open it follows the model's own choices of log entries 58, 59. Commands that it says complete
with their own effect: keyframeCapture, keyframeComplete, summaryWrite, waxFreeze, freezeComplete, waxExport, exportDatagramSend,
waxExportStop, waxDataImport, waxImportDone, waxDiscard. -/
def Obligations.WaxCommandsComplete : Prop :=
  (∀ (t : Ns) (s : State),
    frameOf t = s.frame → keyframeDue s = true → s.wax.keys.any (fun k => k.frame == s.frame) = false →
    exec (.keyframeCapture t) s = .next ({ setNow s t with wax := { s.wax with keyDue := false, keys := { frame := s.frame, hash8 := hash8 (setNow s t), image := imageOf (setNow s t), seen := s.wax.items.length, complete := false } :: s.wax.keys } })) ∧
  (∀ (t : Ns) (f : Nat) (s : State),
    s.wax.keys.any (fun k => k.frame == f && !k.complete) = true →
    Effect (.keyframeComplete t f true) s [.time, .wax] [] (fun u =>
      u.now = max s.now t ∧ u.wax = { s.wax with keys := s.wax.keys.map (fun k => if k.frame = f then { k with complete := true } else k) })) ∧
  (∀ (t : Ns) (f : Nat) (s : State),
    s.wax.keys.any (fun k => k.frame == f && !k.complete) = true →
    Effect (.keyframeComplete t f false) s [.time, .wax] [(.waxStatus, 0)] (fun u =>
      u.now = max s.now t ∧ u.wax = { s.wax with keys := s.wax.keys.filter (fun k => k.frame != f || k.complete) } ∧ regB u .waxStatus 0 6 = true)) ∧
  (∀ (t : Ns) (s : State),
    secNs ≤ t → (match s.wax.summaries with | [] => true | x :: _ => x.second != t / secNs - 1) = true → waxOn s = true →
    exec (.summaryWrite t) s = .next (modWax (selSums (setNow s t) (accOf (setNow s t) (t / secNs - 1))).1 (fun w => { w with summaries := ((summaryOf (selSums (setNow s t) (accOf (setNow s t) (t / secNs - 1))).1 (t / secNs - 1) (selSums (setNow s t) (accOf (setNow s t) (t / secNs - 1))).2) :: w.summaries).take 86400, rate := (summaryOf (selSums (setNow s t) (accOf (setNow s t) (t / secNs - 1))).1 (t / secNs - 1) (selSums (setNow s t) (accOf (setNow s t) (t / secNs - 1))).2).bytes / 1000, peak := max w.peak ((summaryOf (selSums (setNow s t) (accOf (setNow s t) (t / secNs - 1))).1 (t / secNs - 1) (selSums (setNow s t) (accOf (setNow s t) (t / secNs - 1))).2).bytes / 1000) }))) ∧
  (∀ (s : State), stagingHeld s = true → Effect (.waxFreeze) s [.wax] [] (fun u =>
      u.wax = { s.wax with op := 1, code := 1 })) ∧
  (∀ (s : State), stagingHeld s = false → freezeKey s = none → Effect (.waxFreeze) s [.wax] [] (fun u =>
      u.wax = { s.wax with op := 1, code := 2 })) ∧
  (∀ (k : Keyframe) (s : State), stagingHeld s = false → freezeKey s = some k → Effect (.waxFreeze) s [.wax] [] (fun u =>
      u.wax = (if 4294967296 < (frozenOf s k (freezeEnd s)).bytes then { s.wax with op := 1, code := 3 }
        else if spanGap k (freezeSegs s k (freezeEnd s)) (freezeEnd s) = true then { s.wax with op := 1, code := 4 }
        else { s.wax with staging := .freezing, frozen := none, importBytes := [], freezeReq := some (k.frame, freezeEnd s), op := 1, code := 6 }))) ∧
  (∀ (t : Ns) (f l : Nat) (k : Keyframe) (s : State),
    s.wax.staging = .freezing → s.wax.freezeReq = some (f, l) → s.wax.keys.find? (fun k => k.frame == f && k.complete) = some k →
    Effect (.freezeComplete t false) s [.time, .wax] [] (fun u =>
      u.now = max s.now t ∧ u.wax = { s.wax with staging := .frozen, frozen := some (frozenOf (setNow s t) k l), freezeReq := none, op := 1, code := 0 })) ∧
  (∀ (t : Ns) (f l : Nat) (s : State), s.wax.staging = .freezing → s.wax.freezeReq = some (f, l) → Effect (.freezeComplete t true) s [.time, .wax] [] (fun u =>
      u.now = max s.now t ∧ u.wax = { s.wax with staging := .empty, freezeReq := none, op := 1, code := 2 })) ∧
  (∀ (x : Nat) (s : State),
    (s.wax.export_.isSome || (regF s .waxExpRate 0 8 1 == 0 && (s.wax.staging == .importing || s.wax.staging == .freezing))) = true →
    Effect (.waxExport x) s [.wax] [] (fun u =>
      u.wax = { s.wax with op := 2, code := 1 })) ∧
  (∀ (x : Nat) (s : State),
    (s.wax.export_.isSome || (regF s .waxExpRate 0 8 1 == 0 && (s.wax.staging == .importing || s.wax.staging == .freezing))) = false → regF s .waxExpRate 0 8 1 = 0 → s.wax.staging ≠ .frozen →
    Effect (.waxExport x) s [.wax] [] (fun u =>
      u.wax = { s.wax with op := 2, code := 2 })) ∧
  (∀ (x : Nat) (s : State),
    (s.wax.export_.isSome || (regF s .waxExpRate 0 8 1 == 0 && (s.wax.staging == .importing || s.wax.staging == .freezing))) = false → regF s .waxExpRate 0 8 1 ≠ 0 ∨ s.wax.staging = .frozen → min (sourceSize s (regF s .waxExpRate 0 8 1)) (reg64 s .waxExpOfsLo .waxExpOfsHi 0 + (regW s .waxExpLen 0).toNat) ≤ reg64 s .waxExpOfsLo .waxExpOfsHi 0 →
    Effect (.waxExport x) s [.wax] [] (fun u =>
      u.wax = { s.wax with op := 2, code := 0 })) ∧
  (∀ (x : Nat) (s : State),
    (s.wax.export_.isSome || (regF s .waxExpRate 0 8 1 == 0 && (s.wax.staging == .importing || s.wax.staging == .freezing))) = false → regF s .waxExpRate 0 8 1 ≠ 0 ∨ s.wax.staging = .frozen → ¬(min (sourceSize s (regF s .waxExpRate 0 8 1)) (reg64 s .waxExpOfsLo .waxExpOfsHi 0 + (regW s .waxExpLen 0).toNat) ≤ reg64 s .waxExpOfsLo .waxExpOfsHi 0) →
    Effect (.waxExport x) s [.wax] [] (fun u =>
      u.wax = { s.wax with export_ := some (x, regF s .waxExpRate 0 8 1, reg64 s .waxExpOfsLo .waxExpOfsHi 0, min (sourceSize s (regF s .waxExpRate 0 8 1)) (reg64 s .waxExpOfsLo .waxExpOfsHi 0 + (regW s .waxExpLen 0).toNat)), op := 2, code := 6 })) ∧
  (∀ (t : Ns) (a b c d : Nat) (s : State),
    s.wax.export_ = some (a, b, c, d) → fwRuns s = true → d ≤ c + min 400 (d - c) →
    Effect (.exportDatagramSend t) s [.time, .mkt, .wax] [] (fun u =>
      u.now = max s.now t ∧ u.wax = { s.wax with export_ := none, op := 2, code := 0 } ∧ u.mkt.sent = .waxData a b c (min 400 (d - c)) true :: s.mkt.sent)) ∧
  (∀ (t : Ns) (a b c d : Nat) (s : State),
    s.wax.export_ = some (a, b, c, d) → fwRuns s = true → ¬(d ≤ c + min 400 (d - c)) →
    Effect (.exportDatagramSend t) s [.time, .mkt, .wax] [] (fun u =>
      u.now = max s.now t ∧ u.wax = { s.wax with export_ := some (a, b, c + min 400 (d - c), d) } ∧ u.mkt.sent = .waxData a b c (min 400 (d - c)) false :: s.mkt.sent)) ∧
  (∀ (s : State), Effect (.waxExportStop) s [.wax] [] (fun u =>
      u.wax = { s.wax with export_ := none, op := 3, code := 0 })) ∧
  (∀ (t : Ns) (d : Dgram) (a k l : Nat) (x : List Byte) (s : State),
    fwRuns (setNow s t) = true → (identNow (setNow s t)).isSome = true → authOf (setNow s t) d = some (k, l) → 3 ≤ l → (importChunk (acceptDgram (setNow s t) d k) a x).2 = 0 →
    exec (.waxDataImport t d a x) s = .next (respond (noteChange (importChunk (acceptDgram (setNow s t) d k) a x).1 d) d (keyIn (setNow s t) k) 0 [])) ∧
  (∀ (t : Ns) (d : Dgram) (a k l : Nat) (x : List Byte) (s : State),
    fwRuns (setNow s t) = true → (identNow (setNow s t)).isSome = true → authOf (setNow s t) d = some (k, l) → 3 ≤ l → (importChunk (acceptDgram (setNow s t) d k) a x).2 ≠ 0 →
    exec (.waxDataImport t d a x) s = .next (respond (importChunk (acceptDgram (setNow s t) d k) a x).1 d (keyIn (setNow s t) k) (importChunk (acceptDgram (setNow s t) d k) a x).2 [])) ∧
  (∀ (f : Frozen) (s : State), s.wax.staging = .importing → Effect (.waxImportDone (some f)) s [.wax] [] (fun u =>
      u.wax = { s.wax with staging := .frozen, frozen := some { f with imported := true }, importBytes := [], op := 4, code := 0 })) ∧
  (∀ (q : Option Frozen) (s : State), s.wax.staging = .freezing → Effect (.waxImportDone q) s [.wax] [] (fun u =>
      u.wax = { s.wax with op := 4, code := 1 })) ∧
  (∀ (q : Option Frozen) (s : State), s.wax.staging = .empty → Effect (.waxImportDone q) s [.wax] [] (fun u =>
      u.wax = { s.wax with op := 4, code := 5 })) ∧
  (∀ (q : Option Frozen) (s : State), s.wax.staging = .frozen → Effect (.waxImportDone q) s [.wax] [] (fun u =>
      u.wax = { s.wax with op := 4, code := 5 })) ∧
  (∀ (s : State),
    s.wax.export_ = none → s.wax.staging ≠ .freezing → s.rlt.st = .idle →
    Effect (.waxDiscard) s [.wax] [] (fun u =>
      u.wax = { s.wax with staging := .empty, frozen := none, importBytes := [], op := 5, code := 0 })) ∧
  (∀ (s : State),
    s.wax.export_.isSome = true ∨ s.wax.staging = .freezing ∨ s.rlt.st ≠ .idle →
    Effect (.waxDiscard) s [.wax] [] (fun u =>
      u.wax = { s.wax with op := 5, code := 1 }))

/-- Relighting (R453 to R456), each where the spec has it act: prepare checks the frozen image and enters or refuses, run, pause and
step move the frames, abort gives the unit its own stream back. Where the spec leaves a value or a way open it follows the model's
own choices of log entry 60. Commands that it says complete with their own effect: rltPrepare, rltRun, rltStep, rltPause,
relightFrame, rltAbort. -/
def Obligations.RelightCommandsComplete : Prop :=
  (∀ (f : Frozen) (s : State),
    s.wax.frozen = some f → rltAllowed s = true → s.pair.st ≠ .standby → (rltCheck s f).1 = 0 →
    exec (.rltPrepare) s = .next (rltEnter s f)) ∧
  (∀ (f : Frozen) (s : State),
    s.wax.frozen = some f → rltAllowed s = true → s.pair.st ≠ .standby → (rltCheck s f).1 ≠ 0 → (rltCheck s f).2 = none →
    exec (.rltPrepare) s = .next ({ s with rlt := { s.rlt with refusal := (rltCheck s f).1 } })) ∧
  (∀ (s : State), s.wax.frozen = none → Effect (.rltPrepare) s [.rlt] [] (fun u =>
      u.rlt = { s.rlt with refusal := 1 })) ∧
  (∀ (s : State), rltAllowed s = false → Effect (.rltPrepare) s [.rlt] [] (fun u =>
      u.rlt = { s.rlt with refusal := 1 })) ∧
  (∀ (s : State), s.rlt.st = .prepared → Effect (.rltRun) s [.rlt] [] (fun u =>
      u.rlt = { s.rlt with st := .running })) ∧
  (∀ (s : State), s.rlt.st = .prepared → exec (.rltStep) s = .next (rltFrame { s with rlt := { s.rlt with st := .paused } })) ∧
  (∀ (s : State), s.rlt.st = .paused → Effect (.rltRun) s [.rlt] [] (fun u =>
      u.rlt = { s.rlt with st := .running })) ∧
  (∀ (s : State), s.rlt.st = .paused → exec (.rltStep) s = .next (rltFrame { s with rlt := { s.rlt with st := .paused } })) ∧
  (∀ (s : State), s.rlt.st = .running → Effect (.rltPause) s [.rlt] [] (fun u =>
      u.rlt = { s.rlt with st := .paused })) ∧
  (∀ (t : Ns) (s : State), s.rlt.st = .running → exec (.relightFrame t) s = .next (rltFrame (setNow s t))) ∧
  (∀ (t : Ns) (s : State), s.rlt.st ≠ .running → Effect (.relightFrame t) s [.time] [] (fun u =>
      u.now = max s.now t)) ∧
  (∀ (s : State), s.rlt.st ≠ .idle → exec (.rltAbort) s = .next (regate (driving s) (logEv { s with rlt := { s.rlt with st := .idle, stop := 8, ctx := none, todo := [] } } (srcDev 6) .relightStopped 8))) ∧
  (∀ (s : State), s.rlt.st = .idle → Effect (.rltAbort) s [] [] (fun u =>
      u = s))

/-- The Dulo monitor's lines that need no service latch (R471 to R481), each where the monitor runs: help, id, status, rd, evr, snuff,
baud, latch, unlatch, a break, and the latch that ends after 15 minutes. Where the spec leaves a value or a way open it follows the
model's own choices of log entry 23. Commands that it says complete with their own effect: duloHelp, duloId, duloStatus, duloRd,
duloEvr, duloSnuff, duloBaud, duloLatch, duloUnlatch, duloBreak, duloLatchTimeout. -/
def Obligations.MonitorReadsComplete : Prop :=
  (∀ (t : Ns) (s : State), s.snf.vaux = true → s.mgt.halted = false → exec (.duloHelp t) s = .next (answer (monAt s t) [] .ok)) ∧
  (∀ (t : Ns) (s : State), s.snf.vaux = true → s.mgt.halted = false → exec (.duloId t) s = .next (answer (monAt s t) ([s.mgt.devId, 0xB1, (fwImage s).elim 0 (·.version), s.hld.str.version] ++ s.mgt.serial.map (·.toNat)) .ok)) ∧
  (∀ (t : Ns) (s : State), s.snf.vaux = true → s.mgt.halted = false → exec (.duloStatus t) s = .next (answer (monAt s t) ([RegName.snfStatus, .snfBoot, .pairStatus, .mktStatus, .hldStatus, .mgtStatus].map (fun r => (readWord (monAt s t) r 0).toNat)) .ok)) ∧
  (∀ (t : Ns) (a n : Nat) (s : State), s.snf.vaux = true → s.mgt.halted = false → n = 0 ∨ 64 < n → exec (.duloRd t a n) s = .next (answer (monAt s t) [] .argument)) ∧
  (∀ (t : Ns) (a n : Nat) (s : State), s.snf.vaux = true → s.mgt.halted = false → ¬(n = 0 ∨ 64 < n) → exec (.duloRd t a n) s = .next (answer (endRequest (readRun (monAt s t) .monitor (a % 2 ^ 32) n).1) ((readRun (monAt s t) .monitor (a % 2 ^ 32) n).2.1.map (·.toNat)) (if (readRun (monAt s t) .monitor (a % 2 ^ 32) n).2.2 = .ok then .ok else .access (readRun (monAt s t) .monitor (a % 2 ^ 32) n).2.2))) ∧
  (∀ (t : Ns) (n : Nat) (s : State), s.snf.vaux = true → s.mgt.halted = false → n = 0 ∨ 256 < n → exec (.duloEvr t n) s = .next (answer (monAt s t) [] .argument)) ∧
  (∀ (t : Ns) (n : Nat) (s : State), s.snf.vaux = true → s.mgt.halted = false → ¬(n = 0 ∨ 256 < n) → exec (.duloEvr t n) s = .next (answer (monAt s t) (((s.rec_.ring.filter (fun x => shown s.rec_ x.seq)).take n).flatMap (fun x => (upTo 8).map (fun k => (wordOf x.bytes k).toNat))) .ok)) ∧
  (∀ (t : Ns) (s : State), s.snf.vaux = true → s.mgt.halted = false → exec (.duloSnuff t) s = .next (answer (snfSnuff (monAt s t)) [] .ok)) ∧
  (∀ (t : Ns) (s : State), s.snf.vaux = true → s.mgt.halted = false → exec (.duloBaud t 921600) s = .next (modMon (answer (monAt s t) [] .ok) (fun m => { m with baud := 1 }))) ∧
  (∀ (t : Ns) (s : State), s.snf.vaux = true → s.mgt.halted = false → exec (.duloBaud t 3000000) s = .next (modMon (answer (monAt s t) [] .ok) (fun m => { m with baud := 2 }))) ∧
  (∀ (t : Ns) (n : Nat) (s : State),
    s.snf.vaux = true → s.mgt.halted = false → n ≠ 921600 → n ≠ 3000000 →
    exec (.duloBaud t n) s = .next (answer (monAt s t) [] .argument)) ∧
  (∀ (t : Ns) (l : List Byte) (s : State),
    s.snf.vaux = true → s.mgt.halted = false → s.snf.straps.testBit 4 = false →
    exec (.duloLatch t l) s = .next (monRefuse (monAt s t) .service)) ∧
  (∀ (t : Ns) (l : List Byte) (s : State),
    s.snf.vaux = true → s.mgt.halted = false → s.snf.straps.testBit 4 = true → l ≠ s.mgt.serial →
    exec (.duloLatch t l) s = .next (monRefuse (monAt s t) .serial)) ∧
  (∀ (t : Ns) (l : List Byte) (s : State),
    s.snf.vaux = true → s.mgt.halted = false → s.snf.straps.testBit 4 = true → l = s.mgt.serial →
    exec (.duloLatch t l) s = .next (answer (logEv (stick (modMon (monAt s t) (fun m => { m with latched := true })) .monStatus 0 4) (partyOf .monitor) .serviceLatch 1) [] .ok)) ∧
  (∀ (t : Ns) (s : State), s.snf.vaux = true → s.mgt.halted = false → exec (.duloUnlatch t) s = .next (answer (unlatch (monAt s t)) [] .ok)) ∧
  (∀ (t : Ns) (s : State), s.snf.vaux = true → s.mgt.halted = false → Effect (.duloBreak t) s [.time, .mon] [] (fun u =>
      u.now = max s.now t ∧ u.mon = { s.mon with baud := 0 })) ∧
  (∀ (t : Ns) (s : State), s.mon.lastChar + 900 * secNs ≤ t → s.mon.latched = true → exec (.duloLatchTimeout t) s = .next (logEv { setNow s t with mon := { s.mon with latched := false } } (partyOf .monitor) .serviceLatch 0))

/-- The Dulo monitor's lines that need the service latch (R471, R480 to R485): each refuses with service while the latch is open, and
acts and records a change while it is closed. Where the spec leaves a value or a way open it follows the model's own choices of log
entry 23. Commands that it says complete with their own effect: duloWr, duloRelease, duloReset, duloWake, duloValidate,
duloActivate, duloKey, duloLoad, duloBinaryBlock. -/
def Obligations.MonitorLatchedComplete : Prop :=
  (∀ (t : Ns) (a : Nat) (v : W32) (s : State), s.snf.vaux = true → s.mgt.halted = false → s.mon.latched = false → exec (.duloWr t a v) s = .next (monRefuse (monAt s t) .service)) ∧
  (∀ (t : Ns) (s : State), s.snf.vaux = true → s.mgt.halted = false → s.mon.latched = false → exec (.duloRelease t) s = .next (monRefuse (monAt s t) .service)) ∧
  (∀ (t : Ns) (s : State), s.snf.vaux = true → s.mgt.halted = false → s.mon.latched = false → exec (.duloReset t) s = .next (monRefuse (monAt s t) .service)) ∧
  (∀ (t : Ns) (s : State), s.snf.vaux = true → s.mgt.halted = false → s.mon.latched = false → exec (.duloWake t) s = .next (monRefuse (monAt s t) .service)) ∧
  (∀ (t : Ns) (s : State), s.snf.vaux = true → s.mgt.halted = false → s.mon.latched = false → exec (.duloValidate t) s = .next (monRefuse (monAt s t) .service)) ∧
  (∀ (t : Ns) (s : State), s.snf.vaux = true → s.mgt.halted = false → s.mon.latched = false → exec (.duloActivate t) s = .next (monRefuse (monAt s t) .service)) ∧
  (∀ (t : Ns) (i : Fin 4) (k : Fin 256) (l : Fin 4) (s : State), s.snf.vaux = true → s.mgt.halted = false → s.mon.latched = false → exec (.duloKey t i k l) s = .next (monRefuse (monAt s t) .service)) ∧
  (∀ (t : Ns) (k : LoadKind) (s : State), s.snf.vaux = true → s.mgt.halted = false → s.mon.latched = false → exec (.duloLoad t k) s = .next (monRefuse (monAt s t) .service)) ∧
  (∀ (t : Ns) (s : State), s.snf.vaux = true → s.mgt.halted = false → s.mon.latched = true → exec (.duloRelease t) s = .next (answer (logEv (snfRelease (monAt s t)) (partyOf .monitor) .latchedChange) [] .ok)) ∧
  (∀ (t : Ns) (s : State), s.snf.vaux = true → s.mgt.halted = false → s.mon.latched = true → exec (.duloWake t) s = .next (answer (logEv (wakeUp (monAt s t)) (partyOf .monitor) .latchedChange) [] .ok)) ∧
  (∀ (t : Ns) (s : State), s.snf.vaux = true → s.mgt.halted = false → s.mon.latched = true → exec (.duloReset t) s = .next (coreReset (answer (logEv (monAt s t) (partyOf .monitor) .latchedChange) [] .ok) 1)) ∧
  (∀ (t : Ns) (s : State),
    s.snf.vaux = true → s.mgt.halted = false → s.mon.latched = true → (imgValidate (monAt s t)).mgt.code = MgtCode.running.code →
    exec (.duloValidate t) s = .next (answer (logEv (imgValidate (monAt s t)) (partyOf .monitor) .latchedChange) [] .ok)) ∧
  (∀ (t : Ns) (s : State),
    s.snf.vaux = true → s.mgt.halted = false → s.mon.latched = true → s.mgt.recovery = false → lastValid (monAt s t) = true → s.pair.st ≠ .active → portsIdle (monAt s t) = true →
    exec (.duloActivate t) s = .next (answer (logEv (imgActivate (monAt s t)) (partyOf .monitor) .latchedChange) [] .ok)) ∧
  (∀ (t : Ns) (i : Fin 4) (k : Fin 256) (l : Fin 4) (x : List Byte) (s : State),
    s.snf.vaux = true → s.mgt.halted = false → s.mon.latched = true → s.mon.key = some x → l.val ≠ 0 →
    exec (.duloKey t i k l) s = .next (answer (logEv (putKey (monAt s t) i { key := natLE x, keyId := k, level := l }) (partyOf .monitor) .latchedChange) [] .ok)) ∧
  (∀ (t : Ns) (i : Fin 4) (k : Fin 256) (l : Fin 4) (s : State),
    s.snf.vaux = true → s.mgt.halted = false → s.mon.latched = true → s.mon.key = none →
    exec (.duloKey t i k l) s = .next (answer (monAt s t) [] (.result MgtCode.notStaged.code))) ∧
  (∀ (t : Ns) (s : State), s.snf.vaux = true → s.mgt.halted = false → s.mon.latched = true → exec (.duloLoad t .key) s = .next (answer (logEv (modMon (monAt s t) (fun m => { m with loading := some .key, bytes := [], key := none })) (partyOf .monitor) .latchedChange) [] .ready)) ∧
  (∀ (t : Ns) (a : Nat) (v : W32) (s : State),
    s.snf.vaux = true → s.mgt.halted = false → s.mon.latched = true → (writeAddr { monAt s t with glb := { (monAt s t).glb with wrLatch := s.mon.low } } .monitor (a % 2 ^ 32) v).2 = [] →
    exec (.duloWr t a v) s = .next (answer (logEv (endRequest (modMon (writeAddr { monAt s t with glb := { (monAt s t).glb with wrLatch := s.mon.low } } .monitor (a % 2 ^ 32) v).1 (fun m => if m.latched then { m with low := (writeAddr { monAt s t with glb := { (monAt s t).glb with wrLatch := s.mon.low } } .monitor (a % 2 ^ 32) v).1.glb.wrLatch } else m))) (partyOf .monitor) .latchedChange) [] .ok)) ∧
  (∀ (t : Ns) (a : Nat) (x : List Byte) (c : W32) (s : State), s.snf.vaux = true → s.mgt.halted = false → s.mon.loading = none → exec (.duloBinaryBlock t a x c) s = .next (monAt s t)) ∧
  (∀ (t : Ns) (a : Nat) (x : List Byte) (c : W32) (k : LoadKind) (s : State),
    s.snf.vaux = true → s.mgt.halted = false → s.mon.loading = some k → c ≠ blockCrc a x →
    exec (.duloBinaryBlock t a x c) s = .next (answer (monAt s t) [] .nak)) ∧
  (∀ (t : Ns) (a : Nat) (x : List Byte) (c : W32) (s : State),
    s.snf.vaux = true → s.mgt.halted = false → s.mon.loading = some .key → c = blockCrc a x → x.length ≤ 1024 → a + x.length ≤ 32 → x.length ≠ 0 →
    exec (.duloBinaryBlock t a x c) s = .next (answer (modMon (monAt s t) (fun m => { m with bytes := putBytes m.bytes a x })) [] .ack))

/-- A step keeps the recorder within its bounds (R331, R333, R335: 65,536 records, 1,024 queued entries, 4,096 records in the tail,
every number issued below the sequence reserve) and SAFE_OUT_N as R403 has it, from every state that has both. -/
def Obligations.EveryStepKeepsTheInvariant : Prop :=
  ∀ s t : State, s.Inv → step s = .next t → t.Inv

/-- No command lets a sequence number be issued again (R335): the next number never falls, and the reserve, at which a restart goes on
numbering, never falls and stays at or above it. -/
def Obligations.SequenceNumbersNeverRepeat : Prop :=
  ∀ (c : Instr) (s t : State), s.rec_.bounded → exec c s = .next t →
    s.rec_.nextSeq ≤ t.rec_.nextSeq ∧ s.rec_.reserve ≤ t.rec_.reserve ∧ t.rec_.nextSeq ≤ t.rec_.reserve

/-- Cleared-below never decreases, whatever the command, resets and power cycles among them (R337). -/
def Obligations.ClearedBelowNeverFalls : Prop :=
  ∀ (c : Instr) (s t : State), s.rec_.bounded → exec c s = .next t → s.rec_.cleared ≤ t.rec_.cleared

/-- Neither the firmware floor nor the stream floor ever decreases, whatever the command (R432). -/
def Obligations.FloorsNeverFall : Prop :=
  ∀ (c : Instr) (s t : State), exec c s = .next t → s.mgt.floorFw ≤ t.mgt.floorFw ∧ s.mgt.floorStr ≤ t.mgt.floorStr

/-- The pair epoch never decreases, whatever the command: it rises with each ACTIVE unit, and sets with a lower one are discarded
(R356). -/
def Obligations.PairEpochNeverFalls : Prop :=
  ∀ (c : Instr) (s t : State), exec c s = .next t → s.pair.epoch ≤ t.pair.epoch

/-- No command touches the commands that wait behind it: a step takes exactly one from the front. Where the spec leaves a value or a way
open it follows the model's own choices of log entry 1. -/
def Obligations.CommandsLeaveTheQueue : Prop :=
  (∀ (c : Instr) (s t : State), exec c s = .next t → t.pending = s.pending) ∧
  (∀ (c : Instr) (rest : List Instr) (s t : State), s.pending = c :: rest → step s = .next t → t.pending = rest)

/-- Every command of the table has an effect in every state, its refusals among them: none ends a run with a fault or a refusal of the
model. Where the spec leaves a value or a way open it follows the model's own choices of log entry 15. -/
def Obligations.NoCommandStops : Prop :=
  ∀ (c : Instr) (s : State), ∃ t, exec c s = .next t

/-- A transmitter port in basic face (R498): its clamps are 3.8 mA and 20.5 mA, in steps of 0.5 µA 7,600 and 41,000, whatever TX_CLAMP
holds; a write to TX_CLAMP is refused with ACCESS_FACE; no other register of the port has a face. -/
def Obligations.TransmitterFaces : Prop :=
  (∀ (n : Fin 16) (s : State), regB s .txCfg n 4 = false → txClampLo s n = 7600 ∧ txClampHi s n = 41000) ∧
  (∀ (n : Fin 16) (v : W32) (s : State),
    regB s .txCfg n 4 = false → s.rlt.ctx = none → removedWord s .txClamp n = false →
    exec (.registerWrite (regAddr .txClamp n) v) s = .next (report s hostReq (regAddr .txClamp n) .face)) ∧
  (∀ (n : Fin 16) (r : RegName) (v : W32) (s : State), r ∈ [RegName.txCfg, .txTrimZero, .txTrimSpan, .txCmd, .txStatus] →
    basicFace s r n = false ∧ faceHit s r n v = false)

/-- Generations of received frames (R320), for a frame that passes the checks before: one of the receiver's generation is accepted, one
of the previous generation until S + 20 ms, where the switch at S set both; any other is discarded and counted as gen_mismatch, and
a DATA or CREDIT frame discarded so has no other effect. -/
def Obligations.GenerationCheck : Prop :=
  (∀ (t : Nat) (h : FrameHdr) (group : Bool) (s : State), looped s h = false → hdrOk s h group = true → h.gen = s.mkt.gen →
    takeFrame s t h group true = (s, true)) ∧
  (∀ (t : Nat) (h : FrameHdr) (group : Bool) (s : State), looped s h = false → hdrOk s h group = true → h.gen = s.mkt.prevGen →
    t < s.mkt.prevUntil → takeFrame s t h group true = (s, true)) ∧
  (∀ (t : Nat) (h : FrameHdr) (group : Bool) (s : State), looped s h = false → hdrOk s h group = true → h.gen ≠ s.mkt.gen →
    (h.gen ≠ s.mkt.prevGen ∨ s.mkt.prevUntil ≤ t) →
    takeFrame s t h group true = ({ s with mkt := { s.mkt with genMismatch := satInc 16 s.mkt.genMismatch } }, false)) ∧
  (∀ (w : Switch) (s : State), (doSwitch s w).mkt.prevGen = s.mkt.gen ∧ (doSwitch s w).mkt.gen = w.gen ∧ (doSwitch s w).mkt.prevUntil = w.s + 20000000) ∧
  (∀ (t : Ns) (h : FrameHdr) (es : List Entry) (s : State),
    looped (setNow s t) h = false → hdrOk (setNow s t) h false = true → h.gen ≠ s.mkt.gen → (h.gen ≠ s.mkt.prevGen ∨ s.mkt.prevUntil ≤ t) →
    exec (.dataFrameReceive t h es) s = .next { setNow s t with mkt := { s.mkt with genMismatch := satInc 16 s.mkt.genMismatch } }) ∧
  (∀ (t : Ns) (h : FrameHdr) (cs : List (Nat × Nat)) (s : State),
    looped (setNow s t) h = false → hdrOk (setNow s t) h false = true → h.gen ≠ s.mkt.gen → (h.gen ≠ s.mkt.prevGen ∨ s.mkt.prevUntil ≤ t) →
    exec (.creditFrameReceive t h cs) s = .next { setNow s t with mkt := { s.mkt with genMismatch := satInc 16 s.mkt.genMismatch } })

/-- Two units meet in SPARE (WAIT) (R355): with equal hashes the unit with the higher epoch becomes ACTIVE, with equal epochs unit A,
and it sets its epoch one above the higher of its own and the peer's (R356); the other one, and both with differing hashes, stay as
they are. Where the spec leaves a value or a way open it follows the model's own choices of log entry 53. -/
def Obligations.MeetingOfSpares : Prop :=
  (∀ (c : Control) (s : State), s.pair.st = .spare → s.pair.phase = .wait → relit s = false → peerCtl s = some c → c.st = .spare → c.phase = .wait →
    s.pair.idConflict = false → collHeld s = false → compatible s c = true →
    (c.epoch < s.pair.epoch ∨ c.epoch = s.pair.epoch ∧ isB s = false) →
    (pairMeet s).pair.st = .active ∧ (pairMeet s).pair.epoch = max s.pair.epoch s.pair.peerEpoch + 1) ∧
  (∀ (c : Control) (s : State), s.pair.st = .spare → s.pair.phase = .wait → relit s = false → peerCtl s = some c → c.st = .spare → c.phase = .wait →
    s.pair.idConflict = false → collHeld s = false → 
    (compatible s c = false ∨ s.pair.epoch < c.epoch ∨ c.epoch = s.pair.epoch ∧ isB s = true) → pairMeet s = s)

/-- A unit's health at an evaluation with the findings f (R364): BAD while a severe finding holds, a self-test of R362 has failed or the
snuffer is active; else DEGRADED while a finding holds, a compare mismatch was declared in the last 10 s, wick alignment is
suspended or a difference of the last 10 s is not zero; else GOOD. -/
def Obligations.HealthOfAUnit : Prop :=
  (∀ (f : Nat) (s : State), healthNow s f = .bad ↔ severeOf s f = true ∨ selftestBad s = true ∨ s.snf.active = true) ∧
  (∀ (f : Nat) (s : State), healthNow s f = .degraded ↔ ¬ (severeOf s f = true ∨ selftestBad s = true ∨ s.snf.active = true) ∧ (f ≠ 0 ∨ (∃ m, s.pair.lastMis = some m ∧ s.now < m + 10000000000) ∨ s.pair.alignOff = true ∨ ∃ q ∈ s.pair.wickD, s.now < q.1 + 10000000000)) ∧
  (∀ (f : Nat) (s : State), healthNow s f = .good ↔ ¬ (severeOf s f = true ∨ selftestBad s = true ∨ s.snf.active = true) ∧ ¬ (f ≠ 0 ∨ (∃ m, s.pair.lastMis = some m ∧ s.now < m + 10000000000) ∨ s.pair.alignOff = true ∨ ∃ q ∈ s.pair.wickD, s.now < q.1 + 10000000000))

/-- The recorder writes a queued event (R334): where the event has one record with the source, code and data of the newest record, which
has and is no continuation, its time is at or after that record's t_first, repeat stands below 65,535 and the offset stays below
2^32 µs, the newest record takes one more repeat and the event's offset, keeps its number, and nothing else in the ring changes;
else new records go before the others, which stand as they are but for those that the ring of 65,536 no longer holds. -/
def Obligations.NewestRecordIsUpdated : Prop :=
  (∀ (now : Nat) (r : RecState) (q : EvReq) (x : EvRec) (l : List EvRec), r.ring = x :: l →
    x.src = q.src ∧ x.name = q.name ∧ x.data = q.data % 2 ^ 48 ∧ q.conts = 0 ∧ x.isCont = false ∧ x.conts = 0 ∧ x.tFirst ≤ q.t ∧ x.rep < 65535 ∧ (q.t - x.tFirst) / 1000 < 2 ^ 32 →
    (ringWrite r q now).ring = { x with rep := x.rep + 1, tLastUs := (q.t - x.tFirst) / 1000 } :: l ∧ (ringWrite r q now).nextSeq = r.nextSeq) ∧
  (∀ (now : Nat) (r : RecState) (q : EvReq) (x : EvRec) (l : List EvRec), r.ring = x :: l →
    ¬ (x.src = q.src ∧ x.name = q.name ∧ x.data = q.data % 2 ^ 48 ∧ q.conts = 0 ∧ x.isCont = false ∧ x.conts = 0 ∧ x.tFirst ≤ q.t ∧ x.rep < 65535 ∧ (q.t - x.tFirst) / 1000 < 2 ^ 32) →
    (ringWrite r q now).ring = ((recsOf q r.nextSeq).reverse ++ x :: l).take 65536 ∧ (ringWrite r q now).nextSeq = r.nextSeq + q.conts + 1) ∧
  (∀ (t : Ns) (q : EvReq) (rest : List EvReq) (s : State), s.snf.corePowered = true → 3 ≤ s.snf.stage → s.rec_.queue = q :: rest →
    Yields (.eventRecordCommit t) s (fun u => u.rec_.ring = (ringWrite { s.rec_ with queue := rest } q (max s.now t)).ring ∧ u.rec_.nextSeq = (ringWrite { s.rec_ with queue := rest } q (max s.now t)).nextSeq))

/-- The event window (R336): a position shows no record whose number lies above the head, 65,536 or more below it, or below
cleared-below; what it shows has the number of the position; after the read of word 0 of a position every word read of it in the
same request is that of the record as it stood then, 0 where none was shown. -/
def Obligations.WindowShowsLiveRecords : Prop :=
  (∀ (j : Nat) (s : State), (s.rec_.head < evWinBase s + j ∨ evWinBase s + j + 65536 ≤ s.rec_.head ∨ evWinBase s + j < s.rec_.cleared) →
    windowRec s j = none) ∧
  (∀ (j : Nat) (e : EvRec) (s : State), windowRec s j = some e → e.seq = evWinBase s + j ∧ e ∈ s.rec_.ring) ∧
  (∀ (j k : Nat) (s u : State), u.glb.evLatch = (latchWindow s j).glb.evLatch →
    eventWord u j k = match windowRec s j with | some e => wordOf e.bytes k | none => 0#32) ∧
  (∀ (j : Fin 256) (s : State), exec (.eventWindowRead j) s = .next { s with glb := { s.glb with evLatch := some (j.val, windowRec s j) } })

/-- No request ever sees another request's latch (R463): a READ or WRITE datagram that is handled has the same effect whatever latches
stood before it, and leaves none behind. -/
def Obligations.NoRequestSeesAnotherLatch : Prop :=
  (∀ (t : Ns) (d : Dgram) (addr n k l : Nat) (a b : List (Nat × W32)) (e : Option (Nat × Option EvRec)) (s : State),
    fwRuns (setNow s t) = true → (identNow (setNow s t)).isSome = true → authOf (setNow s t) d = some (k, l) → 1 ≤ l → 0 < n → n ≤ 100 →
    exec (.datagramRead t d addr n) { s with glb := { s.glb with rdLatch := a, wrLatch := b, evLatch := e } } = exec (.datagramRead t d addr n) s ∧
    Yields (.datagramRead t d addr n) s (fun u => u.glb.rdLatch = [] ∧ u.glb.wrLatch = [] ∧ u.glb.evLatch = none)) ∧
  (∀ (t : Ns) (d : Dgram) (addr k l : Nat) (ws : List W32) (a b : List (Nat × W32)) (e : Option (Nat × Option EvRec)) (s : State),
    fwRuns (setNow s t) = true → (identNow (setNow s t)).isSome = true → authOf (setNow s t) d = some (k, l) → 1 ≤ l → 0 < ws.length → ws.length ≤ 100 → deniedAt l (addr % 2 ^ 32) ws = none →
    exec (.datagramWrite t d addr ws) { s with glb := { s.glb with rdLatch := a, wrLatch := b, evLatch := e } } = exec (.datagramWrite t d addr ws) s ∧
    Yields (.datagramWrite t d addr ws) s (fun u => u.glb.rdLatch = [] ∧ u.glb.wrLatch = [] ∧ u.glb.evLatch = none))

/-- Outputs of an aisle that is not LINKED (R257, R258), where the switch's own protection does not hold it off: in SAFE each DO stall
takes its safe entry, HOLD_LAST the level at the entry into SAFE; an aisle whose table failed its CRC, one that entered SAFE
unowned, one that is UNCONFIGURED and one without power hold every DO off, the last four whatever the entries are; an aisle that
goes from LINKED to SAFE keeps the owned bit it saw last as that of its entry and discards its timed actions. Where the spec leaves
a value or a way open it follows the model's own choices of log entry 45. -/
def Obligations.SafeEntriesOfAnAisle : Prop :=
  (∀ (i : Nat) (s : State), isDo s i = true → (stlOf s i).aOver = false → (stlOf s i).aThermal = false → (aisOf s (aisleOf i)).fieldUv = false → (aisOf s (aisleOf i)).st = .safe →
    (aisOf s (aisleOf i)).tableBad = false → (aisOf s (aisleOf i)).ownedAtEntry = true →
    doLevel s i = match (aisOf s (aisleOf i)).safeTable.getD (i % 16) .off with | .off => false | .on => true | .holdLast => (stlOf s i).aHeld) ∧
  (∀ (i : Nat) (s : State), (aisOf s (aisleOf i)).st = .safe → ((aisOf s (aisleOf i)).tableBad = true ∨ (aisOf s (aisleOf i)).ownedAtEntry = false) → doLevel s i = false) ∧
  (∀ (i : Nat) (s : State), ((aisOf s (aisleOf i)).st = .unconfigured ∨ (aisOf s (aisleOf i)).st = .unpowered) → doLevel s i = false) ∧
  (∀ (n : Fin 8) (snuff : Bool) (s : State), (aisOf s n).st = .linked →
    (aisOf (aisEnterSafe s n snuff) n).st = .safe ∧ (aisOf (aisEnterSafe s n snuff) n).ownedAtEntry = (aisOf s n).ownedLast ∧ (aisOf (aisEnterSafe s n snuff) n).timed = [])

/-- The target current of a transmitter port (R273), in steps of 0.5 µA over 32,000: it never leaves 3.8 to 20.5 mA; a commanded 4 mA
gives 4 mA + z and a commanded 20 mA gives 20 mA + s, where these lie between the clamps; with both trims 0 it is the clamped
command. Where the spec leaves a value or a way open it follows the model's own choices of log entry 46. -/
def Obligations.TrimmedCurrent : Prop :=
  (∀ (n : Nat) (s : State), 7600 * tx16 ≤ txTarget s n ∧ txTarget s n ≤ 41000 * tx16) ∧
  (∀ (n : Nat) (s : State), txClamped s n = 8000 → 7600 ≤ 8000 + txTrim s false n → 8000 + txTrim s false n ≤ 41000 →
    (txTarget s n : Int) = (8000 + txTrim s false n) * 32000) ∧
  (∀ (n : Nat) (s : State), txClamped s n = 40000 → 7600 ≤ 40000 + txTrim s true n → 40000 + txTrim s true n ≤ 41000 →
    (txTarget s n : Int) = (40000 + txTrim s true n) * 32000) ∧
  (∀ (n : Nat) (s : State), 7600 ≤ txClamped s n → txClamped s n ≤ 41000 → txTrim s false n = 0 → txTrim s true n = 0 → txTarget s n = txClamped s n * 32000)

/-- A tick crosses an armed wick action that neither repeats nor bounds a window (R59, R61): the wick's count, the tick counted, equals
the key and the tick has the action's direction, 0 FWD, 1 REV, 2 either; it then fires once. Any other tick, and any tick of another
wick or for a time action, leaves it alone. Where the spec leaves a value or a way open it follows the model's own choices of log
entry 35. -/
def Obligations.WickActionCrossed : Prop :=
  (∀ (i w : Nat) (rev : Bool) (T : Nat) (s : State), (slotOf s i).rec_.keyTime = false → (slotOf s i).rec_.wick = w → (slotOf s i).st = .armed → (slotOf s i).inhibited = false →
    (slotOf s i).rec_.winEnd = false → (slotOf s i).rec_.winStart = false → (slotOf s i).rec_.rep = false → (wickOf s w).count = (slotOf s i).rec_.key →
    ((slotOf s i).rec_.dir = 2 ∨ rev = false ∧ (slotOf s i).rec_.dir = 0 ∨ rev = true ∧ (slotOf s i).rec_.dir = 1) → tickSlot s i w rev T = runActAt (setSt s i .fired) i T s.now) ∧
  (∀ (i w : Nat) (rev : Bool) (T : Nat) (s : State), (slotOf s i).rec_.keyTime = false → (slotOf s i).rec_.wick = w → (slotOf s i).st = .armed → (slotOf s i).inhibited = false →
    (slotOf s i).rec_.winEnd = false → (slotOf s i).rec_.winStart = false → (slotOf s i).rec_.rep = false → ¬ ((wickOf s w).count = (slotOf s i).rec_.key ∧ ((slotOf s i).rec_.dir = 2 ∨ rev = false ∧ (slotOf s i).rec_.dir = 0 ∨ rev = true ∧ (slotOf s i).rec_.dir = 1)) → tickSlot s i w rev T = s) ∧
  (∀ (i w : Nat) (rev : Bool) (T : Nat) (s : State), ((slotOf s i).rec_.keyTime = true ∨ (slotOf s i).rec_.wick ≠ w) → tickSlot s i w rev T = s)

/-- Frames and the blocks due in them (R22): frame F begins at market time F × 125,000 ns, a boundary falls at no other instant and
opens the frame of its number; an engine's blocks due in it are those of period 125 µs × 2^k with F mod 2^k equal to their phase. -/
def Obligations.FramesAndBlocks : Prop :=
  (∀ F d : Nat, d < 125000 → frameOf (F * 125000) = F ∧ frameOf (F * 125000 + d) = F) ∧
  (∀ (t : Ns) (s : State), t % 125000 ≠ 0 → exec (.frameBoundary t) s = .next (setNow s t)) ∧
  (∀ (t : Ns) (s : State), (openFrame s t).frame = t / 125000 ∧ (openFrame s t).framed = true) ∧
  (∀ (e : Nat) (p : Nat × Inst) (s : State), p ∈ dueOf s e ↔ p ∈ s.hld.str.insts ∧ p.2.engine = e ∧ s.frame % 2 ^ p.2.k = p.2.phase)
end

