-- ==== Sys2Proof/Laws/Bits.lean ====
section
/-!
SUPPORT. What bits and fields of a word read after words are joined.
-/
namespace Sys2Proof.Machine

open Sys2Proof

@[simp] theorem bit_or (a b : W32) (i : Nat) : bit (a ||| b) i = (bit a i || bit b i) := by simp [bit]

@[simp] theorem bit_zero (i : Nat) : bit 0#32 i = false := by simp [bit]

@[simp] theorem bit_putB_same {i : Nat} (h : i < 32) (b : Bool) : bit (putB i b) i = b := by
  cases b
  · simp [putB]
  · simp only [putB, if_true, bit, BitVec.toNat_ofNat, Nat.one_shiftLeft, Nat.testBit_mod_two_pow, Nat.testBit_two_pow_self, h, decide_true, Bool.and_self]

@[simp] theorem bit_putB_ne {i j : Nat} (h : i ≠ j) (b : Bool) : bit (putB i b) j = false := by
  cases b
  · simp [putB]
  · simp only [putB, if_true, bit, BitVec.toNat_ofNat, Nat.one_shiftLeft, Nat.testBit_mod_two_pow, Nat.testBit_two_pow_of_ne h, Bool.and_false]

end Sys2Proof.Machine
end

