-- ==== Sys2Proof/Laws/Sparse.lean ====
section
/-!
SUPPORT. What reading, writing and removing do in a sparse table, and that they keep its canonical form.
-/
namespace Sys2Proof.Machine

variable {α : Type}

@[simp] theorem spGet_nil (d : α) (k : Nat) : spGet d [] k = d := rfl

@[simp] theorem spGet_spDel_same (d : α) (l : List (Nat × α)) (k : Nat) : spGet d (spDel l k) k = d := by
  induction l with
  | nil => rfl
  | cons p t ih =>
    unfold spDel
    split
    · exact ih
    · simpa [spGet, *] using ih

@[simp] theorem spGet_spDel_ne (d : α) (l : List (Nat × α)) {k j : Nat} (h : j ≠ k) :
    spGet d (spDel l k) j = spGet d l j := by
  induction l with
  | nil => rfl
  | cons p t ih =>
    unfold spDel
    split
    · rw [ih, spGet, if_neg]; omega
    · simp only [spGet]; split <;> simp_all

@[simp] theorem spGet_spPut_same (d : α) (l : List (Nat × α)) (k : Nat) (x : α) : spGet d (spPut l k x) k = x := by
  induction l with
  | nil => simp [spPut, spGet]
  | cons p t ih =>
    unfold spPut
    split
    · simp [spGet]
    · split
      · simp [spGet]
      · simpa [spGet, *] using ih

@[simp] theorem spGet_spPut_ne (d : α) (l : List (Nat × α)) {k j : Nat} (x : α) (h : j ≠ k) :
    spGet d (spPut l k x) j = spGet d l j := by
  induction l with
  | nil => simp [spPut, spGet, Ne.symm h]
  | cons p t ih =>
    unfold spPut
    split
    · simp [spGet, Ne.symm h]
    · split
      · simp only [spGet, if_neg (Ne.symm h)]; rw [if_neg]; omega
      · simp only [spGet]; split <;> simp_all

variable [DecidableEq α]

/-- A read after a write of the same key gives the value written. -/
@[simp] theorem spGet_spSet_same (d : α) (l : List (Nat × α)) (k : Nat) (x : α) : spGet d (spSet d l k x) k = x := by
  unfold spSet; split <;> simp [*]

/-- A write leaves every other key alone. -/
@[simp] theorem spGet_spSet_ne (d d' : α) (l : List (Nat × α)) {k j : Nat} (x : α) (h : j ≠ k) :
    spGet d' (spSet d l k x) j = spGet d' l j := by
  unfold spSet; split <;> simp [h]

theorem spGet_spSet (d : α) (l : List (Nat × α)) (k j : Nat) (x : α) :
    spGet d (spSet d l k x) j = if j = k then x else spGet d l j := by
  split <;> simp [*]

omit [DecidableEq α] in
/-- Keys rise strictly and stay at k or above. -/
def spFrom (k : Nat) : List (Nat × α) → Prop
  | [] => True
  | (k', _) :: t => k ≤ k' ∧ spFrom (k' + 1) t

omit [DecidableEq α] in
theorem spFrom_mono {k j : Nat} {l : List (Nat × α)} (h : spFrom k l) (hj : j ≤ k) : spFrom j l := by
  cases l with
  | nil => trivial
  | cons p t => exact ⟨Nat.le_trans hj h.1, h.2⟩

omit [DecidableEq α] in
theorem spSorted_cons_iff (k : Nat) (v : α) (t : List (Nat × α)) :
    spSorted ((k, v) :: t) = true ↔ spFrom (k + 1) t := by
  induction t generalizing k v with
  | nil => simp [spSorted, spFrom]
  | cons p t ih => simp [spSorted, spFrom, ih, Nat.succ_le_iff]

omit [DecidableEq α] in
theorem spSorted_iff (l : List (Nat × α)) : spSorted l = true ↔ spFrom 0 l := by
  cases l with
  | nil => simp [spSorted, spFrom]
  | cons p t => simpa [spFrom] using spSorted_cons_iff p.1 p.2 t

omit [DecidableEq α] in
theorem spFrom_spPut {b k : Nat} {l : List (Nat × α)} (x : α) (h : spFrom b l) (hk : b ≤ k) : spFrom b (spPut l k x) := by
  induction l generalizing b with
  | nil => exact ⟨hk, trivial⟩
  | cons p t ih =>
    unfold spPut
    split
    · rename_i hlt; exact ⟨hk, hlt, h.2⟩
    · split
      · rename_i heq; subst heq; exact ⟨hk, h.2⟩
      · exact ⟨h.1, ih h.2 (by omega)⟩

omit [DecidableEq α] in
theorem spFrom_spDel {b k : Nat} {l : List (Nat × α)} (h : spFrom b l) : spFrom b (spDel l k) := by
  induction l generalizing b with
  | nil => trivial
  | cons p t ih =>
    unfold spDel
    split
    · exact spFrom_mono (ih h.2) (by have := h.1; omega)
    · exact ⟨h.1, ih h.2⟩

omit [DecidableEq α] in
theorem mem_spDel {l : List (Nat × α)} {k : Nat} {p : Nat × α} (h : p ∈ spDel l k) : p ∈ l := by
  induction l with
  | nil => exact h
  | cons q t ih =>
    unfold spDel at h
    split at h
    · exact List.mem_cons_of_mem _ (ih h)
    · rcases List.mem_cons.mp h with rfl | h
      · exact List.mem_cons_self
      · exact List.mem_cons_of_mem _ (ih h)

omit [DecidableEq α] in
theorem mem_spPut {l : List (Nat × α)} {k : Nat} {x : α} {p : Nat × α} (h : p ∈ spPut l k x) : p ∈ l ∨ p = (k, x) := by
  induction l with
  | nil => simpa [spPut] using h
  | cons q t ih =>
    unfold spPut at h
    split at h
    · rcases List.mem_cons.mp h with rfl | h
      · exact .inr rfl
      · exact .inl h
    · split at h
      · rcases List.mem_cons.mp h with rfl | h
        · exact .inr rfl
        · exact .inl (List.mem_cons_of_mem _ h)
      · rcases List.mem_cons.mp h with rfl | h
        · exact .inl List.mem_cons_self
        · rcases ih h with h | h
          · exact .inl (List.mem_cons_of_mem _ h)
          · exact .inr h

/-- A write keeps the canonical form. -/
theorem spWf_spSet {d : α} {l : List (Nat × α)} (k : Nat) (x : α) (h : spWf d l = true) : spWf d (spSet d l k x) = true := by
  simp only [spWf, Bool.and_eq_true, List.all_eq_true, decide_eq_true_eq, spSorted_iff] at h ⊢
  unfold spSet
  split
  · exact ⟨spFrom_spDel h.1, fun p hp => h.2 p (mem_spDel hp)⟩
  · refine ⟨spFrom_spPut x h.1 (Nat.zero_le _), fun p hp => ?_⟩
    rcases mem_spPut hp with hp | rfl
    · exact h.2 p hp
    · assumption

/-- An empty table has the canonical form. -/
@[simp] theorem spWf_nil (d : α) : spWf d ([] : List (Nat × α)) = true := rfl

end Sys2Proof.Machine
end

