-- ==== Sys2Proof/Laws/State.lean ====
section
/-!
SUPPORT. One lemma per field of the state per update: what each named update leaves as it was, and that a record reads back as written.
-/
namespace Sys2Proof.Machine

open Sys2Proof

@[simp] theorem setNow_pending (s : State) (t : Nat) : (setNow s t).pending = s.pending := rfl
@[simp] theorem setNow_frame (s : State) (t : Nat) : (setNow s t).frame = s.frame := rfl
@[simp] theorem setNow_framed (s : State) (t : Nat) : (setNow s t).framed = s.framed := rfl
@[simp] theorem setNow_free (s : State) (t : Nat) : (setNow s t).free = s.free := rfl
@[simp] theorem setNow_rf (s : State) (t : Nat) : (setNow s t).rf = s.rf := rfl
@[simp] theorem setNow_rfF (s : State) (t : Nat) : (setNow s t).rfF = s.rfF := rfl
@[simp] theorem setNow_wick (s : State) (t : Nat) : (setNow s t).wick = s.wick := rfl
@[simp] theorem setNow_llt (s : State) (t : Nat) : (setNow s t).llt = s.llt := rfl
@[simp] theorem setNow_moist (s : State) (t : Nat) : (setNow s t).moist = s.moist := rfl
@[simp] theorem setNow_col (s : State) (t : Nat) : (setNow s t).col = s.col := rfl
@[simp] theorem setNow_eng (s : State) (t : Nat) : (setNow s t).eng = s.eng := rfl
@[simp] theorem setNow_loop (s : State) (t : Nat) : (setNow s t).loop = s.loop := rfl
@[simp] theorem setNow_motor (s : State) (t : Nat) : (setNow s t).motor = s.motor := rfl
@[simp] theorem setNow_aisle (s : State) (t : Nat) : (setNow s t).aisle = s.aisle := rfl
@[simp] theorem setNow_tx (s : State) (t : Nat) : (setNow s t).tx = s.tx := rfl
@[simp] theorem setNow_sol (s : State) (t : Nat) : (setNow s t).sol = s.sol := rfl
@[simp] theorem setNow_mkt (s : State) (t : Nat) : (setNow s t).mkt = s.mkt := rfl
@[simp] theorem setNow_tal (s : State) (t : Nat) : (setNow s t).tal = s.tal := rfl
@[simp] theorem setNow_rec (s : State) (t : Nat) : (setNow s t).rec_ = s.rec_ := rfl
@[simp] theorem setNow_pair (s : State) (t : Nat) : (setNow s t).pair = s.pair := rfl
@[simp] theorem setNow_hld (s : State) (t : Nat) : (setNow s t).hld = s.hld := rfl
@[simp] theorem setNow_snf (s : State) (t : Nat) : (setNow s t).snf = s.snf := rfl
@[simp] theorem setNow_thr (s : State) (t : Nat) : (setNow s t).thr = s.thr := rfl
@[simp] theorem setNow_mgt (s : State) (t : Nat) : (setNow s t).mgt = s.mgt := rfl
@[simp] theorem setNow_wax (s : State) (t : Nat) : (setNow s t).wax = s.wax := rfl
@[simp] theorem setNow_rlt (s : State) (t : Nat) : (setNow s t).rlt = s.rlt := rfl
@[simp] theorem setNow_mon (s : State) (t : Nat) : (setNow s t).mon = s.mon := rfl
@[simp] theorem setNow_glb (s : State) (t : Nat) : (setNow s t).glb = s.glb := rfl
@[simp] theorem setNow_before (s : State) (t : Nat) : (setNow s t).before = s.before := rfl
@[simp] theorem setNow_marks (s : State) (t : Nat) : (setNow s t).marks = s.marks := rfl
@[simp] theorem setNow_now (s : State) (t : Nat) : (setNow s t).now = max s.now t := rfl
@[simp] theorem useFree_pending (s : State) : (useFree s).pending = s.pending := rfl
@[simp] theorem useFree_now (s : State) : (useFree s).now = s.now := rfl
@[simp] theorem useFree_frame (s : State) : (useFree s).frame = s.frame := rfl
@[simp] theorem useFree_framed (s : State) : (useFree s).framed = s.framed := rfl
@[simp] theorem useFree_rf (s : State) : (useFree s).rf = s.rf := rfl
@[simp] theorem useFree_rfF (s : State) : (useFree s).rfF = s.rfF := rfl
@[simp] theorem useFree_wick (s : State) : (useFree s).wick = s.wick := rfl
@[simp] theorem useFree_llt (s : State) : (useFree s).llt = s.llt := rfl
@[simp] theorem useFree_moist (s : State) : (useFree s).moist = s.moist := rfl
@[simp] theorem useFree_col (s : State) : (useFree s).col = s.col := rfl
@[simp] theorem useFree_eng (s : State) : (useFree s).eng = s.eng := rfl
@[simp] theorem useFree_loop (s : State) : (useFree s).loop = s.loop := rfl
@[simp] theorem useFree_motor (s : State) : (useFree s).motor = s.motor := rfl
@[simp] theorem useFree_aisle (s : State) : (useFree s).aisle = s.aisle := rfl
@[simp] theorem useFree_tx (s : State) : (useFree s).tx = s.tx := rfl
@[simp] theorem useFree_sol (s : State) : (useFree s).sol = s.sol := rfl
@[simp] theorem useFree_mkt (s : State) : (useFree s).mkt = s.mkt := rfl
@[simp] theorem useFree_tal (s : State) : (useFree s).tal = s.tal := rfl
@[simp] theorem useFree_rec (s : State) : (useFree s).rec_ = s.rec_ := rfl
@[simp] theorem useFree_pair (s : State) : (useFree s).pair = s.pair := rfl
@[simp] theorem useFree_hld (s : State) : (useFree s).hld = s.hld := rfl
@[simp] theorem useFree_snf (s : State) : (useFree s).snf = s.snf := rfl
@[simp] theorem useFree_thr (s : State) : (useFree s).thr = s.thr := rfl
@[simp] theorem useFree_mgt (s : State) : (useFree s).mgt = s.mgt := rfl
@[simp] theorem useFree_wax (s : State) : (useFree s).wax = s.wax := rfl
@[simp] theorem useFree_rlt (s : State) : (useFree s).rlt = s.rlt := rfl
@[simp] theorem useFree_mon (s : State) : (useFree s).mon = s.mon := rfl
@[simp] theorem useFree_glb (s : State) : (useFree s).glb = s.glb := rfl
@[simp] theorem useFree_before (s : State) : (useFree s).before = s.before := rfl
@[simp] theorem useFree_marks (s : State) : (useFree s).marks = s.marks := rfl
@[simp] theorem setRegW_pending (s : State) (r : RegName) (i : Nat) (v : W32) : (setRegW s r i v).pending = s.pending := rfl
@[simp] theorem setRegW_now (s : State) (r : RegName) (i : Nat) (v : W32) : (setRegW s r i v).now = s.now := rfl
@[simp] theorem setRegW_frame (s : State) (r : RegName) (i : Nat) (v : W32) : (setRegW s r i v).frame = s.frame := rfl
@[simp] theorem setRegW_framed (s : State) (r : RegName) (i : Nat) (v : W32) : (setRegW s r i v).framed = s.framed := rfl
@[simp] theorem setRegW_free (s : State) (r : RegName) (i : Nat) (v : W32) : (setRegW s r i v).free = s.free := rfl
@[simp] theorem setRegW_rfF (s : State) (r : RegName) (i : Nat) (v : W32) : (setRegW s r i v).rfF = s.rfF := rfl
@[simp] theorem setRegW_wick (s : State) (r : RegName) (i : Nat) (v : W32) : (setRegW s r i v).wick = s.wick := rfl
@[simp] theorem setRegW_llt (s : State) (r : RegName) (i : Nat) (v : W32) : (setRegW s r i v).llt = s.llt := rfl
@[simp] theorem setRegW_moist (s : State) (r : RegName) (i : Nat) (v : W32) : (setRegW s r i v).moist = s.moist := rfl
@[simp] theorem setRegW_col (s : State) (r : RegName) (i : Nat) (v : W32) : (setRegW s r i v).col = s.col := rfl
@[simp] theorem setRegW_eng (s : State) (r : RegName) (i : Nat) (v : W32) : (setRegW s r i v).eng = s.eng := rfl
@[simp] theorem setRegW_loop (s : State) (r : RegName) (i : Nat) (v : W32) : (setRegW s r i v).loop = s.loop := rfl
@[simp] theorem setRegW_motor (s : State) (r : RegName) (i : Nat) (v : W32) : (setRegW s r i v).motor = s.motor := rfl
@[simp] theorem setRegW_aisle (s : State) (r : RegName) (i : Nat) (v : W32) : (setRegW s r i v).aisle = s.aisle := rfl
@[simp] theorem setRegW_tx (s : State) (r : RegName) (i : Nat) (v : W32) : (setRegW s r i v).tx = s.tx := rfl
@[simp] theorem setRegW_sol (s : State) (r : RegName) (i : Nat) (v : W32) : (setRegW s r i v).sol = s.sol := rfl
@[simp] theorem setRegW_mkt (s : State) (r : RegName) (i : Nat) (v : W32) : (setRegW s r i v).mkt = s.mkt := rfl
@[simp] theorem setRegW_tal (s : State) (r : RegName) (i : Nat) (v : W32) : (setRegW s r i v).tal = s.tal := rfl
@[simp] theorem setRegW_rec (s : State) (r : RegName) (i : Nat) (v : W32) : (setRegW s r i v).rec_ = s.rec_ := rfl
@[simp] theorem setRegW_pair (s : State) (r : RegName) (i : Nat) (v : W32) : (setRegW s r i v).pair = s.pair := rfl
@[simp] theorem setRegW_hld (s : State) (r : RegName) (i : Nat) (v : W32) : (setRegW s r i v).hld = s.hld := rfl
@[simp] theorem setRegW_snf (s : State) (r : RegName) (i : Nat) (v : W32) : (setRegW s r i v).snf = s.snf := rfl
@[simp] theorem setRegW_thr (s : State) (r : RegName) (i : Nat) (v : W32) : (setRegW s r i v).thr = s.thr := rfl
@[simp] theorem setRegW_mgt (s : State) (r : RegName) (i : Nat) (v : W32) : (setRegW s r i v).mgt = s.mgt := rfl
@[simp] theorem setRegW_wax (s : State) (r : RegName) (i : Nat) (v : W32) : (setRegW s r i v).wax = s.wax := rfl
@[simp] theorem setRegW_rlt (s : State) (r : RegName) (i : Nat) (v : W32) : (setRegW s r i v).rlt = s.rlt := rfl
@[simp] theorem setRegW_mon (s : State) (r : RegName) (i : Nat) (v : W32) : (setRegW s r i v).mon = s.mon := rfl
@[simp] theorem setRegW_glb (s : State) (r : RegName) (i : Nat) (v : W32) : (setRegW s r i v).glb = s.glb := rfl
@[simp] theorem setRegW_before (s : State) (r : RegName) (i : Nat) (v : W32) : (setRegW s r i v).before = s.before := rfl
@[simp] theorem setRegW_marks (s : State) (r : RegName) (i : Nat) (v : W32) : (setRegW s r i v).marks = s.marks := rfl
@[simp] theorem putReg_pending (s : State) (r : RegName) (i : Nat) (v : W32) : (putReg s r i v).pending = s.pending := rfl
@[simp] theorem putReg_now (s : State) (r : RegName) (i : Nat) (v : W32) : (putReg s r i v).now = s.now := rfl
@[simp] theorem putReg_frame (s : State) (r : RegName) (i : Nat) (v : W32) : (putReg s r i v).frame = s.frame := rfl
@[simp] theorem putReg_framed (s : State) (r : RegName) (i : Nat) (v : W32) : (putReg s r i v).framed = s.framed := rfl
@[simp] theorem putReg_free (s : State) (r : RegName) (i : Nat) (v : W32) : (putReg s r i v).free = s.free := rfl
@[simp] theorem putReg_wick (s : State) (r : RegName) (i : Nat) (v : W32) : (putReg s r i v).wick = s.wick := rfl
@[simp] theorem putReg_llt (s : State) (r : RegName) (i : Nat) (v : W32) : (putReg s r i v).llt = s.llt := rfl
@[simp] theorem putReg_moist (s : State) (r : RegName) (i : Nat) (v : W32) : (putReg s r i v).moist = s.moist := rfl
@[simp] theorem putReg_col (s : State) (r : RegName) (i : Nat) (v : W32) : (putReg s r i v).col = s.col := rfl
@[simp] theorem putReg_eng (s : State) (r : RegName) (i : Nat) (v : W32) : (putReg s r i v).eng = s.eng := rfl
@[simp] theorem putReg_loop (s : State) (r : RegName) (i : Nat) (v : W32) : (putReg s r i v).loop = s.loop := rfl
@[simp] theorem putReg_motor (s : State) (r : RegName) (i : Nat) (v : W32) : (putReg s r i v).motor = s.motor := rfl
@[simp] theorem putReg_aisle (s : State) (r : RegName) (i : Nat) (v : W32) : (putReg s r i v).aisle = s.aisle := rfl
@[simp] theorem putReg_tx (s : State) (r : RegName) (i : Nat) (v : W32) : (putReg s r i v).tx = s.tx := rfl
@[simp] theorem putReg_sol (s : State) (r : RegName) (i : Nat) (v : W32) : (putReg s r i v).sol = s.sol := rfl
@[simp] theorem putReg_mkt (s : State) (r : RegName) (i : Nat) (v : W32) : (putReg s r i v).mkt = s.mkt := rfl
@[simp] theorem putReg_tal (s : State) (r : RegName) (i : Nat) (v : W32) : (putReg s r i v).tal = s.tal := rfl
@[simp] theorem putReg_rec (s : State) (r : RegName) (i : Nat) (v : W32) : (putReg s r i v).rec_ = s.rec_ := rfl
@[simp] theorem putReg_pair (s : State) (r : RegName) (i : Nat) (v : W32) : (putReg s r i v).pair = s.pair := rfl
@[simp] theorem putReg_hld (s : State) (r : RegName) (i : Nat) (v : W32) : (putReg s r i v).hld = s.hld := rfl
@[simp] theorem putReg_snf (s : State) (r : RegName) (i : Nat) (v : W32) : (putReg s r i v).snf = s.snf := rfl
@[simp] theorem putReg_thr (s : State) (r : RegName) (i : Nat) (v : W32) : (putReg s r i v).thr = s.thr := rfl
@[simp] theorem putReg_mgt (s : State) (r : RegName) (i : Nat) (v : W32) : (putReg s r i v).mgt = s.mgt := rfl
@[simp] theorem putReg_wax (s : State) (r : RegName) (i : Nat) (v : W32) : (putReg s r i v).wax = s.wax := rfl
@[simp] theorem putReg_rlt (s : State) (r : RegName) (i : Nat) (v : W32) : (putReg s r i v).rlt = s.rlt := rfl
@[simp] theorem putReg_mon (s : State) (r : RegName) (i : Nat) (v : W32) : (putReg s r i v).mon = s.mon := rfl
@[simp] theorem putReg_glb (s : State) (r : RegName) (i : Nat) (v : W32) : (putReg s r i v).glb = s.glb := rfl
@[simp] theorem putReg_before (s : State) (r : RegName) (i : Nat) (v : W32) : (putReg s r i v).before = s.before := rfl
@[simp] theorem putReg_marks (s : State) (r : RegName) (i : Nat) (v : W32) : (putReg s r i v).marks = s.marks := rfl
@[simp] theorem setWick_pending (s : State) (k : Nat) (x : Wick) : (setWick s k x).pending = s.pending := rfl
@[simp] theorem setWick_now (s : State) (k : Nat) (x : Wick) : (setWick s k x).now = s.now := rfl
@[simp] theorem setWick_frame (s : State) (k : Nat) (x : Wick) : (setWick s k x).frame = s.frame := rfl
@[simp] theorem setWick_framed (s : State) (k : Nat) (x : Wick) : (setWick s k x).framed = s.framed := rfl
@[simp] theorem setWick_free (s : State) (k : Nat) (x : Wick) : (setWick s k x).free = s.free := rfl
@[simp] theorem setWick_rf (s : State) (k : Nat) (x : Wick) : (setWick s k x).rf = s.rf := rfl
@[simp] theorem setWick_rfF (s : State) (k : Nat) (x : Wick) : (setWick s k x).rfF = s.rfF := rfl
@[simp] theorem setWick_llt (s : State) (k : Nat) (x : Wick) : (setWick s k x).llt = s.llt := rfl
@[simp] theorem setWick_moist (s : State) (k : Nat) (x : Wick) : (setWick s k x).moist = s.moist := rfl
@[simp] theorem setWick_col (s : State) (k : Nat) (x : Wick) : (setWick s k x).col = s.col := rfl
@[simp] theorem setWick_eng (s : State) (k : Nat) (x : Wick) : (setWick s k x).eng = s.eng := rfl
@[simp] theorem setWick_loop (s : State) (k : Nat) (x : Wick) : (setWick s k x).loop = s.loop := rfl
@[simp] theorem setWick_motor (s : State) (k : Nat) (x : Wick) : (setWick s k x).motor = s.motor := rfl
@[simp] theorem setWick_aisle (s : State) (k : Nat) (x : Wick) : (setWick s k x).aisle = s.aisle := rfl
@[simp] theorem setWick_tx (s : State) (k : Nat) (x : Wick) : (setWick s k x).tx = s.tx := rfl
@[simp] theorem setWick_sol (s : State) (k : Nat) (x : Wick) : (setWick s k x).sol = s.sol := rfl
@[simp] theorem setWick_mkt (s : State) (k : Nat) (x : Wick) : (setWick s k x).mkt = s.mkt := rfl
@[simp] theorem setWick_tal (s : State) (k : Nat) (x : Wick) : (setWick s k x).tal = s.tal := rfl
@[simp] theorem setWick_rec (s : State) (k : Nat) (x : Wick) : (setWick s k x).rec_ = s.rec_ := rfl
@[simp] theorem setWick_pair (s : State) (k : Nat) (x : Wick) : (setWick s k x).pair = s.pair := rfl
@[simp] theorem setWick_hld (s : State) (k : Nat) (x : Wick) : (setWick s k x).hld = s.hld := rfl
@[simp] theorem setWick_snf (s : State) (k : Nat) (x : Wick) : (setWick s k x).snf = s.snf := rfl
@[simp] theorem setWick_thr (s : State) (k : Nat) (x : Wick) : (setWick s k x).thr = s.thr := rfl
@[simp] theorem setWick_mgt (s : State) (k : Nat) (x : Wick) : (setWick s k x).mgt = s.mgt := rfl
@[simp] theorem setWick_wax (s : State) (k : Nat) (x : Wick) : (setWick s k x).wax = s.wax := rfl
@[simp] theorem setWick_rlt (s : State) (k : Nat) (x : Wick) : (setWick s k x).rlt = s.rlt := rfl
@[simp] theorem setWick_mon (s : State) (k : Nat) (x : Wick) : (setWick s k x).mon = s.mon := rfl
@[simp] theorem setWick_glb (s : State) (k : Nat) (x : Wick) : (setWick s k x).glb = s.glb := rfl
@[simp] theorem setWick_before (s : State) (k : Nat) (x : Wick) : (setWick s k x).before = s.before := rfl
@[simp] theorem setWick_marks (s : State) (k : Nat) (x : Wick) : (setWick s k x).marks = s.marks := rfl
@[simp] theorem setWick_same (s : State) (k : Nat) (x : Wick) : wickOf (setWick s k x) k = x := by simp [wickOf, setWick]
@[simp] theorem setWick_ne (s : State) {k j : Nat} (x : Wick) (h : j ≠ k) : wickOf (setWick s k x) j = wickOf s j := by simp [wickOf, setWick, h]
@[simp] theorem setSlot_pending (s : State) (k : Nat) (x : Slot) : (setSlot s k x).pending = s.pending := rfl
@[simp] theorem setSlot_now (s : State) (k : Nat) (x : Slot) : (setSlot s k x).now = s.now := rfl
@[simp] theorem setSlot_frame (s : State) (k : Nat) (x : Slot) : (setSlot s k x).frame = s.frame := rfl
@[simp] theorem setSlot_framed (s : State) (k : Nat) (x : Slot) : (setSlot s k x).framed = s.framed := rfl
@[simp] theorem setSlot_free (s : State) (k : Nat) (x : Slot) : (setSlot s k x).free = s.free := rfl
@[simp] theorem setSlot_rf (s : State) (k : Nat) (x : Slot) : (setSlot s k x).rf = s.rf := rfl
@[simp] theorem setSlot_rfF (s : State) (k : Nat) (x : Slot) : (setSlot s k x).rfF = s.rfF := rfl
@[simp] theorem setSlot_wick (s : State) (k : Nat) (x : Slot) : (setSlot s k x).wick = s.wick := rfl
@[simp] theorem setSlot_moist (s : State) (k : Nat) (x : Slot) : (setSlot s k x).moist = s.moist := rfl
@[simp] theorem setSlot_col (s : State) (k : Nat) (x : Slot) : (setSlot s k x).col = s.col := rfl
@[simp] theorem setSlot_eng (s : State) (k : Nat) (x : Slot) : (setSlot s k x).eng = s.eng := rfl
@[simp] theorem setSlot_loop (s : State) (k : Nat) (x : Slot) : (setSlot s k x).loop = s.loop := rfl
@[simp] theorem setSlot_motor (s : State) (k : Nat) (x : Slot) : (setSlot s k x).motor = s.motor := rfl
@[simp] theorem setSlot_aisle (s : State) (k : Nat) (x : Slot) : (setSlot s k x).aisle = s.aisle := rfl
@[simp] theorem setSlot_tx (s : State) (k : Nat) (x : Slot) : (setSlot s k x).tx = s.tx := rfl
@[simp] theorem setSlot_sol (s : State) (k : Nat) (x : Slot) : (setSlot s k x).sol = s.sol := rfl
@[simp] theorem setSlot_mkt (s : State) (k : Nat) (x : Slot) : (setSlot s k x).mkt = s.mkt := rfl
@[simp] theorem setSlot_tal (s : State) (k : Nat) (x : Slot) : (setSlot s k x).tal = s.tal := rfl
@[simp] theorem setSlot_rec (s : State) (k : Nat) (x : Slot) : (setSlot s k x).rec_ = s.rec_ := rfl
@[simp] theorem setSlot_pair (s : State) (k : Nat) (x : Slot) : (setSlot s k x).pair = s.pair := rfl
@[simp] theorem setSlot_hld (s : State) (k : Nat) (x : Slot) : (setSlot s k x).hld = s.hld := rfl
@[simp] theorem setSlot_snf (s : State) (k : Nat) (x : Slot) : (setSlot s k x).snf = s.snf := rfl
@[simp] theorem setSlot_thr (s : State) (k : Nat) (x : Slot) : (setSlot s k x).thr = s.thr := rfl
@[simp] theorem setSlot_mgt (s : State) (k : Nat) (x : Slot) : (setSlot s k x).mgt = s.mgt := rfl
@[simp] theorem setSlot_wax (s : State) (k : Nat) (x : Slot) : (setSlot s k x).wax = s.wax := rfl
@[simp] theorem setSlot_rlt (s : State) (k : Nat) (x : Slot) : (setSlot s k x).rlt = s.rlt := rfl
@[simp] theorem setSlot_mon (s : State) (k : Nat) (x : Slot) : (setSlot s k x).mon = s.mon := rfl
@[simp] theorem setSlot_glb (s : State) (k : Nat) (x : Slot) : (setSlot s k x).glb = s.glb := rfl
@[simp] theorem setSlot_before (s : State) (k : Nat) (x : Slot) : (setSlot s k x).before = s.before := rfl
@[simp] theorem setSlot_marks (s : State) (k : Nat) (x : Slot) : (setSlot s k x).marks = s.marks := rfl
@[simp] theorem setSlot_same (s : State) (k : Nat) (x : Slot) : slotOf (setSlot s k x) k = x := by simp [slotOf, setSlot]
@[simp] theorem setSlot_ne (s : State) {k j : Nat} (x : Slot) (h : j ≠ k) : slotOf (setSlot s k x) j = slotOf s j := by simp [slotOf, setSlot, h]
@[simp] theorem setChan_pending (s : State) (k : Nat) (x : MoistCh) : (setChan s k x).pending = s.pending := rfl
@[simp] theorem setChan_now (s : State) (k : Nat) (x : MoistCh) : (setChan s k x).now = s.now := rfl
@[simp] theorem setChan_frame (s : State) (k : Nat) (x : MoistCh) : (setChan s k x).frame = s.frame := rfl
@[simp] theorem setChan_framed (s : State) (k : Nat) (x : MoistCh) : (setChan s k x).framed = s.framed := rfl
@[simp] theorem setChan_free (s : State) (k : Nat) (x : MoistCh) : (setChan s k x).free = s.free := rfl
@[simp] theorem setChan_rf (s : State) (k : Nat) (x : MoistCh) : (setChan s k x).rf = s.rf := rfl
@[simp] theorem setChan_rfF (s : State) (k : Nat) (x : MoistCh) : (setChan s k x).rfF = s.rfF := rfl
@[simp] theorem setChan_wick (s : State) (k : Nat) (x : MoistCh) : (setChan s k x).wick = s.wick := rfl
@[simp] theorem setChan_llt (s : State) (k : Nat) (x : MoistCh) : (setChan s k x).llt = s.llt := rfl
@[simp] theorem setChan_col (s : State) (k : Nat) (x : MoistCh) : (setChan s k x).col = s.col := rfl
@[simp] theorem setChan_eng (s : State) (k : Nat) (x : MoistCh) : (setChan s k x).eng = s.eng := rfl
@[simp] theorem setChan_loop (s : State) (k : Nat) (x : MoistCh) : (setChan s k x).loop = s.loop := rfl
@[simp] theorem setChan_motor (s : State) (k : Nat) (x : MoistCh) : (setChan s k x).motor = s.motor := rfl
@[simp] theorem setChan_aisle (s : State) (k : Nat) (x : MoistCh) : (setChan s k x).aisle = s.aisle := rfl
@[simp] theorem setChan_tx (s : State) (k : Nat) (x : MoistCh) : (setChan s k x).tx = s.tx := rfl
@[simp] theorem setChan_sol (s : State) (k : Nat) (x : MoistCh) : (setChan s k x).sol = s.sol := rfl
@[simp] theorem setChan_mkt (s : State) (k : Nat) (x : MoistCh) : (setChan s k x).mkt = s.mkt := rfl
@[simp] theorem setChan_tal (s : State) (k : Nat) (x : MoistCh) : (setChan s k x).tal = s.tal := rfl
@[simp] theorem setChan_rec (s : State) (k : Nat) (x : MoistCh) : (setChan s k x).rec_ = s.rec_ := rfl
@[simp] theorem setChan_pair (s : State) (k : Nat) (x : MoistCh) : (setChan s k x).pair = s.pair := rfl
@[simp] theorem setChan_hld (s : State) (k : Nat) (x : MoistCh) : (setChan s k x).hld = s.hld := rfl
@[simp] theorem setChan_snf (s : State) (k : Nat) (x : MoistCh) : (setChan s k x).snf = s.snf := rfl
@[simp] theorem setChan_thr (s : State) (k : Nat) (x : MoistCh) : (setChan s k x).thr = s.thr := rfl
@[simp] theorem setChan_mgt (s : State) (k : Nat) (x : MoistCh) : (setChan s k x).mgt = s.mgt := rfl
@[simp] theorem setChan_wax (s : State) (k : Nat) (x : MoistCh) : (setChan s k x).wax = s.wax := rfl
@[simp] theorem setChan_rlt (s : State) (k : Nat) (x : MoistCh) : (setChan s k x).rlt = s.rlt := rfl
@[simp] theorem setChan_mon (s : State) (k : Nat) (x : MoistCh) : (setChan s k x).mon = s.mon := rfl
@[simp] theorem setChan_glb (s : State) (k : Nat) (x : MoistCh) : (setChan s k x).glb = s.glb := rfl
@[simp] theorem setChan_before (s : State) (k : Nat) (x : MoistCh) : (setChan s k x).before = s.before := rfl
@[simp] theorem setChan_marks (s : State) (k : Nat) (x : MoistCh) : (setChan s k x).marks = s.marks := rfl
@[simp] theorem setChan_same (s : State) (k : Nat) (x : MoistCh) : chanOf (setChan s k x) k = x := by simp [chanOf, setChan]
@[simp] theorem setChan_ne (s : State) {k j : Nat} (x : MoistCh) (h : j ≠ k) : chanOf (setChan s k x) j = chanOf s j := by simp [chanOf, setChan, h]
@[simp] theorem setCol_pending (s : State) (k : Nat) (x : Column) : (setCol s k x).pending = s.pending := rfl
@[simp] theorem setCol_now (s : State) (k : Nat) (x : Column) : (setCol s k x).now = s.now := rfl
@[simp] theorem setCol_frame (s : State) (k : Nat) (x : Column) : (setCol s k x).frame = s.frame := rfl
@[simp] theorem setCol_framed (s : State) (k : Nat) (x : Column) : (setCol s k x).framed = s.framed := rfl
@[simp] theorem setCol_free (s : State) (k : Nat) (x : Column) : (setCol s k x).free = s.free := rfl
@[simp] theorem setCol_rf (s : State) (k : Nat) (x : Column) : (setCol s k x).rf = s.rf := rfl
@[simp] theorem setCol_rfF (s : State) (k : Nat) (x : Column) : (setCol s k x).rfF = s.rfF := rfl
@[simp] theorem setCol_wick (s : State) (k : Nat) (x : Column) : (setCol s k x).wick = s.wick := rfl
@[simp] theorem setCol_llt (s : State) (k : Nat) (x : Column) : (setCol s k x).llt = s.llt := rfl
@[simp] theorem setCol_moist (s : State) (k : Nat) (x : Column) : (setCol s k x).moist = s.moist := rfl
@[simp] theorem setCol_eng (s : State) (k : Nat) (x : Column) : (setCol s k x).eng = s.eng := rfl
@[simp] theorem setCol_loop (s : State) (k : Nat) (x : Column) : (setCol s k x).loop = s.loop := rfl
@[simp] theorem setCol_motor (s : State) (k : Nat) (x : Column) : (setCol s k x).motor = s.motor := rfl
@[simp] theorem setCol_aisle (s : State) (k : Nat) (x : Column) : (setCol s k x).aisle = s.aisle := rfl
@[simp] theorem setCol_tx (s : State) (k : Nat) (x : Column) : (setCol s k x).tx = s.tx := rfl
@[simp] theorem setCol_sol (s : State) (k : Nat) (x : Column) : (setCol s k x).sol = s.sol := rfl
@[simp] theorem setCol_mkt (s : State) (k : Nat) (x : Column) : (setCol s k x).mkt = s.mkt := rfl
@[simp] theorem setCol_tal (s : State) (k : Nat) (x : Column) : (setCol s k x).tal = s.tal := rfl
@[simp] theorem setCol_rec (s : State) (k : Nat) (x : Column) : (setCol s k x).rec_ = s.rec_ := rfl
@[simp] theorem setCol_pair (s : State) (k : Nat) (x : Column) : (setCol s k x).pair = s.pair := rfl
@[simp] theorem setCol_hld (s : State) (k : Nat) (x : Column) : (setCol s k x).hld = s.hld := rfl
@[simp] theorem setCol_snf (s : State) (k : Nat) (x : Column) : (setCol s k x).snf = s.snf := rfl
@[simp] theorem setCol_thr (s : State) (k : Nat) (x : Column) : (setCol s k x).thr = s.thr := rfl
@[simp] theorem setCol_mgt (s : State) (k : Nat) (x : Column) : (setCol s k x).mgt = s.mgt := rfl
@[simp] theorem setCol_wax (s : State) (k : Nat) (x : Column) : (setCol s k x).wax = s.wax := rfl
@[simp] theorem setCol_rlt (s : State) (k : Nat) (x : Column) : (setCol s k x).rlt = s.rlt := rfl
@[simp] theorem setCol_mon (s : State) (k : Nat) (x : Column) : (setCol s k x).mon = s.mon := rfl
@[simp] theorem setCol_glb (s : State) (k : Nat) (x : Column) : (setCol s k x).glb = s.glb := rfl
@[simp] theorem setCol_before (s : State) (k : Nat) (x : Column) : (setCol s k x).before = s.before := rfl
@[simp] theorem setCol_marks (s : State) (k : Nat) (x : Column) : (setCol s k x).marks = s.marks := rfl
@[simp] theorem setCol_same (s : State) (k : Nat) (x : Column) : colOf (setCol s k x) k = x := by simp [colOf, setCol]
@[simp] theorem setCol_ne (s : State) {k j : Nat} (x : Column) (h : j ≠ k) : colOf (setCol s k x) j = colOf s j := by simp [colOf, setCol, h]
@[simp] theorem setDry_pending (s : State) (k : Nat) (x : Dry) : (setDry s k x).pending = s.pending := rfl
@[simp] theorem setDry_now (s : State) (k : Nat) (x : Dry) : (setDry s k x).now = s.now := rfl
@[simp] theorem setDry_frame (s : State) (k : Nat) (x : Dry) : (setDry s k x).frame = s.frame := rfl
@[simp] theorem setDry_framed (s : State) (k : Nat) (x : Dry) : (setDry s k x).framed = s.framed := rfl
@[simp] theorem setDry_free (s : State) (k : Nat) (x : Dry) : (setDry s k x).free = s.free := rfl
@[simp] theorem setDry_rf (s : State) (k : Nat) (x : Dry) : (setDry s k x).rf = s.rf := rfl
@[simp] theorem setDry_rfF (s : State) (k : Nat) (x : Dry) : (setDry s k x).rfF = s.rfF := rfl
@[simp] theorem setDry_wick (s : State) (k : Nat) (x : Dry) : (setDry s k x).wick = s.wick := rfl
@[simp] theorem setDry_llt (s : State) (k : Nat) (x : Dry) : (setDry s k x).llt = s.llt := rfl
@[simp] theorem setDry_moist (s : State) (k : Nat) (x : Dry) : (setDry s k x).moist = s.moist := rfl
@[simp] theorem setDry_eng (s : State) (k : Nat) (x : Dry) : (setDry s k x).eng = s.eng := rfl
@[simp] theorem setDry_loop (s : State) (k : Nat) (x : Dry) : (setDry s k x).loop = s.loop := rfl
@[simp] theorem setDry_motor (s : State) (k : Nat) (x : Dry) : (setDry s k x).motor = s.motor := rfl
@[simp] theorem setDry_aisle (s : State) (k : Nat) (x : Dry) : (setDry s k x).aisle = s.aisle := rfl
@[simp] theorem setDry_tx (s : State) (k : Nat) (x : Dry) : (setDry s k x).tx = s.tx := rfl
@[simp] theorem setDry_sol (s : State) (k : Nat) (x : Dry) : (setDry s k x).sol = s.sol := rfl
@[simp] theorem setDry_mkt (s : State) (k : Nat) (x : Dry) : (setDry s k x).mkt = s.mkt := rfl
@[simp] theorem setDry_tal (s : State) (k : Nat) (x : Dry) : (setDry s k x).tal = s.tal := rfl
@[simp] theorem setDry_rec (s : State) (k : Nat) (x : Dry) : (setDry s k x).rec_ = s.rec_ := rfl
@[simp] theorem setDry_pair (s : State) (k : Nat) (x : Dry) : (setDry s k x).pair = s.pair := rfl
@[simp] theorem setDry_hld (s : State) (k : Nat) (x : Dry) : (setDry s k x).hld = s.hld := rfl
@[simp] theorem setDry_snf (s : State) (k : Nat) (x : Dry) : (setDry s k x).snf = s.snf := rfl
@[simp] theorem setDry_thr (s : State) (k : Nat) (x : Dry) : (setDry s k x).thr = s.thr := rfl
@[simp] theorem setDry_mgt (s : State) (k : Nat) (x : Dry) : (setDry s k x).mgt = s.mgt := rfl
@[simp] theorem setDry_wax (s : State) (k : Nat) (x : Dry) : (setDry s k x).wax = s.wax := rfl
@[simp] theorem setDry_rlt (s : State) (k : Nat) (x : Dry) : (setDry s k x).rlt = s.rlt := rfl
@[simp] theorem setDry_mon (s : State) (k : Nat) (x : Dry) : (setDry s k x).mon = s.mon := rfl
@[simp] theorem setDry_glb (s : State) (k : Nat) (x : Dry) : (setDry s k x).glb = s.glb := rfl
@[simp] theorem setDry_before (s : State) (k : Nat) (x : Dry) : (setDry s k x).before = s.before := rfl
@[simp] theorem setDry_marks (s : State) (k : Nat) (x : Dry) : (setDry s k x).marks = s.marks := rfl
@[simp] theorem setDry_same (s : State) (k : Nat) (x : Dry) : dryOf (setDry s k x) k = x := by simp [dryOf, setDry]
@[simp] theorem setDry_ne (s : State) {k j : Nat} (x : Dry) (h : j ≠ k) : dryOf (setDry s k x) j = dryOf s j := by simp [dryOf, setDry, h]
@[simp] theorem setHeat_pending (s : State) (k : Nat) (x : Heat) : (setHeat s k x).pending = s.pending := rfl
@[simp] theorem setHeat_now (s : State) (k : Nat) (x : Heat) : (setHeat s k x).now = s.now := rfl
@[simp] theorem setHeat_frame (s : State) (k : Nat) (x : Heat) : (setHeat s k x).frame = s.frame := rfl
@[simp] theorem setHeat_framed (s : State) (k : Nat) (x : Heat) : (setHeat s k x).framed = s.framed := rfl
@[simp] theorem setHeat_free (s : State) (k : Nat) (x : Heat) : (setHeat s k x).free = s.free := rfl
@[simp] theorem setHeat_rf (s : State) (k : Nat) (x : Heat) : (setHeat s k x).rf = s.rf := rfl
@[simp] theorem setHeat_rfF (s : State) (k : Nat) (x : Heat) : (setHeat s k x).rfF = s.rfF := rfl
@[simp] theorem setHeat_wick (s : State) (k : Nat) (x : Heat) : (setHeat s k x).wick = s.wick := rfl
@[simp] theorem setHeat_llt (s : State) (k : Nat) (x : Heat) : (setHeat s k x).llt = s.llt := rfl
@[simp] theorem setHeat_moist (s : State) (k : Nat) (x : Heat) : (setHeat s k x).moist = s.moist := rfl
@[simp] theorem setHeat_eng (s : State) (k : Nat) (x : Heat) : (setHeat s k x).eng = s.eng := rfl
@[simp] theorem setHeat_loop (s : State) (k : Nat) (x : Heat) : (setHeat s k x).loop = s.loop := rfl
@[simp] theorem setHeat_motor (s : State) (k : Nat) (x : Heat) : (setHeat s k x).motor = s.motor := rfl
@[simp] theorem setHeat_aisle (s : State) (k : Nat) (x : Heat) : (setHeat s k x).aisle = s.aisle := rfl
@[simp] theorem setHeat_tx (s : State) (k : Nat) (x : Heat) : (setHeat s k x).tx = s.tx := rfl
@[simp] theorem setHeat_sol (s : State) (k : Nat) (x : Heat) : (setHeat s k x).sol = s.sol := rfl
@[simp] theorem setHeat_mkt (s : State) (k : Nat) (x : Heat) : (setHeat s k x).mkt = s.mkt := rfl
@[simp] theorem setHeat_tal (s : State) (k : Nat) (x : Heat) : (setHeat s k x).tal = s.tal := rfl
@[simp] theorem setHeat_rec (s : State) (k : Nat) (x : Heat) : (setHeat s k x).rec_ = s.rec_ := rfl
@[simp] theorem setHeat_pair (s : State) (k : Nat) (x : Heat) : (setHeat s k x).pair = s.pair := rfl
@[simp] theorem setHeat_hld (s : State) (k : Nat) (x : Heat) : (setHeat s k x).hld = s.hld := rfl
@[simp] theorem setHeat_snf (s : State) (k : Nat) (x : Heat) : (setHeat s k x).snf = s.snf := rfl
@[simp] theorem setHeat_thr (s : State) (k : Nat) (x : Heat) : (setHeat s k x).thr = s.thr := rfl
@[simp] theorem setHeat_mgt (s : State) (k : Nat) (x : Heat) : (setHeat s k x).mgt = s.mgt := rfl
@[simp] theorem setHeat_wax (s : State) (k : Nat) (x : Heat) : (setHeat s k x).wax = s.wax := rfl
@[simp] theorem setHeat_rlt (s : State) (k : Nat) (x : Heat) : (setHeat s k x).rlt = s.rlt := rfl
@[simp] theorem setHeat_mon (s : State) (k : Nat) (x : Heat) : (setHeat s k x).mon = s.mon := rfl
@[simp] theorem setHeat_glb (s : State) (k : Nat) (x : Heat) : (setHeat s k x).glb = s.glb := rfl
@[simp] theorem setHeat_before (s : State) (k : Nat) (x : Heat) : (setHeat s k x).before = s.before := rfl
@[simp] theorem setHeat_marks (s : State) (k : Nat) (x : Heat) : (setHeat s k x).marks = s.marks := rfl
@[simp] theorem setHeat_same (s : State) (k : Nat) (x : Heat) : heatOf (setHeat s k x) k = x := by simp [heatOf, setHeat]
@[simp] theorem setHeat_ne (s : State) {k j : Nat} (x : Heat) (h : j ≠ k) : heatOf (setHeat s k x) j = heatOf s j := by simp [heatOf, setHeat, h]
@[simp] theorem setAer_pending (s : State) (k : Nat) (x : Aer) : (setAer s k x).pending = s.pending := rfl
@[simp] theorem setAer_now (s : State) (k : Nat) (x : Aer) : (setAer s k x).now = s.now := rfl
@[simp] theorem setAer_frame (s : State) (k : Nat) (x : Aer) : (setAer s k x).frame = s.frame := rfl
@[simp] theorem setAer_framed (s : State) (k : Nat) (x : Aer) : (setAer s k x).framed = s.framed := rfl
@[simp] theorem setAer_free (s : State) (k : Nat) (x : Aer) : (setAer s k x).free = s.free := rfl
@[simp] theorem setAer_rf (s : State) (k : Nat) (x : Aer) : (setAer s k x).rf = s.rf := rfl
@[simp] theorem setAer_rfF (s : State) (k : Nat) (x : Aer) : (setAer s k x).rfF = s.rfF := rfl
@[simp] theorem setAer_wick (s : State) (k : Nat) (x : Aer) : (setAer s k x).wick = s.wick := rfl
@[simp] theorem setAer_llt (s : State) (k : Nat) (x : Aer) : (setAer s k x).llt = s.llt := rfl
@[simp] theorem setAer_moist (s : State) (k : Nat) (x : Aer) : (setAer s k x).moist = s.moist := rfl
@[simp] theorem setAer_eng (s : State) (k : Nat) (x : Aer) : (setAer s k x).eng = s.eng := rfl
@[simp] theorem setAer_loop (s : State) (k : Nat) (x : Aer) : (setAer s k x).loop = s.loop := rfl
@[simp] theorem setAer_motor (s : State) (k : Nat) (x : Aer) : (setAer s k x).motor = s.motor := rfl
@[simp] theorem setAer_aisle (s : State) (k : Nat) (x : Aer) : (setAer s k x).aisle = s.aisle := rfl
@[simp] theorem setAer_tx (s : State) (k : Nat) (x : Aer) : (setAer s k x).tx = s.tx := rfl
@[simp] theorem setAer_sol (s : State) (k : Nat) (x : Aer) : (setAer s k x).sol = s.sol := rfl
@[simp] theorem setAer_mkt (s : State) (k : Nat) (x : Aer) : (setAer s k x).mkt = s.mkt := rfl
@[simp] theorem setAer_tal (s : State) (k : Nat) (x : Aer) : (setAer s k x).tal = s.tal := rfl
@[simp] theorem setAer_rec (s : State) (k : Nat) (x : Aer) : (setAer s k x).rec_ = s.rec_ := rfl
@[simp] theorem setAer_pair (s : State) (k : Nat) (x : Aer) : (setAer s k x).pair = s.pair := rfl
@[simp] theorem setAer_hld (s : State) (k : Nat) (x : Aer) : (setAer s k x).hld = s.hld := rfl
@[simp] theorem setAer_snf (s : State) (k : Nat) (x : Aer) : (setAer s k x).snf = s.snf := rfl
@[simp] theorem setAer_thr (s : State) (k : Nat) (x : Aer) : (setAer s k x).thr = s.thr := rfl
@[simp] theorem setAer_mgt (s : State) (k : Nat) (x : Aer) : (setAer s k x).mgt = s.mgt := rfl
@[simp] theorem setAer_wax (s : State) (k : Nat) (x : Aer) : (setAer s k x).wax = s.wax := rfl
@[simp] theorem setAer_rlt (s : State) (k : Nat) (x : Aer) : (setAer s k x).rlt = s.rlt := rfl
@[simp] theorem setAer_mon (s : State) (k : Nat) (x : Aer) : (setAer s k x).mon = s.mon := rfl
@[simp] theorem setAer_glb (s : State) (k : Nat) (x : Aer) : (setAer s k x).glb = s.glb := rfl
@[simp] theorem setAer_before (s : State) (k : Nat) (x : Aer) : (setAer s k x).before = s.before := rfl
@[simp] theorem setAer_marks (s : State) (k : Nat) (x : Aer) : (setAer s k x).marks = s.marks := rfl
@[simp] theorem setAer_same (s : State) (k : Nat) (x : Aer) : aerOf (setAer s k x) k = x := by simp [aerOf, setAer]
@[simp] theorem setAer_ne (s : State) {k j : Nat} (x : Aer) (h : j ≠ k) : aerOf (setAer s k x) j = aerOf s j := by simp [aerOf, setAer, h]
@[simp] theorem setEng_pending (s : State) (k : Nat) (x : Engine) : (setEng s k x).pending = s.pending := rfl
@[simp] theorem setEng_now (s : State) (k : Nat) (x : Engine) : (setEng s k x).now = s.now := rfl
@[simp] theorem setEng_frame (s : State) (k : Nat) (x : Engine) : (setEng s k x).frame = s.frame := rfl
@[simp] theorem setEng_framed (s : State) (k : Nat) (x : Engine) : (setEng s k x).framed = s.framed := rfl
@[simp] theorem setEng_free (s : State) (k : Nat) (x : Engine) : (setEng s k x).free = s.free := rfl
@[simp] theorem setEng_rf (s : State) (k : Nat) (x : Engine) : (setEng s k x).rf = s.rf := rfl
@[simp] theorem setEng_rfF (s : State) (k : Nat) (x : Engine) : (setEng s k x).rfF = s.rfF := rfl
@[simp] theorem setEng_wick (s : State) (k : Nat) (x : Engine) : (setEng s k x).wick = s.wick := rfl
@[simp] theorem setEng_llt (s : State) (k : Nat) (x : Engine) : (setEng s k x).llt = s.llt := rfl
@[simp] theorem setEng_moist (s : State) (k : Nat) (x : Engine) : (setEng s k x).moist = s.moist := rfl
@[simp] theorem setEng_col (s : State) (k : Nat) (x : Engine) : (setEng s k x).col = s.col := rfl
@[simp] theorem setEng_loop (s : State) (k : Nat) (x : Engine) : (setEng s k x).loop = s.loop := rfl
@[simp] theorem setEng_motor (s : State) (k : Nat) (x : Engine) : (setEng s k x).motor = s.motor := rfl
@[simp] theorem setEng_aisle (s : State) (k : Nat) (x : Engine) : (setEng s k x).aisle = s.aisle := rfl
@[simp] theorem setEng_tx (s : State) (k : Nat) (x : Engine) : (setEng s k x).tx = s.tx := rfl
@[simp] theorem setEng_sol (s : State) (k : Nat) (x : Engine) : (setEng s k x).sol = s.sol := rfl
@[simp] theorem setEng_mkt (s : State) (k : Nat) (x : Engine) : (setEng s k x).mkt = s.mkt := rfl
@[simp] theorem setEng_tal (s : State) (k : Nat) (x : Engine) : (setEng s k x).tal = s.tal := rfl
@[simp] theorem setEng_rec (s : State) (k : Nat) (x : Engine) : (setEng s k x).rec_ = s.rec_ := rfl
@[simp] theorem setEng_pair (s : State) (k : Nat) (x : Engine) : (setEng s k x).pair = s.pair := rfl
@[simp] theorem setEng_hld (s : State) (k : Nat) (x : Engine) : (setEng s k x).hld = s.hld := rfl
@[simp] theorem setEng_snf (s : State) (k : Nat) (x : Engine) : (setEng s k x).snf = s.snf := rfl
@[simp] theorem setEng_thr (s : State) (k : Nat) (x : Engine) : (setEng s k x).thr = s.thr := rfl
@[simp] theorem setEng_mgt (s : State) (k : Nat) (x : Engine) : (setEng s k x).mgt = s.mgt := rfl
@[simp] theorem setEng_wax (s : State) (k : Nat) (x : Engine) : (setEng s k x).wax = s.wax := rfl
@[simp] theorem setEng_rlt (s : State) (k : Nat) (x : Engine) : (setEng s k x).rlt = s.rlt := rfl
@[simp] theorem setEng_mon (s : State) (k : Nat) (x : Engine) : (setEng s k x).mon = s.mon := rfl
@[simp] theorem setEng_glb (s : State) (k : Nat) (x : Engine) : (setEng s k x).glb = s.glb := rfl
@[simp] theorem setEng_before (s : State) (k : Nat) (x : Engine) : (setEng s k x).before = s.before := rfl
@[simp] theorem setEng_marks (s : State) (k : Nat) (x : Engine) : (setEng s k x).marks = s.marks := rfl
@[simp] theorem setEng_same (s : State) (k : Nat) (x : Engine) : engOf (setEng s k x) k = x := by simp [engOf, setEng]
@[simp] theorem setEng_ne (s : State) {k j : Nat} (x : Engine) (h : j ≠ k) : engOf (setEng s k x) j = engOf s j := by simp [engOf, setEng, h]
@[simp] theorem setRow_pending (s : State) (k : Nat) (x : Row) : (setRow s k x).pending = s.pending := rfl
@[simp] theorem setRow_now (s : State) (k : Nat) (x : Row) : (setRow s k x).now = s.now := rfl
@[simp] theorem setRow_frame (s : State) (k : Nat) (x : Row) : (setRow s k x).frame = s.frame := rfl
@[simp] theorem setRow_framed (s : State) (k : Nat) (x : Row) : (setRow s k x).framed = s.framed := rfl
@[simp] theorem setRow_free (s : State) (k : Nat) (x : Row) : (setRow s k x).free = s.free := rfl
@[simp] theorem setRow_rf (s : State) (k : Nat) (x : Row) : (setRow s k x).rf = s.rf := rfl
@[simp] theorem setRow_rfF (s : State) (k : Nat) (x : Row) : (setRow s k x).rfF = s.rfF := rfl
@[simp] theorem setRow_wick (s : State) (k : Nat) (x : Row) : (setRow s k x).wick = s.wick := rfl
@[simp] theorem setRow_llt (s : State) (k : Nat) (x : Row) : (setRow s k x).llt = s.llt := rfl
@[simp] theorem setRow_moist (s : State) (k : Nat) (x : Row) : (setRow s k x).moist = s.moist := rfl
@[simp] theorem setRow_col (s : State) (k : Nat) (x : Row) : (setRow s k x).col = s.col := rfl
@[simp] theorem setRow_loop (s : State) (k : Nat) (x : Row) : (setRow s k x).loop = s.loop := rfl
@[simp] theorem setRow_motor (s : State) (k : Nat) (x : Row) : (setRow s k x).motor = s.motor := rfl
@[simp] theorem setRow_aisle (s : State) (k : Nat) (x : Row) : (setRow s k x).aisle = s.aisle := rfl
@[simp] theorem setRow_tx (s : State) (k : Nat) (x : Row) : (setRow s k x).tx = s.tx := rfl
@[simp] theorem setRow_sol (s : State) (k : Nat) (x : Row) : (setRow s k x).sol = s.sol := rfl
@[simp] theorem setRow_mkt (s : State) (k : Nat) (x : Row) : (setRow s k x).mkt = s.mkt := rfl
@[simp] theorem setRow_tal (s : State) (k : Nat) (x : Row) : (setRow s k x).tal = s.tal := rfl
@[simp] theorem setRow_rec (s : State) (k : Nat) (x : Row) : (setRow s k x).rec_ = s.rec_ := rfl
@[simp] theorem setRow_pair (s : State) (k : Nat) (x : Row) : (setRow s k x).pair = s.pair := rfl
@[simp] theorem setRow_hld (s : State) (k : Nat) (x : Row) : (setRow s k x).hld = s.hld := rfl
@[simp] theorem setRow_snf (s : State) (k : Nat) (x : Row) : (setRow s k x).snf = s.snf := rfl
@[simp] theorem setRow_thr (s : State) (k : Nat) (x : Row) : (setRow s k x).thr = s.thr := rfl
@[simp] theorem setRow_mgt (s : State) (k : Nat) (x : Row) : (setRow s k x).mgt = s.mgt := rfl
@[simp] theorem setRow_wax (s : State) (k : Nat) (x : Row) : (setRow s k x).wax = s.wax := rfl
@[simp] theorem setRow_rlt (s : State) (k : Nat) (x : Row) : (setRow s k x).rlt = s.rlt := rfl
@[simp] theorem setRow_mon (s : State) (k : Nat) (x : Row) : (setRow s k x).mon = s.mon := rfl
@[simp] theorem setRow_glb (s : State) (k : Nat) (x : Row) : (setRow s k x).glb = s.glb := rfl
@[simp] theorem setRow_before (s : State) (k : Nat) (x : Row) : (setRow s k x).before = s.before := rfl
@[simp] theorem setRow_marks (s : State) (k : Nat) (x : Row) : (setRow s k x).marks = s.marks := rfl
@[simp] theorem setRow_same (s : State) (k : Nat) (x : Row) : rowOf (setRow s k x) k = x := by simp [rowOf, setRow]
@[simp] theorem setRow_ne (s : State) {k j : Nat} (x : Row) (h : j ≠ k) : rowOf (setRow s k x) j = rowOf s j := by simp [rowOf, setRow, h]
@[simp] theorem setBsk_pending (s : State) (k : Nat) (x : Basket) : (setBsk s k x).pending = s.pending := rfl
@[simp] theorem setBsk_now (s : State) (k : Nat) (x : Basket) : (setBsk s k x).now = s.now := rfl
@[simp] theorem setBsk_frame (s : State) (k : Nat) (x : Basket) : (setBsk s k x).frame = s.frame := rfl
@[simp] theorem setBsk_framed (s : State) (k : Nat) (x : Basket) : (setBsk s k x).framed = s.framed := rfl
@[simp] theorem setBsk_free (s : State) (k : Nat) (x : Basket) : (setBsk s k x).free = s.free := rfl
@[simp] theorem setBsk_rf (s : State) (k : Nat) (x : Basket) : (setBsk s k x).rf = s.rf := rfl
@[simp] theorem setBsk_rfF (s : State) (k : Nat) (x : Basket) : (setBsk s k x).rfF = s.rfF := rfl
@[simp] theorem setBsk_wick (s : State) (k : Nat) (x : Basket) : (setBsk s k x).wick = s.wick := rfl
@[simp] theorem setBsk_llt (s : State) (k : Nat) (x : Basket) : (setBsk s k x).llt = s.llt := rfl
@[simp] theorem setBsk_moist (s : State) (k : Nat) (x : Basket) : (setBsk s k x).moist = s.moist := rfl
@[simp] theorem setBsk_col (s : State) (k : Nat) (x : Basket) : (setBsk s k x).col = s.col := rfl
@[simp] theorem setBsk_loop (s : State) (k : Nat) (x : Basket) : (setBsk s k x).loop = s.loop := rfl
@[simp] theorem setBsk_motor (s : State) (k : Nat) (x : Basket) : (setBsk s k x).motor = s.motor := rfl
@[simp] theorem setBsk_aisle (s : State) (k : Nat) (x : Basket) : (setBsk s k x).aisle = s.aisle := rfl
@[simp] theorem setBsk_tx (s : State) (k : Nat) (x : Basket) : (setBsk s k x).tx = s.tx := rfl
@[simp] theorem setBsk_sol (s : State) (k : Nat) (x : Basket) : (setBsk s k x).sol = s.sol := rfl
@[simp] theorem setBsk_mkt (s : State) (k : Nat) (x : Basket) : (setBsk s k x).mkt = s.mkt := rfl
@[simp] theorem setBsk_tal (s : State) (k : Nat) (x : Basket) : (setBsk s k x).tal = s.tal := rfl
@[simp] theorem setBsk_rec (s : State) (k : Nat) (x : Basket) : (setBsk s k x).rec_ = s.rec_ := rfl
@[simp] theorem setBsk_pair (s : State) (k : Nat) (x : Basket) : (setBsk s k x).pair = s.pair := rfl
@[simp] theorem setBsk_hld (s : State) (k : Nat) (x : Basket) : (setBsk s k x).hld = s.hld := rfl
@[simp] theorem setBsk_snf (s : State) (k : Nat) (x : Basket) : (setBsk s k x).snf = s.snf := rfl
@[simp] theorem setBsk_thr (s : State) (k : Nat) (x : Basket) : (setBsk s k x).thr = s.thr := rfl
@[simp] theorem setBsk_mgt (s : State) (k : Nat) (x : Basket) : (setBsk s k x).mgt = s.mgt := rfl
@[simp] theorem setBsk_wax (s : State) (k : Nat) (x : Basket) : (setBsk s k x).wax = s.wax := rfl
@[simp] theorem setBsk_rlt (s : State) (k : Nat) (x : Basket) : (setBsk s k x).rlt = s.rlt := rfl
@[simp] theorem setBsk_mon (s : State) (k : Nat) (x : Basket) : (setBsk s k x).mon = s.mon := rfl
@[simp] theorem setBsk_glb (s : State) (k : Nat) (x : Basket) : (setBsk s k x).glb = s.glb := rfl
@[simp] theorem setBsk_before (s : State) (k : Nat) (x : Basket) : (setBsk s k x).before = s.before := rfl
@[simp] theorem setBsk_marks (s : State) (k : Nat) (x : Basket) : (setBsk s k x).marks = s.marks := rfl
@[simp] theorem setBsk_same (s : State) (k : Nat) (x : Basket) : bskOf (setBsk s k x) k = x := by simp [bskOf, setBsk]
@[simp] theorem setBsk_ne (s : State) {k j : Nat} (x : Basket) (h : j ≠ k) : bskOf (setBsk s k x) j = bskOf s j := by simp [bskOf, setBsk, h]
@[simp] theorem setBlk_pending (s : State) (k : Nat) (x : BlockSt) : (setBlk s k x).pending = s.pending := rfl
@[simp] theorem setBlk_now (s : State) (k : Nat) (x : BlockSt) : (setBlk s k x).now = s.now := rfl
@[simp] theorem setBlk_frame (s : State) (k : Nat) (x : BlockSt) : (setBlk s k x).frame = s.frame := rfl
@[simp] theorem setBlk_framed (s : State) (k : Nat) (x : BlockSt) : (setBlk s k x).framed = s.framed := rfl
@[simp] theorem setBlk_free (s : State) (k : Nat) (x : BlockSt) : (setBlk s k x).free = s.free := rfl
@[simp] theorem setBlk_rf (s : State) (k : Nat) (x : BlockSt) : (setBlk s k x).rf = s.rf := rfl
@[simp] theorem setBlk_rfF (s : State) (k : Nat) (x : BlockSt) : (setBlk s k x).rfF = s.rfF := rfl
@[simp] theorem setBlk_wick (s : State) (k : Nat) (x : BlockSt) : (setBlk s k x).wick = s.wick := rfl
@[simp] theorem setBlk_llt (s : State) (k : Nat) (x : BlockSt) : (setBlk s k x).llt = s.llt := rfl
@[simp] theorem setBlk_moist (s : State) (k : Nat) (x : BlockSt) : (setBlk s k x).moist = s.moist := rfl
@[simp] theorem setBlk_col (s : State) (k : Nat) (x : BlockSt) : (setBlk s k x).col = s.col := rfl
@[simp] theorem setBlk_loop (s : State) (k : Nat) (x : BlockSt) : (setBlk s k x).loop = s.loop := rfl
@[simp] theorem setBlk_motor (s : State) (k : Nat) (x : BlockSt) : (setBlk s k x).motor = s.motor := rfl
@[simp] theorem setBlk_aisle (s : State) (k : Nat) (x : BlockSt) : (setBlk s k x).aisle = s.aisle := rfl
@[simp] theorem setBlk_tx (s : State) (k : Nat) (x : BlockSt) : (setBlk s k x).tx = s.tx := rfl
@[simp] theorem setBlk_sol (s : State) (k : Nat) (x : BlockSt) : (setBlk s k x).sol = s.sol := rfl
@[simp] theorem setBlk_mkt (s : State) (k : Nat) (x : BlockSt) : (setBlk s k x).mkt = s.mkt := rfl
@[simp] theorem setBlk_tal (s : State) (k : Nat) (x : BlockSt) : (setBlk s k x).tal = s.tal := rfl
@[simp] theorem setBlk_rec (s : State) (k : Nat) (x : BlockSt) : (setBlk s k x).rec_ = s.rec_ := rfl
@[simp] theorem setBlk_pair (s : State) (k : Nat) (x : BlockSt) : (setBlk s k x).pair = s.pair := rfl
@[simp] theorem setBlk_hld (s : State) (k : Nat) (x : BlockSt) : (setBlk s k x).hld = s.hld := rfl
@[simp] theorem setBlk_snf (s : State) (k : Nat) (x : BlockSt) : (setBlk s k x).snf = s.snf := rfl
@[simp] theorem setBlk_thr (s : State) (k : Nat) (x : BlockSt) : (setBlk s k x).thr = s.thr := rfl
@[simp] theorem setBlk_mgt (s : State) (k : Nat) (x : BlockSt) : (setBlk s k x).mgt = s.mgt := rfl
@[simp] theorem setBlk_wax (s : State) (k : Nat) (x : BlockSt) : (setBlk s k x).wax = s.wax := rfl
@[simp] theorem setBlk_rlt (s : State) (k : Nat) (x : BlockSt) : (setBlk s k x).rlt = s.rlt := rfl
@[simp] theorem setBlk_mon (s : State) (k : Nat) (x : BlockSt) : (setBlk s k x).mon = s.mon := rfl
@[simp] theorem setBlk_glb (s : State) (k : Nat) (x : BlockSt) : (setBlk s k x).glb = s.glb := rfl
@[simp] theorem setBlk_before (s : State) (k : Nat) (x : BlockSt) : (setBlk s k x).before = s.before := rfl
@[simp] theorem setBlk_marks (s : State) (k : Nat) (x : BlockSt) : (setBlk s k x).marks = s.marks := rfl
@[simp] theorem setBlk_same (s : State) (k : Nat) (x : BlockSt) : blkOf (setBlk s k x) k = x := by simp [blkOf, setBlk]
@[simp] theorem setBlk_ne (s : State) {k j : Nat} (x : BlockSt) (h : j ≠ k) : blkOf (setBlk s k x) j = blkOf s j := by simp [blkOf, setBlk, h]
@[simp] theorem setTaper_pending (s : State) (k : Nat) (x : Taper) : (setTaper s k x).pending = s.pending := rfl
@[simp] theorem setTaper_now (s : State) (k : Nat) (x : Taper) : (setTaper s k x).now = s.now := rfl
@[simp] theorem setTaper_frame (s : State) (k : Nat) (x : Taper) : (setTaper s k x).frame = s.frame := rfl
@[simp] theorem setTaper_framed (s : State) (k : Nat) (x : Taper) : (setTaper s k x).framed = s.framed := rfl
@[simp] theorem setTaper_free (s : State) (k : Nat) (x : Taper) : (setTaper s k x).free = s.free := rfl
@[simp] theorem setTaper_rf (s : State) (k : Nat) (x : Taper) : (setTaper s k x).rf = s.rf := rfl
@[simp] theorem setTaper_rfF (s : State) (k : Nat) (x : Taper) : (setTaper s k x).rfF = s.rfF := rfl
@[simp] theorem setTaper_wick (s : State) (k : Nat) (x : Taper) : (setTaper s k x).wick = s.wick := rfl
@[simp] theorem setTaper_llt (s : State) (k : Nat) (x : Taper) : (setTaper s k x).llt = s.llt := rfl
@[simp] theorem setTaper_moist (s : State) (k : Nat) (x : Taper) : (setTaper s k x).moist = s.moist := rfl
@[simp] theorem setTaper_col (s : State) (k : Nat) (x : Taper) : (setTaper s k x).col = s.col := rfl
@[simp] theorem setTaper_eng (s : State) (k : Nat) (x : Taper) : (setTaper s k x).eng = s.eng := rfl
@[simp] theorem setTaper_motor (s : State) (k : Nat) (x : Taper) : (setTaper s k x).motor = s.motor := rfl
@[simp] theorem setTaper_aisle (s : State) (k : Nat) (x : Taper) : (setTaper s k x).aisle = s.aisle := rfl
@[simp] theorem setTaper_tx (s : State) (k : Nat) (x : Taper) : (setTaper s k x).tx = s.tx := rfl
@[simp] theorem setTaper_sol (s : State) (k : Nat) (x : Taper) : (setTaper s k x).sol = s.sol := rfl
@[simp] theorem setTaper_mkt (s : State) (k : Nat) (x : Taper) : (setTaper s k x).mkt = s.mkt := rfl
@[simp] theorem setTaper_tal (s : State) (k : Nat) (x : Taper) : (setTaper s k x).tal = s.tal := rfl
@[simp] theorem setTaper_rec (s : State) (k : Nat) (x : Taper) : (setTaper s k x).rec_ = s.rec_ := rfl
@[simp] theorem setTaper_pair (s : State) (k : Nat) (x : Taper) : (setTaper s k x).pair = s.pair := rfl
@[simp] theorem setTaper_hld (s : State) (k : Nat) (x : Taper) : (setTaper s k x).hld = s.hld := rfl
@[simp] theorem setTaper_snf (s : State) (k : Nat) (x : Taper) : (setTaper s k x).snf = s.snf := rfl
@[simp] theorem setTaper_thr (s : State) (k : Nat) (x : Taper) : (setTaper s k x).thr = s.thr := rfl
@[simp] theorem setTaper_mgt (s : State) (k : Nat) (x : Taper) : (setTaper s k x).mgt = s.mgt := rfl
@[simp] theorem setTaper_wax (s : State) (k : Nat) (x : Taper) : (setTaper s k x).wax = s.wax := rfl
@[simp] theorem setTaper_rlt (s : State) (k : Nat) (x : Taper) : (setTaper s k x).rlt = s.rlt := rfl
@[simp] theorem setTaper_mon (s : State) (k : Nat) (x : Taper) : (setTaper s k x).mon = s.mon := rfl
@[simp] theorem setTaper_glb (s : State) (k : Nat) (x : Taper) : (setTaper s k x).glb = s.glb := rfl
@[simp] theorem setTaper_before (s : State) (k : Nat) (x : Taper) : (setTaper s k x).before = s.before := rfl
@[simp] theorem setTaper_marks (s : State) (k : Nat) (x : Taper) : (setTaper s k x).marks = s.marks := rfl
@[simp] theorem setTaper_same (s : State) (k : Nat) (x : Taper) : taperOf (setTaper s k x) k = x := by simp [taperOf, setTaper]
@[simp] theorem setTaper_ne (s : State) {k j : Nat} (x : Taper) (h : j ≠ k) : taperOf (setTaper s k x) j = taperOf s j := by simp [taperOf, setTaper, h]
@[simp] theorem setLoop_pending (s : State) (k : Nat) (x : Loop) : (setLoop s k x).pending = s.pending := rfl
@[simp] theorem setLoop_now (s : State) (k : Nat) (x : Loop) : (setLoop s k x).now = s.now := rfl
@[simp] theorem setLoop_frame (s : State) (k : Nat) (x : Loop) : (setLoop s k x).frame = s.frame := rfl
@[simp] theorem setLoop_framed (s : State) (k : Nat) (x : Loop) : (setLoop s k x).framed = s.framed := rfl
@[simp] theorem setLoop_free (s : State) (k : Nat) (x : Loop) : (setLoop s k x).free = s.free := rfl
@[simp] theorem setLoop_rf (s : State) (k : Nat) (x : Loop) : (setLoop s k x).rf = s.rf := rfl
@[simp] theorem setLoop_rfF (s : State) (k : Nat) (x : Loop) : (setLoop s k x).rfF = s.rfF := rfl
@[simp] theorem setLoop_wick (s : State) (k : Nat) (x : Loop) : (setLoop s k x).wick = s.wick := rfl
@[simp] theorem setLoop_llt (s : State) (k : Nat) (x : Loop) : (setLoop s k x).llt = s.llt := rfl
@[simp] theorem setLoop_moist (s : State) (k : Nat) (x : Loop) : (setLoop s k x).moist = s.moist := rfl
@[simp] theorem setLoop_col (s : State) (k : Nat) (x : Loop) : (setLoop s k x).col = s.col := rfl
@[simp] theorem setLoop_eng (s : State) (k : Nat) (x : Loop) : (setLoop s k x).eng = s.eng := rfl
@[simp] theorem setLoop_motor (s : State) (k : Nat) (x : Loop) : (setLoop s k x).motor = s.motor := rfl
@[simp] theorem setLoop_aisle (s : State) (k : Nat) (x : Loop) : (setLoop s k x).aisle = s.aisle := rfl
@[simp] theorem setLoop_tx (s : State) (k : Nat) (x : Loop) : (setLoop s k x).tx = s.tx := rfl
@[simp] theorem setLoop_sol (s : State) (k : Nat) (x : Loop) : (setLoop s k x).sol = s.sol := rfl
@[simp] theorem setLoop_mkt (s : State) (k : Nat) (x : Loop) : (setLoop s k x).mkt = s.mkt := rfl
@[simp] theorem setLoop_tal (s : State) (k : Nat) (x : Loop) : (setLoop s k x).tal = s.tal := rfl
@[simp] theorem setLoop_rec (s : State) (k : Nat) (x : Loop) : (setLoop s k x).rec_ = s.rec_ := rfl
@[simp] theorem setLoop_pair (s : State) (k : Nat) (x : Loop) : (setLoop s k x).pair = s.pair := rfl
@[simp] theorem setLoop_hld (s : State) (k : Nat) (x : Loop) : (setLoop s k x).hld = s.hld := rfl
@[simp] theorem setLoop_snf (s : State) (k : Nat) (x : Loop) : (setLoop s k x).snf = s.snf := rfl
@[simp] theorem setLoop_thr (s : State) (k : Nat) (x : Loop) : (setLoop s k x).thr = s.thr := rfl
@[simp] theorem setLoop_mgt (s : State) (k : Nat) (x : Loop) : (setLoop s k x).mgt = s.mgt := rfl
@[simp] theorem setLoop_wax (s : State) (k : Nat) (x : Loop) : (setLoop s k x).wax = s.wax := rfl
@[simp] theorem setLoop_rlt (s : State) (k : Nat) (x : Loop) : (setLoop s k x).rlt = s.rlt := rfl
@[simp] theorem setLoop_mon (s : State) (k : Nat) (x : Loop) : (setLoop s k x).mon = s.mon := rfl
@[simp] theorem setLoop_glb (s : State) (k : Nat) (x : Loop) : (setLoop s k x).glb = s.glb := rfl
@[simp] theorem setLoop_before (s : State) (k : Nat) (x : Loop) : (setLoop s k x).before = s.before := rfl
@[simp] theorem setLoop_marks (s : State) (k : Nat) (x : Loop) : (setLoop s k x).marks = s.marks := rfl
@[simp] theorem setLoop_same (s : State) (k : Nat) (x : Loop) : loopOf (setLoop s k x) k = x := by simp [loopOf, setLoop]
@[simp] theorem setLoop_ne (s : State) {k j : Nat} (x : Loop) (h : j ≠ k) : loopOf (setLoop s k x) j = loopOf s j := by simp [loopOf, setLoop, h]
@[simp] theorem setMot_pending (s : State) (k : Nat) (x : Motor) : (setMot s k x).pending = s.pending := rfl
@[simp] theorem setMot_now (s : State) (k : Nat) (x : Motor) : (setMot s k x).now = s.now := rfl
@[simp] theorem setMot_frame (s : State) (k : Nat) (x : Motor) : (setMot s k x).frame = s.frame := rfl
@[simp] theorem setMot_framed (s : State) (k : Nat) (x : Motor) : (setMot s k x).framed = s.framed := rfl
@[simp] theorem setMot_free (s : State) (k : Nat) (x : Motor) : (setMot s k x).free = s.free := rfl
@[simp] theorem setMot_rf (s : State) (k : Nat) (x : Motor) : (setMot s k x).rf = s.rf := rfl
@[simp] theorem setMot_rfF (s : State) (k : Nat) (x : Motor) : (setMot s k x).rfF = s.rfF := rfl
@[simp] theorem setMot_wick (s : State) (k : Nat) (x : Motor) : (setMot s k x).wick = s.wick := rfl
@[simp] theorem setMot_llt (s : State) (k : Nat) (x : Motor) : (setMot s k x).llt = s.llt := rfl
@[simp] theorem setMot_moist (s : State) (k : Nat) (x : Motor) : (setMot s k x).moist = s.moist := rfl
@[simp] theorem setMot_col (s : State) (k : Nat) (x : Motor) : (setMot s k x).col = s.col := rfl
@[simp] theorem setMot_eng (s : State) (k : Nat) (x : Motor) : (setMot s k x).eng = s.eng := rfl
@[simp] theorem setMot_loop (s : State) (k : Nat) (x : Motor) : (setMot s k x).loop = s.loop := rfl
@[simp] theorem setMot_aisle (s : State) (k : Nat) (x : Motor) : (setMot s k x).aisle = s.aisle := rfl
@[simp] theorem setMot_tx (s : State) (k : Nat) (x : Motor) : (setMot s k x).tx = s.tx := rfl
@[simp] theorem setMot_sol (s : State) (k : Nat) (x : Motor) : (setMot s k x).sol = s.sol := rfl
@[simp] theorem setMot_mkt (s : State) (k : Nat) (x : Motor) : (setMot s k x).mkt = s.mkt := rfl
@[simp] theorem setMot_tal (s : State) (k : Nat) (x : Motor) : (setMot s k x).tal = s.tal := rfl
@[simp] theorem setMot_rec (s : State) (k : Nat) (x : Motor) : (setMot s k x).rec_ = s.rec_ := rfl
@[simp] theorem setMot_pair (s : State) (k : Nat) (x : Motor) : (setMot s k x).pair = s.pair := rfl
@[simp] theorem setMot_hld (s : State) (k : Nat) (x : Motor) : (setMot s k x).hld = s.hld := rfl
@[simp] theorem setMot_snf (s : State) (k : Nat) (x : Motor) : (setMot s k x).snf = s.snf := rfl
@[simp] theorem setMot_thr (s : State) (k : Nat) (x : Motor) : (setMot s k x).thr = s.thr := rfl
@[simp] theorem setMot_mgt (s : State) (k : Nat) (x : Motor) : (setMot s k x).mgt = s.mgt := rfl
@[simp] theorem setMot_wax (s : State) (k : Nat) (x : Motor) : (setMot s k x).wax = s.wax := rfl
@[simp] theorem setMot_rlt (s : State) (k : Nat) (x : Motor) : (setMot s k x).rlt = s.rlt := rfl
@[simp] theorem setMot_mon (s : State) (k : Nat) (x : Motor) : (setMot s k x).mon = s.mon := rfl
@[simp] theorem setMot_glb (s : State) (k : Nat) (x : Motor) : (setMot s k x).glb = s.glb := rfl
@[simp] theorem setMot_before (s : State) (k : Nat) (x : Motor) : (setMot s k x).before = s.before := rfl
@[simp] theorem setMot_marks (s : State) (k : Nat) (x : Motor) : (setMot s k x).marks = s.marks := rfl
@[simp] theorem setMot_same (s : State) (k : Nat) (x : Motor) : motOf (setMot s k x) k = x := by simp [motOf, setMot]
@[simp] theorem setMot_ne (s : State) {k j : Nat} (x : Motor) (h : j ≠ k) : motOf (setMot s k x) j = motOf s j := by simp [motOf, setMot, h]
@[simp] theorem setGate_pending (s : State) (k : Nat) (x : Gate) : (setGate s k x).pending = s.pending := rfl
@[simp] theorem setGate_now (s : State) (k : Nat) (x : Gate) : (setGate s k x).now = s.now := rfl
@[simp] theorem setGate_frame (s : State) (k : Nat) (x : Gate) : (setGate s k x).frame = s.frame := rfl
@[simp] theorem setGate_framed (s : State) (k : Nat) (x : Gate) : (setGate s k x).framed = s.framed := rfl
@[simp] theorem setGate_free (s : State) (k : Nat) (x : Gate) : (setGate s k x).free = s.free := rfl
@[simp] theorem setGate_rf (s : State) (k : Nat) (x : Gate) : (setGate s k x).rf = s.rf := rfl
@[simp] theorem setGate_rfF (s : State) (k : Nat) (x : Gate) : (setGate s k x).rfF = s.rfF := rfl
@[simp] theorem setGate_wick (s : State) (k : Nat) (x : Gate) : (setGate s k x).wick = s.wick := rfl
@[simp] theorem setGate_llt (s : State) (k : Nat) (x : Gate) : (setGate s k x).llt = s.llt := rfl
@[simp] theorem setGate_moist (s : State) (k : Nat) (x : Gate) : (setGate s k x).moist = s.moist := rfl
@[simp] theorem setGate_col (s : State) (k : Nat) (x : Gate) : (setGate s k x).col = s.col := rfl
@[simp] theorem setGate_eng (s : State) (k : Nat) (x : Gate) : (setGate s k x).eng = s.eng := rfl
@[simp] theorem setGate_loop (s : State) (k : Nat) (x : Gate) : (setGate s k x).loop = s.loop := rfl
@[simp] theorem setGate_aisle (s : State) (k : Nat) (x : Gate) : (setGate s k x).aisle = s.aisle := rfl
@[simp] theorem setGate_tx (s : State) (k : Nat) (x : Gate) : (setGate s k x).tx = s.tx := rfl
@[simp] theorem setGate_sol (s : State) (k : Nat) (x : Gate) : (setGate s k x).sol = s.sol := rfl
@[simp] theorem setGate_mkt (s : State) (k : Nat) (x : Gate) : (setGate s k x).mkt = s.mkt := rfl
@[simp] theorem setGate_tal (s : State) (k : Nat) (x : Gate) : (setGate s k x).tal = s.tal := rfl
@[simp] theorem setGate_rec (s : State) (k : Nat) (x : Gate) : (setGate s k x).rec_ = s.rec_ := rfl
@[simp] theorem setGate_pair (s : State) (k : Nat) (x : Gate) : (setGate s k x).pair = s.pair := rfl
@[simp] theorem setGate_hld (s : State) (k : Nat) (x : Gate) : (setGate s k x).hld = s.hld := rfl
@[simp] theorem setGate_snf (s : State) (k : Nat) (x : Gate) : (setGate s k x).snf = s.snf := rfl
@[simp] theorem setGate_thr (s : State) (k : Nat) (x : Gate) : (setGate s k x).thr = s.thr := rfl
@[simp] theorem setGate_mgt (s : State) (k : Nat) (x : Gate) : (setGate s k x).mgt = s.mgt := rfl
@[simp] theorem setGate_wax (s : State) (k : Nat) (x : Gate) : (setGate s k x).wax = s.wax := rfl
@[simp] theorem setGate_rlt (s : State) (k : Nat) (x : Gate) : (setGate s k x).rlt = s.rlt := rfl
@[simp] theorem setGate_mon (s : State) (k : Nat) (x : Gate) : (setGate s k x).mon = s.mon := rfl
@[simp] theorem setGate_glb (s : State) (k : Nat) (x : Gate) : (setGate s k x).glb = s.glb := rfl
@[simp] theorem setGate_before (s : State) (k : Nat) (x : Gate) : (setGate s k x).before = s.before := rfl
@[simp] theorem setGate_marks (s : State) (k : Nat) (x : Gate) : (setGate s k x).marks = s.marks := rfl
@[simp] theorem setGate_same (s : State) (k : Nat) (x : Gate) : gateOf (setGate s k x) k = x := by simp [gateOf, setGate]
@[simp] theorem setGate_ne (s : State) {k j : Nat} (x : Gate) (h : j ≠ k) : gateOf (setGate s k x) j = gateOf s j := by simp [gateOf, setGate, h]
@[simp] theorem setRoute_pending (s : State) (k : Nat) (x : Route) : (setRoute s k x).pending = s.pending := rfl
@[simp] theorem setRoute_now (s : State) (k : Nat) (x : Route) : (setRoute s k x).now = s.now := rfl
@[simp] theorem setRoute_frame (s : State) (k : Nat) (x : Route) : (setRoute s k x).frame = s.frame := rfl
@[simp] theorem setRoute_framed (s : State) (k : Nat) (x : Route) : (setRoute s k x).framed = s.framed := rfl
@[simp] theorem setRoute_free (s : State) (k : Nat) (x : Route) : (setRoute s k x).free = s.free := rfl
@[simp] theorem setRoute_rf (s : State) (k : Nat) (x : Route) : (setRoute s k x).rf = s.rf := rfl
@[simp] theorem setRoute_rfF (s : State) (k : Nat) (x : Route) : (setRoute s k x).rfF = s.rfF := rfl
@[simp] theorem setRoute_wick (s : State) (k : Nat) (x : Route) : (setRoute s k x).wick = s.wick := rfl
@[simp] theorem setRoute_llt (s : State) (k : Nat) (x : Route) : (setRoute s k x).llt = s.llt := rfl
@[simp] theorem setRoute_moist (s : State) (k : Nat) (x : Route) : (setRoute s k x).moist = s.moist := rfl
@[simp] theorem setRoute_col (s : State) (k : Nat) (x : Route) : (setRoute s k x).col = s.col := rfl
@[simp] theorem setRoute_eng (s : State) (k : Nat) (x : Route) : (setRoute s k x).eng = s.eng := rfl
@[simp] theorem setRoute_loop (s : State) (k : Nat) (x : Route) : (setRoute s k x).loop = s.loop := rfl
@[simp] theorem setRoute_aisle (s : State) (k : Nat) (x : Route) : (setRoute s k x).aisle = s.aisle := rfl
@[simp] theorem setRoute_tx (s : State) (k : Nat) (x : Route) : (setRoute s k x).tx = s.tx := rfl
@[simp] theorem setRoute_sol (s : State) (k : Nat) (x : Route) : (setRoute s k x).sol = s.sol := rfl
@[simp] theorem setRoute_mkt (s : State) (k : Nat) (x : Route) : (setRoute s k x).mkt = s.mkt := rfl
@[simp] theorem setRoute_tal (s : State) (k : Nat) (x : Route) : (setRoute s k x).tal = s.tal := rfl
@[simp] theorem setRoute_rec (s : State) (k : Nat) (x : Route) : (setRoute s k x).rec_ = s.rec_ := rfl
@[simp] theorem setRoute_pair (s : State) (k : Nat) (x : Route) : (setRoute s k x).pair = s.pair := rfl
@[simp] theorem setRoute_hld (s : State) (k : Nat) (x : Route) : (setRoute s k x).hld = s.hld := rfl
@[simp] theorem setRoute_snf (s : State) (k : Nat) (x : Route) : (setRoute s k x).snf = s.snf := rfl
@[simp] theorem setRoute_thr (s : State) (k : Nat) (x : Route) : (setRoute s k x).thr = s.thr := rfl
@[simp] theorem setRoute_mgt (s : State) (k : Nat) (x : Route) : (setRoute s k x).mgt = s.mgt := rfl
@[simp] theorem setRoute_wax (s : State) (k : Nat) (x : Route) : (setRoute s k x).wax = s.wax := rfl
@[simp] theorem setRoute_rlt (s : State) (k : Nat) (x : Route) : (setRoute s k x).rlt = s.rlt := rfl
@[simp] theorem setRoute_mon (s : State) (k : Nat) (x : Route) : (setRoute s k x).mon = s.mon := rfl
@[simp] theorem setRoute_glb (s : State) (k : Nat) (x : Route) : (setRoute s k x).glb = s.glb := rfl
@[simp] theorem setRoute_before (s : State) (k : Nat) (x : Route) : (setRoute s k x).before = s.before := rfl
@[simp] theorem setRoute_marks (s : State) (k : Nat) (x : Route) : (setRoute s k x).marks = s.marks := rfl
@[simp] theorem setRoute_same (s : State) (k : Nat) (x : Route) : routeOf (setRoute s k x) k = x := by simp [routeOf, setRoute]
@[simp] theorem setRoute_ne (s : State) {k j : Nat} (x : Route) (h : j ≠ k) : routeOf (setRoute s k x) j = routeOf s j := by simp [routeOf, setRoute, h]
@[simp] theorem setSlip_pending (s : State) (k : Nat) (x : Slip) : (setSlip s k x).pending = s.pending := rfl
@[simp] theorem setSlip_now (s : State) (k : Nat) (x : Slip) : (setSlip s k x).now = s.now := rfl
@[simp] theorem setSlip_frame (s : State) (k : Nat) (x : Slip) : (setSlip s k x).frame = s.frame := rfl
@[simp] theorem setSlip_framed (s : State) (k : Nat) (x : Slip) : (setSlip s k x).framed = s.framed := rfl
@[simp] theorem setSlip_free (s : State) (k : Nat) (x : Slip) : (setSlip s k x).free = s.free := rfl
@[simp] theorem setSlip_rf (s : State) (k : Nat) (x : Slip) : (setSlip s k x).rf = s.rf := rfl
@[simp] theorem setSlip_rfF (s : State) (k : Nat) (x : Slip) : (setSlip s k x).rfF = s.rfF := rfl
@[simp] theorem setSlip_wick (s : State) (k : Nat) (x : Slip) : (setSlip s k x).wick = s.wick := rfl
@[simp] theorem setSlip_llt (s : State) (k : Nat) (x : Slip) : (setSlip s k x).llt = s.llt := rfl
@[simp] theorem setSlip_moist (s : State) (k : Nat) (x : Slip) : (setSlip s k x).moist = s.moist := rfl
@[simp] theorem setSlip_col (s : State) (k : Nat) (x : Slip) : (setSlip s k x).col = s.col := rfl
@[simp] theorem setSlip_eng (s : State) (k : Nat) (x : Slip) : (setSlip s k x).eng = s.eng := rfl
@[simp] theorem setSlip_loop (s : State) (k : Nat) (x : Slip) : (setSlip s k x).loop = s.loop := rfl
@[simp] theorem setSlip_aisle (s : State) (k : Nat) (x : Slip) : (setSlip s k x).aisle = s.aisle := rfl
@[simp] theorem setSlip_tx (s : State) (k : Nat) (x : Slip) : (setSlip s k x).tx = s.tx := rfl
@[simp] theorem setSlip_sol (s : State) (k : Nat) (x : Slip) : (setSlip s k x).sol = s.sol := rfl
@[simp] theorem setSlip_mkt (s : State) (k : Nat) (x : Slip) : (setSlip s k x).mkt = s.mkt := rfl
@[simp] theorem setSlip_tal (s : State) (k : Nat) (x : Slip) : (setSlip s k x).tal = s.tal := rfl
@[simp] theorem setSlip_rec (s : State) (k : Nat) (x : Slip) : (setSlip s k x).rec_ = s.rec_ := rfl
@[simp] theorem setSlip_pair (s : State) (k : Nat) (x : Slip) : (setSlip s k x).pair = s.pair := rfl
@[simp] theorem setSlip_hld (s : State) (k : Nat) (x : Slip) : (setSlip s k x).hld = s.hld := rfl
@[simp] theorem setSlip_snf (s : State) (k : Nat) (x : Slip) : (setSlip s k x).snf = s.snf := rfl
@[simp] theorem setSlip_thr (s : State) (k : Nat) (x : Slip) : (setSlip s k x).thr = s.thr := rfl
@[simp] theorem setSlip_mgt (s : State) (k : Nat) (x : Slip) : (setSlip s k x).mgt = s.mgt := rfl
@[simp] theorem setSlip_wax (s : State) (k : Nat) (x : Slip) : (setSlip s k x).wax = s.wax := rfl
@[simp] theorem setSlip_rlt (s : State) (k : Nat) (x : Slip) : (setSlip s k x).rlt = s.rlt := rfl
@[simp] theorem setSlip_mon (s : State) (k : Nat) (x : Slip) : (setSlip s k x).mon = s.mon := rfl
@[simp] theorem setSlip_glb (s : State) (k : Nat) (x : Slip) : (setSlip s k x).glb = s.glb := rfl
@[simp] theorem setSlip_before (s : State) (k : Nat) (x : Slip) : (setSlip s k x).before = s.before := rfl
@[simp] theorem setSlip_marks (s : State) (k : Nat) (x : Slip) : (setSlip s k x).marks = s.marks := rfl
@[simp] theorem setSlip_same (s : State) (k : Nat) (x : Slip) : slipOf (setSlip s k x) k = x := by simp [slipOf, setSlip]
@[simp] theorem setSlip_ne (s : State) {k j : Nat} (x : Slip) (h : j ≠ k) : slipOf (setSlip s k x) j = slipOf s j := by simp [slipOf, setSlip, h]
@[simp] theorem setAis_pending (s : State) (k : Nat) (x : Aisle) : (setAis s k x).pending = s.pending := rfl
@[simp] theorem setAis_now (s : State) (k : Nat) (x : Aisle) : (setAis s k x).now = s.now := rfl
@[simp] theorem setAis_frame (s : State) (k : Nat) (x : Aisle) : (setAis s k x).frame = s.frame := rfl
@[simp] theorem setAis_framed (s : State) (k : Nat) (x : Aisle) : (setAis s k x).framed = s.framed := rfl
@[simp] theorem setAis_free (s : State) (k : Nat) (x : Aisle) : (setAis s k x).free = s.free := rfl
@[simp] theorem setAis_rf (s : State) (k : Nat) (x : Aisle) : (setAis s k x).rf = s.rf := rfl
@[simp] theorem setAis_rfF (s : State) (k : Nat) (x : Aisle) : (setAis s k x).rfF = s.rfF := rfl
@[simp] theorem setAis_wick (s : State) (k : Nat) (x : Aisle) : (setAis s k x).wick = s.wick := rfl
@[simp] theorem setAis_llt (s : State) (k : Nat) (x : Aisle) : (setAis s k x).llt = s.llt := rfl
@[simp] theorem setAis_moist (s : State) (k : Nat) (x : Aisle) : (setAis s k x).moist = s.moist := rfl
@[simp] theorem setAis_col (s : State) (k : Nat) (x : Aisle) : (setAis s k x).col = s.col := rfl
@[simp] theorem setAis_eng (s : State) (k : Nat) (x : Aisle) : (setAis s k x).eng = s.eng := rfl
@[simp] theorem setAis_loop (s : State) (k : Nat) (x : Aisle) : (setAis s k x).loop = s.loop := rfl
@[simp] theorem setAis_motor (s : State) (k : Nat) (x : Aisle) : (setAis s k x).motor = s.motor := rfl
@[simp] theorem setAis_tx (s : State) (k : Nat) (x : Aisle) : (setAis s k x).tx = s.tx := rfl
@[simp] theorem setAis_sol (s : State) (k : Nat) (x : Aisle) : (setAis s k x).sol = s.sol := rfl
@[simp] theorem setAis_mkt (s : State) (k : Nat) (x : Aisle) : (setAis s k x).mkt = s.mkt := rfl
@[simp] theorem setAis_tal (s : State) (k : Nat) (x : Aisle) : (setAis s k x).tal = s.tal := rfl
@[simp] theorem setAis_rec (s : State) (k : Nat) (x : Aisle) : (setAis s k x).rec_ = s.rec_ := rfl
@[simp] theorem setAis_pair (s : State) (k : Nat) (x : Aisle) : (setAis s k x).pair = s.pair := rfl
@[simp] theorem setAis_hld (s : State) (k : Nat) (x : Aisle) : (setAis s k x).hld = s.hld := rfl
@[simp] theorem setAis_snf (s : State) (k : Nat) (x : Aisle) : (setAis s k x).snf = s.snf := rfl
@[simp] theorem setAis_thr (s : State) (k : Nat) (x : Aisle) : (setAis s k x).thr = s.thr := rfl
@[simp] theorem setAis_mgt (s : State) (k : Nat) (x : Aisle) : (setAis s k x).mgt = s.mgt := rfl
@[simp] theorem setAis_wax (s : State) (k : Nat) (x : Aisle) : (setAis s k x).wax = s.wax := rfl
@[simp] theorem setAis_rlt (s : State) (k : Nat) (x : Aisle) : (setAis s k x).rlt = s.rlt := rfl
@[simp] theorem setAis_mon (s : State) (k : Nat) (x : Aisle) : (setAis s k x).mon = s.mon := rfl
@[simp] theorem setAis_glb (s : State) (k : Nat) (x : Aisle) : (setAis s k x).glb = s.glb := rfl
@[simp] theorem setAis_before (s : State) (k : Nat) (x : Aisle) : (setAis s k x).before = s.before := rfl
@[simp] theorem setAis_marks (s : State) (k : Nat) (x : Aisle) : (setAis s k x).marks = s.marks := rfl
@[simp] theorem setAis_same (s : State) (k : Nat) (x : Aisle) : aisOf (setAis s k x) k = x := by simp [aisOf, setAis]
@[simp] theorem setAis_ne (s : State) {k j : Nat} (x : Aisle) (h : j ≠ k) : aisOf (setAis s k x) j = aisOf s j := by simp [aisOf, setAis, h]
@[simp] theorem setStl_pending (s : State) (k : Nat) (x : Stall) : (setStl s k x).pending = s.pending := rfl
@[simp] theorem setStl_now (s : State) (k : Nat) (x : Stall) : (setStl s k x).now = s.now := rfl
@[simp] theorem setStl_frame (s : State) (k : Nat) (x : Stall) : (setStl s k x).frame = s.frame := rfl
@[simp] theorem setStl_framed (s : State) (k : Nat) (x : Stall) : (setStl s k x).framed = s.framed := rfl
@[simp] theorem setStl_free (s : State) (k : Nat) (x : Stall) : (setStl s k x).free = s.free := rfl
@[simp] theorem setStl_rf (s : State) (k : Nat) (x : Stall) : (setStl s k x).rf = s.rf := rfl
@[simp] theorem setStl_rfF (s : State) (k : Nat) (x : Stall) : (setStl s k x).rfF = s.rfF := rfl
@[simp] theorem setStl_wick (s : State) (k : Nat) (x : Stall) : (setStl s k x).wick = s.wick := rfl
@[simp] theorem setStl_llt (s : State) (k : Nat) (x : Stall) : (setStl s k x).llt = s.llt := rfl
@[simp] theorem setStl_moist (s : State) (k : Nat) (x : Stall) : (setStl s k x).moist = s.moist := rfl
@[simp] theorem setStl_col (s : State) (k : Nat) (x : Stall) : (setStl s k x).col = s.col := rfl
@[simp] theorem setStl_eng (s : State) (k : Nat) (x : Stall) : (setStl s k x).eng = s.eng := rfl
@[simp] theorem setStl_loop (s : State) (k : Nat) (x : Stall) : (setStl s k x).loop = s.loop := rfl
@[simp] theorem setStl_motor (s : State) (k : Nat) (x : Stall) : (setStl s k x).motor = s.motor := rfl
@[simp] theorem setStl_tx (s : State) (k : Nat) (x : Stall) : (setStl s k x).tx = s.tx := rfl
@[simp] theorem setStl_sol (s : State) (k : Nat) (x : Stall) : (setStl s k x).sol = s.sol := rfl
@[simp] theorem setStl_mkt (s : State) (k : Nat) (x : Stall) : (setStl s k x).mkt = s.mkt := rfl
@[simp] theorem setStl_tal (s : State) (k : Nat) (x : Stall) : (setStl s k x).tal = s.tal := rfl
@[simp] theorem setStl_rec (s : State) (k : Nat) (x : Stall) : (setStl s k x).rec_ = s.rec_ := rfl
@[simp] theorem setStl_pair (s : State) (k : Nat) (x : Stall) : (setStl s k x).pair = s.pair := rfl
@[simp] theorem setStl_hld (s : State) (k : Nat) (x : Stall) : (setStl s k x).hld = s.hld := rfl
@[simp] theorem setStl_snf (s : State) (k : Nat) (x : Stall) : (setStl s k x).snf = s.snf := rfl
@[simp] theorem setStl_thr (s : State) (k : Nat) (x : Stall) : (setStl s k x).thr = s.thr := rfl
@[simp] theorem setStl_mgt (s : State) (k : Nat) (x : Stall) : (setStl s k x).mgt = s.mgt := rfl
@[simp] theorem setStl_wax (s : State) (k : Nat) (x : Stall) : (setStl s k x).wax = s.wax := rfl
@[simp] theorem setStl_rlt (s : State) (k : Nat) (x : Stall) : (setStl s k x).rlt = s.rlt := rfl
@[simp] theorem setStl_mon (s : State) (k : Nat) (x : Stall) : (setStl s k x).mon = s.mon := rfl
@[simp] theorem setStl_glb (s : State) (k : Nat) (x : Stall) : (setStl s k x).glb = s.glb := rfl
@[simp] theorem setStl_before (s : State) (k : Nat) (x : Stall) : (setStl s k x).before = s.before := rfl
@[simp] theorem setStl_marks (s : State) (k : Nat) (x : Stall) : (setStl s k x).marks = s.marks := rfl
@[simp] theorem setStl_same (s : State) (k : Nat) (x : Stall) : stlOf (setStl s k x) k = x := by simp [stlOf, setStl]
@[simp] theorem setStl_ne (s : State) {k j : Nat} (x : Stall) (h : j ≠ k) : stlOf (setStl s k x) j = stlOf s j := by simp [stlOf, setStl, h]
@[simp] theorem setTx_pending (s : State) (k : Nat) (x : TxPort) : (setTx s k x).pending = s.pending := rfl
@[simp] theorem setTx_now (s : State) (k : Nat) (x : TxPort) : (setTx s k x).now = s.now := rfl
@[simp] theorem setTx_frame (s : State) (k : Nat) (x : TxPort) : (setTx s k x).frame = s.frame := rfl
@[simp] theorem setTx_framed (s : State) (k : Nat) (x : TxPort) : (setTx s k x).framed = s.framed := rfl
@[simp] theorem setTx_free (s : State) (k : Nat) (x : TxPort) : (setTx s k x).free = s.free := rfl
@[simp] theorem setTx_rf (s : State) (k : Nat) (x : TxPort) : (setTx s k x).rf = s.rf := rfl
@[simp] theorem setTx_rfF (s : State) (k : Nat) (x : TxPort) : (setTx s k x).rfF = s.rfF := rfl
@[simp] theorem setTx_wick (s : State) (k : Nat) (x : TxPort) : (setTx s k x).wick = s.wick := rfl
@[simp] theorem setTx_llt (s : State) (k : Nat) (x : TxPort) : (setTx s k x).llt = s.llt := rfl
@[simp] theorem setTx_moist (s : State) (k : Nat) (x : TxPort) : (setTx s k x).moist = s.moist := rfl
@[simp] theorem setTx_col (s : State) (k : Nat) (x : TxPort) : (setTx s k x).col = s.col := rfl
@[simp] theorem setTx_eng (s : State) (k : Nat) (x : TxPort) : (setTx s k x).eng = s.eng := rfl
@[simp] theorem setTx_loop (s : State) (k : Nat) (x : TxPort) : (setTx s k x).loop = s.loop := rfl
@[simp] theorem setTx_motor (s : State) (k : Nat) (x : TxPort) : (setTx s k x).motor = s.motor := rfl
@[simp] theorem setTx_aisle (s : State) (k : Nat) (x : TxPort) : (setTx s k x).aisle = s.aisle := rfl
@[simp] theorem setTx_sol (s : State) (k : Nat) (x : TxPort) : (setTx s k x).sol = s.sol := rfl
@[simp] theorem setTx_mkt (s : State) (k : Nat) (x : TxPort) : (setTx s k x).mkt = s.mkt := rfl
@[simp] theorem setTx_tal (s : State) (k : Nat) (x : TxPort) : (setTx s k x).tal = s.tal := rfl
@[simp] theorem setTx_rec (s : State) (k : Nat) (x : TxPort) : (setTx s k x).rec_ = s.rec_ := rfl
@[simp] theorem setTx_pair (s : State) (k : Nat) (x : TxPort) : (setTx s k x).pair = s.pair := rfl
@[simp] theorem setTx_hld (s : State) (k : Nat) (x : TxPort) : (setTx s k x).hld = s.hld := rfl
@[simp] theorem setTx_snf (s : State) (k : Nat) (x : TxPort) : (setTx s k x).snf = s.snf := rfl
@[simp] theorem setTx_thr (s : State) (k : Nat) (x : TxPort) : (setTx s k x).thr = s.thr := rfl
@[simp] theorem setTx_mgt (s : State) (k : Nat) (x : TxPort) : (setTx s k x).mgt = s.mgt := rfl
@[simp] theorem setTx_wax (s : State) (k : Nat) (x : TxPort) : (setTx s k x).wax = s.wax := rfl
@[simp] theorem setTx_rlt (s : State) (k : Nat) (x : TxPort) : (setTx s k x).rlt = s.rlt := rfl
@[simp] theorem setTx_mon (s : State) (k : Nat) (x : TxPort) : (setTx s k x).mon = s.mon := rfl
@[simp] theorem setTx_glb (s : State) (k : Nat) (x : TxPort) : (setTx s k x).glb = s.glb := rfl
@[simp] theorem setTx_before (s : State) (k : Nat) (x : TxPort) : (setTx s k x).before = s.before := rfl
@[simp] theorem setTx_marks (s : State) (k : Nat) (x : TxPort) : (setTx s k x).marks = s.marks := rfl
@[simp] theorem setTx_same (s : State) (k : Nat) (x : TxPort) : txOf (setTx s k x) k = x := by simp [txOf, setTx]
@[simp] theorem setTx_ne (s : State) {k j : Nat} (x : TxPort) (h : j ≠ k) : txOf (setTx s k x) j = txOf s j := by simp [txOf, setTx, h]
@[simp] theorem setSol_pending (s : State) (k : Nat) (x : SolPort) : (setSol s k x).pending = s.pending := rfl
@[simp] theorem setSol_now (s : State) (k : Nat) (x : SolPort) : (setSol s k x).now = s.now := rfl
@[simp] theorem setSol_frame (s : State) (k : Nat) (x : SolPort) : (setSol s k x).frame = s.frame := rfl
@[simp] theorem setSol_framed (s : State) (k : Nat) (x : SolPort) : (setSol s k x).framed = s.framed := rfl
@[simp] theorem setSol_free (s : State) (k : Nat) (x : SolPort) : (setSol s k x).free = s.free := rfl
@[simp] theorem setSol_rf (s : State) (k : Nat) (x : SolPort) : (setSol s k x).rf = s.rf := rfl
@[simp] theorem setSol_rfF (s : State) (k : Nat) (x : SolPort) : (setSol s k x).rfF = s.rfF := rfl
@[simp] theorem setSol_wick (s : State) (k : Nat) (x : SolPort) : (setSol s k x).wick = s.wick := rfl
@[simp] theorem setSol_llt (s : State) (k : Nat) (x : SolPort) : (setSol s k x).llt = s.llt := rfl
@[simp] theorem setSol_moist (s : State) (k : Nat) (x : SolPort) : (setSol s k x).moist = s.moist := rfl
@[simp] theorem setSol_col (s : State) (k : Nat) (x : SolPort) : (setSol s k x).col = s.col := rfl
@[simp] theorem setSol_eng (s : State) (k : Nat) (x : SolPort) : (setSol s k x).eng = s.eng := rfl
@[simp] theorem setSol_loop (s : State) (k : Nat) (x : SolPort) : (setSol s k x).loop = s.loop := rfl
@[simp] theorem setSol_motor (s : State) (k : Nat) (x : SolPort) : (setSol s k x).motor = s.motor := rfl
@[simp] theorem setSol_aisle (s : State) (k : Nat) (x : SolPort) : (setSol s k x).aisle = s.aisle := rfl
@[simp] theorem setSol_tx (s : State) (k : Nat) (x : SolPort) : (setSol s k x).tx = s.tx := rfl
@[simp] theorem setSol_mkt (s : State) (k : Nat) (x : SolPort) : (setSol s k x).mkt = s.mkt := rfl
@[simp] theorem setSol_tal (s : State) (k : Nat) (x : SolPort) : (setSol s k x).tal = s.tal := rfl
@[simp] theorem setSol_rec (s : State) (k : Nat) (x : SolPort) : (setSol s k x).rec_ = s.rec_ := rfl
@[simp] theorem setSol_pair (s : State) (k : Nat) (x : SolPort) : (setSol s k x).pair = s.pair := rfl
@[simp] theorem setSol_hld (s : State) (k : Nat) (x : SolPort) : (setSol s k x).hld = s.hld := rfl
@[simp] theorem setSol_snf (s : State) (k : Nat) (x : SolPort) : (setSol s k x).snf = s.snf := rfl
@[simp] theorem setSol_thr (s : State) (k : Nat) (x : SolPort) : (setSol s k x).thr = s.thr := rfl
@[simp] theorem setSol_mgt (s : State) (k : Nat) (x : SolPort) : (setSol s k x).mgt = s.mgt := rfl
@[simp] theorem setSol_wax (s : State) (k : Nat) (x : SolPort) : (setSol s k x).wax = s.wax := rfl
@[simp] theorem setSol_rlt (s : State) (k : Nat) (x : SolPort) : (setSol s k x).rlt = s.rlt := rfl
@[simp] theorem setSol_mon (s : State) (k : Nat) (x : SolPort) : (setSol s k x).mon = s.mon := rfl
@[simp] theorem setSol_glb (s : State) (k : Nat) (x : SolPort) : (setSol s k x).glb = s.glb := rfl
@[simp] theorem setSol_before (s : State) (k : Nat) (x : SolPort) : (setSol s k x).before = s.before := rfl
@[simp] theorem setSol_marks (s : State) (k : Nat) (x : SolPort) : (setSol s k x).marks = s.marks := rfl
@[simp] theorem setSol_same (s : State) (k : Nat) (x : SolPort) : solOf (setSol s k x) k = x := by simp [solOf, setSol]
@[simp] theorem setSol_ne (s : State) {k j : Nat} (x : SolPort) (h : j ≠ k) : solOf (setSol s k x) j = solOf s j := by simp [solOf, setSol, h]
@[simp] theorem setSens_pending (s : State) (k : Nat) (x : Sensor) : (setSens s k x).pending = s.pending := rfl
@[simp] theorem setSens_now (s : State) (k : Nat) (x : Sensor) : (setSens s k x).now = s.now := rfl
@[simp] theorem setSens_frame (s : State) (k : Nat) (x : Sensor) : (setSens s k x).frame = s.frame := rfl
@[simp] theorem setSens_framed (s : State) (k : Nat) (x : Sensor) : (setSens s k x).framed = s.framed := rfl
@[simp] theorem setSens_free (s : State) (k : Nat) (x : Sensor) : (setSens s k x).free = s.free := rfl
@[simp] theorem setSens_rf (s : State) (k : Nat) (x : Sensor) : (setSens s k x).rf = s.rf := rfl
@[simp] theorem setSens_rfF (s : State) (k : Nat) (x : Sensor) : (setSens s k x).rfF = s.rfF := rfl
@[simp] theorem setSens_wick (s : State) (k : Nat) (x : Sensor) : (setSens s k x).wick = s.wick := rfl
@[simp] theorem setSens_llt (s : State) (k : Nat) (x : Sensor) : (setSens s k x).llt = s.llt := rfl
@[simp] theorem setSens_moist (s : State) (k : Nat) (x : Sensor) : (setSens s k x).moist = s.moist := rfl
@[simp] theorem setSens_col (s : State) (k : Nat) (x : Sensor) : (setSens s k x).col = s.col := rfl
@[simp] theorem setSens_eng (s : State) (k : Nat) (x : Sensor) : (setSens s k x).eng = s.eng := rfl
@[simp] theorem setSens_loop (s : State) (k : Nat) (x : Sensor) : (setSens s k x).loop = s.loop := rfl
@[simp] theorem setSens_motor (s : State) (k : Nat) (x : Sensor) : (setSens s k x).motor = s.motor := rfl
@[simp] theorem setSens_aisle (s : State) (k : Nat) (x : Sensor) : (setSens s k x).aisle = s.aisle := rfl
@[simp] theorem setSens_tx (s : State) (k : Nat) (x : Sensor) : (setSens s k x).tx = s.tx := rfl
@[simp] theorem setSens_sol (s : State) (k : Nat) (x : Sensor) : (setSens s k x).sol = s.sol := rfl
@[simp] theorem setSens_mkt (s : State) (k : Nat) (x : Sensor) : (setSens s k x).mkt = s.mkt := rfl
@[simp] theorem setSens_tal (s : State) (k : Nat) (x : Sensor) : (setSens s k x).tal = s.tal := rfl
@[simp] theorem setSens_rec (s : State) (k : Nat) (x : Sensor) : (setSens s k x).rec_ = s.rec_ := rfl
@[simp] theorem setSens_pair (s : State) (k : Nat) (x : Sensor) : (setSens s k x).pair = s.pair := rfl
@[simp] theorem setSens_hld (s : State) (k : Nat) (x : Sensor) : (setSens s k x).hld = s.hld := rfl
@[simp] theorem setSens_snf (s : State) (k : Nat) (x : Sensor) : (setSens s k x).snf = s.snf := rfl
@[simp] theorem setSens_mgt (s : State) (k : Nat) (x : Sensor) : (setSens s k x).mgt = s.mgt := rfl
@[simp] theorem setSens_wax (s : State) (k : Nat) (x : Sensor) : (setSens s k x).wax = s.wax := rfl
@[simp] theorem setSens_rlt (s : State) (k : Nat) (x : Sensor) : (setSens s k x).rlt = s.rlt := rfl
@[simp] theorem setSens_mon (s : State) (k : Nat) (x : Sensor) : (setSens s k x).mon = s.mon := rfl
@[simp] theorem setSens_glb (s : State) (k : Nat) (x : Sensor) : (setSens s k x).glb = s.glb := rfl
@[simp] theorem setSens_before (s : State) (k : Nat) (x : Sensor) : (setSens s k x).before = s.before := rfl
@[simp] theorem setSens_marks (s : State) (k : Nat) (x : Sensor) : (setSens s k x).marks = s.marks := rfl
@[simp] theorem setSens_same (s : State) (k : Nat) (x : Sensor) : sensOf (setSens s k x) k = x := by simp [sensOf, setSens]
@[simp] theorem setSens_ne (s : State) {k j : Nat} (x : Sensor) (h : j ≠ k) : sensOf (setSens s k x) j = sensOf s j := by simp [sensOf, setSens, h]
@[simp] theorem setPol_pending (s : State) (k : Nat) (x : Policy421) : (setPol s k x).pending = s.pending := rfl
@[simp] theorem setPol_now (s : State) (k : Nat) (x : Policy421) : (setPol s k x).now = s.now := rfl
@[simp] theorem setPol_frame (s : State) (k : Nat) (x : Policy421) : (setPol s k x).frame = s.frame := rfl
@[simp] theorem setPol_framed (s : State) (k : Nat) (x : Policy421) : (setPol s k x).framed = s.framed := rfl
@[simp] theorem setPol_free (s : State) (k : Nat) (x : Policy421) : (setPol s k x).free = s.free := rfl
@[simp] theorem setPol_rf (s : State) (k : Nat) (x : Policy421) : (setPol s k x).rf = s.rf := rfl
@[simp] theorem setPol_rfF (s : State) (k : Nat) (x : Policy421) : (setPol s k x).rfF = s.rfF := rfl
@[simp] theorem setPol_wick (s : State) (k : Nat) (x : Policy421) : (setPol s k x).wick = s.wick := rfl
@[simp] theorem setPol_llt (s : State) (k : Nat) (x : Policy421) : (setPol s k x).llt = s.llt := rfl
@[simp] theorem setPol_moist (s : State) (k : Nat) (x : Policy421) : (setPol s k x).moist = s.moist := rfl
@[simp] theorem setPol_col (s : State) (k : Nat) (x : Policy421) : (setPol s k x).col = s.col := rfl
@[simp] theorem setPol_eng (s : State) (k : Nat) (x : Policy421) : (setPol s k x).eng = s.eng := rfl
@[simp] theorem setPol_loop (s : State) (k : Nat) (x : Policy421) : (setPol s k x).loop = s.loop := rfl
@[simp] theorem setPol_motor (s : State) (k : Nat) (x : Policy421) : (setPol s k x).motor = s.motor := rfl
@[simp] theorem setPol_aisle (s : State) (k : Nat) (x : Policy421) : (setPol s k x).aisle = s.aisle := rfl
@[simp] theorem setPol_tx (s : State) (k : Nat) (x : Policy421) : (setPol s k x).tx = s.tx := rfl
@[simp] theorem setPol_sol (s : State) (k : Nat) (x : Policy421) : (setPol s k x).sol = s.sol := rfl
@[simp] theorem setPol_mkt (s : State) (k : Nat) (x : Policy421) : (setPol s k x).mkt = s.mkt := rfl
@[simp] theorem setPol_tal (s : State) (k : Nat) (x : Policy421) : (setPol s k x).tal = s.tal := rfl
@[simp] theorem setPol_rec (s : State) (k : Nat) (x : Policy421) : (setPol s k x).rec_ = s.rec_ := rfl
@[simp] theorem setPol_pair (s : State) (k : Nat) (x : Policy421) : (setPol s k x).pair = s.pair := rfl
@[simp] theorem setPol_hld (s : State) (k : Nat) (x : Policy421) : (setPol s k x).hld = s.hld := rfl
@[simp] theorem setPol_snf (s : State) (k : Nat) (x : Policy421) : (setPol s k x).snf = s.snf := rfl
@[simp] theorem setPol_mgt (s : State) (k : Nat) (x : Policy421) : (setPol s k x).mgt = s.mgt := rfl
@[simp] theorem setPol_wax (s : State) (k : Nat) (x : Policy421) : (setPol s k x).wax = s.wax := rfl
@[simp] theorem setPol_rlt (s : State) (k : Nat) (x : Policy421) : (setPol s k x).rlt = s.rlt := rfl
@[simp] theorem setPol_mon (s : State) (k : Nat) (x : Policy421) : (setPol s k x).mon = s.mon := rfl
@[simp] theorem setPol_glb (s : State) (k : Nat) (x : Policy421) : (setPol s k x).glb = s.glb := rfl
@[simp] theorem setPol_before (s : State) (k : Nat) (x : Policy421) : (setPol s k x).before = s.before := rfl
@[simp] theorem setPol_marks (s : State) (k : Nat) (x : Policy421) : (setPol s k x).marks = s.marks := rfl
@[simp] theorem setPol_same (s : State) (k : Nat) (x : Policy421) : polOf (setPol s k x) k = x := by simp [polOf, setPol]
@[simp] theorem setPol_ne (s : State) {k j : Nat} (x : Policy421) (h : j ≠ k) : polOf (setPol s k x) j = polOf s j := by simp [polOf, setPol, h]

end Sys2Proof.Machine
end

