-- ==== Sys2Proof/Laws/Ops.lean ====
section
/-!
SUPPORT. What the shared operations over registers, event records and access reports do, and all they change.
-/
namespace Sys2Proof.Machine

open Sys2Proof

/-! ## Register words -/

@[simp] theorem regW_setRegW_same (s : State) (r : RegName) (i : Nat) (v : W32) : regW (setRegW s r i v) r i = v := by
  simp [regW, setRegW]

theorem regW_setRegW_ne (s : State) {r r' : RegName} {i j : Nat} (v : W32) (h : regAddr r i ≠ regAddr r' j) :
    regW (setRegW s r i v) r' j = regW s r' j := by
  simp [regW, setRegW, Ne.symm h]

@[simp] theorem regW_putReg_same (s : State) (r : RegName) (i : Nat) (v : W32) : regW (putReg s r i v) r i = v := by
  simp [regW, putReg]

theorem regW_putReg_ne (s : State) {r r' : RegName} {i j : Nat} (v : W32) (h : regAddr r i ≠ regAddr r' j) :
    regW (putReg s r i v) r' j = regW s r' j := by
  simp [regW, putReg, Ne.symm h]

/-- A stored word depends on the register file alone. -/
theorem regW_congr {s t : State} (h : t.rf = s.rf) (r : RegName) (i : Nat) : regW t r i = regW s r i := by simp [regW, h]

theorem regN_congr {s t : State} (h : t.rfF = s.rfF) (r : RegName) (i : Nat) : regN t r i = regN s r i := by simp [regN, h]

@[simp] theorem regW_setNow (s : State) (t : Nat) (r : RegName) (i : Nat) : regW (setNow s t) r i = regW s r i := rfl
@[simp] theorem regW_useFree (s : State) (r : RegName) (i : Nat) : regW (useFree s) r i = regW s r i := rfl
@[simp] theorem regW_setWick (s : State) (k : Nat) (x : Wick) (r : RegName) (i : Nat) : regW (setWick s k x) r i = regW s r i := rfl
@[simp] theorem regW_setSlot (s : State) (k : Nat) (x : Slot) (r : RegName) (i : Nat) : regW (setSlot s k x) r i = regW s r i := rfl
@[simp] theorem regW_setChan (s : State) (k : Nat) (x : MoistCh) (r : RegName) (i : Nat) : regW (setChan s k x) r i = regW s r i := rfl
@[simp] theorem regW_setCol (s : State) (k : Nat) (x : Column) (r : RegName) (i : Nat) : regW (setCol s k x) r i = regW s r i := rfl
@[simp] theorem regW_setDry (s : State) (k : Nat) (x : Dry) (r : RegName) (i : Nat) : regW (setDry s k x) r i = regW s r i := rfl
@[simp] theorem regW_setHeat (s : State) (k : Nat) (x : Heat) (r : RegName) (i : Nat) : regW (setHeat s k x) r i = regW s r i := rfl
@[simp] theorem regW_setAer (s : State) (k : Nat) (x : Aer) (r : RegName) (i : Nat) : regW (setAer s k x) r i = regW s r i := rfl
@[simp] theorem regW_setEng (s : State) (k : Nat) (x : Engine) (r : RegName) (i : Nat) : regW (setEng s k x) r i = regW s r i := rfl
@[simp] theorem regW_setRow (s : State) (k : Nat) (x : Row) (r : RegName) (i : Nat) : regW (setRow s k x) r i = regW s r i := rfl
@[simp] theorem regW_setBsk (s : State) (k : Nat) (x : Basket) (r : RegName) (i : Nat) : regW (setBsk s k x) r i = regW s r i := rfl
@[simp] theorem regW_setBlk (s : State) (k : Nat) (x : BlockSt) (r : RegName) (i : Nat) : regW (setBlk s k x) r i = regW s r i := rfl
@[simp] theorem regW_setTaper (s : State) (k : Nat) (x : Taper) (r : RegName) (i : Nat) : regW (setTaper s k x) r i = regW s r i := rfl
@[simp] theorem regW_setLoop (s : State) (k : Nat) (x : Loop) (r : RegName) (i : Nat) : regW (setLoop s k x) r i = regW s r i := rfl
@[simp] theorem regW_setMot (s : State) (k : Nat) (x : Motor) (r : RegName) (i : Nat) : regW (setMot s k x) r i = regW s r i := rfl
@[simp] theorem regW_setGate (s : State) (k : Nat) (x : Gate) (r : RegName) (i : Nat) : regW (setGate s k x) r i = regW s r i := rfl
@[simp] theorem regW_setRoute (s : State) (k : Nat) (x : Route) (r : RegName) (i : Nat) : regW (setRoute s k x) r i = regW s r i := rfl
@[simp] theorem regW_setSlip (s : State) (k : Nat) (x : Slip) (r : RegName) (i : Nat) : regW (setSlip s k x) r i = regW s r i := rfl
@[simp] theorem regW_setAis (s : State) (k : Nat) (x : Aisle) (r : RegName) (i : Nat) : regW (setAis s k x) r i = regW s r i := rfl
@[simp] theorem regW_setStl (s : State) (k : Nat) (x : Stall) (r : RegName) (i : Nat) : regW (setStl s k x) r i = regW s r i := rfl
@[simp] theorem regW_setTx (s : State) (k : Nat) (x : TxPort) (r : RegName) (i : Nat) : regW (setTx s k x) r i = regW s r i := rfl
@[simp] theorem regW_setSol (s : State) (k : Nat) (x : SolPort) (r : RegName) (i : Nat) : regW (setSol s k x) r i = regW s r i := rfl
@[simp] theorem regW_setSens (s : State) (k : Nat) (x : Sensor) (r : RegName) (i : Nat) : regW (setSens s k x) r i = regW s r i := rfl
@[simp] theorem regW_setPol (s : State) (k : Nat) (x : Policy421) (r : RegName) (i : Nat) : regW (setPol s k x) r i = regW s r i := rfl
@[simp] theorem wickOf_setNow (s : State) (t : Nat) (k : Nat) : wickOf (setNow s t) k = wickOf s k := rfl
@[simp] theorem slotOf_setNow (s : State) (t : Nat) (k : Nat) : slotOf (setNow s t) k = slotOf s k := rfl
@[simp] theorem chanOf_setNow (s : State) (t : Nat) (k : Nat) : chanOf (setNow s t) k = chanOf s k := rfl
@[simp] theorem colOf_setNow (s : State) (t : Nat) (k : Nat) : colOf (setNow s t) k = colOf s k := rfl
@[simp] theorem dryOf_setNow (s : State) (t : Nat) (k : Nat) : dryOf (setNow s t) k = dryOf s k := rfl
@[simp] theorem heatOf_setNow (s : State) (t : Nat) (k : Nat) : heatOf (setNow s t) k = heatOf s k := rfl
@[simp] theorem aerOf_setNow (s : State) (t : Nat) (k : Nat) : aerOf (setNow s t) k = aerOf s k := rfl
@[simp] theorem engOf_setNow (s : State) (t : Nat) (k : Nat) : engOf (setNow s t) k = engOf s k := rfl
@[simp] theorem rowOf_setNow (s : State) (t : Nat) (k : Nat) : rowOf (setNow s t) k = rowOf s k := rfl
@[simp] theorem bskOf_setNow (s : State) (t : Nat) (k : Nat) : bskOf (setNow s t) k = bskOf s k := rfl
@[simp] theorem blkOf_setNow (s : State) (t : Nat) (k : Nat) : blkOf (setNow s t) k = blkOf s k := rfl
@[simp] theorem taperOf_setNow (s : State) (t : Nat) (k : Nat) : taperOf (setNow s t) k = taperOf s k := rfl
@[simp] theorem loopOf_setNow (s : State) (t : Nat) (k : Nat) : loopOf (setNow s t) k = loopOf s k := rfl
@[simp] theorem motOf_setNow (s : State) (t : Nat) (k : Nat) : motOf (setNow s t) k = motOf s k := rfl
@[simp] theorem gateOf_setNow (s : State) (t : Nat) (k : Nat) : gateOf (setNow s t) k = gateOf s k := rfl
@[simp] theorem routeOf_setNow (s : State) (t : Nat) (k : Nat) : routeOf (setNow s t) k = routeOf s k := rfl
@[simp] theorem slipOf_setNow (s : State) (t : Nat) (k : Nat) : slipOf (setNow s t) k = slipOf s k := rfl
@[simp] theorem aisOf_setNow (s : State) (t : Nat) (k : Nat) : aisOf (setNow s t) k = aisOf s k := rfl
@[simp] theorem stlOf_setNow (s : State) (t : Nat) (k : Nat) : stlOf (setNow s t) k = stlOf s k := rfl
@[simp] theorem txOf_setNow (s : State) (t : Nat) (k : Nat) : txOf (setNow s t) k = txOf s k := rfl
@[simp] theorem solOf_setNow (s : State) (t : Nat) (k : Nat) : solOf (setNow s t) k = solOf s k := rfl
@[simp] theorem sensOf_setNow (s : State) (t : Nat) (k : Nat) : sensOf (setNow s t) k = sensOf s k := rfl
@[simp] theorem polOf_setNow (s : State) (t : Nat) (k : Nat) : polOf (setNow s t) k = polOf s k := rfl
@[simp] theorem regF_setNow (s : State) (t : Nat) (r : RegName) (i lo n : Nat) : regF (setNow s t) r i lo n = regF s r i lo n := rfl
@[simp] theorem regI_setNow (s : State) (t : Nat) (r : RegName) (i lo n : Nat) : regI (setNow s t) r i lo n = regI s r i lo n := rfl
@[simp] theorem regB_setNow (s : State) (t : Nat) (r : RegName) (i b : Nat) : regB (setNow s t) r i b = regB s r i b := rfl
@[simp] theorem regN_setNow (s : State) (t : Nat) (r : RegName) (i : Nat) : regN (setNow s t) r i = regN s r i := rfl
@[simp] theorem regNF_setNow (s : State) (t : Nat) (r : RegName) (i lo n : Nat) : regNF (setNow s t) r i lo n = regNF s r i lo n := rfl
@[simp] theorem regNI_setNow (s : State) (t : Nat) (r : RegName) (i lo n : Nat) : regNI (setNow s t) r i lo n = regNI s r i lo n := rfl
@[simp] theorem regNB_setNow (s : State) (t : Nat) (r : RegName) (i b : Nat) : regNB (setNow s t) r i b = regNB s r i b := rfl
@[simp] theorem reg64_setNow (s : State) (t : Nat) (lo hi : RegName) (i : Nat) : reg64 (setNow s t) lo hi i = reg64 s lo hi i := rfl
@[simp] theorem wickKind_setNow (s : State) (t : Nat) (w : Nat) : wickKind (setNow s t) w = wickKind s w := rfl
@[simp] theorem driving_setNow (s : State) (t : Nat)  : driving (setNow s t)  = driving s  := rfl
@[simp] theorem started_setNow (s : State) (t : Nat)  : started (setNow s t)  = started s  := rfl
@[simp] theorem relit_setNow (s : State) (t : Nat)  : relit (setNow s t)  = relit s  := rfl
@[simp] theorem pairActs_setNow (s : State) (t : Nat)  : pairActs (setNow s t)  = pairActs s  := rfl
@[simp] theorem lltLive_setNow (s : State) (t : Nat)  : lltLive (setNow s t)  = lltLive s  := rfl
@[simp] theorem coreRuns_setNow (s : State) (t : Nat)  : coreRuns (setNow s t)  = coreRuns s  := rfl
@[simp] theorem stillNs_setNow (s : State) (t : Nat) (w : Nat) : stillNs (setNow s t) w = stillNs s w := rfl
@[simp] theorem wickOf_useFree (s : State) (k : Nat) : wickOf (useFree s) k = wickOf s k := rfl
@[simp] theorem slotOf_useFree (s : State) (k : Nat) : slotOf (useFree s) k = slotOf s k := rfl
@[simp] theorem chanOf_useFree (s : State) (k : Nat) : chanOf (useFree s) k = chanOf s k := rfl
@[simp] theorem colOf_useFree (s : State) (k : Nat) : colOf (useFree s) k = colOf s k := rfl
@[simp] theorem dryOf_useFree (s : State) (k : Nat) : dryOf (useFree s) k = dryOf s k := rfl
@[simp] theorem heatOf_useFree (s : State) (k : Nat) : heatOf (useFree s) k = heatOf s k := rfl
@[simp] theorem aerOf_useFree (s : State) (k : Nat) : aerOf (useFree s) k = aerOf s k := rfl
@[simp] theorem engOf_useFree (s : State) (k : Nat) : engOf (useFree s) k = engOf s k := rfl
@[simp] theorem rowOf_useFree (s : State) (k : Nat) : rowOf (useFree s) k = rowOf s k := rfl
@[simp] theorem bskOf_useFree (s : State) (k : Nat) : bskOf (useFree s) k = bskOf s k := rfl
@[simp] theorem blkOf_useFree (s : State) (k : Nat) : blkOf (useFree s) k = blkOf s k := rfl
@[simp] theorem taperOf_useFree (s : State) (k : Nat) : taperOf (useFree s) k = taperOf s k := rfl
@[simp] theorem loopOf_useFree (s : State) (k : Nat) : loopOf (useFree s) k = loopOf s k := rfl
@[simp] theorem motOf_useFree (s : State) (k : Nat) : motOf (useFree s) k = motOf s k := rfl
@[simp] theorem gateOf_useFree (s : State) (k : Nat) : gateOf (useFree s) k = gateOf s k := rfl
@[simp] theorem routeOf_useFree (s : State) (k : Nat) : routeOf (useFree s) k = routeOf s k := rfl
@[simp] theorem slipOf_useFree (s : State) (k : Nat) : slipOf (useFree s) k = slipOf s k := rfl
@[simp] theorem aisOf_useFree (s : State) (k : Nat) : aisOf (useFree s) k = aisOf s k := rfl
@[simp] theorem stlOf_useFree (s : State) (k : Nat) : stlOf (useFree s) k = stlOf s k := rfl
@[simp] theorem txOf_useFree (s : State) (k : Nat) : txOf (useFree s) k = txOf s k := rfl
@[simp] theorem solOf_useFree (s : State) (k : Nat) : solOf (useFree s) k = solOf s k := rfl
@[simp] theorem sensOf_useFree (s : State) (k : Nat) : sensOf (useFree s) k = sensOf s k := rfl
@[simp] theorem polOf_useFree (s : State) (k : Nat) : polOf (useFree s) k = polOf s k := rfl
@[simp] theorem regF_useFree (s : State) (r : RegName) (i lo n : Nat) : regF (useFree s) r i lo n = regF s r i lo n := rfl
@[simp] theorem regI_useFree (s : State) (r : RegName) (i lo n : Nat) : regI (useFree s) r i lo n = regI s r i lo n := rfl
@[simp] theorem regB_useFree (s : State) (r : RegName) (i b : Nat) : regB (useFree s) r i b = regB s r i b := rfl
@[simp] theorem regN_useFree (s : State) (r : RegName) (i : Nat) : regN (useFree s) r i = regN s r i := rfl
@[simp] theorem regNF_useFree (s : State) (r : RegName) (i lo n : Nat) : regNF (useFree s) r i lo n = regNF s r i lo n := rfl
@[simp] theorem regNI_useFree (s : State) (r : RegName) (i lo n : Nat) : regNI (useFree s) r i lo n = regNI s r i lo n := rfl
@[simp] theorem regNB_useFree (s : State) (r : RegName) (i b : Nat) : regNB (useFree s) r i b = regNB s r i b := rfl
@[simp] theorem reg64_useFree (s : State) (lo hi : RegName) (i : Nat) : reg64 (useFree s) lo hi i = reg64 s lo hi i := rfl
@[simp] theorem wickKind_useFree (s : State) (w : Nat) : wickKind (useFree s) w = wickKind s w := rfl
@[simp] theorem driving_useFree (s : State)  : driving (useFree s)  = driving s  := rfl
@[simp] theorem started_useFree (s : State)  : started (useFree s)  = started s  := rfl
@[simp] theorem relit_useFree (s : State)  : relit (useFree s)  = relit s  := rfl
@[simp] theorem pairActs_useFree (s : State)  : pairActs (useFree s)  = pairActs s  := rfl
@[simp] theorem lltLive_useFree (s : State)  : lltLive (useFree s)  = lltLive s  := rfl
@[simp] theorem coreRuns_useFree (s : State)  : coreRuns (useFree s)  = coreRuns s  := rfl
@[simp] theorem stillNs_useFree (s : State) (w : Nat) : stillNs (useFree s) w = stillNs s w := rfl

/-! ## Sticky bits, event records, access reports -/

@[simp] theorem setSticky_pending (s : State) (r : RegName) (i : Nat) (m : W32) : (setSticky s r i m).pending = s.pending := by simp [setSticky]
@[simp] theorem setSticky_now (s : State) (r : RegName) (i : Nat) (m : W32) : (setSticky s r i m).now = s.now := by simp [setSticky]
@[simp] theorem setSticky_frame (s : State) (r : RegName) (i : Nat) (m : W32) : (setSticky s r i m).frame = s.frame := by simp [setSticky]
@[simp] theorem setSticky_framed (s : State) (r : RegName) (i : Nat) (m : W32) : (setSticky s r i m).framed = s.framed := by simp [setSticky]
@[simp] theorem setSticky_free (s : State) (r : RegName) (i : Nat) (m : W32) : (setSticky s r i m).free = s.free := by simp [setSticky]
@[simp] theorem setSticky_rfF (s : State) (r : RegName) (i : Nat) (m : W32) : (setSticky s r i m).rfF = s.rfF := by simp [setSticky]
@[simp] theorem setSticky_wick (s : State) (r : RegName) (i : Nat) (m : W32) : (setSticky s r i m).wick = s.wick := by simp [setSticky]
@[simp] theorem setSticky_llt (s : State) (r : RegName) (i : Nat) (m : W32) : (setSticky s r i m).llt = s.llt := by simp [setSticky]
@[simp] theorem setSticky_moist (s : State) (r : RegName) (i : Nat) (m : W32) : (setSticky s r i m).moist = s.moist := by simp [setSticky]
@[simp] theorem setSticky_col (s : State) (r : RegName) (i : Nat) (m : W32) : (setSticky s r i m).col = s.col := by simp [setSticky]
@[simp] theorem setSticky_eng (s : State) (r : RegName) (i : Nat) (m : W32) : (setSticky s r i m).eng = s.eng := by simp [setSticky]
@[simp] theorem setSticky_loop (s : State) (r : RegName) (i : Nat) (m : W32) : (setSticky s r i m).loop = s.loop := by simp [setSticky]
@[simp] theorem setSticky_motor (s : State) (r : RegName) (i : Nat) (m : W32) : (setSticky s r i m).motor = s.motor := by simp [setSticky]
@[simp] theorem setSticky_aisle (s : State) (r : RegName) (i : Nat) (m : W32) : (setSticky s r i m).aisle = s.aisle := by simp [setSticky]
@[simp] theorem setSticky_tx (s : State) (r : RegName) (i : Nat) (m : W32) : (setSticky s r i m).tx = s.tx := by simp [setSticky]
@[simp] theorem setSticky_sol (s : State) (r : RegName) (i : Nat) (m : W32) : (setSticky s r i m).sol = s.sol := by simp [setSticky]
@[simp] theorem setSticky_mkt (s : State) (r : RegName) (i : Nat) (m : W32) : (setSticky s r i m).mkt = s.mkt := by simp [setSticky]
@[simp] theorem setSticky_tal (s : State) (r : RegName) (i : Nat) (m : W32) : (setSticky s r i m).tal = s.tal := by simp [setSticky]
@[simp] theorem setSticky_rec (s : State) (r : RegName) (i : Nat) (m : W32) : (setSticky s r i m).rec_ = s.rec_ := by simp [setSticky]
@[simp] theorem setSticky_pair (s : State) (r : RegName) (i : Nat) (m : W32) : (setSticky s r i m).pair = s.pair := by simp [setSticky]
@[simp] theorem setSticky_hld (s : State) (r : RegName) (i : Nat) (m : W32) : (setSticky s r i m).hld = s.hld := by simp [setSticky]
@[simp] theorem setSticky_snf (s : State) (r : RegName) (i : Nat) (m : W32) : (setSticky s r i m).snf = s.snf := by simp [setSticky]
@[simp] theorem setSticky_thr (s : State) (r : RegName) (i : Nat) (m : W32) : (setSticky s r i m).thr = s.thr := by simp [setSticky]
@[simp] theorem setSticky_mgt (s : State) (r : RegName) (i : Nat) (m : W32) : (setSticky s r i m).mgt = s.mgt := by simp [setSticky]
@[simp] theorem setSticky_wax (s : State) (r : RegName) (i : Nat) (m : W32) : (setSticky s r i m).wax = s.wax := by simp [setSticky]
@[simp] theorem setSticky_rlt (s : State) (r : RegName) (i : Nat) (m : W32) : (setSticky s r i m).rlt = s.rlt := by simp [setSticky]
@[simp] theorem setSticky_mon (s : State) (r : RegName) (i : Nat) (m : W32) : (setSticky s r i m).mon = s.mon := by simp [setSticky]
@[simp] theorem setSticky_glb (s : State) (r : RegName) (i : Nat) (m : W32) : (setSticky s r i m).glb = s.glb := by simp [setSticky]
@[simp] theorem setSticky_before (s : State) (r : RegName) (i : Nat) (m : W32) : (setSticky s r i m).before = s.before := by simp [setSticky]
@[simp] theorem setSticky_marks (s : State) (r : RegName) (i : Nat) (m : W32) : (setSticky s r i m).marks = s.marks := by simp [setSticky]
@[simp] theorem stick_pending (s : State) (r : RegName) (i b : Nat) : (stick s r i b).pending = s.pending := by simp [stick]
@[simp] theorem stick_now (s : State) (r : RegName) (i b : Nat) : (stick s r i b).now = s.now := by simp [stick]
@[simp] theorem stick_frame (s : State) (r : RegName) (i b : Nat) : (stick s r i b).frame = s.frame := by simp [stick]
@[simp] theorem stick_framed (s : State) (r : RegName) (i b : Nat) : (stick s r i b).framed = s.framed := by simp [stick]
@[simp] theorem stick_free (s : State) (r : RegName) (i b : Nat) : (stick s r i b).free = s.free := by simp [stick]
@[simp] theorem stick_rfF (s : State) (r : RegName) (i b : Nat) : (stick s r i b).rfF = s.rfF := by simp [stick]
@[simp] theorem stick_wick (s : State) (r : RegName) (i b : Nat) : (stick s r i b).wick = s.wick := by simp [stick]
@[simp] theorem stick_llt (s : State) (r : RegName) (i b : Nat) : (stick s r i b).llt = s.llt := by simp [stick]
@[simp] theorem stick_moist (s : State) (r : RegName) (i b : Nat) : (stick s r i b).moist = s.moist := by simp [stick]
@[simp] theorem stick_col (s : State) (r : RegName) (i b : Nat) : (stick s r i b).col = s.col := by simp [stick]
@[simp] theorem stick_eng (s : State) (r : RegName) (i b : Nat) : (stick s r i b).eng = s.eng := by simp [stick]
@[simp] theorem stick_loop (s : State) (r : RegName) (i b : Nat) : (stick s r i b).loop = s.loop := by simp [stick]
@[simp] theorem stick_motor (s : State) (r : RegName) (i b : Nat) : (stick s r i b).motor = s.motor := by simp [stick]
@[simp] theorem stick_aisle (s : State) (r : RegName) (i b : Nat) : (stick s r i b).aisle = s.aisle := by simp [stick]
@[simp] theorem stick_tx (s : State) (r : RegName) (i b : Nat) : (stick s r i b).tx = s.tx := by simp [stick]
@[simp] theorem stick_sol (s : State) (r : RegName) (i b : Nat) : (stick s r i b).sol = s.sol := by simp [stick]
@[simp] theorem stick_mkt (s : State) (r : RegName) (i b : Nat) : (stick s r i b).mkt = s.mkt := by simp [stick]
@[simp] theorem stick_tal (s : State) (r : RegName) (i b : Nat) : (stick s r i b).tal = s.tal := by simp [stick]
@[simp] theorem stick_rec (s : State) (r : RegName) (i b : Nat) : (stick s r i b).rec_ = s.rec_ := by simp [stick]
@[simp] theorem stick_pair (s : State) (r : RegName) (i b : Nat) : (stick s r i b).pair = s.pair := by simp [stick]
@[simp] theorem stick_hld (s : State) (r : RegName) (i b : Nat) : (stick s r i b).hld = s.hld := by simp [stick]
@[simp] theorem stick_snf (s : State) (r : RegName) (i b : Nat) : (stick s r i b).snf = s.snf := by simp [stick]
@[simp] theorem stick_thr (s : State) (r : RegName) (i b : Nat) : (stick s r i b).thr = s.thr := by simp [stick]
@[simp] theorem stick_mgt (s : State) (r : RegName) (i b : Nat) : (stick s r i b).mgt = s.mgt := by simp [stick]
@[simp] theorem stick_wax (s : State) (r : RegName) (i b : Nat) : (stick s r i b).wax = s.wax := by simp [stick]
@[simp] theorem stick_rlt (s : State) (r : RegName) (i b : Nat) : (stick s r i b).rlt = s.rlt := by simp [stick]
@[simp] theorem stick_mon (s : State) (r : RegName) (i b : Nat) : (stick s r i b).mon = s.mon := by simp [stick]
@[simp] theorem stick_glb (s : State) (r : RegName) (i b : Nat) : (stick s r i b).glb = s.glb := by simp [stick]
@[simp] theorem stick_before (s : State) (r : RegName) (i b : Nat) : (stick s r i b).before = s.before := by simp [stick]
@[simp] theorem stick_marks (s : State) (r : RegName) (i b : Nat) : (stick s r i b).marks = s.marks := by simp [stick]
@[simp] theorem setRegF_pending (s : State) (r : RegName) (i lo n x : Nat) : (setRegF s r i lo n x).pending = s.pending := by simp [setRegF]
@[simp] theorem setRegF_now (s : State) (r : RegName) (i lo n x : Nat) : (setRegF s r i lo n x).now = s.now := by simp [setRegF]
@[simp] theorem setRegF_frame (s : State) (r : RegName) (i lo n x : Nat) : (setRegF s r i lo n x).frame = s.frame := by simp [setRegF]
@[simp] theorem setRegF_framed (s : State) (r : RegName) (i lo n x : Nat) : (setRegF s r i lo n x).framed = s.framed := by simp [setRegF]
@[simp] theorem setRegF_free (s : State) (r : RegName) (i lo n x : Nat) : (setRegF s r i lo n x).free = s.free := by simp [setRegF]
@[simp] theorem setRegF_rfF (s : State) (r : RegName) (i lo n x : Nat) : (setRegF s r i lo n x).rfF = s.rfF := by simp [setRegF]
@[simp] theorem setRegF_wick (s : State) (r : RegName) (i lo n x : Nat) : (setRegF s r i lo n x).wick = s.wick := by simp [setRegF]
@[simp] theorem setRegF_llt (s : State) (r : RegName) (i lo n x : Nat) : (setRegF s r i lo n x).llt = s.llt := by simp [setRegF]
@[simp] theorem setRegF_moist (s : State) (r : RegName) (i lo n x : Nat) : (setRegF s r i lo n x).moist = s.moist := by simp [setRegF]
@[simp] theorem setRegF_col (s : State) (r : RegName) (i lo n x : Nat) : (setRegF s r i lo n x).col = s.col := by simp [setRegF]
@[simp] theorem setRegF_eng (s : State) (r : RegName) (i lo n x : Nat) : (setRegF s r i lo n x).eng = s.eng := by simp [setRegF]
@[simp] theorem setRegF_loop (s : State) (r : RegName) (i lo n x : Nat) : (setRegF s r i lo n x).loop = s.loop := by simp [setRegF]
@[simp] theorem setRegF_motor (s : State) (r : RegName) (i lo n x : Nat) : (setRegF s r i lo n x).motor = s.motor := by simp [setRegF]
@[simp] theorem setRegF_aisle (s : State) (r : RegName) (i lo n x : Nat) : (setRegF s r i lo n x).aisle = s.aisle := by simp [setRegF]
@[simp] theorem setRegF_tx (s : State) (r : RegName) (i lo n x : Nat) : (setRegF s r i lo n x).tx = s.tx := by simp [setRegF]
@[simp] theorem setRegF_sol (s : State) (r : RegName) (i lo n x : Nat) : (setRegF s r i lo n x).sol = s.sol := by simp [setRegF]
@[simp] theorem setRegF_mkt (s : State) (r : RegName) (i lo n x : Nat) : (setRegF s r i lo n x).mkt = s.mkt := by simp [setRegF]
@[simp] theorem setRegF_tal (s : State) (r : RegName) (i lo n x : Nat) : (setRegF s r i lo n x).tal = s.tal := by simp [setRegF]
@[simp] theorem setRegF_rec (s : State) (r : RegName) (i lo n x : Nat) : (setRegF s r i lo n x).rec_ = s.rec_ := by simp [setRegF]
@[simp] theorem setRegF_pair (s : State) (r : RegName) (i lo n x : Nat) : (setRegF s r i lo n x).pair = s.pair := by simp [setRegF]
@[simp] theorem setRegF_hld (s : State) (r : RegName) (i lo n x : Nat) : (setRegF s r i lo n x).hld = s.hld := by simp [setRegF]
@[simp] theorem setRegF_snf (s : State) (r : RegName) (i lo n x : Nat) : (setRegF s r i lo n x).snf = s.snf := by simp [setRegF]
@[simp] theorem setRegF_thr (s : State) (r : RegName) (i lo n x : Nat) : (setRegF s r i lo n x).thr = s.thr := by simp [setRegF]
@[simp] theorem setRegF_mgt (s : State) (r : RegName) (i lo n x : Nat) : (setRegF s r i lo n x).mgt = s.mgt := by simp [setRegF]
@[simp] theorem setRegF_wax (s : State) (r : RegName) (i lo n x : Nat) : (setRegF s r i lo n x).wax = s.wax := by simp [setRegF]
@[simp] theorem setRegF_rlt (s : State) (r : RegName) (i lo n x : Nat) : (setRegF s r i lo n x).rlt = s.rlt := by simp [setRegF]
@[simp] theorem setRegF_mon (s : State) (r : RegName) (i lo n x : Nat) : (setRegF s r i lo n x).mon = s.mon := by simp [setRegF]
@[simp] theorem setRegF_glb (s : State) (r : RegName) (i lo n x : Nat) : (setRegF s r i lo n x).glb = s.glb := by simp [setRegF]
@[simp] theorem setRegF_before (s : State) (r : RegName) (i lo n x : Nat) : (setRegF s r i lo n x).before = s.before := by simp [setRegF]
@[simp] theorem setRegF_marks (s : State) (r : RegName) (i lo n x : Nat) : (setRegF s r i lo n x).marks = s.marks := by simp [setRegF]
@[simp] theorem logAt_pending (s : State) (t : Nat) (src : EvSrc) (name : EventName) (data conts : Nat) : (logAt s t src name data conts).pending = s.pending := by unfold logAt; repeat' split <;> simp
@[simp] theorem logAt_now (s : State) (t : Nat) (src : EvSrc) (name : EventName) (data conts : Nat) : (logAt s t src name data conts).now = s.now := by unfold logAt; repeat' split <;> simp
@[simp] theorem logAt_frame (s : State) (t : Nat) (src : EvSrc) (name : EventName) (data conts : Nat) : (logAt s t src name data conts).frame = s.frame := by unfold logAt; repeat' split <;> simp
@[simp] theorem logAt_framed (s : State) (t : Nat) (src : EvSrc) (name : EventName) (data conts : Nat) : (logAt s t src name data conts).framed = s.framed := by unfold logAt; repeat' split <;> simp
@[simp] theorem logAt_free (s : State) (t : Nat) (src : EvSrc) (name : EventName) (data conts : Nat) : (logAt s t src name data conts).free = s.free := by unfold logAt; repeat' split <;> simp
@[simp] theorem logAt_rfF (s : State) (t : Nat) (src : EvSrc) (name : EventName) (data conts : Nat) : (logAt s t src name data conts).rfF = s.rfF := by unfold logAt; repeat' split <;> simp
@[simp] theorem logAt_wick (s : State) (t : Nat) (src : EvSrc) (name : EventName) (data conts : Nat) : (logAt s t src name data conts).wick = s.wick := by unfold logAt; repeat' split <;> simp
@[simp] theorem logAt_llt (s : State) (t : Nat) (src : EvSrc) (name : EventName) (data conts : Nat) : (logAt s t src name data conts).llt = s.llt := by unfold logAt; repeat' split <;> simp
@[simp] theorem logAt_moist (s : State) (t : Nat) (src : EvSrc) (name : EventName) (data conts : Nat) : (logAt s t src name data conts).moist = s.moist := by unfold logAt; repeat' split <;> simp
@[simp] theorem logAt_col (s : State) (t : Nat) (src : EvSrc) (name : EventName) (data conts : Nat) : (logAt s t src name data conts).col = s.col := by unfold logAt; repeat' split <;> simp
@[simp] theorem logAt_eng (s : State) (t : Nat) (src : EvSrc) (name : EventName) (data conts : Nat) : (logAt s t src name data conts).eng = s.eng := by unfold logAt; repeat' split <;> simp
@[simp] theorem logAt_loop (s : State) (t : Nat) (src : EvSrc) (name : EventName) (data conts : Nat) : (logAt s t src name data conts).loop = s.loop := by unfold logAt; repeat' split <;> simp
@[simp] theorem logAt_motor (s : State) (t : Nat) (src : EvSrc) (name : EventName) (data conts : Nat) : (logAt s t src name data conts).motor = s.motor := by unfold logAt; repeat' split <;> simp
@[simp] theorem logAt_aisle (s : State) (t : Nat) (src : EvSrc) (name : EventName) (data conts : Nat) : (logAt s t src name data conts).aisle = s.aisle := by unfold logAt; repeat' split <;> simp
@[simp] theorem logAt_tx (s : State) (t : Nat) (src : EvSrc) (name : EventName) (data conts : Nat) : (logAt s t src name data conts).tx = s.tx := by unfold logAt; repeat' split <;> simp
@[simp] theorem logAt_sol (s : State) (t : Nat) (src : EvSrc) (name : EventName) (data conts : Nat) : (logAt s t src name data conts).sol = s.sol := by unfold logAt; repeat' split <;> simp
@[simp] theorem logAt_mkt (s : State) (t : Nat) (src : EvSrc) (name : EventName) (data conts : Nat) : (logAt s t src name data conts).mkt = s.mkt := by unfold logAt; repeat' split <;> simp
@[simp] theorem logAt_tal (s : State) (t : Nat) (src : EvSrc) (name : EventName) (data conts : Nat) : (logAt s t src name data conts).tal = s.tal := by unfold logAt; repeat' split <;> simp
@[simp] theorem logAt_pair (s : State) (t : Nat) (src : EvSrc) (name : EventName) (data conts : Nat) : (logAt s t src name data conts).pair = s.pair := by unfold logAt; repeat' split <;> simp
@[simp] theorem logAt_hld (s : State) (t : Nat) (src : EvSrc) (name : EventName) (data conts : Nat) : (logAt s t src name data conts).hld = s.hld := by unfold logAt; repeat' split <;> simp
@[simp] theorem logAt_snf (s : State) (t : Nat) (src : EvSrc) (name : EventName) (data conts : Nat) : (logAt s t src name data conts).snf = s.snf := by unfold logAt; repeat' split <;> simp
@[simp] theorem logAt_thr (s : State) (t : Nat) (src : EvSrc) (name : EventName) (data conts : Nat) : (logAt s t src name data conts).thr = s.thr := by unfold logAt; repeat' split <;> simp
@[simp] theorem logAt_mgt (s : State) (t : Nat) (src : EvSrc) (name : EventName) (data conts : Nat) : (logAt s t src name data conts).mgt = s.mgt := by unfold logAt; repeat' split <;> simp
@[simp] theorem logAt_wax (s : State) (t : Nat) (src : EvSrc) (name : EventName) (data conts : Nat) : (logAt s t src name data conts).wax = s.wax := by unfold logAt; repeat' split <;> simp
@[simp] theorem logAt_rlt (s : State) (t : Nat) (src : EvSrc) (name : EventName) (data conts : Nat) : (logAt s t src name data conts).rlt = s.rlt := by unfold logAt; repeat' split <;> simp
@[simp] theorem logAt_mon (s : State) (t : Nat) (src : EvSrc) (name : EventName) (data conts : Nat) : (logAt s t src name data conts).mon = s.mon := by unfold logAt; repeat' split <;> simp
@[simp] theorem logAt_glb (s : State) (t : Nat) (src : EvSrc) (name : EventName) (data conts : Nat) : (logAt s t src name data conts).glb = s.glb := by unfold logAt; repeat' split <;> simp
@[simp] theorem logAt_before (s : State) (t : Nat) (src : EvSrc) (name : EventName) (data conts : Nat) : (logAt s t src name data conts).before = s.before := by unfold logAt; repeat' split <;> simp
@[simp] theorem logAt_marks (s : State) (t : Nat) (src : EvSrc) (name : EventName) (data conts : Nat) : (logAt s t src name data conts).marks = s.marks := by unfold logAt; repeat' split <;> simp
@[simp] theorem logRaw_pending (s : State) (src : EvSrc) (name : EventName) (data conts : Nat) : (logRaw s src name data conts).pending = s.pending := by simp [logRaw]
@[simp] theorem logRaw_now (s : State) (src : EvSrc) (name : EventName) (data conts : Nat) : (logRaw s src name data conts).now = s.now := by simp [logRaw]
@[simp] theorem logRaw_frame (s : State) (src : EvSrc) (name : EventName) (data conts : Nat) : (logRaw s src name data conts).frame = s.frame := by simp [logRaw]
@[simp] theorem logRaw_framed (s : State) (src : EvSrc) (name : EventName) (data conts : Nat) : (logRaw s src name data conts).framed = s.framed := by simp [logRaw]
@[simp] theorem logRaw_free (s : State) (src : EvSrc) (name : EventName) (data conts : Nat) : (logRaw s src name data conts).free = s.free := by simp [logRaw]
@[simp] theorem logRaw_rfF (s : State) (src : EvSrc) (name : EventName) (data conts : Nat) : (logRaw s src name data conts).rfF = s.rfF := by simp [logRaw]
@[simp] theorem logRaw_wick (s : State) (src : EvSrc) (name : EventName) (data conts : Nat) : (logRaw s src name data conts).wick = s.wick := by simp [logRaw]
@[simp] theorem logRaw_llt (s : State) (src : EvSrc) (name : EventName) (data conts : Nat) : (logRaw s src name data conts).llt = s.llt := by simp [logRaw]
@[simp] theorem logRaw_moist (s : State) (src : EvSrc) (name : EventName) (data conts : Nat) : (logRaw s src name data conts).moist = s.moist := by simp [logRaw]
@[simp] theorem logRaw_col (s : State) (src : EvSrc) (name : EventName) (data conts : Nat) : (logRaw s src name data conts).col = s.col := by simp [logRaw]
@[simp] theorem logRaw_eng (s : State) (src : EvSrc) (name : EventName) (data conts : Nat) : (logRaw s src name data conts).eng = s.eng := by simp [logRaw]
@[simp] theorem logRaw_loop (s : State) (src : EvSrc) (name : EventName) (data conts : Nat) : (logRaw s src name data conts).loop = s.loop := by simp [logRaw]
@[simp] theorem logRaw_motor (s : State) (src : EvSrc) (name : EventName) (data conts : Nat) : (logRaw s src name data conts).motor = s.motor := by simp [logRaw]
@[simp] theorem logRaw_aisle (s : State) (src : EvSrc) (name : EventName) (data conts : Nat) : (logRaw s src name data conts).aisle = s.aisle := by simp [logRaw]
@[simp] theorem logRaw_tx (s : State) (src : EvSrc) (name : EventName) (data conts : Nat) : (logRaw s src name data conts).tx = s.tx := by simp [logRaw]
@[simp] theorem logRaw_sol (s : State) (src : EvSrc) (name : EventName) (data conts : Nat) : (logRaw s src name data conts).sol = s.sol := by simp [logRaw]
@[simp] theorem logRaw_mkt (s : State) (src : EvSrc) (name : EventName) (data conts : Nat) : (logRaw s src name data conts).mkt = s.mkt := by simp [logRaw]
@[simp] theorem logRaw_tal (s : State) (src : EvSrc) (name : EventName) (data conts : Nat) : (logRaw s src name data conts).tal = s.tal := by simp [logRaw]
@[simp] theorem logRaw_pair (s : State) (src : EvSrc) (name : EventName) (data conts : Nat) : (logRaw s src name data conts).pair = s.pair := by simp [logRaw]
@[simp] theorem logRaw_hld (s : State) (src : EvSrc) (name : EventName) (data conts : Nat) : (logRaw s src name data conts).hld = s.hld := by simp [logRaw]
@[simp] theorem logRaw_snf (s : State) (src : EvSrc) (name : EventName) (data conts : Nat) : (logRaw s src name data conts).snf = s.snf := by simp [logRaw]
@[simp] theorem logRaw_thr (s : State) (src : EvSrc) (name : EventName) (data conts : Nat) : (logRaw s src name data conts).thr = s.thr := by simp [logRaw]
@[simp] theorem logRaw_mgt (s : State) (src : EvSrc) (name : EventName) (data conts : Nat) : (logRaw s src name data conts).mgt = s.mgt := by simp [logRaw]
@[simp] theorem logRaw_wax (s : State) (src : EvSrc) (name : EventName) (data conts : Nat) : (logRaw s src name data conts).wax = s.wax := by simp [logRaw]
@[simp] theorem logRaw_rlt (s : State) (src : EvSrc) (name : EventName) (data conts : Nat) : (logRaw s src name data conts).rlt = s.rlt := by simp [logRaw]
@[simp] theorem logRaw_mon (s : State) (src : EvSrc) (name : EventName) (data conts : Nat) : (logRaw s src name data conts).mon = s.mon := by simp [logRaw]
@[simp] theorem logRaw_glb (s : State) (src : EvSrc) (name : EventName) (data conts : Nat) : (logRaw s src name data conts).glb = s.glb := by simp [logRaw]
@[simp] theorem logRaw_before (s : State) (src : EvSrc) (name : EventName) (data conts : Nat) : (logRaw s src name data conts).before = s.before := by simp [logRaw]
@[simp] theorem logRaw_marks (s : State) (src : EvSrc) (name : EventName) (data conts : Nat) : (logRaw s src name data conts).marks = s.marks := by simp [logRaw]
@[simp] theorem logEv_pending (s : State) (src : EvSrc) (name : EventName) (what : Nat) : (logEv s src name what).pending = s.pending := by simp [logEv]
@[simp] theorem logEv_now (s : State) (src : EvSrc) (name : EventName) (what : Nat) : (logEv s src name what).now = s.now := by simp [logEv]
@[simp] theorem logEv_frame (s : State) (src : EvSrc) (name : EventName) (what : Nat) : (logEv s src name what).frame = s.frame := by simp [logEv]
@[simp] theorem logEv_framed (s : State) (src : EvSrc) (name : EventName) (what : Nat) : (logEv s src name what).framed = s.framed := by simp [logEv]
@[simp] theorem logEv_free (s : State) (src : EvSrc) (name : EventName) (what : Nat) : (logEv s src name what).free = s.free := by simp [logEv]
@[simp] theorem logEv_rfF (s : State) (src : EvSrc) (name : EventName) (what : Nat) : (logEv s src name what).rfF = s.rfF := by simp [logEv]
@[simp] theorem logEv_wick (s : State) (src : EvSrc) (name : EventName) (what : Nat) : (logEv s src name what).wick = s.wick := by simp [logEv]
@[simp] theorem logEv_llt (s : State) (src : EvSrc) (name : EventName) (what : Nat) : (logEv s src name what).llt = s.llt := by simp [logEv]
@[simp] theorem logEv_moist (s : State) (src : EvSrc) (name : EventName) (what : Nat) : (logEv s src name what).moist = s.moist := by simp [logEv]
@[simp] theorem logEv_col (s : State) (src : EvSrc) (name : EventName) (what : Nat) : (logEv s src name what).col = s.col := by simp [logEv]
@[simp] theorem logEv_eng (s : State) (src : EvSrc) (name : EventName) (what : Nat) : (logEv s src name what).eng = s.eng := by simp [logEv]
@[simp] theorem logEv_loop (s : State) (src : EvSrc) (name : EventName) (what : Nat) : (logEv s src name what).loop = s.loop := by simp [logEv]
@[simp] theorem logEv_motor (s : State) (src : EvSrc) (name : EventName) (what : Nat) : (logEv s src name what).motor = s.motor := by simp [logEv]
@[simp] theorem logEv_aisle (s : State) (src : EvSrc) (name : EventName) (what : Nat) : (logEv s src name what).aisle = s.aisle := by simp [logEv]
@[simp] theorem logEv_tx (s : State) (src : EvSrc) (name : EventName) (what : Nat) : (logEv s src name what).tx = s.tx := by simp [logEv]
@[simp] theorem logEv_sol (s : State) (src : EvSrc) (name : EventName) (what : Nat) : (logEv s src name what).sol = s.sol := by simp [logEv]
@[simp] theorem logEv_mkt (s : State) (src : EvSrc) (name : EventName) (what : Nat) : (logEv s src name what).mkt = s.mkt := by simp [logEv]
@[simp] theorem logEv_tal (s : State) (src : EvSrc) (name : EventName) (what : Nat) : (logEv s src name what).tal = s.tal := by simp [logEv]
@[simp] theorem logEv_pair (s : State) (src : EvSrc) (name : EventName) (what : Nat) : (logEv s src name what).pair = s.pair := by simp [logEv]
@[simp] theorem logEv_hld (s : State) (src : EvSrc) (name : EventName) (what : Nat) : (logEv s src name what).hld = s.hld := by simp [logEv]
@[simp] theorem logEv_snf (s : State) (src : EvSrc) (name : EventName) (what : Nat) : (logEv s src name what).snf = s.snf := by simp [logEv]
@[simp] theorem logEv_thr (s : State) (src : EvSrc) (name : EventName) (what : Nat) : (logEv s src name what).thr = s.thr := by simp [logEv]
@[simp] theorem logEv_mgt (s : State) (src : EvSrc) (name : EventName) (what : Nat) : (logEv s src name what).mgt = s.mgt := by simp [logEv]
@[simp] theorem logEv_wax (s : State) (src : EvSrc) (name : EventName) (what : Nat) : (logEv s src name what).wax = s.wax := by simp [logEv]
@[simp] theorem logEv_rlt (s : State) (src : EvSrc) (name : EventName) (what : Nat) : (logEv s src name what).rlt = s.rlt := by simp [logEv]
@[simp] theorem logEv_mon (s : State) (src : EvSrc) (name : EventName) (what : Nat) : (logEv s src name what).mon = s.mon := by simp [logEv]
@[simp] theorem logEv_glb (s : State) (src : EvSrc) (name : EventName) (what : Nat) : (logEv s src name what).glb = s.glb := by simp [logEv]
@[simp] theorem logEv_before (s : State) (src : EvSrc) (name : EventName) (what : Nat) : (logEv s src name what).before = s.before := by simp [logEv]
@[simp] theorem logEv_marks (s : State) (src : EvSrc) (name : EventName) (what : Nat) : (logEv s src name what).marks = s.marks := by simp [logEv]
@[simp] theorem logEvAt_pending (s : State) (t : Nat) (src : EvSrc) (name : EventName) (what : Nat) : (logEvAt s t src name what).pending = s.pending := by simp [logEvAt]
@[simp] theorem logEvAt_now (s : State) (t : Nat) (src : EvSrc) (name : EventName) (what : Nat) : (logEvAt s t src name what).now = s.now := by simp [logEvAt]
@[simp] theorem logEvAt_frame (s : State) (t : Nat) (src : EvSrc) (name : EventName) (what : Nat) : (logEvAt s t src name what).frame = s.frame := by simp [logEvAt]
@[simp] theorem logEvAt_framed (s : State) (t : Nat) (src : EvSrc) (name : EventName) (what : Nat) : (logEvAt s t src name what).framed = s.framed := by simp [logEvAt]
@[simp] theorem logEvAt_free (s : State) (t : Nat) (src : EvSrc) (name : EventName) (what : Nat) : (logEvAt s t src name what).free = s.free := by simp [logEvAt]
@[simp] theorem logEvAt_rfF (s : State) (t : Nat) (src : EvSrc) (name : EventName) (what : Nat) : (logEvAt s t src name what).rfF = s.rfF := by simp [logEvAt]
@[simp] theorem logEvAt_wick (s : State) (t : Nat) (src : EvSrc) (name : EventName) (what : Nat) : (logEvAt s t src name what).wick = s.wick := by simp [logEvAt]
@[simp] theorem logEvAt_llt (s : State) (t : Nat) (src : EvSrc) (name : EventName) (what : Nat) : (logEvAt s t src name what).llt = s.llt := by simp [logEvAt]
@[simp] theorem logEvAt_moist (s : State) (t : Nat) (src : EvSrc) (name : EventName) (what : Nat) : (logEvAt s t src name what).moist = s.moist := by simp [logEvAt]
@[simp] theorem logEvAt_col (s : State) (t : Nat) (src : EvSrc) (name : EventName) (what : Nat) : (logEvAt s t src name what).col = s.col := by simp [logEvAt]
@[simp] theorem logEvAt_eng (s : State) (t : Nat) (src : EvSrc) (name : EventName) (what : Nat) : (logEvAt s t src name what).eng = s.eng := by simp [logEvAt]
@[simp] theorem logEvAt_loop (s : State) (t : Nat) (src : EvSrc) (name : EventName) (what : Nat) : (logEvAt s t src name what).loop = s.loop := by simp [logEvAt]
@[simp] theorem logEvAt_motor (s : State) (t : Nat) (src : EvSrc) (name : EventName) (what : Nat) : (logEvAt s t src name what).motor = s.motor := by simp [logEvAt]
@[simp] theorem logEvAt_aisle (s : State) (t : Nat) (src : EvSrc) (name : EventName) (what : Nat) : (logEvAt s t src name what).aisle = s.aisle := by simp [logEvAt]
@[simp] theorem logEvAt_tx (s : State) (t : Nat) (src : EvSrc) (name : EventName) (what : Nat) : (logEvAt s t src name what).tx = s.tx := by simp [logEvAt]
@[simp] theorem logEvAt_sol (s : State) (t : Nat) (src : EvSrc) (name : EventName) (what : Nat) : (logEvAt s t src name what).sol = s.sol := by simp [logEvAt]
@[simp] theorem logEvAt_mkt (s : State) (t : Nat) (src : EvSrc) (name : EventName) (what : Nat) : (logEvAt s t src name what).mkt = s.mkt := by simp [logEvAt]
@[simp] theorem logEvAt_tal (s : State) (t : Nat) (src : EvSrc) (name : EventName) (what : Nat) : (logEvAt s t src name what).tal = s.tal := by simp [logEvAt]
@[simp] theorem logEvAt_pair (s : State) (t : Nat) (src : EvSrc) (name : EventName) (what : Nat) : (logEvAt s t src name what).pair = s.pair := by simp [logEvAt]
@[simp] theorem logEvAt_hld (s : State) (t : Nat) (src : EvSrc) (name : EventName) (what : Nat) : (logEvAt s t src name what).hld = s.hld := by simp [logEvAt]
@[simp] theorem logEvAt_snf (s : State) (t : Nat) (src : EvSrc) (name : EventName) (what : Nat) : (logEvAt s t src name what).snf = s.snf := by simp [logEvAt]
@[simp] theorem logEvAt_thr (s : State) (t : Nat) (src : EvSrc) (name : EventName) (what : Nat) : (logEvAt s t src name what).thr = s.thr := by simp [logEvAt]
@[simp] theorem logEvAt_mgt (s : State) (t : Nat) (src : EvSrc) (name : EventName) (what : Nat) : (logEvAt s t src name what).mgt = s.mgt := by simp [logEvAt]
@[simp] theorem logEvAt_wax (s : State) (t : Nat) (src : EvSrc) (name : EventName) (what : Nat) : (logEvAt s t src name what).wax = s.wax := by simp [logEvAt]
@[simp] theorem logEvAt_rlt (s : State) (t : Nat) (src : EvSrc) (name : EventName) (what : Nat) : (logEvAt s t src name what).rlt = s.rlt := by simp [logEvAt]
@[simp] theorem logEvAt_mon (s : State) (t : Nat) (src : EvSrc) (name : EventName) (what : Nat) : (logEvAt s t src name what).mon = s.mon := by simp [logEvAt]
@[simp] theorem logEvAt_glb (s : State) (t : Nat) (src : EvSrc) (name : EventName) (what : Nat) : (logEvAt s t src name what).glb = s.glb := by simp [logEvAt]
@[simp] theorem logEvAt_before (s : State) (t : Nat) (src : EvSrc) (name : EventName) (what : Nat) : (logEvAt s t src name what).before = s.before := by simp [logEvAt]
@[simp] theorem logEvAt_marks (s : State) (t : Nat) (src : EvSrc) (name : EventName) (what : Nat) : (logEvAt s t src name what).marks = s.marks := by simp [logEvAt]
@[simp] theorem report_pending (s : State) (q : Requester) (addr : Nat) (a : Acc) : (report s q addr a).pending = s.pending := by unfold report; split <;> simp
@[simp] theorem report_now (s : State) (q : Requester) (addr : Nat) (a : Acc) : (report s q addr a).now = s.now := by unfold report; split <;> simp
@[simp] theorem report_frame (s : State) (q : Requester) (addr : Nat) (a : Acc) : (report s q addr a).frame = s.frame := by unfold report; split <;> simp
@[simp] theorem report_framed (s : State) (q : Requester) (addr : Nat) (a : Acc) : (report s q addr a).framed = s.framed := by unfold report; split <;> simp
@[simp] theorem report_free (s : State) (q : Requester) (addr : Nat) (a : Acc) : (report s q addr a).free = s.free := by unfold report; split <;> simp
@[simp] theorem report_rfF (s : State) (q : Requester) (addr : Nat) (a : Acc) : (report s q addr a).rfF = s.rfF := by unfold report; split <;> simp
@[simp] theorem report_wick (s : State) (q : Requester) (addr : Nat) (a : Acc) : (report s q addr a).wick = s.wick := by unfold report; split <;> simp
@[simp] theorem report_llt (s : State) (q : Requester) (addr : Nat) (a : Acc) : (report s q addr a).llt = s.llt := by unfold report; split <;> simp
@[simp] theorem report_moist (s : State) (q : Requester) (addr : Nat) (a : Acc) : (report s q addr a).moist = s.moist := by unfold report; split <;> simp
@[simp] theorem report_col (s : State) (q : Requester) (addr : Nat) (a : Acc) : (report s q addr a).col = s.col := by unfold report; split <;> simp
@[simp] theorem report_eng (s : State) (q : Requester) (addr : Nat) (a : Acc) : (report s q addr a).eng = s.eng := by unfold report; split <;> simp
@[simp] theorem report_loop (s : State) (q : Requester) (addr : Nat) (a : Acc) : (report s q addr a).loop = s.loop := by unfold report; split <;> simp
@[simp] theorem report_motor (s : State) (q : Requester) (addr : Nat) (a : Acc) : (report s q addr a).motor = s.motor := by unfold report; split <;> simp
@[simp] theorem report_aisle (s : State) (q : Requester) (addr : Nat) (a : Acc) : (report s q addr a).aisle = s.aisle := by unfold report; split <;> simp
@[simp] theorem report_tx (s : State) (q : Requester) (addr : Nat) (a : Acc) : (report s q addr a).tx = s.tx := by unfold report; split <;> simp
@[simp] theorem report_sol (s : State) (q : Requester) (addr : Nat) (a : Acc) : (report s q addr a).sol = s.sol := by unfold report; split <;> simp
@[simp] theorem report_mkt (s : State) (q : Requester) (addr : Nat) (a : Acc) : (report s q addr a).mkt = s.mkt := by unfold report; split <;> simp
@[simp] theorem report_tal (s : State) (q : Requester) (addr : Nat) (a : Acc) : (report s q addr a).tal = s.tal := by unfold report; split <;> simp
@[simp] theorem report_rec (s : State) (q : Requester) (addr : Nat) (a : Acc) : (report s q addr a).rec_ = s.rec_ := by unfold report; split <;> simp
@[simp] theorem report_pair (s : State) (q : Requester) (addr : Nat) (a : Acc) : (report s q addr a).pair = s.pair := by unfold report; split <;> simp
@[simp] theorem report_hld (s : State) (q : Requester) (addr : Nat) (a : Acc) : (report s q addr a).hld = s.hld := by unfold report; split <;> simp
@[simp] theorem report_snf (s : State) (q : Requester) (addr : Nat) (a : Acc) : (report s q addr a).snf = s.snf := by unfold report; split <;> simp
@[simp] theorem report_thr (s : State) (q : Requester) (addr : Nat) (a : Acc) : (report s q addr a).thr = s.thr := by unfold report; split <;> simp
@[simp] theorem report_mgt (s : State) (q : Requester) (addr : Nat) (a : Acc) : (report s q addr a).mgt = s.mgt := by unfold report; split <;> simp
@[simp] theorem report_wax (s : State) (q : Requester) (addr : Nat) (a : Acc) : (report s q addr a).wax = s.wax := by unfold report; split <;> simp
@[simp] theorem report_rlt (s : State) (q : Requester) (addr : Nat) (a : Acc) : (report s q addr a).rlt = s.rlt := by unfold report; split <;> simp
@[simp] theorem report_mon (s : State) (q : Requester) (addr : Nat) (a : Acc) : (report s q addr a).mon = s.mon := by unfold report; split <;> simp
@[simp] theorem report_before (s : State) (q : Requester) (addr : Nat) (a : Acc) : (report s q addr a).before = s.before := by unfold report; split <;> simp
@[simp] theorem report_marks (s : State) (q : Requester) (addr : Nat) (a : Acc) : (report s q addr a).marks = s.marks := by unfold report; split <;> simp
@[simp] theorem addItem_pending (s : State) (i : WaxItem) : (addItem s i).pending = s.pending := by rfl
@[simp] theorem addItem_now (s : State) (i : WaxItem) : (addItem s i).now = s.now := by rfl
@[simp] theorem addItem_frame (s : State) (i : WaxItem) : (addItem s i).frame = s.frame := by rfl
@[simp] theorem addItem_framed (s : State) (i : WaxItem) : (addItem s i).framed = s.framed := by rfl
@[simp] theorem addItem_free (s : State) (i : WaxItem) : (addItem s i).free = s.free := by rfl
@[simp] theorem addItem_rf (s : State) (i : WaxItem) : (addItem s i).rf = s.rf := by rfl
@[simp] theorem addItem_rfF (s : State) (i : WaxItem) : (addItem s i).rfF = s.rfF := by rfl
@[simp] theorem addItem_wick (s : State) (i : WaxItem) : (addItem s i).wick = s.wick := by rfl
@[simp] theorem addItem_llt (s : State) (i : WaxItem) : (addItem s i).llt = s.llt := by rfl
@[simp] theorem addItem_moist (s : State) (i : WaxItem) : (addItem s i).moist = s.moist := by rfl
@[simp] theorem addItem_col (s : State) (i : WaxItem) : (addItem s i).col = s.col := by rfl
@[simp] theorem addItem_eng (s : State) (i : WaxItem) : (addItem s i).eng = s.eng := by rfl
@[simp] theorem addItem_loop (s : State) (i : WaxItem) : (addItem s i).loop = s.loop := by rfl
@[simp] theorem addItem_motor (s : State) (i : WaxItem) : (addItem s i).motor = s.motor := by rfl
@[simp] theorem addItem_aisle (s : State) (i : WaxItem) : (addItem s i).aisle = s.aisle := by rfl
@[simp] theorem addItem_tx (s : State) (i : WaxItem) : (addItem s i).tx = s.tx := by rfl
@[simp] theorem addItem_sol (s : State) (i : WaxItem) : (addItem s i).sol = s.sol := by rfl
@[simp] theorem addItem_mkt (s : State) (i : WaxItem) : (addItem s i).mkt = s.mkt := by rfl
@[simp] theorem addItem_tal (s : State) (i : WaxItem) : (addItem s i).tal = s.tal := by rfl
@[simp] theorem addItem_rec (s : State) (i : WaxItem) : (addItem s i).rec_ = s.rec_ := by rfl
@[simp] theorem addItem_pair (s : State) (i : WaxItem) : (addItem s i).pair = s.pair := by rfl
@[simp] theorem addItem_hld (s : State) (i : WaxItem) : (addItem s i).hld = s.hld := by rfl
@[simp] theorem addItem_snf (s : State) (i : WaxItem) : (addItem s i).snf = s.snf := by rfl
@[simp] theorem addItem_thr (s : State) (i : WaxItem) : (addItem s i).thr = s.thr := by rfl
@[simp] theorem addItem_mgt (s : State) (i : WaxItem) : (addItem s i).mgt = s.mgt := by rfl
@[simp] theorem addItem_rlt (s : State) (i : WaxItem) : (addItem s i).rlt = s.rlt := by rfl
@[simp] theorem addItem_mon (s : State) (i : WaxItem) : (addItem s i).mon = s.mon := by rfl
@[simp] theorem addItem_glb (s : State) (i : WaxItem) : (addItem s i).glb = s.glb := by rfl
@[simp] theorem addItem_before (s : State) (i : WaxItem) : (addItem s i).before = s.before := by rfl
@[simp] theorem addItem_marks (s : State) (i : WaxItem) : (addItem s i).marks = s.marks := by rfl

@[simp] theorem regW_addItem (s : State) (i : WaxItem) (r : RegName) (k : Nat) : regW (addItem s i) r k = regW s r k := rfl


/-! ## Records of units past updates of other parts -/

@[simp] theorem wickOf_setRegW (s : State) (r : RegName) (i : Nat) (v : W32) (k : Nat) : wickOf (setRegW s r i v) k = wickOf s k := rfl
@[simp] theorem slotOf_setRegW (s : State) (r : RegName) (i : Nat) (v : W32) (k : Nat) : slotOf (setRegW s r i v) k = slotOf s k := rfl
@[simp] theorem chanOf_setRegW (s : State) (r : RegName) (i : Nat) (v : W32) (k : Nat) : chanOf (setRegW s r i v) k = chanOf s k := rfl
@[simp] theorem colOf_setRegW (s : State) (r : RegName) (i : Nat) (v : W32) (k : Nat) : colOf (setRegW s r i v) k = colOf s k := rfl
@[simp] theorem dryOf_setRegW (s : State) (r : RegName) (i : Nat) (v : W32) (k : Nat) : dryOf (setRegW s r i v) k = dryOf s k := rfl
@[simp] theorem heatOf_setRegW (s : State) (r : RegName) (i : Nat) (v : W32) (k : Nat) : heatOf (setRegW s r i v) k = heatOf s k := rfl
@[simp] theorem aerOf_setRegW (s : State) (r : RegName) (i : Nat) (v : W32) (k : Nat) : aerOf (setRegW s r i v) k = aerOf s k := rfl
@[simp] theorem engOf_setRegW (s : State) (r : RegName) (i : Nat) (v : W32) (k : Nat) : engOf (setRegW s r i v) k = engOf s k := rfl
@[simp] theorem rowOf_setRegW (s : State) (r : RegName) (i : Nat) (v : W32) (k : Nat) : rowOf (setRegW s r i v) k = rowOf s k := rfl
@[simp] theorem bskOf_setRegW (s : State) (r : RegName) (i : Nat) (v : W32) (k : Nat) : bskOf (setRegW s r i v) k = bskOf s k := rfl
@[simp] theorem blkOf_setRegW (s : State) (r : RegName) (i : Nat) (v : W32) (k : Nat) : blkOf (setRegW s r i v) k = blkOf s k := rfl
@[simp] theorem taperOf_setRegW (s : State) (r : RegName) (i : Nat) (v : W32) (k : Nat) : taperOf (setRegW s r i v) k = taperOf s k := rfl
@[simp] theorem loopOf_setRegW (s : State) (r : RegName) (i : Nat) (v : W32) (k : Nat) : loopOf (setRegW s r i v) k = loopOf s k := rfl
@[simp] theorem motOf_setRegW (s : State) (r : RegName) (i : Nat) (v : W32) (k : Nat) : motOf (setRegW s r i v) k = motOf s k := rfl
@[simp] theorem gateOf_setRegW (s : State) (r : RegName) (i : Nat) (v : W32) (k : Nat) : gateOf (setRegW s r i v) k = gateOf s k := rfl
@[simp] theorem routeOf_setRegW (s : State) (r : RegName) (i : Nat) (v : W32) (k : Nat) : routeOf (setRegW s r i v) k = routeOf s k := rfl
@[simp] theorem slipOf_setRegW (s : State) (r : RegName) (i : Nat) (v : W32) (k : Nat) : slipOf (setRegW s r i v) k = slipOf s k := rfl
@[simp] theorem aisOf_setRegW (s : State) (r : RegName) (i : Nat) (v : W32) (k : Nat) : aisOf (setRegW s r i v) k = aisOf s k := rfl
@[simp] theorem stlOf_setRegW (s : State) (r : RegName) (i : Nat) (v : W32) (k : Nat) : stlOf (setRegW s r i v) k = stlOf s k := rfl
@[simp] theorem txOf_setRegW (s : State) (r : RegName) (i : Nat) (v : W32) (k : Nat) : txOf (setRegW s r i v) k = txOf s k := rfl
@[simp] theorem solOf_setRegW (s : State) (r : RegName) (i : Nat) (v : W32) (k : Nat) : solOf (setRegW s r i v) k = solOf s k := rfl
@[simp] theorem sensOf_setRegW (s : State) (r : RegName) (i : Nat) (v : W32) (k : Nat) : sensOf (setRegW s r i v) k = sensOf s k := rfl
@[simp] theorem polOf_setRegW (s : State) (r : RegName) (i : Nat) (v : W32) (k : Nat) : polOf (setRegW s r i v) k = polOf s k := rfl
@[simp] theorem wickOf_putReg (s : State) (r : RegName) (i : Nat) (v : W32) (k : Nat) : wickOf (putReg s r i v) k = wickOf s k := rfl
@[simp] theorem slotOf_putReg (s : State) (r : RegName) (i : Nat) (v : W32) (k : Nat) : slotOf (putReg s r i v) k = slotOf s k := rfl
@[simp] theorem chanOf_putReg (s : State) (r : RegName) (i : Nat) (v : W32) (k : Nat) : chanOf (putReg s r i v) k = chanOf s k := rfl
@[simp] theorem colOf_putReg (s : State) (r : RegName) (i : Nat) (v : W32) (k : Nat) : colOf (putReg s r i v) k = colOf s k := rfl
@[simp] theorem dryOf_putReg (s : State) (r : RegName) (i : Nat) (v : W32) (k : Nat) : dryOf (putReg s r i v) k = dryOf s k := rfl
@[simp] theorem heatOf_putReg (s : State) (r : RegName) (i : Nat) (v : W32) (k : Nat) : heatOf (putReg s r i v) k = heatOf s k := rfl
@[simp] theorem aerOf_putReg (s : State) (r : RegName) (i : Nat) (v : W32) (k : Nat) : aerOf (putReg s r i v) k = aerOf s k := rfl
@[simp] theorem engOf_putReg (s : State) (r : RegName) (i : Nat) (v : W32) (k : Nat) : engOf (putReg s r i v) k = engOf s k := rfl
@[simp] theorem rowOf_putReg (s : State) (r : RegName) (i : Nat) (v : W32) (k : Nat) : rowOf (putReg s r i v) k = rowOf s k := rfl
@[simp] theorem bskOf_putReg (s : State) (r : RegName) (i : Nat) (v : W32) (k : Nat) : bskOf (putReg s r i v) k = bskOf s k := rfl
@[simp] theorem blkOf_putReg (s : State) (r : RegName) (i : Nat) (v : W32) (k : Nat) : blkOf (putReg s r i v) k = blkOf s k := rfl
@[simp] theorem taperOf_putReg (s : State) (r : RegName) (i : Nat) (v : W32) (k : Nat) : taperOf (putReg s r i v) k = taperOf s k := rfl
@[simp] theorem loopOf_putReg (s : State) (r : RegName) (i : Nat) (v : W32) (k : Nat) : loopOf (putReg s r i v) k = loopOf s k := rfl
@[simp] theorem motOf_putReg (s : State) (r : RegName) (i : Nat) (v : W32) (k : Nat) : motOf (putReg s r i v) k = motOf s k := rfl
@[simp] theorem gateOf_putReg (s : State) (r : RegName) (i : Nat) (v : W32) (k : Nat) : gateOf (putReg s r i v) k = gateOf s k := rfl
@[simp] theorem routeOf_putReg (s : State) (r : RegName) (i : Nat) (v : W32) (k : Nat) : routeOf (putReg s r i v) k = routeOf s k := rfl
@[simp] theorem slipOf_putReg (s : State) (r : RegName) (i : Nat) (v : W32) (k : Nat) : slipOf (putReg s r i v) k = slipOf s k := rfl
@[simp] theorem aisOf_putReg (s : State) (r : RegName) (i : Nat) (v : W32) (k : Nat) : aisOf (putReg s r i v) k = aisOf s k := rfl
@[simp] theorem stlOf_putReg (s : State) (r : RegName) (i : Nat) (v : W32) (k : Nat) : stlOf (putReg s r i v) k = stlOf s k := rfl
@[simp] theorem txOf_putReg (s : State) (r : RegName) (i : Nat) (v : W32) (k : Nat) : txOf (putReg s r i v) k = txOf s k := rfl
@[simp] theorem solOf_putReg (s : State) (r : RegName) (i : Nat) (v : W32) (k : Nat) : solOf (putReg s r i v) k = solOf s k := rfl
@[simp] theorem sensOf_putReg (s : State) (r : RegName) (i : Nat) (v : W32) (k : Nat) : sensOf (putReg s r i v) k = sensOf s k := rfl
@[simp] theorem polOf_putReg (s : State) (r : RegName) (i : Nat) (v : W32) (k : Nat) : polOf (putReg s r i v) k = polOf s k := rfl
@[simp] theorem wickOf_setSticky (s : State) (r : RegName) (i : Nat) (m : W32) (k : Nat) : wickOf (setSticky s r i m) k = wickOf s k := rfl
@[simp] theorem slotOf_setSticky (s : State) (r : RegName) (i : Nat) (m : W32) (k : Nat) : slotOf (setSticky s r i m) k = slotOf s k := rfl
@[simp] theorem chanOf_setSticky (s : State) (r : RegName) (i : Nat) (m : W32) (k : Nat) : chanOf (setSticky s r i m) k = chanOf s k := rfl
@[simp] theorem colOf_setSticky (s : State) (r : RegName) (i : Nat) (m : W32) (k : Nat) : colOf (setSticky s r i m) k = colOf s k := rfl
@[simp] theorem dryOf_setSticky (s : State) (r : RegName) (i : Nat) (m : W32) (k : Nat) : dryOf (setSticky s r i m) k = dryOf s k := rfl
@[simp] theorem heatOf_setSticky (s : State) (r : RegName) (i : Nat) (m : W32) (k : Nat) : heatOf (setSticky s r i m) k = heatOf s k := rfl
@[simp] theorem aerOf_setSticky (s : State) (r : RegName) (i : Nat) (m : W32) (k : Nat) : aerOf (setSticky s r i m) k = aerOf s k := rfl
@[simp] theorem engOf_setSticky (s : State) (r : RegName) (i : Nat) (m : W32) (k : Nat) : engOf (setSticky s r i m) k = engOf s k := rfl
@[simp] theorem rowOf_setSticky (s : State) (r : RegName) (i : Nat) (m : W32) (k : Nat) : rowOf (setSticky s r i m) k = rowOf s k := rfl
@[simp] theorem bskOf_setSticky (s : State) (r : RegName) (i : Nat) (m : W32) (k : Nat) : bskOf (setSticky s r i m) k = bskOf s k := rfl
@[simp] theorem blkOf_setSticky (s : State) (r : RegName) (i : Nat) (m : W32) (k : Nat) : blkOf (setSticky s r i m) k = blkOf s k := rfl
@[simp] theorem taperOf_setSticky (s : State) (r : RegName) (i : Nat) (m : W32) (k : Nat) : taperOf (setSticky s r i m) k = taperOf s k := rfl
@[simp] theorem loopOf_setSticky (s : State) (r : RegName) (i : Nat) (m : W32) (k : Nat) : loopOf (setSticky s r i m) k = loopOf s k := rfl
@[simp] theorem motOf_setSticky (s : State) (r : RegName) (i : Nat) (m : W32) (k : Nat) : motOf (setSticky s r i m) k = motOf s k := rfl
@[simp] theorem gateOf_setSticky (s : State) (r : RegName) (i : Nat) (m : W32) (k : Nat) : gateOf (setSticky s r i m) k = gateOf s k := rfl
@[simp] theorem routeOf_setSticky (s : State) (r : RegName) (i : Nat) (m : W32) (k : Nat) : routeOf (setSticky s r i m) k = routeOf s k := rfl
@[simp] theorem slipOf_setSticky (s : State) (r : RegName) (i : Nat) (m : W32) (k : Nat) : slipOf (setSticky s r i m) k = slipOf s k := rfl
@[simp] theorem aisOf_setSticky (s : State) (r : RegName) (i : Nat) (m : W32) (k : Nat) : aisOf (setSticky s r i m) k = aisOf s k := rfl
@[simp] theorem stlOf_setSticky (s : State) (r : RegName) (i : Nat) (m : W32) (k : Nat) : stlOf (setSticky s r i m) k = stlOf s k := rfl
@[simp] theorem txOf_setSticky (s : State) (r : RegName) (i : Nat) (m : W32) (k : Nat) : txOf (setSticky s r i m) k = txOf s k := rfl
@[simp] theorem solOf_setSticky (s : State) (r : RegName) (i : Nat) (m : W32) (k : Nat) : solOf (setSticky s r i m) k = solOf s k := rfl
@[simp] theorem sensOf_setSticky (s : State) (r : RegName) (i : Nat) (m : W32) (k : Nat) : sensOf (setSticky s r i m) k = sensOf s k := rfl
@[simp] theorem polOf_setSticky (s : State) (r : RegName) (i : Nat) (m : W32) (k : Nat) : polOf (setSticky s r i m) k = polOf s k := rfl
@[simp] theorem wickOf_stick (s : State) (r : RegName) (i b : Nat) (k : Nat) : wickOf (stick s r i b) k = wickOf s k := rfl
@[simp] theorem slotOf_stick (s : State) (r : RegName) (i b : Nat) (k : Nat) : slotOf (stick s r i b) k = slotOf s k := rfl
@[simp] theorem chanOf_stick (s : State) (r : RegName) (i b : Nat) (k : Nat) : chanOf (stick s r i b) k = chanOf s k := rfl
@[simp] theorem colOf_stick (s : State) (r : RegName) (i b : Nat) (k : Nat) : colOf (stick s r i b) k = colOf s k := rfl
@[simp] theorem dryOf_stick (s : State) (r : RegName) (i b : Nat) (k : Nat) : dryOf (stick s r i b) k = dryOf s k := rfl
@[simp] theorem heatOf_stick (s : State) (r : RegName) (i b : Nat) (k : Nat) : heatOf (stick s r i b) k = heatOf s k := rfl
@[simp] theorem aerOf_stick (s : State) (r : RegName) (i b : Nat) (k : Nat) : aerOf (stick s r i b) k = aerOf s k := rfl
@[simp] theorem engOf_stick (s : State) (r : RegName) (i b : Nat) (k : Nat) : engOf (stick s r i b) k = engOf s k := rfl
@[simp] theorem rowOf_stick (s : State) (r : RegName) (i b : Nat) (k : Nat) : rowOf (stick s r i b) k = rowOf s k := rfl
@[simp] theorem bskOf_stick (s : State) (r : RegName) (i b : Nat) (k : Nat) : bskOf (stick s r i b) k = bskOf s k := rfl
@[simp] theorem blkOf_stick (s : State) (r : RegName) (i b : Nat) (k : Nat) : blkOf (stick s r i b) k = blkOf s k := rfl
@[simp] theorem taperOf_stick (s : State) (r : RegName) (i b : Nat) (k : Nat) : taperOf (stick s r i b) k = taperOf s k := rfl
@[simp] theorem loopOf_stick (s : State) (r : RegName) (i b : Nat) (k : Nat) : loopOf (stick s r i b) k = loopOf s k := rfl
@[simp] theorem motOf_stick (s : State) (r : RegName) (i b : Nat) (k : Nat) : motOf (stick s r i b) k = motOf s k := rfl
@[simp] theorem gateOf_stick (s : State) (r : RegName) (i b : Nat) (k : Nat) : gateOf (stick s r i b) k = gateOf s k := rfl
@[simp] theorem routeOf_stick (s : State) (r : RegName) (i b : Nat) (k : Nat) : routeOf (stick s r i b) k = routeOf s k := rfl
@[simp] theorem slipOf_stick (s : State) (r : RegName) (i b : Nat) (k : Nat) : slipOf (stick s r i b) k = slipOf s k := rfl
@[simp] theorem aisOf_stick (s : State) (r : RegName) (i b : Nat) (k : Nat) : aisOf (stick s r i b) k = aisOf s k := rfl
@[simp] theorem stlOf_stick (s : State) (r : RegName) (i b : Nat) (k : Nat) : stlOf (stick s r i b) k = stlOf s k := rfl
@[simp] theorem txOf_stick (s : State) (r : RegName) (i b : Nat) (k : Nat) : txOf (stick s r i b) k = txOf s k := rfl
@[simp] theorem solOf_stick (s : State) (r : RegName) (i b : Nat) (k : Nat) : solOf (stick s r i b) k = solOf s k := rfl
@[simp] theorem sensOf_stick (s : State) (r : RegName) (i b : Nat) (k : Nat) : sensOf (stick s r i b) k = sensOf s k := rfl
@[simp] theorem polOf_stick (s : State) (r : RegName) (i b : Nat) (k : Nat) : polOf (stick s r i b) k = polOf s k := rfl
@[simp] theorem wickOf_setRegF (s : State) (r : RegName) (i lo n x : Nat) (k : Nat) : wickOf (setRegF s r i lo n x) k = wickOf s k := rfl
@[simp] theorem slotOf_setRegF (s : State) (r : RegName) (i lo n x : Nat) (k : Nat) : slotOf (setRegF s r i lo n x) k = slotOf s k := rfl
@[simp] theorem chanOf_setRegF (s : State) (r : RegName) (i lo n x : Nat) (k : Nat) : chanOf (setRegF s r i lo n x) k = chanOf s k := rfl
@[simp] theorem colOf_setRegF (s : State) (r : RegName) (i lo n x : Nat) (k : Nat) : colOf (setRegF s r i lo n x) k = colOf s k := rfl
@[simp] theorem dryOf_setRegF (s : State) (r : RegName) (i lo n x : Nat) (k : Nat) : dryOf (setRegF s r i lo n x) k = dryOf s k := rfl
@[simp] theorem heatOf_setRegF (s : State) (r : RegName) (i lo n x : Nat) (k : Nat) : heatOf (setRegF s r i lo n x) k = heatOf s k := rfl
@[simp] theorem aerOf_setRegF (s : State) (r : RegName) (i lo n x : Nat) (k : Nat) : aerOf (setRegF s r i lo n x) k = aerOf s k := rfl
@[simp] theorem engOf_setRegF (s : State) (r : RegName) (i lo n x : Nat) (k : Nat) : engOf (setRegF s r i lo n x) k = engOf s k := rfl
@[simp] theorem rowOf_setRegF (s : State) (r : RegName) (i lo n x : Nat) (k : Nat) : rowOf (setRegF s r i lo n x) k = rowOf s k := rfl
@[simp] theorem bskOf_setRegF (s : State) (r : RegName) (i lo n x : Nat) (k : Nat) : bskOf (setRegF s r i lo n x) k = bskOf s k := rfl
@[simp] theorem blkOf_setRegF (s : State) (r : RegName) (i lo n x : Nat) (k : Nat) : blkOf (setRegF s r i lo n x) k = blkOf s k := rfl
@[simp] theorem taperOf_setRegF (s : State) (r : RegName) (i lo n x : Nat) (k : Nat) : taperOf (setRegF s r i lo n x) k = taperOf s k := rfl
@[simp] theorem loopOf_setRegF (s : State) (r : RegName) (i lo n x : Nat) (k : Nat) : loopOf (setRegF s r i lo n x) k = loopOf s k := rfl
@[simp] theorem motOf_setRegF (s : State) (r : RegName) (i lo n x : Nat) (k : Nat) : motOf (setRegF s r i lo n x) k = motOf s k := rfl
@[simp] theorem gateOf_setRegF (s : State) (r : RegName) (i lo n x : Nat) (k : Nat) : gateOf (setRegF s r i lo n x) k = gateOf s k := rfl
@[simp] theorem routeOf_setRegF (s : State) (r : RegName) (i lo n x : Nat) (k : Nat) : routeOf (setRegF s r i lo n x) k = routeOf s k := rfl
@[simp] theorem slipOf_setRegF (s : State) (r : RegName) (i lo n x : Nat) (k : Nat) : slipOf (setRegF s r i lo n x) k = slipOf s k := rfl
@[simp] theorem aisOf_setRegF (s : State) (r : RegName) (i lo n x : Nat) (k : Nat) : aisOf (setRegF s r i lo n x) k = aisOf s k := rfl
@[simp] theorem stlOf_setRegF (s : State) (r : RegName) (i lo n x : Nat) (k : Nat) : stlOf (setRegF s r i lo n x) k = stlOf s k := rfl
@[simp] theorem txOf_setRegF (s : State) (r : RegName) (i lo n x : Nat) (k : Nat) : txOf (setRegF s r i lo n x) k = txOf s k := rfl
@[simp] theorem solOf_setRegF (s : State) (r : RegName) (i lo n x : Nat) (k : Nat) : solOf (setRegF s r i lo n x) k = solOf s k := rfl
@[simp] theorem sensOf_setRegF (s : State) (r : RegName) (i lo n x : Nat) (k : Nat) : sensOf (setRegF s r i lo n x) k = sensOf s k := rfl
@[simp] theorem polOf_setRegF (s : State) (r : RegName) (i lo n x : Nat) (k : Nat) : polOf (setRegF s r i lo n x) k = polOf s k := rfl
@[simp] theorem wickOf_addItem (s : State) (i : WaxItem) (k : Nat) : wickOf (addItem s i) k = wickOf s k := rfl
@[simp] theorem slotOf_addItem (s : State) (i : WaxItem) (k : Nat) : slotOf (addItem s i) k = slotOf s k := rfl
@[simp] theorem chanOf_addItem (s : State) (i : WaxItem) (k : Nat) : chanOf (addItem s i) k = chanOf s k := rfl
@[simp] theorem colOf_addItem (s : State) (i : WaxItem) (k : Nat) : colOf (addItem s i) k = colOf s k := rfl
@[simp] theorem dryOf_addItem (s : State) (i : WaxItem) (k : Nat) : dryOf (addItem s i) k = dryOf s k := rfl
@[simp] theorem heatOf_addItem (s : State) (i : WaxItem) (k : Nat) : heatOf (addItem s i) k = heatOf s k := rfl
@[simp] theorem aerOf_addItem (s : State) (i : WaxItem) (k : Nat) : aerOf (addItem s i) k = aerOf s k := rfl
@[simp] theorem engOf_addItem (s : State) (i : WaxItem) (k : Nat) : engOf (addItem s i) k = engOf s k := rfl
@[simp] theorem rowOf_addItem (s : State) (i : WaxItem) (k : Nat) : rowOf (addItem s i) k = rowOf s k := rfl
@[simp] theorem bskOf_addItem (s : State) (i : WaxItem) (k : Nat) : bskOf (addItem s i) k = bskOf s k := rfl
@[simp] theorem blkOf_addItem (s : State) (i : WaxItem) (k : Nat) : blkOf (addItem s i) k = blkOf s k := rfl
@[simp] theorem taperOf_addItem (s : State) (i : WaxItem) (k : Nat) : taperOf (addItem s i) k = taperOf s k := rfl
@[simp] theorem loopOf_addItem (s : State) (i : WaxItem) (k : Nat) : loopOf (addItem s i) k = loopOf s k := rfl
@[simp] theorem motOf_addItem (s : State) (i : WaxItem) (k : Nat) : motOf (addItem s i) k = motOf s k := rfl
@[simp] theorem gateOf_addItem (s : State) (i : WaxItem) (k : Nat) : gateOf (addItem s i) k = gateOf s k := rfl
@[simp] theorem routeOf_addItem (s : State) (i : WaxItem) (k : Nat) : routeOf (addItem s i) k = routeOf s k := rfl
@[simp] theorem slipOf_addItem (s : State) (i : WaxItem) (k : Nat) : slipOf (addItem s i) k = slipOf s k := rfl
@[simp] theorem aisOf_addItem (s : State) (i : WaxItem) (k : Nat) : aisOf (addItem s i) k = aisOf s k := rfl
@[simp] theorem stlOf_addItem (s : State) (i : WaxItem) (k : Nat) : stlOf (addItem s i) k = stlOf s k := rfl
@[simp] theorem txOf_addItem (s : State) (i : WaxItem) (k : Nat) : txOf (addItem s i) k = txOf s k := rfl
@[simp] theorem solOf_addItem (s : State) (i : WaxItem) (k : Nat) : solOf (addItem s i) k = solOf s k := rfl
@[simp] theorem sensOf_addItem (s : State) (i : WaxItem) (k : Nat) : sensOf (addItem s i) k = sensOf s k := rfl
@[simp] theorem polOf_addItem (s : State) (i : WaxItem) (k : Nat) : polOf (addItem s i) k = polOf s k := rfl
@[simp] theorem wickOf_logAt (s : State) (t : Nat) (src : EvSrc) (name : EventName) (data conts : Nat) (k : Nat) : wickOf (logAt s t src name data conts) k = wickOf s k := by simp [wickOf]
@[simp] theorem slotOf_logAt (s : State) (t : Nat) (src : EvSrc) (name : EventName) (data conts : Nat) (k : Nat) : slotOf (logAt s t src name data conts) k = slotOf s k := by simp [slotOf]
@[simp] theorem chanOf_logAt (s : State) (t : Nat) (src : EvSrc) (name : EventName) (data conts : Nat) (k : Nat) : chanOf (logAt s t src name data conts) k = chanOf s k := by simp [chanOf]
@[simp] theorem colOf_logAt (s : State) (t : Nat) (src : EvSrc) (name : EventName) (data conts : Nat) (k : Nat) : colOf (logAt s t src name data conts) k = colOf s k := by simp [colOf]
@[simp] theorem dryOf_logAt (s : State) (t : Nat) (src : EvSrc) (name : EventName) (data conts : Nat) (k : Nat) : dryOf (logAt s t src name data conts) k = dryOf s k := by simp [dryOf]
@[simp] theorem heatOf_logAt (s : State) (t : Nat) (src : EvSrc) (name : EventName) (data conts : Nat) (k : Nat) : heatOf (logAt s t src name data conts) k = heatOf s k := by simp [heatOf]
@[simp] theorem aerOf_logAt (s : State) (t : Nat) (src : EvSrc) (name : EventName) (data conts : Nat) (k : Nat) : aerOf (logAt s t src name data conts) k = aerOf s k := by simp [aerOf]
@[simp] theorem engOf_logAt (s : State) (t : Nat) (src : EvSrc) (name : EventName) (data conts : Nat) (k : Nat) : engOf (logAt s t src name data conts) k = engOf s k := by simp [engOf]
@[simp] theorem rowOf_logAt (s : State) (t : Nat) (src : EvSrc) (name : EventName) (data conts : Nat) (k : Nat) : rowOf (logAt s t src name data conts) k = rowOf s k := by simp [rowOf]
@[simp] theorem bskOf_logAt (s : State) (t : Nat) (src : EvSrc) (name : EventName) (data conts : Nat) (k : Nat) : bskOf (logAt s t src name data conts) k = bskOf s k := by simp [bskOf]
@[simp] theorem blkOf_logAt (s : State) (t : Nat) (src : EvSrc) (name : EventName) (data conts : Nat) (k : Nat) : blkOf (logAt s t src name data conts) k = blkOf s k := by simp [blkOf]
@[simp] theorem taperOf_logAt (s : State) (t : Nat) (src : EvSrc) (name : EventName) (data conts : Nat) (k : Nat) : taperOf (logAt s t src name data conts) k = taperOf s k := by simp [taperOf]
@[simp] theorem loopOf_logAt (s : State) (t : Nat) (src : EvSrc) (name : EventName) (data conts : Nat) (k : Nat) : loopOf (logAt s t src name data conts) k = loopOf s k := by simp [loopOf]
@[simp] theorem motOf_logAt (s : State) (t : Nat) (src : EvSrc) (name : EventName) (data conts : Nat) (k : Nat) : motOf (logAt s t src name data conts) k = motOf s k := by simp [motOf]
@[simp] theorem gateOf_logAt (s : State) (t : Nat) (src : EvSrc) (name : EventName) (data conts : Nat) (k : Nat) : gateOf (logAt s t src name data conts) k = gateOf s k := by simp [gateOf]
@[simp] theorem routeOf_logAt (s : State) (t : Nat) (src : EvSrc) (name : EventName) (data conts : Nat) (k : Nat) : routeOf (logAt s t src name data conts) k = routeOf s k := by simp [routeOf]
@[simp] theorem slipOf_logAt (s : State) (t : Nat) (src : EvSrc) (name : EventName) (data conts : Nat) (k : Nat) : slipOf (logAt s t src name data conts) k = slipOf s k := by simp [slipOf]
@[simp] theorem aisOf_logAt (s : State) (t : Nat) (src : EvSrc) (name : EventName) (data conts : Nat) (k : Nat) : aisOf (logAt s t src name data conts) k = aisOf s k := by simp [aisOf]
@[simp] theorem stlOf_logAt (s : State) (t : Nat) (src : EvSrc) (name : EventName) (data conts : Nat) (k : Nat) : stlOf (logAt s t src name data conts) k = stlOf s k := by simp [stlOf]
@[simp] theorem txOf_logAt (s : State) (t : Nat) (src : EvSrc) (name : EventName) (data conts : Nat) (k : Nat) : txOf (logAt s t src name data conts) k = txOf s k := by simp [txOf]
@[simp] theorem solOf_logAt (s : State) (t : Nat) (src : EvSrc) (name : EventName) (data conts : Nat) (k : Nat) : solOf (logAt s t src name data conts) k = solOf s k := by simp [solOf]
@[simp] theorem sensOf_logAt (s : State) (t : Nat) (src : EvSrc) (name : EventName) (data conts : Nat) (k : Nat) : sensOf (logAt s t src name data conts) k = sensOf s k := by simp [sensOf]
@[simp] theorem polOf_logAt (s : State) (t : Nat) (src : EvSrc) (name : EventName) (data conts : Nat) (k : Nat) : polOf (logAt s t src name data conts) k = polOf s k := by simp [polOf]
@[simp] theorem wickOf_logRaw (s : State) (src : EvSrc) (name : EventName) (data conts : Nat) (k : Nat) : wickOf (logRaw s src name data conts) k = wickOf s k := by simp [wickOf]
@[simp] theorem slotOf_logRaw (s : State) (src : EvSrc) (name : EventName) (data conts : Nat) (k : Nat) : slotOf (logRaw s src name data conts) k = slotOf s k := by simp [slotOf]
@[simp] theorem chanOf_logRaw (s : State) (src : EvSrc) (name : EventName) (data conts : Nat) (k : Nat) : chanOf (logRaw s src name data conts) k = chanOf s k := by simp [chanOf]
@[simp] theorem colOf_logRaw (s : State) (src : EvSrc) (name : EventName) (data conts : Nat) (k : Nat) : colOf (logRaw s src name data conts) k = colOf s k := by simp [colOf]
@[simp] theorem dryOf_logRaw (s : State) (src : EvSrc) (name : EventName) (data conts : Nat) (k : Nat) : dryOf (logRaw s src name data conts) k = dryOf s k := by simp [dryOf]
@[simp] theorem heatOf_logRaw (s : State) (src : EvSrc) (name : EventName) (data conts : Nat) (k : Nat) : heatOf (logRaw s src name data conts) k = heatOf s k := by simp [heatOf]
@[simp] theorem aerOf_logRaw (s : State) (src : EvSrc) (name : EventName) (data conts : Nat) (k : Nat) : aerOf (logRaw s src name data conts) k = aerOf s k := by simp [aerOf]
@[simp] theorem engOf_logRaw (s : State) (src : EvSrc) (name : EventName) (data conts : Nat) (k : Nat) : engOf (logRaw s src name data conts) k = engOf s k := by simp [engOf]
@[simp] theorem rowOf_logRaw (s : State) (src : EvSrc) (name : EventName) (data conts : Nat) (k : Nat) : rowOf (logRaw s src name data conts) k = rowOf s k := by simp [rowOf]
@[simp] theorem bskOf_logRaw (s : State) (src : EvSrc) (name : EventName) (data conts : Nat) (k : Nat) : bskOf (logRaw s src name data conts) k = bskOf s k := by simp [bskOf]
@[simp] theorem blkOf_logRaw (s : State) (src : EvSrc) (name : EventName) (data conts : Nat) (k : Nat) : blkOf (logRaw s src name data conts) k = blkOf s k := by simp [blkOf]
@[simp] theorem taperOf_logRaw (s : State) (src : EvSrc) (name : EventName) (data conts : Nat) (k : Nat) : taperOf (logRaw s src name data conts) k = taperOf s k := by simp [taperOf]
@[simp] theorem loopOf_logRaw (s : State) (src : EvSrc) (name : EventName) (data conts : Nat) (k : Nat) : loopOf (logRaw s src name data conts) k = loopOf s k := by simp [loopOf]
@[simp] theorem motOf_logRaw (s : State) (src : EvSrc) (name : EventName) (data conts : Nat) (k : Nat) : motOf (logRaw s src name data conts) k = motOf s k := by simp [motOf]
@[simp] theorem gateOf_logRaw (s : State) (src : EvSrc) (name : EventName) (data conts : Nat) (k : Nat) : gateOf (logRaw s src name data conts) k = gateOf s k := by simp [gateOf]
@[simp] theorem routeOf_logRaw (s : State) (src : EvSrc) (name : EventName) (data conts : Nat) (k : Nat) : routeOf (logRaw s src name data conts) k = routeOf s k := by simp [routeOf]
@[simp] theorem slipOf_logRaw (s : State) (src : EvSrc) (name : EventName) (data conts : Nat) (k : Nat) : slipOf (logRaw s src name data conts) k = slipOf s k := by simp [slipOf]
@[simp] theorem aisOf_logRaw (s : State) (src : EvSrc) (name : EventName) (data conts : Nat) (k : Nat) : aisOf (logRaw s src name data conts) k = aisOf s k := by simp [aisOf]
@[simp] theorem stlOf_logRaw (s : State) (src : EvSrc) (name : EventName) (data conts : Nat) (k : Nat) : stlOf (logRaw s src name data conts) k = stlOf s k := by simp [stlOf]
@[simp] theorem txOf_logRaw (s : State) (src : EvSrc) (name : EventName) (data conts : Nat) (k : Nat) : txOf (logRaw s src name data conts) k = txOf s k := by simp [txOf]
@[simp] theorem solOf_logRaw (s : State) (src : EvSrc) (name : EventName) (data conts : Nat) (k : Nat) : solOf (logRaw s src name data conts) k = solOf s k := by simp [solOf]
@[simp] theorem sensOf_logRaw (s : State) (src : EvSrc) (name : EventName) (data conts : Nat) (k : Nat) : sensOf (logRaw s src name data conts) k = sensOf s k := by simp [sensOf]
@[simp] theorem polOf_logRaw (s : State) (src : EvSrc) (name : EventName) (data conts : Nat) (k : Nat) : polOf (logRaw s src name data conts) k = polOf s k := by simp [polOf]
@[simp] theorem wickOf_logEv (s : State) (src : EvSrc) (name : EventName) (what : Nat) (k : Nat) : wickOf (logEv s src name what) k = wickOf s k := by simp [wickOf]
@[simp] theorem slotOf_logEv (s : State) (src : EvSrc) (name : EventName) (what : Nat) (k : Nat) : slotOf (logEv s src name what) k = slotOf s k := by simp [slotOf]
@[simp] theorem chanOf_logEv (s : State) (src : EvSrc) (name : EventName) (what : Nat) (k : Nat) : chanOf (logEv s src name what) k = chanOf s k := by simp [chanOf]
@[simp] theorem colOf_logEv (s : State) (src : EvSrc) (name : EventName) (what : Nat) (k : Nat) : colOf (logEv s src name what) k = colOf s k := by simp [colOf]
@[simp] theorem dryOf_logEv (s : State) (src : EvSrc) (name : EventName) (what : Nat) (k : Nat) : dryOf (logEv s src name what) k = dryOf s k := by simp [dryOf]
@[simp] theorem heatOf_logEv (s : State) (src : EvSrc) (name : EventName) (what : Nat) (k : Nat) : heatOf (logEv s src name what) k = heatOf s k := by simp [heatOf]
@[simp] theorem aerOf_logEv (s : State) (src : EvSrc) (name : EventName) (what : Nat) (k : Nat) : aerOf (logEv s src name what) k = aerOf s k := by simp [aerOf]
@[simp] theorem engOf_logEv (s : State) (src : EvSrc) (name : EventName) (what : Nat) (k : Nat) : engOf (logEv s src name what) k = engOf s k := by simp [engOf]
@[simp] theorem rowOf_logEv (s : State) (src : EvSrc) (name : EventName) (what : Nat) (k : Nat) : rowOf (logEv s src name what) k = rowOf s k := by simp [rowOf]
@[simp] theorem bskOf_logEv (s : State) (src : EvSrc) (name : EventName) (what : Nat) (k : Nat) : bskOf (logEv s src name what) k = bskOf s k := by simp [bskOf]
@[simp] theorem blkOf_logEv (s : State) (src : EvSrc) (name : EventName) (what : Nat) (k : Nat) : blkOf (logEv s src name what) k = blkOf s k := by simp [blkOf]
@[simp] theorem taperOf_logEv (s : State) (src : EvSrc) (name : EventName) (what : Nat) (k : Nat) : taperOf (logEv s src name what) k = taperOf s k := by simp [taperOf]
@[simp] theorem loopOf_logEv (s : State) (src : EvSrc) (name : EventName) (what : Nat) (k : Nat) : loopOf (logEv s src name what) k = loopOf s k := by simp [loopOf]
@[simp] theorem motOf_logEv (s : State) (src : EvSrc) (name : EventName) (what : Nat) (k : Nat) : motOf (logEv s src name what) k = motOf s k := by simp [motOf]
@[simp] theorem gateOf_logEv (s : State) (src : EvSrc) (name : EventName) (what : Nat) (k : Nat) : gateOf (logEv s src name what) k = gateOf s k := by simp [gateOf]
@[simp] theorem routeOf_logEv (s : State) (src : EvSrc) (name : EventName) (what : Nat) (k : Nat) : routeOf (logEv s src name what) k = routeOf s k := by simp [routeOf]
@[simp] theorem slipOf_logEv (s : State) (src : EvSrc) (name : EventName) (what : Nat) (k : Nat) : slipOf (logEv s src name what) k = slipOf s k := by simp [slipOf]
@[simp] theorem aisOf_logEv (s : State) (src : EvSrc) (name : EventName) (what : Nat) (k : Nat) : aisOf (logEv s src name what) k = aisOf s k := by simp [aisOf]
@[simp] theorem stlOf_logEv (s : State) (src : EvSrc) (name : EventName) (what : Nat) (k : Nat) : stlOf (logEv s src name what) k = stlOf s k := by simp [stlOf]
@[simp] theorem txOf_logEv (s : State) (src : EvSrc) (name : EventName) (what : Nat) (k : Nat) : txOf (logEv s src name what) k = txOf s k := by simp [txOf]
@[simp] theorem solOf_logEv (s : State) (src : EvSrc) (name : EventName) (what : Nat) (k : Nat) : solOf (logEv s src name what) k = solOf s k := by simp [solOf]
@[simp] theorem sensOf_logEv (s : State) (src : EvSrc) (name : EventName) (what : Nat) (k : Nat) : sensOf (logEv s src name what) k = sensOf s k := by simp [sensOf]
@[simp] theorem polOf_logEv (s : State) (src : EvSrc) (name : EventName) (what : Nat) (k : Nat) : polOf (logEv s src name what) k = polOf s k := by simp [polOf]
@[simp] theorem wickOf_logEvAt (s : State) (t : Nat) (src : EvSrc) (name : EventName) (what : Nat) (k : Nat) : wickOf (logEvAt s t src name what) k = wickOf s k := by simp [wickOf]
@[simp] theorem slotOf_logEvAt (s : State) (t : Nat) (src : EvSrc) (name : EventName) (what : Nat) (k : Nat) : slotOf (logEvAt s t src name what) k = slotOf s k := by simp [slotOf]
@[simp] theorem chanOf_logEvAt (s : State) (t : Nat) (src : EvSrc) (name : EventName) (what : Nat) (k : Nat) : chanOf (logEvAt s t src name what) k = chanOf s k := by simp [chanOf]
@[simp] theorem colOf_logEvAt (s : State) (t : Nat) (src : EvSrc) (name : EventName) (what : Nat) (k : Nat) : colOf (logEvAt s t src name what) k = colOf s k := by simp [colOf]
@[simp] theorem dryOf_logEvAt (s : State) (t : Nat) (src : EvSrc) (name : EventName) (what : Nat) (k : Nat) : dryOf (logEvAt s t src name what) k = dryOf s k := by simp [dryOf]
@[simp] theorem heatOf_logEvAt (s : State) (t : Nat) (src : EvSrc) (name : EventName) (what : Nat) (k : Nat) : heatOf (logEvAt s t src name what) k = heatOf s k := by simp [heatOf]
@[simp] theorem aerOf_logEvAt (s : State) (t : Nat) (src : EvSrc) (name : EventName) (what : Nat) (k : Nat) : aerOf (logEvAt s t src name what) k = aerOf s k := by simp [aerOf]
@[simp] theorem engOf_logEvAt (s : State) (t : Nat) (src : EvSrc) (name : EventName) (what : Nat) (k : Nat) : engOf (logEvAt s t src name what) k = engOf s k := by simp [engOf]
@[simp] theorem rowOf_logEvAt (s : State) (t : Nat) (src : EvSrc) (name : EventName) (what : Nat) (k : Nat) : rowOf (logEvAt s t src name what) k = rowOf s k := by simp [rowOf]
@[simp] theorem bskOf_logEvAt (s : State) (t : Nat) (src : EvSrc) (name : EventName) (what : Nat) (k : Nat) : bskOf (logEvAt s t src name what) k = bskOf s k := by simp [bskOf]
@[simp] theorem blkOf_logEvAt (s : State) (t : Nat) (src : EvSrc) (name : EventName) (what : Nat) (k : Nat) : blkOf (logEvAt s t src name what) k = blkOf s k := by simp [blkOf]
@[simp] theorem taperOf_logEvAt (s : State) (t : Nat) (src : EvSrc) (name : EventName) (what : Nat) (k : Nat) : taperOf (logEvAt s t src name what) k = taperOf s k := by simp [taperOf]
@[simp] theorem loopOf_logEvAt (s : State) (t : Nat) (src : EvSrc) (name : EventName) (what : Nat) (k : Nat) : loopOf (logEvAt s t src name what) k = loopOf s k := by simp [loopOf]
@[simp] theorem motOf_logEvAt (s : State) (t : Nat) (src : EvSrc) (name : EventName) (what : Nat) (k : Nat) : motOf (logEvAt s t src name what) k = motOf s k := by simp [motOf]
@[simp] theorem gateOf_logEvAt (s : State) (t : Nat) (src : EvSrc) (name : EventName) (what : Nat) (k : Nat) : gateOf (logEvAt s t src name what) k = gateOf s k := by simp [gateOf]
@[simp] theorem routeOf_logEvAt (s : State) (t : Nat) (src : EvSrc) (name : EventName) (what : Nat) (k : Nat) : routeOf (logEvAt s t src name what) k = routeOf s k := by simp [routeOf]
@[simp] theorem slipOf_logEvAt (s : State) (t : Nat) (src : EvSrc) (name : EventName) (what : Nat) (k : Nat) : slipOf (logEvAt s t src name what) k = slipOf s k := by simp [slipOf]
@[simp] theorem aisOf_logEvAt (s : State) (t : Nat) (src : EvSrc) (name : EventName) (what : Nat) (k : Nat) : aisOf (logEvAt s t src name what) k = aisOf s k := by simp [aisOf]
@[simp] theorem stlOf_logEvAt (s : State) (t : Nat) (src : EvSrc) (name : EventName) (what : Nat) (k : Nat) : stlOf (logEvAt s t src name what) k = stlOf s k := by simp [stlOf]
@[simp] theorem txOf_logEvAt (s : State) (t : Nat) (src : EvSrc) (name : EventName) (what : Nat) (k : Nat) : txOf (logEvAt s t src name what) k = txOf s k := by simp [txOf]
@[simp] theorem solOf_logEvAt (s : State) (t : Nat) (src : EvSrc) (name : EventName) (what : Nat) (k : Nat) : solOf (logEvAt s t src name what) k = solOf s k := by simp [solOf]
@[simp] theorem sensOf_logEvAt (s : State) (t : Nat) (src : EvSrc) (name : EventName) (what : Nat) (k : Nat) : sensOf (logEvAt s t src name what) k = sensOf s k := by simp [sensOf]
@[simp] theorem polOf_logEvAt (s : State) (t : Nat) (src : EvSrc) (name : EventName) (what : Nat) (k : Nat) : polOf (logEvAt s t src name what) k = polOf s k := by simp [polOf]
@[simp] theorem wickOf_report (s : State) (q : Requester) (addr : Nat) (a : Acc) (k : Nat) : wickOf (report s q addr a) k = wickOf s k := by simp [wickOf]
@[simp] theorem slotOf_report (s : State) (q : Requester) (addr : Nat) (a : Acc) (k : Nat) : slotOf (report s q addr a) k = slotOf s k := by simp [slotOf]
@[simp] theorem chanOf_report (s : State) (q : Requester) (addr : Nat) (a : Acc) (k : Nat) : chanOf (report s q addr a) k = chanOf s k := by simp [chanOf]
@[simp] theorem colOf_report (s : State) (q : Requester) (addr : Nat) (a : Acc) (k : Nat) : colOf (report s q addr a) k = colOf s k := by simp [colOf]
@[simp] theorem dryOf_report (s : State) (q : Requester) (addr : Nat) (a : Acc) (k : Nat) : dryOf (report s q addr a) k = dryOf s k := by simp [dryOf]
@[simp] theorem heatOf_report (s : State) (q : Requester) (addr : Nat) (a : Acc) (k : Nat) : heatOf (report s q addr a) k = heatOf s k := by simp [heatOf]
@[simp] theorem aerOf_report (s : State) (q : Requester) (addr : Nat) (a : Acc) (k : Nat) : aerOf (report s q addr a) k = aerOf s k := by simp [aerOf]
@[simp] theorem engOf_report (s : State) (q : Requester) (addr : Nat) (a : Acc) (k : Nat) : engOf (report s q addr a) k = engOf s k := by simp [engOf]
@[simp] theorem rowOf_report (s : State) (q : Requester) (addr : Nat) (a : Acc) (k : Nat) : rowOf (report s q addr a) k = rowOf s k := by simp [rowOf]
@[simp] theorem bskOf_report (s : State) (q : Requester) (addr : Nat) (a : Acc) (k : Nat) : bskOf (report s q addr a) k = bskOf s k := by simp [bskOf]
@[simp] theorem blkOf_report (s : State) (q : Requester) (addr : Nat) (a : Acc) (k : Nat) : blkOf (report s q addr a) k = blkOf s k := by simp [blkOf]
@[simp] theorem taperOf_report (s : State) (q : Requester) (addr : Nat) (a : Acc) (k : Nat) : taperOf (report s q addr a) k = taperOf s k := by simp [taperOf]
@[simp] theorem loopOf_report (s : State) (q : Requester) (addr : Nat) (a : Acc) (k : Nat) : loopOf (report s q addr a) k = loopOf s k := by simp [loopOf]
@[simp] theorem motOf_report (s : State) (q : Requester) (addr : Nat) (a : Acc) (k : Nat) : motOf (report s q addr a) k = motOf s k := by simp [motOf]
@[simp] theorem gateOf_report (s : State) (q : Requester) (addr : Nat) (a : Acc) (k : Nat) : gateOf (report s q addr a) k = gateOf s k := by simp [gateOf]
@[simp] theorem routeOf_report (s : State) (q : Requester) (addr : Nat) (a : Acc) (k : Nat) : routeOf (report s q addr a) k = routeOf s k := by simp [routeOf]
@[simp] theorem slipOf_report (s : State) (q : Requester) (addr : Nat) (a : Acc) (k : Nat) : slipOf (report s q addr a) k = slipOf s k := by simp [slipOf]
@[simp] theorem aisOf_report (s : State) (q : Requester) (addr : Nat) (a : Acc) (k : Nat) : aisOf (report s q addr a) k = aisOf s k := by simp [aisOf]
@[simp] theorem stlOf_report (s : State) (q : Requester) (addr : Nat) (a : Acc) (k : Nat) : stlOf (report s q addr a) k = stlOf s k := by simp [stlOf]
@[simp] theorem txOf_report (s : State) (q : Requester) (addr : Nat) (a : Acc) (k : Nat) : txOf (report s q addr a) k = txOf s k := by simp [txOf]
@[simp] theorem solOf_report (s : State) (q : Requester) (addr : Nat) (a : Acc) (k : Nat) : solOf (report s q addr a) k = solOf s k := by simp [solOf]
@[simp] theorem sensOf_report (s : State) (q : Requester) (addr : Nat) (a : Acc) (k : Nat) : sensOf (report s q addr a) k = sensOf s k := by simp [sensOf]
@[simp] theorem polOf_report (s : State) (q : Requester) (addr : Nat) (a : Acc) (k : Nat) : polOf (report s q addr a) k = polOf s k := by simp [polOf]
@[simp] theorem wickOf_setSlot (s : State) (j : Nat) (x : Slot) (k : Nat) : wickOf (setSlot s j x) k = wickOf s k := rfl
@[simp] theorem wickOf_setChan (s : State) (j : Nat) (x : MoistCh) (k : Nat) : wickOf (setChan s j x) k = wickOf s k := rfl
@[simp] theorem wickOf_setCol (s : State) (j : Nat) (x : Column) (k : Nat) : wickOf (setCol s j x) k = wickOf s k := rfl
@[simp] theorem wickOf_setDry (s : State) (j : Nat) (x : Dry) (k : Nat) : wickOf (setDry s j x) k = wickOf s k := rfl
@[simp] theorem wickOf_setHeat (s : State) (j : Nat) (x : Heat) (k : Nat) : wickOf (setHeat s j x) k = wickOf s k := rfl
@[simp] theorem wickOf_setAer (s : State) (j : Nat) (x : Aer) (k : Nat) : wickOf (setAer s j x) k = wickOf s k := rfl
@[simp] theorem wickOf_setEng (s : State) (j : Nat) (x : Engine) (k : Nat) : wickOf (setEng s j x) k = wickOf s k := rfl
@[simp] theorem wickOf_setRow (s : State) (j : Nat) (x : Row) (k : Nat) : wickOf (setRow s j x) k = wickOf s k := rfl
@[simp] theorem wickOf_setBsk (s : State) (j : Nat) (x : Basket) (k : Nat) : wickOf (setBsk s j x) k = wickOf s k := rfl
@[simp] theorem wickOf_setBlk (s : State) (j : Nat) (x : BlockSt) (k : Nat) : wickOf (setBlk s j x) k = wickOf s k := rfl
@[simp] theorem wickOf_setTaper (s : State) (j : Nat) (x : Taper) (k : Nat) : wickOf (setTaper s j x) k = wickOf s k := rfl
@[simp] theorem wickOf_setLoop (s : State) (j : Nat) (x : Loop) (k : Nat) : wickOf (setLoop s j x) k = wickOf s k := rfl
@[simp] theorem wickOf_setMot (s : State) (j : Nat) (x : Motor) (k : Nat) : wickOf (setMot s j x) k = wickOf s k := rfl
@[simp] theorem wickOf_setGate (s : State) (j : Nat) (x : Gate) (k : Nat) : wickOf (setGate s j x) k = wickOf s k := rfl
@[simp] theorem wickOf_setRoute (s : State) (j : Nat) (x : Route) (k : Nat) : wickOf (setRoute s j x) k = wickOf s k := rfl
@[simp] theorem wickOf_setSlip (s : State) (j : Nat) (x : Slip) (k : Nat) : wickOf (setSlip s j x) k = wickOf s k := rfl
@[simp] theorem wickOf_setAis (s : State) (j : Nat) (x : Aisle) (k : Nat) : wickOf (setAis s j x) k = wickOf s k := rfl
@[simp] theorem wickOf_setStl (s : State) (j : Nat) (x : Stall) (k : Nat) : wickOf (setStl s j x) k = wickOf s k := rfl
@[simp] theorem wickOf_setTx (s : State) (j : Nat) (x : TxPort) (k : Nat) : wickOf (setTx s j x) k = wickOf s k := rfl
@[simp] theorem wickOf_setSol (s : State) (j : Nat) (x : SolPort) (k : Nat) : wickOf (setSol s j x) k = wickOf s k := rfl
@[simp] theorem wickOf_setSens (s : State) (j : Nat) (x : Sensor) (k : Nat) : wickOf (setSens s j x) k = wickOf s k := rfl
@[simp] theorem wickOf_setPol (s : State) (j : Nat) (x : Policy421) (k : Nat) : wickOf (setPol s j x) k = wickOf s k := rfl
@[simp] theorem slotOf_setWick (s : State) (j : Nat) (x : Wick) (k : Nat) : slotOf (setWick s j x) k = slotOf s k := rfl
@[simp] theorem slotOf_setChan (s : State) (j : Nat) (x : MoistCh) (k : Nat) : slotOf (setChan s j x) k = slotOf s k := rfl
@[simp] theorem slotOf_setCol (s : State) (j : Nat) (x : Column) (k : Nat) : slotOf (setCol s j x) k = slotOf s k := rfl
@[simp] theorem slotOf_setDry (s : State) (j : Nat) (x : Dry) (k : Nat) : slotOf (setDry s j x) k = slotOf s k := rfl
@[simp] theorem slotOf_setHeat (s : State) (j : Nat) (x : Heat) (k : Nat) : slotOf (setHeat s j x) k = slotOf s k := rfl
@[simp] theorem slotOf_setAer (s : State) (j : Nat) (x : Aer) (k : Nat) : slotOf (setAer s j x) k = slotOf s k := rfl
@[simp] theorem slotOf_setEng (s : State) (j : Nat) (x : Engine) (k : Nat) : slotOf (setEng s j x) k = slotOf s k := rfl
@[simp] theorem slotOf_setRow (s : State) (j : Nat) (x : Row) (k : Nat) : slotOf (setRow s j x) k = slotOf s k := rfl
@[simp] theorem slotOf_setBsk (s : State) (j : Nat) (x : Basket) (k : Nat) : slotOf (setBsk s j x) k = slotOf s k := rfl
@[simp] theorem slotOf_setBlk (s : State) (j : Nat) (x : BlockSt) (k : Nat) : slotOf (setBlk s j x) k = slotOf s k := rfl
@[simp] theorem slotOf_setTaper (s : State) (j : Nat) (x : Taper) (k : Nat) : slotOf (setTaper s j x) k = slotOf s k := rfl
@[simp] theorem slotOf_setLoop (s : State) (j : Nat) (x : Loop) (k : Nat) : slotOf (setLoop s j x) k = slotOf s k := rfl
@[simp] theorem slotOf_setMot (s : State) (j : Nat) (x : Motor) (k : Nat) : slotOf (setMot s j x) k = slotOf s k := rfl
@[simp] theorem slotOf_setGate (s : State) (j : Nat) (x : Gate) (k : Nat) : slotOf (setGate s j x) k = slotOf s k := rfl
@[simp] theorem slotOf_setRoute (s : State) (j : Nat) (x : Route) (k : Nat) : slotOf (setRoute s j x) k = slotOf s k := rfl
@[simp] theorem slotOf_setSlip (s : State) (j : Nat) (x : Slip) (k : Nat) : slotOf (setSlip s j x) k = slotOf s k := rfl
@[simp] theorem slotOf_setAis (s : State) (j : Nat) (x : Aisle) (k : Nat) : slotOf (setAis s j x) k = slotOf s k := rfl
@[simp] theorem slotOf_setStl (s : State) (j : Nat) (x : Stall) (k : Nat) : slotOf (setStl s j x) k = slotOf s k := rfl
@[simp] theorem slotOf_setTx (s : State) (j : Nat) (x : TxPort) (k : Nat) : slotOf (setTx s j x) k = slotOf s k := rfl
@[simp] theorem slotOf_setSol (s : State) (j : Nat) (x : SolPort) (k : Nat) : slotOf (setSol s j x) k = slotOf s k := rfl
@[simp] theorem slotOf_setSens (s : State) (j : Nat) (x : Sensor) (k : Nat) : slotOf (setSens s j x) k = slotOf s k := rfl
@[simp] theorem slotOf_setPol (s : State) (j : Nat) (x : Policy421) (k : Nat) : slotOf (setPol s j x) k = slotOf s k := rfl
@[simp] theorem chanOf_setWick (s : State) (j : Nat) (x : Wick) (k : Nat) : chanOf (setWick s j x) k = chanOf s k := rfl
@[simp] theorem chanOf_setSlot (s : State) (j : Nat) (x : Slot) (k : Nat) : chanOf (setSlot s j x) k = chanOf s k := rfl
@[simp] theorem chanOf_setCol (s : State) (j : Nat) (x : Column) (k : Nat) : chanOf (setCol s j x) k = chanOf s k := rfl
@[simp] theorem chanOf_setDry (s : State) (j : Nat) (x : Dry) (k : Nat) : chanOf (setDry s j x) k = chanOf s k := rfl
@[simp] theorem chanOf_setHeat (s : State) (j : Nat) (x : Heat) (k : Nat) : chanOf (setHeat s j x) k = chanOf s k := rfl
@[simp] theorem chanOf_setAer (s : State) (j : Nat) (x : Aer) (k : Nat) : chanOf (setAer s j x) k = chanOf s k := rfl
@[simp] theorem chanOf_setEng (s : State) (j : Nat) (x : Engine) (k : Nat) : chanOf (setEng s j x) k = chanOf s k := rfl
@[simp] theorem chanOf_setRow (s : State) (j : Nat) (x : Row) (k : Nat) : chanOf (setRow s j x) k = chanOf s k := rfl
@[simp] theorem chanOf_setBsk (s : State) (j : Nat) (x : Basket) (k : Nat) : chanOf (setBsk s j x) k = chanOf s k := rfl
@[simp] theorem chanOf_setBlk (s : State) (j : Nat) (x : BlockSt) (k : Nat) : chanOf (setBlk s j x) k = chanOf s k := rfl
@[simp] theorem chanOf_setTaper (s : State) (j : Nat) (x : Taper) (k : Nat) : chanOf (setTaper s j x) k = chanOf s k := rfl
@[simp] theorem chanOf_setLoop (s : State) (j : Nat) (x : Loop) (k : Nat) : chanOf (setLoop s j x) k = chanOf s k := rfl
@[simp] theorem chanOf_setMot (s : State) (j : Nat) (x : Motor) (k : Nat) : chanOf (setMot s j x) k = chanOf s k := rfl
@[simp] theorem chanOf_setGate (s : State) (j : Nat) (x : Gate) (k : Nat) : chanOf (setGate s j x) k = chanOf s k := rfl
@[simp] theorem chanOf_setRoute (s : State) (j : Nat) (x : Route) (k : Nat) : chanOf (setRoute s j x) k = chanOf s k := rfl
@[simp] theorem chanOf_setSlip (s : State) (j : Nat) (x : Slip) (k : Nat) : chanOf (setSlip s j x) k = chanOf s k := rfl
@[simp] theorem chanOf_setAis (s : State) (j : Nat) (x : Aisle) (k : Nat) : chanOf (setAis s j x) k = chanOf s k := rfl
@[simp] theorem chanOf_setStl (s : State) (j : Nat) (x : Stall) (k : Nat) : chanOf (setStl s j x) k = chanOf s k := rfl
@[simp] theorem chanOf_setTx (s : State) (j : Nat) (x : TxPort) (k : Nat) : chanOf (setTx s j x) k = chanOf s k := rfl
@[simp] theorem chanOf_setSol (s : State) (j : Nat) (x : SolPort) (k : Nat) : chanOf (setSol s j x) k = chanOf s k := rfl
@[simp] theorem chanOf_setSens (s : State) (j : Nat) (x : Sensor) (k : Nat) : chanOf (setSens s j x) k = chanOf s k := rfl
@[simp] theorem chanOf_setPol (s : State) (j : Nat) (x : Policy421) (k : Nat) : chanOf (setPol s j x) k = chanOf s k := rfl
@[simp] theorem colOf_setWick (s : State) (j : Nat) (x : Wick) (k : Nat) : colOf (setWick s j x) k = colOf s k := rfl
@[simp] theorem colOf_setSlot (s : State) (j : Nat) (x : Slot) (k : Nat) : colOf (setSlot s j x) k = colOf s k := rfl
@[simp] theorem colOf_setChan (s : State) (j : Nat) (x : MoistCh) (k : Nat) : colOf (setChan s j x) k = colOf s k := rfl
@[simp] theorem colOf_setDry (s : State) (j : Nat) (x : Dry) (k : Nat) : colOf (setDry s j x) k = colOf s k := rfl
@[simp] theorem colOf_setHeat (s : State) (j : Nat) (x : Heat) (k : Nat) : colOf (setHeat s j x) k = colOf s k := rfl
@[simp] theorem colOf_setAer (s : State) (j : Nat) (x : Aer) (k : Nat) : colOf (setAer s j x) k = colOf s k := rfl
@[simp] theorem colOf_setEng (s : State) (j : Nat) (x : Engine) (k : Nat) : colOf (setEng s j x) k = colOf s k := rfl
@[simp] theorem colOf_setRow (s : State) (j : Nat) (x : Row) (k : Nat) : colOf (setRow s j x) k = colOf s k := rfl
@[simp] theorem colOf_setBsk (s : State) (j : Nat) (x : Basket) (k : Nat) : colOf (setBsk s j x) k = colOf s k := rfl
@[simp] theorem colOf_setBlk (s : State) (j : Nat) (x : BlockSt) (k : Nat) : colOf (setBlk s j x) k = colOf s k := rfl
@[simp] theorem colOf_setTaper (s : State) (j : Nat) (x : Taper) (k : Nat) : colOf (setTaper s j x) k = colOf s k := rfl
@[simp] theorem colOf_setLoop (s : State) (j : Nat) (x : Loop) (k : Nat) : colOf (setLoop s j x) k = colOf s k := rfl
@[simp] theorem colOf_setMot (s : State) (j : Nat) (x : Motor) (k : Nat) : colOf (setMot s j x) k = colOf s k := rfl
@[simp] theorem colOf_setGate (s : State) (j : Nat) (x : Gate) (k : Nat) : colOf (setGate s j x) k = colOf s k := rfl
@[simp] theorem colOf_setRoute (s : State) (j : Nat) (x : Route) (k : Nat) : colOf (setRoute s j x) k = colOf s k := rfl
@[simp] theorem colOf_setSlip (s : State) (j : Nat) (x : Slip) (k : Nat) : colOf (setSlip s j x) k = colOf s k := rfl
@[simp] theorem colOf_setAis (s : State) (j : Nat) (x : Aisle) (k : Nat) : colOf (setAis s j x) k = colOf s k := rfl
@[simp] theorem colOf_setStl (s : State) (j : Nat) (x : Stall) (k : Nat) : colOf (setStl s j x) k = colOf s k := rfl
@[simp] theorem colOf_setTx (s : State) (j : Nat) (x : TxPort) (k : Nat) : colOf (setTx s j x) k = colOf s k := rfl
@[simp] theorem colOf_setSol (s : State) (j : Nat) (x : SolPort) (k : Nat) : colOf (setSol s j x) k = colOf s k := rfl
@[simp] theorem colOf_setSens (s : State) (j : Nat) (x : Sensor) (k : Nat) : colOf (setSens s j x) k = colOf s k := rfl
@[simp] theorem colOf_setPol (s : State) (j : Nat) (x : Policy421) (k : Nat) : colOf (setPol s j x) k = colOf s k := rfl
@[simp] theorem dryOf_setWick (s : State) (j : Nat) (x : Wick) (k : Nat) : dryOf (setWick s j x) k = dryOf s k := rfl
@[simp] theorem dryOf_setSlot (s : State) (j : Nat) (x : Slot) (k : Nat) : dryOf (setSlot s j x) k = dryOf s k := rfl
@[simp] theorem dryOf_setChan (s : State) (j : Nat) (x : MoistCh) (k : Nat) : dryOf (setChan s j x) k = dryOf s k := rfl
@[simp] theorem dryOf_setCol (s : State) (j : Nat) (x : Column) (k : Nat) : dryOf (setCol s j x) k = dryOf s k := rfl
@[simp] theorem dryOf_setHeat (s : State) (j : Nat) (x : Heat) (k : Nat) : dryOf (setHeat s j x) k = dryOf s k := rfl
@[simp] theorem dryOf_setAer (s : State) (j : Nat) (x : Aer) (k : Nat) : dryOf (setAer s j x) k = dryOf s k := rfl
@[simp] theorem dryOf_setEng (s : State) (j : Nat) (x : Engine) (k : Nat) : dryOf (setEng s j x) k = dryOf s k := rfl
@[simp] theorem dryOf_setRow (s : State) (j : Nat) (x : Row) (k : Nat) : dryOf (setRow s j x) k = dryOf s k := rfl
@[simp] theorem dryOf_setBsk (s : State) (j : Nat) (x : Basket) (k : Nat) : dryOf (setBsk s j x) k = dryOf s k := rfl
@[simp] theorem dryOf_setBlk (s : State) (j : Nat) (x : BlockSt) (k : Nat) : dryOf (setBlk s j x) k = dryOf s k := rfl
@[simp] theorem dryOf_setTaper (s : State) (j : Nat) (x : Taper) (k : Nat) : dryOf (setTaper s j x) k = dryOf s k := rfl
@[simp] theorem dryOf_setLoop (s : State) (j : Nat) (x : Loop) (k : Nat) : dryOf (setLoop s j x) k = dryOf s k := rfl
@[simp] theorem dryOf_setMot (s : State) (j : Nat) (x : Motor) (k : Nat) : dryOf (setMot s j x) k = dryOf s k := rfl
@[simp] theorem dryOf_setGate (s : State) (j : Nat) (x : Gate) (k : Nat) : dryOf (setGate s j x) k = dryOf s k := rfl
@[simp] theorem dryOf_setRoute (s : State) (j : Nat) (x : Route) (k : Nat) : dryOf (setRoute s j x) k = dryOf s k := rfl
@[simp] theorem dryOf_setSlip (s : State) (j : Nat) (x : Slip) (k : Nat) : dryOf (setSlip s j x) k = dryOf s k := rfl
@[simp] theorem dryOf_setAis (s : State) (j : Nat) (x : Aisle) (k : Nat) : dryOf (setAis s j x) k = dryOf s k := rfl
@[simp] theorem dryOf_setStl (s : State) (j : Nat) (x : Stall) (k : Nat) : dryOf (setStl s j x) k = dryOf s k := rfl
@[simp] theorem dryOf_setTx (s : State) (j : Nat) (x : TxPort) (k : Nat) : dryOf (setTx s j x) k = dryOf s k := rfl
@[simp] theorem dryOf_setSol (s : State) (j : Nat) (x : SolPort) (k : Nat) : dryOf (setSol s j x) k = dryOf s k := rfl
@[simp] theorem dryOf_setSens (s : State) (j : Nat) (x : Sensor) (k : Nat) : dryOf (setSens s j x) k = dryOf s k := rfl
@[simp] theorem dryOf_setPol (s : State) (j : Nat) (x : Policy421) (k : Nat) : dryOf (setPol s j x) k = dryOf s k := rfl
@[simp] theorem heatOf_setWick (s : State) (j : Nat) (x : Wick) (k : Nat) : heatOf (setWick s j x) k = heatOf s k := rfl
@[simp] theorem heatOf_setSlot (s : State) (j : Nat) (x : Slot) (k : Nat) : heatOf (setSlot s j x) k = heatOf s k := rfl
@[simp] theorem heatOf_setChan (s : State) (j : Nat) (x : MoistCh) (k : Nat) : heatOf (setChan s j x) k = heatOf s k := rfl
@[simp] theorem heatOf_setCol (s : State) (j : Nat) (x : Column) (k : Nat) : heatOf (setCol s j x) k = heatOf s k := rfl
@[simp] theorem heatOf_setDry (s : State) (j : Nat) (x : Dry) (k : Nat) : heatOf (setDry s j x) k = heatOf s k := rfl
@[simp] theorem heatOf_setAer (s : State) (j : Nat) (x : Aer) (k : Nat) : heatOf (setAer s j x) k = heatOf s k := rfl
@[simp] theorem heatOf_setEng (s : State) (j : Nat) (x : Engine) (k : Nat) : heatOf (setEng s j x) k = heatOf s k := rfl
@[simp] theorem heatOf_setRow (s : State) (j : Nat) (x : Row) (k : Nat) : heatOf (setRow s j x) k = heatOf s k := rfl
@[simp] theorem heatOf_setBsk (s : State) (j : Nat) (x : Basket) (k : Nat) : heatOf (setBsk s j x) k = heatOf s k := rfl
@[simp] theorem heatOf_setBlk (s : State) (j : Nat) (x : BlockSt) (k : Nat) : heatOf (setBlk s j x) k = heatOf s k := rfl
@[simp] theorem heatOf_setTaper (s : State) (j : Nat) (x : Taper) (k : Nat) : heatOf (setTaper s j x) k = heatOf s k := rfl
@[simp] theorem heatOf_setLoop (s : State) (j : Nat) (x : Loop) (k : Nat) : heatOf (setLoop s j x) k = heatOf s k := rfl
@[simp] theorem heatOf_setMot (s : State) (j : Nat) (x : Motor) (k : Nat) : heatOf (setMot s j x) k = heatOf s k := rfl
@[simp] theorem heatOf_setGate (s : State) (j : Nat) (x : Gate) (k : Nat) : heatOf (setGate s j x) k = heatOf s k := rfl
@[simp] theorem heatOf_setRoute (s : State) (j : Nat) (x : Route) (k : Nat) : heatOf (setRoute s j x) k = heatOf s k := rfl
@[simp] theorem heatOf_setSlip (s : State) (j : Nat) (x : Slip) (k : Nat) : heatOf (setSlip s j x) k = heatOf s k := rfl
@[simp] theorem heatOf_setAis (s : State) (j : Nat) (x : Aisle) (k : Nat) : heatOf (setAis s j x) k = heatOf s k := rfl
@[simp] theorem heatOf_setStl (s : State) (j : Nat) (x : Stall) (k : Nat) : heatOf (setStl s j x) k = heatOf s k := rfl
@[simp] theorem heatOf_setTx (s : State) (j : Nat) (x : TxPort) (k : Nat) : heatOf (setTx s j x) k = heatOf s k := rfl
@[simp] theorem heatOf_setSol (s : State) (j : Nat) (x : SolPort) (k : Nat) : heatOf (setSol s j x) k = heatOf s k := rfl
@[simp] theorem heatOf_setSens (s : State) (j : Nat) (x : Sensor) (k : Nat) : heatOf (setSens s j x) k = heatOf s k := rfl
@[simp] theorem heatOf_setPol (s : State) (j : Nat) (x : Policy421) (k : Nat) : heatOf (setPol s j x) k = heatOf s k := rfl
@[simp] theorem aerOf_setWick (s : State) (j : Nat) (x : Wick) (k : Nat) : aerOf (setWick s j x) k = aerOf s k := rfl
@[simp] theorem aerOf_setSlot (s : State) (j : Nat) (x : Slot) (k : Nat) : aerOf (setSlot s j x) k = aerOf s k := rfl
@[simp] theorem aerOf_setChan (s : State) (j : Nat) (x : MoistCh) (k : Nat) : aerOf (setChan s j x) k = aerOf s k := rfl
@[simp] theorem aerOf_setCol (s : State) (j : Nat) (x : Column) (k : Nat) : aerOf (setCol s j x) k = aerOf s k := rfl
@[simp] theorem aerOf_setDry (s : State) (j : Nat) (x : Dry) (k : Nat) : aerOf (setDry s j x) k = aerOf s k := rfl
@[simp] theorem aerOf_setHeat (s : State) (j : Nat) (x : Heat) (k : Nat) : aerOf (setHeat s j x) k = aerOf s k := rfl
@[simp] theorem aerOf_setEng (s : State) (j : Nat) (x : Engine) (k : Nat) : aerOf (setEng s j x) k = aerOf s k := rfl
@[simp] theorem aerOf_setRow (s : State) (j : Nat) (x : Row) (k : Nat) : aerOf (setRow s j x) k = aerOf s k := rfl
@[simp] theorem aerOf_setBsk (s : State) (j : Nat) (x : Basket) (k : Nat) : aerOf (setBsk s j x) k = aerOf s k := rfl
@[simp] theorem aerOf_setBlk (s : State) (j : Nat) (x : BlockSt) (k : Nat) : aerOf (setBlk s j x) k = aerOf s k := rfl
@[simp] theorem aerOf_setTaper (s : State) (j : Nat) (x : Taper) (k : Nat) : aerOf (setTaper s j x) k = aerOf s k := rfl
@[simp] theorem aerOf_setLoop (s : State) (j : Nat) (x : Loop) (k : Nat) : aerOf (setLoop s j x) k = aerOf s k := rfl
@[simp] theorem aerOf_setMot (s : State) (j : Nat) (x : Motor) (k : Nat) : aerOf (setMot s j x) k = aerOf s k := rfl
@[simp] theorem aerOf_setGate (s : State) (j : Nat) (x : Gate) (k : Nat) : aerOf (setGate s j x) k = aerOf s k := rfl
@[simp] theorem aerOf_setRoute (s : State) (j : Nat) (x : Route) (k : Nat) : aerOf (setRoute s j x) k = aerOf s k := rfl
@[simp] theorem aerOf_setSlip (s : State) (j : Nat) (x : Slip) (k : Nat) : aerOf (setSlip s j x) k = aerOf s k := rfl
@[simp] theorem aerOf_setAis (s : State) (j : Nat) (x : Aisle) (k : Nat) : aerOf (setAis s j x) k = aerOf s k := rfl
@[simp] theorem aerOf_setStl (s : State) (j : Nat) (x : Stall) (k : Nat) : aerOf (setStl s j x) k = aerOf s k := rfl
@[simp] theorem aerOf_setTx (s : State) (j : Nat) (x : TxPort) (k : Nat) : aerOf (setTx s j x) k = aerOf s k := rfl
@[simp] theorem aerOf_setSol (s : State) (j : Nat) (x : SolPort) (k : Nat) : aerOf (setSol s j x) k = aerOf s k := rfl
@[simp] theorem aerOf_setSens (s : State) (j : Nat) (x : Sensor) (k : Nat) : aerOf (setSens s j x) k = aerOf s k := rfl
@[simp] theorem aerOf_setPol (s : State) (j : Nat) (x : Policy421) (k : Nat) : aerOf (setPol s j x) k = aerOf s k := rfl
@[simp] theorem engOf_setWick (s : State) (j : Nat) (x : Wick) (k : Nat) : engOf (setWick s j x) k = engOf s k := rfl
@[simp] theorem engOf_setSlot (s : State) (j : Nat) (x : Slot) (k : Nat) : engOf (setSlot s j x) k = engOf s k := rfl
@[simp] theorem engOf_setChan (s : State) (j : Nat) (x : MoistCh) (k : Nat) : engOf (setChan s j x) k = engOf s k := rfl
@[simp] theorem engOf_setCol (s : State) (j : Nat) (x : Column) (k : Nat) : engOf (setCol s j x) k = engOf s k := rfl
@[simp] theorem engOf_setDry (s : State) (j : Nat) (x : Dry) (k : Nat) : engOf (setDry s j x) k = engOf s k := rfl
@[simp] theorem engOf_setHeat (s : State) (j : Nat) (x : Heat) (k : Nat) : engOf (setHeat s j x) k = engOf s k := rfl
@[simp] theorem engOf_setAer (s : State) (j : Nat) (x : Aer) (k : Nat) : engOf (setAer s j x) k = engOf s k := rfl
@[simp] theorem engOf_setRow (s : State) (j : Nat) (x : Row) (k : Nat) : engOf (setRow s j x) k = engOf s k := rfl
@[simp] theorem engOf_setBsk (s : State) (j : Nat) (x : Basket) (k : Nat) : engOf (setBsk s j x) k = engOf s k := rfl
@[simp] theorem engOf_setBlk (s : State) (j : Nat) (x : BlockSt) (k : Nat) : engOf (setBlk s j x) k = engOf s k := rfl
@[simp] theorem engOf_setTaper (s : State) (j : Nat) (x : Taper) (k : Nat) : engOf (setTaper s j x) k = engOf s k := rfl
@[simp] theorem engOf_setLoop (s : State) (j : Nat) (x : Loop) (k : Nat) : engOf (setLoop s j x) k = engOf s k := rfl
@[simp] theorem engOf_setMot (s : State) (j : Nat) (x : Motor) (k : Nat) : engOf (setMot s j x) k = engOf s k := rfl
@[simp] theorem engOf_setGate (s : State) (j : Nat) (x : Gate) (k : Nat) : engOf (setGate s j x) k = engOf s k := rfl
@[simp] theorem engOf_setRoute (s : State) (j : Nat) (x : Route) (k : Nat) : engOf (setRoute s j x) k = engOf s k := rfl
@[simp] theorem engOf_setSlip (s : State) (j : Nat) (x : Slip) (k : Nat) : engOf (setSlip s j x) k = engOf s k := rfl
@[simp] theorem engOf_setAis (s : State) (j : Nat) (x : Aisle) (k : Nat) : engOf (setAis s j x) k = engOf s k := rfl
@[simp] theorem engOf_setStl (s : State) (j : Nat) (x : Stall) (k : Nat) : engOf (setStl s j x) k = engOf s k := rfl
@[simp] theorem engOf_setTx (s : State) (j : Nat) (x : TxPort) (k : Nat) : engOf (setTx s j x) k = engOf s k := rfl
@[simp] theorem engOf_setSol (s : State) (j : Nat) (x : SolPort) (k : Nat) : engOf (setSol s j x) k = engOf s k := rfl
@[simp] theorem engOf_setSens (s : State) (j : Nat) (x : Sensor) (k : Nat) : engOf (setSens s j x) k = engOf s k := rfl
@[simp] theorem engOf_setPol (s : State) (j : Nat) (x : Policy421) (k : Nat) : engOf (setPol s j x) k = engOf s k := rfl
@[simp] theorem rowOf_setWick (s : State) (j : Nat) (x : Wick) (k : Nat) : rowOf (setWick s j x) k = rowOf s k := rfl
@[simp] theorem rowOf_setSlot (s : State) (j : Nat) (x : Slot) (k : Nat) : rowOf (setSlot s j x) k = rowOf s k := rfl
@[simp] theorem rowOf_setChan (s : State) (j : Nat) (x : MoistCh) (k : Nat) : rowOf (setChan s j x) k = rowOf s k := rfl
@[simp] theorem rowOf_setCol (s : State) (j : Nat) (x : Column) (k : Nat) : rowOf (setCol s j x) k = rowOf s k := rfl
@[simp] theorem rowOf_setDry (s : State) (j : Nat) (x : Dry) (k : Nat) : rowOf (setDry s j x) k = rowOf s k := rfl
@[simp] theorem rowOf_setHeat (s : State) (j : Nat) (x : Heat) (k : Nat) : rowOf (setHeat s j x) k = rowOf s k := rfl
@[simp] theorem rowOf_setAer (s : State) (j : Nat) (x : Aer) (k : Nat) : rowOf (setAer s j x) k = rowOf s k := rfl
@[simp] theorem rowOf_setEng (s : State) (j : Nat) (x : Engine) (k : Nat) : rowOf (setEng s j x) k = rowOf s k := rfl
@[simp] theorem rowOf_setBsk (s : State) (j : Nat) (x : Basket) (k : Nat) : rowOf (setBsk s j x) k = rowOf s k := rfl
@[simp] theorem rowOf_setBlk (s : State) (j : Nat) (x : BlockSt) (k : Nat) : rowOf (setBlk s j x) k = rowOf s k := rfl
@[simp] theorem rowOf_setTaper (s : State) (j : Nat) (x : Taper) (k : Nat) : rowOf (setTaper s j x) k = rowOf s k := rfl
@[simp] theorem rowOf_setLoop (s : State) (j : Nat) (x : Loop) (k : Nat) : rowOf (setLoop s j x) k = rowOf s k := rfl
@[simp] theorem rowOf_setMot (s : State) (j : Nat) (x : Motor) (k : Nat) : rowOf (setMot s j x) k = rowOf s k := rfl
@[simp] theorem rowOf_setGate (s : State) (j : Nat) (x : Gate) (k : Nat) : rowOf (setGate s j x) k = rowOf s k := rfl
@[simp] theorem rowOf_setRoute (s : State) (j : Nat) (x : Route) (k : Nat) : rowOf (setRoute s j x) k = rowOf s k := rfl
@[simp] theorem rowOf_setSlip (s : State) (j : Nat) (x : Slip) (k : Nat) : rowOf (setSlip s j x) k = rowOf s k := rfl
@[simp] theorem rowOf_setAis (s : State) (j : Nat) (x : Aisle) (k : Nat) : rowOf (setAis s j x) k = rowOf s k := rfl
@[simp] theorem rowOf_setStl (s : State) (j : Nat) (x : Stall) (k : Nat) : rowOf (setStl s j x) k = rowOf s k := rfl
@[simp] theorem rowOf_setTx (s : State) (j : Nat) (x : TxPort) (k : Nat) : rowOf (setTx s j x) k = rowOf s k := rfl
@[simp] theorem rowOf_setSol (s : State) (j : Nat) (x : SolPort) (k : Nat) : rowOf (setSol s j x) k = rowOf s k := rfl
@[simp] theorem rowOf_setSens (s : State) (j : Nat) (x : Sensor) (k : Nat) : rowOf (setSens s j x) k = rowOf s k := rfl
@[simp] theorem rowOf_setPol (s : State) (j : Nat) (x : Policy421) (k : Nat) : rowOf (setPol s j x) k = rowOf s k := rfl
@[simp] theorem bskOf_setWick (s : State) (j : Nat) (x : Wick) (k : Nat) : bskOf (setWick s j x) k = bskOf s k := rfl
@[simp] theorem bskOf_setSlot (s : State) (j : Nat) (x : Slot) (k : Nat) : bskOf (setSlot s j x) k = bskOf s k := rfl
@[simp] theorem bskOf_setChan (s : State) (j : Nat) (x : MoistCh) (k : Nat) : bskOf (setChan s j x) k = bskOf s k := rfl
@[simp] theorem bskOf_setCol (s : State) (j : Nat) (x : Column) (k : Nat) : bskOf (setCol s j x) k = bskOf s k := rfl
@[simp] theorem bskOf_setDry (s : State) (j : Nat) (x : Dry) (k : Nat) : bskOf (setDry s j x) k = bskOf s k := rfl
@[simp] theorem bskOf_setHeat (s : State) (j : Nat) (x : Heat) (k : Nat) : bskOf (setHeat s j x) k = bskOf s k := rfl
@[simp] theorem bskOf_setAer (s : State) (j : Nat) (x : Aer) (k : Nat) : bskOf (setAer s j x) k = bskOf s k := rfl
@[simp] theorem bskOf_setEng (s : State) (j : Nat) (x : Engine) (k : Nat) : bskOf (setEng s j x) k = bskOf s k := rfl
@[simp] theorem bskOf_setRow (s : State) (j : Nat) (x : Row) (k : Nat) : bskOf (setRow s j x) k = bskOf s k := rfl
@[simp] theorem bskOf_setBlk (s : State) (j : Nat) (x : BlockSt) (k : Nat) : bskOf (setBlk s j x) k = bskOf s k := rfl
@[simp] theorem bskOf_setTaper (s : State) (j : Nat) (x : Taper) (k : Nat) : bskOf (setTaper s j x) k = bskOf s k := rfl
@[simp] theorem bskOf_setLoop (s : State) (j : Nat) (x : Loop) (k : Nat) : bskOf (setLoop s j x) k = bskOf s k := rfl
@[simp] theorem bskOf_setMot (s : State) (j : Nat) (x : Motor) (k : Nat) : bskOf (setMot s j x) k = bskOf s k := rfl
@[simp] theorem bskOf_setGate (s : State) (j : Nat) (x : Gate) (k : Nat) : bskOf (setGate s j x) k = bskOf s k := rfl
@[simp] theorem bskOf_setRoute (s : State) (j : Nat) (x : Route) (k : Nat) : bskOf (setRoute s j x) k = bskOf s k := rfl
@[simp] theorem bskOf_setSlip (s : State) (j : Nat) (x : Slip) (k : Nat) : bskOf (setSlip s j x) k = bskOf s k := rfl
@[simp] theorem bskOf_setAis (s : State) (j : Nat) (x : Aisle) (k : Nat) : bskOf (setAis s j x) k = bskOf s k := rfl
@[simp] theorem bskOf_setStl (s : State) (j : Nat) (x : Stall) (k : Nat) : bskOf (setStl s j x) k = bskOf s k := rfl
@[simp] theorem bskOf_setTx (s : State) (j : Nat) (x : TxPort) (k : Nat) : bskOf (setTx s j x) k = bskOf s k := rfl
@[simp] theorem bskOf_setSol (s : State) (j : Nat) (x : SolPort) (k : Nat) : bskOf (setSol s j x) k = bskOf s k := rfl
@[simp] theorem bskOf_setSens (s : State) (j : Nat) (x : Sensor) (k : Nat) : bskOf (setSens s j x) k = bskOf s k := rfl
@[simp] theorem bskOf_setPol (s : State) (j : Nat) (x : Policy421) (k : Nat) : bskOf (setPol s j x) k = bskOf s k := rfl
@[simp] theorem blkOf_setWick (s : State) (j : Nat) (x : Wick) (k : Nat) : blkOf (setWick s j x) k = blkOf s k := rfl
@[simp] theorem blkOf_setSlot (s : State) (j : Nat) (x : Slot) (k : Nat) : blkOf (setSlot s j x) k = blkOf s k := rfl
@[simp] theorem blkOf_setChan (s : State) (j : Nat) (x : MoistCh) (k : Nat) : blkOf (setChan s j x) k = blkOf s k := rfl
@[simp] theorem blkOf_setCol (s : State) (j : Nat) (x : Column) (k : Nat) : blkOf (setCol s j x) k = blkOf s k := rfl
@[simp] theorem blkOf_setDry (s : State) (j : Nat) (x : Dry) (k : Nat) : blkOf (setDry s j x) k = blkOf s k := rfl
@[simp] theorem blkOf_setHeat (s : State) (j : Nat) (x : Heat) (k : Nat) : blkOf (setHeat s j x) k = blkOf s k := rfl
@[simp] theorem blkOf_setAer (s : State) (j : Nat) (x : Aer) (k : Nat) : blkOf (setAer s j x) k = blkOf s k := rfl
@[simp] theorem blkOf_setEng (s : State) (j : Nat) (x : Engine) (k : Nat) : blkOf (setEng s j x) k = blkOf s k := rfl
@[simp] theorem blkOf_setRow (s : State) (j : Nat) (x : Row) (k : Nat) : blkOf (setRow s j x) k = blkOf s k := rfl
@[simp] theorem blkOf_setBsk (s : State) (j : Nat) (x : Basket) (k : Nat) : blkOf (setBsk s j x) k = blkOf s k := rfl
@[simp] theorem blkOf_setTaper (s : State) (j : Nat) (x : Taper) (k : Nat) : blkOf (setTaper s j x) k = blkOf s k := rfl
@[simp] theorem blkOf_setLoop (s : State) (j : Nat) (x : Loop) (k : Nat) : blkOf (setLoop s j x) k = blkOf s k := rfl
@[simp] theorem blkOf_setMot (s : State) (j : Nat) (x : Motor) (k : Nat) : blkOf (setMot s j x) k = blkOf s k := rfl
@[simp] theorem blkOf_setGate (s : State) (j : Nat) (x : Gate) (k : Nat) : blkOf (setGate s j x) k = blkOf s k := rfl
@[simp] theorem blkOf_setRoute (s : State) (j : Nat) (x : Route) (k : Nat) : blkOf (setRoute s j x) k = blkOf s k := rfl
@[simp] theorem blkOf_setSlip (s : State) (j : Nat) (x : Slip) (k : Nat) : blkOf (setSlip s j x) k = blkOf s k := rfl
@[simp] theorem blkOf_setAis (s : State) (j : Nat) (x : Aisle) (k : Nat) : blkOf (setAis s j x) k = blkOf s k := rfl
@[simp] theorem blkOf_setStl (s : State) (j : Nat) (x : Stall) (k : Nat) : blkOf (setStl s j x) k = blkOf s k := rfl
@[simp] theorem blkOf_setTx (s : State) (j : Nat) (x : TxPort) (k : Nat) : blkOf (setTx s j x) k = blkOf s k := rfl
@[simp] theorem blkOf_setSol (s : State) (j : Nat) (x : SolPort) (k : Nat) : blkOf (setSol s j x) k = blkOf s k := rfl
@[simp] theorem blkOf_setSens (s : State) (j : Nat) (x : Sensor) (k : Nat) : blkOf (setSens s j x) k = blkOf s k := rfl
@[simp] theorem blkOf_setPol (s : State) (j : Nat) (x : Policy421) (k : Nat) : blkOf (setPol s j x) k = blkOf s k := rfl
@[simp] theorem taperOf_setWick (s : State) (j : Nat) (x : Wick) (k : Nat) : taperOf (setWick s j x) k = taperOf s k := rfl
@[simp] theorem taperOf_setSlot (s : State) (j : Nat) (x : Slot) (k : Nat) : taperOf (setSlot s j x) k = taperOf s k := rfl
@[simp] theorem taperOf_setChan (s : State) (j : Nat) (x : MoistCh) (k : Nat) : taperOf (setChan s j x) k = taperOf s k := rfl
@[simp] theorem taperOf_setCol (s : State) (j : Nat) (x : Column) (k : Nat) : taperOf (setCol s j x) k = taperOf s k := rfl
@[simp] theorem taperOf_setDry (s : State) (j : Nat) (x : Dry) (k : Nat) : taperOf (setDry s j x) k = taperOf s k := rfl
@[simp] theorem taperOf_setHeat (s : State) (j : Nat) (x : Heat) (k : Nat) : taperOf (setHeat s j x) k = taperOf s k := rfl
@[simp] theorem taperOf_setAer (s : State) (j : Nat) (x : Aer) (k : Nat) : taperOf (setAer s j x) k = taperOf s k := rfl
@[simp] theorem taperOf_setEng (s : State) (j : Nat) (x : Engine) (k : Nat) : taperOf (setEng s j x) k = taperOf s k := rfl
@[simp] theorem taperOf_setRow (s : State) (j : Nat) (x : Row) (k : Nat) : taperOf (setRow s j x) k = taperOf s k := rfl
@[simp] theorem taperOf_setBsk (s : State) (j : Nat) (x : Basket) (k : Nat) : taperOf (setBsk s j x) k = taperOf s k := rfl
@[simp] theorem taperOf_setBlk (s : State) (j : Nat) (x : BlockSt) (k : Nat) : taperOf (setBlk s j x) k = taperOf s k := rfl
@[simp] theorem taperOf_setLoop (s : State) (j : Nat) (x : Loop) (k : Nat) : taperOf (setLoop s j x) k = taperOf s k := rfl
@[simp] theorem taperOf_setMot (s : State) (j : Nat) (x : Motor) (k : Nat) : taperOf (setMot s j x) k = taperOf s k := rfl
@[simp] theorem taperOf_setGate (s : State) (j : Nat) (x : Gate) (k : Nat) : taperOf (setGate s j x) k = taperOf s k := rfl
@[simp] theorem taperOf_setRoute (s : State) (j : Nat) (x : Route) (k : Nat) : taperOf (setRoute s j x) k = taperOf s k := rfl
@[simp] theorem taperOf_setSlip (s : State) (j : Nat) (x : Slip) (k : Nat) : taperOf (setSlip s j x) k = taperOf s k := rfl
@[simp] theorem taperOf_setAis (s : State) (j : Nat) (x : Aisle) (k : Nat) : taperOf (setAis s j x) k = taperOf s k := rfl
@[simp] theorem taperOf_setStl (s : State) (j : Nat) (x : Stall) (k : Nat) : taperOf (setStl s j x) k = taperOf s k := rfl
@[simp] theorem taperOf_setTx (s : State) (j : Nat) (x : TxPort) (k : Nat) : taperOf (setTx s j x) k = taperOf s k := rfl
@[simp] theorem taperOf_setSol (s : State) (j : Nat) (x : SolPort) (k : Nat) : taperOf (setSol s j x) k = taperOf s k := rfl
@[simp] theorem taperOf_setSens (s : State) (j : Nat) (x : Sensor) (k : Nat) : taperOf (setSens s j x) k = taperOf s k := rfl
@[simp] theorem taperOf_setPol (s : State) (j : Nat) (x : Policy421) (k : Nat) : taperOf (setPol s j x) k = taperOf s k := rfl
@[simp] theorem loopOf_setWick (s : State) (j : Nat) (x : Wick) (k : Nat) : loopOf (setWick s j x) k = loopOf s k := rfl
@[simp] theorem loopOf_setSlot (s : State) (j : Nat) (x : Slot) (k : Nat) : loopOf (setSlot s j x) k = loopOf s k := rfl
@[simp] theorem loopOf_setChan (s : State) (j : Nat) (x : MoistCh) (k : Nat) : loopOf (setChan s j x) k = loopOf s k := rfl
@[simp] theorem loopOf_setCol (s : State) (j : Nat) (x : Column) (k : Nat) : loopOf (setCol s j x) k = loopOf s k := rfl
@[simp] theorem loopOf_setDry (s : State) (j : Nat) (x : Dry) (k : Nat) : loopOf (setDry s j x) k = loopOf s k := rfl
@[simp] theorem loopOf_setHeat (s : State) (j : Nat) (x : Heat) (k : Nat) : loopOf (setHeat s j x) k = loopOf s k := rfl
@[simp] theorem loopOf_setAer (s : State) (j : Nat) (x : Aer) (k : Nat) : loopOf (setAer s j x) k = loopOf s k := rfl
@[simp] theorem loopOf_setEng (s : State) (j : Nat) (x : Engine) (k : Nat) : loopOf (setEng s j x) k = loopOf s k := rfl
@[simp] theorem loopOf_setRow (s : State) (j : Nat) (x : Row) (k : Nat) : loopOf (setRow s j x) k = loopOf s k := rfl
@[simp] theorem loopOf_setBsk (s : State) (j : Nat) (x : Basket) (k : Nat) : loopOf (setBsk s j x) k = loopOf s k := rfl
@[simp] theorem loopOf_setBlk (s : State) (j : Nat) (x : BlockSt) (k : Nat) : loopOf (setBlk s j x) k = loopOf s k := rfl
@[simp] theorem loopOf_setTaper (s : State) (j : Nat) (x : Taper) (k : Nat) : loopOf (setTaper s j x) k = loopOf s k := rfl
@[simp] theorem loopOf_setMot (s : State) (j : Nat) (x : Motor) (k : Nat) : loopOf (setMot s j x) k = loopOf s k := rfl
@[simp] theorem loopOf_setGate (s : State) (j : Nat) (x : Gate) (k : Nat) : loopOf (setGate s j x) k = loopOf s k := rfl
@[simp] theorem loopOf_setRoute (s : State) (j : Nat) (x : Route) (k : Nat) : loopOf (setRoute s j x) k = loopOf s k := rfl
@[simp] theorem loopOf_setSlip (s : State) (j : Nat) (x : Slip) (k : Nat) : loopOf (setSlip s j x) k = loopOf s k := rfl
@[simp] theorem loopOf_setAis (s : State) (j : Nat) (x : Aisle) (k : Nat) : loopOf (setAis s j x) k = loopOf s k := rfl
@[simp] theorem loopOf_setStl (s : State) (j : Nat) (x : Stall) (k : Nat) : loopOf (setStl s j x) k = loopOf s k := rfl
@[simp] theorem loopOf_setTx (s : State) (j : Nat) (x : TxPort) (k : Nat) : loopOf (setTx s j x) k = loopOf s k := rfl
@[simp] theorem loopOf_setSol (s : State) (j : Nat) (x : SolPort) (k : Nat) : loopOf (setSol s j x) k = loopOf s k := rfl
@[simp] theorem loopOf_setSens (s : State) (j : Nat) (x : Sensor) (k : Nat) : loopOf (setSens s j x) k = loopOf s k := rfl
@[simp] theorem loopOf_setPol (s : State) (j : Nat) (x : Policy421) (k : Nat) : loopOf (setPol s j x) k = loopOf s k := rfl
@[simp] theorem motOf_setWick (s : State) (j : Nat) (x : Wick) (k : Nat) : motOf (setWick s j x) k = motOf s k := rfl
@[simp] theorem motOf_setSlot (s : State) (j : Nat) (x : Slot) (k : Nat) : motOf (setSlot s j x) k = motOf s k := rfl
@[simp] theorem motOf_setChan (s : State) (j : Nat) (x : MoistCh) (k : Nat) : motOf (setChan s j x) k = motOf s k := rfl
@[simp] theorem motOf_setCol (s : State) (j : Nat) (x : Column) (k : Nat) : motOf (setCol s j x) k = motOf s k := rfl
@[simp] theorem motOf_setDry (s : State) (j : Nat) (x : Dry) (k : Nat) : motOf (setDry s j x) k = motOf s k := rfl
@[simp] theorem motOf_setHeat (s : State) (j : Nat) (x : Heat) (k : Nat) : motOf (setHeat s j x) k = motOf s k := rfl
@[simp] theorem motOf_setAer (s : State) (j : Nat) (x : Aer) (k : Nat) : motOf (setAer s j x) k = motOf s k := rfl
@[simp] theorem motOf_setEng (s : State) (j : Nat) (x : Engine) (k : Nat) : motOf (setEng s j x) k = motOf s k := rfl
@[simp] theorem motOf_setRow (s : State) (j : Nat) (x : Row) (k : Nat) : motOf (setRow s j x) k = motOf s k := rfl
@[simp] theorem motOf_setBsk (s : State) (j : Nat) (x : Basket) (k : Nat) : motOf (setBsk s j x) k = motOf s k := rfl
@[simp] theorem motOf_setBlk (s : State) (j : Nat) (x : BlockSt) (k : Nat) : motOf (setBlk s j x) k = motOf s k := rfl
@[simp] theorem motOf_setTaper (s : State) (j : Nat) (x : Taper) (k : Nat) : motOf (setTaper s j x) k = motOf s k := rfl
@[simp] theorem motOf_setLoop (s : State) (j : Nat) (x : Loop) (k : Nat) : motOf (setLoop s j x) k = motOf s k := rfl
@[simp] theorem motOf_setGate (s : State) (j : Nat) (x : Gate) (k : Nat) : motOf (setGate s j x) k = motOf s k := rfl
@[simp] theorem motOf_setRoute (s : State) (j : Nat) (x : Route) (k : Nat) : motOf (setRoute s j x) k = motOf s k := rfl
@[simp] theorem motOf_setSlip (s : State) (j : Nat) (x : Slip) (k : Nat) : motOf (setSlip s j x) k = motOf s k := rfl
@[simp] theorem motOf_setAis (s : State) (j : Nat) (x : Aisle) (k : Nat) : motOf (setAis s j x) k = motOf s k := rfl
@[simp] theorem motOf_setStl (s : State) (j : Nat) (x : Stall) (k : Nat) : motOf (setStl s j x) k = motOf s k := rfl
@[simp] theorem motOf_setTx (s : State) (j : Nat) (x : TxPort) (k : Nat) : motOf (setTx s j x) k = motOf s k := rfl
@[simp] theorem motOf_setSol (s : State) (j : Nat) (x : SolPort) (k : Nat) : motOf (setSol s j x) k = motOf s k := rfl
@[simp] theorem motOf_setSens (s : State) (j : Nat) (x : Sensor) (k : Nat) : motOf (setSens s j x) k = motOf s k := rfl
@[simp] theorem motOf_setPol (s : State) (j : Nat) (x : Policy421) (k : Nat) : motOf (setPol s j x) k = motOf s k := rfl
@[simp] theorem gateOf_setWick (s : State) (j : Nat) (x : Wick) (k : Nat) : gateOf (setWick s j x) k = gateOf s k := rfl
@[simp] theorem gateOf_setSlot (s : State) (j : Nat) (x : Slot) (k : Nat) : gateOf (setSlot s j x) k = gateOf s k := rfl
@[simp] theorem gateOf_setChan (s : State) (j : Nat) (x : MoistCh) (k : Nat) : gateOf (setChan s j x) k = gateOf s k := rfl
@[simp] theorem gateOf_setCol (s : State) (j : Nat) (x : Column) (k : Nat) : gateOf (setCol s j x) k = gateOf s k := rfl
@[simp] theorem gateOf_setDry (s : State) (j : Nat) (x : Dry) (k : Nat) : gateOf (setDry s j x) k = gateOf s k := rfl
@[simp] theorem gateOf_setHeat (s : State) (j : Nat) (x : Heat) (k : Nat) : gateOf (setHeat s j x) k = gateOf s k := rfl
@[simp] theorem gateOf_setAer (s : State) (j : Nat) (x : Aer) (k : Nat) : gateOf (setAer s j x) k = gateOf s k := rfl
@[simp] theorem gateOf_setEng (s : State) (j : Nat) (x : Engine) (k : Nat) : gateOf (setEng s j x) k = gateOf s k := rfl
@[simp] theorem gateOf_setRow (s : State) (j : Nat) (x : Row) (k : Nat) : gateOf (setRow s j x) k = gateOf s k := rfl
@[simp] theorem gateOf_setBsk (s : State) (j : Nat) (x : Basket) (k : Nat) : gateOf (setBsk s j x) k = gateOf s k := rfl
@[simp] theorem gateOf_setBlk (s : State) (j : Nat) (x : BlockSt) (k : Nat) : gateOf (setBlk s j x) k = gateOf s k := rfl
@[simp] theorem gateOf_setTaper (s : State) (j : Nat) (x : Taper) (k : Nat) : gateOf (setTaper s j x) k = gateOf s k := rfl
@[simp] theorem gateOf_setLoop (s : State) (j : Nat) (x : Loop) (k : Nat) : gateOf (setLoop s j x) k = gateOf s k := rfl
@[simp] theorem gateOf_setMot (s : State) (j : Nat) (x : Motor) (k : Nat) : gateOf (setMot s j x) k = gateOf s k := rfl
@[simp] theorem gateOf_setRoute (s : State) (j : Nat) (x : Route) (k : Nat) : gateOf (setRoute s j x) k = gateOf s k := rfl
@[simp] theorem gateOf_setSlip (s : State) (j : Nat) (x : Slip) (k : Nat) : gateOf (setSlip s j x) k = gateOf s k := rfl
@[simp] theorem gateOf_setAis (s : State) (j : Nat) (x : Aisle) (k : Nat) : gateOf (setAis s j x) k = gateOf s k := rfl
@[simp] theorem gateOf_setStl (s : State) (j : Nat) (x : Stall) (k : Nat) : gateOf (setStl s j x) k = gateOf s k := rfl
@[simp] theorem gateOf_setTx (s : State) (j : Nat) (x : TxPort) (k : Nat) : gateOf (setTx s j x) k = gateOf s k := rfl
@[simp] theorem gateOf_setSol (s : State) (j : Nat) (x : SolPort) (k : Nat) : gateOf (setSol s j x) k = gateOf s k := rfl
@[simp] theorem gateOf_setSens (s : State) (j : Nat) (x : Sensor) (k : Nat) : gateOf (setSens s j x) k = gateOf s k := rfl
@[simp] theorem gateOf_setPol (s : State) (j : Nat) (x : Policy421) (k : Nat) : gateOf (setPol s j x) k = gateOf s k := rfl
@[simp] theorem routeOf_setWick (s : State) (j : Nat) (x : Wick) (k : Nat) : routeOf (setWick s j x) k = routeOf s k := rfl
@[simp] theorem routeOf_setSlot (s : State) (j : Nat) (x : Slot) (k : Nat) : routeOf (setSlot s j x) k = routeOf s k := rfl
@[simp] theorem routeOf_setChan (s : State) (j : Nat) (x : MoistCh) (k : Nat) : routeOf (setChan s j x) k = routeOf s k := rfl
@[simp] theorem routeOf_setCol (s : State) (j : Nat) (x : Column) (k : Nat) : routeOf (setCol s j x) k = routeOf s k := rfl
@[simp] theorem routeOf_setDry (s : State) (j : Nat) (x : Dry) (k : Nat) : routeOf (setDry s j x) k = routeOf s k := rfl
@[simp] theorem routeOf_setHeat (s : State) (j : Nat) (x : Heat) (k : Nat) : routeOf (setHeat s j x) k = routeOf s k := rfl
@[simp] theorem routeOf_setAer (s : State) (j : Nat) (x : Aer) (k : Nat) : routeOf (setAer s j x) k = routeOf s k := rfl
@[simp] theorem routeOf_setEng (s : State) (j : Nat) (x : Engine) (k : Nat) : routeOf (setEng s j x) k = routeOf s k := rfl
@[simp] theorem routeOf_setRow (s : State) (j : Nat) (x : Row) (k : Nat) : routeOf (setRow s j x) k = routeOf s k := rfl
@[simp] theorem routeOf_setBsk (s : State) (j : Nat) (x : Basket) (k : Nat) : routeOf (setBsk s j x) k = routeOf s k := rfl
@[simp] theorem routeOf_setBlk (s : State) (j : Nat) (x : BlockSt) (k : Nat) : routeOf (setBlk s j x) k = routeOf s k := rfl
@[simp] theorem routeOf_setTaper (s : State) (j : Nat) (x : Taper) (k : Nat) : routeOf (setTaper s j x) k = routeOf s k := rfl
@[simp] theorem routeOf_setLoop (s : State) (j : Nat) (x : Loop) (k : Nat) : routeOf (setLoop s j x) k = routeOf s k := rfl
@[simp] theorem routeOf_setMot (s : State) (j : Nat) (x : Motor) (k : Nat) : routeOf (setMot s j x) k = routeOf s k := rfl
@[simp] theorem routeOf_setGate (s : State) (j : Nat) (x : Gate) (k : Nat) : routeOf (setGate s j x) k = routeOf s k := rfl
@[simp] theorem routeOf_setSlip (s : State) (j : Nat) (x : Slip) (k : Nat) : routeOf (setSlip s j x) k = routeOf s k := rfl
@[simp] theorem routeOf_setAis (s : State) (j : Nat) (x : Aisle) (k : Nat) : routeOf (setAis s j x) k = routeOf s k := rfl
@[simp] theorem routeOf_setStl (s : State) (j : Nat) (x : Stall) (k : Nat) : routeOf (setStl s j x) k = routeOf s k := rfl
@[simp] theorem routeOf_setTx (s : State) (j : Nat) (x : TxPort) (k : Nat) : routeOf (setTx s j x) k = routeOf s k := rfl
@[simp] theorem routeOf_setSol (s : State) (j : Nat) (x : SolPort) (k : Nat) : routeOf (setSol s j x) k = routeOf s k := rfl
@[simp] theorem routeOf_setSens (s : State) (j : Nat) (x : Sensor) (k : Nat) : routeOf (setSens s j x) k = routeOf s k := rfl
@[simp] theorem routeOf_setPol (s : State) (j : Nat) (x : Policy421) (k : Nat) : routeOf (setPol s j x) k = routeOf s k := rfl
@[simp] theorem slipOf_setWick (s : State) (j : Nat) (x : Wick) (k : Nat) : slipOf (setWick s j x) k = slipOf s k := rfl
@[simp] theorem slipOf_setSlot (s : State) (j : Nat) (x : Slot) (k : Nat) : slipOf (setSlot s j x) k = slipOf s k := rfl
@[simp] theorem slipOf_setChan (s : State) (j : Nat) (x : MoistCh) (k : Nat) : slipOf (setChan s j x) k = slipOf s k := rfl
@[simp] theorem slipOf_setCol (s : State) (j : Nat) (x : Column) (k : Nat) : slipOf (setCol s j x) k = slipOf s k := rfl
@[simp] theorem slipOf_setDry (s : State) (j : Nat) (x : Dry) (k : Nat) : slipOf (setDry s j x) k = slipOf s k := rfl
@[simp] theorem slipOf_setHeat (s : State) (j : Nat) (x : Heat) (k : Nat) : slipOf (setHeat s j x) k = slipOf s k := rfl
@[simp] theorem slipOf_setAer (s : State) (j : Nat) (x : Aer) (k : Nat) : slipOf (setAer s j x) k = slipOf s k := rfl
@[simp] theorem slipOf_setEng (s : State) (j : Nat) (x : Engine) (k : Nat) : slipOf (setEng s j x) k = slipOf s k := rfl
@[simp] theorem slipOf_setRow (s : State) (j : Nat) (x : Row) (k : Nat) : slipOf (setRow s j x) k = slipOf s k := rfl
@[simp] theorem slipOf_setBsk (s : State) (j : Nat) (x : Basket) (k : Nat) : slipOf (setBsk s j x) k = slipOf s k := rfl
@[simp] theorem slipOf_setBlk (s : State) (j : Nat) (x : BlockSt) (k : Nat) : slipOf (setBlk s j x) k = slipOf s k := rfl
@[simp] theorem slipOf_setTaper (s : State) (j : Nat) (x : Taper) (k : Nat) : slipOf (setTaper s j x) k = slipOf s k := rfl
@[simp] theorem slipOf_setLoop (s : State) (j : Nat) (x : Loop) (k : Nat) : slipOf (setLoop s j x) k = slipOf s k := rfl
@[simp] theorem slipOf_setMot (s : State) (j : Nat) (x : Motor) (k : Nat) : slipOf (setMot s j x) k = slipOf s k := rfl
@[simp] theorem slipOf_setGate (s : State) (j : Nat) (x : Gate) (k : Nat) : slipOf (setGate s j x) k = slipOf s k := rfl
@[simp] theorem slipOf_setRoute (s : State) (j : Nat) (x : Route) (k : Nat) : slipOf (setRoute s j x) k = slipOf s k := rfl
@[simp] theorem slipOf_setAis (s : State) (j : Nat) (x : Aisle) (k : Nat) : slipOf (setAis s j x) k = slipOf s k := rfl
@[simp] theorem slipOf_setStl (s : State) (j : Nat) (x : Stall) (k : Nat) : slipOf (setStl s j x) k = slipOf s k := rfl
@[simp] theorem slipOf_setTx (s : State) (j : Nat) (x : TxPort) (k : Nat) : slipOf (setTx s j x) k = slipOf s k := rfl
@[simp] theorem slipOf_setSol (s : State) (j : Nat) (x : SolPort) (k : Nat) : slipOf (setSol s j x) k = slipOf s k := rfl
@[simp] theorem slipOf_setSens (s : State) (j : Nat) (x : Sensor) (k : Nat) : slipOf (setSens s j x) k = slipOf s k := rfl
@[simp] theorem slipOf_setPol (s : State) (j : Nat) (x : Policy421) (k : Nat) : slipOf (setPol s j x) k = slipOf s k := rfl
@[simp] theorem aisOf_setWick (s : State) (j : Nat) (x : Wick) (k : Nat) : aisOf (setWick s j x) k = aisOf s k := rfl
@[simp] theorem aisOf_setSlot (s : State) (j : Nat) (x : Slot) (k : Nat) : aisOf (setSlot s j x) k = aisOf s k := rfl
@[simp] theorem aisOf_setChan (s : State) (j : Nat) (x : MoistCh) (k : Nat) : aisOf (setChan s j x) k = aisOf s k := rfl
@[simp] theorem aisOf_setCol (s : State) (j : Nat) (x : Column) (k : Nat) : aisOf (setCol s j x) k = aisOf s k := rfl
@[simp] theorem aisOf_setDry (s : State) (j : Nat) (x : Dry) (k : Nat) : aisOf (setDry s j x) k = aisOf s k := rfl
@[simp] theorem aisOf_setHeat (s : State) (j : Nat) (x : Heat) (k : Nat) : aisOf (setHeat s j x) k = aisOf s k := rfl
@[simp] theorem aisOf_setAer (s : State) (j : Nat) (x : Aer) (k : Nat) : aisOf (setAer s j x) k = aisOf s k := rfl
@[simp] theorem aisOf_setEng (s : State) (j : Nat) (x : Engine) (k : Nat) : aisOf (setEng s j x) k = aisOf s k := rfl
@[simp] theorem aisOf_setRow (s : State) (j : Nat) (x : Row) (k : Nat) : aisOf (setRow s j x) k = aisOf s k := rfl
@[simp] theorem aisOf_setBsk (s : State) (j : Nat) (x : Basket) (k : Nat) : aisOf (setBsk s j x) k = aisOf s k := rfl
@[simp] theorem aisOf_setBlk (s : State) (j : Nat) (x : BlockSt) (k : Nat) : aisOf (setBlk s j x) k = aisOf s k := rfl
@[simp] theorem aisOf_setTaper (s : State) (j : Nat) (x : Taper) (k : Nat) : aisOf (setTaper s j x) k = aisOf s k := rfl
@[simp] theorem aisOf_setLoop (s : State) (j : Nat) (x : Loop) (k : Nat) : aisOf (setLoop s j x) k = aisOf s k := rfl
@[simp] theorem aisOf_setMot (s : State) (j : Nat) (x : Motor) (k : Nat) : aisOf (setMot s j x) k = aisOf s k := rfl
@[simp] theorem aisOf_setGate (s : State) (j : Nat) (x : Gate) (k : Nat) : aisOf (setGate s j x) k = aisOf s k := rfl
@[simp] theorem aisOf_setRoute (s : State) (j : Nat) (x : Route) (k : Nat) : aisOf (setRoute s j x) k = aisOf s k := rfl
@[simp] theorem aisOf_setSlip (s : State) (j : Nat) (x : Slip) (k : Nat) : aisOf (setSlip s j x) k = aisOf s k := rfl
@[simp] theorem aisOf_setStl (s : State) (j : Nat) (x : Stall) (k : Nat) : aisOf (setStl s j x) k = aisOf s k := rfl
@[simp] theorem aisOf_setTx (s : State) (j : Nat) (x : TxPort) (k : Nat) : aisOf (setTx s j x) k = aisOf s k := rfl
@[simp] theorem aisOf_setSol (s : State) (j : Nat) (x : SolPort) (k : Nat) : aisOf (setSol s j x) k = aisOf s k := rfl
@[simp] theorem aisOf_setSens (s : State) (j : Nat) (x : Sensor) (k : Nat) : aisOf (setSens s j x) k = aisOf s k := rfl
@[simp] theorem aisOf_setPol (s : State) (j : Nat) (x : Policy421) (k : Nat) : aisOf (setPol s j x) k = aisOf s k := rfl
@[simp] theorem stlOf_setWick (s : State) (j : Nat) (x : Wick) (k : Nat) : stlOf (setWick s j x) k = stlOf s k := rfl
@[simp] theorem stlOf_setSlot (s : State) (j : Nat) (x : Slot) (k : Nat) : stlOf (setSlot s j x) k = stlOf s k := rfl
@[simp] theorem stlOf_setChan (s : State) (j : Nat) (x : MoistCh) (k : Nat) : stlOf (setChan s j x) k = stlOf s k := rfl
@[simp] theorem stlOf_setCol (s : State) (j : Nat) (x : Column) (k : Nat) : stlOf (setCol s j x) k = stlOf s k := rfl
@[simp] theorem stlOf_setDry (s : State) (j : Nat) (x : Dry) (k : Nat) : stlOf (setDry s j x) k = stlOf s k := rfl
@[simp] theorem stlOf_setHeat (s : State) (j : Nat) (x : Heat) (k : Nat) : stlOf (setHeat s j x) k = stlOf s k := rfl
@[simp] theorem stlOf_setAer (s : State) (j : Nat) (x : Aer) (k : Nat) : stlOf (setAer s j x) k = stlOf s k := rfl
@[simp] theorem stlOf_setEng (s : State) (j : Nat) (x : Engine) (k : Nat) : stlOf (setEng s j x) k = stlOf s k := rfl
@[simp] theorem stlOf_setRow (s : State) (j : Nat) (x : Row) (k : Nat) : stlOf (setRow s j x) k = stlOf s k := rfl
@[simp] theorem stlOf_setBsk (s : State) (j : Nat) (x : Basket) (k : Nat) : stlOf (setBsk s j x) k = stlOf s k := rfl
@[simp] theorem stlOf_setBlk (s : State) (j : Nat) (x : BlockSt) (k : Nat) : stlOf (setBlk s j x) k = stlOf s k := rfl
@[simp] theorem stlOf_setTaper (s : State) (j : Nat) (x : Taper) (k : Nat) : stlOf (setTaper s j x) k = stlOf s k := rfl
@[simp] theorem stlOf_setLoop (s : State) (j : Nat) (x : Loop) (k : Nat) : stlOf (setLoop s j x) k = stlOf s k := rfl
@[simp] theorem stlOf_setMot (s : State) (j : Nat) (x : Motor) (k : Nat) : stlOf (setMot s j x) k = stlOf s k := rfl
@[simp] theorem stlOf_setGate (s : State) (j : Nat) (x : Gate) (k : Nat) : stlOf (setGate s j x) k = stlOf s k := rfl
@[simp] theorem stlOf_setRoute (s : State) (j : Nat) (x : Route) (k : Nat) : stlOf (setRoute s j x) k = stlOf s k := rfl
@[simp] theorem stlOf_setSlip (s : State) (j : Nat) (x : Slip) (k : Nat) : stlOf (setSlip s j x) k = stlOf s k := rfl
@[simp] theorem stlOf_setAis (s : State) (j : Nat) (x : Aisle) (k : Nat) : stlOf (setAis s j x) k = stlOf s k := rfl
@[simp] theorem stlOf_setTx (s : State) (j : Nat) (x : TxPort) (k : Nat) : stlOf (setTx s j x) k = stlOf s k := rfl
@[simp] theorem stlOf_setSol (s : State) (j : Nat) (x : SolPort) (k : Nat) : stlOf (setSol s j x) k = stlOf s k := rfl
@[simp] theorem stlOf_setSens (s : State) (j : Nat) (x : Sensor) (k : Nat) : stlOf (setSens s j x) k = stlOf s k := rfl
@[simp] theorem stlOf_setPol (s : State) (j : Nat) (x : Policy421) (k : Nat) : stlOf (setPol s j x) k = stlOf s k := rfl
@[simp] theorem txOf_setWick (s : State) (j : Nat) (x : Wick) (k : Nat) : txOf (setWick s j x) k = txOf s k := rfl
@[simp] theorem txOf_setSlot (s : State) (j : Nat) (x : Slot) (k : Nat) : txOf (setSlot s j x) k = txOf s k := rfl
@[simp] theorem txOf_setChan (s : State) (j : Nat) (x : MoistCh) (k : Nat) : txOf (setChan s j x) k = txOf s k := rfl
@[simp] theorem txOf_setCol (s : State) (j : Nat) (x : Column) (k : Nat) : txOf (setCol s j x) k = txOf s k := rfl
@[simp] theorem txOf_setDry (s : State) (j : Nat) (x : Dry) (k : Nat) : txOf (setDry s j x) k = txOf s k := rfl
@[simp] theorem txOf_setHeat (s : State) (j : Nat) (x : Heat) (k : Nat) : txOf (setHeat s j x) k = txOf s k := rfl
@[simp] theorem txOf_setAer (s : State) (j : Nat) (x : Aer) (k : Nat) : txOf (setAer s j x) k = txOf s k := rfl
@[simp] theorem txOf_setEng (s : State) (j : Nat) (x : Engine) (k : Nat) : txOf (setEng s j x) k = txOf s k := rfl
@[simp] theorem txOf_setRow (s : State) (j : Nat) (x : Row) (k : Nat) : txOf (setRow s j x) k = txOf s k := rfl
@[simp] theorem txOf_setBsk (s : State) (j : Nat) (x : Basket) (k : Nat) : txOf (setBsk s j x) k = txOf s k := rfl
@[simp] theorem txOf_setBlk (s : State) (j : Nat) (x : BlockSt) (k : Nat) : txOf (setBlk s j x) k = txOf s k := rfl
@[simp] theorem txOf_setTaper (s : State) (j : Nat) (x : Taper) (k : Nat) : txOf (setTaper s j x) k = txOf s k := rfl
@[simp] theorem txOf_setLoop (s : State) (j : Nat) (x : Loop) (k : Nat) : txOf (setLoop s j x) k = txOf s k := rfl
@[simp] theorem txOf_setMot (s : State) (j : Nat) (x : Motor) (k : Nat) : txOf (setMot s j x) k = txOf s k := rfl
@[simp] theorem txOf_setGate (s : State) (j : Nat) (x : Gate) (k : Nat) : txOf (setGate s j x) k = txOf s k := rfl
@[simp] theorem txOf_setRoute (s : State) (j : Nat) (x : Route) (k : Nat) : txOf (setRoute s j x) k = txOf s k := rfl
@[simp] theorem txOf_setSlip (s : State) (j : Nat) (x : Slip) (k : Nat) : txOf (setSlip s j x) k = txOf s k := rfl
@[simp] theorem txOf_setAis (s : State) (j : Nat) (x : Aisle) (k : Nat) : txOf (setAis s j x) k = txOf s k := rfl
@[simp] theorem txOf_setStl (s : State) (j : Nat) (x : Stall) (k : Nat) : txOf (setStl s j x) k = txOf s k := rfl
@[simp] theorem txOf_setSol (s : State) (j : Nat) (x : SolPort) (k : Nat) : txOf (setSol s j x) k = txOf s k := rfl
@[simp] theorem txOf_setSens (s : State) (j : Nat) (x : Sensor) (k : Nat) : txOf (setSens s j x) k = txOf s k := rfl
@[simp] theorem txOf_setPol (s : State) (j : Nat) (x : Policy421) (k : Nat) : txOf (setPol s j x) k = txOf s k := rfl
@[simp] theorem solOf_setWick (s : State) (j : Nat) (x : Wick) (k : Nat) : solOf (setWick s j x) k = solOf s k := rfl
@[simp] theorem solOf_setSlot (s : State) (j : Nat) (x : Slot) (k : Nat) : solOf (setSlot s j x) k = solOf s k := rfl
@[simp] theorem solOf_setChan (s : State) (j : Nat) (x : MoistCh) (k : Nat) : solOf (setChan s j x) k = solOf s k := rfl
@[simp] theorem solOf_setCol (s : State) (j : Nat) (x : Column) (k : Nat) : solOf (setCol s j x) k = solOf s k := rfl
@[simp] theorem solOf_setDry (s : State) (j : Nat) (x : Dry) (k : Nat) : solOf (setDry s j x) k = solOf s k := rfl
@[simp] theorem solOf_setHeat (s : State) (j : Nat) (x : Heat) (k : Nat) : solOf (setHeat s j x) k = solOf s k := rfl
@[simp] theorem solOf_setAer (s : State) (j : Nat) (x : Aer) (k : Nat) : solOf (setAer s j x) k = solOf s k := rfl
@[simp] theorem solOf_setEng (s : State) (j : Nat) (x : Engine) (k : Nat) : solOf (setEng s j x) k = solOf s k := rfl
@[simp] theorem solOf_setRow (s : State) (j : Nat) (x : Row) (k : Nat) : solOf (setRow s j x) k = solOf s k := rfl
@[simp] theorem solOf_setBsk (s : State) (j : Nat) (x : Basket) (k : Nat) : solOf (setBsk s j x) k = solOf s k := rfl
@[simp] theorem solOf_setBlk (s : State) (j : Nat) (x : BlockSt) (k : Nat) : solOf (setBlk s j x) k = solOf s k := rfl
@[simp] theorem solOf_setTaper (s : State) (j : Nat) (x : Taper) (k : Nat) : solOf (setTaper s j x) k = solOf s k := rfl
@[simp] theorem solOf_setLoop (s : State) (j : Nat) (x : Loop) (k : Nat) : solOf (setLoop s j x) k = solOf s k := rfl
@[simp] theorem solOf_setMot (s : State) (j : Nat) (x : Motor) (k : Nat) : solOf (setMot s j x) k = solOf s k := rfl
@[simp] theorem solOf_setGate (s : State) (j : Nat) (x : Gate) (k : Nat) : solOf (setGate s j x) k = solOf s k := rfl
@[simp] theorem solOf_setRoute (s : State) (j : Nat) (x : Route) (k : Nat) : solOf (setRoute s j x) k = solOf s k := rfl
@[simp] theorem solOf_setSlip (s : State) (j : Nat) (x : Slip) (k : Nat) : solOf (setSlip s j x) k = solOf s k := rfl
@[simp] theorem solOf_setAis (s : State) (j : Nat) (x : Aisle) (k : Nat) : solOf (setAis s j x) k = solOf s k := rfl
@[simp] theorem solOf_setStl (s : State) (j : Nat) (x : Stall) (k : Nat) : solOf (setStl s j x) k = solOf s k := rfl
@[simp] theorem solOf_setTx (s : State) (j : Nat) (x : TxPort) (k : Nat) : solOf (setTx s j x) k = solOf s k := rfl
@[simp] theorem solOf_setSens (s : State) (j : Nat) (x : Sensor) (k : Nat) : solOf (setSens s j x) k = solOf s k := rfl
@[simp] theorem solOf_setPol (s : State) (j : Nat) (x : Policy421) (k : Nat) : solOf (setPol s j x) k = solOf s k := rfl
@[simp] theorem sensOf_setWick (s : State) (j : Nat) (x : Wick) (k : Nat) : sensOf (setWick s j x) k = sensOf s k := rfl
@[simp] theorem sensOf_setSlot (s : State) (j : Nat) (x : Slot) (k : Nat) : sensOf (setSlot s j x) k = sensOf s k := rfl
@[simp] theorem sensOf_setChan (s : State) (j : Nat) (x : MoistCh) (k : Nat) : sensOf (setChan s j x) k = sensOf s k := rfl
@[simp] theorem sensOf_setCol (s : State) (j : Nat) (x : Column) (k : Nat) : sensOf (setCol s j x) k = sensOf s k := rfl
@[simp] theorem sensOf_setDry (s : State) (j : Nat) (x : Dry) (k : Nat) : sensOf (setDry s j x) k = sensOf s k := rfl
@[simp] theorem sensOf_setHeat (s : State) (j : Nat) (x : Heat) (k : Nat) : sensOf (setHeat s j x) k = sensOf s k := rfl
@[simp] theorem sensOf_setAer (s : State) (j : Nat) (x : Aer) (k : Nat) : sensOf (setAer s j x) k = sensOf s k := rfl
@[simp] theorem sensOf_setEng (s : State) (j : Nat) (x : Engine) (k : Nat) : sensOf (setEng s j x) k = sensOf s k := rfl
@[simp] theorem sensOf_setRow (s : State) (j : Nat) (x : Row) (k : Nat) : sensOf (setRow s j x) k = sensOf s k := rfl
@[simp] theorem sensOf_setBsk (s : State) (j : Nat) (x : Basket) (k : Nat) : sensOf (setBsk s j x) k = sensOf s k := rfl
@[simp] theorem sensOf_setBlk (s : State) (j : Nat) (x : BlockSt) (k : Nat) : sensOf (setBlk s j x) k = sensOf s k := rfl
@[simp] theorem sensOf_setTaper (s : State) (j : Nat) (x : Taper) (k : Nat) : sensOf (setTaper s j x) k = sensOf s k := rfl
@[simp] theorem sensOf_setLoop (s : State) (j : Nat) (x : Loop) (k : Nat) : sensOf (setLoop s j x) k = sensOf s k := rfl
@[simp] theorem sensOf_setMot (s : State) (j : Nat) (x : Motor) (k : Nat) : sensOf (setMot s j x) k = sensOf s k := rfl
@[simp] theorem sensOf_setGate (s : State) (j : Nat) (x : Gate) (k : Nat) : sensOf (setGate s j x) k = sensOf s k := rfl
@[simp] theorem sensOf_setRoute (s : State) (j : Nat) (x : Route) (k : Nat) : sensOf (setRoute s j x) k = sensOf s k := rfl
@[simp] theorem sensOf_setSlip (s : State) (j : Nat) (x : Slip) (k : Nat) : sensOf (setSlip s j x) k = sensOf s k := rfl
@[simp] theorem sensOf_setAis (s : State) (j : Nat) (x : Aisle) (k : Nat) : sensOf (setAis s j x) k = sensOf s k := rfl
@[simp] theorem sensOf_setStl (s : State) (j : Nat) (x : Stall) (k : Nat) : sensOf (setStl s j x) k = sensOf s k := rfl
@[simp] theorem sensOf_setTx (s : State) (j : Nat) (x : TxPort) (k : Nat) : sensOf (setTx s j x) k = sensOf s k := rfl
@[simp] theorem sensOf_setSol (s : State) (j : Nat) (x : SolPort) (k : Nat) : sensOf (setSol s j x) k = sensOf s k := rfl
@[simp] theorem sensOf_setPol (s : State) (j : Nat) (x : Policy421) (k : Nat) : sensOf (setPol s j x) k = sensOf s k := rfl
@[simp] theorem polOf_setWick (s : State) (j : Nat) (x : Wick) (k : Nat) : polOf (setWick s j x) k = polOf s k := rfl
@[simp] theorem polOf_setSlot (s : State) (j : Nat) (x : Slot) (k : Nat) : polOf (setSlot s j x) k = polOf s k := rfl
@[simp] theorem polOf_setChan (s : State) (j : Nat) (x : MoistCh) (k : Nat) : polOf (setChan s j x) k = polOf s k := rfl
@[simp] theorem polOf_setCol (s : State) (j : Nat) (x : Column) (k : Nat) : polOf (setCol s j x) k = polOf s k := rfl
@[simp] theorem polOf_setDry (s : State) (j : Nat) (x : Dry) (k : Nat) : polOf (setDry s j x) k = polOf s k := rfl
@[simp] theorem polOf_setHeat (s : State) (j : Nat) (x : Heat) (k : Nat) : polOf (setHeat s j x) k = polOf s k := rfl
@[simp] theorem polOf_setAer (s : State) (j : Nat) (x : Aer) (k : Nat) : polOf (setAer s j x) k = polOf s k := rfl
@[simp] theorem polOf_setEng (s : State) (j : Nat) (x : Engine) (k : Nat) : polOf (setEng s j x) k = polOf s k := rfl
@[simp] theorem polOf_setRow (s : State) (j : Nat) (x : Row) (k : Nat) : polOf (setRow s j x) k = polOf s k := rfl
@[simp] theorem polOf_setBsk (s : State) (j : Nat) (x : Basket) (k : Nat) : polOf (setBsk s j x) k = polOf s k := rfl
@[simp] theorem polOf_setBlk (s : State) (j : Nat) (x : BlockSt) (k : Nat) : polOf (setBlk s j x) k = polOf s k := rfl
@[simp] theorem polOf_setTaper (s : State) (j : Nat) (x : Taper) (k : Nat) : polOf (setTaper s j x) k = polOf s k := rfl
@[simp] theorem polOf_setLoop (s : State) (j : Nat) (x : Loop) (k : Nat) : polOf (setLoop s j x) k = polOf s k := rfl
@[simp] theorem polOf_setMot (s : State) (j : Nat) (x : Motor) (k : Nat) : polOf (setMot s j x) k = polOf s k := rfl
@[simp] theorem polOf_setGate (s : State) (j : Nat) (x : Gate) (k : Nat) : polOf (setGate s j x) k = polOf s k := rfl
@[simp] theorem polOf_setRoute (s : State) (j : Nat) (x : Route) (k : Nat) : polOf (setRoute s j x) k = polOf s k := rfl
@[simp] theorem polOf_setSlip (s : State) (j : Nat) (x : Slip) (k : Nat) : polOf (setSlip s j x) k = polOf s k := rfl
@[simp] theorem polOf_setAis (s : State) (j : Nat) (x : Aisle) (k : Nat) : polOf (setAis s j x) k = polOf s k := rfl
@[simp] theorem polOf_setStl (s : State) (j : Nat) (x : Stall) (k : Nat) : polOf (setStl s j x) k = polOf s k := rfl
@[simp] theorem polOf_setTx (s : State) (j : Nat) (x : TxPort) (k : Nat) : polOf (setTx s j x) k = polOf s k := rfl
@[simp] theorem polOf_setSol (s : State) (j : Nat) (x : SolPort) (k : Nat) : polOf (setSol s j x) k = polOf s k := rfl
@[simp] theorem polOf_setSens (s : State) (j : Nat) (x : Sensor) (k : Nat) : polOf (setSens s j x) k = polOf s k := rfl

theorem regW_setSticky_ne (s : State) {r r' : RegName} {i j : Nat} (m : W32) (h : regAddr r i ≠ regAddr r' j) :
    regW (setSticky s r i m) r' j = regW s r' j := regW_setRegW_ne s _ h

theorem regW_stick_ne (s : State) {r r' : RegName} {i j : Nat} (b : Nat) (h : regAddr r i ≠ regAddr r' j) :
    regW (stick s r i b) r' j = regW s r' j := regW_setRegW_ne s _ h

/-- A sticky bit is set and the word's other bits stay (R8). -/
@[simp] theorem regW_stick_same (s : State) (r : RegName) (i b : Nat) : regW (stick s r i b) r i = regW s r i ||| putB b true := by
  simp [stick, setSticky]

/-- A sticky bit that the device sets reads 1 (R8). -/
@[simp] theorem regB_stick_same (s : State) (r : RegName) (i : Nat) {b : Nat} (h : b < 32) : regB (stick s r i b) r i b = true := by
  simp [regB, h]

/-- Recording an event changes the recorder and, where its queue is full, EVR_STATUS. -/
theorem regW_logAt_ne (s : State) (t : Nat) (src : EvSrc) (name : EventName) (data conts : Nat) {r : RegName} {i : Nat}
    (h : regAddr .evrStatus 0 ≠ regAddr r i) : regW (logAt s t src name data conts) r i = regW s r i := by
  unfold logAt
  repeat' split
  all_goals first | rfl | exact regW_stick_ne _ _ h

theorem regW_logRaw_ne (s : State) (src : EvSrc) (name : EventName) (data conts : Nat) {r : RegName} {i : Nat}
    (h : regAddr .evrStatus 0 ≠ regAddr r i) : regW (logRaw s src name data conts) r i = regW s r i := regW_logAt_ne _ _ _ _ _ _ h

theorem regW_logEv_ne (s : State) (src : EvSrc) (name : EventName) (what : Nat) {r : RegName} {i : Nat}
    (h : regAddr .evrStatus 0 ≠ regAddr r i) : regW (logEv s src name what) r i = regW s r i := regW_logAt_ne _ _ _ _ _ _ h

theorem regW_logEvAt_ne (s : State) (t : Nat) (src : EvSrc) (name : EventName) (what : Nat) {r : RegName} {i : Nat}
    (h : regAddr .evrStatus 0 ≠ regAddr r i) : regW (logEvAt s t src name what) r i = regW s r i := regW_logAt_ne _ _ _ _ _ _ h

/-- A report of an access changes GLB_ACCESS's registers alone (R465). -/
theorem regW_report_ne (s : State) (q : Requester) (addr : Nat) (a : Acc) {r : RegName} {i : Nat}
    (h : regAddr .glbAccess 0 ≠ regAddr r i) : regW (report s q addr a) r i = regW s r i := by
  unfold report
  split
  · rfl
  · exact regW_stick_ne _ _ h

/-- An access that reports OK changes nothing (R465). -/
@[simp] theorem report_ok (s : State) (q : Requester) (addr : Nat) : report s q addr .ok = s := rfl

/-! ## Running over a list -/

@[simp] theorem forEach_nil (s : State) (f : State → Nat → State) : forEach [] s f = s := rfl

@[simp] theorem forEach_cons (k : Nat) (l : List Nat) (s : State) (f : State → Nat → State) :
    forEach (k :: l) s f = forEach l (f s k) f := rfl

/-- What every single run keeps, the runs over a list keep. -/
theorem forEach_keeps {β : Type} (g : State → β) (f : State → Nat → State) (h : ∀ s k, g (f s k) = g s) (l : List Nat) (s : State) :
    g (forEach l s f) = g s := by
  induction l generalizing s with
  | nil => rfl
  | cons k l ih => rw [forEach_cons, ih, h]

/-- A property that every single run keeps, the runs over a list keep. -/
theorem forEach_inv {P : State → Prop} (f : State → Nat → State) (h : ∀ s k, P s → P (f s k)) (l : List Nat) {s : State} (hs : P s) :
    P (forEach l s f) := by
  induction l generalizing s with
  | nil => exact hs
  | cons k l ih => exact ih (h s k hs)

/-- The same for any fold whose accumulator is the state. -/
theorem foldl_inv {α : Type} {P : State → Prop} (f : State → α → State) (h : ∀ s a, P s → P (f s a)) (l : List α) {s : State}
    (hs : P s) : P (l.foldl f s) := by
  induction l generalizing s with
  | nil => exact hs
  | cons k l ih => exact ih (h s k hs)

/-! ## Frames -/

theorem Frame.refl (ps : List Part) (s : State) : Frame ps s s := by
  intro p _; cases p <;> simp [Part.same]

theorem OnlyRegs.refl (rs : List (RegName × Nat)) (s : State) : OnlyRegs rs s s := fun _ _ _ => rfl

/-- A state with the same register file stores every register word as before. -/
theorem OnlyRegs.of_rf {s t : State} (rs : List (RegName × Nat)) (h : t.rf = s.rf) : OnlyRegs rs s t :=
  fun r i _ => regW_congr h r i

theorem OnlyAt.set {α : Type} {f : State → Nat → α} {g : State → Nat → α → State}
    (h : ∀ (s : State) {k j : Nat} (x : α), j ≠ k → f (g s k x) j = f s j) (s : State) (k : Nat) (x : α) : OnlyAt f k s (g s k x) :=
  fun _ hj => h s x hj

end Sys2Proof.Machine
end

