-- ==== Sys2Proof/Laws/Recorder.lean ====
section
/-!
SUPPORT. What logging an event can do to the recorder (R331 to R335): it adds an entry to the write queue or a record to the MRAM
tail, and never touches the ring, its head or what is cleared.
-/
namespace Sys2Proof.Machine

open Sys2Proof

@[simp] theorem queueEv_ring (r : RecState) (q : EvReq) : (queueEv r q).ring = r.ring := by unfold queueEv; split <;> rfl
@[simp] theorem queueEv_head (r : RecState) (q : EvReq) : (queueEv r q).head = r.head := by unfold queueEv; split <;> rfl
@[simp] theorem queueEv_cleared (r : RecState) (q : EvReq) : (queueEv r q).cleared = r.cleared := by unfold queueEv; split <;> rfl
@[simp] theorem queueEv_nextSeq (r : RecState) (q : EvReq) : (queueEv r q).nextSeq = r.nextSeq := by unfold queueEv; split <;> rfl
@[simp] theorem queueEv_reserve (r : RecState) (q : EvReq) : (queueEv r q).reserve = r.reserve := by unfold queueEv; split <;> rfl

@[simp] theorem tailWrite_ring (r : RecState) (q : EvReq) : (tailWrite r q).ring = r.ring := by
  unfold tailWrite; dsimp only; repeat' split
  all_goals rfl
@[simp] theorem tailWrite_head (r : RecState) (q : EvReq) : (tailWrite r q).head = r.head := by
  unfold tailWrite; dsimp only; repeat' split
  all_goals rfl
@[simp] theorem tailWrite_cleared (r : RecState) (q : EvReq) : (tailWrite r q).cleared = r.cleared := by
  unfold tailWrite; dsimp only; repeat' split
  all_goals rfl

/-- Logging is queueing an entry while the core domain is powered, writing the MRAM tail while it is not (R333, R335). -/
theorem logAt_rec (s : State) (t : Nat) (src : EvSrc) (name : EventName) (data conts : Nat) :
    (logAt s t src name data conts).rec_ =
      if s.snf.corePowered then queueEv s.rec_ { src := src, name := name, t := t, came := s.now, data := data, conts := conts }
      else tailWrite s.rec_ { src := src, name := name, t := t, came := s.now, data := data, conts := conts } := by
  unfold logAt
  split
  · split <;> simp_all
  · simp_all

theorem logAt_ring (s : State) (t : Nat) (src : EvSrc) (name : EventName) (data conts : Nat) :
    (logAt s t src name data conts).rec_.ring = s.rec_.ring := by rw [logAt_rec]; split <;> simp
theorem logAt_head (s : State) (t : Nat) (src : EvSrc) (name : EventName) (data conts : Nat) :
    (logAt s t src name data conts).rec_.head = s.rec_.head := by rw [logAt_rec]; split <;> simp
theorem logAt_cleared (s : State) (t : Nat) (src : EvSrc) (name : EventName) (data conts : Nat) :
    (logAt s t src name data conts).rec_.cleared = s.rec_.cleared := by rw [logAt_rec]; split <;> simp

end Sys2Proof.Machine
end

