-- ==== Sys2Proof/Laws/Follows.lean ====
section
/-!
SUPPORT. How `State.follows` is shown: it is a preorder, a record update that leaves the queue, the recorder and the floors alone
keeps it, and so do loops over operations that keep it.
-/
namespace Sys2Proof.Machine

open Sys2Proof

theorem RecState.follows.refl (r : RecState) : r.follows r :=
  fun h => ⟨h, Nat.le_refl _, Nat.le_refl _, Nat.le_refl _⟩

theorem RecState.follows.trans {r u v : RecState} (h : r.follows u) (k : u.follows v) : r.follows v := fun hr =>
  ⟨(k (h hr).1).1, Nat.le_trans (h hr).2.1 (k (h hr).1).2.1, Nat.le_trans (h hr).2.2.1 (k (h hr).1).2.2.1,
    Nat.le_trans (h hr).2.2.2 (k (h hr).1).2.2.2⟩

theorem State.follows.refl (s : State) : s.follows s := ⟨rfl, .refl _, Nat.le_refl _, Nat.le_refl _, Nat.le_refl _, id⟩

theorem State.follows.trans {s t u : State} (h : s.follows t) (k : t.follows u) : s.follows u :=
  ⟨k.1.trans h.1, h.2.1.trans k.2.1, Nat.le_trans h.2.2.1 k.2.2.1, Nat.le_trans h.2.2.2.1 k.2.2.2.1,
    Nat.le_trans h.2.2.2.2.1 k.2.2.2.2.1, fun x => k.2.2.2.2.2 (h.2.2.2.2.2 x)⟩

/-- A state written out field by field follows when its queue, recorder and floors do. -/
theorem State.follows_mk {s : State} {pending now frame framed free rf rfF wick llt moist col eng loop motor aisle tx sol mkt tal rec_ pair
    hld snf thr mgt wax rlt mon glb before marks} :
    s.follows ⟨pending, now, frame, framed, free, rf, rfF, wick, llt, moist, col, eng, loop, motor, aisle, tx, sol, mkt, tal, rec_,
      pair, hld, snf, thr, mgt, wax, rlt, mon, glb, before, marks⟩ = Kept s pending rec_ mgt.floorFw mgt.floorStr pair.epoch snf := rfl

/-- What a meaning answers follows: every next state of it does. -/
def Out.follows (s : State) (x : Out) : Prop := ∀ t, x = .next t → s.follows t

theorem Out.follows.next {s t : State} (h : s.follows t) : Out.follows s (.next t) := by
  intro u e; cases e; exact h

/-- A recorder that follows, in place of a state's own. -/
theorem State.follows.rec {s t : State} {r : RecState} (h : s.follows t) (k : t.rec_.follows r) :
    Kept s t.pending r t.mgt.floorFw t.mgt.floorStr t.pair.epoch t.snf := ⟨h.1, h.2.1.trans k, h.2.2⟩

theorem State.follows.forEach {s t : State} {f : State → Nat → State} {l : List Nat} (hf : ∀ x k, s.follows x → s.follows (f x k))
    (h : s.follows t) : s.follows (forEach l t f) := by
  induction l generalizing t with
  | nil => exact h
  | cons k l ih => exact ih (hf _ k h)

theorem State.follows.foldl {α : Type} {s t : State} {f : State → α → State} {l : List α} (hf : ∀ x a, s.follows x → s.follows (f x a))
    (h : s.follows t) : s.follows (l.foldl f t) := by
  induction l generalizing t with
  | nil => exact h
  | cons k l ih => exact ih (hf _ k h)

/-- A loop that carries more than the state. -/
theorem State.follows.foldlFst {α β : Type} {s : State} {t : State × β} {f : State × β → α → State × β} {l : List α}
    (hf : ∀ x a, s.follows x.1 → s.follows (f x a).1) (h : s.follows t.1) : s.follows (l.foldl f t).1 := by
  induction l generalizing t with
  | nil => exact h
  | cons k l ih => exact ih (hf _ k h)

/-- The state of an answer that carries more than it follows. -/
def State.followsFst {β : Type} (s : State) (p : State × β) : Prop := s.follows p.1

/-- A choice between two states. -/
theorem State.follows.ite {s : State} {c : Prop} [Decidable c] {a b : State} (ha : s.follows a) (hb : s.follows b) :
    s.follows (if c then a else b) := by split; exact ha; exact hb

/-- A choice between two answers that carry more than the state. -/
theorem State.follows.iteFst {β : Type} {s : State} {c : Prop} [Decidable c] {a b : State × β} (ha : s.follows a.1) (hb : s.follows b.1) :
    s.follows (if c then a else b).1 := by split; exact ha; exact hb

theorem insertEv_length (q : EvReq) (l : List EvReq) : (insertEv q l).length = l.length + 1 := by
  induction l with
  | nil => rfl
  | cons x t ih => unfold insertEv; split <;> simp [ih]

theorem insertEv_mem {q x : EvReq} {l : List EvReq} (h : x ∈ insertEv q l) : x = q ∨ x ∈ l := by
  induction l with
  | nil => exact .inl (by simpa [insertEv] using h)
  | cons y t ih =>
    unfold insertEv at h
    split at h
    · rcases List.mem_cons.mp h with h | h
      · exact .inl h
      · exact .inr h
    · rcases List.mem_cons.mp h with h | h
      · exact .inr (by simp [h])
      · rcases ih h with h | h
        · exact .inl h
        · exact .inr (by simp [h])

theorem queueEv_follows (r : RecState) (q : EvReq) (hq : q.conts ≤ 3) : r.follows (queueEv r q) := by
  intro ⟨h1, h2, h3, h4, h5, h6⟩
  unfold queueEv
  split
  · refine ⟨⟨h1, ?_, h3, h4, h5, ?_⟩, Nat.le_refl _, Nat.le_refl _, Nat.le_refl _⟩
    · rw [insertEv_length]; omega
    · intro x hx
      rcases insertEv_mem hx with h | h
      · rw [h]; exact hq
      · exact h6 x h
  · refine ⟨⟨h1, h2, h3, ?_, h5, h6⟩, Nat.le_refl _, Nat.le_refl _, Nat.le_refl _⟩
    show satInc 16 r.lost < 2 ^ 16
    unfold satInc
    split <;> omega

theorem reserveFor_ge (r n : Nat) : r ≤ reserveFor r n := by unfold reserveFor; split <;> omega

theorem reserveFor_gt (r n : Nat) (h : n < r + 4096) : n + 1 ≤ reserveFor r n := by unfold reserveFor; split <;> omega

theorem tailPut_length (l : List EvRec) (x : EvRec) (h : l.length ≤ 4096) : (tailPut l x).length ≤ 4096 := by
  unfold tailPut
  split
  · simp
  · split
    · simpa using h
    · simp only [List.length_take]; exact Nat.min_le_left _ _

theorem tailPut_foldl (rs l : List EvRec) (h : l.length ≤ 4096) : (rs.foldl tailPut l).length ≤ 4096 := by
  induction rs generalizing l with
  | nil => exact h
  | cons x rs ih => exact ih _ (tailPut_length l x h)

theorem tailWrite_follows (r : RecState) (q : EvReq) (hq : q.conts ≤ 3) : r.follows (tailWrite r q) := by
  intro ⟨h1, h2, h3, h4, h5, h6⟩
  have fresh : ∀ u : RecState, u = { r with tail := (recsOf q r.nextSeq).foldl tailPut r.tail, mramSeq := r.nextSeq + q.conts, nextSeq := r.nextSeq + q.conts + 1, reserve := reserveFor r.reserve (r.nextSeq + q.conts) } →
      RecState.bounded u ∧ r.nextSeq ≤ u.nextSeq ∧ r.reserve ≤ u.reserve ∧ r.cleared ≤ u.cleared := by
    intro u e
    subst e
    refine ⟨⟨h1, h2, tailPut_foldl _ _ h3, h4, reserveFor_gt _ _ (by omega), h6⟩, ?_, reserveFor_ge _ _, Nat.le_refl _⟩
    show r.nextSeq ≤ r.nextSeq + q.conts + 1
    omega
  unfold tailWrite
  dsimp only
  split
  · exact fresh _ rfl
  · rename_i x t e
    split
    · refine ⟨⟨h1, h2, ?_, h4, h5, h6⟩, Nat.le_refl _, Nat.le_refl _, Nat.le_refl _⟩
      rw [e] at h3; simpa using h3
    · exact fresh _ rfl

theorem ringWrite_follows (r : RecState) (q : EvReq) (now : Nat) (hq : q.conts ≤ 3) : r.follows (ringWrite r q now) := by
  intro ⟨h1, h2, h3, h4, h5, h6⟩
  have fresh : ∀ u, u = ringWrite { r with ring := [] } q now → ∀ g, g.length ≤ 65536 →
      RecState.bounded { u with ring := g } ∧ r.nextSeq ≤ u.nextSeq ∧ r.reserve ≤ u.reserve ∧ r.cleared ≤ u.cleared := by
    intro u hu g hg
    subst hu
    refine ⟨⟨hg, h2, h3, h4, reserveFor_gt r.reserve (r.nextSeq + q.conts) (by omega), h6⟩, ?_, reserveFor_ge _ _, Nat.le_refl _⟩
    show r.nextSeq ≤ r.nextSeq + q.conts + 1
    omega
  have take : ∀ (a b : List EvRec), ((a ++ b).take 65536).length ≤ 65536 := fun a b => by
    simp only [List.length_take]; exact Nat.min_le_left _ _
  cases hr : r.ring with
  | nil =>
    have e := fresh _ rfl ((recsOf q r.nextSeq).reverse.take 65536) (by simp only [List.length_take]; exact Nat.min_le_left _ _)
    unfold ringWrite
    simp only [hr]
    simpa [ringWrite] using e
  | cons x t =>
    unfold ringWrite
    simp only [hr]
    split
    · refine ⟨⟨?_, h2, h3, h4, h5, h6⟩, Nat.le_refl _, Nat.le_refl _, Nat.le_refl _⟩
      rw [hr] at h1; simpa using h1
    · have e := fresh _ rfl (((recsOf q r.nextSeq).reverse ++ x :: t).take 65536) (take _ _)
      simpa [ringWrite] using e

end Sys2Proof.Machine
end

