-- ==== Sys2Proof/Laws/FollowsOps.lean ====
section
/-!
SUPPORT. Every operation of Machine/Ops.lean keeps `State.follows`: it leaves the queue alone, the recorder follows, no floor and
no epoch falls, and SAFE_OUT_N stays as R403 has it.
-/
namespace Sys2Proof.Machine

open Sys2Proof

theorem setNow_follows {orig : State} (s : State) (t : Nat) (hF : orig.follows s) :
    orig.follows (setNow s t) := by
  unfold setNow
  repeat' (first | with_reducible assumption | (dsimp only [State.follows_mk]; change State.follows _ _) | with_reducible apply State.follows.forEach | with_reducible apply State.follows.foldlFst | with_reducible apply State.follows.foldl | split | dsimp only | intro _ | decide)

theorem useFree_follows {orig : State} (s : State) (hF : orig.follows s) :
    orig.follows (useFree s) := by
  unfold useFree
  repeat' (first | with_reducible assumption | (dsimp only [State.follows_mk]; change State.follows _ _) | with_reducible apply State.follows.forEach | with_reducible apply State.follows.foldlFst | with_reducible apply State.follows.foldl | split | dsimp only | intro _ | decide)

theorem setRegW_follows {orig : State} (s : State) (r : RegName) (i : Nat) (v : W32) (hF : orig.follows s) :
    orig.follows (setRegW s r i v) := by
  unfold setRegW
  repeat' (first | with_reducible assumption | (dsimp only [State.follows_mk]; change State.follows _ _) | with_reducible apply State.follows.forEach | with_reducible apply State.follows.foldlFst | with_reducible apply State.follows.foldl | split | dsimp only | intro _ | decide)

theorem putReg_follows {orig : State} (s : State) (r : RegName) (i : Nat) (v : W32) (hF : orig.follows s) :
    orig.follows (putReg s r i v) := by
  unfold putReg
  repeat' (first | with_reducible assumption | (dsimp only [State.follows_mk]; change State.follows _ _) | with_reducible apply State.follows.forEach | with_reducible apply State.follows.foldlFst | with_reducible apply State.follows.foldl | split | dsimp only | intro _ | decide)

theorem blockReg_follows {orig : State} (s : State) (r : RegName) (i : Nat) (v : W32) (hF : orig.follows s) :
    orig.follows (blockReg s r i v) := by
  unfold blockReg
  repeat' (first | with_reducible assumption | with_reducible apply putReg_follows | (dsimp only [State.follows_mk]; change State.follows _ _) | with_reducible apply State.follows.forEach | with_reducible apply State.follows.foldlFst | with_reducible apply State.follows.foldl | split | dsimp only | intro _ | decide)

theorem setSticky_follows {orig : State} (s : State) (r : RegName) (i : Nat) (m : W32) (hF : orig.follows s) :
    orig.follows (setSticky s r i m) := by
  unfold setSticky
  repeat' (first | with_reducible assumption | with_reducible apply setRegW_follows | (dsimp only [State.follows_mk]; change State.follows _ _) | with_reducible apply State.follows.forEach | with_reducible apply State.follows.foldlFst | with_reducible apply State.follows.foldl | split | dsimp only | intro _ | decide)

theorem stick_follows {orig : State} (s : State) (r : RegName) (i b : Nat) (hF : orig.follows s) :
    orig.follows (stick s r i b) := by
  unfold stick
  repeat' (first | with_reducible assumption | with_reducible apply setSticky_follows | (dsimp only [State.follows_mk]; change State.follows _ _) | with_reducible apply State.follows.forEach | with_reducible apply State.follows.foldlFst | with_reducible apply State.follows.foldl | split | dsimp only | intro _ | decide)

theorem setRegF_follows {orig : State} (s : State) (r : RegName) (i lo n x : Nat) (hF : orig.follows s) :
    orig.follows (setRegF s r i lo n x) := by
  unfold setRegF
  repeat' (first | with_reducible assumption | with_reducible apply setRegW_follows | (dsimp only [State.follows_mk]; change State.follows _ _) | with_reducible apply State.follows.forEach | with_reducible apply State.follows.foldlFst | with_reducible apply State.follows.foldl | split | dsimp only | intro _ | decide)

theorem setWick_follows {orig : State} (s : State) (w : Nat) (x : Wick) (hF : orig.follows s) :
    orig.follows (setWick s w x) := by
  unfold setWick
  repeat' (first | with_reducible assumption | (dsimp only [State.follows_mk]; change State.follows _ _) | with_reducible apply State.follows.forEach | with_reducible apply State.follows.foldlFst | with_reducible apply State.follows.foldl | split | dsimp only | intro _ | decide)

theorem setSlot_follows {orig : State} (s : State) (i : Nat) (x : Slot) (hF : orig.follows s) :
    orig.follows (setSlot s i x) := by
  unfold setSlot
  repeat' (first | with_reducible assumption | (dsimp only [State.follows_mk]; change State.follows _ _) | with_reducible apply State.follows.forEach | with_reducible apply State.follows.foldlFst | with_reducible apply State.follows.foldl | split | dsimp only | intro _ | decide)

theorem setChan_follows {orig : State} (s : State) (c : Nat) (x : MoistCh) (hF : orig.follows s) :
    orig.follows (setChan s c x) := by
  unfold setChan
  repeat' (first | with_reducible assumption | (dsimp only [State.follows_mk]; change State.follows _ _) | with_reducible apply State.follows.forEach | with_reducible apply State.follows.foldlFst | with_reducible apply State.follows.foldl | split | dsimp only | intro _ | decide)

theorem setCol_follows {orig : State} (s : State) (c : Nat) (x : Column) (hF : orig.follows s) :
    orig.follows (setCol s c x) := by
  unfold setCol
  repeat' (first | with_reducible assumption | (dsimp only [State.follows_mk]; change State.follows _ _) | with_reducible apply State.follows.forEach | with_reducible apply State.follows.foldlFst | with_reducible apply State.follows.foldl | split | dsimp only | intro _ | decide)

theorem setDry_follows {orig : State} (s : State) (c : Nat) (x : Dry) (hF : orig.follows s) :
    orig.follows (setDry s c x) := by
  unfold setDry
  repeat' (first | with_reducible assumption | (dsimp only [State.follows_mk]; change State.follows _ _) | with_reducible apply State.follows.forEach | with_reducible apply State.follows.foldlFst | with_reducible apply State.follows.foldl | split | dsimp only | intro _ | decide)

theorem setHeat_follows {orig : State} (s : State) (h : Nat) (x : Heat) (hF : orig.follows s) :
    orig.follows (setHeat s h x) := by
  unfold setHeat
  repeat' (first | with_reducible assumption | (dsimp only [State.follows_mk]; change State.follows _ _) | with_reducible apply State.follows.forEach | with_reducible apply State.follows.foldlFst | with_reducible apply State.follows.foldl | split | dsimp only | intro _ | decide)

theorem setAer_follows {orig : State} (s : State) (g : Nat) (x : Aer) (hF : orig.follows s) :
    orig.follows (setAer s g x) := by
  unfold setAer
  repeat' (first | with_reducible assumption | (dsimp only [State.follows_mk]; change State.follows _ _) | with_reducible apply State.follows.forEach | with_reducible apply State.follows.foldlFst | with_reducible apply State.follows.foldl | split | dsimp only | intro _ | decide)

theorem setEng_follows {orig : State} (s : State) (e : Nat) (x : Engine) (hF : orig.follows s) :
    orig.follows (setEng s e x) := by
  unfold setEng
  repeat' (first | with_reducible assumption | (dsimp only [State.follows_mk]; change State.follows _ _) | with_reducible apply State.follows.forEach | with_reducible apply State.follows.foldlFst | with_reducible apply State.follows.foldl | split | dsimp only | intro _ | decide)

theorem setRow_follows {orig : State} (s : State) (r : Nat) (x : Row) (hF : orig.follows s) :
    orig.follows (setRow s r x) := by
  unfold setRow
  repeat' (first | with_reducible assumption | (dsimp only [State.follows_mk]; change State.follows _ _) | with_reducible apply State.follows.forEach | with_reducible apply State.follows.foldlFst | with_reducible apply State.follows.foldl | split | dsimp only | intro _ | decide)

theorem setBsk_follows {orig : State} (s : State) (b : Nat) (x : Basket) (hF : orig.follows s) :
    orig.follows (setBsk s b x) := by
  unfold setBsk
  repeat' (first | with_reducible assumption | (dsimp only [State.follows_mk]; change State.follows _ _) | with_reducible apply State.follows.forEach | with_reducible apply State.follows.foldlFst | with_reducible apply State.follows.foldl | split | dsimp only | intro _ | decide)

theorem setBlk_follows {orig : State} (s : State) (i : Nat) (x : BlockSt) (hF : orig.follows s) :
    orig.follows (setBlk s i x) := by
  unfold setBlk
  repeat' (first | with_reducible assumption | (dsimp only [State.follows_mk]; change State.follows _ _) | with_reducible apply State.follows.forEach | with_reducible apply State.follows.foldlFst | with_reducible apply State.follows.foldl | split | dsimp only | intro _ | decide)

theorem setTaper_follows {orig : State} (s : State) (j : Nat) (x : Taper) (hF : orig.follows s) :
    orig.follows (setTaper s j x) := by
  unfold setTaper
  repeat' (first | with_reducible assumption | (dsimp only [State.follows_mk]; change State.follows _ _) | with_reducible apply State.follows.forEach | with_reducible apply State.follows.foldlFst | with_reducible apply State.follows.foldl | split | dsimp only | intro _ | decide)

theorem setLoop_follows {orig : State} (s : State) (i : Nat) (x : Loop) (hF : orig.follows s) :
    orig.follows (setLoop s i x) := by
  unfold setLoop
  repeat' (first | with_reducible assumption | (dsimp only [State.follows_mk]; change State.follows _ _) | with_reducible apply State.follows.forEach | with_reducible apply State.follows.foldlFst | with_reducible apply State.follows.foldl | split | dsimp only | intro _ | decide)

theorem setMot_follows {orig : State} (s : State) (m : Nat) (x : Motor) (hF : orig.follows s) :
    orig.follows (setMot s m x) := by
  unfold setMot
  repeat' (first | with_reducible assumption | (dsimp only [State.follows_mk]; change State.follows _ _) | with_reducible apply State.follows.forEach | with_reducible apply State.follows.foldlFst | with_reducible apply State.follows.foldl | split | dsimp only | intro _ | decide)

theorem setGate_follows {orig : State} (s : State) (m : Nat) (x : Gate) (hF : orig.follows s) :
    orig.follows (setGate s m x) := by
  unfold setGate
  repeat' (first | with_reducible assumption | (dsimp only [State.follows_mk]; change State.follows _ _) | with_reducible apply State.follows.forEach | with_reducible apply State.follows.foldlFst | with_reducible apply State.follows.foldl | split | dsimp only | intro _ | decide)

theorem setRoute_follows {orig : State} (s : State) (r : Nat) (x : Route) (hF : orig.follows s) :
    orig.follows (setRoute s r x) := by
  unfold setRoute
  repeat' (first | with_reducible assumption | (dsimp only [State.follows_mk]; change State.follows _ _) | with_reducible apply State.follows.forEach | with_reducible apply State.follows.foldlFst | with_reducible apply State.follows.foldl | split | dsimp only | intro _ | decide)

theorem setSlip_follows {orig : State} (s : State) (i : Nat) (x : Slip) (hF : orig.follows s) :
    orig.follows (setSlip s i x) := by
  unfold setSlip
  repeat' (first | with_reducible assumption | (dsimp only [State.follows_mk]; change State.follows _ _) | with_reducible apply State.follows.forEach | with_reducible apply State.follows.foldlFst | with_reducible apply State.follows.foldl | split | dsimp only | intro _ | decide)

theorem setAis_follows {orig : State} (s : State) (n : Nat) (x : Aisle) (hF : orig.follows s) :
    orig.follows (setAis s n x) := by
  unfold setAis
  repeat' (first | with_reducible assumption | (dsimp only [State.follows_mk]; change State.follows _ _) | with_reducible apply State.follows.forEach | with_reducible apply State.follows.foldlFst | with_reducible apply State.follows.foldl | split | dsimp only | intro _ | decide)

theorem setStl_follows {orig : State} (s : State) (i : Nat) (x : Stall) (hF : orig.follows s) :
    orig.follows (setStl s i x) := by
  unfold setStl
  repeat' (first | with_reducible assumption | (dsimp only [State.follows_mk]; change State.follows _ _) | with_reducible apply State.follows.forEach | with_reducible apply State.follows.foldlFst | with_reducible apply State.follows.foldl | split | dsimp only | intro _ | decide)

theorem setTx_follows {orig : State} (s : State) (n : Nat) (x : TxPort) (hF : orig.follows s) :
    orig.follows (setTx s n x) := by
  unfold setTx
  repeat' (first | with_reducible assumption | (dsimp only [State.follows_mk]; change State.follows _ _) | with_reducible apply State.follows.forEach | with_reducible apply State.follows.foldlFst | with_reducible apply State.follows.foldl | split | dsimp only | intro _ | decide)

theorem setSol_follows {orig : State} (s : State) (v : Nat) (x : SolPort) (hF : orig.follows s) :
    orig.follows (setSol s v x) := by
  unfold setSol
  repeat' (first | with_reducible assumption | (dsimp only [State.follows_mk]; change State.follows _ _) | with_reducible apply State.follows.forEach | with_reducible apply State.follows.foldlFst | with_reducible apply State.follows.foldl | split | dsimp only | intro _ | decide)

theorem setSens_follows {orig : State} (s : State) (i : Nat) (x : Sensor) (hF : orig.follows s) :
    orig.follows (setSens s i x) := by
  unfold setSens
  repeat' (first | with_reducible assumption | (dsimp only [State.follows_mk]; change State.follows _ _) | with_reducible apply State.follows.forEach | with_reducible apply State.follows.foldlFst | with_reducible apply State.follows.foldl | split | dsimp only | intro _ | decide)

theorem setPol_follows {orig : State} (s : State) (p : Nat) (x : Policy421) (hF : orig.follows s) :
    orig.follows (setPol s p x) := by
  unfold setPol
  repeat' (first | with_reducible assumption | (dsimp only [State.follows_mk]; change State.follows _ _) | with_reducible apply State.follows.forEach | with_reducible apply State.follows.foldlFst | with_reducible apply State.follows.foldl | split | dsimp only | intro _ | decide)

theorem logAt_follows {orig : State} (s : State) (t : Nat) (src : EvSrc) (name : EventName) (data : Nat) (conts : Nat) (hc : conts ≤ 3)
    (hF : orig.follows s) : orig.follows (logAt s t src name data conts) := by
  refine ⟨?_, ?_, ?_⟩
  · simpa using hF.1
  · rw [logAt_rec]
    split
    · exact hF.2.1.trans (queueEv_follows _ _ hc)
    · exact hF.2.1.trans (tailWrite_follows _ _ hc)
  · simpa using hF.2.2

theorem logRaw_follows {orig : State} (s : State) (src : EvSrc) (name : EventName) (data : Nat) (conts : Nat) (hc : conts ≤ 3)
    (hF : orig.follows s) : orig.follows (logRaw s src name data conts) := by
  unfold logRaw
  repeat' (first | with_reducible assumption | with_reducible apply logAt_follows | (dsimp only [State.follows_mk]; change State.follows _ _) | with_reducible apply State.follows.forEach | with_reducible apply State.follows.foldlFst | with_reducible apply State.follows.foldl | split | dsimp only | intro _ | decide)

theorem logEv_follows {orig : State} (s : State) (src : EvSrc) (name : EventName) (what : Nat) (hF : orig.follows s) :
    orig.follows (logEv s src name what) := by
  unfold logEv
  repeat' (first | with_reducible assumption | with_reducible apply logAt_follows | (dsimp only [State.follows_mk]; change State.follows _ _) | with_reducible apply State.follows.forEach | with_reducible apply State.follows.foldlFst | with_reducible apply State.follows.foldl | split | dsimp only | intro _ | decide)

theorem logEvAt_follows {orig : State} (s : State) (t : Nat) (src : EvSrc) (name : EventName) (what : Nat) (hF : orig.follows s) :
    orig.follows (logEvAt s t src name what) := by
  unfold logEvAt
  repeat' (first | with_reducible assumption | with_reducible apply logAt_follows | (dsimp only [State.follows_mk]; change State.follows _ _) | with_reducible apply State.follows.forEach | with_reducible apply State.follows.foldlFst | with_reducible apply State.follows.foldl | split | dsimp only | intro _ | decide)

theorem addItem_follows {orig : State} (s : State) (i : WaxItem) (hF : orig.follows s) :
    orig.follows (addItem s i) := by
  unfold addItem
  repeat' (first | with_reducible assumption | (dsimp only [State.follows_mk]; change State.follows _ _) | with_reducible apply State.follows.forEach | with_reducible apply State.follows.foldlFst | with_reducible apply State.follows.foldl | split | dsimp only | intro _ | decide)

theorem arrive_follows {orig : State} (s : State) (p : Post) (asReport : Bool) (hF : orig.follows s) :
    orig.follows (arrive s p asReport) := by
  unfold arrive
  repeat' (first | with_reducible assumption | with_reducible apply addItem_follows | (dsimp only [State.follows_mk]; change State.follows _ _) | with_reducible apply State.follows.forEach | with_reducible apply State.follows.foldlFst | with_reducible apply State.follows.foldl | split | dsimp only | intro _ | decide)

theorem post_follows {orig : State} (s : State) (inst : Nat) (p : Post) (hF : orig.follows s) :
    orig.follows (post s inst p) := by
  unfold post
  repeat' (first | with_reducible assumption | (dsimp only [State.follows_mk]; change State.follows _ _) | with_reducible apply State.follows.forEach | with_reducible apply State.follows.foldlFst | with_reducible apply State.follows.foldl | split | dsimp only | intro _ | decide)

theorem withImage_follows {orig : State} (s : State) (k : KeyImage) (hF : orig.follows s) :
    orig.follows (withImage s k) := by
  unfold withImage
  repeat' (first | with_reducible assumption | (dsimp only [State.follows_mk]; change State.follows _ _) | with_reducible apply State.follows.forEach | with_reducible apply State.follows.foldlFst | with_reducible apply State.follows.foldl | split | dsimp only | intro _ | decide)

theorem t0_follows {orig : State} (s : State) (hF : orig.follows s) :
    orig.follows (t0 s) := by
  unfold t0
  repeat' (first | with_reducible assumption | with_reducible apply withImage_follows | (dsimp only [State.follows_mk]; change State.follows _ _) | with_reducible apply State.follows.forEach | with_reducible apply State.follows.foldlFst | with_reducible apply State.follows.foldl | split | dsimp only | intro _ | decide)

theorem report_follows {orig : State} (s : State) (q : Requester) (addr : Nat) (a : Acc) (hF : orig.follows s) :
    orig.follows (report s q addr a) := by
  unfold report
  repeat' (first | with_reducible assumption | with_reducible apply stick_follows | (dsimp only [State.follows_mk]; change State.follows _ _) | with_reducible apply State.follows.forEach | with_reducible apply State.follows.foldlFst | with_reducible apply State.follows.foldl | split | dsimp only | intro _ | decide)

theorem rowCmd_follows {orig : State} (s : State) (r : RegName) (i : Nat) (v : W32) (f : State → State)
    (hf : ∀ x, orig.follows x → orig.follows (f x))
    (hF : orig.follows s) : orig.follows (rowCmd s r i v f) := by
  unfold rowCmd
  repeat' (first | with_reducible assumption | with_reducible apply hf | with_reducible apply report_follows | with_reducible apply addItem_follows | (dsimp only [State.follows_mk]; change State.follows _ _) | with_reducible apply State.follows.forEach | with_reducible apply State.follows.foldlFst | with_reducible apply State.follows.foldl | split | dsimp only | intro _ | decide)

end Sys2Proof.Machine
end

