-- ==== Sys2Proof/Laws/FollowsSol.lean ====
section
/-!
SUPPORT. Every operation of Machine/Sol.lean keeps `State.follows`: it leaves the queue alone, the recorder follows, no floor and
no epoch falls, and SAFE_OUT_N stays as R403 has it.
-/
namespace Sys2Proof.Machine

open Sys2Proof

theorem solBegin_follows {orig : State} (s : State) (v h t : Nat) (hF : orig.follows s) :
    orig.follows (solBegin s v h t) := by
  unfold solBegin
  repeat' (first | with_reducible assumption | with_reducible apply setSol_follows | (dsimp only [State.follows_mk]; change State.follows _ _) | with_reducible apply State.follows.forEach | with_reducible apply State.follows.foldlFst | with_reducible apply State.follows.foldl | split | dsimp only | intro _ | decide)

theorem solDutyRefuse_follows {orig : State} (s : State) (v : Nat) (hF : orig.follows s) :
    orig.follows (solDutyRefuse s v) := by
  unfold solDutyRefuse
  repeat' (first | with_reducible assumption | with_reducible apply logEv_follows | with_reducible apply stick_follows | (dsimp only [State.follows_mk]; change State.follows _ _) | with_reducible apply State.follows.forEach | with_reducible apply State.follows.foldlFst | with_reducible apply State.follows.foldl | split | dsimp only | intro _ | decide)

theorem solRefuse_follows {orig : State} (s : State) (v : Nat) (hF : orig.follows s) :
    orig.follows (solRefuse s v) := by
  unfold solRefuse
  repeat' (first | with_reducible assumption | with_reducible apply stick_follows | (dsimp only [State.follows_mk]; change State.follows _ _) | with_reducible apply State.follows.forEach | with_reducible apply State.follows.foldlFst | with_reducible apply State.follows.foldl | split | dsimp only | intro _ | decide)

theorem solTakeStart_follows {orig : State} (s : State) (v h t : Nat) (hF : orig.follows s) :
    orig.follows (solTakeStart s v h t).1 := by
  unfold solTakeStart
  repeat' (first | with_reducible assumption | with_reducible apply solRefuse_follows | with_reducible apply solBegin_follows | with_reducible apply solDutyRefuse_follows | with_reducible apply setSol_follows | with_reducible apply stick_follows | (dsimp only [State.follows_mk]; change State.follows _ _) | with_reducible apply State.follows.forEach | with_reducible apply State.follows.foldlFst | with_reducible apply State.follows.foldl | split | dsimp only | intro _ | decide)

theorem solTakeEnd_follows {orig : State} (s : State) (v t : Nat) (hF : orig.follows s) :
    orig.follows (solTakeEnd s v t) := by
  unfold solTakeEnd
  repeat' (first | with_reducible assumption | with_reducible apply setSol_follows | (dsimp only [State.follows_mk]; change State.follows _ _) | with_reducible apply State.follows.forEach | with_reducible apply State.follows.foldlFst | with_reducible apply State.follows.foldl | split | dsimp only | intro _ | decide)

theorem solTakeReset_follows {orig : State} (s : State) (v t : Nat) (hF : orig.follows s) :
    orig.follows (solTakeReset s v t) := by
  unfold solTakeReset
  repeat' (first | with_reducible assumption | with_reducible apply setSol_follows | with_reducible apply useFree_follows | with_reducible apply solRefuse_follows | (dsimp only [State.follows_mk]; change State.follows _ _) | with_reducible apply State.follows.forEach | with_reducible apply State.follows.foldlFst | with_reducible apply State.follows.foldl | split | dsimp only | intro _ | decide)

theorem solClear_follows {orig : State} (s : State) (v : Nat) (hF : orig.follows s) :
    orig.follows (solClear s v) := by
  unfold solClear
  repeat' (first | with_reducible assumption | with_reducible apply setSol_follows | (dsimp only [State.follows_mk]; change State.follows _ _) | with_reducible apply State.follows.forEach | with_reducible apply State.follows.foldlFst | with_reducible apply State.follows.foldl | split | dsimp only | intro _ | decide)

theorem solFrameCmd_follows {orig : State} (s : State) (v t : Nat) (c : Nat × Nat) (hF : orig.follows s) :
    orig.follows (solFrameCmd s v t c) := by
  unfold solFrameCmd
  repeat' (first | with_reducible assumption | with_reducible apply solTakeStart_follows | with_reducible apply solTakeEnd_follows | with_reducible apply solTakeReset_follows | with_reducible apply solClear_follows | (dsimp only [State.follows_mk]; change State.follows _ _) | with_reducible apply State.follows.forEach | with_reducible apply State.follows.foldlFst | with_reducible apply State.follows.foldl | split | dsimp only | intro _ | decide)

theorem solOp_follows {orig : State} (s : State) (v : Nat) (c : Nat × Nat) (hF : orig.follows s) :
    orig.follows (solOp s v c) := by
  unfold solOp
  repeat' (first | with_reducible assumption | with_reducible apply setSol_follows | (dsimp only [State.follows_mk]; change State.follows _ _) | with_reducible apply State.follows.forEach | with_reducible apply State.follows.foldlFst | with_reducible apply State.follows.foldl | split | dsimp only | intro _ | decide)

theorem solLatch_follows {orig : State} (s : State) (v t : Nat) (f : SolFault) (hF : orig.follows s) :
    orig.follows (solLatch s v t f) := by
  unfold solLatch
  repeat' (first | with_reducible assumption | with_reducible apply setSol_follows | with_reducible apply logEv_follows | (dsimp only [State.follows_mk]; change State.follows _ _) | with_reducible apply State.follows.forEach | with_reducible apply State.follows.foldlFst | with_reducible apply State.follows.foldl | split | dsimp only | intro _ | decide)

theorem solGateOff_follows {orig : State} (s : State) (v t : Nat) (hF : orig.follows s) :
    orig.follows (solGateOff s v t) := by
  unfold solGateOff
  repeat' (first | with_reducible assumption | with_reducible apply setSol_follows | (dsimp only [State.follows_mk]; change State.follows _ _) | with_reducible apply State.follows.forEach | with_reducible apply State.follows.foldlFst | with_reducible apply State.follows.foldl | split | dsimp only | intro _ | decide)

theorem solGateOn_follows {orig : State} (s : State) (v : Nat) (hF : orig.follows s) :
    orig.follows (solGateOn s v) := by
  unfold solGateOn
  repeat' (first | with_reducible assumption | with_reducible apply setSol_follows | (dsimp only [State.follows_mk]; change State.follows _ _) | with_reducible apply State.follows.forEach | with_reducible apply State.follows.foldlFst | with_reducible apply State.follows.foldl | split | dsimp only | intro _ | decide)

theorem solEnable_follows {orig : State} (s : State) (v t : Nat) (hF : orig.follows s) :
    orig.follows (solEnable s v t) := by
  unfold solEnable
  repeat' (first | with_reducible assumption | with_reducible apply setSol_follows | (dsimp only [State.follows_mk]; change State.follows _ _) | with_reducible apply State.follows.forEach | with_reducible apply State.follows.foldlFst | with_reducible apply State.follows.foldl | split | dsimp only | intro _ | decide)

theorem solSnap_follows {orig : State} (s : State) (v t : Nat) (hF : orig.follows s) :
    orig.follows (solSnap s v t) := by
  unfold solSnap
  repeat' (first | with_reducible assumption | with_reducible apply addItem_follows | with_reducible apply setSol_follows | with_reducible apply useFree_follows | (dsimp only [State.follows_mk]; change State.follows _ _) | with_reducible apply State.follows.forEach | with_reducible apply State.follows.foldlFst | with_reducible apply State.follows.foldl | split | dsimp only | intro _ | decide)

theorem execSolStart_follows {orig : State} (v : Fin 32) (h : Nat) (s : State) (hF : orig.follows s) : Out.follows orig (execSolStart v h s) := by
  unfold execSolStart
  repeat' (first | with_reducible assumption | with_reducible apply Out.follows.next | with_reducible apply rowCmd_follows | with_reducible apply solOp_follows | (dsimp only [State.follows_mk]; change State.follows _ _) | with_reducible apply State.follows.forEach | with_reducible apply State.follows.foldlFst | with_reducible apply State.follows.foldl | split | dsimp only | intro _ | decide)

theorem execSolEnd_follows {orig : State} (v : Fin 32) (s : State) (hF : orig.follows s) : Out.follows orig (execSolEnd v s) := by
  unfold execSolEnd
  repeat' (first | with_reducible assumption | with_reducible apply Out.follows.next | with_reducible apply rowCmd_follows | with_reducible apply solOp_follows | (dsimp only [State.follows_mk]; change State.follows _ _) | with_reducible apply State.follows.forEach | with_reducible apply State.follows.foldlFst | with_reducible apply State.follows.foldl | split | dsimp only | intro _ | decide)

theorem execSolReset_follows {orig : State} (v : Fin 32) (s : State) (hF : orig.follows s) : Out.follows orig (execSolReset v s) := by
  unfold execSolReset
  repeat' (first | with_reducible assumption | with_reducible apply Out.follows.next | with_reducible apply rowCmd_follows | with_reducible apply solOp_follows | (dsimp only [State.follows_mk]; change State.follows _ _) | with_reducible apply State.follows.forEach | with_reducible apply State.follows.foldlFst | with_reducible apply State.follows.foldl | split | dsimp only | intro _ | decide)

theorem execSolClearCounts_follows {orig : State} (v : Fin 32) (s : State) (hF : orig.follows s) : Out.follows orig (execSolClearCounts v s) := by
  unfold execSolClearCounts
  repeat' (first | with_reducible assumption | with_reducible apply Out.follows.next | with_reducible apply rowCmd_follows | with_reducible apply solOp_follows | (dsimp only [State.follows_mk]; change State.follows _ _) | with_reducible apply State.follows.forEach | with_reducible apply State.follows.foldlFst | with_reducible apply State.follows.foldl | split | dsimp only | intro _ | decide)

theorem execPeakEnd_follows {orig : State} (v : Fin 32) (t : Ns) (cur : F32) (s : State) (hF : orig.follows s) : Out.follows orig (execPeakEnd v t cur s) := by
  unfold execPeakEnd
  repeat' (first | with_reducible assumption | with_reducible apply Out.follows.next | with_reducible apply setNow_follows | with_reducible apply solLatch_follows | with_reducible apply stick_follows | with_reducible apply setSol_follows | (dsimp only [State.follows_mk]; change State.follows _ _) | with_reducible apply State.follows.forEach | with_reducible apply State.follows.foldlFst | with_reducible apply State.follows.foldl | split | dsimp only | intro _ | decide)

theorem execHoldEnd_follows {orig : State} (v : Fin 32) (t : Ns) (s : State) (hF : orig.follows s) : Out.follows orig (execHoldEnd v t s) := by
  unfold execHoldEnd
  repeat' (first | with_reducible assumption | with_reducible apply Out.follows.next | with_reducible apply setNow_follows | with_reducible apply setSol_follows | (dsimp only [State.follows_mk]; change State.follows _ _) | with_reducible apply State.follows.forEach | with_reducible apply State.follows.foldlFst | with_reducible apply State.follows.foldl | split | dsimp only | intro _ | decide)

theorem execDecayEnd_follows {orig : State} (v : Fin 32) (t : Ns) (s : State) (hF : orig.follows s) : Out.follows orig (execDecayEnd v t s) := by
  unfold execDecayEnd
  repeat' (first | with_reducible assumption | with_reducible apply Out.follows.next | with_reducible apply setNow_follows | with_reducible apply setSol_follows | with_reducible apply solBegin_follows | with_reducible apply solDutyRefuse_follows | (dsimp only [State.follows_mk]; change State.follows _ _) | with_reducible apply State.follows.forEach | with_reducible apply State.follows.foldlFst | with_reducible apply State.follows.foldl | split | dsimp only | intro _ | decide)

theorem execDecayTimeout_follows {orig : State} (v : Fin 32) (t : Ns) (s : State) (hF : orig.follows s) : Out.follows orig (execDecayTimeout v t s) := by
  unfold execDecayTimeout
  repeat' (first | with_reducible assumption | with_reducible apply Out.follows.next | with_reducible apply setNow_follows | with_reducible apply solLatch_follows | (dsimp only [State.follows_mk]; change State.follows _ _) | with_reducible apply State.follows.forEach | with_reducible apply State.follows.foldlFst | with_reducible apply State.follows.foldl | split | dsimp only | intro _ | decide)

theorem execSolOvercurrent_follows {orig : State} (v : Fin 32) (t : Ns) (s : State) (hF : orig.follows s) : Out.follows orig (execSolOvercurrent v t s) := by
  unfold execSolOvercurrent
  repeat' (first | with_reducible assumption | with_reducible apply Out.follows.next | with_reducible apply solLatch_follows | with_reducible apply setNow_follows | (dsimp only [State.follows_mk]; change State.follows _ _) | with_reducible apply State.follows.forEach | with_reducible apply State.follows.foldlFst | with_reducible apply State.follows.foldl | split | dsimp only | intro _ | decide)

theorem execHoldLow_follows {orig : State} (v : Fin 32) (t : Ns) (s : State) (hF : orig.follows s) : Out.follows orig (execHoldLow v t s) := by
  unfold execHoldLow
  repeat' (first | with_reducible assumption | with_reducible apply Out.follows.next | with_reducible apply setNow_follows | with_reducible apply solLatch_follows | (dsimp only [State.follows_mk]; change State.follows _ _) | with_reducible apply State.follows.forEach | with_reducible apply State.follows.foldlFst | with_reducible apply State.follows.foldl | split | dsimp only | intro _ | decide)

theorem execDutyCut_follows {orig : State} (v : Fin 32) (t : Ns) (s : State) (hF : orig.follows s) : Out.follows orig (execDutyCut v t s) := by
  unfold execDutyCut
  repeat' (first | with_reducible assumption | with_reducible apply Out.follows.next | with_reducible apply setNow_follows | with_reducible apply solLatch_follows | (dsimp only [State.follows_mk]; change State.follows _ _) | with_reducible apply State.follows.forEach | with_reducible apply State.follows.foldlFst | with_reducible apply State.follows.foldl | split | dsimp only | intro _ | decide)

theorem execSenseFault_follows {orig : State} (v : Fin 32) (t : Ns) (s : State) (hF : orig.follows s) : Out.follows orig (execSenseFault v t s) := by
  unfold execSenseFault
  repeat' (first | with_reducible assumption | with_reducible apply Out.follows.next | with_reducible apply solLatch_follows | with_reducible apply setNow_follows | (dsimp only [State.follows_mk]; change State.follows _ _) | with_reducible apply State.follows.forEach | with_reducible apply State.follows.foldlFst | with_reducible apply State.follows.foldl | split | dsimp only | intro _ | decide)

end Sys2Proof.Machine
end

