-- ==== Sys2Proof/Laws/FollowsTx.lean ====
section
/-!
SUPPORT. Every operation of Machine/Tx.lean keeps `State.follows`: it leaves the queue alone, the recorder follows, no floor and
no epoch falls, and SAFE_OUT_N stays as R403 has it.
-/
namespace Sys2Proof.Machine

open Sys2Proof

theorem txEndForce_follows {orig : State} (s : State) (n : Nat) (toSt : TxSt) (hF : orig.follows s) :
    orig.follows (txEndForce s n toSt) := by
  unfold txEndForce
  repeat' (first | with_reducible assumption | with_reducible apply setTx_follows | (dsimp only [State.follows_mk]; change State.follows _ _) | with_reducible apply State.follows.forEach | with_reducible apply State.follows.foldlFst | with_reducible apply State.follows.foldl | split | dsimp only | intro _ | decide)

theorem txGateOff_follows {orig : State} (s : State) (n : Nat) (hF : orig.follows s) :
    orig.follows (txGateOff s n) := by
  unfold txGateOff
  repeat' (first | with_reducible assumption | with_reducible apply setTx_follows | with_reducible apply txEndForce_follows | (dsimp only [State.follows_mk]; change State.follows _ _) | with_reducible apply State.follows.forEach | with_reducible apply State.follows.foldlFst | with_reducible apply State.follows.foldl | split | dsimp only | intro _ | decide)

theorem txRefuse_follows {orig : State} (s : State) (n : Nat) (hF : orig.follows s) :
    orig.follows (txRefuse s n) := by
  unfold txRefuse
  repeat' (first | with_reducible assumption | with_reducible apply stick_follows | (dsimp only [State.follows_mk]; change State.follows _ _) | with_reducible apply State.follows.forEach | with_reducible apply State.follows.foldlFst | with_reducible apply State.follows.foldl | split | dsimp only | intro _ | decide)

theorem txFault_follows {orig : State} (s : State) (n : Nat) (hF : orig.follows s) :
    orig.follows (txFault s n) := by
  unfold txFault
  repeat' (first | with_reducible assumption | with_reducible apply logEv_follows | with_reducible apply stick_follows | with_reducible apply setTx_follows | (dsimp only [State.follows_mk]; change State.follows _ _) | with_reducible apply State.follows.forEach | with_reducible apply State.follows.foldlFst | with_reducible apply State.follows.foldl | split | dsimp only | intro _ | decide)

theorem txFrame_follows {orig : State} (s : State) (n t : Nat) (r : CellReading) (hF : orig.follows s) :
    orig.follows (txFrame s n t r) := by
  unfold txFrame
  repeat' (first | with_reducible assumption | with_reducible apply setTx_follows | (dsimp only [State.follows_mk]; change State.follows _ _) | with_reducible apply State.follows.forEach | with_reducible apply State.follows.foldlFst | with_reducible apply State.follows.foldl | split | dsimp only | intro _ | decide)

theorem execCellCommandFrame_follows {orig : State} (n : Fin 16) (t : Ns) (r : CellReading) (s : State) (hF : orig.follows s) : Out.follows orig (execCellCommandFrame n t r s) := by
  unfold execCellCommandFrame
  repeat' (first | with_reducible assumption | with_reducible apply Out.follows.next | with_reducible apply setNow_follows | with_reducible apply txFrame_follows | (dsimp only [State.follows_mk]; change State.follows _ _) | with_reducible apply State.follows.forEach | with_reducible apply State.follows.foldlFst | with_reducible apply State.follows.foldl | split | dsimp only | intro _ | decide)

theorem execCellTimeout_follows {orig : State} (n : Fin 16) (t : Ns) (s : State) (hF : orig.follows s) : Out.follows orig (execCellTimeout n t s) := by
  unfold execCellTimeout
  repeat' (first | with_reducible assumption | with_reducible apply Out.follows.next | with_reducible apply setNow_follows | with_reducible apply setTx_follows | (dsimp only [State.follows_mk]; change State.follows _ _) | with_reducible apply State.follows.forEach | with_reducible apply State.follows.foldlFst | with_reducible apply State.follows.foldl | split | dsimp only | intro _ | decide)

theorem execAlarmLineAssert_follows {orig : State} (n : Fin 16) (t : Ns) (s : State) (hF : orig.follows s) : Out.follows orig (execAlarmLineAssert n t s) := by
  unfold execAlarmLineAssert
  repeat' (first | with_reducible assumption | with_reducible apply Out.follows.next | with_reducible apply setNow_follows | with_reducible apply setTx_follows | (dsimp only [State.follows_mk]; change State.follows _ _) | with_reducible apply State.follows.forEach | with_reducible apply State.follows.foldlFst | with_reducible apply State.follows.foldl | split | dsimp only | intro _ | decide)

theorem execAlarmLineLoss_follows {orig : State} (n : Fin 16) (t : Ns) (s : State) (hF : orig.follows s) : Out.follows orig (execAlarmLineLoss n t s) := by
  unfold execAlarmLineLoss
  repeat' (first | with_reducible assumption | with_reducible apply Out.follows.next | with_reducible apply txEndForce_follows | with_reducible apply setNow_follows | with_reducible apply setTx_follows | (dsimp only [State.follows_mk]; change State.follows _ _) | with_reducible apply State.follows.forEach | with_reducible apply State.follows.foldlFst | with_reducible apply State.follows.foldl | split | dsimp only | intro _ | decide)

theorem execTxMismatch_follows {orig : State} (n : Fin 16) (t : Ns) (s : State) (hF : orig.follows s) : Out.follows orig (execTxMismatch n t s) := by
  unfold execTxMismatch
  repeat' (first | with_reducible assumption | with_reducible apply Out.follows.next | with_reducible apply setNow_follows | with_reducible apply txFault_follows | (dsimp only [State.follows_mk]; change State.follows _ _) | with_reducible apply State.follows.forEach | with_reducible apply State.follows.foldlFst | with_reducible apply State.follows.foldl | split | dsimp only | intro _ | decide)

theorem execForcedTimeout_follows {orig : State} (n : Fin 16) (t : Ns) (s : State) (hF : orig.follows s) : Out.follows orig (execForcedTimeout n t s) := by
  unfold execForcedTimeout
  repeat' (first | with_reducible assumption | with_reducible apply Out.follows.next | with_reducible apply setNow_follows | with_reducible apply logEv_follows | with_reducible apply txEndForce_follows | (dsimp only [State.follows_mk]; change State.follows _ _) | with_reducible apply State.follows.forEach | with_reducible apply State.follows.foldlFst | with_reducible apply State.follows.foldl | split | dsimp only | intro _ | decide)

theorem txReset_follows {orig : State} (s : State) (n : Nat) (hF : orig.follows s) :
    orig.follows (txReset s n) := by
  unfold txReset
  repeat' (first | with_reducible assumption | with_reducible apply setTx_follows | with_reducible apply txRefuse_follows | (dsimp only [State.follows_mk]; change State.follows _ _) | with_reducible apply State.follows.forEach | with_reducible apply State.follows.foldlFst | with_reducible apply State.follows.foldl | split | dsimp only | intro _ | decide)

theorem execTxReset_follows {orig : State} (n : Fin 16) (s : State) (hF : orig.follows s) : Out.follows orig (execTxReset n s) := by
  unfold execTxReset
  repeat' (first | with_reducible assumption | with_reducible apply Out.follows.next | with_reducible apply rowCmd_follows | with_reducible apply txReset_follows | (dsimp only [State.follows_mk]; change State.follows _ _) | with_reducible apply State.follows.forEach | with_reducible apply State.follows.foldlFst | with_reducible apply State.follows.foldl | split | dsimp only | intro _ | decide)

theorem txForce_follows {orig : State} (s : State) (n : Nat) (span sess : Bool) (hF : orig.follows s) :
    orig.follows (txForce s n span sess) := by
  unfold txForce
  repeat' (first | with_reducible assumption | with_reducible apply setTx_follows | (dsimp only [State.follows_mk]; change State.follows _ _) | with_reducible apply State.follows.forEach | with_reducible apply State.follows.foldlFst | with_reducible apply State.follows.foldl | split | dsimp only | intro _ | decide)

theorem txForceOp_follows {orig : State} (s : State) (n : Nat) (span : Bool) (hF : orig.follows s) :
    orig.follows (txForceOp s n span) := by
  unfold txForceOp
  repeat' (first | with_reducible assumption | with_reducible apply txRefuse_follows | with_reducible apply txFault_follows | with_reducible apply txForce_follows | (dsimp only [State.follows_mk]; change State.follows _ _) | with_reducible apply State.follows.forEach | with_reducible apply State.follows.foldlFst | with_reducible apply State.follows.foldl | split | dsimp only | intro _ | decide)

theorem execTxForce4_follows {orig : State} (n : Fin 16) (s : State) (hF : orig.follows s) : Out.follows orig (execTxForce4 n s) := by
  unfold execTxForce4
  repeat' (first | with_reducible assumption | with_reducible apply Out.follows.next | with_reducible apply rowCmd_follows | with_reducible apply txForceOp_follows | (dsimp only [State.follows_mk]; change State.follows _ _) | with_reducible apply State.follows.forEach | with_reducible apply State.follows.foldlFst | with_reducible apply State.follows.foldl | split | dsimp only | intro _ | decide)

theorem execTxForce20_follows {orig : State} (n : Fin 16) (s : State) (hF : orig.follows s) : Out.follows orig (execTxForce20 n s) := by
  unfold execTxForce20
  repeat' (first | with_reducible assumption | with_reducible apply Out.follows.next | with_reducible apply rowCmd_follows | with_reducible apply txForceOp_follows | (dsimp only [State.follows_mk]; change State.follows _ _) | with_reducible apply State.follows.forEach | with_reducible apply State.follows.foldlFst | with_reducible apply State.follows.foldl | split | dsimp only | intro _ | decide)

theorem txRelease_follows {orig : State} (s : State) (n : Nat) (hF : orig.follows s) :
    orig.follows (txRelease s n) := by
  unfold txRelease
  repeat' (first | with_reducible assumption | with_reducible apply logEv_follows | with_reducible apply txEndForce_follows | with_reducible apply txRefuse_follows | (dsimp only [State.follows_mk]; change State.follows _ _) | with_reducible apply State.follows.forEach | with_reducible apply State.follows.foldlFst | with_reducible apply State.follows.foldl | split | dsimp only | intro _ | decide)

theorem execTxRelease_follows {orig : State} (n : Fin 16) (s : State) (hF : orig.follows s) : Out.follows orig (execTxRelease n s) := by
  unfold execTxRelease
  repeat' (first | with_reducible assumption | with_reducible apply Out.follows.next | with_reducible apply rowCmd_follows | with_reducible apply txRelease_follows | (dsimp only [State.follows_mk]; change State.follows _ _) | with_reducible apply State.follows.forEach | with_reducible apply State.follows.foldlFst | with_reducible apply State.follows.foldl | split | dsimp only | intro _ | decide)

theorem txLock_follows {orig : State} (s : State) (n : Nat) (on : Bool) (hF : orig.follows s) :
    orig.follows (txLock s n on) := by
  unfold txLock
  repeat' (first | with_reducible assumption | with_reducible apply setTx_follows | (dsimp only [State.follows_mk]; change State.follows _ _) | with_reducible apply State.follows.forEach | with_reducible apply State.follows.foldlFst | with_reducible apply State.follows.foldl | split | dsimp only | intro _ | decide)

theorem execTxLock_follows {orig : State} (n : Fin 16) (s : State) (hF : orig.follows s) : Out.follows orig (execTxLock n s) := by
  unfold execTxLock
  repeat' (first | with_reducible assumption | with_reducible apply Out.follows.next | with_reducible apply rowCmd_follows | with_reducible apply txLock_follows | (dsimp only [State.follows_mk]; change State.follows _ _) | with_reducible apply State.follows.forEach | with_reducible apply State.follows.foldlFst | with_reducible apply State.follows.foldl | split | dsimp only | intro _ | decide)

theorem execTxUnlock_follows {orig : State} (n : Fin 16) (s : State) (hF : orig.follows s) : Out.follows orig (execTxUnlock n s) := by
  unfold execTxUnlock
  repeat' (first | with_reducible assumption | with_reducible apply Out.follows.next | with_reducible apply rowCmd_follows | with_reducible apply txLock_follows | (dsimp only [State.follows_mk]; change State.follows _ _) | with_reducible apply State.follows.forEach | with_reducible apply State.follows.foldlFst | with_reducible apply State.follows.foldl | split | dsimp only | intro _ | decide)

theorem execTrimSessionStart_follows {orig : State} (span : Bool) (t : Ns) (s : State) (hF : orig.follows s) : Out.follows orig (execTrimSessionStart span t s) := by
  unfold execTrimSessionStart
  repeat' (first | with_reducible assumption | with_reducible apply Out.follows.next | with_reducible apply setNow_follows | with_reducible apply logEv_follows | with_reducible apply stick_follows | with_reducible apply txForce_follows | (dsimp only [State.follows_mk]; change State.follows _ _) | with_reducible apply State.follows.forEach | with_reducible apply State.follows.foldlFst | with_reducible apply State.follows.foldl | split | dsimp only | intro _ | decide)

theorem execTrimShortPress_follows {orig : State} (up : Bool) (t : Ns) (s : State) (hF : orig.follows s) : Out.follows orig (execTrimShortPress up t s) := by
  unfold execTrimShortPress
  repeat' (first | with_reducible assumption | with_reducible apply Out.follows.next | with_reducible apply setNow_follows | (dsimp only [State.follows_mk]; change State.follows _ _) | with_reducible apply State.follows.forEach | with_reducible apply State.follows.foldlFst | with_reducible apply State.follows.foldl | split | dsimp only | intro _ | decide)

theorem execTrimStore_follows {orig : State} (t : Ns) (s : State) (hF : orig.follows s) : Out.follows orig (execTrimStore t s) := by
  unfold execTrimStore
  repeat' (first | with_reducible assumption | with_reducible apply Out.follows.next | with_reducible apply setNow_follows | with_reducible apply blockReg_follows | with_reducible apply txEndForce_follows | with_reducible apply setTx_follows | with_reducible apply logEv_follows | (dsimp only [State.follows_mk]; change State.follows _ _) | with_reducible apply State.follows.forEach | with_reducible apply State.follows.foldlFst | with_reducible apply State.follows.foldl | split | dsimp only | intro _ | decide)

theorem execTrimSessionTimeout_follows {orig : State} (t : Ns) (s : State) (hF : orig.follows s) : Out.follows orig (execTrimSessionTimeout t s) := by
  unfold execTrimSessionTimeout
  repeat' (first | with_reducible assumption | with_reducible apply Out.follows.next | with_reducible apply setNow_follows | with_reducible apply logEv_follows | with_reducible apply txEndForce_follows | (dsimp only [State.follows_mk]; change State.follows _ _) | with_reducible apply State.follows.forEach | with_reducible apply State.follows.foldlFst | with_reducible apply State.follows.foldl | split | dsimp only | intro _ | decide)

theorem execTrimSelChange_follows {orig : State} (sel : Fin 16) (t : Ns) (s : State) (hF : orig.follows s) : Out.follows orig (execTrimSelChange sel t s) := by
  unfold execTrimSelChange
  repeat' (first | with_reducible assumption | with_reducible apply Out.follows.next | with_reducible apply setNow_follows | with_reducible apply logEv_follows | with_reducible apply txEndForce_follows | (dsimp only [State.follows_mk]; change State.follows _ _) | with_reducible apply State.follows.forEach | with_reducible apply State.follows.foldlFst | with_reducible apply State.follows.foldl | split | dsimp only | intro _ | decide)

theorem execLoopPowerChange_follows {orig : State} (n : Fin 16) (t : Ns) (on : Bool) (s : State) (hF : orig.follows s) : Out.follows orig (execLoopPowerChange n t on s) := by
  unfold execLoopPowerChange
  repeat' (first | with_reducible assumption | with_reducible apply Out.follows.next | with_reducible apply setNow_follows | with_reducible apply setTx_follows | with_reducible apply txEndForce_follows | (dsimp only [State.follows_mk]; change State.follows _ _) | with_reducible apply State.follows.forEach | with_reducible apply State.follows.foldlFst | with_reducible apply State.follows.foldl | split | dsimp only | intro _ | decide)

theorem execCellStatusSilent_follows {orig : State} (n : Fin 16) (t : Ns) (s : State) (hF : orig.follows s) : Out.follows orig (execCellStatusSilent n t s) := by
  unfold execCellStatusSilent
  repeat' (first | with_reducible assumption | with_reducible apply Out.follows.next | with_reducible apply setNow_follows | with_reducible apply setTx_follows | (dsimp only [State.follows_mk]; change State.follows _ _) | with_reducible apply State.follows.forEach | with_reducible apply State.follows.foldlFst | with_reducible apply State.follows.foldl | split | dsimp only | intro _ | decide)

end Sys2Proof.Machine
end

