-- ==== Sys2Proof/Laws/FollowsAisle.lean ====
section
/-!
SUPPORT. Every operation of Machine/Aisle.lean keeps `State.follows`: it leaves the queue alone, the recorder follows, no floor and
no epoch falls, and SAFE_OUT_N stays as R403 has it.
-/
namespace Sys2Proof.Machine

open Sys2Proof

theorem sweepFinish_follows {orig : State} (s : State) (n : Nat) (aborted : Bool) (hF : orig.follows s) :
    orig.follows (sweepFinish s n aborted) := by
  unfold sweepFinish
  repeat' (first | with_reducible assumption | with_reducible apply setAis_follows | with_reducible apply stick_follows | (dsimp only [State.follows_mk]; change State.follows _ _) | with_reducible apply State.follows.forEach | with_reducible apply State.follows.foldlFst | with_reducible apply State.follows.foldl | split | dsimp only | intro _ | decide)

theorem sweepAbort_follows {orig : State} (s : State) (n : Nat) (hF : orig.follows s) :
    orig.follows (sweepAbort s n) := by
  unfold sweepAbort
  repeat' (first | with_reducible assumption | with_reducible apply sweepFinish_follows | (dsimp only [State.follows_mk]; change State.follows _ _) | with_reducible apply State.follows.forEach | with_reducible apply State.follows.foldlFst | with_reducible apply State.follows.foldl | split | dsimp only | intro _ | decide)

theorem sweepPulse_follows {orig : State} (s : State) (n k : Nat) (hF : orig.follows s) :
    orig.follows (sweepPulse s n k) := by
  unfold sweepPulse
  repeat' (first | with_reducible assumption | with_reducible apply setAis_follows | (dsimp only [State.follows_mk]; change State.follows _ _) | with_reducible apply State.follows.forEach | with_reducible apply State.follows.foldlFst | with_reducible apply State.follows.foldl | split | dsimp only | intro _ | decide)

theorem sweepGo_follows {orig : State} (s : State) (n k : Nat) (hF : orig.follows s) :
    orig.follows (sweepGo s n k) := by
  unfold sweepGo
  repeat' (first | with_reducible assumption | with_reducible apply sweepPulse_follows | with_reducible apply sweepFinish_follows | (dsimp only [State.follows_mk]; change State.follows _ _) | with_reducible apply State.follows.forEach | with_reducible apply State.follows.foldlFst | with_reducible apply State.follows.foldl | split | dsimp only | intro _ | decide)

theorem sweepBegin_follows {orig : State} (s : State) (n : Nat) (hF : orig.follows s) :
    orig.follows (sweepBegin s n) := by
  unfold sweepBegin
  repeat' (first | with_reducible assumption | with_reducible apply setAis_follows | with_reducible apply sweepGo_follows | with_reducible apply stick_follows | (dsimp only [State.follows_mk]; change State.follows _ _) | with_reducible apply State.follows.forEach | with_reducible apply State.follows.foldlFst | with_reducible apply State.follows.foldl | split | dsimp only | intro _ | decide)

theorem sweepCut_follows {orig : State} (s : State) (i : Nat) (hF : orig.follows s) :
    orig.follows (sweepCut s i) := by
  unfold sweepCut
  repeat' (first | with_reducible assumption | with_reducible apply setAis_follows | (dsimp only [State.follows_mk]; change State.follows _ _) | with_reducible apply State.follows.forEach | with_reducible apply State.follows.foldlFst | with_reducible apply State.follows.foldl | split | dsimp only | intro _ | decide)

theorem setLevel_follows {orig : State} (s : State) (i : Nat) (b : Bool) (hF : orig.follows s) :
    orig.follows (setLevel s i b) := by
  unfold setLevel
  repeat' (first | with_reducible assumption | with_reducible apply sweepCut_follows | with_reducible apply setStl_follows | (dsimp only [State.follows_mk]; change State.follows _ _) | with_reducible apply State.follows.forEach | with_reducible apply State.follows.foldlFst | with_reducible apply State.follows.foldl | split | dsimp only | intro _ | decide)

theorem aisEnterSafe_follows {orig : State} (s : State) (n : Nat) (snuff : Bool) (hF : orig.follows s) :
    orig.follows (aisEnterSafe s n snuff) := by
  unfold aisEnterSafe
  repeat' (first | with_reducible assumption | with_reducible apply sweepAbort_follows | with_reducible apply setStl_follows | with_reducible apply setAis_follows | (dsimp only [State.follows_mk]; change State.follows _ _) | with_reducible apply State.follows.forEach | with_reducible apply State.follows.foldlFst | with_reducible apply State.follows.foldl | split | dsimp only | intro _ | decide)

theorem dropSets_follows {orig : State} (s : State) (n : Nat) (hF : orig.follows s) :
    orig.follows (dropSets s n) := by
  unfold dropSets
  repeat' (first | with_reducible assumption | with_reducible apply setChan_follows | (dsimp only [State.follows_mk]; change State.follows _ _) | with_reducible apply State.follows.forEach | with_reducible apply State.follows.foldlFst | with_reducible apply State.follows.foldl | split | dsimp only | intro _ | decide)

theorem aisPowerDown_follows {orig : State} (s : State) (n : Nat) (avl : Nat) (hF : orig.follows s) :
    orig.follows (aisPowerDown s n avl) := by
  unfold aisPowerDown
  repeat' (first | with_reducible assumption | with_reducible apply dropSets_follows | with_reducible apply sweepAbort_follows | with_reducible apply setStl_follows | with_reducible apply setAis_follows | (dsimp only [State.follows_mk]; change State.follows _ _) | with_reducible apply State.follows.forEach | with_reducible apply State.follows.foldlFst | with_reducible apply State.follows.foldl | split | dsimp only | intro _ | decide)

theorem execStallConversion_follows {orig : State} (i : Fin 128) (t : Ns) (r : StallReading) (s : State) (hF : orig.follows s) : Out.follows orig (execStallConversion i t r s) := by
  unfold execStallConversion
  repeat' (first | with_reducible assumption | with_reducible apply Out.follows.next | with_reducible apply setNow_follows | with_reducible apply setStl_follows | with_reducible apply setAis_follows | (dsimp only [State.follows_mk]; change State.follows _ _) | with_reducible apply State.follows.forEach | with_reducible apply State.follows.foldlFst | with_reducible apply State.follows.foldl | split | dsimp only | intro _ | decide)

theorem pushEdge_follows {orig : State} (s : State) (i : Nat) (cls : DiClass) (t : Nat) (hF : orig.follows s) :
    orig.follows (pushEdge s i cls t) := by
  unfold pushEdge
  repeat' (first | with_reducible assumption | with_reducible apply setAis_follows | with_reducible apply setStl_follows | (dsimp only [State.follows_mk]; change State.follows _ _) | with_reducible apply State.follows.forEach | with_reducible apply State.follows.foldlFst | with_reducible apply State.follows.foldl | split | dsimp only | intro _ | decide)

theorem execDiClassChange_follows {orig : State} (i : Fin 128) (t : Ns) (cls : DiClass) (s : State) (hF : orig.follows s) : Out.follows orig (execDiClassChange i t cls s) := by
  unfold execDiClassChange
  repeat' (first | with_reducible assumption | with_reducible apply Out.follows.next | with_reducible apply setNow_follows | with_reducible apply setStl_follows | with_reducible apply pushEdge_follows | (dsimp only [State.follows_mk]; change State.follows _ _) | with_reducible apply State.follows.forEach | with_reducible apply State.follows.foldlFst | with_reducible apply State.follows.foldl | split | dsimp only | intro _ | decide)

theorem execCntEdge_follows {orig : State} (i : Fin 128) (t : Ns) (s : State) (hF : orig.follows s) : Out.follows orig (execCntEdge i t s) := by
  unfold execCntEdge
  repeat' (first | with_reducible assumption | with_reducible apply Out.follows.next | with_reducible apply setNow_follows | with_reducible apply setStl_follows | (dsimp only [State.follows_mk]; change State.follows _ _) | with_reducible apply State.follows.forEach | with_reducible apply State.follows.foldlFst | with_reducible apply State.follows.foldl | split | dsimp only | intro _ | decide)

theorem execCntBreak_follows {orig : State} (i : Fin 128) (t : Ns) (s : State) (hF : orig.follows s) : Out.follows orig (execCntBreak i t s) := by
  unfold execCntBreak
  repeat' (first | with_reducible assumption | with_reducible apply Out.follows.next | with_reducible apply setNow_follows | with_reducible apply setStl_follows | (dsimp only [State.follows_mk]; change State.follows _ _) | with_reducible apply State.follows.forEach | with_reducible apply State.follows.foldlFst | with_reducible apply State.follows.foldl | split | dsimp only | intro _ | decide)

theorem execDoOverloadTrip_follows {orig : State} (i : Fin 128) (t : Ns) (s : State) (hF : orig.follows s) : Out.follows orig (execDoOverloadTrip i t s) := by
  unfold execDoOverloadTrip
  repeat' (first | with_reducible assumption | with_reducible apply Out.follows.next | with_reducible apply setNow_follows | with_reducible apply setStl_follows | (dsimp only [State.follows_mk]; change State.follows _ _) | with_reducible apply State.follows.forEach | with_reducible apply State.follows.foldlFst | with_reducible apply State.follows.foldl | split | dsimp only | intro _ | decide)

theorem execDoOverloadRetry_follows {orig : State} (i : Fin 128) (t : Ns) (limited : Bool) (s : State) (hF : orig.follows s) : Out.follows orig (execDoOverloadRetry i t limited s) := by
  unfold execDoOverloadRetry
  repeat' (first | with_reducible assumption | with_reducible apply Out.follows.next | with_reducible apply setNow_follows | with_reducible apply setStl_follows | (dsimp only [State.follows_mk]; change State.follows _ _) | with_reducible apply State.follows.forEach | with_reducible apply State.follows.foldlFst | with_reducible apply State.follows.foldl | split | dsimp only | intro _ | decide)

theorem execDoThermalShutdown_follows {orig : State} (i : Fin 128) (t : Ns) (s : State) (hF : orig.follows s) : Out.follows orig (execDoThermalShutdown i t s) := by
  unfold execDoThermalShutdown
  repeat' (first | with_reducible assumption | with_reducible apply Out.follows.next | with_reducible apply setNow_follows | with_reducible apply setStl_follows | (dsimp only [State.follows_mk]; change State.follows _ _) | with_reducible apply State.follows.forEach | with_reducible apply State.follows.foldlFst | with_reducible apply State.follows.foldl | split | dsimp only | intro _ | decide)

theorem execDoThermalRecovery_follows {orig : State} (i : Fin 128) (t : Ns) (s : State) (hF : orig.follows s) : Out.follows orig (execDoThermalRecovery i t s) := by
  unfold execDoThermalRecovery
  repeat' (first | with_reducible assumption | with_reducible apply Out.follows.next | with_reducible apply setNow_follows | with_reducible apply setStl_follows | (dsimp only [State.follows_mk]; change State.follows _ _) | with_reducible apply State.follows.forEach | with_reducible apply State.follows.foldlFst | with_reducible apply State.follows.foldl | split | dsimp only | intro _ | decide)

theorem execSupplyLimitRetry_follows {orig : State} (i : Fin 128) (t : Ns) (limited : Bool) (s : State) (hF : orig.follows s) : Out.follows orig (execSupplyLimitRetry i t limited s) := by
  unfold execSupplyLimitRetry
  repeat' (first | with_reducible assumption | with_reducible apply Out.follows.next | with_reducible apply setNow_follows | with_reducible apply setStl_follows | (dsimp only [State.follows_mk]; change State.follows _ _) | with_reducible apply State.follows.forEach | with_reducible apply State.follows.foldlFst | with_reducible apply State.follows.foldl | split | dsimp only | intro _ | decide)

theorem execAislePowerUp_follows {orig : State} (n : Fin 8) (t : Ns) (avl : Nat) (s : State) (hF : orig.follows s) : Out.follows orig (execAislePowerUp n t avl s) := by
  unfold execAislePowerUp
  repeat' (first | with_reducible assumption | with_reducible apply Out.follows.next | with_reducible apply setNow_follows | with_reducible apply setAis_follows | (dsimp only [State.follows_mk]; change State.follows _ _) | with_reducible apply State.follows.forEach | with_reducible apply State.follows.foldlFst | with_reducible apply State.follows.foldl | split | dsimp only | intro _ | decide)

theorem execAvlUndervoltage_follows {orig : State} (n : Fin 8) (t : Ns) (avl : Nat) (s : State) (hF : orig.follows s) : Out.follows orig (execAvlUndervoltage n t avl s) := by
  unfold execAvlUndervoltage
  repeat' (first | with_reducible assumption | with_reducible apply Out.follows.next | with_reducible apply setNow_follows | with_reducible apply stick_follows | with_reducible apply aisPowerDown_follows | (dsimp only [State.follows_mk]; change State.follows _ _) | with_reducible apply State.follows.forEach | with_reducible apply State.follows.foldlFst | with_reducible apply State.follows.foldl | split | dsimp only | intro _ | decide)

theorem execFieldUndervoltage_follows {orig : State} (n : Fin 8) (t : Ns) (avf : Nat) (s : State) (hF : orig.follows s) : Out.follows orig (execFieldUndervoltage n t avf s) := by
  unfold execFieldUndervoltage
  repeat' (first | with_reducible assumption | with_reducible apply Out.follows.next | with_reducible apply setNow_follows | with_reducible apply setAis_follows | (dsimp only [State.follows_mk]; change State.follows _ _) | with_reducible apply State.follows.forEach | with_reducible apply State.follows.foldlFst | with_reducible apply State.follows.foldl | split | dsimp only | intro _ | decide)

theorem execFieldUndervoltageEnd_follows {orig : State} (n : Fin 8) (t : Ns) (avf : Nat) (s : State) (hF : orig.follows s) : Out.follows orig (execFieldUndervoltageEnd n t avf s) := by
  unfold execFieldUndervoltageEnd
  repeat' (first | with_reducible assumption | with_reducible apply Out.follows.next | with_reducible apply setNow_follows | with_reducible apply setAis_follows | (dsimp only [State.follows_mk]; change State.follows _ _) | with_reducible apply State.follows.forEach | with_reducible apply State.follows.foldlFst | with_reducible apply State.follows.foldl | split | dsimp only | intro _ | decide)

theorem execAisleLinkLost_follows {orig : State} (n : Fin 8) (t : Ns) (s : State) (hF : orig.follows s) : Out.follows orig (execAisleLinkLost n t s) := by
  unfold execAisleLinkLost
  repeat' (first | with_reducible assumption | with_reducible apply Out.follows.next | with_reducible apply setNow_follows | with_reducible apply setAis_follows | with_reducible apply aisEnterSafe_follows | with_reducible apply dropSets_follows | with_reducible apply stick_follows | with_reducible apply logEv_follows | (dsimp only [State.follows_mk]; change State.follows _ _) | with_reducible apply State.follows.forEach | with_reducible apply State.follows.foldlFst | with_reducible apply State.follows.foldl | split | dsimp only | intro _ | decide)

theorem aisResume_follows {orig : State} (s : State) (n : Nat) (hF : orig.follows s) :
    orig.follows (aisResume s n) := by
  unfold aisResume
  repeat' (first | with_reducible assumption | with_reducible apply setAis_follows | (dsimp only [State.follows_mk]; change State.follows _ _) | with_reducible apply State.follows.forEach | with_reducible apply State.follows.foldlFst | with_reducible apply State.follows.foldl | split | dsimp only | intro _ | decide)

theorem execAisleResumeCmd_follows {orig : State} (n : Fin 8) (s : State) (hF : orig.follows s) : Out.follows orig (execAisleResumeCmd n s) := by
  unfold execAisleResumeCmd
  repeat' (first | with_reducible assumption | with_reducible apply Out.follows.next | with_reducible apply rowCmd_follows | with_reducible apply aisResume_follows | (dsimp only [State.follows_mk]; change State.follows _ _) | with_reducible apply State.follows.forEach | with_reducible apply State.follows.foldlFst | with_reducible apply State.follows.foldl | split | dsimp only | intro _ | decide)

theorem execSafeTableCheck_follows {orig : State} (n : Fin 8) (t : Ns) (ok : Bool) (s : State) (hF : orig.follows s) : Out.follows orig (execSafeTableCheck n t ok s) := by
  unfold execSafeTableCheck
  repeat' (first | with_reducible assumption | with_reducible apply Out.follows.next | with_reducible apply setNow_follows | with_reducible apply stick_follows | with_reducible apply setAis_follows | with_reducible apply logEv_follows | (dsimp only [State.follows_mk]; change State.follows _ _) | with_reducible apply State.follows.forEach | with_reducible apply State.follows.foldlFst | with_reducible apply State.follows.foldl | split | dsimp only | intro _ | decide)

theorem aisClear_follows {orig : State} (s : State) (n : Nat) (hF : orig.follows s) :
    orig.follows (aisClear s n) := by
  unfold aisClear
  repeat' (first | with_reducible assumption | with_reducible apply setAis_follows | with_reducible apply setStl_follows | (dsimp only [State.follows_mk]; change State.follows _ _) | with_reducible apply State.follows.forEach | with_reducible apply State.follows.foldlFst | with_reducible apply State.follows.foldl | split | dsimp only | intro _ | decide)

theorem execAisleClearCounts_follows {orig : State} (n : Fin 8) (s : State) (hF : orig.follows s) : Out.follows orig (execAisleClearCounts n s) := by
  unfold execAisleClearCounts
  repeat' (first | with_reducible assumption | with_reducible apply Out.follows.next | with_reducible apply rowCmd_follows | with_reducible apply aisClear_follows | (dsimp only [State.follows_mk]; change State.follows _ _) | with_reducible apply State.follows.forEach | with_reducible apply State.follows.foldlFst | with_reducible apply State.follows.foldl | split | dsimp only | intro _ | decide)

theorem execSweepStart_follows {orig : State} (n : Fin 8) (s : State) (hF : orig.follows s) : Out.follows orig (execSweepStart n s) := by
  unfold execSweepStart
  repeat' (first | with_reducible assumption | with_reducible apply Out.follows.next | with_reducible apply rowCmd_follows | with_reducible apply sweepBegin_follows | (dsimp only [State.follows_mk]; change State.follows _ _) | with_reducible apply State.follows.forEach | with_reducible apply State.follows.foldlFst | with_reducible apply State.follows.foldl | split | dsimp only | intro _ | decide)

theorem execSweepAbort_follows {orig : State} (n : Fin 8) (s : State) (hF : orig.follows s) : Out.follows orig (execSweepAbort n s) := by
  unfold execSweepAbort
  repeat' (first | with_reducible assumption | with_reducible apply Out.follows.next | with_reducible apply rowCmd_follows | with_reducible apply sweepAbort_follows | (dsimp only [State.follows_mk]; change State.follows _ _) | with_reducible apply State.follows.forEach | with_reducible apply State.follows.foldlFst | with_reducible apply State.follows.foldl | split | dsimp only | intro _ | decide)

theorem execSweepPulseEnd_follows {orig : State} (n : Fin 8) (t : Ns) (fault : Bool) (s : State) (hF : orig.follows s) : Out.follows orig (execSweepPulseEnd n t fault s) := by
  unfold execSweepPulseEnd
  repeat' (first | with_reducible assumption | with_reducible apply Out.follows.next | with_reducible apply setNow_follows | with_reducible apply setAis_follows | with_reducible apply sweepFinish_follows | (dsimp only [State.follows_mk]; change State.follows _ _) | with_reducible apply State.follows.forEach | with_reducible apply State.follows.foldlFst | with_reducible apply State.follows.foldl | split | dsimp only | intro _ | decide)

theorem execSweepGapEnd_follows {orig : State} (n : Fin 8) (t : Ns) (s : State) (hF : orig.follows s) : Out.follows orig (execSweepGapEnd n t s) := by
  unfold execSweepGapEnd
  repeat' (first | with_reducible assumption | with_reducible apply Out.follows.next | with_reducible apply setNow_follows | with_reducible apply sweepGo_follows | (dsimp only [State.follows_mk]; change State.follows _ _) | with_reducible apply State.follows.forEach | with_reducible apply State.follows.foldlFst | with_reducible apply State.follows.foldl | split | dsimp only | intro _ | decide)

theorem execAisleTimedAction_follows {orig : State} (n : Fin 8) (t : Ns) (s : State) (hF : orig.follows s) : Out.follows orig (execAisleTimedAction n t s) := by
  unfold execAisleTimedAction
  repeat' (first | with_reducible assumption | with_reducible apply Out.follows.next | with_reducible apply setNow_follows | with_reducible apply setAis_follows | with_reducible apply setLevel_follows | with_reducible apply setStl_follows | (dsimp only [State.follows_mk]; change State.follows _ _) | with_reducible apply State.follows.forEach | with_reducible apply State.follows.foldlFst | with_reducible apply State.follows.foldl | split | dsimp only | intro _ | decide)

end Sys2Proof.Machine
end

