-- ==== Sys2Proof/Laws/FollowsMotBase.lean ====
section
/-!
SUPPORT. Every operation of Machine/MotBase.lean keeps `State.follows`: it leaves the queue alone, the recorder follows, no floor and
no epoch falls, and SAFE_OUT_N stays as R403 has it.
-/
namespace Sys2Proof.Machine

open Sys2Proof

theorem motFault_follows {orig : State} (s : State) (m : Nat) (f : MotFault) (hF : orig.follows s) :
    orig.follows (motFault s m f) := by
  unfold motFault
  repeat' (first | with_reducible assumption | with_reducible apply stick_follows | with_reducible apply setMot_follows | with_reducible apply logEv_follows | (dsimp only [State.follows_mk]; change State.follows _ _) | with_reducible apply State.follows.forEach | with_reducible apply State.follows.foldlFst | with_reducible apply State.follows.foldl | split | dsimp only | intro _ | decide)

theorem setOffset_follows {orig : State} (s : State) (m angle : Nat) (hF : orig.follows s) :
    orig.follows (setOffset s m angle) := by
  unfold setOffset
  repeat' (first | with_reducible assumption | with_reducible apply setMot_follows | (dsimp only [State.follows_mk]; change State.follows _ _) | with_reducible apply State.follows.forEach | with_reducible apply State.follows.foldlFst | with_reducible apply State.follows.foldl | split | dsimp only | intro _ | decide)

theorem dropOffset_follows {orig : State} (s : State) (w : Nat) (hF : orig.follows s) :
    orig.follows (dropOffset s w) := by
  unfold dropOffset
  repeat' (first | with_reducible assumption | with_reducible apply setMot_follows | (dsimp only [State.follows_mk]; change State.follows _ _) | with_reducible apply State.follows.forEach | with_reducible apply State.follows.foldlFst | with_reducible apply State.follows.foldl | split | dsimp only | intro _ | decide)

theorem motWickLost_follows {orig : State} (s : State) (w : Nat) (hF : orig.follows s) :
    orig.follows (motWickLost s w) := by
  unfold motWickLost
  repeat' (first | with_reducible assumption | with_reducible apply dropOffset_follows | with_reducible apply setMot_follows | with_reducible apply motFault_follows | (dsimp only [State.follows_mk]; change State.follows _ _) | with_reducible apply State.follows.forEach | with_reducible apply State.follows.foldlFst | with_reducible apply State.follows.foldl | split | dsimp only | intro _ | decide)

theorem dropHomed_follows {orig : State} (s : State) (w : Nat) (hF : orig.follows s) :
    orig.follows (dropHomed s w) := by
  unfold dropHomed
  repeat' (first | with_reducible assumption | with_reducible apply setGate_follows | (dsimp only [State.follows_mk]; change State.follows _ _) | with_reducible apply State.follows.forEach | with_reducible apply State.follows.foldlFst | with_reducible apply State.follows.foldl | split | dsimp only | intro _ | decide)

theorem gateEdge_follows {orig : State} (s : State) (i : Nat) (cls : DiClass) (stamp : Nat) (hF : orig.follows s) :
    orig.follows (gateEdge s i cls stamp) := by
  unfold gateEdge
  repeat' (first | with_reducible assumption | with_reducible apply setGate_follows | (dsimp only [State.follows_mk]; change State.follows _ _) | with_reducible apply State.follows.forEach | with_reducible apply State.follows.foldlFst | with_reducible apply State.follows.foldl | split | dsimp only | intro _ | decide)

theorem motGateOff_follows {orig : State} (s : State) (m : Nat) (hF : orig.follows s) :
    orig.follows (motGateOff s m) := by
  unfold motGateOff
  repeat' (first | with_reducible assumption | with_reducible apply setMot_follows | (dsimp only [State.follows_mk]; change State.follows _ _) | with_reducible apply State.follows.forEach | with_reducible apply State.follows.foldlFst | with_reducible apply State.follows.foldl | split | dsimp only | intro _ | decide)

theorem motGateOn_follows {orig : State} (s : State) (m : Nat) (hF : orig.follows s) :
    orig.follows (motGateOn s m) := by
  unfold motGateOn
  repeat' (first | with_reducible assumption | with_reducible apply setMot_follows | (dsimp only [State.follows_mk]; change State.follows _ _) | with_reducible apply State.follows.forEach | with_reducible apply State.follows.foldlFst | with_reducible apply State.follows.foldl | split | dsimp only | intro _ | decide)

end Sys2Proof.Machine
end

