-- ==== Sys2Proof/Laws/FollowsWickBase.lean ====
section
/-!
SUPPORT. Every operation of Machine/WickBase.lean keeps `State.follows`: it leaves the queue alone, the recorder follows, no floor and
no epoch falls, and SAFE_OUT_N stays as R403 has it.
-/
namespace Sys2Proof.Machine

open Sys2Proof

theorem stepCount_follows {orig : State} (s : State) (w : Nat) (d : Int) (hF : orig.follows s) :
    orig.follows (stepCount s w d) := by
  unfold stepCount
  repeat' (first | with_reducible assumption | with_reducible apply setWick_follows | with_reducible apply stick_follows | (dsimp only [State.follows_mk]; change State.follows _ _) | with_reducible apply State.follows.forEach | with_reducible apply State.follows.foldlFst | with_reducible apply State.follows.foldl | split | dsimp only | intro _ | decide)

theorem putCount_follows {orig : State} (s : State) (w : Nat) (v : Int) (hF : orig.follows s) :
    orig.follows (putCount s w v) := by
  unfold putCount
  repeat' (first | with_reducible assumption | with_reducible apply logRaw_follows | with_reducible apply dropOffset_follows | with_reducible apply stick_follows | with_reducible apply setWick_follows | (dsimp only [State.follows_mk]; change State.follows _ _) | with_reducible apply State.follows.forEach | with_reducible apply State.follows.foldlFst | with_reducible apply State.follows.foldl | split | dsimp only | intro _ | decide)

end Sys2Proof.Machine
end

