-- ==== Sys2Proof/Laws/FollowsLlt.lean ====
section
/-!
SUPPORT. Every operation of Machine/Llt.lean keeps `State.follows`: it leaves the queue alone, the recorder follows, no floor and
no epoch falls, and SAFE_OUT_N stays as R403 has it.
-/
namespace Sys2Proof.Machine

open Sys2Proof

theorem modSlot_follows {orig : State} (s : State) (i : Nat) (f : Slot → Slot) (hF : orig.follows s) :
    orig.follows (modSlot s i f) := by
  unfold modSlot
  repeat' (first | with_reducible assumption | with_reducible apply setSlot_follows | (dsimp only [State.follows_mk]; change State.follows _ _) | with_reducible apply State.follows.forEach | with_reducible apply State.follows.foldlFst | with_reducible apply State.follows.foldl | split | dsimp only | intro _ | decide)

theorem lltPost_follows {orig : State} (s : State) (b : Nat) (m : Msg) (hF : orig.follows s) :
    orig.follows (lltPost s b m).1 := by
  unfold lltPost
  repeat' (first | with_reducible assumption | with_reducible apply arrive_follows | (dsimp only [State.follows_mk]; change State.follows _ _) | with_reducible apply State.follows.forEach | with_reducible apply State.follows.foldlFst | with_reducible apply State.follows.foldl | split | dsimp only | intro _ | decide)

theorem lltReport_follows {orig : State} (s : State) (i : Nat) (payload : Option Nat) (code : Nat) (hF : orig.follows s) :
    orig.follows (lltReport s i payload code) := by
  unfold lltReport
  repeat' (first | with_reducible assumption | with_reducible apply lltPost_follows | (dsimp only [State.follows_mk]; change State.follows _ _) | with_reducible apply State.follows.forEach | with_reducible apply State.follows.foldlFst | with_reducible apply State.follows.foldl | split | dsimp only | intro _ | decide)

theorem markMissed_follows {orig : State} (s : State) (i : Nat) (hF : orig.follows s) :
    orig.follows (markMissed s i) := by
  unfold markMissed
  repeat' (first | with_reducible assumption | with_reducible apply stick_follows | with_reducible apply modSlot_follows | (dsimp only [State.follows_mk]; change State.follows _ _) | with_reducible apply State.follows.forEach | with_reducible apply State.follows.foldlFst | with_reducible apply State.follows.foldl | split | dsimp only | intro _ | decide)

theorem markLate_follows {orig : State} (s : State) (i : Nat) (hF : orig.follows s) :
    orig.follows (markLate s i) := by
  unfold markLate
  repeat' (first | with_reducible assumption | with_reducible apply stick_follows | with_reducible apply modSlot_follows | (dsimp only [State.follows_mk]; change State.follows _ _) | with_reducible apply State.follows.forEach | with_reducible apply State.follows.foldlFst | with_reducible apply State.follows.foldl | split | dsimp only | intro _ | decide)

theorem setSt_follows {orig : State} (s : State) (i : Nat) (st : SlotSt) (hF : orig.follows s) :
    orig.follows (setSt s i st) := by
  unfold setSt
  repeat' (first | with_reducible assumption | with_reducible apply modSlot_follows | (dsimp only [State.follows_mk]; change State.follows _ _) | with_reducible apply State.follows.forEach | with_reducible apply State.follows.foldlFst | with_reducible apply State.follows.foldl | split | dsimp only | intro _ | decide)

theorem unsend_follows {orig : State} (s : State) (i : Nat) (hF : orig.follows s) :
    orig.follows (unsend s i) := by
  unfold unsend
  repeat' (first | with_reducible assumption | with_reducible apply modSlot_follows | with_reducible apply setAis_follows | (dsimp only [State.follows_mk]; change State.follows _ _) | with_reducible apply State.follows.forEach | with_reducible apply State.follows.foldlFst | with_reducible apply State.follows.foldl | split | dsimp only | intro _ | decide)

theorem enterSt_follows {orig : State} (s : State) (i : Nat) (st : SlotSt) (hF : orig.follows s) :
    orig.follows (enterSt s i st) := by
  unfold enterSt
  repeat' (first | with_reducible assumption | with_reducible apply setSt_follows | with_reducible apply logEv_follows | with_reducible apply markMissed_follows | with_reducible apply stick_follows | with_reducible apply unsend_follows | with_reducible apply lltReport_follows | (dsimp only [State.follows_mk]; change State.follows _ _) | with_reducible apply State.follows.forEach | with_reducible apply State.follows.foldlFst | with_reducible apply State.follows.foldl | split | dsimp only | intro _ | decide)

theorem advance_follows {orig : State} (s : State) (i : Nat) (hF : orig.follows s) :
    orig.follows (advance s i) := by
  unfold advance
  repeat' (first | with_reducible assumption | with_reducible apply modSlot_follows | (dsimp only [State.follows_mk]; change State.follows _ _) | with_reducible apply State.follows.forEach | with_reducible apply State.follows.foldlFst | with_reducible apply State.follows.foldl | split | dsimp only | intro _ | decide)

theorem advanceWin_follows {orig : State} (s : State) (i : Nat) (hF : orig.follows s) :
    orig.follows (advanceWin s i) := by
  unfold advanceWin
  repeat' (first | with_reducible assumption | with_reducible apply advance_follows | with_reducible apply modSlot_follows | (dsimp only [State.follows_mk]; change State.follows _ _) | with_reducible apply State.follows.forEach | with_reducible apply State.follows.foldlFst | with_reducible apply State.follows.foldl | split | dsimp only | intro _ | decide)

theorem markConflict_follows {orig : State} (s : State) (i : Nat) (a : ActRec) (hF : orig.follows s) :
    orig.follows (markConflict s i a) := by
  unfold markConflict
  repeat' (first | with_reducible assumption | with_reducible apply t0_follows | with_reducible apply stick_follows | with_reducible apply modSlot_follows | (dsimp only [State.follows_mk]; change State.follows _ _) | with_reducible apply State.follows.forEach | with_reducible apply State.follows.foldlFst | with_reducible apply State.follows.foldl | split | dsimp only | intro _ | decide)

theorem sendTimed_follows {orig : State} (s : State) (i : Nat) (lvl : Bool) (at_ slot : Nat) (hF : orig.follows s) :
    orig.follows (sendTimed s i lvl at_ slot) := by
  unfold sendTimed
  repeat' (first | with_reducible assumption | with_reducible apply setAis_follows | (dsimp only [State.follows_mk]; change State.follows _ _) | with_reducible apply State.follows.forEach | with_reducible apply State.follows.foldlFst | with_reducible apply State.follows.foldl | split | dsimp only | intro _ | decide)

theorem actDo_follows {orig : State} (s : State) (i slot : Nat) (lvl : Bool) (timeKey sent : Bool) (key T : Nat) (hF : orig.follows s) :
    orig.follows (actDo s i slot lvl timeKey sent key T).1 := by
  unfold actDo
  repeat' (first | with_reducible assumption | with_reducible apply sendTimed_follows | (dsimp only [State.follows_mk]; change State.follows _ _) | with_reducible apply State.follows.forEach | with_reducible apply State.follows.foldlFst | with_reducible apply State.follows.foldl | split | dsimp only | intro _ | decide)

theorem markFault_follows {orig : State} (s : State) (i : Nat) (hF : orig.follows s) :
    orig.follows (markFault s i) := by
  unfold markFault
  repeat' (first | with_reducible assumption | with_reducible apply logEv_follows | with_reducible apply stick_follows | with_reducible apply modSlot_follows | (dsimp only [State.follows_mk]; change State.follows _ _) | with_reducible apply State.follows.forEach | with_reducible apply State.follows.foldlFst | with_reducible apply State.follows.foldl | split | dsimp only | intro _ | decide)

/-- The lamplighter's actions, which may jump other slots (R63, R66). -/
theorem execAct_all {orig : State} (fuel : Nat) : (∀ s i T b, orig.follows s → orig.follows (execAct fuel s i T b)) ∧
    (∀ s w v, orig.follows s → orig.follows (presetAct fuel s w v)) ∧
    (∀ s i w p q, orig.follows s → orig.follows (jumpSlot fuel s i w p q)) := by
  induction fuel with
  | zero => exact ⟨fun s i T b h => by unfold execAct; exact h, fun s w v h => by unfold presetAct; exact h, fun s i w p q h => by unfold jumpSlot; exact h⟩
  | succ n ih =>
    obtain ⟨ih1, ih2, ih3⟩ := ih
    refine ⟨fun s i T b hF => ?_, fun s w v hF => ?_, fun s i w p q hF => ?_⟩
    · unfold execAct
      repeat' (first | with_reducible assumption | with_reducible apply ih1 | with_reducible apply ih2 | with_reducible apply ih3 | with_reducible apply modSlot_follows | with_reducible apply markConflict_follows | with_reducible apply markLate_follows | with_reducible apply actDo_follows | with_reducible apply solTakeStart_follows | with_reducible apply solTakeEnd_follows | with_reducible apply setMot_follows | with_reducible apply lltPost_follows | with_reducible apply logRaw_follows | with_reducible apply markFault_follows | with_reducible apply lltReport_follows | (dsimp only [State.follows_mk]; change State.follows _ _) | with_reducible apply State.follows.forEach | with_reducible apply State.follows.foldlFst | with_reducible apply State.follows.foldl | split | dsimp only | intro _ | decide)
    · unfold presetAct
      repeat' (first | with_reducible assumption | with_reducible apply ih1 | with_reducible apply ih2 | with_reducible apply ih3 | with_reducible apply putCount_follows | (dsimp only [State.follows_mk]; change State.follows _ _) | with_reducible apply State.follows.forEach | with_reducible apply State.follows.foldlFst | with_reducible apply State.follows.foldl | split | dsimp only | intro _ | decide)
    · unfold jumpSlot
      repeat' (first | with_reducible assumption | with_reducible apply ih1 | with_reducible apply ih2 | with_reducible apply ih3 | with_reducible apply enterSt_follows | with_reducible apply modSlot_follows | with_reducible apply markMissed_follows | with_reducible apply advance_follows | (dsimp only [State.follows_mk]; change State.follows _ _) | with_reducible apply State.follows.forEach | with_reducible apply State.follows.foldlFst | with_reducible apply State.follows.foldl | split | dsimp only | intro _ | decide)

theorem execAct_follows {orig : State} (fuel : Nat) (s : State) (i T b : Nat) (hF : orig.follows s) : orig.follows (execAct fuel s i T b) :=
  (execAct_all fuel).1 s i T b hF

theorem presetAct_follows {orig : State} (fuel : Nat) (s : State) (w : Nat) (v : Int) (hF : orig.follows s) :
    orig.follows (presetAct fuel s w v) := (execAct_all fuel).2.1 s w v hF

theorem jumpSlot_follows {orig : State} (fuel : Nat) (s : State) (i w : Nat) (p q : Int) (hF : orig.follows s) :
    orig.follows (jumpSlot fuel s i w p q) := (execAct_all fuel).2.2 s i w p q hF

theorem runActAt_follows {orig : State} (s : State) (i T base : Nat) (hF : orig.follows s) :
    orig.follows (runActAt s i T base) := by
  unfold runActAt
  repeat' (first | with_reducible assumption | with_reducible apply execAct_follows | (dsimp only [State.follows_mk]; change State.follows _ _) | with_reducible apply State.follows.forEach | with_reducible apply State.follows.foldlFst | with_reducible apply State.follows.foldl | split | dsimp only | intro _ | decide)

theorem runAct_follows {orig : State} (s : State) (i : Nat) (hF : orig.follows s) :
    orig.follows (runAct s i) := by
  unfold runAct
  repeat' (first | with_reducible assumption | with_reducible apply runActAt_follows | (dsimp only [State.follows_mk]; change State.follows _ _) | with_reducible apply State.follows.forEach | with_reducible apply State.follows.foldlFst | with_reducible apply State.follows.foldl | split | dsimp only | intro _ | decide)

theorem applyPreset_follows {orig : State} (s : State) (w : Nat) (v : Int) (hF : orig.follows s) :
    orig.follows (applyPreset s w v) := by
  unfold applyPreset
  repeat' (first | with_reducible assumption | with_reducible apply presetAct_follows | (dsimp only [State.follows_mk]; change State.follows _ _) | with_reducible apply State.follows.forEach | with_reducible apply State.follows.foldlFst | with_reducible apply State.follows.foldl | split | dsimp only | intro _ | decide)

theorem endWindow_follows {orig : State} (s : State) (i : Nat) (st : SlotSt) (T : Nat) (hF : orig.follows s) :
    orig.follows (endWindow s i st T) := by
  unfold endWindow
  repeat' (first | with_reducible assumption | with_reducible apply enterSt_follows | with_reducible apply setSt_follows | with_reducible apply runActAt_follows | with_reducible apply advanceWin_follows | (dsimp only [State.follows_mk]; change State.follows _ _) | with_reducible apply State.follows.forEach | with_reducible apply State.follows.foldlFst | with_reducible apply State.follows.foldl | split | dsimp only | intro _ | decide)

theorem tickSlot_follows {orig : State} (s : State) (i w : Nat) (rev : Bool) (T : Nat) (hF : orig.follows s) :
    orig.follows (tickSlot s i w rev T) := by
  unfold tickSlot
  repeat' (first | with_reducible assumption | with_reducible apply modSlot_follows | with_reducible apply setSt_follows | with_reducible apply runActAt_follows | with_reducible apply advance_follows | with_reducible apply endWindow_follows | (dsimp only [State.follows_mk]; change State.follows _ _) | with_reducible apply State.follows.forEach | with_reducible apply State.follows.foldlFst | with_reducible apply State.follows.foldl | split | dsimp only | intro _ | decide)

theorem lltTick_follows {orig : State} (s : State) (w : Nat) (rev : Bool) (T : Nat) (hF : orig.follows s) :
    orig.follows (lltTick s w rev T) := by
  unfold lltTick
  repeat' (first | with_reducible assumption | with_reducible apply tickSlot_follows | (dsimp only [State.follows_mk]; change State.follows _ _) | with_reducible apply State.follows.forEach | with_reducible apply State.follows.foldlFst | with_reducible apply State.follows.foldl | split | dsimp only | intro _ | decide)

theorem lltLost_follows {orig : State} (s : State) (w : Nat) (hF : orig.follows s) :
    orig.follows (lltLost s w) := by
  unfold lltLost
  repeat' (first | with_reducible assumption | with_reducible apply enterSt_follows | (dsimp only [State.follows_mk]; change State.follows _ _) | with_reducible apply State.follows.forEach | with_reducible apply State.follows.foldlFst | with_reducible apply State.follows.foldl | split | dsimp only | intro _ | decide)

theorem lltRecover_follows {orig : State} (s : State) (w : Nat) (hF : orig.follows s) :
    orig.follows (lltRecover s w) := by
  unfold lltRecover
  repeat' (first | with_reducible assumption | with_reducible apply markMissed_follows | with_reducible apply setSt_follows | with_reducible apply enterSt_follows | with_reducible apply endWindow_follows | (dsimp only [State.follows_mk]; change State.follows _ _) | with_reducible apply State.follows.forEach | with_reducible apply State.follows.foldlFst | with_reducible apply State.follows.foldl | split | dsimp only | intro _ | decide)

theorem dueSlot_follows {orig : State} (s : State) (i : Nat) (forced : Bool) (hF : orig.follows s) :
    orig.follows (dueSlot s i forced) := by
  unfold dueSlot
  repeat' (first | with_reducible assumption | with_reducible apply enterSt_follows | with_reducible apply markLate_follows | with_reducible apply advance_follows | with_reducible apply runActAt_follows | with_reducible apply setSt_follows | (dsimp only [State.follows_mk]; change State.follows _ _) | with_reducible apply State.follows.forEach | with_reducible apply State.follows.foldlFst | with_reducible apply State.follows.foldl | split | dsimp only | intro _ | decide)

theorem execTimeActionDue_follows {orig : State} (slot : Fin 16384) (t : Ns) (s : State) (hF : orig.follows s) : Out.follows orig (execTimeActionDue slot t s) := by
  unfold execTimeActionDue
  repeat' (first | with_reducible assumption | with_reducible apply Out.follows.next | with_reducible apply setNow_follows | with_reducible apply dueSlot_follows | (dsimp only [State.follows_mk]; change State.follows _ _) | with_reducible apply State.follows.forEach | with_reducible apply State.follows.foldlFst | with_reducible apply State.follows.foldl | split | dsimp only | intro _ | decide)

theorem execWindowCapExpiry_follows {orig : State} (slot : Fin 16384) (t : Ns) (s : State) (hF : orig.follows s) : Out.follows orig (execWindowCapExpiry slot t s) := by
  unfold execWindowCapExpiry
  repeat' (first | with_reducible assumption | with_reducible apply Out.follows.next | with_reducible apply setNow_follows | with_reducible apply endWindow_follows | (dsimp only [State.follows_mk]; change State.follows _ _) | with_reducible apply State.follows.forEach | with_reducible apply State.follows.foldlFst | with_reducible apply State.follows.foldl | split | dsimp only | intro _ | decide)

theorem lltStep_follows {orig : State} (s : State) (hF : orig.follows s) :
    orig.follows (lltStep s) := by
  unfold lltStep
  repeat' (first | with_reducible assumption | with_reducible apply dueSlot_follows | (dsimp only [State.follows_mk]; change State.follows _ _) | with_reducible apply State.follows.forEach | with_reducible apply State.follows.foldlFst | with_reducible apply State.follows.foldl | split | dsimp only | intro _ | decide)

theorem armInto_follows {orig : State} (s : State) (r : ArmReq) (i : Nat) (hF : orig.follows s) :
    orig.follows (armInto s r i) := by
  unfold armInto
  repeat' (first | with_reducible assumption | with_reducible apply setSlot_follows | with_reducible apply dueSlot_follows | with_reducible apply enterSt_follows | (dsimp only [State.follows_mk]; change State.follows _ _) | with_reducible apply State.follows.forEach | with_reducible apply State.follows.foldlFst | with_reducible apply State.follows.foldl | split | dsimp only | intro _ | decide)

theorem applyReq_follows {orig : State} (s : State) (r : ArmReq) (hF : orig.follows s) :
    orig.follows (applyReq s r).1 := by
  unfold applyReq
  repeat' (first | with_reducible assumption | with_reducible apply armInto_follows | with_reducible apply setSt_follows | with_reducible apply unsend_follows | with_reducible apply endWindow_follows | with_reducible apply setSlot_follows | (dsimp only [State.follows_mk]; change State.follows _ _) | with_reducible apply State.follows.forEach | with_reducible apply State.follows.foldlFst | with_reducible apply State.follows.foldl | split | dsimp only | intro _ | decide)

theorem lltResult_follows {orig : State} (s : State) (o : LampOwner) (code slot : Nat) (hF : orig.follows s) :
    orig.follows (lltResult s o code slot) := by
  unfold lltResult
  repeat' (first | with_reducible assumption | with_reducible apply stick_follows | with_reducible apply lltPost_follows | (dsimp only [State.follows_mk]; change State.follows _ _) | with_reducible apply State.follows.forEach | with_reducible apply State.follows.foldlFst | with_reducible apply State.follows.foldl | split | dsimp only | intro _ | decide)

theorem takeReq_follows {orig : State} (s : State) (r : ArmReq) (hF : orig.follows s) :
    orig.follows (takeReq s r) := by
  unfold takeReq
  repeat' (first | with_reducible assumption | with_reducible apply applyReq_follows | with_reducible apply lltResult_follows | (dsimp only [State.follows_mk]; change State.follows _ _) | with_reducible apply State.follows.forEach | with_reducible apply State.follows.foldlFst | with_reducible apply State.follows.foldl | split | dsimp only | intro _ | decide)

theorem applyReqs_follows {orig : State} (s : State) (hF : orig.follows s) :
    orig.follows (applyReqs s) := by
  unfold applyReqs
  repeat' (first | with_reducible assumption | with_reducible apply takeReq_follows | with_reducible apply lltResult_follows | (dsimp only [State.follows_mk]; change State.follows _ _) | with_reducible apply State.follows.forEach | with_reducible apply State.follows.foldlFst | with_reducible apply State.follows.foldl | split | dsimp only | intro _ | decide)

theorem execArmRequestsApply_follows {orig : State} (t : Ns) (s : State) (hF : orig.follows s) : Out.follows orig (execArmRequestsApply t s) := by
  unfold execArmRequestsApply
  repeat' (first | with_reducible assumption | with_reducible apply Out.follows.next | with_reducible apply applyReqs_follows | with_reducible apply setNow_follows | (dsimp only [State.follows_mk]; change State.follows _ _) | with_reducible apply State.follows.forEach | with_reducible apply State.follows.foldlFst | with_reducible apply State.follows.foldl | split | dsimp only | intro _ | decide)

theorem lltHost_follows {orig : State} (s : State) (op : ArmOp) (slot : Nat) (alloc window : Bool) (hF : orig.follows s) :
    orig.follows (lltHost s op slot alloc window).1 := by
  unfold lltHost
  repeat' (first | with_reducible assumption | (dsimp only [State.follows_mk]; change State.follows _ _) | with_reducible apply State.follows.forEach | with_reducible apply State.follows.foldlFst | with_reducible apply State.follows.foldl | split | dsimp only | intro _ | decide)

theorem execLltArm_follows {orig : State} (slot : Fin 16384) (alloc window : Bool) (s : State) (hF : orig.follows s) : Out.follows orig (execLltArm slot alloc window s) := by
  unfold execLltArm
  repeat' (first | with_reducible assumption | with_reducible apply Out.follows.next | with_reducible apply lltHost_follows | with_reducible apply report_follows | (dsimp only [State.follows_mk]; change State.follows _ _) | with_reducible apply State.follows.forEach | with_reducible apply State.follows.foldlFst | with_reducible apply State.follows.foldl | split | dsimp only | intro _ | decide)

theorem execLltDisarm_follows {orig : State} (slot : Fin 16384) (alloc window : Bool) (s : State) (hF : orig.follows s) : Out.follows orig (execLltDisarm slot alloc window s) := by
  unfold execLltDisarm
  repeat' (first | with_reducible assumption | with_reducible apply Out.follows.next | with_reducible apply lltHost_follows | with_reducible apply report_follows | (dsimp only [State.follows_mk]; change State.follows _ _) | with_reducible apply State.follows.forEach | with_reducible apply State.follows.foldlFst | with_reducible apply State.follows.foldl | split | dsimp only | intro _ | decide)

theorem execLltFree_follows {orig : State} (slot : Fin 16384) (alloc window : Bool) (s : State) (hF : orig.follows s) : Out.follows orig (execLltFree slot alloc window s) := by
  unfold execLltFree
  repeat' (first | with_reducible assumption | with_reducible apply Out.follows.next | with_reducible apply lltHost_follows | with_reducible apply report_follows | (dsimp only [State.follows_mk]; change State.follows _ _) | with_reducible apply State.follows.forEach | with_reducible apply State.follows.foldlFst | with_reducible apply State.follows.foldl | split | dsimp only | intro _ | decide)

theorem lltSendAhead_follows {orig : State} (s : State) (n t : Nat) (hF : orig.follows s) :
    orig.follows (lltSendAhead s n t) := by
  unfold lltSendAhead
  repeat' (first | with_reducible assumption | with_reducible apply modSlot_follows | with_reducible apply setAis_follows | (dsimp only [State.follows_mk]; change State.follows _ _) | with_reducible apply State.follows.forEach | with_reducible apply State.follows.foldlFst | with_reducible apply State.follows.foldl | split | dsimp only | intro _ | decide)

end Sys2Proof.Machine
end

