-- ==== Sys2Proof/Laws/FollowsMotor.lean ====
section
/-!
SUPPORT. Every operation of Machine/Motor.lean keeps `State.follows`: it leaves the queue alone, the recorder follows, no floor and
no epoch falls, and SAFE_OUT_N stays as R403 has it.
-/
namespace Sys2Proof.Machine

open Sys2Proof

theorem modMot_follows {orig : State} (s : State) (m : Nat) (f : Motor → Motor) (hF : orig.follows s) :
    orig.follows (modMot s m f) := by
  unfold modMot
  repeat' (first | with_reducible assumption | with_reducible apply setMot_follows | (dsimp only [State.follows_mk]; change State.follows _ _) | with_reducible apply State.follows.forEach | with_reducible apply State.follows.foldlFst | with_reducible apply State.follows.foldl | split | dsimp only | intro _ | decide)

theorem motRefuse_follows {orig : State} (s : State) (m : Nat) (hF : orig.follows s) :
    orig.follows (motRefuse s m) := by
  unfold motRefuse
  repeat' (first | with_reducible assumption | with_reducible apply stick_follows | (dsimp only [State.follows_mk]; change State.follows _ _) | with_reducible apply State.follows.forEach | with_reducible apply State.follows.foldlFst | with_reducible apply State.follows.foldl | split | dsimp only | intro _ | decide)

theorem freeCond_follows {orig : State} (s : State) (hF : orig.follows s) :
    orig.follows (freeCond s).1 := by
  unfold freeCond
  repeat' (first | with_reducible assumption | with_reducible apply useFree_follows | (dsimp only [State.follows_mk]; change State.follows _ _) | with_reducible apply State.follows.forEach | with_reducible apply State.follows.foldlFst | with_reducible apply State.follows.foldl | split | dsimp only | intro _ | decide)

theorem toSearch_follows {orig : State} (s : State) (m t : Nat) (hF : orig.follows s) :
    orig.follows (toSearch s m t) := by
  unfold toSearch
  repeat' (first | with_reducible assumption | with_reducible apply modMot_follows | (dsimp only [State.follows_mk]; change State.follows _ _) | with_reducible apply State.follows.forEach | with_reducible apply State.follows.foldlFst | with_reducible apply State.follows.foldl | split | dsimp only | intro _ | decide)

theorem motStart_follows {orig : State} (s : State) (m t : Nat) (hF : orig.follows s) :
    orig.follows (motStart s m t) := by
  unfold motStart
  repeat' (first | with_reducible assumption | with_reducible apply toSearch_follows | with_reducible apply modMot_follows | with_reducible apply motRefuse_follows | (dsimp only [State.follows_mk]; change State.follows _ _) | with_reducible apply State.follows.forEach | with_reducible apply State.follows.foldlFst | with_reducible apply State.follows.foldl | split | dsimp only | intro _ | decide)

theorem forceTaper_follows {orig : State} (s : State) (m : Nat) (v : Option F32) (hF : orig.follows s) :
    orig.follows (forceTaper s m v) := by
  unfold forceTaper
  repeat' (first | with_reducible assumption | with_reducible apply setTaper_follows | (dsimp only [State.follows_mk]; change State.follows _ _) | with_reducible apply State.follows.forEach | with_reducible apply State.follows.foldlFst | with_reducible apply State.follows.foldl | split | dsimp only | intro _ | decide)

theorem toOff_follows {orig : State} (s : State) (m : Nat) (clearStalls : Bool) (hF : orig.follows s) :
    orig.follows (toOff s m clearStalls) := by
  unfold toOff
  repeat' (first | with_reducible assumption | with_reducible apply forceTaper_follows | with_reducible apply modMot_follows | (dsimp only [State.follows_mk]; change State.follows _ _) | with_reducible apply State.follows.forEach | with_reducible apply State.follows.foldlFst | with_reducible apply State.follows.foldl | split | dsimp only | intro _ | decide)

theorem motStop_follows {orig : State} (s : State) (m t : Nat) (hF : orig.follows s) :
    orig.follows (motStop s m t) := by
  unfold motStop
  repeat' (first | with_reducible assumption | with_reducible apply forceTaper_follows | with_reducible apply modMot_follows | with_reducible apply toOff_follows | with_reducible apply motRefuse_follows | (dsimp only [State.follows_mk]; change State.follows _ _) | with_reducible apply State.follows.forEach | with_reducible apply State.follows.foldlFst | with_reducible apply State.follows.foldl | split | dsimp only | intro _ | decide)

theorem motCoast_follows {orig : State} (s : State) (m : Nat) (hF : orig.follows s) :
    orig.follows (motCoast s m) := by
  unfold motCoast
  repeat' (first | with_reducible assumption | with_reducible apply motRefuse_follows | with_reducible apply toOff_follows | (dsimp only [State.follows_mk]; change State.follows _ _) | with_reducible apply State.follows.forEach | with_reducible apply State.follows.foldlFst | with_reducible apply State.follows.foldl | split | dsimp only | intro _ | decide)

theorem faultGone_follows {orig : State} (s : State) (m : Nat) (hF : orig.follows s) :
    orig.follows (faultGone s m).1 := by
  unfold faultGone
  repeat' (first | with_reducible assumption | with_reducible apply freeCond_follows | (dsimp only [State.follows_mk]; change State.follows _ _) | with_reducible apply State.follows.forEach | with_reducible apply State.follows.foldlFst | with_reducible apply State.follows.foldl | split | dsimp only | intro _ | decide)

theorem motReset_follows {orig : State} (s : State) (m : Nat) (hF : orig.follows s) :
    orig.follows (motReset s m) := by
  unfold motReset
  repeat' (first | with_reducible assumption | with_reducible apply faultGone_follows | with_reducible apply modMot_follows | with_reducible apply toOff_follows | with_reducible apply motRefuse_follows | (dsimp only [State.follows_mk]; change State.follows _ _) | with_reducible apply State.follows.forEach | with_reducible apply State.follows.foldlFst | with_reducible apply State.follows.foldl | split | dsimp only | intro _ | decide)

theorem motIdent_follows {orig : State} (s : State) (m t : Nat) (hF : orig.follows s) :
    orig.follows (motIdent s m t) := by
  unfold motIdent
  repeat' (first | with_reducible assumption | with_reducible apply modMot_follows | with_reducible apply motRefuse_follows | (dsimp only [State.follows_mk]; change State.follows _ _) | with_reducible apply State.follows.forEach | with_reducible apply State.follows.foldlFst | with_reducible apply State.follows.foldl | split | dsimp only | intro _ | decide)

theorem motResumeCmd_follows {orig : State} (s : State) (m : Nat) (hF : orig.follows s) :
    orig.follows (motResumeCmd s m) := by
  unfold motResumeCmd
  repeat' (first | with_reducible assumption | with_reducible apply forceTaper_follows | with_reducible apply modMot_follows | (dsimp only [State.follows_mk]; change State.follows _ _) | with_reducible apply State.follows.forEach | with_reducible apply State.follows.foldlFst | with_reducible apply State.follows.foldl | split | dsimp only | intro _ | decide)

theorem motCommand_follows {orig : State} (s : State) (m t : Nat) (c : MotCmd) (hF : orig.follows s) :
    orig.follows (motCommand s m t c) := by
  unfold motCommand
  repeat' (first | with_reducible assumption | with_reducible apply motStart_follows | with_reducible apply motStop_follows | with_reducible apply motCoast_follows | with_reducible apply motReset_follows | with_reducible apply motIdent_follows | with_reducible apply motResumeCmd_follows | (dsimp only [State.follows_mk]; change State.follows _ _) | with_reducible apply State.follows.forEach | with_reducible apply State.follows.foldlFst | with_reducible apply State.follows.foldl | split | dsimp only | intro _ | decide)

theorem motDrive_follows {orig : State} (s : State) (m : Nat) (f : State → State)
    (hf : ∀ x, orig.follows x → orig.follows (f x))
    (hF : orig.follows s) : orig.follows (motDrive s m f) := by
  unfold motDrive
  split
  · exact hf _ hF
  · exact toOff_follows _ _ _ hF

theorem toCatch_follows {orig : State} (s : State) (m t : Nat) (still : Bool) (angle : Option Nat) (hF : orig.follows s) :
    orig.follows (toCatch s m t still angle) := by
  unfold toCatch
  repeat' (first | with_reducible assumption | with_reducible apply motDrive_follows | with_reducible apply setMot_follows | with_reducible apply useFree_follows | with_reducible apply modMot_follows | with_reducible apply setOffset_follows | (dsimp only [State.follows_mk]; change State.follows _ _) | with_reducible apply State.follows.forEach | with_reducible apply State.follows.foldlFst | with_reducible apply State.follows.foldl | split | dsimp only | intro _ | decide)

theorem toBrake_follows {orig : State} (s : State) (m t : Nat) (st : MotSt) (hF : orig.follows s) :
    orig.follows (toBrake s m t st) := by
  unfold toBrake
  repeat' (first | with_reducible assumption | with_reducible apply motDrive_follows | with_reducible apply modMot_follows | with_reducible apply useFree_follows | (dsimp only [State.follows_mk]; change State.follows _ _) | with_reducible apply State.follows.forEach | with_reducible apply State.follows.foldlFst | with_reducible apply State.follows.foldl | split | dsimp only | intro _ | decide)

theorem startDecide_follows {orig : State} (s : State) (m t : Nat) (n : F32) (angle : Option Nat) (hF : orig.follows s) :
    orig.follows (startDecide s m t n angle) := by
  unfold startDecide
  repeat' (first | with_reducible assumption | with_reducible apply toCatch_follows | with_reducible apply toBrake_follows | (dsimp only [State.follows_mk]; change State.follows _ _) | with_reducible apply State.follows.forEach | with_reducible apply State.follows.foldlFst | with_reducible apply State.follows.foldl | split | dsimp only | intro _ | decide)

theorem toProbe_follows {orig : State} (s : State) (m t : Nat) (hF : orig.follows s) :
    orig.follows (toProbe s m t) := by
  unfold toProbe
  repeat' (first | with_reducible assumption | with_reducible apply motDrive_follows | with_reducible apply modMot_follows | (dsimp only [State.follows_mk]; change State.follows _ _) | with_reducible apply State.follows.forEach | with_reducible apply State.follows.foldlFst | with_reducible apply State.follows.foldl | split | dsimp only | intro _ | decide)

theorem toMeasure_follows {orig : State} (s : State) (m t : Nat) (hF : orig.follows s) :
    orig.follows (toMeasure s m t) := by
  unfold toMeasure
  repeat' (first | with_reducible assumption | with_reducible apply motDrive_follows | with_reducible apply modMot_follows | (dsimp only [State.follows_mk]; change State.follows _ _) | with_reducible apply State.follows.forEach | with_reducible apply State.follows.foldlFst | with_reducible apply State.follows.foldl | split | dsimp only | intro _ | decide)

theorem searchDone_follows {orig : State} (s : State) (m t : Nat) (r : SearchReading) (hF : orig.follows s) :
    orig.follows (searchDone s m t r) := by
  unfold searchDone
  repeat' (first | with_reducible assumption | with_reducible apply modMot_follows | with_reducible apply motFault_follows | with_reducible apply setMot_follows | with_reducible apply toOff_follows | with_reducible apply toCatch_follows | with_reducible apply toMeasure_follows | with_reducible apply toProbe_follows | with_reducible apply startDecide_follows | (dsimp only [State.follows_mk]; change State.follows _ _) | with_reducible apply State.follows.forEach | with_reducible apply State.follows.foldlFst | with_reducible apply State.follows.foldl | split | dsimp only | intro _ | decide)

theorem endStopping_follows {orig : State} (s : State) (m t : Nat) (hF : orig.follows s) :
    orig.follows (endStopping s m t) := by
  unfold endStopping
  repeat' (first | with_reducible assumption | with_reducible apply t0_follows | with_reducible apply toOff_follows | with_reducible apply logEv_follows | (dsimp only [State.follows_mk]; change State.follows _ _) | with_reducible apply State.follows.forEach | with_reducible apply State.follows.foldlFst | with_reducible apply State.follows.foldl | split | dsimp only | intro _ | decide)

theorem motStall_follows {orig : State} (s : State) (m t : Nat) (hF : orig.follows s) :
    orig.follows (motStall s m t) := by
  unfold motStall
  repeat' (first | with_reducible assumption | with_reducible apply logEv_follows | with_reducible apply setMot_follows | with_reducible apply modMot_follows | with_reducible apply motFault_follows | (dsimp only [State.follows_mk]; change State.follows _ _) | with_reducible apply State.follows.forEach | with_reducible apply State.follows.foldlFst | with_reducible apply State.follows.foldl | split | dsimp only | intro _ | decide)

theorem motRetry_follows {orig : State} (s : State) (m t : Nat) (hF : orig.follows s) :
    orig.follows (motRetry s m t) := by
  unfold motRetry
  repeat' (first | with_reducible assumption | with_reducible apply toSearch_follows | (dsimp only [State.follows_mk]; change State.follows _ _) | with_reducible apply State.follows.forEach | with_reducible apply State.follows.foldlFst | with_reducible apply State.follows.foldl | split | dsimp only | intro _ | decide)

theorem brakeEnd_follows {orig : State} (s : State) (m t : Nat) (hF : orig.follows s) :
    orig.follows (brakeEnd s m t) := by
  unfold brakeEnd
  repeat' (first | with_reducible assumption | with_reducible apply toCatch_follows | (dsimp only [State.follows_mk]; change State.follows _ _) | with_reducible apply State.follows.forEach | with_reducible apply State.follows.foldlFst | with_reducible apply State.follows.foldl | split | dsimp only | intro _ | decide)

theorem motAct_follows {orig : State} (s : State) (m t : Nat) (a : MotAct) (hF : orig.follows s) :
    orig.follows (motAct s m t a) := by
  unfold motAct
  repeat' (first | with_reducible assumption | with_reducible apply motCommand_follows | with_reducible apply motFault_follows | with_reducible apply motStall_follows | with_reducible apply motRetry_follows | with_reducible apply endStopping_follows | with_reducible apply brakeEnd_follows | (dsimp only [State.follows_mk]; change State.follows _ _) | with_reducible apply State.follows.forEach | with_reducible apply State.follows.foldlFst | with_reducible apply State.follows.foldl | split | dsimp only | intro _ | decide)

theorem motTake_follows {orig : State} (s : State) (m : Nat) (c : MotCmd) (hF : orig.follows s) :
    orig.follows (motTake s m c) := by
  unfold motTake
  repeat' (first | with_reducible assumption | with_reducible apply motRefuse_follows | with_reducible apply modMot_follows | (dsimp only [State.follows_mk]; change State.follows _ _) | with_reducible apply State.follows.forEach | with_reducible apply State.follows.foldlFst | with_reducible apply State.follows.foldl | split | dsimp only | intro _ | decide)

theorem execMotorStart_follows {orig : State} (m : Fin 16) (s : State) (hF : orig.follows s) : Out.follows orig (execMotorStart m s) := by
  unfold execMotorStart
  repeat' (first | with_reducible assumption | with_reducible apply Out.follows.next | with_reducible apply rowCmd_follows | with_reducible apply motTake_follows | (dsimp only [State.follows_mk]; change State.follows _ _) | with_reducible apply State.follows.forEach | with_reducible apply State.follows.foldlFst | with_reducible apply State.follows.foldl | split | dsimp only | intro _ | decide)

theorem execMotorStop_follows {orig : State} (m : Fin 16) (s : State) (hF : orig.follows s) : Out.follows orig (execMotorStop m s) := by
  unfold execMotorStop
  repeat' (first | with_reducible assumption | with_reducible apply Out.follows.next | with_reducible apply rowCmd_follows | with_reducible apply motTake_follows | (dsimp only [State.follows_mk]; change State.follows _ _) | with_reducible apply State.follows.forEach | with_reducible apply State.follows.foldlFst | with_reducible apply State.follows.foldl | split | dsimp only | intro _ | decide)

theorem execMotorCoast_follows {orig : State} (m : Fin 16) (s : State) (hF : orig.follows s) : Out.follows orig (execMotorCoast m s) := by
  unfold execMotorCoast
  repeat' (first | with_reducible assumption | with_reducible apply Out.follows.next | with_reducible apply rowCmd_follows | with_reducible apply motTake_follows | (dsimp only [State.follows_mk]; change State.follows _ _) | with_reducible apply State.follows.forEach | with_reducible apply State.follows.foldlFst | with_reducible apply State.follows.foldl | split | dsimp only | intro _ | decide)

theorem execMotorReset_follows {orig : State} (m : Fin 16) (s : State) (hF : orig.follows s) : Out.follows orig (execMotorReset m s) := by
  unfold execMotorReset
  repeat' (first | with_reducible assumption | with_reducible apply Out.follows.next | with_reducible apply rowCmd_follows | with_reducible apply motTake_follows | (dsimp only [State.follows_mk]; change State.follows _ _) | with_reducible apply State.follows.forEach | with_reducible apply State.follows.foldlFst | with_reducible apply State.follows.foldl | split | dsimp only | intro _ | decide)

theorem execMotorIdent_follows {orig : State} (m : Fin 16) (s : State) (hF : orig.follows s) : Out.follows orig (execMotorIdent m s) := by
  unfold execMotorIdent
  repeat' (first | with_reducible assumption | with_reducible apply Out.follows.next | with_reducible apply rowCmd_follows | with_reducible apply motTake_follows | (dsimp only [State.follows_mk]; change State.follows _ _) | with_reducible apply State.follows.forEach | with_reducible apply State.follows.foldlFst | with_reducible apply State.follows.foldl | split | dsimp only | intro _ | decide)

theorem execMotorResume_follows {orig : State} (m : Fin 16) (s : State) (hF : orig.follows s) : Out.follows orig (execMotorResume m s) := by
  unfold execMotorResume
  repeat' (first | with_reducible assumption | with_reducible apply Out.follows.next | with_reducible apply rowCmd_follows | with_reducible apply motTake_follows | (dsimp only [State.follows_mk]; change State.follows _ _) | with_reducible apply State.follows.forEach | with_reducible apply State.follows.foldlFst | with_reducible apply State.follows.foldl | split | dsimp only | intro _ | decide)

theorem motClearCounts_follows {orig : State} (s : State) (m : Nat) (hF : orig.follows s) :
    orig.follows (motClearCounts s m) := by
  unfold motClearCounts
  repeat' (first | with_reducible assumption | with_reducible apply modMot_follows | (dsimp only [State.follows_mk]; change State.follows _ _) | with_reducible apply State.follows.forEach | with_reducible apply State.follows.foldlFst | with_reducible apply State.follows.foldl | split | dsimp only | intro _ | decide)

theorem execMotorClearCounts_follows {orig : State} (m : Fin 16) (s : State) (hF : orig.follows s) : Out.follows orig (execMotorClearCounts m s) := by
  unfold execMotorClearCounts
  repeat' (first | with_reducible assumption | with_reducible apply Out.follows.next | with_reducible apply rowCmd_follows | with_reducible apply motClearCounts_follows | (dsimp only [State.follows_mk]; change State.follows _ _) | with_reducible apply State.follows.forEach | with_reducible apply State.follows.foldlFst | with_reducible apply State.follows.foldl | split | dsimp only | intro _ | decide)

theorem motOp_follows {orig : State} (s : State) (m op : Nat) (hF : orig.follows s) :
    orig.follows (motOp s m op) := by
  unfold motOp
  repeat' (first | with_reducible assumption | with_reducible apply motTake_follows | with_reducible apply motClearCounts_follows | (dsimp only [State.follows_mk]; change State.follows _ _) | with_reducible apply State.follows.forEach | with_reducible apply State.follows.foldlFst | with_reducible apply State.follows.foldl | split | dsimp only | intro _ | decide)

theorem execHwTrip_follows {orig : State} (m : Fin 16) (t : Ns) (s : State) (hF : orig.follows s) : Out.follows orig (execHwTrip m t s) := by
  unfold execHwTrip
  repeat' (first | with_reducible assumption | with_reducible apply Out.follows.next | with_reducible apply motFault_follows | with_reducible apply setNow_follows | (dsimp only [State.follows_mk]; change State.follows _ _) | with_reducible apply State.follows.forEach | with_reducible apply State.follows.foldlFst | with_reducible apply State.follows.foldl | split | dsimp only | intro _ | decide)

theorem execMotorOvercurrent_follows {orig : State} (m : Fin 16) (t : Ns) (s : State) (hF : orig.follows s) : Out.follows orig (execMotorOvercurrent m t s) := by
  unfold execMotorOvercurrent
  repeat' (first | with_reducible assumption | with_reducible apply Out.follows.next | with_reducible apply motFault_follows | with_reducible apply setNow_follows | (dsimp only [State.follows_mk]; change State.follows _ _) | with_reducible apply State.follows.forEach | with_reducible apply State.follows.foldlFst | with_reducible apply State.follows.foldl | split | dsimp only | intro _ | decide)

theorem execDcOvervolt_follows {orig : State} (m : Fin 16) (t : Ns) (s : State) (hF : orig.follows s) : Out.follows orig (execDcOvervolt m t s) := by
  unfold execDcOvervolt
  repeat' (first | with_reducible assumption | with_reducible apply Out.follows.next | with_reducible apply setNow_follows | with_reducible apply motFault_follows | (dsimp only [State.follows_mk]; change State.follows _ _) | with_reducible apply State.follows.forEach | with_reducible apply State.follows.foldlFst | with_reducible apply State.follows.foldl | split | dsimp only | intro _ | decide)

theorem execDcUndervolt_follows {orig : State} (m : Fin 16) (t : Ns) (s : State) (hF : orig.follows s) : Out.follows orig (execDcUndervolt m t s) := by
  unfold execDcUndervolt
  repeat' (first | with_reducible assumption | with_reducible apply Out.follows.next | with_reducible apply setNow_follows | with_reducible apply t0_follows | with_reducible apply motFault_follows | (dsimp only [State.follows_mk]; change State.follows _ _) | with_reducible apply State.follows.forEach | with_reducible apply State.follows.foldlFst | with_reducible apply State.follows.foldl | split | dsimp only | intro _ | decide)

theorem execSdLoss_follows {orig : State} (m : Fin 16) (t : Ns) (s : State) (hF : orig.follows s) : Out.follows orig (execSdLoss m t s) := by
  unfold execSdLoss
  repeat' (first | with_reducible assumption | with_reducible apply Out.follows.next | with_reducible apply setNow_follows | with_reducible apply motFault_follows | (dsimp only [State.follows_mk]; change State.follows _ _) | with_reducible apply State.follows.forEach | with_reducible apply State.follows.foldlFst | with_reducible apply State.follows.foldl | split | dsimp only | intro _ | decide)

theorem execObserverInvalidTimeout_follows {orig : State} (m : Fin 16) (t : Ns) (s : State) (hF : orig.follows s) : Out.follows orig (execObserverInvalidTimeout m t s) := by
  unfold execObserverInvalidTimeout
  repeat' (first | with_reducible assumption | with_reducible apply Out.follows.next | with_reducible apply setNow_follows | with_reducible apply t0_follows | with_reducible apply motFault_follows | (dsimp only [State.follows_mk]; change State.follows _ _) | with_reducible apply State.follows.forEach | with_reducible apply State.follows.foldlFst | with_reducible apply State.follows.foldl | split | dsimp only | intro _ | decide)

theorem execPhaseLoss_follows {orig : State} (m : Fin 16) (t : Ns) (s : State) (hF : orig.follows s) : Out.follows orig (execPhaseLoss m t s) := by
  unfold execPhaseLoss
  repeat' (first | with_reducible assumption | with_reducible apply Out.follows.next | with_reducible apply setNow_follows | with_reducible apply motFault_follows | (dsimp only [State.follows_mk]; change State.follows _ _) | with_reducible apply State.follows.forEach | with_reducible apply State.follows.foldlFst | with_reducible apply State.follows.foldl | split | dsimp only | intro _ | decide)

theorem execSearchComplete_follows {orig : State} (m : Fin 16) (t : Ns) (r : SearchReading) (s : State) (hF : orig.follows s) : Out.follows orig (execSearchComplete m t r s) := by
  unfold execSearchComplete
  repeat' (first | with_reducible assumption | with_reducible apply Out.follows.next | with_reducible apply searchDone_follows | with_reducible apply setNow_follows | (dsimp only [State.follows_mk]; change State.follows _ _) | with_reducible apply State.follows.forEach | with_reducible apply State.follows.foldlFst | with_reducible apply State.follows.foldl | split | dsimp only | intro _ | decide)

theorem execSearchRetry_follows {orig : State} (m : Fin 16) (t : Ns) (s : State) (hF : orig.follows s) : Out.follows orig (execSearchRetry m t s) := by
  unfold execSearchRetry
  repeat' (first | with_reducible assumption | with_reducible apply Out.follows.next | with_reducible apply setNow_follows | with_reducible apply t0_follows | with_reducible apply setMot_follows | (dsimp only [State.follows_mk]; change State.follows _ _) | with_reducible apply State.follows.forEach | with_reducible apply State.follows.foldlFst | with_reducible apply State.follows.foldl | split | dsimp only | intro _ | decide)

theorem execProbeComplete_follows {orig : State} (m : Fin 16) (t : Ns) (s : State) (hF : orig.follows s) : Out.follows orig (execProbeComplete m t s) := by
  unfold execProbeComplete
  repeat' (first | with_reducible assumption | with_reducible apply Out.follows.next | with_reducible apply setNow_follows | with_reducible apply setMot_follows | (dsimp only [State.follows_mk]; change State.follows _ _) | with_reducible apply State.follows.forEach | with_reducible apply State.follows.foldlFst | with_reducible apply State.follows.foldl | split | dsimp only | intro _ | decide)

theorem execAngleAlignComplete_follows {orig : State} (m : Fin 16) (t : Ns) (s : State) (hF : orig.follows s) : Out.follows orig (execAngleAlignComplete m t s) := by
  unfold execAngleAlignComplete
  repeat' (first | with_reducible assumption | with_reducible apply Out.follows.next | with_reducible apply setNow_follows | with_reducible apply setOffset_follows | with_reducible apply setMot_follows | (dsimp only [State.follows_mk]; change State.follows _ _) | with_reducible apply State.follows.forEach | with_reducible apply State.follows.foldlFst | with_reducible apply State.follows.foldl | split | dsimp only | intro _ | decide)

theorem execCatchComplete_follows {orig : State} (m : Fin 16) (t : Ns) (s : State) (hF : orig.follows s) : Out.follows orig (execCatchComplete m t s) := by
  unfold execCatchComplete
  repeat' (first | with_reducible assumption | with_reducible apply Out.follows.next | with_reducible apply setNow_follows | with_reducible apply setMot_follows | (dsimp only [State.follows_mk]; change State.follows _ _) | with_reducible apply State.follows.forEach | with_reducible apply State.follows.foldlFst | with_reducible apply State.follows.foldl | split | dsimp only | intro _ | decide)

theorem execBrakeFallback_follows {orig : State} (m : Fin 16) (t : Ns) (s : State) (hF : orig.follows s) : Out.follows orig (execBrakeFallback m t s) := by
  unfold execBrakeFallback
  repeat' (first | with_reducible assumption | with_reducible apply Out.follows.next | with_reducible apply setNow_follows | with_reducible apply t0_follows | with_reducible apply toBrake_follows | (dsimp only [State.follows_mk]; change State.follows _ _) | with_reducible apply State.follows.forEach | with_reducible apply State.follows.foldlFst | with_reducible apply State.follows.foldl | split | dsimp only | intro _ | decide)

theorem execBrakeSearch_follows {orig : State} (m : Fin 16) (t : Ns) (s : State) (hF : orig.follows s) : Out.follows orig (execBrakeSearch m t s) := by
  unfold execBrakeSearch
  repeat' (first | with_reducible assumption | with_reducible apply Out.follows.next | with_reducible apply setNow_follows | with_reducible apply setMot_follows | (dsimp only [State.follows_mk]; change State.follows _ _) | with_reducible apply State.follows.forEach | with_reducible apply State.follows.foldlFst | with_reducible apply State.follows.foldl | split | dsimp only | intro _ | decide)

theorem execReverseHold_follows {orig : State} (m : Fin 16) (t : Ns) (s : State) (hF : orig.follows s) : Out.follows orig (execReverseHold m t s) := by
  unfold execReverseHold
  repeat' (first | with_reducible assumption | with_reducible apply Out.follows.next | with_reducible apply setNow_follows | with_reducible apply motFault_follows | (dsimp only [State.follows_mk]; change State.follows _ _) | with_reducible apply State.follows.forEach | with_reducible apply State.follows.foldlFst | with_reducible apply State.follows.foldl | split | dsimp only | intro _ | decide)

theorem execStoppingComplete_follows {orig : State} (m : Fin 16) (t : Ns) (s : State) (hF : orig.follows s) : Out.follows orig (execStoppingComplete m t s) := by
  unfold execStoppingComplete
  repeat' (first | with_reducible assumption | with_reducible apply Out.follows.next | with_reducible apply setNow_follows | with_reducible apply endStopping_follows | (dsimp only [State.follows_mk]; change State.follows _ _) | with_reducible apply State.follows.forEach | with_reducible apply State.follows.foldlFst | with_reducible apply State.follows.foldl | split | dsimp only | intro _ | decide)

theorem execFanStall_follows {orig : State} (m : Fin 16) (t : Ns) (s : State) (hF : orig.follows s) : Out.follows orig (execFanStall m t s) := by
  unfold execFanStall
  repeat' (first | with_reducible assumption | with_reducible apply Out.follows.next | with_reducible apply setNow_follows | with_reducible apply motStall_follows | (dsimp only [State.follows_mk]; change State.follows _ _) | with_reducible apply State.follows.forEach | with_reducible apply State.follows.foldlFst | with_reducible apply State.follows.foldl | split | dsimp only | intro _ | decide)

theorem execRetryWaitExpiry_follows {orig : State} (m : Fin 16) (t : Ns) (s : State) (hF : orig.follows s) : Out.follows orig (execRetryWaitExpiry m t s) := by
  unfold execRetryWaitExpiry
  repeat' (first | with_reducible assumption | with_reducible apply Out.follows.next | with_reducible apply motRetry_follows | with_reducible apply setNow_follows | (dsimp only [State.follows_mk]; change State.follows _ _) | with_reducible apply State.follows.forEach | with_reducible apply State.follows.foldlFst | with_reducible apply State.follows.foldl | split | dsimp only | intro _ | decide)

theorem stallClear_follows {orig : State} (s : State) (m t : Nat) (hF : orig.follows s) :
    orig.follows (stallClear s m t) := by
  unfold stallClear
  repeat' (first | with_reducible assumption | with_reducible apply t0_follows | with_reducible apply setMot_follows | (dsimp only [State.follows_mk]; change State.follows _ _) | with_reducible apply State.follows.forEach | with_reducible apply State.follows.foldlFst | with_reducible apply State.follows.foldl | split | dsimp only | intro _ | decide)

theorem execStallCountClear_follows {orig : State} (m : Fin 16) (t : Ns) (s : State) (hF : orig.follows s) : Out.follows orig (execStallCountClear m t s) := by
  unfold execStallCountClear
  repeat' (first | with_reducible assumption | with_reducible apply Out.follows.next | with_reducible apply stallClear_follows | with_reducible apply setNow_follows | (dsimp only [State.follows_mk]; change State.follows _ _) | with_reducible apply State.follows.forEach | with_reducible apply State.follows.foldlFst | with_reducible apply State.follows.foldl | split | dsimp only | intro _ | decide)

theorem execIdentComplete_follows {orig : State} (m : Fin 16) (t : Ns) (rs ls : F32) (ok : Bool) (s : State) (hF : orig.follows s) : Out.follows orig (execIdentComplete m t rs ls ok s) := by
  unfold execIdentComplete
  repeat' (first | with_reducible assumption | with_reducible apply Out.follows.next | with_reducible apply setNow_follows | with_reducible apply stick_follows | with_reducible apply setMot_follows | with_reducible apply motFault_follows | (dsimp only [State.follows_mk]; change State.follows _ _) | with_reducible apply State.follows.forEach | with_reducible apply State.follows.foldlFst | with_reducible apply State.follows.foldl | split | dsimp only | intro _ | decide)

theorem brakeAllowed_follows {orig : State} (s : State) (m : Nat) (vdc : F32) (hF : orig.follows s) :
    orig.follows (brakeAllowed s m vdc).1 := by
  unfold brakeAllowed
  repeat' (first | with_reducible assumption | with_reducible apply useFree_follows | (dsimp only [State.follows_mk]; change State.follows _ _) | with_reducible apply State.follows.forEach | with_reducible apply State.follows.foldlFst | with_reducible apply State.follows.foldl | split | dsimp only | intro _ | decide)

theorem curRefs_follows {orig : State} (s : State) (m : Nat) (vdc : F32) (hF : orig.follows s) :
    orig.follows (curRefs s m vdc).1 := by
  unfold curRefs
  repeat' (first | with_reducible assumption | with_reducible apply brakeAllowed_follows | (dsimp only [State.follows_mk]; change State.follows _ _) | with_reducible apply State.follows.forEach | with_reducible apply State.follows.foldlFst | with_reducible apply State.follows.foldl | split | dsimp only | intro _ | decide)

theorem nextDither_follows {orig : State} (s : State) (m : Nat) (hF : orig.follows s) :
    orig.follows (nextDither s m) := by
  unfold nextDither
  repeat' (first | with_reducible assumption | with_reducible apply modMot_follows | (dsimp only [State.follows_mk]; change State.follows _ _) | with_reducible apply State.follows.forEach | with_reducible apply State.follows.foldlFst | with_reducible apply State.follows.foldl | split | dsimp only | intro _ | decide)

theorem turnVector_follows {orig : State} (s : State) (m : Nat) (hF : orig.follows s) :
    orig.follows (turnVector s m) := by
  unfold turnVector
  repeat' (first | with_reducible assumption | with_reducible apply modMot_follows | (dsimp only [State.follows_mk]; change State.follows _ _) | with_reducible apply State.follows.forEach | with_reducible apply State.follows.foldlFst | with_reducible apply State.follows.foldl | split | dsimp only | intro _ | decide)

theorem curStep_follows {orig : State} (s : State) (m t angle : Nat) (v : PhaseVals) (hF : orig.follows s) :
    orig.follows (curStep s m t angle v) := by
  unfold curStep
  repeat' (first | with_reducible assumption | with_reducible apply curRefs_follows | with_reducible apply turnVector_follows | with_reducible apply setMot_follows | (dsimp only [State.follows_mk]; change State.follows _ _) | with_reducible apply State.follows.forEach | with_reducible apply State.follows.foldlFst | with_reducible apply State.follows.foldl | split | dsimp only | intro _ | decide)

theorem execCurrentLoopUpdate_follows {orig : State} (m : Fin 16) (t : Ns) (smp : PhaseSample) (s : State) (hF : orig.follows s) : Out.follows orig (execCurrentLoopUpdate m t smp s) := by
  unfold execCurrentLoopUpdate
  repeat' (first | with_reducible assumption | with_reducible apply Out.follows.next | with_reducible apply setNow_follows | with_reducible apply useFree_follows | with_reducible apply modMot_follows | with_reducible apply curStep_follows | with_reducible apply nextDither_follows | with_reducible apply motFault_follows | (dsimp only [State.follows_mk]; change State.follows _ _) | with_reducible apply State.follows.forEach | with_reducible apply State.follows.foldlFst | with_reducible apply State.follows.foldl | split | dsimp only | intro _ | decide)

theorem fbLatch_follows {orig : State} (s : State) (t m : Nat) (hF : orig.follows s) :
    orig.follows (fbLatch s t m) := by
  unfold fbLatch
  repeat' (first | with_reducible assumption | with_reducible apply addItem_follows | with_reducible apply setMot_follows | with_reducible apply useFree_follows | (dsimp only [State.follows_mk]; change State.follows _ _) | with_reducible apply State.follows.forEach | with_reducible apply State.follows.foldlFst | with_reducible apply State.follows.foldl | split | dsimp only | intro _ | decide)

theorem nightActs_follows {orig : State} (s : State) (m : Nat) (hF : orig.follows s) :
    orig.follows (nightActs s m).1 := by
  unfold nightActs
  repeat' (first | with_reducible assumption | with_reducible apply t0_follows | with_reducible apply forceTaper_follows | (dsimp only [State.follows_mk]; change State.follows _ _) | with_reducible apply State.follows.forEach | with_reducible apply State.follows.foldlFst | with_reducible apply State.follows.foldl | split | dsimp only | intro _ | decide)

theorem runMotorCtrl_follows {orig : State} (s : State) (m t : Nat) (hF : orig.follows s) :
    orig.follows (runMotorCtrl s m t) := by
  unfold runMotorCtrl
  refine iteInduction (motive := fun u => orig.follows u) (fun _ => hF) (fun _ => ?_)
  refine modMot_follows _ _ _ (nightActs_follows _ _ (modMot_follows _ _ _ ?_))
  have h2 : ∀ f g, orig.follows (modMot (modMot s m f) m g) := fun f g => modMot_follows _ _ _ (modMot_follows _ _ _ hF)
  refine iteInduction (motive := fun u => orig.follows u) (fun _ => ?_) (fun _ => h2 _ _)
  refine iteInduction (motive := fun u => orig.follows u) (fun _ => setOffset_follows _ _ _ (modMot_follows _ _ _ (h2 _ _)))
    (fun _ => modMot_follows _ _ _ (h2 _ _))

theorem runObserver_follows {orig : State} (s : State) (m t : Nat) (hF : orig.follows s) :
    orig.follows (runObserver s m t) := by
  unfold runObserver
  repeat' (first | with_reducible assumption | with_reducible apply setMot_follows | with_reducible apply useFree_follows | (dsimp only [State.follows_mk]; change State.follows _ _) | with_reducible apply State.follows.forEach | with_reducible apply State.follows.foldlFst | with_reducible apply State.follows.foldl | split | dsimp only | intro _ | decide)

theorem runFan_follows {orig : State} (s : State) (m t : Nat) (hF : orig.follows s) :
    orig.follows (runFan s m t) := by
  unfold runFan
  repeat' (first | with_reducible assumption | with_reducible apply modMot_follows | with_reducible apply stallClear_follows | (dsimp only [State.follows_mk]; change State.follows _ _) | with_reducible apply State.follows.forEach | with_reducible apply State.follows.foldlFst | with_reducible apply State.follows.foldl | split | dsimp only | intro _ | decide)

theorem runEnergy_follows {orig : State} (s : State) (m : Nat) (hF : orig.follows s) :
    orig.follows (runEnergy s m) := by
  unfold runEnergy
  repeat' (first | with_reducible assumption | with_reducible apply modMot_follows | (dsimp only [State.follows_mk]; change State.follows _ _) | with_reducible apply State.follows.forEach | with_reducible apply State.follows.foldlFst | with_reducible apply State.follows.foldl | split | dsimp only | intro _ | decide)

theorem motRelease_follows {orig : State} (s : State) (m t : Nat) (hF : orig.follows s) :
    orig.follows (motRelease s m t) := by
  unfold motRelease
  repeat' (first | with_reducible assumption | with_reducible apply setMot_follows | with_reducible apply motAct_follows | (dsimp only [State.follows_mk]; change State.follows _ _) | with_reducible apply State.follows.forEach | with_reducible apply State.follows.foldlFst | with_reducible apply State.follows.foldl | split | dsimp only | intro _ | decide)

theorem motNightEnter_follows {orig : State} (s : State) (m : Nat) (hF : orig.follows s) :
    orig.follows (motNightEnter s m) := by
  unfold motNightEnter
  repeat' (first | with_reducible assumption | with_reducible apply logEv_follows | with_reducible apply setMot_follows | (dsimp only [State.follows_mk]; change State.follows _ _) | with_reducible apply State.follows.forEach | with_reducible apply State.follows.foldlFst | with_reducible apply State.follows.foldl | split | dsimp only | intro _ | decide)

theorem catchResume_follows {orig : State} (s : State) (m t stamp : Nat) (hF : orig.follows s) :
    orig.follows (catchResume s m t stamp) := by
  unfold catchResume
  repeat' (first | with_reducible assumption | with_reducible apply modMot_follows | with_reducible apply setOffset_follows | (dsimp only [State.follows_mk]; change State.follows _ _) | with_reducible apply State.follows.forEach | with_reducible apply State.follows.foldlFst | with_reducible apply State.follows.foldl | split | dsimp only | intro _ | decide)

theorem motMirrorResume_follows {orig : State} (s : State) (m t stamp : Nat) (hF : orig.follows s) :
    orig.follows (motMirrorResume s m t stamp) := by
  unfold motMirrorResume
  repeat' (first | with_reducible assumption | with_reducible apply catchResume_follows | with_reducible apply modMot_follows | with_reducible apply toSearch_follows | (dsimp only [State.follows_mk]; change State.follows _ _) | with_reducible apply State.follows.forEach | with_reducible apply State.follows.foldlFst | with_reducible apply State.follows.foldl | split | dsimp only | intro _ | decide)

theorem motCommit_follows {orig : State} (s : State) (m : Nat) (hF : orig.follows s) :
    orig.follows (motCommit s m) := by
  unfold motCommit
  repeat' (first | with_reducible assumption | with_reducible apply setMot_follows | with_reducible apply modMot_follows | (dsimp only [State.follows_mk]; change State.follows _ _) | with_reducible apply State.follows.forEach | with_reducible apply State.follows.foldlFst | with_reducible apply State.follows.foldl | split | dsimp only | intro _ | decide)

end Sys2Proof.Machine
end

