-- ==== Sys2Proof/Laws/FollowsEngine.lean ====
section
/-!
SUPPORT. Every operation of Machine/Engine.lean keeps `State.follows`: it leaves the queue alone, the recorder follows, no floor and
no epoch falls, and SAFE_OUT_N stays as R403 has it.
-/
namespace Sys2Proof.Machine

open Sys2Proof

theorem modBsk_follows {orig : State} (s : State) (b : Nat) (f : Basket → Basket) (hF : orig.follows s) :
    orig.follows (modBsk s b f) := by
  unfold modBsk
  repeat' (first | with_reducible assumption | with_reducible apply setBsk_follows | (dsimp only [State.follows_mk]; change State.follows _ _) | with_reducible apply State.follows.forEach | with_reducible apply State.follows.foldlFst | with_reducible apply State.follows.foldl | split | dsimp only | intro _ | decide)

theorem bskAny_follows {orig : State} (s : State) (k : Nat) (hF : orig.follows s) :
    orig.follows (bskAny s k) := by
  unfold bskAny
  repeat' (first | with_reducible assumption | (dsimp only [State.follows_mk]; change State.follows _ _) | with_reducible apply State.follows.forEach | with_reducible apply State.follows.foldlFst | with_reducible apply State.follows.foldl | split | dsimp only | intro _ | decide)

theorem blockPost_follows {orig : State} (s : State) (inst : Nat) (p : Post) (hF : orig.follows s) :
    orig.follows (blockPost s inst p).1 := by
  unfold blockPost
  repeat' (first | with_reducible assumption | with_reducible apply modBsk_follows | with_reducible apply post_follows | (dsimp only [State.follows_mk]; change State.follows _ _) | with_reducible apply State.follows.forEach | with_reducible apply State.follows.foldlFst | with_reducible apply State.follows.foldl | split | dsimp only | intro _ | decide)

theorem keepPost_follows {orig : State} (s : State) (inst : Nat) (p : Post) (hF : orig.follows s) :
    orig.follows (keepPost s inst p) := by
  unfold keepPost
  repeat' (first | with_reducible assumption | with_reducible apply blockPost_follows | with_reducible apply setBlk_follows | (dsimp only [State.follows_mk]; change State.follows _ _) | with_reducible apply State.follows.forEach | with_reducible apply State.follows.foldlFst | with_reducible apply State.follows.foldl | split | dsimp only | intro _ | decide)

theorem repost_follows {orig : State} (s : State) (inst : Nat) (hF : orig.follows s) :
    orig.follows (repost s inst) := by
  unfold repost
  repeat' (first | with_reducible assumption | with_reducible apply keepPost_follows | with_reducible apply setBlk_follows | (dsimp only [State.follows_mk]; change State.follows _ _) | with_reducible apply State.follows.forEach | with_reducible apply State.follows.foldlFst | with_reducible apply State.follows.foldl | split | dsimp only | intro _ | decide)

theorem postTo_follows {orig : State} (s : State) (inst : Nat) (d : Dst) (m : Msg) (hF : orig.follows s) :
    orig.follows (postTo s inst d m) := by
  unfold postTo
  repeat' (first | with_reducible assumption | with_reducible apply keepPost_follows | (dsimp only [State.follows_mk]; change State.follows _ _) | with_reducible apply State.follows.forEach | with_reducible apply State.follows.foldlFst | with_reducible apply State.follows.foldl | split | dsimp only | intro _ | decide)

theorem takeMsgs_follows {orig : State} (s : State) (b n : Nat) (hF : orig.follows s) :
    orig.follows (takeMsgs s b n).1 := by
  unfold takeMsgs
  repeat' (first | with_reducible assumption | with_reducible apply modBsk_follows | (dsimp only [State.follows_mk]; change State.follows _ _) | with_reducible apply State.follows.forEach | with_reducible apply State.follows.foldlFst | with_reducible apply State.follows.foldl | split | dsimp only | intro _ | decide)

theorem answerTo_follows {orig : State} (s : State) (inst : Nat) (d : Dst) (q : Msg) (status : Nat) (m : Msg) (hF : orig.follows s) :
    orig.follows (answerTo s inst d q status m) := by
  unfold answerTo
  repeat' (first | with_reducible assumption | with_reducible apply postTo_follows | (dsimp only [State.follows_mk]; change State.follows _ _) | with_reducible apply State.follows.forEach | with_reducible apply State.follows.foldlFst | with_reducible apply State.follows.foldl | split | dsimp only | intro _ | decide)

theorem takeOverruns_follows {orig : State} (s : State) (inst : Nat) (hF : orig.follows s) :
    orig.follows (takeOverruns s inst) := by
  unfold takeOverruns
  repeat' (first | with_reducible assumption | with_reducible apply modBsk_follows | with_reducible apply setBlk_follows | (dsimp only [State.follows_mk]; change State.follows _ _) | with_reducible apply State.follows.forEach | with_reducible apply State.follows.foldlFst | with_reducible apply State.follows.foldl | split | dsimp only | intro _ | decide)

theorem setTag_follows {orig : State} (s : State) (g : Nat) (x : Option Tag) (hF : orig.follows s) :
    orig.follows (setTag s g x) := by
  unfold setTag
  repeat' (first | with_reducible assumption | (dsimp only [State.follows_mk]; change State.follows _ _) | with_reducible apply State.follows.forEach | with_reducible apply State.follows.foldlFst | with_reducible apply State.follows.foldl | split | dsimp only | intro _ | decide)

theorem tagFlag_follows {orig : State} (s : State) (k : Nat) (hF : orig.follows s) :
    orig.follows (tagFlag s k) := by
  unfold tagFlag
  repeat' (first | with_reducible assumption | (dsimp only [State.follows_mk]; change State.follows _ _) | with_reducible apply State.follows.forEach | with_reducible apply State.follows.foldlFst | with_reducible apply State.follows.foldl | split | dsimp only | intro _ | decide)

theorem admitMsg_follows {orig : State} (s : State) (b : Nat) (m : Msg) (hF : orig.follows s) :
    orig.follows (admitMsg s b m) := by
  unfold admitMsg
  repeat' (first | with_reducible assumption | with_reducible apply setBsk_follows | with_reducible apply bskAny_follows | (dsimp only [State.follows_mk]; change State.follows _ _) | with_reducible apply State.follows.forEach | with_reducible apply State.follows.foldlFst | with_reducible apply State.follows.foldl | split | dsimp only | intro _ | decide)

theorem admitOne_follows {orig : State} (s : State) (p : Post) (hF : orig.follows s) :
    orig.follows (admitOne s p) := by
  unfold admitOne
  repeat' (first | with_reducible assumption | with_reducible apply admitMsg_follows | with_reducible apply tagFlag_follows | with_reducible apply setTag_follows | (dsimp only [State.follows_mk]; change State.follows _ _) | with_reducible apply State.follows.forEach | with_reducible apply State.follows.foldlFst | with_reducible apply State.follows.foldl | split | dsimp only | intro _ | decide)

theorem freeTaken_follows {orig : State} (s : State) (hF : orig.follows s) :
    orig.follows (freeTaken s) := by
  unfold freeTaken
  repeat' (first | with_reducible assumption | with_reducible apply modBsk_follows | (dsimp only [State.follows_mk]; change State.follows _ _) | with_reducible apply State.follows.forEach | with_reducible apply State.follows.foldlFst | with_reducible apply State.follows.foldl | split | dsimp only | intro _ | decide)

theorem loseTag_follows {orig : State} (s : State) (g : Nat) (x : Tag) (hF : orig.follows s) :
    orig.follows (loseTag s g x) := by
  unfold loseTag
  repeat' (first | with_reducible assumption | with_reducible apply setTag_follows | with_reducible apply tagFlag_follows | (dsimp only [State.follows_mk]; change State.follows _ _) | with_reducible apply State.follows.forEach | with_reducible apply State.follows.foldlFst | with_reducible apply State.follows.foldl | split | dsimp only | intro _ | decide)

theorem endTags_follows {orig : State} (s : State) (hF : orig.follows s) :
    orig.follows (endTags s) := by
  unfold endTags
  repeat' (first | with_reducible assumption | with_reducible apply admitMsg_follows | with_reducible apply loseTag_follows | (dsimp only [State.follows_mk]; change State.follows _ _) | with_reducible apply State.follows.forEach | with_reducible apply State.follows.foldlFst | with_reducible apply State.follows.foldl | split | dsimp only | intro _ | decide)

theorem freeTags_follows {orig : State} (s : State) (hF : orig.follows s) :
    orig.follows (freeTags s) := by
  unfold freeTags
  repeat' (first | with_reducible assumption | (dsimp only [State.follows_mk]; change State.follows _ _) | with_reducible apply State.follows.forEach | with_reducible apply State.follows.foldlFst | with_reducible apply State.follows.foldl | split | dsimp only | intro _ | decide)

theorem admission_follows {orig : State} (s : State) (hF : orig.follows s) :
    orig.follows (admission s) := by
  unfold admission
  repeat' (first | with_reducible assumption | with_reducible apply freeTaken_follows | with_reducible apply freeTags_follows | with_reducible apply endTags_follows | with_reducible apply admitOne_follows | (dsimp only [State.follows_mk]; change State.follows _ _) | with_reducible apply State.follows.forEach | with_reducible apply State.follows.foldlFst | with_reducible apply State.follows.foldl | split | dsimp only | intro _ | decide)

theorem issueRequest_follows {orig : State} (s : State) (inst b reply : Nat) (m : Msg) (hF : orig.follows s) :
    orig.follows (issueRequest s inst b reply m).1 := by
  unfold issueRequest
  repeat' (first | with_reducible assumption | with_reducible apply setTag_follows | with_reducible apply keepPost_follows | with_reducible apply tagFlag_follows | (dsimp only [State.follows_mk]; change State.follows _ _) | with_reducible apply State.follows.forEach | with_reducible apply State.follows.foldlFst | with_reducible apply State.follows.foldl | split | dsimp only | intro _ | decide)

theorem execTransactionTimeout_follows {orig : State} (tag : Fin 4096) (t : Ns) (s : State) (hF : orig.follows s) : Out.follows orig (execTransactionTimeout tag t s) := by
  unfold execTransactionTimeout
  repeat' (first | with_reducible assumption | with_reducible apply Out.follows.next | with_reducible apply setNow_follows | with_reducible apply loseTag_follows | (dsimp only [State.follows_mk]; change State.follows _ _) | with_reducible apply State.follows.forEach | with_reducible apply State.follows.foldlFst | with_reducible apply State.follows.foldl | split | dsimp only | intro _ | decide)

theorem execTagQuarantineEnd_follows {orig : State} (tag : Fin 4096) (t : Ns) (s : State) (hF : orig.follows s) : Out.follows orig (execTagQuarantineEnd tag t s) := by
  unfold execTagQuarantineEnd
  repeat' (first | with_reducible assumption | with_reducible apply Out.follows.next | with_reducible apply setNow_follows | with_reducible apply setTag_follows | (dsimp only [State.follows_mk]; change State.follows _ _) | with_reducible apply State.follows.forEach | with_reducible apply State.follows.foldlFst | with_reducible apply State.follows.foldl | split | dsimp only | intro _ | decide)

theorem noteWorst_follows {orig : State} (s : State) (hF : orig.follows s) :
    orig.follows (noteWorst s) := by
  unfold noteWorst
  repeat' (first | with_reducible assumption | (dsimp only [State.follows_mk]; change State.follows _ _) | with_reducible apply State.follows.forEach | with_reducible apply State.follows.foldlFst | with_reducible apply State.follows.foldl | split | dsimp only | intro _ | decide)

theorem markHalt_follows {orig : State} (s : State) (hF : orig.follows s) :
    orig.follows (markHalt s) := by
  unfold markHalt
  repeat' (first | with_reducible assumption | (dsimp only [State.follows_mk]; change State.follows _ _) | with_reducible apply State.follows.forEach | with_reducible apply State.follows.foldlFst | with_reducible apply State.follows.foldl | split | dsimp only | intro _ | decide)

theorem engHalt_follows {orig : State} (s : State) (e cause : Nat) (hF : orig.follows s) :
    orig.follows (engHalt s e cause) := by
  unfold engHalt
  repeat' (first | with_reducible assumption | with_reducible apply logEv_follows | with_reducible apply markHalt_follows | with_reducible apply setEng_follows | (dsimp only [State.follows_mk]; change State.follows _ _) | with_reducible apply State.follows.forEach | with_reducible apply State.follows.foldlFst | with_reducible apply State.follows.foldl | split | dsimp only | intro _ | decide)

theorem engClearPeak_follows {orig : State} (s : State) (e : Nat) (hF : orig.follows s) :
    orig.follows (engClearPeak s e) := by
  unfold engClearPeak
  repeat' (first | with_reducible assumption | with_reducible apply setEng_follows | (dsimp only [State.follows_mk]; change State.follows _ _) | with_reducible apply State.follows.forEach | with_reducible apply State.follows.foldlFst | with_reducible apply State.follows.foldl | split | dsimp only | intro _ | decide)

theorem engClearCounts_follows {orig : State} (s : State) (e : Nat) (hF : orig.follows s) :
    orig.follows (engClearCounts s e) := by
  unfold engClearCounts
  repeat' (first | with_reducible assumption | with_reducible apply setEng_follows | (dsimp only [State.follows_mk]; change State.follows _ _) | with_reducible apply State.follows.forEach | with_reducible apply State.follows.foldlFst | with_reducible apply State.follows.foldl | split | dsimp only | intro _ | decide)

theorem execEngClearPeak_follows {orig : State} (e : Fin 128) (s : State) (hF : orig.follows s) : Out.follows orig (execEngClearPeak e s) := by
  unfold execEngClearPeak
  repeat' (first | with_reducible assumption | with_reducible apply Out.follows.next | with_reducible apply rowCmd_follows | with_reducible apply engClearPeak_follows | (dsimp only [State.follows_mk]; change State.follows _ _) | with_reducible apply State.follows.forEach | with_reducible apply State.follows.foldlFst | with_reducible apply State.follows.foldl | split | dsimp only | intro _ | decide)

theorem execEngClearCounts_follows {orig : State} (e : Fin 128) (s : State) (hF : orig.follows s) : Out.follows orig (execEngClearCounts e s) := by
  unfold execEngClearCounts
  repeat' (first | with_reducible assumption | with_reducible apply Out.follows.next | with_reducible apply rowCmd_follows | with_reducible apply engClearCounts_follows | (dsimp only [State.follows_mk]; change State.follows _ _) | with_reducible apply State.follows.forEach | with_reducible apply State.follows.foldlFst | with_reducible apply State.follows.foldl | split | dsimp only | intro _ | decide)

theorem bskClear_follows {orig : State} (s : State) (hF : orig.follows s) :
    orig.follows (bskClear s) := by
  unfold bskClear
  repeat' (first | with_reducible assumption | with_reducible apply modBsk_follows | (dsimp only [State.follows_mk]; change State.follows _ _) | with_reducible apply State.follows.forEach | with_reducible apply State.follows.foldlFst | with_reducible apply State.follows.foldl | split | dsimp only | intro _ | decide)

theorem execBskClearCounts_follows {orig : State} (s : State) (hF : orig.follows s) : Out.follows orig (execBskClearCounts s) := by
  unfold execBskClearCounts
  repeat' (first | with_reducible assumption | with_reducible apply Out.follows.next | with_reducible apply rowCmd_follows | with_reducible apply bskClear_follows | (dsimp only [State.follows_mk]; change State.follows _ _) | with_reducible apply State.follows.forEach | with_reducible apply State.follows.foldlFst | with_reducible apply State.follows.foldl | split | dsimp only | intro _ | decide)

theorem inVal_follows {orig : State} (s : State) (i : Nat) (x : Inst) (k : Nat) (hF : orig.follows s) :
    orig.follows (inVal s i x k).1 := by
  unfold inVal
  repeat' (first | with_reducible assumption | with_reducible apply takeMsgs_follows | with_reducible apply setBlk_follows | with_reducible apply t0_follows | (dsimp only [State.follows_mk]; change State.follows _ _) | with_reducible apply State.follows.forEach | with_reducible apply State.follows.foldlFst | with_reducible apply State.follows.foldl | split | dsimp only | intro _ | decide)

end Sys2Proof.Machine
end

