-- ==== Sys2Proof/Laws/FollowsGate.lean ====
section
/-!
SUPPORT. Every operation of Machine/Gate.lean keeps `State.follows`: it leaves the queue alone, the recorder follows, no floor and
no epoch falls, and SAFE_OUT_N stays as R403 has it.
-/
namespace Sys2Proof.Machine

open Sys2Proof

theorem modGate_follows {orig : State} (s : State) (m : Nat) (f : Gate → Gate) (hF : orig.follows s) :
    orig.follows (modGate s m f) := by
  unfold modGate
  repeat' (first | with_reducible assumption | with_reducible apply setGate_follows | (dsimp only [State.follows_mk]; change State.follows _ _) | with_reducible apply State.follows.forEach | with_reducible apply State.follows.foldlFst | with_reducible apply State.follows.foldl | split | dsimp only | intro _ | decide)

theorem gateRefuse_follows {orig : State} (s : State) (m : Nat) (hF : orig.follows s) :
    orig.follows (gateRefuse s m) := by
  unfold gateRefuse
  repeat' (first | with_reducible assumption | with_reducible apply stick_follows | (dsimp only [State.follows_mk]; change State.follows _ _) | with_reducible apply State.follows.forEach | with_reducible apply State.follows.foldlFst | with_reducible apply State.follows.foldl | split | dsimp only | intro _ | decide)

theorem gateMove_follows {orig : State} (s : State) (m : Nat) (hF : orig.follows s) :
    orig.follows (gateMove s m) := by
  unfold gateMove
  repeat' (first | with_reducible assumption | with_reducible apply gateRefuse_follows | with_reducible apply setGate_follows | (dsimp only [State.follows_mk]; change State.follows _ _) | with_reducible apply State.follows.forEach | with_reducible apply State.follows.foldlFst | with_reducible apply State.follows.foldl | split | dsimp only | intro _ | decide)

theorem toHome_follows {orig : State} (s : State) (m : Nat) (st : HomeSt) (stop : Bool) (v : F32) (hF : orig.follows s) :
    orig.follows (toHome s m st stop v) := by
  unfold toHome
  repeat' (first | with_reducible assumption | with_reducible apply modGate_follows | (dsimp only [State.follows_mk]; change State.follows _ _) | with_reducible apply State.follows.forEach | with_reducible apply State.follows.foldlFst | with_reducible apply State.follows.foldl | split | dsimp only | intro _ | decide)

theorem homeEnd_follows {orig : State} (s : State) (m : Nat) (hF : orig.follows s) :
    orig.follows (homeEnd s m) := by
  unfold homeEnd
  repeat' (first | with_reducible assumption | with_reducible apply modGate_follows | (dsimp only [State.follows_mk]; change State.follows _ _) | with_reducible apply State.follows.forEach | with_reducible apply State.follows.foldlFst | with_reducible apply State.follows.foldl | split | dsimp only | intro _ | decide)

theorem homeFault_follows {orig : State} (s : State) (m : Nat) (f : HomeFault) (hF : orig.follows s) :
    orig.follows (homeFault s m f) := by
  unfold homeFault
  repeat' (first | with_reducible assumption | with_reducible apply modGate_follows | with_reducible apply logEv_follows | (dsimp only [State.follows_mk]; change State.follows _ _) | with_reducible apply State.follows.forEach | with_reducible apply State.follows.foldlFst | with_reducible apply State.follows.foldl | split | dsimp only | intro _ | decide)

theorem gateHome_follows {orig : State} (s : State) (m t : Nat) (hF : orig.follows s) :
    orig.follows (gateHome s m t) := by
  unfold gateHome
  repeat' (first | with_reducible assumption | with_reducible apply setGate_follows | with_reducible apply toHome_follows | with_reducible apply modMot_follows | (dsimp only [State.follows_mk]; change State.follows _ _) | with_reducible apply State.follows.forEach | with_reducible apply State.follows.foldlFst | with_reducible apply State.follows.foldl | split | dsimp only | intro _ | decide)

theorem gateAbort_follows {orig : State} (s : State) (m : Nat) (hF : orig.follows s) :
    orig.follows (gateAbort s m) := by
  unfold gateAbort
  repeat' (first | with_reducible assumption | with_reducible apply homeEnd_follows | (dsimp only [State.follows_mk]; change State.follows _ _) | with_reducible apply State.follows.forEach | with_reducible apply State.follows.foldlFst | with_reducible apply State.follows.foldl | split | dsimp only | intro _ | decide)

theorem homeRelease_follows {orig : State} (s : State) (m : Nat) (hF : orig.follows s) :
    orig.follows (homeRelease s m) := by
  unfold homeRelease
  repeat' (first | with_reducible assumption | with_reducible apply setWick_follows | with_reducible apply homeEnd_follows | with_reducible apply modGate_follows | (dsimp only [State.follows_mk]; change State.follows _ _) | with_reducible apply State.follows.forEach | with_reducible apply State.follows.foldlFst | with_reducible apply State.follows.foldl | split | dsimp only | intro _ | decide)

theorem homeLimit_follows {orig : State} (s : State) (m : Nat) (hF : orig.follows s) :
    orig.follows (homeLimit s m) := by
  unfold homeLimit
  repeat' (first | with_reducible assumption | with_reducible apply toHome_follows | with_reducible apply setGate_follows | with_reducible apply homeFault_follows | (dsimp only [State.follows_mk]; change State.follows _ _) | with_reducible apply State.follows.forEach | with_reducible apply State.follows.foldlFst | with_reducible apply State.follows.foldl | split | dsimp only | intro _ | decide)

theorem homeMoves_follows {orig : State} (s : State) (m t : Nat) (hF : orig.follows s) :
    orig.follows (homeMoves s m t) := by
  unfold homeMoves
  repeat' (first | with_reducible assumption | with_reducible apply toHome_follows | with_reducible apply modGate_follows | with_reducible apply setGate_follows | with_reducible apply homeRelease_follows | (dsimp only [State.follows_mk]; change State.follows _ _) | with_reducible apply State.follows.forEach | with_reducible apply State.follows.foldlFst | with_reducible apply State.follows.foldl | split | dsimp only | intro _ | decide)

theorem homeSpeed_follows {orig : State} (s : State) (m : Nat) (hF : orig.follows s) :
    orig.follows (homeSpeed s m) := by
  unfold homeSpeed
  repeat' (first | with_reducible assumption | with_reducible apply t0_follows | with_reducible apply forceTaper_follows | with_reducible apply setGate_follows | (dsimp only [State.follows_mk]; change State.follows _ _) | with_reducible apply State.follows.forEach | with_reducible apply State.follows.foldlFst | with_reducible apply State.follows.foldl | split | dsimp only | intro _ | decide)

theorem noteLimits_follows {orig : State} (s : State) (m : Nat) (hF : orig.follows s) :
    orig.follows (noteLimits s m) := by
  unfold noteLimits
  repeat' (first | with_reducible assumption | with_reducible apply modGate_follows | (dsimp only [State.follows_mk]; change State.follows _ _) | with_reducible apply State.follows.forEach | with_reducible apply State.follows.foldlFst | with_reducible apply State.follows.foldl | split | dsimp only | intro _ | decide)

theorem runHoming_follows {orig : State} (s : State) (m t : Nat) (hF : orig.follows s) :
    orig.follows (runHoming s m t) := by
  unfold runHoming
  repeat' (first | with_reducible assumption | with_reducible apply modGate_follows | with_reducible apply gateAbort_follows | with_reducible apply gateHome_follows | with_reducible apply homeFault_follows | with_reducible apply homeLimit_follows | with_reducible apply homeMoves_follows | with_reducible apply noteLimits_follows | with_reducible apply homeSpeed_follows | (dsimp only [State.follows_mk]; change State.follows _ _) | with_reducible apply State.follows.forEach | with_reducible apply State.follows.foldlFst | with_reducible apply State.follows.foldl | split | dsimp only | intro _ | decide)

theorem runPosition_follows {orig : State} (s : State) (m t : Nat) (hF : orig.follows s) :
    orig.follows (runPosition s m t) := by
  unfold runPosition
  repeat' (first | with_reducible assumption | with_reducible apply modGate_follows | with_reducible apply gateMove_follows | with_reducible apply t0_follows | with_reducible apply setTaper_follows | with_reducible apply setGate_follows | with_reducible apply stick_follows | (dsimp only [State.follows_mk]; change State.follows _ _) | with_reducible apply State.follows.forEach | with_reducible apply State.follows.foldlFst | with_reducible apply State.follows.foldl | split | dsimp only | intro _ | decide)

theorem gateTake_follows {orig : State} (s : State) (m : Nat) (c : GateCmd) (hF : orig.follows s) :
    orig.follows (gateTake s m c) := by
  unfold gateTake
  repeat' (first | with_reducible assumption | with_reducible apply modGate_follows | (dsimp only [State.follows_mk]; change State.follows _ _) | with_reducible apply State.follows.forEach | with_reducible apply State.follows.foldlFst | with_reducible apply State.follows.foldl | split | dsimp only | intro _ | decide)

theorem execGateHome_follows {orig : State} (m : Fin 16) (s : State) (hF : orig.follows s) : Out.follows orig (execGateHome m s) := by
  unfold execGateHome
  repeat' (first | with_reducible assumption | with_reducible apply Out.follows.next | with_reducible apply rowCmd_follows | with_reducible apply gateTake_follows | (dsimp only [State.follows_mk]; change State.follows _ _) | with_reducible apply State.follows.forEach | with_reducible apply State.follows.foldlFst | with_reducible apply State.follows.foldl | split | dsimp only | intro _ | decide)

theorem execGateAbort_follows {orig : State} (m : Fin 16) (s : State) (hF : orig.follows s) : Out.follows orig (execGateAbort m s) := by
  unfold execGateAbort
  repeat' (first | with_reducible assumption | with_reducible apply Out.follows.next | with_reducible apply rowCmd_follows | with_reducible apply gateTake_follows | (dsimp only [State.follows_mk]; change State.follows _ _) | with_reducible apply State.follows.forEach | with_reducible apply State.follows.foldlFst | with_reducible apply State.follows.foldl | split | dsimp only | intro _ | decide)

theorem execGateMove_follows {orig : State} (m : Fin 16) (s : State) (hF : orig.follows s) : Out.follows orig (execGateMove m s) := by
  unfold execGateMove
  repeat' (first | with_reducible assumption | with_reducible apply Out.follows.next | with_reducible apply rowCmd_follows | with_reducible apply gateTake_follows | (dsimp only [State.follows_mk]; change State.follows _ _) | with_reducible apply State.follows.forEach | with_reducible apply State.follows.foldlFst | with_reducible apply State.follows.foldl | split | dsimp only | intro _ | decide)

theorem gateOp_follows {orig : State} (s : State) (m op : Nat) (hF : orig.follows s) :
    orig.follows (gateOp s m op) := by
  unfold gateOp
  repeat' (first | with_reducible assumption | with_reducible apply gateTake_follows | (dsimp only [State.follows_mk]; change State.follows _ _) | with_reducible apply State.follows.forEach | with_reducible apply State.follows.foldlFst | with_reducible apply State.follows.foldl | split | dsimp only | intro _ | decide)

theorem execHomeTimeout_follows {orig : State} (m : Fin 16) (t : Ns) (s : State) (hF : orig.follows s) : Out.follows orig (execHomeTimeout m t s) := by
  unfold execHomeTimeout
  repeat' (first | with_reducible assumption | with_reducible apply Out.follows.next | with_reducible apply setNow_follows | with_reducible apply homeRelease_follows | with_reducible apply homeFault_follows | (dsimp only [State.follows_mk]; change State.follows _ _) | with_reducible apply State.follows.forEach | with_reducible apply State.follows.foldlFst | with_reducible apply State.follows.foldl | split | dsimp only | intro _ | decide)

theorem modMem_follows {orig : State} (s : State) (r i : Nat) (f : MemberRun → MemberRun) (hF : orig.follows s) :
    orig.follows (modMem s r i f) := by
  unfold modMem
  repeat' (first | with_reducible assumption | with_reducible apply setRoute_follows | (dsimp only [State.follows_mk]; change State.follows _ _) | with_reducible apply State.follows.forEach | with_reducible apply State.follows.foldlFst | with_reducible apply State.follows.foldl | split | dsimp only | intro _ | decide)

theorem modRoute_follows {orig : State} (s : State) (r : Nat) (f : Route → Route) (hF : orig.follows s) :
    orig.follows (modRoute s r f) := by
  unfold modRoute
  repeat' (first | with_reducible assumption | with_reducible apply setRoute_follows | (dsimp only [State.follows_mk]; change State.follows _ _) | with_reducible apply State.follows.forEach | with_reducible apply State.follows.foldlFst | with_reducible apply State.follows.foldl | split | dsimp only | intro _ | decide)

theorem routeRequest_follows {orig : State} (s : State) (r i b op : Nat) (hF : orig.follows s) :
    orig.follows (routeRequest s r i b op) := by
  unfold routeRequest
  repeat' (first | with_reducible assumption | with_reducible apply issueRequest_follows | (dsimp only [State.follows_mk]; change State.follows _ _) | with_reducible apply State.follows.forEach | with_reducible apply State.follows.foldlFst | with_reducible apply State.follows.foldl | split | dsimp only | intro _ | decide)

theorem gateRelease_follows {orig : State} (s : State) (m : Nat) (hF : orig.follows s) :
    orig.follows (gateRelease s m) := by
  unfold gateRelease
  repeat' (first | with_reducible assumption | with_reducible apply modGate_follows | with_reducible apply setTaper_follows | (dsimp only [State.follows_mk]; change State.follows _ _) | with_reducible apply State.follows.forEach | with_reducible apply State.follows.foldlFst | with_reducible apply State.follows.foldl | split | dsimp only | intro _ | decide)

theorem startMember_follows {orig : State} (s : State) (r i t : Nat) (hF : orig.follows s) :
    orig.follows (startMember s r i t) := by
  unfold startMember
  repeat' (first | with_reducible assumption | with_reducible apply modMem_follows | with_reducible apply modMot_follows | with_reducible apply modGate_follows | with_reducible apply setStl_follows | with_reducible apply routeRequest_follows | (dsimp only [State.follows_mk]; change State.follows _ _) | with_reducible apply State.follows.forEach | with_reducible apply State.follows.foldlFst | with_reducible apply State.follows.foldl | split | dsimp only | intro _ | decide)

theorem stopMember_follows {orig : State} (s : State) (r i t : Nat) (upstream : Bool) (hF : orig.follows s) :
    orig.follows (stopMember s r i t upstream) := by
  unfold stopMember
  repeat' (first | with_reducible assumption | with_reducible apply modMem_follows | with_reducible apply modMot_follows | with_reducible apply modGate_follows | with_reducible apply setStl_follows | with_reducible apply routeRequest_follows | (dsimp only [State.follows_mk]; change State.follows _ _) | with_reducible apply State.follows.forEach | with_reducible apply State.follows.foldlFst | with_reducible apply State.follows.foldl | split | dsimp only | intro _ | decide)

theorem routeRefuse_follows {orig : State} (s : State) (r : Nat) (hF : orig.follows s) :
    orig.follows (routeRefuse s r) := by
  unfold routeRefuse
  repeat' (first | with_reducible assumption | with_reducible apply stick_follows | (dsimp only [State.follows_mk]; change State.follows _ _) | with_reducible apply State.follows.forEach | with_reducible apply State.follows.foldlFst | with_reducible apply State.follows.foldl | split | dsimp only | intro _ | decide)

theorem routeStart_follows {orig : State} (s : State) (r t : Nat) (hF : orig.follows s) :
    orig.follows (routeStart s r t) := by
  unfold routeStart
  repeat' (first | with_reducible assumption | with_reducible apply startMember_follows | with_reducible apply modRoute_follows | with_reducible apply routeRefuse_follows | (dsimp only [State.follows_mk]; change State.follows _ _) | with_reducible apply State.follows.forEach | with_reducible apply State.follows.foldlFst | with_reducible apply State.follows.foldl | split | dsimp only | intro _ | decide)

theorem routeStop_follows {orig : State} (s : State) (r t : Nat) (hF : orig.follows s) :
    orig.follows (routeStop s r t) := by
  unfold routeStop
  repeat' (first | with_reducible assumption | with_reducible apply modRoute_follows | with_reducible apply stopMember_follows | with_reducible apply routeRefuse_follows | (dsimp only [State.follows_mk]; change State.follows _ _) | with_reducible apply State.follows.forEach | with_reducible apply State.follows.foldlFst | with_reducible apply State.follows.foldl | split | dsimp only | intro _ | decide)

theorem routeReset_follows {orig : State} (s : State) (r : Nat) (hF : orig.follows s) :
    orig.follows (routeReset s r) := by
  unfold routeReset
  repeat' (first | with_reducible assumption | with_reducible apply modRoute_follows | with_reducible apply routeRefuse_follows | (dsimp only [State.follows_mk]; change State.follows _ _) | with_reducible apply State.follows.forEach | with_reducible apply State.follows.foldlFst | with_reducible apply State.follows.foldl | split | dsimp only | intro _ | decide)

theorem routeFault_follows {orig : State} (s : State) (r f cause : Nat) (hF : orig.follows s) :
    orig.follows (routeFault s r f cause) := by
  unfold routeFault
  repeat' (first | with_reducible assumption | with_reducible apply logEv_follows | with_reducible apply modRoute_follows | (dsimp only [State.follows_mk]; change State.follows _ _) | with_reducible apply State.follows.forEach | with_reducible apply State.follows.foldlFst | with_reducible apply State.follows.foldl | split | dsimp only | intro _ | decide)

theorem runFault_follows {orig : State} (s : State) (r f cause t : Nat) (hF : orig.follows s) :
    orig.follows (runFault s r f cause t) := by
  unfold runFault
  repeat' (first | with_reducible assumption | with_reducible apply routeFault_follows | with_reducible apply stopMember_follows | (dsimp only [State.follows_mk]; change State.follows _ _) | with_reducible apply State.follows.forEach | with_reducible apply State.follows.foldlFst | with_reducible apply State.follows.foldl | split | dsimp only | intro _ | decide)

theorem startFault_follows {orig : State} (s : State) (r f t : Nat) (hF : orig.follows s) :
    orig.follows (startFault s r f t) := by
  unfold startFault
  repeat' (first | with_reducible assumption | with_reducible apply stopMember_follows | with_reducible apply routeFault_follows | (dsimp only [State.follows_mk]; change State.follows _ _) | with_reducible apply State.follows.forEach | with_reducible apply State.follows.foldlFst | with_reducible apply State.follows.foldl | split | dsimp only | intro _ | decide)

theorem proveMember_follows {orig : State} (s : State) (r i t : Nat) (hF : orig.follows s) :
    orig.follows (proveMember s r i t) := by
  unfold proveMember
  repeat' (first | with_reducible assumption | with_reducible apply modMem_follows | with_reducible apply logEv_follows | with_reducible apply modRoute_follows | with_reducible apply startMember_follows | (dsimp only [State.follows_mk]; change State.follows _ _) | with_reducible apply State.follows.forEach | with_reducible apply State.follows.foldlFst | with_reducible apply State.follows.foldl | split | dsimp only | intro _ | decide)

theorem noteRest_follows {orig : State} (s : State) (r i t : Nat) (hF : orig.follows s) :
    orig.follows (noteRest s r i t) := by
  unfold noteRest
  repeat' (first | with_reducible assumption | with_reducible apply modMem_follows | (dsimp only [State.follows_mk]; change State.follows _ _) | with_reducible apply State.follows.forEach | with_reducible apply State.follows.foldlFst | with_reducible apply State.follows.foldl | split | dsimp only | intro _ | decide)

theorem runOut_follows {orig : State} (s : State) (r i t : Nat) (hF : orig.follows s) :
    orig.follows (runOut s r i t) := by
  unfold runOut
  repeat' (first | with_reducible assumption | with_reducible apply stopMember_follows | (dsimp only [State.follows_mk]; change State.follows _ _) | with_reducible apply State.follows.forEach | with_reducible apply State.follows.foldlFst | with_reducible apply State.follows.foldl | split | dsimp only | intro _ | decide)

theorem endStop_follows {orig : State} (s : State) (r : Nat) (hF : orig.follows s) :
    orig.follows (endStop s r) := by
  unfold endStop
  repeat' (first | with_reducible assumption | with_reducible apply logEv_follows | with_reducible apply setRoute_follows | (dsimp only [State.follows_mk]; change State.follows _ _) | with_reducible apply State.follows.forEach | with_reducible apply State.follows.foldlFst | with_reducible apply State.follows.foldl | split | dsimp only | intro _ | decide)

theorem noteProof_follows {orig : State} (s : State) (r i t : Nat) (hF : orig.follows s) :
    orig.follows (noteProof s r i t) := by
  unfold noteProof
  repeat' (first | with_reducible assumption | with_reducible apply modMem_follows | (dsimp only [State.follows_mk]; change State.follows _ _) | with_reducible apply State.follows.forEach | with_reducible apply State.follows.foldlFst | with_reducible apply State.follows.foldl | split | dsimp only | intro _ | decide)

theorem takeReplies_follows {orig : State} (s : State) (r : Nat) (hF : orig.follows s) :
    orig.follows (takeReplies s r) := by
  unfold takeReplies
  repeat' (first | with_reducible assumption | with_reducible apply takeMsgs_follows | with_reducible apply modMem_follows | (dsimp only [State.follows_mk]; change State.follows _ _) | with_reducible apply State.follows.forEach | with_reducible apply State.follows.foldlFst | with_reducible apply State.follows.foldl | split | dsimp only | intro _ | decide)

theorem serveRoute_follows {orig : State} (s : State) (r : Nat) (hF : orig.follows s) :
    orig.follows (serveRoute s r) := by
  unfold serveRoute
  repeat' (first | with_reducible assumption | with_reducible apply modRoute_follows | with_reducible apply answerTo_follows | with_reducible apply takeMsgs_follows | (dsimp only [State.follows_mk]; change State.follows _ _) | with_reducible apply State.follows.forEach | with_reducible apply State.follows.foldlFst | with_reducible apply State.follows.foldl | split | dsimp only | intro _ | decide)

theorem askRemotes_follows {orig : State} (s : State) (r : Nat) (hF : orig.follows s) :
    orig.follows (askRemotes s r) := by
  unfold askRemotes
  repeat' (first | with_reducible assumption | with_reducible apply routeRequest_follows | (dsimp only [State.follows_mk]; change State.follows _ _) | with_reducible apply State.follows.forEach | with_reducible apply State.follows.foldlFst | with_reducible apply State.follows.foldl | split | dsimp only | intro _ | decide)

theorem advanceRoute_follows {orig : State} (s : State) (r t : Nat) (hF : orig.follows s) :
    orig.follows (advanceRoute s r t) := by
  unfold advanceRoute
  repeat' (first | with_reducible assumption | with_reducible apply noteProof_follows | with_reducible apply proveMember_follows | with_reducible apply startFault_follows | with_reducible apply runFault_follows | with_reducible apply noteRest_follows | with_reducible apply endStop_follows | with_reducible apply runOut_follows | (dsimp only [State.follows_mk]; change State.follows _ _) | with_reducible apply State.follows.forEach | with_reducible apply State.follows.foldlFst | with_reducible apply State.follows.foldl | split | dsimp only | intro _ | decide)

theorem runRoute_follows {orig : State} (s : State) (r t : Nat) (hF : orig.follows s) :
    orig.follows (runRoute s r t) := by
  unfold runRoute
  repeat' (first | with_reducible assumption | with_reducible apply serveRoute_follows | with_reducible apply takeReplies_follows | with_reducible apply modRoute_follows | with_reducible apply routeStart_follows | with_reducible apply routeStop_follows | with_reducible apply routeReset_follows | with_reducible apply askRemotes_follows | with_reducible apply advanceRoute_follows | (dsimp only [State.follows_mk]; change State.follows _ _) | with_reducible apply State.follows.forEach | with_reducible apply State.follows.foldlFst | with_reducible apply State.follows.foldl | split | dsimp only | intro _ | decide)

theorem routeTake_follows {orig : State} (s : State) (r : Nat) (c : RouteCmd) (hF : orig.follows s) :
    orig.follows (routeTake s r c) := by
  unfold routeTake
  repeat' (first | with_reducible assumption | with_reducible apply modRoute_follows | (dsimp only [State.follows_mk]; change State.follows _ _) | with_reducible apply State.follows.forEach | with_reducible apply State.follows.foldlFst | with_reducible apply State.follows.foldl | split | dsimp only | intro _ | decide)

theorem execRouteStart_follows {orig : State} (r : Fin 32) (s : State) (hF : orig.follows s) : Out.follows orig (execRouteStart r s) := by
  unfold execRouteStart
  repeat' (first | with_reducible assumption | with_reducible apply Out.follows.next | with_reducible apply rowCmd_follows | with_reducible apply routeTake_follows | (dsimp only [State.follows_mk]; change State.follows _ _) | with_reducible apply State.follows.forEach | with_reducible apply State.follows.foldlFst | with_reducible apply State.follows.foldl | split | dsimp only | intro _ | decide)

theorem execRouteStop_follows {orig : State} (r : Fin 32) (s : State) (hF : orig.follows s) : Out.follows orig (execRouteStop r s) := by
  unfold execRouteStop
  repeat' (first | with_reducible assumption | with_reducible apply Out.follows.next | with_reducible apply rowCmd_follows | with_reducible apply routeTake_follows | (dsimp only [State.follows_mk]; change State.follows _ _) | with_reducible apply State.follows.forEach | with_reducible apply State.follows.foldlFst | with_reducible apply State.follows.foldl | split | dsimp only | intro _ | decide)

theorem execRouteReset_follows {orig : State} (r : Fin 32) (s : State) (hF : orig.follows s) : Out.follows orig (execRouteReset r s) := by
  unfold execRouteReset
  repeat' (first | with_reducible assumption | with_reducible apply Out.follows.next | with_reducible apply rowCmd_follows | with_reducible apply routeTake_follows | (dsimp only [State.follows_mk]; change State.follows _ _) | with_reducible apply State.follows.forEach | with_reducible apply State.follows.foldlFst | with_reducible apply State.follows.foldl | split | dsimp only | intro _ | decide)

theorem routeOp_follows {orig : State} (s : State) (r op : Nat) (hF : orig.follows s) :
    orig.follows (routeOp s r op) := by
  unfold routeOp
  repeat' (first | with_reducible assumption | with_reducible apply routeTake_follows | (dsimp only [State.follows_mk]; change State.follows _ _) | with_reducible apply State.follows.forEach | with_reducible apply State.follows.foldlFst | with_reducible apply State.follows.foldl | split | dsimp only | intro _ | decide)

theorem execProofTimeout_follows {orig : State} (r : Fin 32) (i : Fin 16) (t : Ns) (s : State) (hF : orig.follows s) : Out.follows orig (execProofTimeout r i t s) := by
  unfold execProofTimeout
  repeat' (first | with_reducible assumption | with_reducible apply Out.follows.next | with_reducible apply setNow_follows | with_reducible apply startFault_follows | (dsimp only [State.follows_mk]; change State.follows _ _) | with_reducible apply State.follows.forEach | with_reducible apply State.follows.foldlFst | with_reducible apply State.follows.foldl | split | dsimp only | intro _ | decide)

theorem execMemberProved_follows {orig : State} (r : Fin 32) (i : Fin 16) (t : Ns) (s : State) (hF : orig.follows s) : Out.follows orig (execMemberProved r i t s) := by
  unfold execMemberProved
  repeat' (first | with_reducible assumption | with_reducible apply Out.follows.next | with_reducible apply setNow_follows | with_reducible apply proveMember_follows | (dsimp only [State.follows_mk]; change State.follows _ _) | with_reducible apply State.follows.forEach | with_reducible apply State.follows.foldlFst | with_reducible apply State.follows.foldl | split | dsimp only | intro _ | decide)

theorem execRunOutComplete_follows {orig : State} (r : Fin 32) (i : Fin 16) (t : Ns) (s : State) (hF : orig.follows s) : Out.follows orig (execRunOutComplete r i t s) := by
  unfold execRunOutComplete
  repeat' (first | with_reducible assumption | with_reducible apply Out.follows.next | with_reducible apply runOut_follows | with_reducible apply setNow_follows | (dsimp only [State.follows_mk]; change State.follows _ _) | with_reducible apply State.follows.forEach | with_reducible apply State.follows.foldlFst | with_reducible apply State.follows.foldl | split | dsimp only | intro _ | decide)

theorem declareSlip_follows {orig : State} (s : State) (i : Nat) (hF : orig.follows s) :
    orig.follows (declareSlip s i) := by
  unfold declareSlip
  repeat' (first | with_reducible assumption | with_reducible apply logEv_follows | with_reducible apply stick_follows | with_reducible apply setSlip_follows | with_reducible apply modMem_follows | (dsimp only [State.follows_mk]; change State.follows _ _) | with_reducible apply State.follows.forEach | with_reducible apply State.follows.foldlFst | with_reducible apply State.follows.foldl | split | dsimp only | intro _ | decide)

theorem runSlip_follows {orig : State} (s : State) (i t : Nat) (hF : orig.follows s) :
    orig.follows (runSlip s i t) := by
  unfold runSlip
  repeat' (first | with_reducible assumption | with_reducible apply setSlip_follows | with_reducible apply declareSlip_follows | (dsimp only [State.follows_mk]; change State.follows _ _) | with_reducible apply State.follows.forEach | with_reducible apply State.follows.foldlFst | with_reducible apply State.follows.foldl | split | dsimp only | intro _ | decide)

theorem execBeltSlip_follows {orig : State} (i : Fin 64) (t : Ns) (s : State) (hF : orig.follows s) : Out.follows orig (execBeltSlip i t s) := by
  unfold execBeltSlip
  repeat' (first | with_reducible assumption | with_reducible apply Out.follows.next | with_reducible apply setNow_follows | with_reducible apply declareSlip_follows | (dsimp only [State.follows_mk]; change State.follows _ _) | with_reducible apply State.follows.forEach | with_reducible apply State.follows.foldlFst | with_reducible apply State.follows.foldl | split | dsimp only | intro _ | decide)

theorem divNow_follows {orig : State} (s : State) (n : Nat) (x : Inst) (dest : Nat) (hF : orig.follows s) :
    orig.follows (divNow s n x dest) := by
  unfold divNow
  repeat' (first | with_reducible assumption | with_reducible apply setStl_follows | with_reducible apply setSol_follows | with_reducible apply keepPost_follows | with_reducible apply report_follows | (dsimp only [State.follows_mk]; change State.follows _ _) | with_reducible apply State.follows.forEach | with_reducible apply State.follows.foldlFst | with_reducible apply State.follows.foldl | split | dsimp only | intro _ | decide)

theorem divBoundary_follows {orig : State} (s : State) (n i : Nat) (x : Inst) (xb : Int) (dest : Nat) (hF : orig.follows s) :
    orig.follows (divBoundary s n i x xb dest) := by
  unfold divBoundary
  repeat' (first | with_reducible assumption | with_reducible apply stick_follows | with_reducible apply divNow_follows | (dsimp only [State.follows_mk]; change State.follows _ _) | with_reducible apply State.follows.forEach | with_reducible apply State.follows.foldlFst | with_reducible apply State.follows.foldl | split | dsimp only | intro _ | decide)

theorem divReport_follows {orig : State} (s : State) (n i : Nat) (x : Inst) (slot st : Nat) (hF : orig.follows s) :
    orig.follows (divReport s n i x slot st) := by
  unfold divReport
  repeat' (first | with_reducible assumption | with_reducible apply stick_follows | with_reducible apply divNow_follows | (dsimp only [State.follows_mk]; change State.follows _ _) | with_reducible apply State.follows.forEach | with_reducible apply State.follows.foldlFst | with_reducible apply State.follows.foldl | split | dsimp only | intro _ | decide)

theorem runDiverter_follows {orig : State} (s : State) (n : Nat) (x : Inst) (hF : orig.follows s) :
    orig.follows (runDiverter s n x) := by
  unfold runDiverter
  repeat' (first | with_reducible assumption | with_reducible apply takeMsgs_follows | with_reducible apply divBoundary_follows | with_reducible apply report_follows | with_reducible apply divReport_follows | (dsimp only [State.follows_mk]; change State.follows _ _) | with_reducible apply State.follows.forEach | with_reducible apply State.follows.foldlFst | with_reducible apply State.follows.foldl | split | dsimp only | intro _ | decide)

end Sys2Proof.Machine
end

