-- ==== Sys2Proof/Laws/FollowsWick.lean ====
section
/-!
SUPPORT. Every operation of Machine/Wick.lean keeps `State.follows`: it leaves the queue alone, the recorder follows, no floor and
no epoch falls, and SAFE_OUT_N stays as R403 has it.
-/
namespace Sys2Proof.Machine

open Sys2Proof

theorem countTick_follows {orig : State} (s : State) (w : Nat) (rev : Bool) (t : Nat) (hF : orig.follows s) :
    orig.follows (countTick s w rev t) := by
  unfold countTick
  repeat' (first | with_reducible assumption | with_reducible apply setWick_follows | with_reducible apply lltTick_follows | with_reducible apply stepCount_follows | (dsimp only [State.follows_mk]; change State.follows _ _) | with_reducible apply State.follows.forEach | with_reducible apply State.follows.foldlFst | with_reducible apply State.follows.foldl | split | dsimp only | intro _ | decide)

theorem countTicks_follows {orig : State} (s : State) (w : Nat) (rev : Bool) (n t : Nat) (hF : orig.follows s) :
    orig.follows (countTicks s w rev n t) := by
  unfold countTicks
  repeat' (first | with_reducible assumption | with_reducible apply countTick_follows | (dsimp only [State.follows_mk]; change State.follows _ _) | with_reducible apply State.follows.forEach | with_reducible apply State.follows.foldlFst | with_reducible apply State.follows.foldl | split | dsimp only | intro _ | decide)

theorem loseWick_follows {orig : State} (s : State) (w t : Nat) (hF : orig.follows s) :
    orig.follows (loseWick s w t) := by
  unfold loseWick
  repeat' (first | with_reducible assumption | with_reducible apply lltLost_follows | with_reducible apply dropHomed_follows | with_reducible apply motWickLost_follows | with_reducible apply logEv_follows | with_reducible apply setWick_follows | (dsimp only [State.follows_mk]; change State.follows _ _) | with_reducible apply State.follows.forEach | with_reducible apply State.follows.foldlFst | with_reducible apply State.follows.foldl | split | dsimp only | intro _ | decide)

theorem recoverWick_follows {orig : State} (s : State) (w : Nat) (hF : orig.follows s) :
    orig.follows (recoverWick s w) := by
  unfold recoverWick
  repeat' (first | with_reducible assumption | with_reducible apply setWick_follows | with_reducible apply lltRecover_follows | with_reducible apply logEv_follows | with_reducible apply stick_follows | (dsimp only [State.follows_mk]; change State.follows _ _) | with_reducible apply State.follows.forEach | with_reducible apply State.follows.foldlFst | with_reducible apply State.follows.foldl | split | dsimp only | intro _ | decide)

theorem phaseError_follows {orig : State} (s : State) (w : Nat) (hF : orig.follows s) :
    orig.follows (phaseError s w) := by
  unfold phaseError
  repeat' (first | with_reducible assumption | with_reducible apply logEv_follows | with_reducible apply stick_follows | with_reducible apply setWick_follows | (dsimp only [State.follows_mk]; change State.follows _ _) | with_reducible apply State.follows.forEach | with_reducible apply State.follows.foldlFst | with_reducible apply State.follows.foldl | split | dsimp only | intro _ | decide)

theorem decodedTick_follows {orig : State} (s : State) (w : Nat) (rev : Bool) (t : Nat) (hF : orig.follows s) :
    orig.follows (decodedTick s w rev t) := by
  unfold decodedTick
  repeat' (first | with_reducible assumption | with_reducible apply countTick_follows | (dsimp only [State.follows_mk]; change State.follows _ _) | with_reducible apply State.follows.forEach | with_reducible apply State.follows.foldlFst | with_reducible apply State.follows.foldl | split | dsimp only | intro _ | decide)

theorem setHall_follows {orig : State} (s : State) (w c : Nat) (hF : orig.follows s) :
    orig.follows (setHall s w c) := by
  unfold setHall
  repeat' (first | with_reducible assumption | with_reducible apply setWick_follows | (dsimp only [State.follows_mk]; change State.follows _ _) | with_reducible apply State.follows.forEach | with_reducible apply State.follows.foldlFst | with_reducible apply State.follows.foldl | split | dsimp only | intro _ | decide)

theorem hallEdge_follows {orig : State} (s : State) (w t c : Nat) (hF : orig.follows s) :
    orig.follows (hallEdge s w t c) := by
  unfold hallEdge
  repeat' (first | with_reducible assumption | with_reducible apply setHall_follows | with_reducible apply decodedTick_follows | with_reducible apply phaseError_follows | (dsimp only [State.follows_mk]; change State.follows _ _) | with_reducible apply State.follows.forEach | with_reducible apply State.follows.foldlFst | with_reducible apply State.follows.foldl | split | dsimp only | intro _ | decide)

theorem mainsCross_follows {orig : State} (s : State) (w t : Nat) (hF : orig.follows s) :
    orig.follows (mainsCross s w t) := by
  unfold mainsCross
  repeat' (first | with_reducible assumption | with_reducible apply countTick_follows | with_reducible apply setWick_follows | with_reducible apply loseWick_follows | with_reducible apply recoverWick_follows | (dsimp only [State.follows_mk]; change State.follows _ _) | with_reducible apply State.follows.forEach | with_reducible apply State.follows.foldlFst | with_reducible apply State.follows.foldl | split | dsimp only | intro _ | decide)

theorem dormantTick_follows {orig : State} (s : State) (w : Nat) (rev : Bool) (t : Nat) (hF : orig.follows s) :
    orig.follows (dormantTick s w rev t) := by
  unfold dormantTick
  repeat' (first | with_reducible assumption | with_reducible apply stepCount_follows | with_reducible apply setWick_follows | (dsimp only [State.follows_mk]; change State.follows _ _) | with_reducible apply State.follows.forEach | with_reducible apply State.follows.foldlFst | with_reducible apply State.follows.foldl | split | dsimp only | intro _ | decide)

theorem dormantCross_follows {orig : State} (s : State) (w t : Nat) (hF : orig.follows s) :
    orig.follows (dormantCross s w t) := by
  unfold dormantCross
  repeat' (first | with_reducible assumption | with_reducible apply dormantTick_follows | with_reducible apply setWick_follows | (dsimp only [State.follows_mk]; change State.follows _ _) | with_reducible apply State.follows.forEach | with_reducible apply State.follows.foldlFst | with_reducible apply State.follows.foldl | split | dsimp only | intro _ | decide)

theorem dormantEdge_follows {orig : State} (s : State) (w t : Nat) (e : TickEdge) (hF : orig.follows s) :
    orig.follows (dormantEdge s w t e) := by
  unfold dormantEdge
  repeat' (first | with_reducible assumption | with_reducible apply dormantCross_follows | with_reducible apply setHall_follows | with_reducible apply dormantTick_follows | with_reducible apply phaseError_follows | (dsimp only [State.follows_mk]; change State.follows _ _) | with_reducible apply State.follows.forEach | with_reducible apply State.follows.foldlFst | with_reducible apply State.follows.foldl | split | dsimp only | intro _ | decide)

theorem takeEdge_follows {orig : State} (s : State) (w t : Nat) (e : TickEdge) (hF : orig.follows s) :
    orig.follows (takeEdge s w t e) := by
  unfold takeEdge
  repeat' (first | with_reducible assumption | with_reducible apply dormantEdge_follows | with_reducible apply mainsCross_follows | with_reducible apply setHall_follows | with_reducible apply hallEdge_follows | with_reducible apply decodedTick_follows | (dsimp only [State.follows_mk]; change State.follows _ _) | with_reducible apply State.follows.forEach | with_reducible apply State.follows.foldlFst | with_reducible apply State.follows.foldl | split | dsimp only | intro _ | decide)

theorem takeTimeout_follows {orig : State} (s : State) (w t : Nat) (hF : orig.follows s) :
    orig.follows (takeTimeout s w t) := by
  unfold takeTimeout
  repeat' (first | with_reducible assumption | with_reducible apply setWick_follows | (dsimp only [State.follows_mk]; change State.follows _ _) | with_reducible apply State.follows.forEach | with_reducible apply State.follows.foldlFst | with_reducible apply State.follows.foldl | split | dsimp only | intro _ | decide)

theorem takeHeld_follows {orig : State} (s : State) (l : List HeldTick) (hF : orig.follows s) :
    orig.follows (takeHeld s l) := by
  unfold takeHeld
  repeat' (first | with_reducible assumption | with_reducible apply takeEdge_follows | with_reducible apply takeTimeout_follows | (dsimp only [State.follows_mk]; change State.follows _ _) | with_reducible apply State.follows.forEach | with_reducible apply State.follows.foldlFst | with_reducible apply State.follows.foldl | split | dsimp only | intro _ | decide)

theorem flushHeld_follows {orig : State} (s : State) (t : Nat) (hF : orig.follows s) :
    orig.follows (flushHeld s t) := by
  unfold flushHeld
  repeat' (first | with_reducible assumption | with_reducible apply takeHeld_follows | (dsimp only [State.follows_mk]; change State.follows _ _) | with_reducible apply State.follows.forEach | with_reducible apply State.follows.foldlFst | with_reducible apply State.follows.foldl | split | dsimp only | intro _ | decide)

theorem tickEvent_follows {orig : State} (s : State) (w t : Nat) (e : Option TickEdge) (hF : orig.follows s) :
    orig.follows (tickEvent s w t e) := by
  unfold tickEvent
  repeat' (first | with_reducible assumption | with_reducible apply flushHeld_follows | with_reducible apply takeHeld_follows | (dsimp only [State.follows_mk]; change State.follows _ _) | with_reducible apply State.follows.forEach | with_reducible apply State.follows.foldlFst | with_reducible apply State.follows.foldl | split | dsimp only | intro _ | decide)

theorem execWickTick_follows {orig : State} (w : Fin 64) (t : Ns) (e : TickEdge) (s : State) (hF : orig.follows s) : Out.follows orig (execWickTick w t e s) := by
  unfold execWickTick
  repeat' (first | with_reducible assumption | with_reducible apply Out.follows.next | with_reducible apply tickEvent_follows | with_reducible apply setNow_follows | (dsimp only [State.follows_mk]; change State.follows _ _) | with_reducible apply State.follows.forEach | with_reducible apply State.follows.foldlFst | with_reducible apply State.follows.foldl | split | dsimp only | intro _ | decide)

theorem execWickPhaseError_follows {orig : State} (w : Fin 64) (t : Ns) (s : State) (hF : orig.follows s) : Out.follows orig (execWickPhaseError w t s) := by
  unfold execWickPhaseError
  repeat' (first | with_reducible assumption | with_reducible apply Out.follows.next | with_reducible apply setNow_follows | with_reducible apply phaseError_follows | (dsimp only [State.follows_mk]; change State.follows _ _) | with_reducible apply State.follows.forEach | with_reducible apply State.follows.foldlFst | with_reducible apply State.follows.foldl | split | dsimp only | intro _ | decide)

theorem execWickStandstillTimeout_follows {orig : State} (w : Fin 64) (t : Ns) (s : State) (hF : orig.follows s) : Out.follows orig (execWickStandstillTimeout w t s) := by
  unfold execWickStandstillTimeout
  repeat' (first | with_reducible assumption | with_reducible apply Out.follows.next | with_reducible apply tickEvent_follows | with_reducible apply setNow_follows | (dsimp only [State.follows_mk]; change State.follows _ _) | with_reducible apply State.follows.forEach | with_reducible apply State.follows.foldlFst | with_reducible apply State.follows.foldl | split | dsimp only | intro _ | decide)

theorem execWickLoss_follows {orig : State} (w : Fin 64) (t : Ns) (s : State) (hF : orig.follows s) : Out.follows orig (execWickLoss w t s) := by
  unfold execWickLoss
  repeat' (first | with_reducible assumption | with_reducible apply Out.follows.next | with_reducible apply setNow_follows | with_reducible apply loseWick_follows | (dsimp only [State.follows_mk]; change State.follows _ _) | with_reducible apply State.follows.forEach | with_reducible apply State.follows.foldlFst | with_reducible apply State.follows.foldl | split | dsimp only | intro _ | decide)

theorem execWickRecovery_follows {orig : State} (w : Fin 64) (t : Ns) (s : State) (hF : orig.follows s) : Out.follows orig (execWickRecovery w t s) := by
  unfold execWickRecovery
  repeat' (first | with_reducible assumption | with_reducible apply Out.follows.next | with_reducible apply setNow_follows | with_reducible apply recoverWick_follows | (dsimp only [State.follows_mk]; change State.follows _ _) | with_reducible apply State.follows.forEach | with_reducible apply State.follows.foldlFst | with_reducible apply State.follows.foldl | split | dsimp only | intro _ | decide)

theorem execMainsCrossingTimeout_follows {orig : State} (w : Fin 64) (t : Ns) (s : State) (hF : orig.follows s) : Out.follows orig (execMainsCrossingTimeout w t s) := by
  unfold execMainsCrossingTimeout
  repeat' (first | with_reducible assumption | with_reducible apply Out.follows.next | with_reducible apply setNow_follows | with_reducible apply setWick_follows | with_reducible apply loseWick_follows | (dsimp only [State.follows_mk]; change State.follows _ _) | with_reducible apply State.follows.forEach | with_reducible apply State.follows.foldlFst | with_reducible apply State.follows.foldl | split | dsimp only | intro _ | decide)

theorem execWickPresetRequest_follows {orig : State} (w : Fin 64) (v : Int) (s : State) (hF : orig.follows s) : Out.follows orig (execWickPresetRequest w v s) := by
  unfold execWickPresetRequest
  repeat' (first | with_reducible assumption | with_reducible apply Out.follows.next | with_reducible apply setWick_follows | (dsimp only [State.follows_mk]; change State.follows _ _) | with_reducible apply State.follows.forEach | with_reducible apply State.follows.foldlFst | with_reducible apply State.follows.foldl | split | dsimp only | intro _ | decide)

theorem execWickClearDiag_follows {orig : State} (w : Fin 64) (s : State) (hF : orig.follows s) : Out.follows orig (execWickClearDiag w s) := by
  unfold execWickClearDiag
  repeat' (first | with_reducible assumption | with_reducible apply Out.follows.next | with_reducible apply setWick_follows | (dsimp only [State.follows_mk]; change State.follows _ _) | with_reducible apply State.follows.forEach | with_reducible apply State.follows.foldlFst | with_reducible apply State.follows.foldl | split | dsimp only | intro _ | decide)

theorem execSubscribedWickLoss_follows {orig : State} (w : Fin 64) (t : Ns) (s : State) (hF : orig.follows s) : Out.follows orig (execSubscribedWickLoss w t s) := by
  unfold execSubscribedWickLoss
  repeat' (first | with_reducible assumption | with_reducible apply Out.follows.next | with_reducible apply setNow_follows | with_reducible apply loseWick_follows | (dsimp only [State.follows_mk]; change State.follows _ _) | with_reducible apply State.follows.forEach | with_reducible apply State.follows.foldlFst | with_reducible apply State.follows.foldl | split | dsimp only | intro _ | decide)

theorem compEval_follows {orig : State} (s : State) (w t : Nat) (hF : orig.follows s) :
    orig.follows (compEval s w t) := by
  unfold compEval
  repeat' (first | with_reducible assumption | with_reducible apply loseWick_follows | with_reducible apply setWick_follows | with_reducible apply recoverWick_follows | with_reducible apply countTicks_follows | (dsimp only [State.follows_mk]; change State.follows _ _) | with_reducible apply State.follows.forEach | with_reducible apply State.follows.foldlFst | with_reducible apply State.follows.foldl | split | dsimp only | intro _ | decide)

theorem subTicks_follows {orig : State} (s : State) (w : Nat) (dc : Int) (hF : orig.follows s) :
    orig.follows (subTicks s w dc) := by
  unfold subTicks
  repeat' (first | with_reducible assumption | with_reducible apply lltTick_follows | with_reducible apply stepCount_follows | with_reducible apply setWick_follows | (dsimp only [State.follows_mk]; change State.follows _ _) | with_reducible apply State.follows.forEach | with_reducible apply State.follows.foldlFst | with_reducible apply State.follows.foldl | split | dsimp only | intro _ | decide)

theorem subTake_follows {orig : State} (s : State) (w : Nat) (a b : SnapRec) (tau : Nat) (hF : orig.follows s) :
    orig.follows (subTake s w a b tau) := by
  unfold subTake
  repeat' (first | with_reducible assumption | with_reducible apply setWick_follows | with_reducible apply subTicks_follows | (dsimp only [State.follows_mk]; change State.follows _ _) | with_reducible apply State.follows.forEach | with_reducible apply State.follows.foldlFst | with_reducible apply State.follows.foldl | split | dsimp only | intro _ | decide)

theorem subEval_follows {orig : State} (s : State) (w t : Nat) (hF : orig.follows s) :
    orig.follows (subEval s w t) := by
  unfold subEval
  repeat' (first | with_reducible assumption | with_reducible apply setWick_follows | with_reducible apply loseWick_follows | with_reducible apply recoverWick_follows | with_reducible apply subTake_follows | (dsimp only [State.follows_mk]; change State.follows _ _) | with_reducible apply State.follows.forEach | with_reducible apply State.follows.foldlFst | with_reducible apply State.follows.foldl | split | dsimp only | intro _ | decide)

theorem latchWick_follows {orig : State} (s : State) (w t : Nat) (hF : orig.follows s) :
    orig.follows (latchWick s w t) := by
  unfold latchWick
  repeat' (first | with_reducible assumption | with_reducible apply setWick_follows | with_reducible apply addItem_follows | (dsimp only [State.follows_mk]; change State.follows _ _) | with_reducible apply State.follows.forEach | with_reducible apply State.follows.foldlFst | with_reducible apply State.follows.foldl | split | dsimp only | intro _ | decide)

theorem latchPresets_follows {orig : State} (s : State) (hF : orig.follows s) :
    orig.follows (latchPresets s) := by
  unfold latchPresets
  repeat' (first | with_reducible assumption | with_reducible apply applyPreset_follows | with_reducible apply setWick_follows | with_reducible apply dropHomed_follows | (dsimp only [State.follows_mk]; change State.follows _ _) | with_reducible apply State.follows.forEach | with_reducible apply State.follows.foldlFst | with_reducible apply State.follows.foldl | split | dsimp only | intro _ | decide)

theorem latchWicks_follows {orig : State} (s : State) (t : Nat) (hF : orig.follows s) :
    orig.follows (latchWicks s t) := by
  unfold latchWicks
  repeat' (first | with_reducible assumption | with_reducible apply flushHeld_follows | with_reducible apply latchPresets_follows | with_reducible apply subEval_follows | with_reducible apply latchWick_follows | with_reducible apply compEval_follows | with_reducible apply takeHeld_follows | (dsimp only [State.follows_mk]; change State.follows _ _) | with_reducible apply State.follows.forEach | with_reducible apply State.follows.foldlFst | with_reducible apply State.follows.foldl | split | dsimp only | intro _ | decide)

end Sys2Proof.Machine
end

