-- ==== Sys2Proof/Laws/FollowsUpstream.lean ====
section
/-!
SUPPORT. Every operation of Machine/Upstream.lean keeps `State.follows`: it leaves the queue alone, the recorder follows, no floor and
no epoch falls, and SAFE_OUT_N stays as R403 has it.
-/
namespace Sys2Proof.Machine

open Sys2Proof

theorem takeFlags_follows {orig : State} (s : State) (i : Nat) (f : StallFlags) (hF : orig.follows s) :
    orig.follows (takeFlags s i f) := by
  unfold takeFlags
  repeat' (first | with_reducible assumption | with_reducible apply setStl_follows | with_reducible apply stick_follows | with_reducible apply logEv_follows | (dsimp only [State.follows_mk]; change State.follows _ _) | with_reducible apply State.follows.forEach | with_reducible apply State.follows.foldlFst | with_reducible apply State.follows.foldl | split | dsimp only | intro _ | decide)

theorem loseCnt_follows {orig : State} (s : State) (n t : Nat) (hF : orig.follows s) :
    orig.follows (loseCnt s n t) := by
  unfold loseCnt
  repeat' (first | with_reducible assumption | with_reducible apply loseWick_follows | with_reducible apply setWick_follows | (dsimp only [State.follows_mk]; change State.follows _ _) | with_reducible apply State.follows.forEach | with_reducible apply State.follows.foldlFst | with_reducible apply State.follows.foldl | split | dsimp only | intro _ | decide)

theorem cntTicks_follows {orig : State} (s : State) (i w : Nat) (d : Int) (stamp : Nat) (hF : orig.follows s) :
    orig.follows (cntTicks s i w d stamp) := by
  unfold cntTicks
  repeat' (first | with_reducible assumption | with_reducible apply countTicks_follows | (dsimp only [State.follows_mk]; change State.follows _ _) | with_reducible apply State.follows.forEach | with_reducible apply State.follows.foldlFst | with_reducible apply State.follows.foldl | split | dsimp only | intro _ | decide)

theorem takeRec_follows {orig : State} (s : State) (n : Nat) (r : UpRec) (hF : orig.follows s) :
    orig.follows (takeRec s n r) := by
  unfold takeRec
  repeat' (first | with_reducible assumption | with_reducible apply addItem_follows | with_reducible apply takeFlags_follows | with_reducible apply setStl_follows | with_reducible apply gateEdge_follows | with_reducible apply stick_follows | with_reducible apply useFree_follows | with_reducible apply cntTicks_follows | (dsimp only [State.follows_mk]; change State.follows _ _) | with_reducible apply State.follows.forEach | with_reducible apply State.follows.foldlFst | with_reducible apply State.follows.foldl | split | dsimp only | intro _ | decide)

theorem takeField_follows {orig : State} (s : State) (i t : Nat) (hF : orig.follows s) :
    orig.follows (takeField s i t) := by
  unfold takeField
  repeat' (first | with_reducible assumption | with_reducible apply takeFlags_follows | with_reducible apply setStl_follows | with_reducible apply useFree_follows | (dsimp only [State.follows_mk]; change State.follows _ _) | with_reducible apply State.follows.forEach | with_reducible apply State.follows.foldlFst | with_reducible apply State.follows.foldl | split | dsimp only | intro _ | decide)

theorem noteMaps_follows {orig : State} (old s : State) (n : Nat) (hF : orig.follows s) :
    orig.follows (noteMaps old s n) := by
  unfold noteMaps
  repeat' (first | with_reducible assumption | with_reducible apply addItem_follows | (dsimp only [State.follows_mk]; change State.follows _ _) | with_reducible apply State.follows.forEach | with_reducible apply State.follows.foldlFst | with_reducible apply State.follows.foldl | split | dsimp only | intro _ | decide)

theorem takeMaps_follows {orig : State} (s : State) (n di do_ : Nat) (hF : orig.follows s) :
    orig.follows (takeMaps s n di do_) := by
  unfold takeMaps
  repeat' (first | with_reducible assumption | with_reducible apply setStl_follows | (dsimp only [State.follows_mk]; change State.follows _ _) | with_reducible apply State.follows.forEach | with_reducible apply State.follows.foldlFst | with_reducible apply State.follows.foldl | split | dsimp only | intro _ | decide)

theorem takeUp_follows {orig : State} (s : State) (n t : Nat) (hF : orig.follows s) :
    orig.follows (takeUp s n t) := by
  unfold takeUp
  repeat' (first | with_reducible assumption | with_reducible apply setAis_follows | with_reducible apply logEv_follows | with_reducible apply stick_follows | with_reducible apply takeRec_follows | with_reducible apply noteMaps_follows | with_reducible apply takeField_follows | with_reducible apply setStl_follows | with_reducible apply loseCnt_follows | (dsimp only [State.follows_mk]; change State.follows _ _) | with_reducible apply State.follows.forEach | with_reducible apply State.follows.foldlFst | with_reducible apply State.follows.foldl | split | dsimp only | intro _ | decide)

theorem badSubframe_follows {orig : State} (s : State) (n : Nat) (up : Bool) (hF : orig.follows s) :
    orig.follows (badSubframe s n up) := by
  unfold badSubframe
  repeat' (first | with_reducible assumption | with_reducible apply setAis_follows | with_reducible apply setStl_follows | with_reducible apply lltSendAhead_follows | (dsimp only [State.follows_mk]; change State.follows _ _) | with_reducible apply State.follows.forEach | with_reducible apply State.follows.foldlFst | with_reducible apply State.follows.foldl | split | dsimp only | intro _ | decide)

theorem execAisleUpstreamSubframe_follows {orig : State} (n : Fin 8) (t : Ns) (valid : Bool) (s : State) (hF : orig.follows s) : Out.follows orig (execAisleUpstreamSubframe n t valid s) := by
  unfold execAisleUpstreamSubframe
  repeat' (first | with_reducible assumption | with_reducible apply Out.follows.next | with_reducible apply setNow_follows | with_reducible apply badSubframe_follows | with_reducible apply takeUp_follows | (dsimp only [State.follows_mk]; change State.follows _ _) | with_reducible apply State.follows.forEach | with_reducible apply State.follows.foldlFst | with_reducible apply State.follows.foldl | split | dsimp only | intro _ | decide)

theorem takeConfig_follows {orig : State} (s : State) (n : Nat) (hF : orig.follows s) :
    orig.follows (takeConfig s n) := by
  unfold takeConfig
  repeat' (first | with_reducible assumption | with_reducible apply setAis_follows | with_reducible apply setStl_follows | (dsimp only [State.follows_mk]; change State.follows _ _) | with_reducible apply State.follows.forEach | with_reducible apply State.follows.foldlFst | with_reducible apply State.follows.foldl | split | dsimp only | intro _ | decide)

theorem takeTimed_follows {orig : State} (s : State) (n t : Nat) (x : TimedDo) (hF : orig.follows s) :
    orig.follows (takeTimed s n t x) := by
  unfold takeTimed
  repeat' (first | with_reducible assumption | with_reducible apply setLevel_follows | with_reducible apply setStl_follows | with_reducible apply markLate_follows | with_reducible apply setAis_follows | (dsimp only [State.follows_mk]; change State.follows _ _) | with_reducible apply State.follows.forEach | with_reducible apply State.follows.foldlFst | with_reducible apply State.follows.foldl | split | dsimp only | intro _ | decide)

theorem takeDown_follows {orig : State} (s : State) (n t : Nat) (hF : orig.follows s) :
    orig.follows (takeDown s n t) := by
  unfold takeDown
  repeat' (first | with_reducible assumption | with_reducible apply setAis_follows | with_reducible apply takeConfig_follows | with_reducible apply setLevel_follows | with_reducible apply lltSendAhead_follows | with_reducible apply takeTimed_follows | (dsimp only [State.follows_mk]; change State.follows _ _) | with_reducible apply State.follows.forEach | with_reducible apply State.follows.foldlFst | with_reducible apply State.follows.foldl | split | dsimp only | intro _ | decide)

theorem execAisleDownstreamSubframe_follows {orig : State} (n : Fin 8) (t : Ns) (valid : Bool) (s : State) (hF : orig.follows s) : Out.follows orig (execAisleDownstreamSubframe n t valid s) := by
  unfold execAisleDownstreamSubframe
  repeat' (first | with_reducible assumption | with_reducible apply Out.follows.next | with_reducible apply setNow_follows | with_reducible apply takeDown_follows | with_reducible apply badSubframe_follows | (dsimp only [State.follows_mk]; change State.follows _ _) | with_reducible apply State.follows.forEach | with_reducible apply State.follows.foldlFst | with_reducible apply State.follows.foldl | split | dsimp only | intro _ | decide)

theorem lostStall_follows {orig : State} (s : State) (i : Nat) (hF : orig.follows s) :
    orig.follows (lostStall s i) := by
  unfold lostStall
  repeat' (first | with_reducible assumption | with_reducible apply setStl_follows | (dsimp only [State.follows_mk]; change State.follows _ _) | with_reducible apply State.follows.forEach | with_reducible apply State.follows.foldlFst | with_reducible apply State.follows.foldl | split | dsimp only | intro _ | decide)

theorem execCoreLinkLost_follows {orig : State} (n : Fin 8) (t : Ns) (s : State) (hF : orig.follows s) : Out.follows orig (execCoreLinkLost n t s) := by
  unfold execCoreLinkLost
  repeat' (first | with_reducible assumption | with_reducible apply Out.follows.next | with_reducible apply setNow_follows | with_reducible apply setAis_follows | with_reducible apply logEv_follows | with_reducible apply stick_follows | with_reducible apply loseCnt_follows | with_reducible apply dropSets_follows | with_reducible apply lostStall_follows | (dsimp only [State.follows_mk]; change State.follows _ _) | with_reducible apply State.follows.forEach | with_reducible apply State.follows.foldlFst | with_reducible apply State.follows.foldl | split | dsimp only | intro _ | decide)

theorem lostItems_follows {orig : State} (s : State) (n : Nat) (hF : orig.follows s) :
    orig.follows (lostItems s n) := by
  unfold lostItems
  repeat' (first | with_reducible assumption | with_reducible apply addItem_follows | (dsimp only [State.follows_mk]; change State.follows _ _) | with_reducible apply State.follows.forEach | with_reducible apply State.follows.foldlFst | with_reducible apply State.follows.foldl | split | dsimp only | intro _ | decide)

theorem resumeBits_follows {orig : State} (s : State) (hF : orig.follows s) :
    orig.follows (resumeBits s) := by
  unfold resumeBits
  repeat' (first | with_reducible assumption | with_reducible apply setAis_follows | (dsimp only [State.follows_mk]; change State.follows _ _) | with_reducible apply State.follows.forEach | with_reducible apply State.follows.foldlFst | with_reducible apply State.follows.foldl | split | dsimp only | intro _ | decide)

end Sys2Proof.Machine
end

