-- ==== Sys2Proof/Laws/FollowsMoist.lean ====
section
/-!
SUPPORT. Every operation of Machine/Moist.lean keeps `State.follows`: it leaves the queue alone, the recorder follows, no floor and
no epoch falls, and SAFE_OUT_N stays as R403 has it.
-/
namespace Sys2Proof.Machine

open Sys2Proof

theorem execMeasurementSetStart_follows {orig : State} (n : Fin 8) (t : Ns) (s : State) (hF : orig.follows s) : Out.follows orig (execMeasurementSetStart n t s) := by
  unfold execMeasurementSetStart
  repeat' (first | with_reducible assumption | with_reducible apply Out.follows.next | with_reducible apply setNow_follows | with_reducible apply setChan_follows | (dsimp only [State.follows_mk]; change State.follows _ _) | with_reducible apply State.follows.forEach | with_reducible apply State.follows.foldlFst | with_reducible apply State.follows.foldl | split | dsimp only | intro _ | decide)

theorem execMeasurementSetEnd_follows {orig : State} (c : Fin 32) (t : Ns) (r : SetReading) (s : State) (hF : orig.follows s) : Out.follows orig (execMeasurementSetEnd c t r s) := by
  unfold execMeasurementSetEnd
  repeat' (first | with_reducible assumption | with_reducible apply Out.follows.next | with_reducible apply setNow_follows | with_reducible apply t0_follows | with_reducible apply addItem_follows | with_reducible apply setChan_follows | (dsimp only [State.follows_mk]; change State.follows _ _) | with_reducible apply State.follows.forEach | with_reducible apply State.follows.foldlFst | with_reducible apply State.follows.foldl | split | dsimp only | intro _ | decide)

theorem takeSet_follows {orig : State} (s : State) (c : Nat) (p : Nat × SetRec) (hF : orig.follows s) :
    orig.follows (takeSet s c p) := by
  unfold takeSet
  repeat' (first | with_reducible assumption | with_reducible apply setChan_follows | (dsimp only [State.follows_mk]; change State.follows _ _) | with_reducible apply State.follows.forEach | with_reducible apply State.follows.foldlFst | with_reducible apply State.follows.foldl | split | dsimp only | intro _ | decide)

theorem runMoist_follows {orig : State} (s : State) (i : Nat) (x : Inst) (hF : orig.follows s) :
    orig.follows (runMoist s i x) := by
  unfold runMoist
  repeat' (first | with_reducible assumption | with_reducible apply setChan_follows | with_reducible apply takeSet_follows | with_reducible apply postTo_follows | (dsimp only [State.follows_mk]; change State.follows _ _) | with_reducible apply State.follows.forEach | with_reducible apply State.follows.foldlFst | with_reducible apply State.follows.foldl | split | dsimp only | intro _ | decide)

theorem mstResult_follows {orig : State} (s : State) (c op res : Nat) (hF : orig.follows s) :
    orig.follows (mstResult s c op res) := by
  unfold mstResult
  repeat' (first | with_reducible assumption | with_reducible apply setChan_follows | (dsimp only [State.follows_mk]; change State.follows _ _) | with_reducible apply State.follows.forEach | with_reducible apply State.follows.foldlFst | with_reducible apply State.follows.foldl | split | dsimp only | intro _ | decide)

theorem calStart_follows {orig : State} (s : State) (c op : Nat) (k : MstOp) (hF : orig.follows s) :
    orig.follows (calStart s c op k) := by
  unfold calStart
  repeat' (first | with_reducible assumption | with_reducible apply mstResult_follows | with_reducible apply setChan_follows | (dsimp only [State.follows_mk]; change State.follows _ _) | with_reducible apply State.follows.forEach | with_reducible apply State.follows.foldlFst | with_reducible apply State.follows.foldl | split | dsimp only | intro _ | decide)

theorem execCalOpen_follows {orig : State} (c : Fin 32) (s : State) (hF : orig.follows s) : Out.follows orig (execCalOpen c s) := by
  unfold execCalOpen
  repeat' (first | with_reducible assumption | with_reducible apply Out.follows.next | with_reducible apply calStart_follows | (dsimp only [State.follows_mk]; change State.follows _ _) | with_reducible apply State.follows.forEach | with_reducible apply State.follows.foldlFst | with_reducible apply State.follows.foldl | split | dsimp only | intro _ | decide)

theorem execCalShort_follows {orig : State} (c : Fin 32) (s : State) (hF : orig.follows s) : Out.follows orig (execCalShort c s) := by
  unfold execCalShort
  repeat' (first | with_reducible assumption | with_reducible apply Out.follows.next | with_reducible apply calStart_follows | (dsimp only [State.follows_mk]; change State.follows _ _) | with_reducible apply State.follows.forEach | with_reducible apply State.follows.foldlFst | with_reducible apply State.follows.foldl | split | dsimp only | intro _ | decide)

theorem execCalLoad_follows {orig : State} (c : Fin 32) (s : State) (hF : orig.follows s) : Out.follows orig (execCalLoad c s) := by
  unfold execCalLoad
  repeat' (first | with_reducible assumption | with_reducible apply Out.follows.next | with_reducible apply calStart_follows | (dsimp only [State.follows_mk]; change State.follows _ _) | with_reducible apply State.follows.forEach | with_reducible apply State.follows.foldlFst | with_reducible apply State.follows.foldl | split | dsimp only | intro _ | decide)

theorem execCalAir_follows {orig : State} (c : Fin 32) (s : State) (hF : orig.follows s) : Out.follows orig (execCalAir c s) := by
  unfold execCalAir
  repeat' (first | with_reducible assumption | with_reducible apply Out.follows.next | with_reducible apply calStart_follows | (dsimp only [State.follows_mk]; change State.follows _ _) | with_reducible apply State.follows.forEach | with_reducible apply State.follows.foldlFst | with_reducible apply State.follows.foldl | split | dsimp only | intro _ | decide)

theorem execCalAverageDone_follows {orig : State} (c : Fin 32) (s : State) (hF : orig.follows s) : Out.follows orig (execCalAverageDone c s) := by
  unfold execCalAverageDone
  repeat' (first | with_reducible assumption | with_reducible apply Out.follows.next | with_reducible apply setChan_follows | (dsimp only [State.follows_mk]; change State.follows _ _) | with_reducible apply State.follows.forEach | with_reducible apply State.follows.foldlFst | with_reducible apply State.follows.foldl | split | dsimp only | intro _ | decide)

theorem noteConst_follows {orig : State} (s : State) (c : Nat) (hF : orig.follows s) :
    orig.follows (noteConst s c) := by
  unfold noteConst
  repeat' (first | with_reducible assumption | with_reducible apply addItem_follows | (dsimp only [State.follows_mk]; change State.follows _ _) | with_reducible apply State.follows.forEach | with_reducible apply State.follows.foldlFst | with_reducible apply State.follows.foldl | split | dsimp only | intro _ | decide)

theorem calStore_follows {orig : State} (s : State) (c : Nat) (k : CalStore) (hF : orig.follows s) :
    orig.follows (calStore s c k) := by
  unfold calStore
  repeat' (first | with_reducible assumption | with_reducible apply noteConst_follows | with_reducible apply setChan_follows | (dsimp only [State.follows_mk]; change State.follows _ _) | with_reducible apply State.follows.forEach | with_reducible apply State.follows.foldlFst | with_reducible apply State.follows.foldl | split | dsimp only | intro _ | decide)

theorem calTry_follows {orig : State} (s : State) (c : Nat) (k : CalStore) (ok : Bool) (air : List Cx) (hF : orig.follows s) :
    orig.follows (calTry s c k ok air) := by
  unfold calTry
  repeat' (first | with_reducible assumption | with_reducible apply calStore_follows | with_reducible apply mstResult_follows | (dsimp only [State.follows_mk]; change State.follows _ _) | with_reducible apply State.follows.forEach | with_reducible apply State.follows.foldlFst | with_reducible apply State.follows.foldl | split | dsimp only | intro _ | decide)

theorem calCommit_follows {orig : State} (s : State) (c : Nat) (hF : orig.follows s) :
    orig.follows (calCommit s c) := by
  unfold calCommit
  repeat' (first | with_reducible assumption | with_reducible apply mstResult_follows | with_reducible apply calTry_follows | (dsimp only [State.follows_mk]; change State.follows _ _) | with_reducible apply State.follows.forEach | with_reducible apply State.follows.foldlFst | with_reducible apply State.follows.foldl | split | dsimp only | intro _ | decide)

theorem execCalCommit_follows {orig : State} (c : Fin 32) (s : State) (hF : orig.follows s) : Out.follows orig (execCalCommit c s) := by
  unfold execCalCommit
  repeat' (first | with_reducible assumption | with_reducible apply Out.follows.next | with_reducible apply calCommit_follows | (dsimp only [State.follows_mk]; change State.follows _ _) | with_reducible apply State.follows.forEach | with_reducible apply State.follows.foldlFst | with_reducible apply State.follows.foldl | split | dsimp only | intro _ | decide)

theorem calAbort_follows {orig : State} (s : State) (c : Nat) (hF : orig.follows s) :
    orig.follows (calAbort s c) := by
  unfold calAbort
  repeat' (first | with_reducible assumption | with_reducible apply mstResult_follows | with_reducible apply setChan_follows | (dsimp only [State.follows_mk]; change State.follows _ _) | with_reducible apply State.follows.forEach | with_reducible apply State.follows.foldlFst | with_reducible apply State.follows.foldl | split | dsimp only | intro _ | decide)

theorem execCalAbort_follows {orig : State} (c : Fin 32) (s : State) (hF : orig.follows s) : Out.follows orig (execCalAbort c s) := by
  unfold execCalAbort
  repeat' (first | with_reducible assumption | with_reducible apply Out.follows.next | with_reducible apply calAbort_follows | (dsimp only [State.follows_mk]; change State.follows _ _) | with_reducible apply State.follows.forEach | with_reducible apply State.follows.foldlFst | with_reducible apply State.follows.foldl | split | dsimp only | intro _ | decide)

theorem mstCapture_follows {orig : State} (s : State) (c slot : Nat) (hF : orig.follows s) :
    orig.follows (mstCapture s c slot) := by
  unfold mstCapture
  repeat' (first | with_reducible assumption | with_reducible apply mstResult_follows | with_reducible apply setChan_follows | (dsimp only [State.follows_mk]; change State.follows _ _) | with_reducible apply State.follows.forEach | with_reducible apply State.follows.foldlFst | with_reducible apply State.follows.foldl | split | dsimp only | intro _ | decide)

theorem execCapture_follows {orig : State} (c : Fin 32) (slot : Fin 32) (s : State) (hF : orig.follows s) : Out.follows orig (execCapture c slot s) := by
  unfold execCapture
  repeat' (first | with_reducible assumption | with_reducible apply Out.follows.next | with_reducible apply mstCapture_follows | (dsimp only [State.follows_mk]; change State.follows _ _) | with_reducible apply State.follows.forEach | with_reducible apply State.follows.foldlFst | with_reducible apply State.follows.foldl | split | dsimp only | intro _ | decide)

theorem execCaptureDone_follows {orig : State} (c : Fin 32) (s : State) (hF : orig.follows s) : Out.follows orig (execCaptureDone c s) := by
  unfold execCaptureDone
  repeat' (first | with_reducible assumption | with_reducible apply Out.follows.next | with_reducible apply setChan_follows | (dsimp only [State.follows_mk]; change State.follows _ _) | with_reducible apply State.follows.forEach | with_reducible apply State.follows.foldlFst | with_reducible apply State.follows.foldl | split | dsimp only | intro _ | decide)

theorem labWrite_follows {orig : State} (s : State) (c k : Nat) (hF : orig.follows s) :
    orig.follows (labWrite s c k) := by
  unfold labWrite
  repeat' (first | with_reducible assumption | with_reducible apply mstResult_follows | with_reducible apply setChan_follows | (dsimp only [State.follows_mk]; change State.follows _ _) | with_reducible apply State.follows.forEach | with_reducible apply State.follows.foldlFst | with_reducible apply State.follows.foldl | split | dsimp only | intro _ | decide)

theorem execLabWrite_follows {orig : State} (c : Fin 32) (slot : Fin 32) (s : State) (hF : orig.follows s) : Out.follows orig (execLabWrite c slot s) := by
  unfold execLabWrite
  repeat' (first | with_reducible assumption | with_reducible apply Out.follows.next | with_reducible apply labWrite_follows | (dsimp only [State.follows_mk]; change State.follows _ _) | with_reducible apply State.follows.forEach | with_reducible apply State.follows.foldlFst | with_reducible apply State.follows.foldl | split | dsimp only | intro _ | decide)

theorem mstDoFit_follows {orig : State} (s : State) (c : Nat) (hF : orig.follows s) :
    orig.follows (mstDoFit s c) := by
  unfold mstDoFit
  repeat' (first | with_reducible assumption | with_reducible apply mstResult_follows | with_reducible apply noteConst_follows | with_reducible apply setChan_follows | (dsimp only [State.follows_mk]; change State.follows _ _) | with_reducible apply State.follows.forEach | with_reducible apply State.follows.foldlFst | with_reducible apply State.follows.foldl | split | dsimp only | intro _ | decide)

theorem execFit_follows {orig : State} (c : Fin 32) (s : State) (hF : orig.follows s) : Out.follows orig (execFit c s) := by
  unfold execFit
  repeat' (first | with_reducible assumption | with_reducible apply Out.follows.next | with_reducible apply mstDoFit_follows | (dsimp only [State.follows_mk]; change State.follows _ _) | with_reducible apply State.follows.forEach | with_reducible apply State.follows.foldlFst | with_reducible apply State.follows.foldl | split | dsimp only | intro _ | decide)

theorem clearSamples_follows {orig : State} (s : State) (c : Nat) (hF : orig.follows s) :
    orig.follows (clearSamples s c) := by
  unfold clearSamples
  repeat' (first | with_reducible assumption | with_reducible apply mstResult_follows | with_reducible apply setChan_follows | (dsimp only [State.follows_mk]; change State.follows _ _) | with_reducible apply State.follows.forEach | with_reducible apply State.follows.foldlFst | with_reducible apply State.follows.foldl | split | dsimp only | intro _ | decide)

theorem execClearSamples_follows {orig : State} (c : Fin 32) (s : State) (hF : orig.follows s) : Out.follows orig (execClearSamples c s) := by
  unfold execClearSamples
  repeat' (first | with_reducible assumption | with_reducible apply Out.follows.next | with_reducible apply clearSamples_follows | (dsimp only [State.follows_mk]; change State.follows _ _) | with_reducible apply State.follows.forEach | with_reducible apply State.follows.foldlFst | with_reducible apply State.follows.foldl | split | dsimp only | intro _ | decide)

theorem mstCmd_follows {orig : State} (s : State) (c : Nat) (v : W32) (hF : orig.follows s) :
    orig.follows (mstCmd s c v) := by
  unfold mstCmd
  repeat' (first | with_reducible assumption | with_reducible apply calStart_follows | with_reducible apply calCommit_follows | with_reducible apply calAbort_follows | with_reducible apply mstCapture_follows | with_reducible apply labWrite_follows | with_reducible apply mstDoFit_follows | with_reducible apply clearSamples_follows | (dsimp only [State.follows_mk]; change State.follows _ _) | with_reducible apply State.follows.forEach | with_reducible apply State.follows.foldlFst | with_reducible apply State.follows.foldl | split | dsimp only | intro _ | decide)

theorem selectTable_follows {orig : State} (s : State) (c t : Nat) (hF : orig.follows s) :
    orig.follows (selectTable s c t) := by
  unfold selectTable
  repeat' (first | with_reducible assumption | with_reducible apply setChan_follows | (dsimp only [State.follows_mk]; change State.follows _ _) | with_reducible apply State.follows.forEach | with_reducible apply State.follows.foldlFst | with_reducible apply State.follows.foldl | split | dsimp only | intro _ | decide)

end Sys2Proof.Machine
end

