-- ==== Sys2Proof/Laws/FollowsColumns.lean ====
section
/-!
SUPPORT. Every operation of Machine/Columns.lean keeps `State.follows`: it leaves the queue alone, the recorder follows, no floor and
no epoch falls, and SAFE_OUT_N stays as R403 has it.
-/
namespace Sys2Proof.Machine

open Sys2Proof

theorem moveTo_follows {orig : State} (s : State) (c : Nat) (kNew : Int) (t : Nat) (hF : orig.follows s) :
    orig.follows (moveTo s c kNew t) := by
  unfold moveTo
  repeat' (first | with_reducible assumption | with_reducible apply setCol_follows | with_reducible apply stick_follows | (dsimp only [State.follows_mk]; change State.follows _ _) | with_reducible apply State.follows.forEach | with_reducible apply State.follows.foldlFst | with_reducible apply State.follows.foldl | split | dsimp only | intro _ | decide)

theorem placeResult_follows {orig : State} (s : State) (c : Nat) (inlet : Bool) (r : MoistRes) (hF : orig.follows s) :
    orig.follows (placeResult s c inlet r) := by
  unfold placeResult
  repeat' (first | with_reducible assumption | with_reducible apply stick_follows | with_reducible apply setCol_follows | (dsimp only [State.follows_mk]; change State.follows _ _) | with_reducible apply State.follows.forEach | with_reducible apply State.follows.foldlFst | with_reducible apply State.follows.foldl | split | dsimp only | intro _ | decide)

theorem closeAt_follows {orig : State} (s : State) (c inst : Nat) (serial : Int) (inlet : Bool) (hF : orig.follows s) :
    orig.follows (closeAt s c inst serial inlet) := by
  unfold closeAt
  repeat' (first | with_reducible assumption | with_reducible apply setCol_follows | with_reducible apply keepPost_follows | (dsimp only [State.follows_mk]; change State.follows _ _) | with_reducible apply State.follows.forEach | with_reducible apply State.follows.foldlFst | with_reducible apply State.follows.foldl | split | dsimp only | intro _ | decide)

theorem reopen_follows {orig : State} (s : State) (c : Nat) (count : Int) (hF : orig.follows s) :
    orig.follows (reopen s c count) := by
  unfold reopen
  repeat' (first | with_reducible assumption | with_reducible apply setCol_follows | (dsimp only [State.follows_mk]; change State.follows _ _) | with_reducible apply State.follows.forEach | with_reducible apply State.follows.foldlFst | with_reducible apply State.follows.foldl | split | dsimp only | intro _ | decide)

theorem closeProbes_follows {orig : State} (s : State) (c inst : Nat) (count : Int) (hF : orig.follows s) :
    orig.follows (closeProbes s c inst count) := by
  unfold closeProbes
  repeat' (first | with_reducible assumption | with_reducible apply closeAt_follows | with_reducible apply setCol_follows | (dsimp only [State.follows_mk]; change State.follows _ _) | with_reducible apply State.follows.forEach | with_reducible apply State.follows.foldlFst | with_reducible apply State.follows.foldl | split | dsimp only | intro _ | decide)

theorem colEvent_follows {orig : State} (s : State) (c : Nat) (e : EventName) (what : Nat) (hF : orig.follows s) :
    orig.follows (colEvent s c e what) := by
  unfold colEvent
  repeat' (first | with_reducible assumption | with_reducible apply logEv_follows | (dsimp only [State.follows_mk]; change State.follows _ _) | with_reducible apply State.follows.forEach | with_reducible apply State.follows.foldlFst | with_reducible apply State.follows.foldl | split | dsimp only | intro _ | decide)

theorem colAccept_follows {orig : State} (s : State) (c : Nat) (hF : orig.follows s) :
    orig.follows (colAccept s c) := by
  unfold colAccept
  repeat' (first | with_reducible assumption | with_reducible apply colEvent_follows | with_reducible apply setCol_follows | (dsimp only [State.follows_mk]; change State.follows _ _) | with_reducible apply State.follows.forEach | with_reducible apply State.follows.foldlFst | with_reducible apply State.follows.foldl | split | dsimp only | intro _ | decide)

theorem colSetEmpty_follows {orig : State} (s : State) (c : Nat) (hF : orig.follows s) :
    orig.follows (colSetEmpty s c) := by
  unfold colSetEmpty
  repeat' (first | with_reducible assumption | with_reducible apply colEvent_follows | with_reducible apply setCol_follows | (dsimp only [State.follows_mk]; change State.follows _ _) | with_reducible apply State.follows.forEach | with_reducible apply State.follows.foldlFst | with_reducible apply State.follows.foldl | split | dsimp only | intro _ | decide)

theorem colClearDiag_follows {orig : State} (s : State) (c : Nat) (hF : orig.follows s) :
    orig.follows (colClearDiag s c) := by
  unfold colClearDiag
  repeat' (first | with_reducible assumption | with_reducible apply setCol_follows | (dsimp only [State.follows_mk]; change State.follows _ _) | with_reducible apply State.follows.forEach | with_reducible apply State.follows.foldlFst | with_reducible apply State.follows.foldl | split | dsimp only | intro _ | decide)

theorem colEnd_follows {orig : State} (s : State) (c : Nat) (hF : orig.follows s) :
    orig.follows (colEnd s c) := by
  unfold colEnd
  repeat' (first | with_reducible assumption | with_reducible apply colEvent_follows | with_reducible apply setCol_follows | (dsimp only [State.follows_mk]; change State.follows _ _) | with_reducible apply State.follows.forEach | with_reducible apply State.follows.foldlFst | with_reducible apply State.follows.foldl | split | dsimp only | intro _ | decide)

theorem colDiscard_follows {orig : State} (s : State) (c : Nat) (hF : orig.follows s) :
    orig.follows (colDiscard s c) := by
  unfold colDiscard
  repeat' (first | with_reducible assumption | with_reducible apply colEnd_follows | (dsimp only [State.follows_mk]; change State.follows _ _) | with_reducible apply State.follows.forEach | with_reducible apply State.follows.foldlFst | with_reducible apply State.follows.foldl | split | dsimp only | intro _ | decide)

theorem dryCapture_follows {orig : State} (b s : State) (c : Nat) (hF : orig.follows s) :
    orig.follows (dryCapture b s c) := by
  unfold dryCapture
  repeat' (first | with_reducible assumption | with_reducible apply setDry_follows | (dsimp only [State.follows_mk]; change State.follows _ _) | with_reducible apply State.follows.forEach | with_reducible apply State.follows.foldlFst | with_reducible apply State.follows.foldl | split | dsimp only | intro _ | decide)

theorem colCapture_follows {orig : State} (b s : State) (c t : Nat) (hF : orig.follows s) :
    orig.follows (colCapture b s c t) := by
  unfold colCapture
  repeat' (first | with_reducible assumption | with_reducible apply dryCapture_follows | with_reducible apply setCol_follows | (dsimp only [State.follows_mk]; change State.follows _ _) | with_reducible apply State.follows.forEach | with_reducible apply State.follows.foldlFst | with_reducible apply State.follows.foldl | split | dsimp only | intro _ | decide)

theorem atFrame_follows {orig : State} (s : State) (t : Nat) (hF : orig.follows s) :
    orig.follows (atFrame s t) := by
  unfold atFrame
  repeat' (first | with_reducible assumption | with_reducible apply t0_follows | (dsimp only [State.follows_mk]; change State.follows _ _) | with_reducible apply State.follows.forEach | with_reducible apply State.follows.foldlFst | with_reducible apply State.follows.foldl | split | dsimp only | intro _ | decide)

theorem colCmd_follows {orig : State} (s : State) (c : Nat) (k : ColCmd) (hF : orig.follows s) :
    orig.follows (colCmd s c k) := by
  unfold colCmd
  repeat' (first | with_reducible assumption | with_reducible apply colAccept_follows | with_reducible apply colSetEmpty_follows | with_reducible apply colCapture_follows | with_reducible apply t0_follows | with_reducible apply colClearDiag_follows | with_reducible apply colDiscard_follows | (dsimp only [State.follows_mk]; change State.follows _ _) | with_reducible apply State.follows.forEach | with_reducible apply State.follows.foldlFst | with_reducible apply State.follows.foldl | split | dsimp only | intro _ | decide)

theorem colRecover_follows {orig : State} (s : State) (c from_ : Nat) (hF : orig.follows s) :
    orig.follows (colRecover s c from_) := by
  unfold colRecover
  repeat' (first | with_reducible assumption | with_reducible apply stick_follows | with_reducible apply setCol_follows | (dsimp only [State.follows_mk]; change State.follows _ _) | with_reducible apply State.follows.forEach | with_reducible apply State.follows.foldlFst | with_reducible apply State.follows.foldl | split | dsimp only | intro _ | decide)

theorem colLoss_follows {orig : State} (s : State) (c : Nat) (hF : orig.follows s) :
    orig.follows (colLoss s c) := by
  unfold colLoss
  repeat' (first | with_reducible assumption | with_reducible apply setCol_follows | with_reducible apply colEvent_follows | with_reducible apply colRecover_follows | (dsimp only [State.follows_mk]; change State.follows _ _) | with_reducible apply State.follows.forEach | with_reducible apply State.follows.foldlFst | with_reducible apply State.follows.foldl | split | dsimp only | intro _ | decide)

theorem colDrain_follows {orig : State} (s : State) (c : Nat) (hF : orig.follows s) :
    orig.follows (colDrain s c) := by
  unfold colDrain
  repeat' (first | with_reducible assumption | with_reducible apply colEnd_follows | (dsimp only [State.follows_mk]; change State.follows _ _) | with_reducible apply State.follows.forEach | with_reducible apply State.follows.foldlFst | with_reducible apply State.follows.foldl | split | dsimp only | intro _ | decide)

theorem staleEvents_follows {orig : State} (s : State) (c : Nat) (was : Bool) (hF : orig.follows s) :
    orig.follows (staleEvents s c was) := by
  unfold staleEvents
  repeat' (first | with_reducible assumption | with_reducible apply colEvent_follows | (dsimp only [State.follows_mk]; change State.follows _ _) | with_reducible apply State.follows.forEach | with_reducible apply State.follows.foldlFst | with_reducible apply State.follows.foldl | split | dsimp only | intro _ | decide)

theorem colResults_follows {orig : State} (s : State) (x : Inst) (hF : orig.follows s) :
    orig.follows (colResults s x).1 := by
  unfold colResults
  repeat' (first | with_reducible assumption | with_reducible apply takeMsgs_follows | (dsimp only [State.follows_mk]; change State.follows _ _) | with_reducible apply State.follows.forEach | with_reducible apply State.follows.foldlFst | with_reducible apply State.follows.foldl | split | dsimp only | intro _ | decide)

theorem runCol_follows {orig : State} (s : State) (inst : Nat) (x : Inst) (hF : orig.follows s) :
    orig.follows (runCol s inst x) := by
  unfold runCol
  repeat' (first | with_reducible assumption | with_reducible apply colCmd_follows | with_reducible apply setCol_follows | with_reducible apply colResults_follows | with_reducible apply colLoss_follows | with_reducible apply reopen_follows | with_reducible apply moveTo_follows | with_reducible apply placeResult_follows | with_reducible apply closeProbes_follows | with_reducible apply colDrain_follows | with_reducible apply staleEvents_follows | (dsimp only [State.follows_mk]; change State.follows _ _) | with_reducible apply State.follows.forEach | with_reducible apply State.follows.foldlFst | with_reducible apply State.follows.foldl | split | dsimp only | intro _ | decide)

theorem pclTake_follows {orig : State} (s : State) (c : Nat) (k : ColCmd) (hF : orig.follows s) :
    orig.follows (pclTake s c k) := by
  unfold pclTake
  repeat' (first | with_reducible assumption | with_reducible apply setCol_follows | (dsimp only [State.follows_mk]; change State.follows _ _) | with_reducible apply State.follows.forEach | with_reducible apply State.follows.foldlFst | with_reducible apply State.follows.foldl | split | dsimp only | intro _ | decide)

theorem execPclAccept_follows {orig : State} (c : Fin 16) (s : State) (hF : orig.follows s) : Out.follows orig (execPclAccept c s) := by
  unfold execPclAccept
  repeat' (first | with_reducible assumption | with_reducible apply Out.follows.next | with_reducible apply rowCmd_follows | with_reducible apply pclTake_follows | (dsimp only [State.follows_mk]; change State.follows _ _) | with_reducible apply State.follows.forEach | with_reducible apply State.follows.foldlFst | with_reducible apply State.follows.foldl | split | dsimp only | intro _ | decide)

theorem execPclSetEmpty_follows {orig : State} (c : Fin 16) (s : State) (hF : orig.follows s) : Out.follows orig (execPclSetEmpty c s) := by
  unfold execPclSetEmpty
  repeat' (first | with_reducible assumption | with_reducible apply Out.follows.next | with_reducible apply rowCmd_follows | with_reducible apply pclTake_follows | (dsimp only [State.follows_mk]; change State.follows _ _) | with_reducible apply State.follows.forEach | with_reducible apply State.follows.foldlFst | with_reducible apply State.follows.foldl | split | dsimp only | intro _ | decide)

theorem execPclCheckpointNow_follows {orig : State} (c : Fin 16) (s : State) (hF : orig.follows s) : Out.follows orig (execPclCheckpointNow c s) := by
  unfold execPclCheckpointNow
  repeat' (first | with_reducible assumption | with_reducible apply Out.follows.next | with_reducible apply rowCmd_follows | with_reducible apply pclTake_follows | (dsimp only [State.follows_mk]; change State.follows _ _) | with_reducible apply State.follows.forEach | with_reducible apply State.follows.foldlFst | with_reducible apply State.follows.foldl | split | dsimp only | intro _ | decide)

theorem execPclClearDiag_follows {orig : State} (c : Fin 16) (s : State) (hF : orig.follows s) : Out.follows orig (execPclClearDiag c s) := by
  unfold execPclClearDiag
  repeat' (first | with_reducible assumption | with_reducible apply Out.follows.next | with_reducible apply rowCmd_follows | with_reducible apply pclTake_follows | (dsimp only [State.follows_mk]; change State.follows _ _) | with_reducible apply State.follows.forEach | with_reducible apply State.follows.foldlFst | with_reducible apply State.follows.foldl | split | dsimp only | intro _ | decide)

theorem execPclDiscard_follows {orig : State} (c : Fin 16) (s : State) (hF : orig.follows s) : Out.follows orig (execPclDiscard c s) := by
  unfold execPclDiscard
  repeat' (first | with_reducible assumption | with_reducible apply Out.follows.next | with_reducible apply rowCmd_follows | with_reducible apply pclTake_follows | (dsimp only [State.follows_mk]; change State.follows _ _) | with_reducible apply State.follows.forEach | with_reducible apply State.follows.foldlFst | with_reducible apply State.follows.foldl | split | dsimp only | intro _ | decide)

theorem pclCmd_follows {orig : State} (s : State) (c : Nat) (v : W32) (hF : orig.follows s) :
    orig.follows (pclCmd s c v) := by
  unfold pclCmd
  repeat' (first | with_reducible assumption | with_reducible apply pclTake_follows | (dsimp only [State.follows_mk]; change State.follows _ _) | with_reducible apply State.follows.forEach | with_reducible apply State.follows.foldlFst | with_reducible apply State.follows.foldl | split | dsimp only | intro _ | decide)

theorem noteDirty_follows {orig : State} (s : State) (c : Nat) (l : List Int) (hF : orig.follows s) :
    orig.follows (noteDirty s c l) := by
  unfold noteDirty
  repeat' (first | with_reducible assumption | (dsimp only [State.follows_mk]; change State.follows _ _) | with_reducible apply State.follows.forEach | with_reducible apply State.follows.foldlFst | with_reducible apply State.follows.foldl | split | dsimp only | intro _ | decide)

theorem touchCols_follows {orig : State} (before : List (Nat × Column)) (s : State) (hF : orig.follows s) :
    orig.follows (touchCols before s) := by
  unfold touchCols
  repeat' (first | with_reducible assumption | with_reducible apply noteDirty_follows | with_reducible apply setCol_follows | (dsimp only [State.follows_mk]; change State.follows _ _) | with_reducible apply State.follows.forEach | with_reducible apply State.follows.foldlFst | with_reducible apply State.follows.foldl | split | dsimp only | intro _ | decide)

theorem execCheckpointCapture_follows {orig : State} (c : Fin 16) (t : Ns) (s : State) (hF : orig.follows s) : Out.follows orig (execCheckpointCapture c t s) := by
  unfold execCheckpointCapture
  repeat' (first | with_reducible assumption | with_reducible apply Out.follows.next | with_reducible apply setNow_follows | with_reducible apply colCapture_follows | with_reducible apply atFrame_follows | (dsimp only [State.follows_mk]; change State.follows _ _) | with_reducible apply State.follows.forEach | with_reducible apply State.follows.foldlFst | with_reducible apply State.follows.foldl | split | dsimp only | intro _ | decide)

theorem execCheckpointWriteComplete_follows {orig : State} (c : Fin 16) (ok : Bool) (s : State) (hF : orig.follows s) : Out.follows orig (execCheckpointWriteComplete c ok s) := by
  unfold execCheckpointWriteComplete
  repeat' (first | with_reducible assumption | with_reducible apply Out.follows.next | with_reducible apply setCol_follows | with_reducible apply colEvent_follows | with_reducible apply stick_follows | (dsimp only [State.follows_mk]; change State.follows _ _) | with_reducible apply State.follows.forEach | with_reducible apply State.follows.foldlFst | with_reducible apply State.follows.foldl | split | dsimp only | intro _ | decide)

theorem unobserved_follows {orig : State} (s : State) (c : Nat) (serial : Int) (hF : orig.follows s) :
    orig.follows (unobserved s c serial) := by
  unfold unobserved
  repeat' (first | with_reducible assumption | with_reducible apply stick_follows | with_reducible apply setCol_follows | (dsimp only [State.follows_mk]; change State.follows _ _) | with_reducible apply State.follows.forEach | with_reducible apply State.follows.foldlFst | with_reducible apply State.follows.foldl | split | dsimp only | intro _ | decide)

theorem restoreNone_follows {orig : State} (s : State) (c : Nat) (hF : orig.follows s) :
    orig.follows (restoreNone s c) := by
  unfold restoreNone
  repeat' (first | with_reducible assumption | with_reducible apply setCol_follows | with_reducible apply stick_follows | (dsimp only [State.follows_mk]; change State.follows _ _) | with_reducible apply State.follows.forEach | with_reducible apply State.follows.foldlFst | with_reducible apply State.follows.foldl | split | dsimp only | intro _ | decide)

theorem restoreImage_follows {orig : State} (s : State) (c inst : Nat) (m : Ckpt) (hF : orig.follows s) :
    orig.follows (restoreImage s c inst m) := by
  unfold restoreImage
  repeat' (first | with_reducible assumption | with_reducible apply setCol_follows | with_reducible apply moveTo_follows | with_reducible apply closeProbes_follows | with_reducible apply reopen_follows | with_reducible apply unobserved_follows | (dsimp only [State.follows_mk]; change State.follows _ _) | with_reducible apply State.follows.forEach | with_reducible apply State.follows.foldlFst | with_reducible apply State.follows.foldl | split | dsimp only | intro _ | decide)

theorem restoreCol_follows {orig : State} (s : State) (c : Nat) (hF : orig.follows s) :
    orig.follows (restoreCol s c) := by
  unfold restoreCol
  repeat' (first | with_reducible assumption | with_reducible apply restoreImage_follows | with_reducible apply restoreNone_follows | with_reducible apply staleEvents_follows | with_reducible apply colEvent_follows | (dsimp only [State.follows_mk]; change State.follows _ _) | with_reducible apply State.follows.forEach | with_reducible apply State.follows.foldlFst | with_reducible apply State.follows.foldl | split | dsimp only | intro _ | decide)

end Sys2Proof.Machine
end

