-- ==== Sys2Proof/Laws/FollowsRecorder.lean ====
section
/-!
SUPPORT. Every operation of Machine/Recorder.lean keeps `State.follows`: it leaves the queue alone, the recorder follows, no floor and
no epoch falls, and SAFE_OUT_N stays as R403 has it.
-/
namespace Sys2Proof.Machine

open Sys2Proof

/-- A change of the recorder that follows. -/
theorem modRec_follows {orig : State} (s : State) (f : RecState → RecState) (hf : s.rec_.follows (f s.rec_)) (hF : orig.follows s) :
    orig.follows (modRec s f) := ⟨hF.1, hF.2.1.trans hf, hF.2.2⟩

theorem RecState.follows.lostNow (r : RecState) (n : Nat) : r.follows { r with lostNow := n } :=
  fun h => ⟨h, Nat.le_refl _, Nat.le_refl _, Nat.le_refl _⟩

theorem RecState.follows.lag (r : RecState) (b : Bool) : r.follows { r with mramLag := b } :=
  fun h => ⟨h, Nat.le_refl _, Nat.le_refl _, Nat.le_refl _⟩

theorem reportLost_follows {orig : State} (s : State) (hF : orig.follows s) :
    orig.follows (reportLost s) := by
  unfold reportLost
  split
  · exact logRaw_follows _ _ _ _ _ (by decide) (modRec_follows _ _ (RecState.follows.lostNow _ _) hF)
  · exact hF

theorem recordWrite_follows {orig : State} (s : State) (hF : orig.follows s) :
    orig.follows (recordWrite s) := by
  unfold recordWrite
  split
  · exact hF
  · rename_i q rest e
    refine reportLost_follows _ (modRec_follows _ _ ?_ hF)
    intro hb
    have hq : q.conts ≤ 3 := hb.2.2.2.2.2 q (by rw [e]; exact List.mem_cons_self)
    have hr : RecState.bounded { s.rec_ with queue := rest } :=
      ⟨hb.1, by have := hb.2.1; rw [e] at this; simp at this; show rest.length ≤ 1024; omega, hb.2.2.1, hb.2.2.2.1, hb.2.2.2.2.1,
        fun x hx => hb.2.2.2.2.2 x (by rw [e]; exact List.mem_cons_of_mem _ hx)⟩
    exact ringWrite_follows { s.rec_ with queue := rest } q s.now hq hr

theorem execEventRecordCommit_follows {orig : State} (t : Ns) (s : State) (hF : orig.follows s) : Out.follows orig (execEventRecordCommit t s) := by
  unfold execEventRecordCommit
  repeat' (first | with_reducible assumption | with_reducible apply Out.follows.next | with_reducible apply setNow_follows | with_reducible apply recordWrite_follows | (dsimp only [State.follows_mk]; change State.follows _ _) | with_reducible apply State.follows.forEach | with_reducible apply State.follows.foldlFst | with_reducible apply State.follows.foldl | split | dsimp only | intro _ | decide)

theorem noteLag_follows {orig : State} (s : State) (before after : List (Nat × EvRec)) (hF : orig.follows s) :
    orig.follows (noteLag s before after) := by
  unfold noteLag
  split
  · exact logRaw_follows _ _ _ _ _ (by decide) (modRec_follows _ _ (RecState.follows.lag _ _) hF)
  · exact modRec_follows _ _ (RecState.follows.lag _ _) hF

theorem tailCommit_follows {orig : State} (s : State) (ok : Bool) (hF : orig.follows s) :
    orig.follows (tailCommit s ok) := by
  unfold tailCommit
  cases e : awaiting s.rec_ with
  | nil => exact hF
  | cons p rest =>
    obtain ⟨n, x⟩ := p
    cases ok
    · refine noteLag_follows _ _ _ (stick_follows _ _ _ _ (modRec_follows _ _ ?_ hF))
      exact fun hb => ⟨hb, Nat.le_refl _, Nat.le_refl _, Nat.le_refl _⟩
    · refine noteLag_follows _ _ _ (modRec_follows _ _ ?_ hF)
      exact fun hb => ⟨⟨hb.1, hb.2.1, tailPut_length _ _ hb.2.2.1, hb.2.2.2⟩, Nat.le_refl _, Nat.le_refl _, Nat.le_refl _⟩

theorem execMramTailCommit_follows {orig : State} (t : Ns) (ok : Bool) (s : State) (hF : orig.follows s) : Out.follows orig (execMramTailCommit t ok s) := by
  unfold execMramTailCommit
  repeat' (first | with_reducible assumption | with_reducible apply Out.follows.next | with_reducible apply tailCommit_follows | with_reducible apply setNow_follows | (dsimp only [State.follows_mk]; change State.follows _ _) | with_reducible apply State.follows.forEach | with_reducible apply State.follows.foldlFst | with_reducible apply State.follows.foldl | split | dsimp only | intro _ | decide)

theorem restoreRing_follows {orig : State} (s : State) (hF : orig.follows s) :
    orig.follows (restoreRing s) := by
  unfold restoreRing
  refine stick_follows _ _ _ _ (logRaw_follows _ _ _ _ _ (by decide) (modRec_follows _ _ ?_ hF))
  exact fun hb => ⟨⟨Nat.le_trans hb.2.2.1 (by decide), hb.2.1, hb.2.2.1, hb.2.2.2.1, Nat.le_refl _, hb.2.2.2.2.2⟩, hb.2.2.2.2.1,
    Nat.le_refl _, Nat.le_refl _⟩

theorem latchWindow_follows {orig : State} (s : State) (j : Nat) (hF : orig.follows s) :
    orig.follows (latchWindow s j) := by
  unfold latchWindow
  repeat' (first | with_reducible assumption | (dsimp only [State.follows_mk]; change State.follows _ _) | with_reducible apply State.follows.forEach | with_reducible apply State.follows.foldlFst | with_reducible apply State.follows.foldl | split | dsimp only | intro _ | decide)

theorem execEventWindowRead_follows {orig : State} (j : Fin 256) (s : State) (hF : orig.follows s) : Out.follows orig (execEventWindowRead j s) := by
  unfold execEventWindowRead
  repeat' (first | with_reducible assumption | with_reducible apply Out.follows.next | with_reducible apply latchWindow_follows | (dsimp only [State.follows_mk]; change State.follows _ _) | with_reducible apply State.follows.forEach | with_reducible apply State.follows.foldlFst | with_reducible apply State.follows.foldl | split | dsimp only | intro _ | decide)

theorem evrClear_follows {orig : State} (s : State) (q : Requester) (c : Nat) (hF : orig.follows s) :
    orig.follows (evrClear s q c).1 := by
  unfold evrClear
  split
  · exact hF
  · split
    · rename_i h
      refine stick_follows _ _ _ _ (logRaw_follows _ _ _ _ _ (by decide) (modRec_follows _ _ ?_ hF))
      exact fun hb => ⟨hb, Nat.le_refl _, Nat.le_refl _, Nat.le_of_lt h.1⟩
    · exact hF

theorem execEvrClear_follows {orig : State} (v : W32) (s : State) (hF : orig.follows s) : Out.follows orig (execEvrClear v s) := by
  unfold execEvrClear
  repeat' (first | with_reducible assumption | with_reducible apply Out.follows.next | with_reducible apply evrClear_follows | with_reducible apply report_follows | (dsimp only [State.follows_mk]; change State.follows _ _) | with_reducible apply State.follows.forEach | with_reducible apply State.follows.foldlFst | with_reducible apply State.follows.foldl | split | dsimp only | intro _ | decide)

end Sys2Proof.Machine
end

