-- ==== Sys2Proof/Laws/FollowsMarket.lean ====
section
/-!
SUPPORT. Every operation of Machine/Market.lean keeps `State.follows`: it leaves the queue alone, the recorder follows, no floor and
no epoch falls, and SAFE_OUT_N stays as R403 has it.
-/
namespace Sys2Proof.Machine

open Sys2Proof

theorem modMkt_follows {orig : State} (s : State) (f : MktState → MktState) (hF : orig.follows s) :
    orig.follows (modMkt s f) := by
  unfold modMkt
  repeat' (first | with_reducible assumption | (dsimp only [State.follows_mk]; change State.follows _ _) | with_reducible apply State.follows.forEach | with_reducible apply State.follows.foldlFst | with_reducible apply State.follows.foldl | split | dsimp only | intro _ | decide)

theorem emit_follows {orig : State} (s : State) (x : Sent) (hF : orig.follows s) :
    orig.follows (emit s x) := by
  unfold emit
  repeat' (first | with_reducible assumption | with_reducible apply modMkt_follows | (dsimp only [State.follows_mk]; change State.follows _ _) | with_reducible apply State.follows.forEach | with_reducible apply State.follows.foldlFst | with_reducible apply State.follows.foldl | split | dsimp only | intro _ | decide)

theorem evalSync_follows {orig : State} (s : State) (hF : orig.follows s) :
    orig.follows (evalSync s) := by
  unfold evalSync
  repeat' (first | with_reducible assumption | with_reducible apply logEv_follows | with_reducible apply stick_follows | with_reducible apply modMkt_follows | (dsimp only [State.follows_mk]; change State.follows _ _) | with_reducible apply State.follows.forEach | with_reducible apply State.follows.foldlFst | with_reducible apply State.follows.foldl | split | dsimp only | intro _ | decide)

theorem correct_follows {orig : State} (s : State) (off : Int) (hF : orig.follows s) :
    orig.follows (correct s off) := by
  unfold correct
  repeat' (first | with_reducible assumption | with_reducible apply modMkt_follows | (dsimp only [State.follows_mk]; change State.follows _ _) | with_reducible apply State.follows.forEach | with_reducible apply State.follows.foldlFst | with_reducible apply State.follows.foldl | split | dsimp only | intro _ | decide)

theorem execPtpSync_follows {orig : State} (t : Ns) (offset : Int) (hops : Fin 64) (s : State) (hF : orig.follows s) : Out.follows orig (execPtpSync t offset hops s) := by
  unfold execPtpSync
  repeat' (first | with_reducible assumption | with_reducible apply Out.follows.next | with_reducible apply setNow_follows | with_reducible apply modMkt_follows | with_reducible apply evalSync_follows | with_reducible apply correct_follows | (dsimp only [State.follows_mk]; change State.follows _ _) | with_reducible apply State.follows.forEach | with_reducible apply State.follows.foldlFst | with_reducible apply State.follows.foldl | split | dsimp only | intro _ | decide)

theorem execSyncTimeout_follows {orig : State} (t : Ns) (becomesGm : Bool) (s : State) (hF : orig.follows s) : Out.follows orig (execSyncTimeout t becomesGm s) := by
  unfold execSyncTimeout
  repeat' (first | with_reducible assumption | with_reducible apply Out.follows.next | with_reducible apply setNow_follows | with_reducible apply evalSync_follows | with_reducible apply modMkt_follows | (dsimp only [State.follows_mk]; change State.follows _ _) | with_reducible apply State.follows.forEach | with_reducible apply State.follows.foldlFst | with_reducible apply State.follows.foldl | split | dsimp only | intro _ | decide)

theorem execPeerDelayMeasure_follows {orig : State} (p : Fin 2) (t : Ns) (delay : Nat) (s : State) (hF : orig.follows s) : Out.follows orig (execPeerDelayMeasure p t delay s) := by
  unfold execPeerDelayMeasure
  repeat' (first | with_reducible assumption | with_reducible apply Out.follows.next | with_reducible apply setNow_follows | with_reducible apply modMkt_follows | (dsimp only [State.follows_mk]; change State.follows _ _) | with_reducible apply State.follows.forEach | with_reducible apply State.follows.foldlFst | with_reducible apply State.follows.foldl | split | dsimp only | intro _ | decide)

theorem stepTai_follows {orig : State} (s : State) (hF : orig.follows s) :
    orig.follows (stepTai s) := by
  unfold stepTai
  repeat' (first | with_reducible assumption | with_reducible apply blockReg_follows | (dsimp only [State.follows_mk]; change State.follows _ _) | with_reducible apply State.follows.forEach | with_reducible apply State.follows.foldlFst | with_reducible apply State.follows.foldl | split | dsimp only | intro _ | decide)

theorem badPps_follows {orig : State} (s : State) (last : Nat) (hF : orig.follows s) :
    orig.follows (badPps s last) := by
  unfold badPps
  repeat' (first | with_reducible assumption | with_reducible apply modMkt_follows | (dsimp only [State.follows_mk]; change State.follows _ _) | with_reducible apply State.follows.forEach | with_reducible apply State.follows.foldlFst | with_reducible apply State.follows.foldl | split | dsimp only | intro _ | decide)

theorem execPpsInEdge_follows {orig : State} (t : Ns) (s : State) (hF : orig.follows s) : Out.follows orig (execPpsInEdge t s) := by
  unfold execPpsInEdge
  repeat' (first | with_reducible assumption | with_reducible apply Out.follows.next | with_reducible apply setNow_follows | with_reducible apply stepTai_follows | with_reducible apply modMkt_follows | with_reducible apply correct_follows | with_reducible apply badPps_follows | (dsimp only [State.follows_mk]; change State.follows _ _) | with_reducible apply State.follows.forEach | with_reducible apply State.follows.foldlFst | with_reducible apply State.follows.foldl | split | dsimp only | intro _ | decide)

theorem execPpsMissing_follows {orig : State} (t : Ns) (s : State) (hF : orig.follows s) : Out.follows orig (execPpsMissing t s) := by
  unfold execPpsMissing
  repeat' (first | with_reducible assumption | with_reducible apply Out.follows.next | with_reducible apply setNow_follows | with_reducible apply stepTai_follows | with_reducible apply badPps_follows | (dsimp only [State.follows_mk]; change State.follows _ _) | with_reducible apply State.follows.forEach | with_reducible apply State.follows.foldlFst | with_reducible apply State.follows.foldl | split | dsimp only | intro _ | decide)

theorem execPpsOutSecond_follows {orig : State} (t : Ns) (s : State) (hF : orig.follows s) : Out.follows orig (execPpsOutSecond t s) := by
  unfold execPpsOutSecond
  repeat' (first | with_reducible assumption | with_reducible apply Out.follows.next | with_reducible apply setNow_follows | with_reducible apply modMkt_follows | (dsimp only [State.follows_mk]; change State.follows _ _) | with_reducible apply State.follows.forEach | with_reducible apply State.follows.foldlFst | with_reducible apply State.follows.foldl | split | dsimp only | intro _ | decide)

theorem stepAccept_follows {orig : State} (s : State) (hF : orig.follows s) :
    orig.follows (stepAccept s) := by
  unfold stepAccept
  repeat' (first | with_reducible assumption | with_reducible apply modMkt_follows | with_reducible apply evalSync_follows | with_reducible apply correct_follows | (dsimp only [State.follows_mk]; change State.follows _ _) | with_reducible apply State.follows.forEach | with_reducible apply State.follows.foldlFst | with_reducible apply State.follows.foldl | split | dsimp only | intro _ | decide)

theorem execMktStepAccept_follows {orig : State} (s : State) (hF : orig.follows s) : Out.follows orig (execMktStepAccept s) := by
  unfold execMktStepAccept
  repeat' (first | with_reducible assumption | with_reducible apply Out.follows.next | with_reducible apply stepAccept_follows | (dsimp only [State.follows_mk]; change State.follows _ _) | with_reducible apply State.follows.forEach | with_reducible apply State.follows.foldlFst | with_reducible apply State.follows.foldl | split | dsimp only | intro _ | decide)

theorem mktClear_follows {orig : State} (s : State) (hF : orig.follows s) :
    orig.follows (mktClear s) := by
  unfold mktClear
  repeat' (first | with_reducible assumption | with_reducible apply modMkt_follows | (dsimp only [State.follows_mk]; change State.follows _ _) | with_reducible apply State.follows.forEach | with_reducible apply State.follows.foldlFst | with_reducible apply State.follows.foldl | split | dsimp only | intro _ | decide)

theorem execMktClearCounts_follows {orig : State} (s : State) (hF : orig.follows s) : Out.follows orig (execMktClearCounts s) := by
  unfold execMktClearCounts
  repeat' (first | with_reducible assumption | with_reducible apply Out.follows.next | with_reducible apply mktClear_follows | (dsimp only [State.follows_mk]; change State.follows _ _) | with_reducible apply State.follows.forEach | with_reducible apply State.follows.foldlFst | with_reducible apply State.follows.foldl | split | dsimp only | intro _ | decide)

theorem execPortLinkChange_follows {orig : State} (p : Fin 2) (t : Ns) (up : Bool) (s : State) (hF : orig.follows s) : Out.follows orig (execPortLinkChange p t up s) := by
  unfold execPortLinkChange
  repeat' (first | with_reducible assumption | with_reducible apply Out.follows.next | with_reducible apply setNow_follows | with_reducible apply modMkt_follows | with_reducible apply useFree_follows | (dsimp only [State.follows_mk]; change State.follows _ _) | with_reducible apply State.follows.forEach | with_reducible apply State.follows.foldlFst | with_reducible apply State.follows.foldl | split | dsimp only | intro _ | decide)

theorem learn_follows {orig : State} (s : State) (mac port t : Nat) (hF : orig.follows s) :
    orig.follows (learn s mac port t) := by
  unfold learn
  repeat' (first | with_reducible assumption | with_reducible apply modMkt_follows | (dsimp only [State.follows_mk]; change State.follows _ _) | with_reducible apply State.follows.forEach | with_reducible apply State.follows.foldlFst | with_reducible apply State.follows.foldl | split | dsimp only | intro _ | decide)

theorem sendOut_follows {orig : State} (s : State) (ports : List Nat) (pcp len : Nat) (hF : orig.follows s) :
    orig.follows (sendOut s ports pcp len) := by
  unfold sendOut
  repeat' (first | with_reducible assumption | with_reducible apply emit_follows | (dsimp only [State.follows_mk]; change State.follows _ _) | with_reducible apply State.follows.forEach | with_reducible apply State.follows.foldlFst | with_reducible apply State.follows.foldl | split | dsimp only | intro _ | decide)

theorem badFrame_follows {orig : State} (s : State) (hF : orig.follows s) :
    orig.follows (badFrame s) := by
  unfold badFrame
  repeat' (first | with_reducible assumption | with_reducible apply modMkt_follows | (dsimp only [State.follows_mk]; change State.follows _ _) | with_reducible apply State.follows.forEach | with_reducible apply State.follows.foldlFst | with_reducible apply State.follows.foldl | split | dsimp only | intro _ | decide)

theorem bridge_follows {orig : State} (s : State) (t : Nat) (f : BridgeFrame) (hF : orig.follows s) :
    orig.follows (bridge s t f) := by
  unfold bridge
  repeat' (first | with_reducible assumption | with_reducible apply badFrame_follows | with_reducible apply learn_follows | with_reducible apply stick_follows | with_reducible apply sendOut_follows | (dsimp only [State.follows_mk]; change State.follows _ _) | with_reducible apply State.follows.forEach | with_reducible apply State.follows.foldlFst | with_reducible apply State.follows.foldl | split | dsimp only | intro _ | decide)

theorem execBridgeFrameForward_follows {orig : State} (t : Ns) (f : BridgeFrame) (s : State) (hF : orig.follows s) : Out.follows orig (execBridgeFrameForward t f s) := by
  unfold execBridgeFrameForward
  repeat' (first | with_reducible assumption | with_reducible apply Out.follows.next | with_reducible apply bridge_follows | with_reducible apply setNow_follows | (dsimp only [State.follows_mk]; change State.follows _ _) | with_reducible apply State.follows.forEach | with_reducible apply State.follows.foldlFst | with_reducible apply State.follows.foldl | split | dsimp only | intro _ | decide)

theorem execAddressAgeing_follows {orig : State} (t : Ns) (mac : Nat) (s : State) (hF : orig.follows s) : Out.follows orig (execAddressAgeing t mac s) := by
  unfold execAddressAgeing
  repeat' (first | with_reducible assumption | with_reducible apply Out.follows.next | with_reducible apply setNow_follows | with_reducible apply t0_follows | with_reducible apply modMkt_follows | (dsimp only [State.follows_mk]; change State.follows _ _) | with_reducible apply State.follows.forEach | with_reducible apply State.follows.foldlFst | with_reducible apply State.follows.foldl | split | dsimp only | intro _ | decide)

theorem execArpIcmpRequest_follows {orig : State} (t : Ns) (kind : IpKind) (ip : Nat) (s : State) (hF : orig.follows s) : Out.follows orig (execArpIcmpRequest t kind ip s) := by
  unfold execArpIcmpRequest
  repeat' (first | with_reducible assumption | with_reducible apply Out.follows.next | with_reducible apply setNow_follows | with_reducible apply emit_follows | (dsimp only [State.follows_mk]; change State.follows _ _) | with_reducible apply State.follows.forEach | with_reducible apply State.follows.foldlFst | with_reducible apply State.follows.foldl | split | dsimp only | intro _ | decide)

theorem takeFrame_follows {orig : State} (s : State) (t : Nat) (h : FrameHdr) (group checkGen : Bool) (hF : orig.follows s) :
    orig.follows (takeFrame s t h group checkGen).1 := by
  unfold takeFrame
  repeat' (first | with_reducible assumption | with_reducible apply stick_follows | with_reducible apply badFrame_follows | with_reducible apply modMkt_follows | (dsimp only [State.follows_mk]; change State.follows _ _) | with_reducible apply State.follows.forEach | with_reducible apply State.follows.foldlFst | with_reducible apply State.follows.foldl | split | dsimp only | intro _ | decide)

theorem badEntry_follows {orig : State} (s : State) (e : Entry) (hF : orig.follows s) :
    orig.follows (badEntry s e) := by
  unfold badEntry
  repeat' (first | with_reducible assumption | with_reducible apply bskAny_follows | with_reducible apply modBsk_follows | (dsimp only [State.follows_mk]; change State.follows _ _) | with_reducible apply State.follows.forEach | with_reducible apply State.follows.foldlFst | with_reducible apply State.follows.foldl | split | dsimp only | intro _ | decide)

theorem takeEntry_follows {orig : State} (h : FrameHdr) (s : State) (e : Entry) (hF : orig.follows s) :
    orig.follows (takeEntry h s e) := by
  unfold takeEntry
  repeat' (first | with_reducible assumption | with_reducible apply arrive_follows | (dsimp only [State.follows_mk]; change State.follows _ _) | with_reducible apply State.follows.forEach | with_reducible apply State.follows.foldlFst | with_reducible apply State.follows.foldl | split | dsimp only | intro _ | decide)

theorem takeEntries_follows {orig : State} (s : State) (h : FrameHdr) (es : List Entry) (hF : orig.follows s) :
    orig.follows (takeEntries s h es) := by
  unfold takeEntries
  repeat' (first | with_reducible assumption | with_reducible apply takeEntry_follows | with_reducible apply badEntry_follows | (dsimp only [State.follows_mk]; change State.follows _ _) | with_reducible apply State.follows.forEach | with_reducible apply State.follows.foldlFst | with_reducible apply State.follows.foldl | split | dsimp only | intro _ | decide)

theorem execDataFrameReceive_follows {orig : State} (t : Ns) (h : FrameHdr) (es : List Entry) (s : State) (hF : orig.follows s) : Out.follows orig (execDataFrameReceive t h es s) := by
  unfold execDataFrameReceive
  repeat' (first | with_reducible assumption | with_reducible apply Out.follows.next | with_reducible apply setNow_follows | with_reducible apply takeFrame_follows | with_reducible apply takeEntries_follows | (dsimp only [State.follows_mk]; change State.follows _ _) | with_reducible apply State.follows.forEach | with_reducible apply State.follows.foldlFst | with_reducible apply State.follows.foldl | split | dsimp only | intro _ | decide)

theorem execCreditFrameReceive_follows {orig : State} (t : Ns) (h : FrameHdr) (cs : List (Nat × Nat)) (s : State) (hF : orig.follows s) : Out.follows orig (execCreditFrameReceive t h cs s) := by
  unfold execCreditFrameReceive
  repeat' (first | with_reducible assumption | with_reducible apply Out.follows.next | with_reducible apply setNow_follows | with_reducible apply takeFrame_follows | with_reducible apply modBsk_follows | (dsimp only [State.follows_mk]; change State.follows _ _) | with_reducible apply State.follows.forEach | with_reducible apply State.follows.foldlFst | with_reducible apply State.follows.foldl | split | dsimp only | intro _ | decide)

theorem takePub_follows {orig : State} (s : State) (w : Nat) (q : SnapRec) (hF : orig.follows s) :
    orig.follows (takePub s w q) := by
  unfold takePub
  repeat' (first | with_reducible assumption | with_reducible apply setWick_follows | with_reducible apply loseWick_follows | (dsimp only [State.follows_mk]; change State.follows _ _) | with_reducible apply State.follows.forEach | with_reducible apply State.follows.foldlFst | with_reducible apply State.follows.foldl | split | dsimp only | intro _ | decide)

theorem execWickFrameReceive_follows {orig : State} (t : Ns) (h : FrameHdr) (recs : List SnapRec) (s : State) (hF : orig.follows s) : Out.follows orig (execWickFrameReceive t h recs s) := by
  unfold execWickFrameReceive
  repeat' (first | with_reducible assumption | with_reducible apply Out.follows.next | with_reducible apply setNow_follows | with_reducible apply takeFrame_follows | with_reducible apply takePub_follows | (dsimp only [State.follows_mk]; change State.follows _ _) | with_reducible apply State.follows.forEach | with_reducible apply State.follows.foldlFst | with_reducible apply State.follows.foldl | split | dsimp only | intro _ | decide)

theorem noteGen_follows {orig : State} (s : State) (g : Nat) (hF : orig.follows s) :
    orig.follows (noteGen s g) := by
  unfold noteGen
  repeat' (first | with_reducible assumption | with_reducible apply logEv_follows | with_reducible apply stick_follows | with_reducible apply modMkt_follows | (dsimp only [State.follows_mk]; change State.follows _ _) | with_reducible apply State.follows.forEach | with_reducible apply State.follows.foldlFst | with_reducible apply State.follows.foldl | split | dsimp only | intro _ | decide)

theorem execHelloFrameReceive_follows {orig : State} (t : Ns) (h : FrameHdr) (i : HelloInfo) (s : State) (hF : orig.follows s) : Out.follows orig (execHelloFrameReceive t h i s) := by
  unfold execHelloFrameReceive
  repeat' (first | with_reducible assumption | with_reducible apply Out.follows.next | with_reducible apply setNow_follows | with_reducible apply takeFrame_follows | with_reducible apply logEv_follows | with_reducible apply stick_follows | with_reducible apply modMkt_follows | with_reducible apply noteGen_follows | (dsimp only [State.follows_mk]; change State.follows _ _) | with_reducible apply State.follows.forEach | with_reducible apply State.follows.foldlFst | with_reducible apply State.follows.foldl | split | dsimp only | intro _ | decide)

theorem frameOut_follows {orig : State} (s : State) (dst cls gen : Nat) (hF : orig.follows s) :
    orig.follows (frameOut s dst cls gen).1 := by
  unfold frameOut
  repeat' (first | with_reducible assumption | with_reducible apply modMkt_follows | (dsimp only [State.follows_mk]; change State.follows _ _) | with_reducible apply State.follows.forEach | with_reducible apply State.follows.foldlFst | with_reducible apply State.follows.foldl | split | dsimp only | intro _ | decide)

theorem execHelloSend_follows {orig : State} (t : Ns) (s : State) (hF : orig.follows s) : Out.follows orig (execHelloSend t s) := by
  unfold execHelloSend
  repeat' (first | with_reducible assumption | with_reducible apply Out.follows.next | with_reducible apply setNow_follows | with_reducible apply frameOut_follows | with_reducible apply emit_follows | (dsimp only [State.follows_mk]; change State.follows _ _) | with_reducible apply State.follows.forEach | with_reducible apply State.follows.foldlFst | with_reducible apply State.follows.foldl | split | dsimp only | intro _ | decide)

theorem execPeerMissing_follows {orig : State} (id : Fin 1024) (t : Ns) (s : State) (hF : orig.follows s) : Out.follows orig (execPeerMissing id t s) := by
  unfold execPeerMissing
  repeat' (first | with_reducible assumption | with_reducible apply Out.follows.next | with_reducible apply setNow_follows | with_reducible apply t0_follows | with_reducible apply logEv_follows | with_reducible apply stick_follows | with_reducible apply modMkt_follows | (dsimp only [State.follows_mk]; change State.follows _ _) | with_reducible apply State.follows.forEach | with_reducible apply State.follows.foldlFst | with_reducible apply State.follows.foldl | split | dsimp only | intro _ | decide)

theorem execLeavingEnd_follows {orig : State} (t : Ns) (s : State) (hF : orig.follows s) : Out.follows orig (execLeavingEnd t s) := by
  unfold execLeavingEnd
  repeat' (first | with_reducible assumption | with_reducible apply Out.follows.next | with_reducible apply setNow_follows | with_reducible apply modMkt_follows | (dsimp only [State.follows_mk]; change State.follows _ _) | with_reducible apply State.follows.forEach | with_reducible apply State.follows.foldlFst | with_reducible apply State.follows.foldl | split | dsimp only | intro _ | decide)

theorem sendData_follows {orig : State} (s : State) (dst cls gen : Nat) (es : List Entry) (hF : orig.follows s) :
    orig.follows (sendData s dst cls gen es) := by
  unfold sendData
  repeat' (first | with_reducible assumption | with_reducible apply frameOut_follows | with_reducible apply emit_follows | (dsimp only [State.follows_mk]; change State.follows _ _) | with_reducible apply State.follows.forEach | with_reducible apply State.follows.foldlFst | with_reducible apply State.follows.foldl | split | dsimp only | intro _ | decide)

theorem egressBsk_follows {orig : State} (s : State) (b : Nat) (hF : orig.follows s) :
    orig.follows (egressBsk s b) := by
  unfold egressBsk
  repeat' (first | with_reducible assumption | with_reducible apply modMkt_follows | with_reducible apply takeMsgs_follows | with_reducible apply modBsk_follows | with_reducible apply sendData_follows | (dsimp only [State.follows_mk]; change State.follows _ _) | with_reducible apply State.follows.forEach | with_reducible apply State.follows.foldlFst | with_reducible apply State.follows.foldl | split | dsimp only | intro _ | decide)

theorem egress_follows {orig : State} (s : State) (hF : orig.follows s) :
    orig.follows (egress s) := by
  unfold egress
  repeat' (first | with_reducible assumption | with_reducible apply egressBsk_follows | (dsimp only [State.follows_mk]; change State.follows _ _) | with_reducible apply State.follows.forEach | with_reducible apply State.follows.foldlFst | with_reducible apply State.follows.foldl | split | dsimp only | intro _ | decide)

theorem sendCredit_follows {orig : State} (s : State) (b : Nat) (hF : orig.follows s) :
    orig.follows (sendCredit s b) := by
  unfold sendCredit
  repeat' (first | with_reducible assumption | with_reducible apply frameOut_follows | with_reducible apply emit_follows | (dsimp only [State.follows_mk]; change State.follows _ _) | with_reducible apply State.follows.forEach | with_reducible apply State.follows.foldlFst | with_reducible apply State.follows.foldl | split | dsimp only | intro _ | decide)

theorem changedCredits_follows {orig : State} (old s : State) (hF : orig.follows s) :
    orig.follows (changedCredits old s) := by
  unfold changedCredits
  repeat' (first | with_reducible assumption | with_reducible apply sendCredit_follows | (dsimp only [State.follows_mk]; change State.follows _ _) | with_reducible apply State.follows.forEach | with_reducible apply State.follows.foldlFst | with_reducible apply State.follows.foldl | split | dsimp only | intro _ | decide)

theorem execCreditRefresh_follows {orig : State} (t : Ns) (s : State) (hF : orig.follows s) : Out.follows orig (execCreditRefresh t s) := by
  unfold execCreditRefresh
  repeat' (first | with_reducible assumption | with_reducible apply Out.follows.next | with_reducible apply setNow_follows | with_reducible apply sendCredit_follows | (dsimp only [State.follows_mk]; change State.follows _ _) | with_reducible apply State.follows.forEach | with_reducible apply State.follows.foldlFst | with_reducible apply State.follows.foldl | split | dsimp only | intro _ | decide)

theorem publish_follows {orig : State} (s : State) (hF : orig.follows s) :
    orig.follows (publish s) := by
  unfold publish
  repeat' (first | with_reducible assumption | with_reducible apply frameOut_follows | with_reducible apply emit_follows | (dsimp only [State.follows_mk]; change State.follows _ _) | with_reducible apply State.follows.forEach | with_reducible apply State.follows.foldlFst | with_reducible apply State.follows.foldl | split | dsimp only | intro _ | decide)

theorem dropDgram_follows {orig : State} (s : State) (hF : orig.follows s) :
    orig.follows (dropDgram s) := by
  unfold dropDgram
  repeat' (first | with_reducible assumption | with_reducible apply modMkt_follows | (dsimp only [State.follows_mk]; change State.follows _ _) | with_reducible apply State.follows.forEach | with_reducible apply State.follows.foldlFst | with_reducible apply State.follows.foldl | split | dsimp only | intro _ | decide)

theorem acceptDgram_follows {orig : State} (s : State) (d : Dgram) (slot : Nat) (hF : orig.follows s) :
    orig.follows (acceptDgram s d slot) := by
  unfold acceptDgram
  repeat' (first | with_reducible assumption | with_reducible apply modMkt_follows | (dsimp only [State.follows_mk]; change State.follows _ _) | with_reducible apply State.follows.forEach | with_reducible apply State.follows.foldlFst | with_reducible apply State.follows.foldl | split | dsimp only | intro _ | decide)

theorem respond_follows {orig : State} (s : State) (d : Dgram) (key status : Nat) (ws : List W32) (hF : orig.follows s) :
    orig.follows (respond s d key status ws) := by
  unfold respond
  repeat' (first | with_reducible assumption | with_reducible apply emit_follows | (dsimp only [State.follows_mk]; change State.follows _ _) | with_reducible apply State.follows.forEach | with_reducible apply State.follows.foldlFst | with_reducible apply State.follows.foldl | split | dsimp only | intro _ | decide)

theorem noteChange_follows {orig : State} (s : State) (d : Dgram) (hF : orig.follows s) :
    orig.follows (noteChange s d) := by
  unfold noteChange
  repeat' (first | with_reducible assumption | with_reducible apply logEv_follows | (dsimp only [State.follows_mk]; change State.follows _ _) | with_reducible apply State.follows.forEach | with_reducible apply State.follows.foldlFst | with_reducible apply State.follows.foldl | split | dsimp only | intro _ | decide)

theorem withDgram_follows {orig : State} (s : State) (d : Dgram) (level : Nat) (f : State → Nat → State × Nat × List W32)
    (hf : ∀ x l, orig.follows x → orig.follows (f x l).1)
    (hF : orig.follows s) : orig.follows (withDgram s d level f) := by
  unfold withDgram
  repeat' (first | with_reducible assumption | with_reducible apply hf | with_reducible apply dropDgram_follows | with_reducible apply acceptDgram_follows | with_reducible apply respond_follows | (dsimp only [State.follows_mk]; change State.follows _ _) | with_reducible apply State.follows.forEach | with_reducible apply State.follows.foldlFst | with_reducible apply State.follows.foldl | split | dsimp only | intro _ | decide)

/-- `withDgram_follows` for a handler with a name of its own. -/
theorem withDgram_followsFst {orig : State} (s : State) (d : Dgram) (level : Nat) (f : State → Nat → State × Nat × List W32)
    (hf : ∀ x l, orig.follows x → orig.followsFst (f x l)) (hF : orig.follows s) : orig.follows (withDgram s d level f) :=
  withDgram_follows s d level f (fun x l h => hf x l h) hF

theorem awaitSwitch_follows {orig : State} (s : State) (frame : Nat) (hF : orig.follows s) :
    orig.follows (awaitSwitch s frame) := by
  unfold awaitSwitch
  repeat' (first | with_reducible assumption | (dsimp only [State.follows_mk]; change State.follows _ _) | with_reducible apply State.follows.forEach | with_reducible apply State.follows.foldlFst | with_reducible apply State.follows.foldl | split | dsimp only | intro _ | decide)

theorem takeSwitch_follows {orig : State} (s : State) (x : Switch) (hF : orig.follows s) :
    orig.follows (takeSwitch s x) := by
  unfold takeSwitch
  repeat' (first | with_reducible assumption | with_reducible apply modMkt_follows | with_reducible apply awaitSwitch_follows | (dsimp only [State.follows_mk]; change State.follows _ _) | with_reducible apply State.follows.forEach | with_reducible apply State.follows.foldlFst | with_reducible apply State.follows.foldl | split | dsimp only | intro _ | decide)

theorem answerSwitch_follows {orig : State} (s : State) (t : Nat) (d : Dgram) (x : Switch) (hF : orig.follows s) :
    orig.follows (answerSwitch s t d x).1 := by
  unfold answerSwitch
  exact State.follows.iteFst (noteChange_follows _ _ (takeSwitch_follows _ _ hF)) (logEv_follows _ _ _ _ hF)

theorem answerSwitch_followsFst {orig : State} (s : State) (t : Nat) (d : Dgram) (x : Switch) (hF : orig.follows s) :
    orig.followsFst (answerSwitch s t d x) := answerSwitch_follows s t d x hF

theorem execSwitch_follows {orig : State} (t : Ns) (d : Dgram) (s_ gen : Nat) (op : SwOp) (subject hash : Nat) (s : State) (hF : orig.follows s) : Out.follows orig (execSwitch t d s_ gen op subject hash s) := by
  exact Out.follows.next (withDgram_followsFst _ _ _ _ (fun x l h => answerSwitch_followsFst x t d _ h) (setNow_follows _ _ hF))

end Sys2Proof.Machine
end

