-- ==== Sys2Proof/Laws/FollowsDrying.lean ====
section
/-!
SUPPORT. Every operation of Machine/Drying.lean keeps `State.follows`: it leaves the queue alone, the recorder follows, no floor and
no epoch falls, and SAFE_OUT_N stays as R403 has it.
-/
namespace Sys2Proof.Machine

open Sys2Proof

theorem writeSlice_follows {orig : State} (s : State) (c : Nat) (x : Column) (runs : Nat) (new : List Parcel) (hF : orig.follows s) :
    orig.follows (writeSlice s c x runs new) := by
  unfold writeSlice
  repeat' (first | with_reducible assumption | with_reducible apply setCol_follows | (dsimp only [State.follows_mk]; change State.follows _ _) | with_reducible apply State.follows.forEach | with_reducible apply State.follows.foldlFst | with_reducible apply State.follows.foldl | split | dsimp only | intro _ | decide)

theorem dryEvent_follows {orig : State} (s : State) (c : Nat) (e : EventName) (what : Nat) (hF : orig.follows s) :
    orig.follows (dryEvent s c e what) := by
  unfold dryEvent
  repeat' (first | with_reducible assumption | with_reducible apply logEv_follows | (dsimp only [State.follows_mk]; change State.follows _ _) | with_reducible apply State.follows.forEach | with_reducible apply State.follows.foldlFst | with_reducible apply State.follows.foldl | split | dsimp only | intro _ | decide)

theorem takeClose_follows {orig : State} (s : State) (c : Nat) (p : Parcel) (hF : orig.follows s) :
    orig.follows (takeClose s c p) := by
  unfold takeClose
  repeat' (first | with_reducible assumption | with_reducible apply setDry_follows | with_reducible apply dryEvent_follows | with_reducible apply stick_follows | (dsimp only [State.follows_mk]; change State.follows _ _) | with_reducible apply State.follows.forEach | with_reducible apply State.follows.foldlFst | with_reducible apply State.follows.foldl | split | dsimp only | intro _ | decide)

theorem takeReport_follows {orig : State} (s : State) (c : Nat) (p : Parcel) (hF : orig.follows s) :
    orig.follows (takeReport s c p) := by
  unfold takeReport
  repeat' (first | with_reducible assumption | with_reducible apply setDry_follows | with_reducible apply takeClose_follows | (dsimp only [State.follows_mk]; change State.follows _ _) | with_reducible apply State.follows.forEach | with_reducible apply State.follows.foldlFst | with_reducible apply State.follows.foldl | split | dsimp only | intro _ | decide)

theorem dryReports_follows {orig : State} (s : State) (x : Inst) (hF : orig.follows s) :
    orig.follows (dryReports s x).1 := by
  unfold dryReports
  repeat' (first | with_reducible assumption | with_reducible apply takeMsgs_follows | (dsimp only [State.follows_mk]; change State.follows _ _) | with_reducible apply State.follows.forEach | with_reducible apply State.follows.foldlFst | with_reducible apply State.follows.foldl | split | dsimp only | intro _ | decide)

theorem dryRefuse_follows {orig : State} (s : State) (c : Nat) (hF : orig.follows s) :
    orig.follows (dryRefuse s c) := by
  unfold dryRefuse
  repeat' (first | with_reducible assumption | with_reducible apply stick_follows | (dsimp only [State.follows_mk]; change State.follows _ _) | with_reducible apply State.follows.forEach | with_reducible apply State.follows.foldlFst | with_reducible apply State.follows.foldl | split | dsimp only | intro _ | decide)

theorem dryEnter_follows {orig : State} (s : State) (c : Nat) (st : DrySt) (rate : F32) (hF : orig.follows s) :
    orig.follows (dryEnter s c st rate) := by
  unfold dryEnter
  repeat' (first | with_reducible assumption | with_reducible apply dryEvent_follows | with_reducible apply setDry_follows | (dsimp only [State.follows_mk]; change State.follows _ _) | with_reducible apply State.follows.forEach | with_reducible apply State.follows.foldlFst | with_reducible apply State.follows.foldl | split | dsimp only | intro _ | decide)

theorem dryCmd_follows {orig : State} (s : State) (c : Nat) (k : DryCmd) (hF : orig.follows s) :
    orig.follows (dryCmd s c k) := by
  unfold dryCmd
  repeat' (first | with_reducible assumption | with_reducible apply setDry_follows | with_reducible apply dryEvent_follows | with_reducible apply dryRefuse_follows | (dsimp only [State.follows_mk]; change State.follows _ _) | with_reducible apply State.follows.forEach | with_reducible apply State.follows.foldlFst | with_reducible apply State.follows.foldl | split | dsimp only | intro _ | decide)

theorem endCool_follows {orig : State} (s : State) (c : Nat) (cold : Bool) (hF : orig.follows s) :
    orig.follows (endCool s c cold) := by
  unfold endCool
  repeat' (first | with_reducible assumption | with_reducible apply dryEnter_follows | (dsimp only [State.follows_mk]; change State.follows _ _) | with_reducible apply State.follows.forEach | with_reducible apply State.follows.foldlFst | with_reducible apply State.follows.foldl | split | dsimp only | intro _ | decide)

theorem dryStates_follows {orig : State} (s : State) (c : Nat) (tAmb : F32) (tab : List Parcel) (hF : orig.follows s) :
    orig.follows (dryStates s c tAmb tab) := by
  unfold dryStates
  repeat' (first | with_reducible assumption | with_reducible apply dryEnter_follows | with_reducible apply endCool_follows | (dsimp only [State.follows_mk]; change State.follows _ _) | with_reducible apply State.follows.forEach | with_reducible apply State.follows.foldlFst | with_reducible apply State.follows.foldl | split | dsimp only | intro _ | decide)

theorem nightDry_follows {orig : State} (s : State) (c : Nat) (hF : orig.follows s) :
    orig.follows (nightDry s c) := by
  unfold nightDry
  repeat' (first | with_reducible assumption | with_reducible apply dryEvent_follows | with_reducible apply stick_follows | with_reducible apply setDry_follows | (dsimp only [State.follows_mk]; change State.follows _ _) | with_reducible apply State.follows.forEach | with_reducible apply State.follows.foldlFst | with_reducible apply State.follows.foldl | split | dsimp only | intro _ | decide)

theorem runDry_follows {orig : State} (s : State) (inst : Nat) (x : Inst) (hF : orig.follows s) :
    orig.follows (runDry s inst x) := by
  unfold runDry
  repeat' (first | with_reducible assumption | with_reducible apply setDry_follows | with_reducible apply dryEvent_follows | with_reducible apply dryCmd_follows | with_reducible apply dryReports_follows | with_reducible apply takeReport_follows | with_reducible apply writeSlice_follows | with_reducible apply dryStates_follows | with_reducible apply postTo_follows | (dsimp only [State.follows_mk]; change State.follows _ _) | with_reducible apply State.follows.forEach | with_reducible apply State.follows.foldlFst | with_reducible apply State.follows.foldl | split | dsimp only | intro _ | decide)

theorem dryTake_follows {orig : State} (s : State) (c : Nat) (k : DryCmd) (hF : orig.follows s) :
    orig.follows (dryTake s c k) := by
  unfold dryTake
  repeat' (first | with_reducible assumption | with_reducible apply setDry_follows | (dsimp only [State.follows_mk]; change State.follows _ _) | with_reducible apply State.follows.forEach | with_reducible apply State.follows.foldlFst | with_reducible apply State.follows.foldl | split | dsimp only | intro _ | decide)

theorem execDryStartCont_follows {orig : State} (c : Fin 16) (s : State) (hF : orig.follows s) : Out.follows orig (execDryStartCont c s) := by
  unfold execDryStartCont
  repeat' (first | with_reducible assumption | with_reducible apply Out.follows.next | with_reducible apply rowCmd_follows | with_reducible apply dryCmd_follows | with_reducible apply dryTake_follows | (dsimp only [State.follows_mk]; change State.follows _ _) | with_reducible apply State.follows.forEach | with_reducible apply State.follows.foldlFst | with_reducible apply State.follows.foldl | split | dsimp only | intro _ | decide)

theorem execDryStartBatch_follows {orig : State} (c : Fin 16) (s : State) (hF : orig.follows s) : Out.follows orig (execDryStartBatch c s) := by
  unfold execDryStartBatch
  repeat' (first | with_reducible assumption | with_reducible apply Out.follows.next | with_reducible apply rowCmd_follows | with_reducible apply dryCmd_follows | with_reducible apply dryTake_follows | (dsimp only [State.follows_mk]; change State.follows _ _) | with_reducible apply State.follows.forEach | with_reducible apply State.follows.foldlFst | with_reducible apply State.follows.foldl | split | dsimp only | intro _ | decide)

theorem execDryCoolDown_follows {orig : State} (c : Fin 16) (s : State) (hF : orig.follows s) : Out.follows orig (execDryCoolDown c s) := by
  unfold execDryCoolDown
  repeat' (first | with_reducible assumption | with_reducible apply Out.follows.next | with_reducible apply rowCmd_follows | with_reducible apply dryCmd_follows | with_reducible apply dryTake_follows | (dsimp only [State.follows_mk]; change State.follows _ _) | with_reducible apply State.follows.forEach | with_reducible apply State.follows.foldlFst | with_reducible apply State.follows.foldl | split | dsimp only | intro _ | decide)

theorem execDryStop_follows {orig : State} (c : Fin 16) (s : State) (hF : orig.follows s) : Out.follows orig (execDryStop c s) := by
  unfold execDryStop
  repeat' (first | with_reducible assumption | with_reducible apply Out.follows.next | with_reducible apply rowCmd_follows | with_reducible apply dryCmd_follows | with_reducible apply dryTake_follows | (dsimp only [State.follows_mk]; change State.follows _ _) | with_reducible apply State.follows.forEach | with_reducible apply State.follows.foldlFst | with_reducible apply State.follows.foldl | split | dsimp only | intro _ | decide)

theorem execDryResume_follows {orig : State} (c : Fin 16) (s : State) (hF : orig.follows s) : Out.follows orig (execDryResume c s) := by
  unfold execDryResume
  repeat' (first | with_reducible assumption | with_reducible apply Out.follows.next | with_reducible apply rowCmd_follows | with_reducible apply dryCmd_follows | with_reducible apply dryTake_follows | (dsimp only [State.follows_mk]; change State.follows _ _) | with_reducible apply State.follows.forEach | with_reducible apply State.follows.foldlFst | with_reducible apply State.follows.foldl | split | dsimp only | intro _ | decide)

theorem execDryResetAdapt_follows {orig : State} (c : Fin 16) (s : State) (hF : orig.follows s) : Out.follows orig (execDryResetAdapt c s) := by
  unfold execDryResetAdapt
  repeat' (first | with_reducible assumption | with_reducible apply Out.follows.next | with_reducible apply rowCmd_follows | with_reducible apply dryCmd_follows | with_reducible apply dryTake_follows | (dsimp only [State.follows_mk]; change State.follows _ _) | with_reducible apply State.follows.forEach | with_reducible apply State.follows.foldlFst | with_reducible apply State.follows.foldl | split | dsimp only | intro _ | decide)

theorem execDryClearBias_follows {orig : State} (c : Fin 16) (s : State) (hF : orig.follows s) : Out.follows orig (execDryClearBias c s) := by
  unfold execDryClearBias
  repeat' (first | with_reducible assumption | with_reducible apply Out.follows.next | with_reducible apply rowCmd_follows | with_reducible apply dryCmd_follows | with_reducible apply dryTake_follows | (dsimp only [State.follows_mk]; change State.follows _ _) | with_reducible apply State.follows.forEach | with_reducible apply State.follows.foldlFst | with_reducible apply State.follows.foldl | split | dsimp only | intro _ | decide)

theorem execDryCoolMaxExpiry_follows {orig : State} (c : Fin 16) (t : Ns) (s : State) (hF : orig.follows s) : Out.follows orig (execDryCoolMaxExpiry c t s) := by
  unfold execDryCoolMaxExpiry
  repeat' (first | with_reducible assumption | with_reducible apply Out.follows.next | with_reducible apply setNow_follows | with_reducible apply setDry_follows | (dsimp only [State.follows_mk]; change State.follows _ _) | with_reducible apply State.follows.forEach | with_reducible apply State.follows.foldlFst | with_reducible apply State.follows.foldl | split | dsimp only | intro _ | decide)

theorem execInputSubstTimeout_follows {orig : State} (c : Fin 16) (inp : Nat) (t : Ns) (s : State) (hF : orig.follows s) : Out.follows orig (execInputSubstTimeout c inp t s) := by
  unfold execInputSubstTimeout
  repeat' (first | with_reducible assumption | with_reducible apply Out.follows.next | with_reducible apply setNow_follows | with_reducible apply dryEvent_follows | with_reducible apply setDry_follows | (dsimp only [State.follows_mk]; change State.follows _ _) | with_reducible apply State.follows.forEach | with_reducible apply State.follows.foldlFst | with_reducible apply State.follows.foldl | split | dsimp only | intro _ | decide)

theorem execFbOnlyTimeout_follows {orig : State} (c : Fin 16) (t : Ns) (s : State) (hF : orig.follows s) : Out.follows orig (execFbOnlyTimeout c t s) := by
  unfold execFbOnlyTimeout
  repeat' (first | with_reducible assumption | with_reducible apply Out.follows.next | with_reducible apply setNow_follows | with_reducible apply setDry_follows | (dsimp only [State.follows_mk]; change State.follows _ _) | with_reducible apply State.follows.forEach | with_reducible apply State.follows.foldlFst | with_reducible apply State.follows.foldl | split | dsimp only | intro _ | decide)

theorem dryCmdReg_follows {orig : State} (s : State) (c : Nat) (v : W32) (hF : orig.follows s) :
    orig.follows (dryCmdReg s c v) := by
  unfold dryCmdReg
  repeat' (first | with_reducible assumption | with_reducible apply dryTake_follows | (dsimp only [State.follows_mk]; change State.follows _ _) | with_reducible apply State.follows.forEach | with_reducible apply State.follows.foldlFst | with_reducible apply State.follows.foldl | split | dsimp only | intro _ | decide)

theorem restoreDry_follows {orig : State} (s : State) (c : Nat) (hF : orig.follows s) :
    orig.follows (restoreDry s c) := by
  unfold restoreDry
  repeat' (first | with_reducible assumption | with_reducible apply setDry_follows | (dsimp only [State.follows_mk]; change State.follows _ _) | with_reducible apply State.follows.forEach | with_reducible apply State.follows.foldlFst | with_reducible apply State.follows.foldl | split | dsimp only | intro _ | decide)

theorem takeTrims_follows {orig : State} (s : State) (h : Nat) (x : Inst) (hF : orig.follows s) :
    orig.follows (takeTrims s h x) := by
  unfold takeTrims
  repeat' (first | with_reducible assumption | with_reducible apply takeMsgs_follows | with_reducible apply setHeat_follows | (dsimp only [State.follows_mk]; change State.follows _ _) | with_reducible apply State.follows.forEach | with_reducible apply State.follows.foldlFst | with_reducible apply State.follows.foldl | split | dsimp only | intro _ | decide)

theorem runHeat_follows {orig : State} (s : State) (x : Inst) (hF : orig.follows s) :
    orig.follows (runHeat s x) := by
  unfold runHeat
  repeat' (first | with_reducible assumption | with_reducible apply takeTrims_follows | with_reducible apply t0_follows | with_reducible apply setHeat_follows | with_reducible apply stick_follows | with_reducible apply logEv_follows | with_reducible apply setTx_follows | with_reducible apply setStl_follows | (dsimp only [State.follows_mk]; change State.follows _ _) | with_reducible apply State.follows.forEach | with_reducible apply State.follows.foldlFst | with_reducible apply State.follows.foldl | split | dsimp only | intro _ | decide)

theorem takePoints_follows {orig : State} (s : State) (g : Nat) (x : Inst) (hF : orig.follows s) :
    orig.follows (takePoints s g x) := by
  unfold takePoints
  repeat' (first | with_reducible assumption | with_reducible apply takeMsgs_follows | with_reducible apply setAer_follows | (dsimp only [State.follows_mk]; change State.follows _ _) | with_reducible apply State.follows.forEach | with_reducible apply State.follows.foldlFst | with_reducible apply State.follows.foldl | split | dsimp only | intro _ | decide)

theorem aerSwitch_follows {orig : State} (s : State) (g : Nat) (on : Bool) (hF : orig.follows s) :
    orig.follows (aerSwitch s g on) := by
  unfold aerSwitch
  repeat' (first | with_reducible assumption | with_reducible apply setAer_follows | with_reducible apply setStl_follows | with_reducible apply setMot_follows | (dsimp only [State.follows_mk]; change State.follows _ _) | with_reducible apply State.follows.forEach | with_reducible apply State.follows.foldlFst | with_reducible apply State.follows.foldl | split | dsimp only | intro _ | decide)

theorem runAer_follows {orig : State} (s : State) (inst : Nat) (x : Inst) (hF : orig.follows s) :
    orig.follows (runAer s inst x) := by
  unfold runAer
  repeat' (first | with_reducible assumption | with_reducible apply takePoints_follows | with_reducible apply setAer_follows | with_reducible apply logEv_follows | with_reducible apply stick_follows | with_reducible apply aerSwitch_follows | with_reducible apply postTo_follows | (dsimp only [State.follows_mk]; change State.follows _ _) | with_reducible apply State.follows.forEach | with_reducible apply State.follows.foldlFst | with_reducible apply State.follows.foldl | split | dsimp only | intro _ | decide)

theorem execAerMinTimeExpiry_follows {orig : State} (g : Fin 64) (t : Ns) (s : State) (hF : orig.follows s) : Out.follows orig (execAerMinTimeExpiry g t s) := by
  unfold execAerMinTimeExpiry
  repeat' (first | with_reducible assumption | with_reducible apply Out.follows.next | with_reducible apply setNow_follows | with_reducible apply setAer_follows | (dsimp only [State.follows_mk]; change State.follows _ _) | with_reducible apply State.follows.forEach | with_reducible apply State.follows.foldlFst | with_reducible apply State.follows.foldl | split | dsimp only | intro _ | decide)

end Sys2Proof.Machine
end

