-- ==== Sys2Proof/Laws/FollowsLoops.lean ====
section
/-!
SUPPORT. Every operation of Machine/Loops.lean keeps `State.follows`: it leaves the queue alone, the recorder follows, no floor and
no epoch falls, and SAFE_OUT_N stays as R403 has it.
-/
namespace Sys2Proof.Machine

open Sys2Proof

theorem modTaper_follows {orig : State} (s : State) (j : Nat) (f : Taper → Taper) (hF : orig.follows s) :
    orig.follows (modTaper s j f) := by
  unfold modTaper
  repeat' (first | with_reducible assumption | with_reducible apply setTaper_follows | (dsimp only [State.follows_mk]; change State.follows _ _) | with_reducible apply State.follows.forEach | with_reducible apply State.follows.foldlFst | with_reducible apply State.follows.foldl | split | dsimp only | intro _ | decide)

theorem modLoop_follows {orig : State} (s : State) (i : Nat) (f : Loop → Loop) (hF : orig.follows s) :
    orig.follows (modLoop s i f) := by
  unfold modLoop
  repeat' (first | with_reducible assumption | with_reducible apply setLoop_follows | (dsimp only [State.follows_mk]; change State.follows _ _) | with_reducible apply State.follows.forEach | with_reducible apply State.follows.foldlFst | with_reducible apply State.follows.foldl | split | dsimp only | intro _ | decide)

theorem replan_follows {orig : State} (s : State) (j t : Nat) (target : F32) (tgtBits : F32) (hF : orig.follows s) :
    orig.follows (replan s j t target tgtBits) := by
  unfold replan
  repeat' (first | with_reducible assumption | with_reducible apply setTaper_follows | with_reducible apply stick_follows | (dsimp only [State.follows_mk]; change State.follows _ _) | with_reducible apply State.follows.forEach | with_reducible apply State.follows.foldlFst | with_reducible apply State.follows.foldl | split | dsimp only | intro _ | decide)

theorem tprHold_follows {orig : State} (s : State) (j t : Nat) (hF : orig.follows s) :
    orig.follows (tprHold s j t) := by
  unfold tprHold
  repeat' (first | with_reducible assumption | with_reducible apply replan_follows | with_reducible apply setTaper_follows | (dsimp only [State.follows_mk]; change State.follows _ _) | with_reducible apply State.follows.forEach | with_reducible apply State.follows.foldlFst | with_reducible apply State.follows.foldl | split | dsimp only | intro _ | decide)

theorem tprRun_follows {orig : State} (s : State) (j t : Nat) (hF : orig.follows s) :
    orig.follows (tprRun s j t) := by
  unfold tprRun
  repeat' (first | with_reducible assumption | with_reducible apply setTaper_follows | with_reducible apply stick_follows | (dsimp only [State.follows_mk]; change State.follows _ _) | with_reducible apply State.follows.forEach | with_reducible apply State.follows.foldlFst | with_reducible apply State.follows.foldl | split | dsimp only | intro _ | decide)

theorem tprTrack_follows {orig : State} (s : State) (j t : Nat) (hF : orig.follows s) :
    orig.follows (tprTrack s j t) := by
  unfold tprTrack
  repeat' (first | with_reducible assumption | with_reducible apply setTaper_follows | (dsimp only [State.follows_mk]; change State.follows _ _) | with_reducible apply State.follows.forEach | with_reducible apply State.follows.foldlFst | with_reducible apply State.follows.foldl | split | dsimp only | intro _ | decide)

theorem tprSetValue_follows {orig : State} (s : State) (j : Nat) (hF : orig.follows s) :
    orig.follows (tprSetValue s j) := by
  unfold tprSetValue
  repeat' (first | with_reducible assumption | with_reducible apply stick_follows | with_reducible apply setTaper_follows | (dsimp only [State.follows_mk]; change State.follows _ _) | with_reducible apply State.follows.forEach | with_reducible apply State.follows.foldlFst | with_reducible apply State.follows.foldl | split | dsimp only | intro _ | decide)

theorem tprApply_follows {orig : State} (s : State) (j : Nat) (fromPresent : Bool) (hF : orig.follows s) :
    orig.follows (tprApply s j fromPresent) := by
  unfold tprApply
  repeat' (first | with_reducible assumption | with_reducible apply modTaper_follows | (dsimp only [State.follows_mk]; change State.follows _ _) | with_reducible apply State.follows.forEach | with_reducible apply State.follows.foldlFst | with_reducible apply State.follows.foldl | split | dsimp only | intro _ | decide)

theorem tprCmd_follows {orig : State} (s : State) (j t : Nat) (c : TprCmd) (hF : orig.follows s) :
    orig.follows (tprCmd s j t c) := by
  unfold tprCmd
  repeat' (first | with_reducible assumption | with_reducible apply tprRun_follows | with_reducible apply tprHold_follows | with_reducible apply tprTrack_follows | with_reducible apply tprSetValue_follows | with_reducible apply tprApply_follows | (dsimp only [State.follows_mk]; change State.follows _ _) | with_reducible apply State.follows.forEach | with_reducible apply State.follows.foldlFst | with_reducible apply State.follows.foldl | split | dsimp only | intro _ | decide)

theorem tprTake_follows {orig : State} (s : State) (j : Nat) (c : TprCmd) (hF : orig.follows s) :
    orig.follows (tprTake s j c) := by
  unfold tprTake
  repeat' (first | with_reducible assumption | with_reducible apply modTaper_follows | (dsimp only [State.follows_mk]; change State.follows _ _) | with_reducible apply State.follows.forEach | with_reducible apply State.follows.foldlFst | with_reducible apply State.follows.foldl | split | dsimp only | intro _ | decide)

theorem execTprRun_follows {orig : State} (j : Fin 256) (s : State) (hF : orig.follows s) : Out.follows orig (execTprRun j s) := by
  unfold execTprRun
  repeat' (first | with_reducible assumption | with_reducible apply Out.follows.next | with_reducible apply rowCmd_follows | with_reducible apply tprCmd_follows | with_reducible apply tprTake_follows | (dsimp only [State.follows_mk]; change State.follows _ _) | with_reducible apply State.follows.forEach | with_reducible apply State.follows.foldlFst | with_reducible apply State.follows.foldl | split | dsimp only | intro _ | decide)

theorem execTprHold_follows {orig : State} (j : Fin 256) (s : State) (hF : orig.follows s) : Out.follows orig (execTprHold j s) := by
  unfold execTprHold
  repeat' (first | with_reducible assumption | with_reducible apply Out.follows.next | with_reducible apply rowCmd_follows | with_reducible apply tprCmd_follows | with_reducible apply tprTake_follows | (dsimp only [State.follows_mk]; change State.follows _ _) | with_reducible apply State.follows.forEach | with_reducible apply State.follows.foldlFst | with_reducible apply State.follows.foldl | split | dsimp only | intro _ | decide)

theorem execTprTrack_follows {orig : State} (j : Fin 256) (s : State) (hF : orig.follows s) : Out.follows orig (execTprTrack j s) := by
  unfold execTprTrack
  repeat' (first | with_reducible assumption | with_reducible apply Out.follows.next | with_reducible apply rowCmd_follows | with_reducible apply tprCmd_follows | with_reducible apply tprTake_follows | (dsimp only [State.follows_mk]; change State.follows _ _) | with_reducible apply State.follows.forEach | with_reducible apply State.follows.foldlFst | with_reducible apply State.follows.foldl | split | dsimp only | intro _ | decide)

theorem execTprSetValue_follows {orig : State} (j : Fin 256) (s : State) (hF : orig.follows s) : Out.follows orig (execTprSetValue j s) := by
  unfold execTprSetValue
  repeat' (first | with_reducible assumption | with_reducible apply Out.follows.next | with_reducible apply report_follows | with_reducible apply stick_follows | with_reducible apply tprCmd_follows | with_reducible apply rowCmd_follows | with_reducible apply tprTake_follows | (dsimp only [State.follows_mk]; change State.follows _ _) | with_reducible apply State.follows.forEach | with_reducible apply State.follows.foldlFst | with_reducible apply State.follows.foldl | split | dsimp only | intro _ | decide)

theorem execTprApplyCoord_follows {orig : State} (j : Fin 256) (fromPresent : Bool) (s : State) (hF : orig.follows s) : Out.follows orig (execTprApplyCoord j fromPresent s) := by
  unfold execTprApplyCoord
  repeat' (first | with_reducible assumption | with_reducible apply Out.follows.next | with_reducible apply rowCmd_follows | with_reducible apply tprCmd_follows | with_reducible apply tprTake_follows | (dsimp only [State.follows_mk]; change State.follows _ _) | with_reducible apply State.follows.forEach | with_reducible apply State.follows.foldlFst | with_reducible apply State.follows.foldl | split | dsimp only | intro _ | decide)

theorem tprPost_follows {orig : State} (s : State) (inst j : Nat) (x : Inst) (hF : orig.follows s) :
    orig.follows (tprPost s inst j x) := by
  unfold tprPost
  repeat' (first | with_reducible assumption | with_reducible apply modTaper_follows | with_reducible apply postTo_follows | (dsimp only [State.follows_mk]; change State.follows _ _) | with_reducible apply State.follows.forEach | with_reducible apply State.follows.foldlFst | with_reducible apply State.follows.foldl | split | dsimp only | intro _ | decide)

theorem tprTargetOf_follows {orig : State} (s : State) (inst j : Nat) (x : Inst) (hF : orig.follows s) :
    orig.follows (tprTargetOf s inst j x).1 := by
  unfold tprTargetOf
  repeat' (first | with_reducible assumption | with_reducible apply inVal_follows | (dsimp only [State.follows_mk]; change State.follows _ _) | with_reducible apply State.follows.forEach | with_reducible apply State.follows.foldlFst | with_reducible apply State.follows.foldl | split | dsimp only | intro _ | decide)

theorem followTrack_follows {orig : State} (s : State) (j : Nat) (x : Inst) (v : F32) (hF : orig.follows s) :
    orig.follows (followTrack s j x v) := by
  unfold followTrack
  repeat' (first | with_reducible assumption | with_reducible apply modTaper_follows | (dsimp only [State.follows_mk]; change State.follows _ _) | with_reducible apply State.follows.forEach | with_reducible apply State.follows.foldlFst | with_reducible apply State.follows.foldl | split | dsimp only | intro _ | decide)

theorem followPlan_follows {orig : State} (s : State) (j t : Nat) (hF : orig.follows s) :
    orig.follows (followPlan s j t) := by
  unfold followPlan
  repeat' (first | with_reducible assumption | with_reducible apply setTaper_follows | with_reducible apply stick_follows | (dsimp only [State.follows_mk]; change State.follows _ _) | with_reducible apply State.follows.forEach | with_reducible apply State.follows.foldlFst | with_reducible apply State.follows.foldl | split | dsimp only | intro _ | decide)

theorem runLevel_follows {orig : State} (s : State) (inst j t : Nat) (x : Inst) (hF : orig.follows s) :
    orig.follows (runLevel s inst j t x) := by
  unfold runLevel
  repeat' (first | with_reducible assumption | with_reducible apply tprTargetOf_follows | with_reducible apply modTaper_follows | with_reducible apply followTrack_follows | with_reducible apply setTaper_follows | with_reducible apply inVal_follows | with_reducible apply followPlan_follows | with_reducible apply replan_follows | with_reducible apply tprPost_follows | (dsimp only [State.follows_mk]; change State.follows _ _) | with_reducible apply State.follows.forEach | with_reducible apply State.follows.foldlFst | with_reducible apply State.follows.foldl | split | dsimp only | intro _ | decide)

theorem runCoord_follows {orig : State} (s : State) (inst j : Nat) (x : Inst) (hF : orig.follows s) :
    orig.follows (runCoord s inst j x) := by
  unfold runCoord
  repeat' (first | with_reducible assumption | with_reducible apply setTaper_follows | with_reducible apply stick_follows | with_reducible apply tprPost_follows | (dsimp only [State.follows_mk]; change State.follows _ _) | with_reducible apply State.follows.forEach | with_reducible apply State.follows.foldlFst | with_reducible apply State.follows.foldl | split | dsimp only | intro _ | decide)

theorem runTaper_follows {orig : State} (s : State) (inst : Nat) (x : Inst) (hF : orig.follows s) :
    orig.follows (runTaper s inst x) := by
  unfold runTaper
  repeat' (first | with_reducible assumption | with_reducible apply tprCmd_follows | with_reducible apply modTaper_follows | with_reducible apply runCoord_follows | with_reducible apply runLevel_follows | (dsimp only [State.follows_mk]; change State.follows _ _) | with_reducible apply State.follows.forEach | with_reducible apply State.follows.foldlFst | with_reducible apply State.follows.foldl | split | dsimp only | intro _ | decide)

theorem loopEvent_follows {orig : State} (s : State) (i : Nat) (e : EventName) (hF : orig.follows s) :
    orig.follows (loopEvent s i e) := by
  unfold loopEvent
  repeat' (first | with_reducible assumption | with_reducible apply logEv_follows | (dsimp only [State.follows_mk]; change State.follows _ _) | with_reducible apply State.follows.forEach | with_reducible apply State.follows.foldlFst | with_reducible apply State.follows.foldl | split | dsimp only | intro _ | decide)

theorem takeEstimate_follows {orig : State} (s : State) (inst : Nat) (x : Inst) (hF : orig.follows s) :
    orig.follows (takeEstimate s inst x).1 := by
  unfold takeEstimate
  repeat' (first | with_reducible assumption | with_reducible apply t0_follows | with_reducible apply takeMsgs_follows | with_reducible apply setBlk_follows | with_reducible apply inVal_follows | (dsimp only [State.follows_mk]; change State.follows _ _) | with_reducible apply State.follows.forEach | with_reducible apply State.follows.foldlFst | with_reducible apply State.follows.foldl | split | dsimp only | intro _ | decide)

theorem applyDst_follows {orig : State} (s : State) (inst : Nat) (d : Dst) (u : F32) (hF : orig.follows s) :
    orig.follows (applyDst s inst d u) := by
  unfold applyDst
  repeat' (first | with_reducible assumption | with_reducible apply keepPost_follows | with_reducible apply setMot_follows | with_reducible apply setTx_follows | with_reducible apply setStl_follows | (dsimp only [State.follows_mk]; change State.follows _ _) | with_reducible apply State.follows.forEach | with_reducible apply State.follows.foldlFst | with_reducible apply State.follows.foldl | split | dsimp only | intro _ | decide)

theorem loopRefuse_follows {orig : State} (s : State) (i : Nat) (hF : orig.follows s) :
    orig.follows (loopRefuse s i) := by
  unfold loopRefuse
  repeat' (first | with_reducible assumption | with_reducible apply stick_follows | (dsimp only [State.follows_mk]; change State.follows _ _) | with_reducible apply State.follows.forEach | with_reducible apply State.follows.foldlFst | with_reducible apply State.follows.foldl | split | dsimp only | intro _ | decide)

theorem switchSource_follows {orig : State} (s : State) (i : Nat) (xNew : F32) (hF : orig.follows s) :
    orig.follows (switchSource s i xNew) := by
  unfold switchSource
  repeat' (first | with_reducible assumption | with_reducible apply modLoop_follows | (dsimp only [State.follows_mk]; change State.follows _ _) | with_reducible apply State.follows.forEach | with_reducible apply State.follows.foldlFst | with_reducible apply State.follows.foldl | split | dsimp only | intro _ | decide)

theorem loopBack_follows {orig : State} (s : State) (i : Nat) (hF : orig.follows s) :
    orig.follows (loopBack s i) := by
  unfold loopBack
  repeat' (first | with_reducible assumption | with_reducible apply switchSource_follows | with_reducible apply loopEvent_follows | with_reducible apply modLoop_follows | (dsimp only [State.follows_mk]; change State.follows _ _) | with_reducible apply State.follows.forEach | with_reducible apply State.follows.foldlFst | with_reducible apply State.follows.foldl | split | dsimp only | intro _ | decide)

theorem setManual_follows {orig : State} (s : State) (i : Nat) (u : F32) (hF : orig.follows s) :
    orig.follows (setManual s i u) := by
  unfold setManual
  repeat' (first | with_reducible assumption | with_reducible apply modLoop_follows | with_reducible apply blockReg_follows | (dsimp only [State.follows_mk]; change State.follows _ _) | with_reducible apply State.follows.forEach | with_reducible apply State.follows.foldlFst | with_reducible apply State.follows.foldl | split | dsimp only | intro _ | decide)

theorem loopAuto_follows {orig : State} (s : State) (i : Nat) (hF : orig.follows s) :
    orig.follows (loopAuto s i) := by
  unfold loopAuto
  repeat' (first | with_reducible assumption | with_reducible apply modLoop_follows | with_reducible apply loopBack_follows | with_reducible apply loopRefuse_follows | (dsimp only [State.follows_mk]; change State.follows _ _) | with_reducible apply State.follows.forEach | with_reducible apply State.follows.foldlFst | with_reducible apply State.follows.foldl | split | dsimp only | intro _ | decide)

theorem loopManual_follows {orig : State} (s : State) (i : Nat) (hF : orig.follows s) :
    orig.follows (loopManual s i) := by
  unfold loopManual
  repeat' (first | with_reducible assumption | with_reducible apply setManual_follows | with_reducible apply loopRefuse_follows | (dsimp only [State.follows_mk]; change State.follows _ _) | with_reducible apply State.follows.forEach | with_reducible apply State.follows.foldlFst | with_reducible apply State.follows.foldl | split | dsimp only | intro _ | decide)

theorem loopReset_follows {orig : State} (s : State) (i : Nat) (hF : orig.follows s) :
    orig.follows (loopReset s i) := by
  unfold loopReset
  repeat' (first | with_reducible assumption | with_reducible apply loopEvent_follows | with_reducible apply modLoop_follows | with_reducible apply setManual_follows | with_reducible apply loopRefuse_follows | (dsimp only [State.follows_mk]; change State.follows _ _) | with_reducible apply State.follows.forEach | with_reducible apply State.follows.foldlFst | with_reducible apply State.follows.foldl | split | dsimp only | intro _ | decide)

theorem loopClear_follows {orig : State} (s : State) (i : Nat) (hF : orig.follows s) :
    orig.follows (loopClear s i) := by
  unfold loopClear
  repeat' (first | with_reducible assumption | with_reducible apply modLoop_follows | (dsimp only [State.follows_mk]; change State.follows _ _) | with_reducible apply State.follows.forEach | with_reducible apply State.follows.foldlFst | with_reducible apply State.follows.foldl | split | dsimp only | intro _ | decide)

theorem loopCmd_follows {orig : State} (s : State) (i : Nat) (c : LoopCmd) (hF : orig.follows s) :
    orig.follows (loopCmd s i c) := by
  unfold loopCmd
  repeat' (first | with_reducible assumption | with_reducible apply loopAuto_follows | with_reducible apply loopManual_follows | with_reducible apply loopReset_follows | (dsimp only [State.follows_mk]; change State.follows _ _) | with_reducible apply State.follows.forEach | with_reducible apply State.follows.foldlFst | with_reducible apply State.follows.foldl | split | dsimp only | intro _ | decide)

theorem loopSilence_follows {orig : State} (s : State) (i : Nat) (hF : orig.follows s) :
    orig.follows (loopSilence s i) := by
  unfold loopSilence
  repeat' (first | with_reducible assumption | with_reducible apply loopEvent_follows | with_reducible apply modLoop_follows | (dsimp only [State.follows_mk]; change State.follows _ _) | with_reducible apply State.follows.forEach | with_reducible apply State.follows.foldlFst | with_reducible apply State.follows.foldl | split | dsimp only | intro _ | decide)

theorem loopTrack_follows {orig : State} (s : State) (i : Nat) (on : Bool) (hF : orig.follows s) :
    orig.follows (loopTrack s i on) := by
  unfold loopTrack
  repeat' (first | with_reducible assumption | with_reducible apply modLoop_follows | (dsimp only [State.follows_mk]; change State.follows _ _) | with_reducible apply State.follows.forEach | with_reducible apply State.follows.foldlFst | with_reducible apply State.follows.foldl | split | dsimp only | intro _ | decide)

theorem loopTake_follows {orig : State} (s : State) (i : Nat) (c : LoopCmd) (hF : orig.follows s) :
    orig.follows (loopTake s i c) := by
  unfold loopTake
  repeat' (first | with_reducible assumption | with_reducible apply modLoop_follows | (dsimp only [State.follows_mk]; change State.follows _ _) | with_reducible apply State.follows.forEach | with_reducible apply State.follows.foldlFst | with_reducible apply State.follows.foldl | split | dsimp only | intro _ | decide)

theorem execLoopAuto_follows {orig : State} (i : Fin 512) (s : State) (hF : orig.follows s) : Out.follows orig (execLoopAuto i s) := by
  unfold execLoopAuto
  repeat' (first | with_reducible assumption | with_reducible apply Out.follows.next | with_reducible apply rowCmd_follows | with_reducible apply loopCmd_follows | with_reducible apply loopTake_follows | (dsimp only [State.follows_mk]; change State.follows _ _) | with_reducible apply State.follows.forEach | with_reducible apply State.follows.foldlFst | with_reducible apply State.follows.foldl | split | dsimp only | intro _ | decide)

theorem execLoopManual_follows {orig : State} (i : Fin 512) (s : State) (hF : orig.follows s) : Out.follows orig (execLoopManual i s) := by
  unfold execLoopManual
  repeat' (first | with_reducible assumption | with_reducible apply Out.follows.next | with_reducible apply rowCmd_follows | with_reducible apply loopCmd_follows | with_reducible apply loopTake_follows | (dsimp only [State.follows_mk]; change State.follows _ _) | with_reducible apply State.follows.forEach | with_reducible apply State.follows.foldlFst | with_reducible apply State.follows.foldl | split | dsimp only | intro _ | decide)

theorem execLoopReset_follows {orig : State} (i : Fin 512) (s : State) (hF : orig.follows s) : Out.follows orig (execLoopReset i s) := by
  unfold execLoopReset
  repeat' (first | with_reducible assumption | with_reducible apply Out.follows.next | with_reducible apply rowCmd_follows | with_reducible apply loopCmd_follows | with_reducible apply loopTake_follows | (dsimp only [State.follows_mk]; change State.follows _ _) | with_reducible apply State.follows.forEach | with_reducible apply State.follows.foldlFst | with_reducible apply State.follows.foldl | split | dsimp only | intro _ | decide)

theorem execLoopClearFindings_follows {orig : State} (i : Fin 512) (s : State) (hF : orig.follows s) : Out.follows orig (execLoopClearFindings i s) := by
  unfold execLoopClearFindings
  repeat' (first | with_reducible assumption | with_reducible apply Out.follows.next | with_reducible apply rowCmd_follows | with_reducible apply loopCmd_follows | with_reducible apply loopClear_follows | (dsimp only [State.follows_mk]; change State.follows _ _) | with_reducible apply State.follows.forEach | with_reducible apply State.follows.foldlFst | with_reducible apply State.follows.foldl | split | dsimp only | intro _ | decide)

theorem lawInputs_follows {orig : State} (s : State) (inst i : Nat) (x : Inst) (st : LoopSt) (hF : orig.follows s) :
    orig.follows (lawInputs s inst i x st).1 := by
  unfold lawInputs
  repeat' (first | with_reducible assumption | with_reducible apply inVal_follows | with_reducible apply t0_follows | (dsimp only [State.follows_mk]; change State.follows _ _) | with_reducible apply State.follows.forEach | with_reducible apply State.follows.foldlFst | with_reducible apply State.follows.foldl | split | dsimp only | intro _ | decide)

theorem takeTrack_follows {orig : State} (s : State) (inst i : Nat) (x : Inst) (hF : orig.follows s) :
    orig.follows (takeTrack s inst i x) := by
  unfold takeTrack
  repeat' (first | with_reducible assumption | with_reducible apply modLoop_follows | with_reducible apply t0_follows | with_reducible apply inVal_follows | (dsimp only [State.follows_mk]; change State.follows _ _) | with_reducible apply State.follows.forEach | with_reducible apply State.follows.foldlFst | with_reducible apply State.follows.foldl | split | dsimp only | intro _ | decide)

theorem pvTrack_follows {orig : State} (s : State) (i : Nat) (x : Inst) (st : LoopSt) (v : F32) (hF : orig.follows s) :
    orig.follows (pvTrack s i x st v) := by
  unfold pvTrack
  repeat' (first | with_reducible assumption | with_reducible apply modTaper_follows | (dsimp only [State.follows_mk]; change State.follows _ _) | with_reducible apply State.follows.forEach | with_reducible apply State.follows.foldlFst | with_reducible apply State.follows.foldl | split | dsimp only | intro _ | decide)

theorem applyOwn_follows {orig : State} (s : State) (inst i : Nat) (x : Inst) (hF : orig.follows s) :
    orig.follows (applyOwn s inst i x) := by
  unfold applyOwn
  repeat' (first | with_reducible assumption | with_reducible apply loopCmd_follows | with_reducible apply modLoop_follows | with_reducible apply loopTrack_follows | with_reducible apply keepPost_follows | with_reducible apply applyDst_follows | (dsimp only [State.follows_mk]; change State.follows _ _) | with_reducible apply State.follows.forEach | with_reducible apply State.follows.foldlFst | with_reducible apply State.follows.foldl | split | dsimp only | intro _ | decide)

theorem runLaw_follows {orig : State} (s : State) (inst : Nat) (x : Inst) (hF : orig.follows s) :
    orig.follows (runLaw s inst x) := by
  unfold runLaw
  repeat' (first | with_reducible assumption | with_reducible apply lawInputs_follows | with_reducible apply takeTrack_follows | with_reducible apply modLoop_follows | with_reducible apply pvTrack_follows | with_reducible apply applyOwn_follows | (dsimp only [State.follows_mk]; change State.follows _ _) | with_reducible apply State.follows.forEach | with_reducible apply State.follows.foldlFst | with_reducible apply State.follows.foldl | split | dsimp only | intro _ | decide)

theorem freezeTrack_follows {orig : State} (s : State) (hF : orig.follows s) :
    orig.follows (freezeTrack s) := by
  unfold freezeTrack
  repeat' (first | with_reducible assumption | with_reducible apply setWick_follows | (dsimp only [State.follows_mk]; change State.follows _ _) | with_reducible apply State.follows.forEach | with_reducible apply State.follows.foldlFst | with_reducible apply State.follows.foldl | split | dsimp only | intro _ | decide)

theorem declareFreeze_follows {orig : State} (s : State) (w : Nat) (hF : orig.follows s) :
    orig.follows (declareFreeze s w) := by
  unfold declareFreeze
  repeat' (first | with_reducible assumption | with_reducible apply logEv_follows | with_reducible apply setWick_follows | (dsimp only [State.follows_mk]; change State.follows _ _) | with_reducible apply State.follows.forEach | with_reducible apply State.follows.foldlFst | with_reducible apply State.follows.foldl | split | dsimp only | intro _ | decide)

theorem execWickFrozen_follows {orig : State} (w : Fin 64) (t : Ns) (s : State) (hF : orig.follows s) : Out.follows orig (execWickFrozen w t s) := by
  unfold execWickFrozen
  repeat' (first | with_reducible assumption | with_reducible apply Out.follows.next | with_reducible apply setNow_follows | with_reducible apply declareFreeze_follows | (dsimp only [State.follows_mk]; change State.follows _ _) | with_reducible apply State.follows.forEach | with_reducible apply State.follows.foldlFst | with_reducible apply State.follows.foldl | split | dsimp only | intro _ | decide)

theorem trackStuck_follows {orig : State} (s : State) (i t : Nat) (hF : orig.follows s) :
    orig.follows (trackStuck s i t) := by
  unfold trackStuck
  repeat' (first | with_reducible assumption | with_reducible apply setLoop_follows | (dsimp only [State.follows_mk]; change State.follows _ _) | with_reducible apply State.follows.forEach | with_reducible apply State.follows.foldlFst | with_reducible apply State.follows.foldl | split | dsimp only | intro _ | decide)

theorem noteFinding_follows {orig : State} (s : State) (i : Nat) (f : Finding) (hF : orig.follows s) :
    orig.follows (noteFinding s i f) := by
  unfold noteFinding
  repeat' (first | with_reducible assumption | with_reducible apply stick_follows | with_reducible apply setLoop_follows | (dsimp only [State.follows_mk]; change State.follows _ _) | with_reducible apply State.follows.forEach | with_reducible apply State.follows.foldlFst | with_reducible apply State.follows.foldl | split | dsimp only | intro _ | decide)

theorem enterSup_follows {orig : State} (s : State) (i : Nat) (st : LoopSt) (hF : orig.follows s) :
    orig.follows (enterSup s i st) := by
  unfold enterSup
  repeat' (first | with_reducible assumption | with_reducible apply loopEvent_follows | with_reducible apply modLoop_follows | (dsimp only [State.follows_mk]; change State.follows _ _) | with_reducible apply State.follows.forEach | with_reducible apply State.follows.foldlFst | with_reducible apply State.follows.foldl | split | dsimp only | intro _ | decide)

theorem sendTrip_follows {orig : State} (s : State) (i : Nat) (hF : orig.follows s) :
    orig.follows (sendTrip s i) := by
  unfold sendTrip
  repeat' (first | with_reducible assumption | with_reducible apply postTo_follows | (dsimp only [State.follows_mk]; change State.follows _ _) | with_reducible apply State.follows.forEach | with_reducible apply State.follows.foldlFst | with_reducible apply State.follows.foldl | split | dsimp only | intro _ | decide)

theorem react_follows {orig : State} (s : State) (i : Nat) (f : Finding) (hF : orig.follows s) :
    orig.follows (react s i f) := by
  unfold react
  repeat' (first | with_reducible assumption | with_reducible apply setLoop_follows | with_reducible apply enterSup_follows | with_reducible apply t0_follows | with_reducible apply switchSource_follows | with_reducible apply sendTrip_follows | (dsimp only [State.follows_mk]; change State.follows _ _) | with_reducible apply State.follows.forEach | with_reducible apply State.follows.foldlFst | with_reducible apply State.follows.foldl | split | dsimp only | intro _ | decide)

theorem takeFindings_follows {orig : State} (s : State) (i t : Nat) (hF : orig.follows s) :
    orig.follows (takeFindings s i t) := by
  unfold takeFindings
  repeat' (first | with_reducible assumption | with_reducible apply noteFinding_follows | with_reducible apply modLoop_follows | with_reducible apply react_follows | (dsimp only [State.follows_mk]; change State.follows _ _) | with_reducible apply State.follows.forEach | with_reducible apply State.follows.foldlFst | with_reducible apply State.follows.foldl | split | dsimp only | intro _ | decide)

theorem trackReturn_follows {orig : State} (s : State) (i t : Nat) (est : Option F32) (hF : orig.follows s) :
    orig.follows (trackReturn s i t est) := by
  unfold trackReturn
  repeat' (first | with_reducible assumption | with_reducible apply setLoop_follows | (dsimp only [State.follows_mk]; change State.follows _ _) | with_reducible apply State.follows.forEach | with_reducible apply State.follows.foldlFst | with_reducible apply State.follows.foldl | split | dsimp only | intro _ | decide)

theorem autoReturn_follows {orig : State} (s : State) (i : Nat) (hF : orig.follows s) :
    orig.follows (autoReturn s i) := by
  unfold autoReturn
  repeat' (first | with_reducible assumption | with_reducible apply loopBack_follows | (dsimp only [State.follows_mk]; change State.follows _ _) | with_reducible apply State.follows.forEach | with_reducible apply State.follows.foldlFst | with_reducible apply State.follows.foldl | split | dsimp only | intro _ | decide)

theorem stepTimers_follows {orig : State} (s : State) (i : Nat) (period : Nat) (est : Option F32) (c : F32) (hF : orig.follows s) :
    orig.follows (stepTimers s i period est c) := by
  unfold stepTimers
  repeat' (first | with_reducible assumption | with_reducible apply setLoop_follows | (dsimp only [State.follows_mk]; change State.follows _ _) | with_reducible apply State.follows.forEach | with_reducible apply State.follows.foldlFst | with_reducible apply State.follows.foldl | split | dsimp only | intro _ | decide)

theorem stepSilent_follows {orig : State} (s : State) (i : Nat) (hF : orig.follows s) :
    orig.follows (stepSilent s i) := by
  unfold stepSilent
  repeat' (first | with_reducible assumption | with_reducible apply modLoop_follows | (dsimp only [State.follows_mk]; change State.follows _ _) | with_reducible apply State.follows.forEach | with_reducible apply State.follows.foldlFst | with_reducible apply State.follows.foldl | split | dsimp only | intro _ | decide)

theorem supFreeze_follows {orig : State} (s : State) (i t : Nat) (hF : orig.follows s) :
    orig.follows (supFreeze s i t) := by
  unfold supFreeze
  repeat' (first | with_reducible assumption | with_reducible apply declareFreeze_follows | (dsimp only [State.follows_mk]; change State.follows _ _) | with_reducible apply State.follows.forEach | with_reducible apply State.follows.foldlFst | with_reducible apply State.follows.foldl | split | dsimp only | intro _ | decide)

theorem runSup_follows {orig : State} (s : State) (inst : Nat) (x : Inst) (hF : orig.follows s) :
    orig.follows (runSup s inst x) := by
  unfold runSup
  repeat' (first | with_reducible assumption | exact fun _ => Nat.le_refl _ | exact fun h => h | intro _ | with_reducible apply takeEstimate_follows | with_reducible apply modLoop_follows | with_reducible apply inVal_follows | with_reducible apply loopTrack_follows | with_reducible apply stepSilent_follows | with_reducible apply supFreeze_follows | with_reducible apply trackStuck_follows | with_reducible apply stepTimers_follows | with_reducible apply takeFindings_follows | with_reducible apply t0_follows | with_reducible apply enterSup_follows | with_reducible apply autoReturn_follows | with_reducible apply trackReturn_follows | with_reducible apply loopCmd_follows | with_reducible apply applyDst_follows | with_reducible apply State.follows.forEach | with_reducible apply State.follows.foldlFst | with_reducible apply State.follows.foldl | with_reducible apply State.follows.iteFst | with_reducible apply State.follows.ite)

theorem declareFinding_follows {orig : State} (s : State) (i t : Nat) (f : Finding) (hF : orig.follows s) :
    orig.follows (declareFinding s i t f) := by
  unfold declareFinding
  repeat' (first | with_reducible assumption | with_reducible apply noteFinding_follows | with_reducible apply react_follows | with_reducible apply modLoop_follows | (dsimp only [State.follows_mk]; change State.follows _ _) | with_reducible apply State.follows.forEach | with_reducible apply State.follows.foldlFst | with_reducible apply State.follows.foldl | split | dsimp only | intro _ | decide)

theorem execSupervisionTimerExpiry_follows {orig : State} (i : Fin 512) (following : Bool) (t : Ns) (s : State) (hF : orig.follows s) : Out.follows orig (execSupervisionTimerExpiry i following t s) := by
  unfold execSupervisionTimerExpiry
  repeat' (first | with_reducible assumption | with_reducible apply Out.follows.next | with_reducible apply declareFinding_follows | with_reducible apply setNow_follows | (dsimp only [State.follows_mk]; change State.follows _ _) | with_reducible apply State.follows.forEach | with_reducible apply State.follows.foldlFst | with_reducible apply State.follows.foldl | split | dsimp only | intro _ | decide)

theorem execLoopSilent_follows {orig : State} (i : Fin 512) (t : Ns) (s : State) (hF : orig.follows s) : Out.follows orig (execLoopSilent i t s) := by
  unfold execLoopSilent
  repeat' (first | with_reducible assumption | with_reducible apply Out.follows.next | with_reducible apply declareFinding_follows | with_reducible apply setNow_follows | (dsimp only [State.follows_mk]; change State.follows _ _) | with_reducible apply State.follows.forEach | with_reducible apply State.follows.foldlFst | with_reducible apply State.follows.foldl | split | dsimp only | intro _ | decide)

theorem execLoopStuckExpiry_follows {orig : State} (i : Fin 512) (t : Ns) (s : State) (hF : orig.follows s) : Out.follows orig (execLoopStuckExpiry i t s) := by
  unfold execLoopStuckExpiry
  repeat' (first | with_reducible assumption | with_reducible apply Out.follows.next | with_reducible apply declareFinding_follows | with_reducible apply setNow_follows | (dsimp only [State.follows_mk]; change State.follows _ _) | with_reducible apply State.follows.forEach | with_reducible apply State.follows.foldlFst | with_reducible apply State.follows.foldl | split | dsimp only | intro _ | decide)

theorem execLoopReturn_follows {orig : State} (i : Fin 512) (t : Ns) (s : State) (hF : orig.follows s) : Out.follows orig (execLoopReturn i t s) := by
  unfold execLoopReturn
  repeat' (first | with_reducible assumption | with_reducible apply Out.follows.next | with_reducible apply setNow_follows | with_reducible apply autoReturn_follows | (dsimp only [State.follows_mk]; change State.follows _ _) | with_reducible apply State.follows.forEach | with_reducible apply State.follows.foldlFst | with_reducible apply State.follows.foldl | split | dsimp only | intro _ | decide)

theorem execLoopHoldMaxExpiry_follows {orig : State} (i : Fin 512) (t : Ns) (s : State) (hF : orig.follows s) : Out.follows orig (execLoopHoldMaxExpiry i t s) := by
  unfold execLoopHoldMaxExpiry
  repeat' (first | with_reducible assumption | with_reducible apply Out.follows.next | with_reducible apply setNow_follows | with_reducible apply enterSup_follows | (dsimp only [State.follows_mk]; change State.follows _ _) | with_reducible apply State.follows.forEach | with_reducible apply State.follows.foldlFst | with_reducible apply State.follows.foldl | split | dsimp only | intro _ | decide)

theorem runSplit_follows {orig : State} (s : State) (inst : Nat) (x : Inst) (hF : orig.follows s) :
    orig.follows (runSplit s inst x) := by
  unfold runSplit
  repeat' (first | with_reducible assumption | with_reducible apply inVal_follows | with_reducible apply applyDst_follows | (dsimp only [State.follows_mk]; change State.follows _ _) | with_reducible apply State.follows.forEach | with_reducible apply State.follows.foldlFst | with_reducible apply State.follows.foldl | split | dsimp only | intro _ | decide)

theorem runNightTable_follows {orig : State} (s : State) (inst : Nat) (x : Inst) (hF : orig.follows s) :
    orig.follows (runNightTable s inst x) := by
  unfold runNightTable
  repeat' (first | with_reducible assumption | with_reducible apply inVal_follows | with_reducible apply setBlk_follows | (dsimp only [State.follows_mk]; change State.follows _ _) | with_reducible apply State.follows.forEach | with_reducible apply State.follows.foldlFst | with_reducible apply State.follows.foldl | split | dsimp only | intro _ | decide)

end Sys2Proof.Machine
end

