-- ==== Sys2Proof/Laws/FollowsValidate.lean ====
section
/-!
SUPPORT. Every operation of Machine/Validate.lean keeps `State.follows`: it leaves the queue alone, the recorder follows, no floor and
no epoch falls, and SAFE_OUT_N stays as R403 has it.
-/
namespace Sys2Proof.Machine

open Sys2Proof

theorem hldResult_follows {orig : State} (s : State) (op : Nat) (c : HldCode) (hF : orig.follows s) :
    orig.follows (hldResult s op c) := by
  unfold hldResult
  repeat' (first | with_reducible assumption | with_reducible apply useFree_follows | (dsimp only [State.follows_mk]; change State.follows _ _) | with_reducible apply State.follows.forEach | with_reducible apply State.follows.foldlFst | with_reducible apply State.follows.foldl | split | dsimp only | intro _ | decide)

end Sys2Proof.Machine
end

