-- ==== Sys2Proof/Laws/FollowsUndo.lean ====
section
/-!
SUPPORT. Every operation of Machine/Undo.lean keeps `State.follows`: it leaves the queue alone, the recorder follows, no floor and
no epoch falls, and SAFE_OUT_N stays as R403 has it.
-/
namespace Sys2Proof.Machine

open Sys2Proof

theorem undoMark_follows {orig : State} (s : State) (m : RunMark) (hF : orig.follows s) :
    orig.follows (undoMark s m) := by
  unfold undoMark
  have er : ∀ (l : List EvReq) (q : List EvReq), (l.foldl (fun q e => q.erase e) q).Sublist q := by
    intro l
    induction l with
    | nil => exact fun q => .refl q
    | cons e l ih => exact fun q => (ih _).trans List.erase_sublist
  have k : ∀ u : State, orig.follows u → orig.follows { u with rec_ := { u.rec_ with queue := m.evs.foldl (fun q e => q.erase e) u.rec_.queue } } := by
    intro u hu
    refine ⟨hu.1, hu.2.1.trans ?_, hu.2.2⟩
    exact fun hb => ⟨⟨hb.1, Nat.le_trans (er _ _).length_le hb.2.1, hb.2.2.1, hb.2.2.2.1, hb.2.2.2.2.1,
      fun q h => hb.2.2.2.2.2 q ((er _ _).subset h)⟩, Nat.le_refl _, Nat.le_refl _, Nat.le_refl _⟩
  refine k _ (.foldl (fun x p h => ?_) hF)
  split
  · exact setRegW_follows _ _ _ _ h
  · exact h

theorem undoState_follows {orig : State} (b s : State) (x : Inst) (hF : orig.follows s) :
    orig.follows (undoState b s x) := by
  unfold undoState
  repeat' (first | with_reducible assumption | with_reducible apply setLoop_follows | with_reducible apply setTaper_follows | with_reducible apply setMot_follows | with_reducible apply setWick_follows | with_reducible apply setGate_follows | with_reducible apply setSol_follows | with_reducible apply setTx_follows | with_reducible apply setAis_follows | with_reducible apply setChan_follows | with_reducible apply setCol_follows | with_reducible apply setDry_follows | with_reducible apply setHeat_follows | with_reducible apply setAer_follows | with_reducible apply setRoute_follows | with_reducible apply setSlip_follows | with_reducible apply setPol_follows | (dsimp only [State.follows_mk]; change State.follows _ _) | with_reducible apply State.follows.forEach | with_reducible apply State.follows.foldlFst | with_reducible apply State.follows.foldl | split | dsimp only | intro _ | decide)

theorem undoPort_follows {orig : State} (b s : State) (d : Nat × Nat) (hF : orig.follows s) :
    orig.follows (undoPort b s d) := by
  unfold undoPort
  repeat' (first | with_reducible assumption | with_reducible apply setMot_follows | with_reducible apply setTx_follows | with_reducible apply setStl_follows | with_reducible apply setSol_follows | (dsimp only [State.follows_mk]; change State.follows _ _) | with_reducible apply State.follows.forEach | with_reducible apply State.follows.foldlFst | with_reducible apply State.follows.foldl | split | dsimp only | intro _ | decide)

theorem undoMembers_follows {orig : State} (b s : State) (x : Inst) (hF : orig.follows s) :
    orig.follows (undoMembers b s x) := by
  unfold undoMembers
  repeat' (first | with_reducible assumption | with_reducible apply setMot_follows | with_reducible apply setGate_follows | (dsimp only [State.follows_mk]; change State.follows _ _) | with_reducible apply State.follows.forEach | with_reducible apply State.follows.foldlFst | with_reducible apply State.follows.foldl | split | dsimp only | intro _ | decide)

theorem undoBaskets_follows {orig : State} (b s : State) (i : Nat) (x : Inst) (hF : orig.follows s) :
    orig.follows (undoBaskets b s i x) := by
  unfold undoBaskets
  repeat' (first | with_reducible assumption | with_reducible apply modBsk_follows | (dsimp only [State.follows_mk]; change State.follows _ _) | with_reducible apply State.follows.forEach | with_reducible apply State.follows.foldlFst | with_reducible apply State.follows.foldl | split | dsimp only | intro _ | decide)

theorem undoRun_follows {orig : State} (b s : State) (p : Nat × Inst) (hF : orig.follows s) :
    orig.follows (undoRun b s p) := by
  have k : ∀ (u : State) (a : List RunMark) (e : EngState) (l : LltState), orig.follows u →
      orig.follows { u with marks := a, eng := e, llt := l } := fun _ _ _ _ h => h
  unfold undoRun
  refine k _ _ _ _ (.foldl (fun x m h => undoMark_follows _ _ h) (undoBaskets_follows _ _ _ _ (undoMembers_follows _ _ _ (.foldl (fun x m h =>
    undoPort_follows _ _ _ h) (setBlk_follows _ _ _ (undoState_follows _ _ _ hF))))))

theorem haltEngine_follows {orig : State} (s : State) (e cause : Nat) (hF : orig.follows s) :
    orig.follows (haltEngine s e cause) := by
  unfold haltEngine
  repeat' (first | with_reducible assumption | with_reducible apply undoRun_follows | with_reducible apply withImage_follows | with_reducible apply useFree_follows | with_reducible apply engHalt_follows | (dsimp only [State.follows_mk]; change State.follows _ _) | with_reducible apply State.follows.forEach | with_reducible apply State.follows.foldlFst | with_reducible apply State.follows.foldl | split | dsimp only | intro _ | decide)

end Sys2Proof.Machine
end

