-- ==== Sys2Proof/Laws/FollowsPairBase.lean ====
section
/-!
SUPPORT. Every operation of Machine/PairBase.lean keeps `State.follows`: it leaves the queue alone, the recorder follows, no floor and
no epoch falls, and SAFE_OUT_N stays as R403 has it.
-/
namespace Sys2Proof.Machine

open Sys2Proof

theorem gateOffAll_follows {orig : State} (s : State) (hF : orig.follows s) :
    orig.follows (gateOffAll s) := by
  unfold gateOffAll
  repeat' (first | with_reducible assumption | with_reducible apply solGateOff_follows | with_reducible apply motGateOff_follows | with_reducible apply txGateOff_follows | (dsimp only [State.follows_mk]; change State.follows _ _) | with_reducible apply State.follows.forEach | with_reducible apply State.follows.foldlFst | with_reducible apply State.follows.foldl | split | dsimp only | intro _ | decide)

theorem gateOnAll_follows {orig : State} (s : State) (hF : orig.follows s) :
    orig.follows (gateOnAll s) := by
  unfold gateOnAll
  repeat' (first | with_reducible assumption | with_reducible apply solGateOn_follows | with_reducible apply motGateOn_follows | (dsimp only [State.follows_mk]; change State.follows _ _) | with_reducible apply State.follows.forEach | with_reducible apply State.follows.foldlFst | with_reducible apply State.follows.foldl | split | dsimp only | intro _ | decide)

theorem regate_follows {orig : State} (was : Bool) (s : State) (hF : orig.follows s) :
    orig.follows (regate was s) := by
  unfold regate
  repeat' (first | with_reducible assumption | with_reducible apply gateOffAll_follows | with_reducible apply gateOnAll_follows | (dsimp only [State.follows_mk]; change State.follows _ _) | with_reducible apply State.follows.forEach | with_reducible apply State.follows.foldlFst | with_reducible apply State.follows.foldl | split | dsimp only | intro _ | decide)

theorem pairGate_follows {orig : State} (s : State) (hF : orig.follows s) :
    orig.follows (pairGate s) := by
  unfold pairGate
  repeat' (first | with_reducible assumption | with_reducible apply regate_follows | with_reducible apply sweepAbort_follows | (dsimp only [State.follows_mk]; change State.follows _ _) | with_reducible apply State.follows.forEach | with_reducible apply State.follows.foldlFst | with_reducible apply State.follows.foldl | split | dsimp only | intro _ | decide)

theorem setOwn_follows {orig : State} (s : State) (b : Bool) (hF : orig.follows s) :
    orig.follows (setOwn s b) := by
  unfold setOwn
  repeat' (first | with_reducible assumption | with_reducible apply pairGate_follows | (dsimp only [State.follows_mk]; change State.follows _ _) | with_reducible apply State.follows.forEach | with_reducible apply State.follows.foldlFst | with_reducible apply State.follows.foldl | split | dsimp only | intro _ | decide)

theorem pairEnter_follows {orig : State} (s : State) (st : PairSt) (ph : Phase) (hF : orig.follows s) :
    orig.follows (pairEnter s st ph) := by
  unfold pairEnter
  repeat' (first | with_reducible assumption | with_reducible apply logEv_follows | (dsimp only [State.follows_mk]; change State.follows _ _) | with_reducible apply State.follows.forEach | with_reducible apply State.follows.foldlFst | with_reducible apply State.follows.foldl | split | dsimp only | intro _ | decide)

theorem pairWait_follows {orig : State} (s : State) (hF : orig.follows s) :
    orig.follows (pairWait s) := by
  unfold pairWait
  repeat' (first | with_reducible assumption | with_reducible apply pairEnter_follows | (dsimp only [State.follows_mk]; change State.follows _ _) | with_reducible apply State.follows.forEach | with_reducible apply State.follows.foldlFst | with_reducible apply State.follows.foldl | split | dsimp only | intro _ | decide)

theorem pairRefuse_follows {orig : State} (s : State) (hF : orig.follows s) :
    orig.follows (pairRefuse s) := by
  unfold pairRefuse
  repeat' (first | with_reducible assumption | with_reducible apply stick_follows | (dsimp only [State.follows_mk]; change State.follows _ _) | with_reducible apply State.follows.forEach | with_reducible apply State.follows.foldlFst | with_reducible apply State.follows.foldl | split | dsimp only | intro _ | decide)

theorem emitLink_follows {orig : State} (s : State) (n : Nat) (x : Nat → Sent) (hF : orig.follows s) :
    orig.follows (emitLink s n x) := by
  unfold emitLink
  repeat' (first | with_reducible assumption | (dsimp only [State.follows_mk]; change State.follows _ _) | with_reducible apply State.follows.forEach | with_reducible apply State.follows.foldlFst | with_reducible apply State.follows.foldl | split | dsimp only | intro _ | decide)

theorem lanternSend_follows {orig : State} (s : State) (hF : orig.follows s) :
    orig.follows (lanternSend s) := by
  unfold lanternSend
  repeat' (first | with_reducible assumption | with_reducible apply emitLink_follows | (dsimp only [State.follows_mk]; change State.follows _ _) | with_reducible apply State.follows.forEach | with_reducible apply State.follows.foldlFst | with_reducible apply State.follows.foldl | split | dsimp only | intro _ | decide)

theorem pairFail_follows {orig : State} (s : State) (hF : orig.follows s) :
    orig.follows (pairFail s) := by
  unfold pairFail
  repeat' (first | with_reducible assumption | with_reducible apply lanternSend_follows | with_reducible apply logEv_follows | with_reducible apply pairEnter_follows | with_reducible apply setOwn_follows | (dsimp only [State.follows_mk]; change State.follows _ _) | with_reducible apply State.follows.forEach | with_reducible apply State.follows.foldlFst | with_reducible apply State.follows.foldl | split | dsimp only | intro _ | decide)

theorem pairSnuff_follows {orig : State} (s : State) (hF : orig.follows s) :
    orig.follows (pairSnuff s) := by
  unfold pairSnuff
  repeat' (first | with_reducible assumption | with_reducible apply setOwn_follows | with_reducible apply pairEnter_follows | (dsimp only [State.follows_mk]; change State.follows _ _) | with_reducible apply State.follows.forEach | with_reducible apply State.follows.foldlFst | with_reducible apply State.follows.foldl | split | dsimp only | intro _ | decide)

end Sys2Proof.Machine
end

