-- ==== Sys2Proof/Laws/FollowsResets.lean ====
section
/-!
SUPPORT. Every operation of Machine/Resets.lean keeps `State.follows`: it leaves the queue alone, the recorder follows, no floor and
no epoch falls, and SAFE_OUT_N stays as R403 has it.
-/
namespace Sys2Proof.Machine

open Sys2Proof

theorem coreClear_follows {orig : State} (s : State) (dram : Bool) (hF : orig.follows s) :
    orig.follows (coreClear s dram) := by
  refine ⟨hF.1, hF.2.1.trans ?_, hF.2.2⟩
  exact fun hb => ⟨⟨Nat.zero_le _, Nat.zero_le _, hb.2.2.1, (by show 0 < 2 ^ 16; decide), hb.2.2.2.2.1, fun _ h => absurd h List.not_mem_nil⟩,
    Nat.le_refl _, Nat.le_refl _, Nat.le_refl _⟩

theorem modSnf_follows {orig : State} (s : State) (f : SnfState → SnfState) (hf : s.snf.safeRight → (f s.snf).safeRight)
    (hF : orig.follows s) : orig.follows (modSnf s f) := by
  exact ⟨hF.1, hF.2.1, hF.2.2.1, hF.2.2.2.1, hF.2.2.2.2.1, fun h => hf (hF.2.2.2.2.2 h)⟩

/-- SAFE_OUT_N set anew is as R403 has it, whatever stood before. -/
theorem safeOut_right (s : State) : (safeOut s).snf.safeRight := rfl

/-- A change of the snuffer that ends in `safeOut`. -/
theorem safeOut_modSnf_follows {orig : State} (s : State) (f : SnfState → SnfState) (hF : orig.follows s) :
    orig.follows (safeOut (modSnf s f)) := ⟨hF.1, hF.2.1, hF.2.2.1, hF.2.2.2.1, hF.2.2.2.2.1, fun _ => safeOut_right _⟩

/-- What follows from a changed snuffer and leaves SAFE_OUT_N as R403 has it. -/
theorem State.follows.viaSnf {orig s u : State} (x : SnfState) (hF : orig.follows s) (h : State.follows { s with snf := x } u)
    (hu : u.snf.safeRight) : orig.follows u :=
  ⟨h.1.trans hF.1, hF.2.1.trans h.2.1, Nat.le_trans hF.2.2.1 h.2.2.1, Nat.le_trans hF.2.2.2.1 h.2.2.2.1,
    Nat.le_trans hF.2.2.2.2.1 h.2.2.2.2.1, fun _ => hu⟩

theorem safeOut_follows {orig : State} (s : State) (hF : orig.follows s) :
    orig.follows (safeOut s) := by
  exact ⟨hF.1, hF.2.1, hF.2.2.1, hF.2.2.2.1, hF.2.2.2.2.1, fun _ => safeOut_right _⟩

theorem disableOutputs_follows {orig : State} (s : State) (hF : orig.follows s) :
    orig.follows (disableOutputs s) := by
  unfold disableOutputs
  repeat' (first | with_reducible assumption | with_reducible apply setOwn_follows | with_reducible apply regate_follows | (dsimp only [State.follows_mk]; change State.follows _ _) | with_reducible apply State.follows.forEach | with_reducible apply State.follows.foldlFst | with_reducible apply State.follows.foldl | split | dsimp only | intro _ | decide)

theorem coreDown_follows {orig : State} (s : State) (dram : Bool) (hF : orig.follows s) :
    orig.follows (coreDown s dram) := by
  unfold coreDown
  repeat' (first | with_reducible assumption | with_reducible apply safeOut_modSnf_follows | with_reducible apply coreClear_follows | with_reducible apply disableOutputs_follows | with_reducible apply safeOut_follows | with_reducible apply modSnf_follows | (dsimp only [State.follows_mk]; change State.follows _ _) | with_reducible apply State.follows.forEach | with_reducible apply State.follows.foldlFst | with_reducible apply State.follows.foldl | split | dsimp only | exact fun h => h | (intro h; split <;> exact h) | intro _ | decide)

theorem bootStage_follows {orig : State} (s : State) (k : Nat) (hF : orig.follows s) :
    orig.follows (bootStage s k) := by
  unfold bootStage
  repeat' (first | with_reducible assumption | with_reducible apply logEv_follows | (dsimp only [State.follows_mk]; change State.follows _ _) | with_reducible apply State.follows.forEach | with_reducible apply State.follows.foldlFst | with_reducible apply State.follows.foldl | split | dsimp only | intro _ | decide)

theorem wdRom_follows {orig : State} (s : State) (hF : orig.follows s) :
    orig.follows (wdRom s) := by
  unfold wdRom
  repeat' (first | with_reducible assumption | (dsimp only [State.follows_mk]; change State.follows _ _) | with_reducible apply State.follows.forEach | with_reducible apply State.follows.foldlFst | with_reducible apply State.follows.foldl | split | dsimp only | intro _ | decide)

theorem startBoot_follows {orig : State} (s : State) (hF : orig.follows s) :
    orig.follows (startBoot s) := by
  unfold startBoot
  repeat' (first | with_reducible assumption | with_reducible apply wdRom_follows | with_reducible apply logEv_follows | (dsimp only [State.follows_mk]; change State.follows _ _) | with_reducible apply State.follows.forEach | with_reducible apply State.follows.foldlFst | with_reducible apply State.follows.foldl | split | dsimp only | intro _ | decide)

theorem coreReset_follows {orig : State} (s : State) (cause : Nat) (hF : orig.follows s) :
    orig.follows (coreReset s cause) := by
  unfold coreReset
  repeat' (first | with_reducible assumption | with_reducible apply coreDown_follows | with_reducible apply startBoot_follows | (dsimp only [State.follows_mk]; change State.follows _ _) | with_reducible apply State.follows.forEach | with_reducible apply State.follows.foldlFst | with_reducible apply State.follows.foldl | split | dsimp only | intro _ | decide)

theorem corePowerOff_follows {orig : State} (s : State) (hF : orig.follows s) :
    orig.follows (corePowerOff s) := by
  unfold corePowerOff
  repeat' (first | with_reducible assumption | with_reducible apply coreDown_follows | (dsimp only [State.follows_mk]; change State.follows _ _) | with_reducible apply State.follows.forEach | with_reducible apply State.follows.foldlFst | with_reducible apply State.follows.foldl | split | dsimp only | intro _ | decide)

end Sys2Proof.Machine
end

