-- ==== Sys2Proof/Laws/FollowsSnuffer.lean ====
section
/-!
SUPPORT. Every operation of Machine/Snuffer.lean keeps `State.follows`: it leaves the queue alone, the recorder follows, no floor and
no epoch falls, and SAFE_OUT_N stays as R403 has it.
-/
namespace Sys2Proof.Machine

open Sys2Proof

theorem setHold_follows {orig : State} (s : State) (c : Nat) (on : Bool) (hF : orig.follows s) :
    orig.follows (setHold s c on) := by
  unfold setHold
  repeat' (first | with_reducible assumption | with_reducible apply modSnf_follows | (dsimp only [State.follows_mk]; change State.follows _ _) | with_reducible apply State.follows.forEach | with_reducible apply State.follows.foldlFst | with_reducible apply State.follows.foldl | split | dsimp only | exact fun h => h | (intro h; split <;> exact h) | intro _ | decide)

theorem commitRecord_follows {orig : State} (s : State) (hF : orig.follows s) :
    orig.follows (commitRecord s) := by
  unfold commitRecord
  repeat' (first | with_reducible assumption | with_reducible apply modSnf_follows | with_reducible apply logEv_follows | with_reducible apply stick_follows | (dsimp only [State.follows_mk]; change State.follows _ _) | with_reducible apply State.follows.forEach | with_reducible apply State.follows.foldlFst | with_reducible apply State.follows.foldl | split | dsimp only | exact fun h => h | (intro h; split <;> exact h) | intro _ | decide)

theorem cellsAlarm_follows {orig : State} (s : State) (hF : orig.follows s) :
    orig.follows (cellsAlarm s) := by
  unfold cellsAlarm
  repeat' (first | with_reducible assumption | with_reducible apply txEndForce_follows | (dsimp only [State.follows_mk]; change State.follows _ _) | with_reducible apply State.follows.forEach | with_reducible apply State.follows.foldlFst | with_reducible apply State.follows.foldl | split | dsimp only | intro _ | decide)

theorem snufferSteps_follows {orig : State} (s : State) (was : Bool) (hF : orig.follows s) :
    orig.follows (snufferSteps s was) := by
  unfold snufferSteps
  repeat' (first | with_reducible assumption | with_reducible apply cellsAlarm_follows | with_reducible apply regate_follows | with_reducible apply aisEnterSafe_follows | with_reducible apply safeOut_follows | with_reducible apply pairSnuff_follows | (dsimp only [State.follows_mk]; change State.follows _ _) | with_reducible apply State.follows.forEach | with_reducible apply State.follows.foldlFst | with_reducible apply State.follows.foldl | split | dsimp only | intro _ | decide)

theorem snufferTrigger_follows {orig : State} (s : State) (cause : Nat) (hF : orig.follows s) :
    orig.follows (snufferTrigger s cause) := by
  have k1 : ∀ (u : State) (f : SnfState → SnfState) (n : Nat) (was : Bool), orig.follows u →
      orig.follows (snufferSteps (modSnf { u with free := n } f) was) := fun u f n was hu =>
    State.follows.viaSnf (f u.snf) hu (snufferSteps_follows (orig := { u with snf := f u.snf }) _ _
      ⟨rfl, .refl _, Nat.le_refl _, Nat.le_refl _, Nat.le_refl _, id⟩) (safeOut_right _)
  have k2 : ∀ (u : State) (f : SnfState → SnfState) (was : Bool), orig.follows u →
      orig.follows (snufferSteps (modSnf u f) was) := fun u f was hu => k1 u f u.free was hu
  have k0 : orig.follows (stick (modSnf s (fun x => { x with lastTrig := some s.now })) .snfStatus 0 (8 + cause)) :=
    stick_follows _ _ _ _ (modSnf_follows _ _ (fun h => h) hF)
  unfold snufferTrigger
  refine State.follows.ite ?_ ?_
  · refine logEv_follows _ _ _ _ (modSnf_follows _ _ (fun h => h) (State.follows.ite k0 (k2 _ _ _ k0)))
  · exact logEv_follows _ _ _ _ (k1 _ _ _ _ k0)

theorem snufferRelease_follows {orig : State} (s : State) (hF : orig.follows s) :
    orig.follows (snufferRelease s) := by
  unfold snufferRelease
  repeat' (first | with_reducible assumption | with_reducible apply safeOut_modSnf_follows | with_reducible apply regate_follows | with_reducible apply safeOut_follows | with_reducible apply modSnf_follows | with_reducible apply setOwn_follows | (dsimp only [State.follows_mk]; change State.follows _ _) | with_reducible apply State.follows.forEach | with_reducible apply State.follows.foldlFst | with_reducible apply State.follows.foldl | split | dsimp only | exact fun h => h | (intro h; split <;> exact h) | intro _ | decide)

theorem snfResult_follows {orig : State} (s : State) (op r : Nat) (hF : orig.follows s) :
    orig.follows (snfResult s op r) := by
  unfold snfResult
  repeat' (first | with_reducible assumption | with_reducible apply modSnf_follows | (dsimp only [State.follows_mk]; change State.follows _ _) | with_reducible apply State.follows.forEach | with_reducible apply State.follows.foldlFst | with_reducible apply State.follows.foldl | split | dsimp only | exact fun h => h | (intro h; split <;> exact h) | intro _ | decide)

theorem snfSnuff_follows {orig : State} (s : State) (hF : orig.follows s) :
    orig.follows (snfSnuff s) := by
  unfold snfSnuff
  repeat' (first | with_reducible assumption | with_reducible apply snfResult_follows | with_reducible apply snufferTrigger_follows | (dsimp only [State.follows_mk]; change State.follows _ _) | with_reducible apply State.follows.forEach | with_reducible apply State.follows.foldlFst | with_reducible apply State.follows.foldl | split | dsimp only | intro _ | decide)

theorem snfRelease_follows {orig : State} (s : State) (hF : orig.follows s) :
    orig.follows (snfRelease s) := by
  unfold snfRelease
  repeat' (first | with_reducible assumption | with_reducible apply snfResult_follows | with_reducible apply modSnf_follows | with_reducible apply snufferRelease_follows | (dsimp only [State.follows_mk]; change State.follows _ _) | with_reducible apply State.follows.forEach | with_reducible apply State.follows.foldlFst | with_reducible apply State.follows.foldl | split | dsimp only | exact fun h => h | (intro h; split <;> exact h) | intro _ | decide)

theorem snfCoreReset_follows {orig : State} (s : State) (cause : Nat) (hF : orig.follows s) :
    orig.follows (snfCoreReset s cause) := by
  unfold snfCoreReset
  repeat' (first | with_reducible assumption | with_reducible apply snfResult_follows | with_reducible apply coreReset_follows | (dsimp only [State.follows_mk]; change State.follows _ _) | with_reducible apply State.follows.forEach | with_reducible apply State.follows.foldlFst | with_reducible apply State.follows.foldl | split | dsimp only | intro _ | decide)

theorem execSnfSnuff_follows {orig : State} (s : State) (hF : orig.follows s) : Out.follows orig (execSnfSnuff s) := by
  unfold execSnfSnuff
  repeat' (first | with_reducible assumption | with_reducible apply Out.follows.next | with_reducible apply snfSnuff_follows | (dsimp only [State.follows_mk]; change State.follows _ _) | with_reducible apply State.follows.forEach | with_reducible apply State.follows.foldlFst | with_reducible apply State.follows.foldl | split | dsimp only | intro _ | decide)

theorem execSnfRelease_follows {orig : State} (s : State) (hF : orig.follows s) : Out.follows orig (execSnfRelease s) := by
  unfold execSnfRelease
  repeat' (first | with_reducible assumption | with_reducible apply Out.follows.next | with_reducible apply snfRelease_follows | (dsimp only [State.follows_mk]; change State.follows _ _) | with_reducible apply State.follows.forEach | with_reducible apply State.follows.foldlFst | with_reducible apply State.follows.foldl | split | dsimp only | intro _ | decide)

theorem execSnfCoreReset_follows {orig : State} (s : State) (hF : orig.follows s) : Out.follows orig (execSnfCoreReset s) := by
  unfold execSnfCoreReset
  repeat' (first | with_reducible assumption | with_reducible apply Out.follows.next | with_reducible apply snfCoreReset_follows | (dsimp only [State.follows_mk]; change State.follows _ _) | with_reducible apply State.follows.forEach | with_reducible apply State.follows.foldlFst | with_reducible apply State.follows.foldl | split | dsimp only | intro _ | decide)

theorem execSnufferBasketCommand_follows {orig : State} (t : Ns) (s : State) (hF : orig.follows s) : Out.follows orig (execSnufferBasketCommand t s) := by
  unfold execSnufferBasketCommand
  repeat' (first | with_reducible assumption | with_reducible apply Out.follows.next | with_reducible apply snufferTrigger_follows | with_reducible apply setNow_follows | (dsimp only [State.follows_mk]; change State.follows _ _) | with_reducible apply State.follows.forEach | with_reducible apply State.follows.foldlFst | with_reducible apply State.follows.foldl | split | dsimp only | intro _ | decide)

theorem execSafeNAssert_follows {orig : State} (t : Ns) (s : State) (hF : orig.follows s) : Out.follows orig (execSafeNAssert t s) := by
  unfold execSafeNAssert
  repeat' (first | with_reducible assumption | with_reducible apply Out.follows.next | with_reducible apply setNow_follows | with_reducible apply snufferTrigger_follows | with_reducible apply setHold_follows | with_reducible apply modSnf_follows | (dsimp only [State.follows_mk]; change State.follows _ _) | with_reducible apply State.follows.forEach | with_reducible apply State.follows.foldlFst | with_reducible apply State.follows.foldl | split | dsimp only | exact fun h => h | (intro h; split <;> exact h) | intro _ | decide)

theorem execPwrFailNAssert_follows {orig : State} (t : Ns) (s : State) (hF : orig.follows s) : Out.follows orig (execPwrFailNAssert t s) := by
  unfold execPwrFailNAssert
  repeat' (first | with_reducible assumption | with_reducible apply Out.follows.next | with_reducible apply setNow_follows | with_reducible apply snufferTrigger_follows | with_reducible apply setHold_follows | with_reducible apply modSnf_follows | (dsimp only [State.follows_mk]; change State.follows _ _) | with_reducible apply State.follows.forEach | with_reducible apply State.follows.foldlFst | with_reducible apply State.follows.foldl | split | dsimp only | exact fun h => h | (intro h; split <;> exact h) | intro _ | decide)

theorem execSafeNDeassert_follows {orig : State} (t : Ns) (s : State) (hF : orig.follows s) : Out.follows orig (execSafeNDeassert t s) := by
  unfold execSafeNDeassert
  repeat' (first | with_reducible assumption | with_reducible apply Out.follows.next | with_reducible apply setHold_follows | with_reducible apply modSnf_follows | with_reducible apply setNow_follows | (dsimp only [State.follows_mk]; change State.follows _ _) | with_reducible apply State.follows.forEach | with_reducible apply State.follows.foldlFst | with_reducible apply State.follows.foldl | split | dsimp only | exact fun h => h | (intro h; split <;> exact h) | intro _ | decide)

theorem execPwrFailNDeassert_follows {orig : State} (t : Ns) (s : State) (hF : orig.follows s) : Out.follows orig (execPwrFailNDeassert t s) := by
  unfold execPwrFailNDeassert
  repeat' (first | with_reducible assumption | with_reducible apply Out.follows.next | with_reducible apply setHold_follows | with_reducible apply modSnf_follows | with_reducible apply setNow_follows | (dsimp only [State.follows_mk]; change State.follows _ _) | with_reducible apply State.follows.forEach | with_reducible apply State.follows.foldlFst | with_reducible apply State.follows.foldl | split | dsimp only | exact fun h => h | (intro h; split <;> exact h) | intro _ | decide)

theorem execSupplyFault_follows {orig : State} (t : Ns) (rail : Rail) (mv : Nat) (s : State) (hF : orig.follows s) : Out.follows orig (execSupplyFault t rail mv s) := by
  unfold execSupplyFault
  repeat' (first | with_reducible assumption | with_reducible apply Out.follows.next | with_reducible apply setNow_follows | with_reducible apply modSnf_follows | with_reducible apply setHold_follows | with_reducible apply snufferTrigger_follows | with_reducible apply commitRecord_follows | with_reducible apply corePowerOff_follows | (dsimp only [State.follows_mk]; change State.follows _ _) | with_reducible apply State.follows.forEach | with_reducible apply State.follows.foldlFst | with_reducible apply State.follows.foldl | split | dsimp only | exact fun h => h | (intro h; split <;> exact h) | intro _ | decide)

theorem execWatchdogRestart_follows {orig : State} (t : Ns) (s : State) (hF : orig.follows s) : Out.follows orig (execWatchdogRestart t s) := by
  unfold execWatchdogRestart
  repeat' (first | with_reducible assumption | with_reducible apply Out.follows.next | with_reducible apply setNow_follows | with_reducible apply modSnf_follows | (dsimp only [State.follows_mk]; change State.follows _ _) | with_reducible apply State.follows.forEach | with_reducible apply State.follows.foldlFst | with_reducible apply State.follows.foldl | split | dsimp only | exact fun h => h | (intro h; split <;> exact h) | intro _ | decide)

theorem execWatchdogExpiry_follows {orig : State} (t : Ns) (s : State) (hF : orig.follows s) : Out.follows orig (execWatchdogExpiry t s) := by
  unfold execWatchdogExpiry
  repeat' (first | with_reducible assumption | with_reducible apply Out.follows.next | with_reducible apply setNow_follows | with_reducible apply modSnf_follows | with_reducible apply logEv_follows | with_reducible apply snufferTrigger_follows | with_reducible apply coreReset_follows | (dsimp only [State.follows_mk]; change State.follows _ _) | with_reducible apply State.follows.forEach | with_reducible apply State.follows.foldlFst | with_reducible apply State.follows.foldl | split | dsimp only | exact fun h => h | (intro h; split <;> exact h) | intro _ | decide)

theorem afterStep5_follows {orig : State} (s : State) (hF : orig.follows s) :
    orig.follows (afterStep5 s) := by
  unfold afterStep5
  repeat' (first | with_reducible assumption | with_reducible apply modSnf_follows | with_reducible apply corePowerOff_follows | with_reducible apply coreDown_follows | with_reducible apply coreReset_follows | (dsimp only [State.follows_mk]; change State.follows _ _) | with_reducible apply State.follows.forEach | with_reducible apply State.follows.foldlFst | with_reducible apply State.follows.foldl | split | dsimp only | exact fun h => h | (intro h; split <;> exact h) | intro _ | decide)

theorem execShutdownRecordCommit_follows {orig : State} (t : Ns) (s : State) (hF : orig.follows s) : Out.follows orig (execShutdownRecordCommit t s) := by
  unfold execShutdownRecordCommit
  repeat' (first | with_reducible assumption | with_reducible apply Out.follows.next | with_reducible apply setNow_follows | with_reducible apply afterStep5_follows | with_reducible apply commitRecord_follows | (dsimp only [State.follows_mk]; change State.follows _ _) | with_reducible apply State.follows.forEach | with_reducible apply State.follows.foldlFst | with_reducible apply State.follows.foldl | split | dsimp only | intro _ | decide)

theorem wdResetDue_follows {orig : State} (s : State) (hF : orig.follows s) :
    orig.follows (wdResetDue s) := by
  unfold wdResetDue
  repeat' (first | with_reducible assumption | with_reducible apply coreReset_follows | (dsimp only [State.follows_mk]; change State.follows _ _) | with_reducible apply State.follows.forEach | with_reducible apply State.follows.foldlFst | with_reducible apply State.follows.foldl | split | dsimp only | intro _ | decide)

end Sys2Proof.Machine
end

