-- ==== Sys2Proof/Laws/FollowsPair.lean ====
section
/-!
SUPPORT. Every operation of Machine/Pair.lean keeps `State.follows`: it leaves the queue alone, the recorder follows, no floor and
no epoch falls, and SAFE_OUT_N stays as R403 has it.
-/
namespace Sys2Proof.Machine

open Sys2Proof

theorem modPair_follows {orig : State} (s : State) (f : PairState → PairState) (hf : ∀ p, p.epoch ≤ (f p).epoch)
    (hF : orig.follows s) : orig.follows (modPair s f) := by
  exact ⟨hF.1, hF.2.1, hF.2.2.1, hF.2.2.2.1, Nat.le_trans hF.2.2.2.2.1 (hf _), hF.2.2.2.2.2⟩

theorem releaseCmds_follows {orig : State} (s : State) (t : Nat) (hF : orig.follows s) :
    orig.follows (releaseCmds s t) := by
  unfold releaseCmds
  repeat' (first | with_reducible assumption | with_reducible apply setStl_follows | with_reducible apply setTx_follows | with_reducible apply solFrameCmd_follows | with_reducible apply setSol_follows | with_reducible apply motRelease_follows | with_reducible apply gateRelease_follows | (dsimp only [State.follows_mk]; change State.follows _ _) | with_reducible apply State.follows.forEach | with_reducible apply State.follows.foldlFst | with_reducible apply State.follows.foldl | split | dsimp only | intro _ | decide)

theorem noteOwnCmds_follows {orig : State} (s : State) (hF : orig.follows s) :
    orig.follows (noteOwnCmds s) := by
  unfold noteOwnCmds
  repeat' (first | with_reducible assumption | with_reducible apply modPair_follows | (dsimp only [State.follows_mk]; change State.follows _ _) | with_reducible apply State.follows.forEach | with_reducible apply State.follows.foldlFst | with_reducible apply State.follows.foldl | split | dsimp only | exact fun _ => Nat.le_refl _ | exact fun _ => Nat.le_max_left _ _ | exact fun _ => Nat.le_succ_of_le (Nat.le_max_left _ _) | (intro m; dsimp only; split <;> exact Nat.le_refl _) | intro _ | decide)

theorem putInstState_follows {orig : State} (s : State) (i : Nat) (x : Inst) (q : InstState) (hF : orig.follows s) :
    orig.follows (putInstState s i x q) := by
  unfold putInstState
  repeat' (first | with_reducible assumption | with_reducible apply setBlk_follows | with_reducible apply setLoop_follows | with_reducible apply setTaper_follows | with_reducible apply setDry_follows | with_reducible apply setHeat_follows | with_reducible apply setAer_follows | with_reducible apply setGate_follows | with_reducible apply setRoute_follows | with_reducible apply setSlip_follows | with_reducible apply setChan_follows | with_reducible apply setCol_follows | with_reducible apply setMot_follows | with_reducible apply setTx_follows | with_reducible apply setAis_follows | with_reducible apply setPol_follows | (dsimp only [State.follows_mk]; change State.follows _ _) | with_reducible apply State.follows.forEach | with_reducible apply State.follows.foldlFst | with_reducible apply State.follows.foldl | split | dsimp only | intro _ | decide)

theorem noteBacklog_follows {orig : State} (s : State) (ps : List (Nat × Int)) (slots : List Nat) (hF : orig.follows s) :
    orig.follows (noteBacklog s ps slots) := by
  unfold noteBacklog
  repeat' (first | with_reducible assumption | with_reducible apply stick_follows | with_reducible apply modPair_follows | (dsimp only [State.follows_mk]; change State.follows _ _) | with_reducible apply State.follows.forEach | with_reducible apply State.follows.foldlFst | with_reducible apply State.follows.foldl | split | dsimp only | exact fun _ => Nat.le_refl _ | exact fun _ => Nat.le_max_left _ _ | exact fun _ => Nat.le_succ_of_le (Nat.le_max_left _ _) | (intro m; dsimp only; split <;> exact Nat.le_refl _) | intro _ | decide)

theorem clearSent_follows {orig : State} (s : State) (ps : List (Nat × Int)) (slots : List Nat) (hF : orig.follows s) :
    orig.follows (clearSent s ps slots) := by
  unfold clearSent
  repeat' (first | with_reducible assumption | (dsimp only [State.follows_mk]; change State.follows _ _) | with_reducible apply State.follows.forEach | with_reducible apply State.follows.foldlFst | with_reducible apply State.follows.foldl | split | dsimp only | intro _ | decide)

theorem execMirrorSetClose_follows {orig : State} (t : Ns) (s : State) (hF : orig.follows s) : Out.follows orig (execMirrorSetClose t s) := by
  unfold execMirrorSetClose
  repeat' (first | with_reducible assumption | with_reducible apply Out.follows.next | with_reducible apply setNow_follows | with_reducible apply noteBacklog_follows | with_reducible apply clearSent_follows | with_reducible apply modPair_follows | with_reducible apply emitLink_follows | (dsimp only [State.follows_mk]; change State.follows _ _) | with_reducible apply State.follows.forEach | with_reducible apply State.follows.foldlFst | with_reducible apply State.follows.foldl | split | dsimp only | exact fun _ => Nat.le_refl _ | exact fun _ => Nat.le_max_left _ _ | exact fun _ => Nat.le_succ_of_le (Nat.le_max_left _ _) | (intro m; dsimp only; split <;> exact Nat.le_refl _) | intro _ | decide)

theorem applyCol_follows {orig : State} (s : State) (m : MirrorSet) (h : ColHead) (hF : orig.follows s) :
    orig.follows (applyCol s m h) := by
  unfold applyCol
  repeat' (first | with_reducible assumption | with_reducible apply setCol_follows | with_reducible apply setRegW_follows | (dsimp only [State.follows_mk]; change State.follows _ _) | with_reducible apply State.follows.forEach | with_reducible apply State.follows.foldlFst | with_reducible apply State.follows.foldl | split | dsimp only | intro _ | decide)

theorem applyDry_follows {orig : State} (s : State) (p : Nat × DryRec) (hF : orig.follows s) :
    orig.follows (applyDry s p) := by
  unfold applyDry
  repeat' (first | with_reducible assumption | with_reducible apply setDry_follows | (dsimp only [State.follows_mk]; change State.follows _ _) | with_reducible apply State.follows.forEach | with_reducible apply State.follows.foldlFst | with_reducible apply State.follows.foldl | split | dsimp only | intro _ | decide)

theorem alignWicks_follows {orig : State} (s : State) (m : MirrorSet) (hF : orig.follows s) :
    orig.follows (alignWicks s m) := by
  unfold alignWicks
  repeat' (first | with_reducible assumption | with_reducible apply modPair_follows | with_reducible apply setWick_follows | (dsimp only [State.follows_mk]; change State.follows _ _) | with_reducible apply State.follows.forEach | with_reducible apply State.follows.foldlFst | with_reducible apply State.follows.foldl | split | dsimp only | exact fun _ => Nat.le_refl _ | exact fun _ => Nat.le_max_left _ _ | exact fun _ => Nat.le_succ_of_le (Nat.le_max_left _ _) | (intro m; dsimp only; split <;> exact Nat.le_refl _) | intro _ | decide)

theorem compareCmds_follows {orig : State} (s : State) (m : MirrorSet) (hF : orig.follows s) :
    orig.follows (compareCmds s m) := by
  unfold compareCmds
  repeat' (first | with_reducible assumption | with_reducible apply modPair_follows | with_reducible apply logEv_follows | (dsimp only [State.follows_mk]; change State.follows _ _) | with_reducible apply State.follows.forEach | with_reducible apply State.follows.foldlFst | with_reducible apply State.follows.foldl | split | dsimp only | exact fun _ => Nat.le_refl _ | exact fun _ => Nat.le_max_left _ _ | exact fun _ => Nat.le_succ_of_le (Nat.le_max_left _ _) | (intro m; dsimp only; split <;> exact Nat.le_refl _) | intro _ | decide)

theorem applySet_follows {orig : State} (s : State) (m : MirrorSet) (hF : orig.follows s) :
    orig.follows (applySet s m) := by
  unfold applySet
  repeat' (first | with_reducible assumption | with_reducible apply applyCol_follows | with_reducible apply applyDry_follows | with_reducible apply putInstState_follows | with_reducible apply setSlot_follows | with_reducible apply modPair_follows | with_reducible apply compareCmds_follows | with_reducible apply alignWicks_follows | (dsimp only [State.follows_mk]; change State.follows _ _) | with_reducible apply State.follows.forEach | with_reducible apply State.follows.foldlFst | with_reducible apply State.follows.foldl | split | dsimp only | exact fun _ => Nat.le_refl _ | exact fun _ => Nat.le_max_left _ _ | exact fun _ => Nat.le_succ_of_le (Nat.le_max_left _ _) | (intro m; dsimp only; split <;> exact Nat.le_refl _) | intro _ | decide)

theorem applyReady_follows {orig : State} (s : State) (hF : orig.follows s) :
    orig.follows (applyReady s) := by
  unfold applyReady
  repeat' (first | with_reducible assumption | with_reducible apply applySet_follows | with_reducible apply modPair_follows | (dsimp only [State.follows_mk]; change State.follows _ _) | with_reducible apply State.follows.forEach | with_reducible apply State.follows.foldlFst | with_reducible apply State.follows.foldl | split | dsimp only | exact fun _ => Nat.le_refl _ | exact fun _ => Nat.le_max_left _ _ | exact fun _ => Nat.le_succ_of_le (Nat.le_max_left _ _) | (intro m; dsimp only; split <;> exact Nat.le_refl _) | intro _ | decide)

theorem execSetApply_follows {orig : State} (t : Ns) (s : State) (hF : orig.follows s) : Out.follows orig (execSetApply t s) := by
  unfold execSetApply
  repeat' (first | with_reducible assumption | with_reducible apply Out.follows.next | with_reducible apply setNow_follows | with_reducible apply applyReady_follows | (dsimp only [State.follows_mk]; change State.follows _ _) | with_reducible apply State.follows.forEach | with_reducible apply State.follows.foldlFst | with_reducible apply State.follows.foldl | split | dsimp only | intro _ | decide)

theorem takeLink_follows {orig : State} (s : State) (t : Nat) (h : PairHdr) (hF : orig.follows s) :
    orig.follows (takeLink s t h).1 := by
  unfold takeLink
  repeat' (first | with_reducible assumption | with_reducible apply modPair_follows | (dsimp only [State.follows_mk]; change State.follows _ _) | with_reducible apply State.follows.forEach | with_reducible apply State.follows.foldlFst | with_reducible apply State.follows.foldl | split | dsimp only | exact fun _ => Nat.le_refl _ | exact fun _ => Nat.le_max_left _ _ | exact fun _ => Nat.le_succ_of_le (Nat.le_max_left _ _) | (intro m; dsimp only; split <;> exact Nat.le_refl _) | intro _ | decide)

theorem becomeActive_follows {orig : State} (s : State) (hF : orig.follows s) :
    orig.follows (becomeActive s) := by
  unfold becomeActive
  repeat' (first | with_reducible assumption | with_reducible apply pairEnter_follows | with_reducible apply modPair_follows | with_reducible apply setOwn_follows | (dsimp only [State.follows_mk]; change State.follows _ _) | with_reducible apply State.follows.forEach | with_reducible apply State.follows.foldlFst | with_reducible apply State.follows.foldl | split | dsimp only | exact fun _ => Nat.le_refl _ | exact fun _ => Nat.le_max_left _ _ | exact fun _ => Nat.le_succ_of_le (Nat.le_max_left _ _) | (intro m; dsimp only; split <;> exact Nat.le_refl _) | intro _ | decide)

theorem pairMeet_follows {orig : State} (s : State) (hF : orig.follows s) :
    orig.follows (pairMeet s) := by
  unfold pairMeet
  repeat' (first | with_reducible assumption | with_reducible apply pairEnter_follows | with_reducible apply emit_follows | with_reducible apply modPair_follows | with_reducible apply becomeActive_follows | with_reducible apply pairWait_follows | (dsimp only [State.follows_mk]; change State.follows _ _) | with_reducible apply State.follows.forEach | with_reducible apply State.follows.foldlFst | with_reducible apply State.follows.foldl | split | dsimp only | exact fun _ => Nat.le_refl _ | exact fun _ => Nat.le_max_left _ _ | exact fun _ => Nat.le_succ_of_le (Nat.le_max_left _ _) | (intro m; dsimp only; split <;> exact Nat.le_refl _) | intro _ | decide)

theorem pairPatch_follows {orig : State} (s : State) (c : Control) (hF : orig.follows s) :
    orig.follows (pairPatch s c) := by
  unfold pairPatch
  repeat' (first | with_reducible assumption | (dsimp only [State.follows_mk]; change State.follows _ _) | with_reducible apply State.follows.forEach | with_reducible apply State.follows.foldlFst | with_reducible apply State.follows.foldl | split | dsimp only | intro _ | decide)

theorem patchMissed_follows {orig : State} (s : State) (hF : orig.follows s) :
    orig.follows (patchMissed s) := by
  unfold patchMissed
  repeat' (first | with_reducible assumption | with_reducible apply pairEnter_follows | (dsimp only [State.follows_mk]; change State.follows _ _) | with_reducible apply State.follows.forEach | with_reducible apply State.follows.foldlFst | with_reducible apply State.follows.foldl | split | dsimp only | intro _ | decide)

theorem execControlFrameReceive_follows {orig : State} (t : Ns) (h : PairHdr) (c : Control) (s : State) (hF : orig.follows s) : Out.follows orig (execControlFrameReceive t h c s) := by
  unfold execControlFrameReceive
  repeat' (first | with_reducible assumption | with_reducible apply Out.follows.next | with_reducible apply setNow_follows | with_reducible apply takeLink_follows | with_reducible apply modPair_follows | with_reducible apply logEv_follows | with_reducible apply pairEnter_follows | with_reducible apply stick_follows | with_reducible apply pairPatch_follows | with_reducible apply pairMeet_follows | (dsimp only [State.follows_mk]; change State.follows _ _) | with_reducible apply State.follows.forEach | with_reducible apply State.follows.foldlFst | with_reducible apply State.follows.foldl | split | dsimp only | exact fun _ => Nat.le_refl _ | exact fun _ => Nat.le_max_left _ _ | exact fun _ => Nat.le_succ_of_le (Nat.le_max_left _ _) | (intro m; dsimp only; split <;> exact Nat.le_refl _) | intro _ | decide)

theorem copyFail_follows {orig : State} (s : State) (hF : orig.follows s) :
    orig.follows (copyFail s) := by
  unfold copyFail
  repeat' (first | with_reducible assumption | with_reducible apply modPair_follows | with_reducible apply pairWait_follows | (dsimp only [State.follows_mk]; change State.follows _ _) | with_reducible apply State.follows.forEach | with_reducible apply State.follows.foldlFst | with_reducible apply State.follows.foldl | split | dsimp only | exact fun _ => Nat.le_refl _ | exact fun _ => Nat.le_max_left _ _ | exact fun _ => Nat.le_succ_of_le (Nat.le_max_left _ _) | (intro m; dsimp only; split <;> exact Nat.le_refl _) | intro _ | decide)

theorem setComplete_follows {orig : State} (s : State) (m : MirrorSet) (hF : orig.follows s) :
    orig.follows (setComplete s m) := by
  unfold setComplete
  repeat' (first | with_reducible assumption | with_reducible apply stick_follows | with_reducible apply modPair_follows | with_reducible apply copyFail_follows | with_reducible apply pairWait_follows | with_reducible apply applyReady_follows | (dsimp only [State.follows_mk]; change State.follows _ _) | with_reducible apply State.follows.forEach | with_reducible apply State.follows.foldlFst | with_reducible apply State.follows.foldl | split | dsimp only | exact fun _ => Nat.le_refl _ | exact fun _ => Nat.le_max_left _ _ | exact fun _ => Nat.le_succ_of_le (Nat.le_max_left _ _) | (intro m; dsimp only; split <;> exact Nat.le_refl _) | intro _ | decide)

theorem execMirrorFrameReceive_follows {orig : State} (t : Ns) (h : PairHdr) (m : MirrorSet) (s : State) (hF : orig.follows s) : Out.follows orig (execMirrorFrameReceive t h m s) := by
  unfold execMirrorFrameReceive
  repeat' (first | with_reducible assumption | with_reducible apply Out.follows.next | with_reducible apply takeLink_follows | with_reducible apply setNow_follows | with_reducible apply modPair_follows | with_reducible apply setComplete_follows | (dsimp only [State.follows_mk]; change State.follows _ _) | with_reducible apply State.follows.forEach | with_reducible apply State.follows.foldlFst | with_reducible apply State.follows.foldl | split | dsimp only | exact fun _ => Nat.le_refl _ | exact fun _ => Nat.le_max_left _ _ | exact fun _ => Nat.le_succ_of_le (Nat.le_max_left _ _) | (intro m; dsimp only; split <;> exact Nat.le_refl _) | intro _ | decide)

theorem execCopyFrameReceive_follows {orig : State} (t : Ns) (h : PairHdr) (m : MirrorSet) (s : State) (hF : orig.follows s) : Out.follows orig (execCopyFrameReceive t h m s) := by
  unfold execCopyFrameReceive
  repeat' (first | with_reducible assumption | with_reducible apply Out.follows.next | with_reducible apply takeLink_follows | with_reducible apply setNow_follows | with_reducible apply modPair_follows | with_reducible apply copyFail_follows | (dsimp only [State.follows_mk]; change State.follows _ _) | with_reducible apply State.follows.forEach | with_reducible apply State.follows.foldlFst | with_reducible apply State.follows.foldl | split | dsimp only | exact fun _ => Nat.le_refl _ | exact fun _ => Nat.le_max_left _ _ | exact fun _ => Nat.le_succ_of_le (Nat.le_max_left _ _) | (intro m; dsimp only; split <;> exact Nat.le_refl _) | intro _ | decide)

theorem execCopyComplete_follows {orig : State} (t : Ns) (ok : Bool) (s : State) (hF : orig.follows s) : Out.follows orig (execCopyComplete t ok s) := by
  unfold execCopyComplete
  repeat' (first | with_reducible assumption | with_reducible apply Out.follows.next | with_reducible apply setNow_follows | with_reducible apply copyFail_follows | with_reducible apply applySet_follows | with_reducible apply modPair_follows | with_reducible apply pairEnter_follows | (dsimp only [State.follows_mk]; change State.follows _ _) | with_reducible apply State.follows.forEach | with_reducible apply State.follows.foldlFst | with_reducible apply State.follows.foldl | split | dsimp only | exact fun _ => Nat.le_refl _ | exact fun _ => Nat.le_max_left _ _ | exact fun _ => Nat.le_succ_of_le (Nat.le_max_left _ _) | (intro m; dsimp only; split <;> exact Nat.le_refl _) | intro _ | decide)

theorem execCopyRetry_follows {orig : State} (t : Ns) (s : State) (hF : orig.follows s) : Out.follows orig (execCopyRetry t s) := by
  unfold execCopyRetry
  repeat' (first | with_reducible assumption | with_reducible apply Out.follows.next | with_reducible apply setNow_follows | with_reducible apply pairMeet_follows | (dsimp only [State.follows_mk]; change State.follows _ _) | with_reducible apply State.follows.forEach | with_reducible apply State.follows.foldlFst | with_reducible apply State.follows.foldl | split | dsimp only | intro _ | decide)

theorem execLanternReceive_follows {orig : State} (t : Ns) (h : PairHdr) (l : Lantern) (s : State) (hF : orig.follows s) : Out.follows orig (execLanternReceive t h l s) := by
  unfold execLanternReceive
  repeat' (first | with_reducible assumption | with_reducible apply Out.follows.next | with_reducible apply takeLink_follows | with_reducible apply setNow_follows | with_reducible apply modPair_follows | (dsimp only [State.follows_mk]; change State.follows _ _) | with_reducible apply State.follows.forEach | with_reducible apply State.follows.foldlFst | with_reducible apply State.follows.foldl | split | dsimp only | exact fun _ => Nat.le_refl _ | exact fun _ => Nat.le_max_left _ _ | exact fun _ => Nat.le_succ_of_le (Nat.le_max_left _ _) | (intro m; dsimp only; split <;> exact Nat.le_refl _) | intro _ | decide)

theorem execLanternSend_follows {orig : State} (t : Ns) (s : State) (hF : orig.follows s) : Out.follows orig (execLanternSend t s) := by
  unfold execLanternSend
  repeat' (first | with_reducible assumption | with_reducible apply Out.follows.next | with_reducible apply setNow_follows | with_reducible apply lanternSend_follows | (dsimp only [State.follows_mk]; change State.follows _ _) | with_reducible apply State.follows.forEach | with_reducible apply State.follows.foldlFst | with_reducible apply State.follows.foldl | split | dsimp only | intro _ | decide)

theorem showFindings_follows {orig : State} (s : State) (f : Nat) (hF : orig.follows s) :
    orig.follows (showFindings s f) := by
  unfold showFindings
  repeat' (first | with_reducible assumption | with_reducible apply setSticky_follows | with_reducible apply modPair_follows | (dsimp only [State.follows_mk]; change State.follows _ _) | with_reducible apply State.follows.forEach | with_reducible apply State.follows.foldlFst | with_reducible apply State.follows.foldl | split | dsimp only | exact fun _ => Nat.le_refl _ | exact fun _ => Nat.le_max_left _ _ | exact fun _ => Nat.le_succ_of_le (Nat.le_max_left _ _) | (intro m; dsimp only; split <;> exact Nat.le_refl _) | intro _ | decide)

theorem cedeDecide_follows {orig : State} (s : State) (hF : orig.follows s) :
    orig.follows (cedeDecide s) := by
  unfold cedeDecide
  repeat' (first | with_reducible assumption | with_reducible apply logEv_follows | with_reducible apply stick_follows | with_reducible apply pairWait_follows | with_reducible apply setOwn_follows | with_reducible apply modPair_follows | with_reducible apply pairRefuse_follows | (dsimp only [State.follows_mk]; change State.follows _ _) | with_reducible apply State.follows.forEach | with_reducible apply State.follows.foldlFst | with_reducible apply State.follows.foldl | split | dsimp only | exact fun _ => Nat.le_refl _ | exact fun _ => Nat.le_max_left _ _ | exact fun _ => Nat.le_succ_of_le (Nat.le_max_left _ _) | (intro m; dsimp only; split <;> exact Nat.le_refl _) | intro _ | decide)

theorem diagnose_follows {orig : State} (s : State) (hF : orig.follows s) :
    orig.follows (diagnose s) := by
  unfold diagnose
  repeat' (first | with_reducible assumption | with_reducible apply modPair_follows | with_reducible apply showFindings_follows | with_reducible apply pairFail_follows | with_reducible apply cedeDecide_follows | with_reducible apply pairWait_follows | (dsimp only [State.follows_mk]; change State.follows _ _) | with_reducible apply State.follows.forEach | with_reducible apply State.follows.foldlFst | with_reducible apply State.follows.foldl | split | dsimp only | exact fun _ => Nat.le_refl _ | exact fun _ => Nat.le_max_left _ _ | exact fun _ => Nat.le_succ_of_le (Nat.le_max_left _ _) | (intro m; dsimp only; split <;> exact Nat.le_refl _) | intro _ | decide)

theorem execSelfDiagnosis_follows {orig : State} (t : Ns) (s : State) (hF : orig.follows s) : Out.follows orig (execSelfDiagnosis t s) := by
  unfold execSelfDiagnosis
  repeat' (first | with_reducible assumption | with_reducible apply Out.follows.next | with_reducible apply setNow_follows | with_reducible apply diagnose_follows | (dsimp only [State.follows_mk]; change State.follows _ _) | with_reducible apply State.follows.forEach | with_reducible apply State.follows.foldlFst | with_reducible apply State.follows.foldl | split | dsimp only | intro _ | decide)

theorem atOnce_follows {orig : State} (s : State) (k : Nat) (hF : orig.follows s) :
    orig.follows (atOnce s k) := by
  unfold atOnce
  repeat' (first | with_reducible assumption | with_reducible apply pairFail_follows | with_reducible apply showFindings_follows | (dsimp only [State.follows_mk]; change State.follows _ _) | with_reducible apply State.follows.forEach | with_reducible apply State.follows.foldlFst | with_reducible apply State.follows.foldl | split | dsimp only | intro _ | decide)

theorem execEngineHalt_follows {orig : State} (e : Fin 128) (cause : Fin 4) (t : Ns) (s : State) (hF : orig.follows s) : Out.follows orig (execEngineHalt e cause t s) := by
  unfold execEngineHalt
  repeat' (first | with_reducible assumption | with_reducible apply Out.follows.next | with_reducible apply setNow_follows | with_reducible apply atOnce_follows | with_reducible apply haltEngine_follows | (dsimp only [State.follows_mk]; change State.follows _ _) | with_reducible apply State.follows.forEach | with_reducible apply State.follows.foldlFst | with_reducible apply State.follows.foldl | split | dsimp only | intro _ | decide)

theorem execLockstepMismatch_follows {orig : State} (t : Ns) (s : State) (hF : orig.follows s) : Out.follows orig (execLockstepMismatch t s) := by
  unfold execLockstepMismatch
  repeat' (first | with_reducible assumption | with_reducible apply Out.follows.next | with_reducible apply setNow_follows | with_reducible apply atOnce_follows | with_reducible apply logEv_follows | (dsimp only [State.follows_mk]; change State.follows _ _) | with_reducible apply State.follows.forEach | with_reducible apply State.follows.foldlFst | with_reducible apply State.follows.foldl | split | dsimp only | intro _ | decide)

theorem execOwnReadback_follows {orig : State} (t : Ns) (land : Bool) (s : State) (hF : orig.follows s) : Out.follows orig (execOwnReadback t land s) := by
  unfold execOwnReadback
  repeat' (first | with_reducible assumption | with_reducible apply Out.follows.next | with_reducible apply modPair_follows | with_reducible apply setNow_follows | with_reducible apply atOnce_follows | (dsimp only [State.follows_mk]; change State.follows _ _) | with_reducible apply State.follows.forEach | with_reducible apply State.follows.foldlFst | with_reducible apply State.follows.foldl | split | dsimp only | exact fun _ => Nat.le_refl _ | exact fun _ => Nat.le_max_left _ _ | exact fun _ => Nat.le_succ_of_le (Nat.le_max_left _ _) | (intro m; dsimp only; split <;> exact Nat.le_refl _) | intro _ | decide)

theorem execPeerOwnFall_follows {orig : State} (t : Ns) (s : State) (hF : orig.follows s) : Out.follows orig (execPeerOwnFall t s) := by
  unfold execPeerOwnFall
  repeat' (first | with_reducible assumption | with_reducible apply Out.follows.next | with_reducible apply setNow_follows | with_reducible apply pairGate_follows | with_reducible apply modPair_follows | with_reducible apply logEv_follows | with_reducible apply stick_follows | with_reducible apply pairWait_follows | (dsimp only [State.follows_mk]; change State.follows _ _) | with_reducible apply State.follows.forEach | with_reducible apply State.follows.foldlFst | with_reducible apply State.follows.foldl | split | dsimp only | exact fun _ => Nat.le_refl _ | exact fun _ => Nat.le_max_left _ _ | exact fun _ => Nat.le_succ_of_le (Nat.le_max_left _ _) | (intro m; dsimp only; split <;> exact Nat.le_refl _) | intro _ | decide)

theorem execPeerOwnRise_follows {orig : State} (t : Ns) (s : State) (hF : orig.follows s) : Out.follows orig (execPeerOwnRise t s) := by
  unfold execPeerOwnRise
  repeat' (first | with_reducible assumption | with_reducible apply Out.follows.next | with_reducible apply pairGate_follows | with_reducible apply modPair_follows | with_reducible apply setNow_follows | with_reducible apply stick_follows | (dsimp only [State.follows_mk]; change State.follows _ _) | with_reducible apply State.follows.forEach | with_reducible apply State.follows.foldlFst | with_reducible apply State.follows.foldl | split | dsimp only | exact fun _ => Nat.le_refl _ | exact fun _ => Nat.le_max_left _ _ | exact fun _ => Nat.le_succ_of_le (Nat.le_max_left _ _) | (intro m; dsimp only; split <;> exact Nat.le_refl _) | intro _ | decide)

theorem execTakeoverWaitEnd_follows {orig : State} (t : Ns) (s : State) (hF : orig.follows s) : Out.follows orig (execTakeoverWaitEnd t s) := by
  unfold execTakeoverWaitEnd
  repeat' (first | with_reducible assumption | with_reducible apply Out.follows.next | with_reducible apply setNow_follows | with_reducible apply setOwn_follows | with_reducible apply modPair_follows | (dsimp only [State.follows_mk]; change State.follows _ _) | with_reducible apply State.follows.forEach | with_reducible apply State.follows.foldlFst | with_reducible apply State.follows.foldl | split | dsimp only | exact fun _ => Nat.le_refl _ | exact fun _ => Nat.le_max_left _ _ | exact fun _ => Nat.le_succ_of_le (Nat.le_max_left _ _) | (intro m; dsimp only; split <;> exact Nat.le_refl _) | intro _ | decide)

theorem solResume_follows {orig : State} (s : State) (v t : Nat) (q : SolMirror) (hF : orig.follows s) :
    orig.follows (solResume s v t q) := by
  unfold solResume
  repeat' (first | with_reducible assumption | with_reducible apply setSol_follows | with_reducible apply solBegin_follows | with_reducible apply solDutyRefuse_follows | (dsimp only [State.follows_mk]; change State.follows _ _) | with_reducible apply State.follows.forEach | with_reducible apply State.follows.foldlFst | with_reducible apply State.follows.foldl | split | dsimp only | intro _ | decide)

theorem replayTicks_follows {orig : State} (fuel : Nat) (s : State) (w : Nat) (up : Bool) (hF : orig.follows s) :
    orig.follows (replayTicks fuel s w up) := by
  induction fuel generalizing s with
  | zero => exact hF
  | succ n ih =>
    unfold replayTicks
    repeat' (first | with_reducible assumption | with_reducible apply ih | with_reducible apply setWick_follows | with_reducible apply lltTick_follows | with_reducible apply markLate_follows | (dsimp only [State.follows_mk]; change State.follows _ _) | with_reducible apply State.follows.forEach | with_reducible apply State.follows.foldlFst | with_reducible apply State.follows.foldl | split | dsimp only | intro _ | decide)

theorem replayWick_follows {orig : State} (s : State) (r : SnapRec) (hF : orig.follows s) :
    orig.follows (replayWick s r) := by
  unfold replayWick
  repeat' (first | with_reducible assumption | with_reducible apply setWick_follows | with_reducible apply replayTicks_follows | (dsimp only [State.follows_mk]; change State.follows _ _) | with_reducible apply State.follows.forEach | with_reducible apply State.follows.foldlFst | with_reducible apply State.follows.foldl | split | dsimp only | intro _ | decide)

theorem replayTimes_follows {orig : State} (s : State) (close : Nat) (hF : orig.follows s) :
    orig.follows (replayTimes s close) := by
  unfold replayTimes
  repeat' (first | with_reducible assumption | with_reducible apply enterSt_follows | with_reducible apply dueSlot_follows | (dsimp only [State.follows_mk]; change State.follows _ _) | with_reducible apply State.follows.forEach | with_reducible apply State.follows.foldlFst | with_reducible apply State.follows.foldl | split | dsimp only | intro _ | decide)

theorem lltGoLive_follows {orig : State} (s : State) (m : MirrorSet) (hF : orig.follows s) :
    orig.follows (lltGoLive s m) := by
  unfold lltGoLive
  repeat' (first | with_reducible assumption | with_reducible apply replayTimes_follows | with_reducible apply replayWick_follows | (dsimp only [State.follows_mk]; change State.follows _ _) | with_reducible apply State.follows.forEach | with_reducible apply State.follows.foldlFst | with_reducible apply State.follows.foldl | split | dsimp only | intro _ | decide)

theorem creditsFrom_follows {orig : State} (s : State) (m : MirrorSet) (hF : orig.follows s) :
    orig.follows (creditsFrom s m) := by
  unfold creditsFrom
  repeat' (first | with_reducible assumption | with_reducible apply modBsk_follows | with_reducible apply sendCredit_follows | (dsimp only [State.follows_mk]; change State.follows _ _) | with_reducible apply State.follows.forEach | with_reducible apply State.follows.foldlFst | with_reducible apply State.follows.foldl | split | dsimp only | intro _ | decide)

theorem t5Open_follows {orig : State} (s : State) (hF : orig.follows s) :
    orig.follows (t5Open s) := by
  unfold t5Open
  repeat' (first | with_reducible assumption | with_reducible apply regate_follows | with_reducible apply pairEnter_follows | with_reducible apply modPair_follows | (dsimp only [State.follows_mk]; change State.follows _ _) | with_reducible apply State.follows.forEach | with_reducible apply State.follows.foldlFst | with_reducible apply State.follows.foldl | split | dsimp only | exact fun _ => Nat.le_refl _ | exact fun _ => Nat.le_max_left _ _ | exact fun _ => Nat.le_succ_of_le (Nat.le_max_left _ _) | (intro m; dsimp only; split <;> exact Nat.le_refl _) | intro _ | decide)

theorem collFail_follows {orig : State} (s : State) (hF : orig.follows s) :
    orig.follows (collFail s) := by
  unfold collFail
  repeat' (first | with_reducible assumption | with_reducible apply lanternSend_follows | with_reducible apply pairEnter_follows | with_reducible apply setOwn_follows | with_reducible apply modPair_follows | (dsimp only [State.follows_mk]; change State.follows _ _) | with_reducible apply State.follows.forEach | with_reducible apply State.follows.foldlFst | with_reducible apply State.follows.foldl | split | dsimp only | exact fun _ => Nat.le_refl _ | exact fun _ => Nat.le_max_left _ _ | exact fun _ => Nat.le_succ_of_le (Nat.le_max_left _ _) | (intro m; dsimp only; split <;> exact Nat.le_refl _) | intro _ | decide)

theorem execCollision_follows {orig : State} (t : Ns) (s : State) (hF : orig.follows s) : Out.follows orig (execCollision t s) := by
  unfold execCollision
  repeat' (first | with_reducible assumption | with_reducible apply Out.follows.next | with_reducible apply setNow_follows | with_reducible apply logEv_follows | with_reducible apply stick_follows | with_reducible apply modPair_follows | with_reducible apply collFail_follows | with_reducible apply pairWait_follows | with_reducible apply setOwn_follows | with_reducible apply pairGate_follows | (dsimp only [State.follows_mk]; change State.follows _ _) | with_reducible apply State.follows.forEach | with_reducible apply State.follows.foldlFst | with_reducible apply State.follows.foldl | split | dsimp only | exact fun _ => Nat.le_refl _ | exact fun _ => Nat.le_max_left _ _ | exact fun _ => Nat.le_succ_of_le (Nat.le_max_left _ _) | (intro m; dsimp only; split <;> exact Nat.le_refl _) | intro _ | decide)

theorem execCollisionTimeout_follows {orig : State} (t : Ns) (s : State) (hF : orig.follows s) : Out.follows orig (execCollisionTimeout t s) := by
  unfold execCollisionTimeout
  repeat' (first | with_reducible assumption | with_reducible apply Out.follows.next | with_reducible apply setNow_follows | with_reducible apply collFail_follows | (dsimp only [State.follows_mk]; change State.follows _ _) | with_reducible apply State.follows.forEach | with_reducible apply State.follows.foldlFst | with_reducible apply State.follows.foldl | split | dsimp only | intro _ | decide)

theorem pairClaim_follows {orig : State} (s : State) (hF : orig.follows s) :
    orig.follows (pairClaim s) := by
  unfold pairClaim
  repeat' (first | with_reducible assumption | with_reducible apply becomeActive_follows | with_reducible apply pairRefuse_follows | (dsimp only [State.follows_mk]; change State.follows _ _) | with_reducible apply State.follows.forEach | with_reducible apply State.follows.foldlFst | with_reducible apply State.follows.foldl | split | dsimp only | intro _ | decide)

theorem pairCede_follows {orig : State} (s : State) (hF : orig.follows s) :
    orig.follows (pairCede s) := by
  unfold pairCede
  repeat' (first | with_reducible assumption | with_reducible apply modPair_follows | with_reducible apply pairRefuse_follows | (dsimp only [State.follows_mk]; change State.follows _ _) | with_reducible apply State.follows.forEach | with_reducible apply State.follows.foldlFst | with_reducible apply State.follows.foldl | split | dsimp only | exact fun _ => Nat.le_refl _ | exact fun _ => Nat.le_max_left _ _ | exact fun _ => Nat.le_succ_of_le (Nat.le_max_left _ _) | (intro m; dsimp only; split <;> exact Nat.le_refl _) | intro _ | decide)

theorem pairReset_follows {orig : State} (s : State) (hF : orig.follows s) :
    orig.follows (pairReset s) := by
  unfold pairReset
  repeat' (first | with_reducible assumption | with_reducible apply pairWait_follows | with_reducible apply modPair_follows | with_reducible apply pairRefuse_follows | (dsimp only [State.follows_mk]; change State.follows _ _) | with_reducible apply State.follows.forEach | with_reducible apply State.follows.foldlFst | with_reducible apply State.follows.foldl | split | dsimp only | exact fun _ => Nat.le_refl _ | exact fun _ => Nat.le_max_left _ _ | exact fun _ => Nat.le_succ_of_le (Nat.le_max_left _ _) | (intro m; dsimp only; split <;> exact Nat.le_refl _) | intro _ | decide)

theorem pairResync_follows {orig : State} (s : State) (hF : orig.follows s) :
    orig.follows (pairResync s) := by
  unfold pairResync
  repeat' (first | with_reducible assumption | with_reducible apply pairWait_follows | with_reducible apply pairRefuse_follows | (dsimp only [State.follows_mk]; change State.follows _ _) | with_reducible apply State.follows.forEach | with_reducible apply State.follows.foldlFst | with_reducible apply State.follows.foldl | split | dsimp only | intro _ | decide)

theorem pairClear_follows {orig : State} (s : State) (hF : orig.follows s) :
    orig.follows (pairClear s) := by
  unfold pairClear
  repeat' (first | with_reducible assumption | with_reducible apply modPair_follows | (dsimp only [State.follows_mk]; change State.follows _ _) | with_reducible apply State.follows.forEach | with_reducible apply State.follows.foldlFst | with_reducible apply State.follows.foldl | split | dsimp only | exact fun _ => Nat.le_refl _ | exact fun _ => Nat.le_max_left _ _ | exact fun _ => Nat.le_succ_of_le (Nat.le_max_left _ _) | (intro m; dsimp only; split <;> exact Nat.le_refl _) | intro _ | decide)

theorem execPairClaim_follows {orig : State} (s : State) (hF : orig.follows s) : Out.follows orig (execPairClaim s) := by
  unfold execPairClaim
  repeat' (first | with_reducible assumption | with_reducible apply Out.follows.next | with_reducible apply pairClaim_follows | (dsimp only [State.follows_mk]; change State.follows _ _) | with_reducible apply State.follows.forEach | with_reducible apply State.follows.foldlFst | with_reducible apply State.follows.foldl | split | dsimp only | intro _ | decide)

theorem execPairCede_follows {orig : State} (s : State) (hF : orig.follows s) : Out.follows orig (execPairCede s) := by
  unfold execPairCede
  repeat' (first | with_reducible assumption | with_reducible apply Out.follows.next | with_reducible apply pairCede_follows | (dsimp only [State.follows_mk]; change State.follows _ _) | with_reducible apply State.follows.forEach | with_reducible apply State.follows.foldlFst | with_reducible apply State.follows.foldl | split | dsimp only | intro _ | decide)

theorem execPairReset_follows {orig : State} (s : State) (hF : orig.follows s) : Out.follows orig (execPairReset s) := by
  unfold execPairReset
  repeat' (first | with_reducible assumption | with_reducible apply Out.follows.next | with_reducible apply pairReset_follows | (dsimp only [State.follows_mk]; change State.follows _ _) | with_reducible apply State.follows.forEach | with_reducible apply State.follows.foldlFst | with_reducible apply State.follows.foldl | split | dsimp only | intro _ | decide)

theorem execPairResync_follows {orig : State} (s : State) (hF : orig.follows s) : Out.follows orig (execPairResync s) := by
  unfold execPairResync
  repeat' (first | with_reducible assumption | with_reducible apply Out.follows.next | with_reducible apply pairResync_follows | (dsimp only [State.follows_mk]; change State.follows _ _) | with_reducible apply State.follows.forEach | with_reducible apply State.follows.foldlFst | with_reducible apply State.follows.foldl | split | dsimp only | intro _ | decide)

theorem execPairClearCounts_follows {orig : State} (s : State) (hF : orig.follows s) : Out.follows orig (execPairClearCounts s) := by
  unfold execPairClearCounts
  repeat' (first | with_reducible assumption | with_reducible apply Out.follows.next | with_reducible apply pairClear_follows | (dsimp only [State.follows_mk]; change State.follows _ _) | with_reducible apply State.follows.forEach | with_reducible apply State.follows.foldlFst | with_reducible apply State.follows.foldl | split | dsimp only | intro _ | decide)

theorem execAutoClaim_follows {orig : State} (t : Ns) (s : State) (hF : orig.follows s) : Out.follows orig (execAutoClaim t s) := by
  unfold execAutoClaim
  repeat' (first | with_reducible assumption | with_reducible apply Out.follows.next | with_reducible apply setNow_follows | with_reducible apply becomeActive_follows | (dsimp only [State.follows_mk]; change State.follows _ _) | with_reducible apply State.follows.forEach | with_reducible apply State.follows.foldlFst | with_reducible apply State.follows.foldl | split | dsimp only | intro _ | decide)

theorem execShadowComplete_follows {orig : State} (t : Ns) (s : State) (hF : orig.follows s) : Out.follows orig (execShadowComplete t s) := by
  unfold execShadowComplete
  repeat' (first | with_reducible assumption | with_reducible apply Out.follows.next | with_reducible apply setNow_follows | with_reducible apply modPair_follows | with_reducible apply pairEnter_follows | (dsimp only [State.follows_mk]; change State.follows _ _) | with_reducible apply State.follows.forEach | with_reducible apply State.follows.foldlFst | with_reducible apply State.follows.foldl | split | dsimp only | exact fun _ => Nat.le_refl _ | exact fun _ => Nat.le_max_left _ _ | exact fun _ => Nat.le_succ_of_le (Nat.le_max_left _ _) | (intro m; dsimp only; split <;> exact Nat.le_refl _) | intro _ | decide)

theorem execPairLinkSilence_follows {orig : State} (t : Ns) (s : State) (hF : orig.follows s) : Out.follows orig (execPairLinkSilence t s) := by
  unfold execPairLinkSilence
  repeat' (first | with_reducible assumption | with_reducible apply Out.follows.next | with_reducible apply setNow_follows | with_reducible apply showFindings_follows | with_reducible apply logEv_follows | with_reducible apply pairWait_follows | (dsimp only [State.follows_mk]; change State.follows _ _) | with_reducible apply State.follows.forEach | with_reducible apply State.follows.foldlFst | with_reducible apply State.follows.foldl | split | dsimp only | intro _ | decide)

theorem execSelftestStage_follows {orig : State} (t : Ns) (stage : TestStage) (ok : Bool) (s : State) (hF : orig.follows s) : Out.follows orig (execSelftestStage t stage ok s) := by
  unfold execSelftestStage
  repeat' (first | with_reducible assumption | with_reducible apply Out.follows.next | with_reducible apply setNow_follows | with_reducible apply modPair_follows | with_reducible apply logEv_follows | (dsimp only [State.follows_mk]; change State.follows _ _) | with_reducible apply State.follows.forEach | with_reducible apply State.follows.foldlFst | with_reducible apply State.follows.foldl | split | dsimp only | exact fun _ => Nat.le_refl _ | exact fun _ => Nat.le_max_left _ _ | exact fun _ => Nat.le_succ_of_le (Nat.le_max_left _ _) | (intro m; dsimp only; split <;> exact Nat.le_refl _) | intro _ | decide)

theorem sendControl_follows {orig : State} (s : State) (hF : orig.follows s) :
    orig.follows (sendControl s) := by
  unfold sendControl
  repeat' (first | with_reducible assumption | with_reducible apply emitLink_follows | (dsimp only [State.follows_mk]; change State.follows _ _) | with_reducible apply State.follows.forEach | with_reducible apply State.follows.foldlFst | with_reducible apply State.follows.foldl | split | dsimp only | intro _ | decide)

end Sys2Proof.Machine
end

