-- ==== Sys2Proof/Laws/FollowsThermal.lean ====
section
/-!
SUPPORT. Every operation of Machine/Thermal.lean keeps `State.follows`: it leaves the queue alone, the recorder follows, no floor and
no epoch falls, and SAFE_OUT_N stays as R403 has it.
-/
namespace Sys2Proof.Machine

open Sys2Proof

theorem takeSensor_follows {orig : State} (s : State) (i : Nat) (r : TempReading) (hF : orig.follows s) :
    orig.follows (takeSensor s i r) := by
  unfold takeSensor
  repeat' (first | with_reducible assumption | with_reducible apply setSens_follows | with_reducible apply useFree_follows | with_reducible apply setAis_follows | with_reducible apply logEv_follows | with_reducible apply stick_follows | (dsimp only [State.follows_mk]; change State.follows _ _) | with_reducible apply State.follows.forEach | with_reducible apply State.follows.foldlFst | with_reducible apply State.follows.foldl | split | dsimp only | intro _ | decide)

theorem modHist_follows {orig : State} (s : State) (f : ThrHist → ThrHist) (hF : orig.follows s) :
    orig.follows (modHist s f) := by
  unfold modHist
  repeat' (first | with_reducible assumption | (dsimp only [State.follows_mk]; change State.follows _ _) | with_reducible apply State.follows.forEach | with_reducible apply State.follows.foldlFst | with_reducible apply State.follows.foldl | split | dsimp only | intro _ | decide)

theorem thermalShutdown_follows {orig : State} (s : State) (i : Nat) (hF : orig.follows s) :
    orig.follows (thermalShutdown s i) := by
  unfold thermalShutdown
  repeat' (first | with_reducible assumption | with_reducible apply logEv_follows | with_reducible apply snufferTrigger_follows | with_reducible apply setHold_follows | with_reducible apply modSnf_follows | with_reducible apply afterStep5_follows | (dsimp only [State.follows_mk]; change State.follows _ _) | with_reducible apply State.follows.forEach | with_reducible apply State.follows.foldlFst | with_reducible apply State.follows.foldl | split | dsimp only | exact fun h => h | (intro h; split <;> exact h) | intro _ | decide)

theorem thermalStep_follows {orig : State} (s : State) (hF : orig.follows s) :
    orig.follows (thermalStep s) := by
  unfold thermalStep
  repeat' (first | with_reducible assumption | with_reducible apply modHist_follows | with_reducible apply setHold_follows | (dsimp only [State.follows_mk]; change State.follows _ _) | with_reducible apply State.follows.forEach | with_reducible apply State.follows.foldlFst | with_reducible apply State.follows.foldl | split | dsimp only | intro _ | decide)

theorem execThermalConversion_follows {orig : State} (i : Fin 32) (t : Ns) (r : TempReading) (s : State) (hF : orig.follows s) : Out.follows orig (execThermalConversion i t r s) := by
  unfold execThermalConversion
  repeat' (first | with_reducible assumption | with_reducible apply Out.follows.next | with_reducible apply setNow_follows | with_reducible apply setSens_follows | with_reducible apply takeSensor_follows | with_reducible apply thermalShutdown_follows | with_reducible apply thermalStep_follows | (dsimp only [State.follows_mk]; change State.follows _ _) | with_reducible apply State.follows.forEach | with_reducible apply State.follows.foldlFst | with_reducible apply State.follows.foldl | split | dsimp only | intro _ | decide)

theorem thermalBoot_follows {orig : State} (s : State) (hF : orig.follows s) :
    orig.follows (thermalBoot s) := by
  unfold thermalBoot
  repeat' (first | with_reducible assumption | with_reducible apply modSnf_follows | with_reducible apply startBoot_follows | with_reducible apply coreReset_follows | (dsimp only [State.follows_mk]; change State.follows _ _) | with_reducible apply State.follows.forEach | with_reducible apply State.follows.foldlFst | with_reducible apply State.follows.foldl | split | dsimp only | exact fun h => h | (intro h; split <;> exact h) | intro _ | decide)

theorem noteRestart_follows {orig : State} (s : State) (hF : orig.follows s) :
    orig.follows (noteRestart s) := by
  unfold noteRestart
  repeat' (first | with_reducible assumption | with_reducible apply logEv_follows | with_reducible apply stick_follows | (dsimp only [State.follows_mk]; change State.follows _ _) | with_reducible apply State.follows.forEach | with_reducible apply State.follows.foldlFst | with_reducible apply State.follows.foldl | split | dsimp only | intro _ | decide)

theorem execThermalRestart_follows {orig : State} (t : Ns) (s : State) (hF : orig.follows s) : Out.follows orig (execThermalRestart t s) := by
  unfold execThermalRestart
  repeat' (first | with_reducible assumption | with_reducible apply Out.follows.next | with_reducible apply setNow_follows | with_reducible apply modHist_follows | with_reducible apply snufferRelease_follows | with_reducible apply noteRestart_follows | with_reducible apply thermalBoot_follows | (dsimp only [State.follows_mk]; change State.follows _ _) | with_reducible apply State.follows.forEach | with_reducible apply State.follows.foldlFst | with_reducible apply State.follows.foldl | split | dsimp only | intro _ | decide)

theorem setRowClock_follows {orig : State} (s : State) (r : Nat) (hF : orig.follows s) :
    orig.follows (setRowClock s r) := by
  unfold setRowClock
  repeat' (first | with_reducible assumption | with_reducible apply setRow_follows | with_reducible apply stick_follows | (dsimp only [State.follows_mk]; change State.follows _ _) | with_reducible apply State.follows.forEach | with_reducible apply State.follows.foldlFst | with_reducible apply State.follows.foldl | split | dsimp only | intro _ | decide)

theorem setRowClocks_follows {orig : State} (s : State) (hF : orig.follows s) :
    orig.follows (setRowClocks s) := by
  unfold setRowClocks
  repeat' (first | with_reducible assumption | with_reducible apply setRowClock_follows | (dsimp only [State.follows_mk]; change State.follows _ _) | with_reducible apply State.follows.forEach | with_reducible apply State.follows.foldlFst | with_reducible apply State.follows.foldl | split | dsimp only | intro _ | decide)

theorem takeTemp_follows {orig : State} (s : State) (k : Nat) (hF : orig.follows s) :
    orig.follows (takeTemp s k) := by
  unfold takeTemp
  repeat' (first | with_reducible assumption | with_reducible apply addItem_follows | (dsimp only [State.follows_mk]; change State.follows _ _) | with_reducible apply State.follows.forEach | with_reducible apply State.follows.foldlFst | with_reducible apply State.follows.foldl | split | dsimp only | intro _ | decide)

theorem takeTemps_follows {orig : State} (s : State) (hF : orig.follows s) :
    orig.follows (takeTemps s) := by
  unfold takeTemps
  repeat' (first | with_reducible assumption | with_reducible apply takeTemp_follows | (dsimp only [State.follows_mk]; change State.follows _ _) | with_reducible apply State.follows.forEach | with_reducible apply State.follows.foldlFst | with_reducible apply State.follows.foldl | split | dsimp only | intro _ | decide)

theorem polAct_follows {orig : State} (s : State) (n p : Nat) (on : Bool) (t : Int) (hF : orig.follows s) :
    orig.follows (polAct s n p on t) := by
  unfold polAct
  repeat' (first | with_reducible assumption | with_reducible apply setStl_follows | with_reducible apply keepPost_follows | with_reducible apply snufferTrigger_follows | (dsimp only [State.follows_mk]; change State.follows _ _) | with_reducible apply State.follows.forEach | with_reducible apply State.follows.foldlFst | with_reducible apply State.follows.foldl | split | dsimp only | intro _ | decide)

theorem runPolicy_follows {orig : State} (s : State) (n p : Nat) (hF : orig.follows s) :
    orig.follows (runPolicy s n p) := by
  unfold runPolicy
  repeat' (first | with_reducible assumption | with_reducible apply setPol_follows | with_reducible apply logEv_follows | with_reducible apply stick_follows | with_reducible apply polAct_follows | (dsimp only [State.follows_mk]; change State.follows _ _) | with_reducible apply State.follows.forEach | with_reducible apply State.follows.foldlFst | with_reducible apply State.follows.foldl | split | dsimp only | intro _ | decide)

theorem execPmbusPowerRead_follows {orig : State} (t : Ns) (p : Nat) (s : State) (hF : orig.follows s) : Out.follows orig (execPmbusPowerRead t p s) := by
  unfold execPmbusPowerRead
  repeat' (first | with_reducible assumption | with_reducible apply Out.follows.next | with_reducible apply setNow_follows | (dsimp only [State.follows_mk]; change State.follows _ _) | with_reducible apply State.follows.forEach | with_reducible apply State.follows.foldlFst | with_reducible apply State.follows.foldl | split | dsimp only | intro _ | decide)

end Sys2Proof.Machine
end

