-- ==== Sys2Proof/Laws/FollowsInstall.lean ====
section
/-!
SUPPORT. Every operation of Machine/Install.lean keeps `State.follows`: it leaves the queue alone, the recorder follows, no floor and
no epoch falls, and SAFE_OUT_N stays as R403 has it.
-/
namespace Sys2Proof.Machine

open Sys2Proof

theorem hostWord_follows {orig : State} (old new : Structure) (s u : State) (a : Nat) (hF : orig.follows u) :
    orig.follows (hostWord old new s u a) := by
  unfold hostWord
  repeat' (first | with_reducible assumption | with_reducible apply report_follows | with_reducible apply setRegW_follows | (dsimp only [State.follows_mk]; change State.follows _ _) | with_reducible apply State.follows.forEach | with_reducible apply State.follows.foldlFst | with_reducible apply State.follows.foldl | split | dsimp only | intro _ | decide)

theorem placeWords_follows {orig : State} (old new : Structure) (s : State) (hF : orig.follows s) :
    orig.follows (placeWords old new s) := by
  unfold placeWords
  repeat' (first | with_reducible assumption | with_reducible apply setRegW_follows | with_reducible apply hostWord_follows | (dsimp only [State.follows_mk]; change State.follows _ _) | with_reducible apply State.follows.forEach | with_reducible apply State.follows.foldlFst | with_reducible apply State.follows.foldl | split | dsimp only | intro _ | decide)

theorem placeInst_follows {orig : State} (s : State) (p : Nat × Inst) (hF : orig.follows s) :
    orig.follows (placeInst s p) := by
  unfold placeInst
  repeat' (first | with_reducible assumption | with_reducible apply setBlk_follows | with_reducible apply setTaper_follows | with_reducible apply setChan_follows | with_reducible apply setDry_follows | with_reducible apply setHeat_follows | with_reducible apply setAer_follows | with_reducible apply setRoute_follows | with_reducible apply setGate_follows | with_reducible apply setMot_follows | with_reducible apply setSol_follows | with_reducible apply setTx_follows | with_reducible apply setSlip_follows | with_reducible apply setPol_follows | with_reducible apply setLoop_follows | (dsimp only [State.follows_mk]; change State.follows _ _) | with_reducible apply State.follows.forEach | with_reducible apply State.follows.foldlFst | with_reducible apply State.follows.foldl | split | dsimp only | intro _ | decide)

theorem freeSlot_follows {orig : State} (s : State) (i : Nat) (hF : orig.follows s) :
    orig.follows (freeSlot s i) := by
  unfold freeSlot
  repeat' (first | with_reducible assumption | with_reducible apply setSlot_follows | with_reducible apply runAct_follows | (dsimp only [State.follows_mk]; change State.follows _ _) | with_reducible apply State.follows.forEach | with_reducible apply State.follows.foldlFst | with_reducible apply State.follows.foldl | split | dsimp only | intro _ | decide)

theorem freeRange_follows {orig : State} (s : State) (r : LampRange) (hF : orig.follows s) :
    orig.follows (freeRange s r) := by
  unfold freeRange
  repeat' (first | with_reducible assumption | with_reducible apply freeSlot_follows | (dsimp only [State.follows_mk]; change State.follows _ _) | with_reducible apply State.follows.forEach | with_reducible apply State.follows.foldlFst | with_reducible apply State.follows.foldl | split | dsimp only | intro _ | decide)

theorem removeInst_follows {orig : State} (s : State) (i : Nat) (hF : orig.follows s) :
    orig.follows (removeInst s i) := by
  unfold removeInst
  repeat' (first | with_reducible assumption | with_reducible apply setBlk_follows | (dsimp only [State.follows_mk]; change State.follows _ _) | with_reducible apply State.follows.forEach | with_reducible apply State.follows.foldlFst | with_reducible apply State.follows.foldl | split | dsimp only | intro _ | decide)

theorem emptyBsk_follows {orig : State} (s : State) (b : Nat) (hF : orig.follows s) :
    orig.follows (emptyBsk s b) := by
  unfold emptyBsk
  repeat' (first | with_reducible assumption | with_reducible apply setBsk_follows | with_reducible apply bskAny_follows | (dsimp only [State.follows_mk]; change State.follows _ _) | with_reducible apply State.follows.forEach | with_reducible apply State.follows.foldlFst | with_reducible apply State.follows.foldl | split | dsimp only | intro _ | decide)

theorem cutBsk_follows {orig : State} (s : State) (b depth : Nat) (hF : orig.follows s) :
    orig.follows (cutBsk s b depth) := by
  unfold cutBsk
  repeat' (first | with_reducible assumption | with_reducible apply setBsk_follows | with_reducible apply bskAny_follows | (dsimp only [State.follows_mk]; change State.follows _ _) | with_reducible apply State.follows.forEach | with_reducible apply State.follows.foldlFst | with_reducible apply State.follows.foldl | split | dsimp only | intro _ | decide)

theorem placeBsk_follows {orig : State} (old new : Structure) (s : State) (b : Nat) (hF : orig.follows s) :
    orig.follows (placeBsk old new s b) := by
  unfold placeBsk
  repeat' (first | with_reducible assumption | with_reducible apply setBsk_follows | with_reducible apply emptyBsk_follows | with_reducible apply cutBsk_follows | (dsimp only [State.follows_mk]; change State.follows _ _) | with_reducible apply State.follows.forEach | with_reducible apply State.follows.foldlFst | with_reducible apply State.follows.foldl | split | dsimp only | intro _ | decide)

theorem wickStart_follows {orig : State} (s : State) (w : Nat) (hF : orig.follows s) :
    orig.follows (wickStart s w) := by
  unfold wickStart
  repeat' (first | with_reducible assumption | with_reducible apply setWick_follows | (dsimp only [State.follows_mk]; change State.follows _ _) | with_reducible apply State.follows.forEach | with_reducible apply State.follows.foldlFst | with_reducible apply State.follows.foldl | split | dsimp only | intro _ | decide)

theorem patchWick_follows {orig : State} (old new : Structure) (s : State) (w : Nat) (hF : orig.follows s) :
    orig.follows (patchWick old new s w) := by
  unfold patchWick
  repeat' (first | with_reducible assumption | with_reducible apply setWick_follows | with_reducible apply setRegW_follows | with_reducible apply logEv_follows | with_reducible apply wickStart_follows | (dsimp only [State.follows_mk]; change State.follows _ _) | with_reducible apply State.follows.forEach | with_reducible apply State.follows.foldlFst | with_reducible apply State.follows.foldl | split | dsimp only | intro _ | decide)

theorem dropStall_follows {orig : State} (s : State) (i : Nat) (hF : orig.follows s) :
    orig.follows (dropStall s i) := by
  unfold dropStall
  repeat' (first | with_reducible assumption | with_reducible apply setAis_follows | with_reducible apply setChan_follows | (dsimp only [State.follows_mk]; change State.follows _ _) | with_reducible apply State.follows.forEach | with_reducible apply State.follows.foldlFst | with_reducible apply State.follows.foldl | split | dsimp only | intro _ | decide)

theorem patchStall_follows {orig : State} (old new : Structure) (s : State) (i : Nat) (hF : orig.follows s) :
    orig.follows (patchStall old new s i) := by
  unfold patchStall
  repeat' (first | with_reducible assumption | with_reducible apply setStl_follows | with_reducible apply dropStall_follows | with_reducible apply setLevel_follows | with_reducible apply setAis_follows | (dsimp only [State.follows_mk]; change State.follows _ _) | with_reducible apply State.follows.forEach | with_reducible apply State.follows.foldlFst | with_reducible apply State.follows.foldl | split | dsimp only | intro _ | decide)

theorem placeSol_follows {orig : State} (s : State) (v : Nat) (hF : orig.follows s) :
    orig.follows (placeSol s v) := by
  unfold placeSol
  repeat' (first | with_reducible assumption | with_reducible apply setSol_follows | with_reducible apply solEnable_follows | with_reducible apply solGateOff_follows | (dsimp only [State.follows_mk]; change State.follows _ _) | with_reducible apply State.follows.forEach | with_reducible apply State.follows.foldlFst | with_reducible apply State.follows.foldl | split | dsimp only | intro _ | decide)

theorem patchCol_follows {orig : State} (old new : Structure) (s : State) (c : Nat) (hF : orig.follows s) :
    orig.follows (patchCol old new s c) := by
  unfold patchCol
  repeat' (first | with_reducible assumption | with_reducible apply restoreDry_follows | with_reducible apply restoreCol_follows | with_reducible apply setCol_follows | (dsimp only [State.follows_mk]; change State.follows _ _) | with_reducible apply State.follows.forEach | with_reducible apply State.follows.foldlFst | with_reducible apply State.follows.foldl | split | dsimp only | intro _ | decide)

theorem patchChan_follows {orig : State} (old new : Structure) (s : State) (c : Nat) (hF : orig.follows s) :
    orig.follows (patchChan old new s c) := by
  unfold patchChan
  repeat' (first | with_reducible assumption | with_reducible apply selectTable_follows | with_reducible apply setChan_follows | (dsimp only [State.follows_mk]; change State.follows _ _) | with_reducible apply State.follows.forEach | with_reducible apply State.follows.foldlFst | with_reducible apply State.follows.foldl | split | dsimp only | intro _ | decide)

theorem placeGrain_follows {orig : State} (new : Structure) (s : State) (hF : orig.follows s) :
    orig.follows (placeGrain new s) := by
  unfold placeGrain
  repeat' (first | with_reducible assumption | (dsimp only [State.follows_mk]; change State.follows _ _) | with_reducible apply State.follows.forEach | with_reducible apply State.follows.foldlFst | with_reducible apply State.follows.foldl | split | dsimp only | intro _ | decide)

theorem placeInsts_follows {orig : State} (old new : Structure) (s : State) (hF : orig.follows s) :
    orig.follows (placeInsts old new s) := by
  unfold placeInsts
  repeat' (first | with_reducible assumption | with_reducible apply removeInst_follows | with_reducible apply freeRange_follows | with_reducible apply placeInst_follows | (dsimp only [State.follows_mk]; change State.follows _ _) | with_reducible apply State.follows.forEach | with_reducible apply State.follows.foldlFst | with_reducible apply State.follows.foldl | split | dsimp only | intro _ | decide)

theorem install_follows {orig : State} (new : Structure) (retire : List Retiring) (s : State) (hF : orig.follows s) :
    orig.follows (install new retire s) := by
  unfold install
  repeat' (first | with_reducible assumption | with_reducible apply placeWords_follows | with_reducible apply placeInsts_follows | with_reducible apply placeGrain_follows | with_reducible apply placeBsk_follows | with_reducible apply patchStall_follows | with_reducible apply motCommit_follows | with_reducible apply noteWorst_follows | with_reducible apply placeSol_follows | (dsimp only [State.follows_mk]; change State.follows _ _) | with_reducible apply State.follows.forEach | with_reducible apply State.follows.foldlFst | with_reducible apply State.follows.foldl | split | dsimp only | intro _ | decide)

theorem freeRetired_follows {orig : State} (s : State) (r : Retiring) (hF : orig.follows s) :
    orig.follows (freeRetired s r) := by
  unfold freeRetired
  repeat' (first | with_reducible assumption | with_reducible apply logEv_follows | with_reducible apply install_follows | (dsimp only [State.follows_mk]; change State.follows _ _) | with_reducible apply State.follows.forEach | with_reducible apply State.follows.foldlFst | with_reducible apply State.follows.foldl | split | dsimp only | intro _ | decide)

theorem endRetiring_follows {orig : State} (s : State) (hF : orig.follows s) :
    orig.follows (endRetiring s) := by
  unfold endRetiring
  repeat' (first | with_reducible assumption | with_reducible apply freeRetired_follows | (dsimp only [State.follows_mk]; change State.follows _ _) | with_reducible apply State.follows.forEach | with_reducible apply State.follows.foldlFst | with_reducible apply State.follows.foldl | split | dsimp only | intro _ | decide)

end Sys2Proof.Machine
end

