-- ==== Sys2Proof/Laws/FollowsStream.lean ====
section
/-!
SUPPORT. Every operation of Machine/Stream.lean keeps `State.follows`: it leaves the queue alone, the recorder follows, no floor and
no epoch falls, and SAFE_OUT_N stays as R403 has it.
-/
namespace Sys2Proof.Machine

open Sys2Proof

theorem modHld_follows {orig : State} (s : State) (f : HldState → HldState) (hF : orig.follows s) :
    orig.follows (modHld s f) := by
  unfold modHld
  repeat' (first | with_reducible assumption | (dsimp only [State.follows_mk]; change State.follows _ _) | with_reducible apply State.follows.forEach | with_reducible apply State.follows.foldlFst | with_reducible apply State.follows.foldl | split | dsimp only | intro _ | decide)

theorem hldReject_follows {orig : State} (s : State) (op : Nat) (c : HldCode) (hF : orig.follows s) :
    orig.follows (hldReject s op c) := by
  unfold hldReject
  repeat' (first | with_reducible assumption | with_reducible apply logEv_follows | with_reducible apply stick_follows | with_reducible apply hldResult_follows | (dsimp only [State.follows_mk]; change State.follows _ _) | with_reducible apply State.follows.forEach | with_reducible apply State.follows.foldlFst | with_reducible apply State.follows.foldl | split | dsimp only | intro _ | decide)

theorem streamChunk_follows {orig : State} (s : State) (offset : Nat) (first : Bool) (data : List Byte) (hF : orig.follows s) :
    orig.follows (streamChunk s offset first data).1 := by
  unfold streamChunk
  repeat' (first | with_reducible assumption | with_reducible apply hldResult_follows | with_reducible apply modHld_follows | (dsimp only [State.follows_mk]; change State.follows _ _) | with_reducible apply State.follows.forEach | with_reducible apply State.follows.foldlFst | with_reducible apply State.follows.foldl | split | dsimp only | intro _ | decide)

theorem execStreamChunk_follows {orig : State} (t : Ns) (d : Dgram) (offset : Nat) (first : Bool) (data : List Byte) (s : State) (hF : orig.follows s) : Out.follows orig (execStreamChunk t d offset first data s) := by
  unfold execStreamChunk
  repeat' (first | with_reducible assumption | with_reducible apply Out.follows.next | with_reducible apply setNow_follows | with_reducible apply withDgram_follows | with_reducible apply streamChunk_follows | with_reducible apply noteChange_follows | (dsimp only [State.follows_mk]; change State.follows _ _) | with_reducible apply State.follows.forEach | with_reducible apply State.follows.foldlFst | with_reducible apply State.follows.foldl | split | dsimp only | intro _ | decide)

theorem hldValidate_follows {orig : State} (s : State) (hF : orig.follows s) :
    orig.follows (hldValidate s) := by
  unfold hldValidate
  repeat' (first | with_reducible assumption | with_reducible apply modHld_follows | with_reducible apply hldResult_follows | (dsimp only [State.follows_mk]; change State.follows _ _) | with_reducible apply State.follows.forEach | with_reducible apply State.follows.foldlFst | with_reducible apply State.follows.foldl | split | dsimp only | intro _ | decide)

theorem unlessHalted_follows {orig : State} (s s' : State) (hF0 : orig.follows s) (hF : orig.follows s') :
    orig.follows (unlessHalted s s') := by
  unfold unlessHalted
  split
  · exact hF0
  · exact hF

theorem execHldValidate_follows {orig : State} (s : State) (hF : orig.follows s) : Out.follows orig (execHldValidate s) := by
  unfold execHldValidate
  repeat' (first | with_reducible assumption | with_reducible apply Out.follows.next | with_reducible apply unlessHalted_follows | with_reducible apply hldValidate_follows | (dsimp only [State.follows_mk]; change State.follows _ _) | with_reducible apply State.follows.forEach | with_reducible apply State.follows.foldlFst | with_reducible apply State.follows.foldl | split | dsimp only | intro _ | decide)

theorem execValidationComplete_follows {orig : State} (t : Ns) (img : StreamImg) (s : State) (hF : orig.follows s) : Out.follows orig (execValidationComplete t img s) := by
  unfold execValidationComplete
  repeat' (first | with_reducible assumption | with_reducible apply Out.follows.next | with_reducible apply setNow_follows | with_reducible apply hldResult_follows | with_reducible apply modHld_follows | with_reducible apply hldReject_follows | (dsimp only [State.follows_mk]; change State.follows _ _) | with_reducible apply State.follows.forEach | with_reducible apply State.follows.foldlFst | with_reducible apply State.follows.foldl | split | dsimp only | intro _ | decide)

theorem hldApply_follows {orig : State} (s : State) (hF : orig.follows s) :
    orig.follows (hldApply s) := by
  unfold hldApply
  repeat' (first | with_reducible assumption | with_reducible apply hldResult_follows | with_reducible apply modHld_follows | with_reducible apply stick_follows | (dsimp only [State.follows_mk]; change State.follows _ _) | with_reducible apply State.follows.forEach | with_reducible apply State.follows.foldlFst | with_reducible apply State.follows.foldl | split | dsimp only | intro _ | decide)

theorem execHldApply_follows {orig : State} (s : State) (hF : orig.follows s) : Out.follows orig (execHldApply s) := by
  unfold execHldApply
  repeat' (first | with_reducible assumption | with_reducible apply Out.follows.next | with_reducible apply unlessHalted_follows | with_reducible apply hldApply_follows | (dsimp only [State.follows_mk]; change State.follows _ _) | with_reducible apply State.follows.forEach | with_reducible apply State.follows.foldlFst | with_reducible apply State.follows.foldl | split | dsimp only | intro _ | decide)

theorem hldCancel_follows {orig : State} (s : State) (hF : orig.follows s) :
    orig.follows (hldCancel s) := by
  unfold hldCancel
  repeat' (first | with_reducible assumption | with_reducible apply hldResult_follows | with_reducible apply modHld_follows | (dsimp only [State.follows_mk]; change State.follows _ _) | with_reducible apply State.follows.forEach | with_reducible apply State.follows.foldlFst | with_reducible apply State.follows.foldl | split | dsimp only | intro _ | decide)

theorem execHldCancel_follows {orig : State} (s : State) (hF : orig.follows s) : Out.follows orig (execHldCancel s) := by
  unfold execHldCancel
  repeat' (first | with_reducible assumption | with_reducible apply Out.follows.next | with_reducible apply unlessHalted_follows | with_reducible apply hldCancel_follows | (dsimp only [State.follows_mk]; change State.follows _ _) | with_reducible apply State.follows.forEach | with_reducible apply State.follows.foldlFst | with_reducible apply State.follows.foldl | split | dsimp only | intro _ | decide)

theorem hldDiscard_follows {orig : State} (s : State) (hF : orig.follows s) :
    orig.follows (hldDiscard s) := by
  unfold hldDiscard
  repeat' (first | with_reducible assumption | with_reducible apply hldResult_follows | with_reducible apply modHld_follows | (dsimp only [State.follows_mk]; change State.follows _ _) | with_reducible apply State.follows.forEach | with_reducible apply State.follows.foldlFst | with_reducible apply State.follows.foldl | split | dsimp only | intro _ | decide)

theorem execHldDiscard_follows {orig : State} (s : State) (hF : orig.follows s) : Out.follows orig (execHldDiscard s) := by
  unfold execHldDiscard
  repeat' (first | with_reducible assumption | with_reducible apply Out.follows.next | with_reducible apply unlessHalted_follows | with_reducible apply hldDiscard_follows | (dsimp only [State.follows_mk]; change State.follows _ _) | with_reducible apply State.follows.forEach | with_reducible apply State.follows.foldlFst | with_reducible apply State.follows.foldl | split | dsimp only | intro _ | decide)

theorem execPatchRevalidate_follows {orig : State} (t : Ns) (s : State) (hF : orig.follows s) : Out.follows orig (execPatchRevalidate t s) := by
  unfold execPatchRevalidate
  repeat' (first | with_reducible assumption | with_reducible apply Out.follows.next | with_reducible apply setNow_follows | with_reducible apply unlessHalted_follows | with_reducible apply hldResult_follows | with_reducible apply modHld_follows | with_reducible apply hldReject_follows | (dsimp only [State.follows_mk]; change State.follows _ _) | with_reducible apply State.follows.forEach | with_reducible apply State.follows.foldlFst | with_reducible apply State.follows.foldl | split | dsimp only | intro _ | decide)

theorem applyPatch_follows {orig : State} (s : State) (img : StreamImg) (hF : orig.follows s) :
    orig.follows (applyPatch s img) := by
  unfold applyPatch
  repeat' (first | with_reducible assumption | with_reducible apply install_follows | with_reducible apply patchWick_follows | with_reducible apply patchChan_follows | with_reducible apply touchCols_follows | with_reducible apply patchCol_follows | with_reducible apply modHld_follows | with_reducible apply stick_follows | with_reducible apply setRowClocks_follows | with_reducible apply addItem_follows | with_reducible apply logEv_follows | (dsimp only [State.follows_mk]; change State.follows _ _) | with_reducible apply State.follows.forEach | with_reducible apply State.follows.foldlFst | with_reducible apply State.follows.foldl | split | dsimp only | intro _ | decide)

theorem setBank_follows {orig : State} (s : State) (b : Bool) (l : List StreamImg) (valid : Bool) (hF : orig.follows s) :
    orig.follows (setBank s b l valid) := by
  unfold setBank
  repeat' (first | with_reducible assumption | (dsimp only [State.follows_mk]; change State.follows _ _) | with_reducible apply State.follows.forEach | with_reducible apply State.follows.foldlFst | with_reducible apply State.follows.foldl | split | dsimp only | intro _ | decide)

theorem hldPersist_follows {orig : State} (s : State) (hF : orig.follows s) :
    orig.follows (hldPersist s) := by
  unfold hldPersist
  repeat' (first | with_reducible assumption | with_reducible apply hldResult_follows | (dsimp only [State.follows_mk]; change State.follows _ _) | with_reducible apply State.follows.forEach | with_reducible apply State.follows.foldlFst | with_reducible apply State.follows.foldl | split | dsimp only | intro _ | decide)

theorem execHldPersist_follows {orig : State} (s : State) (hF : orig.follows s) : Out.follows orig (execHldPersist s) := by
  unfold execHldPersist
  repeat' (first | with_reducible assumption | with_reducible apply Out.follows.next | with_reducible apply unlessHalted_follows | with_reducible apply hldPersist_follows | (dsimp only [State.follows_mk]; change State.follows _ _) | with_reducible apply State.follows.forEach | with_reducible apply State.follows.foldlFst | with_reducible apply State.follows.foldl | split | dsimp only | intro _ | decide)

theorem execPersistComplete_follows {orig : State} (t : Ns) (ok : Bool) (s : State) (hF : orig.follows s) : Out.follows orig (execPersistComplete t ok s) := by
  unfold execPersistComplete
  repeat' (first | with_reducible assumption | with_reducible apply Out.follows.next | with_reducible apply setNow_follows | with_reducible apply unlessHalted_follows | with_reducible apply setBank_follows | with_reducible apply hldResult_follows | with_reducible apply modHld_follows | with_reducible apply useFree_follows | (dsimp only [State.follows_mk]; change State.follows _ _) | with_reducible apply State.follows.forEach | with_reducible apply State.follows.foldlFst | with_reducible apply State.follows.foldl | split | dsimp only | intro _ | decide)

theorem loadReject_follows {orig : State} (s : State) (c : HldCode) (hF : orig.follows s) :
    orig.follows (loadReject s c) := by
  unfold loadReject
  repeat' (first | with_reducible assumption | with_reducible apply hldReject_follows | (dsimp only [State.follows_mk]; change State.follows _ _) | with_reducible apply State.follows.forEach | with_reducible apply State.follows.foldlFst | with_reducible apply State.follows.foldl | split | dsimp only | intro _ | decide)

theorem tryBank_follows {orig : State} (s : State) (b : Bool) (hF : orig.follows s) :
    orig.follows (tryBank s b).1 := by
  unfold tryBank
  repeat' (first | with_reducible assumption | with_reducible apply hldResult_follows | with_reducible apply modHld_follows | with_reducible apply loadReject_follows | (dsimp only [State.follows_mk]; change State.follows _ _) | with_reducible apply State.follows.forEach | with_reducible apply State.follows.foldlFst | with_reducible apply State.follows.foldl | split | dsimp only | intro _ | decide)

theorem loadStream_follows {orig : State} (s : State) (hF : orig.follows s) :
    orig.follows (loadStream s) := by
  unfold loadStream
  repeat' (first | with_reducible assumption | with_reducible apply tryBank_follows | with_reducible apply logEv_follows | with_reducible apply modHld_follows | (dsimp only [State.follows_mk]; change State.follows _ _) | with_reducible apply State.follows.forEach | with_reducible apply State.follows.foldlFst | with_reducible apply State.follows.foldl | split | dsimp only | intro _ | decide)

theorem applyChain_follows {orig : State} (s : State) (l : List StreamImg) (hF : orig.follows s) :
    orig.follows (applyChain s l) := by
  induction l generalizing s with
  | nil => exact hF
  | cons img l ih =>
    unfold applyChain
    repeat' (first | with_reducible assumption | with_reducible apply ih | with_reducible apply modHld_follows | with_reducible apply logEv_follows | with_reducible apply loadReject_follows | (dsimp only [State.follows_mk]; change State.follows _ _) | with_reducible apply State.follows.forEach | with_reducible apply State.follows.foldlFst | with_reducible apply State.follows.foldl | split | dsimp only | intro _ | decide)

end Sys2Proof.Machine
end

