-- ==== Sys2Proof/Laws/FollowsMgt.lean ====
section
/-!
SUPPORT. Every operation of Machine/Mgt.lean keeps `State.follows`: it leaves the queue alone, the recorder follows, no floor and
no epoch falls, and SAFE_OUT_N stays as R403 has it.
-/
namespace Sys2Proof.Machine

open Sys2Proof

theorem modMgt_follows {orig : State} (s : State) (f : MgtState → MgtState)
    (hf : ∀ m, m.floorFw ≤ (f m).floorFw ∧ m.floorStr ≤ (f m).floorStr)
    (hF : orig.follows s) : orig.follows (modMgt s f) := by
  exact ⟨hF.1, hF.2.1, Nat.le_trans hF.2.2.1 (hf _).1, Nat.le_trans hF.2.2.2.1 (hf _).2, hF.2.2.2.2⟩

theorem mgtResult_follows {orig : State} (s : State) (op : Nat) (c : MgtCode) (hF : orig.follows s) :
    orig.follows (mgtResult s op c) := by
  unfold mgtResult
  repeat' (first | with_reducible assumption | with_reducible apply modMgt_follows | (dsimp only [State.follows_mk]; change State.follows _ _) | with_reducible apply State.follows.forEach | with_reducible apply State.follows.foldlFst | with_reducible apply State.follows.foldl | split | dsimp only | exact fun _ => ⟨Nat.le_refl _, Nat.le_refl _⟩ | exact fun _ => ⟨Nat.le_max_left _ _, Nat.le_refl _⟩ | exact fun _ => ⟨Nat.le_refl _, Nat.le_max_left _ _⟩ | (intro m; dsimp only; split <;> exact ⟨Nat.le_refl _, Nat.le_refl _⟩) | exact ⟨Nat.le_refl _, Nat.le_refl _⟩ | intro _ | decide)

theorem imageChunk_follows {orig : State} (s : State) (offset : Nat) (first : Bool) (data : List Byte) (hF : orig.follows s) :
    orig.follows (imageChunk s offset first data).1 := by
  unfold imageChunk
  repeat' (first | with_reducible assumption | with_reducible apply mgtResult_follows | with_reducible apply modMgt_follows | (dsimp only [State.follows_mk]; change State.follows _ _) | with_reducible apply State.follows.forEach | with_reducible apply State.follows.foldlFst | with_reducible apply State.follows.foldl | split | dsimp only | exact fun _ => ⟨Nat.le_refl _, Nat.le_refl _⟩ | exact fun _ => ⟨Nat.le_max_left _ _, Nat.le_refl _⟩ | exact fun _ => ⟨Nat.le_refl _, Nat.le_max_left _ _⟩ | (intro m; dsimp only; split <;> exact ⟨Nat.le_refl _, Nat.le_refl _⟩) | exact ⟨Nat.le_refl _, Nat.le_refl _⟩ | intro _ | decide)

theorem execImageChunk_follows {orig : State} (t : Ns) (d : Dgram) (offset : Nat) (first : Bool) (data : List Byte) (s : State) (hF : orig.follows s) : Out.follows orig (execImageChunk t d offset first data s) := by
  unfold execImageChunk
  repeat' (first | with_reducible assumption | with_reducible apply Out.follows.next | with_reducible apply setNow_follows | with_reducible apply withDgram_follows | with_reducible apply imageChunk_follows | with_reducible apply noteChange_follows | (dsimp only [State.follows_mk]; change State.follows _ _) | with_reducible apply State.follows.forEach | with_reducible apply State.follows.foldlFst | with_reducible apply State.follows.foldl | split | dsimp only | intro _ | decide)

theorem imgValidate_follows {orig : State} (s : State) (hF : orig.follows s) :
    orig.follows (imgValidate s) := by
  unfold imgValidate
  repeat' (first | with_reducible assumption | with_reducible apply mgtResult_follows | with_reducible apply modMgt_follows | (dsimp only [State.follows_mk]; change State.follows _ _) | with_reducible apply State.follows.forEach | with_reducible apply State.follows.foldlFst | with_reducible apply State.follows.foldl | split | dsimp only | exact fun _ => ⟨Nat.le_refl _, Nat.le_refl _⟩ | exact fun _ => ⟨Nat.le_max_left _ _, Nat.le_refl _⟩ | exact fun _ => ⟨Nat.le_refl _, Nat.le_max_left _ _⟩ | (intro m; dsimp only; split <;> exact ⟨Nat.le_refl _, Nat.le_refl _⟩) | exact ⟨Nat.le_refl _, Nat.le_refl _⟩ | intro _ | decide)

theorem execImgValidate_follows {orig : State} (s : State) (hF : orig.follows s) : Out.follows orig (execImgValidate s) := by
  unfold execImgValidate
  repeat' (first | with_reducible assumption | with_reducible apply Out.follows.next | with_reducible apply unlessHalted_follows | with_reducible apply imgValidate_follows | (dsimp only [State.follows_mk]; change State.follows _ _) | with_reducible apply State.follows.forEach | with_reducible apply State.follows.foldlFst | with_reducible apply State.follows.foldl | split | dsimp only | intro _ | decide)

theorem execImgValidateComplete_follows {orig : State} (t : Ns) (fw : Option FwImage) (str : Option StreamImg) (s : State) (hF : orig.follows s) : Out.follows orig (execImgValidateComplete t fw str s) := by
  unfold execImgValidateComplete
  repeat' (first | with_reducible assumption | with_reducible apply Out.follows.next | with_reducible apply setNow_follows | with_reducible apply mgtResult_follows | with_reducible apply modMgt_follows | with_reducible apply hldResult_follows | with_reducible apply hldReject_follows | (dsimp only [State.follows_mk]; change State.follows _ _) | with_reducible apply State.follows.forEach | with_reducible apply State.follows.foldlFst | with_reducible apply State.follows.foldl | split | dsimp only | exact fun _ => ⟨Nat.le_refl _, Nat.le_refl _⟩ | exact fun _ => ⟨Nat.le_max_left _ _, Nat.le_refl _⟩ | exact fun _ => ⟨Nat.le_refl _, Nat.le_max_left _ _⟩ | (intro m; dsimp only; split <;> exact ⟨Nat.le_refl _, Nat.le_refl _⟩) | exact ⟨Nat.le_refl _, Nat.le_refl _⟩ | intro _ | decide)

theorem imgLoad_follows {orig : State} (s : State) (hF : orig.follows s) :
    orig.follows (imgLoad s) := by
  unfold imgLoad
  repeat' (first | with_reducible assumption | with_reducible apply mgtResult_follows | with_reducible apply modMgt_follows | with_reducible apply setBank_follows | (dsimp only [State.follows_mk]; change State.follows _ _) | with_reducible apply State.follows.forEach | with_reducible apply State.follows.foldlFst | with_reducible apply State.follows.foldl | split | dsimp only | exact fun _ => ⟨Nat.le_refl _, Nat.le_refl _⟩ | exact fun _ => ⟨Nat.le_max_left _ _, Nat.le_refl _⟩ | exact fun _ => ⟨Nat.le_refl _, Nat.le_max_left _ _⟩ | (intro m; dsimp only; split <;> exact ⟨Nat.le_refl _, Nat.le_refl _⟩) | exact ⟨Nat.le_refl _, Nat.le_refl _⟩ | intro _ | decide)

theorem execImgLoad_follows {orig : State} (s : State) (hF : orig.follows s) : Out.follows orig (execImgLoad s) := by
  unfold execImgLoad
  repeat' (first | with_reducible assumption | with_reducible apply Out.follows.next | with_reducible apply unlessHalted_follows | with_reducible apply imgLoad_follows | (dsimp only [State.follows_mk]; change State.follows _ _) | with_reducible apply State.follows.forEach | with_reducible apply State.follows.foldlFst | with_reducible apply State.follows.foldl | split | dsimp only | intro _ | decide)

theorem execImgLoadComplete_follows {orig : State} (t : Ns) (ok : Bool) (s : State) (hF : orig.follows s) : Out.follows orig (execImgLoadComplete t ok s) := by
  unfold execImgLoadComplete
  repeat' (first | with_reducible assumption | with_reducible apply Out.follows.next | with_reducible apply setNow_follows | with_reducible apply unlessHalted_follows | with_reducible apply modMgt_follows | with_reducible apply mgtResult_follows | with_reducible apply setBank_follows | (dsimp only [State.follows_mk]; change State.follows _ _) | with_reducible apply State.follows.forEach | with_reducible apply State.follows.foldlFst | with_reducible apply State.follows.foldl | split | dsimp only | exact fun _ => ⟨Nat.le_refl _, Nat.le_refl _⟩ | exact fun _ => ⟨Nat.le_max_left _ _, Nat.le_refl _⟩ | exact fun _ => ⟨Nat.le_refl _, Nat.le_max_left _ _⟩ | (intro m; dsimp only; split <;> exact ⟨Nat.le_refl _, Nat.le_refl _⟩) | exact ⟨Nat.le_refl _, Nat.le_refl _⟩ | intro _ | decide)

theorem imgActivate_follows {orig : State} (s : State) (hF : orig.follows s) :
    orig.follows (imgActivate s) := by
  unfold imgActivate
  repeat' (first | with_reducible assumption | with_reducible apply mgtResult_follows | with_reducible apply modMgt_follows | with_reducible apply coreReset_follows | (dsimp only [State.follows_mk]; change State.follows _ _) | with_reducible apply State.follows.forEach | with_reducible apply State.follows.foldlFst | with_reducible apply State.follows.foldl | split | dsimp only | exact fun _ => ⟨Nat.le_refl _, Nat.le_refl _⟩ | exact fun _ => ⟨Nat.le_max_left _ _, Nat.le_refl _⟩ | exact fun _ => ⟨Nat.le_refl _, Nat.le_max_left _ _⟩ | (intro m; dsimp only; split <;> exact ⟨Nat.le_refl _, Nat.le_refl _⟩) | exact ⟨Nat.le_refl _, Nat.le_refl _⟩ | intro _ | decide)

theorem execImgActivate_follows {orig : State} (s : State) (hF : orig.follows s) : Out.follows orig (execImgActivate s) := by
  unfold execImgActivate
  repeat' (first | with_reducible assumption | with_reducible apply Out.follows.next | with_reducible apply unlessHalted_follows | with_reducible apply imgActivate_follows | (dsimp only [State.follows_mk]; change State.follows _ _) | with_reducible apply State.follows.forEach | with_reducible apply State.follows.foldlFst | with_reducible apply State.follows.foldl | split | dsimp only | intro _ | decide)

theorem imgDiscard_follows {orig : State} (s : State) (hF : orig.follows s) :
    orig.follows (imgDiscard s) := by
  unfold imgDiscard
  repeat' (first | with_reducible assumption | with_reducible apply mgtResult_follows | with_reducible apply modMgt_follows | (dsimp only [State.follows_mk]; change State.follows _ _) | with_reducible apply State.follows.forEach | with_reducible apply State.follows.foldlFst | with_reducible apply State.follows.foldl | split | dsimp only | exact fun _ => ⟨Nat.le_refl _, Nat.le_refl _⟩ | exact fun _ => ⟨Nat.le_max_left _ _, Nat.le_refl _⟩ | exact fun _ => ⟨Nat.le_refl _, Nat.le_max_left _ _⟩ | (intro m; dsimp only; split <;> exact ⟨Nat.le_refl _, Nat.le_refl _⟩) | exact ⟨Nat.le_refl _, Nat.le_refl _⟩ | intro _ | decide)

theorem execImgDiscard_follows {orig : State} (s : State) (hF : orig.follows s) : Out.follows orig (execImgDiscard s) := by
  unfold execImgDiscard
  repeat' (first | with_reducible assumption | with_reducible apply Out.follows.next | with_reducible apply unlessHalted_follows | with_reducible apply imgDiscard_follows | (dsimp only [State.follows_mk]; change State.follows _ _) | with_reducible apply State.follows.forEach | with_reducible apply State.follows.foldlFst | with_reducible apply State.follows.foldl | split | dsimp only | intro _ | decide)

theorem setFw_follows {orig : State} (s : State) (b : Bool) (x : FwSt) (hF : orig.follows s) :
    orig.follows (setFw s b x) := by
  unfold setFw
  repeat' (first | with_reducible assumption | with_reducible apply modMgt_follows | (dsimp only [State.follows_mk]; change State.follows _ _) | with_reducible apply State.follows.forEach | with_reducible apply State.follows.foldlFst | with_reducible apply State.follows.foldl | split | dsimp only | exact fun _ => ⟨Nat.le_refl _, Nat.le_refl _⟩ | exact fun _ => ⟨Nat.le_max_left _ _, Nat.le_refl _⟩ | exact fun _ => ⟨Nat.le_refl _, Nat.le_max_left _ _⟩ | (intro m; dsimp only; split <;> exact ⟨Nat.le_refl _, Nat.le_refl _⟩) | exact ⟨Nat.le_refl _, Nat.le_refl _⟩ | intro _ | decide)

theorem execTrialConfirm_follows {orig : State} (t : Ns) (s : State) (hF : orig.follows s) : Out.follows orig (execTrialConfirm t s) := by
  unfold execTrialConfirm
  repeat' (first | with_reducible assumption | with_reducible apply Out.follows.next | with_reducible apply setNow_follows | with_reducible apply modMgt_follows | with_reducible apply setFw_follows | (dsimp only [State.follows_mk]; change State.follows _ _) | with_reducible apply State.follows.forEach | with_reducible apply State.follows.foldlFst | with_reducible apply State.follows.foldl | split | dsimp only | exact fun _ => ⟨Nat.le_refl _, Nat.le_refl _⟩ | exact fun _ => ⟨Nat.le_max_left _ _, Nat.le_refl _⟩ | exact fun _ => ⟨Nat.le_refl _, Nat.le_max_left _ _⟩ | (intro m; dsimp only; split <;> exact ⟨Nat.le_refl _, Nat.le_refl _⟩) | exact ⟨Nat.le_refl _, Nat.le_refl _⟩ | intro _ | decide)

theorem raiseFloorFw_follows {orig : State} (s : State) (hF : orig.follows s) :
    orig.follows (raiseFloorFw s) := by
  unfold raiseFloorFw
  repeat' (first | with_reducible assumption | with_reducible apply mgtResult_follows | with_reducible apply modMgt_follows | (dsimp only [State.follows_mk]; change State.follows _ _) | with_reducible apply State.follows.forEach | with_reducible apply State.follows.foldlFst | with_reducible apply State.follows.foldl | split | dsimp only | exact fun _ => ⟨Nat.le_refl _, Nat.le_refl _⟩ | exact fun _ => ⟨Nat.le_max_left _ _, Nat.le_refl _⟩ | exact fun _ => ⟨Nat.le_refl _, Nat.le_max_left _ _⟩ | (intro m; dsimp only; split <;> exact ⟨Nat.le_refl _, Nat.le_refl _⟩) | exact ⟨Nat.le_refl _, Nat.le_refl _⟩ | intro _ | decide)

theorem execRaiseFloorFw_follows {orig : State} (s : State) (hF : orig.follows s) : Out.follows orig (execRaiseFloorFw s) := by
  unfold execRaiseFloorFw
  repeat' (first | with_reducible assumption | with_reducible apply Out.follows.next | with_reducible apply unlessHalted_follows | with_reducible apply raiseFloorFw_follows | (dsimp only [State.follows_mk]; change State.follows _ _) | with_reducible apply State.follows.forEach | with_reducible apply State.follows.foldlFst | with_reducible apply State.follows.foldl | split | dsimp only | intro _ | decide)

theorem raiseFloorStream_follows {orig : State} (s : State) (hF : orig.follows s) :
    orig.follows (raiseFloorStream s) := by
  unfold raiseFloorStream
  repeat' (first | with_reducible assumption | with_reducible apply mgtResult_follows | with_reducible apply modMgt_follows | (dsimp only [State.follows_mk]; change State.follows _ _) | with_reducible apply State.follows.forEach | with_reducible apply State.follows.foldlFst | with_reducible apply State.follows.foldl | split | dsimp only | exact fun _ => ⟨Nat.le_refl _, Nat.le_refl _⟩ | exact fun _ => ⟨Nat.le_max_left _ _, Nat.le_refl _⟩ | exact fun _ => ⟨Nat.le_refl _, Nat.le_max_left _ _⟩ | (intro m; dsimp only; split <;> exact ⟨Nat.le_refl _, Nat.le_refl _⟩) | exact ⟨Nat.le_refl _, Nat.le_refl _⟩ | intro _ | decide)

theorem execRaiseFloorStream_follows {orig : State} (s : State) (hF : orig.follows s) : Out.follows orig (execRaiseFloorStream s) := by
  unfold execRaiseFloorStream
  repeat' (first | with_reducible assumption | with_reducible apply Out.follows.next | with_reducible apply unlessHalted_follows | with_reducible apply raiseFloorStream_follows | (dsimp only [State.follows_mk]; change State.follows _ _) | with_reducible apply State.follows.forEach | with_reducible apply State.follows.foldlFst | with_reducible apply State.follows.foldl | split | dsimp only | intro _ | decide)

theorem clearWrap_follows {orig : State} (s : State) (hF : orig.follows s) :
    orig.follows (clearWrap s) := by
  unfold clearWrap
  repeat' (first | with_reducible assumption | with_reducible apply modMgt_follows | (dsimp only [State.follows_mk]; change State.follows _ _) | with_reducible apply State.follows.forEach | with_reducible apply State.follows.foldlFst | with_reducible apply State.follows.foldl | split | dsimp only | exact fun _ => ⟨Nat.le_refl _, Nat.le_refl _⟩ | exact fun _ => ⟨Nat.le_max_left _ _, Nat.le_refl _⟩ | exact fun _ => ⟨Nat.le_refl _, Nat.le_max_left _ _⟩ | (intro m; dsimp only; split <;> exact ⟨Nat.le_refl _, Nat.le_refl _⟩) | exact ⟨Nat.le_refl _, Nat.le_refl _⟩ | intro _ | decide)

theorem clearSeqs_follows {orig : State} (s : State) (slot : Nat) (hF : orig.follows s) :
    orig.follows (clearSeqs s slot) := by
  unfold clearSeqs
  repeat' (first | with_reducible assumption | (dsimp only [State.follows_mk]; change State.follows _ _) | with_reducible apply State.follows.forEach | with_reducible apply State.follows.foldlFst | with_reducible apply State.follows.foldl | split | dsimp only | intro _ | decide)

theorem putKey_follows {orig : State} (s : State) (slot : Nat) (k : MktKey) (hF : orig.follows s) :
    orig.follows (putKey s slot k) := by
  unfold putKey
  repeat' (first | with_reducible assumption | with_reducible apply clearSeqs_follows | with_reducible apply modMgt_follows | (dsimp only [State.follows_mk]; change State.follows _ _) | with_reducible apply State.follows.forEach | with_reducible apply State.follows.foldlFst | with_reducible apply State.follows.foldl | split | dsimp only | exact fun _ => ⟨Nat.le_refl _, Nat.le_refl _⟩ | exact fun _ => ⟨Nat.le_max_left _ _, Nat.le_refl _⟩ | exact fun _ => ⟨Nat.le_refl _, Nat.le_max_left _ _⟩ | (intro m; dsimp only; split <;> exact ⟨Nat.le_refl _, Nat.le_refl _⟩) | exact ⟨Nat.le_refl _, Nat.le_refl _⟩ | intro _ | decide)

theorem keyInstall_follows {orig : State} (s : State) (slot keyId level auth : Nat) (hF : orig.follows s) :
    orig.follows (keyInstall s slot keyId level auth) := by
  unfold keyInstall
  repeat' (first | with_reducible assumption | with_reducible apply clearWrap_follows | with_reducible apply mgtResult_follows | with_reducible apply putKey_follows | (dsimp only [State.follows_mk]; change State.follows _ _) | with_reducible apply State.follows.forEach | with_reducible apply State.follows.foldlFst | with_reducible apply State.follows.foldl | split | dsimp only | intro _ | decide)

theorem execKeyInstall_follows {orig : State} (slot : Fin 4) (keyId : Fin 256) (level auth : Fin 4) (s : State) (hF : orig.follows s) : Out.follows orig (execKeyInstall slot keyId level auth s) := by
  unfold execKeyInstall
  repeat' (first | with_reducible assumption | with_reducible apply Out.follows.next | with_reducible apply unlessHalted_follows | with_reducible apply report_follows | with_reducible apply keyInstall_follows | (dsimp only [State.follows_mk]; change State.follows _ _) | with_reducible apply State.follows.forEach | with_reducible apply State.follows.foldlFst | with_reducible apply State.follows.foldl | split | dsimp only | intro _ | decide)

theorem keyRemove_follows {orig : State} (s : State) (slot : Nat) (hF : orig.follows s) :
    orig.follows (keyRemove s slot) := by
  unfold keyRemove
  repeat' (first | with_reducible assumption | with_reducible apply mgtResult_follows | with_reducible apply clearSeqs_follows | with_reducible apply modMgt_follows | (dsimp only [State.follows_mk]; change State.follows _ _) | with_reducible apply State.follows.forEach | with_reducible apply State.follows.foldlFst | with_reducible apply State.follows.foldl | split | dsimp only | exact fun _ => ⟨Nat.le_refl _, Nat.le_refl _⟩ | exact fun _ => ⟨Nat.le_max_left _ _, Nat.le_refl _⟩ | exact fun _ => ⟨Nat.le_refl _, Nat.le_max_left _ _⟩ | (intro m; dsimp only; split <;> exact ⟨Nat.le_refl _, Nat.le_refl _⟩) | exact ⟨Nat.le_refl _, Nat.le_refl _⟩ | intro _ | decide)

theorem execKeyRemove_follows {orig : State} (slot : Fin 4) (s : State) (hF : orig.follows s) : Out.follows orig (execKeyRemove slot s) := by
  unfold execKeyRemove
  repeat' (first | with_reducible assumption | with_reducible apply Out.follows.next | with_reducible apply unlessHalted_follows | with_reducible apply keyRemove_follows | (dsimp only [State.follows_mk]; change State.follows _ _) | with_reducible apply State.follows.forEach | with_reducible apply State.follows.foldlFst | with_reducible apply State.follows.foldl | split | dsimp only | intro _ | decide)

theorem enrol_follows {orig : State} (s : State) (q : Requester) (slot : Nat) (hF : orig.follows s) :
    orig.follows (enrol s q slot) := by
  unfold enrol
  repeat' (first | with_reducible assumption | with_reducible apply clearWrap_follows | with_reducible apply mgtResult_follows | with_reducible apply modMgt_follows | with_reducible apply logEv_follows | (dsimp only [State.follows_mk]; change State.follows _ _) | with_reducible apply State.follows.forEach | with_reducible apply State.follows.foldlFst | with_reducible apply State.follows.foldl | split | dsimp only | exact fun _ => ⟨Nat.le_refl _, Nat.le_refl _⟩ | exact fun _ => ⟨Nat.le_max_left _ _, Nat.le_refl _⟩ | exact fun _ => ⟨Nat.le_refl _, Nat.le_max_left _ _⟩ | (intro m; dsimp only; split <;> exact ⟨Nat.le_refl _, Nat.le_refl _⟩) | exact ⟨Nat.le_refl _, Nat.le_refl _⟩ | intro _ | decide)

theorem execEnrol_follows {orig : State} (slot : Fin 8) (s : State) (hF : orig.follows s) : Out.follows orig (execEnrol slot s) := by
  unfold execEnrol
  repeat' (first | with_reducible assumption | with_reducible apply Out.follows.next | with_reducible apply unlessHalted_follows | with_reducible apply enrol_follows | (dsimp only [State.follows_mk]; change State.follows _ _) | with_reducible apply State.follows.forEach | with_reducible apply State.follows.foldlFst | with_reducible apply State.follows.foldl | split | dsimp only | intro _ | decide)

theorem unstage_follows {orig : State} (s : State) (slot : Nat) (hF : orig.follows s) :
    orig.follows (unstage s slot) := by
  unfold unstage
  repeat' (first | with_reducible assumption | with_reducible apply modMgt_follows | (dsimp only [State.follows_mk]; change State.follows _ _) | with_reducible apply State.follows.forEach | with_reducible apply State.follows.foldlFst | with_reducible apply State.follows.foldl | split | dsimp only | exact fun _ => ⟨Nat.le_refl _, Nat.le_refl _⟩ | exact fun _ => ⟨Nat.le_max_left _ _, Nat.le_refl _⟩ | exact fun _ => ⟨Nat.le_refl _, Nat.le_max_left _ _⟩ | (intro m; dsimp only; split <;> exact ⟨Nat.le_refl _, Nat.le_refl _⟩) | exact ⟨Nat.le_refl _, Nat.le_refl _⟩ | intro _ | decide)

theorem revoke_follows {orig : State} (s : State) (q : Requester) (slot : Nat) (hF : orig.follows s) :
    orig.follows (revoke s q slot) := by
  unfold revoke
  repeat' (first | with_reducible assumption | with_reducible apply mgtResult_follows | with_reducible apply modMgt_follows | with_reducible apply logEv_follows | with_reducible apply unstage_follows | (dsimp only [State.follows_mk]; change State.follows _ _) | with_reducible apply State.follows.forEach | with_reducible apply State.follows.foldlFst | with_reducible apply State.follows.foldl | split | dsimp only | exact fun _ => ⟨Nat.le_refl _, Nat.le_refl _⟩ | exact fun _ => ⟨Nat.le_max_left _ _, Nat.le_refl _⟩ | exact fun _ => ⟨Nat.le_refl _, Nat.le_max_left _ _⟩ | (intro m; dsimp only; split <;> exact ⟨Nat.le_refl _, Nat.le_refl _⟩) | exact ⟨Nat.le_refl _, Nat.le_refl _⟩ | intro _ | decide)

theorem execRevoke_follows {orig : State} (slot : Fin 8) (s : State) (hF : orig.follows s) : Out.follows orig (execRevoke slot s) := by
  unfold execRevoke
  repeat' (first | with_reducible assumption | with_reducible apply Out.follows.next | with_reducible apply unlessHalted_follows | with_reducible apply revoke_follows | (dsimp only [State.follows_mk]; change State.follows _ _) | with_reducible apply State.follows.forEach | with_reducible apply State.follows.foldlFst | with_reducible apply State.follows.foldl | split | dsimp only | intro _ | decide)

theorem attest_follows {orig : State} (s : State) (hF : orig.follows s) :
    orig.follows (attest s) := by
  unfold attest
  repeat' (first | with_reducible assumption | with_reducible apply mgtResult_follows | with_reducible apply modMgt_follows | (dsimp only [State.follows_mk]; change State.follows _ _) | with_reducible apply State.follows.forEach | with_reducible apply State.follows.foldlFst | with_reducible apply State.follows.foldl | split | dsimp only | exact fun _ => ⟨Nat.le_refl _, Nat.le_refl _⟩ | exact fun _ => ⟨Nat.le_max_left _ _, Nat.le_refl _⟩ | exact fun _ => ⟨Nat.le_refl _, Nat.le_max_left _ _⟩ | (intro m; dsimp only; split <;> exact ⟨Nat.le_refl _, Nat.le_refl _⟩) | exact ⟨Nat.le_refl _, Nat.le_refl _⟩ | intro _ | decide)

theorem execAttest_follows {orig : State} (s : State) (hF : orig.follows s) : Out.follows orig (execAttest s) := by
  unfold execAttest
  repeat' (first | with_reducible assumption | with_reducible apply Out.follows.next | with_reducible apply unlessHalted_follows | with_reducible apply attest_follows | (dsimp only [State.follows_mk]; change State.follows _ _) | with_reducible apply State.follows.forEach | with_reducible apply State.follows.foldlFst | with_reducible apply State.follows.foldl | split | dsimp only | intro _ | decide)

end Sys2Proof.Machine
end

