-- ==== Sys2Proof/Laws/FollowsTally.lean ====
section
/-!
SUPPORT. Every operation of Machine/Tally.lean keeps `State.follows`: it leaves the queue alone, the recorder follows, no floor and
no epoch falls, and SAFE_OUT_N stays as R403 has it.
-/
namespace Sys2Proof.Machine

open Sys2Proof

theorem modTal_follows {orig : State} (s : State) (f : TallyState → TallyState) (hF : orig.follows s) :
    orig.follows (modTal s f) := by
  unfold modTal
  repeat' (first | with_reducible assumption | (dsimp only [State.follows_mk]; change State.follows _ _) | with_reducible apply State.follows.forEach | with_reducible apply State.follows.foldlFst | with_reducible apply State.follows.foldl | split | dsimp only | intro _ | decide)

theorem setTalBank_follows {orig : State} (s : State) (b : Bool) (x : TallyBank) (hF : orig.follows s) :
    orig.follows (setTalBank s b x) := by
  unfold setTalBank
  repeat' (first | with_reducible assumption | with_reducible apply modTal_follows | (dsimp only [State.follows_mk]; change State.follows _ _) | with_reducible apply State.follows.forEach | with_reducible apply State.follows.foldlFst | with_reducible apply State.follows.foldl | split | dsimp only | intro _ | decide)

theorem tallyPost_follows {orig : State} (s : State) (inst num : Nat) (hF : orig.follows s) :
    orig.follows (tallyPost s inst num) := by
  unfold tallyPost
  repeat' (first | with_reducible assumption | with_reducible apply modTal_follows | with_reducible apply setTalBank_follows | with_reducible apply stick_follows | (dsimp only [State.follows_mk]; change State.follows _ _) | with_reducible apply State.follows.forEach | with_reducible apply State.follows.foldlFst | with_reducible apply State.follows.foldl | split | dsimp only | intro _ | decide)

theorem freeTalBank_follows {orig : State} (s : State) (b : Bool) (hF : orig.follows s) :
    orig.follows (freeTalBank s b) := by
  unfold freeTalBank
  repeat' (first | with_reducible assumption | with_reducible apply setTalBank_follows | with_reducible apply logRaw_follows | (dsimp only [State.follows_mk]; change State.follows _ _) | with_reducible apply State.follows.forEach | with_reducible apply State.follows.foldlFst | with_reducible apply State.follows.foldl | split | dsimp only | intro _ | decide)

theorem tallyAck_follows {orig : State} (s : State) (num : Nat) (hF : orig.follows s) :
    orig.follows (tallyAck s num) := by
  unfold tallyAck
  repeat' (first | with_reducible assumption | with_reducible apply modTal_follows | with_reducible apply freeTalBank_follows | with_reducible apply tallyPost_follows | with_reducible apply setRegF_follows | (dsimp only [State.follows_mk]; change State.follows _ _) | with_reducible apply State.follows.forEach | with_reducible apply State.follows.foldlFst | with_reducible apply State.follows.foldl | split | dsimp only | intro _ | decide)

theorem execTallyPost_follows {orig : State} (t : Ns) (d : Dgram) (num : W32) (inst : Nat) (s : State) (hF : orig.follows s) : Out.follows orig (execTallyPost t d num inst s) := by
  unfold execTallyPost
  repeat' (first | with_reducible assumption | with_reducible apply Out.follows.next | with_reducible apply withDgram_follows | with_reducible apply setNow_follows | with_reducible apply noteChange_follows | with_reducible apply tallyPost_follows | (dsimp only [State.follows_mk]; change State.follows _ _) | with_reducible apply State.follows.forEach | with_reducible apply State.follows.foldlFst | with_reducible apply State.follows.foldl | split | dsimp only | intro _ | decide)

theorem talPostRegs_follows {orig : State} (s : State) (hF : orig.follows s) :
    orig.follows (talPostRegs s) := by
  unfold talPostRegs
  repeat' (first | with_reducible assumption | with_reducible apply tallyPost_follows | (dsimp only [State.follows_mk]; change State.follows _ _) | with_reducible apply State.follows.forEach | with_reducible apply State.follows.foldlFst | with_reducible apply State.follows.foldl | split | dsimp only | intro _ | decide)

theorem execTalPost_follows {orig : State} (s : State) (hF : orig.follows s) : Out.follows orig (execTalPost s) := by
  unfold execTalPost
  repeat' (first | with_reducible assumption | with_reducible apply Out.follows.next | with_reducible apply talPostRegs_follows | (dsimp only [State.follows_mk]; change State.follows _ _) | with_reducible apply State.follows.forEach | with_reducible apply State.follows.foldlFst | with_reducible apply State.follows.foldl | split | dsimp only | intro _ | decide)

theorem execTalAck_follows {orig : State} (num : W32) (s : State) (hF : orig.follows s) : Out.follows orig (execTalAck num s) := by
  unfold execTalAck
  repeat' (first | with_reducible assumption | with_reducible apply Out.follows.next | with_reducible apply tallyAck_follows | (dsimp only [State.follows_mk]; change State.follows _ _) | with_reducible apply State.follows.forEach | with_reducible apply State.follows.foldlFst | with_reducible apply State.follows.foldl | split | dsimp only | intro _ | decide)

theorem sendTalNotice_follows {orig : State} (s : State) (b : Bool) (x : TallyBank) (hF : orig.follows s) :
    orig.follows (sendTalNotice s b x) := by
  unfold sendTalNotice
  repeat' (first | with_reducible assumption | with_reducible apply arrive_follows | with_reducible apply stick_follows | with_reducible apply modTal_follows | (dsimp only [State.follows_mk]; change State.follows _ _) | with_reducible apply State.follows.forEach | with_reducible apply State.follows.foldlFst | with_reducible apply State.follows.foldl | split | dsimp only | intro _ | decide)

theorem latchBank_follows {orig : State} (stepped : Bool) (s : State) (b : Bool) (hF : orig.follows s) :
    orig.follows (latchBank stepped s b) := by
  unfold latchBank
  repeat' (first | with_reducible assumption | with_reducible apply stick_follows | with_reducible apply useFree_follows | with_reducible apply setTalBank_follows | with_reducible apply logRaw_follows | with_reducible apply sendTalNotice_follows | (dsimp only [State.follows_mk]; change State.follows _ _) | with_reducible apply State.follows.forEach | with_reducible apply State.follows.foldlFst | with_reducible apply State.follows.foldl | split | dsimp only | intro _ | decide)

theorem latchDue_follows {orig : State} (s : State) (stepped : Bool) (hF : orig.follows s) :
    orig.follows (latchDue s stepped) := by
  unfold latchDue
  repeat' (first | with_reducible assumption | with_reducible apply latchBank_follows | (dsimp only [State.follows_mk]; change State.follows _ _) | with_reducible apply State.follows.forEach | with_reducible apply State.follows.foldlFst | with_reducible apply State.follows.foldl | split | dsimp only | intro _ | decide)

theorem execTallyLatch_follows {orig : State} (t : Ns) (s : State) (hF : orig.follows s) : Out.follows orig (execTallyLatch t s) := by
  unfold execTallyLatch
  repeat' (first | with_reducible assumption | with_reducible apply Out.follows.next | with_reducible apply latchDue_follows | with_reducible apply setNow_follows | (dsimp only [State.follows_mk]; change State.follows _ _) | with_reducible apply State.follows.forEach | with_reducible apply State.follows.foldlFst | with_reducible apply State.follows.foldl | split | dsimp only | intro _ | decide)

end Sys2Proof.Machine
end

