-- ==== Sys2Proof/Laws/FollowsCommands.lean ====
section
/-!
SUPPORT. Every operation of Machine/Commands.lean keeps `State.follows`: it leaves the queue alone, the recorder follows, no floor and
no epoch falls, and SAFE_OUT_N stays as R403 has it.
-/
namespace Sys2Proof.Machine

open Sys2Proof

theorem clearBits_follows {orig : State} (s : State) (r : RegName) (i : Nat) (v : W32) (hF : orig.follows s) :
    orig.follows (clearBits s r i v) := by
  unfold clearBits
  repeat' (first | with_reducible assumption | with_reducible apply setEng_follows | with_reducible apply setRow_follows | with_reducible apply setBsk_follows | with_reducible apply t0_follows | with_reducible apply setSlot_follows | with_reducible apply setChan_follows | (dsimp only [State.follows_mk]; change State.follows _ _) | with_reducible apply State.follows.forEach | with_reducible apply State.follows.foldlFst | with_reducible apply State.follows.foldl | split | dsimp only | intro _ | decide)

theorem silenceActs_follows {orig : State} (s : State) (hF : orig.follows s) :
    orig.follows (silenceActs s) := by
  unfold silenceActs
  repeat' (first | with_reducible assumption | with_reducible apply loopSilence_follows | with_reducible apply motNightEnter_follows | with_reducible apply nightDry_follows | (dsimp only [State.follows_mk]; change State.follows _ _) | with_reducible apply State.follows.forEach | with_reducible apply State.follows.foldlFst | with_reducible apply State.follows.foldl | split | dsimp only | intro _ | decide)

theorem loopCmdReg_follows {orig : State} (s : State) (i : Nat) (v : W32) (hF : orig.follows s) :
    orig.follows (loopCmdReg s i v) := by
  unfold loopCmdReg
  repeat' (first | with_reducible assumption | with_reducible apply loopTake_follows | with_reducible apply loopClear_follows | (dsimp only [State.follows_mk]; change State.follows _ _) | with_reducible apply State.follows.forEach | with_reducible apply State.follows.foldlFst | with_reducible apply State.follows.foldl | split | dsimp only | intro _ | decide)

theorem tprCmdReg_follows {orig : State} (s : State) (j : Nat) (v : W32) (hF : orig.follows s) :
    orig.follows (tprCmdReg s j v).1 := by
  unfold tprCmdReg
  repeat' (first | with_reducible assumption | with_reducible apply tprTake_follows | with_reducible apply stick_follows | (dsimp only [State.follows_mk]; change State.follows _ _) | with_reducible apply State.follows.forEach | with_reducible apply State.follows.foldlFst | with_reducible apply State.follows.foldl | split | dsimp only | intro _ | decide)

theorem solCmdReg_follows {orig : State} (s : State) (v : Nat) (w : W32) (hF : orig.follows s) :
    orig.follows (solCmdReg s v w) := by
  unfold solCmdReg
  repeat' (first | with_reducible assumption | with_reducible apply solOp_follows | (dsimp only [State.follows_mk]; change State.follows _ _) | with_reducible apply State.follows.forEach | with_reducible apply State.follows.foldlFst | with_reducible apply State.follows.foldl | split | dsimp only | intro _ | decide)

theorem solFollow_follows {orig : State} (s : State) (r : RegName) (v : Nat) (hF : orig.follows s) :
    orig.follows (solFollow s r v) := by
  unfold solFollow
  repeat' (first | with_reducible assumption | with_reducible apply setRegF_follows | (dsimp only [State.follows_mk]; change State.follows _ _) | with_reducible apply State.follows.forEach | with_reducible apply State.follows.foldlFst | with_reducible apply State.follows.foldl | split | dsimp only | intro _ | decide)

theorem outState_follows {orig : State} (s : State) (x : Out) (hx : Out.follows orig x)
    (hF : orig.follows s) : orig.follows (outState s x) := by
  unfold outState
  split
  · exact hx _ rfl
  · exact hF

theorem txCmdReg_follows {orig : State} (s : State) (n : Nat) (v : W32) (hF : orig.follows s) :
    orig.follows (txCmdReg s n v) := by
  unfold txCmdReg
  repeat' (first | with_reducible assumption | with_reducible apply txReset_follows | with_reducible apply txForceOp_follows | with_reducible apply txRelease_follows | with_reducible apply txLock_follows | (dsimp only [State.follows_mk]; change State.follows _ _) | with_reducible apply State.follows.forEach | with_reducible apply State.follows.foldlFst | with_reducible apply State.follows.foldl | split | dsimp only | intro _ | decide)

theorem aisCmdReg_follows {orig : State} (s : State) (n : Nat) (v : W32) (hF : orig.follows s) :
    orig.follows (aisCmdReg s n v) := by
  unfold aisCmdReg
  repeat' (first | with_reducible assumption | with_reducible apply aisResume_follows | with_reducible apply sweepAbort_follows | with_reducible apply sweepBegin_follows | with_reducible apply aisClear_follows | (dsimp only [State.follows_mk]; change State.follows _ _) | with_reducible apply State.follows.forEach | with_reducible apply State.follows.foldlFst | with_reducible apply State.follows.foldl | split | dsimp only | intro _ | decide)

theorem wckCmdReg_follows {orig : State} (s : State) (w : Nat) (v : W32) (hF : orig.follows s) :
    orig.follows (wckCmdReg s w v) := by
  unfold wckCmdReg
  repeat' (first | with_reducible assumption | with_reducible apply setWick_follows | (dsimp only [State.follows_mk]; change State.follows _ _) | with_reducible apply State.follows.forEach | with_reducible apply State.follows.foldlFst | with_reducible apply State.follows.foldl | split | dsimp only | intro _ | decide)

theorem blockCmd_follows {orig : State} (s : State) (r : RegName) (i : Nat) (v : W32) (hF : orig.follows s) :
    orig.follows (blockCmd s r i v).1 := by
  unfold blockCmd
  repeat' (first | with_reducible assumption | with_reducible apply wckCmdReg_follows | with_reducible apply mstCmd_follows | with_reducible apply pclCmd_follows | with_reducible apply dryCmd_follows | with_reducible apply dryCmdReg_follows | with_reducible apply engClearPeak_follows | with_reducible apply engClearCounts_follows | with_reducible apply bskClear_follows | with_reducible apply loopCmd_follows | with_reducible apply loopCmdReg_follows | with_reducible apply tprCmd_follows | with_reducible apply tprCmdReg_follows | with_reducible apply motOp_follows | with_reducible apply gateOp_follows | with_reducible apply routeOp_follows | with_reducible apply aisCmdReg_follows | with_reducible apply txCmdReg_follows | with_reducible apply solCmdReg_follows | (dsimp only [State.follows_mk]; change State.follows _ _) | with_reducible apply State.follows.forEach | with_reducible apply State.follows.foldlFst | with_reducible apply State.follows.foldl | split | dsimp only | intro _ | decide)

theorem noteWord_follows {orig : State} (s : State) (r : RegName) (i : Nat) (hF : orig.follows s) :
    orig.follows (noteWord s r i) := by
  unfold noteWord
  repeat' (first | with_reducible assumption | (dsimp only [State.follows_mk]; change State.follows _ _) | with_reducible apply State.follows.forEach | with_reducible apply State.follows.foldlFst | with_reducible apply State.follows.foldl | split | dsimp only | intro _ | decide)

theorem noteTrim_follows {orig : State} (s : State) (r : RegName) (n : Nat) (v : W32) (hF : orig.follows s) :
    orig.follows (noteTrim s r n v) := by
  unfold noteTrim
  repeat' (first | with_reducible assumption | with_reducible apply setTx_follows | with_reducible apply logEv_follows | (dsimp only [State.follows_mk]; change State.follows _ _) | with_reducible apply State.follows.forEach | with_reducible apply State.follows.foldlFst | with_reducible apply State.follows.foldl | split | dsimp only | intro _ | decide)

theorem storeWord_follows {orig : State} (s : State) (r : RegName) (i : Nat) (v : W32) (hF : orig.follows s) :
    orig.follows (storeWord s r i v).1 := by
  unfold storeWord
  repeat' (first | with_reducible assumption | with_reducible apply noteTrim_follows | with_reducible apply blockCmd_follows | with_reducible apply clearBits_follows | with_reducible apply solFollow_follows | with_reducible apply setRegW_follows | with_reducible apply noteWord_follows | (dsimp only [State.follows_mk]; change State.follows _ _) | with_reducible apply State.follows.forEach | with_reducible apply State.follows.foldlFst | with_reducible apply State.follows.foldl | split | dsimp only | intro _ | decide)

end Sys2Proof.Machine
end

