-- ==== Sys2Proof/Laws/FollowsLibrary.lean ====
section
/-!
SUPPORT. Every operation of Machine/Library.lean keeps `State.follows`: it leaves the queue alone, the recorder follows, no floor and
no epoch falls, and SAFE_OUT_N stays as R403 has it.
-/
namespace Sys2Proof.Machine

open Sys2Proof

theorem runCable_follows {orig : State} (s : State) (inst : Nat) (x : Inst) (hF : orig.follows s) :
    orig.follows (runCable s inst x) := by
  unfold runCable
  repeat' (first | with_reducible assumption | with_reducible apply logEv_follows | with_reducible apply postTo_follows | (dsimp only [State.follows_mk]; change State.follows _ _) | with_reducible apply State.follows.forEach | with_reducible apply State.follows.foldlFst | with_reducible apply State.follows.foldl | split | dsimp only | intro _ | decide)

theorem runTxOut_follows {orig : State} (s : State) (inst : Nat) (x : Inst) (hF : orig.follows s) :
    orig.follows (runTxOut s inst x) := by
  unfold runTxOut
  repeat' (first | with_reducible assumption | with_reducible apply inVal_follows | with_reducible apply applyDst_follows | with_reducible apply setTx_follows | with_reducible apply txFault_follows | (dsimp only [State.follows_mk]; change State.follows _ _) | with_reducible apply State.follows.forEach | with_reducible apply State.follows.foldlFst | with_reducible apply State.follows.foldl | split | dsimp only | intro _ | decide)

theorem runSolenoid_follows {orig : State} (s : State) (x : Inst) (hF : orig.follows s) :
    orig.follows (runSolenoid s x) := by
  unfold runSolenoid
  repeat' (first | with_reducible assumption | with_reducible apply takeMsgs_follows | with_reducible apply setSol_follows | (dsimp only [State.follows_mk]; change State.follows _ _) | with_reducible apply State.follows.forEach | with_reducible apply State.follows.foldlFst | with_reducible apply State.follows.foldl | split | dsimp only | intro _ | decide)

theorem takeOps_follows {orig : State} (s : State) (x : Inst) (f : State → Nat → State)
    (hf : ∀ x k, orig.follows x → orig.follows (f x k))
    (hF : orig.follows s) : orig.follows (takeOps s x f) := by
  unfold takeOps
  split
  · refine .foldl (fun x m h => ?_) (takeMsgs_follows _ _ _ hF)
    split
    · exact hf _ _ h
    · exact h
  · exact hF

theorem runDoOut_follows {orig : State} (s : State) (inst : Nat) (x : Inst) (hF : orig.follows s) :
    orig.follows (runDoOut s inst x) := by
  unfold runDoOut
  repeat' (first | with_reducible assumption | with_reducible apply inVal_follows | with_reducible apply applyDst_follows | (dsimp only [State.follows_mk]; change State.follows _ _) | with_reducible apply State.follows.forEach | with_reducible apply State.follows.foldlFst | with_reducible apply State.follows.foldl | split | dsimp only | intro _ | decide)

theorem runSweep_follows {orig : State} (s : State) (x : Inst) (hF : orig.follows s) :
    orig.follows (runSweep s x) := by
  unfold runSweep
  repeat' (first | with_reducible assumption | with_reducible apply takeMsgs_follows | with_reducible apply sweepBegin_follows | (dsimp only [State.follows_mk]; change State.follows _ _) | with_reducible apply State.follows.forEach | with_reducible apply State.follows.foldlFst | with_reducible apply State.follows.foldl | split | dsimp only | intro _ | decide)

theorem postAll_follows {orig : State} (s : State) (inst : Nat) (ds : List Dst) (m : Msg) (hF : orig.follows s) :
    orig.follows (postAll s inst ds m) := by
  unfold postAll
  repeat' (first | with_reducible assumption | with_reducible apply postTo_follows | (dsimp only [State.follows_mk]; change State.follows _ _) | with_reducible apply State.follows.forEach | with_reducible apply State.follows.foldlFst | with_reducible apply State.follows.foldl | split | dsimp only | intro _ | decide)

theorem runFanOut_follows {orig : State} (s : State) (inst : Nat) (x : Inst) (hF : orig.follows s) :
    orig.follows (runFanOut s inst x) := by
  unfold runFanOut
  repeat' (first | with_reducible assumption | with_reducible apply takeMsgs_follows | with_reducible apply postAll_follows | (dsimp only [State.follows_mk]; change State.follows _ _) | with_reducible apply State.follows.forEach | with_reducible apply State.follows.foldlFst | with_reducible apply State.follows.foldl | split | dsimp only | intro _ | decide)

theorem runMerge_follows {orig : State} (s : State) (inst : Nat) (x : Inst) (hF : orig.follows s) :
    orig.follows (runMerge s inst x) := by
  unfold runMerge
  repeat' (first | with_reducible assumption | with_reducible apply takeMsgs_follows | with_reducible apply postTo_follows | (dsimp only [State.follows_mk]; change State.follows _ _) | with_reducible apply State.follows.forEach | with_reducible apply State.follows.foldlFst | with_reducible apply State.follows.foldl | split | dsimp only | intro _ | decide)

theorem transactOne_follows {orig : State} (s : State) (inst : Nat) (x : Inst) (b out : Nat) (hF : orig.follows s) :
    orig.follows (transactOne s inst x b out) := by
  unfold transactOne
  repeat' (first | with_reducible assumption | with_reducible apply issueRequest_follows | with_reducible apply takeMsgs_follows | (dsimp only [State.follows_mk]; change State.follows _ _) | with_reducible apply State.follows.forEach | with_reducible apply State.follows.foldlFst | with_reducible apply State.follows.foldl | split | dsimp only | intro _ | decide)

theorem runTransact_follows {orig : State} (s : State) (inst : Nat) (x : Inst) (hF : orig.follows s) :
    orig.follows (runTransact s inst x) := by
  unfold runTransact
  repeat' (first | with_reducible assumption | with_reducible apply transactOne_follows | with_reducible apply takeMsgs_follows | with_reducible apply postTo_follows | (dsimp only [State.follows_mk]; change State.follows _ _) | with_reducible apply State.follows.forEach | with_reducible apply State.follows.foldlFst | with_reducible apply State.follows.foldl | split | dsimp only | intro _ | decide)

theorem drawNat_follows {orig : State} (s : State) (hF : orig.follows s) :
    orig.follows (drawNat s).1 := by
  unfold drawNat
  repeat' (first | with_reducible assumption | with_reducible apply useFree_follows | (dsimp only [State.follows_mk]; change State.follows _ _) | with_reducible apply State.follows.forEach | with_reducible apply State.follows.foldlFst | with_reducible apply State.follows.foldl | split | dsimp only | intro _ | decide)

theorem freeOut_follows {orig : State} (inst : Nat) (s : State) (d : Dst) (hF : orig.follows s) :
    orig.follows (freeOut inst s d) := by
  unfold freeOut
  repeat' (first | with_reducible assumption | with_reducible apply useFree_follows | with_reducible apply keepPost_follows | with_reducible apply applyDst_follows | (dsimp only [State.follows_mk]; change State.follows _ _) | with_reducible apply State.follows.forEach | with_reducible apply State.follows.foldlFst | with_reducible apply State.follows.foldl | split | dsimp only | intro _ | decide)

theorem freeState_follows {orig : State} (s : State) (inst : Nat) (x : Inst) (hF : orig.follows s) :
    orig.follows (freeState s inst x) := by
  unfold freeState
  repeat' (first | with_reducible assumption | with_reducible apply drawNat_follows | with_reducible apply setBlk_follows | with_reducible apply useFree_follows | (dsimp only [State.follows_mk]; change State.follows _ _) | with_reducible apply State.follows.forEach | with_reducible apply State.follows.foldlFst | with_reducible apply State.follows.foldl | split | dsimp only | intro _ | decide)

theorem takeInputs_follows {orig : State} (s : State) (x : Inst) (hF : orig.follows s) :
    orig.follows (takeInputs s x) := by
  unfold takeInputs
  repeat' (first | with_reducible assumption | with_reducible apply takeMsgs_follows | (dsimp only [State.follows_mk]; change State.follows _ _) | with_reducible apply State.follows.forEach | with_reducible apply State.follows.foldlFst | with_reducible apply State.follows.foldl | split | dsimp only | intro _ | decide)

theorem freeAnswer_follows {orig : State} (inst : Nat) (d : Dst) (s : State) (q : Msg) (hF : orig.follows s) :
    orig.follows (freeAnswer inst d s q) := by
  unfold freeAnswer
  repeat' (first | with_reducible assumption | with_reducible apply useFree_follows | with_reducible apply answerTo_follows | (dsimp only [State.follows_mk]; change State.follows _ _) | with_reducible apply State.follows.forEach | with_reducible apply State.follows.foldlFst | with_reducible apply State.follows.foldl | split | dsimp only | intro _ | decide)

theorem runFree_follows {orig : State} (s : State) (inst : Nat) (x : Inst) (hF : orig.follows s) :
    orig.follows (runFree s inst x) := by
  unfold runFree
  repeat' (first | with_reducible assumption | with_reducible apply freeAnswer_follows | with_reducible apply freeOut_follows | with_reducible apply freeState_follows | with_reducible apply takeInputs_follows | (dsimp only [State.follows_mk]; change State.follows _ _) | with_reducible apply State.follows.forEach | with_reducible apply State.follows.foldlFst | with_reducible apply State.follows.foldl | split | dsimp only | intro _ | decide)

theorem runRaise_follows {orig : State} (s : State) (inst : Nat) (x : Inst) (hF : orig.follows s) :
    orig.follows (runRaise s inst x) := by
  unfold runRaise
  repeat' (first | with_reducible assumption | with_reducible apply takeInputs_follows | with_reducible apply useFree_follows | with_reducible apply logEv_follows | (dsimp only [State.follows_mk]; change State.follows _ _) | with_reducible apply State.follows.forEach | with_reducible apply State.follows.foldlFst | with_reducible apply State.follows.foldl | split | dsimp only | intro _ | decide)

theorem runPack_follows {orig : State} (s : State) (inst : Nat) (x : Inst) (hF : orig.follows s) :
    orig.follows (runPack s inst x) := by
  unfold runPack
  repeat' (first | with_reducible assumption | with_reducible apply takeInputs_follows | with_reducible apply keepPost_follows | with_reducible apply useFree_follows | with_reducible apply issueRequest_follows | (dsimp only [State.follows_mk]; change State.follows _ _) | with_reducible apply State.follows.forEach | with_reducible apply State.follows.foldlFst | with_reducible apply State.follows.foldl | split | dsimp only | intro _ | decide)

theorem runPos_follows {orig : State} (s : State) (inst : Nat) (x : Inst) (hF : orig.follows s) :
    orig.follows (runPos s inst x) := by
  unfold runPos
  repeat' (first | with_reducible assumption | with_reducible apply runPosition_follows | with_reducible apply postTo_follows | (dsimp only [State.follows_mk]; change State.follows _ _) | with_reducible apply State.follows.forEach | with_reducible apply State.follows.foldlFst | with_reducible apply State.follows.foldl | split | dsimp only | intro _ | decide)

theorem runLawOf_follows {orig : State} (s : State) (inst : Nat) (x : Inst) (hF : orig.follows s) :
    orig.follows (runLawOf s inst x) := by
  unfold runLawOf
  repeat' (first | with_reducible assumption | with_reducible apply runLaw_follows | with_reducible apply runSplit_follows | with_reducible apply runPos_follows | with_reducible apply runTaper_follows | with_reducible apply runSup_follows | with_reducible apply runMotorCtrl_follows | with_reducible apply takeOps_follows | with_reducible apply motOp_follows | with_reducible apply runObserver_follows | with_reducible apply runFan_follows | with_reducible apply runEnergy_follows | with_reducible apply runHoming_follows | with_reducible apply runSolenoid_follows | with_reducible apply runTxOut_follows | with_reducible apply runDoOut_follows | with_reducible apply runCable_follows | with_reducible apply runMoist_follows | with_reducible apply runCol_follows | with_reducible apply runDry_follows | with_reducible apply runHeat_follows | with_reducible apply runAer_follows | with_reducible apply runRoute_follows | with_reducible apply runSlip_follows | with_reducible apply runDiverter_follows | with_reducible apply runNightTable_follows | with_reducible apply runFanOut_follows | with_reducible apply runMerge_follows | with_reducible apply runPack_follows | with_reducible apply runTransact_follows | with_reducible apply runRaise_follows | with_reducible apply runPolicy_follows | with_reducible apply runSweep_follows | with_reducible apply runFree_follows | (dsimp only [State.follows_mk]; change State.follows _ _) | with_reducible apply State.follows.forEach | with_reducible apply State.follows.foldlFst | with_reducible apply State.follows.foldl | split | dsimp only | intro _ | decide)

theorem runInst_follows {orig : State} (s : State) (p : Nat × Inst) (hF : orig.follows s) :
    orig.follows (runInst s p) := by
  unfold runInst
  repeat' (first | with_reducible assumption | with_reducible apply runLawOf_follows | with_reducible apply repost_follows | with_reducible apply takeOverruns_follows | (dsimp only [State.follows_mk]; change State.follows _ _) | with_reducible apply State.follows.forEach | with_reducible apply State.follows.foldlFst | with_reducible apply State.follows.foldl | split | dsimp only | intro _ | decide)

theorem runEngine_follows {orig : State} (s : State) (e : Nat) (hF : orig.follows s) :
    orig.follows (runEngine s e) := by
  unfold runEngine
  repeat' (first | with_reducible assumption | with_reducible apply runInst_follows | with_reducible apply setEng_follows | with_reducible apply useFree_follows | (dsimp only [State.follows_mk]; change State.follows _ _) | with_reducible apply State.follows.forEach | with_reducible apply State.follows.foldlFst | with_reducible apply State.follows.foldl | split | dsimp only | intro _ | decide)

theorem runAll_follows {orig : State} (s : State) (hF : orig.follows s) :
    orig.follows (runAll s) := by
  unfold runAll
  repeat' (first | with_reducible assumption | with_reducible apply runEngine_follows | (dsimp only [State.follows_mk]; change State.follows _ _) | with_reducible apply State.follows.forEach | with_reducible apply State.follows.foldlFst | with_reducible apply State.follows.foldl | split | dsimp only | intro _ | decide)

end Sys2Proof.Machine
end

