-- ==== Sys2Proof/Laws/FollowsFlags.lean ====
section
/-!
SUPPORT. Every operation of Machine/Flags.lean keeps `State.follows`: it leaves the queue alone, the recorder follows, no floor and
no epoch falls, and SAFE_OUT_N stays as R403 has it.
-/
namespace Sys2Proof.Machine

open Sys2Proof

theorem irqEval_follows {orig : State} (s : State) (hF : orig.follows s) :
    orig.follows (irqEval s).1 := by
  unfold irqEval
  repeat' (first | with_reducible assumption | with_reducible apply setSticky_follows | (dsimp only [State.follows_mk]; change State.follows _ _) | with_reducible apply State.follows.forEach | with_reducible apply State.follows.foldlFst | with_reducible apply State.follows.foldl | split | dsimp only | intro _ | decide)

theorem irqBoot_follows {orig : State} (s : State) (hF : orig.follows s) :
    orig.follows (irqBoot s) := by
  unfold irqBoot
  repeat' (first | with_reducible assumption | with_reducible apply setSticky_follows | (dsimp only [State.follows_mk]; change State.follows _ _) | with_reducible apply State.follows.forEach | with_reducible apply State.follows.foldlFst | with_reducible apply State.follows.foldl | split | dsimp only | intro _ | decide)

end Sys2Proof.Machine
end

