-- ==== Sys2Proof/Laws/FollowsApply.lean ====
section
/-!
SUPPORT. Every operation of Machine/Apply.lean keeps `State.follows`: it leaves the queue alone, the recorder follows, no floor and
no epoch falls, and SAFE_OUT_N stays as R403 has it.
-/
namespace Sys2Proof.Machine

open Sys2Proof

theorem duePatch_follows {orig : State} (s : State) (hF : orig.follows s) :
    orig.follows (duePatch s) := by
  unfold duePatch
  repeat' (first | with_reducible assumption | with_reducible apply applyPatch_follows | with_reducible apply latchDue_follows | (dsimp only [State.follows_mk]; change State.follows _ _) | with_reducible apply State.follows.forEach | with_reducible apply State.follows.foldlFst | with_reducible apply State.follows.foldl | split | dsimp only | intro _ | decide)

theorem execPatchApply_follows {orig : State} (t : Ns) (s : State) (hF : orig.follows s) : Out.follows orig (execPatchApply t s) := by
  unfold execPatchApply
  repeat' (first | with_reducible assumption | with_reducible apply Out.follows.next | with_reducible apply duePatch_follows | with_reducible apply setNow_follows | (dsimp only [State.follows_mk]; change State.follows _ _) | with_reducible apply State.follows.forEach | with_reducible apply State.follows.foldlFst | with_reducible apply State.follows.foldl | split | dsimp only | intro _ | decide)

theorem execTakeoverT5_follows {orig : State} (t : Ns) (s : State) (hF : orig.follows s) : Out.follows orig (execTakeoverT5 t s) := by
  unfold execTakeoverT5
  repeat' (first | with_reducible assumption | with_reducible apply Out.follows.next | with_reducible apply setNow_follows | with_reducible apply applyReady_follows | with_reducible apply duePatch_follows | with_reducible apply t5Open_follows | with_reducible apply logEv_follows | with_reducible apply stick_follows | with_reducible apply modPair_follows | with_reducible apply releaseCmds_follows | with_reducible apply motMirrorResume_follows | with_reducible apply setMot_follows | with_reducible apply solResume_follows | with_reducible apply creditsFrom_follows | with_reducible apply lltGoLive_follows | (dsimp only [State.follows_mk]; change State.follows _ _) | with_reducible apply State.follows.forEach | with_reducible apply State.follows.foldlFst | with_reducible apply State.follows.foldl | split | dsimp only | exact fun _ => Nat.le_refl _ | exact fun _ => Nat.le_max_left _ _ | exact fun _ => Nat.le_succ_of_le (Nat.le_max_left _ _) | (intro m; dsimp only; split <;> exact Nat.le_refl _) | intro _ | decide)

theorem switchCredit_follows {orig : State} (old : Structure) (s : State) (hF : orig.follows s) :
    orig.follows (switchCredit old s) := by
  unfold switchCredit
  repeat' (first | with_reducible assumption | with_reducible apply modBsk_follows | (dsimp only [State.follows_mk]; change State.follows _ _) | with_reducible apply State.follows.forEach | with_reducible apply State.follows.foldlFst | with_reducible apply State.follows.foldl | split | dsimp only | intro _ | decide)

theorem keepOldGen_follows {orig : State} (s : State) (hF : orig.follows s) :
    orig.follows (keepOldGen s) := by
  unfold keepOldGen
  repeat' (first | with_reducible assumption | with_reducible apply modBsk_follows | (dsimp only [State.follows_mk]; change State.follows _ _) | with_reducible apply State.follows.forEach | with_reducible apply State.follows.foldlFst | with_reducible apply State.follows.foldl | split | dsimp only | intro _ | decide)

theorem doSwitch_follows {orig : State} (s : State) (w : Switch) (hF : orig.follows s) :
    orig.follows (doSwitch s w) := by
  unfold doSwitch
  repeat' (first | with_reducible assumption | with_reducible apply switchCredit_follows | with_reducible apply applyPatch_follows | with_reducible apply keepOldGen_follows | with_reducible apply modMkt_follows | with_reducible apply logEv_follows | (dsimp only [State.follows_mk]; change State.follows _ _) | with_reducible apply State.follows.forEach | with_reducible apply State.follows.foldlFst | with_reducible apply State.follows.foldl | split | dsimp only | intro _ | decide)

theorem failJoin_follows {orig : State} (s : State) (w : Switch) (hF : orig.follows s) :
    orig.follows (failJoin s w) := by
  unfold failJoin
  repeat' (first | with_reducible assumption | with_reducible apply modMkt_follows | with_reducible apply modHld_follows | with_reducible apply logEv_follows | with_reducible apply stick_follows | (dsimp only [State.follows_mk]; change State.follows _ _) | with_reducible apply State.follows.forEach | with_reducible apply State.follows.foldlFst | with_reducible apply State.follows.foldl | split | dsimp only | intro _ | decide)

theorem execSwitchInstant_follows {orig : State} (t : Ns) (s : State) (hF : orig.follows s) : Out.follows orig (execSwitchInstant t s) := by
  unfold execSwitchInstant
  repeat' (first | with_reducible assumption | with_reducible apply Out.follows.next | with_reducible apply setNow_follows | with_reducible apply latchDue_follows | with_reducible apply failJoin_follows | with_reducible apply doSwitch_follows | (dsimp only [State.follows_mk]; change State.follows _ _) | with_reducible apply State.follows.forEach | with_reducible apply State.follows.foldlFst | with_reducible apply State.follows.foldl | split | dsimp only | intro _ | decide)

theorem execMarketTimeStep_follows {orig : State} (t : Ns) (s : State) (hF : orig.follows s) : Out.follows orig (execMarketTimeStep t s) := by
  unfold execMarketTimeStep
  repeat' (first | with_reducible assumption | with_reducible apply Out.follows.next | with_reducible apply setNow_follows | with_reducible apply modMkt_follows | with_reducible apply stepAccept_follows | with_reducible apply logAt_follows | with_reducible apply stick_follows | with_reducible apply addItem_follows | with_reducible apply evalSync_follows | with_reducible apply latchDue_follows | with_reducible apply lltStep_follows | (dsimp only [State.follows_mk]; change State.follows _ _) | with_reducible apply State.follows.forEach | with_reducible apply State.follows.foldlFst | with_reducible apply State.follows.foldl | split | dsimp only | intro _ | decide)

end Sys2Proof.Machine
end

