-- ==== Sys2Proof/Laws/FollowsFrame.lean ====
section
/-!
SUPPORT. Every operation of Machine/Frame.lean keeps `State.follows`: it leaves the queue alone, the recorder follows, no floor and
no epoch falls, and SAFE_OUT_N stays as R403 has it.
-/
namespace Sys2Proof.Machine

open Sys2Proof

theorem modWax_follows {orig : State} (s : State) (f : WaxState → WaxState) (hF : orig.follows s) :
    orig.follows (modWax s f) := by
  unfold modWax
  repeat' (first | with_reducible assumption | (dsimp only [State.follows_mk]; change State.follows _ _) | with_reducible apply State.follows.forEach | with_reducible apply State.follows.foldlFst | with_reducible apply State.follows.foldl | split | dsimp only | intro _ | decide)

theorem noteSecond_follows {orig : State} (s : State) (hF : orig.follows s) :
    orig.follows (noteSecond s) := by
  unfold noteSecond
  repeat' (first | with_reducible assumption | with_reducible apply modWax_follows | (dsimp only [State.follows_mk]; change State.follows _ _) | with_reducible apply State.follows.forEach | with_reducible apply State.follows.foldlFst | with_reducible apply State.follows.foldl | split | dsimp only | intro _ | decide)

theorem recordFrame_follows {orig : State} (s : State) (hF : orig.follows s) :
    orig.follows (recordFrame s) := by
  unfold recordFrame
  repeat' (first | with_reducible assumption | with_reducible apply modWax_follows | with_reducible apply noteSecond_follows | with_reducible apply stick_follows | (dsimp only [State.follows_mk]; change State.follows _ _) | with_reducible apply State.follows.forEach | with_reducible apply State.follows.foldlFst | with_reducible apply State.follows.foldl | split | dsimp only | intro _ | decide)

theorem hostAtBoundary_follows {orig : State} (s : State) (t : Nat) (hF : orig.follows s) :
    orig.follows (hostAtBoundary s t) := by
  unfold hostAtBoundary
  repeat' (first | with_reducible assumption | with_reducible apply modWax_follows | (dsimp only [State.follows_mk]; change State.follows _ _) | with_reducible apply State.follows.forEach | with_reducible apply State.follows.foldlFst | with_reducible apply State.follows.foldl | split | dsimp only | intro _ | decide)

theorem irqAtBoundary_follows {orig : State} (s : State) (hF : orig.follows s) :
    orig.follows (irqAtBoundary s) := by
  unfold irqAtBoundary
  repeat' (first | with_reducible assumption | with_reducible apply irqEval_follows | (dsimp only [State.follows_mk]; change State.follows _ _) | with_reducible apply State.follows.forEach | with_reducible apply State.follows.foldlFst | with_reducible apply State.follows.foldl | split | dsimp only | intro _ | decide)

theorem takeEdge0_follows {orig : State} (s : State) (hF : orig.follows s) :
    orig.follows (takeEdge0 s) := by
  unfold takeEdge0
  repeat' (first | with_reducible assumption | with_reducible apply takeUp_follows | (dsimp only [State.follows_mk]; change State.follows _ _) | with_reducible apply State.follows.forEach | with_reducible apply State.follows.foldlFst | with_reducible apply State.follows.foldl | split | dsimp only | intro _ | decide)

theorem restoreEdge_follows {orig : State} (s : State) (l : List (Nat × W32)) (hF : orig.follows s) :
    orig.follows (restoreEdge s l) := by
  unfold restoreEdge
  repeat' (first | with_reducible assumption | with_reducible apply setRegW_follows | (dsimp only [State.follows_mk]; change State.follows _ _) | with_reducible apply State.follows.forEach | with_reducible apply State.follows.foldlFst | with_reducible apply State.follows.foldl | split | dsimp only | intro _ | decide)

theorem openFrame_follows {orig : State} (s : State) (t : Nat) (hF : orig.follows s) :
    orig.follows (openFrame s t) := by
  unfold openFrame
  repeat' (first | with_reducible assumption | with_reducible apply applyReady_follows | with_reducible apply noteOwnCmds_follows | with_reducible apply patchMissed_follows | with_reducible apply releaseCmds_follows | (dsimp only [State.follows_mk]; change State.follows _ _) | with_reducible apply State.follows.forEach | with_reducible apply State.follows.foldlFst | with_reducible apply State.follows.foldl | split | dsimp only | intro _ | decide)

theorem closeInputs_follows {orig : State} (s : State) (hF : orig.follows s) :
    orig.follows (closeInputs s) := by
  unfold closeInputs
  repeat' (first | with_reducible assumption | with_reducible apply admission_follows | (dsimp only [State.follows_mk]; change State.follows _ _) | with_reducible apply State.follows.forEach | with_reducible apply State.follows.foldlFst | with_reducible apply State.follows.foldl | split | dsimp only | intro _ | decide)

theorem frameWork_follows {orig : State} (s : State) (hF : orig.follows s) :
    orig.follows (frameWork s) := by
  unfold frameWork
  repeat' (first | with_reducible assumption | with_reducible apply freezeTrack_follows | with_reducible apply closeInputs_follows | with_reducible apply takeTemps_follows | with_reducible apply runAll_follows | with_reducible apply recordFrame_follows | with_reducible apply lostItems_follows | with_reducible apply endRetiring_follows | with_reducible apply touchCols_follows | with_reducible apply changedCredits_follows | with_reducible apply egress_follows | (dsimp only [State.follows_mk]; change State.follows _ _) | with_reducible apply State.follows.forEach | with_reducible apply State.follows.foldlFst | with_reducible apply State.follows.foldl | split | dsimp only | intro _ | decide)

theorem execFrameBoundary_follows {orig : State} (t : Ns) (s : State) (hF : orig.follows s) : Out.follows orig (execFrameBoundary t s) := by
  unfold execFrameBoundary
  repeat' (first | with_reducible assumption | with_reducible apply Out.follows.next | with_reducible apply setNow_follows | with_reducible apply irqAtBoundary_follows | with_reducible apply hostAtBoundary_follows | with_reducible apply wdResetDue_follows | with_reducible apply duePatch_follows | with_reducible apply latchDue_follows | with_reducible apply setRowClocks_follows | with_reducible apply openFrame_follows | with_reducible apply frameWork_follows | with_reducible apply recordFrame_follows | with_reducible apply takeEdge0_follows | with_reducible apply restoreEdge_follows | with_reducible apply resumeBits_follows | with_reducible apply sendControl_follows | (dsimp only [State.follows_mk]; change State.follows _ _) | with_reducible apply State.follows.forEach | with_reducible apply State.follows.foldlFst | with_reducible apply State.follows.foldl | split | dsimp only | intro _ | decide)

theorem snapAll_follows {orig : State} (s : State) (t : Nat) (hF : orig.follows s) :
    orig.follows (snapAll s t) := by
  unfold snapAll
  repeat' (first | with_reducible assumption | with_reducible apply publish_follows | with_reducible apply latchWicks_follows | with_reducible apply fbLatch_follows | with_reducible apply solSnap_follows | (dsimp only [State.follows_mk]; change State.follows _ _) | with_reducible apply State.follows.forEach | with_reducible apply State.follows.foldlFst | with_reducible apply State.follows.foldl | split | dsimp only | intro _ | decide)

theorem execWickSnapshotLatch_follows {orig : State} (t : Ns) (s : State) (hF : orig.follows s) : Out.follows orig (execWickSnapshotLatch t s) := by
  unfold execWickSnapshotLatch
  repeat' (first | with_reducible assumption | with_reducible apply Out.follows.next | with_reducible apply setNow_follows | with_reducible apply snapAll_follows | (dsimp only [State.follows_mk]; change State.follows _ _) | with_reducible apply State.follows.forEach | with_reducible apply State.follows.foldlFst | with_reducible apply State.follows.foldl | split | dsimp only | intro _ | decide)

theorem noteMiss_follows {orig : State} (s : State) (e i skipped : Nat) (hF : orig.follows s) :
    orig.follows (noteMiss s e i skipped) := by
  unfold noteMiss
  repeat' (first | with_reducible assumption | with_reducible apply setEng_follows | with_reducible apply logEv_follows | with_reducible apply modPair_follows | with_reducible apply addItem_follows | (dsimp only [State.follows_mk]; change State.follows _ _) | with_reducible apply State.follows.forEach | with_reducible apply State.follows.foldlFst | with_reducible apply State.follows.foldl | split | dsimp only | exact fun _ => Nat.le_refl _ | exact fun _ => Nat.le_max_left _ _ | exact fun _ => Nat.le_succ_of_le (Nat.le_max_left _ _) | (intro m; dsimp only; split <;> exact Nat.le_refl _) | intro _ | decide)

theorem abortRuns_follows {orig : State} (b s : State) (e i : Nat) (hF : orig.follows s) :
    orig.follows (abortRuns b s e i) := by
  unfold abortRuns
  repeat' (first | with_reducible assumption | with_reducible apply undoRun_follows | with_reducible apply modWax_follows | (dsimp only [State.follows_mk]; change State.follows _ _) | with_reducible apply State.follows.forEach | with_reducible apply State.follows.foldlFst | with_reducible apply State.follows.foldl | split | dsimp only | intro _ | decide)

theorem execDeadlineAbort_follows {orig : State} (e : Fin 128) (i : Fin 8192) (t : Ns) (s : State) (hF : orig.follows s) : Out.follows orig (execDeadlineAbort e i t s) := by
  unfold execDeadlineAbort
  repeat' (first | with_reducible assumption | with_reducible apply Out.follows.next | with_reducible apply setNow_follows | with_reducible apply noteMiss_follows | with_reducible apply abortRuns_follows | with_reducible apply withImage_follows | (dsimp only [State.follows_mk]; change State.follows _ _) | with_reducible apply State.follows.forEach | with_reducible apply State.follows.foldlFst | with_reducible apply State.follows.foldl | split | dsimp only | intro _ | decide)

end Sys2Proof.Machine
end

