-- ==== Sys2Proof/Laws/FollowsWax.lean ====
section
/-!
SUPPORT. Every operation of Machine/Wax.lean keeps `State.follows`: it leaves the queue alone, the recorder follows, no floor and
no epoch falls, and SAFE_OUT_N stays as R403 has it.
-/
namespace Sys2Proof.Machine

open Sys2Proof

theorem waxResult_follows {orig : State} (s : State) (op code : Nat) (hF : orig.follows s) :
    orig.follows (waxResult s op code) := by
  unfold waxResult
  repeat' (first | with_reducible assumption | with_reducible apply modWax_follows | (dsimp only [State.follows_mk]; change State.follows _ _) | with_reducible apply State.follows.forEach | with_reducible apply State.follows.foldlFst | with_reducible apply State.follows.foldl | split | dsimp only | intro _ | decide)

theorem execKeyframeCapture_follows {orig : State} (t : Ns) (s : State) (hF : orig.follows s) : Out.follows orig (execKeyframeCapture t s) := by
  unfold execKeyframeCapture
  repeat' (first | with_reducible assumption | with_reducible apply Out.follows.next | with_reducible apply setNow_follows | with_reducible apply modWax_follows | (dsimp only [State.follows_mk]; change State.follows _ _) | with_reducible apply State.follows.forEach | with_reducible apply State.follows.foldlFst | with_reducible apply State.follows.foldl | split | dsimp only | intro _ | decide)

theorem execKeyframeComplete_follows {orig : State} (t : Ns) (frame : Nat) (ok : Bool) (s : State) (hF : orig.follows s) : Out.follows orig (execKeyframeComplete t frame ok s) := by
  unfold execKeyframeComplete
  repeat' (first | with_reducible assumption | with_reducible apply Out.follows.next | with_reducible apply setNow_follows | with_reducible apply modWax_follows | with_reducible apply stick_follows | (dsimp only [State.follows_mk]; change State.follows _ _) | with_reducible apply State.follows.forEach | with_reducible apply State.follows.foldlFst | with_reducible apply State.follows.foldl | split | dsimp only | intro _ | decide)

theorem selSums_follows {orig : State} (s : State) (a : SumAcc) (hF : orig.follows s) :
    orig.follows (selSums s a).1 := by
  unfold selSums
  repeat' (first | with_reducible assumption | with_reducible apply useFree_follows | (dsimp only [State.follows_mk]; change State.follows _ _) | with_reducible apply State.follows.forEach | with_reducible apply State.follows.foldlFst | with_reducible apply State.follows.foldl | split | dsimp only | intro _ | decide)

theorem execSummaryWrite_follows {orig : State} (t : Ns) (s : State) (hF : orig.follows s) : Out.follows orig (execSummaryWrite t s) := by
  unfold execSummaryWrite
  repeat' (first | with_reducible assumption | with_reducible apply Out.follows.next | with_reducible apply setNow_follows | with_reducible apply selSums_follows | with_reducible apply modWax_follows | (dsimp only [State.follows_mk]; change State.follows _ _) | with_reducible apply State.follows.forEach | with_reducible apply State.follows.foldlFst | with_reducible apply State.follows.foldl | split | dsimp only | intro _ | decide)

theorem waxFreeze_follows {orig : State} (s : State) (hF : orig.follows s) :
    orig.follows (waxFreeze s) := by
  unfold waxFreeze
  repeat' (first | with_reducible assumption | with_reducible apply waxResult_follows | with_reducible apply modWax_follows | (dsimp only [State.follows_mk]; change State.follows _ _) | with_reducible apply State.follows.forEach | with_reducible apply State.follows.foldlFst | with_reducible apply State.follows.foldl | split | dsimp only | intro _ | decide)

theorem execWaxFreeze_follows {orig : State} (s : State) (hF : orig.follows s) : Out.follows orig (execWaxFreeze s) := by
  unfold execWaxFreeze
  repeat' (first | with_reducible assumption | with_reducible apply Out.follows.next | with_reducible apply waxFreeze_follows | (dsimp only [State.follows_mk]; change State.follows _ _) | with_reducible apply State.follows.forEach | with_reducible apply State.follows.foldlFst | with_reducible apply State.follows.foldl | split | dsimp only | intro _ | decide)

theorem execFreezeComplete_follows {orig : State} (t : Ns) (overtaken : Bool) (s : State) (hF : orig.follows s) : Out.follows orig (execFreezeComplete t overtaken s) := by
  unfold execFreezeComplete
  repeat' (first | with_reducible assumption | with_reducible apply Out.follows.next | with_reducible apply setNow_follows | with_reducible apply waxResult_follows | with_reducible apply modWax_follows | (dsimp only [State.follows_mk]; change State.follows _ _) | with_reducible apply State.follows.forEach | with_reducible apply State.follows.foldlFst | with_reducible apply State.follows.foldl | split | dsimp only | intro _ | decide)

theorem waxExport_follows {orig : State} (s : State) (sender : Nat) (hF : orig.follows s) :
    orig.follows (waxExport s sender) := by
  unfold waxExport
  repeat' (first | with_reducible assumption | with_reducible apply waxResult_follows | with_reducible apply modWax_follows | (dsimp only [State.follows_mk]; change State.follows _ _) | with_reducible apply State.follows.forEach | with_reducible apply State.follows.foldlFst | with_reducible apply State.follows.foldl | split | dsimp only | intro _ | decide)

theorem execWaxExport_follows {orig : State} (sender : Nat) (s : State) (hF : orig.follows s) : Out.follows orig (execWaxExport sender s) := by
  unfold execWaxExport
  repeat' (first | with_reducible assumption | with_reducible apply Out.follows.next | with_reducible apply waxExport_follows | (dsimp only [State.follows_mk]; change State.follows _ _) | with_reducible apply State.follows.forEach | with_reducible apply State.follows.foldlFst | with_reducible apply State.follows.foldl | split | dsimp only | intro _ | decide)

theorem execExportDatagramSend_follows {orig : State} (t : Ns) (s : State) (hF : orig.follows s) : Out.follows orig (execExportDatagramSend t s) := by
  unfold execExportDatagramSend
  repeat' (first | with_reducible assumption | with_reducible apply Out.follows.next | with_reducible apply setNow_follows | with_reducible apply emit_follows | with_reducible apply waxResult_follows | with_reducible apply modWax_follows | (dsimp only [State.follows_mk]; change State.follows _ _) | with_reducible apply State.follows.forEach | with_reducible apply State.follows.foldlFst | with_reducible apply State.follows.foldl | split | dsimp only | intro _ | decide)

theorem waxExportStop_follows {orig : State} (s : State) (hF : orig.follows s) :
    orig.follows (waxExportStop s) := by
  unfold waxExportStop
  repeat' (first | with_reducible assumption | with_reducible apply waxResult_follows | with_reducible apply modWax_follows | (dsimp only [State.follows_mk]; change State.follows _ _) | with_reducible apply State.follows.forEach | with_reducible apply State.follows.foldlFst | with_reducible apply State.follows.foldl | split | dsimp only | intro _ | decide)

theorem execWaxExportStop_follows {orig : State} (s : State) (hF : orig.follows s) : Out.follows orig (execWaxExportStop s) := by
  unfold execWaxExportStop
  repeat' (first | with_reducible assumption | with_reducible apply Out.follows.next | with_reducible apply waxExportStop_follows | (dsimp only [State.follows_mk]; change State.follows _ _) | with_reducible apply State.follows.forEach | with_reducible apply State.follows.foldlFst | with_reducible apply State.follows.foldl | split | dsimp only | intro _ | decide)

theorem importChunk_follows {orig : State} (s : State) (offset : Nat) (data : List Byte) (hF : orig.follows s) :
    orig.follows (importChunk s offset data).1 := by
  unfold importChunk
  repeat' (first | with_reducible assumption | with_reducible apply modWax_follows | (dsimp only [State.follows_mk]; change State.follows _ _) | with_reducible apply State.follows.forEach | with_reducible apply State.follows.foldlFst | with_reducible apply State.follows.foldl | split | dsimp only | intro _ | decide)

theorem execWaxDataImport_follows {orig : State} (t : Ns) (d : Dgram) (offset : Nat) (data : List Byte) (s : State) (hF : orig.follows s) : Out.follows orig (execWaxDataImport t d offset data s) := by
  unfold execWaxDataImport
  repeat' (first | with_reducible assumption | with_reducible apply Out.follows.next | with_reducible apply withDgram_follows | with_reducible apply setNow_follows | with_reducible apply importChunk_follows | with_reducible apply noteChange_follows | (dsimp only [State.follows_mk]; change State.follows _ _) | with_reducible apply State.follows.forEach | with_reducible apply State.follows.foldlFst | with_reducible apply State.follows.foldl | split | dsimp only | intro _ | decide)

theorem waxImportDone_follows {orig : State} (s : State) (img : Option Frozen) (hF : orig.follows s) :
    orig.follows (waxImportDone s img) := by
  unfold waxImportDone
  repeat' (first | with_reducible assumption | with_reducible apply waxResult_follows | with_reducible apply modWax_follows | (dsimp only [State.follows_mk]; change State.follows _ _) | with_reducible apply State.follows.forEach | with_reducible apply State.follows.foldlFst | with_reducible apply State.follows.foldl | split | dsimp only | intro _ | decide)

theorem execWaxImportDone_follows {orig : State} (img : Option Frozen) (s : State) (hF : orig.follows s) : Out.follows orig (execWaxImportDone img s) := by
  unfold execWaxImportDone
  repeat' (first | with_reducible assumption | with_reducible apply Out.follows.next | with_reducible apply waxImportDone_follows | (dsimp only [State.follows_mk]; change State.follows _ _) | with_reducible apply State.follows.forEach | with_reducible apply State.follows.foldlFst | with_reducible apply State.follows.foldl | split | dsimp only | intro _ | decide)

theorem waxDiscard_follows {orig : State} (s : State) (hF : orig.follows s) :
    orig.follows (waxDiscard s) := by
  unfold waxDiscard
  repeat' (first | with_reducible assumption | with_reducible apply waxResult_follows | with_reducible apply modWax_follows | (dsimp only [State.follows_mk]; change State.follows _ _) | with_reducible apply State.follows.forEach | with_reducible apply State.follows.foldlFst | with_reducible apply State.follows.foldl | split | dsimp only | intro _ | decide)

theorem execWaxDiscard_follows {orig : State} (s : State) (hF : orig.follows s) : Out.follows orig (execWaxDiscard s) := by
  unfold execWaxDiscard
  repeat' (first | with_reducible assumption | with_reducible apply Out.follows.next | with_reducible apply waxDiscard_follows | (dsimp only [State.follows_mk]; change State.follows _ _) | with_reducible apply State.follows.forEach | with_reducible apply State.follows.foldlFst | with_reducible apply State.follows.foldl | split | dsimp only | intro _ | decide)

end Sys2Proof.Machine
end

