-- ==== Sys2Proof/Laws/FollowsRelight.lean ====
section
/-!
SUPPORT. Every operation of Machine/Relight.lean keeps `State.follows`: it leaves the queue alone, the recorder follows, no floor and
no epoch falls, and SAFE_OUT_N stays as R403 has it.
-/
namespace Sys2Proof.Machine

open Sys2Proof

theorem modRlt_follows {orig : State} (s : State) (f : RltState → RltState) (hF : orig.follows s) :
    orig.follows (modRlt s f) := by
  unfold modRlt
  repeat' (first | with_reducible assumption | (dsimp only [State.follows_mk]; change State.follows _ _) | with_reducible apply State.follows.forEach | with_reducible apply State.follows.foldlFst | with_reducible apply State.follows.foldl | split | dsimp only | intro _ | decide)

theorem takeSnap_follows {orig : State} (s : State) (w : Nat) (r : SnapRec) (hF : orig.follows s) :
    orig.follows (takeSnap s w r) := by
  unfold takeSnap
  repeat' (first | with_reducible assumption | with_reducible apply setWick_follows | (dsimp only [State.follows_mk]; change State.follows _ _) | with_reducible apply State.follows.forEach | with_reducible apply State.follows.foldlFst | with_reducible apply State.follows.foldl | split | dsimp only | intro _ | decide)

theorem advanceSnap_follows {orig : State} (r : FrameRec) (s : State) (w : Nat) (hF : orig.follows s) :
    orig.follows (advanceSnap r s w) := by
  unfold advanceSnap
  repeat' (first | with_reducible assumption | with_reducible apply takeSnap_follows | (dsimp only [State.follows_mk]; change State.follows _ _) | with_reducible apply State.follows.forEach | with_reducible apply State.follows.foldlFst | with_reducible apply State.follows.foldl | split | dsimp only | intro _ | decide)

theorem rltEnter_follows {orig : State} (s : State) (f : Frozen) (hF : orig.follows s) :
    orig.follows (rltEnter s f) := by
  unfold rltEnter
  repeat' (first | with_reducible assumption | with_reducible apply regate_follows | with_reducible apply modRlt_follows | (dsimp only [State.follows_mk]; change State.follows _ _) | with_reducible apply State.follows.forEach | with_reducible apply State.follows.foldlFst | with_reducible apply State.follows.foldl | split | dsimp only | intro _ | decide)

theorem rltPrepare_follows {orig : State} (s : State) (hF : orig.follows s) :
    orig.follows (rltPrepare s) := by
  unfold rltPrepare
  repeat' (first | with_reducible assumption | with_reducible apply pairWait_follows | with_reducible apply rltEnter_follows | with_reducible apply modRlt_follows | with_reducible apply hldResult_follows | (dsimp only [State.follows_mk]; change State.follows _ _) | with_reducible apply State.follows.forEach | with_reducible apply State.follows.foldlFst | with_reducible apply State.follows.foldl | split | dsimp only | intro _ | decide)

theorem execRltPrepare_follows {orig : State} (s : State) (hF : orig.follows s) : Out.follows orig (execRltPrepare s) := by
  unfold execRltPrepare
  repeat' (first | with_reducible assumption | with_reducible apply Out.follows.next | with_reducible apply rltPrepare_follows | (dsimp only [State.follows_mk]; change State.follows _ _) | with_reducible apply State.follows.forEach | with_reducible apply State.follows.foldlFst | with_reducible apply State.follows.foldl | split | dsimp only | intro _ | decide)

theorem rltStop_follows {orig : State} (s : State) (cause : Nat) (hF : orig.follows s) :
    orig.follows (rltStop s cause) := by
  unfold rltStop
  repeat' (first | with_reducible assumption | with_reducible apply logEv_follows | with_reducible apply modRlt_follows | (dsimp only [State.follows_mk]; change State.follows _ _) | with_reducible apply State.follows.forEach | with_reducible apply State.follows.foldlFst | with_reducible apply State.follows.foldl | split | dsimp only | intro _ | decide)

theorem replayWrite_follows {orig : State} (s : State) (addr : Nat) (v : W32) (hF : orig.follows s) :
    orig.follows (replayWrite s addr v) := by
  unfold replayWrite
  repeat' (first | with_reducible assumption | with_reducible apply mstCmd_follows | with_reducible apply storeWord_follows | with_reducible apply silenceActs_follows | (dsimp only [State.follows_mk]; change State.follows _ _) | with_reducible apply State.follows.forEach | with_reducible apply State.follows.foldlFst | with_reducible apply State.follows.foldl | split | dsimp only | intro _ | decide)

theorem replay_follows {orig : State} (f : Frozen) (s : State) (i : WaxItem) (hF : orig.follows s) :
    orig.follows (replay f s i) := by
  unfold replay
  repeat' (first | with_reducible assumption | with_reducible apply takeRec_follows | with_reducible apply lostStall_follows | with_reducible apply setChan_follows | with_reducible apply takeSnap_follows | with_reducible apply setMot_follows | with_reducible apply setSol_follows | with_reducible apply report_follows | with_reducible apply replayWrite_follows | with_reducible apply applyPatch_follows | with_reducible apply takeMaps_follows | (dsimp only [State.follows_mk]; change State.follows _ _) | with_reducible apply State.follows.forEach | with_reducible apply State.follows.foldlFst | with_reducible apply State.follows.foldl | split | dsimp only | intro _ | decide)

theorem rltState_follows {orig : State} (s : State) (k : KeyImage) (frame : Nat) (hF : orig.follows s) :
    orig.follows (rltState s k frame) := by
  unfold rltState
  repeat' (first | with_reducible assumption | with_reducible apply withImage_follows | (dsimp only [State.follows_mk]; change State.follows _ _) | with_reducible apply State.follows.forEach | with_reducible apply State.follows.foldlFst | with_reducible apply State.follows.foldl | split | dsimp only | intro _ | decide)

theorem rltEngine_follows {orig : State} (aborts : List (Nat × Nat)) (s : State) (e : Nat) (hF : orig.follows s) :
    orig.follows (rltEngine aborts s e) := by
  unfold rltEngine
  repeat' (first | with_reducible assumption | with_reducible apply runInst_follows | with_reducible apply modWax_follows | (dsimp only [State.follows_mk]; change State.follows _ _) | with_reducible apply State.follows.forEach | with_reducible apply State.follows.foldlFst | with_reducible apply State.follows.foldl | split | dsimp only | intro _ | decide)

theorem rltEgress_follows {orig : State} (s : State) (hF : orig.follows s) :
    orig.follows (rltEgress s) := by
  unfold rltEgress
  repeat' (first | with_reducible assumption | with_reducible apply egressBsk_follows | (dsimp only [State.follows_mk]; change State.follows _ _) | with_reducible apply State.follows.forEach | with_reducible apply State.follows.foldlFst | with_reducible apply State.follows.foldl | split | dsimp only | intro _ | decide)

theorem rltRun_follows {orig : State} (f : Frozen) (s : State) (k : KeyImage) (r : FrameRec) (next : Option (Bool × FrameRec)) (hF : orig.follows s) :
    orig.follows (rltRun f s k r next) := by
  unfold rltRun
  repeat' (first | with_reducible assumption | with_reducible apply rltState_follows | with_reducible apply advanceSnap_follows | with_reducible apply replay_follows | with_reducible apply freezeTrack_follows | with_reducible apply closeInputs_follows | with_reducible apply releaseCmds_follows | with_reducible apply rltEgress_follows | with_reducible apply endRetiring_follows | with_reducible apply touchCols_follows | with_reducible apply rltEngine_follows | (dsimp only [State.follows_mk]; change State.follows _ _) | with_reducible apply State.follows.forEach | with_reducible apply State.follows.foldlFst | with_reducible apply State.follows.foldl | split | dsimp only | intro _ | decide)

theorem rltFrame_follows {orig : State} (s : State) (hF : orig.follows s) :
    orig.follows (rltFrame s) := by
  unfold rltFrame
  repeat' (first | with_reducible assumption | with_reducible apply rltStop_follows | with_reducible apply rltRun_follows | with_reducible apply modRlt_follows | with_reducible apply stick_follows | (dsimp only [State.follows_mk]; change State.follows _ _) | with_reducible apply State.follows.forEach | with_reducible apply State.follows.foldlFst | with_reducible apply State.follows.foldl | split | dsimp only | intro _ | decide)

theorem execRelightFrame_follows {orig : State} (t : Ns) (s : State) (hF : orig.follows s) : Out.follows orig (execRelightFrame t s) := by
  unfold execRelightFrame
  repeat' (first | with_reducible assumption | with_reducible apply Out.follows.next | with_reducible apply setNow_follows | with_reducible apply rltFrame_follows | (dsimp only [State.follows_mk]; change State.follows _ _) | with_reducible apply State.follows.forEach | with_reducible apply State.follows.foldlFst | with_reducible apply State.follows.foldl | split | dsimp only | intro _ | decide)

theorem rltGo_follows {orig : State} (s : State) (hF : orig.follows s) :
    orig.follows (rltGo s) := by
  unfold rltGo
  repeat' (first | with_reducible assumption | with_reducible apply modRlt_follows | (dsimp only [State.follows_mk]; change State.follows _ _) | with_reducible apply State.follows.forEach | with_reducible apply State.follows.foldlFst | with_reducible apply State.follows.foldl | split | dsimp only | intro _ | decide)

theorem execRltRun_follows {orig : State} (s : State) (hF : orig.follows s) : Out.follows orig (execRltRun s) := by
  unfold execRltRun
  repeat' (first | with_reducible assumption | with_reducible apply Out.follows.next | with_reducible apply rltGo_follows | (dsimp only [State.follows_mk]; change State.follows _ _) | with_reducible apply State.follows.forEach | with_reducible apply State.follows.foldlFst | with_reducible apply State.follows.foldl | split | dsimp only | intro _ | decide)

theorem rltPause_follows {orig : State} (s : State) (hF : orig.follows s) :
    orig.follows (rltPause s) := by
  unfold rltPause
  repeat' (first | with_reducible assumption | with_reducible apply modRlt_follows | (dsimp only [State.follows_mk]; change State.follows _ _) | with_reducible apply State.follows.forEach | with_reducible apply State.follows.foldlFst | with_reducible apply State.follows.foldl | split | dsimp only | intro _ | decide)

theorem execRltPause_follows {orig : State} (s : State) (hF : orig.follows s) : Out.follows orig (execRltPause s) := by
  unfold execRltPause
  repeat' (first | with_reducible assumption | with_reducible apply Out.follows.next | with_reducible apply rltPause_follows | (dsimp only [State.follows_mk]; change State.follows _ _) | with_reducible apply State.follows.forEach | with_reducible apply State.follows.foldlFst | with_reducible apply State.follows.foldl | split | dsimp only | intro _ | decide)

theorem rltStep_follows {orig : State} (s : State) (hF : orig.follows s) :
    orig.follows (rltStep s) := by
  unfold rltStep
  repeat' (first | with_reducible assumption | with_reducible apply rltFrame_follows | with_reducible apply modRlt_follows | (dsimp only [State.follows_mk]; change State.follows _ _) | with_reducible apply State.follows.forEach | with_reducible apply State.follows.foldlFst | with_reducible apply State.follows.foldl | split | dsimp only | intro _ | decide)

theorem execRltStep_follows {orig : State} (s : State) (hF : orig.follows s) : Out.follows orig (execRltStep s) := by
  unfold execRltStep
  repeat' (first | with_reducible assumption | with_reducible apply Out.follows.next | with_reducible apply rltStep_follows | (dsimp only [State.follows_mk]; change State.follows _ _) | with_reducible apply State.follows.forEach | with_reducible apply State.follows.foldlFst | with_reducible apply State.follows.foldl | split | dsimp only | intro _ | decide)

theorem rltAbort_follows {orig : State} (s : State) (hF : orig.follows s) :
    orig.follows (rltAbort s) := by
  unfold rltAbort
  repeat' (first | with_reducible assumption | with_reducible apply logEv_follows | with_reducible apply modRlt_follows | with_reducible apply regate_follows | (dsimp only [State.follows_mk]; change State.follows _ _) | with_reducible apply State.follows.forEach | with_reducible apply State.follows.foldlFst | with_reducible apply State.follows.foldl | split | dsimp only | intro _ | decide)

theorem execRltAbort_follows {orig : State} (s : State) (hF : orig.follows s) : Out.follows orig (execRltAbort s) := by
  unfold execRltAbort
  repeat' (first | with_reducible assumption | with_reducible apply Out.follows.next | with_reducible apply rltAbort_follows | (dsimp only [State.follows_mk]; change State.follows _ _) | with_reducible apply State.follows.forEach | with_reducible apply State.follows.foldlFst | with_reducible apply State.follows.foldl | split | dsimp only | intro _ | decide)

end Sys2Proof.Machine
end

