-- ==== Sys2Proof/Laws/FollowsBoot.lean ====
section
/-!
SUPPORT. Every operation of Machine/Boot.lean keeps `State.follows`: it leaves the queue alone, the recorder follows, no floor and
no epoch falls, and SAFE_OUT_N stays as R403 has it.
-/
namespace Sys2Proof.Machine

open Sys2Proof

theorem endDormant_follows {orig : State} (s : State) (hF : orig.follows s) :
    orig.follows (endDormant s) := by
  unfold endDormant
  repeat' (first | with_reducible assumption | with_reducible apply safeOut_modSnf_follows | with_reducible apply safeOut_follows | with_reducible apply modSnf_follows | (dsimp only [State.follows_mk]; change State.follows _ _) | with_reducible apply State.follows.forEach | with_reducible apply State.follows.foldlFst | with_reducible apply State.follows.foldl | split | dsimp only | exact fun h => h | (intro h; split <;> exact h) | intro _ | decide)

theorem coreReturn_follows {orig : State} (s : State) (hF : orig.follows s) :
    orig.follows (coreReturn s) := by
  unfold coreReturn
  repeat' (first | with_reducible assumption | with_reducible apply modSnf_follows | with_reducible apply endDormant_follows | with_reducible apply setHold_follows | (dsimp only [State.follows_mk]; change State.follows _ _) | with_reducible apply State.follows.forEach | with_reducible apply State.follows.foldlFst | with_reducible apply State.follows.foldl | split | dsimp only | exact fun h => h | (intro h; split <;> exact h) | intro _ | decide)

theorem execCorePowerReturn_follows {orig : State} (t : Ns) (s : State) (hF : orig.follows s) : Out.follows orig (execCorePowerReturn t s) := by
  unfold execCorePowerReturn
  repeat' (first | with_reducible assumption | with_reducible apply Out.follows.next | with_reducible apply setNow_follows | with_reducible apply coreReturn_follows | (dsimp only [State.follows_mk]; change State.follows _ _) | with_reducible apply State.follows.forEach | with_reducible apply State.follows.foldlFst | with_reducible apply State.follows.foldl | split | dsimp only | intro _ | decide)

theorem execPowerGood_follows {orig : State} (t : Ns) (inOrder : Bool) (s : State) (hF : orig.follows s) : Out.follows orig (execPowerGood t inOrder s) := by
  unfold execPowerGood
  repeat' (first | with_reducible assumption | with_reducible apply Out.follows.next | with_reducible apply setNow_follows | with_reducible apply coreReturn_follows | with_reducible apply logEv_follows | with_reducible apply stick_follows | with_reducible apply startBoot_follows | (dsimp only [State.follows_mk]; change State.follows _ _) | with_reducible apply State.follows.forEach | with_reducible apply State.follows.foldlFst | with_reducible apply State.follows.foldl | split | dsimp only | intro _ | decide)

theorem wakeWickState_follows {orig : State} (s : State) (w : Nat) (hF : orig.follows s) :
    orig.follows (wakeWickState s w) := by
  unfold wakeWickState
  repeat' (first | with_reducible assumption | with_reducible apply setWick_follows | with_reducible apply stick_follows | with_reducible apply wickStart_follows | (dsimp only [State.follows_mk]; change State.follows _ _) | with_reducible apply State.follows.forEach | with_reducible apply State.follows.foldlFst | with_reducible apply State.follows.foldl | split | dsimp only | intro _ | decide)

theorem wakeWicks_follows {orig : State} (s : State) (hF : orig.follows s) :
    orig.follows (wakeWicks s) := by
  unfold wakeWicks
  repeat' (first | with_reducible assumption | with_reducible apply modSnf_follows | with_reducible apply wakeWickState_follows | with_reducible apply stick_follows | (dsimp only [State.follows_mk]; change State.follows _ _) | with_reducible apply State.follows.forEach | with_reducible apply State.follows.foldlFst | with_reducible apply State.follows.foldl | split | dsimp only | exact fun h => h | (intro h; split <;> exact h) | intro _ | decide)

theorem execCorePllLock_follows {orig : State} (t : Ns) (otpOk : Bool) (s : State) (hF : orig.follows s) : Out.follows orig (execCorePllLock t otpOk s) := by
  unfold execCorePllLock
  repeat' (first | with_reducible assumption | with_reducible apply Out.follows.next | with_reducible apply setNow_follows | with_reducible apply bootStage_follows | with_reducible apply wakeWicks_follows | with_reducible apply logEv_follows | (dsimp only [State.follows_mk]; change State.follows _ _) | with_reducible apply State.follows.forEach | with_reducible apply State.follows.foldlFst | with_reducible apply State.follows.foldl | split | dsimp only | intro _ | decide)

theorem bootFw_follows {orig : State} (s : State) (hF : orig.follows s) :
    orig.follows (bootFw s) := by
  unfold bootFw
  repeat' (first | with_reducible assumption | with_reducible apply bootStage_follows | with_reducible apply logEv_follows | with_reducible apply modMgt_follows | (dsimp only [State.follows_mk]; change State.follows _ _) | with_reducible apply State.follows.forEach | with_reducible apply State.follows.foldlFst | with_reducible apply State.follows.foldl | split | dsimp only | exact fun _ => ⟨Nat.le_refl _, Nat.le_refl _⟩ | exact fun _ => ⟨Nat.le_max_left _ _, Nat.le_refl _⟩ | exact fun _ => ⟨Nat.le_refl _, Nat.le_max_left _ _⟩ | (intro m; dsimp only; split <;> exact ⟨Nat.le_refl _, Nat.le_refl _⟩) | exact ⟨Nat.le_refl _, Nat.le_refl _⟩ | intro _ | decide)

theorem fwFallback_follows {orig : State} (s : State) (hF : orig.follows s) :
    orig.follows (fwFallback s) := by
  unfold fwFallback
  repeat' (first | with_reducible assumption | with_reducible apply modMgt_follows | with_reducible apply stick_follows | with_reducible apply setFw_follows | with_reducible apply bootFw_follows | (dsimp only [State.follows_mk]; change State.follows _ _) | with_reducible apply State.follows.forEach | with_reducible apply State.follows.foldlFst | with_reducible apply State.follows.foldl | split | dsimp only | exact fun _ => ⟨Nat.le_refl _, Nat.le_refl _⟩ | exact fun _ => ⟨Nat.le_max_left _ _, Nat.le_refl _⟩ | exact fun _ => ⟨Nat.le_refl _, Nat.le_max_left _ _⟩ | (intro m; dsimp only; split <;> exact ⟨Nat.le_refl _, Nat.le_refl _⟩) | exact ⟨Nat.le_refl _, Nat.le_refl _⟩ | intro _ | decide)

theorem fwSelect_follows {orig : State} (s : State) (hF : orig.follows s) :
    orig.follows (fwSelect s) := by
  unfold fwSelect
  repeat' (first | with_reducible assumption | with_reducible apply fwFallback_follows | with_reducible apply bootFw_follows | with_reducible apply modMgt_follows | (dsimp only [State.follows_mk]; change State.follows _ _) | with_reducible apply State.follows.forEach | with_reducible apply State.follows.foldlFst | with_reducible apply State.follows.foldl | split | dsimp only | exact fun _ => ⟨Nat.le_refl _, Nat.le_refl _⟩ | exact fun _ => ⟨Nat.le_max_left _ _, Nat.le_refl _⟩ | exact fun _ => ⟨Nat.le_refl _, Nat.le_max_left _ _⟩ | (intro m; dsimp only; split <;> exact ⟨Nat.le_refl _, Nat.le_refl _⟩) | exact ⟨Nat.le_refl _, Nat.le_refl _⟩ | intro _ | decide)

theorem execFirmwareSelect_follows {orig : State} (t : Ns) (s : State) (hF : orig.follows s) : Out.follows orig (execFirmwareSelect t s) := by
  unfold execFirmwareSelect
  repeat' (first | with_reducible assumption | with_reducible apply Out.follows.next | with_reducible apply setNow_follows | with_reducible apply fwSelect_follows | (dsimp only [State.follows_mk]; change State.follows _ _) | with_reducible apply State.follows.forEach | with_reducible apply State.follows.foldlFst | with_reducible apply State.follows.foldl | split | dsimp only | intro _ | decide)

theorem tellTallyLost_follows {orig : State} (s : State) (hF : orig.follows s) :
    orig.follows (tellTallyLost s) := by
  unfold tellTallyLost
  repeat' (first | with_reducible assumption | with_reducible apply stick_follows | with_reducible apply logRaw_follows | (dsimp only [State.follows_mk]; change State.follows _ _) | with_reducible apply State.follows.forEach | with_reducible apply State.follows.foldlFst | with_reducible apply State.follows.foldl | split | dsimp only | intro _ | decide)

theorem execDramTrained_follows {orig : State} (t : Ns) (s : State) (hF : orig.follows s) : Out.follows orig (execDramTrained t s) := by
  unfold execDramTrained
  repeat' (first | with_reducible assumption | with_reducible apply Out.follows.next | with_reducible apply setNow_follows | with_reducible apply tellTallyLost_follows | with_reducible apply restoreRing_follows | with_reducible apply bootStage_follows | with_reducible apply modSnf_follows | (dsimp only [State.follows_mk]; change State.follows _ _) | with_reducible apply State.follows.forEach | with_reducible apply State.follows.foldlFst | with_reducible apply State.follows.foldl | split | dsimp only | exact fun h => h | (intro h; split <;> exact h) | intro _ | decide)

theorem execStreamLoad_follows {orig : State} (t : Ns) (s : State) (hF : orig.follows s) : Out.follows orig (execStreamLoad t s) := by
  unfold execStreamLoad
  repeat' (first | with_reducible assumption | with_reducible apply Out.follows.next | with_reducible apply setNow_follows | with_reducible apply loadStream_follows | with_reducible apply bootStage_follows | (dsimp only [State.follows_mk]; change State.follows _ _) | with_reducible apply State.follows.forEach | with_reducible apply State.follows.foldlFst | with_reducible apply State.follows.foldl | split | dsimp only | intro _ | decide)

theorem execPatchChainApply_follows {orig : State} (t : Ns) (s : State) (hF : orig.follows s) : Out.follows orig (execPatchChainApply t s) := by
  unfold execPatchChainApply
  repeat' (first | with_reducible assumption | with_reducible apply Out.follows.next | with_reducible apply setNow_follows | with_reducible apply bootStage_follows | with_reducible apply applyChain_follows | (dsimp only [State.follows_mk]; change State.follows _ _) | with_reducible apply State.follows.forEach | with_reducible apply State.follows.foldlFst | with_reducible apply State.follows.foldl | split | dsimp only | intro _ | decide)

theorem clearWickWords_follows {orig : State} (s : State) (hF : orig.follows s) :
    orig.follows (clearWickWords s) := by
  unfold clearWickWords
  repeat' (first | with_reducible assumption | with_reducible apply setRegW_follows | (dsimp only [State.follows_mk]; change State.follows _ _) | with_reducible apply State.follows.forEach | with_reducible apply State.follows.foldlFst | with_reducible apply State.follows.foldl | split | dsimp only | intro _ | decide)

theorem commitTx_follows {orig : State} (s : State) (n : Nat) (hF : orig.follows s) :
    orig.follows (commitTx s n) := by
  unfold commitTx
  repeat' (first | with_reducible assumption | with_reducible apply setTx_follows | (dsimp only [State.follows_mk]; change State.follows _ _) | with_reducible apply State.follows.forEach | with_reducible apply State.follows.foldlFst | with_reducible apply State.follows.foldl | split | dsimp only | intro _ | decide)

theorem commitHomed_follows {orig : State} (s : State) (w : Nat) (hF : orig.follows s) :
    orig.follows (commitHomed s w) := by
  unfold commitHomed
  repeat' (first | with_reducible assumption | with_reducible apply setWick_follows | with_reducible apply dropHomed_follows | (dsimp only [State.follows_mk]; change State.follows _ _) | with_reducible apply State.follows.forEach | with_reducible apply State.follows.foldlFst | with_reducible apply State.follows.foldl | split | dsimp only | intro _ | decide)

theorem commitMember_follows {orig : State} (s : State) (hF : orig.follows s) :
    orig.follows (commitMember s) := by
  unfold commitMember
  repeat' (first | with_reducible assumption | with_reducible apply modMkt_follows | (dsimp only [State.follows_mk]; change State.follows _ _) | with_reducible apply State.follows.forEach | with_reducible apply State.follows.foldlFst | with_reducible apply State.follows.foldl | split | dsimp only | intro _ | decide)

theorem commitCol_follows {orig : State} (s : State) (c : Nat) (hF : orig.follows s) :
    orig.follows (commitCol s c) := by
  unfold commitCol
  repeat' (first | with_reducible assumption | with_reducible apply setCol_follows | (dsimp only [State.follows_mk]; change State.follows _ _) | with_reducible apply State.follows.forEach | with_reducible apply State.follows.foldlFst | with_reducible apply State.follows.foldl | split | dsimp only | intro _ | decide)

theorem noteCommit_follows {orig : State} (s : State) (hF : orig.follows s) :
    orig.follows (noteCommit s) := by
  unfold noteCommit
  repeat' (first | with_reducible assumption | with_reducible apply modHld_follows | with_reducible apply modMgt_follows | (dsimp only [State.follows_mk]; change State.follows _ _) | with_reducible apply State.follows.forEach | with_reducible apply State.follows.foldlFst | with_reducible apply State.follows.foldl | split | dsimp only | exact fun _ => ⟨Nat.le_refl _, Nat.le_refl _⟩ | exact fun _ => ⟨Nat.le_max_left _ _, Nat.le_refl _⟩ | exact fun _ => ⟨Nat.le_refl _, Nat.le_max_left _ _⟩ | (intro m; dsimp only; split <;> exact ⟨Nat.le_refl _, Nat.le_refl _⟩) | exact ⟨Nat.le_refl _, Nat.le_refl _⟩ | intro _ | decide)

theorem commit_follows {orig : State} (s : State) (x : Structure) (hF : orig.follows s) :
    orig.follows (commit s x) := by
  unfold commit
  have k : ∀ u : State, orig.follows u → orig.follows { u with rfF := u.rf } := fun _ h => h
  repeat' (first | with_reducible assumption | exact fun _ => Nat.le_refl _ | exact fun h => h | intro _ | with_reducible apply k | with_reducible apply noteCommit_follows | with_reducible apply install_follows | with_reducible apply clearWickWords_follows | with_reducible apply commitHomed_follows | with_reducible apply wickStart_follows | with_reducible apply commitCol_follows | with_reducible apply commitTx_follows | with_reducible apply noteConst_follows | with_reducible apply selectTable_follows | with_reducible apply setAis_follows | with_reducible apply commitMember_follows | with_reducible apply pairEnter_follows | with_reducible apply modSnf_follows | with_reducible apply setRowClocks_follows | with_reducible apply State.follows.forEach | with_reducible apply State.follows.foldlFst | with_reducible apply State.follows.foldl | with_reducible apply State.follows.iteFst | with_reducible apply State.follows.ite)

theorem execStreamCommit_follows {orig : State} (t : Ns) (s : State) (hF : orig.follows s) : Out.follows orig (execStreamCommit t s) := by
  unfold execStreamCommit
  repeat' (first | with_reducible assumption | with_reducible apply Out.follows.next | with_reducible apply setNow_follows | with_reducible apply irqBoot_follows | with_reducible apply bootStage_follows | with_reducible apply commit_follows | (dsimp only [State.follows_mk]; change State.follows _ _) | with_reducible apply State.follows.forEach | with_reducible apply State.follows.foldlFst | with_reducible apply State.follows.foldl | split | dsimp only | intro _ | decide)

theorem pairStart_follows {orig : State} (s : State) (hF : orig.follows s) :
    orig.follows (pairStart s) := by
  unfold pairStart
  repeat' (first | with_reducible assumption | with_reducible apply logEv_follows | with_reducible apply pairWait_follows | with_reducible apply pairSnuff_follows | (dsimp only [State.follows_mk]; change State.follows _ _) | with_reducible apply State.follows.forEach | with_reducible apply State.follows.foldlFst | with_reducible apply State.follows.foldl | split | dsimp only | intro _ | decide)

theorem execRestoreComplete_follows {orig : State} (t : Ns) (s : State) (hF : orig.follows s) : Out.follows orig (execRestoreComplete t s) := by
  unfold execRestoreComplete
  repeat' (first | with_reducible assumption | with_reducible apply Out.follows.next | with_reducible apply setNow_follows | with_reducible apply restoreDry_follows | with_reducible apply restoreCol_follows | with_reducible apply setAis_follows | with_reducible apply pairStart_follows | with_reducible apply modSnf_follows | with_reducible apply bootStage_follows | (dsimp only [State.follows_mk]; change State.follows _ _) | with_reducible apply State.follows.forEach | with_reducible apply State.follows.foldlFst | with_reducible apply State.follows.foldl | split | dsimp only | exact fun h => h | (intro h; split <;> exact h) | intro _ | decide)

theorem enableOutputs_follows {orig : State} (s : State) (hF : orig.follows s) :
    orig.follows (enableOutputs s) := by
  have k : ∀ (f : SnfState → SnfState) (u : State), State.follows (modSnf (bootStage s 8) f) u → orig.follows (safeOut u) :=
    fun f u h => State.follows.viaSnf (f (bootStage s 8).snf) (bootStage_follows _ _ hF) (safeOut_follows _ h) (safeOut_right _)
  have g : ∀ (f : SnfState → SnfState) (u : State) (y : GlbState), State.follows (modSnf (bootStage s 8) f) u →
      orig.follows (safeOut { u with glb := y }) := fun f u y h => k f _ h
  have l : ∀ (v : State) (y : LltState), State.follows v { v with llt := y } := fun v y => State.follows.refl v
  unfold enableOutputs
  repeat' (first | with_reducible assumption | exact fun _ => Nat.le_refl _ | exact fun h => h | intro _ | with_reducible apply setOwn_follows | with_reducible apply modPair_follows | with_reducible apply regate_follows | with_reducible apply g | with_reducible apply solEnable_follows | with_reducible apply l | with_reducible apply State.follows.forEach | with_reducible apply State.follows.foldlFst | with_reducible apply State.follows.foldl | with_reducible apply State.follows.iteFst | with_reducible apply State.follows.ite)

theorem execOutputEnable_follows {orig : State} (t : Ns) (s : State) (hF : orig.follows s) : Out.follows orig (execOutputEnable t s) := by
  unfold execOutputEnable
  repeat' (first | with_reducible assumption | with_reducible apply Out.follows.next | with_reducible apply setNow_follows | with_reducible apply modSnf_follows | with_reducible apply enableOutputs_follows | (dsimp only [State.follows_mk]; change State.follows _ _) | with_reducible apply State.follows.forEach | with_reducible apply State.follows.foldlFst | with_reducible apply State.follows.foldl | split | dsimp only | exact fun h => h | (intro h; split <;> exact h) | intro _ | decide)

theorem lowLands_follows {orig : State} (s : State) (hF : orig.follows s) :
    orig.follows (lowLands s) := by
  unfold lowLands
  repeat' (first | with_reducible assumption | with_reducible apply snufferTrigger_follows | with_reducible apply setHold_follows | (dsimp only [State.follows_mk]; change State.follows _ _) | with_reducible apply State.follows.forEach | with_reducible apply State.follows.foldlFst | with_reducible apply State.follows.foldl | split | dsimp only | intro _ | decide)

theorem thermalByReset_follows {orig : State} (s : State) (hF : orig.follows s) :
    orig.follows (thermalByReset s) := by
  unfold thermalByReset
  repeat' (first | with_reducible assumption | with_reducible apply noteRestart_follows | with_reducible apply modHist_follows | (dsimp only [State.follows_mk]; change State.follows _ _) | with_reducible apply State.follows.forEach | with_reducible apply State.follows.foldlFst | with_reducible apply State.follows.foldl | split | dsimp only | intro _ | decide)

theorem sampleStraps_follows {orig : State} (s : State) (straps : Nat) (hF : orig.follows s) :
    orig.follows (sampleStraps s straps) := by
  unfold sampleStraps
  repeat' (first | with_reducible assumption | with_reducible apply modPair_follows | with_reducible apply modSnf_follows | (dsimp only [State.follows_mk]; change State.follows _ _) | with_reducible apply State.follows.forEach | with_reducible apply State.follows.foldlFst | with_reducible apply State.follows.foldl | split | dsimp only | exact fun _ => Nat.le_refl _ | exact fun _ => Nat.le_max_left _ _ | exact fun _ => Nat.le_succ_of_le (Nat.le_max_left _ _) | (intro m; dsimp only; split <;> exact Nat.le_refl _) | exact fun h => h | (intro h; split <;> exact h) | intro _ | decide)

theorem auxClear_follows {orig : State} (s : State) (hF : orig.follows s) :
    orig.follows (auxClear s) := by
  unfold auxClear
  repeat' (first | with_reducible assumption | (dsimp only [State.follows_mk]; change State.follows _ _) | with_reducible apply State.follows.forEach | with_reducible apply State.follows.foldlFst | with_reducible apply State.follows.foldl | split | dsimp only | intro _ | decide)

theorem auxTx_follows {orig : State} (s : State) (straps : Nat) (hF : orig.follows s) :
    orig.follows (auxTx s straps) := by
  unfold auxTx
  repeat' (first | with_reducible assumption | with_reducible apply setTx_follows | (dsimp only [State.follows_mk]; change State.follows _ _) | with_reducible apply State.follows.forEach | with_reducible apply State.follows.foldlFst | with_reducible apply State.follows.foldl | split | dsimp only | intro _ | decide)

theorem auxPor_follows {orig : State} (s : State) (straps : Nat) (hF : orig.follows s) :
    orig.follows (auxPor s straps) := by
  have k : orig.follows (coreDown s false) := coreDown_follows _ _ hF
  have k1 : orig.follows (sampleStraps (coreDown s false) straps) := sampleStraps_follows _ _ k
  unfold auxPor
  have k2 : ∀ f, (∀ m : MgtState, m.floorFw ≤ (f m).floorFw ∧ m.floorStr ≤ (f m).floorStr) → orig.follows (auxTx (auxClear (modMgt
      { sampleStraps (coreDown s false) straps with snf := auxSnf (sampleStraps (coreDown s false) straps).snf straps } f)) straps) :=
    fun f hf => auxTx_follows _ _ (auxClear_follows _ (modMgt_follows _ _ hf (State.follows.viaSnf _ k1 (.refl _) rfl)))
  have k3 : ∀ u (w : WaxState) (g : GlbState) (y : ThrState), orig.follows u → orig.follows { u with wax := w, glb := g, thr := y } :=
    fun _ _ _ _ h => h
  refine lowLands_follows _ (State.follows.ite (stick_follows _ _ _ _ ?_) ?_)
  all_goals exact thermalByReset_follows _ (k3 _ _ _ _ (k2 _ (fun _ => ⟨Nat.le_refl _, Nat.le_refl _⟩)))

theorem execAuxPor_follows {orig : State} (t : Ns) (straps : Fin 32) (s : State) (hF : orig.follows s) : Out.follows orig (execAuxPor t straps s) := by
  unfold execAuxPor
  repeat' (first | with_reducible assumption | with_reducible apply Out.follows.next | with_reducible apply auxPor_follows | with_reducible apply setNow_follows | (dsimp only [State.follows_mk]; change State.follows _ _) | with_reducible apply State.follows.forEach | with_reducible apply State.follows.foldlFst | with_reducible apply State.follows.foldl | split | dsimp only | intro _ | decide)

theorem sysAon_follows {orig : State} (s : State) (hF : orig.follows s) :
    orig.follows (sysAon s) := by
  unfold sysAon
  repeat' (first | with_reducible assumption | with_reducible apply endDormant_follows | with_reducible apply modSnf_follows | with_reducible apply setRegW_follows | (dsimp only [State.follows_mk]; change State.follows _ _) | with_reducible apply State.follows.forEach | with_reducible apply State.follows.foldlFst | with_reducible apply State.follows.foldl | split | dsimp only | exact fun h => h | (intro h; split <;> exact h) | intro _ | decide)

theorem sysReset_follows {orig : State} (s : State) (straps : Nat) (hF : orig.follows s) :
    orig.follows (sysReset s straps) := by
  unfold sysReset
  repeat' (first | with_reducible assumption | with_reducible apply commitRecord_follows | with_reducible apply sampleStraps_follows | with_reducible apply coreDown_follows | with_reducible apply modSnf_follows | with_reducible apply sysAon_follows | with_reducible apply snufferRelease_follows | with_reducible apply thermalByReset_follows | with_reducible apply startBoot_follows | (dsimp only [State.follows_mk]; change State.follows _ _) | with_reducible apply State.follows.forEach | with_reducible apply State.follows.foldlFst | with_reducible apply State.follows.foldl | split | dsimp only | exact fun h => h | (intro h; split <;> exact h) | intro _ | decide)

theorem execSysReset_follows {orig : State} (t : Ns) (straps : Fin 32) (s : State) (hF : orig.follows s) : Out.follows orig (execSysReset t straps s) := by
  unfold execSysReset
  repeat' (first | with_reducible assumption | with_reducible apply Out.follows.next | with_reducible apply setNow_follows | with_reducible apply sysReset_follows | (dsimp only [State.follows_mk]; change State.follows _ _) | with_reducible apply State.follows.forEach | with_reducible apply State.follows.foldlFst | with_reducible apply State.follows.foldl | split | dsimp only | intro _ | decide)

theorem snfDormant_follows {orig : State} (s : State) (hF : orig.follows s) :
    orig.follows (snfDormant s) := by
  unfold snfDormant
  repeat' (first | with_reducible assumption | with_reducible apply safeOut_modSnf_follows | with_reducible apply snfResult_follows | with_reducible apply safeOut_follows | with_reducible apply modSnf_follows | with_reducible apply disableOutputs_follows | (dsimp only [State.follows_mk]; change State.follows _ _) | with_reducible apply State.follows.forEach | with_reducible apply State.follows.foldlFst | with_reducible apply State.follows.foldl | split | dsimp only | exact fun h => h | (intro h; split <;> exact h) | intro _ | decide)

theorem execSnfDormant_follows {orig : State} (s : State) (hF : orig.follows s) : Out.follows orig (execSnfDormant s) := by
  unfold execSnfDormant
  repeat' (first | with_reducible assumption | with_reducible apply Out.follows.next | with_reducible apply snfDormant_follows | (dsimp only [State.follows_mk]; change State.follows _ _) | with_reducible apply State.follows.forEach | with_reducible apply State.follows.foldlFst | with_reducible apply State.follows.foldl | split | dsimp only | intro _ | decide)

theorem dormCkpt_follows {orig : State} (s : State) (c : Nat) (hF : orig.follows s) :
    orig.follows (dormCkpt s c) := by
  unfold dormCkpt
  repeat' (first | with_reducible assumption | with_reducible apply dryCapture_follows | with_reducible apply setCol_follows | (dsimp only [State.follows_mk]; change State.follows _ _) | with_reducible apply State.follows.forEach | with_reducible apply State.follows.foldlFst | with_reducible apply State.follows.foldl | split | dsimp only | intro _ | decide)

theorem flushTail_follows {orig : State} (s : State) (hF : orig.follows s) :
    orig.follows (flushTail s) := by
  unfold flushTail
  repeat' (first | with_reducible assumption | with_reducible apply recordWrite_follows | with_reducible apply tailCommit_follows | (dsimp only [State.follows_mk]; change State.follows _ _) | with_reducible apply State.follows.forEach | with_reducible apply State.follows.foldlFst | with_reducible apply State.follows.foldl | split | dsimp only | intro _ | decide)

theorem dormWick_follows {orig : State} (s : State) (w : Nat) (hF : orig.follows s) :
    orig.follows (dormWick s w) := by
  unfold dormWick
  repeat' (first | with_reducible assumption | with_reducible apply setWick_follows | (dsimp only [State.follows_mk]; change State.follows _ _) | with_reducible apply State.follows.forEach | with_reducible apply State.follows.foldlFst | with_reducible apply State.follows.foldl | split | dsimp only | intro _ | decide)

theorem enterDormant_follows {orig : State} (s : State) (hF : orig.follows s) :
    orig.follows (enterDormant s) := by
  have a : ∀ u : State, orig.follows u → orig.follows (modSnf u (fun x => { x with dormEntering := false, pmbus := 0 :: x.pmbus })) :=
    fun u h => modSnf_follows _ _ (fun h => h) h
  unfold enterDormant
  exact safeOut_modSnf_follows _ _ (corePowerOff_follows _ (a _ (.forEach (fun x k h => dormWick_follows x k h)
    (flushTail_follows _ (.forEach (fun x k h => dormCkpt_follows x k h) hF)))))

theorem execDormantEntryComplete_follows {orig : State} (t : Ns) (s : State) (hF : orig.follows s) : Out.follows orig (execDormantEntryComplete t s) := by
  unfold execDormantEntryComplete
  repeat' (first | with_reducible assumption | with_reducible apply Out.follows.next | with_reducible apply setNow_follows | with_reducible apply enterDormant_follows | (dsimp only [State.follows_mk]; change State.follows _ _) | with_reducible apply State.follows.forEach | with_reducible apply State.follows.foldlFst | with_reducible apply State.follows.foldl | split | dsimp only | intro _ | decide)

theorem wakeUp_follows {orig : State} (s : State) (hF : orig.follows s) :
    orig.follows (wakeUp s) := by
  unfold wakeUp
  repeat' (first | with_reducible assumption | with_reducible apply modSnf_follows | (dsimp only [State.follows_mk]; change State.follows _ _) | with_reducible apply State.follows.forEach | with_reducible apply State.follows.foldlFst | with_reducible apply State.follows.foldl | split | dsimp only | exact fun h => h | (intro h; split <;> exact h) | intro _ | decide)

theorem execWakeTimer_follows {orig : State} (t : Ns) (s : State) (hF : orig.follows s) : Out.follows orig (execWakeTimer t s) := by
  unfold execWakeTimer
  repeat' (first | with_reducible assumption | with_reducible apply Out.follows.next | with_reducible apply setNow_follows | with_reducible apply wakeUp_follows | (dsimp only [State.follows_mk]; change State.follows _ _) | with_reducible apply State.follows.forEach | with_reducible apply State.follows.foldlFst | with_reducible apply State.follows.foldl | split | dsimp only | intro _ | decide)

theorem execWakeWick_follows {orig : State} (w : Fin 64) (t : Ns) (s : State) (hF : orig.follows s) : Out.follows orig (execWakeWick w t s) := by
  unfold execWakeWick
  repeat' (first | with_reducible assumption | with_reducible apply Out.follows.next | with_reducible apply setNow_follows | with_reducible apply wakeUp_follows | (dsimp only [State.follows_mk]; change State.follows _ _) | with_reducible apply State.follows.forEach | with_reducible apply State.follows.foldlFst | with_reducible apply State.follows.foldl | split | dsimp only | intro _ | decide)

end Sys2Proof.Machine
end

