-- ==== Sys2Proof/Laws/FollowsAccess.lean ====
section
/-!
SUPPORT. Every operation of Machine/Access.lean keeps `State.follows`: it leaves the queue alone, the recorder follows, no floor and
no epoch falls, and SAFE_OUT_N stays as R403 has it.
-/
namespace Sys2Proof.Machine

open Sys2Proof

theorem endRequest_follows {orig : State} (s : State) (hF : orig.follows s) :
    orig.follows (endRequest s) := by
  unfold endRequest
  repeat' (first | with_reducible assumption | (dsimp only [State.follows_mk]; change State.follows _ _) | with_reducible apply State.follows.forEach | with_reducible apply State.follows.foldlFst | with_reducible apply State.follows.foldl | split | dsimp only | intro _ | decide)

theorem shownState_follows {orig : State} (s : State) (a : Nat) (hF : orig.follows s) :
    orig.follows (shownState s a) := by
  unfold shownState
  repeat' (first | with_reducible assumption | with_reducible apply withImage_follows | (dsimp only [State.follows_mk]; change State.follows _ _) | with_reducible apply State.follows.forEach | with_reducible apply State.follows.foldlFst | with_reducible apply State.follows.foldl | split | dsimp only | intro _ | decide)

theorem readAddr_follows {orig : State} (s : State) (q : Requester) (a : Nat) (hF : orig.follows s) :
    orig.follows (readAddr s q a).1 := by
  unfold readAddr
  repeat' (first | with_reducible assumption | with_reducible apply report_follows | with_reducible apply shownState_follows | with_reducible apply latchWindow_follows | with_reducible apply useFree_follows | (dsimp only [State.follows_mk]; change State.follows _ _) | with_reducible apply State.follows.forEach | with_reducible apply State.follows.foldlFst | with_reducible apply State.follows.foldl | split | dsimp only | intro _ | decide)

theorem readRun_follows {orig : State} (s : State) (q : Requester) (a n : Nat) (hF : orig.follows s) :
    orig.follows (readRun s q a n).1 := by
  induction n generalizing s a with
  | zero => exact hF
  | succ n ih =>
    unfold readRun
    repeat' (first | with_reducible assumption | with_reducible apply ih | with_reducible apply readAddr_follows | (dsimp only [State.follows_mk]; change State.follows _ _) | with_reducible apply State.follows.forEach | with_reducible apply State.follows.foldlFst | with_reducible apply State.follows.foldl | split | dsimp only | intro _ | decide)

theorem lltCmdReg_follows {orig : State} (s : State) (v : W32) (hF : orig.follows s) :
    orig.follows (lltCmdReg s v).1 := by
  unfold lltCmdReg
  repeat' (first | with_reducible assumption | with_reducible apply lltHost_follows | (dsimp only [State.follows_mk]; change State.follows _ _) | with_reducible apply State.follows.forEach | with_reducible apply State.follows.foldlFst | with_reducible apply State.follows.foldl | split | dsimp only | intro _ | decide)

theorem hldCmdReg_follows {orig : State} (s : State) (v : W32) (hF : orig.follows s) :
    orig.follows (hldCmdReg s v) := by
  unfold hldCmdReg
  repeat' (first | with_reducible assumption | with_reducible apply hldValidate_follows | with_reducible apply hldApply_follows | with_reducible apply hldCancel_follows | with_reducible apply hldPersist_follows | with_reducible apply hldDiscard_follows | (dsimp only [State.follows_mk]; change State.follows _ _) | with_reducible apply State.follows.forEach | with_reducible apply State.follows.foldlFst | with_reducible apply State.follows.foldl | split | dsimp only | intro _ | decide)

theorem mgtCmdReg_follows {orig : State} (s : State) (q : Requester) (v : W32) (hF : orig.follows s) :
    orig.follows (mgtCmdReg s q v).1 := by
  unfold mgtCmdReg
  repeat' (first | with_reducible assumption | with_reducible apply imgValidate_follows | with_reducible apply imgLoad_follows | with_reducible apply imgActivate_follows | with_reducible apply imgDiscard_follows | with_reducible apply raiseFloorFw_follows | with_reducible apply raiseFloorStream_follows | with_reducible apply keyInstall_follows | with_reducible apply keyRemove_follows | with_reducible apply enrol_follows | with_reducible apply revoke_follows | with_reducible apply attest_follows | (dsimp only [State.follows_mk]; change State.follows _ _) | with_reducible apply State.follows.forEach | with_reducible apply State.follows.foldlFst | with_reducible apply State.follows.foldl | split | dsimp only | intro _ | decide)

theorem snfCmdReg_follows {orig : State} (s : State) (v : W32) (hF : orig.follows s) :
    orig.follows (snfCmdReg s v) := by
  unfold snfCmdReg
  repeat' (first | with_reducible assumption | with_reducible apply snfSnuff_follows | with_reducible apply snfRelease_follows | with_reducible apply snfCoreReset_follows | with_reducible apply snfDormant_follows | (dsimp only [State.follows_mk]; change State.follows _ _) | with_reducible apply State.follows.forEach | with_reducible apply State.follows.foldlFst | with_reducible apply State.follows.foldl | split | dsimp only | intro _ | decide)

theorem pairCmdReg_follows {orig : State} (s : State) (v : W32) (hF : orig.follows s) :
    orig.follows (pairCmdReg s v) := by
  unfold pairCmdReg
  repeat' (first | with_reducible assumption | with_reducible apply pairClaim_follows | with_reducible apply pairCede_follows | with_reducible apply pairReset_follows | with_reducible apply pairResync_follows | with_reducible apply pairClear_follows | (dsimp only [State.follows_mk]; change State.follows _ _) | with_reducible apply State.follows.forEach | with_reducible apply State.follows.foldlFst | with_reducible apply State.follows.foldl | split | dsimp only | intro _ | decide)

theorem waxCmdReg_follows {orig : State} (s : State) (q : Requester) (v : W32) (hF : orig.follows s) :
    orig.follows (waxCmdReg s q v) := by
  unfold waxCmdReg
  repeat' (first | with_reducible assumption | with_reducible apply waxFreeze_follows | with_reducible apply waxExport_follows | with_reducible apply waxExportStop_follows | with_reducible apply waxImportDone_follows | with_reducible apply waxDiscard_follows | (dsimp only [State.follows_mk]; change State.follows _ _) | with_reducible apply State.follows.forEach | with_reducible apply State.follows.foldlFst | with_reducible apply State.follows.foldl | split | dsimp only | intro _ | decide)

theorem rltCmdReg_follows {orig : State} (s : State) (v : W32) (hF : orig.follows s) :
    orig.follows (rltCmdReg s v) := by
  unfold rltCmdReg
  repeat' (first | with_reducible assumption | with_reducible apply rltPrepare_follows | with_reducible apply rltGo_follows | with_reducible apply rltPause_follows | with_reducible apply rltStep_follows | with_reducible apply rltAbort_follows | (dsimp only [State.follows_mk]; change State.follows _ _) | with_reducible apply State.follows.forEach | with_reducible apply State.follows.foldlFst | with_reducible apply State.follows.foldl | split | dsimp only | intro _ | decide)

theorem mktCmdReg_follows {orig : State} (s : State) (v : W32) (hF : orig.follows s) :
    orig.follows (mktCmdReg s v) := by
  unfold mktCmdReg
  repeat' (first | with_reducible assumption | with_reducible apply stepAccept_follows | with_reducible apply mktClear_follows | (dsimp only [State.follows_mk]; change State.follows _ _) | with_reducible apply State.follows.forEach | with_reducible apply State.follows.foldlFst | with_reducible apply State.follows.foldl | split | dsimp only | intro _ | decide)

theorem deviceCmd_follows {orig : State} (s : State) (q : Requester) (r : RegName) (i : Nat) (v : W32) (hF : orig.follows s) :
    orig.follows (deviceCmd s q r i v).1 := by
  unfold deviceCmd
  repeat' (first | with_reducible assumption | with_reducible apply lltCmdReg_follows | with_reducible apply hldCmdReg_follows | with_reducible apply mgtCmdReg_follows | with_reducible apply modMgt_follows | with_reducible apply snfCmdReg_follows | with_reducible apply pairCmdReg_follows | with_reducible apply waxCmdReg_follows | with_reducible apply rltCmdReg_follows | with_reducible apply mktCmdReg_follows | with_reducible apply talPostRegs_follows | with_reducible apply tallyAck_follows | with_reducible apply evrClear_follows | (dsimp only [State.follows_mk]; change State.follows _ _) | with_reducible apply State.follows.forEach | with_reducible apply State.follows.foldlFst | with_reducible apply State.follows.foldl | split | dsimp only | exact fun _ => ⟨Nat.le_refl _, Nat.le_refl _⟩ | exact fun _ => ⟨Nat.le_max_left _ _, Nat.le_refl _⟩ | exact fun _ => ⟨Nat.le_refl _, Nat.le_max_left _ _⟩ | (intro m; dsimp only; split <;> exact ⟨Nat.le_refl _, Nat.le_refl _⟩) | exact ⟨Nat.le_refl _, Nat.le_refl _⟩ | intro _ | decide)

theorem noteWrite_follows {orig : State} (s : State) (r : RegName) (a : Nat) (v : W32) (hF : orig.follows s) :
    orig.follows (noteWrite s r a v) := by
  unfold noteWrite
  repeat' (first | with_reducible assumption | with_reducible apply addItem_follows | (dsimp only [State.follows_mk]; change State.follows _ _) | with_reducible apply State.follows.forEach | with_reducible apply State.follows.foldlFst | with_reducible apply State.follows.foldl | split | dsimp only | intro _ | decide)

theorem writeOne_follows {orig : State} (s : State) (q : Requester) (p : RegName × Nat × W32) (hF : orig.follows s) :
    orig.follows (writeOne s q p).1 := by
  unfold writeOne
  repeat' (first | with_reducible assumption | with_reducible apply noteWrite_follows | with_reducible apply storeWord_follows | with_reducible apply deviceCmd_follows | (dsimp only [State.follows_mk]; change State.follows _ _) | with_reducible apply State.follows.forEach | with_reducible apply State.follows.foldlFst | with_reducible apply State.follows.foldl | split | dsimp only | intro _ | decide)

theorem reportAll_follows {orig : State} (s : State) (q : Requester) (a : Nat) (l : List Acc) (hF : orig.follows s) :
    orig.follows (reportAll s q a l) := by
  unfold reportAll
  repeat' (first | with_reducible assumption | with_reducible apply report_follows | (dsimp only [State.follows_mk]; change State.follows _ _) | with_reducible apply State.follows.forEach | with_reducible apply State.follows.foldlFst | with_reducible apply State.follows.foldl | split | dsimp only | intro _ | decide)

theorem writeWords_follows {orig : State} (s : State) (q : Requester) (a : Nat) (ws : List (RegName × Nat × W32)) (hF : orig.follows s) :
    orig.follows (writeWords s q a ws).1 := by
  unfold writeWords
  repeat' (first | with_reducible assumption | with_reducible apply report_follows | with_reducible apply writeOne_follows | with_reducible apply reportAll_follows | (dsimp only [State.follows_mk]; change State.follows _ _) | with_reducible apply State.follows.forEach | with_reducible apply State.follows.foldlFst | with_reducible apply State.follows.foldl | split | dsimp only | intro _ | decide)

theorem writeAddr_follows {orig : State} (s : State) (q : Requester) (a : Nat) (v : W32) (hF : orig.follows s) :
    orig.follows (writeAddr s q a v).1 := by
  unfold writeAddr
  repeat' (first | with_reducible assumption | with_reducible apply report_follows | with_reducible apply writeWords_follows | (dsimp only [State.follows_mk]; change State.follows _ _) | with_reducible apply State.follows.forEach | with_reducible apply State.follows.foldlFst | with_reducible apply State.follows.foldl | split | dsimp only | intro _ | decide)

theorem writeRun_follows {orig : State} (s : State) (q : Requester) (a : Nat) (ws : List W32) (hF : orig.follows s) :
    orig.follows (writeRun s q a ws).1 := by
  induction ws generalizing s a with
  | nil => exact hF
  | cons v t ih =>
    unfold writeRun
    repeat' (first | with_reducible assumption | with_reducible apply ih | with_reducible apply writeAddr_follows | (dsimp only [State.follows_mk]; change State.follows _ _) | with_reducible apply State.follows.forEach | with_reducible apply State.follows.foldlFst | with_reducible apply State.follows.foldl | split | dsimp only | intro _ | decide)

theorem execDatagramRead_follows {orig : State} (t : Ns) (d : Dgram) (addr count : Nat) (s : State) (hF : orig.follows s) : Out.follows orig (execDatagramRead t d addr count s) := by
  unfold execDatagramRead
  repeat' (first | with_reducible assumption | with_reducible apply Out.follows.next | with_reducible apply withDgram_follows | with_reducible apply setNow_follows | with_reducible apply readRun_follows | with_reducible apply endRequest_follows | (dsimp only [State.follows_mk]; change State.follows _ _) | with_reducible apply State.follows.forEach | with_reducible apply State.follows.foldlFst | with_reducible apply State.follows.foldl | split | dsimp only | intro _ | decide)

theorem execDatagramWrite_follows {orig : State} (t : Ns) (d : Dgram) (addr : Nat) (ws : List W32) (s : State) (hF : orig.follows s) : Out.follows orig (execDatagramWrite t d addr ws s) := by
  unfold execDatagramWrite
  repeat' (first | with_reducible assumption | with_reducible apply Out.follows.next | with_reducible apply withDgram_follows | with_reducible apply setNow_follows | with_reducible apply report_follows | with_reducible apply writeRun_follows | with_reducible apply endRequest_follows | with_reducible apply noteChange_follows | (dsimp only [State.follows_mk]; change State.follows _ _) | with_reducible apply State.follows.forEach | with_reducible apply State.follows.foldlFst | with_reducible apply State.follows.foldl | split | dsimp only | intro _ | decide)

theorem execPairLowWordRead_follows {orig : State} (addr : Nat) (s : State) (hF : orig.follows s) : Out.follows orig (execPairLowWordRead addr s) := by
  unfold execPairLowWordRead
  repeat' (first | with_reducible assumption | with_reducible apply Out.follows.next | with_reducible apply readAddr_follows | (dsimp only [State.follows_mk]; change State.follows _ _) | with_reducible apply State.follows.forEach | with_reducible apply State.follows.foldlFst | with_reducible apply State.follows.foldl | split | dsimp only | intro _ | decide)

theorem execPairHighWordWrite_follows {orig : State} (addr : Nat) (v : W32) (s : State) (hF : orig.follows s) : Out.follows orig (execPairHighWordWrite addr v s) := by
  unfold execPairHighWordWrite
  repeat' (first | with_reducible assumption | with_reducible apply Out.follows.next | with_reducible apply writeAddr_follows | (dsimp only [State.follows_mk]; change State.follows _ _) | with_reducible apply State.follows.forEach | with_reducible apply State.follows.foldlFst | with_reducible apply State.follows.foldl | split | dsimp only | intro _ | decide)

theorem execRegisterWrite_follows {orig : State} (addr : Nat) (v : W32) (s : State) (hF : orig.follows s) : Out.follows orig (execRegisterWrite addr v s) := by
  unfold execRegisterWrite
  repeat' (first | with_reducible assumption | with_reducible apply Out.follows.next | with_reducible apply writeAddr_follows | (dsimp only [State.follows_mk]; change State.follows _ _) | with_reducible apply State.follows.forEach | with_reducible apply State.follows.foldlFst | with_reducible apply State.follows.foldl | split | dsimp only | intro _ | decide)

end Sys2Proof.Machine
end

