-- ==== Sys2Proof/Laws/FollowsMonitor.lean ====
section
/-!
SUPPORT. Every operation of Machine/Monitor.lean keeps `State.follows`: it leaves the queue alone, the recorder follows, no floor and
no epoch falls, and SAFE_OUT_N stays as R403 has it.
-/
namespace Sys2Proof.Machine

open Sys2Proof

theorem modMon_follows {orig : State} (s : State) (f : MonState → MonState) (hF : orig.follows s) :
    orig.follows (modMon s f) := by
  unfold modMon
  repeat' (first | with_reducible assumption | (dsimp only [State.follows_mk]; change State.follows _ _) | with_reducible apply State.follows.forEach | with_reducible apply State.follows.foldlFst | with_reducible apply State.follows.foldl | split | dsimp only | intro _ | decide)

theorem answer_follows {orig : State} (s : State) (ws : List Nat) (e : MonEnd) (hF : orig.follows s) :
    orig.follows (answer s ws e) := by
  unfold answer
  repeat' (first | with_reducible assumption | with_reducible apply emit_follows | (dsimp only [State.follows_mk]; change State.follows _ _) | with_reducible apply State.follows.forEach | with_reducible apply State.follows.foldlFst | with_reducible apply State.follows.foldl | split | dsimp only | intro _ | decide)

theorem monRefuse_follows {orig : State} (s : State) (e : MonEnd) (hF : orig.follows s) :
    orig.follows (monRefuse s e) := by
  unfold monRefuse
  repeat' (first | with_reducible assumption | with_reducible apply answer_follows | with_reducible apply stick_follows | (dsimp only [State.follows_mk]; change State.follows _ _) | with_reducible apply State.follows.forEach | with_reducible apply State.follows.foldlFst | with_reducible apply State.follows.foldl | split | dsimp only | intro _ | decide)

theorem monLine_follows {orig : State} (s : State) (t : Nat) (f : State → State) (hf : ∀ x, orig.follows x → orig.follows (f x))
    (hF : orig.follows s) : orig.follows (monLine s t f) := by
  unfold monLine
  repeat' (first | with_reducible assumption | with_reducible apply hf | with_reducible apply setNow_follows | with_reducible apply endRequest_follows | with_reducible apply modMon_follows | (dsimp only [State.follows_mk]; change State.follows _ _) | with_reducible apply State.follows.forEach | with_reducible apply State.follows.foldlFst | with_reducible apply State.follows.foldl | split | dsimp only | intro _ | decide)

theorem monLatched_follows {orig : State} (s : State) (t : Nat) (f : State → State × List Nat × MonEnd)
    (hf : ∀ x, orig.follows x → orig.follows (f x).1)
    (hF : orig.follows s) : orig.follows (monLatched s t f) := by
  unfold monLatched
  repeat' (first | with_reducible assumption | with_reducible apply hf | with_reducible apply monLine_follows | with_reducible apply logEv_follows | with_reducible apply answer_follows | with_reducible apply monRefuse_follows | (dsimp only [State.follows_mk]; change State.follows _ _) | with_reducible apply State.follows.forEach | with_reducible apply State.follows.foldlFst | with_reducible apply State.follows.foldl | split | dsimp only | intro _ | decide)

theorem execDuloHelp_follows {orig : State} (t : Ns) (s : State) (hF : orig.follows s) : Out.follows orig (execDuloHelp t s) := by
  unfold execDuloHelp
  repeat' (first | with_reducible assumption | with_reducible apply Out.follows.next | with_reducible apply monLine_follows | with_reducible apply answer_follows | (dsimp only [State.follows_mk]; change State.follows _ _) | with_reducible apply State.follows.forEach | with_reducible apply State.follows.foldlFst | with_reducible apply State.follows.foldl | split | dsimp only | intro _ | decide)

theorem execDuloId_follows {orig : State} (t : Ns) (s : State) (hF : orig.follows s) : Out.follows orig (execDuloId t s) := by
  unfold execDuloId
  repeat' (first | with_reducible assumption | with_reducible apply Out.follows.next | with_reducible apply monLine_follows | with_reducible apply answer_follows | (dsimp only [State.follows_mk]; change State.follows _ _) | with_reducible apply State.follows.forEach | with_reducible apply State.follows.foldlFst | with_reducible apply State.follows.foldl | split | dsimp only | intro _ | decide)

theorem execDuloStatus_follows {orig : State} (t : Ns) (s : State) (hF : orig.follows s) : Out.follows orig (execDuloStatus t s) := by
  unfold execDuloStatus
  repeat' (first | with_reducible assumption | with_reducible apply Out.follows.next | with_reducible apply monLine_follows | with_reducible apply answer_follows | (dsimp only [State.follows_mk]; change State.follows _ _) | with_reducible apply State.follows.forEach | with_reducible apply State.follows.foldlFst | with_reducible apply State.follows.foldl | split | dsimp only | intro _ | decide)

theorem execDuloRd_follows {orig : State} (t : Ns) (addr count : Nat) (s : State) (hF : orig.follows s) : Out.follows orig (execDuloRd t addr count s) := by
  unfold execDuloRd
  repeat' (first | with_reducible assumption | with_reducible apply Out.follows.next | with_reducible apply monLine_follows | with_reducible apply answer_follows | with_reducible apply readRun_follows | with_reducible apply endRequest_follows | (dsimp only [State.follows_mk]; change State.follows _ _) | with_reducible apply State.follows.forEach | with_reducible apply State.follows.foldlFst | with_reducible apply State.follows.foldl | split | dsimp only | intro _ | decide)

theorem execDuloEvr_follows {orig : State} (t : Ns) (count : Nat) (s : State) (hF : orig.follows s) : Out.follows orig (execDuloEvr t count s) := by
  unfold execDuloEvr
  repeat' (first | with_reducible assumption | with_reducible apply Out.follows.next | with_reducible apply monLine_follows | with_reducible apply answer_follows | (dsimp only [State.follows_mk]; change State.follows _ _) | with_reducible apply State.follows.forEach | with_reducible apply State.follows.foldlFst | with_reducible apply State.follows.foldl | split | dsimp only | intro _ | decide)

theorem execDuloSnuff_follows {orig : State} (t : Ns) (s : State) (hF : orig.follows s) : Out.follows orig (execDuloSnuff t s) := by
  unfold execDuloSnuff
  repeat' (first | with_reducible assumption | with_reducible apply Out.follows.next | with_reducible apply monLine_follows | with_reducible apply answer_follows | with_reducible apply snfSnuff_follows | (dsimp only [State.follows_mk]; change State.follows _ _) | with_reducible apply State.follows.forEach | with_reducible apply State.follows.foldlFst | with_reducible apply State.follows.foldl | split | dsimp only | intro _ | decide)

theorem execDuloBaud_follows {orig : State} (t : Ns) (rate : Nat) (s : State) (hF : orig.follows s) : Out.follows orig (execDuloBaud t rate s) := by
  unfold execDuloBaud
  repeat' (first | with_reducible assumption | with_reducible apply Out.follows.next | with_reducible apply monLine_follows | with_reducible apply modMon_follows | with_reducible apply answer_follows | (dsimp only [State.follows_mk]; change State.follows _ _) | with_reducible apply State.follows.forEach | with_reducible apply State.follows.foldlFst | with_reducible apply State.follows.foldl | split | dsimp only | intro _ | decide)

theorem execDuloLatch_follows {orig : State} (t : Ns) (serial : List Byte) (s : State) (hF : orig.follows s) : Out.follows orig (execDuloLatch t serial s) := by
  unfold execDuloLatch
  repeat' (first | with_reducible assumption | with_reducible apply Out.follows.next | with_reducible apply monLine_follows | with_reducible apply monRefuse_follows | with_reducible apply logEv_follows | with_reducible apply stick_follows | with_reducible apply modMon_follows | with_reducible apply answer_follows | (dsimp only [State.follows_mk]; change State.follows _ _) | with_reducible apply State.follows.forEach | with_reducible apply State.follows.foldlFst | with_reducible apply State.follows.foldl | split | dsimp only | intro _ | decide)

theorem unlatch_follows {orig : State} (s : State) (hF : orig.follows s) :
    orig.follows (unlatch s) := by
  unfold unlatch
  repeat' (first | with_reducible assumption | with_reducible apply logEv_follows | with_reducible apply modMon_follows | (dsimp only [State.follows_mk]; change State.follows _ _) | with_reducible apply State.follows.forEach | with_reducible apply State.follows.foldlFst | with_reducible apply State.follows.foldl | split | dsimp only | intro _ | decide)

theorem execDuloUnlatch_follows {orig : State} (t : Ns) (s : State) (hF : orig.follows s) : Out.follows orig (execDuloUnlatch t s) := by
  unfold execDuloUnlatch
  repeat' (first | with_reducible assumption | with_reducible apply Out.follows.next | with_reducible apply monLine_follows | with_reducible apply answer_follows | with_reducible apply unlatch_follows | (dsimp only [State.follows_mk]; change State.follows _ _) | with_reducible apply State.follows.forEach | with_reducible apply State.follows.foldlFst | with_reducible apply State.follows.foldl | split | dsimp only | intro _ | decide)

theorem execDuloLatchTimeout_follows {orig : State} (t : Ns) (s : State) (hF : orig.follows s) : Out.follows orig (execDuloLatchTimeout t s) := by
  unfold execDuloLatchTimeout
  repeat' (first | with_reducible assumption | with_reducible apply Out.follows.next | with_reducible apply setNow_follows | with_reducible apply unlatch_follows | (dsimp only [State.follows_mk]; change State.follows _ _) | with_reducible apply State.follows.forEach | with_reducible apply State.follows.foldlFst | with_reducible apply State.follows.foldl | split | dsimp only | intro _ | decide)

theorem execDuloBreak_follows {orig : State} (t : Ns) (s : State) (hF : orig.follows s) : Out.follows orig (execDuloBreak t s) := by
  unfold execDuloBreak
  repeat' (first | with_reducible assumption | with_reducible apply Out.follows.next | with_reducible apply setNow_follows | with_reducible apply modMon_follows | (dsimp only [State.follows_mk]; change State.follows _ _) | with_reducible apply State.follows.forEach | with_reducible apply State.follows.foldlFst | with_reducible apply State.follows.foldl | split | dsimp only | intro _ | decide)

theorem execDuloWr_follows {orig : State} (t : Ns) (addr : Nat) (v : W32) (s : State) (hF : orig.follows s) : Out.follows orig (execDuloWr t addr v s) := by
  unfold execDuloWr
  repeat' (first | with_reducible assumption | with_reducible apply Out.follows.next | with_reducible apply monLatched_follows | with_reducible apply writeAddr_follows | with_reducible apply endRequest_follows | with_reducible apply modMon_follows | (dsimp only [State.follows_mk]; change State.follows _ _) | with_reducible apply State.follows.forEach | with_reducible apply State.follows.foldlFst | with_reducible apply State.follows.foldl | split | dsimp only | intro _ | decide)

theorem execDuloRelease_follows {orig : State} (t : Ns) (s : State) (hF : orig.follows s) : Out.follows orig (execDuloRelease t s) := by
  unfold execDuloRelease
  repeat' (first | with_reducible assumption | with_reducible apply Out.follows.next | with_reducible apply monLatched_follows | with_reducible apply snfRelease_follows | (dsimp only [State.follows_mk]; change State.follows _ _) | with_reducible apply State.follows.forEach | with_reducible apply State.follows.foldlFst | with_reducible apply State.follows.foldl | split | dsimp only | intro _ | decide)

theorem execDuloReset_follows {orig : State} (t : Ns) (s : State) (hF : orig.follows s) : Out.follows orig (execDuloReset t s) := by
  unfold execDuloReset
  repeat' (first | with_reducible assumption | with_reducible apply Out.follows.next | with_reducible apply monLine_follows | with_reducible apply coreReset_follows | with_reducible apply answer_follows | with_reducible apply logEv_follows | with_reducible apply monRefuse_follows | (dsimp only [State.follows_mk]; change State.follows _ _) | with_reducible apply State.follows.forEach | with_reducible apply State.follows.foldlFst | with_reducible apply State.follows.foldl | split | dsimp only | intro _ | decide)

theorem execDuloWake_follows {orig : State} (t : Ns) (s : State) (hF : orig.follows s) : Out.follows orig (execDuloWake t s) := by
  unfold execDuloWake
  repeat' (first | with_reducible assumption | with_reducible apply Out.follows.next | with_reducible apply monLatched_follows | with_reducible apply wakeUp_follows | (dsimp only [State.follows_mk]; change State.follows _ _) | with_reducible apply State.follows.forEach | with_reducible apply State.follows.foldlFst | with_reducible apply State.follows.foldl | split | dsimp only | intro _ | decide)

theorem execDuloValidate_follows {orig : State} (t : Ns) (s : State) (hF : orig.follows s) : Out.follows orig (execDuloValidate t s) := by
  unfold execDuloValidate
  repeat' (first | with_reducible assumption | with_reducible apply Out.follows.next | with_reducible apply monLatched_follows | with_reducible apply imgValidate_follows | (dsimp only [State.follows_mk]; change State.follows _ _) | with_reducible apply State.follows.forEach | with_reducible apply State.follows.foldlFst | with_reducible apply State.follows.foldl | split | dsimp only | intro _ | decide)

theorem recoverFw_follows {orig : State} (s : State) (hF : orig.follows s) :
    orig.follows (recoverFw s).1 := by
  unfold recoverFw
  repeat' (first | with_reducible assumption | with_reducible apply mgtResult_follows | with_reducible apply setFw_follows | with_reducible apply modMgt_follows | with_reducible apply fwSelect_follows | (dsimp only [State.follows_mk]; change State.follows _ _) | with_reducible apply State.follows.forEach | with_reducible apply State.follows.foldlFst | with_reducible apply State.follows.foldl | split | dsimp only | exact fun _ => ⟨Nat.le_refl _, Nat.le_refl _⟩ | exact fun _ => ⟨Nat.le_max_left _ _, Nat.le_refl _⟩ | exact fun _ => ⟨Nat.le_refl _, Nat.le_max_left _ _⟩ | (intro m; dsimp only; split <;> exact ⟨Nat.le_refl _, Nat.le_refl _⟩) | exact ⟨Nat.le_refl _, Nat.le_refl _⟩ | intro _ | decide)

theorem execDuloActivate_follows {orig : State} (t : Ns) (s : State) (hF : orig.follows s) : Out.follows orig (execDuloActivate t s) := by
  unfold execDuloActivate
  repeat' (first | with_reducible assumption | with_reducible apply Out.follows.next | with_reducible apply monLatched_follows | with_reducible apply recoverFw_follows | with_reducible apply imgActivate_follows | (dsimp only [State.follows_mk]; change State.follows _ _) | with_reducible apply State.follows.forEach | with_reducible apply State.follows.foldlFst | with_reducible apply State.follows.foldl | split | dsimp only | intro _ | decide)

theorem execDuloKey_follows {orig : State} (t : Ns) (slot : Fin 4) (keyId : Fin 256) (level : Fin 4) (s : State) (hF : orig.follows s) : Out.follows orig (execDuloKey t slot keyId level s) := by
  unfold execDuloKey
  repeat' (first | with_reducible assumption | with_reducible apply Out.follows.next | with_reducible apply monLatched_follows | with_reducible apply putKey_follows | (dsimp only [State.follows_mk]; change State.follows _ _) | with_reducible apply State.follows.forEach | with_reducible apply State.follows.foldlFst | with_reducible apply State.follows.foldl | split | dsimp only | intro _ | decide)

theorem execDuloLoad_follows {orig : State} (t : Ns) (kind : LoadKind) (s : State) (hF : orig.follows s) : Out.follows orig (execDuloLoad t kind s) := by
  unfold execDuloLoad
  repeat' (first | with_reducible assumption | with_reducible apply Out.follows.next | with_reducible apply monLatched_follows | with_reducible apply modMon_follows | with_reducible apply modMgt_follows | (dsimp only [State.follows_mk]; change State.follows _ _) | with_reducible apply State.follows.forEach | with_reducible apply State.follows.foldlFst | with_reducible apply State.follows.foldl | split | dsimp only | exact fun _ => ⟨Nat.le_refl _, Nat.le_refl _⟩ | exact fun _ => ⟨Nat.le_max_left _ _, Nat.le_refl _⟩ | exact fun _ => ⟨Nat.le_refl _, Nat.le_max_left _ _⟩ | (intro m; dsimp only; split <;> exact ⟨Nat.le_refl _, Nat.le_refl _⟩) | exact ⟨Nat.le_refl _, Nat.le_refl _⟩ | intro _ | decide)

theorem loadEnd_follows {orig : State} (s : State) (k : LoadKind) (hF : orig.follows s) :
    orig.follows (loadEnd s k) := by
  unfold loadEnd
  repeat' (first | with_reducible assumption | with_reducible apply modMon_follows | with_reducible apply answer_follows | (dsimp only [State.follows_mk]; change State.follows _ _) | with_reducible apply State.follows.forEach | with_reducible apply State.follows.foldlFst | with_reducible apply State.follows.foldl | split | dsimp only | intro _ | decide)

theorem execDuloBinaryBlock_follows {orig : State} (t : Ns) (offset : Nat) (data : List Byte) (crc : W32) (s : State) (hF : orig.follows s) : Out.follows orig (execDuloBinaryBlock t offset data crc s) := by
  unfold execDuloBinaryBlock
  repeat' (first | with_reducible assumption | with_reducible apply Out.follows.next | with_reducible apply monLine_follows | with_reducible apply answer_follows | with_reducible apply loadEnd_follows | with_reducible apply modMon_follows | with_reducible apply modMgt_follows | (dsimp only [State.follows_mk]; change State.follows _ _) | with_reducible apply State.follows.forEach | with_reducible apply State.follows.foldlFst | with_reducible apply State.follows.foldl | split | dsimp only | exact fun _ => ⟨Nat.le_refl _, Nat.le_refl _⟩ | exact fun _ => ⟨Nat.le_max_left _ _, Nat.le_refl _⟩ | exact fun _ => ⟨Nat.le_refl _, Nat.le_max_left _ _⟩ | (intro m; dsimp only; split <;> exact ⟨Nat.le_refl _, Nat.le_refl _⟩) | exact ⟨Nat.le_refl _, Nat.le_refl _⟩ | intro _ | decide)

end Sys2Proof.Machine
end

