-- ==== Sys2Proof/Laws/FollowsNotice.lean ====
section
/-!
SUPPORT. Every operation of Machine/Notice.lean keeps `State.follows`: it leaves the queue alone, the recorder follows, no floor and
no epoch falls, and SAFE_OUT_N stays as R403 has it.
-/
namespace Sys2Proof.Machine

open Sys2Proof

theorem goSilent_follows {orig : State} (s : State) (hF : orig.follows s) :
    orig.follows (goSilent s) := by
  unfold goSilent
  repeat' (first | with_reducible assumption | with_reducible apply logEv_follows | with_reducible apply stick_follows | with_reducible apply silenceActs_follows | (dsimp only [State.follows_mk]; change State.follows _ _) | with_reducible apply State.follows.forEach | with_reducible apply State.follows.foldlFst | with_reducible apply State.follows.foldl | split | dsimp only | intro _ | decide)

theorem execHostSilenceExpiry_follows {orig : State} (t : Ns) (s : State) (hF : orig.follows s) : Out.follows orig (execHostSilenceExpiry t s) := by
  unfold execHostSilenceExpiry
  repeat' (first | with_reducible assumption | with_reducible apply Out.follows.next | with_reducible apply setNow_follows | with_reducible apply goSilent_follows | (dsimp only [State.follows_mk]; change State.follows _ _) | with_reducible apply State.follows.forEach | with_reducible apply State.follows.foldlFst | with_reducible apply State.follows.foldl | split | dsimp only | intro _ | decide)

theorem sendNotice_follows {orig : State} (s : State) (t : Nat) (hF : orig.follows s) :
    orig.follows (sendNotice s t) := by
  unfold sendNotice
  repeat' (first | with_reducible assumption | with_reducible apply emit_follows | (dsimp only [State.follows_mk]; change State.follows _ _) | with_reducible apply State.follows.forEach | with_reducible apply State.follows.foldlFst | with_reducible apply State.follows.foldl | split | dsimp only | intro _ | decide)

theorem execNoticeNew_follows {orig : State} (t : Ns) (s : State) (hF : orig.follows s) : Out.follows orig (execNoticeNew t s) := by
  unfold execNoticeNew
  repeat' (first | with_reducible assumption | with_reducible apply Out.follows.next | with_reducible apply setNow_follows | with_reducible apply sendNotice_follows | (dsimp only [State.follows_mk]; change State.follows _ _) | with_reducible apply State.follows.forEach | with_reducible apply State.follows.foldlFst | with_reducible apply State.follows.foldl | split | dsimp only | intro _ | decide)

theorem execNoticeHoldoffEnd_follows {orig : State} (t : Ns) (s : State) (hF : orig.follows s) : Out.follows orig (execNoticeHoldoffEnd t s) := by
  unfold execNoticeHoldoffEnd
  repeat' (first | with_reducible assumption | with_reducible apply Out.follows.next | with_reducible apply setNow_follows | with_reducible apply sendNotice_follows | (dsimp only [State.follows_mk]; change State.follows _ _) | with_reducible apply State.follows.forEach | with_reducible apply State.follows.foldlFst | with_reducible apply State.follows.foldl | split | dsimp only | intro _ | decide)

theorem execNoticeRepeat_follows {orig : State} (t : Ns) (s : State) (hF : orig.follows s) : Out.follows orig (execNoticeRepeat t s) := by
  unfold execNoticeRepeat
  repeat' (first | with_reducible assumption | with_reducible apply Out.follows.next | with_reducible apply setNow_follows | with_reducible apply sendNotice_follows | (dsimp only [State.follows_mk]; change State.follows _ _) | with_reducible apply State.follows.forEach | with_reducible apply State.follows.foldlFst | with_reducible apply State.follows.foldl | split | dsimp only | intro _ | decide)

theorem eccFixed_follows {orig : State} (s : State) (r : EccRegion) (hF : orig.follows s) :
    orig.follows (eccFixed s r) := by
  unfold eccFixed
  repeat' (first | with_reducible assumption | with_reducible apply logEv_follows | with_reducible apply setEng_follows | (dsimp only [State.follows_mk]; change State.follows _ _) | with_reducible apply State.follows.forEach | with_reducible apply State.follows.foldlFst | with_reducible apply State.follows.foldl | split | dsimp only | intro _ | decide)

theorem eccSevere_follows {orig : State} (s : State) (hF : orig.follows s) :
    orig.follows (eccSevere s) := by
  unfold eccSevere
  repeat' (first | with_reducible assumption | (dsimp only [State.follows_mk]; change State.follows _ _) | with_reducible apply State.follows.forEach | with_reducible apply State.follows.foldlFst | with_reducible apply State.follows.foldl | split | dsimp only | intro _ | decide)

theorem mramBroken_follows {orig : State} (s : State) (m : MramPart) (hF : orig.follows s) :
    orig.follows (mramBroken s m) := by
  unfold mramBroken
  repeat' (first | with_reducible assumption | with_reducible apply noteConst_follows | with_reducible apply setChan_follows | with_reducible apply setCol_follows | with_reducible apply setDry_follows | (dsimp only [State.follows_mk]; change State.follows _ _) | with_reducible apply State.follows.forEach | with_reducible apply State.follows.foldlFst | with_reducible apply State.follows.foldl | split | dsimp only | intro _ | decide)

theorem eccBroken_follows {orig : State} (s : State) (r : EccRegion) (hF : orig.follows s) :
    orig.follows (eccBroken s r) := by
  unfold eccBroken
  repeat' (first | with_reducible assumption | with_reducible apply logEv_follows | with_reducible apply eccSevere_follows | with_reducible apply haltEngine_follows | with_reducible apply stick_follows | with_reducible apply modWax_follows | with_reducible apply mramBroken_follows | (dsimp only [State.follows_mk]; change State.follows _ _) | with_reducible apply State.follows.forEach | with_reducible apply State.follows.foldlFst | with_reducible apply State.follows.foldl | split | dsimp only | intro _ | decide)

theorem execMemoryEccError_follows {orig : State} (t : Ns) (r : EccRegion) (corrected : Bool) (s : State) (hF : orig.follows s) : Out.follows orig (execMemoryEccError t r corrected s) := by
  unfold execMemoryEccError
  repeat' (first | with_reducible assumption | with_reducible apply Out.follows.next | with_reducible apply setNow_follows | with_reducible apply eccFixed_follows | with_reducible apply eccBroken_follows | (dsimp only [State.follows_mk]; change State.follows _ _) | with_reducible apply State.follows.forEach | with_reducible apply State.follows.foldlFst | with_reducible apply State.follows.foldl | split | dsimp only | intro _ | decide)

end Sys2Proof.Machine
end

