-- ==== Sys2Proof/Laws/Frames.lean ====
section
/-!
SUPPORT. What the larger shared operations leave as it was: one lemma per field of the state and per family of records.
-/
namespace Sys2Proof.Machine

open Sys2Proof

set_option Elab.async false

@[simp] theorem markHalt_pending (s : State) : (markHalt s).pending = s.pending := by unfold markHalt; (repeat' split) <;> rfl
@[simp] theorem markHalt_now (s : State) : (markHalt s).now = s.now := by unfold markHalt; (repeat' split) <;> rfl
@[simp] theorem markHalt_frame (s : State) : (markHalt s).frame = s.frame := by unfold markHalt; (repeat' split) <;> rfl
@[simp] theorem markHalt_framed (s : State) : (markHalt s).framed = s.framed := by unfold markHalt; (repeat' split) <;> rfl
@[simp] theorem markHalt_free (s : State) : (markHalt s).free = s.free := by unfold markHalt; (repeat' split) <;> rfl
@[simp] theorem markHalt_rf (s : State) : (markHalt s).rf = s.rf := by unfold markHalt; (repeat' split) <;> rfl
@[simp] theorem markHalt_rfF (s : State) : (markHalt s).rfF = s.rfF := by unfold markHalt; (repeat' split) <;> rfl
@[simp] theorem markHalt_wick (s : State) : (markHalt s).wick = s.wick := by unfold markHalt; (repeat' split) <;> rfl
@[simp] theorem markHalt_llt (s : State) : (markHalt s).llt = s.llt := by unfold markHalt; (repeat' split) <;> rfl
@[simp] theorem markHalt_moist (s : State) : (markHalt s).moist = s.moist := by unfold markHalt; (repeat' split) <;> rfl
@[simp] theorem markHalt_col (s : State) : (markHalt s).col = s.col := by unfold markHalt; (repeat' split) <;> rfl
@[simp] theorem markHalt_eng (s : State) : (markHalt s).eng = s.eng := by unfold markHalt; (repeat' split) <;> rfl
@[simp] theorem markHalt_loop (s : State) : (markHalt s).loop = s.loop := by unfold markHalt; (repeat' split) <;> rfl
@[simp] theorem markHalt_motor (s : State) : (markHalt s).motor = s.motor := by unfold markHalt; (repeat' split) <;> rfl
@[simp] theorem markHalt_aisle (s : State) : (markHalt s).aisle = s.aisle := by unfold markHalt; (repeat' split) <;> rfl
@[simp] theorem markHalt_tx (s : State) : (markHalt s).tx = s.tx := by unfold markHalt; (repeat' split) <;> rfl
@[simp] theorem markHalt_sol (s : State) : (markHalt s).sol = s.sol := by unfold markHalt; (repeat' split) <;> rfl
@[simp] theorem markHalt_mkt (s : State) : (markHalt s).mkt = s.mkt := by unfold markHalt; (repeat' split) <;> rfl
@[simp] theorem markHalt_tal (s : State) : (markHalt s).tal = s.tal := by unfold markHalt; (repeat' split) <;> rfl
@[simp] theorem markHalt_rec (s : State) : (markHalt s).rec_ = s.rec_ := by unfold markHalt; (repeat' split) <;> rfl
@[simp] theorem markHalt_pair (s : State) : (markHalt s).pair = s.pair := by unfold markHalt; (repeat' split) <;> rfl
@[simp] theorem markHalt_hld (s : State) : (markHalt s).hld = s.hld := by unfold markHalt; (repeat' split) <;> rfl
@[simp] theorem markHalt_snf (s : State) : (markHalt s).snf = s.snf := by unfold markHalt; (repeat' split) <;> rfl
@[simp] theorem markHalt_thr (s : State) : (markHalt s).thr = s.thr := by unfold markHalt; (repeat' split) <;> rfl
@[simp] theorem markHalt_mgt (s : State) : (markHalt s).mgt = s.mgt := by unfold markHalt; (repeat' split) <;> rfl
@[simp] theorem markHalt_rlt (s : State) : (markHalt s).rlt = s.rlt := by unfold markHalt; (repeat' split) <;> rfl
@[simp] theorem markHalt_mon (s : State) : (markHalt s).mon = s.mon := by unfold markHalt; (repeat' split) <;> rfl
@[simp] theorem markHalt_glb (s : State) : (markHalt s).glb = s.glb := by unfold markHalt; (repeat' split) <;> rfl
@[simp] theorem markHalt_before (s : State) : (markHalt s).before = s.before := by unfold markHalt; (repeat' split) <;> rfl
@[simp] theorem markHalt_marks (s : State) : (markHalt s).marks = s.marks := by unfold markHalt; (repeat' split) <;> rfl
@[simp] theorem regW_markHalt (s : State) (r : RegName) (i : Nat) : regW (markHalt s) r i = regW s r i := by simp [regW]
@[simp] theorem wickOf_markHalt (s : State) (k : Nat) : wickOf (markHalt s) k = wickOf s k := by simp [wickOf]
@[simp] theorem slotOf_markHalt (s : State) (k : Nat) : slotOf (markHalt s) k = slotOf s k := by simp [slotOf]
@[simp] theorem chanOf_markHalt (s : State) (k : Nat) : chanOf (markHalt s) k = chanOf s k := by simp [chanOf]
@[simp] theorem colOf_markHalt (s : State) (k : Nat) : colOf (markHalt s) k = colOf s k := by simp [colOf]
@[simp] theorem dryOf_markHalt (s : State) (k : Nat) : dryOf (markHalt s) k = dryOf s k := by simp [dryOf]
@[simp] theorem heatOf_markHalt (s : State) (k : Nat) : heatOf (markHalt s) k = heatOf s k := by simp [heatOf]
@[simp] theorem aerOf_markHalt (s : State) (k : Nat) : aerOf (markHalt s) k = aerOf s k := by simp [aerOf]
@[simp] theorem engOf_markHalt (s : State) (k : Nat) : engOf (markHalt s) k = engOf s k := by simp [engOf]
@[simp] theorem rowOf_markHalt (s : State) (k : Nat) : rowOf (markHalt s) k = rowOf s k := by simp [rowOf]
@[simp] theorem bskOf_markHalt (s : State) (k : Nat) : bskOf (markHalt s) k = bskOf s k := by simp [bskOf]
@[simp] theorem blkOf_markHalt (s : State) (k : Nat) : blkOf (markHalt s) k = blkOf s k := by simp [blkOf]
@[simp] theorem taperOf_markHalt (s : State) (k : Nat) : taperOf (markHalt s) k = taperOf s k := by simp [taperOf]
@[simp] theorem loopOf_markHalt (s : State) (k : Nat) : loopOf (markHalt s) k = loopOf s k := by simp [loopOf]
@[simp] theorem motOf_markHalt (s : State) (k : Nat) : motOf (markHalt s) k = motOf s k := by simp [motOf]
@[simp] theorem gateOf_markHalt (s : State) (k : Nat) : gateOf (markHalt s) k = gateOf s k := by simp [gateOf]
@[simp] theorem routeOf_markHalt (s : State) (k : Nat) : routeOf (markHalt s) k = routeOf s k := by simp [routeOf]
@[simp] theorem slipOf_markHalt (s : State) (k : Nat) : slipOf (markHalt s) k = slipOf s k := by simp [slipOf]
@[simp] theorem aisOf_markHalt (s : State) (k : Nat) : aisOf (markHalt s) k = aisOf s k := by simp [aisOf]
@[simp] theorem stlOf_markHalt (s : State) (k : Nat) : stlOf (markHalt s) k = stlOf s k := by simp [stlOf]
@[simp] theorem txOf_markHalt (s : State) (k : Nat) : txOf (markHalt s) k = txOf s k := by simp [txOf]
@[simp] theorem solOf_markHalt (s : State) (k : Nat) : solOf (markHalt s) k = solOf s k := by simp [solOf]
@[simp] theorem sensOf_markHalt (s : State) (k : Nat) : sensOf (markHalt s) k = sensOf s k := by simp [sensOf]
@[simp] theorem polOf_markHalt (s : State) (k : Nat) : polOf (markHalt s) k = polOf s k := by simp [polOf]

@[simp] theorem forceTaper_pending (s : State) (m : Nat) (v : Option F32) : (forceTaper s m v).pending = s.pending := by unfold forceTaper; split <;> rfl
@[simp] theorem forceTaper_now (s : State) (m : Nat) (v : Option F32) : (forceTaper s m v).now = s.now := by unfold forceTaper; split <;> rfl
@[simp] theorem forceTaper_frame (s : State) (m : Nat) (v : Option F32) : (forceTaper s m v).frame = s.frame := by unfold forceTaper; split <;> rfl
@[simp] theorem forceTaper_framed (s : State) (m : Nat) (v : Option F32) : (forceTaper s m v).framed = s.framed := by unfold forceTaper; split <;> rfl
@[simp] theorem forceTaper_free (s : State) (m : Nat) (v : Option F32) : (forceTaper s m v).free = s.free := by unfold forceTaper; split <;> rfl
@[simp] theorem forceTaper_rf (s : State) (m : Nat) (v : Option F32) : (forceTaper s m v).rf = s.rf := by unfold forceTaper; split <;> rfl
@[simp] theorem forceTaper_rfF (s : State) (m : Nat) (v : Option F32) : (forceTaper s m v).rfF = s.rfF := by unfold forceTaper; split <;> rfl
@[simp] theorem forceTaper_wick (s : State) (m : Nat) (v : Option F32) : (forceTaper s m v).wick = s.wick := by unfold forceTaper; split <;> rfl
@[simp] theorem forceTaper_llt (s : State) (m : Nat) (v : Option F32) : (forceTaper s m v).llt = s.llt := by unfold forceTaper; split <;> rfl
@[simp] theorem forceTaper_moist (s : State) (m : Nat) (v : Option F32) : (forceTaper s m v).moist = s.moist := by unfold forceTaper; split <;> rfl
@[simp] theorem forceTaper_col (s : State) (m : Nat) (v : Option F32) : (forceTaper s m v).col = s.col := by unfold forceTaper; split <;> rfl
@[simp] theorem forceTaper_eng (s : State) (m : Nat) (v : Option F32) : (forceTaper s m v).eng = s.eng := by unfold forceTaper; split <;> rfl
@[simp] theorem forceTaper_motor (s : State) (m : Nat) (v : Option F32) : (forceTaper s m v).motor = s.motor := by unfold forceTaper; split <;> rfl
@[simp] theorem forceTaper_aisle (s : State) (m : Nat) (v : Option F32) : (forceTaper s m v).aisle = s.aisle := by unfold forceTaper; split <;> rfl
@[simp] theorem forceTaper_tx (s : State) (m : Nat) (v : Option F32) : (forceTaper s m v).tx = s.tx := by unfold forceTaper; split <;> rfl
@[simp] theorem forceTaper_sol (s : State) (m : Nat) (v : Option F32) : (forceTaper s m v).sol = s.sol := by unfold forceTaper; split <;> rfl
@[simp] theorem forceTaper_mkt (s : State) (m : Nat) (v : Option F32) : (forceTaper s m v).mkt = s.mkt := by unfold forceTaper; split <;> rfl
@[simp] theorem forceTaper_tal (s : State) (m : Nat) (v : Option F32) : (forceTaper s m v).tal = s.tal := by unfold forceTaper; split <;> rfl
@[simp] theorem forceTaper_rec (s : State) (m : Nat) (v : Option F32) : (forceTaper s m v).rec_ = s.rec_ := by unfold forceTaper; split <;> rfl
@[simp] theorem forceTaper_pair (s : State) (m : Nat) (v : Option F32) : (forceTaper s m v).pair = s.pair := by unfold forceTaper; split <;> rfl
@[simp] theorem forceTaper_hld (s : State) (m : Nat) (v : Option F32) : (forceTaper s m v).hld = s.hld := by unfold forceTaper; split <;> rfl
@[simp] theorem forceTaper_snf (s : State) (m : Nat) (v : Option F32) : (forceTaper s m v).snf = s.snf := by unfold forceTaper; split <;> rfl
@[simp] theorem forceTaper_thr (s : State) (m : Nat) (v : Option F32) : (forceTaper s m v).thr = s.thr := by unfold forceTaper; split <;> rfl
@[simp] theorem forceTaper_mgt (s : State) (m : Nat) (v : Option F32) : (forceTaper s m v).mgt = s.mgt := by unfold forceTaper; split <;> rfl
@[simp] theorem forceTaper_wax (s : State) (m : Nat) (v : Option F32) : (forceTaper s m v).wax = s.wax := by unfold forceTaper; split <;> rfl
@[simp] theorem forceTaper_rlt (s : State) (m : Nat) (v : Option F32) : (forceTaper s m v).rlt = s.rlt := by unfold forceTaper; split <;> rfl
@[simp] theorem forceTaper_mon (s : State) (m : Nat) (v : Option F32) : (forceTaper s m v).mon = s.mon := by unfold forceTaper; split <;> rfl
@[simp] theorem forceTaper_glb (s : State) (m : Nat) (v : Option F32) : (forceTaper s m v).glb = s.glb := by unfold forceTaper; split <;> rfl
@[simp] theorem forceTaper_before (s : State) (m : Nat) (v : Option F32) : (forceTaper s m v).before = s.before := by unfold forceTaper; split <;> rfl
@[simp] theorem forceTaper_marks (s : State) (m : Nat) (v : Option F32) : (forceTaper s m v).marks = s.marks := by unfold forceTaper; split <;> rfl
@[simp] theorem regW_forceTaper (s : State) (m : Nat) (v : Option F32) (r : RegName) (i : Nat) : regW (forceTaper s m v) r i = regW s r i := by simp [regW]
@[simp] theorem wickOf_forceTaper (s : State) (m : Nat) (v : Option F32) (k : Nat) : wickOf (forceTaper s m v) k = wickOf s k := by simp [wickOf]
@[simp] theorem slotOf_forceTaper (s : State) (m : Nat) (v : Option F32) (k : Nat) : slotOf (forceTaper s m v) k = slotOf s k := by simp [slotOf]
@[simp] theorem chanOf_forceTaper (s : State) (m : Nat) (v : Option F32) (k : Nat) : chanOf (forceTaper s m v) k = chanOf s k := by simp [chanOf]
@[simp] theorem colOf_forceTaper (s : State) (m : Nat) (v : Option F32) (k : Nat) : colOf (forceTaper s m v) k = colOf s k := by simp [colOf]
@[simp] theorem dryOf_forceTaper (s : State) (m : Nat) (v : Option F32) (k : Nat) : dryOf (forceTaper s m v) k = dryOf s k := by simp [dryOf]
@[simp] theorem heatOf_forceTaper (s : State) (m : Nat) (v : Option F32) (k : Nat) : heatOf (forceTaper s m v) k = heatOf s k := by simp [heatOf]
@[simp] theorem aerOf_forceTaper (s : State) (m : Nat) (v : Option F32) (k : Nat) : aerOf (forceTaper s m v) k = aerOf s k := by simp [aerOf]
@[simp] theorem engOf_forceTaper (s : State) (m : Nat) (v : Option F32) (k : Nat) : engOf (forceTaper s m v) k = engOf s k := by simp [engOf]
@[simp] theorem rowOf_forceTaper (s : State) (m : Nat) (v : Option F32) (k : Nat) : rowOf (forceTaper s m v) k = rowOf s k := by simp [rowOf]
@[simp] theorem bskOf_forceTaper (s : State) (m : Nat) (v : Option F32) (k : Nat) : bskOf (forceTaper s m v) k = bskOf s k := by simp [bskOf]
@[simp] theorem blkOf_forceTaper (s : State) (m : Nat) (v : Option F32) (k : Nat) : blkOf (forceTaper s m v) k = blkOf s k := by simp [blkOf]
@[simp] theorem motOf_forceTaper (s : State) (m : Nat) (v : Option F32) (k : Nat) : motOf (forceTaper s m v) k = motOf s k := by simp [motOf]
@[simp] theorem gateOf_forceTaper (s : State) (m : Nat) (v : Option F32) (k : Nat) : gateOf (forceTaper s m v) k = gateOf s k := by simp [gateOf]
@[simp] theorem routeOf_forceTaper (s : State) (m : Nat) (v : Option F32) (k : Nat) : routeOf (forceTaper s m v) k = routeOf s k := by simp [routeOf]
@[simp] theorem slipOf_forceTaper (s : State) (m : Nat) (v : Option F32) (k : Nat) : slipOf (forceTaper s m v) k = slipOf s k := by simp [slipOf]
@[simp] theorem aisOf_forceTaper (s : State) (m : Nat) (v : Option F32) (k : Nat) : aisOf (forceTaper s m v) k = aisOf s k := by simp [aisOf]
@[simp] theorem stlOf_forceTaper (s : State) (m : Nat) (v : Option F32) (k : Nat) : stlOf (forceTaper s m v) k = stlOf s k := by simp [stlOf]
@[simp] theorem txOf_forceTaper (s : State) (m : Nat) (v : Option F32) (k : Nat) : txOf (forceTaper s m v) k = txOf s k := by simp [txOf]
@[simp] theorem solOf_forceTaper (s : State) (m : Nat) (v : Option F32) (k : Nat) : solOf (forceTaper s m v) k = solOf s k := by simp [solOf]
@[simp] theorem sensOf_forceTaper (s : State) (m : Nat) (v : Option F32) (k : Nat) : sensOf (forceTaper s m v) k = sensOf s k := by simp [sensOf]
@[simp] theorem polOf_forceTaper (s : State) (m : Nat) (v : Option F32) (k : Nat) : polOf (forceTaper s m v) k = polOf s k := by simp [polOf]

@[simp] theorem toOff_pending (s : State) (m : Nat) (b : Bool) : (toOff s m b).pending = s.pending := by simp [toOff, modMot]
@[simp] theorem toOff_now (s : State) (m : Nat) (b : Bool) : (toOff s m b).now = s.now := by simp [toOff, modMot]
@[simp] theorem toOff_frame (s : State) (m : Nat) (b : Bool) : (toOff s m b).frame = s.frame := by simp [toOff, modMot]
@[simp] theorem toOff_framed (s : State) (m : Nat) (b : Bool) : (toOff s m b).framed = s.framed := by simp [toOff, modMot]
@[simp] theorem toOff_free (s : State) (m : Nat) (b : Bool) : (toOff s m b).free = s.free := by simp [toOff, modMot]
@[simp] theorem toOff_rf (s : State) (m : Nat) (b : Bool) : (toOff s m b).rf = s.rf := by simp [toOff, modMot]
@[simp] theorem toOff_rfF (s : State) (m : Nat) (b : Bool) : (toOff s m b).rfF = s.rfF := by simp [toOff, modMot]
@[simp] theorem toOff_wick (s : State) (m : Nat) (b : Bool) : (toOff s m b).wick = s.wick := by simp [toOff, modMot]
@[simp] theorem toOff_llt (s : State) (m : Nat) (b : Bool) : (toOff s m b).llt = s.llt := by simp [toOff, modMot]
@[simp] theorem toOff_moist (s : State) (m : Nat) (b : Bool) : (toOff s m b).moist = s.moist := by simp [toOff, modMot]
@[simp] theorem toOff_col (s : State) (m : Nat) (b : Bool) : (toOff s m b).col = s.col := by simp [toOff, modMot]
@[simp] theorem toOff_eng (s : State) (m : Nat) (b : Bool) : (toOff s m b).eng = s.eng := by simp [toOff, modMot]
@[simp] theorem toOff_aisle (s : State) (m : Nat) (b : Bool) : (toOff s m b).aisle = s.aisle := by simp [toOff, modMot]
@[simp] theorem toOff_tx (s : State) (m : Nat) (b : Bool) : (toOff s m b).tx = s.tx := by simp [toOff, modMot]
@[simp] theorem toOff_sol (s : State) (m : Nat) (b : Bool) : (toOff s m b).sol = s.sol := by simp [toOff, modMot]
@[simp] theorem toOff_mkt (s : State) (m : Nat) (b : Bool) : (toOff s m b).mkt = s.mkt := by simp [toOff, modMot]
@[simp] theorem toOff_tal (s : State) (m : Nat) (b : Bool) : (toOff s m b).tal = s.tal := by simp [toOff, modMot]
@[simp] theorem toOff_rec (s : State) (m : Nat) (b : Bool) : (toOff s m b).rec_ = s.rec_ := by simp [toOff, modMot]
@[simp] theorem toOff_pair (s : State) (m : Nat) (b : Bool) : (toOff s m b).pair = s.pair := by simp [toOff, modMot]
@[simp] theorem toOff_hld (s : State) (m : Nat) (b : Bool) : (toOff s m b).hld = s.hld := by simp [toOff, modMot]
@[simp] theorem toOff_snf (s : State) (m : Nat) (b : Bool) : (toOff s m b).snf = s.snf := by simp [toOff, modMot]
@[simp] theorem toOff_thr (s : State) (m : Nat) (b : Bool) : (toOff s m b).thr = s.thr := by simp [toOff, modMot]
@[simp] theorem toOff_mgt (s : State) (m : Nat) (b : Bool) : (toOff s m b).mgt = s.mgt := by simp [toOff, modMot]
@[simp] theorem toOff_wax (s : State) (m : Nat) (b : Bool) : (toOff s m b).wax = s.wax := by simp [toOff, modMot]
@[simp] theorem toOff_rlt (s : State) (m : Nat) (b : Bool) : (toOff s m b).rlt = s.rlt := by simp [toOff, modMot]
@[simp] theorem toOff_mon (s : State) (m : Nat) (b : Bool) : (toOff s m b).mon = s.mon := by simp [toOff, modMot]
@[simp] theorem toOff_glb (s : State) (m : Nat) (b : Bool) : (toOff s m b).glb = s.glb := by simp [toOff, modMot]
@[simp] theorem toOff_before (s : State) (m : Nat) (b : Bool) : (toOff s m b).before = s.before := by simp [toOff, modMot]
@[simp] theorem toOff_marks (s : State) (m : Nat) (b : Bool) : (toOff s m b).marks = s.marks := by simp [toOff, modMot]
@[simp] theorem regW_toOff (s : State) (m : Nat) (b : Bool) (r : RegName) (i : Nat) : regW (toOff s m b) r i = regW s r i := by simp [regW]
@[simp] theorem wickOf_toOff (s : State) (m : Nat) (b : Bool) (k : Nat) : wickOf (toOff s m b) k = wickOf s k := by simp [wickOf]
@[simp] theorem slotOf_toOff (s : State) (m : Nat) (b : Bool) (k : Nat) : slotOf (toOff s m b) k = slotOf s k := by simp [slotOf]
@[simp] theorem chanOf_toOff (s : State) (m : Nat) (b : Bool) (k : Nat) : chanOf (toOff s m b) k = chanOf s k := by simp [chanOf]
@[simp] theorem colOf_toOff (s : State) (m : Nat) (b : Bool) (k : Nat) : colOf (toOff s m b) k = colOf s k := by simp [colOf]
@[simp] theorem dryOf_toOff (s : State) (m : Nat) (b : Bool) (k : Nat) : dryOf (toOff s m b) k = dryOf s k := by simp [dryOf]
@[simp] theorem heatOf_toOff (s : State) (m : Nat) (b : Bool) (k : Nat) : heatOf (toOff s m b) k = heatOf s k := by simp [heatOf]
@[simp] theorem aerOf_toOff (s : State) (m : Nat) (b : Bool) (k : Nat) : aerOf (toOff s m b) k = aerOf s k := by simp [aerOf]
@[simp] theorem engOf_toOff (s : State) (m : Nat) (b : Bool) (k : Nat) : engOf (toOff s m b) k = engOf s k := by simp [engOf]
@[simp] theorem rowOf_toOff (s : State) (m : Nat) (b : Bool) (k : Nat) : rowOf (toOff s m b) k = rowOf s k := by simp [rowOf]
@[simp] theorem bskOf_toOff (s : State) (m : Nat) (b : Bool) (k : Nat) : bskOf (toOff s m b) k = bskOf s k := by simp [bskOf]
@[simp] theorem blkOf_toOff (s : State) (m : Nat) (b : Bool) (k : Nat) : blkOf (toOff s m b) k = blkOf s k := by simp [blkOf]
@[simp] theorem aisOf_toOff (s : State) (m : Nat) (b : Bool) (k : Nat) : aisOf (toOff s m b) k = aisOf s k := by simp [aisOf]
@[simp] theorem stlOf_toOff (s : State) (m : Nat) (b : Bool) (k : Nat) : stlOf (toOff s m b) k = stlOf s k := by simp [stlOf]
@[simp] theorem txOf_toOff (s : State) (m : Nat) (b : Bool) (k : Nat) : txOf (toOff s m b) k = txOf s k := by simp [txOf]
@[simp] theorem solOf_toOff (s : State) (m : Nat) (b : Bool) (k : Nat) : solOf (toOff s m b) k = solOf s k := by simp [solOf]
@[simp] theorem sensOf_toOff (s : State) (m : Nat) (b : Bool) (k : Nat) : sensOf (toOff s m b) k = sensOf s k := by simp [sensOf]
@[simp] theorem polOf_toOff (s : State) (m : Nat) (b : Bool) (k : Nat) : polOf (toOff s m b) k = polOf s k := by simp [polOf]

@[simp] theorem motFault_pending (s : State) (m : Nat) (f : MotFault) : (motFault s m f).pending = s.pending := by simp only [motFault]; (repeat' split) <;> simp
@[simp] theorem motFault_now (s : State) (m : Nat) (f : MotFault) : (motFault s m f).now = s.now := by simp only [motFault]; (repeat' split) <;> simp
@[simp] theorem motFault_frame (s : State) (m : Nat) (f : MotFault) : (motFault s m f).frame = s.frame := by simp only [motFault]; (repeat' split) <;> simp
@[simp] theorem motFault_framed (s : State) (m : Nat) (f : MotFault) : (motFault s m f).framed = s.framed := by simp only [motFault]; (repeat' split) <;> simp
@[simp] theorem motFault_free (s : State) (m : Nat) (f : MotFault) : (motFault s m f).free = s.free := by simp only [motFault]; (repeat' split) <;> simp
@[simp] theorem motFault_rfF (s : State) (m : Nat) (f : MotFault) : (motFault s m f).rfF = s.rfF := by simp only [motFault]; (repeat' split) <;> simp
@[simp] theorem motFault_wick (s : State) (m : Nat) (f : MotFault) : (motFault s m f).wick = s.wick := by simp only [motFault]; (repeat' split) <;> simp
@[simp] theorem motFault_llt (s : State) (m : Nat) (f : MotFault) : (motFault s m f).llt = s.llt := by simp only [motFault]; (repeat' split) <;> simp
@[simp] theorem motFault_moist (s : State) (m : Nat) (f : MotFault) : (motFault s m f).moist = s.moist := by simp only [motFault]; (repeat' split) <;> simp
@[simp] theorem motFault_col (s : State) (m : Nat) (f : MotFault) : (motFault s m f).col = s.col := by simp only [motFault]; (repeat' split) <;> simp
@[simp] theorem motFault_eng (s : State) (m : Nat) (f : MotFault) : (motFault s m f).eng = s.eng := by simp only [motFault]; (repeat' split) <;> simp
@[simp] theorem motFault_loop (s : State) (m : Nat) (f : MotFault) : (motFault s m f).loop = s.loop := by simp only [motFault]; (repeat' split) <;> simp
@[simp] theorem motFault_aisle (s : State) (m : Nat) (f : MotFault) : (motFault s m f).aisle = s.aisle := by simp only [motFault]; (repeat' split) <;> simp
@[simp] theorem motFault_tx (s : State) (m : Nat) (f : MotFault) : (motFault s m f).tx = s.tx := by simp only [motFault]; (repeat' split) <;> simp
@[simp] theorem motFault_sol (s : State) (m : Nat) (f : MotFault) : (motFault s m f).sol = s.sol := by simp only [motFault]; (repeat' split) <;> simp
@[simp] theorem motFault_mkt (s : State) (m : Nat) (f : MotFault) : (motFault s m f).mkt = s.mkt := by simp only [motFault]; (repeat' split) <;> simp
@[simp] theorem motFault_tal (s : State) (m : Nat) (f : MotFault) : (motFault s m f).tal = s.tal := by simp only [motFault]; (repeat' split) <;> simp
@[simp] theorem motFault_pair (s : State) (m : Nat) (f : MotFault) : (motFault s m f).pair = s.pair := by simp only [motFault]; (repeat' split) <;> simp
@[simp] theorem motFault_hld (s : State) (m : Nat) (f : MotFault) : (motFault s m f).hld = s.hld := by simp only [motFault]; (repeat' split) <;> simp
@[simp] theorem motFault_snf (s : State) (m : Nat) (f : MotFault) : (motFault s m f).snf = s.snf := by simp only [motFault]; (repeat' split) <;> simp
@[simp] theorem motFault_thr (s : State) (m : Nat) (f : MotFault) : (motFault s m f).thr = s.thr := by simp only [motFault]; (repeat' split) <;> simp
@[simp] theorem motFault_mgt (s : State) (m : Nat) (f : MotFault) : (motFault s m f).mgt = s.mgt := by simp only [motFault]; (repeat' split) <;> simp
@[simp] theorem motFault_wax (s : State) (m : Nat) (f : MotFault) : (motFault s m f).wax = s.wax := by simp only [motFault]; (repeat' split) <;> simp
@[simp] theorem motFault_rlt (s : State) (m : Nat) (f : MotFault) : (motFault s m f).rlt = s.rlt := by simp only [motFault]; (repeat' split) <;> simp
@[simp] theorem motFault_mon (s : State) (m : Nat) (f : MotFault) : (motFault s m f).mon = s.mon := by simp only [motFault]; (repeat' split) <;> simp
@[simp] theorem motFault_glb (s : State) (m : Nat) (f : MotFault) : (motFault s m f).glb = s.glb := by simp only [motFault]; (repeat' split) <;> simp
@[simp] theorem motFault_before (s : State) (m : Nat) (f : MotFault) : (motFault s m f).before = s.before := by simp only [motFault]; (repeat' split) <;> simp
@[simp] theorem motFault_marks (s : State) (m : Nat) (f : MotFault) : (motFault s m f).marks = s.marks := by simp only [motFault]; (repeat' split) <;> simp
@[simp] theorem wickOf_motFault (s : State) (m : Nat) (f : MotFault) (k : Nat) : wickOf (motFault s m f) k = wickOf s k := by simp [wickOf]
@[simp] theorem slotOf_motFault (s : State) (m : Nat) (f : MotFault) (k : Nat) : slotOf (motFault s m f) k = slotOf s k := by simp [slotOf]
@[simp] theorem chanOf_motFault (s : State) (m : Nat) (f : MotFault) (k : Nat) : chanOf (motFault s m f) k = chanOf s k := by simp [chanOf]
@[simp] theorem colOf_motFault (s : State) (m : Nat) (f : MotFault) (k : Nat) : colOf (motFault s m f) k = colOf s k := by simp [colOf]
@[simp] theorem dryOf_motFault (s : State) (m : Nat) (f : MotFault) (k : Nat) : dryOf (motFault s m f) k = dryOf s k := by simp [dryOf]
@[simp] theorem heatOf_motFault (s : State) (m : Nat) (f : MotFault) (k : Nat) : heatOf (motFault s m f) k = heatOf s k := by simp [heatOf]
@[simp] theorem aerOf_motFault (s : State) (m : Nat) (f : MotFault) (k : Nat) : aerOf (motFault s m f) k = aerOf s k := by simp [aerOf]
@[simp] theorem engOf_motFault (s : State) (m : Nat) (f : MotFault) (k : Nat) : engOf (motFault s m f) k = engOf s k := by simp [engOf]
@[simp] theorem rowOf_motFault (s : State) (m : Nat) (f : MotFault) (k : Nat) : rowOf (motFault s m f) k = rowOf s k := by simp [rowOf]
@[simp] theorem bskOf_motFault (s : State) (m : Nat) (f : MotFault) (k : Nat) : bskOf (motFault s m f) k = bskOf s k := by simp [bskOf]
@[simp] theorem blkOf_motFault (s : State) (m : Nat) (f : MotFault) (k : Nat) : blkOf (motFault s m f) k = blkOf s k := by simp [blkOf]
@[simp] theorem taperOf_motFault (s : State) (m : Nat) (f : MotFault) (k : Nat) : taperOf (motFault s m f) k = taperOf s k := by simp [taperOf]
@[simp] theorem loopOf_motFault (s : State) (m : Nat) (f : MotFault) (k : Nat) : loopOf (motFault s m f) k = loopOf s k := by simp [loopOf]
@[simp] theorem aisOf_motFault (s : State) (m : Nat) (f : MotFault) (k : Nat) : aisOf (motFault s m f) k = aisOf s k := by simp [aisOf]
@[simp] theorem stlOf_motFault (s : State) (m : Nat) (f : MotFault) (k : Nat) : stlOf (motFault s m f) k = stlOf s k := by simp [stlOf]
@[simp] theorem txOf_motFault (s : State) (m : Nat) (f : MotFault) (k : Nat) : txOf (motFault s m f) k = txOf s k := by simp [txOf]
@[simp] theorem solOf_motFault (s : State) (m : Nat) (f : MotFault) (k : Nat) : solOf (motFault s m f) k = solOf s k := by simp [solOf]
@[simp] theorem sensOf_motFault (s : State) (m : Nat) (f : MotFault) (k : Nat) : sensOf (motFault s m f) k = sensOf s k := by simp [sensOf]
@[simp] theorem polOf_motFault (s : State) (m : Nat) (f : MotFault) (k : Nat) : polOf (motFault s m f) k = polOf s k := by simp [polOf]

@[simp] theorem faultGone_pending (s : State) (m : Nat) : ((faultGone s m).1).pending = s.pending := by simp only [faultGone, freeCond]; split <;> rfl
@[simp] theorem faultGone_now (s : State) (m : Nat) : ((faultGone s m).1).now = s.now := by simp only [faultGone, freeCond]; split <;> rfl
@[simp] theorem faultGone_frame (s : State) (m : Nat) : ((faultGone s m).1).frame = s.frame := by simp only [faultGone, freeCond]; split <;> rfl
@[simp] theorem faultGone_framed (s : State) (m : Nat) : ((faultGone s m).1).framed = s.framed := by simp only [faultGone, freeCond]; split <;> rfl
@[simp] theorem faultGone_rf (s : State) (m : Nat) : ((faultGone s m).1).rf = s.rf := by simp only [faultGone, freeCond]; split <;> rfl
@[simp] theorem faultGone_rfF (s : State) (m : Nat) : ((faultGone s m).1).rfF = s.rfF := by simp only [faultGone, freeCond]; split <;> rfl
@[simp] theorem faultGone_wick (s : State) (m : Nat) : ((faultGone s m).1).wick = s.wick := by simp only [faultGone, freeCond]; split <;> rfl
@[simp] theorem faultGone_llt (s : State) (m : Nat) : ((faultGone s m).1).llt = s.llt := by simp only [faultGone, freeCond]; split <;> rfl
@[simp] theorem faultGone_moist (s : State) (m : Nat) : ((faultGone s m).1).moist = s.moist := by simp only [faultGone, freeCond]; split <;> rfl
@[simp] theorem faultGone_col (s : State) (m : Nat) : ((faultGone s m).1).col = s.col := by simp only [faultGone, freeCond]; split <;> rfl
@[simp] theorem faultGone_eng (s : State) (m : Nat) : ((faultGone s m).1).eng = s.eng := by simp only [faultGone, freeCond]; split <;> rfl
@[simp] theorem faultGone_loop (s : State) (m : Nat) : ((faultGone s m).1).loop = s.loop := by simp only [faultGone, freeCond]; split <;> rfl
@[simp] theorem faultGone_motor (s : State) (m : Nat) : ((faultGone s m).1).motor = s.motor := by simp only [faultGone, freeCond]; split <;> rfl
@[simp] theorem faultGone_aisle (s : State) (m : Nat) : ((faultGone s m).1).aisle = s.aisle := by simp only [faultGone, freeCond]; split <;> rfl
@[simp] theorem faultGone_tx (s : State) (m : Nat) : ((faultGone s m).1).tx = s.tx := by simp only [faultGone, freeCond]; split <;> rfl
@[simp] theorem faultGone_sol (s : State) (m : Nat) : ((faultGone s m).1).sol = s.sol := by simp only [faultGone, freeCond]; split <;> rfl
@[simp] theorem faultGone_mkt (s : State) (m : Nat) : ((faultGone s m).1).mkt = s.mkt := by simp only [faultGone, freeCond]; split <;> rfl
@[simp] theorem faultGone_tal (s : State) (m : Nat) : ((faultGone s m).1).tal = s.tal := by simp only [faultGone, freeCond]; split <;> rfl
@[simp] theorem faultGone_rec (s : State) (m : Nat) : ((faultGone s m).1).rec_ = s.rec_ := by simp only [faultGone, freeCond]; split <;> rfl
@[simp] theorem faultGone_pair (s : State) (m : Nat) : ((faultGone s m).1).pair = s.pair := by simp only [faultGone, freeCond]; split <;> rfl
@[simp] theorem faultGone_hld (s : State) (m : Nat) : ((faultGone s m).1).hld = s.hld := by simp only [faultGone, freeCond]; split <;> rfl
@[simp] theorem faultGone_snf (s : State) (m : Nat) : ((faultGone s m).1).snf = s.snf := by simp only [faultGone, freeCond]; split <;> rfl
@[simp] theorem faultGone_thr (s : State) (m : Nat) : ((faultGone s m).1).thr = s.thr := by simp only [faultGone, freeCond]; split <;> rfl
@[simp] theorem faultGone_mgt (s : State) (m : Nat) : ((faultGone s m).1).mgt = s.mgt := by simp only [faultGone, freeCond]; split <;> rfl
@[simp] theorem faultGone_wax (s : State) (m : Nat) : ((faultGone s m).1).wax = s.wax := by simp only [faultGone, freeCond]; split <;> rfl
@[simp] theorem faultGone_rlt (s : State) (m : Nat) : ((faultGone s m).1).rlt = s.rlt := by simp only [faultGone, freeCond]; split <;> rfl
@[simp] theorem faultGone_mon (s : State) (m : Nat) : ((faultGone s m).1).mon = s.mon := by simp only [faultGone, freeCond]; split <;> rfl
@[simp] theorem faultGone_glb (s : State) (m : Nat) : ((faultGone s m).1).glb = s.glb := by simp only [faultGone, freeCond]; split <;> rfl
@[simp] theorem faultGone_before (s : State) (m : Nat) : ((faultGone s m).1).before = s.before := by simp only [faultGone, freeCond]; split <;> rfl
@[simp] theorem faultGone_marks (s : State) (m : Nat) : ((faultGone s m).1).marks = s.marks := by simp only [faultGone, freeCond]; split <;> rfl
@[simp] theorem regW_faultGone (s : State) (m : Nat) (r : RegName) (i : Nat) : regW ((faultGone s m).1) r i = regW s r i := by simp [regW]
@[simp] theorem wickOf_faultGone (s : State) (m : Nat) (k : Nat) : wickOf ((faultGone s m).1) k = wickOf s k := by simp [wickOf]
@[simp] theorem slotOf_faultGone (s : State) (m : Nat) (k : Nat) : slotOf ((faultGone s m).1) k = slotOf s k := by simp [slotOf]
@[simp] theorem chanOf_faultGone (s : State) (m : Nat) (k : Nat) : chanOf ((faultGone s m).1) k = chanOf s k := by simp [chanOf]
@[simp] theorem colOf_faultGone (s : State) (m : Nat) (k : Nat) : colOf ((faultGone s m).1) k = colOf s k := by simp [colOf]
@[simp] theorem dryOf_faultGone (s : State) (m : Nat) (k : Nat) : dryOf ((faultGone s m).1) k = dryOf s k := by simp [dryOf]
@[simp] theorem heatOf_faultGone (s : State) (m : Nat) (k : Nat) : heatOf ((faultGone s m).1) k = heatOf s k := by simp [heatOf]
@[simp] theorem aerOf_faultGone (s : State) (m : Nat) (k : Nat) : aerOf ((faultGone s m).1) k = aerOf s k := by simp [aerOf]
@[simp] theorem engOf_faultGone (s : State) (m : Nat) (k : Nat) : engOf ((faultGone s m).1) k = engOf s k := by simp [engOf]
@[simp] theorem rowOf_faultGone (s : State) (m : Nat) (k : Nat) : rowOf ((faultGone s m).1) k = rowOf s k := by simp [rowOf]
@[simp] theorem bskOf_faultGone (s : State) (m : Nat) (k : Nat) : bskOf ((faultGone s m).1) k = bskOf s k := by simp [bskOf]
@[simp] theorem blkOf_faultGone (s : State) (m : Nat) (k : Nat) : blkOf ((faultGone s m).1) k = blkOf s k := by simp [blkOf]
@[simp] theorem taperOf_faultGone (s : State) (m : Nat) (k : Nat) : taperOf ((faultGone s m).1) k = taperOf s k := by simp [taperOf]
@[simp] theorem loopOf_faultGone (s : State) (m : Nat) (k : Nat) : loopOf ((faultGone s m).1) k = loopOf s k := by simp [loopOf]
@[simp] theorem motOf_faultGone (s : State) (m : Nat) (k : Nat) : motOf ((faultGone s m).1) k = motOf s k := by simp [motOf]
@[simp] theorem gateOf_faultGone (s : State) (m : Nat) (k : Nat) : gateOf ((faultGone s m).1) k = gateOf s k := by simp [gateOf]
@[simp] theorem routeOf_faultGone (s : State) (m : Nat) (k : Nat) : routeOf ((faultGone s m).1) k = routeOf s k := by simp [routeOf]
@[simp] theorem slipOf_faultGone (s : State) (m : Nat) (k : Nat) : slipOf ((faultGone s m).1) k = slipOf s k := by simp [slipOf]
@[simp] theorem aisOf_faultGone (s : State) (m : Nat) (k : Nat) : aisOf ((faultGone s m).1) k = aisOf s k := by simp [aisOf]
@[simp] theorem stlOf_faultGone (s : State) (m : Nat) (k : Nat) : stlOf ((faultGone s m).1) k = stlOf s k := by simp [stlOf]
@[simp] theorem txOf_faultGone (s : State) (m : Nat) (k : Nat) : txOf ((faultGone s m).1) k = txOf s k := by simp [txOf]
@[simp] theorem solOf_faultGone (s : State) (m : Nat) (k : Nat) : solOf ((faultGone s m).1) k = solOf s k := by simp [solOf]
@[simp] theorem sensOf_faultGone (s : State) (m : Nat) (k : Nat) : sensOf ((faultGone s m).1) k = sensOf s k := by simp [sensOf]
@[simp] theorem polOf_faultGone (s : State) (m : Nat) (k : Nat) : polOf ((faultGone s m).1) k = polOf s k := by simp [polOf]


end Sys2Proof.Machine
end

