-- ==== Sys2Proof/Laws/Market.lean ====
section
/-!
SUPPORT. A datagram that passes the checks of R312, R425, R429 and R437 is handled by its function; what a SWITCH is answered.
-/
namespace Sys2Proof.Machine

open Sys2Proof

/-- A datagram from a known key with the access level it needs: its function runs after the acceptance, and its answer is sent. -/
theorem withDgram_handled (s : State) (d : Dgram) (level k l : Nat) (f : State → Nat → State × Nat × List W32) (hr : fwRuns s = true)
    (hi : (identNow s).isSome = true) (ha : authOf s d = some (k, l)) (hl : level ≤ l) {r : State × Nat × List W32}
    (hf : f (acceptDgram s d k) l = r) : withDgram s d level f = respond r.1 d (keyIn s k) r.2.1 r.2.2 := by
  subst hf
  simp [withDgram, hr, hi, ha, Nat.not_lt.mpr hl]

theorem answerSwitch_taken (s : State) (t : Nat) (d : Dgram) (x : Switch) (h : switchStatus s t x.s x.gen x.op x.subject x.hash = 0) :
    answerSwitch s t d x = (noteChange (takeSwitch s x) d, 0, []) := by
  unfold answerSwitch
  generalize switchStatus s t x.s x.gen x.op x.subject x.hash = c at *
  exact if_pos h

theorem answerSwitch_refused (s : State) (t : Nat) (d : Dgram) (x : Switch) (c : Nat)
    (hc : switchStatus s t x.s x.gen x.op x.subject x.hash = c) (h : c ≠ 0) :
    answerSwitch s t d x = (logEv s srcMkt .switchRefused c, c, []) := by
  unfold answerSwitch
  rw [hc]
  exact if_neg h

end Sys2Proof.Machine
end

