-- ==== Sys2Proof/Laws/Wick.lean ====
section
/-!
SUPPORT. What losing a wick does to the wicks: the holds of the lamplighter, the motor ports and the gates leave them alone.
-/
namespace Sys2Proof.Machine

open Sys2Proof

@[simp] theorem setSt_wick (s : State) (i : Nat) (st : SlotSt) : (setSt s i st).wick = s.wick := by
  unfold setSt; apply forEach_keeps (·.wick); intro _ _; rfl

@[simp] theorem markMissed_wick (s : State) (i : Nat) : (markMissed s i).wick = s.wick := by simp [markMissed, modSlot]

@[simp] theorem lltPost_wick (s : State) (b : Nat) (m : Msg) : (lltPost s b m).1.wick = s.wick := by
  unfold lltPost; split <;> rfl

@[simp] theorem lltReport_wick (s : State) (i : Nat) (p : Option Nat) (c : Nat) : (lltReport s i p c).wick = s.wick := by
  unfold lltReport; repeat' split
  all_goals simp

@[simp] theorem unsend_wick (s : State) (i : Nat) : (unsend s i).wick = s.wick := by
  unfold unsend; split <;> simp [modSlot]

@[simp] theorem enterSt_wick (s : State) (i : Nat) (st : SlotSt) : (enterSt s i st).wick = s.wick := by
  unfold enterSt; cases st <;> simp

@[simp] theorem lltLost_wick (s : State) (w : Nat) : (lltLost s w).wick = s.wick := by
  unfold lltLost
  split
  · rfl
  · apply forEach_keeps (·.wick); intro s i; simp only; split <;> simp

@[simp] theorem dropHomed_wick (s : State) (w : Nat) : (dropHomed s w).wick = s.wick := by
  unfold dropHomed; apply forEach_keeps (·.wick); intro s i; simp only; split <;> simp

@[simp] theorem dropOffset_wick (s : State) (w : Nat) : (dropOffset s w).wick = s.wick := by
  unfold dropOffset; split <;> simp


@[simp] theorem motWickLost_wick (s : State) (w : Nat) : (motWickLost s w).wick = s.wick := by
  simp only [motWickLost]; repeat' split
  all_goals simp

/-- A wick that becomes LOST has speed 0 and one more loss; every other wick stands (R41, R42). -/
theorem loseWick_wick (s : State) (w t : Nat) (h1 : (wickOf s w).st ≠ .lost) (h2 : (wickOf s w).st ≠ .disabled) :
    (loseWick s w t).wick = (setWick s w { wickOf s w with
      st := .lost, speed := 0, stillFrom := none, lostAt := t, losses := satInc 16 (wickOf s w).losses, goodPeriods := 0, badPeriods := 0,
      startLost := false, dormLost := (wickOf s w).dormLost || s.snf.dormant }).wick := by
  simp [loseWick, h1, h2]

/-- An edge outside the cycle of a latch is taken at once (R35, R39). -/
theorem tickEvent_edge (s : State) (w t : Nat) (e : TickEdge) (hh : s.wick.held = []) (hl : inLatchCycle s t = false) :
    tickEvent s w t (some e) = takeEdge s w t e := by simp [tickEvent, flushHeld, hh, hl, takeHeld]

/-- A timeout outside the cycle of a latch is taken at once (R35, R39). -/
theorem tickEvent_timeout (s : State) (w t : Nat) (hh : s.wick.held = []) (hl : inLatchCycle s t = false) :
    tickEvent s w t none = takeTimeout s w t := by simp [tickEvent, flushHeld, hh, hl, takeHeld]

/-- What happens in the cycle of a latch waits until the latch is taken (R35, R40). -/
theorem tickEvent_waits (s : State) (w t : Nat) (e : Option TickEdge) (hh : s.wick.held = []) (hl : inLatchCycle s t = true) :
    tickEvent s w t e = { s with wick := { s.wick with held := [{ wick := w, t := t, edge := e }] } } := by
  simp [tickEvent, flushHeld, hh, hl]

end Sys2Proof.Machine
end

