-- ==== Sys2Proof/Machine/Wire.lean ====
section
/-!
DEFINITION. The bytes of what a unit sends on the market: basket frames (R295, R303, R308), management datagrams
(R311, R312), the frames of the pair link (R345, R346), and the parts of a stream image with a stated layout (R371 to R374, R376).
-/
namespace Sys2Proof.Machine

open Sys2Proof

/-- Big-endian bytes of the n-byte number x. -/
def bytesBE (n x : Nat) : List Byte := (bytesLE n x).reverse

/-- MAC addresses of the market (R295): a market ID's wick publications, and the hellos to all devices. -/
def wickMac (id : Nat) : Nat := 0x03F1A0010000 + id
def helloMac : Nat := 0x03F1A0000000

/-- Frame types (R308). -/
inductive FrameType where
  | data | credit | wick | hello
  deriving DecidableEq, Repr

/-- Code of a frame type. -/
def FrameType.code (x : FrameType) : Nat := x.ctorIdx + 1

/-- The 42 bytes before a frame's entries (R303, R308): the Ethernet header and the tag big-endian, the rest little-endian. -/
def frameHead (s : State) (typ : FrameType) (h : FrameOut) (count : Nat) : List Byte :=
  let dst := match typ with | .wick => wickMac (marketId s) | .hello => helloMac | _ => macOf h.dst
  bytesBE 6 dst ++ bytesBE 6 (macOf (marketId s)) ++ bytesBE 2 0x8100 ++ bytesBE 2 (classPcp h.cls * 2 ^ 13 + marketVid s) ++
  bytesBE 2 0x88B5 ++ bytesLE 1 1 ++ bytesLE 1 typ.code ++ bytesLE 2 (marketNo s) ++ bytesLE 2 (marketId s % 1024) ++ bytesLE 2 h.dst ++
  bytesLE 2 h.gen ++ bytesLE 2 h.seq ++ bytesLE 1 h.cls ++ bytesLE 1 count ++ bytesLE 8 h.stamp ++
  bytesLE 1 ((if h.unsynced then 1 else 0) + (if h.leaving then 2 else 0)) ++ bytesLE 1 0

/-- A DATA entry (R308); none where the spec gives the message no layout. -/
def Entry.bytes (e : Entry) : Option (List Byte) :=
  e.msg.image.map (fun l =>
    bytesLE 2 e.basket ++ bytesLE 2 (e.tag % 4096 + (if e.request then 4096 else 0) + (if e.reply then 8192 else 0)) ++ bytesLE 1 e.width ++
    bytesLE 1 e.status ++ bytesLE 2 0 ++ (l ++ List.replicate (widthBytes e.width) 0#8).take (widthBytes e.width))

/-- A CREDIT entry (R308). -/
def creditEntry (basket limit : Nat) : List Byte := bytesLE 2 basket ++ bytesLE 2 limit ++ bytesLE 4 0

/-- A WICK frame's entry: 8 bytes of 0 and the record (R36, R308). -/
def wickEntry (r : SnapRec) : List Byte := bytesLE 8 0 ++ r.bytes

/-- The 40-byte entry of a HELLO (R308). -/
def helloEntry (t member : Nat) (sync : Bool) (hops pair gen hash8 : Nat) : List Byte :=
  bytesLE 1 member ++ bytesLE 1 (if sync then 1 else 0) ++ bytesLE 1 hops ++ bytesLE 1 pair ++ bytesLE 2 gen ++ bytesLE 2 0 ++
  bytesLE 8 hash8 ++ bytesLE 8 t ++ List.replicate 16 0#8

/-- A basket frame with its FCS, IEEE 802.3's CRC-32 (R308). -/
def withFcs (l : List Byte) : List Byte := l ++ bytesLE 4 (crc32 l).toNat

/-- The bytes of a basket frame that the unit sends (R308); none for what is no basket frame or holds a message without a layout. -/
def Sent.frame (s : State) (x : Sent) : Option (List Byte) :=
  match x with
  | .data h es => (es.mapM Entry.bytes).map (fun l => withFcs (frameHead s .data h es.length ++ l.flatten))
  | .credit h b l => some (withFcs (frameHead s .credit h 1 ++ creditEntry b l))
  | .wick h rs => some (withFcs (frameHead s .wick h rs.length ++ rs.flatMap wickEntry))
  | .hello h t m y hp p g x => some (withFcs (frameHead s .hello h 1 ++ helloEntry t m y hp p g x))
  | _ => none

/-- Types of management datagrams (R312). -/
inductive DgramType where
  | read | write | response | switch | tallyPost | streamChunk | imageChunk | lantern | waxData | notice
  deriving DecidableEq, Repr

/-- Code of a datagram type. -/
def DgramType.code (x : DgramType) : Nat := x.ctorIdx + 1

/-- The UDP payload of a datagram that the unit sends under a key (R311). -/
def dgramBytes (s : State) (typ : DgramType) (target seq sent keyId : Nat) (respond : Bool) (body key : List Byte) : List Byte :=
  let l := bytesLE 1 1 ++ bytesLE 1 typ.code ++ bytesLE 2 (marketNo s) ++ bytesLE 2 (marketId s) ++ bytesLE 2 target ++ bytesLE 8 seq ++
    bytesLE 8 sent ++ bytesLE 1 keyId ++ bytesLE 1 (if respond then 1 else 0) ++ bytesLE 2 body.length ++ body
  l ++ bytesBE 32 (Config.hmac key l).toNat

/-- The body of a RESPONSE (R312). -/
def responseBody (seq status : Nat) (ws : List W32) : List Byte :=
  bytesLE 8 seq ++ bytesLE 2 status ++ bytesLE 2 ws.length ++ ws.flatMap (fun w => bytesLE 4 w.toNat)

/-! ## The pair link (R345, R346) -/

/-- Types of pair-link frames (R345). -/
inductive LinkType where
  | mirror | copy | lantern | control
  deriving DecidableEq, Repr

/-- Code of a pair-link frame type. -/
def LinkType.code (x : LinkType) : Nat := x.ctorIdx + 1

/-- A pair-link frame (R345): the header, the payload, and the CRC-32 over all bytes before it. -/
def linkFrame (typ : LinkType) (seq epoch set offset : Nat) (payload : List Byte) : List Byte :=
  withFcs (bytesLE 2 typ.code ++ bytesLE 2 payload.length ++ bytesLE 4 seq ++ bytesLE 8 epoch ++ bytesLE 8 set ++ bytesLE 4 offset ++ payload)

/-- The pair-link frame of a lantern that the unit sends (R365). -/
def lanternFrame (seq : Nat) (x : LanternImg) : List Byte := linkFrame .lantern seq x.epoch 0 0 x.bytes

/-- A changed slot in a mirror set (R346): the number, 2 bytes of 0, the status word, the record. -/
def mirrorSlot (i : Nat) (status : W32) (a : ActRec) : List Byte :=
  bytesLE 2 i ++ bytesLE 2 0 ++ bytesLE 4 status.toNat ++ (upTo 8).flatMap (fun k => bytesLE 4 (actWord a k).toNat)

/-! ## A stream image (R371 to R374, R376) -/

/-- The 128-byte header of a stream image; the tool's version and the time of building are informative (R371). -/
def streamHead (m : StreamImg) (count tool created : Nat) : List Byte :=
  bytesLE 4 0x4E444C48 ++ bytesLE 2 1 ++ bytesLE 1 (if m.full then 1 else 2) ++ bytesLE 1 0 ++ bytesLE 4 m.length ++ bytesLE 2 count ++
  bytesLE 2 m.stepping ++ bytesLE 2 m.result.mirrorVer ++ bytesLE 2 0 ++ bytesLE 4 m.version ++ bytesLE 4 m.patchNo ++ bytesLE 4 tool ++
  bytesLE 8 created ++ bytesLE 32 m.hash ++ bytesLE 32 m.baseHash ++ bytesLE 24 0

/-- A directory entry (R371). -/
def dirEntry (typ offset size : Nat) (crc : W32) : List Byte :=
  bytesLE 2 typ ++ bytesLE 2 0 ++ bytesLE 4 offset ++ bytesLE 4 size ++ bytesLE 4 crc.toNat

/-- The 64-byte header of a firmware image (R427). -/
def firmwareHead (x : FwImage) (built : Nat) : List Byte :=
  bytesLE 4 0x57464A50 ++ bytesLE 2 1 ++ bytesLE 1 3 ++ bytesLE 1 0 ++ bytesLE 4 x.length ++ bytesLE 2 x.stepping ++
  bytesLE 2 x.mirrorVer ++ bytesLE 4 x.version ++ bytesLE 8 built ++ bytesLE 36 0

/-- The 32-byte body of a NOTICE (R468). -/
def noticeBody (sent pending raw head seq : Nat) : List Byte :=
  bytesLE 8 sent ++ bytesLE 4 pending ++ bytesLE 4 raw ++ bytesLE 8 head ++ bytesLE 4 seq ++ bytesLE 4 0

/-- The body of a WAX_DATA datagram without its data (R452). -/
def waxDataHead (offset size : Nat) (last : Bool) (source : Nat) : List Byte :=
  bytesLE 8 offset ++ bytesLE 2 size ++ bytesLE 1 (if last then 1 else 0) ++ bytesLE 1 source

/-- A binary block of the monitor (R459). -/
def monBlock (offset : Nat) (data : List Byte) : List Byte :=
  let l := bytesLE 4 offset ++ bytesLE 2 data.length ++ data
  bytesLE 1 0x42 ++ l ++ bytesLE 4 (crc32 l).toNat

/-- The 72-byte signature trailer (R371). -/
def sigTrailer (slot r x : Nat) : List Byte := bytesLE 1 slot ++ bytesLE 7 0 ++ bytesBE 32 r ++ bytesBE 32 x

/-- The 8-byte header of a record; the face is 0 basic, 1 expert, 255 none (R373). -/
def recordHead (index length face : Nat) (enable : Bool) (kind : Nat) : List Byte :=
  bytesLE 2 index ++ bytesLE 2 length ++ bytesLE 1 face ++ bytesLE 1 (if enable then 1 else 0) ++ bytesLE 2 kind

/-- The 16 bytes of an instance in PLACEMENT; `params` is the offset of its record in PARAMS (R374). -/
def placementBytes (i : Nat) (x : Inst) (params : Nat) : List Byte :=
  bytesLE 2 i ++ bytesLE 1 x.typ.code ++ bytesLE 1 x.engine ++ bytesLE 1 x.k ++
  bytesLE 1 ((if x.mirror then 1 else 0) + (if x.tally then 2 else 0)) ++ bytesLE 2 x.phase ++ bytesLE 2 x.items ++
  bytesLE 2 (match x.owner with | some q => 4096 * q.1 + q.2 | none => 0xFFFF) ++ bytesLE 4 params

/-- A pair entry (R376). -/
def pairEntryBytes (e : PairEntry) : List Byte := bytesLE 1 e.kind ++ bytesLE 1 e.index ++ bytesLE 1 e.code ++ bytesLE 1 0

end Sys2Proof.Machine
end

