-- ==== Sys2Proof/WellFormed.lean ====
section
/-!
DEFINITION. What makes a command well formed: the ranges of its operands that its type does not hold already.
-/
namespace Sys2Proof

open Sys2Proof.Machine

/-- A name of 16 bytes at most fits the serial (R438). -/
def Instr.serialOk (s : List Byte) : Bool := s.length ≤ 64

/-- Data of a chunk datagram: 1 to 400 bytes (R381, R433, R452). -/
def Instr.chunkOk (d : List Byte) : Bool := 1 ≤ d.length && d.length ≤ 400

/-- A count of register words in a READ or WRITE datagram: 1 to 100 (R312). -/
def Instr.wordsOk (n : Nat) : Bool := 1 ≤ n && n ≤ 100

/-- A command's operands lie in the ranges that the spec gives the datagram, signal or register that carries them. -/
def Instr.wf (i : Instr) : Bool :=
  match i with
  | .wickPresetRequest _ v => -(2 ^ 47 : Int) ≤ v && v < (2 ^ 47 : Int)
  | .datagramRead _ _ addr n => addr < 2 ^ 32 && Instr.wordsOk n
  | .datagramWrite _ _ addr ws => addr < 2 ^ 32 && Instr.wordsOk ws.length
  | .streamChunk _ _ o _ d => o < 2 ^ 32 && Instr.chunkOk d
  | .imageChunk _ _ o _ d => o < 2 ^ 32 && Instr.chunkOk d
  | .waxDataImport _ _ o d => o < 2 ^ 64 && Instr.chunkOk d
  | .duloRd _ addr n => addr < 2 ^ 32 && 1 ≤ n && n ≤ 64
  | .duloWr _ addr _ => addr < 2 ^ 32
  | .duloEvr _ n => 1 ≤ n && n ≤ 256
  | .duloBinaryBlock _ o d _ => o < 2 ^ 32 && d.length ≤ 1024
  | .duloLatch _ s => Instr.serialOk s
  | .registerWrite addr _ => addr < 2 ^ 32
  | .pairLowWordRead addr => addr < 2 ^ 32
  | .pairHighWordWrite addr _ => addr < 2 ^ 32
  | .solStart _ h => h < 2 ^ 32
  | .wickTick _ _ (.hall c) => c < 8
  | _ => true

end Sys2Proof
end

