-- ==== Sys2Proof/Tests/Slice0.lean ====
section
/-!
SUPPORT. Tests: each check of `Instr.wf` refuses an ill-formed command; what the step does with the queue; a few values worked
out by hand from the spec; and for every clause of every statement a state and operands that meet its hypotheses together.
-/
namespace Sys2Proof.Tests

set_option linter.unusedVariables false
set_option maxRecDepth 4000

open Sys2Proof Sys2Proof.Machine

/-! ## Helpers -/

/-- A Dgram of the plainest kind. -/
def dgram0 : Dgram :=
  { macOk := true, market := 0, sender := 0x8000, target := 0, seq := 1, keyId := 0, respond := true }
/-- A FrameHdr of the plainest kind. -/
def frame0 : FrameHdr :=
  { fcsOk := true, version := 1, market := 0, src := 0, dst := 0, gen := 0, len := 64, ownMac := false, cls := 0 }
/-- A PairHdr of the plainest kind. -/
def pairHdr0 : PairHdr :=
  { crcOk := true, epoch := 0, set := 0, offset := 0, len := 0, total := 0, totalOk := true }
/-- A BridgeFrame of the plainest kind. -/
def bridge0 : BridgeFrame :=
  { port := 0, srcMac := 1, dstMac := 2, basket := false, pub := false, dstId := 0, tagged := false, vid := 0, pcp := 0, len := 64 }
/-- A Control of the plainest kind. -/
def ctl0 : Control :=
  { st := .spare, phase := .wait, pairId := false, owning := false, hash8 := 0, mirrorVer := 0, patchNo := 0, patchFrame := none, epoch := 0 }
/-- A HelloInfo of the plainest kind. -/
def hello0 : HelloInfo :=
  { member := 0, sync := true, hops := 0, pair := 0, otherMac := false, hash8 := 0 }
/-- A FwImage of the plainest kind. -/
def fw0 : FwImage :=
  { length := 0, stepping := 0xB1, mirrorVer := 0, version := 0, headerOk := true, keySlot := 0, sigOk := true, lib := 0 }
/-- A TrimSession of the plainest kind. -/
def trim0 : TrimSession :=
  { span := false, port := 0, steps := 0, lastPress := 0 }
/-- A SearchReading of the plainest kind. -/
def search0 : SearchReading :=
  { vLine := 0, fl := 0#32, angle := 0, reversed := false, seqHeld := false }
/-- A PhaseSample of the plainest kind. -/
def phase0 : PhaseSample :=
  { iu := [], iv := [], iw := [], udc := [], fu := [], fv := [], fw := [], valley := false }
/-- A Lantern of the plainest kind. -/
def lantern0 : Lantern :=
  { issued := 0, st := .spare, health := .good, fresh := true, aislesLinked := 0, epoch := 0 }
/-- A SetReading of the plainest kind. -/
def setRd0 : SetReading :=
  { gammaM := [], gammaRef := [], rNtc := 0#32, tAisle := 0, unlock := false, overrange := false }
/-- A change of the state. -/
def onTop (f : State → State) (s : State) : State := f s
/-- A change of one wick, channel, column, … (the same for each kind of item below). -/
def onWick (w : Nat) (f : Wick → Wick) (s : State) : State := setWick s w (f (wickOf s w))
def onChan (c : Nat) (f : MoistCh → MoistCh) (s : State) : State := setChan s c (f (chanOf s c))
def onCol (c : Nat) (f : Column → Column) (s : State) : State := setCol s c (f (colOf s c))
def onDry (c : Nat) (f : Dry → Dry) (s : State) : State := setDry s c (f (dryOf s c))
def onAer (g : Nat) (f : Aer → Aer) (s : State) : State := setAer s g (f (aerOf s g))
def onEng (e : Nat) (f : Engine → Engine) (s : State) : State := setEng s e (f (engOf s e))
def onMot (m : Nat) (f : Motor → Motor) (s : State) : State := setMot s m (f (motOf s m))
def onGate (m : Nat) (f : Gate → Gate) (s : State) : State := setGate s m (f (gateOf s m))
def onRoute (r : Nat) (f : Route → Route) (s : State) : State := setRoute s r (f (routeOf s r))
def onAis (n : Nat) (f : Aisle → Aisle) (s : State) : State := setAis s n (f (aisOf s n))
def onStl (i : Nat) (f : Stall → Stall) (s : State) : State := setStl s i (f (stlOf s i))
def onTx (n : Nat) (f : TxPort → TxPort) (s : State) : State := setTx s n (f (txOf s n))
def onSol (v : Nat) (f : SolPort → SolPort) (s : State) : State := setSol s v (f (solOf s v))
def onSens (i : Nat) (f : Sensor → Sensor) (s : State) : State := setSens s i (f (sensOf s i))
def onTaper (j : Nat) (f : Taper → Taper) (s : State) : State := setTaper s j (f (taperOf s j))
def onLoop (i : Nat) (f : Loop → Loop) (s : State) : State := setLoop s i (f (loopOf s i))
def onSlot (i : Nat) (f : Slot → Slot) (s : State) : State := setSlot s i (f (slotOf s i))
/-- A field of a register, stored and in force. -/
def bits (r : RegName) (i lo n x : Nat) (s : State) : State := putReg s r i (setFldW (regW s r i) lo n x)
/-- A mirror set with nothing in it. -/
def mirror0 : MirrorSet :=
  { seq := 0, epoch := 0, frame := 0, close := 0, hash8 := 0, mirrorVer := 0, overrun := false, cols := [], parcels := [], slots := [],
    insts := [], dry := [], snaps := [], motors := [], sols := [], txs := [], doMap := [], cmds := [], credits := [] }
/-- A full stream image with nothing in it. -/
def img0 : StreamImg :=
  { full := true, length := 0, headerOk := true, stepping := 0xB1, keySlot := 0, sigOk := true, version := 0, patchNo := 0, secs := [],
    secOk := true, hasIdentity := true, hash := 0, baseHash := 0, recordOk := true, result := Structure.empty }
/-- A request for a record. -/
def ev0 : EvReq := { src := srcDev 0, name := .recorderRestored, t := 0, came := 0, data := 0, conts := 0 }
/-- The record that ev0 gives. -/
def rec0 : EvRec := { seq := 1, tFirst := 0, tLastUs := 0, src := srcDev 0, name := .recorderRestored, conts := 0, isCont := false, rep := 1, data := 0 }
/-- A checkpoint with nothing in it. -/
def ckpt0 : Ckpt :=
  { col := 0, hash := 0, plen := 0, len := 0, origin := 0, shift := 0, wick := 0, k := 0, countCk := 0, losses := 0, auxResets := 0, time := 0, shadowN := 0, table := [], shadow := [], reIn := [], reDis := [], crc := 0#32 }
/-- A market key with ADMIN access. -/
def key0 : MktKey := { key := 0, keyId := 0, level := 3 }
/-- A frozen image with nothing in it. -/
def frozen0 : Frozen :=
  { stepping := 0, device := 0, market := 0, firmware := 0, lib := 0, hash := 0, first := 0, last := 0, streams := [], chain := 0,
    key := { frame := 0, hash8 := 0, image := imageOf State.reset, seen := 0, complete := false }, segs := [], imported := false, sig := 0, formatOk := true }
/-- A record of a stall. -/
def edge0 : UpRec := .cnt 0 0 0 0#8
/-- An EDGE instance due in every frame. -/
def inst0 : Inst :=
  { typ := .edge, engine := 0, k := 0, phase := 0, mirror := false, tally := false, items := 0, owner := none, expert := false, idx := 0,
    ins := [], outs := [], vals := [], ids := [] }
/-- A motor as a member of a route. -/
def memb0 : RouteMember :=
  { kind := .motor 0, wick := none, vNom := 0#32, target := 0#32, proofDi := none, runOut := 0, tClear := 0, shared := false }
/-- The state that a command leaves. -/
def after (c : Instr) (s : State) : State := match exec c s with | .next t => t | _ => s
/-- A summary with nothing in it. -/
def sum0 : Summary :=
  { second := 0, firstFrame := 0, frames := 0, bytes := 0, evrHead := 0, gap := false, damaged := false, unsynced := false, stepped := false,
    stalls := [], wicks := [], motors := [], chans := [], sols := [], txs := [], rows := [], aisles := [], rails := [], selected := [] }
/-- A structure with nothing but its load tables. -/
def str0 : Structure := { Structure.empty with rows := List.replicate 8 32, we := List.replicate 128 0 }
/-- The sections that a full stream must have. -/
def secs0 : List SecDigest := requiredSecs.map (fun t => { typ := t, size := 1, digest := 0 })
/-- A full stream that passes every check. -/
def okFull : StreamImg := { img0 with secs := secs0, hash := structHash (mergeSecs Structure.empty { img0 with secs := secs0 }), result := str0 }
def patch0 : StreamImg := { img0 with full := false, hasIdentity := false, secs := [{ typ := 3, size := 1, digest := 0 }] }
/-- A patch that passes every check. -/
def okPatch : StreamImg := { patch0 with hash := structHash (mergeSecs Structure.empty patch0), result := str0 }
/-- A frozen image of a chain that passes every check. -/
def okFrozen : Frozen := { frozen0 with stepping := 0xB1, hash := okFull.hash, streams := [okFull], chain := 1 }
/-- An image that passes each check of R389 is accepted: the witnesses below state each check. -/
theorem validate_ok {s : State} {base : Structure} {img : StreamImg} (h1 : (img.headerOk && decide (img.length ≤ 16777216) && (img.hasIdentity || !img.secs.isEmpty)) = true) (h2 : img.stepping = 0xB1)
    (h3 : (img.sigOk && streamKeyOk s img.keySlot) = true) (h4 : ¬ img.version < s.mgt.floorStr) (h5 : secsOk img = true)
    (h6 : structHash (mergeSecs base img) = img.hash) (h7 : (!img.full && img.baseHash != base.hash) = false) (h8 : recordsOk img = true)
    (h9 : facesOk img.result = true) (h10 : capacityOk s img.result = true) (h11 : rulesOk s img.full base img.result = true)
    (h12 : pairEntriesOk img.result = true) (h13 : (!img.full && !retiringOk s img.result) = false) : validate s base img = .ok := by
  simp [validate, *]
theorem loadStream_ok {s : State} {img : StreamImg} {l : List StreamImg} (h0 : s.mgt.strB = false) (h1 : s.mgt.bankA = img :: l)
    (h2 : s.mgt.validA = true) (h3 : img.full = true) (h4 : validate s Structure.empty img = .ok) : (loadStream s).hld.cand.isSome = true := by
  simp [loadStream, tryBank, fullOf, bankOf, bankValid, modHld, hldResult, h0, h1, h2, h3, h4]
theorem rltCheck_ok (s : State) {x : FwImage} (h : fwImage s = some x) (hl : x.lib = okFrozen.lib)
    (hv : validateRlt s Structure.empty okFull = .ok) : (rltCheck s okFrozen).1 = 0 := by
  have hc : rltChain s Structure.empty true (okFrozen.streams.take okFrozen.chain) = (.ok, resultOf Structure.empty okFull) := by
    show rltChain s Structure.empty true [okFull] = _
    simp [rltChain, hv, show okFull.full = true from rfl]
  have hh : (resultOf Structure.empty okFull).hash = okFrozen.hash := rfl
  simp [rltCheck, hc, h, hl, hh, show okFrozen.formatOk = true from rfl, show okFrozen.stepping = 177 from rfl,
    show okFrozen.streams.isEmpty = false from rfl]
/-- The core runs at stage 8. -/
def running (s : State) : State := { s with snf := { s.snf with corePowered := true, stage := 8 } }
/-- A configuration is committed. -/
def committed (s : State) : State := { s with hld := { s.hld with committed := true } }
/-- The market key `key0` stands in slot 0. -/
def keyed (s : State) : State := { s with mgt := { s.mgt with keys := [(0, key0)] } }
/-- VAUX stands and the monitor runs. -/
def powered (s : State) : State := { s with snf := { s.snf with vaux := true }, mgt := { s.mgt with halted := false } }
/-- Outputs are enabled and gated on. -/
def enabled (s : State) : State := { s with snf := { s.snf with enabled := true }, pair := { s.pair with gate := true } }
/-- The monitor's write latch is open. -/
def latched (s : State) : State := { s with mon := { s.mon with latched := true } }

/-! ## Ill-formed commands -/

theorem test_wf_wickPreset : (Instr.wickPresetRequest 0 (2 ^ 47)).wf = false := by decide
theorem test_wf_wickPreset_low : (Instr.wickPresetRequest 0 (-(2 ^ 47) - 1)).wf = false := by decide
theorem test_wf_datagramRead_addr : (Instr.datagramRead 0 dgram0 (2 ^ 32) 1).wf = false := by decide
theorem test_wf_datagramRead_count : (Instr.datagramRead 0 dgram0 0 101).wf = false := by decide
theorem test_wf_datagramWrite_none : (Instr.datagramWrite 0 dgram0 0 []).wf = false := by decide
theorem test_wf_streamChunk_none : (Instr.streamChunk 0 dgram0 0 true []).wf = false := by decide
theorem test_wf_imageChunk_offset : (Instr.imageChunk 0 dgram0 (2 ^ 32) true [0]).wf = false := by decide
theorem test_wf_waxDataImport_none : (Instr.waxDataImport 0 dgram0 0 []).wf = false := by decide
theorem test_wf_duloRd_count : (Instr.duloRd 0 0 65).wf = false := by decide
theorem test_wf_duloWr_addr : (Instr.duloWr 0 (2 ^ 32) 0).wf = false := by decide
theorem test_wf_duloEvr_count : (Instr.duloEvr 0 257).wf = false := by decide
theorem test_wf_duloBinaryBlock_offset : (Instr.duloBinaryBlock 0 (2 ^ 32) [] 0).wf = false := by decide
theorem test_wf_duloLatch_serial : (Instr.duloLatch 0 (List.replicate 65 0)).wf = false := by decide
theorem test_wf_registerWrite_addr : (Instr.registerWrite (2 ^ 32) 0).wf = false := by decide
theorem test_wf_pairLowWordRead_addr : (Instr.pairLowWordRead (2 ^ 32)).wf = false := by decide
theorem test_wf_pairHighWordWrite_addr : (Instr.pairHighWordWrite (2 ^ 32) 0).wf = false := by decide
theorem test_wf_solStart_hold : (Instr.solStart 0 (2 ^ 32)).wf = false := by decide
theorem test_wf_wickTick_hall : (Instr.wickTick 0 0 (.hall 8)).wf = false := by decide

/-! ## The step -/

theorem test_step_idle : step State.reset = .next State.reset := rfl
theorem test_step_takes_front : step { State.reset with pending := [.pairClaim, .waxFreeze] } = exec .pairClaim { State.reset with pending := [.waxFreeze] } := rfl
theorem test_fetch_no_bits : decodeTableWord 32 0 = none := rfl

/-! ## Values of the spec's worked examples -/

/-- The solenoid example of 13_solenoids.md: port V4, t_peak 50 ms, D 50 %, W 10 s. -/
def v4 : State :=
  State.reset |> committed |> enabled |> bits .solPeak 4 12 14 500 |> bits .solDuty 4 0 7 50 |> bits .solDuty 4 8 13 100
    |> onSol 4 (fun x => { x with st := .off })

/-- The worst frames of CE21, CE22 and CE23 in 07_engines.md need m of 88, 32 and 32. -/
theorem test_floor_of_row : (floorOf 39610, floorOf 2770, floorOf 5570) = (88, 32, 32) := by decide

/-- 0.000 s: a start of 1,000 ms gives PEAK and E 1.050 s. -/
theorem test_solStart_first : ((solOf (solTakeStart v4 4 1000000 0).1 4).st, (solOf (solTakeStart v4 4 1000000 0).1 4).e) = (.peak, .at_ 1050000000) := by
  decide +kernel

/-- 0.030 s: a start of 1,500 ms during PEAK moves E to 1.580 s. -/
theorem test_solStart_longer :
    (solOf (solTakeStart (solTakeStart v4 4 1000000 0).1 4 1500000 30000000).1 4).e = .at_ 1580000000 := by decide +kernel

/-- 0.900 s: a request for 1.150 s leaves E at 1.580 s. -/
theorem test_solStart_shorter :
    (solOf (solTakeStart (v4 |> onSol 4 (fun x => { x with st := .hold, tPeak := 50000000, e := .at_ 1580000000 })) 4 200000 900000000).1 4).e =
      .at_ 1580000000 := by decide +kernel

/-- 02_wicks.md at 30.000 ms: 153.43 ticks/s is cut to 47.61, the reciprocal of 21 ms, in 1/256 tick/s. -/
theorem test_decayClamp : decayClamp 39278 21000000 = 12190 := by decide


/-! ## The hypotheses of the statements are met

One theorem for each statement, in parts of a few clauses: each clause's hypotheses, as the statement has them, hold together.
Hypotheses that several clauses of a statement share stand once. -/

theorem test_met_StallCommandsComplete_1 :
    (∃ (i : Fin 128) (t : Ns) (r : StallReading) (c : AnaClass) (s : State), anaClass s i r = some c ∧ aisMeasures (aisOf s (aisleOf i)) = true) ∧
    (∃ (i : Fin 128) (t : Ns) (c : DiClass) (s : State), stlMode s i = .di ∧ aisMeasures (aisOf s (aisleOf i)) = true ∧ (c ≠ .brk ∨ wbEn s i = true) ∧ (stlOf s i).aClass ≠ c ∧ (aisOf s (aisleOf i)).edges.length < 64) ∧
    (∃ (i : Fin 128) (t : Ns) (c : DiClass) (s : State), stlMode s i = .di ∧ aisMeasures (aisOf s (aisleOf i)) = true ∧ (c ≠ .brk ∨ wbEn s i = true) ∧ (stlOf s i).aClass ≠ c ∧ 64 ≤ (aisOf s (aisleOf i)).edges.length) ∧
    (∃ (i : Fin 128) (t : Ns) (c : DiClass) (s : State), stlMode s i = .di ∧ aisMeasures (aisOf s (aisleOf i)) = true ∧ (c ≠ .brk ∨ wbEn s i = true) ∧ (stlOf s i).aClass = c) ∧
    (∃ (i : Fin 128) (t : Ns) (s : State), stlMode s i = .cnt ∧ (aisOf s (aisleOf i)).st = .linked ∧ (aisOf s (aisleOf i)).lostDown = false ∧ aisleRev s i = false) ∧
    (∃ (i : Fin 128) (t : Ns) (s : State), stlMode s i = .cnt ∧ (aisOf s (aisleOf i)).st = .linked ∧ (aisOf s (aisleOf i)).lostDown = false ∧ aisleRev s i = true) ∧
    (∃ (i : Fin 128) (t : Ns) (s : State), stlMode s i = .cnt ∧ wbEn s i = true ∧ aisMeasures (aisOf s (aisleOf i)) = true) ∧
    (∃ (i : Fin 128) (t : Ns) (s : State), isDo s i = true ∧ doLevel s i = true) :=
  ⟨⟨0, 1000000000000000, { raw := 0#32, val := 0#32, leadOpen := false }, (anaClass (State.reset |> onAis (aisleOf 0) (fun x => { x with st := .linked }) |> bits .stlCfg 0 0 4 4) 0 { raw := 0#32, val := 0#32, leadOpen := false }).getD { q := .good, flags := 0#8, value := 0#32 }, State.reset |> onAis (aisleOf 0) (fun x => { x with st := .linked }) |> bits .stlCfg 0 0 4 4, by decide⟩,
    ⟨0, 1000000000000000, .on, State.reset |> bits .stlCfg 0 0 4 7 |> onAis (aisleOf 0) (fun x => { x with st := .linked }) |> onStl 0 (fun x => { x with aClass := .off }), by decide⟩,
    ⟨0, 1000000000000000, .on, State.reset |> bits .stlCfg 0 0 4 7 |> onAis (aisleOf 0) (fun x => { x with st := .linked }) |> onAis (aisleOf 0) (fun x => { x with edges := List.replicate 64 edge0 }) |> onStl 0 (fun x => { x with aClass := .off }), by decide⟩,
    ⟨0, 1000000000000000, .on, State.reset |> bits .stlCfg 0 0 4 7 |> onAis (aisleOf 0) (fun x => { x with st := .linked }) |> onStl 0 (fun x => { x with aClass := .on }), by decide⟩,
    ⟨0, 1000000000000000, State.reset |> bits .stlCfg 0 0 4 9 |> onAis (aisleOf 0) (fun x => { x with st := .linked }) |> onAis (aisleOf 0) (fun x => { x with lostDown := false }), by decide⟩,
    ⟨0, 1000000000000000, State.reset |> bits .stlCfg 0 0 4 9 |> onAis (aisleOf 0) (fun x => { x with st := .linked }) |> onAis (aisleOf 0) (fun x => { x with lostDown := false }) |> bits .wckCfg 0 0 4 4 |> bits .wckSrc 0 0 7 0 |> bits .wckCfg 0 8 1 1, by decide⟩,
    ⟨0, 1000000000000000, State.reset |> bits .stlCfg 0 0 4 9 |> onAis (aisleOf 0) (fun x => { x with st := .linked }) |> bits .stlCfg 0 5 1 1, by decide⟩,
    ⟨0, 1000000000000000, State.reset |> bits .stlCfg 0 0 4 8 |> onAis (aisleOf 0) (fun x => { x with st := .linked }) |> onStl 0 (fun x => { x with aLevel := true }) |> committed |> enabled, by decide⟩⟩

theorem test_met_StallCommandsComplete_2 :
    (∃ (i : Fin 128) (t : Ns) (s : State), (stlOf s i).aOver = true ∧ wantLevel s i = true ∧ (stlOf s i).aRetry ≤ t) ∧
    (∃ (i : Fin 128) (t : Ns) (s : State), isDo s i = true) ∧
    (∃ (i : Fin 128) (t : Ns) (b : Bool) (s : State), hasSupply s i = true ∧ aisMeasures (aisOf s (aisleOf i)) = true ∧ (stlOf s i).aSupplyLim = false ∨ (stlOf s i).aSupRetry ≤ t) :=
  ⟨⟨0, 1000000000000000, State.reset |> onStl 0 (fun x => { x with aOver := true }) |> onAis (aisleOf 0) (fun x => { x with st := .linked }) |> onStl 0 (fun x => { x with aLevel := true }) |> committed |> enabled, by decide⟩,
    ⟨0, 1000000000000000, State.reset |> bits .stlCfg 0 0 4 8, by decide⟩,
    ⟨0, 1000000000000000, true, State.reset |> onAis (aisleOf 0) (fun x => { x with st := .linked }) |> onStl 0 (fun x => { x with aSupplyLim := false }), by decide⟩⟩

theorem test_met_AisleCommandsComplete_1 :
    (∃ (n : Fin 8) (t : Ns) (v : Nat) (s : State), 4500 ≤ v ∧ (aisOf s n).st = .unpowered) ∧
    (∃ (n : Fin 8) (t : Ns) (v : Nat) (s : State), 4500 ≤ v ∧ (aisOf s n).st ≠ .unpowered) ∧
    (∃ (n : Fin 8) (t : Ns) (v : Nat) (s : State), v < 18000) ∧
    (∃ (n : Fin 8) (t : Ns) (v : Nat) (s : State), 18500 ≤ v) ∧
    (∃ (n : Fin 8) (t : Ns) (v : Nat) (s : State), v < 4300) ∧
    (∃ (n : Fin 8) (t : Ns) (s : State), coreRuns s = true ∧ (aisOf s n).st ≠ .unpowered) ∧
    (∃ (n : Fin 8) (t : Ns) (s : State), coreRuns s = true ∧ (aisOf s n).st ≠ .unpowered ∧ onEdge (setNow s t) = false) ∧
    (∃ (n : Fin 8) (t : Ns) (s : State), coreRuns s = true ∧ (aisOf s n).st ≠ .unpowered ∧ onEdge (setNow s t) = true) :=
  ⟨⟨0, 1000000000000000, 4500, State.reset |> onAis 0 (fun x => { x with st := .unpowered }), by decide⟩,
    ⟨0, 1000000000000000, 4500, State.reset |> onAis 0 (fun x => { x with st := .linked }), by decide⟩,
    ⟨0, 1000000000000000, 17999, State.reset, by decide⟩,
    ⟨0, 1000000000000000, 18500, State.reset, by decide⟩,
    ⟨0, 1000000000000000, 4299, State.reset, by decide⟩,
    ⟨0, 1000000000000000, State.reset |> running |> onAis 0 (fun x => { x with st := .linked }), by decide⟩,
    ⟨0, 1000000000000000, State.reset |> running |> onAis 0 (fun x => { x with st := .linked }), by decide⟩,
    ⟨0, 1000000000000000, State.reset |> running |> onTop (fun s => { s with framed := true }) |> onAis 0 (fun x => { x with st := .linked }), by decide⟩⟩

theorem test_met_AisleCommandsComplete_2 :
    (∃ (n : Fin 8) (t : Ns) (s : State), coreRuns s = true ∧ (aisOf s n).lostUp = false ∧ (aisOf s n).lastUp + aisTimeout s n ≤ t) ∧
    (∃ (n : Fin 8) (t : Ns) (s : State), (aisOf s n).st ≠ .unpowered ∧ (aisOf s n).lostDown = false ∧ (aisOf s n).lastDown + aisTimeout s n ≤ t ∧ (aisOf s n).st = .linked) ∧
    (∃ (n : Fin 8) (t : Ns) (s : State), (aisOf s n).st ≠ .unpowered ∧ (aisOf s n).lostDown = false ∧ (aisOf s n).lastDown + aisTimeout s n ≤ t ∧ (aisOf s n).st ≠ .linked) ∧
    (∃ (n : Fin 8) (s : State), s.rlt.ctx = none ∧ (aisOf s n).st = .safe) ∧
    (∃ (n : Fin 8) (s : State), s.rlt.ctx = none ∧ (aisOf s n).st ≠ .safe) ∧
    (∃ (n : Fin 8) (t : Ns) (s : State), (aisOf s n).safeTable ≠ [] ∧ (aisOf s n).tableBad = false) ∧
    (∃ (n : Fin 8) (s : State), s.rlt.ctx = none) ∧
    (∃ (n : Fin 8) (s : State), (aisOf s n).st = .linked ∧ s.pair.gate = true ∧ started s = true ∧ (aisOf s n).sweep.running = false) :=
  ⟨⟨0, 1000000000000000, State.reset |> running |> onAis 0 (fun x => { x with lostUp := false }), by decide⟩,
    ⟨0, 1000000000000000, State.reset |> onAis 0 (fun x => { x with lostDown := false }) |> onAis 0 (fun x => { x with st := .linked }), by decide⟩,
    ⟨0, 1000000000000000, State.reset |> onAis 0 (fun x => { x with lostDown := false }) |> onAis 0 (fun x => { x with st := .safe }), by decide⟩,
    ⟨0, State.reset |> onTop (fun s => { s with rlt := { s.rlt with ctx := none } }) |> onAis 0 (fun x => { x with st := .safe }), by decide⟩,
    ⟨0, State.reset |> onTop (fun s => { s with rlt := { s.rlt with ctx := none } }) |> onAis 0 (fun x => { x with st := .linked }), by decide⟩,
    ⟨0, 1000000000000000, State.reset |> onAis 0 (fun x => { x with tableBad := false }) |> onAis 0 (fun x => { x with safeTable := [.off] }), by decide⟩,
    ⟨0, State.reset |> onTop (fun s => { s with rlt := { s.rlt with ctx := none } }), by decide⟩,
    ⟨0, State.reset |> onAis 0 (fun x => { x with st := .linked }) |> onTop (fun s => { s with pair := { s.pair with gate := true } }) |> committed |> onTop (fun s => { s with snf := { s.snf with enabled := true } }) |> onAis 0 (fun x => { x with sweep := { x.sweep with running := false } }), by decide⟩⟩

theorem test_met_AisleCommandsComplete_3 :
    (∃ (n : Fin 8) (s : State), (aisOf s n).st ≠ .linked ∨ s.pair.gate = false ∨ started s = false ∨ (aisOf s n).sweep.running = true) ∧
    (∃ (n : Fin 8) (s : State), s.rlt.ctx = none ∧ (aisOf s n).sweep.running = true) ∧
    (∃ (n : Fin 8) (s : State), s.rlt.ctx = none ∧ (aisOf s n).sweep.running = false) ∧
    (∃ (n : Fin 8) (s : State), s.rlt.ctx.isSome = true) ∧
    (∃ (n : Fin 8) (t : Ns) (f : Bool) (s : State), (aisOf s n).sweep.pulsing = true ∧ (aisOf s n).sweep.until_ ≤ t ∧ (sweepNext s n ((aisOf s n).sweep.stall + 1)).isNone = false) ∧
    (∃ (n : Fin 8) (t : Ns) (f : Bool) (s : State), (aisOf s n).sweep.pulsing = true ∧ (aisOf s n).sweep.until_ ≤ t ∧ (sweepNext s n ((aisOf s n).sweep.stall + 1)).isNone = true) ∧
    (∃ (n : Fin 8) (t : Ns) (s : State), (aisOf s n).sweep.running = true ∧ (aisOf s n).sweep.gap = true ∧ (aisOf s n).sweep.until_ ≤ t) ∧
    (∃ (n : Fin 8) (t : Ns) (s : State), (aisOf s n).st = .linked ∧ (aisOf s n).lostDown = false) :=
  ⟨⟨0, State.reset |> onAis 0 (fun x => { x with st := .safe }), by decide⟩,
    ⟨0, State.reset |> onTop (fun s => { s with rlt := { s.rlt with ctx := none } }) |> onAis 0 (fun x => { x with sweep := { x.sweep with running := true } }), by decide⟩,
    ⟨0, State.reset |> onTop (fun s => { s with rlt := { s.rlt with ctx := none } }) |> onAis 0 (fun x => { x with sweep := { x.sweep with running := false } }), by decide⟩,
    ⟨0, State.reset |> onTop (fun s => { s with rlt := { s.rlt with ctx := some (imageOf State.reset) } }), by decide⟩,
    ⟨0, 1000000000000000, true, State.reset |> onAis 0 (fun x => { x with sweep := { x.sweep with pulsing := true } }) |> bits .stlCfg 1 0 4 8 |> bits .stlCfg 1 14 1 1, by decide⟩,
    ⟨0, 1000000000000000, true, State.reset |> onAis 0 (fun x => { x with sweep := { x.sweep with pulsing := true } }), by decide⟩,
    ⟨0, 1000000000000000, State.reset |> onAis 0 (fun x => { x with sweep := { x.sweep with running := true } }) |> onAis 0 (fun x => { x with sweep := { x.sweep with gap := true } }), by decide⟩,
    ⟨0, 1000000000000000, State.reset |> onAis 0 (fun x => { x with st := .linked }) |> onAis 0 (fun x => { x with lostDown := false }), by decide⟩⟩

theorem test_met_BootCommandsComplete_1 :
    (∃ (t : Ns) (s : State), s.snf.vaux = true ∧ s.snf.powerGood = false ∧ thermalRuns (coreReturn (setNow s t)) = true) ∧
    (∃ (t : Ns) (s : State), s.snf.vaux = true ∧ s.snf.powerGood = false ∧ thermalRuns (logEv (stick (coreReturn (setNow s t)) .snfReset 0 4) (srcDev 2) .seqFault) = true) ∧
    (∃ (t : Ns) (s : State), s.snf.powerGood = true ∧ s.snf.stage = 0) ∧
    (∃ (t : Ns) (s : State), s.snf.stage = 1) ∧
    (∃ (t : Ns) (s : State), s.snf.stage = 2) ∧
    (∃ (t : Ns) (s : State), s.snf.stage = 3 ∧ s.snf.heldBoot = false ∧ s.hld.committed = false ∧ (loadStream (setNow s t)).hld.cand.isSome = true) ∧
    (∃ (t : Ns) (s : State), s.snf.stage = 3 ∧ s.snf.heldBoot = false ∧ s.hld.committed = false ∧ (loadStream (setNow s t)).hld.cand = none) ∧
    (∃ (t : Ns) (s : State), s.snf.stage = 4) :=
  ⟨⟨1000000000000000, State.reset |> onTop (fun s => { s with snf := { s.snf with vaux := true } }) |> onTop (fun s => { s with snf := { s.snf with powerGood := false } }), by decide⟩,
    ⟨1000000000000000, State.reset |> onTop (fun s => { s with snf := { s.snf with vaux := true } }) |> onTop (fun s => { s with snf := { s.snf with powerGood := false } }), by decide⟩,
    ⟨1000000000000000, State.reset |> onTop (fun s => { s with snf := { s.snf with powerGood := true } }) |> onTop (fun s => { s with snf := { s.snf with stage := 0 } }), by decide⟩,
    ⟨1000000000000000, State.reset |> onTop (fun s => { s with snf := { s.snf with stage := 1 } }), by decide⟩,
    ⟨1000000000000000, State.reset |> onTop (fun s => { s with snf := { s.snf with stage := 2 } }), by decide⟩,
    ⟨1000000000000000, State.reset |> onTop (fun s => { s with mgt := { s.mgt with otp := [(0, (.stream, 0))] } }) |> onTop (fun s => { s with snf := { s.snf with stage := 3 } }) |> onTop (fun s => { s with mgt := { s.mgt with bankA := [okFull] } }) |> onTop (fun s => { s with mgt := { s.mgt with validA := true } }), by exact ⟨rfl, rfl, rfl, loadStream_ok rfl rfl rfl rfl (validate_ok rfl rfl (by decide +kernel) (by decide) (by decide +kernel) rfl rfl (by decide +kernel) (by decide +kernel) (by decide +kernel) (by decide +kernel) (by decide +kernel) (by decide +kernel))⟩⟩,
    ⟨1000000000000000, State.reset |> onTop (fun s => { s with snf := { s.snf with stage := 3 } }) |> onTop (fun s => { s with snf := { s.snf with heldBoot := false } }) |> onTop (fun s => { s with hld := { s.hld with committed := false } }), by decide⟩,
    ⟨1000000000000000, State.reset |> onTop (fun s => { s with snf := { s.snf with stage := 4 } }), by decide⟩⟩

theorem test_met_BootCommandsComplete_2 :
    (∃ (t : Ns) (x : Structure) (s : State), s.hld.cand = some x ∧ s.snf.stage = 5) ∧
    (∃ (t : Ns) (s : State), s.snf.stage = 6) ∧
    (∃ (t : Ns) (s : State), enableOk (setNow s t) = true ∧ (s.snf.enableLate = false ∨ t % frameNs = 0)) ∧
    (∃ (t : Ns) (s : State), enableOk (setNow s t) = true ∧ s.snf.enableLate = true ∧ t % frameNs ≠ 0) ∧
    (∃ (t : Ns) (s : State), enableOk (setNow s t) = false) ∧
    (∃ (t : Ns) (x : Fin 32) (s : State), s.snf.vaux = true) ∧
    (∃ (t : Ns) (s : State), s.snf.coreLost = true) ∧
    (∃ (s : State), dormantRefused s = false) :=
  ⟨⟨1000000000000000, Structure.empty, State.reset |> onTop (fun s => { s with hld := { s.hld with cand := some (Structure.empty) } }) |> onTop (fun s => { s with snf := { s.snf with stage := 5 } }), by decide⟩,
    ⟨1000000000000000, State.reset |> onTop (fun s => { s with snf := { s.snf with stage := 6 } }), by decide⟩,
    ⟨1000000000000000, State.reset |> onTop (fun s => { s with snf := { s.snf with enableLate := false } }) |> onTop (fun s => { s with snf := { s.snf with vaux := true } }) |> onTop (fun s => { s with snf := { s.snf with stage := 7 } }) |> onTop (fun s => { s with snf := { s.snf with enabled := false } }) |> committed |> onTop (fun s => { s with snf := { s.snf with safeN := true } }) |> onTop (fun s => { s with snf := { s.snf with pwrFailN := true } }) |> onTop (fun s => { s with snf := { s.snf with active := false } }), by decide⟩,
    ⟨1000000000000001, State.reset |> onTop (fun s => { s with snf := { s.snf with vaux := true } }) |> onTop (fun s => { s with snf := { s.snf with stage := 7 } }) |> onTop (fun s => { s with snf := { s.snf with enabled := false } }) |> committed |> onTop (fun s => { s with snf := { s.snf with safeN := true } }) |> onTop (fun s => { s with snf := { s.snf with pwrFailN := true } }) |> onTop (fun s => { s with snf := { s.snf with active := false } }) |> onTop (fun s => { s with snf := { s.snf with enableLate := true } }), by decide⟩,
    ⟨1000000000000000, State.reset, by decide⟩,
    ⟨1000000000000000, 0, State.reset |> onTop (fun s => { s with snf := { s.snf with vaux := true } }), by decide⟩,
    ⟨1000000000000000, State.reset |> onTop (fun s => { s with snf := { s.snf with coreLost := true } }), by decide⟩,
    ⟨State.reset |> onTop (fun s => { s with snf := { s.snf with corePowered := true } }) |> onTop (fun s => { s with hld := { s.hld with str := { s.hld.str with pmbus := true } } }), by decide⟩⟩

theorem test_met_BootCommandsComplete_3 :
    (∃ (s : State), dormantRefused s = true) ∧
    (∃ (t : Ns) (s : State), s.snf.dormEntering = true ∧ s.snf.recWait = none) ∧
    (∃ (t : Ns) (s : State), regB s .snfWake 0 0 = true ∧ 0 < regF s .snfWake 0 8 24 ∧ s.snf.dormSince + regF s .snfWake 0 8 24 * secNs ≤ t) ∧
    (∃ (w : Fin 64) (t : Ns) (s : State), regB s .snfWake 0 1 = true ∧ regF s .snfWake 0 2 6 = w.val ∧ w.val < 52 ∧ 0 < (regW s .snfWakeTicks).toNat ∧ (regW s .snfWakeTicks).toNat ≤ (wrap48 ((wickOf s w).count - (wickOf s w).dormEntry)).natAbs) :=
  ⟨⟨State.reset, by decide⟩,
    ⟨1000000000000000, State.reset |> onTop (fun s => { s with snf := { s.snf with dormEntering := true } }) |> onTop (fun s => { s with snf := { s.snf with recWait := none } }), by decide⟩,
    ⟨1000000000000000, State.reset |> bits .snfWake 0 0 1 1 |> bits .snfWake 0 8 24 1, by decide⟩,
    ⟨0, 1000000000000000, State.reset |> bits .snfWake 0 1 1 1 |> bits .snfWake 0 2 6 0 |> onTop (fun s => putReg s .snfWakeTicks 0 5#32) |> onWick 0 (fun x => { x with count := 5 }), by decide⟩⟩

theorem test_met_SnufferCommandsComplete_1 :
    (∃ (s : State), s.snf.active = false) ∧
    (∃ (s : State), s.snf.active = true ∧ releaseHeld s = true) ∧
    (∃ (s : State), s.snf.active = true ∧ releaseHeld s = false) ∧
    (∃ (s : State), s.snf.corePowered = true ∧ s.snf.powerGood = true) ∧
    (∃ (t : Ns) (s : State), s.snf.vaux = true ∧ s.snf.safeN = true) ∧
    (∃ (t : Ns) (s : State), s.snf.vaux = true ∧ s.snf.pwrFailN = true) ∧
    (∃ (t : Ns) (r : Rail) (v : Nat) (s : State), s.snf.vaux = true ∧ railOut r v = false ∧ s.snf.railBad.filter (fun p => p.1 != r) ≠ []) ∧
    (∃ (t : Ns) (r : Rail) (v : Nat) (s : State), s.snf.vaux = true ∧ railOut r v = true ∧ r ≠ .vaux ∧ s.snf.corePowered = true) :=
  ⟨⟨State.reset |> onTop (fun s => { s with snf := { s.snf with active := false } }), by decide⟩,
    ⟨State.reset |> onTop (fun s => { s with snf := { s.snf with active := true } }) |> onTop (fun s => { s with snf := { s.snf with lastTrig := some 0 } }), by decide⟩,
    ⟨State.reset |> onTop (fun s => { s with snf := { s.snf with active := true } }), by decide⟩,
    ⟨State.reset |> onTop (fun s => { s with snf := { s.snf with corePowered := true } }) |> onTop (fun s => { s with snf := { s.snf with powerGood := true } }), by decide⟩,
    ⟨1000000000000000, State.reset |> onTop (fun s => { s with snf := { s.snf with vaux := true } }) |> onTop (fun s => { s with snf := { s.snf with safeN := true } }), by decide⟩,
    ⟨1000000000000000, State.reset |> onTop (fun s => { s with snf := { s.snf with vaux := true } }) |> onTop (fun s => { s with snf := { s.snf with pwrFailN := true } }), by decide⟩,
    ⟨1000000000000000, .v33, 3300, State.reset |> onTop (fun s => { s with snf := { s.snf with vaux := true } }) |> onTop (fun s => { s with snf := { s.snf with railBad := [(.v33, 0), (.vio, 0)] } }), by decide⟩,
    ⟨1000000000000000, .v33, 0, State.reset |> onTop (fun s => { s with snf := { s.snf with vaux := true } }) |> onTop (fun s => { s with snf := { s.snf with corePowered := true } }), by decide⟩⟩

theorem test_met_SnufferCommandsComplete_2 :
    (∃ (t : Ns) (s : State), s.snf.recWait.isSome = true) ∧
    (∃ (t : Ns) (s : State), s.snf.wdArmed = true ∧ s.mgt.halted = false ∧ s.framed = true ∧ s.snf.wdFrame < s.frame) ∧
    (∃ (t : Ns) (s : State), wdOver s t = true ∧ regB (logEv (snufferTrigger { setNow s t with snf := { s.snf with wdArmed := false, expiries := satInc 16 s.snf.expiries } } 1) (srcDev 2) .watchdogExpired) .snfWdog 0 14 = false) :=
  ⟨⟨1000000000000000, State.reset |> onTop (fun s => { s with snf := { s.snf with recWait := some (shutdownRec State.reset 0) } }), by decide⟩,
    ⟨1000000000000000, State.reset |> onTop (fun s => { s with snf := { s.snf with wdArmed := true } }) |> onTop (fun s => { s with mgt := { s.mgt with halted := false } }) |> onTop (fun s => { s with framed := true }) |> onTop (fun s => { s with frame := 7 }), by decide⟩,
    ⟨1000000000000000, State.reset |> onTop (fun s => { s with snf := { s.snf with vaux := true } }) |> onTop (fun s => { s with snf := { s.snf with wdArmed := true } }) |> bits .snfWdog 0 14 1 0, by decide⟩⟩

theorem test_met_ThermalCommandsComplete :
    (∃ (i : Fin 32) (t : Ns) (r : TempReading) (s : State), s.snf.vaux = true ∧ sensStale (setNow s t) i = true) ∧
    (∃ (i : Fin 32) (t : Ns) (r : TempReading) (s : State), s.snf.vaux = true ∧ sensStale (setNow s t) i = false ∧ (decide (i.val < 24) && decide (degC 120 ≤ (sensOf (takeSensor (setNow s t) i r) i).checked)) = false ∧ i.val < 16) ∧
    (∃ (i : Fin 32) (t : Ns) (r : TempReading) (s : State), s.snf.vaux = true ∧ sensStale (setNow s t) i = false ∧ (decide (i.val < 24) && decide (degC 120 ≤ (sensOf (takeSensor (setNow s t) i r) i).checked)) = false ∧ 16 ≤ i.val) ∧
    (∃ (i : Fin 32) (t : Ns) (r : TempReading) (s : State), s.snf.vaux = true ∧ sensStale (setNow s t) i = false ∧ (decide (i.val < 24) && decide (degC 120 ≤ (sensOf (takeSensor (setNow s t) i r) i).checked)) = true ∧ (sensOf s i).hotOnce = true ∧ (setSens (takeSensor (setNow s t) i r) i { sensOf (takeSensor (setNow s t) i r) i with hotOnce := true }).thr.st = .normal ∨ (setSens (takeSensor (setNow s t) i r) i { sensOf (takeSensor (setNow s t) i r) i with hotOnce := true }).thr.st = .throttling) ∧
    (∃ (t a : Ns) (s : State), s.thr.coolAt = some a ∧ s.thr.st = .cooling ∧ a + 60 * secNs ≤ t ∧ releaseHeld (modHist { setNow s t with thr := { s.thr with st := .normal, coolAt := none } } (fun h => { h with auto := true })) = true) ∧
    (∃ (t a : Ns) (s : State), s.thr.coolAt = some a ∧ s.thr.st = .cooling ∧ a + 60 * secNs ≤ t ∧ releaseHeld (modHist { setNow s t with thr := { s.thr with st := .normal, coolAt := none } } (fun h => { h with auto := true })) = false) ∧
    (∃ (t : Ns) (p : Nat) (s : State), s.mgt.halted = false ∧ s.hld.str.pmbus = true) ∧
    (∃ (t : Ns) (p : Nat) (s : State), s.mgt.halted = false ∧ s.hld.str.pmbus = false) :=
  ⟨⟨16, 1000000000000000, { raw := 0, fault := false }, State.reset |> onTop (fun s => { s with snf := { s.snf with vaux := true } }) |> onAis 0 (fun x => { x with lostUp := true }), by decide⟩,
    ⟨0, 1000000000000000, { raw := 0, fault := false }, State.reset |> onTop (fun s => { s with snf := { s.snf with vaux := true } }), by decide⟩,
    ⟨16, 1000000000000000, { raw := 0, fault := false }, State.reset |> onTop (fun s => { s with snf := { s.snf with vaux := true } }), by decide⟩,
    ⟨0, 1000000000000000, { raw := 16000, fault := false }, State.reset |> onTop (fun s => { s with snf := { s.snf with vaux := true } }) |> onSens 0 (fun x => { x with hotOnce := true }) |> onSens 1 (fun x => { x with raw := 16000 }), by decide⟩,
    ⟨1000000000000000, 0, State.reset |> onTop (fun s => { s with thr := { s.thr with coolAt := some (0) } }) |> onTop (fun s => { s with thr := { s.thr with st := .cooling } }) |> onTop (fun s => { s with snf := { s.snf with holding := 1 } }), by decide⟩,
    ⟨1000000000000000, 0, State.reset |> onTop (fun s => { s with thr := { s.thr with coolAt := some (0) } }) |> onTop (fun s => { s with thr := { s.thr with st := .cooling } }), by decide⟩,
    ⟨1000000000000000, 0, State.reset |> onTop (fun s => { s with mgt := { s.mgt with halted := false } }) |> onTop (fun s => { s with hld := { s.hld with str := { s.hld.str with pmbus := true } } }), by decide⟩,
    ⟨1000000000000000, 0, State.reset |> onTop (fun s => { s with mgt := { s.mgt with halted := false } }) |> onTop (fun s => { s with hld := { s.hld with str := { s.hld.str with pmbus := false } } }), by decide⟩⟩

theorem test_met_ColumnCommandsComplete :
    (∃ (c : Fin 16) (s : State), s.rlt.ctx = none) ∧
    (∃ (c : Fin 16) (s : State), s.rlt.ctx.isSome = true) ∧
    (∃ (c : Fin 16) (s : State), colLive (colOf (t0 s) c) = true) ∧
    (∃ (c : Fin 16) (s : State), (colOf s c).st = .draining) ∧
    (∃ (c : Fin 16) (s : State), (colOf s c).st ≠ .draining) ∧
    (∃ (c : Fin 16) (t : Ns) (s : State), coreRuns s = true ∧ captureDue s c t = true) ∧
    (∃ (c : Fin 16) (m : Ckpt) (rest : List Ckpt) (s : State), (colOf s c).writing = m :: rest) :=
  ⟨⟨0, State.reset |> onTop (fun s => { s with rlt := { s.rlt with ctx := none } }), by decide⟩,
    ⟨0, State.reset |> onTop (fun s => { s with rlt := { s.rlt with ctx := some (imageOf State.reset) } }), by decide⟩,
    ⟨0, State.reset |> onCol 0 (fun x => { x with st := .tracking }), by decide⟩,
    ⟨0, State.reset |> onCol 0 (fun x => { x with st := .draining }), by decide⟩,
    ⟨0, State.reset, by decide⟩,
    ⟨0, 1000000000000000, State.reset |> running |> bits .pclCkpt 0 0 10 1, by decide⟩,
    ⟨0, ckpt0, [], State.reset |> onCol 0 (fun x => { x with writing := ckpt0 :: ([]) }), by decide⟩⟩

theorem test_met_DryingCommandsComplete_1 :
    (∃ (c : Fin 16) (s : State), s.rlt.ctx = none) ∧
    (∃ (c : Fin 16) (s : State), s.rlt.ctx.isSome = true) ∧
    (∃ (c : Fin 16) (s : State), (dryOf s c).st = .off) ∧
    (∃ (c : Fin 16) (s : State), (dryOf s c).st = .cont) ∧
    (∃ (c : Fin 16) (s : State), (dryOf s c).st = .night) ∧
    (∃ (c : Fin 16) (s : State), (dryOf s c).st ≠ .off) ∧
    (∃ (c : Fin 16) (s : State), (dryOf s c).st ≠ .cont ∧ (dryOf s c).st ≠ .night) ∧
    (∃ (c : Fin 16) (s : State), (dryOf s c).st ≠ .night) :=
  ⟨⟨0, State.reset |> onTop (fun s => { s with rlt := { s.rlt with ctx := none } }), by decide⟩,
    ⟨0, State.reset |> onTop (fun s => { s with rlt := { s.rlt with ctx := some (imageOf State.reset) } }), by decide⟩,
    ⟨0, State.reset |> onDry 0 (fun x => { x with st := .off }), by decide⟩,
    ⟨0, State.reset |> onDry 0 (fun x => { x with st := .cont }), by decide⟩,
    ⟨0, State.reset |> onDry 0 (fun x => { x with st := .night }), by decide⟩,
    ⟨0, State.reset |> onDry 0 (fun x => { x with st := .cont }), by decide⟩,
    ⟨0, State.reset |> onDry 0 (fun x => { x with st := .off }), by decide⟩,
    ⟨0, State.reset |> onDry 0 (fun x => { x with st := .cont }), by decide⟩⟩

theorem test_met_DryingCommandsComplete_2 :
    (∃ (c : Fin 16) (t : Ns) (s : State), coolOut (setNow s t) c = true) ∧
    (∃ (c : Fin 16) (s : State), (dryOf s c).st = .batchCool ∧ (dryOf s c).coolOver = true) ∧
    (∃ (c : Fin 16) (s : State), (dryOf s c).st = .coolDown ∧ (dryOf s c).coolOver = true) ∧
    (∃ (c : Fin 16) (inp : Nat) (t since : Ns) (s : State), lookup (dryOf s c).fails inp = some since ∧ since + 60 * 1000000000 ≤ t ∧ (dryOf s c).overT.contains inp = false) ∧
    (∃ (c : Fin 16) (t : Ns) (s : State), fbDue (setNow s t) c (dryOf s c) = true ∧ heldNow (setNow s t) c = false) ∧
    (∃ (g : Fin 64) (t : Ns) (s : State), aerMinOver (setNow s t) g = true) :=
  ⟨⟨0, 1000000000000000, State.reset |> onDry 0 (fun x => { x with st := .batchCool }) |> onDry 0 (fun x => { x with coolOver := true }), by decide⟩,
    ⟨0, State.reset |> onDry 0 (fun x => { x with st := .batchCool }) |> onDry 0 (fun x => { x with coolOver := true }), by decide⟩,
    ⟨0, State.reset |> onDry 0 (fun x => { x with st := .coolDown }) |> onDry 0 (fun x => { x with coolOver := true }), by decide⟩,
    ⟨0, 0, 1000000000000000, 0, State.reset |> onDry 0 (fun x => { x with fails := [(0, 0)] }), by decide⟩,
    ⟨0, 1000000000000000, State.reset |> onDry 0 (fun x => { x with st := .cont }) |> onDry 0 (fun x => { x with source := 2 }) |> onDry 0 (fun x => { x with holdSince := some 0 }), by decide⟩,
    ⟨0, 1000000000000000, State.reset |> onAer 0 (fun x => { x with want := true }), by decide⟩⟩

theorem test_met_EngineCommandsComplete :
    (∃ (tag : Fin 4096) (t : Ns) (x : Tag) (s : State), tagOf s tag = some x ∧ x.quarantined = true ∧ x.frame + 320 ≤ t / 125000) ∧
    (∃ (tag : Fin 4096) (t : Ns) (x : Tag) (s : State), tagOf s tag = some x ∧ x.late (t / 125000) = true ∧ replyWaits (setNow s t) tag = false) ∧
    (∃ (tag : Fin 4096) (t : Ns) (x : Tag) (s : State), tagOf s tag = some x ∧ (x.late (t / 125000) = false ∨ replyWaits (setNow s t) tag = true)) ∧
    (∃ (e : Fin 128) (cause : Fin 4) (t : Ns) (s : State), cause ≠ 0 ∧ (engOf s e).halted = false ∧ s.pair.st ≠ .active ∧ s.before = none) ∧
    (∃ (e : Fin 128) (cause : Fin 4) (t : Ns) (s : State), cause ≠ 0) ∧
    (∃ (e : Fin 128) (i : Fin 8192) (t : Ns) (k : KeyImage) (s : State), s.before = some k ∧ t / 125000 = s.frame ∧ (dueOf (setNow s t) e).any (fun p => p.1 == i.val) = true ∧ (engOf s e).halted = false ∧ relit s = false) ∧
    (∃ (e : Fin 128) (s : State), s.rlt.ctx = none) ∧
    (∃ (s : State), s.rlt.ctx = none) ∧
    (∃ (e : Fin 128) (s : State), s.rlt.ctx.isSome = true) :=
  ⟨⟨0, 1000000000000000, { requester := 0, reply := 0, frame := 0, sent := false, quarantined := true }, State.reset |> onTop (fun s => { s with eng := { s.eng with tags := [(0, { requester := 0, reply := 0, frame := 0, sent := false, quarantined := true })] } }), by decide⟩,
    ⟨0, 1000000000000000, { requester := 0, reply := 0, frame := 0, sent := true, quarantined := false }, State.reset |> onTop (fun s => { s with eng := { s.eng with tags := [(0, { requester := 0, reply := 0, frame := 0, sent := true, quarantined := false })] } }), by decide⟩,
    ⟨0, 1000000000000000, { requester := 0, reply := 0, frame := 0, sent := false, quarantined := false }, State.reset |> onTop (fun s => { s with eng := { s.eng with tags := [(0, { requester := 0, reply := 0, frame := 0, sent := false, quarantined := false })] } }), by decide⟩,
    ⟨0, 1, 1000000000000000, State.reset |> onEng 0 (fun x => { x with halted := false }) |> onTop (fun s => { s with before := none }) |> onTop (fun s => { s with pair := { s.pair with st := .solo } }), by decide⟩,
    ⟨0, 1, 1000000000000000, State.reset, by decide⟩,
    ⟨0, 0, 1000000000000000, imageOf State.reset, State.reset |> onTop (fun s => { s with before := some (imageOf State.reset) }) |> onEng 0 (fun x => { x with halted := false }) |> onTop (fun s => { s with frame := 8000000000 }) |> onTop (fun s => { s with hld := { s.hld with str := { s.hld.str with insts := [(0, inst0)] } } }), by decide⟩,
    ⟨0, State.reset |> onTop (fun s => { s with rlt := { s.rlt with ctx := none } }), by decide⟩,
    ⟨State.reset |> onTop (fun s => { s with rlt := { s.rlt with ctx := none } }), by decide⟩,
    ⟨0, State.reset |> onTop (fun s => { s with rlt := { s.rlt with ctx := some (imageOf State.reset) } }), by decide⟩⟩

theorem test_met_GateCommandsComplete :
    (∃ (m : Fin 16) (s : State), s.rlt.ctx = none) ∧
    (∃ (m : Fin 16) (s : State), s.rlt.ctx.isSome = true) ∧
    (∃ (m : Fin 16) (t : Nat) (s : State), homing (gateOf s m) = false ∧ (motOf s m).st ≠ .off) ∧
    (∃ (m : Fin 16) (t : Nat) (s : State), homing (gateOf s m) = false ∧ (motOf s m).st = .off) ∧
    (∃ (m : Fin 16) (s : State), homing (gateOf s m) = true) ∧
    (∃ (m : Fin 16) (s : State), homing (gateOf s m) = false ∧ (gateOf s m).homed = true ∨ regB s .gateCfg m 7 = false ∧ moveBlocked s m (posTarget s m) = false) ∧
    (∃ (m : Fin 16) (s : State), (homing (gateOf s m) = true ∨ ((gateOf s m).homed = false ∧ regB s .gateCfg m 7 = true) ∨ moveBlocked s m (posTarget s m) = true)) ∧
    (∃ (m : Fin 16) (t : Ns) (s : State), homing (gateOf s m) = true ∧ (gateOf s m).startAt + tHomeMax s m ≤ t ∧ released s m t = false) ∧
    (∃ (i : Fin 64) (t : Ns) (s : State), slipOver s i t = true) :=
  ⟨⟨0, State.reset |> onTop (fun s => { s with rlt := { s.rlt with ctx := none } }), by decide⟩,
    ⟨0, State.reset |> onTop (fun s => { s with rlt := { s.rlt with ctx := some (imageOf State.reset) } }), by decide⟩,
    ⟨0, 0, State.reset |> onMot 0 (fun x => { x with st := .run }), by decide⟩,
    ⟨0, 0, State.reset |> onMot 0 (fun x => { x with st := .off }), by decide⟩,
    ⟨0, State.reset |> onGate 0 (fun x => { x with home := .search }), by decide⟩,
    ⟨0, State.reset |> onGate 0 (fun x => { x with homed := true }), by decide⟩,
    ⟨0, State.reset |> onGate 0 (fun x => { x with home := .search }), by decide⟩,
    ⟨0, 1000000000000000, State.reset |> onGate 0 (fun x => { x with home := .search }), by decide⟩,
    ⟨0, 1000000000000000, State.reset |> onTop (fun s => setSlip s 0 { slip := 0, unknown := false, since := some 0, declared := false }), by decide⟩⟩

theorem test_met_RouteCommandsComplete_1 :
    (∃ (r : Fin 32) (s : State), s.rlt.ctx = none) ∧
    (∃ (r : Fin 32) (s : State), s.rlt.ctx.isSome = true) ∧
    (∃ (r : Fin 32) (t : Nat) (s : State), (routeOf s r).st = .idle ∧ startable s r = true ∧ 0 < (membersOf s r).length) ∧
    (∃ (r : Fin 32) (t : Nat) (s : State), (routeOf s r).st ≠ .idle ∨ startable s r = false ∨ (membersOf s r).length = 0) ∧
    (∃ (r : Fin 32) (t : Nat) (s : State), (routeOf s r).st = .running) ∧
    (∃ (r : Fin 32) (t : Nat) (s : State), (routeOf s r).st ≠ .starting ∧ (routeOf s r).st ≠ .running) ∧
    (∃ (r : Fin 32) (s : State), (routeOf s r).st = .faulted) ∧
    (∃ (r : Fin 32) (s : State), (routeOf s r).st ≠ .faulted) :=
  ⟨⟨0, State.reset |> onTop (fun s => { s with rlt := { s.rlt with ctx := none } }), by decide⟩,
    ⟨0, State.reset |> onTop (fun s => { s with rlt := { s.rlt with ctx := some (imageOf State.reset) } }), by decide⟩,
    ⟨0, 0, State.reset |> onRoute 0 (fun x => { x with st := .idle }) |> onTop (fun s => { s with hld := { s.hld with str := { s.hld.str with routeMembers := [(0, [memb0])] } } }), by decide⟩,
    ⟨0, 0, State.reset |> onRoute 0 (fun x => { x with st := .starting }), by decide⟩,
    ⟨0, 0, State.reset |> onRoute 0 (fun x => { x with st := .running }), by decide⟩,
    ⟨0, 0, State.reset |> onRoute 0 (fun x => { x with st := .idle }), by decide⟩,
    ⟨0, State.reset |> onRoute 0 (fun x => { x with st := .faulted }), by decide⟩,
    ⟨0, State.reset |> onRoute 0 (fun x => { x with st := .idle }), by decide⟩⟩

theorem test_met_RouteCommandsComplete_2 :
    (∃ (r : Fin 32) (i : Fin 16) (t : Ns) (s : State), (routeOf s r).st = .starting ∧ (memOf (routeOf s r) i).started = true ∧ (memOf (routeOf s r) i).proved = false ∧ (memOf (routeOf s r) i).startAt + tProof s r ≤ t) ∧
    (∃ (r : Fin 32) (t : Ns) (s : State), provedAt s r 0 t = true ∧ (routeOf s r).st = .starting) ∧
    (∃ (r : Fin 32) (i : Fin 16) (t : Ns) (s : State), i ≠ 0 ∧ provedAt s r i t = true ∧ (routeOf s r).st = .starting) ∧
    (∃ (r : Fin 32) (i : Fin 16) (t : Ns) (s : State), (routeOf s r).st = .stopping ∨ (routeOf s r).st = .faultStop ∧ (memOf (routeOf s r) i).stopped = true ∧ (memOf (routeOf s r) (i + 1)).started = true ∧ ranOut s r i t = true) :=
  ⟨⟨0, 0, 1000000000000000, State.reset |> onRoute 0 (fun x => { x with st := .starting }) |> onRoute 0 (fun x => { x with mem := [(0, { MemberRun.idle with started := true, proofSince := some 0 })] }), by decide⟩,
    ⟨0, 1000000000000000, State.reset |> onRoute 0 (fun x => { x with st := .starting }) |> onRoute 0 (fun x => { x with mem := [(0, { MemberRun.idle with started := true, proofSince := some 0 })] }), by decide⟩,
    ⟨0, 1, 1000000000000000, State.reset |> onRoute 0 (fun x => { x with st := .starting }) |> onRoute 0 (fun x => { x with mem := [(1, { MemberRun.idle with started := true, proofSince := some 0 })] }), by decide⟩,
    ⟨0, 0, 1000000000000000, State.reset |> onRoute 0 (fun x => { x with st := .stopping }), by decide⟩⟩

theorem test_met_LamplighterCommandsComplete :
    (∃ (slot : Fin 16384) (alloc window : Bool) (s : State), s.llt.result ≠ 1) ∧
    (∃ (slot : Fin 16384) (alloc window : Bool) (s : State), s.llt.result = 1) ∧
    (∃ (slot : Fin 16384) (t : Ns) (s : State), lltLive s = true ∧ (slotOf s slot).st = .armed ∧ (slotOf s slot).rec_.keyTime = true ∧ (slotOf s slot).rec_.key ≤ (max s.now t : Nat) ∧ (slotOf s slot).rec_.market = false ∧ dueBefore (setNow s t) slot = []) ∧
    (∃ (slot : Fin 16384) (t c : Ns) (s : State), (slotOf s (winBase slot)).capAt = some c ∧ lltLive s = true ∧ (slotOf s (winBase slot)).st = .open_ ∧ c ≤ t) :=
  ⟨⟨0, true, true, State.reset, by decide⟩,
    ⟨0, true, true, State.reset |> onTop (fun s => { s with llt := { s.llt with result := 1 } }), by decide⟩,
    ⟨0, 1000000000000000, State.reset |> onTop (fun s => { s with pair := { s.pair with st := .solo } }) |> onSlot 0 (fun x => { x with st := .armed }) |> onSlot 0 (fun x => { x with rec_ := { x.rec_ with keyTime := true } }) |> onSlot 0 (fun x => { x with rec_ := { x.rec_ with market := false } }), by decide⟩,
    ⟨0, 1000000000000000, 0, State.reset |> onSlot (winBase 0) (fun x => { x with capAt := some (0) }) |> onTop (fun s => { s with pair := { s.pair with st := .solo } }) |> onSlot (winBase 0) (fun x => { x with st := .open_ }), by decide⟩⟩

theorem test_met_TaperCommandsComplete :
    (∃ (j : Fin 256) (s : State), s.rlt.ctx = none) ∧
    (∃ (j : Fin 256) (s : State), s.rlt.ctx = none ∧ (taperOf s j).mode ≠ .run) ∧
    (∃ (j : Fin 256) (s : State), (taperOf s j).mode = .run) ∧
    (∃ (j : Fin 256) (s : State), (taperOf s j).mode ≠ .run ∧ s.rlt.ctx.isSome = true) ∧
    (∃ (j : Fin 256) (fromPresent : Bool) (s : State), s.rlt.ctx = none) ∧
    (∃ (j : Fin 256) (fromPresent : Bool) (s : State), s.rlt.ctx.isSome = true) ∧
    (∃ (j : Fin 256) (t : Nat) (s : State), (taperOf s j).mode ≠ .run) ∧
    (∃ (j : Fin 256) (t : Nat) (s : State), (taperOf s j).mode = .run) :=
  ⟨⟨0, State.reset |> onTop (fun s => { s with rlt := { s.rlt with ctx := none } }), by decide⟩,
    ⟨0, State.reset |> onTop (fun s => { s with rlt := { s.rlt with ctx := none } }), by decide⟩,
    ⟨0, State.reset |> onTaper 0 (fun x => { x with mode := .run }), by decide⟩,
    ⟨0, State.reset |> onTop (fun s => { s with rlt := { s.rlt with ctx := some (imageOf State.reset) } }), by decide⟩,
    ⟨0, true, State.reset |> onTop (fun s => { s with rlt := { s.rlt with ctx := none } }), by decide⟩,
    ⟨0, true, State.reset |> onTop (fun s => { s with rlt := { s.rlt with ctx := some (imageOf State.reset) } }), by decide⟩,
    ⟨0, 0, State.reset, by decide⟩,
    ⟨0, 0, State.reset |> onTaper 0 (fun x => { x with mode := .run }), by decide⟩⟩

theorem test_met_LoopCommandsComplete_1 :
    (∃ (i : Fin 512) (s : State), s.rlt.ctx = none) ∧
    (∃ (i : Fin 512) (s : State), s.rlt.ctx.isSome = true) ∧
    (∃ (i : Fin 512) (s : State), (loopOf s i).st = .manual) ∧
    (∃ (i : Fin 512) (s : State), (loopOf s i).st = .night) ∧
    (∃ (i : Fin 512) (s : State), (loopOf s i).st = .auto ∨ (loopOf s i).st = .track ∨ (loopOf s i).st = .observer ∨ (loopOf s i).st = .safe ∨ (loopOf s i).st = .tripped) ∧
    (∃ (i : Fin 512) (s : State), (loopOf s i).st ≠ .auto ∧ (loopOf s i).st ≠ .night) ∧
    (∃ (i : Fin 512) (s : State), (loopOf s i).st ≠ .safe ∧ (loopOf s i).st ≠ .tripped) ∧
    (∃ (i : Fin 512) (s : State), (loopOf s i).st = .auto ∧ s.glb.wrote.contains (regAddr .loopMan i) = false) :=
  ⟨⟨0, State.reset |> onTop (fun s => { s with rlt := { s.rlt with ctx := none } }), by decide⟩,
    ⟨0, State.reset |> onTop (fun s => { s with rlt := { s.rlt with ctx := some (imageOf State.reset) } }), by decide⟩,
    ⟨0, State.reset |> onLoop 0 (fun x => { x with st := .manual }), by decide⟩,
    ⟨0, State.reset |> onLoop 0 (fun x => { x with st := .night }), by decide⟩,
    ⟨0, State.reset |> onLoop 0 (fun x => { x with st := .auto }), by decide⟩,
    ⟨0, State.reset, by decide⟩,
    ⟨0, State.reset, by decide⟩,
    ⟨0, State.reset |> onLoop 0 (fun x => { x with st := .auto }), by decide⟩⟩

theorem test_met_LoopCommandsComplete_2 :
    (∃ (i : Fin 512) (s : State), (loopOf s i).st = .auto ∧ s.glb.wrote.contains (regAddr .loopMan i) = true) ∧
    (∃ (i : Fin 512) (s : State), (loopOf s i).st = .night ∧ s.glb.wrote.contains (regAddr .loopMan i) = false) ∧
    (∃ (i : Fin 512) (s : State), (loopOf s i).st = .night ∧ s.glb.wrote.contains (regAddr .loopMan i) = true) ∧
    (∃ (i : Fin 512) (s : State), (loopOf s i).st = .safe ∧ s.glb.wrote.contains (regAddr .loopMan i) = false) ∧
    (∃ (i : Fin 512) (s : State), (loopOf s i).st = .tripped ∧ s.glb.wrote.contains (regAddr .loopMan i) = false) ∧
    (∃ (i : Fin 512) (t : Ns) (s : State), supervised s i = true ∧ findHolds (setNow s t) i t .following = true ∧ (loopOf s i).finds.contains .following = false ∧ normalMode (loopOf s i).st = true ∧ loopReaction s i = 0) ∧
    (∃ (i : Fin 512) (t : Ns) (s : State), supervised s i = true ∧ findHolds (setNow s t) i t .implausible = true ∧ (loopOf s i).finds.contains .implausible = false ∧ normalMode (loopOf s i).st = true ∧ loopReaction s i = 0) ∧
    (∃ (i : Fin 512) (t : Ns) (s : State), supervised s i = true ∧ findHolds (setNow s t) i t .silent = true ∧ (loopOf s i).finds.contains .silent = false ∧ normalMode (loopOf s i).st = true ∧ loopReaction s i = 0) :=
  ⟨⟨0, State.reset |> onLoop 0 (fun x => { x with st := .auto }) |> onTop (fun s => { s with glb := { s.glb with wrote := [regAddr .loopMan 0] } }), by decide⟩,
    ⟨0, State.reset |> onLoop 0 (fun x => { x with st := .night }), by decide⟩,
    ⟨0, State.reset |> onLoop 0 (fun x => { x with st := .night }) |> onTop (fun s => { s with glb := { s.glb with wrote := [regAddr .loopMan 0] } }), by decide⟩,
    ⟨0, State.reset |> onLoop 0 (fun x => { x with st := .safe }), by decide⟩,
    ⟨0, State.reset |> onLoop 0 (fun x => { x with st := .tripped }), by decide⟩,
    ⟨0, 1000000000000000, State.reset |> bits .loopCfg 0 3 1 1 |> onLoop 0 (fun x => { x with st := .auto }) |> onLoop 0 (fun x => { x with tauF := 1 }), by decide⟩,
    ⟨0, 1000000000000000, State.reset |> bits .loopCfg 0 3 1 1 |> onLoop 0 (fun x => { x with st := .auto }) |> onLoop 0 (fun x => { x with tauI := 1 }), by decide⟩,
    ⟨0, 1000000000000000, State.reset |> bits .loopCfg 0 3 1 1, by decide⟩⟩

theorem test_met_LoopCommandsComplete_3 :
    (∃ (i : Fin 512) (t : Ns) (s : State), supervised s i = true ∧ findHolds (setNow s t) i t .frozen = true ∧ (loopOf s i).finds.contains .frozen = false ∧ normalMode (loopOf s i).st = true ∧ loopReaction s i = 0) ∧
    (∃ (i : Fin 512) (t : Ns) (s : State), supervised s i = true ∧ okHeld (setNow s t) i = true ∧ (loopOf s i).st = .observer ∨ ((loopOf s i).st = .held ∧ regB s .loopCfg i 6 = true)) ∧
    (∃ (i : Fin 512) (t : Ns) (s : State), supervised s i = true ∧ holdOver s i t = true) :=
  ⟨⟨0, 1000000000000000, State.reset |> bits .loopCfg 0 3 1 1 |> onLoop 0 (fun x => { x with st := .auto }) |> onLoop 0 (fun x => { x with stuckAt := some 0 }) |> bits .loopStuck 0 0 10 1, by decide⟩,
    ⟨0, 1000000000000000, State.reset |> bits .loopCfg 0 3 1 1 |> onLoop 0 (fun x => { x with st := .observer }) |> onLoop 0 (fun x => { x with okSince := some 0 }), by decide⟩,
    ⟨0, 1000000000000000, State.reset |> bits .loopCfg 0 3 1 1 |> onLoop 0 (fun x => { x with st := .held }) |> bits .loopSupConf 0 16 12 1, by decide⟩⟩

theorem test_met_MarketTimeCommandsComplete_1 :
    (∃ (t : Ns) (b : Bool) (s : State), s.mkt.gm = false ∧ s.mkt.lastSync + 250000000 ≤ t ∧ (b && regB s .mktCfg 0 11) = true) ∧
    (∃ (t : Ns) (b : Bool) (s : State), s.mkt.gm = false ∧ s.mkt.lastSync + 250000000 ≤ t ∧ (b && regB s .mktCfg 0 11) = false) ∧
    (∃ (t : Ns) (s : State), takesPps s = true ∧ s.mkt.ppsLast = none) ∧
    (∃ (t l : Ns) (s : State), takesPps s = true ∧ s.mkt.ppsLast = some l ∧ (¬(l + secNs ≤ t + 100000 ∧ t ≤ l + secNs + 100000))) ∧
    (∃ (t l : Ns) (s : State), takesPps s = true ∧ s.mkt.ppsLast = some l ∧ (l + secNs ≤ t + 100000 ∧ t ≤ l + secNs + 100000)) ∧
    (∃ (t l : Ns) (s : State), takesPps s = true ∧ s.mkt.ppsLast = some l ∧ l + secNs + 100000 < t) ∧
    (∃ (t : Ns) (s : State), regB s .mktCfg 0 13 = true ∧ s.mkt.unsynced = false ∧ t % secNs = 0) ∧
    (∃ (s : State), s.mkt.slewing = true ∧ 1000000 < s.mkt.offset) :=
  ⟨⟨1000000000000000, true, State.reset |> onTop (fun s => { s with mkt := { s.mkt with gm := false } }) |> bits .mktCfg 0 11 1 1, by decide⟩,
    ⟨1000000000000000, true, State.reset |> onTop (fun s => { s with mkt := { s.mkt with gm := false } }), by decide⟩,
    ⟨1000000000000000, State.reset |> onTop (fun s => { s with mkt := { s.mkt with gm := true } }) |> bits .mktCfg 0 12 1 1 |> onTop (fun s => { s with mkt := { s.mkt with ppsLast := none } }), by decide⟩,
    ⟨1000000000000000, 0, State.reset |> onTop (fun s => { s with mkt := { s.mkt with gm := true } }) |> bits .mktCfg 0 12 1 1 |> onTop (fun s => { s with mkt := { s.mkt with ppsLast := some (0) } }), by decide⟩,
    ⟨secNs, 0, State.reset |> onTop (fun s => { s with mkt := { s.mkt with gm := true } }) |> bits .mktCfg 0 12 1 1 |> onTop (fun s => { s with mkt := { s.mkt with ppsLast := some (0) } }), by decide⟩,
    ⟨1000000000000000, 0, State.reset |> onTop (fun s => { s with mkt := { s.mkt with gm := true } }) |> bits .mktCfg 0 12 1 1 |> onTop (fun s => { s with mkt := { s.mkt with ppsLast := some (0) } }), by decide⟩,
    ⟨1000000000000000, State.reset |> bits .mktCfg 0 13 1 1 |> onTop (fun s => { s with mkt := { s.mkt with unsynced := false } }), by decide⟩,
    ⟨State.reset |> onTop (fun s => { s with mkt := { s.mkt with slewing := true } }) |> onTop (fun s => { s with mkt := { s.mkt with offset := 1000001 } }), by decide⟩⟩

theorem test_met_MarketTimeCommandsComplete_2 :
    (∃ (s : State), (s.mkt.slewing = false ∨ s.mkt.offset ≤ 1000000)) ∧
    (∃ (t : Ns) (s : State), (s.mkt.pendStep = none ∨ t % frameNs ≠ 0)) ∧
    (∃ (t : Ns) (d : Int) (s : State), s.mkt.pendStep = some d ∧ t % frameNs = 0 ∧ max s.now t < stepTo s t d) ∧
    (∃ (t : Ns) (d : Int) (s : State), s.mkt.pendStep = some d ∧ t % frameNs = 0 ∧ stepTo s t d ≤ max s.now t) :=
  ⟨⟨State.reset |> onTop (fun s => { s with mkt := { s.mkt with slewing := false } }), by decide⟩,
    ⟨1000000000000000, State.reset |> onTop (fun s => { s with mkt := { s.mkt with pendStep := none } }), by decide⟩,
    ⟨1000000000000000, 1000000000000, State.reset |> onTop (fun s => { s with mkt := { s.mkt with pendStep := some (1000000000000) } }), by decide⟩,
    ⟨1000000000000000, 0, State.reset |> onTop (fun s => { s with mkt := { s.mkt with pendStep := some (0) } }), by decide⟩⟩

theorem test_met_MarketFramesComplete_1 :
    (∃ (t : Ns) (h : FrameHdr) (es : List Entry) (s : State), looped s h = false ∧ hdrOk s h false = true ∧ genOk s h t = true ∧ (s.mkt.member = .member ∨ s.mkt.member = .leaving) ∧ es.all (entryOk s) = true) ∧
    (∃ (t : Ns) (h : FrameHdr) (es : List Entry) (s : State), looped s h = false ∧ hdrOk s h false = true ∧ genOk s h t = true ∧ (s.mkt.member = .member ∨ s.mkt.member = .leaving) ∧ es.all (entryOk s) = false) ∧
    (∃ (t : Ns) (h : FrameHdr) (es : List Entry) (s : State), h.fcsOk = true ∧ looped s h = true) ∧
    (∃ (t : Ns) (h : FrameHdr) (es : List Entry) (s : State), (h.fcsOk && looped s h) = false ∧ hdrOk s h false = false) ∧
    (∃ (t : Ns) (h : FrameHdr) (es : List Entry) (s : State), looped s h = false ∧ hdrOk s h false = true ∧ genOk s h t = false) ∧
    (∃ (t : Ns) (h : FrameHdr) (es : List (Nat × Nat)) (s : State), looped s h = false ∧ hdrOk s h false = true ∧ genOk s h t = true ∧ (s.mkt.member = .member ∨ s.mkt.member = .leaving)) ∧
    (∃ (t : Ns) (h : FrameHdr) (es : List (Nat × Nat)) (s : State), h.fcsOk = true ∧ looped s h = true) ∧
    (∃ (t : Ns) (h : FrameHdr) (es : List (Nat × Nat)) (s : State), (h.fcsOk && looped s h) = false ∧ hdrOk s h false = false) :=
  ⟨⟨1000000000000000, frame0, [], State.reset |> onTop (fun s => { s with mkt := { s.mkt with member := .member } }), by decide⟩,
    ⟨1000000000000000, frame0, [{ basket := 0, tag := 0, request := false, reply := false, status := 0, width := 0, msg := .lost 0 }], State.reset |> onTop (fun s => { s with mkt := { s.mkt with member := .member } }) |> onTop (fun s => { s with hld := { s.hld with str := { s.hld.str with baskets := [(0, { BasketDesc.absent with depth := 1, width := 1 })] } } }), by decide⟩,
    ⟨1000000000000000, { frame0 with ownMac := true }, [], State.reset, by decide⟩,
    ⟨1000000000000000, { frame0 with fcsOk := false }, [], State.reset, by decide⟩,
    ⟨1000000000000000, { frame0 with gen := 7 }, [], State.reset, by decide⟩,
    ⟨1000000000000000, frame0, [], State.reset |> onTop (fun s => { s with mkt := { s.mkt with member := .member } }), by decide⟩,
    ⟨1000000000000000, { frame0 with ownMac := true }, [], State.reset, by decide⟩,
    ⟨1000000000000000, { frame0 with fcsOk := false }, [], State.reset, by decide⟩⟩

theorem test_met_MarketFramesComplete_2 :
    (∃ (t : Ns) (h : FrameHdr) (es : List (Nat × Nat)) (s : State), looped s h = false ∧ hdrOk s h false = true ∧ genOk s h t = false) ∧
    (∃ (t : Ns) (h : FrameHdr) (es : List SnapRec) (s : State), looped s h = false ∧ hdrOk s h true = true ∧ genOk s h t = true ∧ s.mkt.member = .member) ∧
    (∃ (t : Ns) (h : FrameHdr) (es : List SnapRec) (s : State), h.fcsOk = true ∧ looped s h = true) ∧
    (∃ (t : Ns) (h : FrameHdr) (es : List SnapRec) (s : State), (h.fcsOk && looped s h) = false ∧ hdrOk s h true = false) ∧
    (∃ (t : Ns) (h : FrameHdr) (es : List SnapRec) (s : State), looped s h = false ∧ hdrOk s h true = true ∧ genOk s h t = false) ∧
    (∃ (t : Ns) (h : FrameHdr) (i : HelloInfo) (s : State), looped s h = false ∧ hdrOk s h true = true ∧ h.src ≠ marketId s) ∧
    (∃ (t : Ns) (h : FrameHdr) (i : HelloInfo) (s : State), looped s h = false ∧ hdrOk s h true = true ∧ h.src = marketId s ∧ i.otherMac = true) ∧
    (∃ (t : Ns) (s : State), s.hld.committed = true) :=
  ⟨⟨1000000000000000, { frame0 with gen := 7 }, [], State.reset, by decide⟩,
    ⟨1000000000000000, { frame0 with dst := 0xFFFF }, [], State.reset |> onTop (fun s => { s with mkt := { s.mkt with member := .member } }), by decide⟩,
    ⟨1000000000000000, { frame0 with ownMac := true }, [], State.reset, by decide⟩,
    ⟨1000000000000000, { frame0 with fcsOk := false }, [], State.reset, by decide⟩,
    ⟨1000000000000000, { frame0 with dst := 0xFFFF, gen := 7 }, [], State.reset, by decide⟩,
    ⟨1000000000000000, { frame0 with src := 1, dst := 0xFFFF }, hello0, State.reset, by decide⟩,
    ⟨1000000000000000, { frame0 with dst := 0xFFFF }, { hello0 with otherMac := true }, State.reset, by decide⟩,
    ⟨1000000000000000, State.reset |> committed, by decide⟩⟩

theorem test_met_MarketFramesComplete_3 :
    (∃ (t : Ns) (s : State), trades s = true) ∧
    (∃ (i : Fin 1024) (t : Ns) (s : State), inTable s i = true ∧ (match lookup s.mkt.heard i with | some a => decide (a + 300 * msNs ≤ t) | none => true) = true ∧ s.mkt.missing.contains i.val = false ∧ i.val ≠ marketId s) ∧
    (∃ (t : Ns) (s : State), s.mkt.member = .leaving ∧ s.mkt.leaveEnd ≤ t) ∧
    (∃ (t : Ns) (f : BridgeFrame) (s : State), (f.tagged && f.vid != marketVid s) = true) ∧
    (∃ (t : Ns) (f : BridgeFrame) (s : State), (f.tagged && f.vid != marketVid s) = false ∧ f.port < 2 ∧ mtuOf s < f.len ∧ (f.basket = false ∨ f.pcp ≠ 6)) ∧
    (∃ (t : Ns) (f : BridgeFrame) (s : State), (f.tagged && f.vid != marketVid s) = false ∧ (2 ≤ f.port ∨ f.len ≤ mtuOf s ∨ (f.basket = true ∧ f.pcp = 6)) ∧ f.basket = true ∧ (f.srcMac = macOf (marketId s) ∧ f.port < 2)) ∧
    (∃ (t : Ns) (f : BridgeFrame) (r : MktRoute) (s : State), (f.tagged && f.vid != marketVid s) = false ∧ (2 ≤ f.port ∨ f.len ≤ mtuOf s ∨ (f.basket = true ∧ f.pcp = 6)) ∧ f.basket = true ∧ (¬(f.srcMac = macOf (marketId s) ∧ f.port < 2)) ∧ s.hld.str.routes.find? (fun r => r.pub == f.pub && r.id == f.dstId) = some r) ∧
    (∃ (t : Ns) (f : BridgeFrame) (s : State), (f.tagged && f.vid != marketVid s) = false ∧ (2 ≤ f.port ∨ f.len ≤ mtuOf s ∨ (f.basket = true ∧ f.pcp = 6)) ∧ f.basket = false ∧ lookup s.mkt.addr f.dstMac = none) :=
  ⟨⟨1000000000000000, State.reset |> onTop (fun s => { s with pair := { s.pair with st := .solo } }) |> onTop (fun s => { s with mkt := { s.mkt with member := .member } }), by decide⟩,
    ⟨1, 1000000000000000, State.reset |> onTop (fun s => { s with hld := { s.hld with str := { s.hld.str with routes := [{ pub := false, id := 1, mask := 1 }] } } }), by decide⟩,
    ⟨1000000000000000, State.reset |> onTop (fun s => { s with mkt := { s.mkt with member := .leaving } }), by decide⟩,
    ⟨1000000000000000, { bridge0 with tagged := true, vid := 9 }, State.reset, by decide⟩,
    ⟨1000000000000000, { bridge0 with len := 1500 }, State.reset, by decide⟩,
    ⟨1000000000000000, { bridge0 with srcMac := 0x02F1A0000000, basket := true }, State.reset, by decide⟩,
    ⟨1000000000000000, { bridge0 with basket := true }, { pub := false, id := 0, mask := 1 }, State.reset |> onTop (fun s => { s with hld := { s.hld with str := { s.hld.str with routes := [{ pub := false, id := 0, mask := 1 }] } } }), by decide⟩,
    ⟨1000000000000000, bridge0, State.reset, by decide⟩⟩

theorem test_met_MarketFramesComplete_4 :
    (∃ (t : Ns) (m p a : Nat) (s : State), lookup s.mkt.addr m = some (p, a) ∧ a + 300 * secNs ≤ t) ∧
    (∃ (t : Ns) (x : Identity) (s : State), identNow s = some x ∧ fwRuns s = true) :=
  ⟨⟨1000000000000000, 0, 0, 0, State.reset |> onTop (fun s => { s with mkt := { s.mkt with addr := [(0, 0, 0)] } }), by decide⟩,
    ⟨1000000000000000, Identity.none, State.reset |> running |> committed, by decide⟩⟩

theorem test_met_SwitchCommandsComplete :
    (∃ (t : Ns) (d : Dgram) (a g x y k l : Nat) (op : SwOp) (s : State), fwRuns (setNow s t) = true ∧ (identNow (setNow s t)).isSome = true ∧ authOf (setNow s t) d = some (k, l) ∧ 2 ≤ l ∧ switchStatus (acceptDgram (setNow s t) d k) t a g op x y = 0 ∧ y = 0) ∧
    (∃ (t : Ns) (d : Dgram) (a g x y k l : Nat) (op : SwOp) (s : State), fwRuns (setNow s t) = true ∧ (identNow (setNow s t)).isSome = true ∧ authOf (setNow s t) d = some (k, l) ∧ 2 ≤ l ∧ switchStatus (acceptDgram (setNow s t) d k) t a g op x y ≠ 0) ∧
    (∃ (t : Ns) (w : Switch) (s : State), s.mkt.switch = some w ∧ (w.s ≤ t ∧ t % frameNs = 0) ∧ joinFails (latchDue (setNow s t) false) w = true) ∧
    (∃ (t : Ns) (w : Switch) (s : State), s.mkt.switch = some w ∧ (w.s ≤ t ∧ t % frameNs = 0) ∧ joinFails (latchDue (setNow s t) false) w = false) ∧
    (∃ (t : Ns) (s : State), s.mkt.switch = none) :=
  ⟨⟨1000000000000000, dgram0, 2000000000000000, 1, 0, 0, 0, 3, .route, State.reset |> running |> committed |> keyed, by decide⟩,
    ⟨1000000000000000, dgram0, 0, 0, 0, 0, 0, 3, .route, State.reset |> running |> committed |> keyed, by decide⟩,
    ⟨1000000000000000, { s := 0, gen := 1, op := .join, subject := 0, hash := 0 }, State.reset |> onTop (fun s => { s with mkt := { s.mkt with switch := some { s := 0, gen := 1, op := .join, subject := 0, hash := 0 } } }) |> onTop (fun s => { s with mkt := { s.mkt with unsynced := true } }), by decide⟩,
    ⟨1000000000000000, { s := 0, gen := 1, op := .route, subject := 0, hash := 0 }, State.reset |> onTop (fun s => { s with mkt := { s.mkt with switch := some ({ s := 0, gen := 1, op := .route, subject := 0, hash := 0 }) } }), by decide⟩,
    ⟨1000000000000000, State.reset |> onTop (fun s => { s with mkt := { s.mkt with switch := none } }), by decide⟩⟩

theorem test_met_MonitorReadsComplete_1 :
    (∃ (t : Ns) (s : State), s.snf.vaux = true ∧ s.mgt.halted = false) ∧
    (∃ (t : Ns) (a n : Nat) (s : State), s.snf.vaux = true ∧ s.mgt.halted = false ∧ (n = 0 ∨ 64 < n)) ∧
    (∃ (t : Ns) (a n : Nat) (s : State), s.snf.vaux = true ∧ s.mgt.halted = false ∧ (¬(n = 0 ∨ 64 < n))) ∧
    (∃ (t : Ns) (n : Nat) (s : State), s.snf.vaux = true ∧ s.mgt.halted = false ∧ (n = 0 ∨ 256 < n)) ∧
    (∃ (t : Ns) (n : Nat) (s : State), s.snf.vaux = true ∧ s.mgt.halted = false ∧ (¬(n = 0 ∨ 256 < n))) ∧
    (∃ (t : Ns) (n : Nat) (s : State), s.snf.vaux = true ∧ s.mgt.halted = false ∧ n ≠ 921600 ∧ n ≠ 3000000) ∧
    (∃ (t : Ns) (l : List Byte) (s : State), s.snf.vaux = true ∧ s.mgt.halted = false ∧ s.snf.straps.testBit 4 = false) ∧
    (∃ (t : Ns) (l : List Byte) (s : State), s.snf.vaux = true ∧ s.mgt.halted = false ∧ s.snf.straps.testBit 4 = true ∧ l ≠ s.mgt.serial) :=
  ⟨⟨1000000000000000, State.reset |> powered, by decide⟩,
    ⟨1000000000000000, 0, 0, State.reset |> powered, by decide⟩,
    ⟨1000000000000000, 0, 1, State.reset |> powered, by decide⟩,
    ⟨1000000000000000, 0, State.reset |> powered, by decide⟩,
    ⟨1000000000000000, 1, State.reset |> powered, by decide⟩,
    ⟨1000000000000000, 3000001, State.reset |> powered, by decide⟩,
    ⟨1000000000000000, [], State.reset |> powered, by decide⟩,
    ⟨1000000000000000, [65#8], State.reset |> powered |> onTop (fun s => { s with snf := { s.snf with straps := 16 } }), by decide⟩⟩

theorem test_met_MonitorReadsComplete_2 :
    (∃ (t : Ns) (l : List Byte) (s : State), s.snf.vaux = true ∧ s.mgt.halted = false ∧ s.snf.straps.testBit 4 = true ∧ l = s.mgt.serial) ∧
    (∃ (t : Ns) (s : State), s.mon.lastChar + 900 * secNs ≤ t ∧ s.mon.latched = true) :=
  ⟨⟨1000000000000000, [], State.reset |> powered |> onTop (fun s => { s with snf := { s.snf with straps := 16 } }), by decide⟩,
    ⟨1000000000000000, State.reset |> latched, by decide⟩⟩

theorem test_met_MonitorLatchedComplete_1 :
    (∃ (t : Ns) (a : Nat) (v : W32) (s : State), s.snf.vaux = true ∧ s.mgt.halted = false ∧ s.mon.latched = false) ∧
    (∃ (t : Ns) (s : State), s.snf.vaux = true ∧ s.mgt.halted = false ∧ s.mon.latched = false) ∧
    (∃ (t : Ns) (i : Fin 4) (k : Fin 256) (l : Fin 4) (s : State), s.snf.vaux = true ∧ s.mgt.halted = false ∧ s.mon.latched = false) ∧
    (∃ (t : Ns) (k : LoadKind) (s : State), s.snf.vaux = true ∧ s.mgt.halted = false ∧ s.mon.latched = false) ∧
    (∃ (t : Ns) (s : State), s.snf.vaux = true ∧ s.mgt.halted = false ∧ s.mon.latched = true) ∧
    (∃ (t : Ns) (s : State), s.snf.vaux = true ∧ s.mgt.halted = false ∧ s.mon.latched = true ∧ (imgValidate (monAt s t)).mgt.code = MgtCode.running.code) ∧
    (∃ (t : Ns) (s : State), s.snf.vaux = true ∧ s.mgt.halted = false ∧ s.mon.latched = true ∧ s.mgt.recovery = false ∧ lastValid (monAt s t) = true ∧ s.pair.st ≠ .active ∧ portsIdle (monAt s t) = true) ∧
    (∃ (t : Ns) (i : Fin 4) (k : Fin 256) (l : Fin 4) (x : List Byte) (s : State), s.snf.vaux = true ∧ s.mgt.halted = false ∧ s.mon.latched = true ∧ s.mon.key = some x ∧ l.val ≠ 0) :=
  ⟨⟨1000000000000000, 0, 0#32, State.reset |> powered |> onTop (fun s => { s with mon := { s.mon with latched := false } }), by decide⟩,
    ⟨1000000000000000, State.reset |> powered |> onTop (fun s => { s with mon := { s.mon with latched := false } }), by decide⟩,
    ⟨1000000000000000, 0, 0, 0, State.reset |> powered |> onTop (fun s => { s with mon := { s.mon with latched := false } }), by decide⟩,
    ⟨1000000000000000, .fw, State.reset |> powered |> onTop (fun s => { s with mon := { s.mon with latched := false } }), by decide⟩,
    ⟨1000000000000000, State.reset |> powered |> latched, by decide⟩,
    ⟨1000000000000000, State.reset |> powered |> latched |> onTop (fun s => { s with mgt := { s.mgt with img := .receiving } }), by decide⟩,
    ⟨1000000000000000, State.reset |> powered |> latched |> onTop (fun s => { s with mgt := { s.mgt with recovery := false } }) |> onTop (fun s => { s with pair := { s.pair with st := .solo } }) |> onTop (fun s => { s with mgt := { s.mgt with lastLoad := some (true, true) } }) |> onTop (fun s => { s with mgt := { s.mgt with validB := true } }), by decide⟩,
    ⟨1000000000000000, 0, 0, 1, [], State.reset |> powered |> latched |> onTop (fun s => { s with mon := { s.mon with key := some ([]) } }), by decide⟩⟩

theorem test_met_MonitorLatchedComplete_2 :
    (∃ (t : Ns) (i : Fin 4) (k : Fin 256) (l : Fin 4) (s : State), s.snf.vaux = true ∧ s.mgt.halted = false ∧ s.mon.latched = true ∧ s.mon.key = none) ∧
    (∃ (t : Ns) (a : Nat) (v : W32) (s : State), s.snf.vaux = true ∧ s.mgt.halted = false ∧ s.mon.latched = true ∧ (writeAddr { monAt s t with glb := { (monAt s t).glb with wrLatch := s.mon.low } } .monitor (a % 2 ^ 32) v).2 = []) ∧
    (∃ (t : Ns) (a : Nat) (x : List Byte) (c : W32) (s : State), s.snf.vaux = true ∧ s.mgt.halted = false ∧ s.mon.loading = none) ∧
    (∃ (t : Ns) (a : Nat) (x : List Byte) (c : W32) (k : LoadKind) (s : State), s.snf.vaux = true ∧ s.mgt.halted = false ∧ s.mon.loading = some k ∧ c ≠ blockCrc a x) ∧
    (∃ (t : Ns) (a : Nat) (x : List Byte) (c : W32) (s : State), s.snf.vaux = true ∧ s.mgt.halted = false ∧ s.mon.loading = some .key ∧ c = blockCrc a x ∧ x.length ≤ 1024 ∧ a + x.length ≤ 32 ∧ x.length ≠ 0) :=
  ⟨⟨1000000000000000, 0, 0, 0, State.reset |> powered |> latched |> onTop (fun s => { s with mon := { s.mon with key := none } }), by decide⟩,
    ⟨1000000000000000, 0, 0#32, State.reset |> powered |> latched, by decide⟩,
    ⟨1000000000000000, 0, [], 0#32, State.reset |> powered |> onTop (fun s => { s with mon := { s.mon with loading := none } }), by decide⟩,
    ⟨1000000000000000, 0, [], 0#32, .fw, State.reset |> powered |> onTop (fun s => { s with mon := { s.mon with loading := some (.fw) } }), by decide⟩,
    ⟨1000000000000000, 0, [0#8], blockCrc 0 [0#8], State.reset |> powered |> onTop (fun s => { s with mon := { s.mon with loading := some .key } }), by decide⟩⟩

theorem test_met_MotorCommandsComplete_1 :
    (∃ (m : Fin 16) (s : State), s.rlt.ctx = none ∧ (motOf s m).st ≠ .disabled) ∧
    (∃ (m : Fin 16) (s : State), s.rlt.ctx = none) ∧
    (∃ (m : Fin 16) (s : State), s.rlt.ctx = none ∧ (motOf s m).st = .disabled) ∧
    (∃ (m : Fin 16) (s : State), s.rlt.ctx.isSome = true) ∧
    (∃ (m : Fin 16) (t : Nat) (s : State), (motOf s m).st = .off) ∧
    (∃ (m : Fin 16) (t : Nat) (s : State), (motOf s m).st = .retryWait) ∧
    (∃ (m : Fin 16) (t : Nat) (s : State), (motOf s m).st = .stopping ∨ (motOf s m).st = .ident ∨ (motOf s m).st = .fault) ∧
    (∃ (m : Fin 16) (t : Nat) (s : State), (motOf s m).st = .run ∧ motStopMode s m = 0) :=
  ⟨⟨0, State.reset |> onTop (fun s => { s with rlt := { s.rlt with ctx := none } }) |> onMot 0 (fun x => { x with st := .off }), by decide⟩,
    ⟨0, State.reset |> onTop (fun s => { s with rlt := { s.rlt with ctx := none } }), by decide⟩,
    ⟨0, State.reset |> onTop (fun s => { s with rlt := { s.rlt with ctx := none } }) |> onMot 0 (fun x => { x with st := .disabled }), by decide⟩,
    ⟨0, State.reset |> onTop (fun s => { s with rlt := { s.rlt with ctx := some (imageOf State.reset) } }), by decide⟩,
    ⟨0, 0, State.reset |> onMot 0 (fun x => { x with st := .off }), by decide⟩,
    ⟨0, 0, State.reset |> onMot 0 (fun x => { x with st := .retryWait }), by decide⟩,
    ⟨0, 0, State.reset |> onMot 0 (fun x => { x with st := .stopping }), by decide⟩,
    ⟨0, 0, State.reset |> onMot 0 (fun x => { x with st := .run }), by decide⟩⟩

theorem test_met_MotorCommandsComplete_2 :
    (∃ (m : Fin 16) (t : Nat) (s : State), (motOf s m).st = .run ∧ motStopMode s m = 2) ∧
    (∃ (m : Fin 16) (t : Nat) (s : State), (motOf s m).st = .search) ∧
    (∃ (m : Fin 16) (t : Nat) (s : State), (motOf s m).st = .probe) ∧
    (∃ (m : Fin 16) (t : Nat) (s : State), (motOf s m).st = .catch_) ∧
    (∃ (m : Fin 16) (t : Nat) (s : State), (motOf s m).st = .brakeRegen) ∧
    (∃ (m : Fin 16) (t : Nat) (s : State), (motOf s m).st = .brakeDc) ∧
    (∃ (m : Fin 16) (t : Nat) (s : State), (motOf s m).st = .brakeCoast) ∧
    (∃ (m : Fin 16) (t : Nat) (s : State), (motOf s m).st ≠ .disabled) :=
  ⟨⟨0, 0, State.reset |> onMot 0 (fun x => { x with st := .run }) |> bits .motCfg 0 14 2 2, by decide⟩,
    ⟨0, 0, State.reset |> onMot 0 (fun x => { x with st := .search }), by decide⟩,
    ⟨0, 0, State.reset |> onMot 0 (fun x => { x with st := .probe }), by decide⟩,
    ⟨0, 0, State.reset |> onMot 0 (fun x => { x with st := .catch_ }), by decide⟩,
    ⟨0, 0, State.reset |> onMot 0 (fun x => { x with st := .brakeRegen }), by decide⟩,
    ⟨0, 0, State.reset |> onMot 0 (fun x => { x with st := .brakeDc }), by decide⟩,
    ⟨0, 0, State.reset |> onMot 0 (fun x => { x with st := .brakeCoast }), by decide⟩,
    ⟨0, 0, State.reset |> onMot 0 (fun x => { x with st := .off }), by decide⟩⟩

theorem test_met_MotorCommandsComplete_3 :
    (∃ (m : Fin 16) (t : Nat) (s : State), (motOf s m).st = .fault ∧ (faultGone s m).2 = true) ∧
    (∃ (m : Fin 16) (t : Nat) (s : State), (motOf s m).st ≠ .fault) ∧
    (∃ (m : Fin 16) (t : Nat) (s : State), (motOf s m).st ≠ .off) ∧
    (∃ (m : Fin 16) (t : Nat) (s : State), (motOf s m).night = true) ∧
    (∃ (m : Fin 16) (t : Ns) (smp : PhaseSample) (s : State), (motOf s m).st ≠ .disabled ∧ (motOf s m).gates = false ∨ driving s = false ∧ smp.valley = false ∧ fastTrip s m smp = false) ∧
    (∃ (m : Fin 16) (t : Ns) (smp : PhaseSample) (s : State), (motOf s m).st ≠ .disabled ∧ (motOf s m).gates = false ∨ driving s = false ∧ smp.valley = false ∧ fastTrip s m smp = true) ∧
    (∃ (m : Fin 16) (t : Ns) (smp : PhaseSample) (s : State), (motOf s m).st = .run ∧ (motOf s m).gates = true ∧ driving s = true ∧ smp.valley = false ∧ slowVector s m = false ∧ fastTrip s m smp = false) :=
  ⟨⟨0, 0, State.reset |> onMot 0 (fun x => { x with st := .fault }), by decide⟩,
    ⟨0, 0, State.reset |> onMot 0 (fun x => { x with st := .off }), by decide⟩,
    ⟨0, 0, State.reset |> onMot 0 (fun x => { x with st := .run }), by decide⟩,
    ⟨0, 0, State.reset |> onMot 0 (fun x => { x with night := true }), by decide⟩,
    ⟨0, 1000000000000000, phase0, State.reset |> onMot 0 (fun x => { x with gates := false }) |> onMot 0 (fun x => { x with st := .off }), by decide⟩,
    ⟨0, 1000000000000000, phase0, State.reset |> onMot 0 (fun x => { x with gates := false }) |> onMot 0 (fun x => { x with st := .off }), by decide⟩,
    ⟨0, 1000000000000000, phase0, State.reset |> onMot 0 (fun x => { x with st := .run }) |> onMot 0 (fun x => { x with gates := true }) |> committed |> enabled, by decide⟩⟩

theorem test_met_MotorFaultsComplete_1 :
    (∃ (m : Fin 16) (t : Ns) (s : State), (motOf s m).st ≠ .disabled ∧ (motOf s m).st ≠ .fault ∧ (motOf s m).fault = .none) ∧
    (∃ (m : Fin 16) (t : Ns) (s : State), fLt (vMax (setNow s t) m) (motOf s m).vdcLast = true ∧ fLt (vMax (setNow s t) m) (motOf s m).vdcPrev = true) ∧
    (∃ (m : Fin 16) (t : Ns) (s : State), (motOf s m).st ≠ .disabled ∧ (motOf s m).st ≠ .fault ∧ (motOf s m).fault = .none ∧ fLt (vMax (setNow s t) m) (motOf s m).vdcLast = true ∧ fLt (vMax (setNow s t) m) (motOf s m).vdcPrev = true) ∧
    (∃ (m : Fin 16) (t g : Ns) (s : State), driving s = true ∧ s.pair.gateAt = some g ∧ g + 10000 ≤ t) ∧
    (∃ (m : Fin 16) (t g : Ns) (s : State), (motOf s m).st ≠ .disabled ∧ (motOf s m).st ≠ .fault ∧ (motOf s m).fault = .none ∧ driving s = true ∧ s.pair.gateAt = some g ∧ g + 10000 ≤ t) ∧
    (∃ (m : Fin 16) (t t0 : Ns) (s : State), (motOf s m).lowVdc = some t0 ∧ t0 + 10 * 1000000 ≤ t) ∧
    (∃ (m : Fin 16) (t t0 : Ns) (s : State), (motOf s m).st ≠ .disabled ∧ (motOf s m).st ≠ .fault ∧ (motOf s m).fault = .none ∧ (motOf s m).lowVdc = some t0 ∧ t0 + 10 * 1000000 ≤ t) ∧
    (∃ (m : Fin 16) (t : Ns) (s : State), (motOf s m).gates = true) :=
  ⟨⟨0, 1000000000000000, State.reset |> onMot 0 (fun x => { x with fault := .none }) |> onMot 0 (fun x => { x with st := .off }), by decide⟩,
    ⟨0, 1000000000000000, State.reset |> onMot 0 (fun x => { x with vdcLast := fOfNat 2000 }) |> onMot 0 (fun x => { x with vdcPrev := fOfNat 2000 }), by decide⟩,
    ⟨0, 1000000000000000, State.reset |> onMot 0 (fun x => { x with vdcLast := fOfNat 2000 }) |> onMot 0 (fun x => { x with vdcPrev := fOfNat 2000 }) |> onMot 0 (fun x => { x with st := .off }), by decide⟩,
    ⟨0, 1000000000000000, 0, State.reset |> committed |> enabled |> onTop (fun s => { s with pair := { s.pair with gateAt := some (0) } }), by decide⟩,
    ⟨0, 1000000000000000, 0, State.reset |> onMot 0 (fun x => { x with fault := .none }) |> committed |> enabled |> onTop (fun s => { s with pair := { s.pair with gateAt := some (0) } }) |> onMot 0 (fun x => { x with st := .off }), by decide⟩,
    ⟨0, 1000000000000000, 0, State.reset |> onMot 0 (fun x => { x with lowVdc := some (0) }), by decide⟩,
    ⟨0, 1000000000000000, 0, State.reset |> onMot 0 (fun x => { x with fault := .none }) |> onMot 0 (fun x => { x with lowVdc := some (0) }) |> onMot 0 (fun x => { x with st := .off }), by decide⟩,
    ⟨0, 1000000000000000, State.reset |> onMot 0 (fun x => { x with gates := true }), by decide⟩⟩

theorem test_met_MotorFaultsComplete_2 :
    (∃ (m : Fin 16) (t : Ns) (s : State), (motOf s m).st ≠ .disabled ∧ (motOf s m).st ≠ .fault ∧ (motOf s m).fault = .none ∧ (motOf s m).gates = true) ∧
    (∃ (m : Fin 16) (t t0 : Ns) (s : State), (motOf s m).obsBadSince = some t0 ∧ t0 + 100 * 1000000 ≤ t) ∧
    (∃ (m : Fin 16) (t t0 : Ns) (s : State), (motOf s m).st ≠ .disabled ∧ (motOf s m).st ≠ .fault ∧ (motOf s m).fault = .none ∧ (motOf s m).obsBadSince = some t0 ∧ t0 + 100 * 1000000 ≤ t) ∧
    (∃ (m : Fin 16) (t : Ns) (s : State), brakeOver s m t = true) ∧
    (∃ (m : Fin 16) (t : Ns) (s : State), (motOf s m).st ≠ .disabled ∧ (motOf s m).st ≠ .fault ∧ (motOf s m).fault = .none ∧ brakeOver s m t = true) :=
  ⟨⟨0, 1000000000000000, State.reset |> onMot 0 (fun x => { x with fault := .none }) |> onMot 0 (fun x => { x with gates := true }) |> onMot 0 (fun x => { x with st := .off }), by decide⟩,
    ⟨0, 1000000000000000, 0, State.reset |> onMot 0 (fun x => { x with obsBadSince := some (0) }), by decide⟩,
    ⟨0, 1000000000000000, 0, State.reset |> onMot 0 (fun x => { x with fault := .none }) |> onMot 0 (fun x => { x with obsBadSince := some (0) }) |> onMot 0 (fun x => { x with st := .off }), by decide⟩,
    ⟨0, 1000000000000000, State.reset |> onMot 0 (fun x => { x with st := .brakeDc }) |> onMot 0 (fun x => { x with brakeAt := some 0 }), by decide⟩,
    ⟨0, 1000000000000000, State.reset |> onMot 0 (fun x => { x with fault := .none }) |> onMot 0 (fun x => { x with st := .off }) |> onMot 0 (fun x => { x with st := .brakeDc }) |> onMot 0 (fun x => { x with brakeAt := some 0 }), by decide⟩⟩

theorem test_met_MotorPhasesComplete_1 :
    (∃ (m : Fin 16) (t : Ns) (r : SearchReading) (s : State), searchOver (setNow s t) m t = true ∧ searchFails (setNow s t) m r = true ∧ (motOf s m).brakeSearch = false ∧ (motOf s m).repeated = false) ∧
    (∃ (m : Fin 16) (t : Ns) (r : SearchReading) (s : State), (motOf s m).st = .search ∧ searchOver (setNow s t) m t = true ∧ searchFails (setNow s t) m r = false ∧ (motOf s m).brakeSearch = false ∧ searchSpeed (setNow s t) m r = none ∧ motPm s m = false ∧ (motOf s m).probes < 2 ∧ driving s = true) ∧
    (∃ (m : Fin 16) (t t0 : Ns) (s : State), (motOf s m).repeatAt = some t0 ∧ t0 ≤ t) ∧
    (∃ (m : Fin 16) (t : Ns) (s : State), (motOf s m).st = .probe ∧ (motOf s m).gates = true ∧ (motOf s m).phaseAt + 20 * 1000000 ≤ t) ∧
    (∃ (m : Fin 16) (t : Ns) (s : State), (motOf s m).st = .catch_ ∧ (motOf s m).aligning = true ∧ (motOf s m).phaseAt + 200 * 1000000 ≤ t) ∧
    (∃ (m : Fin 16) (t t0 : Ns) (s : State), (motOf s m).st = .catch_ ∧ (motOf s m).aligning = false ∧ (motPm s m = true ∨ (motOf s m).phaseAt + tFlux s m ≤ t) ∧ (motOf s m).settled = some t0 ∧ t0 + 10 * 1000000 ≤ t) ∧
    (∃ (m : Fin 16) (t t0 : Ns) (s : State), (motOf s m).lowSince = some t0 ∧ (motOf s m).st = .brakeRegen ∧ t0 + 2 * 1000000000 ≤ t ∧ driving s = true) ∧
    (∃ (m : Fin 16) (t : Ns) (s : State), (motOf s m).st = .brakeDc ∨ (motOf s m).st = .brakeCoast ∨ ((motOf s m).st = .stopping ∧ (motOf s m).brakeAt.isSome = true) ∧ wickRpm s m = none ∧ (motOf s m).brakeSearch = false ∧ (motOf s m).phaseAt + 1000000000 ≤ t) :=
  ⟨⟨0, 1000000000000000, search0, State.reset |> onMot 0 (fun x => { x with brakeSearch := false }) |> onMot 0 (fun x => { x with repeated := false }) |> onMot 0 (fun x => { x with st := .search }), by decide⟩,
    ⟨0, 1000000000000000, search0, State.reset |> onMot 0 (fun x => { x with st := .search }) |> onMot 0 (fun x => { x with brakeSearch := false }) |> committed |> enabled |> onTop (fun s => putReg s .motRatedV 0 (fOfNat 400)), by decide⟩,
    ⟨0, 1000000000000000, 0, State.reset |> onMot 0 (fun x => { x with repeatAt := some (0) }), by decide⟩,
    ⟨0, 1000000000000000, State.reset |> onMot 0 (fun x => { x with st := .probe }) |> onMot 0 (fun x => { x with gates := true }), by decide⟩,
    ⟨0, 1000000000000000, State.reset |> onMot 0 (fun x => { x with st := .catch_ }) |> onMot 0 (fun x => { x with aligning := true }), by decide⟩,
    ⟨0, 1000000000000000, 0, State.reset |> onMot 0 (fun x => { x with st := .catch_ }) |> onMot 0 (fun x => { x with aligning := false }) |> onMot 0 (fun x => { x with settled := some (0) }), by decide⟩,
    ⟨0, 1000000000000000, 0, State.reset |> onMot 0 (fun x => { x with lowSince := some (0) }) |> onMot 0 (fun x => { x with st := .brakeRegen }) |> committed |> enabled, by decide⟩,
    ⟨0, 1000000000000000, State.reset |> onMot 0 (fun x => { x with st := .brakeDc }) |> onMot 0 (fun x => { x with brakeSearch := false }), by decide⟩⟩

theorem test_met_MotorPhasesComplete_2 :
    (∃ (m : Fin 16) (t t0 : Ns) (s : State), (motOf s m).st = .stopping ∧ (motOf s m).zeroSince = some t0 ∧ t0 + 200 * 1000000 ≤ t) ∧
    (∃ (m : Fin 16) (t : Ns) (s : State), stallOver s m t = true ∧ (motOf s m).st = .run ∧ (motOf s m).stalls < fanRetries s m) ∧
    (∃ (m : Fin 16) (t : Ns) (s : State), (motOf s m).st = .retryWait ∧ (motOf s m).retryAt ≤ t) ∧
    (∃ (m : Fin 16) (t t0 : Ns) (s : State), (motOf s m).aboveSince = some t0 ∧ t0 + 60 * 1000000000 ≤ t) ∧
    (∃ (m : Fin 16) (t : Ns) (rs ls : F32) (s : State), (motOf s m).st = .ident ∧ (motOf s m).identMeas = true ∧ fLe (fRat 1 1000) rs = true ∧ fLe rs (fOfNat 100) = true ∧ fLe (fRat 1 1000000) ls = true ∧ fLe ls (fOfNat 1) = true ∧ t ≤ (motOf s m).phaseAt + 3 * 1000000000) :=
  ⟨⟨0, 1000000000000000, 0, State.reset |> onMot 0 (fun x => { x with st := .stopping }) |> onMot 0 (fun x => { x with zeroSince := some (0) }), by decide⟩,
    ⟨0, 1000000000000000, State.reset |> onMot 0 (fun x => { x with st := .run }) |> onMot 0 (fun x => { x with belowSince := some 0 }) |> onMot 0 (fun x => { x with par := [0#32, 0#32, 0x40000#32] }), by decide⟩,
    ⟨0, 1000000000000000, State.reset |> onMot 0 (fun x => { x with st := .retryWait }), by decide⟩,
    ⟨0, 1000000000000000, 0, State.reset |> onMot 0 (fun x => { x with aboveSince := some (0) }), by decide⟩,
    ⟨0, 1000000000000000, fOfNat 1, fRat 1 1000, State.reset |> onMot 0 (fun x => { x with st := .ident }) |> onMot 0 (fun x => { x with identMeas := true }) |> onMot 0 (fun x => { x with phaseAt := 1000000000000000 }), by decide⟩⟩

theorem test_met_CalibrationCompletes :
    (∃ (c : Fin 32) (s : State), relit s = false ∧ (chanOf s c).op = none) ∧
    (∃ (c : Fin 32) (s : State), (relit s = true ∨ (chanOf s c).op.isSome = true)) ∧
    (∃ (c : Fin 32) (s : State), relit s = false ∧ (∀ k, (chanOf s c).op ≠ some (.capture k))) ∧
    (∃ (c : Fin 32) (s : State), (chanOf s c).left = 0 ∧ (chanOf s c).op = some .calOpen) ∧
    (∃ (c : Fin 32) (s : State), (chanOf s c).left = 0 ∧ (chanOf s c).op = some .calShort) ∧
    (∃ (c : Fin 32) (s : State), (chanOf s c).left = 0 ∧ (chanOf s c).op = some .calLoad) ∧
    (∃ (c : Fin 32) (s : State), (chanOf s c).left = 0 ∧ (chanOf s c).op = some .calAir) :=
  ⟨⟨0, State.reset |> onChan 0 (fun x => { x with op := none }), by decide⟩,
    ⟨0, State.reset |> onTop (fun s => { s with rlt := { s.rlt with st := .prepared } }), by decide⟩,
    ⟨0, State.reset, by exact ⟨by decide, fun k => nofun⟩⟩,
    ⟨0, State.reset |> onChan 0 (fun x => { x with left := 0 }) |> onChan 0 (fun x => { x with op := some .calOpen }), by decide⟩,
    ⟨0, State.reset |> onChan 0 (fun x => { x with left := 0 }) |> onChan 0 (fun x => { x with op := some .calShort }), by decide⟩,
    ⟨0, State.reset |> onChan 0 (fun x => { x with left := 0 }) |> onChan 0 (fun x => { x with op := some .calLoad }), by decide⟩,
    ⟨0, State.reset |> onChan 0 (fun x => { x with left := 0 }) |> onChan 0 (fun x => { x with op := some .calAir }), by decide⟩⟩

theorem test_met_MoistureSetsAndSamplesComplete_1 :
    (∃ (n : Fin 8) (t : Ns) (s : State), coreRuns s = true ∧ t % 2500000 = 0 ∧ aisMeasures (aisOf s n) = true ∧ (aisOf s n).lostDown = false ∧ (aisOf s n).lostUp = false) ∧
    (∃ (c : Fin 32) (t t0 : Ns) (rest : List Nat) (r : SetReading) (s : State), (chanOf s c).sets = t0 :: rest ∧ t0 + 2500000 ≤ t) ∧
    (∃ (c : Fin 32) (a : List Cx) (k : CalStore) (s : State), relit s = false ∧ (chanOf s c).op = none ∧ (chanOf s c).spent = false ∧ (chanOf s c).pOpen = none ∧ (chanOf s c).pShort = none ∧ (chanOf s c).pLoad = none ∧ (chanOf s c).pAir = some a ∧ (chanOf s c).cal = some k) ∧
    (∃ (c : Fin 32) (a b d e : List Cx) (s : State), relit s = false ∧ (chanOf s c).op = none ∧ (chanOf s c).spent = false ∧ (chanOf s c).pOpen = some a ∧ (chanOf s c).pShort = some b ∧ (chanOf s c).pLoad = some d ∧ (chanOf s c).pAir = some e) ∧
    (∃ (c slot : Fin 32) (s : State), relit s = false ∧ (chanOf s c).op = none ∧ (chanOf s c).session = false) ∧
    (∃ (c : Fin 32) (k : Nat) (s : State), (chanOf s c).op = some (.capture k) ∧ (chanOf s c).left = 0 ∧ (chanOf s c).good < 600 ∨ (chanOf s c).anyUncovered = true) ∧
    (∃ (c : Fin 32) (k : Nat) (s : State), (chanOf s c).op = some (.capture k) ∧ (chanOf s c).left = 0 ∧ 600 ≤ (chanOf s c).good ∧ (chanOf s c).anyUncovered = false) ∧
    (∃ (c slot : Fin 32) (s : State), relit s = false) :=
  ⟨⟨0, 1000000000000000, State.reset |> running |> onAis 0 (fun x => { x with st := .linked }) |> onAis 0 (fun x => { x with lostDown := false }) |> onAis 0 (fun x => { x with lostUp := false }), by decide⟩,
    ⟨0, 1000000000000000, 0, [], setRd0, State.reset |> onChan 0 (fun x => { x with sets := 0 :: ([]) }), by decide⟩,
    ⟨0, [], { e00 := [], e11 := [], e := [], cf := 0#32, ta := 0 }, State.reset |> onChan 0 (fun x => { x with op := none }) |> onChan 0 (fun x => { x with spent := false }) |> onChan 0 (fun x => { x with pOpen := none }) |> onChan 0 (fun x => { x with pShort := none }) |> onChan 0 (fun x => { x with pLoad := none }) |> onChan 0 (fun x => { x with pAir := some ([]) }) |> onChan 0 (fun x => { x with cal := some ({ e00 := [], e11 := [], e := [], cf := 0#32, ta := 0 }) }), by decide⟩,
    ⟨0, [], [], [], [], State.reset |> onChan 0 (fun x => { x with op := none }) |> onChan 0 (fun x => { x with spent := false }) |> onChan 0 (fun x => { x with pOpen := some ([]) }) |> onChan 0 (fun x => { x with pShort := some ([]) }) |> onChan 0 (fun x => { x with pLoad := some ([]) }) |> onChan 0 (fun x => { x with pAir := some ([]) }), by decide⟩,
    ⟨0, 0, State.reset |> onChan 0 (fun x => { x with op := none }) |> onChan 0 (fun x => { x with session := false }), by decide⟩,
    ⟨0, 0, State.reset |> onChan 0 (fun x => { x with op := some (.capture 0) }) |> onChan 0 (fun x => { x with left := 0 }), by decide⟩,
    ⟨0, 0, State.reset |> onChan 0 (fun x => { x with op := some (.capture 0) }) |> onChan 0 (fun x => { x with left := 0 }) |> onChan 0 (fun x => { x with anyUncovered := false }) |> onChan 0 (fun x => { x with good := 600 }), by decide⟩,
    ⟨0, 0, State.reset, by decide⟩⟩

theorem test_met_MoistureSetsAndSamplesComplete_2 :
    (∃ (c : Fin 32) (s : State), relit s = false ∧ calRuns (chanOf s c) = false ∧ (chanOf s c).session = false ∧ labPairs (chanOf s c) ≠ [] ∧ fitOk (fitOf (labPairs (chanOf s c))) = true) ∧
    (∃ (c : Fin 32) (s : State), relit s = false) :=
  ⟨⟨0, State.reset |> onChan 0 (fun x => { x with session := false }) |> onChan 0 (fun x => { x with samples := [(0, { Sample.empty with captured := true, lab := some 0#32 })] }), by decide⟩,
    ⟨0, State.reset, by decide⟩⟩

theorem test_met_PairOperationsComplete_1 :
    (∃ (s : State), claimOk s = true) ∧
    (∃ (s : State), claimOk s = false) ∧
    (∃ (s : State), s.pair.st = .active) ∧
    (∃ (s : State), s.pair.st ≠ .active) ∧
    (∃ (s : State), s.pair.st = .failed ∧ severeOf s (findingsNow s) = false ∧ s.snf.active = false) ∧
    (∃ (s : State), s.pair.st ≠ .failed) ∧
    (∃ (s : State), s.pair.st = .standby) ∧
    (∃ (s : State), s.pair.st = .spare) :=
  ⟨⟨State.reset |> committed |> bits .pairCfg 0 0 1 1 |> onTop (fun s => { s with pair := { s.pair with st := .spare } }) |> onTop (fun s => { s with pair := { s.pair with phase := .wait } }), by decide⟩,
    ⟨State.reset, by decide⟩,
    ⟨State.reset |> onTop (fun s => { s with pair := { s.pair with st := .active } }), by decide⟩,
    ⟨State.reset |> onTop (fun s => { s with pair := { s.pair with st := .solo } }), by decide⟩,
    ⟨State.reset |> onTop (fun s => { s with pair := { s.pair with st := .failed } }) |> onTop (fun s => { s with snf := { s.snf with active := false } }), by decide⟩,
    ⟨State.reset |> onTop (fun s => { s with pair := { s.pair with st := .solo } }), by decide⟩,
    ⟨State.reset |> onTop (fun s => { s with pair := { s.pair with st := .standby } }), by decide⟩,
    ⟨State.reset |> onTop (fun s => { s with pair := { s.pair with st := .spare } }), by decide⟩⟩

theorem test_met_PairOperationsComplete_2 :
    (∃ (s : State), s.pair.st ≠ .standby ∧ s.pair.st ≠ .spare) ∧
    (∃ (t f : Ns) (s : State), s.pair.claimFrom = some f ∧ regB s .pairCfg 0 2 = true ∧ f + regF s .pairCfg 0 3 8 * secNs ≤ t ∧ s.pair.st = .spare ∧ claimOk (setNow s t) = true) ∧
    (∃ (t : Ns) (s : State), s.pair.st = .spare ∧ s.pair.phase = .shadow ∧ s.pair.shadowAt + 10 * secNs ≤ t ∧ s.pair.health ≠ .bad) ∧
    (∃ (t : Ns) (s : State), isPaired s = true ∧ coreRuns s = true ∧ pairLinkUp (setNow s t) = false ∧ s.pair.st = .standby ∧ s.pair.findings.testBit 8 = true) ∧
    (∃ (t : Ns) (s : State), isPaired s = true ∧ coreRuns s = true ∧ pairLinkUp (setNow s t) = false ∧ s.pair.st = .spare ∧ s.pair.phase ≠ .wait ∧ s.pair.findings.testBit 8 = true) ∧
    (∃ (t : Ns) (s : State), isPaired s = true ∧ coreRuns s = true ∧ pairLinkUp (setNow s t) = false ∧ s.pair.st = .active ∧ s.pair.findings.testBit 8 = true) ∧
    (∃ (t : Ns) (s : State), isPaired s = true ∧ coreRuns s = true ∧ pairLinkUp (setNow s t) = false ∧ s.pair.st = .standby ∧ s.pair.findings.testBit 8 = false) ∧
    (∃ (t : Ns) (s : State), isPaired s = true ∧ coreRuns s = true ∧ pairLinkUp (setNow s t) = false ∧ s.pair.st = .spare ∧ s.pair.phase ≠ .wait ∧ s.pair.findings.testBit 8 = false) :=
  ⟨⟨State.reset |> onTop (fun s => { s with pair := { s.pair with st := .solo } }), by decide⟩,
    ⟨1000000000000000, 0, State.reset |> onTop (fun s => { s with pair := { s.pair with claimFrom := some (0) } }) |> bits .pairCfg 0 2 1 1 |> onTop (fun s => { s with pair := { s.pair with st := .spare } }) |> committed |> bits .pairCfg 0 0 1 1 |> onTop (fun s => { s with pair := { s.pair with phase := .wait } }), by decide⟩,
    ⟨1000000000000000, State.reset |> onTop (fun s => { s with pair := { s.pair with st := .spare } }) |> onTop (fun s => { s with pair := { s.pair with phase := .shadow } }) |> onTop (fun s => { s with pair := { s.pair with health := .good } }), by decide⟩,
    ⟨1000000000000000, State.reset |> committed |> bits .pairCfg 0 0 1 1 |> running |> onTop (fun s => { s with pair := { s.pair with st := .standby } }) |> onTop (fun s => { s with pair := { s.pair with findings := 256 } }), by decide⟩,
    ⟨1000000000000000, State.reset |> committed |> bits .pairCfg 0 0 1 1 |> running |> onTop (fun s => { s with pair := { s.pair with st := .spare } }) |> onTop (fun s => { s with pair := { s.pair with phase := .copy } }) |> onTop (fun s => { s with pair := { s.pair with findings := 256 } }), by decide⟩,
    ⟨1000000000000000, State.reset |> committed |> bits .pairCfg 0 0 1 1 |> running |> onTop (fun s => { s with pair := { s.pair with st := .active } }) |> onTop (fun s => { s with pair := { s.pair with findings := 256 } }), by decide⟩,
    ⟨1000000000000000, State.reset |> committed |> bits .pairCfg 0 0 1 1 |> running |> onTop (fun s => { s with pair := { s.pair with st := .standby } }), by decide⟩,
    ⟨1000000000000000, State.reset |> committed |> bits .pairCfg 0 0 1 1 |> running |> onTop (fun s => { s with pair := { s.pair with st := .spare } }) |> onTop (fun s => { s with pair := { s.pair with phase := .copy } }), by decide⟩⟩

theorem test_met_PairOperationsComplete_3 :
    (∃ (t : Ns) (s : State), isPaired s = true ∧ coreRuns s = true ∧ pairLinkUp (setNow s t) = false ∧ s.pair.st = .active ∧ s.pair.findings.testBit 8 = false) ∧
    (∃ (t : Ns) (x : TestStage) (s : State), isPaired s = true ∧ s.pair.st = .standby ∧ s.pair.selftest.testBit x.bit = true) ∧
    (∃ (t : Ns) (x : TestStage) (s : State), isPaired s = true ∧ s.pair.st = .spare ∧ s.pair.selftest.testBit x.bit = true) :=
  ⟨⟨1000000000000000, State.reset |> committed |> bits .pairCfg 0 0 1 1 |> running |> onTop (fun s => { s with pair := { s.pair with st := .active } }), by decide⟩,
    ⟨1000000000000000, .scrub, State.reset |> committed |> bits .pairCfg 0 0 1 1 |> onTop (fun s => { s with pair := { s.pair with st := .standby } }) |> onTop (fun s => { s with pair := { s.pair with selftest := 2 ^ 26 } }), by decide⟩,
    ⟨1000000000000000, .scrub, State.reset |> committed |> bits .pairCfg 0 0 1 1 |> onTop (fun s => { s with pair := { s.pair with st := .spare } }) |> onTop (fun s => { s with pair := { s.pair with selftest := 2 ^ 26 } }), by decide⟩⟩

theorem test_met_PairTakeoverComplete_1 :
    (∃ (t : Ns) (s : State), coreRuns s = true ∧ s.hld.committed = true ∧ t % frameNs = 0 ∧ frameOf t % 8 = 4) ∧
    (∃ (t : Ns) (s : State), coreRuns s = true ∧ s.mgt.halted = false) ∧
    (∃ (t : Ns) (b : Bool) (s : State), b = s.pair.ownOut) ∧
    (∃ (t : Ns) (b : Bool) (s : State), b ≠ s.pair.ownOut) ∧
    (∃ (t : Ns) (s : State), s.pair.st = .standby ∧ isPaired s = true ∧ mirrorFresh (setNow s t) = true ∧ s.pair.health ≠ .bad ∧ s.snf.active = false) ∧
    (∃ (t : Ns) (s : State), s.pair.st = .standby ∧ isPaired s = true ∧ (mirrorFresh (setNow s t) = false ∨ s.pair.health = .bad ∨ s.snf.active = true)) ∧
    (∃ (t : Ns) (s : State), s.pair.st ≠ .standby) ∧
    (∃ (t : Ns) (s : State), (pairGate { setNow s t with pair := { s.pair with peerOwn := true } }).pair.waitAt = none) :=
  ⟨⟨500000, State.reset |> running |> committed, by decide⟩,
    ⟨1000000000000000, State.reset |> running |> onTop (fun s => { s with mgt := { s.mgt with halted := false } }), by decide⟩,
    ⟨1000000000000000, false, State.reset, by decide⟩,
    ⟨1000000000000000, true, State.reset, by decide⟩,
    ⟨1000000000000000, State.reset |> onTop (fun s => { s with pair := { s.pair with st := .standby } }) |> committed |> bits .pairCfg 0 0 1 1 |> onTop (fun s => { s with snf := { s.snf with active := false } }) |> onTop (fun s => { s with pair := { s.pair with health := .good } }) |> onTop (fun s => { s with pair := { s.pair with setClose := some 1000000000000000 } }), by decide⟩,
    ⟨1000000000000000, State.reset |> onTop (fun s => { s with pair := { s.pair with st := .standby } }) |> committed |> bits .pairCfg 0 0 1 1, by decide⟩,
    ⟨1000000000000000, State.reset |> onTop (fun s => { s with pair := { s.pair with st := .solo } }), by decide⟩,
    ⟨1000000000000000, State.reset, by decide⟩⟩

theorem test_met_PairTakeoverComplete_2 :
    (∃ (t w : Ns) (s : State), (pairGate { setNow s t with pair := { s.pair with peerOwn := true } }).pair.waitAt = some w ∧ t ≤ w + 200 * usNs) ∧
    (∃ (t w : Ns) (s : State), s.pair.waitAt = some w ∧ w + 200 * usNs ≤ t ∧ s.pair.st = .standby ∧ s.pair.peerOwn = false ∧ s.snf.active = false) ∧
    (∃ (t a : Ns) (s : State), s.pair.t3At = some a ∧ a ≤ t ∧ t % frameNs = 0 ∧ s.pair.gate = true ∧ s.pair.st = .standby ∧ (t5Taken s t).pair.applied = none) ∧
    (∃ (t a : Ns) (m : MirrorSet) (s : State), s.pair.t3At = some a ∧ a ≤ t ∧ t % frameNs = 0 ∧ s.pair.gate = true ∧ s.pair.st = .standby ∧ (t5Taken s t).pair.applied = some m) ∧
    (∃ (t : Ns) (s : State), s.pair.ownOut = true ∧ s.pair.peerOwn = true ∧ isPaired s = true ∧ s.pair.idConflict = true) ∧
    (∃ (t : Ns) (s : State), s.pair.ownOut = true ∧ s.pair.peerOwn = true ∧ isPaired s = true ∧ s.pair.idConflict = false ∧ isB s = true) ∧
    (∃ (t : Ns) (s : State), s.pair.ownOut = true ∧ s.pair.peerOwn = true ∧ isPaired s = true ∧ s.pair.idConflict = false ∧ isB s = false) ∧
    (∃ (t c : Ns) (s : State), s.pair.collAt = some c ∧ c + 2 * msNs ≤ t ∧ s.pair.ownOut = true ∧ s.pair.peerOwn = true) :=
  ⟨⟨1000000000000000, 1000000000000000, State.reset |> onTop (fun s => { s with pair := { s.pair with waitAt := some 1000000000000000 } }), by decide⟩,
    ⟨1000000000000000, 0, State.reset |> onTop (fun s => { s with pair := { s.pair with waitAt := some (0) } }) |> onTop (fun s => { s with pair := { s.pair with st := .standby } }) |> onTop (fun s => { s with pair := { s.pair with peerOwn := false } }) |> onTop (fun s => { s with snf := { s.snf with active := false } }), by decide⟩,
    ⟨1000000000000000, 0, State.reset |> onTop (fun s => { s with pair := { s.pair with t3At := some (0) } }) |> onTop (fun s => { s with pair := { s.pair with gate := true } }) |> onTop (fun s => { s with pair := { s.pair with st := .standby } }), by decide⟩,
    ⟨1000000000000000, 0, mirror0, State.reset |> onTop (fun s => { s with pair := { s.pair with t3At := some (0) } }) |> onTop (fun s => { s with pair := { s.pair with gate := true } }) |> onTop (fun s => { s with pair := { s.pair with st := .standby } }) |> onTop (fun s => { s with pair := { s.pair with applied := some mirror0 } }), by decide⟩,
    ⟨1000000000000000, State.reset |> onTop (fun s => { s with pair := { s.pair with ownOut := true } }) |> onTop (fun s => { s with pair := { s.pair with peerOwn := true } }) |> committed |> bits .pairCfg 0 0 1 1 |> onTop (fun s => { s with pair := { s.pair with idConflict := true } }), by decide⟩,
    ⟨1000000000000000, State.reset |> onTop (fun s => { s with pair := { s.pair with ownOut := true } }) |> onTop (fun s => { s with pair := { s.pair with peerOwn := true } }) |> committed |> bits .pairCfg 0 0 1 1 |> onTop (fun s => { s with pair := { s.pair with idConflict := false } }) |> onTop (fun s => { s with snf := { s.snf with straps := 1 } }), by decide⟩,
    ⟨1000000000000000, State.reset |> onTop (fun s => { s with pair := { s.pair with ownOut := true } }) |> onTop (fun s => { s with pair := { s.pair with peerOwn := true } }) |> committed |> bits .pairCfg 0 0 1 1 |> onTop (fun s => { s with pair := { s.pair with idConflict := false } }), by decide⟩,
    ⟨1000000000000000, 0, State.reset |> onTop (fun s => { s with pair := { s.pair with collAt := some (0) } }) |> onTop (fun s => { s with pair := { s.pair with ownOut := true } }) |> onTop (fun s => { s with pair := { s.pair with peerOwn := true } }), by decide⟩⟩

theorem test_met_PairLinkComplete_1 :
    (∃ (t : Ns) (h : PairHdr) (l : Lantern) (s : State), isPaired s = true ∧ coreRuns s = true ∧ h.crcOk = false) ∧
    (∃ (t : Ns) (h : PairHdr) (l : Control) (s : State), isPaired s = true ∧ coreRuns s = true ∧ h.crcOk = false) ∧
    (∃ (t : Ns) (h : PairHdr) (l : MirrorSet) (s : State), isPaired s = true ∧ coreRuns s = true ∧ h.crcOk = false) ∧
    (∃ (t : Ns) (h : PairHdr) (l : Lantern) (s : State), isPaired s = true ∧ coreRuns s = true ∧ h.crcOk = true) ∧
    (∃ (t : Ns) (s : State), coreRuns s = true ∧ s.mgt.halted = false ∧ 6 ≤ s.snf.stage) ∧
    (∃ (t : Ns) (h : PairHdr) (l : Control) (s : State), isPaired s = true ∧ coreRuns s = true ∧ h.crcOk = true ∧ (l.st == .spare && l.phase == .copy) = false ∧ l.pairId ≠ isB s ∧ s.pair.idConflict = false ∧ s.pair.waitAt = none) ∧
    (∃ (t : Ns) (h : PairHdr) (m : MirrorSet) (s : State), isPaired s = true ∧ coreRuns s = true ∧ h.crcOk = true ∧ s.pair.st = .standby ∧ s.pair.epoch ≤ h.epoch ∧ s.pair.asm = none ∧ arrived [(h.offset, h.len)] h.total = false) ∧
    (∃ (t : Ns) (h : PairHdr) (m : MirrorSet) (s : State), isPaired s = true ∧ coreRuns s = true ∧ h.crcOk = true ∧ s.pair.st = .standby ∧ s.pair.epoch ≤ h.epoch ∧ s.pair.asm = none ∧ arrived [(h.offset, h.len)] h.total = true ∧ h.totalOk = true) :=
  ⟨⟨1000000000000000, { pairHdr0 with crcOk := false }, lantern0, State.reset |> committed |> bits .pairCfg 0 0 1 1 |> running, by decide⟩,
    ⟨1000000000000000, { pairHdr0 with crcOk := false }, ctl0, State.reset |> committed |> bits .pairCfg 0 0 1 1 |> running, by decide⟩,
    ⟨1000000000000000, { pairHdr0 with crcOk := false }, mirror0, State.reset |> committed |> bits .pairCfg 0 0 1 1 |> running, by decide⟩,
    ⟨1000000000000000, pairHdr0, lantern0, State.reset |> committed |> bits .pairCfg 0 0 1 1 |> running, by decide⟩,
    ⟨1000000000000000, State.reset |> running |> onTop (fun s => { s with mgt := { s.mgt with halted := false } }) |> onTop (fun s => { s with snf := { s.snf with stage := 6 } }), by decide⟩,
    ⟨1000000000000000, pairHdr0, { ctl0 with pairId := true }, State.reset |> committed |> bits .pairCfg 0 0 1 1 |> running |> onTop (fun s => { s with pair := { s.pair with idConflict := false } }) |> onTop (fun s => { s with pair := { s.pair with waitAt := none } }), by decide⟩,
    ⟨1000000000000000, { pairHdr0 with total := 100 }, mirror0, State.reset |> committed |> bits .pairCfg 0 0 1 1 |> running |> onTop (fun s => { s with pair := { s.pair with st := .standby } }) |> onTop (fun s => { s with pair := { s.pair with asm := none } }), by decide⟩,
    ⟨1000000000000000, pairHdr0, mirror0, State.reset |> committed |> bits .pairCfg 0 0 1 1 |> running |> onTop (fun s => { s with pair := { s.pair with st := .standby } }) |> onTop (fun s => { s with pair := { s.pair with asm := none } }), by decide⟩⟩

theorem test_met_PairLinkComplete_2 :
    (∃ (t : Ns) (h : PairHdr) (m : MirrorSet) (s : State), isPaired s = true ∧ coreRuns s = true ∧ h.crcOk = true ∧ s.pair.st = .spare ∧ s.pair.phase = .copy ∧ s.pair.epoch ≤ h.epoch ∧ arrived ((h.offset, h.len) :: s.pair.copyAsm) h.total = true ∧ h.totalOk = true) ∧
    (∃ (t : Ns) (h : PairHdr) (m : MirrorSet) (s : State), isPaired s = true ∧ coreRuns s = true ∧ h.crcOk = true ∧ s.pair.st = .spare ∧ s.pair.phase = .copy ∧ s.pair.epoch ≤ h.epoch ∧ arrived ((h.offset, h.len) :: s.pair.copyAsm) h.total = false) ∧
    (∃ (t : Ns) (s : State), s.pair.st = .spare ∧ s.pair.phase = .copy) ∧
    (∃ (t : Ns) (m : MirrorSet) (s : State), s.pair.st = .spare ∧ s.pair.phase = .copy ∧ s.pair.copied = some m ∧ s.pair.copyDone = true) ∧
    (∃ (t r : Ns) (s : State), s.pair.retryAt = some r ∧ r ≤ t) ∧
    (∃ (t : Ns) (s : State), t % frameNs = 0) ∧
    (∃ (t : Ns) (s : State), s.pair.st = .active ∧ isPaired s = true ∧ s.frame % 8 = 0 ∧ s.pair.copyAsked = false) ∧
    (∃ (t : Ns) (s : State), s.pair.st = .active ∧ isPaired s = true ∧ s.frame % 8 = 0 ∧ s.pair.copyAsked = true) :=
  ⟨⟨1000000000000000, pairHdr0, mirror0, State.reset |> committed |> bits .pairCfg 0 0 1 1 |> running |> onTop (fun s => { s with pair := { s.pair with st := .spare } }) |> onTop (fun s => { s with pair := { s.pair with phase := .copy } }), by decide⟩,
    ⟨1000000000000000, { pairHdr0 with total := 100 }, mirror0, State.reset |> committed |> bits .pairCfg 0 0 1 1 |> running |> onTop (fun s => { s with pair := { s.pair with st := .spare } }) |> onTop (fun s => { s with pair := { s.pair with phase := .copy } }), by decide⟩,
    ⟨1000000000000000, State.reset |> onTop (fun s => { s with pair := { s.pair with st := .spare } }) |> onTop (fun s => { s with pair := { s.pair with phase := .copy } }), by decide⟩,
    ⟨1000000000000000, mirror0, State.reset |> onTop (fun s => { s with pair := { s.pair with st := .spare } }) |> onTop (fun s => { s with pair := { s.pair with phase := .copy } }) |> onTop (fun s => { s with pair := { s.pair with copied := some (mirror0) } }) |> onTop (fun s => { s with pair := { s.pair with copyDone := true } }), by decide⟩,
    ⟨1000000000000000, 0, State.reset |> onTop (fun s => { s with pair := { s.pair with retryAt := some (0) } }), by decide⟩,
    ⟨1000000000000000, State.reset, by decide⟩,
    ⟨1000000000000000, State.reset |> onTop (fun s => { s with pair := { s.pair with st := .active } }) |> committed |> bits .pairCfg 0 0 1 1 |> onTop (fun s => { s with pair := { s.pair with copyAsked := false } }), by decide⟩,
    ⟨1000000000000000, State.reset |> onTop (fun s => { s with pair := { s.pair with st := .active } }) |> committed |> bits .pairCfg 0 0 1 1 |> onTop (fun s => { s with pair := { s.pair with copyAsked := true } }), by decide⟩⟩

theorem test_met_RegisterAccessesComplete_1 :
    (∃ (a : Nat) (v : W32) (s : State), a % 4 ≠ 0) ∧
    (∃ (a : Nat) (v : W32) (s : State), a % 4 = 0 ∧ decodeAddr (a % 2 ^ 32) = none ∧ viewWord s (a % 2 ^ 32) = none ∧ (¬(0x02000000 ≤ a % 2 ^ 32 ∧ a % 2 ^ 32 < 0x04000000))) ∧
    (∃ (a : Nat) (v : W32) (r : RegName) (i : Nat) (s : State), a % 4 = 0 ∧ decodeAddr (a % 2 ^ 32) = some (r, i) ∧ highOf r = none ∧ lowOf r = none) ∧
    (∃ (a : Nat) (v : W32) (r p : RegName) (i : Nat) (s : State), a % 4 = 0 ∧ decodeAddr (a % 2 ^ 32) = some (r, i) ∧ highOf r = some p ∧ pairAccepts s r p = true) ∧
    (∃ (a : Nat) (v w : W32) (r p : RegName) (i : Nat) (s : State), a % 4 = 0 ∧ decodeAddr (a % 2 ^ 32) = some (r, i) ∧ highOf r = none ∧ lowOf r = some p ∧ pairAccepts s p r = true ∧ lookup s.glb.wrLatch (a % 2 ^ 32 - 4) = some w) ∧
    (∃ (a : Nat) (v : W32) (r p : RegName) (i : Nat) (s : State), a % 4 = 0 ∧ decodeAddr (a % 2 ^ 32) = some (r, i) ∧ highOf r = none ∧ lowOf r = some p ∧ pairAccepts s p r = true ∧ lookup s.glb.wrLatch (a % 2 ^ 32 - 4) = none) ∧
    (∃ (a : Nat) (s : State), a % 4 ≠ 0) ∧
    (∃ (a : Nat) (r p : RegName) (i : Nat) (s : State), a % 4 = 0 ∧ lookup s.glb.rdLatch (a % 2 ^ 32) = none ∧ decodeAddr (a % 2 ^ 32) = some (r, i) ∧ highOf r = some p) :=
  ⟨⟨1, 0#32, State.reset, by decide⟩,
    ⟨0xF0000000, 0#32, State.reset, by decide⟩,
    ⟨regAddr .glbScratch 0, 0#32, .glbScratch, 0, State.reset, by decide⟩,
    ⟨regAddr .evrClearLo 0, 0#32, .evrClearLo, .evrClearHi, 0, State.reset, by decide⟩,
    ⟨regAddr .evrClearHi 0, 0#32, 0#32, .evrClearHi, .evrClearLo, 0, State.reset |> onTop (fun s => { s with glb := { s.glb with wrLatch := [(regAddr .evrClearLo 0, 0#32)] } }), by decide⟩,
    ⟨regAddr .evrClearHi 0, 0#32, .evrClearHi, .evrClearLo, 0, State.reset, by decide⟩,
    ⟨1, State.reset, by decide⟩,
    ⟨regAddr .evrHeadLo 0, .evrHeadLo, .evrHeadHi, 0, State.reset, by decide⟩⟩

theorem test_met_RegisterAccessesComplete_2 :
    (∃ (a : Nat) (r : RegName) (i : Nat) (s : State), a % 4 = 0 ∧ lookup s.glb.rdLatch (a % 2 ^ 32) = none ∧ decodeAddr (a % 2 ^ 32) = some (r, i) ∧ highOf r = none) ∧
    (∃ (t : Ns) (d : Dgram) (a n k l : Nat) (s : State), fwRuns (setNow s t) = true ∧ (identNow (setNow s t)).isSome = true ∧ authOf (setNow s t) d = some (k, l) ∧ 1 ≤ l ∧ 0 < n ∧ n ≤ 100) ∧
    (∃ (t : Ns) (d : Dgram) (a n k l : Nat) (s : State), fwRuns (setNow s t) = true ∧ (identNow (setNow s t)).isSome = true ∧ authOf (setNow s t) d = some (k, l) ∧ 1 ≤ l ∧ (n = 0 ∨ 100 < n)) ∧
    (∃ (t : Ns) (d : Dgram) (a k l : Nat) (ws : List W32) (s : State), fwRuns (setNow s t) = true ∧ (identNow (setNow s t)).isSome = true ∧ authOf (setNow s t) d = some (k, l) ∧ 1 ≤ l ∧ (ws.length = 0 ∨ 100 < ws.length)) ∧
    (∃ (t : Ns) (d : Dgram) (a k l : Nat) (ws : List W32) (s : State), fwRuns (setNow s t) = true ∧ (identNow (setNow s t)).isSome = true ∧ authOf (setNow s t) d = some (k, l) ∧ 1 ≤ l ∧ (¬(ws.length = 0 ∨ 100 < ws.length)) ∧ deniedAt l (a % 2 ^ 32) ws = none ∧ (writeRun (endRequest (acceptDgram (setNow s t) d k)) (dgramReq (acceptDgram (setNow s t) d k) d l) (a % 2 ^ 32) ws).2.length < ws.length) ∧
    (∃ (t : Ns) (d : Dgram) (a k l x : Nat) (ws : List W32) (s : State), fwRuns (setNow s t) = true ∧ (identNow (setNow s t)).isSome = true ∧ authOf (setNow s t) d = some (k, l) ∧ 1 ≤ l ∧ (¬(ws.length = 0 ∨ 100 < ws.length)) ∧ deniedAt l (a % 2 ^ 32) ws = some x) :=
  ⟨⟨regAddr .glbScratch 0, .glbScratch, 0, State.reset, by decide⟩,
    ⟨1000000000000000, dgram0, 0, 1, 0, 3, State.reset |> running |> committed |> keyed, by decide⟩,
    ⟨1000000000000000, dgram0, 0, 0, 0, 3, State.reset |> running |> committed |> keyed, by decide⟩,
    ⟨1000000000000000, dgram0, 0, 0, 3, [], State.reset |> running |> committed |> keyed, by decide⟩,
    ⟨1000000000000000, dgram0, regAddr .glbScratch 0, 0, 3, [0], State.reset |> running |> committed |> keyed, by decide⟩,
    ⟨1000000000000000, dgram0, regAddr .glbScratch 0, 0, 1, regAddr .glbScratch 0, [0], State.reset |> running |> committed |> onTop (fun s => { s with mgt := { s.mgt with keys := [(0, { key0 with level := 1 })] } }), by decide⟩⟩

theorem test_met_RecorderAndNoticesComplete_1 :
    (∃ (t : Ns) (q : EvReq) (l : List EvReq) (s : State), s.snf.corePowered = true ∧ 3 ≤ s.snf.stage ∧ s.rec_.queue = q :: l) ∧
    (∃ (t : Ns) (s : State), s.rec_.queue = []) ∧
    (∃ (t : Ns) (p : Nat × EvRec) (l : List (Nat × EvRec)) (s : State), awaiting s.rec_ = p :: l) ∧
    (∃ (v : W32) (s : State), s.rec_.cleared < (join64 (regW s .evrClearLo) v) ∧ (join64 (regW s .evrClearLo) v) ≤ s.rec_.head + 1) ∧
    (∃ (v : W32) (s : State), (join64 (regW s .evrClearLo) v) = s.rec_.cleared) ∧
    (∃ (v : W32) (s : State), (join64 (regW s .evrClearLo) v) ≠ s.rec_.cleared ∧ (join64 (regW s .evrClearLo) v) < s.rec_.cleared ∨ s.rec_.head + 1 < (join64 (regW s .evrClearLo) v)) ∧
    (∃ (t : Ns) (s : State), noticeReady s = true ∧ s.glb.newBits ≠ 0 ∧ holdoffOver s t = true) ∧
    (∃ (t : Ns) (s : State), noticeReady s = true ∧ s.glb.lastNotice.isSome = true ∧ s.glb.newBits ≠ 0 ∧ holdoffOver s t = true ∧ s.glb.newBits &&& regF s .glbIrqPend 0 0 23 ≠ 0) :=
  ⟨⟨1000000000000000, ev0, [], State.reset |> onTop (fun s => { s with snf := { s.snf with corePowered := true } }) |> onTop (fun s => { s with snf := { s.snf with stage := 3 } }) |> onTop (fun s => { s with rec_ := { s.rec_ with queue := ev0 :: ([]) } }), by decide⟩,
    ⟨1000000000000000, State.reset |> onTop (fun s => { s with rec_ := { s.rec_ with queue := [] } }), by decide⟩,
    ⟨1000000000000000, (0, rec0), [], State.reset |> onTop (fun s => { s with rec_ := { s.rec_ with uncommitted := [(0, rec0)] } }), by decide⟩,
    ⟨0#32, State.reset |> onTop (fun s => { s with rec_ := { s.rec_ with head := 5 } }) |> onTop (fun s => { s with rec_ := { s.rec_ with cleared := 0 } }) |> onTop (fun s => putReg s .evrClearLo 0 1#32), by decide⟩,
    ⟨0#32, State.reset |> onTop (fun s => { s with rec_ := { s.rec_ with cleared := 0 } }), by decide⟩,
    ⟨0#32, State.reset, by decide⟩,
    ⟨1000000000000000, State.reset |> onTop (fun s => { s with glb := { s.glb with noticeEn := true } }) |> committed |> keyed |> onTop (fun s => { s with glb := { s.glb with newBits := 1 } }) |> running, by decide⟩,
    ⟨1000000000000000, State.reset |> onTop (fun s => { s with glb := { s.glb with noticeEn := true } }) |> committed |> keyed |> onTop (fun s => { s with glb := { s.glb with newBits := 1 } }) |> running |> onTop (fun s => putReg s .glbIrqPend 0 1#32) |> onTop (fun s => { s with glb := { s.glb with lastNotice := some 0 } }), by decide⟩⟩

theorem test_met_RecorderAndNoticesComplete_2 :
    (∃ (t : Ns) (l : Nat) (s : State), s.glb.lastNotice = some l ∧ noticeReady s = true ∧ regF s .glbNotice 0 14 8 ≠ 0 ∧ pendEn s ≠ 0 ∧ l + regF s .glbNotice 0 14 8 * secNs ≤ t) ∧
    (∃ (t : Ns) (s : State), s.hld.committed = true ∧ t % frameNs = 0 ∧ s.glb.silent = false ∧ s.glb.hostNow = false ∧ s.glb.lastHost + hostTimeout s ≤ t) ∧
    (∃ (t : Ns) (e : Fin 128) (b : Bool) (s : State), coreRuns s = true) ∧
    (∃ (t : Ns) (s : State), s.snf.vaux = true) ∧
    (∃ (t : Ns) (m : MramPart) (s : State), s.snf.vaux = true) ∧
    (∃ (t : Ns) (a : Nat) (s : State), coreRuns s = true) ∧
    (∃ (t : Ns) (s : State), coreRuns s = true) ∧
    (∃ (t : Ns) (x : Nat) (s : State), coreRuns s = true) :=
  ⟨⟨1000000000000000, 0, State.reset |> onTop (fun s => { s with glb := { s.glb with lastNotice := some (0) } }) |> bits .glbNotice 0 14 8 1 |> onTop (fun s => { s with glb := { s.glb with noticeEn := true } }) |> committed |> keyed |> onTop (fun s => { s with glb := { s.glb with newBits := 1 } }) |> running |> onTop (fun s => putReg s .glbIrqPend 0 1#32) |> onTop (fun s => { s with glb := { s.glb with enNow := 1 } }), by decide⟩,
    ⟨1000000000000000, State.reset |> committed |> onTop (fun s => { s with glb := { s.glb with silent := false } }) |> onTop (fun s => { s with glb := { s.glb with hostNow := false } }), by decide⟩,
    ⟨1000000000000000, 0, true, State.reset |> running, by decide⟩,
    ⟨1000000000000000, State.reset |> onTop (fun s => { s with snf := { s.snf with vaux := true } }), by decide⟩,
    ⟨1000000000000000, .other, State.reset |> onTop (fun s => { s with snf := { s.snf with vaux := true } }), by decide⟩,
    ⟨1000000000000000, 0, State.reset |> running, by decide⟩,
    ⟨1000000000000000, State.reset |> running, by decide⟩,
    ⟨1000000000000000, 0, State.reset |> running, by decide⟩⟩

theorem test_met_RecorderAndNoticesComplete_3 :
    (∃ (t : Ns) (s : State), boundaryOk s t = true ∧ (setRowClocks (openFrame (irqAtBoundary (hostAtBoundary (wdResetDue (duePatch (latchDue (setNow s t) false))) t)) t)).hld.committed = true ∧ relit (setRowClocks (openFrame (irqAtBoundary (hostAtBoundary (wdResetDue (duePatch (latchDue (setNow s t) false))) t)) t)) = false) ∧
    (∃ (t : Ns) (s : State), boundaryOk s t = true ∧ (setRowClocks (openFrame (irqAtBoundary (hostAtBoundary (wdResetDue (duePatch (latchDue (setNow s t) false))) t)) t)).hld.committed = false) ∧
    (∃ (t : Ns) (s : State), boundaryOk s t = false) :=
  ⟨⟨1000000000000000, State.reset |> running |> committed, by decide⟩,
    ⟨1000000000000000, State.reset |> running |> onTop (fun s => { s with hld := { s.hld with committed := false } }), by decide⟩,
    ⟨1000000000000000, State.reset, by decide⟩⟩

theorem test_met_StepTakesTheFrontCommand :
    ∃ (c : Instr) (rest : List Instr) (s : State), s.pending = c :: rest :=
  ⟨.pairClaim, [], State.reset |> onTop (fun s => { s with pending := .pairClaim :: ([]) }), by decide⟩

theorem test_met_EmptyQueueIdles :
    ∃ s : State, s.pending = [] :=
  ⟨State.reset |> onTop (fun s => { s with pending := [] }), by decide⟩

theorem test_met_EveryStepKeepsTheInvariant :
    ∃ s t : State, s.Inv ∧ step s = .next t :=
  ⟨State.reset |> onTop (fun s => { s with pending := [.pairClaim] }), after .pairClaim State.reset, by exact ⟨⟨by unfold RecState.bounded; decide, rfl⟩, rfl⟩⟩

theorem test_met_SequenceNumbersNeverRepeat :
    ∃ (c : Instr) (s t : State), s.rec_.bounded ∧ exec c s = .next t :=
  ⟨.pairClaim, State.reset, after .pairClaim State.reset, by exact ⟨by unfold RecState.bounded; decide, rfl⟩⟩

theorem test_met_ClearedBelowNeverFalls :
    ∃ (c : Instr) (s t : State), s.rec_.bounded ∧ exec c s = .next t :=
  ⟨.pairClaim, State.reset, after .pairClaim State.reset, by exact ⟨by unfold RecState.bounded; decide, rfl⟩⟩

theorem test_met_FloorsNeverFall :
    ∃ (c : Instr) (s t : State), exec c s = .next t :=
  ⟨.pairClaim, State.reset, after .pairClaim State.reset, by rfl⟩

theorem test_met_PairEpochNeverFalls :
    ∃ (c : Instr) (s t : State), exec c s = .next t :=
  ⟨.pairClaim, State.reset, after .pairClaim State.reset, by rfl⟩

theorem test_met_CommandsLeaveTheQueue :
    (∃ (c : Instr) (s t : State), exec c s = .next t) ∧
    (∃ (c : Instr) (rest : List Instr) (s t : State), s.pending = c :: rest ∧ step s = .next t) :=
  ⟨⟨.pairClaim, State.reset, after .pairClaim State.reset, by rfl⟩,
    ⟨.pairClaim, [], State.reset |> onTop (fun s => { s with pending := .pairClaim :: ([]) }), after .pairClaim State.reset, by exact ⟨rfl, rfl⟩⟩⟩

theorem test_met_TransmitterFaces :
    (∃ (n : Fin 16) (s : State), regB s .txCfg n 4 = false) ∧
    (∃ (n : Fin 16) (v : W32) (s : State), regB s .txCfg n 4 = false ∧ s.rlt.ctx = none ∧ removedWord s .txClamp n = false) ∧
    (∃ (n : Fin 16) (r : RegName) (v : W32) (s : State), r ∈ [RegName.txCfg, .txTrimZero, .txTrimSpan, .txCmd, .txStatus]) :=
  ⟨⟨0, State.reset |> bits .txCfg 0 4 1 0, by decide⟩,
    ⟨0, 0#32, State.reset |> bits .txCfg 0 4 1 0 |> onTop (fun s => { s with rlt := { s.rlt with ctx := none } }), by decide⟩,
    ⟨0, .txCfg, 0#32, State.reset, by decide⟩⟩

theorem test_met_GenerationCheck :
    (∃ (t : Nat) (h : FrameHdr) (group : Bool) (s : State), looped s h = false ∧ hdrOk s h group = true ∧ h.gen = s.mkt.gen) ∧
    (∃ (t : Nat) (h : FrameHdr) (group : Bool) (s : State), looped s h = false ∧ hdrOk s h group = true ∧ h.gen = s.mkt.prevGen ∧ t < s.mkt.prevUntil) ∧
    (∃ (t : Nat) (h : FrameHdr) (group : Bool) (s : State), looped s h = false ∧ hdrOk s h group = true ∧ h.gen ≠ s.mkt.gen ∧ (h.gen ≠ s.mkt.prevGen ∨ s.mkt.prevUntil ≤ t)) ∧
    (∃ (t : Ns) (h : FrameHdr) (es : List Entry) (s : State), looped (setNow s t) h = false ∧ hdrOk (setNow s t) h false = true ∧ h.gen ≠ s.mkt.gen ∧ (h.gen ≠ s.mkt.prevGen ∨ s.mkt.prevUntil ≤ t)) ∧
    (∃ (t : Ns) (h : FrameHdr) (cs : List (Nat × Nat)) (s : State), looped (setNow s t) h = false ∧ hdrOk (setNow s t) h false = true ∧ h.gen ≠ s.mkt.gen ∧ (h.gen ≠ s.mkt.prevGen ∨ s.mkt.prevUntil ≤ t)) :=
  ⟨⟨0, frame0, false, State.reset, by decide⟩,
    ⟨0, { frame0 with gen := 3 }, false, State.reset |> onTop (fun s => { s with mkt := { s.mkt with prevUntil := 9 } }) |> onTop (fun s => { s with mkt := { s.mkt with prevGen := 3 } }), by decide⟩,
    ⟨0, { frame0 with gen := 7 }, false, State.reset, by decide⟩,
    ⟨1000000000000000, { frame0 with gen := 7 }, [], State.reset, by decide⟩,
    ⟨1000000000000000, { frame0 with gen := 7 }, [], State.reset, by decide⟩⟩

theorem test_met_MeetingOfSpares :
    (∃ (c : Control) (s : State), s.pair.st = .spare ∧ s.pair.phase = .wait ∧ relit s = false ∧ peerCtl s = some c ∧ c.st = .spare ∧ c.phase = .wait ∧ s.pair.idConflict = false ∧ collHeld s = false ∧ compatible s c = true ∧ (c.epoch < s.pair.epoch ∨ c.epoch = s.pair.epoch ∧ isB s = false)) ∧
    (∃ (c : Control) (s : State), s.pair.st = .spare ∧ s.pair.phase = .wait ∧ relit s = false ∧ peerCtl s = some c ∧ c.st = .spare ∧ c.phase = .wait ∧ s.pair.idConflict = false ∧ collHeld s = false ∧ (compatible s c = false ∨ s.pair.epoch < c.epoch ∨ c.epoch = s.pair.epoch ∧ isB s = true)) :=
  ⟨⟨ctl0, State.reset |> onTop (fun s => { s with pair := { s.pair with st := .spare } }) |> onTop (fun s => { s with pair := { s.pair with phase := .wait } }) |> onTop (fun s => { s with pair := { s.pair with idConflict := false } }) |> onTop (fun s => { s with pair := { s.pair with lastFrame := some 0 } }) |> onTop (fun s => { s with pair := { s.pair with ctl := some ctl0 } }) |> onTop (fun s => { s with pair := { s.pair with epoch := 1 } }), by decide⟩,
    ⟨{ ctl0 with hash8 := 1 }, State.reset |> onTop (fun s => { s with pair := { s.pair with st := .spare } }) |> onTop (fun s => { s with pair := { s.pair with phase := .wait } }) |> onTop (fun s => { s with pair := { s.pair with idConflict := false } }) |> onTop (fun s => { s with pair := { s.pair with lastFrame := some 0 } }) |> onTop (fun s => { s with pair := { s.pair with ctl := some { ctl0 with hash8 := 1 } } }), by decide⟩⟩

theorem test_met_NewestRecordIsUpdated :
    (∃ (now : Nat) (r : RecState) (q : EvReq) (x : EvRec) (l : List EvRec), r.ring = x :: l ∧ (x.src = q.src ∧ x.name = q.name ∧ x.data = q.data % 2 ^ 48 ∧ q.conts = 0 ∧ x.isCont = false ∧ x.conts = 0 ∧ x.tFirst ≤ q.t ∧ x.rep < 65535 ∧ (q.t - x.tFirst) / 1000 < 2 ^ 32)) ∧
    (∃ (now : Nat) (r : RecState) (q : EvReq) (x : EvRec) (l : List EvRec), r.ring = x :: l ∧ (¬ (x.src = q.src ∧ x.name = q.name ∧ x.data = q.data % 2 ^ 48 ∧ q.conts = 0 ∧ x.isCont = false ∧ x.conts = 0 ∧ x.tFirst ≤ q.t ∧ x.rep < 65535 ∧ (q.t - x.tFirst) / 1000 < 2 ^ 32))) ∧
    (∃ (t : Ns) (q : EvReq) (rest : List EvReq) (s : State), s.snf.corePowered = true ∧ 3 ≤ s.snf.stage ∧ s.rec_.queue = q :: rest) :=
  ⟨⟨0, { RecState.reset with ring := [rec0] }, ev0, rec0, [], by decide⟩,
    ⟨0, { RecState.reset with ring := [{ rec0 with rep := 65535 }] }, ev0, { rec0 with rep := 65535 }, [], by decide⟩,
    ⟨1000000000000000, ev0, [], State.reset |> onTop (fun s => { s with snf := { s.snf with corePowered := true } }) |> onTop (fun s => { s with snf := { s.snf with stage := 3 } }) |> onTop (fun s => { s with rec_ := { s.rec_ with queue := ev0 :: ([]) } }), by decide⟩⟩

theorem test_met_WindowShowsLiveRecords :
    (∃ (j : Nat) (s : State), (s.rec_.head < evWinBase s + j ∨ evWinBase s + j + 65536 ≤ s.rec_.head ∨ evWinBase s + j < s.rec_.cleared)) ∧
    (∃ (j : Nat) (e : EvRec) (s : State), windowRec s j = some e) ∧
    (∃ (j k : Nat) (s u : State), u.glb.evLatch = (latchWindow s j).glb.evLatch) :=
  ⟨⟨0, State.reset, by decide⟩,
    ⟨0, rec0, State.reset |> onTop (fun s => { s with rec_ := { s.rec_ with ring := [rec0] } }) |> onTop (fun s => { s with rec_ := { s.rec_ with head := 1 } }) |> onTop (fun s => { s with rec_ := { s.rec_ with cleared := 1 } }) |> onTop (fun s => putReg s .evrWinLo 0 1#32), by decide⟩,
    ⟨0, 0, State.reset, latchWindow State.reset 0, by decide⟩⟩

theorem test_met_NoRequestSeesAnotherLatch :
    (∃ (t : Ns) (d : Dgram) (addr n k l : Nat) (a b : List (Nat × W32)) (e : Option (Nat × Option EvRec)) (s : State), fwRuns (setNow s t) = true ∧ (identNow (setNow s t)).isSome = true ∧ authOf (setNow s t) d = some (k, l) ∧ 1 ≤ l ∧ 0 < n ∧ n ≤ 100) ∧
    (∃ (t : Ns) (d : Dgram) (addr k l : Nat) (ws : List W32) (a b : List (Nat × W32)) (e : Option (Nat × Option EvRec)) (s : State), fwRuns (setNow s t) = true ∧ (identNow (setNow s t)).isSome = true ∧ authOf (setNow s t) d = some (k, l) ∧ 1 ≤ l ∧ 0 < ws.length ∧ ws.length ≤ 100 ∧ deniedAt l (addr % 2 ^ 32) ws = none) :=
  ⟨⟨1000000000000000, dgram0, 0, 1, 0, 3, [], [], none, State.reset |> running |> committed |> keyed, by decide⟩,
    ⟨1000000000000000, dgram0, 0, 0, 3, [0], [], [], none, State.reset |> running |> committed |> keyed, by decide⟩⟩

theorem test_met_SafeEntriesOfAnAisle :
    (∃ (i : Nat) (s : State), isDo s i = true ∧ (stlOf s i).aOver = false ∧ (stlOf s i).aThermal = false ∧ (aisOf s (aisleOf i)).fieldUv = false ∧ (aisOf s (aisleOf i)).st = .safe ∧ (aisOf s (aisleOf i)).tableBad = false ∧ (aisOf s (aisleOf i)).ownedAtEntry = true) ∧
    (∃ (i : Nat) (s : State), (aisOf s (aisleOf i)).st = .safe ∧ ((aisOf s (aisleOf i)).tableBad = true ∨ (aisOf s (aisleOf i)).ownedAtEntry = false)) ∧
    (∃ (i : Nat) (s : State), ((aisOf s (aisleOf i)).st = .unconfigured ∨ (aisOf s (aisleOf i)).st = .unpowered)) ∧
    (∃ (n : Fin 8) (snuff : Bool) (s : State), (aisOf s n).st = .linked) :=
  ⟨⟨0, State.reset |> bits .stlCfg 0 0 4 8 |> onStl 0 (fun x => { x with aOver := false }) |> onStl 0 (fun x => { x with aThermal := false }) |> onAis (aisleOf 0) (fun x => { x with fieldUv := false }) |> onAis (aisleOf 0) (fun x => { x with st := .safe }) |> onAis (aisleOf 0) (fun x => { x with tableBad := false }) |> onAis (aisleOf 0) (fun x => { x with ownedAtEntry := true }), by decide⟩,
    ⟨0, State.reset |> onAis (aisleOf 0) (fun x => { x with st := .safe }) |> onAis (aisleOf 0) (fun x => { x with tableBad := true }), by decide⟩,
    ⟨0, State.reset |> onAis (aisleOf 0) (fun x => { x with st := .unconfigured }), by decide⟩,
    ⟨0, true, State.reset |> onAis 0 (fun x => { x with st := .linked }), by decide⟩⟩

theorem test_met_TrimmedCurrent :
    (∃ (n : Nat) (s : State), txClamped s n = 8000 ∧ 7600 ≤ 8000 + txTrim s false n ∧ 8000 + txTrim s false n ≤ 41000) ∧
    (∃ (n : Nat) (s : State), txClamped s n = 40000 ∧ 7600 ≤ 40000 + txTrim s true n ∧ 40000 + txTrim s true n ≤ 41000) ∧
    (∃ (n : Nat) (s : State), 7600 ≤ txClamped s n ∧ txClamped s n ≤ 41000 ∧ txTrim s false n = 0 ∧ txTrim s true n = 0) :=
  ⟨⟨0, State.reset |> onTx 0 (fun x => { x with iCmd := 8000 }), by decide⟩,
    ⟨0, State.reset |> onTx 0 (fun x => { x with iCmd := 40000 }), by decide⟩,
    ⟨0, State.reset, by decide⟩⟩

theorem test_met_WickActionCrossed :
    (∃ (i w : Nat) (rev : Bool) (T : Nat) (s : State), (slotOf s i).rec_.keyTime = false ∧ (slotOf s i).rec_.wick = w ∧ (slotOf s i).st = .armed ∧ (slotOf s i).inhibited = false ∧ (slotOf s i).rec_.winEnd = false ∧ (slotOf s i).rec_.winStart = false ∧ (slotOf s i).rec_.rep = false ∧ (wickOf s w).count = (slotOf s i).rec_.key ∧ ((slotOf s i).rec_.dir = 2 ∨ rev = false ∧ (slotOf s i).rec_.dir = 0 ∨ rev = true ∧ (slotOf s i).rec_.dir = 1)) ∧
    (∃ (i w : Nat) (rev : Bool) (T : Nat) (s : State), (slotOf s i).rec_.keyTime = false ∧ (slotOf s i).rec_.wick = w ∧ (slotOf s i).st = .armed ∧ (slotOf s i).inhibited = false ∧ (slotOf s i).rec_.winEnd = false ∧ (slotOf s i).rec_.winStart = false ∧ (slotOf s i).rec_.rep = false ∧ (¬ ((wickOf s w).count = (slotOf s i).rec_.key ∧ ((slotOf s i).rec_.dir = 2 ∨ rev = false ∧ (slotOf s i).rec_.dir = 0 ∨ rev = true ∧ (slotOf s i).rec_.dir = 1)))) ∧
    (∃ (i w : Nat) (rev : Bool) (T : Nat) (s : State), ((slotOf s i).rec_.keyTime = true ∨ (slotOf s i).rec_.wick ≠ w)) :=
  ⟨⟨0, 0, true, 0, State.reset |> onSlot 0 (fun x => { x with st := .armed, rec_ := { x.rec_ with dir := 2 } }), by decide⟩,
    ⟨0, 0, true, 0, State.reset |> onSlot 0 (fun x => { x with rec_ := { x.rec_ with keyTime := false } }) |> onSlot 0 (fun x => { x with rec_ := { x.rec_ with wick := 0 } }) |> onSlot 0 (fun x => { x with st := .armed }) |> onSlot 0 (fun x => { x with inhibited := false }) |> onSlot 0 (fun x => { x with rec_ := { x.rec_ with winEnd := false } }) |> onSlot 0 (fun x => { x with rec_ := { x.rec_ with winStart := false } }) |> onSlot 0 (fun x => { x with rec_ := { x.rec_ with rep := false } }), by decide⟩,
    ⟨0, 0, true, 0, State.reset |> onSlot 0 (fun x => { x with rec_ := { x.rec_ with keyTime := true } }), by decide⟩⟩

theorem test_met_FramesAndBlocks :
    (∃ F d : Nat, d < 125000) ∧
    (∃ (t : Ns) (s : State), t % 125000 ≠ 0) :=
  ⟨⟨0, 124999, by decide⟩,
    ⟨7, State.reset, by decide⟩⟩

theorem test_met_SolenoidCommandsComplete_1 :
    (∃ (v : Fin 32) (h : Nat) (s : State), s.rlt.ctx = none ∧ (instFor s .solenoidCtrl v).isSome = true) ∧
    (∃ (v : Fin 32) (h : Nat) (s : State), s.rlt.ctx = none ∧ (instFor s .solenoidCtrl v).isSome = false) ∧
    (∃ (v : Fin 32) (s : State), s.rlt.ctx = none ∧ (instFor s .solenoidCtrl v).isSome = true) ∧
    (∃ (v : Fin 32) (s : State), s.rlt.ctx = none ∧ (instFor s .solenoidCtrl v).isSome = false) ∧
    (∃ (v : Fin 32) (h : Nat) (s : State), s.rlt.ctx.isSome = true) ∧
    (∃ (v : Fin 32) (t : Nat) (s : State), driving s = true ∧ (solOf s v).st = .off ∧ solAdmits s v t (solNeed s v 0) = true ∧ (regF s .solPeak v 12 14 * 100 * usNs) = 0) ∧
    (∃ (v : Fin 32) (t : Nat) (s : State), driving s = true ∧ (solOf s v).st = .off ∧ solAdmits s v t (solNeed s v 0) = true ∧ (regF s .solPeak v 12 14 * 100 * usNs) ≠ 0) ∧
    (∃ (v : Fin 32) (h t : Nat) (s : State), driving s = true ∧ (solOf s v).st = .off ∧ solAdmits s v t (solNeed s v h) = true ∧ h ≠ 0 ∧ (regF s .solPeak v 12 14 * 100 * usNs) = 0) :=
  ⟨⟨0, 0, State.reset |> onTop (fun s => { s with rlt := { s.rlt with ctx := none } }) |> onTop (fun s => { s with hld := { s.hld with str := { s.hld.str with insts := [(0, { inst0 with typ := .solenoidCtrl })] } } }), by decide⟩,
    ⟨0, 0, State.reset |> onTop (fun s => { s with rlt := { s.rlt with ctx := none } }), by decide⟩,
    ⟨0, State.reset |> onTop (fun s => { s with rlt := { s.rlt with ctx := none } }) |> onTop (fun s => { s with hld := { s.hld with str := { s.hld.str with insts := [(0, { inst0 with typ := .solenoidCtrl })] } } }), by decide⟩,
    ⟨0, State.reset |> onTop (fun s => { s with rlt := { s.rlt with ctx := none } }), by decide⟩,
    ⟨0, 0, State.reset |> onTop (fun s => { s with rlt := { s.rlt with ctx := some (imageOf State.reset) } }), by decide⟩,
    ⟨0, 0, State.reset |> committed |> enabled |> onSol 0 (fun x => { x with st := .off }), by decide⟩,
    ⟨0, 0, State.reset |> committed |> enabled |> onSol 0 (fun x => { x with st := .off }) |> bits .solDuty 0 0 7 100 |> bits .solPeak 0 12 14 1, by decide⟩,
    ⟨0, 1, 0, State.reset |> committed |> enabled |> onSol 0 (fun x => { x with st := .off }) |> bits .solDuty 0 0 7 100 |> bits .solPeak 0 12 14 0, by decide⟩⟩

theorem test_met_SolenoidCommandsComplete_2 :
    (∃ (v : Fin 32) (h t : Nat) (s : State), driving s = true ∧ (solOf s v).st = .off ∧ solAdmits s v t (solNeed s v h) = true ∧ h ≠ 0 ∧ (regF s .solPeak v 12 14 * 100 * usNs) ≠ 0) ∧
    (∃ (v : Fin 32) (h t : Nat) (s : State), driving s = true ∧ (solOf s v).st = .off ∧ solAdmits s v t (solNeed s v h) = false) ∧
    (∃ (v : Fin 32) (h t : Nat) (s : State), driving s = true ∧ (solOf s v).st = .fault) ∧
    (∃ (v : Fin 32) (h t : Nat) (s : State), driving s = true ∧ (solOf s v).st = .decay ∧ (solOf s v).queued = none) ∧
    (∃ (v : Fin 32) (h t : Nat) (s : State), driving s = true ∧ (solOf s v).st = .peak ∧ h ≠ 0 ∧ SolEnd.max (solOf s v).e (.at_ (t + (solOf s v).tPeak + h * usNs)) = (solOf s v).e) ∧
    (∃ (v : Fin 32) (h t : Nat) (s : State), driving s = true ∧ (solOf s v).st = .hold ∧ h ≠ 0 ∧ SolEnd.max (solOf s v).e (.at_ (t + (solOf s v).tPeak + h * usNs)) = (solOf s v).e) ∧
    (∃ (v : Fin 32) (h t : Nat) (s : State), driving s = false) ∧
    (∃ (v : Fin 32) (t : Nat) (s : State), (solOf s v).st = .hold) :=
  ⟨⟨0, 1, 0, State.reset |> committed |> enabled |> onSol 0 (fun x => { x with st := .off }) |> bits .solDuty 0 0 7 100 |> bits .solPeak 0 12 14 1, by decide⟩,
    ⟨0, 1, 0, State.reset |> committed |> enabled |> onSol 0 (fun x => { x with st := .off }) |> bits .solDuty 0 0 7 0, by decide⟩,
    ⟨0, 0, 0, State.reset |> committed |> enabled |> onSol 0 (fun x => { x with st := .fault }), by decide⟩,
    ⟨0, 0, 0, State.reset |> committed |> enabled |> onSol 0 (fun x => { x with st := .decay }) |> onSol 0 (fun x => { x with queued := none }), by decide⟩,
    ⟨0, 1, 0, State.reset |> committed |> enabled |> onSol 0 (fun x => { x with st := .peak }) |> onSol 0 (fun x => { x with e := .at_ 1000000 }), by decide⟩,
    ⟨0, 1, 0, State.reset |> committed |> enabled |> onSol 0 (fun x => { x with st := .hold }) |> onSol 0 (fun x => { x with e := .at_ 1000000 }), by decide⟩,
    ⟨0, 0, 0, State.reset, by decide⟩,
    ⟨0, 0, State.reset |> onSol 0 (fun x => { x with st := .hold }), by decide⟩⟩

theorem test_met_SolenoidCommandsComplete_3 :
    (∃ (v : Fin 32) (t : Nat) (s : State), (solOf s v).st = .peak) ∧
    (∃ (v : Fin 32) (t : Nat) (s : State), (solOf s v).st = .decay) ∧
    (∃ (v : Fin 32) (t : Nat) (s : State), (solOf s v).st = .fault ∧ (solOf s v).fault = .openCoil ∧ (solOf s v).freshFault t = false) ∧
    (∃ (v : Fin 32) (t : Nat) (s : State), (solOf s v).st = .fault ∧ (solOf s v).fault = .holdLow ∧ (solOf s v).freshFault t = false) ∧
    (∃ (v : Fin 32) (t : Nat) (s : State), (solOf s v).st = .fault ∧ (solOf s v).fault = .overcurrent ∧ (solOf s v).freshFault t = false) ∧
    (∃ (v : Fin 32) (t : Nat) (s : State), (solOf s v).st = .fault ∧ (solOf s v).fault = .dutyCut ∧ (solOf s v).freshFault t = false) ∧
    (∃ (v : Fin 32) (t : Nat) (s : State), (solOf s v).st = .fault ∧ (solOf s v).freshFault t = true) ∧
    (∃ (v : Fin 32) (t : Nat) (s : State), (solOf s v).st ≠ .fault ∧ (solOf s v).st ≠ .disabled) :=
  ⟨⟨0, 0, State.reset |> onSol 0 (fun x => { x with st := .peak }), by decide⟩,
    ⟨0, 0, State.reset |> onSol 0 (fun x => { x with st := .decay }), by decide⟩,
    ⟨0, 0, State.reset |> onSol 0 (fun x => { x with st := .fault }) |> onSol 0 (fun x => { x with fault := .openCoil }), by decide⟩,
    ⟨0, 0, State.reset |> onSol 0 (fun x => { x with st := .fault }) |> onSol 0 (fun x => { x with fault := .holdLow }), by decide⟩,
    ⟨0, 0, State.reset |> onSol 0 (fun x => { x with st := .fault }) |> onSol 0 (fun x => { x with fault := .overcurrent }), by decide⟩,
    ⟨0, 0, State.reset |> onSol 0 (fun x => { x with st := .fault }) |> onSol 0 (fun x => { x with fault := .dutyCut }), by decide⟩,
    ⟨0, 0, State.reset |> onSol 0 (fun x => { x with st := .fault }) |> onSol 0 (fun x => { x with faultAt := some 0 }), by decide⟩,
    ⟨0, 0, State.reset |> onSol 0 (fun x => { x with st := .off }), by decide⟩⟩

theorem test_met_SolenoidCommandsComplete_4 :
    (∃ (v : Fin 32) (t : Ns) (s : State), (solOf s v).st ≠ .disabled ∧ (solOf s v).st ≠ .fault) ∧
    (∃ (v : Fin 32) (t : Ns) (s : State), (solOf s v).st = .hold ∧ (solOf s v).ts + (solOf s v).tPeak + 10 * msNs ≤ t ∧ (solOf s v).st ≠ .disabled ∧ (solOf s v).st ≠ .fault) ∧
    (∃ (v : Fin 32) (t : Ns) (s : State), (solOf s v).st = .decay ∧ (solOf s v).decayAt + (solOf s v).decayMax ≤ t ∧ (solOf s v).st ≠ .disabled ∧ (solOf s v).st ≠ .fault) ∧
    (∃ (v : Fin 32) (t : Ns) (l : Nat) (s : State), (solOf s v).st = .peak ∧ SolEnd.reached (solOf s v).e t = false ∧ solBudget s v = some l ∧ l ≤ solUsed s v t ∧ (solOf s v).st ≠ .disabled ∧ (solOf s v).st ≠ .fault) ∧
    (∃ (v : Fin 32) (t : Ns) (l : Nat) (s : State), (solOf s v).st = .hold ∧ SolEnd.reached (solOf s v).e t = false ∧ solBudget s v = some l ∧ l ≤ solUsed s v t ∧ (solOf s v).st ≠ .disabled ∧ (solOf s v).st ≠ .fault) ∧
    (∃ (v : Fin 32) (t : Ns) (cur : F32) (s : State), (solOf s v).st = .peak ∧ (solOf s v).ts + (solOf s v).tPeak ≤ t + usNs ∧ fLt cur (fDiv (fOfNat (solOf s v).iPeak) (fOfNat 1000)) = true ∧ (solOf s v).st ≠ .disabled ∧ (solOf s v).st ≠ .fault) ∧
    (∃ (v : Fin 32) (t : Ns) (cur : F32) (s : State), (solOf s v).st = .peak ∧ (solOf s v).ts + (solOf s v).tPeak ≤ t + usNs ∧ fLt cur (fDiv (fOfNat (solOf s v).iPeak) (fOfNat 1000)) = false ∧ fLe cur (fMul (fOfNat 9) (fDiv (fOfNat (solOf s v).iPeak) (fOfNat 1000))) = false ∧ SolEnd.reached (solOf s v).e t = false) ∧
    (∃ (v : Fin 32) (t : Ns) (cur : F32) (s : State), (solOf s v).st = .peak ∧ (solOf s v).ts + (solOf s v).tPeak ≤ t + usNs ∧ fLt cur (fDiv (fOfNat (solOf s v).iPeak) (fOfNat 1000)) = false ∧ fLe cur (fMul (fOfNat 9) (fDiv (fOfNat (solOf s v).iPeak) (fOfNat 1000))) = false ∧ SolEnd.reached (solOf s v).e t = true) :=
  ⟨⟨0, 1000000000000000, State.reset |> onSol 0 (fun x => { x with st := .off }), by decide⟩,
    ⟨0, 1000000000000000, State.reset |> onSol 0 (fun x => { x with st := .hold }), by decide⟩,
    ⟨0, 1000000000000000, State.reset |> onSol 0 (fun x => { x with st := .decay }), by decide⟩,
    ⟨0, 1000000000000000, (solBudget (State.reset |> onSol 0 (fun x => { x with st := .peak }) |> bits .solDuty 0 0 7 0 |> onSol 0 (fun x => { x with e := .open_ })) 0).getD 0, State.reset |> onSol 0 (fun x => { x with st := .peak }) |> bits .solDuty 0 0 7 0 |> onSol 0 (fun x => { x with e := .open_ }), by decide⟩,
    ⟨0, 1000000000000000, (solBudget (State.reset |> onSol 0 (fun x => { x with st := .hold }) |> bits .solDuty 0 0 7 0 |> onSol 0 (fun x => { x with e := .open_ })) 0).getD 0, State.reset |> onSol 0 (fun x => { x with st := .hold }) |> bits .solDuty 0 0 7 0 |> onSol 0 (fun x => { x with e := .open_ }), by decide⟩,
    ⟨0, 1000000000000000, 0#32, State.reset |> onSol 0 (fun x => { x with st := .peak }) |> onSol 0 (fun x => { x with iPeak := 1000 }), by decide⟩,
    ⟨0, 1000000000000000, fOfNat 10, State.reset |> onSol 0 (fun x => { x with st := .peak }) |> onSol 0 (fun x => { x with iPeak := 1000 }) |> onSol 0 (fun x => { x with e := .open_ }), by decide⟩,
    ⟨0, 1000000000000000, fOfNat 10, State.reset |> onSol 0 (fun x => { x with st := .peak }) |> onSol 0 (fun x => { x with iPeak := 1000 }) |> onSol 0 (fun x => { x with e := .at_ 0 }), by decide⟩⟩

theorem test_met_SolenoidCommandsComplete_5 :
    (∃ (v : Fin 32) (t : Ns) (s : State), (solOf s v).st = .hold ∧ SolEnd.reached (solOf s v).e t = true) ∧
    (∃ (v : Fin 32) (t : Ns) (s : State), (solOf s v).st = .decay ∧ (solOf s v).queued = none) ∧
    (∃ (v : Fin 32) (t : Ns) (s : State), (solOf s v).st = .fault) ∧
    (∃ (v : Fin 32) (t : Ns) (h : Nat) (s : State), (solOf s v).st = .decay ∧ (solOf s v).queued = some h ∧ solAdmits s v t (solNeed s v h) = true) :=
  ⟨⟨0, 1000000000000000, State.reset |> onSol 0 (fun x => { x with st := .hold }), by decide⟩,
    ⟨0, 1000000000000000, State.reset |> onSol 0 (fun x => { x with st := .decay }) |> onSol 0 (fun x => { x with queued := none }), by decide⟩,
    ⟨0, 1000000000000000, State.reset |> onSol 0 (fun x => { x with st := .fault }), by decide⟩,
    ⟨0, 1000000000000000, 0, State.reset |> onSol 0 (fun x => { x with st := .decay }) |> onSol 0 (fun x => { x with queued := some (0) }), by decide⟩⟩

theorem test_met_StreamCommandsComplete_1 :
    (∃ (t : Ns) (d : Dgram) (a k l : Nat) (b : Bool) (x : List Byte) (s : State), fwRuns (setNow s t) = true ∧ (identNow (setNow s t)).isSome = true ∧ authOf (setNow s t) d = some (k, l) ∧ 3 ≤ l ∧ (streamChunk (acceptDgram (setNow s t) d k) a b x).2 = 0) ∧
    (∃ (t : Ns) (d : Dgram) (a k l : Nat) (b : Bool) (x : List Byte) (s : State), fwRuns (setNow s t) = true ∧ (identNow (setNow s t)).isSome = true ∧ authOf (setNow s t) d = some (k, l) ∧ 3 ≤ l ∧ (streamChunk (acceptDgram (setNow s t) d k) a b x).2 ≠ 0) ∧
    (∃ (s : State), s.hld.staged = .receiving ∧ s.mgt.halted = false) ∧
    (∃ (s : State), s.hld.staged = .valid ∧ s.mgt.halted = false) ∧
    (∃ (s : State), s.hld.staged = .validating ∧ s.mgt.halted = false) ∧
    (∃ (s : State), s.hld.staged = .empty ∧ s.mgt.halted = false) ∧
    (∃ (s : State), s.hld.staged = .pending ∧ s.mgt.halted = false) ∧
    (∃ (s : State), s.hld.staged = .switchPending ∧ s.mgt.halted = false) :=
  ⟨⟨1000000000000000, dgram0, 0, 0, 3, true, [], State.reset |> running |> committed |> keyed, by decide⟩,
    ⟨1000000000000000, dgram0, 0, 0, 3, true, [], State.reset |> running |> committed |> keyed |> onTop (fun s => { s with hld := { s.hld with staged := .pending } }), by decide⟩,
    ⟨State.reset |> onTop (fun s => { s with hld := { s.hld with staged := .receiving } }) |> onTop (fun s => { s with mgt := { s.mgt with halted := false } }), by decide⟩,
    ⟨State.reset |> onTop (fun s => { s with hld := { s.hld with staged := .valid } }) |> onTop (fun s => { s with mgt := { s.mgt with halted := false } }), by decide⟩,
    ⟨State.reset |> onTop (fun s => { s with hld := { s.hld with staged := .validating } }) |> onTop (fun s => { s with mgt := { s.mgt with halted := false } }), by decide⟩,
    ⟨State.reset |> onTop (fun s => { s with hld := { s.hld with staged := .empty } }) |> onTop (fun s => { s with mgt := { s.mgt with halted := false } }), by decide⟩,
    ⟨State.reset |> onTop (fun s => { s with hld := { s.hld with staged := .pending } }) |> onTop (fun s => { s with mgt := { s.mgt with halted := false } }), by decide⟩,
    ⟨State.reset |> onTop (fun s => { s with hld := { s.hld with staged := .switchPending } }) |> onTop (fun s => { s with mgt := { s.mgt with halted := false } }), by decide⟩⟩

theorem test_met_StreamCommandsComplete_2 :
    (∃ (t : Ns) (m : StreamImg) (s : State), s.hld.staged = .validating ∧ m.full = false ∧ validate s s.hld.str m = .ok ∧ stagedWhole s m = true ∧ s.mgt.halted = false) ∧
    (∃ (t : Ns) (m : StreamImg) (s : State), s.hld.staged = .validating ∧ (m.full = true ∨ stagedWhole s m = false) ∧ s.mgt.halted = false) ∧
    (∃ (t : Ns) (m : StreamImg) (s : State), s.hld.staged = .validating ∧ m.full = false ∧ stagedWhole s m = true ∧ validate s s.hld.str m ≠ .ok ∧ s.mgt.halted = false) ∧
    (∃ (s : State), applyCode s (reg64 s .hldApplyLo .hldApplyHi 0) = .ok ∧ s.mgt.halted = false) ∧
    (∃ (s : State), applyCode s (reg64 s .hldApplyLo .hldApplyHi 0) = .notStaged ∧ s.mgt.halted = false) ∧
    (∃ (s : State), applyCode s (reg64 s .hldApplyLo .hldApplyHi 0) ≠ .ok ∧ applyCode s (reg64 s .hldApplyLo .hldApplyHi 0) ≠ .notStaged ∧ s.mgt.halted = false) ∧
    (∃ (s : State), s.hld.staged ≠ .pending ∧ s.mgt.halted = false) ∧
    (∃ (m : StreamImg) (s : State), s.hld.appliedImg = some m ∧ s.hld.unpersisted = true ∧ s.mgt.flash = none ∧ (¬(16 ≤ (bankOf s s.mgt.strB).length ∨ 33554432 < ((bankOf s s.mgt.strB).map (·.length)).sum + m.length)) ∧ s.mgt.halted = false) :=
  ⟨⟨1000000000000000, okPatch, State.reset |> onTop (fun s => { s with hld := { s.hld with staged := .validating } }) |> onTop (fun s => { s with mgt := { s.mgt with halted := false } }) |> onTop (fun s => { s with mgt := { s.mgt with otp := [(0, (.stream, 0))] } }), by exact ⟨rfl, rfl, (validate_ok rfl rfl (by decide +kernel) (by decide) (by decide +kernel) rfl rfl (by decide +kernel) (by decide +kernel) (by decide +kernel) (by decide +kernel) (by decide +kernel) (by decide +kernel)), by decide +kernel, rfl⟩⟩,
    ⟨1000000000000000, { img0 with full := true }, State.reset |> onTop (fun s => { s with hld := { s.hld with staged := .validating } }) |> onTop (fun s => { s with mgt := { s.mgt with halted := false } }), by decide⟩,
    ⟨1000000000000000, { img0 with full := false }, State.reset |> onTop (fun s => { s with hld := { s.hld with staged := .validating } }) |> onTop (fun s => { s with mgt := { s.mgt with halted := false } }), by decide⟩,
    ⟨State.reset |> onTop (fun s => { s with mgt := { s.mgt with halted := false } }) |> onTop (fun s => { s with hld := { s.hld with staged := .valid } }) |> onTop (fun s => { s with hld := { s.hld with patch := some img0 } }) |> onTop (fun s => putReg s .hldApplyLo 0 0xFFFFFFFF#32), by decide⟩,
    ⟨State.reset |> onTop (fun s => { s with mgt := { s.mgt with halted := false } }), by decide⟩,
    ⟨State.reset |> onTop (fun s => { s with mgt := { s.mgt with halted := false } }) |> onTop (fun s => { s with hld := { s.hld with staged := .valid } }) |> onTop (fun s => { s with hld := { s.hld with patch := some img0 } }), by decide⟩,
    ⟨State.reset |> onTop (fun s => { s with mgt := { s.mgt with halted := false } }), by decide⟩,
    ⟨img0, State.reset |> onTop (fun s => { s with hld := { s.hld with appliedImg := some (img0) } }) |> onTop (fun s => { s with hld := { s.hld with unpersisted := true } }) |> onTop (fun s => { s with mgt := { s.mgt with flash := none } }) |> onTop (fun s => { s with mgt := { s.mgt with halted := false } }), by decide⟩⟩

theorem test_met_StreamCommandsComplete_3 :
    (∃ (s : State), s.hld.appliedImg = none ∧ s.mgt.halted = false) ∧
    (∃ (m : StreamImg) (s : State), s.hld.appliedImg = some m ∧ s.hld.unpersisted = true ∧ s.mgt.flash.isSome = true ∧ s.mgt.halted = false) ∧
    (∃ (t a : Ns) (m : StreamImg) (s : State), s.mgt.flash = some (0, a) ∧ s.hld.appliedImg = some m ∧ s.mgt.halted = false) ∧
    (∃ (t : Ns) (m : StreamImg) (s : State), s.hld.patch = some m ∧ s.hld.staged = .pending ∧ frameOf t + 1 = s.hld.fa ∧ validate s s.hld.str m = .ok ∧ applyFrameBad s m s.hld.fa = false ∧ s.mgt.halted = false) ∧
    (∃ (t : Ns) (m : StreamImg) (s : State), s.hld.patch = some m ∧ s.hld.staged = .pending ∧ frameOf t + 1 = s.hld.fa ∧ validate s s.hld.str m ≠ .ok ∧ s.mgt.halted = false) ∧
    (∃ (t : Ns) (m : StreamImg) (s : State), s.hld.patch = some m ∧ s.hld.staged = .pending ∧ s.hld.revalOk = true ∧ max s.now t = s.hld.fa * frameNs) ∧
    (∃ (s : State), s.mgt.halted = true) :=
  ⟨⟨State.reset |> onTop (fun s => { s with hld := { s.hld with appliedImg := none } }) |> onTop (fun s => { s with mgt := { s.mgt with halted := false } }), by decide⟩,
    ⟨img0, State.reset |> onTop (fun s => { s with hld := { s.hld with appliedImg := some img0 } }) |> onTop (fun s => { s with hld := { s.hld with unpersisted := true } }) |> onTop (fun s => { s with mgt := { s.mgt with flash := some (0, 0) } }), by decide⟩,
    ⟨1000000000000000, 0, img0, State.reset |> onTop (fun s => { s with mgt := { s.mgt with flash := some (0, 0) } }) |> onTop (fun s => { s with hld := { s.hld with appliedImg := some (img0) } }) |> onTop (fun s => { s with mgt := { s.mgt with halted := false } }), by decide⟩,
    ⟨1000000000000000, okPatch, State.reset |> onTop (fun s => { s with mgt := { s.mgt with otp := [(0, (.stream, 0))] } }) |> onTop (fun s => { s with hld := { s.hld with patch := some okPatch } }) |> onTop (fun s => { s with hld := { s.hld with staged := .pending } }) |> onTop (fun s => { s with hld := { s.hld with fa := 8000000001 } }), by exact ⟨rfl, rfl, rfl, validate_ok rfl rfl (by decide +kernel) (by decide) (by decide +kernel) rfl rfl (by decide +kernel) (by decide +kernel) (by decide +kernel) (by decide +kernel) (by decide +kernel) (by decide +kernel), by decide +kernel⟩⟩,
    ⟨1000000000000000, { img0 with headerOk := false }, State.reset |> onTop (fun s => { s with hld := { s.hld with patch := some { img0 with headerOk := false } } }) |> onTop (fun s => { s with hld := { s.hld with staged := .pending } }) |> onTop (fun s => { s with hld := { s.hld with fa := 8000000001 } }), by decide⟩,
    ⟨1000000000000000, img0, State.reset |> onTop (fun s => { s with hld := { s.hld with patch := some (img0) } }) |> onTop (fun s => { s with hld := { s.hld with staged := .pending } }) |> onTop (fun s => { s with hld := { s.hld with revalOk := true } }) |> onTop (fun s => { s with hld := { s.hld with fa := 8000000000 } }), by decide⟩,
    ⟨State.reset |> onTop (fun s => { s with mgt := { s.mgt with halted := true } }), by decide⟩⟩

theorem test_met_ManagementCommandsComplete_1 :
    (∃ (t : Ns) (d : Dgram) (a k l : Nat) (b : Bool) (x : List Byte) (s : State), fwRuns (setNow s t) = true ∧ (identNow (setNow s t)).isSome = true ∧ authOf (setNow s t) d = some (k, l) ∧ 3 ≤ l ∧ (imageChunk (acceptDgram (setNow s t) d k) a b x).2 = 0) ∧
    (∃ (t : Ns) (d : Dgram) (a k l : Nat) (b : Bool) (x : List Byte) (s : State), fwRuns (setNow s t) = true ∧ (identNow (setNow s t)).isSome = true ∧ authOf (setNow s t) d = some (k, l) ∧ 3 ≤ l ∧ (imageChunk (acceptDgram (setNow s t) d k) a b x).2 ≠ 0) ∧
    (∃ (s : State), s.mgt.img = .empty ∧ s.mgt.halted = false) ∧
    (∃ (s : State), s.mgt.img = .validating ∧ s.mgt.halted = false) ∧
    (∃ (s : State), s.mgt.img = .loading ∧ s.mgt.halted = false) ∧
    (∃ (s : State), s.mgt.img = .receiving ∧ s.mgt.halted = false) ∧
    (∃ (s : State), s.mgt.img = .valid ∧ s.mgt.halted = false) ∧
    (∃ (t : Ns) (x : FwImage) (q : Option StreamImg) (s : State), s.mgt.img = .validating ∧ checkFw s x = .ok ∧ imageWhole s x.length = true ∧ s.mgt.halted = false) :=
  ⟨⟨1000000000000000, dgram0, 0, 0, 3, true, [], State.reset |> running |> committed |> keyed, by decide⟩,
    ⟨1000000000000000, dgram0, 0, 0, 3, true, [], State.reset |> running |> committed |> keyed |> onTop (fun s => { s with mgt := { s.mgt with img := .loading } }), by decide⟩,
    ⟨State.reset |> onTop (fun s => { s with mgt := { s.mgt with img := .empty } }) |> onTop (fun s => { s with mgt := { s.mgt with halted := false } }), by decide⟩,
    ⟨State.reset |> onTop (fun s => { s with mgt := { s.mgt with img := .validating } }) |> onTop (fun s => { s with mgt := { s.mgt with halted := false } }), by decide⟩,
    ⟨State.reset |> onTop (fun s => { s with mgt := { s.mgt with img := .loading } }) |> onTop (fun s => { s with mgt := { s.mgt with halted := false } }), by decide⟩,
    ⟨State.reset |> onTop (fun s => { s with mgt := { s.mgt with img := .receiving } }) |> onTop (fun s => { s with mgt := { s.mgt with halted := false } }), by decide⟩,
    ⟨State.reset |> onTop (fun s => { s with mgt := { s.mgt with img := .valid } }) |> onTop (fun s => { s with mgt := { s.mgt with halted := false } }), by decide⟩,
    ⟨1000000000000000, fw0, none, State.reset |> onTop (fun s => { s with mgt := { s.mgt with img := .validating } }) |> onTop (fun s => { s with mgt := { s.mgt with halted := false } }), by decide⟩⟩

theorem test_met_ManagementCommandsComplete_2 :
    (∃ (t : Ns) (x : FwImage) (q : Option StreamImg) (s : State), s.mgt.img = .validating ∧ checkFw s x ≠ .ok ∧ imageWhole s x.length = true ∧ s.mgt.halted = false) ∧
    (∃ (t : Ns) (x : FwImage) (q : Option StreamImg) (s : State), s.mgt.img = .validating ∧ imageWhole s x.length = false ∧ s.mgt.halted = false) ∧
    (∃ (t : Ns) (s : State), s.mgt.img = .validating ∧ s.mgt.halted = false) ∧
    (∃ (x : FwImage) (s : State), s.mgt.img = .valid ∧ s.mgt.flash = none ∧ s.mgt.imgFw = some x ∧ s.mgt.fwB = false ∧ s.mgt.halted = false) ∧
    (∃ (x : FwImage) (s : State), s.mgt.img = .valid ∧ s.mgt.flash = none ∧ s.mgt.imgFw = some x ∧ s.mgt.fwB = true ∧ s.mgt.halted = false) ∧
    (∃ (s : State), (s.mgt.img = .empty ∨ s.mgt.img = .receiving) ∧ s.mgt.flash = none ∧ s.mgt.halted = false) ∧
    (∃ (t a : Ns) (x : FwImage) (s : State), s.mgt.flash = some (1, a) ∧ s.mgt.imgFw = some x ∧ s.mgt.fwB = false ∧ s.mgt.halted = false) ∧
    (∃ (t a : Ns) (x : FwImage) (s : State), s.mgt.flash = some (1, a) ∧ s.mgt.imgFw = some x ∧ s.mgt.fwB = true ∧ s.mgt.halted = false) :=
  ⟨⟨1000000000000000, { fw0 with headerOk := false }, none, State.reset |> onTop (fun s => { s with mgt := { s.mgt with img := .validating } }) |> onTop (fun s => { s with mgt := { s.mgt with halted := false } }), by decide⟩,
    ⟨1000000000000000, { fw0 with length := 1 }, none, State.reset |> onTop (fun s => { s with mgt := { s.mgt with img := .validating } }) |> onTop (fun s => { s with mgt := { s.mgt with halted := false } }), by decide⟩,
    ⟨1000000000000000, State.reset |> onTop (fun s => { s with mgt := { s.mgt with img := .validating } }) |> onTop (fun s => { s with mgt := { s.mgt with halted := false } }), by decide⟩,
    ⟨fw0, State.reset |> onTop (fun s => { s with mgt := { s.mgt with img := .valid } }) |> onTop (fun s => { s with mgt := { s.mgt with flash := none } }) |> onTop (fun s => { s with mgt := { s.mgt with imgFw := some (fw0) } }) |> onTop (fun s => { s with mgt := { s.mgt with fwB := false } }) |> onTop (fun s => { s with mgt := { s.mgt with halted := false } }), by decide⟩,
    ⟨fw0, State.reset |> onTop (fun s => { s with mgt := { s.mgt with img := .valid } }) |> onTop (fun s => { s with mgt := { s.mgt with flash := none } }) |> onTop (fun s => { s with mgt := { s.mgt with imgFw := some (fw0) } }) |> onTop (fun s => { s with mgt := { s.mgt with fwB := true } }) |> onTop (fun s => { s with mgt := { s.mgt with halted := false } }), by decide⟩,
    ⟨State.reset |> onTop (fun s => { s with mgt := { s.mgt with img := .empty } }) |> onTop (fun s => { s with mgt := { s.mgt with flash := none } }) |> onTop (fun s => { s with mgt := { s.mgt with halted := false } }), by decide⟩,
    ⟨1000000000000000, 0, fw0, State.reset |> onTop (fun s => { s with mgt := { s.mgt with flash := some (1, 0) } }) |> onTop (fun s => { s with mgt := { s.mgt with imgFw := some (fw0) } }) |> onTop (fun s => { s with mgt := { s.mgt with fwB := false } }) |> onTop (fun s => { s with mgt := { s.mgt with halted := false } }), by decide⟩,
    ⟨1000000000000000, 0, fw0, State.reset |> onTop (fun s => { s with mgt := { s.mgt with flash := some (1, 0) } }) |> onTop (fun s => { s with mgt := { s.mgt with imgFw := some (fw0) } }) |> onTop (fun s => { s with mgt := { s.mgt with fwB := true } }) |> onTop (fun s => { s with mgt := { s.mgt with halted := false } }), by decide⟩⟩

theorem test_met_ManagementCommandsComplete_3 :
    (∃ (t a : Ns) (s : State), s.mgt.flash = some (1, a) ∧ s.mgt.halted = false) ∧
    (∃ (b : Bool) (s : State), lastValid s = true ∧ s.pair.st ≠ .active ∧ portsIdle s = true ∧ s.mgt.lastLoad = some (true, b) ∧ s.mgt.halted = false) ∧
    (∃ (b : Bool) (s : State), lastValid s = true ∧ s.pair.st ≠ .active ∧ portsIdle s = true ∧ s.mgt.lastLoad = some (false, b) ∧ s.mgt.halted = false) ∧
    (∃ (s : State), (lastValid s = false ∨ s.pair.st = .active ∨ portsIdle s = false) ∧ s.mgt.halted = false) ∧
    (∃ (t a : Ns) (s : State), fwRuns s = true ∧ fwActive s = .trial ∧ lookup s.snf.bootT 2 = some a ∧ a + 10 * secNs ≤ t ∧ s.snf.wdArmed = true ∧ (s.hld.committed = true → 7 ≤ s.snf.stage) ∧ s.mgt.fwB = true) ∧
    (∃ (t a : Ns) (s : State), fwRuns s = true ∧ fwActive s = .trial ∧ lookup s.snf.bootT 2 = some a ∧ a + 10 * secNs ≤ t ∧ s.snf.wdArmed = true ∧ (s.hld.committed = true → 7 ≤ s.snf.stage) ∧ s.mgt.fwB = false) ∧
    (∃ (x : FwImage) (s : State), fwActive s = .confirmed ∧ fwImage s = some x ∧ s.mgt.halted = false) ∧
    (∃ (s : State), fwActive s ≠ .confirmed ∧ s.mgt.halted = false) :=
  ⟨⟨1000000000000000, 0, State.reset |> onTop (fun s => { s with mgt := { s.mgt with flash := some (1, 0) } }) |> onTop (fun s => { s with mgt := { s.mgt with halted := false } }), by decide⟩,
    ⟨true, State.reset |> onTop (fun s => { s with mgt := { s.mgt with lastLoad := some (true, true) } }) |> onTop (fun s => { s with mgt := { s.mgt with halted := false } }) |> onTop (fun s => { s with pair := { s.pair with st := .solo } }) |> onTop (fun s => { s with mgt := { s.mgt with validB := true } }), by decide⟩,
    ⟨true, State.reset |> onTop (fun s => { s with mgt := { s.mgt with lastLoad := some (false, true) } }) |> onTop (fun s => { s with mgt := { s.mgt with halted := false } }) |> onTop (fun s => { s with pair := { s.pair with st := .solo } }) |> onTop (fun s => { s with mgt := { s.mgt with fwStB := .valid } }), by decide⟩,
    ⟨State.reset |> onTop (fun s => { s with mgt := { s.mgt with halted := false } }), by decide⟩,
    ⟨1000000000000000, 0, State.reset |> running |> onTop (fun s => { s with snf := { s.snf with wdArmed := true } }) |> onTop (fun s => { s with hld := { s.hld with committed := true → 7 ≤ s.snf.stage } }) |> onTop (fun s => { s with mgt := { s.mgt with fwB := true } }) |> onTop (fun s => { s with mgt := { s.mgt with fwStA := .trial } }) |> onTop (fun s => { s with mgt := { s.mgt with fwStB := .trial } }) |> onTop (fun s => { s with snf := { s.snf with bootT := [(2, 0)] } }), by decide⟩,
    ⟨1000000000000000, 0, State.reset |> running |> onTop (fun s => { s with snf := { s.snf with wdArmed := true } }) |> onTop (fun s => { s with hld := { s.hld with committed := true → 7 ≤ s.snf.stage } }) |> onTop (fun s => { s with mgt := { s.mgt with fwB := false } }) |> onTop (fun s => { s with mgt := { s.mgt with fwStA := .trial } }) |> onTop (fun s => { s with mgt := { s.mgt with fwStB := .trial } }) |> onTop (fun s => { s with snf := { s.snf with bootT := [(2, 0)] } }), by decide⟩,
    ⟨fw0, State.reset |> onTop (fun s => { s with mgt := { s.mgt with halted := false } }) |> onTop (fun s => { s with mgt := { s.mgt with fwA := some fw0 } }), by decide⟩,
    ⟨State.reset |> onTop (fun s => { s with mgt := { s.mgt with halted := false } }) |> onTop (fun s => { s with mgt := { s.mgt with fwStA := .trial } }), by decide⟩⟩

theorem test_met_ManagementCommandsComplete_4 :
    (∃ (m : StreamImg) (l : List StreamImg) (s : State), bankOnce s s.mgt.strB = true ∧ bankOf s s.mgt.strB = m :: l ∧ s.mgt.halted = false) ∧
    (∃ (s : State), bankOnce s s.mgt.strB = false ∧ s.mgt.halted = false) ∧
    (∃ (i : Fin 4) (k : Fin 256) (l a : Fin 4) (s : State), l.val ≠ 0 ∧ s.mgt.halted = false) ∧
    (∃ (i : Fin 4) (k : Fin 256) (l a : Fin 4) (s : State), l.val = 0 ∧ s.mgt.halted = false) ∧
    (∃ (i : Fin 4) (s : State), (s.mgt.keys.filter (fun p => p.2.level == 3)).map (·.1) = [i.val] ∧ s.mgt.halted = false) ∧
    (∃ (i : Fin 4) (s : State), (s.mgt.keys.filter (fun p => p.2.level == 3)).map (·.1) ≠ [i.val] ∧ s.mgt.halted = false) ∧
    (∃ (i : Fin 8) (s : State), serviceOk s = false ∧ s.mgt.halted = false) ∧
    (∃ (i : Fin 8) (s : State), serviceOk s = true ∧ (i.val < 2 ∨ otpUse s i ≠ .empty) ∧ s.mgt.halted = false) :=
  ⟨⟨img0, [], State.reset |> onTop (fun s => { s with mgt := { s.mgt with halted := false } }) |> onTop (fun s => { s with mgt := { s.mgt with onceA := true } }) |> onTop (fun s => { s with mgt := { s.mgt with bankA := [img0] } }), by decide⟩,
    ⟨State.reset |> onTop (fun s => { s with mgt := { s.mgt with halted := false } }), by decide⟩,
    ⟨0, 0, 1, 0, State.reset |> onTop (fun s => { s with mgt := { s.mgt with halted := false } }), by decide⟩,
    ⟨0, 0, 0, 0, State.reset |> onTop (fun s => { s with mgt := { s.mgt with halted := false } }), by decide⟩,
    ⟨0, State.reset |> onTop (fun s => { s with mgt := { s.mgt with halted := false } }) |> keyed, by decide⟩,
    ⟨0, State.reset |> onTop (fun s => { s with mgt := { s.mgt with halted := false } }), by decide⟩,
    ⟨0, State.reset |> onTop (fun s => { s with mgt := { s.mgt with halted := false } }), by decide⟩,
    ⟨0, State.reset |> onTop (fun s => { s with snf := { s.snf with heldBoot := true } }) |> onTop (fun s => { s with snf := { s.snf with straps := 16 } }) |> onTop (fun s => { s with mgt := { s.mgt with halted := false } }), by decide⟩⟩

theorem test_met_ManagementCommandsComplete_5 :
    (∃ (i : Fin 8) (s : State), serviceOk s = true ∧ 2 ≤ i.val ∧ otpUse s i = .empty ∧ s.mgt.halted = false) ∧
    (∃ (i : Fin 8) (k : Nat) (s : State), serviceOk s = true ∧ lookup s.mgt.otp i = some (.stream, k) ∧ s.mgt.otp.any (fun p => p.1 != i.val && p.2.1 == .stream) = true ∧ slotInUse s i .stream = false ∧ s.mgt.halted = false) ∧
    (∃ (s : State), s.mgt.halted = true) ∧
    (∃ (i : Fin 4) (j : Fin 8) (k : Fin 256) (l a : Fin 4) (s : State), s.mgt.halted = true) ∧
    (∃ (s : State), s.mgt.halted = false) :=
  ⟨⟨2, State.reset |> onTop (fun s => { s with snf := { s.snf with heldBoot := true } }) |> onTop (fun s => { s with snf := { s.snf with straps := 16 } }) |> onTop (fun s => { s with mgt := { s.mgt with halted := false } }), by decide⟩,
    ⟨0, 0, State.reset |> onTop (fun s => { s with snf := { s.snf with heldBoot := true } }) |> onTop (fun s => { s with snf := { s.snf with straps := 16 } }) |> onTop (fun s => { s with mgt := { s.mgt with halted := false } }) |> onTop (fun s => { s with mgt := { s.mgt with otp := [(0, (.stream, 0)), (1, (.stream, 1))] } }), by decide⟩,
    ⟨State.reset |> onTop (fun s => { s with mgt := { s.mgt with halted := true } }), by decide⟩,
    ⟨0, 0, 0, 0, 0, State.reset |> onTop (fun s => { s with mgt := { s.mgt with halted := true } }), by decide⟩,
    ⟨State.reset |> onTop (fun s => { s with mgt := { s.mgt with halted := false } }), by decide⟩⟩

theorem test_met_TallyCommandsComplete :
    (∃ (t : Ns) (d : Dgram) (n : W32) (i k l : Nat) (s : State), fwRuns (setNow s t) = true ∧ (identNow (setNow s t)).isSome = true ∧ authOf (setNow s t) d = some (k, l) ∧ 1 ≤ l) ∧
    (∃ (s : State), tallyCode s (reg64 s .talPostTLo .talPostTHi 0) (regW s .talPostNum 0).toNat = 0 ∧ s.tal.bank0.st = .free) ∧
    (∃ (s : State), tallyCode s (reg64 s .talPostTLo .talPostTHi 0) (regW s .talPostNum 0).toNat = 0 ∧ s.tal.bank0.st ≠ .free ∧ s.tal.bank1.st = .free) ∧
    (∃ (s : State), tallyCode s (reg64 s .talPostTLo .talPostTHi 0) (regW s .talPostNum 0).toNat = 4) ∧
    (∃ (n : W32) (s : State), talHolds s n.toNat = none) ∧
    (∃ (n : W32) (s : State), talHolds s n.toNat = some false ∧ s.tal.retry = none ∧ (talBank s false).st = .latched) ∧
    (∃ (n : W32) (s : State), talHolds s n.toNat = some true ∧ s.tal.retry = none ∧ (talBank s true).st = .latched) ∧
    (∃ (t : Ns) (s : State), s.tal.bank0.st = .armed ∧ s.tal.bank0.tPost ≤ max s.now t ∧ s.tal.bank1.st ≠ .armed ∧ s.hld.str.notice = none) :=
  ⟨⟨1000000000000000, dgram0, 0#32, 0, 0, 3, State.reset |> running |> committed |> keyed, by decide⟩,
    ⟨State.reset |> onTop (fun s => { s with tal := { s.tal with bank0 := { s.tal.bank0 with st := .free } } }) |> onTop (fun s => putReg s .talPostTLo 0 125000000#32), by decide⟩,
    ⟨State.reset |> onTop (fun s => { s with tal := { s.tal with bank1 := { s.tal.bank1 with st := .free } } }) |> onTop (fun s => { s with tal := { s.tal with bank0 := { s.tal.bank0 with st := .armed, num := 7 } } }) |> onTop (fun s => putReg s .talPostTLo 0 125000000#32), by decide⟩,
    ⟨State.reset |> onTop (fun s => putReg s .talPostTLo 0 125000000#32) |> onTop (fun s => { s with tal := { s.tal with bank0 := { s.tal.bank0 with st := .armed } } }), by decide⟩,
    ⟨0#32, State.reset, by decide⟩,
    ⟨0#32, State.reset |> onTop (fun s => { s with tal := { s.tal with retry := none } }) |> onTop (fun s => { s with tal := { s.tal with bank0 := { s.tal.bank0 with st := .latched } } }), by decide⟩,
    ⟨0#32, State.reset |> onTop (fun s => { s with tal := { s.tal with retry := none } }) |> onTop (fun s => { s with tal := { s.tal with bank1 := { s.tal.bank1 with st := .latched } } }), by decide⟩,
    ⟨1000000000000000, State.reset |> onTop (fun s => { s with tal := { s.tal with bank0 := { s.tal.bank0 with st := .armed } } }) |> onTop (fun s => { s with hld := { s.hld with str := { s.hld.str with notice := none } } }), by decide⟩⟩

theorem test_met_CellCommandsComplete_1 :
    (∃ (n : Fin 16) (t : Ns) (r : CellReading) (s : State), r.valid = true ∧ (txOf s n).powered = true ∧ (txOf s n).lineOn = true ∧ regB s .txCfg n 0 = true ∧ (txOf s n).st ≠ .quiescent) ∧
    (∃ (n : Fin 16) (t : Ns) (r : CellReading) (s : State), (r.valid = false ∨ (txOf s n).powered = false ∨ (txOf s n).lineOn = false ∨ regB s .txCfg n 0 = false ∨ (txOf s n).st = .quiescent)) ∧
    (∃ (n : Fin 16) (t : Ns) (s : State), (txOf s n).st = .drive ∧ (txOf s n).lastFrame + txTimeout s n ≤ t) ∧
    (∃ (n : Fin 16) (t : Ns) (s : State), (txOf s n).st = .bypass ∧ (txOf s n).lastFrame + txTimeout s n ≤ t) ∧
    (∃ (n : Fin 16) (t : Ns) (s : State), (txOf s n).lastStatus + txTimeout s n ≤ t) ∧
    (∃ (n : Fin 16) (t : Ns) (s : State), (txOf s n).st = .quiescent ∧ (txOf s n).powered = true) ∧
    (∃ (n : Fin 16) (t : Ns) (s : State), (txOf s n).st ≠ .quiescent) ∧
    (∃ (n : Fin 16) (t : Ns) (s : State), (txOf s n).powered = false ∧ (txOf s n).lineOn = true) :=
  ⟨⟨0, 1000000000000000, { valid := true, readback := 0#32, termV := 0#32 }, State.reset |> onTx 0 (fun x => { x with powered := true }) |> onTx 0 (fun x => { x with lineOn := true }) |> bits .txCfg 0 0 1 1 |> onTx 0 (fun x => { x with st := .alarm }), by decide⟩,
    ⟨0, 1000000000000000, { valid := false, readback := 0#32, termV := 0#32 }, State.reset, by decide⟩,
    ⟨0, 1000000000000000, State.reset |> onTx 0 (fun x => { x with st := .drive }), by decide⟩,
    ⟨0, 1000000000000000, State.reset |> onTx 0 (fun x => { x with st := .bypass }), by decide⟩,
    ⟨0, 1000000000000000, State.reset, by decide⟩,
    ⟨0, 1000000000000000, State.reset |> onTx 0 (fun x => { x with st := .quiescent }) |> onTx 0 (fun x => { x with powered := true }), by decide⟩,
    ⟨0, 1000000000000000, State.reset |> onTx 0 (fun x => { x with st := .alarm }), by decide⟩,
    ⟨0, 1000000000000000, State.reset |> onTx 0 (fun x => { x with powered := false }) |> onTx 0 (fun x => { x with lineOn := true }), by decide⟩⟩

theorem test_met_CellCommandsComplete_2 :
    (∃ (n : Fin 16) (t : Ns) (s : State), (txOf s n).powered = false ∧ (txOf s n).lineOn = false) ∧
    (∃ (n : Fin 16) (t : Ns) (s : State), (txOf s n).powered = true) ∧
    (∃ (n : Fin 16) (t : Ns) (s : State), txMisDue s n t = true) ∧
    (∃ (n : Fin 16) (t : Ns) (s : State), (txOf s n).st = .forced ∧ (txOf s n).forceAt + 600 * secNs ≤ t) ∧
    (∃ (n : Fin 16) (s : State), s.rlt.ctx = none ∧ (txOf s n).st = .fault ∧ driving s = true) ∧
    (∃ (n : Fin 16) (s : State), s.rlt.ctx = none ∧ (txOf s n).st ≠ .fault ∨ driving s = false) ∧
    (∃ (n : Fin 16) (s : State), s.rlt.ctx = none ∧ txMisDue s n s.now = false ∧ (txOf s n).st = .drive) ∧
    (∃ (n : Fin 16) (s : State), s.rlt.ctx = none ∧ txMisDue s n s.now = false ∧ (txOf s n).st ≠ .drive) :=
  ⟨⟨0, 1000000000000000, State.reset |> onTx 0 (fun x => { x with powered := false }) |> onTx 0 (fun x => { x with lineOn := false }), by decide⟩,
    ⟨0, 1000000000000000, State.reset |> onTx 0 (fun x => { x with powered := true }), by decide⟩,
    ⟨0, 1000000000000000, State.reset |> onTx 0 (fun x => { x with misSince := some 0 }) |> onTx 0 (fun x => { x with st := .drive }), by decide⟩,
    ⟨0, 1000000000000000, State.reset |> onTx 0 (fun x => { x with st := .forced }), by decide⟩,
    ⟨0, State.reset |> onTop (fun s => { s with rlt := { s.rlt with ctx := none } }) |> onTx 0 (fun x => { x with st := .fault }) |> committed |> enabled, by decide⟩,
    ⟨0, State.reset |> onTop (fun s => { s with rlt := { s.rlt with ctx := none } }) |> onTx 0 (fun x => { x with st := .alarm }), by decide⟩,
    ⟨0, State.reset |> onTop (fun s => { s with rlt := { s.rlt with ctx := none } }) |> onTx 0 (fun x => { x with st := .drive }), by decide⟩,
    ⟨0, State.reset |> onTop (fun s => { s with rlt := { s.rlt with ctx := none } }) |> onTx 0 (fun x => { x with st := .alarm }), by decide⟩⟩

theorem test_met_CellCommandsComplete_3 :
    (∃ (n : Fin 16) (s : State), s.rlt.ctx = none ∧ (txOf s n).st = .forced) ∧
    (∃ (n : Fin 16) (s : State), s.rlt.ctx = none ∧ (txOf s n).st ≠ .forced) ∧
    (∃ (n : Fin 16) (s : State), s.rlt.ctx = none) ∧
    (∃ (n : Fin 16) (s : State), s.rlt.ctx.isSome = true) :=
  ⟨⟨0, State.reset |> onTop (fun s => { s with rlt := { s.rlt with ctx := none } }) |> onTx 0 (fun x => { x with st := .forced }), by decide⟩,
    ⟨0, State.reset |> onTop (fun s => { s with rlt := { s.rlt with ctx := none } }) |> onTx 0 (fun x => { x with st := .alarm }), by decide⟩,
    ⟨0, State.reset |> onTop (fun s => { s with rlt := { s.rlt with ctx := none } }), by decide⟩,
    ⟨0, State.reset |> onTop (fun s => { s with rlt := { s.rlt with ctx := some (imageOf State.reset) } }), by decide⟩⟩

theorem test_met_TrimCommandsComplete_1 :
    (∃ (b : Bool) (t : Ns) (s : State), s.tx.sess = none ∧ (txOf s (selAt s.tx.selLog s.tx.sel (t - 3 * secNs))).lockMram ≠ some true ∧ regB s .txCfg (selAt s.tx.selLog s.tx.sel (t - 3 * secNs)) 0 = true ∧ (txOf s (selAt s.tx.selLog s.tx.sel (t - 3 * secNs))).st = .drive) ∧
    (∃ (b : Bool) (t : Ns) (s : State), s.tx.sess = none ∧ (txOf s (selAt s.tx.selLog s.tx.sel (t - 3 * secNs))).lockMram = some true ∨ regB s .txCfg (selAt s.tx.selLog s.tx.sel (t - 3 * secNs)) 0 = false ∨ (txOf s (selAt s.tx.selLog s.tx.sel (t - 3 * secNs))).st ≠ .drive) ∧
    (∃ (t : Ns) (x : TrimSession) (s : State), s.tx.sess = some x) ∧
    (∃ (t : Ns) (x : TrimSession) (s : State), s.tx.sess = some x ∧ x.span = true ∧ s.glb.wrote.contains (regAddr .txTrimSpan x.port) = false) ∧
    (∃ (t : Ns) (x : TrimSession) (s : State), s.tx.sess = some x ∧ x.span = false ∧ s.glb.wrote.contains (regAddr .txTrimZero x.port) = false) ∧
    (∃ (t : Ns) (x : TrimSession) (s : State), s.tx.sess = some x ∧ x.span = true ∧ s.glb.wrote.contains (regAddr .txTrimSpan x.port) = true) ∧
    (∃ (t : Ns) (x : TrimSession) (s : State), s.tx.sess = some x ∧ x.span = false ∧ s.glb.wrote.contains (regAddr .txTrimZero x.port) = true) ∧
    (∃ (t : Ns) (x : TrimSession) (s : State), s.tx.sess = some x ∧ x.lastPress + 60 * secNs ≤ t) :=
  ⟨⟨true, 1000000000000000, State.reset |> onTop (fun s => { s with tx := { s.tx with sess := none } }) |> bits .txCfg 0 0 1 1 |> onTx 0 (fun x => { x with st := .drive }), by decide⟩,
    ⟨true, 1000000000000000, State.reset |> onTop (fun s => { s with tx := { s.tx with sess := none } }), by decide⟩,
    ⟨1000000000000000, trim0, State.reset |> onTop (fun s => { s with tx := { s.tx with sess := some (trim0) } }), by decide⟩,
    ⟨1000000000000000, { trim0 with span := true }, State.reset |> onTop (fun s => { s with tx := { s.tx with sess := some ({ trim0 with span := true }) } }), by decide⟩,
    ⟨1000000000000000, trim0, State.reset |> onTop (fun s => { s with tx := { s.tx with sess := some (trim0) } }), by decide⟩,
    ⟨1000000000000000, { trim0 with span := true }, State.reset |> onTop (fun s => { s with tx := { s.tx with sess := some ({ trim0 with span := true }) } }) |> onTop (fun s => { s with glb := { s.glb with wrote := [regAddr .txTrimSpan 0] } }), by decide⟩,
    ⟨1000000000000000, trim0, State.reset |> onTop (fun s => { s with tx := { s.tx with sess := some (trim0) } }) |> onTop (fun s => { s with glb := { s.glb with wrote := [regAddr .txTrimZero 0] } }), by decide⟩,
    ⟨1000000000000000, trim0, State.reset |> onTop (fun s => { s with tx := { s.tx with sess := some (trim0) } }), by decide⟩⟩

theorem test_met_TrimCommandsComplete_2 :
    (∃ (i : Fin 16) (t : Ns) (s : State), s.tx.sel ≠ i ∧ s.tx.sess = none) ∧
    (∃ (i : Fin 16) (t : Ns) (x : TrimSession) (s : State), s.tx.sel ≠ i ∧ s.tx.sess = some x) :=
  ⟨⟨1, 1000000000000000, State.reset |> onTop (fun s => { s with tx := { s.tx with sess := none } }), by decide⟩,
    ⟨1, 1000000000000000, trim0, State.reset |> onTop (fun s => { s with tx := { s.tx with sess := some (trim0) } }), by decide⟩⟩

theorem test_met_WaxCommandsComplete_1 :
    (∃ (t : Ns) (s : State), frameOf t = s.frame ∧ keyframeDue s = true ∧ s.wax.keys.any (fun k => k.frame == s.frame) = false) ∧
    (∃ (t : Ns) (f : Nat) (s : State), s.wax.keys.any (fun k => k.frame == f && !k.complete) = true) ∧
    (∃ (t : Ns) (s : State), secNs ≤ t ∧ (match s.wax.summaries with | [] => true | x :: _ => x.second != t / secNs - 1) = true ∧ waxOn s = true) ∧
    (∃ (s : State), stagingHeld s = true) ∧
    (∃ (s : State), stagingHeld s = false ∧ freezeKey s = none) ∧
    (∃ (k : Keyframe) (s : State), stagingHeld s = false ∧ freezeKey s = some k) ∧
    (∃ (t : Ns) (f l : Nat) (k : Keyframe) (s : State), s.wax.staging = .freezing ∧ s.wax.freezeReq = some (f, l) ∧ s.wax.keys.find? (fun k => k.frame == f && k.complete) = some k) ∧
    (∃ (t : Ns) (f l : Nat) (s : State), s.wax.staging = .freezing ∧ s.wax.freezeReq = some (f, l)) :=
  ⟨⟨1000000000000000, State.reset |> running |> committed |> onTop (fun s => { s with wax := { s.wax with keyDue := true } }) |> onTop (fun s => { s with frame := 8000000000 }), by decide⟩,
    ⟨1000000000000000, 0, State.reset |> onTop (fun s => { s with wax := { s.wax with keys := [{ frame := 0, hash8 := 0, image := imageOf State.reset, seen := 0, complete := false }] } }), by decide⟩,
    ⟨1000000000000000, State.reset |> running, by decide⟩,
    ⟨State.reset |> onTop (fun s => { s with wax := { s.wax with export_ := some (0, 0, 0, 0) } }), by decide⟩,
    ⟨State.reset, by decide⟩,
    ⟨{ frame := 0, hash8 := 0, image := imageOf State.reset, seen := 0, complete := true }, State.reset |> onTop (fun s => { s with wax := { s.wax with keys := [{ frame := 0, hash8 := 0, image := imageOf State.reset, seen := 0, complete := true }] } }), by decide⟩,
    ⟨1000000000000000, 0, 0, { frame := 0, hash8 := 0, image := imageOf State.reset, seen := 0, complete := true }, State.reset |> onTop (fun s => { s with wax := { s.wax with staging := .freezing } }) |> onTop (fun s => { s with wax := { s.wax with freezeReq := some (0, 0) } }) |> onTop (fun s => { s with wax := { s.wax with keys := [{ frame := 0, hash8 := 0, image := imageOf State.reset, seen := 0, complete := true }] } }), by decide⟩,
    ⟨1000000000000000, 0, 0, State.reset |> onTop (fun s => { s with wax := { s.wax with staging := .freezing } }) |> onTop (fun s => { s with wax := { s.wax with freezeReq := some (0, 0) } }), by decide⟩⟩

theorem test_met_WaxCommandsComplete_2 :
    (∃ (x : Nat) (s : State), (s.wax.export_.isSome || (regF s .waxExpRate 0 8 1 == 0 && (s.wax.staging == .importing || s.wax.staging == .freezing))) = true) ∧
    (∃ (x : Nat) (s : State), (s.wax.export_.isSome || (regF s .waxExpRate 0 8 1 == 0 && (s.wax.staging == .importing || s.wax.staging == .freezing))) = false ∧ regF s .waxExpRate 0 8 1 = 0 ∧ s.wax.staging ≠ .frozen) ∧
    (∃ (x : Nat) (s : State), (s.wax.export_.isSome || (regF s .waxExpRate 0 8 1 == 0 && (s.wax.staging == .importing || s.wax.staging == .freezing))) = false ∧ (regF s .waxExpRate 0 8 1 ≠ 0 ∨ s.wax.staging = .frozen) ∧ min (sourceSize s (regF s .waxExpRate 0 8 1)) (reg64 s .waxExpOfsLo .waxExpOfsHi 0 + (regW s .waxExpLen 0).toNat) ≤ reg64 s .waxExpOfsLo .waxExpOfsHi 0) ∧
    (∃ (x : Nat) (s : State), (s.wax.export_.isSome || (regF s .waxExpRate 0 8 1 == 0 && (s.wax.staging == .importing || s.wax.staging == .freezing))) = false ∧ (regF s .waxExpRate 0 8 1 ≠ 0 ∨ s.wax.staging = .frozen) ∧ (¬(min (sourceSize s (regF s .waxExpRate 0 8 1)) (reg64 s .waxExpOfsLo .waxExpOfsHi 0 + (regW s .waxExpLen 0).toNat) ≤ reg64 s .waxExpOfsLo .waxExpOfsHi 0))) ∧
    (∃ (t : Ns) (a b c d : Nat) (s : State), s.wax.export_ = some (a, b, c, d) ∧ fwRuns s = true ∧ d ≤ c + min 400 (d - c)) ∧
    (∃ (t : Ns) (a b c d : Nat) (s : State), s.wax.export_ = some (a, b, c, d) ∧ fwRuns s = true ∧ (¬(d ≤ c + min 400 (d - c)))) ∧
    (∃ (t : Ns) (d : Dgram) (a k l : Nat) (x : List Byte) (s : State), fwRuns (setNow s t) = true ∧ (identNow (setNow s t)).isSome = true ∧ authOf (setNow s t) d = some (k, l) ∧ 3 ≤ l ∧ (importChunk (acceptDgram (setNow s t) d k) a x).2 = 0) ∧
    (∃ (t : Ns) (d : Dgram) (a k l : Nat) (x : List Byte) (s : State), fwRuns (setNow s t) = true ∧ (identNow (setNow s t)).isSome = true ∧ authOf (setNow s t) d = some (k, l) ∧ 3 ≤ l ∧ (importChunk (acceptDgram (setNow s t) d k) a x).2 ≠ 0) :=
  ⟨⟨0, State.reset |> onTop (fun s => { s with wax := { s.wax with export_ := some (0, 0, 0, 0) } }), by decide⟩,
    ⟨0, State.reset |> bits .waxExpRate 0 8 1 0, by decide⟩,
    ⟨0, State.reset |> bits .waxExpRate 0 8 1 1, by decide⟩,
    ⟨0, State.reset |> bits .waxExpRate 0 8 1 1 |> onTop (fun s => { s with wax := { s.wax with summaries := [sum0] } }) |> onTop (fun s => putReg s .waxExpLen 0 1#32), by decide⟩,
    ⟨1000000000000000, 0, 0, 0, 0, State.reset |> onTop (fun s => { s with wax := { s.wax with export_ := some (0, 0, 0, 0) } }) |> running, by decide⟩,
    ⟨1000000000000000, 0, 0, 0, 1000, State.reset |> onTop (fun s => { s with wax := { s.wax with export_ := some (0, 0, 0, 1000) } }) |> running, by decide⟩,
    ⟨1000000000000000, dgram0, 0, 0, 3, [], State.reset |> running |> committed |> keyed, by decide⟩,
    ⟨1000000000000000, dgram0, 0, 0, 3, [], State.reset |> running |> committed |> keyed |> onTop (fun s => { s with wax := { s.wax with export_ := some (0, 0, 0, 0) } }), by decide⟩⟩

theorem test_met_WaxCommandsComplete_3 :
    (∃ (f : Frozen) (s : State), s.wax.staging = .importing) ∧
    (∃ (q : Option Frozen) (s : State), s.wax.staging = .freezing) ∧
    (∃ (q : Option Frozen) (s : State), s.wax.staging = .empty) ∧
    (∃ (q : Option Frozen) (s : State), s.wax.staging = .frozen) ∧
    (∃ (s : State), s.wax.export_ = none ∧ s.wax.staging ≠ .freezing ∧ s.rlt.st = .idle) ∧
    (∃ (s : State), (s.wax.export_.isSome = true ∨ s.wax.staging = .freezing ∨ s.rlt.st ≠ .idle)) :=
  ⟨⟨frozen0, State.reset |> onTop (fun s => { s with wax := { s.wax with staging := .importing } }), by decide⟩,
    ⟨none, State.reset |> onTop (fun s => { s with wax := { s.wax with staging := .freezing } }), by decide⟩,
    ⟨none, State.reset |> onTop (fun s => { s with wax := { s.wax with staging := .empty } }), by decide⟩,
    ⟨none, State.reset |> onTop (fun s => { s with wax := { s.wax with staging := .frozen } }), by decide⟩,
    ⟨State.reset |> onTop (fun s => { s with wax := { s.wax with export_ := none } }) |> onTop (fun s => { s with rlt := { s.rlt with st := .idle } }), by decide⟩,
    ⟨State.reset |> onTop (fun s => { s with wax := { s.wax with export_ := some (0, 0, 0, 0) } }), by decide⟩⟩

theorem test_met_RelightCommandsComplete_1 :
    (∃ (f : Frozen) (s : State), s.wax.frozen = some f ∧ rltAllowed s = true ∧ s.pair.st ≠ .standby ∧ (rltCheck s f).1 = 0) ∧
    (∃ (f : Frozen) (s : State), s.wax.frozen = some f ∧ rltAllowed s = true ∧ s.pair.st ≠ .standby ∧ (rltCheck s f).1 ≠ 0 ∧ (rltCheck s f).2 = none) ∧
    (∃ (s : State), s.wax.frozen = none) ∧
    (∃ (s : State), rltAllowed s = false) ∧
    (∃ (s : State), s.rlt.st = .prepared) ∧
    (∃ (s : State), s.rlt.st = .paused) ∧
    (∃ (s : State), s.rlt.st = .running) ∧
    (∃ (t : Ns) (s : State), s.rlt.st = .running) :=
  ⟨⟨okFrozen, State.reset |> onTop (fun s => { s with mgt := { s.mgt with otp := [(0, (.stream, 0))] } }) |> onTop (fun s => { s with wax := { s.wax with staging := .frozen } }) |> onTop (fun s => { s with wax := { s.wax with frozen := some okFrozen } }) |> onTop (fun s => { s with pair := { s.pair with st := .solo } }), by exact ⟨rfl, rfl, by decide, rltCheck_ok _ rfl rfl (validate_ok rfl rfl (by decide +kernel) (by decide) (by decide +kernel) rfl rfl (by decide +kernel) (by decide +kernel) (by decide +kernel) (by decide +kernel) (by decide +kernel) (by decide +kernel))⟩⟩,
    ⟨frozen0, State.reset |> onTop (fun s => { s with wax := { s.wax with staging := .frozen } }) |> onTop (fun s => { s with wax := { s.wax with frozen := some frozen0 } }) |> onTop (fun s => { s with pair := { s.pair with st := .solo } }), by decide⟩,
    ⟨State.reset |> onTop (fun s => { s with wax := { s.wax with frozen := none } }), by decide⟩,
    ⟨State.reset, by decide⟩,
    ⟨State.reset |> onTop (fun s => { s with rlt := { s.rlt with st := .prepared } }), by decide⟩,
    ⟨State.reset |> onTop (fun s => { s with rlt := { s.rlt with st := .paused } }), by decide⟩,
    ⟨State.reset |> onTop (fun s => { s with rlt := { s.rlt with st := .running } }), by decide⟩,
    ⟨1000000000000000, State.reset |> onTop (fun s => { s with rlt := { s.rlt with st := .running } }), by decide⟩⟩

theorem test_met_RelightCommandsComplete_2 :
    (∃ (t : Ns) (s : State), s.rlt.st ≠ .running) ∧
    (∃ (s : State), s.rlt.st ≠ .idle) ∧
    (∃ (s : State), s.rlt.st = .idle) :=
  ⟨⟨1000000000000000, State.reset, by decide⟩,
    ⟨State.reset |> onTop (fun s => { s with rlt := { s.rlt with st := .prepared } }), by decide⟩,
    ⟨State.reset |> onTop (fun s => { s with rlt := { s.rlt with st := .idle } }), by decide⟩⟩

theorem test_met_WickCommandsComplete :
    (∃ (w : Fin 64) (v : Int) (s : State), (wickOf s w).st ≠ .disabled) ∧
    (∃ (w : Fin 64) (t : Ns) (s : State), (wickKind s w = .quad ∨ wickKind s w = .enc ∨ wickKind s w = .hall) ∧ (wickOf s w).st ≠ .lost ∧ (wickOf s w).st ≠ .disabled) ∧
    (∃ (w : Fin 64) (t : Ns) (s : State), (wickOf s w).st = .starting ∨ (wickOf s w).st = .running ∨ (wickOf s w).st = .reversing ∧ wickKind s w ≠ .mains ∧ wickKind s w ≠ .subscribed ∧ (wickOf s w).edgeTime + stillNs s w ≤ t ∧ s.wick.held = [] ∧ inLatchCycle (setNow s t) t = false) :=
  ⟨⟨0, 0, State.reset |> onWick 0 (fun x => { x with st := .running }), by decide⟩,
    ⟨0, 1000000000000000, State.reset |> onWick 0 (fun x => { x with st := .running }) |> bits .wckCfg 0 0 4 1, by decide⟩,
    ⟨0, 1000000000000000, State.reset |> onWick 0 (fun x => { x with st := .starting }) |> onTop (fun s => { s with wick := { s.wick with held := [] } }), by decide⟩⟩

theorem test_met_WickTicksComplete_1 :
    (∃ (w : Fin 64) (t : Ns) (e : TickEdge) (r : Bool) (s : State), (wickOf s w).st ≠ .disabled ∧ (wickOf s w).st ≠ .lost ∧ s.snf.corePowered = true ∧ wickKind s w ≠ .mains ∧ edgeRev s w e = some r ∧ s.wick.held = [] ∧ inLatchCycle (setNow s t) t = false) ∧
    (∃ (w : Fin 64) (t : Ns) (e : TickEdge) (s : State), s.wick.held = [] ∧ inLatchCycle (setNow s t) t = true) ∧
    (∃ (w : Fin 64) (t : Ns) (s : State), (wickOf s w).st ≠ .disabled ∧ s.snf.corePowered = true ∧ wickKind s w = .mains ∧ s.wick.held = [] ∧ inLatchCycle (setNow s t) t = false) ∧
    (∃ (w : Fin 64) (t : Ns) (c : Nat) (s : State), (wickOf s w).st ≠ .disabled ∧ (wickOf s w).st ≠ .lost ∧ s.snf.corePowered = true ∧ wickKind s w = .hall ∧ s.wick.held = [] ∧ inLatchCycle (setNow s t) t = false) ∧
    (∃ (w : Fin 64) (t : Ns) (e : TickEdge) (s : State), (wickOf s w).st ≠ .disabled ∧ s.snf.corePowered = false ∧ s.wick.held = []) ∧
    (∃ (t : Ns) (s : State), (t + 4000) % 125000 = 0 ∧ s.snf.corePowered = true ∧ 1 ≤ s.snf.stage) ∧
    (∃ (w : Fin 64) (t : Ns) (s : State), (wickOf s w).st ≠ .lost ∧ (wickOf s w).st ≠ .disabled ∧ lossHolds s w = true) ∧
    (∃ (w : Fin 64) (t : Ns) (s : State), (wickOf s w).st ≠ .lost ∧ (wickOf s w).st ≠ .disabled ∧ wickKind s w = .mains ∧ (wickOf s w).st = .running ∧ (wickOf s w).lastCross + mainsTimeout s w ≤ t ∧ s.snf.corePowered = true) :=
  ⟨⟨0, 1000000000000000, .pulse, false, State.reset |> onTop (fun s => { s with snf := { s.snf with corePowered := true } }) |> onTop (fun s => { s with wick := { s.wick with held := [] } }) |> onWick 0 (fun x => { x with st := .running }) |> bits .wckCfg 0 0 4 3, by decide⟩,
    ⟨0, 121000, .cross, State.reset |> running |> onTop (fun s => { s with wick := { s.wick with latched := false } }), by decide⟩,
    ⟨0, 1000000000000000, State.reset |> onTop (fun s => { s with snf := { s.snf with corePowered := true } }) |> bits .wckCfg 0 0 4 7 |> onTop (fun s => { s with wick := { s.wick with held := [] } }) |> onWick 0 (fun x => { x with st := .running }), by decide⟩,
    ⟨0, 1000000000000000, 0, State.reset |> onTop (fun s => { s with snf := { s.snf with corePowered := true } }) |> bits .wckCfg 0 0 4 6 |> onTop (fun s => { s with wick := { s.wick with held := [] } }) |> onWick 0 (fun x => { x with st := .running }), by decide⟩,
    ⟨0, 1000000000000000, .cross, State.reset |> onTop (fun s => { s with snf := { s.snf with corePowered := false } }) |> onTop (fun s => { s with wick := { s.wick with held := [] } }) |> onWick 0 (fun x => { x with st := .running }), by decide⟩,
    ⟨121000, State.reset |> onTop (fun s => { s with snf := { s.snf with corePowered := true } }) |> onTop (fun s => { s with snf := { s.snf with stage := 1 } }), by decide⟩,
    ⟨0, 1000000000000000, State.reset |> onWick 0 (fun x => { x with st := .running }) |> bits .wckCfg 0 0 4 1, by decide⟩,
    ⟨0, 1000000000000000, State.reset |> bits .wckCfg 0 0 4 7 |> onWick 0 (fun x => { x with st := .running }) |> onTop (fun s => { s with snf := { s.snf with corePowered := true } }), by decide⟩⟩

theorem test_met_WickTicksComplete_2 :
    (∃ (w : Fin 64) (t : Ns) (s : State), wickKind s w = .mains ∧ (wickOf s w).lastCross + mainsTimeout s w ≤ t ∧ (wickOf s w).st ≠ .disabled ∧ s.snf.corePowered = false) ∧
    (∃ (w : Fin 64) (t a : Ns) (s : State), (wickOf s w).st ≠ .lost ∧ (wickOf s w).st ≠ .disabled ∧ (wickOf s w).lateSince = some a ∧ wickKind s w = .subscribed ∧ a + 3 * pubPeriod s w ≤ t) ∧
    (∃ (w : Fin 64) (t : Ns) (s : State), (wickOf s w).st = .lost ∧ recoverHolds s w t = true) ∧
    (∃ (w : Fin 64) (t : Ns) (s : State), freezeOver s w t = true) :=
  ⟨⟨0, 1000000000000000, State.reset |> bits .wckCfg 0 0 4 7 |> onTop (fun s => { s with snf := { s.snf with corePowered := false } }) |> onWick 0 (fun x => { x with st := .running }), by decide⟩,
    ⟨0, 1000000000000000, 0, State.reset |> onWick 0 (fun x => { x with lateSince := some (0) }) |> bits .wckCfg 0 0 4 9 |> onWick 0 (fun x => { x with st := .running }), by decide⟩,
    ⟨0, 1000000000000000, State.reset |> onWick 0 (fun x => { x with st := .lost }) |> bits .wckCfg 0 0 4 1, by decide⟩,
    ⟨0, 1000000000000000, State.reset |> onWick 0 (fun x => { x with frzSince := some 0 }), by decide⟩⟩

end Sys2Proof.Tests
end

section
/-!
SUPPORT. What the work of a frame's opening leaves of the frame counter: the command release and the check of an announced patch
change neither the frame's number nor that a boundary has been passed (R22, R25).
-/
namespace Sys2Proof.Machine

open Sys2Proof

/-- The frame counter: the present frame's number, and whether a boundary has been passed since the core started (R22). -/
def frameMark (s : State) : Nat × Bool := (s.frame, s.framed)

theorem frameMark_congr {s t : State} (h : t.frame = s.frame) (h' : t.framed = s.framed) : frameMark t = frameMark s := by
  simp [frameMark, h, h']

/-! ## Shared operations -/

@[simp] theorem frameMark_useFree (s : State) : frameMark (useFree s) = frameMark s := rfl
@[simp] theorem frameMark_setStl (s : State) (i : Nat) (x : Stall) : frameMark (setStl s i x) = frameMark s := rfl
@[simp] theorem frameMark_setTx (s : State) (n : Nat) (x : TxPort) : frameMark (setTx s n x) = frameMark s := rfl
@[simp] theorem frameMark_setSol (s : State) (v : Nat) (x : SolPort) : frameMark (setSol s v x) = frameMark s := rfl
@[simp] theorem frameMark_setMot (s : State) (m : Nat) (x : Motor) : frameMark (setMot s m x) = frameMark s := rfl
@[simp] theorem frameMark_modMot (s : State) (m : Nat) (f : Motor → Motor) : frameMark (modMot s m f) = frameMark s := rfl
@[simp] theorem frameMark_modGate (s : State) (m : Nat) (f : Gate → Gate) : frameMark (modGate s m f) = frameMark s := rfl
@[simp] theorem frameMark_setTaper (s : State) (j : Nat) (x : Taper) : frameMark (setTaper s j x) = frameMark s := rfl
@[simp] theorem frameMark_stick (s : State) (r : RegName) (i b : Nat) : frameMark (stick s r i b) = frameMark s := rfl
@[simp] theorem frameMark_logEv (s : State) (src : EvSrc) (name : EventName) (what : Nat) :
    frameMark (logEv s src name what) = frameMark s := frameMark_congr (by simp) (by simp)

/-! ## Solenoid commands (R284 to R288) -/

@[simp] theorem frameMark_solTakeStart (s : State) (v h t : Nat) : frameMark (solTakeStart s v h t).1 = frameMark s := by
  unfold solTakeStart
  split
  · rfl
  · dsimp only
    split
    · rfl
    · simp [solRefuse]
    · split <;> simp [solBegin, solDutyRefuse]
    · simp
    · simp [apply_ite frameMark]

@[simp] theorem frameMark_solTakeEnd (s : State) (v t : Nat) : frameMark (solTakeEnd s v t) = frameMark s := by
  unfold solTakeEnd
  dsimp only
  split <;> simp

@[simp] theorem frameMark_solTakeReset (s : State) (v t : Nat) : frameMark (solTakeReset s v t) = frameMark s := by
  unfold solTakeReset
  dsimp only
  split
  · split <;> simp [solRefuse]
  · rfl
  · simp [solRefuse]

@[simp] theorem frameMark_solFrameCmd (s : State) (v t : Nat) (c : Nat × Nat) : frameMark (solFrameCmd s v t c) = frameMark s := by
  unfold solFrameCmd
  split <;> simp [solClear]

/-! ## Motor commands and decisions (R206 to R217) -/

@[simp] theorem frameMark_motRefuse (s : State) (m : Nat) : frameMark (motRefuse s m) = frameMark s := rfl
@[simp] theorem frameMark_toSearch (s : State) (m t : Nat) : frameMark (toSearch s m t) = frameMark s := rfl

@[simp] theorem frameMark_forceTaper (s : State) (m : Nat) (v : Option F32) : frameMark (forceTaper s m v) = frameMark s :=
  frameMark_congr (by simp) (by simp)

@[simp] theorem frameMark_motFault (s : State) (m : Nat) (f : MotFault) : frameMark (motFault s m f) = frameMark s :=
  frameMark_congr (by simp) (by simp)

@[simp] theorem frameMark_faultGone (s : State) (m : Nat) : frameMark (faultGone s m).1 = frameMark s :=
  frameMark_congr (by simp) (by simp)

@[simp] theorem frameMark_toOff (s : State) (m : Nat) (b : Bool) : frameMark (toOff s m b) = frameMark s := by simp [toOff]

@[simp] theorem frameMark_motStart (s : State) (m t : Nat) : frameMark (motStart s m t) = frameMark s := by
  unfold motStart
  dsimp only
  split <;> simp

@[simp] theorem frameMark_motStop (s : State) (m t : Nat) : frameMark (motStop s m t) = frameMark s := by
  unfold motStop
  split
  · split <;> simp
  all_goals simp

@[simp] theorem frameMark_motCoast (s : State) (m : Nat) : frameMark (motCoast s m) = frameMark s := by
  unfold motCoast
  split <;> simp

@[simp] theorem frameMark_motReset (s : State) (m : Nat) : frameMark (motReset s m) = frameMark s := by
  unfold motReset
  dsimp only
  split
  · split <;> simp
  · simp

@[simp] theorem frameMark_motIdent (s : State) (m t : Nat) : frameMark (motIdent s m t) = frameMark s := by
  unfold motIdent
  split <;> simp

@[simp] theorem frameMark_motResumeCmd (s : State) (m : Nat) : frameMark (motResumeCmd s m) = frameMark s := by
  unfold motResumeCmd
  split <;> simp

@[simp] theorem frameMark_motCommand (s : State) (m t : Nat) (c : MotCmd) : frameMark (motCommand s m t c) = frameMark s := by
  cases c <;> simp [motCommand]

@[simp] theorem frameMark_motStall (s : State) (m t : Nat) : frameMark (motStall s m t) = frameMark s := by
  unfold motStall
  dsimp only
  split
  · rfl
  · split <;> simp

@[simp] theorem frameMark_motRetry (s : State) (m t : Nat) : frameMark (motRetry s m t) = frameMark s := by
  unfold motRetry
  dsimp only
  split <;> simp

@[simp] theorem frameMark_endStopping (s : State) (m t : Nat) : frameMark (endStopping s m t) = frameMark s := by
  simp [endStopping, apply_ite frameMark]

@[simp] theorem frameMark_setOffset (s : State) (m angle : Nat) : frameMark (setOffset s m angle) = frameMark s := rfl

@[simp] theorem frameMark_toCatch (s : State) (m t : Nat) (still : Bool) (angle : Option Nat) :
    frameMark (toCatch s m t still angle) = frameMark s := by
  unfold toCatch motDrive
  dsimp only
  split
  · split
    · split <;> split <;> simp
    · simp
  · simp

@[simp] theorem frameMark_brakeEnd (s : State) (m t : Nat) : frameMark (brakeEnd s m t) = frameMark s := by
  unfold brakeEnd
  dsimp only
  split <;> simp

@[simp] theorem frameMark_motAct (s : State) (m t : Nat) (a : MotAct) : frameMark (motAct s m t a) = frameMark s := by
  unfold motAct
  split
  case h_5 => split <;> simp
  all_goals simp

/-! ## The command release (R25) -/

/-- What every single run keeps, a fold over a list keeps. -/
theorem foldl_keeps {α β : Type} (g : State → β) (f : State → α → State) (h : ∀ s a, g (f s a) = g s) (l : List α) (s : State) :
    g (l.foldl f s) = g s := foldl_inv (P := fun u => g u = g s) f (fun u a hu => (h u a).trans hu) l rfl

@[simp] theorem frameMark_motRelease (s : State) (m t : Nat) : frameMark (motRelease s m t) = frameMark s := by
  unfold motRelease
  dsimp only
  split
  · rfl
  · exact foldl_keeps frameMark _ (fun s a => frameMark_motAct s m t a) _ _

@[simp] theorem frameMark_gateRelease (s : State) (m : Nat) : frameMark (gateRelease s m) = frameMark s := by
  unfold gateRelease
  split
  · rfl
  · dsimp only
    split <;> simp

/-- The release of the frame commands leaves the frame counter (R25). -/
@[simp] theorem frameMark_releaseCmds (s : State) (t : Nat) : frameMark (releaseCmds s t) = frameMark s := by
  unfold releaseCmds
  dsimp only
  rw [forEach_keeps frameMark _ frameMark_gateRelease, forEach_keeps frameMark _ (fun s m => frameMark_motRelease s m t),
    forEach_keeps frameMark _, forEach_keeps frameMark _, forEach_keeps frameMark _]
  · intro s i; split <;> simp
  · intro s n; split <;> simp
  · intro s v; exact foldl_keeps frameMark _ (fun s c => frameMark_solFrameCmd s v t c) _ _

/-! ## The check of an announced patch (R367) -/

@[simp] theorem frameMark_pairEnter (s : State) (st : PairSt) (ph : Phase) : frameMark (pairEnter s st ph) = frameMark s := by
  unfold pairEnter
  split
  · rfl
  · rw [frameMark_logEv]; rfl

@[simp] theorem frameMark_patchMissed (s : State) : frameMark (patchMissed s) = frameMark s := by
  unfold patchMissed
  split
  · split <;> simp
  · rfl

/-! ## The opening of a frame (R22) -/

/-- A boundary at t opens the frame of t's number (R22, R24). -/
theorem frameMark_openFrame (s : State) (t : Nat) : frameMark (openFrame s t) = (frameOf t, true) := by
  unfold openFrame
  rw [frameMark_patchMissed]
  split
  · rfl
  · rw [frameMark_releaseCmds]; rfl

/-- No boundary falls inside a frame (R22). -/
theorem boundaryOk_inside (s : State) {t : Nat} (h : t % frameNs ≠ 0) : boundaryOk s t = false := by simp [boundaryOk, h]

/-- Every instant of the 125,000 ns from F × 125,000 ns on lies in frame F (R22). -/
theorem frameOf_mul_add (F : Nat) {d : Nat} (h : d < 125000) : frameOf (F * 125000 + d) = F := by
  rw [frameOf, frameNs]
  omega

theorem frameOf_mul (F : Nat) : frameOf (F * 125000) = F := by simpa using frameOf_mul_add F (d := 0) (by decide)

/-- A block is due in frame F where F mod 2^k is its phase (R22). -/
theorem Inst.due_iff (x : Inst) (F : Nat) : x.due F = true ↔ F % 2 ^ x.k = x.phase := by simp [Inst.due]

/-- The blocks due of an engine: those of the structure whose phase the present frame has (R22). -/
theorem mem_dueOf (p : Nat × Inst) (s : State) (e : Nat) :
    p ∈ dueOf s e ↔ p ∈ s.hld.str.insts ∧ p.2.engine = e ∧ s.frame % 2 ^ p.2.k = p.2.phase := by
  simp [dueOf, List.mem_filter, Inst.due_iff]

/-- Settles O60: the opening's frame counter by `frameMark_openFrame`, the rest by the arithmetic of R22. -/
theorem framesAndBlocks : Obligations.FramesAndBlocks := by
  refine ⟨fun F d hd => ⟨frameOf_mul F, frameOf_mul_add F hd⟩, fun t s ht => ?_, fun t s => ?_,
    fun e p s => mem_dueOf p s e⟩
  · change execFrameBoundary t s = _
    simp only [execFrameBoundary, boundaryOk_inside _ ht, Bool.false_eq_true, if_false]
  · exact Prod.mk.inj (frameMark_openFrame s t)

end Sys2Proof.Machine
end

section
/-!
SUPPORT. What a change of state leaves alone, composed from the shared operations: each adds the one part, or the one register, that it
touches. The statements' `Effect` and `Changes` are built from it.
-/
namespace Sys2Proof.Machine

open Sys2Proof

/-- The parts outside `ps` and the register words outside `rs` stand as before. -/
def Within (ps : List Part) (rs : List (RegName × Nat)) (s t : State) : Prop := Frame ps s t ∧ OnlyRegs rs s t

section
variable {ps : List Part} {rs : List (RegName × Nat)} {s t u : State}

theorem Effect.intro {c : Instr} {P : State → Prop} (h : exec c s = .next t) (w : Within ps rs s t) (hP : P t) : Effect c s ps rs P :=
  ⟨t, h, w.1, w.2, hP⟩

theorem Changes.intro {P : State → Prop} (w : Within ps rs s t) (hP : P t) : Changes s t ps rs P := ⟨w.1, w.2, hP⟩

theorem Within.refl (s : State) : Within ps rs s s := ⟨.refl ps s, .refl rs s⟩

theorem Frame.trans (h : Frame ps s t) (k : Frame ps t u) : Frame ps s u := fun p hp => by
  have h1 := h p hp
  have h2 := k p hp
  cases p <;> simp_all [Part.same]

theorem Within.trans (h : Within ps rs s t) (k : Within ps rs t u) : Within ps rs s u :=
  ⟨h.1.trans k.1, fun r i hr => (k.2 r i hr).trans (h.2 r i hr)⟩

theorem Within.then_setNow (w : Within ps rs s t) (n : Nat) (h : Part.time ∈ ps := by decide) : Within ps rs s (setNow t n) :=
  w.trans ⟨fun p hp => by cases p <;> simp_all [Part.same], .of_rf rs rfl⟩

theorem Within.then_setAis (w : Within ps rs s t) (n : Nat) (x : Aisle) (h : Part.aisle ∈ ps := by decide) : Within ps rs s (setAis t n x) :=
  w.trans ⟨fun p hp => by cases p <;> simp_all [Part.same], .of_rf rs rfl⟩

theorem Within.then_addItem (w : Within ps rs s t) (i : WaxItem) (h : Part.wax ∈ ps := by decide) : Within ps rs s (addItem t i) :=
  w.trans ⟨fun p hp => by cases p <;> simp_all [Part.same], .of_rf rs rfl⟩

theorem Within.then_stick (w : Within ps rs s t) (r : RegName) (i b : Nat) (h : (r, i) ∈ rs := by simp) : Within ps rs s (stick t r i b) :=
  w.trans ⟨fun p _ => by cases p <;> simp [Part.same], fun _ _ hr => regW_stick_ne t b (hr _ h)⟩

theorem Within.then_logEv (w : Within ps rs s t) (src : EvSrc) (name : EventName) (what : Nat) (h : Part.recorder ∈ ps := by decide)
    (h' : (RegName.evrStatus, 0) ∈ rs := by simp) : Within ps rs s (logEv t src name what) :=
  w.trans ⟨fun p hp => by cases p <;> simp_all [Part.same], fun _ _ hr => regW_logEv_ne t src name what (hr _ h')⟩

end

/-- A bit of another register stands when an event is recorded. -/
theorem regB_logEv_ne (s : State) (src : EvSrc) (name : EventName) (what : Nat) {r : RegName} {i : Nat} (b : Nat)
    (h : regAddr .evrStatus 0 ≠ regAddr r i) : regB (logEv s src name what) r i b = regB s r i b := by
  rw [regB, regB, regW_logEv_ne s src name what h]

/-- Outside a relight a row's command acts with its write kept by the wax (R24, R442). -/
theorem rowCmd_free {s : State} (h : s.rlt.ctx = none) (r : RegName) (i : Nat) (v : W32) (f : State → State) :
    rowCmd s r i v f = f (addItem s (.write (regAddr r i) v)) := by simp [rowCmd, h]

/-- In a relight a row's command answers ACCESS_BUSY (R454). -/
theorem rowCmd_busy {s : State} (h : s.rlt.ctx.isSome = true) (r : RegName) (i : Nat) (v : W32) (f : State → State) :
    rowCmd s r i v f = report s hostReq (regAddr r i) .busy := if_pos h

end Sys2Proof.Machine
end

section
/-!
SUPPORT. Aisles (R17, R18, R240 to R243, R256, R261, R262, R266, R267): what each command and happening does where the spec has it act.
-/
namespace Sys2Proof.Machine

open Sys2Proof

/-! ## One aisle -/

/-- A state whose aisles are those of `setAis s n x` differs in aisle n alone, and there shows x. -/
theorem onlyAis_of_aisle {s u : State} {n : Nat} {x : Aisle} (h : u.aisle = (setAis s n x).aisle) : OnlyAis n s u ∧ aisOf u n = x := by
  have ha : ∀ k, aisOf u k = aisOf (setAis s n x) k := fun k => by rw [aisOf, aisOf, h]
  refine ⟨⟨fun j hj => (ha j).trans (setAis_ne s x hj), ?_⟩, (ha n).trans (setAis_same s n x)⟩
  rw [h]; rfl

/-- A happening at t that changes aisle n alone. -/
theorem effect_setNow_setAis {c : Instr} {s : State} {n t : Nat} {x : Aisle} (h : exec c s = .next (setAis (setNow s t) n x)) :
    Effect c s [.time, .aisle] [] (fun u => u.now = max s.now t ∧ OnlyAis n s u ∧ aisOf u n = x) :=
  .intro h (((Within.refl s).then_setNow t).then_setAis n x) ⟨rfl, onlyAis_of_aisle rfl⟩

/-- A run over stalls that rewrites each stall's record changes nothing but the stalls' records. -/
theorem forEach_setStl_eq (f : State → Nat → Stall) (l : List Nat) (s : State) :
    ∃ st, forEach l s (fun s i => setStl s i (f s i)) = { s with aisle := { s.aisle with st := st } } := by
  induction l generalizing s with
  | nil => exact ⟨s.aisle.st, rfl⟩
  | cons k l ih =>
    obtain ⟨st, h⟩ := ih (setStl s k (f s k))
    exact ⟨st, h⟩

/-- Messages sent ahead join the aisle's next subframe: no other aisle, nor the queue, nor the time, changes (R18). -/
theorem lltSendAhead_only (s : State) (n t : Nat) :
    (lltSendAhead s n t).pending = s.pending ∧ (lltSendAhead s n t).now = s.now ∧ OnlyAt aisOf n s (lltSendAhead s n t) := by
  unfold lltSendAhead
  split
  · exact ⟨rfl, rfl, fun _ _ => rfl⟩
  · refine forEach_inv (P := fun u => u.pending = s.pending ∧ u.now = s.now ∧ OnlyAt aisOf n s u) _ (fun u i hu => ?_) _
      ⟨rfl, rfl, fun _ _ => rfl⟩
    obtain ⟨hp, hn, ha⟩ := hu
    dsimp only
    split
    · exact ⟨hp, hn, fun j hj => (setAis_ne u _ hj).trans (ha j hj)⟩
    · exact ⟨hp, hn, ha⟩

/-! ## Supplies (R240, R243) -/

section
variable (n : Fin 8) (t : Ns) (v : Nat) {s : State}

theorem exec_aislePowerUp (h : 4500 ≤ v) : exec (.aislePowerUp n t v) s = .next (setAis (setNow s t) n { aisOf s n with
    avl := sat 16 v, st := if (aisOf s n).st = .unpowered then .unconfigured else (aisOf s n).st }) := congrArg _ (if_pos h)

theorem exec_fieldUndervoltage (h : v < 18000) :
    exec (.fieldUndervoltage n t v) s = .next (setAis (setNow s t) n { aisOf s n with avf := v, fieldUv := true }) :=
  congrArg _ (if_pos h)

theorem exec_fieldUndervoltageEnd (h : 18500 ≤ v) :
    exec (.fieldUndervoltageEnd n t v) s = .next (setAis (setNow s t) n { aisOf s n with avf := sat 16 v, fieldUv := false }) :=
  congrArg _ (if_pos h)

theorem exec_avlUndervoltage (h : v < 4300) :
    exec (.avlUndervoltage n t v) s = .next (stick (aisPowerDown (setNow s t) n v) .aisStatus n 9) := by
  change execAvlUndervoltage n t v s = _
  simp only [execAvlUndervoltage, if_pos h]

end

/-! ## Subframes (R17, R24) -/

section
variable {n : Fin 8} {t : Ns} {s : State} (hr : coreRuns s = true) (hp : (aisOf s n).st ≠ .unpowered)
include hr hp

theorem exec_upstream_bad : exec (.aisleUpstreamSubframe n t false) s = .next (badSubframe (setNow s t) n true) := by
  change execAisleUpstreamSubframe n t false s = _
  simp [execAisleUpstreamSubframe, hr, hp]

theorem exec_upstream_taken (he : onEdge (setNow s t) = false) :
    exec (.aisleUpstreamSubframe n t true) s = .next (takeUp (setNow s t) n t) := by
  change execAisleUpstreamSubframe n t true s = _
  simp [execAisleUpstreamSubframe, hr, hp, he]

theorem exec_upstream_waits (he : onEdge (setNow s t) = true) : exec (.aisleUpstreamSubframe n t true) s =
    .next { setNow s t with aisle := { s.aisle with edgeUps := s.aisle.edgeUps ++ [n.val] } } := by
  change execAisleUpstreamSubframe n t true s = _
  simp [execAisleUpstreamSubframe, hr, hp, he]

theorem exec_downstream_bad : exec (.aisleDownstreamSubframe n t false) s = .next (badSubframe (setNow s t) n false) := by
  change execAisleDownstreamSubframe n t false s = _
  simp [execAisleDownstreamSubframe, hr, hp]

theorem exec_downstream_taken : exec (.aisleDownstreamSubframe n t true) s = .next (takeDown (setNow s t) n t) := by
  change execAisleDownstreamSubframe n t true s = _
  simp [execAisleDownstreamSubframe, hr, hp]

end

/-- An upstream subframe discarded for its CRC takes its DI edges and samples with it (R17). -/
theorem badSubframe_up (s : State) (n : Nat) : (badSubframe s n true).pending = s.pending ∧ (badSubframe s n true).now = s.now ∧
    OnlyAt aisOf n s (badSubframe s n true) ∧ aisOf (badSubframe s n true) n =
      { aisOf s n with crcErrors := satInc 16 (aisOf s n).crcErrors, upOk := 0, edges := (aisOf s n).edges.drop 8, recs := [] } := by
  obtain ⟨st, h⟩ := forEach_setStl_eq (fun s i => { stlOf s i with aEdge := 0, aChanged := false }) (stallsOf n) (setAis s n
    { aisOf s n with crcErrors := satInc 16 (aisOf s n).crcErrors, upOk := 0, edges := (aisOf s n).edges.drop 8, recs := [] })
  have hb : badSubframe s n true = _ := h
  rw [hb]
  exact ⟨rfl, rfl, OnlyAt.set setAis_ne s n _, setAis_same s n _⟩

/-- A downstream subframe discarded for its CRC takes the timed actions that wait with it (R17). -/
theorem badSubframe_down (s : State) (n : Nat) : (badSubframe s n false).pending = s.pending ∧ (badSubframe s n false).now = s.now ∧
    OnlyAt aisOf n s (badSubframe s n false) ∧ (aisOf (badSubframe s n false) n).crcErrors = satInc 16 (aisOf s n).crcErrors ∧
    (aisOf (badSubframe s n false) n).downOk = 0 ∧ (aisOf (badSubframe s n false) n).toSend = [] := by
  obtain ⟨hp, hn, ha⟩ := lltSendAhead_only s n s.now
  refine ⟨hp, hn, fun j hj => (setAis_ne _ _ hj).trans (ha j hj), ?_⟩
  simp [badSubframe]

/-! ## Lost links (R241 to R243) -/

section
variable {n : Fin 8} {t : Ns} {s : State}

theorem exec_coreLinkLost (hr : coreRuns s = true) (hl : (aisOf s n).lostUp = false) (ht : (aisOf s n).lastUp + aisTimeout s n ≤ t) :
    exec (.coreLinkLost n t) s = .next (loseCnt (forEach (stallsOf n) (dropSets (logEv (stick (setAis (setNow s t) n { aisOf s n with
      lostUp := true, upOk := 0, losses := satInc 16 (aisOf s n).losses }) .aisStatus n 7) (srcAisle n) .aisleLinkLost n) n) lostStall) n t) :=
  if_pos ⟨hr, hl, ht⟩

/-- The aisle after it has declared its link lost at t: on its own oscillator, its sets dropped, SAFE (R241, R243). -/
def afterLinkLost (s : State) (n t : Nat) : State :=
  aisEnterSafe (dropSets (stick (setAis (setNow s t) n { aisOf s n with
    lostDown := true, localOsc := true, downOk := 0, losses := satInc 16 (aisOf s n).losses }) .aisStatus n 7) n) n false

theorem exec_aisleLinkLost (hp : (aisOf s n).st ≠ .unpowered) (hl : (aisOf s n).lostDown = false)
    (ht : (aisOf s n).lastDown + aisTimeout s n ≤ t) : exec (.aisleLinkLost n t) s = .next (if (aisOf s n).st = .linked
      then logEv (afterLinkLost s n t) (srcAisle n) .aisleSafe n else afterLinkLost s n t) := if_pos ⟨hp, hl, ht⟩

end

/-! ## The safe table's check (R256, R257) -/

theorem exec_safeTableCheck_bad {n : Fin 8} {t : Ns} {s : State} (h : (aisOf s n).safeTable ≠ []) (hb : (aisOf s n).tableBad = false) :
    exec (.safeTableCheck n t false) s =
      .next (logEv (stick (setAis (setNow s t) n { aisOf s n with tableBad := true }) .aisStatus n 8) (srcAisle n) .safeCrcBad n) := by
  have hg : ¬ (false = true ∨ (aisOf (setNow s t) n).safeTable = []) := by simpa using h
  have hb' : ¬ (aisOf (setNow s t) n).tableBad = true := by simp [hb]
  exact (if_neg hg).trans (congrArg _ (if_neg hb'))

theorem exec_safeTableCheck_good (n : Fin 8) (t : Ns) (s : State) : exec (.safeTableCheck n t true) s = .next (setNow s t) := by
  change execSafeTableCheck n t true s = _
  simp [execSafeTableCheck]

/-- EVR_STATUS is none of the aisles' status words. -/
theorem evrStatus_ne_aisStatus (n : Fin 8) : regAddr .evrStatus 0 ≠ regAddr .aisStatus n := by revert n; decide

/-! ## AIS_CMD (R243, R266, R267) -/

section
variable {n : Fin 8} {s : State} (h : s.rlt.ctx = none)
include h

theorem exec_aisleResumeCmd : exec (.aisleResumeCmd n) s = .next (aisResume (addItem s (.write (regAddr .aisCmd n) 1#32)) n) :=
  congrArg _ (rowCmd_free h ..)

theorem exec_sweepStart : exec (.sweepStart n) s = .next (sweepBegin (addItem s (.write (regAddr .aisCmd n) 2#32)) n) :=
  congrArg _ (rowCmd_free h ..)

theorem exec_sweepAbort : exec (.sweepAbort n) s = .next (sweepAbort (addItem s (.write (regAddr .aisCmd n) 4#32)) n) :=
  congrArg _ (rowCmd_free h ..)

theorem exec_aisleClearCounts : exec (.aisleClearCounts n) s = .next (aisClear (addItem s (.write (regAddr .aisCmd n) 8#32)) n) := by
  change execAisleClearCounts n s = _
  rw [execAisleClearCounts, rowCmd_free h]

end

theorem exec_aisCmd_busy {n : Fin 8} {s : State} (h : s.rlt.ctx.isSome = true) :
    exec (.aisleResumeCmd n) s = .next (report s hostReq (regAddr .aisCmd n) .busy) ∧
    exec (.aisleClearCounts n) s = .next (report s hostReq (regAddr .aisCmd n) .busy) ∧
    exec (.sweepStart n) s = .next (report s hostReq (regAddr .aisCmd n) .busy) ∧
    exec (.sweepAbort n) s = .next (report s hostReq (regAddr .aisCmd n) .busy) :=
  ⟨congrArg _ (rowCmd_busy h ..), congrArg _ (rowCmd_busy h ..), congrArg _ (rowCmd_busy h ..), congrArg _ (rowCmd_busy h ..)⟩

theorem aisResume_safe {n : Nat} {s : State} (h : (aisOf s n).st = .safe) :
    aisResume s n = setAis s n { aisOf s n with resumeReq := true } := if_pos h

theorem aisResume_other {n : Nat} {s : State} (h : (aisOf s n).st ≠ .safe) : aisResume s n = s := if_neg h

/-- Clearing an aisle's counts changes its own and its stalls' records alone (R267). -/
theorem aisClear_eq (s : State) (n : Nat) : ∃ st, aisClear s n =
    { setAis s n { aisOf s n with crcErrors := 0, losses := 0 } with
      aisle := { (setAis s n { aisOf s n with crcErrors := 0, losses := 0 }).aisle with st := st } } :=
  forEach_setStl_eq (fun s i => { stlOf s i with failures := 0, lostEdges := 0 }) _ _

/-! ## Sweeps (R261, R262) -/

theorem sweepBegin_starts {n : Nat} {s : State} (hl : (aisOf s n).st = .linked) (hg : s.pair.gate = true) (hs : started s = true)
    (hr : (aisOf s n).sweep.running = false) : sweepBegin s n = sweepGo (setAis s n { aisOf s n with sweep := { Sweep.none with
      running := true, allLive := aisFault s n, results := (stallsOf n).map (fun i => if isDo s i then 0 else 3) } }) n 0 :=
  if_pos ⟨hl, hg, hs, hr⟩

/-- A sweep is refused with SWEEP_STATE where one of its conditions fails (R261). -/
theorem sweepBegin_refused {n : Nat} {s : State}
    (h : (aisOf s n).st ≠ .linked ∨ s.pair.gate = false ∨ started s = false ∨ (aisOf s n).sweep.running = true) :
    sweepBegin s n = stick s .aisSweepStatus n 8 := by
  refine if_neg ?_
  rintro ⟨hl, hg, hs, hr⟩
  simp [hl, hg, hs, hr] at h

theorem sweepAbort_running {n : Nat} {s : State} (h : (aisOf s n).sweep.running = true) :
    sweepAbort s n = stick (setAis s n { aisOf s n with sweep := { (aisOf s n).sweep with
      running := false, pulsing := false, gap := false, done := true, aborted := true, wide := false } }) .aisSweepStatus n 5 := if_pos h

theorem sweepAbort_idle {n : Nat} {s : State} (h : (aisOf s n).sweep.running = false) : sweepAbort s n = s :=
  if_neg (Bool.not_eq_true _ ▸ h)

/-- The aisle when the pulse of its stall ends at t with AISLE_FAULT as sampled (R261). -/
def afterPulse (s : State) (n t : Nat) (f : Bool) : Aisle :=
  { aisOf s n with sweep := { (aisOf s n).sweep with
      pulsing := false, gap := true,
      results := setAt (aisOf s n).sweep.results (aisOf s n).sweep.stall (if sweepBad (aisOf s n).sweep f then 2 else 1),
      allLive := (aisOf s n).sweep.allLive && f, until_ := t + regF s .aisSweepCfg n 16 10 * msNs } }

/-- The end of a pulse: the gap to the next stall, or the sweep's end where no stall is left (R261). -/
theorem exec_sweepPulseEnd {n : Fin 8} {t : Ns} {f : Bool} {s : State} (hp : (aisOf s n).sweep.pulsing = true)
    (ht : (aisOf s n).sweep.until_ ≤ t) : exec (.sweepPulseEnd n t f) s =
      .next (if (sweepNext s n ((aisOf s n).sweep.stall + 1)).isNone then sweepFinish (setAis (setNow s t) n (afterPulse s n t f)) n false
        else setAis (setNow s t) n (afterPulse s n t f)) := if_pos ⟨hp, ht⟩

theorem exec_sweepGapEnd {n : Fin 8} {t : Ns} {s : State} (hr : (aisOf s n).sweep.running = true) (hg : (aisOf s n).sweep.gap = true)
    (ht : (aisOf s n).sweep.until_ ≤ t) :
    exec (.sweepGapEnd n t) s = .next (sweepGo (setNow s t) n ((aisOf s n).sweep.stall + 1)) := congrArg _ (if_pos ⟨hr, hg, ht⟩)

end Sys2Proof.Machine
end

section
/-!
The aisles' commands complete with their effects (O21), one lemma a clause that takes more than its command's equation.
-/
namespace Sys2Proof.Machine

open Sys2Proof

section
variable {n : Fin 8} {t : Ns} {s : State}

theorem upstream_bad_yields (hr : coreRuns s = true) (hp : (aisOf s n).st ≠ .unpowered) :
    Yields (.aisleUpstreamSubframe n t false) s (fun u => u.now = max s.now t ∧ OnlyAt aisOf n s u ∧ aisOf u n =
      { aisOf s n with crcErrors := satInc 16 (aisOf s n).crcErrors, upOk := 0, edges := (aisOf s n).edges.drop 8, recs := [] }) :=
  ⟨_, exec_upstream_bad hr hp, badSubframe_up (setNow s t) n⟩

theorem downstream_bad_yields (hr : coreRuns s = true) (hp : (aisOf s n).st ≠ .unpowered) :
    Yields (.aisleDownstreamSubframe n t false) s (fun u => u.now = max s.now t ∧ OnlyAt aisOf n s u ∧
      (aisOf u n).crcErrors = satInc 16 (aisOf s n).crcErrors ∧ (aisOf u n).downOk = 0 ∧ (aisOf u n).toSend = []) :=
  ⟨_, exec_downstream_bad hr hp, badSubframe_down (setNow s t) n⟩

theorem resumeCmd_effect (h : s.rlt.ctx = none) (hs : (aisOf s n).st = .safe) :
    Effect (.aisleResumeCmd n) s [.aisle, .wax] [] (fun u =>
      u.wax = (addItem s (.write (regAddr .aisCmd n) 1#32)).wax ∧ OnlyAis n s u ∧ aisOf u n = { aisOf s n with resumeReq := true }) :=
  .intro ((exec_aisleResumeCmd h).trans (congrArg _ (aisResume_safe hs))) (((Within.refl s).then_addItem _).then_setAis _ _)
    ⟨rfl, onlyAis_of_aisle rfl⟩

theorem safeTableCheck_effect (h : (aisOf s n).safeTable ≠ []) (hb : (aisOf s n).tableBad = false) :
    Effect (.safeTableCheck n t false) s [.time, .aisle, .recorder] [(.aisStatus, n), (.evrStatus, 0)] (fun u =>
      OnlyAis n s u ∧ aisOf u n = { aisOf s n with tableBad := true } ∧ regB u .aisStatus n 8 = true) := by
  refine .intro (exec_safeTableCheck_bad h hb) (((((Within.refl s).then_setNow t).then_setAis _ _).then_stick _ _ _).then_logEv _ _ _) ?_
  obtain ⟨ho, ha⟩ := onlyAis_of_aisle (logEv_aisle (stick (setAis (setNow s t) n { aisOf s n with tableBad := true }) .aisStatus n 8) ..)
  exact ⟨ho, ha, (regB_logEv_ne _ _ _ _ _ (evrStatus_ne_aisStatus n)).trans (regB_stick_same _ _ _ (by decide))⟩

theorem clearCounts_yields (h : s.rlt.ctx = none) : Yields (.aisleClearCounts n) s (fun u => OnlyAt aisOf n s u ∧
    aisOf u n = { aisOf s n with crcErrors := 0, losses := 0 } ∧ u.rec_ = s.rec_ ∧ u.rf = s.rf ∧ u.loop = s.loop ∧ u.moist = s.moist) := by
  obtain ⟨st, hc⟩ := aisClear_eq (addItem s (.write (regAddr .aisCmd n) 8#32)) n
  refine ⟨_, (exec_aisleClearCounts h).trans (congrArg _ hc), rfl, ?_, ?_, rfl, rfl, rfl, rfl⟩
  · exact OnlyAt.set setAis_ne s n _
  · exact setAis_same s n _

theorem sweepBegin_refused_changes
    (h : (aisOf s n).st ≠ .linked ∨ s.pair.gate = false ∨ started s = false ∨ (aisOf s n).sweep.running = true) :
    Changes s (sweepBegin s n) [] [(.aisSweepStatus, n)] (fun u => regB u .aisSweepStatus n 8 = true) := by
  rw [sweepBegin_refused h]
  exact .intro ((Within.refl s).then_stick _ _ _) (regB_stick_same _ _ _ (by decide))

theorem sweepAbort_effect (h : s.rlt.ctx = none) (hr : (aisOf s n).sweep.running = true) :
    Effect (.sweepAbort n) s [.aisle, .wax] [(.aisSweepStatus, n)] (fun u =>
      u.wax = (addItem s (.write (regAddr .aisCmd n) 4#32)).wax ∧ OnlyAis n s u ∧ aisOf u n = { aisOf s n with sweep :=
        { (aisOf s n).sweep with running := false, pulsing := false, gap := false, done := true, aborted := true, wide := false } } ∧
      regB u .aisSweepStatus n 5 = true) := by
  refine .intro ((exec_sweepAbort h).trans (congrArg _ (sweepAbort_running hr)))
    ((((Within.refl s).then_addItem _).then_setAis _ _).then_stick _ _ _) ?_
  obtain ⟨ho, ha⟩ := onlyAis_of_aisle (s := s) (u := stick (setAis (addItem s (.write (regAddr .aisCmd n) 4#32)) n { aisOf s n with sweep :=
    { (aisOf s n).sweep with running := false, pulsing := false, gap := false, done := true, aborted := true, wide := false } })
    .aisSweepStatus n 5) rfl
  exact ⟨rfl, ho, ha, regB_stick_same _ _ _ (by decide)⟩

end

/-- Settles O21, clause by clause from the equations and effects above. -/
theorem aisleCommandsComplete : Obligations.AisleCommandsComplete := by
  refine ⟨?powerUp, ?powerStays, ?uv, ?uvEnd, ?avl, ?upBad, ?downBad, ?up, ?upWaits, ?down, ?coreLost, ?lostLinked, ?lostOther, ?resume,
    ?resumeOther, ?tableBad, ?tableGood, ?clear, ?start, ?begins, ?refused, ?abort, ?abortIdle, ?busy, ?pulse, ?pulseLast, ?gap, ?timed⟩
  case powerUp => exact fun n t v s hv hs => effect_setNow_setAis (by rw [exec_aislePowerUp n t v hv, if_pos hs])
  case powerStays => exact fun n t v s hv hs => effect_setNow_setAis (by rw [exec_aislePowerUp n t v hv, if_neg hs])
  case uv => exact fun n t v s hv => effect_setNow_setAis (exec_fieldUndervoltage n t v hv)
  case uvEnd => exact fun n t v s hv => effect_setNow_setAis (exec_fieldUndervoltageEnd n t v hv)
  case avl => exact fun n t v s hv => exec_avlUndervoltage n t v hv
  case upBad => exact fun n t s hr hp => upstream_bad_yields hr hp
  case downBad => exact fun n t s hr hp => downstream_bad_yields hr hp
  case up => exact fun n t s hr hp he => exec_upstream_taken hr hp he
  case upWaits => exact fun n t s hr hp he => exec_upstream_waits hr hp he
  case down => exact fun n t s hr hp => exec_downstream_taken hr hp
  case coreLost => exact fun n t s hr hl ht => exec_coreLinkLost hr hl ht
  case lostLinked => exact fun n t s hp hl ht hs => (exec_aisleLinkLost hp hl ht).trans (congrArg _ (if_pos hs))
  case lostOther => exact fun n t s hp hl ht hs => (exec_aisleLinkLost hp hl ht).trans (congrArg _ (if_neg hs))
  case resume => exact fun n s h hs => resumeCmd_effect h hs
  case resumeOther => exact fun n s h hs => (exec_aisleResumeCmd h).trans (congrArg _ (aisResume_other hs))
  case tableBad => exact fun n t s h hb => safeTableCheck_effect h hb
  case tableGood => exact fun n t s => .intro (exec_safeTableCheck_good n t s) ((Within.refl s).then_setNow t) rfl
  case clear => exact fun n s h => clearCounts_yields h
  case start => exact fun n s h => exec_sweepStart h
  case begins => exact fun n s hl hg hs hr => sweepBegin_starts hl hg hs hr
  case refused => exact fun n s h => sweepBegin_refused_changes h
  case abort => exact fun n s h hr => sweepAbort_effect h hr
  case abortIdle => exact fun n s h hr => (exec_sweepAbort h).trans (congrArg _ (sweepAbort_idle hr))
  case busy => exact fun n s h => exec_aisCmd_busy h
  case pulse => exact fun n t f s hp ht hn => (exec_sweepPulseEnd hp ht).trans (congrArg _ (if_neg (Bool.not_eq_true _ ▸ hn)))
  case pulseLast => exact fun n t f s hp ht hn => (exec_sweepPulseEnd hp ht).trans (congrArg _ (if_pos hn))
  case gap => exact fun n t s hr hg ht => exec_sweepGapEnd hr hg ht
  case timed => exact fun n t s hs hl => if_pos ⟨hs, hl⟩

end Sys2Proof.Machine
end

section
/-!
SUPPORT. Wicks (R31 to R54): what each wick command and happening does where the spec has it act.
-/
namespace Sys2Proof.Machine

open Sys2Proof

/-! ## One wick -/

/-- A state whose wicks are those of `setWick s w x` differs in wick w alone, and there shows x. -/
theorem onlyWick_of_wick {s u : State} {w : Nat} {x : Wick} (h : u.wick = (setWick s w x).wick) : OnlyWick w s u ∧ wickOf u w = x := by
  have hw : ∀ k, wickOf u k = wickOf (setWick s w x) k := fun k => by rw [wickOf, wickOf, h]
  refine ⟨⟨fun j hj => (hw j).trans (setWick_ne s x hj), ?_⟩, (hw w).trans (setWick_same s w x)⟩
  rw [h]; rfl

theorem Within.then_setWick {ps : List Part} {rs : List (RegName × Nat)} {s t : State} (k : Within ps rs s t) (w : Nat) (x : Wick)
    (h : Part.wick ∈ ps := by decide) : Within ps rs s (setWick t w x) :=
  k.trans ⟨fun p hp => by cases p <;> simp_all [Part.same], .of_rf rs rfl⟩

/-- A command that changes wick w alone. -/
theorem effect_setWick {c : Instr} {s : State} {w : Nat} {x : Wick} (h : exec c s = .next (setWick s w x)) :
    Effect c s [.wick] [] (fun u => OnlyWick w s u ∧ wickOf u w = x) :=
  .intro h ((Within.refl s).then_setWick w x) (onlyWick_of_wick rfl)

/-- A happening at t that changes wick w alone. -/
theorem effect_setNow_setWick {c : Instr} {s : State} {w t : Nat} {x : Wick} (h : exec c s = .next (setWick (setNow s t) w x)) :
    Effect c s [.time, .wick] [] (fun u => u.now = max s.now t ∧ OnlyWick w s u ∧ wickOf u w = x) :=
  .intro h (((Within.refl s).then_setNow t).then_setWick w x) ⟨rfl, onlyWick_of_wick rfl⟩

/-- EVR_STATUS is none of the wicks' status words. -/
theorem evrStatus_ne_wckStatus (w : Fin 64) : regAddr .evrStatus 0 ≠ regAddr .wckStatus w := by revert w; decide

/-! ## Loss (R41, R42) -/

/-- A loss leaves the wick LOST at speed 0 with one more loss, and no other wick changed (R42). -/
theorem loseWick_lost {s : State} {w : Nat} (t : Nat) (hl : (wickOf s w).st ≠ .lost) (hd : (wickOf s w).st ≠ .disabled) :
    OnlyWick w s (loseWick s w t) ∧ (wickOf (loseWick s w t) w).st = .lost ∧ (wickOf (loseWick s w t) w).speed = 0 ∧
      (wickOf (loseWick s w t) w).losses = satInc 16 (wickOf s w).losses := by
  obtain ⟨ho, hx⟩ := onlyWick_of_wick (loseWick_wick s w t hl hd)
  exact ⟨ho, by rw [hx], by rw [hx], by rw [hx]⟩

/-- A happening at t that loses wick w. -/
theorem yields_loseWick {c : Instr} {s : State} {w t : Nat} (h : exec c s = .next (loseWick (setNow s t) w t))
    (hl : (wickOf s w).st ≠ .lost) (hd : (wickOf s w).st ≠ .disabled) :
    Yields c s (fun u => OnlyWick w s u ∧ (wickOf u w).st = .lost ∧ (wickOf u w).speed = 0 ∧
      (wickOf u w).losses = satInc 16 (wickOf s w).losses) :=
  ⟨_, h, (loseWick_follows (setNow s t) w t (.refl _)).1, loseWick_lost (s := setNow s t) t hl hd⟩

section
variable {w : Fin 64} {t : Ns} {s : State}

theorem exec_wickLoss (h : lossHolds s w = true) : exec (.wickLoss w t) s = .next (loseWick (setNow s t) w t) := congrArg _ (if_pos h)

theorem exec_wickRecovery (hl : (wickOf s w).st = .lost) (h : recoverHolds s w t = true) :
    exec (.wickRecovery w t) s = .next (recoverWick (setNow s t) w) := congrArg _ (if_pos ⟨hl, h⟩)

theorem exec_subscribedWickLoss {a : Ns} (ha : (wickOf s w).lateSince = some a) (hk : wickKind s w = .subscribed)
    (ht : a + 3 * pubPeriod s w ≤ t) : exec (.subscribedWickLoss w t) s = .next (loseWick (setNow s t) w t) := by
  change execSubscribedWickLoss w t s = _
  simp only [execSubscribedWickLoss, wickOf_setNow, ha]
  exact congrArg _ (if_pos ⟨hk, ht⟩)

section
variable (hk : wickKind s w = .mains) (ht : (wickOf s w).lastCross + mainsTimeout s w ≤ t)
include hk ht

/-- The powered core loses a MAINS wick that runs (R46). -/
theorem exec_mainsCrossingTimeout_running (hs : (wickOf s w).st = .running) (hp : s.snf.corePowered = true) :
    exec (.mainsCrossingTimeout w t) s = .next (loseWick (setNow s t) w t) := by
  have hg : ¬ ((setNow s t).snf.corePowered = false ∧ (wickOf (setNow s t) w).st ≠ .disabled) := by simp [hp]
  exact congrArg _ ((if_pos ⟨hk, ht⟩).trans ((if_neg hg).trans (if_pos hs)))

/-- In dormant mode the loss is noted and the state stands (R51). -/
theorem exec_mainsCrossingTimeout_dormant (hd : (wickOf s w).st ≠ .disabled) (hp : s.snf.corePowered = false) :
    exec (.mainsCrossingTimeout w t) s = .next (setWick (setNow s t) w { wickOf s w with dormLost := true }) :=
  congrArg _ ((if_pos ⟨hk, ht⟩).trans (if_pos ⟨hp, hd⟩))

end

/-! ## Presets, counts and findings (R34, R43, R44, R54) -/

theorem exec_wickPresetRequest {v : Int} (hd : (wickOf s w).st ≠ .disabled) :
    exec (.wickPresetRequest w v) s = .next (setWick s w { wickOf s w with pending := some (.abs (wrap48 v)) }) :=
  congrArg _ (if_neg hd)

theorem exec_wickPhaseError (hk : wickKind s w = .quad ∨ wickKind s w = .enc ∨ wickKind s w = .hall) (hl : (wickOf s w).st ≠ .lost)
    (hd : (wickOf s w).st ≠ .disabled) : exec (.wickPhaseError w t) s = .next (phaseError (setNow s t) w) :=
  congrArg _ (if_pos ⟨hk, hl, hd⟩)

theorem exec_wickFrozen (h : freezeOver s w t = true) : exec (.wickFrozen w t) s = .next (declareFreeze (setNow s t) w) :=
  congrArg _ (if_pos h)

/-! ## Edges (R31, R35, R39, R46, R51) -/

/-- An edge whose kind decides its direction is a tick of that direction after the invert bit (R31, R39). -/
theorem takeEdge_decided {e : TickEdge} {r : Bool} (hd : (wickOf s w).st ≠ .disabled) (hl : (wickOf s w).st ≠ .lost)
    (hp : s.snf.corePowered = true) (hk : wickKind s w ≠ .mains) (he : edgeRev s w e = some r) :
    takeEdge s w t e = countTick s w (wickDir s w r) t := by
  unfold takeEdge
  rw [if_neg hd, if_neg (by simp [hp])]
  split
  case h_1 hm => exact absurd hm hk
  case h_2 hm => simp [edgeRev, hm] at he
  case h_3 => simp [he, hl, decodedTick]

theorem takeEdge_mains (hd : (wickOf s w).st ≠ .disabled) (hp : s.snf.corePowered = true) (hk : wickKind s w = .mains) :
    takeEdge s w t .cross = mainsCross s w t := by simp [takeEdge, hd, hp, hk]

theorem takeEdge_hall {c : Nat} (hd : (wickOf s w).st ≠ .disabled) (hl : (wickOf s w).st ≠ .lost) (hp : s.snf.corePowered = true)
    (hk : wickKind s w = .hall) : takeEdge s w t (.hall c) = hallEdge s w t c := by simp [takeEdge, hd, hl, hp, hk]

theorem takeEdge_dormant {e : TickEdge} (hd : (wickOf s w).st ≠ .disabled) (hp : s.snf.corePowered = false) :
    takeEdge s w t e = dormantEdge s w t e := by simp [takeEdge, hd, hp]

/-- A wick that ticked stands once still_ms has passed without a tick (R39). -/
theorem takeTimeout_still (hs : (wickOf s w).st = .starting ∨ (wickOf s w).st = .running ∨ (wickOf s w).st = .reversing)
    (hm : wickKind s w ≠ .mains) (hb : wickKind s w ≠ .subscribed) (ht : (wickOf s w).edgeTime + stillNs s w ≤ t) :
    takeTimeout s w t = setWick s w { wickOf s w with
      st := .still, speed := 0, stillFrom := some (cycleOf t, (wickOf s w).st, (wickOf s w).speed) } := if_pos ⟨hs, hm, hb, ht⟩

/-- No latch is taken while the core domain is unpowered (R35, R51). -/
theorem inLatchCycle_unpowered (hp : s.snf.corePowered = false) : inLatchCycle s t = false := by simp [inLatchCycle, latching, hp]

/-- The latch is taken 4 µs before a boundary, from the boot stage on in which latches run (R35, R393). -/
theorem exec_wickSnapshotLatch (ht : (t + 4000) % 125000 = 0) (hp : s.snf.corePowered = true) (hb : 1 ≤ s.snf.stage) :
    exec (.wickSnapshotLatch t) s = .next (snapAll (setNow s t) t) := by
  have hg : (t + 4000) % frameNs = 0 ∧ (setNow s t).snf.corePowered = true ∧ 1 ≤ (setNow s t).snf.stage := ⟨ht, hp, hb⟩
  change execWickSnapshotLatch t s = _
  rw [execWickSnapshotLatch, if_pos hg]

section
variable (hh : s.wick.held = [])
include hh

theorem exec_wickTick_now {e : TickEdge} (hc : inLatchCycle (setNow s t) t = false) :
    exec (.wickTick w t e) s = .next (takeEdge (setNow s t) w t e) := congrArg _ (tickEvent_edge (setNow s t) w t e hh hc)

theorem exec_wickTick_waits {e : TickEdge} (hc : inLatchCycle (setNow s t) t = true) : exec (.wickTick w t e) s =
    .next { setNow s t with wick := { s.wick with held := [{ wick := w, t := t, edge := some e }] } } :=
  congrArg _ (tickEvent_waits (setNow s t) w t (some e) hh hc)

theorem exec_wickStandstillTimeout
    (hs : (wickOf s w).st = .starting ∨ (wickOf s w).st = .running ∨ (wickOf s w).st = .reversing)
    (hm : wickKind s w ≠ .mains) (hb : wickKind s w ≠ .subscribed) (ht : (wickOf s w).edgeTime + stillNs s w ≤ t)
    (hc : inLatchCycle (setNow s t) t = false) : exec (.wickStandstillTimeout w t) s = .next (setWick (setNow s t) w { wickOf s w with
      st := .still, speed := 0, stillFrom := some (cycleOf t, (wickOf s w).st, (wickOf s w).speed) }) :=
  congrArg _ ((tickEvent_timeout (setNow s t) w t hh hc).trans (takeTimeout_still (s := setNow s t) hs hm hb ht))

end
end

end Sys2Proof.Machine
end

section
/-!
The wicks' commands and happenings complete with their effects (O5, O6), one lemma a clause that takes more than its command's equation.
-/
namespace Sys2Proof.Machine

open Sys2Proof

section
variable {w : Fin 64} {t : Ns} {s : State}

/-- A phase error is counted, flagged and recorded (R34). -/
theorem phaseError_effect (hk : wickKind s w = .quad ∨ wickKind s w = .enc ∨ wickKind s w = .hall) (hl : (wickOf s w).st ≠ .lost)
    (hd : (wickOf s w).st ≠ .disabled) :
    Effect (.wickPhaseError w t) s [.time, .wick, .recorder] [(.wckStatus, w), (.evrStatus, 0)] (fun u =>
      u.now = max s.now t ∧ OnlyWick w s u ∧
      wickOf u w = { wickOf s w with phaseErrors := satInc 16 (wickOf s w).phaseErrors } ∧ regB u .wckStatus w 9 = true) := by
  refine .intro (exec_wickPhaseError hk hl hd)
    (((((Within.refl s).then_setNow t).then_setWick _ _).then_stick _ _ _).then_logEv _ _ _) ⟨logEv_now .., ?_⟩
  obtain ⟨ho, hx⟩ := onlyWick_of_wick (s := s) (u := phaseError (setNow s t) w) (logEv_wick ..)
  exact ⟨ho, hx, (regB_logEv_ne _ _ _ _ _ (evrStatus_ne_wckStatus w)).trans (regB_stick_same _ _ _ (by decide))⟩

/-- A freeze is declared and recorded (R43). -/
theorem wickFrozen_effect (h : freezeOver s w t = true) :
    Effect (.wickFrozen w t) s [.time, .wick, .recorder] [(.evrStatus, 0)] (fun u =>
      u.now = max s.now t ∧ OnlyWick w s u ∧ wickOf u w = { wickOf s w with frozen := true }) :=
  .intro (exec_wickFrozen h) ((((Within.refl s).then_setNow t).then_setWick _ _).then_logEv _ _ _)
    ⟨logEv_now .., onlyWick_of_wick (logEv_wick ..)⟩

end

/-- Settles O5, clause by clause from the equations and effects above. -/
theorem wickCommandsComplete : Obligations.WickCommandsComplete := by
  refine ⟨?preset, ?clear, ?phase, ?still, ?presetEq, ?clearEq, ?phaseEq, ?stillEq⟩
  case preset => exact fun w v s hd => effect_setWick (exec_wickPresetRequest hd)
  case clear => exact fun w s => effect_setWick rfl
  case phase => exact fun w t s hk hl hd => phaseError_effect hk hl hd
  case still => exact fun w t s hs hm hb ht hh hc => effect_setNow_setWick (exec_wickStandstillTimeout hh hs hm hb ht hc)
  case presetEq => exact fun w v s hd => exec_wickPresetRequest hd
  case clearEq => exact fun w s => rfl
  case phaseEq => exact fun w t s hk hl hd => exec_wickPhaseError hk hl hd
  case stillEq => exact fun w t s hs hm hb ht hh hc => exec_wickStandstillTimeout hh hs hm hb ht hc

/-- Settles O6: an edge by what `takeEdge` makes of it, the losses by `loseWick_lost`. -/
theorem wickTicksComplete : Obligations.WickTicksComplete := by
  refine ⟨?tick, ?waits, ?mains, ?hall, ?dormant, ?latch, ?loss, ?crossing, ?crossingDormant, ?late, ?recovery, ?frozen⟩
  case tick =>
    exact fun w t e r s hd hl hp hk he hh hc =>
      (exec_wickTick_now hh hc).trans (congrArg _ (takeEdge_decided (s := setNow s t) hd hl hp hk he))
  case waits => exact fun w t e s hh hc => exec_wickTick_waits hh hc
  case mains =>
    exact fun w t s hd hp hk hh hc => (exec_wickTick_now hh hc).trans (congrArg _ (takeEdge_mains (s := setNow s t) hd hp hk))
  case hall =>
    exact fun w t c s hd hl hp hk hh hc => (exec_wickTick_now hh hc).trans (congrArg _ (takeEdge_hall (s := setNow s t) hd hl hp hk))
  case dormant =>
    exact fun w t e s hd hp hh => (exec_wickTick_now hh (inLatchCycle_unpowered (s := setNow s t) hp)).trans
      (congrArg _ (takeEdge_dormant (s := setNow s t) hd hp))
  case latch => exact fun t s ht hp hb => exec_wickSnapshotLatch ht hp hb
  case loss => exact fun w t s hl hd h => yields_loseWick (exec_wickLoss h) hl hd
  case crossing => exact fun w t s hl hd hk hs ht hp => yields_loseWick (exec_mainsCrossingTimeout_running hk ht hs hp) hl hd
  case crossingDormant =>
    exact fun w t s hk ht hd hp => effect_setNow_setWick (exec_mainsCrossingTimeout_dormant hk ht hd hp)
  case late => exact fun w t a s hl hd ha hk ht => yields_loseWick (exec_subscribedWickLoss ha hk ht) hl hd
  case recovery => exact fun w t s hl h => exec_wickRecovery hl h
  case frozen => exact fun w t s h => wickFrozen_effect h

end Sys2Proof.Machine
end

section
/-!
SUPPORT. The lamplighter (R55 to R70): what each host request, due action, cap and tick does where the spec has it act.
-/
namespace Sys2Proof.Machine

open Sys2Proof

theorem Within.then_llt {ps : List Part} {rs : List (RegName × Nat)} {s t : State} (k : Within ps rs s t) (x : LltState)
    (h : Part.llt ∈ ps := by decide) : Within ps rs s { t with llt := x } :=
  k.trans ⟨fun p hp => by cases p <;> simp_all [Part.same], .of_rf rs rfl⟩

/-! ## Host requests (R57, R58) -/

/-- The request that a write of LLT_CMD stages: the records of the staging registers, the end record for an arm of a window (R58). -/
def hostRequest (s : State) (op : ArmOp) (slot : Nat) (alloc window : Bool) : ArmReq :=
  { op := op, owner := .host, slot := slot, alloc := alloc, first := actOfWords (fun i => regW s .lltStage i),
    second := if op = .arm then (if window then some (actOfWords (fun i => regW s .lltStageEnd i)) else none) else none,
    frame := frameNow s }

section
variable {s : State} {op : ArmOp} {slot : Nat} {alloc window : Bool}

theorem lltHost_staged (h : s.llt.result ≠ 1) : lltHost s op slot alloc window =
    ({ s with llt := { s.llt with reqs := s.llt.reqs ++ [hostRequest s op slot alloc window], result := 1, resultSlot := slot } }, .ok) :=
  if_neg h

theorem lltHost_busy (h : s.llt.result = 1) : lltHost s op slot alloc window = (s, .busy) := if_pos h

/-- A host request with none pending is staged, and nothing but the lamplighter changes (R57, R58). -/
theorem hostRequest_effect {c : Instr}
    (hc : exec c s = .next (report (lltHost s op slot alloc window).1 hostReq (regAddr .lltCmd 0) (lltHost s op slot alloc window).2))
    (h : s.llt.result ≠ 1) : Effect c s [.llt] [] (fun u =>
      u.llt = { s.llt with result := 1, resultSlot := slot, reqs := s.llt.reqs ++ [hostRequest s op slot alloc window] }) := by
  rw [lltHost_staged h] at hc
  exact .intro hc ((Within.refl s).then_llt _) rfl

end

/-- A host request that finds one pending is turned away (R58). -/
theorem exec_lltArm_busy {s : State} (slot : Fin 16384) (alloc window : Bool) (h : s.llt.result = 1) :
    exec (.lltArm slot alloc window) s = .next (report s hostReq (regAddr .lltCmd 0) .busy) := by
  change execLltArm slot alloc window s = _
  rw [execLltArm, lltHost_busy h]

/-! ## Time actions (R60, R61, R65, R66) -/

/-- A local time action whose key is reached executes, late where it waited too long, and repeats or is FIRED (R60, R61, R66). -/
theorem dueSlot_local {s : State} {i : Nat} (hl : lltLive s = true) (hs : (slotOf s i).st = .armed)
    (hk : (slotOf s i).rec_.keyTime = true) (hd : (slotOf s i).rec_.key ≤ (s.now : Int)) (hm : (slotOf s i).rec_.market = false) :
    dueSlot s i false =
      let k := (slotOf s i).rec_.key.toNat
      let u := if waitLate s (slotOf s i).rec_ k then markLate s i else s
      if (slotOf s i).rec_.rep then advance (runActAt u i k s.now) i else runActAt (setSt u i .fired) i k s.now := by
  unfold dueSlot
  dsimp only
  rw [if_pos ⟨hl, hs, hk, hd⟩, hm, Bool.false_and, if_neg Bool.false_ne_true, Bool.false_or]

/-- A time action that comes due with none before it is taken itself (R60, R66). -/
theorem exec_timeActionDue_first {s : State} {slot : Fin 16384} {t : Ns} (hs : (slotOf s slot).st = .armed)
    (hk : (slotOf s slot).rec_.keyTime = true) (hd : (slotOf s slot).rec_.key ≤ (max s.now t : Nat))
    (hb : dueBefore (setNow s t) slot = []) : exec (.timeActionDue slot t) s = .next (dueSlot (setNow s t) slot false) := by
  change execTimeActionDue slot t s = _
  rw [execTimeActionDue, hb]
  exact congrArg _ (if_pos ⟨hs, hk, hd⟩)

/-! ## Windows (R62) -/

/-- The cap of an OPEN window ends it (R62). -/
theorem exec_windowCapExpiry_open {s : State} {slot : Fin 16384} {t c : Ns} (hc : (slotOf s (winBase slot)).capAt = some c)
    (hl : lltLive s = true) (hs : (slotOf s (winBase slot)).st = .open_) (ht : c ≤ t) :
    exec (.windowCapExpiry slot t) s = .next (endWindow (setNow s t) (winBase slot) .capped (max s.now t)) := by
  change execWindowCapExpiry slot t s = _
  simp only [execWindowCapExpiry, slotOf_setNow, hc]
  exact congrArg _ (if_pos ⟨hl, hs, ht⟩)

/-! ## Crossings (R59, R61) -/

section
variable {s : State} {i w T : Nat} {rev : Bool}

/-- A tick with count c and direction `rev` crosses an action (R59): its key is c, its dir this direction or either. -/
abbrev Crosses (a : ActRec) (c : Int) (rev : Bool) : Prop := c = a.key ∧ (a.dir = 2 ∨ rev = false ∧ a.dir = 0 ∨ rev = true ∧ a.dir = 1)

/-- The model's test of a tick is R59's crossing. -/
theorem crosses_iff (a : ActRec) (c : Int) (rev : Bool) :
    (c = a.key ∧ ((a.dir == 2) || (if rev then a.dir == 1 else a.dir == 0)) = true) ↔ Crosses a c rev := by
  cases rev <;> simp [Crosses]

/-- A tick of another wick, or for a time action, leaves a slot alone (R59, R60). -/
theorem tickSlot_other (h : (slotOf s i).rec_.keyTime = true ∨ (slotOf s i).rec_.wick ≠ w) : tickSlot s i w rev T = s := if_pos h

section
variable (hk : (slotOf s i).rec_.keyTime = false) (hw : (slotOf s i).rec_.wick = w) (hs : (slotOf s i).st = .armed)
  (hi : (slotOf s i).inhibited = false) (he : (slotOf s i).rec_.winEnd = false) (hb : (slotOf s i).rec_.winStart = false)
  (hr : (slotOf s i).rec_.rep = false)
include hk hw hs hi he hb hr

/-- The tick of its wick finds an armed action that neither repeats nor bounds a window: only the crossing is left to test. -/
theorem tickSlot_once : tickSlot s i w rev T =
    if Crosses (slotOf s i).rec_ (wickOf s w).count rev then runActAt (setSt s i .fired) i T s.now else s := by
  have hown : ¬ ((slotOf s i).rec_.keyTime = true ∨ (slotOf s i).rec_.wick ≠ w) := by simp [hk, hw]
  unfold tickSlot
  dsimp only
  rw [if_neg hown, if_pos ⟨hs, he⟩]
  simp only [hi, hb, hr, Bool.false_eq_true, if_false, crosses_iff]

end
end

end Sys2Proof.Machine
end

section
/-!
The lamplighter's commands complete with their effects (O7), and a tick fires exactly the wick actions it crosses (O59).
-/
namespace Sys2Proof.Machine

open Sys2Proof

/-- Settles O7, clause by clause from the equations and effects above. -/
theorem lamplighterCommandsComplete : Obligations.LamplighterCommandsComplete := by
  refine ⟨?arm, ?disarm, ?free, ?busy, ?apply, ?due, ?cap⟩
  case arm => exact fun slot alloc window s h => hostRequest_effect (op := .arm) rfl h
  case disarm => exact fun slot alloc window s h => hostRequest_effect (op := .disarm) (window := window) rfl h
  case free => exact fun slot alloc window s h => hostRequest_effect (op := .free) (window := window) rfl h
  case busy => exact fun slot alloc window s h => exec_lltArm_busy slot alloc window h
  case apply => exact fun t s => rfl
  case due =>
    exact fun slot t s hl hs hk hd hm hb =>
      (exec_timeActionDue_first hs hk hd hb).trans (congrArg _ (dueSlot_local (s := setNow s t) hl hs hk hd hm))
  case cap => exact fun slot t c s hc hl hs ht => exec_windowCapExpiry_open hc hl hs ht

/-- Settles O59: the model's test of a tick is R59's crossing. -/
theorem wickActionCrossed : Obligations.WickActionCrossed := by
  refine ⟨?crossed, ?uncrossed, ?other⟩
  case crossed => exact fun i w rev T s hk hw hs hi he hb hr hc hd => (tickSlot_once hk hw hs hi he hb hr).trans (if_pos ⟨hc, hd⟩)
  case uncrossed => exact fun i w rev T s hk hw hs hi he hb hr h => (tickSlot_once hk hw hs hi he hb hr).trans (if_neg h)
  case other => exact fun i w rev T s h => tickSlot_other h

end Sys2Proof.Machine
end

section
/-!
SUPPORT. Moisture channels (R79, R80, R89, R90): what each calibration, set, capture and sample command does where the spec has it act.
-/
namespace Sys2Proof.Machine

open Sys2Proof

/-! ## One channel -/

/-- A state whose moisture part is that of `setChan s c x` differs in channel c alone, and there shows x. -/
theorem onlyChan_of_moist {s u : State} {c : Nat} {x : MoistCh} (h : u.moist = (setChan s c x).moist) : OnlyChan c s u ∧ chanOf u c = x := by
  have hc : ∀ k, chanOf u k = chanOf (setChan s c x) k := fun k => by rw [chanOf, chanOf, h]
  refine ⟨⟨fun j hj => (hc j).trans (setChan_ne s x hj), ?_⟩, (hc c).trans (setChan_same s c x)⟩
  rw [h]; rfl

theorem Within.then_setChan {ps : List Part} {rs : List (RegName × Nat)} {s t : State} (k : Within ps rs s t) (c : Nat) (x : MoistCh)
    (h : Part.moist ∈ ps := by decide) : Within ps rs s (setChan t c x) :=
  k.trans ⟨fun p hp => by cases p <;> simp_all [Part.same], .of_rf rs rfl⟩

/-- A command that changes channel c alone. -/
theorem effect_setChan {i : Instr} {s : State} {c : Nat} {x : MoistCh} (h : exec i s = .next (setChan s c x)) :
    Effect i s [.moist] [] (fun u => OnlyChan c s u ∧ chanOf u c = x) :=
  .intro h ((Within.refl s).then_setChan c x) (onlyChan_of_moist rfl)

@[simp] theorem noteConst_moist (s : State) (c : Nat) : (noteConst s c).moist = s.moist := by unfold noteConst; split <;> rfl
@[simp] theorem noteConst_pending (s : State) (c : Nat) : (noteConst s c).pending = s.pending := by unfold noteConst; split <;> rfl

/-! ## Standards (R89) -/

section
variable {s : State} {c : Nat}

/-- The channel as a standard finds it: what an accepted commit has used is gone (R89). -/
def sessionOf (x : MoistCh) : MoistCh :=
  if x.spent then { x with pOpen := none, pShort := none, pLoad := none, pAir := none, spent := false } else x

/-- A standard opens or continues the session and starts an average of 400 sets (R89). -/
theorem calStart_idle {op : Nat} {k : MstOp} (hr : relit s = false) (ho : (chanOf s c).op = none) : calStart s c op k = setChan s c
    { sessionOf (chanOf s c) with session := true, op := some k, left := 400, acc := [], accCoord := 0, lastOp := op, result := 7 } := by
  simp [calStart, sessionOf, hr, ho]

/-- A standard answers BUSY in a relight and while an operation runs (R89). -/
theorem calStart_busy {op : Nat} {k : MstOp} (h : relit s = true ∨ (chanOf s c).op.isSome = true) :
    calStart s c op k = mstResult s c op 1 := by
  unfold calStart
  by_cases hr : relit s = true
  · exact if_pos hr
  · exact (if_neg hr).trans (if_pos (h.resolve_left hr))

/-- An abort ends the session with its averages and the operation under way, where that is no capture (R89). -/
theorem calAbort_noCapture (hr : relit s = false) (ho : ∀ k, (chanOf s c).op ≠ some (.capture k)) : calAbort s c = setChan s c
    { chanOf s c with
      session := false, spent := false, pOpen := none, pShort := none, pLoad := none, pAir := none, op := none, lastOp := 6, result := 0 } := by
  unfold calAbort
  dsimp only
  rw [if_neg (Bool.not_eq_true _ ▸ hr)]
  split
  · next k hk => exact absurd hk (ho k)
  · rfl

/-- The channel whose average for a standard has ended, kept as that standard's pending average (R89). -/
def keepAverage (x : MoistCh) (k : MstOp) : MoistCh :=
  let avg := x.acc.map (fun z => Cx.scale (fRat 1 400) z)
  let y := { x with op := none, result := 0, pTa := Int.fdiv x.accCoord 400 }
  match k with
  | .calOpen => { y with pOpen := some avg }
  | .calShort => { y with pShort := some avg }
  | .calLoad => { y with pLoad := some avg }
  | .calAir => { y with pAir := some avg }
  | .capture _ => x

/-- The end of a standard's 400 sets keeps their average as pending (R89). -/
theorem exec_calAverageDone {c : Fin 32} {k : MstOp} (hk : ∀ slot, k ≠ .capture slot) (hl : (chanOf s c).left = 0)
    (ho : (chanOf s c).op = some k) : exec (.calAverageDone c) s = .next (setChan s c (keepAverage (chanOf s c) k)) := by
  change execCalAverageDone c s = _
  rw [execCalAverageDone, if_neg (fun h => h hl), ho]
  cases k with
  | capture slot => exact absurd rfl (hk slot)
  | _ => rfl

/-! ## The commit (R89) -/

section
variable {a : List Cx} (hr : relit s = false) (ho : (chanOf s c).op = none) (hs : (chanOf s c).spent = false)
  (ha : (chanOf s c).pAir = some a)
include hr ho hs ha

/-- The air standard alone is held against the terms in force (R89). -/
theorem calCommit_airOnly {k : CalStore} (h1 : (chanOf s c).pOpen = none) (h2 : (chanOf s c).pShort = none)
    (h3 : (chanOf s c).pLoad = none) (hk : (chanOf s c).cal = some k) :
    calCommit s c = calTry s c { k with ta := (chanOf s c).pTa } true a := by
  simp [calCommit, hr, ho, hs, h1, h2, h3, ha, hk]

/-- All four standards give new cable terms (R89). -/
theorem calCommit_full {o sh l : List Cx} (h1 : (chanOf s c).pOpen = some o) (h2 : (chanOf s c).pShort = some sh)
    (h3 : (chanOf s c).pLoad = some l) : calCommit s c = calTry s c
      { e00 := (cableTerms o sh l).1, e11 := (cableTerms o sh l).2.1, e := (cableTerms o sh l).2.2, cf := 0#32, ta := (chanOf s c).pTa }
      (termsOk (cableTerms o sh l).1 (cableTerms o sh l).2.1 (cableTerms o sh l).2.2) a := by
  simp [calCommit, hr, ho, hs, h1, h2, h3, ha]

end
end

/-! ## Measurement sets (R79, R80) -/

/-- A set that has run 2.5 ms leaves the channel for its inbox, and the wax keeps its record (R79, R80, R442). -/
theorem exec_measurementSetEnd {c : Fin 32} {t t0 : Ns} {rest : List Nat} {r : SetReading} {s : State}
    (hs : (chanOf s c).sets = t0 :: rest) (ht : t0 + 2500000 ≤ t) : exec (.measurementSetEnd c t r) s =
      .next (addItem (setChan (setNow s t) c { chanOf s c with
        sets := rest, seq := ((chanOf s c).seq + 1) % 2 ^ 32, inbox := (chanOf s c).inbox ++ [(t, setRecord (setNow s t) c t0 r)] })
        (.set (setRecord (setNow s t) c t0 r))) := by
  change execMeasurementSetEnd c t r s = _
  simp only [execMeasurementSetEnd, chanOf_setNow, hs]
  exact if_pos ht

/-! ## Captures, laboratory values and fits (R90) -/

section
variable {s : State} {c : Nat}

theorem mstCapture_idle {slot : Nat} (hr : relit s = false) (ho : (chanOf s c).op = none) (hs : (chanOf s c).session = false) :
    mstCapture s c slot = setChan s c { chanOf s c with
      op := some (.capture slot), left := 800, good := 0, anyUncovered := false, accM2 := 0#32, accTg := 0#32,
      accRho := 0#32, accStamp := 0, accCoord := 0, lastOp := 7, result := 7 } := by
  simp [mstCapture, hr, ho, hs]

/-- The sample of a capture's good sets: their means, beside the laboratory value that the slot already holds (R90). -/
def capturedSample (x : MoistCh) (k : Nat) : Sample :=
  { sampleOf x k with
    m2 := fDiv x.accM2 (fOfNat x.good), tg := fDiv x.accTg (fOfNat x.good), rho := fDiv x.accRho (fOfNat x.good),
    stamp := x.accStamp / x.good, coord := Int.fdiv x.accCoord x.good, captured := true }

section
variable {c : Fin 32} {k : Nat} (ho : (chanOf s c).op = some (.capture k)) (hl : (chanOf s c).left = 0)
include ho hl

/-- A capture with too few good sets or with any uncovered one is refused with NO_COVER (R90). -/
theorem exec_captureDone_noCover (h : (chanOf s c).good < 600 ∨ (chanOf s c).anyUncovered = true) :
    exec (.captureDone c) s = .next (setChan s c { chanOf s c with op := none, result := 5 }) := by
  change execCaptureDone c s = _
  simp only [execCaptureDone, ho]
  exact congrArg _ ((if_neg (fun h => h hl)).trans (if_pos h))

/-- A covered capture with 600 good sets goes into its slot (R90). -/
theorem exec_captureDone_covered (hg : 600 ≤ (chanOf s c).good) (hu : (chanOf s c).anyUncovered = false) :
    exec (.captureDone c) s = .next (setChan s c { chanOf s c with
      op := none, result := 0, samples := spSet Sample.empty (chanOf s c).samples k (capturedSample (chanOf s c) k) }) := by
  have h : ¬ ((chanOf s c).good < 600 ∨ (chanOf s c).anyUncovered = true) := by simp [hg, hu]
  change execCaptureDone c s = _
  simp only [execCaptureDone, ho]
  exact congrArg _ ((if_neg (fun h => h hl)).trans (if_neg h))

end

theorem labWrite_free {slot : Nat} (hr : relit s = false) : labWrite s c slot = setChan s c { chanOf s c with
    lastOp := 8, result := 0,
    samples := spSet Sample.empty (chanOf s c).samples slot { sampleOf (chanOf s c) slot with lab := some (regW s .mstLab c) } } :=
  if_neg (Bool.not_eq_true _ ▸ hr)

theorem exec_clearSamples {c : Fin 32} (hr : relit s = false) :
    exec (.clearSamples c) s = .next (setChan s c { chanOf s c with lastOp := 10, result := 0, samples := [] }) :=
  congrArg _ (if_neg (Bool.not_eq_true _ ▸ hr))

/-- The channel with the fit of its laboratory pairs stored for a table, in front of the fits of other tables (R90). -/
def storeFit (x : MoistCh) (table : Nat) : MoistCh :=
  { x with
    lastOp := 9, result := 0,
    fits := ({ table := table, s := (fitOf (labPairs x)).1, b := (fitOf (labPairs x)).2 } :: x.fits.filter (fun y => y.table != table)).take 4 }

/-- A fit within its limits is stored for the selected table and written into the block's constants (R90, R96). -/
theorem exec_fit_stored {c : Fin 32} (hr : relit s = false) (hc : calRuns (chanOf s c) = false) (hs : (chanOf s c).session = false)
    (hp : labPairs (chanOf s c) ≠ []) (hf : fitOk (fitOf (labPairs (chanOf s c))) = true) :
    exec (.fit c) s = .next (noteConst (setChan s c (storeFit (chanOf s c) (regF s .mstCfg c 4 6))) c) := by
  change execFit c s = _
  simp [execFit, mstDoFit, storeFit, hr, hc, hs, hp, hf]

end

end Sys2Proof.Machine
end

section
/-!
The moisture channels' commands complete with their effects (O8, O9), one lemma a clause that takes more than its command's equation.
-/
namespace Sys2Proof.Machine

open Sys2Proof

section
variable {c : Fin 32} {s : State}

theorem measurementSetEnd_effect {t t0 : Ns} {rest : List Nat} {r : SetReading} (hs : (chanOf s c).sets = t0 :: rest) (ht : t0 + 2500000 ≤ t) :
    Effect (.measurementSetEnd c t r) s [.time, .moist, .wax] [] (fun u => u.now = max s.now t ∧ OnlyChan c s u ∧ chanOf u c =
      { chanOf s c with
        sets := rest, seq := ((chanOf s c).seq + 1) % 2 ^ 32, inbox := (chanOf s c).inbox ++ [(t, setRecord (setNow s t) c t0 r)] }) :=
  .intro (exec_measurementSetEnd hs ht) ((((Within.refl s).then_setNow t).then_setChan _ _).then_addItem _) ⟨rfl, onlyChan_of_moist rfl⟩

theorem captureDone_yields {k : Nat} (ho : (chanOf s c).op = some (.capture k)) (hl : (chanOf s c).left = 0) (hg : 600 ≤ (chanOf s c).good)
    (hu : (chanOf s c).anyUncovered = false) : Yields (.captureDone c) s (fun u => OnlyChan c s u ∧ (chanOf u c).op = none ∧
      (chanOf u c).result = 0 ∧ (sampleOf (chanOf u c) k).captured = true ∧
      (sampleOf (chanOf u c) k).m2 = fDiv (chanOf s c).accM2 (fOfNat (chanOf s c).good)) := by
  refine ⟨_, exec_captureDone_covered ho hl hg hu, rfl, (onlyChan_of_moist rfl).1, ?_⟩
  simp [sampleOf, capturedSample]

theorem clearSamples_yields (hr : relit s = false) :
    Yields (.clearSamples c) s (fun u => OnlyChan c s u ∧ (chanOf u c).samples = []) :=
  ⟨_, exec_clearSamples hr, rfl, (onlyChan_of_moist rfl).1, by simp⟩

theorem fit_yields (hr : relit s = false) (hc : calRuns (chanOf s c) = false) (hs : (chanOf s c).session = false)
    (hp : labPairs (chanOf s c) ≠ []) (hf : fitOk (fitOf (labPairs (chanOf s c))) = true) :
    Yields (.fit c) s (fun u => OnlyChan c s u ∧ (chanOf u c).result = 0 ∧ (chanOf u c).lastOp = 9 ∧ (chanOf u c).fits.head? =
      some { table := regF s .mstCfg c 4 6, s := (fitOf (labPairs (chanOf s c))).1, b := (fitOf (labPairs (chanOf s c))).2 }) := by
  obtain ⟨ho, hx⟩ := onlyChan_of_moist (noteConst_moist (setChan s c (storeFit (chanOf s c) (regF s .mstCfg c 4 6))) c)
  exact ⟨_, exec_fit_stored hr hc hs hp hf, noteConst_pending _ _, ho, by rw [hx]; exact ⟨rfl, rfl, rfl⟩⟩

end

/-- Settles O8, clause by clause from the equations above. -/
theorem calibrationCompletes : Obligations.CalibrationCompletes := by
  refine ⟨?open_, ?short, ?load, ?air, ?busy, ?abort, ?openDone, ?shortDone, ?loadDone, ?airDone⟩
  case open_ => exact fun c s hr ho => effect_setChan (congrArg _ (calStart_idle hr ho))
  case short => exact fun c s hr ho => effect_setChan (congrArg _ (calStart_idle hr ho))
  case load => exact fun c s hr ho => effect_setChan (congrArg _ (calStart_idle hr ho))
  case air => exact fun c s hr ho => effect_setChan (congrArg _ (calStart_idle hr ho))
  case busy => exact fun c s h => effect_setChan (congrArg _ (calStart_busy h))
  case abort => exact fun c s hr ho => effect_setChan (congrArg _ (calAbort_noCapture hr ho))
  case openDone => exact fun c s hl ho => effect_setChan (exec_calAverageDone (k := .calOpen) nofun hl ho)
  case shortDone => exact fun c s hl ho => effect_setChan (exec_calAverageDone (k := .calShort) nofun hl ho)
  case loadDone => exact fun c s hl ho => effect_setChan (exec_calAverageDone (k := .calLoad) nofun hl ho)
  case airDone => exact fun c s hl ho => effect_setChan (exec_calAverageDone (k := .calAir) nofun hl ho)

/-- Settles O9, clause by clause from the equations and effects above. -/
theorem moistureSetsAndSamplesComplete : Obligations.MoistureSetsAndSamplesComplete := by
  refine ⟨?setStart, ?setEnd, ?airOnly, ?full, ?capture, ?noCover, ?covered, ?lab, ?fit, ?clear⟩
  case setStart => exact fun n t s hr ht hm hd hu => congrArg _ (if_pos ⟨hr, ht, hm, hd, hu⟩)
  case setEnd => exact fun c t t0 rest r s hs ht => measurementSetEnd_effect hs ht
  case airOnly => exact fun c a k s hr ho hs h1 h2 h3 ha hk => congrArg _ (calCommit_airOnly hr ho hs ha h1 h2 h3 hk)
  case full => exact fun c o sh l a s hr ho hs h1 h2 h3 ha => congrArg _ (calCommit_full hr ho hs ha h1 h2 h3)
  case capture => exact fun c slot s hr ho hs => effect_setChan (congrArg _ (mstCapture_idle hr ho hs))
  case noCover => exact fun c k s ho hl h => effect_setChan (exec_captureDone_noCover ho hl h)
  case covered => exact fun c k s ho hl hg hu => captureDone_yields ho hl hg hu
  case lab => exact fun c slot s hr => effect_setChan (congrArg _ (labWrite_free hr))
  case fit => exact fun c s hr hc hs hp hf => fit_yields hr hc hs hp hf
  case clear => exact fun c s hr => clearSamples_yields hr

end Sys2Proof.Machine
end

section
/-!
SUPPORT. Columns of parcels (R106, R111, R112, R117): what each command of PCL_CMD is on its row and in the run, and what a capture and
the end of an image's write do.
-/
namespace Sys2Proof.Machine

open Sys2Proof

/-! ## One column -/

/-- A state whose columns are those of `setCol s c x` differs in column c alone, and there shows x. -/
theorem onlyCol_of_col {s u : State} {c : Nat} {x : Column} (h : u.col = (setCol s c x).col) : OnlyCol c s u ∧ colOf u c = x := by
  have hc : ∀ k, colOf u k = colOf (setCol s c x) k := fun k => by rw [colOf, colOf, h]
  refine ⟨⟨fun j hj => (hc j).trans (setCol_ne s x hj), ?_⟩, (hc c).trans (setCol_same s c x)⟩
  rw [h]; rfl

/-! That a part or a register is among those that may change is given in full below: left to an automatic argument of a lemma of the same
text, each use holds a thread, with its stack, until the kernel has checked all that stands before. -/

theorem Within.then_col {ps : List Part} {rs : List (RegName × Nat)} {s t : State} (k : Within ps rs s t) (x : ColState)
    (h : Part.col ∈ ps) : Within ps rs s { t with col := x } :=
  k.trans ⟨fun p hp => by cases p <;> simp_all [Part.same], .of_rf rs rfl⟩

theorem Within.then_setCol {ps : List Part} {rs : List (RegName × Nat)} {s t : State} (k : Within ps rs s t) (c : Nat) (x : Column)
    (h : Part.col ∈ ps) : Within ps rs s (setCol t c x) := k.then_col _ h

section
variable (s : State) (c : Nat)

/-- A change of column c alone. -/
theorem changes_setCol (x : Column) : Changes s (setCol s c x) [.col] [] (fun u => OnlyCol c s u ∧ colOf u c = x) :=
  .intro ((Within.refl s).then_setCol c x (by decide)) (onlyCol_of_col rfl)

/-- A change of column c alone with its event (R111). -/
theorem changes_setCol_colEvent (x : Column) (e : EventName) (what : Nat) :
    Changes s (colEvent (setCol s c x) c e what) [.col, .recorder] [(.evrStatus, 0)] (fun u => OnlyCol c s u ∧ colOf u c = x) :=
  .intro (((Within.refl s).then_setCol c x (by decide)).then_logEv _ _ _ (by decide) (by simp)) (onlyCol_of_col (logEv_col ..))

end

/-! ## Commands on their rows (R108, R117) -/

/-- Outside a relight a row of PCL_CMD joins the column's commands for the next run, and the wax keeps its write (R24, R111, R442). -/
theorem pclRow_effect {i : Instr} {s : State} {c : Nat} {v : W32} {k : ColCmd}
    (hi : exec i s = .next (rowCmd s .pclCmd c v (fun s => pclTake s c k))) (h : s.rlt.ctx = none) :
    Effect i s [.col, .wax] [] (fun u => u.wax = (addItem s (.write (regAddr .pclCmd c) v)).wax ∧ OnlyCol c s u ∧
      colOf u c = { colOf s c with cmds := (colOf s c).cmds ++ [k] }) :=
  .intro (hi.trans (congrArg _ (rowCmd_free h ..))) (((Within.refl s).then_addItem _ (by decide)).then_setCol _ _ (by decide))
    ⟨rfl, onlyCol_of_col rfl⟩

/-- In a relight every row of PCL_CMD answers ACCESS_BUSY (R454). -/
theorem exec_pclCmd_busy (c : Fin 16) {s : State} (h : s.rlt.ctx.isSome = true) :
    exec (.pclAccept c) s = .next (report s hostReq (regAddr .pclCmd c) .busy) ∧
    exec (.pclSetEmpty c) s = .next (report s hostReq (regAddr .pclCmd c) .busy) ∧
    exec (.pclCheckpointNow c) s = .next (report s hostReq (regAddr .pclCmd c) .busy) ∧
    exec (.pclClearDiag c) s = .next (report s hostReq (regAddr .pclCmd c) .busy) ∧
    exec (.pclDiscard c) s = .next (report s hostReq (regAddr .pclCmd c) .busy) :=
  ⟨congrArg _ (rowCmd_busy h ..), congrArg _ (rowCmd_busy h ..), congrArg _ (rowCmd_busy h ..), congrArg _ (rowCmd_busy h ..),
    congrArg _ (rowCmd_busy h ..)⟩

/-! ## Commands in the run (R111) -/

section
variable {s : State} {c : Nat}

theorem colDiscard_draining (h : (colOf s c).st = .draining) : colDiscard s c = colEnd s c := if_pos h

theorem colDiscard_other (h : (colOf s c).st ≠ .draining) : colDiscard s c = s := if_neg h

/-- A drying record's capture changes the drying columns alone (R136). -/
theorem dryCapture_eq (b s : State) (c : Nat) : ∃ d, dryCapture b s c = { s with col := { s.col with d := d } } := by
  unfold dryCapture
  split
  · exact ⟨s.col.d, rfl⟩
  · exact ⟨_, rfl⟩

theorem colCapture_live {b : State} {t : Nat} (h : colLive (colOf b c) = true) : colCapture b s c t =
    dryCapture b (setCol s c { colOf s c with writing := (colOf s c).writing ++ [colImage b c t] }) c := if_pos h

/-- A capture of a column that tracks parcels appends its image to those being written; besides it, only drying records change
(R112, R136). -/
theorem colCapture_changes {b : State} {t : Nat} (h : colLive (colOf b c) = true) : Changes s (colCapture b s c t) [.col] []
    (fun u => OnlyAt colOf c s u ∧ (colOf u c).writing = (colOf s c).writing ++ [colImage b c t]) := by
  obtain ⟨d, hd⟩ := dryCapture_eq b (setCol s c { colOf s c with writing := (colOf s c).writing ++ [colImage b c t] }) c
  rw [colCapture_live h, hd]
  exact .intro (((Within.refl s).then_setCol _ _ (by decide)).then_col _ (by decide))
    ⟨OnlyAt.set setCol_ne s c _, congrArg Column.writing (setCol_same s c _)⟩

end

/-! ## Checkpoints (R112) -/

/-- The column whose oldest image under way has been written into its copy, as `img` leaves that copy (R112). -/
def storeImage (x : Column) (rest : List Ckpt) (img : Option Ckpt) : Column :=
  if x.nextB then { x with writing := rest, imgB := img } else { x with writing := rest, imgA := img }

section
variable (x : Column) (rest : List Ckpt) (img : Option Ckpt)

@[simp] theorem storeImage_writing : (storeImage x rest img).writing = rest := by simp [storeImage, apply_ite Column.writing]

@[simp] theorem storeImage_nextB : (storeImage x rest img).nextB = x.nextB := by simp [storeImage, apply_ite Column.nextB]

/-- The copy that was the next to be written holds the image. -/
theorem storeImage_copy : (if x.nextB then (storeImage x rest img).imgB else (storeImage x rest img).imgA) = img := by
  unfold storeImage; split <;> rfl

end

/-- A capture instant while the core runs captures the column as the frame's input set shows it (R112). -/
theorem exec_checkpointCapture {c : Fin 16} {t : Ns} {s : State} (hr : coreRuns s = true) (hd : captureDue s c t = true) :
    exec (.checkpointCapture c t) s = .next (colCapture (atFrame (setNow s t) t) (setNow s t) c t) := congrArg _ (if_pos ⟨hr, hd⟩)

section
variable {c : Fin 16} {m : Ckpt} {rest : List Ckpt} {s : State} (h : (colOf s c).writing = m :: rest)
include h

/-- A written image becomes valid, and the other copy is the next to be written (R112). -/
theorem exec_checkpointWriteComplete_written : exec (.checkpointWriteComplete c true) s =
    .next (setCol s c { storeImage (colOf s c) rest (some m) with nextB := !(colOf s c).nextB }) := by
  change execCheckpointWriteComplete c true s = _
  simp only [execCheckpointWriteComplete, h]
  rfl

/-- A failed write leaves its copy without an image, sets ckpt_fault and is recorded (R112). -/
theorem exec_checkpointWriteComplete_failed : exec (.checkpointWriteComplete c false) s =
    .next (colEvent (stick (setCol s c (storeImage (colOf s c) rest none)) .pclStatus c 7) c .ckptFault c) := by
  change execCheckpointWriteComplete c false s = _
  simp only [execCheckpointWriteComplete, h]
  rfl

end

/-- EVR_STATUS is none of the columns' status words. -/
theorem evrStatus_ne_pclStatus (c : Fin 16) : regAddr .evrStatus 0 ≠ regAddr .pclStatus c := by revert c; decide

end Sys2Proof.Machine
end

section
/-!
The columns' commands and checkpoints complete with their effects (O10), one lemma a clause that takes more than its command's equation.
-/
namespace Sys2Proof.Machine

open Sys2Proof

section
variable {c : Fin 16} {m : Ckpt} {rest : List Ckpt} {s : State} (h : (colOf s c).writing = m :: rest)
include h

/-- A written image is valid in its copy; nothing but the column changes (R112). -/
theorem checkpointWritten_effect : Effect (.checkpointWriteComplete c true) s [.col] [] (fun u =>
    OnlyCol c s u ∧ (colOf u c).writing = rest ∧ (colOf u c).nextB = !(colOf s c).nextB ∧
    (if (colOf s c).nextB then (colOf u c).imgB else (colOf u c).imgA) = some m) := by
  refine .intro (exec_checkpointWriteComplete_written h) ((Within.refl s).then_setCol _ _ (by decide))
    ⟨(onlyCol_of_col rfl).1, ?_⟩
  rw [setCol_same]
  exact ⟨storeImage_writing .., rfl, storeImage_copy ..⟩

/-- A failed write drops the image, keeps its copy the next to be written and sets ckpt_fault (R112). -/
theorem checkpointFailed_yields : Yields (.checkpointWriteComplete c false) s (fun u => OnlyCol c s u ∧
    ((colOf u c).writing = rest ∧ (colOf u c).nextB = (colOf s c).nextB) ∧ regB u .pclStatus c 7 = true) := by
  obtain ⟨ho, hx⟩ := onlyCol_of_col (s := s)
    (u := colEvent (stick (setCol s c (storeImage (colOf s c) rest none)) .pclStatus c 7) c .ckptFault c) (logEv_col ..)
  refine ⟨_, exec_checkpointWriteComplete_failed h, logEv_pending .., ho, ?_, ?_⟩
  · rw [hx]
    exact ⟨storeImage_writing .., storeImage_nextB ..⟩
  · exact (regB_logEv_ne _ _ _ _ _ (evrStatus_ne_pclStatus c)).trans (regB_stick_same _ _ _ (by decide))

end

/-- Settles O10, clause by clause from the equations and effects above. -/
theorem columnCommandsComplete : Obligations.ColumnCommandsComplete := by
  refine ⟨?acceptRow, ?setEmptyRow, ?checkpointRow, ?clearDiagRow, ?discardRow, ?busy, ?accept, ?setEmpty, ?checkpoint, ?clearDiag,
    ?discard, ?discardOther, ?capture, ?written, ?failed⟩
  case acceptRow => exact fun c s h => pclRow_effect (k := .accept) rfl h
  case setEmptyRow => exact fun c s h => pclRow_effect (k := .setEmpty) rfl h
  case checkpointRow => exact fun c s h => pclRow_effect (k := .checkpoint) rfl h
  case clearDiagRow => exact fun c s h => pclRow_effect (k := .clearDiag) rfl h
  case discardRow => exact fun c s h => pclRow_effect (k := .discard) rfl h
  case busy => exact fun c s h => exec_pclCmd_busy c h
  case accept => exact fun c s => changes_setCol_colEvent s c _ .columnAccept c
  case setEmpty => exact fun c s => changes_setCol_colEvent s c _ .columnSetEmpty c
  case checkpoint => exact fun c s h => colCapture_changes h
  case clearDiag => exact fun c s => changes_setCol s c _
  case discard =>
    intro c s h
    rw [colCmd, colDiscard_draining h]
    exact changes_setCol_colEvent s c _ .columnDisabled c
  case discardOther => exact fun c s h => colDiscard_other h
  case capture => exact fun c t s hr hd => exec_checkpointCapture hr hd
  case written => exact fun c m rest s h => checkpointWritten_effect h
  case failed => exact fun c m rest s h => checkpointFailed_yields h

end Sys2Proof.Machine
end

section
/-!
SUPPORT. Drying columns and aeration groups (R122, R127, R140, R144, R148): what each command of DRY_CMD is on its row and in the run, by
the rows of R140's state table, what the end of a cooling state does, and what a time that has run out leaves for the next run.
-/
namespace Sys2Proof.Machine

open Sys2Proof

/-! ## One drying column -/

/-- A state whose columns are those of `setDry s c x` differs in drying column c alone, and there shows x. -/
theorem onlyDry_of_col {s u : State} {c : Nat} {x : Dry} (h : u.col = (setDry s c x).col) : OnlyDry c s u ∧ dryOf u c = x := by
  have hc : ∀ k, dryOf u k = dryOf (setDry s c x) k := fun k => by rw [dryOf, dryOf, h]
  refine ⟨⟨fun j hj => (hc j).trans (setDry_ne s x hj), ?_⟩, (hc c).trans (setDry_same s c x)⟩
  rw [h]; rfl

theorem Within.then_setDry {ps : List Part} {rs : List (RegName × Nat)} {s t : State} (k : Within ps rs s t) (c : Nat) (x : Dry)
    (h : Part.col ∈ ps) : Within ps rs s (setDry t c x) := k.then_col _ h

section
variable (s : State) (c : Nat)

/-- A change of drying column c alone. -/
theorem changes_setDry (x : Dry) : Changes s (setDry s c x) [.col] [] (fun u => OnlyDry c s u ∧ dryOf u c = x) :=
  .intro ((Within.refl s).then_setDry c x (by decide)) (onlyDry_of_col rfl)

/-- A change of drying column c alone with its event (R140). -/
theorem changes_setDry_dryEvent (x : Dry) (e : EventName) (what : Nat) :
    Changes s (dryEvent (setDry s c x) c e what) [.col, .recorder] [(.evrStatus, 0)] (fun u => OnlyDry c s u ∧ dryOf u c = x) :=
  .intro (((Within.refl s).then_setDry c x (by decide)).then_logEv _ _ _ (by decide) (by simp)) (onlyDry_of_col (logEv_col ..))

end

/-- A timed command that changes a drying column moves the time and that column alone. -/
theorem effect_setNow_setDry {i : Instr} {s : State} {c t : Nat} {x : Dry} (h : exec i s = .next (setDry (setNow s t) c x)) :
    Effect i s [.time, .col] [] (fun u => u.now = max s.now t ∧ OnlyDry c s u ∧ dryOf u c = x) :=
  .intro h (((Within.refl s).then_setNow t (by decide)).then_setDry c x (by decide)) ⟨rfl, onlyDry_of_col rfl⟩

/-! ## Commands on their rows (R140, R148) -/

/-- Outside a relight a row of DRY_CMD joins the column's commands for the next run, and the wax keeps its write (R24, R140, R442). -/
theorem dryRow_effect {i : Instr} {s : State} {c : Nat} {v : W32} {k : DryCmd}
    (hi : exec i s = .next (rowCmd s .dryCmd c v (fun s => dryTake s c k))) (h : s.rlt.ctx = none) :
    Effect i s [.col, .wax] [] (fun u => u.wax = (addItem s (.write (regAddr .dryCmd c) v)).wax ∧ OnlyDry c s u ∧
      dryOf u c = { dryOf s c with cmds := (dryOf s c).cmds ++ [k] }) :=
  .intro (hi.trans (congrArg _ (rowCmd_free h ..))) (((Within.refl s).then_addItem _ (by decide)).then_setDry _ _ (by decide))
    ⟨rfl, onlyDry_of_col rfl⟩

/-- In a relight every row of DRY_CMD answers ACCESS_BUSY (R454). -/
theorem exec_dryCmd_busy (c : Fin 16) {s : State} (h : s.rlt.ctx.isSome = true) :
    exec (.dryStartCont c) s = .next (report s hostReq (regAddr .dryCmd c) .busy) ∧
    exec (.dryStartBatch c) s = .next (report s hostReq (regAddr .dryCmd c) .busy) ∧
    exec (.dryCoolDown c) s = .next (report s hostReq (regAddr .dryCmd c) .busy) ∧
    exec (.dryStop c) s = .next (report s hostReq (regAddr .dryCmd c) .busy) ∧
    exec (.dryResume c) s = .next (report s hostReq (regAddr .dryCmd c) .busy) ∧
    exec (.dryResetAdapt c) s = .next (report s hostReq (regAddr .dryCmd c) .busy) ∧
    exec (.dryClearBias c) s = .next (report s hostReq (regAddr .dryCmd c) .busy) :=
  ⟨congrArg _ (rowCmd_busy h ..), congrArg _ (rowCmd_busy h ..), congrArg _ (rowCmd_busy h ..), congrArg _ (rowCmd_busy h ..),
    congrArg _ (rowCmd_busy h ..), congrArg _ (rowCmd_busy h ..), congrArg _ (rowCmd_busy h ..)⟩

/-! ## Commands in the run (R140) -/

/-! The model's functions are unfolded by `delta` below: `simp` with a function of the same text derives its equations there, and each such
use holds a thread, with its stack, until the kernel has checked all that stands before. -/

/-- The state table has a row for the command in the state; the commands without a state of their own are taken in each (R140). -/
def DryCmd.takenIn (k : DryCmd) (st : DrySt) : Bool :=
  match k with
  | .startCont | .startBatch => st == .off
  | .coolDown => st == .cont || st == .night
  | .resume => st == .night
  | .stop | .resetAdapt | .clearBias => true

section
variable {s : State} {c : Nat}

theorem dryCmd_startCont (h : (dryOf s c).st = .off) : dryCmd s c .startCont =
    setDry s c { dryOf s c with st := .cont, rOut := rMin s c, source := 2, holdSince := none } := by
  delta dryCmd; dsimp only; rw [h]

theorem dryCmd_startBatch (h : (dryOf s c).st = .off) : dryCmd s c .startBatch =
    setDry s c { dryOf s c with st := .batchDry, rOut := regW s .dryBatchRate c } := by
  delta dryCmd; dsimp only; rw [h]

theorem dryCmd_coolDown (h : (dryOf s c).st = .cont ∨ (dryOf s c).st = .night) : dryCmd s c .coolDown =
    setDry s c { dryOf s c with st := .coolDown, trim := 0#32, coolSince := s.now, coolOver := false,
                                rOut := fOfNat (regF s .dryCool c 18 14) } := by
  delta dryCmd; dsimp only
  rcases h with h | h <;> rw [h]

theorem dryCmd_resume (h : (dryOf s c).st = .night) : dryCmd s c .resume =
    setDry s c { dryOf s c with st := .cont, holdSince := none } := by
  delta dryCmd; dsimp only; rw [h]

/-- A command that the present state does not accept is refused (R140). -/
theorem dryCmd_refused {k : DryCmd} (h : k.takenIn (dryOf s c).st = false) : dryCmd s c k = dryRefuse s c := by
  delta dryCmd; dsimp only
  generalize (dryOf s c).st = st at h ⊢
  cases k with
  | startCont | startBatch =>
    cases st with
    | off => cases h
    | _ => rfl
  | coolDown =>
    cases st with
    | cont | night => cases h
    | _ => rfl
  | resume =>
    cases st with
    | night => cases h
    | _ => rfl
  | stop | resetAdapt | clearBias => cases h

/-- A refused command sets dry_state and nothing else: the state does not change (R140). -/
theorem dryCmd_refused_changes {k : DryCmd} (h : k.takenIn (dryOf s c).st = false) :
    Changes s (dryCmd s c k) [] [(.dryStatus, c)] (fun u => regB u .dryStatus c 13 = true) := by
  rw [dryCmd_refused h]
  exact .intro ((Within.refl s).then_stick _ _ _ (by simp)) (regB_stick_same _ _ _ (by decide))

/-! ## The end of a cooling state (R140) -/

theorem coolOut_of_over (h : (dryOf s c).st = .batchCool ∨ (dryOf s c).st = .coolDown) (ho : (dryOf s c).coolOver = true) :
    coolOut s c = true :=
  Bool.and_eq_true_iff.mpr
    ⟨Bool.or_eq_true_iff.mpr (h.imp beq_iff_eq.mpr beq_iff_eq.mpr), Bool.or_eq_true_iff.mpr (.inl ho)⟩

theorem endCool_batchCool (h : (dryOf s c).st = .batchCool) (ho : (dryOf s c).coolOver = true) (cold : Bool) :
    endCool s c cold = dryEnter s c .batchDone 0#32 := by
  delta endCool; rw [h]
  exact if_pos (Bool.or_eq_true_iff.mpr (.inr (coolOut_of_over (.inl h) ho)))

theorem endCool_coolDown (h : (dryOf s c).st = .coolDown) (ho : (dryOf s c).coolOver = true) (cold : Bool) :
    endCool s c cold = dryEnter s c .off 0#32 := by
  delta endCool; rw [h]
  exact if_pos (Bool.or_eq_true_iff.mpr (.inr (coolOut_of_over (.inr h) ho)))

end

/-! ## Times that have run out (R122, R127, R140, R144) -/

section
variable {s : State} {t : Ns}

theorem exec_dryCoolMaxExpiry {c : Fin 16} (h : coolOut (setNow s t) c = true) : exec (.dryCoolMaxExpiry c t) s =
    .next (setDry (setNow s t) c { dryOf s c with coolOver := true }) := congrArg _ (if_pos h)

/-- 60 s after its failure an input takes its substitute, with an event (R122). -/
theorem exec_inputSubstTimeout {c : Fin 16} {inp : Nat} {since : Ns} (hf : lookup (dryOf s c).fails inp = some since)
    (ht : since + 60 * 1000000000 ≤ t) (ho : (dryOf s c).overT.contains inp = false) : exec (.inputSubstTimeout c inp t) s =
    .next (dryEvent (setDry (setNow s t) c { dryOf s c with overT := inp :: (dryOf s c).overT }) c .inputSubst (32 * c.val + inp)) := by
  change execInputSubstTimeout c inp t s = _
  delta execInputSubstTimeout; dsimp only
  rw [dryOf_setNow, hf]
  exact congrArg _ (if_pos (Bool.and_eq_true_iff.mpr ⟨decide_eq_true ht, congrArg not ho⟩))

theorem exec_fbOnlyTimeout {c : Fin 16} (hd : fbDue (setNow s t) c (dryOf s c) = true) (hh : heldNow (setNow s t) c = false) :
    exec (.fbOnlyTimeout c t) s = .next (setDry (setNow s t) c { dryOf s c with source := 3 }) := by
  refine congrArg _ (if_pos ?_)
  rw [dryOf_setNow, hd, hh]; rfl

theorem exec_aerMinTimeExpiry {g : Fin 64} (h : aerMinOver (setNow s t) g = true) : exec (.aerMinTimeExpiry g t) s =
    .next (setAer (setNow s t) g { aerOf s g with minOver := true }) := congrArg _ (if_pos h)

end

end Sys2Proof.Machine
end

section
/-!
Drying and aeration complete with their effects (O11), one lemma a clause that takes more than its command's equation.
-/
namespace Sys2Proof.Machine

open Sys2Proof

section
variable {s : State} {t : Ns}

/-- An input that takes its substitute changes its column and the recorder alone (R122). -/
theorem inputSubstTimeout_effect {c : Fin 16} {inp : Nat} {since : Ns} (hf : lookup (dryOf s c).fails inp = some since)
    (ht : since + 60 * 1000000000 ≤ t) (ho : (dryOf s c).overT.contains inp = false) :
    Effect (.inputSubstTimeout c inp t) s [.time, .col, .recorder] [(.evrStatus, 0)] (fun u =>
      u.now = max s.now t ∧ OnlyDry c s u ∧ dryOf u c = { dryOf s c with overT := inp :: (dryOf s c).overT }) :=
  .intro (exec_inputSubstTimeout hf ht ho)
    ((((Within.refl s).then_setNow t (by decide)).then_setDry _ _ (by decide)).then_logEv _ _ _ (by decide) (by simp))
    ⟨logEv_now .., onlyDry_of_col (logEv_col ..)⟩

/-- An aeration group whose minimum time has passed is marked so; no other group changes (R144). -/
theorem aerMinTimeExpiry_effect {g : Fin 64} (h : aerMinOver (setNow s t) g = true) :
    Effect (.aerMinTimeExpiry g t) s [.time, .col] [] (fun u =>
      u.now = max s.now t ∧ aerOf u g = { aerOf s g with minOver := true } ∧ ∀ j, j ≠ g.val → aerOf u j = aerOf s j) :=
  .intro (exec_aerMinTimeExpiry h) (((Within.refl s).then_setNow t (by decide)).then_col _ (by decide))
    ⟨rfl, setAer_same .., fun _ hj => setAer_ne _ _ hj⟩

end

/-- Settles O11, clause by clause from the equations and effects above. -/
theorem dryingCommandsComplete : Obligations.DryingCommandsComplete := by
  refine ⟨?startContRow, ?startBatchRow, ?coolDownRow, ?stopRow, ?resumeRow, ?resetAdaptRow, ?clearBiasRow, ?busy, ?startCont, ?startBatch,
    ?coolDownCont, ?coolDownNight, ?stop, ?resume, ?clearBias, ?startContRefused, ?startBatchRefused, ?coolDownRefused, ?resumeRefused,
    ?resetAdapt, ?coolMax, ?batchCoolEnds, ?coolDownEnds, ?inputSubst, ?fbOnly, ?aerMin⟩
  case startContRow => exact fun c s h => dryRow_effect (k := .startCont) rfl h
  case startBatchRow => exact fun c s h => dryRow_effect (k := .startBatch) rfl h
  case coolDownRow => exact fun c s h => dryRow_effect (k := .coolDown) rfl h
  case stopRow => exact fun c s h => dryRow_effect (k := .stop) rfl h
  case resumeRow => exact fun c s h => dryRow_effect (k := .resume) rfl h
  case resetAdaptRow => exact fun c s h => dryRow_effect (k := .resetAdapt) rfl h
  case clearBiasRow => exact fun c s h => dryRow_effect (k := .clearBias) rfl h
  case busy => exact fun c s h => exec_dryCmd_busy c h
  case startCont =>
    intro c s h
    rw [dryCmd_startCont h]
    exact changes_setDry s c _
  case startBatch =>
    intro c s h
    rw [dryCmd_startBatch h]
    exact changes_setDry s c _
  case coolDownCont =>
    intro c s h
    rw [dryCmd_coolDown (.inl h)]
    exact changes_setDry s c _
  case coolDownNight =>
    intro c s h
    rw [dryCmd_coolDown (.inr h)]
    exact changes_setDry s c _
  case stop => exact fun c s => changes_setDry s c _
  case resume =>
    intro c s h
    rw [dryCmd_resume h]
    exact changes_setDry s c _
  case clearBias => exact fun c s => changes_setDry s c _
  case startContRefused => exact fun c s h => dryCmd_refused_changes (beq_false_of_ne h)
  case startBatchRefused => exact fun c s h => dryCmd_refused_changes (beq_false_of_ne h)
  case coolDownRefused =>
    exact fun c s ⟨hc, hn⟩ => dryCmd_refused_changes (Bool.or_eq_false_iff.mpr ⟨beq_false_of_ne hc, beq_false_of_ne hn⟩)
  case resumeRefused => exact fun c s h => dryCmd_refused_changes (beq_false_of_ne h)
  case resetAdapt => exact fun c s => changes_setDry_dryEvent s c _ .adaptReset c
  case coolMax => exact fun c t s h => effect_setNow_setDry (exec_dryCoolMaxExpiry h)
  case batchCoolEnds =>
    intro c s h ho
    rw [endCool_batchCool h ho]
    exact changes_setDry_dryEvent s c _ .dryState _
  case coolDownEnds =>
    intro c s h ho
    rw [endCool_coolDown h ho]
    exact changes_setDry_dryEvent s c _ .dryState _
  case inputSubst => exact fun c inp t since s hf ht ho => inputSubstTimeout_effect hf ht ho
  case fbOnly => exact fun c t s hd hh => effect_setNow_setDry (exec_fbOnlyTimeout hd hh)
  case aerMin => exact fun g t s h => aerMinTimeExpiry_effect h

end Sys2Proof.Machine
end

section
/-!
SUPPORT. Engines, transaction tags and baskets (R158 to R160, R168, R169, R172, R173): what a halt, a missed deadline, a lost reply, the
end of a quarantine and the clears of ENG_CMD and BSK_CMD do where the spec has them act.
-/
namespace Sys2Proof.Machine

open Sys2Proof

/-! ## One engine, one basket -/

/-- A state whose engines are those of `setEng s e x` differs in engine e alone, and there shows x. -/
theorem onlyEng_of_eng {s u : State} {e : Nat} {x : Engine} (h : u.eng = (setEng s e x).eng) : OnlyEng e s u ∧ engOf u e = x := by
  have he : ∀ k, engOf u k = engOf (setEng s e x) k := fun k => by rw [engOf, engOf, h]
  refine ⟨⟨fun j hj => (he j).trans (setEng_ne s x hj), ?_⟩, (he e).trans (setEng_same s e x)⟩
  rw [h]; rfl

/-- A state whose baskets are those of `setBsk s b x` differs in basket b alone, and there shows x. -/
theorem onlyBsk_of_eng {s u : State} {b : Nat} {x : Basket} (h : u.eng = (setBsk s b x).eng) : OnlyBsk b s u ∧ bskOf u b = x := by
  have hb : ∀ k, bskOf u k = bskOf (setBsk s b x) k := fun k => by rw [bskOf, bskOf, h]
  refine ⟨⟨fun j hj => (hb j).trans (setBsk_ne s x hj), ?_⟩, (hb b).trans (setBsk_same s b x)⟩
  rw [h]; rfl

section
variable {ps : List Part} {rs : List (RegName × Nat)} {s t : State}

theorem Within.then_eng (k : Within ps rs s t) (x : EngState) (h : Part.eng ∈ ps) : Within ps rs s { t with eng := x } :=
  k.trans ⟨fun p hp => by cases p <;> simp_all [Part.same], .of_rf rs rfl⟩

theorem Within.then_setEng (k : Within ps rs s t) (e : Nat) (x : Engine) (h : Part.eng ∈ ps) : Within ps rs s (setEng t e x) :=
  k.then_eng _ h

theorem Within.then_setBsk (k : Within ps rs s t) (b : Nat) (x : Basket) (h : Part.eng ∈ ps) : Within ps rs s (setBsk t b x) :=
  k.then_eng _ h

theorem Within.then_setTag (k : Within ps rs s t) (g : Nat) (x : Option Tag) (h : Part.eng ∈ ps) : Within ps rs s (setTag t g x) :=
  k.then_eng _ h

theorem Within.then_markHalt (k : Within ps rs s t) (h : Part.wax ∈ ps) : Within ps rs s (markHalt t) :=
  k.trans ⟨fun p hp => by cases p <;> simp_all [Part.same], .of_rf rs (markHalt_rf t)⟩

end

/-! ## Transaction tags (R168, R169) -/

@[simp] theorem tagOf_setNow (s : State) (t g : Nat) : tagOf (setNow s t) g = tagOf s g := rfl

theorem spDel_cons {α : Type} (p : Nat × α) (l : List (Nat × α)) (k : Nat) :
    spDel (p :: l) k = if p.1 = k then spDel l k else p :: spDel l k := rfl

/-- A function of the values commutes with the removal of a key. -/
theorem map_spDel {α β : Type} (f : α → β) (l : List (Nat × α)) (k : Nat) :
    (spDel l k).map (fun p => (p.1, f p.2)) = spDel (l.map (fun p => (p.1, f p.2))) k := by
  induction l with
  | nil => rfl
  | cons p l ih => by_cases h : p.1 = k <;> simp [spDel_cons, h, ih]

/-- A tag without a record is free (R168). -/
@[simp] theorem tagOf_setTag_none (s : State) (g : Nat) : tagOf (setTag s g none) g = none :=
  (congrArg (spGet none · g) (map_spDel some s.eng.tags g)).trans (spGet_spDel_same ..)

section
variable {tag : Fin 4096} {t : Ns} {x : Tag} {s : State} (hx : tagOf s tag = some x)
include hx

/-- 320 frames after its request a quarantined tag is free again (R169). -/
theorem exec_tagQuarantineEnd (hq : x.quarantined = true) (hf : x.frame + 320 ≤ frameOf t) :
    exec (.tagQuarantineEnd tag t) s = .next (setTag (setNow s t) tag none) := by
  change execTagQuarantineEnd tag t s = _
  delta execTagQuarantineEnd; dsimp only
  rw [tagOf_setNow, hx]
  exact congrArg _ (if_pos (Bool.and_eq_true_iff.mpr ⟨hq, decide_eq_true hf⟩))

theorem tagQuarantineEnd_effect (hq : x.quarantined = true) (hf : x.frame + 320 ≤ frameOf t) :
    Effect (.tagQuarantineEnd tag t) s [.time, .eng] [] (fun u =>
      u.now = max s.now t ∧ tagOf u tag = none ∧ u.eng = { s.eng with tags := spDel s.eng.tags tag }) :=
  .intro (exec_tagQuarantineEnd hx hq hf) (((Within.refl s).then_setNow t (by decide)).then_setTag _ _ (by decide))
    ⟨rfl, tagOf_setTag_none .., rfl⟩

/-- A late transaction whose reply does not wait for the next admission is LOST, and its reply basket gets that result (R169). -/
theorem exec_transactionTimeout_lost (hl : x.late (frameOf t) = true) (hw : replyWaits (setNow s t) tag = false) :
    exec (.transactionTimeout tag t) s = .next (let u := loseTag (setNow s t) tag x
      { u with eng := { u.eng with arrivals := u.eng.arrivals ++ [plain x.reply (.lost tag)] } }) := by
  change execTransactionTimeout tag t s = _
  delta execTransactionTimeout; dsimp only
  rw [tagOf_setNow, hx]
  exact congrArg _ (if_pos (Bool.and_eq_true_iff.mpr ⟨hl, congrArg not hw⟩))

/-- A transaction that is not late, or whose reply waits for the next admission, goes on (R169). -/
theorem exec_transactionTimeout_kept (h : x.late (frameOf t) = false ∨ replyWaits (setNow s t) tag = true) :
    exec (.transactionTimeout tag t) s = .next (setNow s t) := by
  change execTransactionTimeout tag t s = _
  delta execTransactionTimeout; dsimp only
  rw [tagOf_setNow, hx]
  refine congrArg _ (if_neg (Bool.not_eq_true _ ▸ Bool.and_eq_false_iff.mpr ?_))
  exact h.imp_right (congrArg not)

end

/-! ## Engine halt (R160, R352) -/

/-- The engine halted with a cause (R160). -/
def Engine.haltedBy (x : Engine) (cause : Nat) : Engine := { x with halted := true, haltCause := cause }

section
variable {e cause : Nat} {s : State}

/-- An engine that runs halts with its cause, in the wax's latest record and in an event (R160). -/
theorem engHalt_running (h : (engOf s e).halted = false) : engHalt s e cause =
    logEv (markHalt (setEng s e ((engOf s e).haltedBy cause))) (srcEng e) .engineHalt (4 * e + cause) :=
  if_neg (ne_true_of_eq_false h)

/-- Outside the runs of a frame a halt has no run to undo (R160). -/
theorem haltEngine_unframed (h : (engOf s e).halted = false) (hb : s.before = none) : haltEngine s e cause = engHalt s e cause := by
  delta haltEngine; dsimp only
  rw [if_neg (ne_true_of_eq_false h), hb]

/-- A unit that is not the ACTIVE one of a pair leaves a finding to its next evaluation (R352). -/
theorem atOnce_not_active {k : Nat} (h : s.pair.st ≠ .active) : atOnce s k = s := if_neg fun ⟨ha, _⟩ => h ha

end

section
variable {e : Fin 128} {cause : Fin 4} {t : Ns} {s : State} (hc : cause ≠ 0)
include hc

theorem exec_engineHalt : exec (.engineHalt e cause t) s = .next (atOnce (haltEngine (setNow s t) e cause) 1) :=
  congrArg _ (if_neg (Fin.val_ne_of_ne hc))

theorem exec_engineHalt_unframed (h : (engOf s e).halted = false) (hp : s.pair.st ≠ .active) (hb : s.before = none) :
    exec (.engineHalt e cause t) s =
      .next (logEv (markHalt (setEng (setNow s t) e ((engOf s e).haltedBy cause))) (srcEng e) .engineHalt (4 * e + cause)) := by
  rw [exec_engineHalt hc, haltEngine_unframed (s := setNow s t) h hb, engHalt_running (s := setNow s t) h, engOf_setNow, atOnce_not_active]
  rwa [logEv_pair, markHalt_pair]

/-- A halt outside the runs of a frame, on a unit that is not the ACTIVE one, marks its engine alone (R160). -/
theorem engineHalt_effect (h : (engOf s e).halted = false) (hp : s.pair.st ≠ .active) (hb : s.before = none) :
    Effect (.engineHalt e cause t) s [.time, .eng, .recorder, .wax] [(.evrStatus, 0)] (fun u =>
      u.now = max s.now t ∧ OnlyAt engOf e s u ∧ engOf u e = { engOf s e with halted := true, haltCause := cause }) :=
  .intro (exec_engineHalt_unframed hc h hp hb)
    (((((Within.refl s).then_setNow t (by decide)).then_setEng _ _ (by decide)).then_markHalt (by decide)).then_logEv _ _ _ (by decide)
      (by simp))
    ⟨(logEv_now ..).trans (markHalt_now ..),
      (onlyEng_of_eng (x := (engOf s e).haltedBy cause) ((logEv_eng ..).trans (markHalt_eng ..))).imp_left And.left⟩

end

/-! ## Missed deadlines (R158, R159) -/

/-- At the deadline the run under way and the later ones of its engine have no effect, and the miss is reported (R158, R159). -/
theorem exec_deadlineAbort {e : Fin 128} {i : Fin 8192} {t : Ns} {k : KeyImage} {s : State} (hb : s.before = some k)
    (hf : frameOf t = s.frame) (hd : (dueOf (setNow s t) e).any (fun p => p.1 == i.val) = true)
    (hh : (engOf s e).halted = false) (hr : relit s = false) :
    exec (.deadlineAbort e i t) s = .next (noteMiss (abortRuns (withImage (setNow s t) k) (setNow s t) e i) e i
      ((dueOf (setNow s t) e).filter (fun p => decide (i.val < p.1))).length) := by
  change execDeadlineAbort e i t s = _
  delta execDeadlineAbort; dsimp only
  rw [setNow_before, hb]
  exact congrArg _ (if_pos ⟨hf, hd, hh, hr⟩)

/-! ## Clears (R172, R173) -/

/-- Outside a relight a row of ENG_CMD changes its engine at once, and the wax keeps its write (R24, R172, R442). -/
theorem engRow_effect {i : Instr} {s : State} {e : Nat} {v : W32} {f : Engine → Engine}
    (hi : exec i s = .next (rowCmd s .engCmd e v (fun s => setEng s e (f (engOf s e))))) (h : s.rlt.ctx = none) :
    Effect i s [.eng, .wax] [] (fun u => u.wax = (addItem s (.write (regAddr .engCmd e) v)).wax ∧ OnlyEng e s u ∧
      engOf u e = f (engOf s e)) :=
  .intro (hi.trans (congrArg _ (rowCmd_free h ..))) (((Within.refl s).then_addItem _ (by decide)).then_setEng _ _ (by decide))
    ⟨rfl, onlyEng_of_eng rfl⟩

theorem exec_bskClearCounts {s : State} (h : s.rlt.ctx = none) :
    exec .bskClearCounts s = .next (bskClear (addItem s (.write (regAddr .bskCmd 0) 1#32))) :=
  congrArg Host.Outcome.next (rowCmd_free h ..)

/-- Outside a relight the row of BSK_CMD clears the counts of the basket that BSK_SEL names, and the wax keeps its write (R173, R442). -/
theorem bskClearCounts_effect {s : State} (h : s.rlt.ctx = none) : Effect .bskClearCounts s [.eng, .wax] [] (fun u =>
    u.wax = (addItem s (.write (regAddr .bskCmd 0) 1#32)).wax ∧ OnlyBsk (bskSel s) s u ∧
      bskOf u (bskSel s) = { bskOf s (bskSel s) with drops := 0, overwrites := 0, peak := 0 }) :=
  .intro (exec_bskClearCounts h) (((Within.refl s).then_addItem _ (by decide)).then_setBsk _ _ (by decide))
    ⟨rfl, onlyBsk_of_eng rfl⟩

/-- In a relight the rows of ENG_CMD and BSK_CMD answer ACCESS_BUSY (R454). -/
theorem exec_engCmd_busy (e : Fin 128) {s : State} (h : s.rlt.ctx.isSome = true) :
    exec (.engClearPeak e) s = .next (report s hostReq (regAddr .engCmd e) .busy) ∧
    exec (.engClearCounts e) s = .next (report s hostReq (regAddr .engCmd e) .busy) ∧
    exec .bskClearCounts s = .next (report s hostReq (regAddr .bskCmd 0) .busy) :=
  ⟨congrArg _ (rowCmd_busy h ..), congrArg _ (rowCmd_busy h ..), congrArg _ (rowCmd_busy h ..)⟩

/-- Settles O12, clause by clause from the equations and effects above. -/
theorem engineCommandsComplete : Obligations.EngineCommandsComplete := by
  refine ⟨?quarantineEnd, ?lost, ?kept, ?haltMarked, ?halt, ?abort, ?clearPeak, ?clearCounts, ?bskClear, ?busy⟩
  case quarantineEnd => exact fun tag t x s hx hq hf => tagQuarantineEnd_effect hx hq hf
  case lost => exact fun tag t x s hx hl hw => exec_transactionTimeout_lost hx hl hw
  case kept => exact fun tag t x s hx h => exec_transactionTimeout_kept hx h
  case haltMarked => exact fun e cause t s hc h hp hb => engineHalt_effect hc h hp hb
  case halt => exact fun e cause t s hc => exec_engineHalt hc
  case abort => exact fun e i t k s hb hf hd hh hr => exec_deadlineAbort hb hf hd hh hr
  case clearPeak => exact fun e s h => engRow_effect (f := fun x => { x with peak := 0 }) rfl h
  case clearCounts => exact fun e s h => engRow_effect (f := fun x => { x with misses := 0, skipped := 0 }) rfl h
  case bskClear => exact fun s h => bskClearCounts_effect h
  case busy => exact fun e s h => exec_engCmd_busy e h

end Sys2Proof.Machine
end

section
/-!
SUPPORT. Tapers (R175 to R178) and supervised loops (R181 to R188): what each command of TPR_CMD and LOOP_CMD is on its row and in the
run, and what a finding, the return and the end of HELD do where the spec has them act.
-/
namespace Sys2Proof.Machine

open Sys2Proof

/-! ## One taper, one loop -/

section
variable {s t u : State}

/-- Where only taper j has changed and then its record is replaced, only taper j has changed, and it shows that record. -/
theorem OnlyTaper.then_setTaper {j : Nat} {x : Taper} (h : OnlyTaper j s t) (hu : u.loop = (setTaper t j x).loop) :
    OnlyTaper j s u ∧ taperOf u j = x := by
  have hk : ∀ k, taperOf u k = taperOf (setTaper t j x) k := fun k => by rw [taperOf, taperOf, hu]
  obtain ⟨ho, hl⟩ := h
  refine ⟨⟨fun k hj => ((hk k).trans (setTaper_ne t x hj)).trans (ho k hj), ?_⟩, (hk j).trans (setTaper_same t j x)⟩
  rw [hu]
  exact congrArg (fun l : LoopState => { l with t := (setTaper t j x).loop.t }) hl

/-- A state whose tapers are those of `setTaper s j x` differs in taper j alone, and there shows x. -/
theorem onlyTaper_of_loop {j : Nat} {x : Taper} (h : u.loop = (setTaper s j x).loop) : OnlyTaper j s u ∧ taperOf u j = x :=
  OnlyTaper.then_setTaper ⟨fun _ _ => rfl, rfl⟩ h

/-- Where only loop i has changed and then its record is replaced, only loop i has changed, and it shows that record. -/
theorem OnlyLoop.then_setLoop {i : Nat} {x : Loop} (h : OnlyLoop i s t) (hu : u.loop = (setLoop t i x).loop) :
    OnlyLoop i s u ∧ loopOf u i = x := by
  have hk : ∀ k, loopOf u k = loopOf (setLoop t i x) k := fun k => by rw [loopOf, loopOf, hu]
  obtain ⟨ho, hl⟩ := h
  refine ⟨⟨fun k hi => ((hk k).trans (setLoop_ne t x hi)).trans (ho k hi), ?_⟩, (hk i).trans (setLoop_same t i x)⟩
  rw [hu]
  exact congrArg (fun l : LoopState => { l with l := (setLoop t i x).loop.l }) hl

/-- A state whose loops are those of `setLoop s i x` differs in loop i alone, and there shows x. -/
theorem onlyLoop_of_loop {i : Nat} {x : Loop} (h : u.loop = (setLoop s i x).loop) : OnlyLoop i s u ∧ loopOf u i = x :=
  OnlyLoop.then_setLoop ⟨fun _ _ => rfl, rfl⟩ h

end

section
variable {ps : List Part} {rs : List (RegName × Nat)} {s t : State}

theorem Within.then_loop (k : Within ps rs s t) (x : LoopState) (h : Part.loop ∈ ps) : Within ps rs s { t with loop := x } :=
  k.trans ⟨fun p hp => by cases p <;> simp_all [Part.same], .of_rf rs rfl⟩

theorem Within.then_setTaper (k : Within ps rs s t) (j : Nat) (x : Taper) (h : Part.loop ∈ ps) : Within ps rs s (setTaper t j x) :=
  k.then_loop _ h

theorem Within.then_setLoop (k : Within ps rs s t) (i : Nat) (x : Loop) (h : Part.loop ∈ ps) : Within ps rs s (setLoop t i x) :=
  k.then_loop _ h

theorem Within.then_putReg (k : Within ps rs s t) (r : RegName) (i : Nat) (v : W32) (h : Part.inForce ∈ ps) (h' : (r, i) ∈ rs) :
    Within ps rs s (putReg t r i v) :=
  k.trans ⟨fun p hp => by cases p <;> simp_all [Part.same], fun _ _ hr => regW_putReg_ne t v (hr _ h')⟩

end

/-- A change of taper j alone. -/
theorem changes_setTaper (s : State) (j : Nat) (x : Taper) :
    Changes s (setTaper s j x) [.loop] [] (fun u => OnlyTaper j s u ∧ taperOf u j = x) :=
  .intro ((Within.refl s).then_setTaper j x (by decide)) (onlyTaper_of_loop rfl)

/-- A change of loop i alone. -/
theorem changes_setLoop (s : State) (i : Nat) (x : Loop) :
    Changes s (setLoop s i x) [.loop] [] (fun u => OnlyLoop i s u ∧ loopOf u i = x) :=
  .intro ((Within.refl s).then_setLoop i x (by decide)) (onlyLoop_of_loop rfl)

/-! ## Commands of a taper on their rows (R176 to R178) -/

/-- Outside a relight a row of TPR_CMD joins the taper's commands for its next run, and the wax keeps its write (R24, R176, R442). -/
theorem tprRow_effect {c : Instr} {s : State} {j : Nat} {v : W32} {k : TprCmd}
    (hc : exec c s = .next (rowCmd s .tprCmd j v (fun s => tprTake s j k))) (h : s.rlt.ctx = none) :
    Effect c s [.loop, .wax] [] (fun u => u.wax = (addItem s (.write (regAddr .tprCmd j) v)).wax ∧ OnlyTaper j s u ∧
      taperOf u j = { taperOf s j with cmds := (taperOf s j).cmds ++ [k] }) :=
  .intro (hc.trans (congrArg _ (rowCmd_free h ..))) (((Within.refl s).then_addItem _ (by decide)).then_setTaper _ _ (by decide))
    ⟨rfl, onlyTaper_of_loop rfl⟩

section
variable {j : Fin 256} {s : State}

/-- The row of set_value is a row as the others outside RUN (R177). -/
theorem exec_tprSetValue_row (h : (taperOf s j).mode ≠ .run) :
    exec (.tprSetValue j) s = .next (rowCmd s .tprCmd j 4#32 (fun s => tprTake s j .setValue)) := congrArg _ (if_neg h)

/-- In RUN the row of set_value answers ACCESS_BUSY and sets its refusal's bit (R177). -/
theorem exec_tprSetValue_run (h : (taperOf s j).mode = .run) :
    exec (.tprSetValue j) s = .next (report (stick s .tprStatus j 7) hostReq (regAddr .tprCmd j) .busy) := congrArg _ (if_pos h)

/-- In a relight the rows of TPR_CMD answer ACCESS_BUSY (R454). -/
theorem exec_tprCmd_busy (fromPresent : Bool) (h : s.rlt.ctx.isSome = true) :
    exec (.tprRun j) s = .next (report s hostReq (regAddr .tprCmd j) .busy) ∧
    exec (.tprHold j) s = .next (report s hostReq (regAddr .tprCmd j) .busy) ∧
    exec (.tprTrack j) s = .next (report s hostReq (regAddr .tprCmd j) .busy) ∧
    exec (.tprApplyCoord j fromPresent) s = .next (report s hostReq (regAddr .tprCmd j) .busy) :=
  ⟨congrArg _ (rowCmd_busy h ..), congrArg _ (rowCmd_busy h ..), congrArg _ (rowCmd_busy h ..), congrArg _ (rowCmd_busy h ..)⟩

end

/-! ## Commands in the taper's run (R175 to R178) -/

section
variable {s v : State} {j : Nat}

/-- Where only taper j has changed and then it takes a new plan or drops one, replanned is set if the plan before had not ended (R176). -/
theorem changes_replanned (w : Within [.loop] [(.tprStatus, j)] s v) (ho : OnlyTaper j s v) (x : Taper) (busy : Bool) :
    Changes s (if busy then stick (setTaper v j x) .tprStatus j 6 else setTaper v j x) [.loop] [(.tprStatus, j)] (fun u =>
      OnlyTaper j s u ∧ taperOf u j = x ∧ (busy = true → regB u .tprStatus j 6 = true)) := by
  have w' := w.then_setTaper j x (by decide)
  obtain ⟨ht, hx⟩ := ho.then_setTaper (x := x) rfl
  cases busy with
  | false => exact .intro w' ⟨ht, hx, nofun⟩
  | true => exact .intro (w'.then_stick _ _ _ (by simp)) ⟨ht, hx, fun _ => regB_stick_same _ _ _ (by decide)⟩

/-- The run op leaves the plan at the present value and rate (R176, R177). -/
theorem tprCmd_run_changes (s : State) (j t : Nat) : Changes s (tprCmd s j t .run) [.loop] [(.tprStatus, j)] (fun u =>
    OnlyTaper j s u ∧
    taperOf u j = { taperOf s j with
      mode := .run, plan := none, y := ((taperOf s j).present t).1, r := ((taperOf s j).present t).2 } ∧
    ((taperOf s j).busy t = true → regB u .tprStatus j 6 = true)) :=
  changes_replanned (.refl s) ⟨fun _ _ => rfl, rfl⟩ _ _

/-- The taper in HOLD with its plan from the present value and rate to y_stop, and the limits that it was made with (R175, R177). -/
def holdPlanned (s : State) (j t : Nat) : Taper :=
  let q := (taperOf s j).present t
  let y := yStop q.1 q.2 (tprJ s j)
  { taperOf s j with
    mode := .hold, plan := some (makePlan t q.1 q.2 y (tprA s j) (tprJ s j)), accP := tprA s j, jerkP := tprJ s j,
    yMinP := tprLo s j, yMaxP := tprHi s j, tgtP := y }

theorem tprCmd_hold (s : State) (j t : Nat) : tprCmd s j t .hold =
    let v := setTaper s j { taperOf s j with mode := .hold }
    if (taperOf s j).busy t then stick (setTaper v j (holdPlanned s j t)) .tprStatus j 6 else setTaper v j (holdPlanned s j t) := by
  change tprHold s j t = _
  delta tprHold replan holdPlanned
  dsimp only
  rw [setTaper_same]
  rfl

/-- The hold op brings the taper to rest at y_stop (R175, R177). -/
theorem tprCmd_hold_changes (s : State) (j t : Nat) : Changes s (tprCmd s j t .hold) [.loop] [(.tprStatus, j)] (fun u =>
    OnlyTaper j s u ∧ taperOf u j = holdPlanned s j t ∧ ((taperOf s j).busy t = true → regB u .tprStatus j 6 = true)) := by
  rw [tprCmd_hold]
  exact changes_replanned ((Within.refl s).then_setTaper _ _ (by decide)) (onlyTaper_of_loop rfl).1 _ _

theorem tprCmd_setValue {t : Nat} (h : (taperOf s j).mode ≠ .run) : tprCmd s j t .setValue =
    setTaper s j { taperOf s j with y := regW s .tprTarget j, r := 0#32, plan := none, atTarget := true, remain := 0#32 } := if_neg h

theorem tprCmd_setValue_run {t : Nat} (h : (taperOf s j).mode = .run) : tprCmd s j t .setValue = stick s .tprStatus j 7 := if_pos h

end

/-! ## Commands of a loop on their rows (R181, R182, R188) -/

/-- Outside a relight a row of LOOP_CMD changes its loop alone, and the wax keeps its write (R24, R187, R442). -/
theorem loopRow_effect {c : Instr} {s : State} {i : Nat} {v : W32} {f : Loop → Loop}
    (hc : exec c s = .next (rowCmd s .loopCmd i v (fun s => modLoop s i f))) (h : s.rlt.ctx = none) :
    Effect c s [.loop, .wax] [] (fun u => u.wax = (addItem s (.write (regAddr .loopCmd i) v)).wax ∧ OnlyLoop i s u ∧
      loopOf u i = f (loopOf s i)) :=
  .intro (hc.trans (congrArg _ (rowCmd_free h ..))) (((Within.refl s).then_addItem _ (by decide)).then_setLoop _ _ (by decide))
    ⟨rfl, onlyLoop_of_loop rfl⟩

/-- In a relight the rows of LOOP_CMD answer ACCESS_BUSY (R454). -/
theorem exec_loopCmd_busy (i : Fin 512) {s : State} (h : s.rlt.ctx.isSome = true) :
    exec (.loopAuto i) s = .next (report s hostReq (regAddr .loopCmd i) .busy) ∧
    exec (.loopManual i) s = .next (report s hostReq (regAddr .loopCmd i) .busy) ∧
    exec (.loopReset i) s = .next (report s hostReq (regAddr .loopCmd i) .busy) ∧
    exec (.loopClearFindings i) s = .next (report s hostReq (regAddr .loopCmd i) .busy) :=
  ⟨congrArg _ (rowCmd_busy h ..), congrArg _ (rowCmd_busy h ..), congrArg _ (rowCmd_busy h ..), congrArg _ (rowCmd_busy h ..)⟩

/-! ## Commands in the supervisor's run (R182, R186) -/

/-- The mode takes the command, HELD the auto command under the return conditions (R182, R186). -/
def LoopCmd.takenIn (k : LoopCmd) (st : LoopSt) : Bool :=
  match k with
  | .auto => st == .manual || st == .night || st == .held
  | .manual => st == .auto || st == .night
  | .reset => st == .safe || st == .tripped

/-- The loop without cause, findings, timers or silent runs, as a reset leaves it (R186). -/
def Loop.cleared (l : Loop) : Loop :=
  { l with cause := 0, finds := [], tauF := 0, tauI := 0, stuckAt := none, silentRuns := 0 }

/-- What a reset makes of a loop, with the output that MANUAL begins at (R186). -/
def resetTo (s : State) (i : Nat) (u : F32) : State :=
  loopEvent (modLoop (setManual s i u) i Loop.cleared) i .loopReturned

section
variable {s : State} {i : Nat}

theorem loopCmd_auto (h : (loopOf s i).st = .manual ∨ (loopOf s i).st = .night) :
    loopCmd s i .auto = setLoop s i { loopOf s i with st := .auto } := by
  change loopAuto s i = _
  delta loopAuto
  rcases h with h | h <;> rw [h] <;> rfl

theorem loopCmd_manual (h : (loopOf s i).st = .auto ∨ (loopOf s i).st = .night) :
    loopCmd s i .manual = setManual s i (loopOf s i).ua := by
  change loopManual s i = _
  delta loopManual
  rcases h with h | h <;> rw [h]

theorem loopCmd_reset_safe (h : (loopOf s i).st = .safe) : loopCmd s i .reset = resetTo s i (loopOf s i).ua := by
  change loopReset s i = _
  delta loopReset
  dsimp only
  rw [h]
  rfl

theorem loopCmd_reset_tripped (h : (loopOf s i).st = .tripped) : loopCmd s i .reset = resetTo s i (regW s .loopTrip i) := by
  change loopReset s i = _
  delta loopReset
  dsimp only
  rw [h]
  rfl

/-- A command that the mode does not take is refused (R182, R186). -/
theorem loopCmd_refused {k : LoopCmd} (h : k.takenIn (loopOf s i).st = false) : loopCmd s i k = loopRefuse s i := by
  delta loopCmd loopAuto loopManual loopReset; dsimp only
  generalize (loopOf s i).st = st at h ⊢
  cases k with
  | auto =>
    cases st with
    | manual | night | held => cases h
    | _ => rfl
  | manual =>
    cases st with
    | auto | night => cases h
    | _ => rfl
  | reset =>
    cases st with
    | safe | tripped => cases h
    | _ => rfl

/-- A refused command sets loop_state and nothing else: the mode does not change (R182). -/
theorem loopCmd_refused_changes {k : LoopCmd} (h : k.takenIn (loopOf s i).st = false) :
    Changes s (loopCmd s i k) [] [(.loopStatus, i)] (fun u => regB u .loopStatus i 13 = true) := by
  rw [loopCmd_refused h]
  exact .intro ((Within.refl s).then_stick _ _ _ (by simp)) (regB_stick_same _ _ _ (by decide))

section
variable {u : F32} (h : s.glb.wrote.contains (regAddr .loopMan i) = false)
include h

/-- MANUAL begins at its output: u_man takes it, unless the host has written it in the same frame (R10, R182). -/
theorem setManual_unwritten : setManual s i u = setLoop (putReg s .loopMan i u) i { loopOf s i with st := .manual } := by
  delta setManual blockReg; dsimp only
  rw [if_neg (Bool.not_eq_true _ ▸ h)]
  rfl

theorem setManual_unwritten_changes : Changes s (setManual s i u) [.loop, .inForce] [(.loopMan, i)] (fun v =>
    OnlyLoop i s v ∧ loopOf v i = { loopOf s i with st := .manual } ∧ regW v .loopMan i = u) := by
  rw [setManual_unwritten h]
  obtain ⟨ho, hx⟩ := onlyLoop_of_loop (s := s) (u := setLoop (putReg s .loopMan i u) i { loopOf s i with st := .manual }) rfl
  exact .intro (((Within.refl s).then_putReg _ _ _ (by decide) (by simp)).then_setLoop _ _ (by decide))
    ⟨ho, hx, regW_putReg_same ..⟩

end

/-- A u_man that the host has written in the same frame stands (R10, R182). -/
theorem setManual_written {u : F32} (h : s.glb.wrote.contains (regAddr .loopMan i) = true) :
    setManual s i u = setLoop s i { loopOf s i with st := .manual } := by
  delta setManual blockReg; dsimp only
  rw [if_pos h]
  rfl

end

/-- EVR_STATUS is none of the loops' u_man words. -/
theorem evrStatus_ne_loopMan (i : Fin 512) : regAddr .evrStatus 0 ≠ regAddr .loopMan i := by
  have hi := i.isLt
  change 0x1300028 ≠ 0x840024 + (i.val / 1 * 0x80 + 0)
  omega

/-- LOOP_CFG of a loop is not its LOOP_STATUS. -/
theorem loopStatus_ne_loopCfg (i : Nat) : regAddr .loopStatus i ≠ regAddr .loopCfg i :=
  fun h => absurd (Nat.add_right_cancel h) (by decide)

section
variable {s : State} {i : Fin 512} {u : F32} (h : s.glb.wrote.contains (regAddr .loopMan i) = false)
include h

theorem resetTo_unwritten : resetTo s i u = loopEvent (setLoop (setLoop (putReg s .loopMan i u) i { loopOf s i with st := .manual }) i
    ({ loopOf s i with st := .manual } : Loop).cleared) i .loopReturned := by
  delta resetTo modLoop
  rw [setManual_unwritten h, setLoop_same]

/-- A reset leaves the loop in MANUAL at its output, with an event (R186). -/
theorem resetTo_changes : Changes s (resetTo s i u) [.loop, .inForce, .recorder] [(.loopMan, i), (.evrStatus, 0)] (fun v =>
    OnlyLoop i s v ∧ loopOf v i = ({ loopOf s i with st := .manual } : Loop).cleared ∧ regW v .loopMan i = u) := by
  rw [resetTo_unwritten h]
  have w := ((Within.refl (ps := [.loop, .inForce, .recorder]) (rs := [(.loopMan, i.val), (.evrStatus, 0)]) s).then_putReg .loopMan i u
    (by decide) (by simp)).then_setLoop i { loopOf s i with st := .manual } (by decide)
  obtain ⟨hm, -⟩ := onlyLoop_of_loop (s := s) (u := setLoop (putReg s .loopMan i u) i { loopOf s i with st := .manual }) rfl
  obtain ⟨ho, hx⟩ := hm.then_setLoop (x := ({ loopOf s i with st := .manual } : Loop).cleared) (logEv_loop ..)
  exact .intro ((w.then_setLoop _ _ (by decide)).then_logEv _ _ _ (by decide) (by simp))
    ⟨ho, hx, (regW_logEv_ne _ _ _ _ (evrStatus_ne_loopMan i)).trans (regW_putReg_same ..)⟩

end

/-! ## Findings (R184, R186) -/

section
variable {s : State} {i : Nat}

/-- A loop that enters a state of supervision enters it at the present time, keeps its cause and findings, and is the only one that
changes (R186). -/
theorem enterSup_only (s : State) (i : Nat) (st : LoopSt) : OnlyLoop i s (enterSup s i st) ∧ (loopOf (enterSup s i st) i).st = st ∧
    (loopOf (enterSup s i st) i).heldSince = s.now ∧ (loopOf (enterSup s i st) i).cause = (loopOf s i).cause ∧
    (loopOf (enterSup s i st) i).finds = (loopOf s i).finds := by
  obtain ⟨ho, hx⟩ := onlyLoop_of_loop (s := s) (u := enterSup s i st) (i := i) (logEv_loop ..)
  exact ⟨ho, by rw [hx], by rw [hx], by rw [hx], by rw [hx]⟩

theorem countFinding_st (l : Loop) (f : Finding) : (countFinding l f).st = l.st := by cases f <;> rfl

/-- A new finding joins those that hold; the mode stands (R184). -/
theorem noteFinding_new {f : Finding} (h : (loopOf s i).finds.contains f = false) :
    loopOf (noteFinding s i f) i = { countFinding (loopOf s i) f with finds := f :: (loopOf s i).finds } := by
  delta noteFinding; dsimp only
  rw [loopOf_stick, setLoop_same, if_neg (Bool.not_eq_true _ ▸ h)]

theorem loopReaction_noteFinding (s : State) (i : Nat) (f : Finding) : loopReaction (noteFinding s i f) i = loopReaction s i :=
  congrArg (fld · 4 2) (regW_stick_ne _ _ (loopStatus_ne_loopCfg i))

/-- The reaction HOLD (R186). -/
theorem react_hold {f : Finding} (h : loopReaction s i = 0) :
    react s i f = enterSup (setLoop s i { loopOf s i with cause := f.code, uPre := preOf (loopOf s i) f }) i .held := by
  delta react; dsimp only
  rw [h]
  rfl

section
variable {f : Finding} (hn : (loopOf s i).finds.contains f = false) (hm : normalMode (loopOf s i).st = true)
include hn hm

/-- A new finding in a normal mode has its reaction (R184, R186). -/
theorem declareFinding_reacts {t : Nat} (hs : supervised s i = true) (hf : findHolds s i t f = true) :
    declareFinding s i t f = react (noteFinding s i f) i f := by
  have hg : (supervised s i && findHolds s i t f && !(loopOf s i).finds.contains f) = true := by rw [hs, hf, hn]; rfl
  have hm' : normalMode (loopOf (noteFinding s i f) i).st = true := by
    rw [noteFinding_new hn]
    exact (congrArg normalMode (countFinding_st _ f)).trans hm
  delta declareFinding; dsimp only
  rw [if_pos hg, if_pos hm']

/-- A new finding in a normal mode of a loop whose reaction is HOLD leaves it HELD from the present time, with that cause (R186). -/
theorem declareFinding_held {t : Nat} (hs : supervised s i = true) (hf : findHolds s i t f = true) (hr : loopReaction s i = 0) :
    (declareFinding s i t f).pending = s.pending ∧ (loopOf (declareFinding s i t f) i).st = .held ∧
    (loopOf (declareFinding s i t f) i).cause = f.code ∧ (loopOf (declareFinding s i t f) i).finds = f :: (loopOf s i).finds ∧
    (loopOf (declareFinding s i t f) i).heldSince = s.now := by
  rw [declareFinding_reacts hn hm hs hf, react_hold ((loopReaction_noteFinding ..).trans hr)]
  obtain ⟨-, hst, hsince, hcause, hfinds⟩ := enterSup_only (setLoop (noteFinding s i f) i
    { loopOf (noteFinding s i f) i with cause := f.code, uPre := preOf (loopOf (noteFinding s i f) i) f }) i .held
  rw [setLoop_same] at hcause hfinds
  exact ⟨logEv_pending .., hst, hcause, hfinds.trans (by rw [noteFinding_new hn]), hsince⟩

end

/-- The loop returns by itself from OBSERVER, and from HELD where its configuration has it do so (R186). -/
theorem autoReturn_back (ho : okHeld s i = true)
    (h : (loopOf s i).st = .observer ∨ ((loopOf s i).st = .held ∧ regB s .loopCfg i 6 = true)) : autoReturn s i = loopBack s i :=
  if_pos (Bool.and_eq_true_iff.mpr ⟨ho, Bool.or_eq_true_iff.mpr
    (h.imp beq_iff_eq.mpr (fun ⟨hh, hc⟩ => Bool.and_eq_true_iff.mpr ⟨beq_iff_eq.mpr hh, hc⟩))⟩)

theorem Within.then_enterSup {ps : List Part} {rs : List (RegName × Nat)} {t : State} (k : Within ps rs s t) (i : Nat) (st : LoopSt)
    (hl : Part.loop ∈ ps) (hr : Part.recorder ∈ ps) (he : (RegName.evrStatus, 0) ∈ rs) : Within ps rs s (enterSup t i st) :=
  (k.then_setLoop i _ hl).then_logEv _ _ _ hr he

end

section
variable {i : Fin 512} {t : Ns} {s : State} (hs : supervised s i = true)
include hs

theorem exec_loopReturn (ho : okHeld (setNow s t) i = true)
    (h : (loopOf s i).st = .observer ∨ ((loopOf s i).st = .held ∧ regB s .loopCfg i 6 = true)) :
    exec (.loopReturn i t) s = .next (loopBack (setNow s t) i) :=
  congrArg _ ((if_pos hs).trans (autoReturn_back (s := setNow s t) ho h))

theorem exec_loopHoldMaxExpiry (hh : holdOver s i t = true) :
    exec (.loopHoldMaxExpiry i t) s = .next (enterSup (setNow s t) i .safe) := congrArg _ (if_pos (Bool.and_eq_true_iff.mpr ⟨hs, hh⟩))

end

end Sys2Proof.Machine
end

section
/-!
The commands of tapers (O13) and of supervised loops (O14) complete with their effects, one lemma a clause that takes more than its
command's equation.
-/
namespace Sys2Proof.Machine

open Sys2Proof

/-- Settles O13, clause by clause from the equations and effects above. -/
theorem taperCommandsComplete : Obligations.TaperCommandsComplete := by
  refine ⟨?runRow, ?holdRow, ?trackRow, ?setValueRow, ?setValueRun, ?setValueBusy, ?applyRow, ?busy, ?run, ?hold, ?track, ?setValue,
    ?setValueRefused, ?apply⟩
  case runRow => exact fun j s h => tprRow_effect (k := .run) rfl h
  case holdRow => exact fun j s h => tprRow_effect (k := .hold) rfl h
  case trackRow => exact fun j s h => tprRow_effect (k := .track) rfl h
  case setValueRow => exact fun j s h hm => tprRow_effect (exec_tprSetValue_row hm) h
  case setValueRun => exact fun j s hm => exec_tprSetValue_run hm
  case setValueBusy => exact fun j s hm h => (exec_tprSetValue_row hm).trans (congrArg _ (rowCmd_busy h ..))
  case applyRow => exact fun j fromPresent s h => tprRow_effect (k := .applyCoord fromPresent) rfl h
  case busy => exact fun j fromPresent s h => exec_tprCmd_busy fromPresent h
  case run => exact fun j t s => tprCmd_run_changes s j t
  case hold =>
    intro j t s
    obtain ⟨hf, hr, ho, hx, hb⟩ := tprCmd_hold_changes s j t
    exact ⟨hf, hr, ho, by rw [hx]; rfl, by rw [hx]; rfl, hb⟩
  case track => exact fun j t s => changes_setTaper s j _
  case setValue =>
    intro j t s h
    rw [tprCmd_setValue h]
    exact changes_setTaper s j _
  case setValueRefused =>
    intro j t s h
    rw [tprCmd_setValue_run h]
    exact .intro ((Within.refl s).then_stick _ _ _ (by simp)) (regB_stick_same _ _ _ (by decide))
  case apply => exact fun j t fromPresent s => changes_setTaper s j _

section
variable {s : State} {i : Fin 512} {t : Ns}

/-- A command that declares a finding leaves its loop HELD where the reaction is HOLD (R184, R186). -/
theorem yields_declareFinding {c : Instr} {f : Finding} (hc : exec c s = .next (declareFinding (setNow s t) i t f))
    (hs : supervised s i = true) (hf : findHolds (setNow s t) i t f = true) (hn : (loopOf s i).finds.contains f = false)
    (hm : normalMode (loopOf s i).st = true) (hr : loopReaction s i = 0) :
    Yields c s (fun u => (loopOf u i).st = .held ∧ (loopOf u i).cause = f.code ∧ (loopOf u i).finds = f :: (loopOf s i).finds ∧
      (loopOf u i).heldSince = max s.now t) :=
  ⟨_, hc, declareFinding_held (s := setNow s t) hn hm hs hf hr⟩

/-- HELD or OBSERVER for longer than t_hold_max goes to SAFE with its cause (R186). -/
theorem loopHoldMaxExpiry_effect (hs : supervised s i = true) (hh : holdOver s i t = true) :
    Effect (.loopHoldMaxExpiry i t) s [.time, .loop, .recorder] [(.evrStatus, 0)] (fun u => u.now = max s.now t ∧ OnlyLoop i s u ∧
      (loopOf u i).st = .safe ∧ (loopOf u i).heldSince = max s.now t ∧ (loopOf u i).cause = (loopOf s i).cause) := by
  obtain ⟨ho, hst, hsince, hcause, -⟩ := enterSup_only (setNow s t) i .safe
  exact .intro (exec_loopHoldMaxExpiry hs hh)
    (((Within.refl s).then_setNow t (by decide)).then_enterSup _ _ (by decide) (by decide) (by simp))
    ⟨logEv_now .., ho, hst, hsince, hcause⟩

/-- The manual command from a mode that takes it: u_man takes the loop's output unless the host has written it (R10, R182). -/
theorem loopCmd_manual_unwritten (h : (loopOf s i).st = .auto ∨ (loopOf s i).st = .night)
    (hw : s.glb.wrote.contains (regAddr .loopMan i) = false) : Changes s (loopCmd s i .manual) [.loop, .inForce] [(.loopMan, i)] (fun u =>
      OnlyLoop i s u ∧ loopOf u i = { loopOf s i with st := .manual } ∧ regW u .loopMan i = (loopOf s i).ua) := by
  rw [loopCmd_manual h]
  exact setManual_unwritten_changes hw

theorem loopCmd_manual_written (h : (loopOf s i).st = .auto ∨ (loopOf s i).st = .night)
    (hw : s.glb.wrote.contains (regAddr .loopMan i) = true) : Changes s (loopCmd s i .manual) [.loop] [] (fun u =>
      OnlyLoop i s u ∧ loopOf u i = { loopOf s i with st := .manual }) := by
  rw [loopCmd_manual h, setManual_written hw]
  exact changes_setLoop s i _

end

/-- Settles O14, clause by clause from the equations and effects above. -/
theorem loopCommandsComplete : Obligations.LoopCommandsComplete := by
  refine ⟨?autoRow, ?manualRow, ?resetRow, ?clearRow, ?busy, ?autoManual, ?autoNight, ?autoRefused, ?manualRefused, ?resetRefused,
    ?manualAuto, ?manualAutoWritten, ?manualNight, ?manualNightWritten, ?resetSafe, ?resetTripped, ?following, ?implausible, ?silent,
    ?frozen, ?return_, ?holdMax⟩
  case autoRow => exact fun i s h => loopRow_effect (f := fun l => { l with cmds := l.cmds ++ [.auto] }) rfl h
  case manualRow => exact fun i s h => loopRow_effect (f := fun l => { l with cmds := l.cmds ++ [.manual] }) rfl h
  case resetRow => exact fun i s h => loopRow_effect (f := fun l => { l with cmds := l.cmds ++ [.reset] }) rfl h
  case clearRow =>
    exact fun i s h => loopRow_effect (f := fun l => { l with nLost := 0, nFrozen := 0, nFollow := 0, nImpl := 0 }) rfl h
  case busy => exact fun i s h => exec_loopCmd_busy i h
  case autoManual =>
    intro i s h
    rw [loopCmd_auto (.inl h)]
    exact changes_setLoop s i _
  case autoNight =>
    intro i s h
    rw [loopCmd_auto (.inr h)]
    exact changes_setLoop s i _
  case autoRefused =>
    intro i s h
    refine loopCmd_refused_changes ?_
    rcases h with h | h | h | h | h <;> rw [h] <;> rfl
  case manualRefused =>
    exact fun i s ⟨ha, hn⟩ => loopCmd_refused_changes (Bool.or_eq_false_iff.mpr ⟨beq_false_of_ne ha, beq_false_of_ne hn⟩)
  case resetRefused =>
    exact fun i s ⟨hs, ht⟩ => loopCmd_refused_changes (Bool.or_eq_false_iff.mpr ⟨beq_false_of_ne hs, beq_false_of_ne ht⟩)
  case manualAuto => exact fun i s h hw => loopCmd_manual_unwritten (.inl h) hw
  case manualAutoWritten => exact fun i s h hw => loopCmd_manual_written (.inl h) hw
  case manualNight => exact fun i s h hw => loopCmd_manual_unwritten (.inr h) hw
  case manualNightWritten => exact fun i s h hw => loopCmd_manual_written (.inr h) hw
  case resetSafe =>
    intro i s h hw
    rw [loopCmd_reset_safe h]
    exact resetTo_changes hw
  case resetTripped =>
    intro i s h hw
    rw [loopCmd_reset_tripped h]
    exact resetTo_changes hw
  case following => exact fun i t s hs hf hn hm hr => yields_declareFinding rfl hs hf hn hm hr
  case implausible => exact fun i t s hs hf hn hm hr => yields_declareFinding rfl hs hf hn hm hr
  case silent => exact fun i t s hs hf hn hm hr => yields_declareFinding rfl hs hf hn hm hr
  case frozen => exact fun i t s hs hf hn hm hr => yields_declareFinding rfl hs hf hn hm hr
  case return_ => exact fun i t s hs ho h => exec_loopReturn hs ho h
  case holdMax => exact fun i t s hs hh => loopHoldMaxExpiry_effect hs hh

end Sys2Proof.Machine
end

section
/-!
SUPPORT. Motor ports (R190 to R220): one port's record and what the shared operations change, the commands of MOT_CMD on their rows and
where the port takes them, and the port's faults.
-/
namespace Sys2Proof.Machine

open Sys2Proof

/-! ## One motor port -/

section
variable {s t u : State} {m : Nat} {x : Motor}

/-- Where only port m has changed and then its record is replaced, only port m has changed, and it shows that record. -/
theorem OnlyMot.then_setMot (h : OnlyMot m s t) (hu : u.motor = (setMot t m x).motor) : OnlyMot m s u ∧ motOf u m = x := by
  have hk : ∀ k, motOf u k = motOf (setMot t m x) k := fun k => by rw [motOf, motOf, hu]
  obtain ⟨ho, hl⟩ := h
  refine ⟨⟨fun k hm => ((hk k).trans (setMot_ne t x hm)).trans (ho k hm), ?_⟩, (hk m).trans (setMot_same t m x)⟩
  rw [hu]
  exact congrArg (fun l : MotorState => { l with m := (setMot t m x).motor.m }) hl

theorem OnlyMot.of_motor (h : u.motor = s.motor) : OnlyMot m s u := ⟨fun k _ => by rw [motOf, motOf, h], by rw [h]⟩

/-- A state whose ports are those of `setMot s m x` differs in port m alone, and there shows x. -/
theorem onlyMot_of_motor (h : u.motor = (setMot s m x).motor) : OnlyMot m s u ∧ motOf u m = x :=
  OnlyMot.then_setMot (.of_motor rfl) h

end

section
variable {ps : List Part} {rs : List (RegName × Nat)} {s t : State}

theorem Within.then_setMot (k : Within ps rs s t) (m : Nat) (x : Motor) (h : Part.motor ∈ ps) : Within ps rs s (setMot t m x) :=
  k.trans ⟨fun p hp => by
    cases p with
    | motor => exact absurd h hp
    | frame | before => exact ⟨rfl, rfl⟩
    | _ => rfl, .of_rf rs rfl⟩

theorem Within.then_useFree (k : Within ps rs s t) (h : Part.free ∈ ps) : Within ps rs s (useFree t) :=
  k.trans ⟨fun p hp => by
    cases p with
    | free => exact absurd h hp
    | frame | before => exact ⟨rfl, rfl⟩
    | _ => rfl, .of_rf rs rfl⟩

theorem Within.then_forceTaper (k : Within ps rs s t) (m : Nat) (v : Option F32) (h : Part.loop ∈ ps) :
    Within ps rs s (forceTaper t m v) := by
  unfold forceTaper
  split
  · exact k.then_setTaper _ _ h
  · exact k

theorem Within.then_toOff (k : Within ps rs s t) (m : Nat) (b : Bool) (h : Part.motor ∈ ps) (h' : Part.loop ∈ ps) :
    Within ps rs s (toOff t m b) := (k.then_setMot m _ h).then_forceTaper m _ h'

end

/-- A change of port m alone. -/
theorem changes_setMot (s : State) (m : Nat) (x : Motor) :
    Changes s (setMot s m x) [.motor] [] (fun u => OnlyMot m s u ∧ motOf u m = x) :=
  .intro ((Within.refl s).then_setMot m x (by simp)) (onlyMot_of_motor rfl)

/-- A happening at t that changes port m alone. -/
theorem effect_setNow_setMot {c : Instr} {s : State} {m t : Nat} {x : Motor} (h : exec c s = .next (setMot (setNow s t) m x)) :
    Effect c s [.time, .motor] [] (fun u => u.now = max s.now t ∧ OnlyMot m s u ∧ motOf u m = x) :=
  .intro h (((Within.refl s).then_setNow t (by simp)).then_setMot m x (by simp)) ⟨rfl, onlyMot_of_motor rfl⟩

/-- The port with all gates low in OFF, its stall count at 0 where the command says so (R210, R211). -/
def motorOff (x : Motor) (clearStalls : Bool) : Motor := if clearStalls then { x.quiet .off with stalls := 0 } else x.quiet .off

/-- A port that enters OFF is the only one that changes (R210). -/
theorem toOff_only (s : State) (m : Nat) (b : Bool) : OnlyMot m s (toOff s m b) ∧ motOf (toOff s m b) m = motorOff (motOf s m) b :=
  onlyMot_of_motor (forceTaper_motor ..)

/-- A port that enters OFF changes itself and the forced target of its taper alone (R210). -/
theorem toOff_changes (s : State) (m : Nat) : Changes s (toOff s m true) [.motor, .loop] [] (fun u =>
    OnlyMot m s u ∧ motOf u m = { (motOf s m).quiet .off with stalls := 0 }) :=
  .intro ((Within.refl s).then_toOff m true (by simp) (by simp)) (toOff_only s m true)

/-- A refused command sets MOTOR_STATE's bit and nothing else (R212). -/
theorem motRefuse_changes (s : State) (m : Nat) :
    Changes s (motRefuse s m) [] [(.motStatus, m)] (fun u => regB u .motStatus m 18 = true) :=
  .intro ((Within.refl s).then_stick _ _ _ (by simp)) (regB_stick_same _ _ _ (by simp))

/-! ## Commands of MOT_CMD on their rows (R220) -/

section
variable {c : Instr} {s : State} {m : Nat} {v : W32} {k : MotCmd}

/-- Outside a relight a row of MOT_CMD joins the commands of its port, and the wax keeps its write (R24, R220, R442). -/
theorem motRow_effect (hc : exec c s = .next (rowCmd s .motCmd m v (fun s => motTake s m k))) (h : s.rlt.ctx = none)
    (hd : (motOf s m).st ≠ .disabled) : Effect c s [.motor, .wax] [] (fun u =>
      u.wax = (addItem s (.write (regAddr .motCmd m) v)).wax ∧ OnlyMot m s u ∧
      motOf u m = { motOf s m with cmds := (motOf s m).cmds ++ [k] }) :=
  .intro (hc.trans (congrArg _ ((rowCmd_free h ..).trans (if_neg hd))))
    (((Within.refl s).then_addItem _ (by simp)).then_setMot _ _ (by simp)) ⟨rfl, onlyMot_of_motor rfl⟩

/-- A port that is not defined refuses the row, and the wax keeps its write (R212, R442). -/
theorem motRow_undefined (hc : exec c s = .next (rowCmd s .motCmd m v (fun s => motTake s m k))) (h : s.rlt.ctx = none)
    (hd : (motOf s m).st = .disabled) : exec c s = .next (stick (addItem s (.write (regAddr .motCmd m) v)) .motStatus m 18) :=
  hc.trans (congrArg _ ((rowCmd_free h ..).trans (if_pos hd)))

end

theorem exec_motorClearCounts {m : Fin 16} {s : State} (h : s.rlt.ctx = none) :
    exec (.motorClearCounts m) s = .next (motClearCounts (addItem s (.write (regAddr .motCmd m) 7#32)) m) := by
  change execMotorClearCounts m s = _
  rw [execMotorClearCounts, rowCmd_free h]

/-- The row of clear_counts puts both counts of its port to 0 (R220). -/
theorem motorClearCounts_effect {m : Fin 16} {s : State} (h : s.rlt.ctx = none) :
    Effect (.motorClearCounts m) s [.motor, .wax] [] (fun u => u.wax = (addItem s (.write (regAddr .motCmd m) 7#32)).wax ∧
      OnlyMot m s u ∧ motOf u m = { motOf s m with faults := 0, stallCount := 0 }) :=
  .intro (exec_motorClearCounts h) (((Within.refl s).then_addItem _ (by simp)).then_setMot _ _ (by simp))
    ⟨rfl, onlyMot_of_motor rfl⟩

/-- In a relight the rows of MOT_CMD answer ACCESS_BUSY (R454). -/
theorem exec_motCmd_busy (m : Fin 16) {s : State} (h : s.rlt.ctx.isSome = true) :
    exec (.motorStart m) s = .next (report s hostReq (regAddr .motCmd m) .busy) ∧
    exec (.motorStop m) s = .next (report s hostReq (regAddr .motCmd m) .busy) ∧
    exec (.motorCoast m) s = .next (report s hostReq (regAddr .motCmd m) .busy) ∧
    exec (.motorReset m) s = .next (report s hostReq (regAddr .motCmd m) .busy) ∧
    exec (.motorIdent m) s = .next (report s hostReq (regAddr .motCmd m) .busy) ∧
    exec (.motorResume m) s = .next (report s hostReq (regAddr .motCmd m) .busy) ∧
    exec (.motorClearCounts m) s = .next (report s hostReq (regAddr .motCmd m) .busy) :=
  ⟨congrArg _ (rowCmd_busy h ..), congrArg _ (rowCmd_busy h ..), congrArg _ (rowCmd_busy h ..), congrArg _ (rowCmd_busy h ..),
    congrArg _ (rowCmd_busy h ..), congrArg _ (rowCmd_busy h ..), congrArg _ (rowCmd_busy h ..)⟩

/-! ## Commands as the port takes them (R206, R210, R212, R213, R218) -/

section
variable {s : State} {m t : Nat}

/-- A start at rest begins a search in the direction of the taper's target (R205, R206). -/
theorem motCommand_start (h : (motOf s m).st = .off ∨ (motOf s m).st = .retryWait) : motCommand s m t .start =
    toSearch (modMot s m (fun y => { y with dirRev := fLt (motTarget s m) 0#32 })) m t := by
  delta motCommand motStart
  rcases h with h | h <;> dsimp only <;> rw [h]

theorem motCommand_start_changes (h : (motOf s m).st = .off ∨ (motOf s m).st = .retryWait) :
    Changes s (motCommand s m t .start) [.motor] [] (fun u => OnlyMot m s u ∧
      motOf u m = { Motor.quiet { motOf s m with dirRev := fLt (motTarget s m) 0#32 } .search with phaseAt := t }) := by
  rw [motCommand_start h, toSearch, modMot, modMot, setMot_same]
  exact .intro (((Within.refl s).then_setMot _ _ (by simp)).then_setMot _ _ (by simp)) ((onlyMot_of_motor rfl).1.then_setMot rfl)

theorem motCommand_start_refused (h : (motOf s m).st = .stopping ∨ (motOf s m).st = .ident ∨ (motOf s m).st = .fault) :
    motCommand s m t .start = motRefuse s m := by
  delta motCommand motStart
  rcases h with h | h | h <;> dsimp only <;> rw [h]

/-- The stop of a running port by RAMP: its taper takes the target 0 (R210). -/
theorem motCommand_stop_ramp (h : (motOf s m).st = .run) (hm : motStopMode s m = 0) : motCommand s m t .stop =
    forceTaper (setMot s m { motOf s m with st := .stopping, stalls := 0, phaseAt := t, zeroSince := none }) m (some 0#32) := by
  delta motCommand motStop
  dsimp only
  rw [h, hm]
  rfl

/-- The stop of a running port by DC (R210). -/
theorem motCommand_stop_dc (h : (motOf s m).st = .run) (hm : motStopMode s m = 2) : motCommand s m t .stop =
    setMot s m { motOf s m with
      st := .stopping, stalls := 0, phaseAt := t, brakeAt := some t, zeroSince := none, iqCmd := 0#32, brakeSearch := false } := by
  delta motCommand motStop
  dsimp only
  rw [h, hm]
  rfl

/-- A port whose start is under way, or that waits to start again, has nothing to ramp down: a stop puts it to OFF (R210, R212). -/
def MotSt.stopsAtOnce (st : MotSt) : Bool :=
  match st with
  | .search | .probe | .catch_ | .brakeRegen | .brakeDc | .brakeCoast | .retryWait => true
  | _ => false

theorem motCommand_stop_atOnce (h : (motOf s m).st.stopsAtOnce = true) : motCommand s m t .stop = toOff s m true := by
  delta motCommand motStop
  dsimp only
  generalize (motOf s m).st = st at *
  cases st with
  | search | probe | catch_ | brakeRegen | brakeDc | brakeCoast | retryWait => rfl
  | _ => cases h

theorem motCommand_stop_atOnce_changes {st : MotSt} (h : (motOf s m).st = st) (hs : st.stopsAtOnce = true) :
    Changes s (motCommand s m t .stop) [.motor, .loop] [] (fun u =>
      OnlyMot m s u ∧ motOf u m = { (motOf s m).quiet .off with stalls := 0 }) := by
  rw [motCommand_stop_atOnce (h ▸ hs)]
  exact toOff_changes s m

/-- A taper that takes a forced target shows it (R210). -/
theorem taperOf_forceTaper_forced {j : Nat} {v : Option F32} (h : motTaper s m = some j) :
    (taperOf (forceTaper s m v) j).forced = v := by
  rw [forceTaper, h]
  exact congrArg Taper.forced (setTaper_same ..)

theorem motCommand_stop_ramp_changes (h : (motOf s m).st = .run) (hm : motStopMode s m = 0) :
    Changes s (motCommand s m t .stop) [.motor, .loop] [] (fun u => OnlyMot m s u ∧
      motOf u m = { motOf s m with st := .stopping, stalls := 0, phaseAt := t, zeroSince := none } ∧
      ∀ j, motTaper s m = some j → (taperOf u j).forced = some 0#32) := by
  rw [motCommand_stop_ramp h hm]
  obtain ⟨ho, hx⟩ := onlyMot_of_motor (forceTaper_motor (setMot s m _) m (some 0#32))
  exact .intro (((Within.refl s).then_setMot _ _ (by simp)).then_forceTaper _ _ (by simp))
    ⟨ho, hx, fun j hj => taperOf_forceTaper_forced (s := setMot s m _) hj⟩

theorem motCommand_coast (h : (motOf s m).st ≠ .disabled) : motCommand s m t .coast = toOff s m true := if_neg h

/-- Where a fault's condition is asked for, at most a free value is used (R215). -/
theorem faultGone_state (s : State) (m : Nat) : (faultGone s m).1 = s ∨ (faultGone s m).1 = useFree s := by
  unfold faultGone freeCond
  dsimp only
  split
  case h_1 | h_2 => exact .inr rfl
  all_goals exact .inl rfl

theorem Within.then_faultGone {ps : List Part} {rs : List (RegName × Nat)} {v : State} (k : Within ps rs s v) (m : Nat)
    (h : Part.free ∈ ps) : Within ps rs s (faultGone v m).1 := by
  rcases faultGone_state v m with e | e <;> rw [e]
  · exact k
  · exact k.then_useFree h

/-- A reset in FAULT with the condition gone clears the fault (R215, R217). -/
theorem motCommand_reset (h : (motOf s m).st = .fault) (hg : (faultGone s m).2 = true) : motCommand s m t .reset =
    modMot (toOff (faultGone s m).1 m true) m (fun x => { x with fault := .none }) := (if_pos h).trans (if_pos hg)

theorem motCommand_reset_changes (h : (motOf s m).st = .fault) (hg : (faultGone s m).2 = true) :
    Changes s (motCommand s m t .reset) [.motor, .loop, .free] [] (fun u =>
      OnlyMot m s u ∧ motOf u m = { (motOf s m).quiet .off with stalls := 0, fault := .none }) := by
  rw [motCommand_reset h hg]
  obtain ⟨⟨ho, hl⟩, hx⟩ := toOff_only (faultGone s m).1 m true
  have ho' : OnlyMot m s (toOff (faultGone s m).1 m true) :=
    ⟨fun k hk => (ho k hk).trans (motOf_faultGone s m k), by rw [hl, faultGone_motor]⟩
  obtain ⟨hu, hy⟩ := ho'.then_setMot (x := { motOf (toOff (faultGone s m).1 m true) m with fault := .none }) rfl
  exact .intro ((((Within.refl s).then_faultGone m (by simp)).then_toOff m true (by simp) (by simp)).then_setMot _ _ (by simp))
    ⟨hu, hy.trans (by rw [hx, motOf_faultGone]; rfl)⟩

theorem motCommand_reset_refused (h : (motOf s m).st ≠ .fault) : motCommand s m t .reset = motRefuse s m := if_neg h

theorem motCommand_ident (h : (motOf s m).st = .off) :
    motCommand s m t .ident = setMot s m { (motOf s m).quiet .ident with phaseAt := t } := if_pos h

theorem motCommand_ident_refused (h : (motOf s m).st ≠ .off) : motCommand s m t .ident = motRefuse s m := if_neg h

/-- A resume ends the port's nightlight and gives its taper the target back (R213). -/
theorem motCommand_resume (h : (motOf s m).night = true) : motCommand s m t .resume =
    forceTaper (setMot s m { motOf s m with night := false }) m (if (motOf s m).st = .stopping then some 0#32 else none) := if_pos h

theorem motCommand_resume_changes (h : (motOf s m).night = true) : Changes s (motCommand s m t .resume) [.motor, .loop] [] (fun u =>
    OnlyMot m s u ∧ motOf u m = { motOf s m with night := false }) := by
  rw [motCommand_resume h]
  exact .intro (((Within.refl s).then_setMot _ _ (by simp)).then_forceTaper _ _ (by simp)) (onlyMot_of_motor (forceTaper_motor ..))

end

/-! ## Faults (R215) -/

/-- EVR_STATUS is none of the ports' fault words. -/
theorem evrStatus_ne_motFault (m : Fin 16) : regAddr .evrStatus 0 ≠ regAddr .motFault m := by
  have hm := m.isLt
  change 0x1300028 ≠ 0x200044 + (m.val / 1 * 0x100 + 0)
  omega

/-- A port with no fault latched takes all gates low, latches the fault, counts it, sets its seen flag and records it (R215). -/
theorem motFault_fresh {s : State} {m : Nat} (f : MotFault) (hd : (motOf s m).st ≠ .disabled) (hf : (motOf s m).st ≠ .fault)
    (hn : (motOf s m).fault = .none) : motFault s m f = logEv (setMot (stick s .motFault m (15 + f.code)) m
      { (motOf s m).quiet .fault with fault := f, faults := satInc 16 (motOf s m).faults }) (srcMot m) .motorFault (16 * m + f.code) := by
  unfold motFault
  dsimp only
  rw [if_neg hd, if_neg hf, if_pos hn]

theorem MotFault.code_lt (f : MotFault) : 15 + f.code < 32 := by cases f <;> simp [MotFault.code]

/-- A command that is a port's fault at t, on a port with no fault latched (R215). -/
theorem effect_motFault {c : Instr} {s : State} {m : Fin 16} {t : Ns} {f : MotFault} (hc : exec c s = .next (motFault (setNow s t) m f))
    (hd : (motOf s m).st ≠ .disabled) (hf : (motOf s m).st ≠ .fault) (hn : (motOf s m).fault = .none) :
    Effect c s [.time, .motor, .recorder] [(.motFault, m), (.evrStatus, 0)] (fun u =>
      u.now = max s.now t ∧ OnlyMot m s u ∧
      motOf u m = { (motOf s m).quiet .fault with fault := f, faults := satInc 16 (motOf s m).faults } ∧
      regB u .motFault m (15 + f.code) = true) := by
  obtain ⟨ho, hx⟩ := onlyMot_of_motor (s := s) (logEv_motor (setMot (stick (setNow s t) .motFault m (15 + f.code)) m
    { (motOf s m).quiet .fault with fault := f, faults := satInc 16 (motOf s m).faults }) (srcMot m) .motorFault (16 * m + f.code))
  exact .intro (hc.trans (congrArg _ (motFault_fresh (s := setNow s t) f hd hf hn)))
    (((((Within.refl s).then_setNow t (by simp)).then_stick _ _ _ (by simp)).then_setMot _ _ (by simp)).then_logEv _ _ _ (by simp)
      (by simp))
    ⟨logEv_now .., ho, hx, (regB_logEv_ne _ _ _ _ _ (evrStatus_ne_motFault m)).trans (regB_stick_same _ _ _ f.code_lt)⟩

section
variable {m : Fin 16} {t t0 : Ns} {s : State}

theorem exec_dcOvervolt (hl : fLt (vMax (setNow s t) m) (motOf s m).vdcLast = true)
    (hp : fLt (vMax (setNow s t) m) (motOf s m).vdcPrev = true) :
    exec (.dcOvervolt m t) s = .next (motFault (setNow s t) m .dcOvervolt) := congrArg _ (if_pos (Bool.and_eq_true_iff.mpr ⟨hl, hp⟩))

theorem exec_sdLoss {g : Ns} (hd : driving s = true) (hg : s.pair.gateAt = some g) (ht : g + 10000 ≤ t) :
    exec (.sdLoss m t) s = .next (motFault (setNow s t) m .sdLoss) := by
  change execSdLoss m t s = _
  delta execSdLoss
  dsimp only [setNow_pair]
  rw [hg]
  exact congrArg _ (if_pos ⟨hd, ht⟩)

theorem exec_dcUndervolt (h : (motOf s m).lowVdc = some t0) (ht : t0 + 10 * 1000000 ≤ t) :
    exec (.dcUndervolt m t) s = .next (motFault (setNow s t) m .dcUndervolt) := by
  change execDcUndervolt m t s = _
  delta execDcUndervolt
  dsimp only
  rw [motOf_setNow, h]
  exact congrArg _ (if_pos ht)

theorem exec_phaseLoss (h : (motOf s m).gates = true) : exec (.phaseLoss m t) s = .next (motFault (setNow s t) m .phaseLoss) :=
  congrArg _ (if_pos h)

theorem exec_observerInvalidTimeout (h : (motOf s m).obsBadSince = some t0) (ht : t0 + 100 * 1000000 ≤ t) :
    exec (.observerInvalidTimeout m t) s = .next (motFault (setNow s t) m .feedbackLost) := by
  change execObserverInvalidTimeout m t s = _
  delta execObserverInvalidTimeout
  dsimp only
  rw [motOf_setNow, h]
  exact congrArg _ (if_pos ht)

theorem exec_reverseHold (h : brakeOver s m t = true) : exec (.reverseHold m t) s = .next (motFault (setNow s t) m .reverseHold) :=
  congrArg _ (if_pos h)

end

end Sys2Proof.Machine
end

section
/-!
SUPPORT. The current loop of a motor port (R195, R196, R199): what a sample does to the port where its gates are low, and where it runs
on its commands.
-/
namespace Sys2Proof.Machine

open Sys2Proof

section
variable {s u : State} {m : Nat}

/-- The fast filters' trip rests on the registers, the structure and the port's parameters (R196, R215). -/
theorem fastTrip_congr (hr : u.rf = s.rf) (hh : u.hld = s.hld) (hp : (motOf u m).par = (motOf s m).par) (p : PhaseSample) :
    fastTrip u m p = fastTrip s m p := by
  simp only [fastTrip, iTrip, iRated, motPar, chanValue, motOnly, regW_congr hr, hh, hp]

/-- Whether a port drives the rotating vector rests on the registers, the structure, its state and its loop's setpoint (R204). -/
theorem slowVector_congr (hr : u.rf = s.rf) (hh : u.hld = s.hld) (hb : u.before = s.before) (hl : u.loop = s.loop)
    (hst : (motOf u m).st = (motOf s m).st) : slowVector u m = slowVector s m := by
  have hw : loopW u m = loopW s m := by
    simp only [loopW, motLoop, motCtrl, instFor, instsOf, hh, loopOf, t0, hb]
    cases s.before with
    | none => simp only [hl]
    | some k => rfl
  simp only [slowVector, obsMinRpm, nRated, motOnly, motFb, regF, regW_congr hr, hh, hst, hw]

/-- In RUN the references of the current loop use no free value (R199). -/
theorem curRefs_run_state (h : (motOf s m).st = .run) (vdc : F32) : (curRefs s m vdc).1 = s := by
  unfold curRefs
  dsimp only
  rw [h]
  split <;> rfl

/-- Above obs_min no vector turns: the port stands as the current loop leaves it (R204). -/
theorem turnVector_setMot {x : Motor} (hs : slowVector s m = false) (hst : x.st = (motOf s m).st) :
    turnVector (setMot s m x) m = setMot s m x := by
  have h : slowVector (setMot s m x) m = false :=
    (slowVector_congr (u := setMot s m x) (s := s) rfl rfl rfl rfl (by rw [setMot_same, hst])).trans hs
  exact if_neg (Bool.not_eq_true _ ▸ h)

/-- In RUN above obs_min the current loop changes its port alone: the duties computed before take effect, the sums and the parameters
stand (R195, R199). -/
theorem curStep_run (h : (motOf s m).st = .run) (hs : slowVector s m = false) (t angle : Nat) (v : PhaseVals) :
    ∃ x : Motor, curStep s m t angle v = setMot s m x ∧ x.duty = (motOf s m).dutyNext ∧ x.nSamp = (motOf s m).nSamp ∧
      x.vdcLast = (motOf s m).vdcLast ∧ x.lowSince = none ∧ x.par = (motOf s m).par := by
  unfold curStep
  dsimp only
  rw [curRefs_run_state h]
  exact ⟨_, turnVector_setMot hs rfl, rfl, rfl, rfl, by rw [h]; rfl, rfl⟩

end

/-- A port without PWM: no voltage, no duties, no limit in force (R190, R195). -/
def noVoltage (x : Motor) : Motor :=
  { x with ud := 0#32, uq := 0#32, duty := [], dutyNext := [], busLim := false, curLim := false, voltSat := false }

/-- The port with a sample at t in its sums (R196, R198). -/
def sampled (s : State) (m : Nat) (t : Ns) (smp : PhaseSample) : Motor :=
  curSums (setNow s t) m t (phaseVals (setNow s t) m (motAngleAt (setNow s t) m t) smp) (motOf s m)

/-- The state in which the current loop finds its sample at t. -/
def afterSample (s : State) (m : Nat) (t : Ns) (smp : PhaseSample) : State := useFree (setMot (setNow s t) m (sampled s m t smp))

/-- What the current loop makes of a sample at a peak of the carrier, before the fast filters are looked at (R195, R199). -/
def loopRun (s : State) (m : Nat) (t : Ns) (smp : PhaseSample) : State :=
  if (motOf s m).gates && driving s then
    curStep (afterSample s m t smp) m t (motAngleAt (setNow s t) m t) (phaseVals (setNow s t) m (motAngleAt (setNow s t) m t) smp)
  else modMot (afterSample s m t smp) m noVoltage

section
variable {m : Fin 16} {t : Ns} {smp : PhaseSample} {s : State}

theorem motOf_afterSample (s : State) (m : Nat) (t : Ns) (smp : PhaseSample) : motOf (afterSample s m t smp) m = sampled s m t smp :=
  setMot_same ..

/-- A sample at a peak of the carrier: the current loop, then the trip of the fast filters (R195, R196). -/
theorem exec_currentLoopUpdate_peak (hd : (motOf s m).st ≠ .disabled) (hv : smp.valley = false) : exec (.currentLoopUpdate m t smp) s =
    .next (if fastTrip (loopRun s m t smp) m smp then motFault (loopRun s m t smp) m .overcurrent else loopRun s m t smp) := by
  change execCurrentLoopUpdate m t smp s = _
  unfold execCurrentLoopUpdate
  simp only [motOf_setNow, if_neg hd, hv, Bool.false_eq_true, if_false]
  rfl

section
variable (hd : (motOf s m).st ≠ .disabled) (hg : (motOf s m).gates = false ∨ driving s = false) (hv : smp.valley = false)
include hd hg hv

/-- Where the port does not drive, a sample leaves it without PWM, and the fast filters trip as before it (R195, R196). -/
theorem exec_currentLoopUpdate_idle : exec (.currentLoopUpdate m t smp) s =
    .next (if fastTrip s m smp then motFault (modMot (afterSample s m t smp) m noVoltage) m .overcurrent
      else modMot (afterSample s m t smp) m noVoltage) := by
  have hl : loopRun s m t smp = modMot (afterSample s m t smp) m noVoltage :=
    if_neg (Bool.not_eq_true _ ▸ Bool.and_eq_false_iff.mpr hg)
  have hf : fastTrip (modMot (afterSample s m t smp) m noVoltage) m smp = fastTrip s m smp :=
    fastTrip_congr (s := s) (u := modMot (afterSample s m t smp) m noVoltage) rfl rfl
      (by rw [modMot, setMot_same, motOf_afterSample]; rfl) smp
  rw [exec_currentLoopUpdate_peak hd hv, hl, hf]

/-- Where the port does not drive and no fast filter trips, a sample joins the sums of its port alone (R195, R198). -/
theorem currentLoopUpdate_idle_effect (hf : fastTrip s m smp = false) :
    Effect (.currentLoopUpdate m t smp) s [.time, .motor, .free] [] (fun u =>
      u.now = max s.now t ∧ OnlyMot m s u ∧ motOf u m = noVoltage (sampled s m t smp)) := by
  have he := exec_currentLoopUpdate_idle (t := t) hd hg hv
  rw [hf, if_neg Bool.false_ne_true, modMot, motOf_afterSample] at he
  exact .intro he (((((Within.refl s).then_setNow t (by simp)).then_setMot _ _ (by simp)).then_useFree (by simp)).then_setMot _ _
    (by simp)) ⟨rfl, OnlyMot.then_setMot (onlyMot_of_motor rfl).1 rfl⟩

/-- Where the port does not drive, a fast filter's trip is its fault all the same (R196, R215). -/
theorem exec_currentLoopUpdate_trips (hf : fastTrip s m smp = true) : exec (.currentLoopUpdate m t smp) s =
    .next (motFault (modMot (afterSample s m t smp) m noVoltage) m .overcurrent) := by
  rw [exec_currentLoopUpdate_idle hd hg hv, if_pos hf]

end

/-- In RUN above obs_min a sample runs the current loop of its port alone: the duties computed before take effect (R195, R199). -/
theorem currentLoopUpdate_run_yields (hst : (motOf s m).st = .run)
    (hg : (motOf s m).gates = true) (hr : driving s = true) (hv : smp.valley = false) (hs : slowVector s m = false)
    (hf : fastTrip s m smp = false) : Yields (.currentLoopUpdate m t smp) s (fun u => u.now = max s.now t ∧ OnlyMot m s u ∧
      (motOf u m).duty = (motOf s m).dutyNext ∧ (motOf u m).nSamp = (motOf s m).nSamp + 1 ∧
      (motOf u m).vdcLast = (phaseVals (setNow s t) m (motAngleAt (setNow s t) m t) smp).vdc ∧ (motOf u m).lowSince = none) := by
  have hx : motOf (afterSample s m t smp) m = sampled s m t smp := motOf_afterSample ..
  have hs' : slowVector (afterSample s m t smp) m = false :=
    (slowVector_congr (u := afterSample s m t smp) (s := s) rfl rfl rfl rfl (by rw [hx]; rfl)).trans hs
  obtain ⟨x, hu, hduty, hn, hvdc, hlow, hpar⟩ := curStep_run (hx ▸ hst) hs' t (motAngleAt (setNow s t) m t)
    (phaseVals (setNow s t) m (motAngleAt (setNow s t) m t) smp)
  rw [hx] at hduty hn hvdc hpar
  have hl : loopRun s m t smp = setMot (afterSample s m t smp) m x := (if_pos (Bool.and_eq_true_iff.mpr ⟨hg, hr⟩)).trans hu
  have ht : fastTrip (setMot (afterSample s m t smp) m x) m smp = false :=
    (fastTrip_congr (u := setMot (afterSample s m t smp) m x) (s := s) rfl rfl (by rw [setMot_same, hpar]; rfl) smp).trans hf
  have hd : (motOf s m).st ≠ .disabled := by simp [hst]
  have he := exec_currentLoopUpdate_peak (t := t) hd hv
  rw [hl, ht, if_neg Bool.false_ne_true] at he
  obtain ⟨ho, hy⟩ := OnlyMot.then_setMot (s := s) (u := setMot (afterSample s m t smp) m x) (onlyMot_of_motor rfl).1 rfl
  refine ⟨_, he, rfl, rfl, ho, ?_⟩
  rw [hy]
  exact ⟨hduty, hn, hvdc, hlow⟩

end

end Sys2Proof.Machine
end

section
/-!
The commands of a motor port complete with their effects or their refusal (O15).
-/
namespace Sys2Proof.Machine

open Sys2Proof

/-- Settles O15, clause by clause from the equations and effects above. -/
theorem motorCommandsComplete : Obligations.MotorCommandsComplete := by
  refine ⟨?startRow, ?stopRow, ?coastRow, ?resetRow, ?identRow, ?resumeRow, ?clearRow, ?undefined, ?busy, ?startOff, ?startRetry,
    ?startRefused, ?stopRamp, ?stopDc, ?stopSearch, ?stopProbe, ?stopCatch, ?stopRegen, ?stopBrakeDc, ?stopBrakeCoast, ?stopRetry, ?coast,
    ?reset, ?resetRefused, ?ident, ?identRefused, ?resume, ?loopIdle, ?loopTrips, ?loopRuns⟩
  case startRow => exact fun m s h hd => motRow_effect (k := .start) rfl h hd
  case stopRow => exact fun m s h hd => motRow_effect (k := .stop) rfl h hd
  case coastRow => exact fun m s h hd => motRow_effect (k := .coast) rfl h hd
  case resetRow => exact fun m s h hd => motRow_effect (k := .reset) rfl h hd
  case identRow => exact fun m s h hd => motRow_effect (k := .ident) rfl h hd
  case resumeRow => exact fun m s h hd => motRow_effect (k := .resume) rfl h hd
  case clearRow => exact fun m s h => motorClearCounts_effect h
  case undefined =>
    exact fun m s h hd => ⟨motRow_undefined (k := .start) rfl h hd, motRow_undefined (k := .stop) rfl h hd,
      motRow_undefined (k := .coast) rfl h hd, motRow_undefined (k := .reset) rfl h hd, motRow_undefined (k := .ident) rfl h hd,
      motRow_undefined (k := .resume) rfl h hd⟩
  case busy => exact fun m s h => exec_motCmd_busy m h
  case startOff => exact fun m t s h => motCommand_start_changes (.inl h)
  case startRetry => exact fun m t s h => motCommand_start_changes (.inr h)
  case startRefused =>
    intro m t s h
    rw [motCommand_start_refused h]
    exact motRefuse_changes s m
  case stopRamp => exact fun m t s h hm => motCommand_stop_ramp_changes h hm
  case stopDc =>
    intro m t s h hm
    rw [motCommand_stop_dc h hm]
    exact changes_setMot s m _
  case stopSearch => exact fun m t s h => motCommand_stop_atOnce_changes h rfl
  case stopProbe => exact fun m t s h => motCommand_stop_atOnce_changes h rfl
  case stopCatch => exact fun m t s h => motCommand_stop_atOnce_changes h rfl
  case stopRegen => exact fun m t s h => motCommand_stop_atOnce_changes h rfl
  case stopBrakeDc => exact fun m t s h => motCommand_stop_atOnce_changes h rfl
  case stopBrakeCoast => exact fun m t s h => motCommand_stop_atOnce_changes h rfl
  case stopRetry => exact fun m t s h => motCommand_stop_atOnce_changes h rfl
  case coast =>
    intro m t s h
    rw [motCommand_coast h]
    exact toOff_changes s m
  case reset => exact fun m t s h hg => motCommand_reset_changes h hg
  case resetRefused =>
    intro m t s h
    rw [motCommand_reset_refused h]
    exact motRefuse_changes s m
  case ident =>
    intro m t s h
    rw [motCommand_ident h]
    exact changes_setMot s m _
  case identRefused =>
    intro m t s h
    rw [motCommand_ident_refused h]
    exact motRefuse_changes s m
  case resume => exact fun m t s h => motCommand_resume_changes h
  case loopIdle => exact fun m t smp s hd hg hv hf => currentLoopUpdate_idle_effect hd hg hv hf
  case loopTrips => exact fun m t smp s hd hg hv hf => exec_currentLoopUpdate_trips hd hg hv hf
  case loopRuns => exact fun m t smp s hst hg hr hv hs hf => currentLoopUpdate_run_yields hst hg hr hv hs hf

end Sys2Proof.Machine
end

section
/-!
The faults of a motor port complete with their effects (O16): each is the port's fault at its time, and what the port makes of a fault is
said once.
-/
namespace Sys2Proof.Machine

open Sys2Proof

/-- Settles O16, clause by clause from the equations and the effect above. -/
theorem motorFaultsComplete : Obligations.MotorFaultsComplete := by
  refine ⟨?hwTrip, ?hwTripEffect, ?overcurrent, ?overcurrentEffect, ?overvolt, ?overvoltEffect, ?sdLoss, ?sdLossEffect, ?undervolt,
    ?undervoltEffect, ?phaseLoss, ?phaseLossEffect, ?observer, ?observerEffect, ?reverseHold, ?reverseHoldEffect⟩
  case hwTrip => exact fun m t s => rfl
  case hwTripEffect => exact fun m t s hd hf hn => effect_motFault rfl hd hf hn
  case overcurrent => exact fun m t s => rfl
  case overcurrentEffect => exact fun m t s hd hf hn => effect_motFault rfl hd hf hn
  case overvolt => exact fun m t s hl hp => exec_dcOvervolt hl hp
  case overvoltEffect => exact fun m t s hd hf hn hl hp => effect_motFault (exec_dcOvervolt hl hp) hd hf hn
  case sdLoss => exact fun m t g s hv hg ht => exec_sdLoss hv hg ht
  case sdLossEffect => exact fun m t g s hd hf hn hv hg ht => effect_motFault (exec_sdLoss hv hg ht) hd hf hn
  case undervolt => exact fun m t t0 s h ht => exec_dcUndervolt h ht
  case undervoltEffect => exact fun m t t0 s hd hf hn h ht => effect_motFault (exec_dcUndervolt h ht) hd hf hn
  case phaseLoss => exact fun m t s h => exec_phaseLoss h
  case phaseLossEffect => exact fun m t s hd hf hn h => effect_motFault (exec_phaseLoss h) hd hf hn
  case observer => exact fun m t t0 s h ht => exec_observerInvalidTimeout h ht
  case observerEffect => exact fun m t t0 s hd hf hn h ht => effect_motFault (exec_observerInvalidTimeout h ht) hd hf hn
  case reverseHold => exact fun m t s h => exec_reverseHold h
  case reverseHoldEffect => exact fun m t s hd hf hn h => effect_motFault (exec_reverseHold h) hd hf hn

end Sys2Proof.Machine
end

section
/-!
SUPPORT. Phases of a motor port (R202, R206 to R211, R218): what the end of a search, a probe, an alignment, a catch, a brake, a stop, a
stall, a wait or an identification does where the spec has it act.
-/
namespace Sys2Proof.Machine

open Sys2Proof

/-! ## Searches and probes (R206, R207) -/

section
variable {s : State} {m t : Nat} {r : SearchReading}

/-- Where R28 holds, a port enters a state with PWM (R28, R190). -/
theorem motDrive_driven (h : driving s = true) (m : Nat) (f : State → State) : motDrive s m f = f s := if_pos h

section
variable (ho : searchOver s m t = true) (hb : (motOf s m).brakeSearch = false)
include ho hb

/-- The first search of a start that fails is to be repeated 1 s later (R206). -/
theorem searchDone_repeats (hf : searchFails s m r = true) (hr : (motOf s m).repeated = false) :
    searchDone s m t r = setMot s m { motOf s m with repeated := true, repeatAt := some (t + 1000000000) } := by
  unfold searchDone
  dsimp only
  rw [ho, if_neg (by simp), if_pos hf, if_neg (Bool.not_eq_true _ ▸ hb), if_neg (Bool.not_eq_true _ ▸ hr)]
  rfl

/-- A search of a start that finds no voltage on an induction port with probes left goes on to a probe (R207). -/
theorem searchDone_probes (hst : (motOf s m).st = .search) (hf : searchFails s m r = false) (hn : searchSpeed s m r = none)
    (hp : motPm s m = false) (hc : (motOf s m).probes < 2) :
    ∃ q, searchDone s m t r = toProbe (setMot s m { motOf s m with search := q }) m t := by
  have hi : ¬ (motOf s m).st = .ident := by simp [hst]
  have hg : ((searchSpeed s m r).isNone && !motPm s m && decide ((motOf s m).probes < 2)) = true := by simp [hn, hp, hc]
  unfold searchDone
  dsimp only
  rw [ho, if_neg (by simp), if_neg (Bool.not_eq_true _ ▸ hf), if_neg (Bool.not_eq_true _ ▸ hb), if_neg hi, if_pos hg]
  exact ⟨_, rfl⟩

end

theorem toProbe_driven (h : driving s = true) :
    toProbe s m t = setMot s m { motOf s m with st := .probe, gates := true, phaseAt := t, probes := (motOf s m).probes + 1 } :=
  motDrive_driven h ..

end

section
variable {m : Fin 16} {t t0 : Ns} {s : State}

theorem exec_searchComplete (m : Fin 16) (t : Ns) (r : SearchReading) (s : State) :
    exec (.searchComplete m t r) s = .next (searchDone (setNow s t) m t r) := rfl

/-- A search without a finding goes on to a probe: the port drives, and one probe more is counted (R207). -/
theorem searchComplete_probe_yields {r : SearchReading} (hst : (motOf s m).st = .search) (ho : searchOver (setNow s t) m t = true)
    (hf : searchFails (setNow s t) m r = false) (hb : (motOf s m).brakeSearch = false) (hn : searchSpeed (setNow s t) m r = none)
    (hp : motPm s m = false) (hc : (motOf s m).probes < 2) (hd : driving s = true) :
    Yields (.searchComplete m t r) s (fun u => ((motOf u m).st = .probe ∧ (motOf u m).gates = true ∧
      (motOf u m).probes = (motOf s m).probes + 1 ∧ (motOf u m).phaseAt = t) ∧ OnlyMot m s u) := by
  have he := exec_searchComplete m t r s
  obtain ⟨q, hq⟩ := searchDone_probes (s := setNow s t) ho hb hst hf hn hp hc
  rw [hq, toProbe_driven (s := setMot (setNow s t) m _) hd, setMot_same] at he
  have hm : OnlyMot m s (setMot (setNow s t) m { motOf s m with search := q }) := (onlyMot_of_motor rfl).1
  refine ⟨_, he, rfl, ?_, (hm.then_setMot rfl).1⟩
  rw [setMot_same]
  exact ⟨rfl, rfl, rfl, rfl⟩

theorem exec_searchRetry (h : (motOf s m).repeatAt = some t0) (ht : t0 ≤ t) :
    exec (.searchRetry m t) s = .next (setMot (setNow s t) m { motOf s m with repeatAt := none, phaseAt := t }) := by
  change execSearchRetry m t s = _
  unfold execSearchRetry
  dsimp only
  rw [motOf_setNow, h]
  exact congrArg _ (if_pos ht)

theorem exec_probeComplete (hst : (motOf s m).st = .probe) (hg : (motOf s m).gates = true)
    (ht : (motOf s m).phaseAt + 20 * 1000000 ≤ t) :
    exec (.probeComplete m t) s = .next (setMot (setNow s t) m { motOf s m with gates := false, phaseAt := t }) :=
  congrArg _ (if_pos ⟨hst, hg, ht⟩)

end

/-! ## Aligning and catching (R202, R208) -/

section
variable {m : Fin 16} {t t0 : Ns} {s : State}

/-- After 200 ms of aligning the rotor stands along U: the angle that the encoder counts there is the offset (R202). -/
theorem exec_angleAlignComplete (hst : (motOf s m).st = .catch_) (ha : (motOf s m).aligning = true)
    (ht : (motOf s m).phaseAt + 200 * 1000000 ≤ t) : exec (.angleAlignComplete m t) s =
      .next (setOffset (setMot (setNow s t) m { motOf s m with aligning := false, phaseAt := t }) m 0) :=
  congrArg _ (if_pos ⟨hst, ha, ht⟩)

theorem angleAlignComplete_yields (hst : (motOf s m).st = .catch_) (ha : (motOf s m).aligning = true)
    (ht : (motOf s m).phaseAt + 200 * 1000000 ≤ t) :
    Yields (.angleAlignComplete m t) s (fun u => OnlyMot m s u ∧ (motOf u m).aligning = false ∧ (motOf u m).offsetValid = true ∧
      (motOf u m).phaseAt = t ∧ (motOf u m).offset = (65536 - encAngle s m) % 65536) := by
  have hx : setOffset (setMot (setNow s t) m { motOf s m with aligning := false, phaseAt := t }) m 0 =
      setMot (setMot (setNow s t) m { motOf s m with aligning := false, phaseAt := t }) m { motOf s m with
        aligning := false, phaseAt := t, offset := (0 + 65536 - encAngle s m) % 65536, offsetValid := true } := by
    unfold setOffset
    dsimp only
    rw [setMot_same]
    rfl
  obtain ⟨ho, hy⟩ := OnlyMot.then_setMot (s := s) (t := setMot (setNow s t) m { motOf s m with aligning := false, phaseAt := t })
    (onlyMot_of_motor rfl).1 (congrArg State.motor hx)
  refine ⟨_, exec_angleAlignComplete hst ha ht, rfl, ho, ?_⟩
  rw [hy]
  exact ⟨rfl, rfl, rfl, by rw [Nat.zero_add]⟩

/-- CATCH is over once the flux is built and the current loop has been settled for 10 ms (R208). -/
theorem catchOver_of (hst : (motOf s m).st = .catch_) (ha : (motOf s m).aligning = false)
    (hf : motPm s m = true ∨ (motOf s m).phaseAt + tFlux s m ≤ t) (hs : (motOf s m).settled = some t0)
    (ht : t0 + 10 * 1000000 ≤ t) : catchOver s m t = true := by
  unfold catchOver
  dsimp only
  rw [hst, ha, hs]
  simpa [msNs, ht] using hf

theorem exec_catchComplete (h : catchOver (setNow s t) m t = true) : exec (.catchComplete m t) s = .next (setMot (setNow s t) m
    { motOf s m with st := .run, iqCmd := 0#32, nextIq := none, search := none, probes := 0, brakeAt := none }) := congrArg _ (if_pos h)

end

/-! ## Braking and stopping (R209, R210) -/

section
variable {m : Fin 16} {t t0 : Ns} {s : State}

theorem toBrake_driven {s : State} {m t : Nat} (h : driving s = true) (st : MotSt) :
    toBrake s m t st = setMot (useFree s) m { motOf s m with
      st := st, gates := decide (st ≠ .brakeCoast), phaseAt := t, brakeSearch := false, lowSince := none,
      brakeAt := some ((motOf s m).brakeAt.getD t), idCmd := Config.freeWord s.free } := motDrive_driven h ..

theorem exec_brakeFallback (hl : (motOf s m).lowSince = some t0) (hst : (motOf s m).st = .brakeRegen) (ht : t0 + 2 * 1000000000 ≤ t) :
    exec (.brakeFallback m t) s = .next (toBrake (setNow s t) m t (if motPm s m then .brakeCoast else .brakeDc)) := by
  change execBrakeFallback m t s = _
  unfold execBrakeFallback
  dsimp only
  rw [motOf_setNow, hl]
  exact congrArg _ (if_pos ⟨hst, ht⟩)

/-- A port that brakes with too little current for 2 s goes on without it: a PM motor with all gates low, another in DC (R209). -/
theorem brakeFallback_yields (hl : (motOf s m).lowSince = some t0) (hst : (motOf s m).st = .brakeRegen)
    (ht : t0 + 2 * 1000000000 ≤ t) (hd : driving s = true) : Yields (.brakeFallback m t) s (fun u => OnlyMot m s u ∧
      (motOf u m).st = (if motPm s m then .brakeCoast else .brakeDc) ∧ (motOf u m).gates = !motPm s m ∧ (motOf u m).phaseAt = t) := by
  have he := exec_brakeFallback hl hst ht
  rw [toBrake_driven (s := setNow s t) hd] at he
  obtain ⟨ho, hy⟩ := onlyMot_of_motor rfl
  refine ⟨_, he, rfl, ho, ?_⟩
  rw [hy]
  exact ⟨rfl, by cases motPm s m <;> rfl, rfl⟩

/-- After 1 s of braking without a wick the gates go low for a search (R209, R210). -/
theorem exec_brakeSearch (hst : (motOf s m).st = .brakeDc ∨ (motOf s m).st = .brakeCoast ∨
      ((motOf s m).st = .stopping ∧ (motOf s m).brakeAt.isSome = true))
    (hw : wickRpm s m = none) (hb : (motOf s m).brakeSearch = false) (ht : (motOf s m).phaseAt + 1000000000 ≤ t) :
    exec (.brakeSearch m t) s = .next (setMot (setNow s t) m { motOf s m with gates := false, brakeSearch := true, phaseAt := t }) := by
  have hdc : ((motOf s m).st == .brakeDc || (motOf s m).st == .brakeCoast ||
      ((motOf s m).st == .stopping && (motOf s m).brakeAt.isSome)) = true := by
    rcases hst with h | h | ⟨h, hs⟩
    · rw [h]; rfl
    · rw [h]; rfl
    · rw [h, hs]; rfl
  have hg (dc : Bool) (h : dc = true) : (dc && (wickRpm s m).isNone && !(motOf s m).brakeSearch &&
      decide ((motOf s m).phaseAt + secNs ≤ t)) = true := by
    rw [h, hw, hb, decide_eq_true (show _ + secNs ≤ t from ht)]
    rfl
  exact congrArg _ (if_pos (hg _ hdc))

section
variable {s : State} {m t t0 : Nat} (hz : (motOf s m).zeroSince = some t0) (ht : t0 + 200 * 1000000 ≤ t)
include hz ht

theorem stopOver_still (hst : (motOf s m).st = .stopping) : stopOver s m t = true := by
  unfold stopOver
  dsimp only
  rw [hst, hz]
  simp [msNs, ht]

/-- A port that has stood still for 200 ms stops without an event (R210). -/
theorem endStopping_still : endStopping s m t = toOff s m false := by
  unfold endStopping
  dsimp only
  rw [hz]
  simp [msNs, ht]

end

theorem stoppingComplete_yields (hst : (motOf s m).st = .stopping) (hz : (motOf s m).zeroSince = some t0)
    (ht : t0 + 200 * 1000000 ≤ t) :
    Yields (.stoppingComplete m t) s (fun u => OnlyMot m s u ∧ motOf u m = (motOf s m).quiet .off) :=
  ⟨toOff (setNow s t) m false,
    congrArg _ ((if_pos (stopOver_still (s := setNow s t) hz ht hst)).trans (endStopping_still (s := setNow s t) hz ht)),
    toOff_pending .., toOff_only (setNow s t) m false⟩

end

/-! ## Stalls (R211) and identification (R218) -/

section
variable {m : Fin 16} {t t0 : Ns} {s : State}

/-- A stall with retries left is counted and recorded, and the port waits (R211). -/
theorem motStall_waits {s : State} {m t : Nat} (hst : (motOf s m).st = .run) (hr : (motOf s m).stalls < fanRetries s m) :
    motStall s m t = setMot (logEv (setMot s m { motOf s m with stallCount := satInc 16 (motOf s m).stallCount }) (srcMot m) .fanStall m) m
      { Motor.quiet { motOf s m with stallCount := satInc 16 (motOf s m).stallCount } .retryWait with
        stalls := (motOf s m).stalls + 1, retryAt := t + tRetry s m } := by
  unfold motStall
  dsimp only
  rw [if_neg (not_not_intro hst), if_pos hr, modMot, motOf_logEv, setMot_same]

theorem exec_fanStall (ho : stallOver s m t = true) : exec (.fanStall m t) s = .next (motStall (setNow s t) m t) :=
  congrArg _ (if_pos ho)

/-- A stall with retries left changes its port and the recorder alone (R211). -/
theorem fanStall_effect (ho : stallOver s m t = true) (hst : (motOf s m).st = .run) (hr : (motOf s m).stalls < fanRetries s m) :
    Effect (.fanStall m t) s [.time, .motor, .recorder] [(.evrStatus, 0)] (fun u => u.now = max s.now t ∧ OnlyMot m s u ∧
      motOf u m = { Motor.quiet { motOf s m with stallCount := satInc 16 (motOf s m).stallCount } .retryWait with
        stalls := (motOf s m).stalls + 1, retryAt := t + tRetry s m }) := by
  obtain ⟨hc, -⟩ := onlyMot_of_motor (s := s) (logEv_motor (setMot (setNow s t) m
    { motOf s m with stallCount := satInc 16 (motOf s m).stallCount }) (srcMot m) .fanStall m)
  exact .intro ((exec_fanStall ho).trans (congrArg _ (motStall_waits (s := setNow s t) hst hr)))
    (((((Within.refl s).then_setNow t (by simp)).then_setMot _ _ (by simp)).then_logEv _ _ _ (by simp) (by simp)).then_setMot _ _
      (by simp))
    ⟨logEv_now .., hc.then_setMot rfl⟩

theorem exec_retryWaitExpiry (hst : (motOf s m).st = .retryWait) (ht : (motOf s m).retryAt ≤ t) :
    exec (.retryWaitExpiry m t) s = .next (setMot (setNow s t) m { (motOf s m).quiet .search with phaseAt := t }) :=
  congrArg _ (if_pos ⟨hst, ht⟩)

theorem exec_stallCountClear (ha : (motOf s m).aboveSince = some t0) (ht : t0 + 60 * 1000000000 ≤ t) :
    exec (.stallCountClear m t) s = .next (setMot (setNow s t) m { motOf s m with stalls := 0 }) := by
  change execStallCountClear m t s = _
  unfold execStallCountClear stallClear
  dsimp only
  rw [motOf_setNow, ha]
  exact congrArg _ (if_pos ht)

section
variable {rs ls : F32} (hst : (motOf s m).st = .ident) (hm : (motOf s m).identMeas = true)
  (hg : (fLe (fRat 1 1000) rs && fLe rs (fOfNat 100) && fLe (fRat 1 1000000) ls && fLe ls (fOfNat 1) &&
    decide (t ≤ (motOf s m).phaseAt + 3 * secNs)) = true)
include hst hm hg

/-- Results in range within 3 s are stored, and the port is OFF (R218). -/
theorem exec_identComplete_good : exec (.identComplete m t rs ls true) s =
    .next (stick (setMot (setNow s t) m { (motOf s m).quiet .off with rs := rs, ls := ls, identified := true }) .motStatus m 17) :=
  congrArg _ ((if_pos ⟨hst, hm⟩).trans (if_pos hg))

theorem identComplete_effect :
    Effect (.identComplete m t rs ls true) s [.time, .motor] [(.motStatus, m)] (fun u => u.now = max s.now t ∧ OnlyMot m s u ∧
      motOf u m = { (motOf s m).quiet .off with rs := rs, ls := ls, identified := true } ∧ regB u .motStatus m 17 = true) := by
  obtain ⟨ho, hx⟩ := onlyMot_of_motor rfl
  exact .intro (exec_identComplete_good hst hm hg)
    ((((Within.refl s).then_setNow t (by simp)).then_setMot _ _ (by simp)).then_stick _ _ _ (by simp))
    ⟨rfl, ho, hx, regB_stick_same _ _ _ (by simp)⟩

end

end

end Sys2Proof.Machine
end

section
/-!
Searches, braking, stopping, stalls and identification of a motor port complete (O17).
-/
namespace Sys2Proof.Machine

open Sys2Proof

/-- Settles O17, clause by clause from the equations and effects above. -/
theorem motorPhasesComplete : Obligations.MotorPhasesComplete := by
  refine ⟨?searchRepeats, ?searchProbes, ?searchRetry, ?probe, ?align, ?catch_, ?brakeFallback, ?brakeSearch, ?stopping, ?fanStall,
    ?retryWait, ?stallClear, ?ident⟩
  case searchRepeats =>
    exact fun m t r s ho hf hb hr => effect_setNow_setMot (congrArg _ (searchDone_repeats (s := setNow s t) ho hb hf hr))
  case searchProbes => exact fun m t r s hst ho hf hb hn hp hc hd => searchComplete_probe_yields hst ho hf hb hn hp hc hd
  case searchRetry => exact fun m t t0 s h ht => effect_setNow_setMot (exec_searchRetry h ht)
  case probe => exact fun m t s hst hg ht => effect_setNow_setMot (exec_probeComplete hst hg ht)
  case align => exact fun m t s hst ha ht => angleAlignComplete_yields hst ha ht
  case catch_ =>
    exact fun m t t0 s hst ha hf hs ht =>
      effect_setNow_setMot (exec_catchComplete (catchOver_of (s := setNow s t) hst ha hf hs ht))
  case brakeFallback => exact fun m t t0 s hl hst ht hd => brakeFallback_yields hl hst ht hd
  case brakeSearch => exact fun m t s hst hw hb ht => effect_setNow_setMot (exec_brakeSearch hst hw hb ht)
  case stopping => exact fun m t t0 s hst hz ht => stoppingComplete_yields hst hz ht
  case fanStall => exact fun m t s ho hst hr => fanStall_effect ho hst hr
  case retryWait => exact fun m t s hst ht => effect_setNow_setMot (exec_retryWaitExpiry hst ht)
  case stallClear => exact fun m t t0 s ha ht => effect_setNow_setMot (exec_stallCountClear ha ht)
  case ident =>
    exact fun m t rs ls s hst hm h1 h2 h3 h4 ht =>
      identComplete_effect hst hm (by rw [h1, h2, h3, h4]; exact decide_eq_true ht)

end Sys2Proof.Machine
end

section
/-!
SUPPORT. Gates, routes and belt slip (R222 to R237): one gate's and one route's record and what the shared operations change, the commands
of GATE_CMD and ROUTE_CMD on their rows and in the runs of HOMING, POSITION_LOOP and ROUTE_SEQ, and the happenings of a homing, of a
route's members and of a belt.
-/
namespace Sys2Proof.Machine

open Sys2Proof

/-! ## One gate, one route -/

section
variable {s t u : State}

/-- Where only gate m has changed and then its record is replaced, only gate m has changed, and it shows that record. -/
theorem OnlyGate.then_setGate {m : Nat} {x : Gate} (h : OnlyGate m s t) (hu : u.motor = (setGate t m x).motor) :
    OnlyGate m s u ∧ gateOf u m = x := by
  have hk : ∀ k, gateOf u k = gateOf (setGate t m x) k := fun k => by rw [gateOf, gateOf, hu]
  obtain ⟨ho, hl⟩ := h
  refine ⟨⟨fun k hm => ((hk k).trans (setGate_ne t x hm)).trans (ho k hm), ?_⟩, (hk m).trans (setGate_same t m x)⟩
  rw [hu]
  exact congrArg (fun l : MotorState => { l with gate := (setGate t m x).motor.gate }) hl

/-- A state whose gates are those of `setGate s m x` differs in gate m alone, and there shows x. -/
theorem onlyGate_of_motor {m : Nat} {x : Gate} (h : u.motor = (setGate s m x).motor) : OnlyGate m s u ∧ gateOf u m = x :=
  OnlyGate.then_setGate ⟨fun _ _ => rfl, rfl⟩ h

/-- Where only route r has changed and then its record is replaced, only route r has changed, and it shows that record. -/
theorem OnlyRoute.then_setRoute {r : Nat} {x : Route} (h : OnlyRoute r s t) (hu : u.motor = (setRoute t r x).motor) :
    OnlyRoute r s u ∧ routeOf u r = x := by
  have hk : ∀ k, routeOf u k = routeOf (setRoute t r x) k := fun k => by rw [routeOf, routeOf, hu]
  obtain ⟨ho, hl⟩ := h
  refine ⟨⟨fun k hr => ((hk k).trans (setRoute_ne t x hr)).trans (ho k hr), ?_⟩, (hk r).trans (setRoute_same t r x)⟩
  rw [hu]
  exact congrArg (fun l : MotorState => { l with route := (setRoute t r x).motor.route }) hl

/-- A state whose routes are those of `setRoute s r x` differs in route r alone, and there shows x. -/
theorem onlyRoute_of_motor {r : Nat} {x : Route} (h : u.motor = (setRoute s r x).motor) : OnlyRoute r s u ∧ routeOf u r = x :=
  OnlyRoute.then_setRoute ⟨fun _ _ => rfl, rfl⟩ h

end

section
variable {ps : List Part} {rs : List (RegName × Nat)} {s t : State}

theorem Within.then_motor (k : Within ps rs s t) (x : MotorState) (h : Part.motor ∈ ps) : Within ps rs s { t with motor := x } :=
  k.trans ⟨fun p hp => by cases p <;> simp_all [Part.same], .of_rf rs rfl⟩

theorem Within.then_setGate (k : Within ps rs s t) (m : Nat) (x : Gate) (h : Part.motor ∈ ps) : Within ps rs s (setGate t m x) :=
  k.then_motor _ h

theorem Within.then_setRoute (k : Within ps rs s t) (r : Nat) (x : Route) (h : Part.motor ∈ ps) : Within ps rs s (setRoute t r x) :=
  k.then_motor _ h

end

/-- A change of gate m alone. -/
theorem changes_setGate (s : State) (m : Nat) (x : Gate) :
    Changes s (setGate s m x) [.motor] [] (fun u => OnlyGate m s u ∧ gateOf u m = x) :=
  .intro ((Within.refl s).then_setGate m x (by simp)) (onlyGate_of_motor rfl)

/-- A change of route r alone. -/
theorem changes_setRoute (s : State) (r : Nat) (x : Route) :
    Changes s (setRoute s r x) [.motor] [] (fun u => OnlyRoute r s u ∧ routeOf u r = x) :=
  .intro ((Within.refl s).then_setRoute r x (by simp)) (onlyRoute_of_motor rfl)

/-- A sticky bit that is set is all that changes (R8). -/
theorem changes_stick (s : State) (r : RegName) (i : Nat) {b : Nat} (h : b < 32) :
    Changes s (stick s r i b) [] [(r, i)] (fun u => regB u r i b = true) :=
  .intro ((Within.refl s).then_stick _ _ _ (by simp)) (regB_stick_same s r i h)

/-! ## Commands on their rows (R236, R237) -/

/-- Outside a relight a row of GATE_CMD joins the gate's commands for its next run, and the wax keeps its write (R24, R236, R442). -/
theorem gateRow_effect {c : Instr} {s : State} {m : Nat} {v : W32} {k : GateCmd}
    (hc : exec c s = .next (rowCmd s .gateCmd m v (fun s => gateTake s m k))) (h : s.rlt.ctx = none) :
    Effect c s [.motor, .wax] [] (fun u => u.wax = (addItem s (.write (regAddr .gateCmd m) v)).wax ∧ OnlyGate m s u ∧
      gateOf u m = { gateOf s m with cmds := (gateOf s m).cmds ++ [k] }) :=
  .intro (hc.trans (congrArg _ (rowCmd_free h ..))) (((Within.refl s).then_addItem _ (by simp)).then_setGate _ _ (by simp))
    ⟨rfl, onlyGate_of_motor rfl⟩

/-- In a relight the rows of GATE_CMD answer ACCESS_BUSY (R454). -/
theorem exec_gateCmd_busy (m : Fin 16) {s : State} (h : s.rlt.ctx.isSome = true) :
    exec (.gateHome m) s = .next (report s hostReq (regAddr .gateCmd m) .busy) ∧
    exec (.gateAbort m) s = .next (report s hostReq (regAddr .gateCmd m) .busy) ∧
    exec (.gateMove m) s = .next (report s hostReq (regAddr .gateCmd m) .busy) :=
  ⟨congrArg _ (rowCmd_busy h ..), congrArg _ (rowCmd_busy h ..), congrArg _ (rowCmd_busy h ..)⟩

/-- Outside a relight a row of ROUTE_CMD joins the route's commands for its next run, and the wax keeps its write (R24, R237, R442). -/
theorem routeRow_effect {c : Instr} {s : State} {r : Nat} {v : W32} {k : RouteCmd}
    (hc : exec c s = .next (rowCmd s .routeCmd r v (fun s => routeTake s r k))) (h : s.rlt.ctx = none) :
    Effect c s [.motor, .wax] [] (fun u => u.wax = (addItem s (.write (regAddr .routeCmd r) v)).wax ∧ OnlyRoute r s u ∧
      routeOf u r = { routeOf s r with cmds := (routeOf s r).cmds ++ [k] }) :=
  .intro (hc.trans (congrArg _ (rowCmd_free h ..))) (((Within.refl s).then_addItem _ (by simp)).then_setRoute _ _ (by simp))
    ⟨rfl, onlyRoute_of_motor rfl⟩

/-- In a relight the rows of ROUTE_CMD answer ACCESS_BUSY (R454). -/
theorem exec_routeCmd_busy (r : Fin 32) {s : State} (h : s.rlt.ctx.isSome = true) :
    exec (.routeStart r) s = .next (report s hostReq (regAddr .routeCmd r) .busy) ∧
    exec (.routeStop r) s = .next (report s hostReq (regAddr .routeCmd r) .busy) ∧
    exec (.routeReset r) s = .next (report s hostReq (regAddr .routeCmd r) .busy) :=
  ⟨congrArg _ (rowCmd_busy h ..), congrArg _ (rowCmd_busy h ..), congrArg _ (rowCmd_busy h ..)⟩

/-! ## Homing (R225 to R228) -/

/-- The gate's record as a home command taken at t leaves it: the zero dropped, a search at speed v (R227). -/
def Gate.searchFrom (g : Gate) (t : Nat) (v : F32) : Gate :=
  { g with
    homed := false, trips := 0, fault := .none, startAt := t, ran := false, chatter := false, moving := false, home := .search,
    stopping := false, speedTgt := v, passFrom := none }

/-- The state in which a search has begun, before its port is started where that is needed (R227). -/
def searchBegun (s : State) (m t : Nat) : State :=
  toHome (setGate s m { gateOf s m with
    homed := false, trips := 0, fault := .none, startAt := t, ran := false, chatter := false, moving := false }) m .search false
    (dirSpeed s m (vSearch s m) false)

section
variable {s : State} {m t : Nat}

theorem searchBegun_changes (s : State) (m t : Nat) : Changes s (searchBegun s m t) [.motor] [] (fun u =>
    OnlyGate m s u ∧ gateOf u m = (gateOf s m).searchFrom t (dirSpeed s m (vSearch s m) false)) := by
  rw [searchBegun, toHome, modGate, setGate_same]
  exact .intro (((Within.refl s).then_setGate _ _ (by simp)).then_setGate _ _ (by simp)) ((onlyGate_of_motor rfl).1.then_setGate rfl)

section
variable (h : homing (gateOf s m) = false)
include h

/-- The home command on a port that is not in OFF (R227). -/
theorem gateHome_started (hm : (motOf s m).st ≠ .off) : gateHome s m t = searchBegun s m t :=
  (if_neg (Bool.not_eq_true _ ▸ h)).trans (if_neg hm)

/-- The home command on a port in OFF starts it (R227). -/
theorem gateHome_off (hm : (motOf s m).st = .off) :
    gateHome s m t = modMot (searchBegun s m t) m (fun x => { x with given := x.given ++ [.start] }) :=
  (if_neg (Bool.not_eq_true _ ▸ h)).trans (if_pos hm)

end

theorem gateHome_started_changes (h : homing (gateOf s m) = false) (hm : (motOf s m).st ≠ .off) :
    Changes s (gateHome s m t) [.motor] [] (fun u =>
      OnlyGate m s u ∧ gateOf u m = (gateOf s m).searchFrom t (dirSpeed s m (vSearch s m) false)) := by
  rw [gateHome_started h hm]
  exact searchBegun_changes s m t

theorem gateHome_off_changes (h : homing (gateOf s m) = false) (hm : (motOf s m).st = .off) :
    Changes s (gateHome s m t) [.motor] [] (fun u => gateOf u m = (gateOf s m).searchFrom t (dirSpeed s m (vSearch s m) false) ∧
      (motOf u m).given = (motOf s m).given ++ [MotCmd.start]) := by
  rw [gateHome_off h hm]
  obtain ⟨hf, hr, -, hg⟩ := searchBegun_changes s m t
  exact .intro (Within.then_setMot ⟨hf, hr⟩ _ _ (by simp)) ⟨hg, congrArg Motor.given (setMot_same ..)⟩

/-- The abort of an active homing ends it with a stop (R227). -/
theorem gateAbort_active (h : homing (gateOf s m) = true) : gateAbort s m =
    setGate s m { gateOf s m with home := .idle, stopping := true, speedTgt := 0#32, passFrom := none, moving := false } := if_pos h

end

/-- A homing that has lasted t_home_max at t without a release faults with TIMEOUT (R227, R228). -/
theorem exec_homeTimeout {m : Fin 16} {t : Ns} {s : State} (h : homing (gateOf s m) = true)
    (ht : (gateOf s m).startAt + tHomeMax s m ≤ t) (hr : released s m t = false) :
    exec (.homeTimeout m t) s = .next (homeFault (setNow s t) m .timeout) :=
  congrArg _ ((if_pos (Bool.and_eq_true_iff.mpr ⟨h, decide_eq_true ht⟩)).trans (if_neg (Bool.not_eq_true _ ▸ hr)))

theorem homeTimeout_effect {m : Fin 16} {t : Ns} {s : State} (h : homing (gateOf s m) = true)
    (ht : (gateOf s m).startAt + tHomeMax s m ≤ t) (hr : released s m t = false) :
    Effect (.homeTimeout m t) s [.time, .motor, .recorder] [(.evrStatus, 0)] (fun u => u.now = max s.now t ∧ OnlyGate m s u ∧
      gateOf u m = { gateOf s m with
        home := .fault, fault := .timeout, stopping := true, speedTgt := 0#32, passFrom := none, moving := false }) :=
  .intro (exec_homeTimeout h ht hr)
    ((((Within.refl s).then_setNow t (by simp)).then_setGate _ _ (by simp)).then_logEv _ _ _ (by simp) (by simp))
    ⟨logEv_now .., onlyGate_of_motor (logEv_motor ..)⟩

/-! ## Moves (R222 to R224) -/

section
variable {s : State} {m : Nat}

/-- A move begins where no homing is active, the zero stands or is not needed, and no limit bars the way (R222 to R224). -/
theorem gateMove_begins (h : homing (gateOf s m) = false) (hz : (gateOf s m).homed = true ∨ regB s .gateCfg m 7 = false)
    (hb : moveBlocked s m (posTarget s m) = false) :
    gateMove s m = setGate s m { gateOf s m with moving := true, inPos := false, winSince := none } := by
  have hz' : ¬ (!(gateOf s m).homed && regB s .gateCfg m 7) = true := by
    rcases hz with hz | hz <;> simp [hz]
  exact (if_neg (Bool.not_eq_true _ ▸ h)).trans ((if_neg hz').trans (if_neg (Bool.not_eq_true _ ▸ hb)))

/-- A move is refused where one of these conditions fails (R223, R224, R227). -/
theorem gateMove_refused (h : homing (gateOf s m) = true ∨ ((gateOf s m).homed = false ∧ regB s .gateCfg m 7 = true) ∨
    moveBlocked s m (posTarget s m) = true) : gateMove s m = gateRefuse s m := by
  unfold gateMove
  rcases h with h | ⟨hz, hc⟩ | hb
  · exact if_pos h
  · simp only [hz, hc, Bool.not_false, Bool.and_self, if_true, ite_self]
  · simp only [hb, if_true, ite_self]

end

/-! ## Routes (R229, R230) -/

section
variable {s : State} {r : Nat}

theorem routeStart_begins {t : Nat} (hi : (routeOf s r).st = .idle) (hs : startable s r = true) (hn : 0 < (membersOf s r).length) :
    routeStart s r t = startMember (setRoute s r { routeOf s r with st := .starting, cause := 0, faultMember := 0, mem := [] }) r
      ((membersOf s r).length - 1) t := if_pos ⟨hi, hs, hn⟩

/-- A start is refused where one of its conditions fails (R230). -/
theorem routeStart_refused {t : Nat} (h : (routeOf s r).st ≠ .idle ∨ startable s r = false ∨ (membersOf s r).length = 0) :
    routeStart s r t = routeRefuse s r := by
  refine if_neg ?_
  rintro ⟨hi, hs, hn⟩
  simp [hi, hs, Nat.pos_iff_ne_zero.mp hn] at h

theorem routeStop_running {t : Nat} (h : (routeOf s r).st = .running) :
    routeStop s r t = stopMember (setRoute s r { routeOf s r with st := .stopping }) r 0 t false := by
  unfold routeStop
  rw [h]
  rfl

/-- A stop is refused where the route neither starts nor runs (R230). -/
theorem routeStop_refused {t : Nat} (hs : (routeOf s r).st ≠ .starting) (hr : (routeOf s r).st ≠ .running) :
    routeStop s r t = routeRefuse s r := by
  unfold routeStop
  split
  case h_1 h => exact absurd h hs
  case h_2 h => exact absurd h hr
  case h_3 => rfl

theorem routeReset_faulted (h : (routeOf s r).st = .faulted) :
    routeReset s r = setRoute s r { routeOf s r with st := .idle, cause := 0, mem := [] } := if_pos h

theorem routeReset_refused (h : (routeOf s r).st ≠ .faulted) : routeReset s r = routeRefuse s r := if_neg h

/-- A refused command sets ROUTE_STATE's bit and nothing else (R230). -/
theorem routeRefuse_changes (s : State) (r : Nat) :
    Changes s (routeRefuse s r) [] [(.routeStatus, r)] (fun u => regB u .routeStatus r 9 = true) :=
  changes_stick s .routeStatus r (by simp)

end

/-- A member's record reads as it was last written. -/
theorem memOf_spSet_same (x : Route) (i : Nat) (y : MemberRun) : memOf { x with mem := spSet MemberRun.idle x.mem i y } i = y :=
  spGet_spSet_same ..

section
variable {r : Fin 32} {i : Fin 16} {t : Ns} {s : State}

theorem exec_proofTimeout (hs : (routeOf s r).st = .starting) (hm : (memOf (routeOf s r) i).started = true)
    (hp : (memOf (routeOf s r) i).proved = false) (ht : (memOf (routeOf s r) i).startAt + tProof s r ≤ t) :
    exec (.proofTimeout r i t) s = .next (stopMember (routeFault (setNow s t) r i 1) r i t false) :=
  congrArg _ (if_pos ⟨hs, hm, hp, ht⟩)

theorem exec_memberProved (h : provedAt s r i t = true) : exec (.memberProved r i t) s = .next (proveMember (setNow s t) r i t) :=
  congrArg _ (if_pos h)

/-- The proof of the first member makes a starting route run (R230). -/
theorem proveMember_first {s : State} {r t : Nat} (h : (routeOf s r).st = .starting) : proveMember s r 0 t =
    logEv (modRoute (modMem s r 0 (fun x => { x with proved := true })) r (fun x => { x with st := .running })) (srcInst s .routeSeq r)
      .routeRunning r := if_pos h

/-- The proof of another member of a starting route starts the one before it (R230). -/
theorem proveMember_next {s : State} {r i t : Nat} (h : (routeOf s r).st = .starting) (hi : i ≠ 0) :
    proveMember s r i t = startMember (modMem s r i (fun x => { x with proved := true })) r (i - 1) t :=
  (if_pos h).trans (if_neg hi)

theorem memberProved_first_yields (hp : provedAt s r 0 t = true) (hs : (routeOf s r).st = .starting) :
    Yields (.memberProved r 0 t) s (fun u => ((routeOf u r).st = .running ∧ (memOf (routeOf u r) 0).proved = true) ∧ OnlyRoute r s u) := by
  have hm : OnlyRoute r s (modMem (setNow s t) r 0 (fun x => { x with proved := true })) := (onlyRoute_of_motor rfl).1
  obtain ⟨ho, hx⟩ := hm.then_setRoute (logEv_motor (modRoute (modMem (setNow s t) r 0 (fun x => { x with proved := true })) r
    (fun x => { x with st := .running })) (srcInst (setNow s t) .routeSeq r) .routeRunning r)
  refine ⟨_, (exec_memberProved hp).trans (congrArg _ (proveMember_first (s := setNow s t) hs)), logEv_pending .., ?_, ho⟩
  rw [hx, modMem, setRoute_same]
  exact ⟨rfl, congrArg MemberRun.proved (memOf_spSet_same ..)⟩

theorem exec_runOutComplete (hst : (routeOf s r).st = .stopping ∨ (routeOf s r).st = .faultStop)
    (hr : (memOf (routeOf s r) i).stopped = true) (hn : (memOf (routeOf s r) (i + 1)).started = true) (ho : ranOut s r i t = true) :
    exec (.runOutComplete r i t) s = .next (stopMember (setNow s t) r (i + 1) t false) := by
  have hs : stoppingRoute (routeOf s r) = true := by
    rcases hst with h | h <;> simp [stoppingRoute, h]
  have hg : (stoppingRoute (routeOf s r) && (memOf (routeOf s r) i).stopped && (memOf (routeOf s r) (i + 1)).started &&
      ranOut s r i t) = true := by rw [hs, hr, hn, ho]; rfl
  exact congrArg _ (if_pos hg)

end

/-! ## Belt slip (R233) -/

/-- EVR_STATUS is none of the belts' status words. -/
theorem evrStatus_ne_slipStatus (i : Fin 64) : regAddr .evrStatus 0 ≠ regAddr .slipStatus i := by revert i; decide

/-- The state in which a belt's slip has been declared and recorded, before its route learns of it (R233). -/
def slipMarked (s : State) (i : Nat) : State :=
  logEv (stick (setSlip s i { slipOf s i with declared := true }) .slipStatus i 17) (srcInst s .beltSlip i) .beltSlip i

/-- A declared slip marks the belt, and the member of its route where one is named (R230, R233). -/
theorem declareSlip_cases (s : State) (i : Nat) :
    declareSlip s i = slipMarked s i ∨ ∃ r m f, declareSlip s i = modMem (slipMarked s i) r m f := by
  unfold declareSlip
  dsimp only
  split
  · split
    · exact .inr ⟨_, _, _, rfl⟩
    · exact .inl rfl
  · exact .inl rfl

/-- What a change of a route's member leaves, the declaration leaves as the mark of the belt alone does. -/
theorem declareSlip_keeps {β : Type} (g : State → β) (h : ∀ s r m f, g (modMem s r m f) = g s) (s : State) (i : Nat) :
    g (declareSlip s i) = g (slipMarked s i) := by
  rcases declareSlip_cases s i with e | ⟨r, m, f, e⟩
  · rw [e]
  · rw [e, h]

theorem slipOf_declareSlip (s : State) (i k : Nat) :
    slipOf (declareSlip s i) k = slipOf (setSlip s i { slipOf s i with declared := true }) k :=
  (declareSlip_keeps (slipOf · k) (fun _ _ _ _ => rfl) s i).trans (slipOf_logEv ..)

theorem exec_beltSlip {i : Fin 64} {t : Ns} {s : State} (h : slipOver s i t = true) :
    exec (.beltSlip i t) s = .next (declareSlip (setNow s t) i) := congrArg _ (if_pos h)

/-- A slip that has stood for t_slip is declared, on its belt alone, with slip_seen (R233). -/
theorem beltSlip_yields {i : Fin 64} {t : Ns} {s : State} (h : slipOver s i t = true) : Yields (.beltSlip i t) s (fun u =>
    ((slipOf u i).declared = true ∧ u.now = max s.now t) ∧ OnlyAt slipOf i s u ∧ regB u .slipStatus i 17 = true) := by
  have hp : (declareSlip (setNow s t) i).pending = s.pending :=
    (declareSlip_keeps State.pending (fun _ _ _ _ => rfl) ..).trans (logEv_pending ..)
  have hn : (declareSlip (setNow s t) i).now = max s.now t := (declareSlip_keeps State.now (fun _ _ _ _ => rfl) ..).trans (logEv_now ..)
  have hb : regB (declareSlip (setNow s t) i) .slipStatus i 17 = true :=
    (declareSlip_keeps (regB · .slipStatus i 17) (fun _ _ _ _ => rfl) ..).trans
      ((regB_logEv_ne _ _ _ _ _ (evrStatus_ne_slipStatus i)).trans (regB_stick_same _ _ _ (by simp)))
  refine ⟨_, exec_beltSlip h, hp, ⟨?_, hn⟩, fun k hk => (slipOf_declareSlip ..).trans (setSlip_ne _ _ hk), hb⟩
  rw [slipOf_declareSlip, setSlip_same]

end Sys2Proof.Machine
end

section
/-!
Homing and moves of a position port with belt slip (O18), and the commands of routes (O19), complete with their effects.
-/
namespace Sys2Proof.Machine

open Sys2Proof

/-- Settles O18, clause by clause from the equations and effects above. -/
theorem gateCommandsComplete : Obligations.GateCommandsComplete := by
  refine ⟨?homeRow, ?abortRow, ?moveRow, ?busy, ?homeStarted, ?homeOff, ?abort, ?move, ?moveRefused, ?timeout, ?slip⟩
  case homeRow => exact fun m s h => gateRow_effect (k := .home) rfl h
  case abortRow => exact fun m s h => gateRow_effect (k := .abort) rfl h
  case moveRow => exact fun m s h => gateRow_effect (k := .move) rfl h
  case busy => exact fun m s h => exec_gateCmd_busy m h
  case homeStarted => exact fun m t s h hm => gateHome_started_changes h hm
  case homeOff => exact fun m t s h hm => gateHome_off_changes h hm
  case abort =>
    intro m s h
    rw [gateAbort_active h]
    exact changes_setGate s m _
  case move =>
    intro m s h hz hb
    rw [gateMove_begins h hz hb]
    exact changes_setGate s m _
  case moveRefused =>
    intro m s h
    rw [gateMove_refused h]
    exact changes_stick s .gateStatus m (by simp)
  case timeout => exact fun m t s h ht hr => homeTimeout_effect h ht hr
  case slip => exact fun i t s h => beltSlip_yields h

/-- Settles O19, clause by clause from the equations and effects above. -/
theorem routeCommandsComplete : Obligations.RouteCommandsComplete := by
  refine ⟨?startRow, ?stopRow, ?resetRow, ?busy, ?start, ?startRefused, ?stop, ?stopRefused, ?reset, ?resetRefused, ?proofTimeout,
    ?provedFirst, ?provedNext, ?runOut⟩
  case startRow => exact fun r s h => routeRow_effect (k := .start) rfl h
  case stopRow => exact fun r s h => routeRow_effect (k := .stop) rfl h
  case resetRow => exact fun r s h => routeRow_effect (k := .reset) rfl h
  case busy => exact fun r s h => exec_routeCmd_busy r h
  case start => exact fun r t s hi hs hn => routeStart_begins hi hs hn
  case startRefused =>
    intro r t s h
    rw [routeStart_refused h]
    exact routeRefuse_changes s r
  case stop => exact fun r t s h => routeStop_running h
  case stopRefused =>
    intro r t s hs hr
    rw [routeStop_refused hs hr]
    exact routeRefuse_changes s r
  case reset =>
    intro r s h
    rw [routeReset_faulted h]
    exact changes_setRoute s r _
  case resetRefused =>
    intro r s h
    rw [routeReset_refused h]
    exact routeRefuse_changes s r
  case proofTimeout => exact fun r i t s hs hm hp ht => exec_proofTimeout hs hm hp ht
  case provedFirst => exact fun r t s hp hs => memberProved_first_yields hp hs
  case provedNext =>
    exact fun r i t s hi hp hs => (exec_memberProved hp).trans (congrArg _ (proveMember_next (s := setNow s t) hs (Fin.val_ne_of_ne hi)))
  case runOut => exact fun r i t s hst hr hn ho => exec_runOutComplete hst hr hn ho

end Sys2Proof.Machine
end

section
/-!
SUPPORT. Stalls (R244 to R252): one stall's record and what the shared operations change, and what a conversion, an input's class, a
counter's edge, a switch's protection and a sensor supply do where the spec has them act.
-/
namespace Sys2Proof.Machine

open Sys2Proof

/-! ## One stall -/

section
variable {s t u : State} {i : Nat} {x : Stall}

/-- Where only stall i has changed and then its record is replaced, only stall i has changed, and it shows that record. -/
theorem OnlyStl.then_setStl (h : OnlyStl i s t) (hu : u.aisle = (setStl t i x).aisle) : OnlyStl i s u ∧ stlOf u i = x := by
  have hk : ∀ k, stlOf u k = stlOf (setStl t i x) k := fun k => by rw [stlOf, stlOf, hu]
  obtain ⟨ho, hl⟩ := h
  refine ⟨⟨fun k hi => ((hk k).trans (setStl_ne t x hi)).trans (ho k hi), ?_⟩, (hk i).trans (setStl_same t i x)⟩
  rw [hu]
  exact congrArg (fun l : AisleState => { l with st := (setStl t i x).aisle.st }) hl

/-- A state whose stalls are those of `setStl s i x` differs in stall i alone, and there shows x. -/
theorem onlyStl_of_aisle (h : u.aisle = (setStl s i x).aisle) : OnlyStl i s u ∧ stlOf u i = x :=
  OnlyStl.then_setStl ⟨fun _ _ => rfl, rfl⟩ h

/-- Where only a stall has changed, every aisle's own record stands. -/
theorem OnlyStl.aisOf_eq (h : OnlyStl i s u) : aisOf u = aisOf s := by
  funext k
  rw [aisOf, h.2]
  rfl

end

theorem Within.then_setStl {ps : List Part} {rs : List (RegName × Nat)} {s t : State} (k : Within ps rs s t) (i : Nat) (x : Stall)
    (h : Part.aisle ∈ ps) : Within ps rs s (setStl t i x) :=
  k.trans ⟨fun p hp => by
    cases p with
    | aisle => exact absurd h hp
    | frame | before => exact ⟨rfl, rfl⟩
    | _ => rfl, .of_rf rs rfl⟩

/-- A happening at t that changes stall i alone. -/
theorem effect_setNow_setStl {c : Instr} {s : State} {i t : Nat} {x : Stall} (h : exec c s = .next (setStl (setNow s t) i x)) :
    Effect c s [.time, .aisle] [] (fun u => u.now = max s.now t ∧ OnlyStl i s u ∧ stlOf u i = x) :=
  .intro h (((Within.refl s).then_setNow t (by simp)).then_setStl i x (by simp)) ⟨rfl, onlyStl_of_aisle rfl⟩

/-- A happening at t that changes stall i and then the record of aisle n. -/
theorem yields_setAis {c : Instr} {s u : State} {i n t : Nat} {x : Stall} {a : Aisle} (h : exec c s = .next (setAis u n a))
    (hp : u.pending = s.pending) (hn : u.now = max s.now t) (hu : OnlyStl i s u ∧ stlOf u i = x) : Yields c s (fun u =>
      u.now = max s.now t ∧ OnlyAt stlOf i s u ∧ stlOf u i = x ∧ OnlyAt aisOf n s u ∧ aisOf u n = a) := by
  obtain ⟨ho, hx⟩ := hu
  exact ⟨_, h, hp, hn, fun j hj => (stlOf_setAis ..).trans (ho.1 j hj), (stlOf_setAis ..).trans hx,
    fun j hj => (setAis_ne u a hj).trans (congrFun ho.aisOf_eq j), setAis_same ..⟩

/-! ## Conversions (R245, R246) -/

section
variable {i : Fin 128} {t : Ns} {r : StallReading} {c : AnaClass} {s : State} (hc : anaClass s i r = some c)
  (hm : aisMeasures (aisOf s (aisleOf i)) = true)
include hc hm

theorem exec_stallConversion : exec (.stallConversion i t r) s =
    .next (setAis (setStl (setNow s t) i { stlOf s i with aValue := c.value }) (aisleOf i) { aisOf s (aisleOf i) with
      recs := (aisOf s (aisleOf i)).recs ++ [UpRec.sample i c.flags c.q c.value r.raw t] }) := by
  have hc' : anaClass (setNow s t) i r = some c := hc
  change execStallConversion i t r s = _
  delta execStallConversion
  dsimp only
  rw [hc']
  exact if_pos hm

theorem stallConversion_yields : Yields (.stallConversion i t r) s (fun u => u.now = max s.now t ∧
    OnlyAt stlOf i s u ∧ stlOf u i = { stlOf s i with aValue := c.value } ∧ OnlyAt aisOf (aisleOf i) s u ∧
    (aisOf u (aisleOf i)).recs = (aisOf s (aisleOf i)).recs ++ [UpRec.sample i c.flags c.q c.value r.raw t]) := by
  obtain ⟨u, he, hp, hn, hs, hx, ha, hy⟩ := yields_setAis (exec_stallConversion hc hm) rfl rfl (onlyStl_of_aisle rfl)
  exact ⟨u, he, hp, hn, hs, hx, ha, congrArg Aisle.recs hy⟩

end

/-! ## Input classes (R248, R249, R255) -/

/-- A stall's record when class c has held for di_filt at t and differs from the one before (R248, R249). -/
def Stall.classed (x : Stall) (c : DiClass) (t : Nat) : Stall :=
  { x with aClass := c, aSettled := true, aChanged := true, aPrev := x.aClass, aAt := t }

/-- The flags of an edge record: broken by its class, edge_lost where edges were discarded before it (R255). -/
def edgeFlags (c : DiClass) (lost : Bool) : StallFlags := (if c = .brk then 0x04#8 else 0#8) ||| (if lost then 0x80#8 else 0#8)

/-- An edge with room in the aisle's queue joins it, and tells of the edges lost before it (R255). -/
theorem pushEdge_queued {s : State} {i : Nat} (h : (aisOf s (aisleOf i)).edges.length < 64) (c : DiClass) (t : Nat) :
    pushEdge s i c t = setAis (setStl s i { stlOf s i with aEdgeLost := false }) (aisleOf i) { aisOf s (aisleOf i) with
      edges := (aisOf s (aisleOf i)).edges ++ [UpRec.edge i c (edgeFlags c (stlOf s i).aEdgeLost) t] } := if_pos h

/-- An edge that finds 64 waiting is discarded and counted as lost (R255). -/
theorem pushEdge_lost {s : State} {i : Nat} (h : 64 ≤ (aisOf s (aisleOf i)).edges.length) (c : DiClass) (t : Nat) :
    pushEdge s i c t = setStl s i { stlOf s i with aEdgeLost := true, lostEdges := satInc 16 (stlOf s i).lostEdges } :=
  if_neg (Nat.not_lt.mpr h)

section
variable {i : Fin 128} {t : Ns} {c : DiClass} {s : State}
  (hd : stlMode s i = .di) (hm : aisMeasures (aisOf s (aisleOf i)) = true) (hw : c ≠ .brk ∨ wbEn s i = true)
include hd hm hw

/-- Where a break counts as one, a class that has settled is taken as it is (R248). -/
theorem exec_diClassChange : exec (.diClassChange i t c) s = .next (if (stlOf s i).aClass = c
    then setStl (setNow s t) i { stlOf s i with aSettled := true }
    else pushEdge (setStl (setNow s t) i ((stlOf s i).classed c t)) i c t) := by
  have hb : ¬ (c = .brk ∧ wbEn (setNow s t) i = false) := by
    rintro ⟨hc, hf⟩
    exact hw.elim (· hc) (fun h => Bool.false_ne_true (hf.symm.trans h))
  change execDiClassChange i t c s = _
  delta execDiClassChange
  dsimp only
  rw [if_neg hb]
  exact (if_pos ⟨hd, hm⟩).trans (apply_ite Host.Outcome.next _ _ _).symm

/-- A changed class with room in the aisle's queue is stamped and queued as an edge record (R249, R255). -/
theorem diClassChange_queued_yields (hc : (stlOf s i).aClass ≠ c) (hl : (aisOf s (aisleOf i)).edges.length < 64) :
    Yields (.diClassChange i t c) s (fun u => u.now = max s.now t ∧ OnlyAt stlOf i s u ∧
      stlOf u i = { (stlOf s i).classed c t with aEdgeLost := false } ∧ OnlyAt aisOf (aisleOf i) s u ∧ (aisOf u (aisleOf i)).edges =
        (aisOf s (aisleOf i)).edges ++ [UpRec.edge i c (edgeFlags c (stlOf s i).aEdgeLost) t]) := by
  have he := exec_diClassChange (t := t) hd hm hw
  rw [if_neg hc, pushEdge_queued (s := setStl (setNow s t) i _) hl, setStl_same] at he
  obtain ⟨u, he, hp, hn, hs, hx, ha, hy⟩ := yields_setAis he rfl rfl ((onlyStl_of_aisle rfl).1.then_setStl rfl)
  exact ⟨u, he, hp, hn, hs, hx, ha, congrArg Aisle.edges hy⟩

/-- A changed class that finds 64 edges waiting is stamped and counted as a lost edge (R249, R255). -/
theorem diClassChange_lost_yields (hc : (stlOf s i).aClass ≠ c) (hl : 64 ≤ (aisOf s (aisleOf i)).edges.length) :
    Yields (.diClassChange i t c) s (fun u => u.now = max s.now t ∧ OnlyAt stlOf i s u ∧
      stlOf u i = { (stlOf s i).classed c t with aEdgeLost := true, lostEdges := satInc 16 (stlOf s i).lostEdges } ∧
      aisOf u = aisOf s) := by
  have he := exec_diClassChange (t := t) hd hm hw
  rw [if_neg hc, pushEdge_lost (s := setStl (setNow s t) i _) hl, setStl_same] at he
  have hn : OnlyStl i s (setStl (setNow s t) i ((stlOf s i).classed c t)) := (onlyStl_of_aisle rfl).1
  obtain ⟨ho, hx⟩ := hn.then_setStl rfl
  exact ⟨_, he, rfl, rfl, ho.1, hx, ho.aisOf_eq⟩

end

/-! ## Counters (R250) -/

section
variable {i : Fin 128} {t : Ns} {s : State}

/-- An edge counts in the direction of the aisle's lowest counting wick, and ends a break (R45, R250). -/
theorem exec_cntEdge (hc : stlMode s i = .cnt) (hl : (aisOf s (aisleOf i)).st = .linked) (hd : (aisOf s (aisleOf i)).lostDown = false) :
    exec (.cntEdge i t) s = .next (setStl (setNow s t) i { stlOf s i with
      aCount := wrapS 32 ((stlOf s i).aCount + (if aisleRev s i then -1 else 1)), aEdge := t, aBreak := false }) :=
  congrArg _ (if_pos ⟨hc, hl, hd⟩)

theorem exec_cntBreak (hc : stlMode s i = .cnt) (hw : wbEn s i = true) (hm : aisMeasures (aisOf s (aisleOf i)) = true) :
    exec (.cntBreak i t) s = .next (setStl (setNow s t) i { stlOf s i with aBreak := true }) := congrArg _ (if_pos ⟨hc, hw, hm⟩)

/-! ## Output protection and the sensor supply (R244, R252) -/

theorem exec_doOverloadTrip (hd : isDo s i = true) (hl : doLevel s i = true) : exec (.doOverloadTrip i t) s =
    .next (setStl (setNow s t) i { stlOf s i with aOver := true, aRetry := t + 100 * msNs }) := congrArg _ (if_pos ⟨hd, hl⟩)

/-- The retry of an overloaded switch waits another 100 ms where the limit holds again, and ends the overload where it does not (R252). -/
theorem exec_doOverloadRetry (ho : (stlOf s i).aOver = true) (hl : wantLevel s i = true) (ht : (stlOf s i).aRetry ≤ t)
    (limited : Bool) : exec (.doOverloadRetry i t limited) s = .next (setStl (setNow s t) i
      (if limited then { stlOf s i with aRetry := t + 100 * msNs } else { stlOf s i with aOver := false })) :=
  congrArg _ (if_pos ⟨ho, hl, ht⟩)

theorem exec_doThermalShutdown (hd : isDo s i = true) :
    exec (.doThermalShutdown i t) s = .next (setStl (setNow s t) i { stlOf s i with aThermal := true }) := congrArg _ (if_pos hd)

theorem exec_supplyLimitRetry (hs : hasSupply s i = true) (hm : aisMeasures (aisOf s (aisleOf i)) = true)
    (hl : (stlOf s i).aSupplyLim = false ∨ (stlOf s i).aSupRetry ≤ t) (b : Bool) : exec (.supplyLimitRetry i t b) s =
      .next (setStl (setNow s t) i { stlOf s i with aSupplyLim := b, supplyLim := b, aSupRetry := t + 100 * msNs }) := by
  have hg : (hasSupply s i && aisMeasures (aisOf s (aisleOf i)) &&
      (!(stlOf s i).aSupplyLim || decide ((stlOf s i).aSupRetry ≤ t))) = true := by
    rcases hl with h | h <;> simp [hs, hm, h]
  exact congrArg _ (if_pos hg)

end

end Sys2Proof.Machine
end

section
/-!
The events of stalls, of their inputs and of their outputs complete with their effects (O20).
-/
namespace Sys2Proof.Machine

open Sys2Proof

/-- Settles O20, clause by clause from the equations and effects above. -/
theorem stallCommandsComplete : Obligations.StallCommandsComplete := by
  refine ⟨?conversion, ?edgeQueued, ?edgeLost, ?settled, ?edgeFwd, ?edgeRev, ?cntBreak, ?trip, ?retryLimited, ?retryEnds, ?shutdown,
    ?recovery, ?supply⟩
  case conversion => exact fun i t r c s hc hm => stallConversion_yields hc hm
  case edgeQueued => exact fun i t c s hd hm hw hc hl => diClassChange_queued_yields hd hm hw hc hl
  case edgeLost => exact fun i t c s hd hm hw hc hl => diClassChange_lost_yields hd hm hw hc hl
  case settled =>
    exact fun i t c s hd hm hw hc => effect_setNow_setStl ((exec_diClassChange hd hm hw).trans (congrArg _ (if_pos hc)))
  case edgeFwd => exact fun i t s hc hl hd hr => effect_setNow_setStl (by rw [exec_cntEdge hc hl hd, hr]; rfl)
  case edgeRev => exact fun i t s hc hl hd hr => effect_setNow_setStl (by rw [exec_cntEdge hc hl hd, hr]; rfl)
  case cntBreak => exact fun i t s hc hw hm => effect_setNow_setStl (exec_cntBreak hc hw hm)
  case trip => exact fun i t s hd hl => effect_setNow_setStl (exec_doOverloadTrip hd hl)
  case retryLimited => exact fun i t s ho hl ht => effect_setNow_setStl (exec_doOverloadRetry ho hl ht true)
  case retryEnds => exact fun i t s ho hl ht => effect_setNow_setStl (exec_doOverloadRetry ho hl ht false)
  case shutdown => exact fun i t s hd => effect_setNow_setStl (exec_doThermalShutdown hd)
  case recovery => exact fun i t s => effect_setNow_setStl rfl
  case supply => exact fun i t b s hs hm hl => effect_setNow_setStl (exec_supplyLimitRetry hs hm hl b)

end Sys2Proof.Machine
end

section
/-!
SUPPORT. Transmitter ports (R270 to R280): one port's record and what the shared operations change, what frames, lines and the loop's power
do, the end of a forced level, and the commands of TX_CMD.
-/
namespace Sys2Proof.Machine

open Sys2Proof

/-! ## One port -/

/-- A state whose transmitters are those of `setTx s n x` differs in port n alone, and there shows x. -/
theorem onlyTx_of_tx {s u : State} {n : Nat} {x : TxPort} (h : u.tx = (setTx s n x).tx) : OnlyTx n s u ∧ txOf u n = x := by
  have hk : ∀ k, txOf u k = txOf (setTx s n x) k := fun k => by rw [txOf, txOf, h]
  refine ⟨⟨fun j hj => (hk j).trans (setTx_ne s x hj), ?_⟩, (hk n).trans (setTx_same s n x)⟩
  rw [h]; rfl

theorem Within.then_setTx {ps : List Part} {rs : List (RegName × Nat)} {s t : State} (k : Within ps rs s t) (n : Nat) (x : TxPort)
    (h : Part.tx ∈ ps) : Within ps rs s (setTx t n x) :=
  k.trans ⟨fun p hp => by
    cases p with
    | tx => exact absurd h hp
    | frame | before => exact ⟨rfl, rfl⟩
    | _ => rfl, .of_rf rs rfl⟩

/-- A happening at t that changes port n alone. -/
theorem effect_setNow_setTx {c : Instr} {s : State} {n t : Nat} {x : TxPort} (h : exec c s = .next (setTx (setNow s t) n x)) :
    Effect c s [.time, .tx] [] (fun u => u.now = max s.now t ∧ OnlyTx n s u ∧ txOf u n = x) :=
  .intro h (((Within.refl s).then_setNow t (by simp)).then_setTx n x (by simp)) ⟨rfl, onlyTx_of_tx rfl⟩

/-! ## Frames (R272, R275, R277) -/

section
variable {n : Fin 16} {t : Ns} {r : CellReading} {s : State}

theorem exec_cellCommandFrame_taken (hv : r.valid = true) (hp : (txOf s n).powered = true) (hl : (txOf s n).lineOn = true)
    (he : regB s .txCfg n 0 = true) (hq : (txOf s n).st ≠ .quiescent) :
    exec (.cellCommandFrame n t r) s = .next (txFrame (setNow s t) n t r) := by
  have hg : (r.valid && (txOf s n).powered && (txOf s n).lineOn && regB s .txCfg n 0 && (txOf s n).st != .quiescent) = true := by
    simp [hv, hp, hl, he, hq]
  exact congrArg _ (if_pos hg)

/-- A frame with an error, or to a cell that takes none, has no effect (R272, R275). -/
theorem exec_cellCommandFrame_ignored (h : r.valid = false ∨ (txOf s n).powered = false ∨ (txOf s n).lineOn = false ∨
    regB s .txCfg n 0 = false ∨ (txOf s n).st = .quiescent) : exec (.cellCommandFrame n t r) s = .next (setNow s t) := by
  have hg : ¬ (r.valid && (txOf s n).powered && (txOf s n).lineOn && regB s .txCfg n 0 && (txOf s n).st != .quiescent) = true := by
    rcases h with h | h | h | h | h <;> simp [h]
  exact congrArg _ (if_neg hg)

theorem exec_cellTimeout (hst : (txOf s n).st = .drive ∨ (txOf s n).st = .bypass) (ht : (txOf s n).lastFrame + txTimeout s n ≤ t) :
    exec (.cellTimeout n t) s = .next (setTx (setNow s t) n { txOf s n with st := .alarm, silent := true, misSince := none }) :=
  congrArg _ (if_pos ⟨hst, ht⟩)

theorem exec_cellStatusSilent (ht : (txOf s n).lastStatus + txTimeout s n ≤ t) :
    exec (.cellStatusSilent n t) s = .next (setTx (setNow s t) n { txOf s n with silent := true }) := congrArg _ (if_pos ht)

end

/-! ## The alarm line and the loop's power (R270, R275) -/

section
variable {n : Fin 16} {t : Ns} {s : State}

theorem exec_alarmLineAssert : exec (.alarmLineAssert n t) s = .next (setTx (setNow s t) n { txOf s n with
    lineOn := true, st := if (txOf s n).st = .quiescent ∧ (txOf s n).powered then .alarm else (txOf s n).st }) := rfl

theorem exec_loopPowerChange_on : exec (.loopPowerChange n t true) s = .next (setTx (setNow s t) n { txOf s n with
    powered := true,
    st := if (txOf s n).powered then (txOf s n).st else if (txOf s n).lineOn then .alarm else .quiescent }) := rfl

end

/-- The state in which a trim session on port n, where one runs, has ended (R278). -/
def sessionEnded (s : State) (n : Nat) : State :=
  match s.tx.sess with
  | some x => if x.port = n then { s with tx := { s.tx with sess := none } } else s
  | none => s

/-- No session is left on the port, and nothing but the session has changed (R278). -/
theorem sessionEnded_eq (s : State) (n : Nat) :
    ∃ o, (∀ x, o = some x → x.port ≠ n) ∧ sessionEnded s n = { s with tx := { s.tx with sess := o } } := by
  have hk : ∀ {o}, s.tx.sess = o → s = { s with tx := { s.tx with sess := o } } :=
    fun h => congrArg (fun o => ({ s with tx := { s.tx with sess := o } } : State)) h
  delta sessionEnded
  cases hs : s.tx.sess with
  | none => exact ⟨none, by simp, hk hs⟩
  | some x =>
    by_cases hx : x.port = n
    · exact ⟨none, by simp, if_pos hx⟩
    · exact ⟨some x, by simpa using hx, (if_neg hx).trans (hk hs)⟩

/-- The end of a force changes its port's record once a session on the port has ended (R275, R278). -/
theorem txEndForce_eq (s : State) (n : Nat) (st : TxSt) : txEndForce s n st =
    setTx (sessionEnded s n) n { txOf (sessionEnded s n) n with st := st, forceSess := false, misSince := none } := rfl

/-- A happening that ends the force or session of port n with its cell QUIESCENT, and then sets a field of the port's record by f (R275). -/
theorem yields_quiescent {c : Instr} {s : State} {n t : Nat} (f : TxPort → TxPort)
    (h : exec c s = .next (setTx (txEndForce (setNow s t) n .quiescent) n (f (txOf (txEndForce (setNow s t) n .quiescent) n)))) :
    Yields c s (fun u => (u.rec_ = s.rec_ ∧ u.rf = s.rf) ∧ OnlyAt txOf n s u ∧
      txOf u n = f { txOf s n with st := .quiescent, forceSess := false, misSince := none } ∧
      ∀ x, u.tx.sess = some x → x.port ≠ n) := by
  obtain ⟨o, ho, he⟩ := sessionEnded_eq (setNow s t) n
  rw [txEndForce_eq, setTx_same, he] at h
  exact ⟨_, h, rfl, ⟨rfl, rfl⟩, fun j hj => (setTx_ne _ _ hj).trans (setTx_ne _ _ hj), setTx_same .., ho⟩

/-! ## Mismatch and forced levels (R275, R277) -/

/-- EVR_STATUS is none of the ports' status words. -/
theorem evrStatus_ne_txStatus (n : Fin 16) : regAddr .evrStatus 0 ≠ regAddr .txStatus n := by
  have hn := n.isLt
  change 0x1300028 ≠ 0x380014 + (n.val / 1 * 0x40 + 0)
  omega

theorem exec_txMismatch {n : Fin 16} {t : Ns} {s : State} (h : txMisDue s n t = true) :
    exec (.txMismatch n t) s = .next (txFault (setNow s t) n) := congrArg _ (if_pos h)

/-- A mismatch of 500 ms puts the port in FAULT, counts it, sets its seen flag and records it (R277). -/
theorem txMismatch_effect {n : Fin 16} {t : Ns} {s : State} (h : txMisDue s n t = true) :
    Effect (.txMismatch n t) s [.time, .tx, .recorder] [(.txStatus, n), (.evrStatus, 0)] (fun u => u.now = max s.now t ∧ OnlyTx n s u ∧
      txOf u n = { txOf s n with st := .fault, misSince := none, faults := satInc 16 (txOf s n).faults } ∧
      regB u .txStatus n 8 = true) := by
  refine .intro (exec_txMismatch h) (((((Within.refl s).then_setNow t (by simp)).then_setTx _ _ (by simp)).then_stick _ _ _
    (by simp)).then_logEv _ _ _ (by simp) (by simp)) ?_
  obtain ⟨ho, hx⟩ := onlyTx_of_tx (s := s) (logEv_tx (stick (setTx (setNow s t) n { txOf s n with
    st := .fault, misSince := none, faults := satInc 16 (txOf s n).faults }) .txStatus n 8) (srcTx n) .txMismatch n)
  exact ⟨logEv_now .., ho, hx, (regB_logEv_ne _ _ _ _ _ (evrStatus_ne_txStatus n)).trans (regB_stick_same _ _ _ (by simp))⟩

theorem exec_forcedTimeout {n : Fin 16} {t : Ns} {s : State} (hst : (txOf s n).st = .forced)
    (ht : (txOf s n).forceAt + 600 * secNs ≤ t) :
    exec (.forcedTimeout n t) s = .next (logEv (txEndForce (setNow s t) n .drive) (srcTx n) .txForced n) :=
  congrArg _ (if_pos ⟨hst, ht⟩)

/-! ## TX_CMD (R275, R278 to R280) -/

section
variable {s : State} {n : Nat}

theorem txReset_fault (hst : (txOf s n).st = .fault) (hd : driving s = true) :
    txReset s n = setTx s n { txOf s n with st := .drive, misSince := none } := if_pos ⟨hst, hd⟩

/-- The reset is refused outside FAULT and while the gate does not pass (R275). -/
theorem txReset_refused (h : (txOf s n).st ≠ .fault ∨ driving s = false) : txReset s n = txRefuse s n := by
  refine if_neg ?_
  rintro ⟨hst, hd⟩
  simp [hst, hd] at h

section
variable {span : Bool} (hm : txMisDue s n s.now = false)
include hm

theorem txForceOp_drive (hst : (txOf s n).st = .drive) : txForceOp s n span = txForce s n span false :=
  (if_neg (Bool.not_eq_true _ ▸ hm)).trans (if_pos hst)

theorem txForceOp_refused (hst : (txOf s n).st ≠ .drive) : txForceOp s n span = txRefuse s n :=
  (if_neg (Bool.not_eq_true _ ▸ hm)).trans (if_neg hst)

end

theorem txRelease_forced (hst : (txOf s n).st = .forced) :
    txRelease s n = logEv (txEndForce s n .drive) (srcTx n) .txForced n := if_pos hst

theorem txRelease_refused (hst : (txOf s n).st ≠ .forced) : txRelease s n = txRefuse s n := if_neg hst

end

section
variable {c : Instr} {s : State} {n : Nat} {v : W32} {f : State → State} (hc : exec c s = .next (rowCmd s .txCmd n v f))
  (h : s.rlt.ctx = none)
include hc h

/-- Outside a relight a row of TX_CMD acts with its write kept by the wax (R24, R280, R442). -/
theorem txRow_free {u : State} (hf : f (addItem s (.write (regAddr .txCmd n) v)) = u) : exec c s = .next u :=
  hc.trans (congrArg _ ((rowCmd_free h ..).trans hf))

/-- A row of TX_CMD that its port takes changes that port's record (R280). -/
theorem txRow_effect {x : TxPort} (hf : f (addItem s (.write (regAddr .txCmd n) v)) =
    setTx (addItem s (.write (regAddr .txCmd n) v)) n x) : Effect c s [.tx, .wax] [] (fun u =>
      u.wax = (addItem s (.write (regAddr .txCmd n) v)).wax ∧ OnlyTx n s u ∧ txOf u n = x) :=
  .intro (txRow_free hc h hf) (((Within.refl s).then_addItem _ (by simp)).then_setTx _ _ (by simp)) ⟨rfl, onlyTx_of_tx rfl⟩

/-- A row of TX_CMD that its port does not take sets TX_STATE's bit and nothing else (R280). -/
theorem txRow_refused (hf : f (addItem s (.write (regAddr .txCmd n) v)) = txRefuse (addItem s (.write (regAddr .txCmd n) v)) n) :
    Effect c s [.wax] [(.txStatus, n)] (fun u =>
      u.wax = (addItem s (.write (regAddr .txCmd n) v)).wax ∧ regB u .txStatus n 10 = true) :=
  .intro (txRow_free hc h hf) (((Within.refl s).then_addItem _ (by simp)).then_stick _ _ _ (by simp))
    ⟨rfl, regB_stick_same _ _ _ (by simp)⟩

end

/-- In a relight the rows of TX_CMD answer ACCESS_BUSY (R454). -/
theorem exec_txCmd_busy (n : Fin 16) {s : State} (h : s.rlt.ctx.isSome = true) :
    exec (.txReset n) s = .next (report s hostReq (regAddr .txCmd n) .busy) ∧
    exec (.txForce4 n) s = .next (report s hostReq (regAddr .txCmd n) .busy) ∧
    exec (.txForce20 n) s = .next (report s hostReq (regAddr .txCmd n) .busy) ∧
    exec (.txRelease n) s = .next (report s hostReq (regAddr .txCmd n) .busy) ∧
    exec (.txLock n) s = .next (report s hostReq (regAddr .txCmd n) .busy) ∧
    exec (.txUnlock n) s = .next (report s hostReq (regAddr .txCmd n) .busy) :=
  ⟨congrArg _ (rowCmd_busy h ..), congrArg _ (rowCmd_busy h ..), congrArg _ (rowCmd_busy h ..), congrArg _ (rowCmd_busy h ..),
    congrArg _ (rowCmd_busy h ..), congrArg _ (rowCmd_busy h ..)⟩

end Sys2Proof.Machine
end

section
/-!
The frames, lines and register commands of transmitter ports complete with their effects (O22).
-/
namespace Sys2Proof.Machine

open Sys2Proof

/-- Settles O22, clause by clause from the equations and effects above. -/
theorem cellCommandsComplete : Obligations.CellCommandsComplete := by
  refine ⟨?frame, ?frameIgnored, ?timeoutDrive, ?timeoutBypass, ?silent, ?lineAlarm, ?lineStays, ?lineLoss, ?powerLoss, ?powerAlarm,
    ?powerQuiescent, ?powerStays, ?mismatch, ?forcedTimeout, ?reset, ?resetRefused, ?force4, ?force4Refused, ?force20, ?force20Refused,
    ?release, ?releaseRefused, ?lock, ?unlock, ?busy⟩
  case frame => exact fun n t r s hv hp hl he hq => exec_cellCommandFrame_taken hv hp hl he hq
  case frameIgnored =>
    exact fun n t r s h => .intro (exec_cellCommandFrame_ignored h) ((Within.refl s).then_setNow t (by simp)) rfl
  case timeoutDrive => exact fun n t s hst ht => effect_setNow_setTx (exec_cellTimeout (.inl hst) ht)
  case timeoutBypass => exact fun n t s hst ht => effect_setNow_setTx (exec_cellTimeout (.inr hst) ht)
  case silent => exact fun n t s ht => effect_setNow_setTx (exec_cellStatusSilent ht)
  case lineAlarm => exact fun n t s hq hp => effect_setNow_setTx (by rw [exec_alarmLineAssert, if_pos ⟨hq, hp⟩])
  case lineStays => exact fun n t s hq => effect_setNow_setTx (by rw [exec_alarmLineAssert, if_neg (fun h => hq h.1)])
  case lineLoss => exact fun n t s => yields_quiescent (fun x => { x with lineOn := false }) rfl
  case powerLoss => exact fun n t s => yields_quiescent (fun x => { x with powered := false }) rfl
  case powerAlarm => exact fun n t s hp hl => effect_setNow_setTx (by rw [exec_loopPowerChange_on, hp, hl]; rfl)
  case powerQuiescent => exact fun n t s hp hl => effect_setNow_setTx (by rw [exec_loopPowerChange_on, hp, hl]; rfl)
  case powerStays => exact fun n t s hp => effect_setNow_setTx (by rw [exec_loopPowerChange_on, if_pos hp])
  case mismatch => exact fun n t s h => txMismatch_effect h
  case forcedTimeout => exact fun n t s hst ht => exec_forcedTimeout hst ht
  case reset => exact fun n s h hst hd => txRow_effect rfl h (txReset_fault (s := addItem s _) hst hd)
  case resetRefused => exact fun n s h hr => txRow_refused rfl h (txReset_refused hr)
  case force4 => exact fun n s h hm hst => txRow_effect rfl h (txForceOp_drive (s := addItem s _) hm hst)
  case force4Refused => exact fun n s h hm hst => txRow_refused rfl h (txForceOp_refused hm hst)
  case force20 => exact fun n s h hm hst => txRow_effect rfl h (txForceOp_drive (s := addItem s _) hm hst)
  case force20Refused => exact fun n s h hm hst => txRow_refused rfl h (txForceOp_refused hm hst)
  case release => exact fun n s h hst => txRow_free rfl h (txRelease_forced (s := addItem s _) hst)
  case releaseRefused => exact fun n s h hst => txRow_refused rfl h (txRelease_refused hst)
  case lock => exact fun n s h => txRow_effect rfl h rfl
  case unlock => exact fun n s h => txRow_effect rfl h rfl
  case busy => exact fun n s h => exec_txCmd_busy n h

end Sys2Proof.Machine
end

section
/-!
SUPPORT. The record of one unit replaced, or one part of the state written: what stands beside it (the rules that `Within` lacked), and
the effects of a command that writes one record.
-/
namespace Sys2Proof.Machine

open Sys2Proof

/-- One part of the state may differ: the others are the same by computation. -/
theorem Within.then_part {ps : List Part} {rs : List (RegName × Nat)} {s t u : State} (k : Within ps rs s t) (q : Part) (h : q ∈ ps)
    (hu : ∀ p, p ≠ q → p.same t u) (hr : u.rf = t.rf) : Within ps rs s u :=
  k.trans ⟨fun p hp => hu p fun e => hp (e ▸ h), .of_rf rs hr⟩

section
variable {ps : List Part} {rs : List (RegName × Nat)} {s t : State} (k : Within ps rs s t)
include k

theorem Within.then_tx (x : TxState) (h : Part.tx ∈ ps) : Within ps rs s { t with tx := x } :=
  k.then_part .tx h (fun p hp => by cases p with | tx => exact absurd rfl hp | frame | before => exact ⟨rfl, rfl⟩ | _ => rfl) rfl

theorem Within.then_sol (x : List (Nat × SolPort)) (h : Part.sol ∈ ps) : Within ps rs s { t with sol := x } :=
  k.then_part .sol h (fun p hp => by cases p with | sol => exact absurd rfl hp | frame | before => exact ⟨rfl, rfl⟩ | _ => rfl) rfl

theorem Within.then_mkt (x : MktState) (h : Part.mkt ∈ ps) : Within ps rs s { t with mkt := x } :=
  k.then_part .mkt h (fun p hp => by cases p with | mkt => exact absurd rfl hp | frame | before => exact ⟨rfl, rfl⟩ | _ => rfl) rfl

theorem Within.then_tal (x : TallyState) (h : Part.tal ∈ ps) : Within ps rs s { t with tal := x } :=
  k.then_part .tal h (fun p hp => by cases p with | tal => exact absurd rfl hp | frame | before => exact ⟨rfl, rfl⟩ | _ => rfl) rfl

theorem Within.then_pair (x : PairState) (h : Part.pair ∈ ps) : Within ps rs s { t with pair := x } :=
  k.then_part .pair h (fun p hp => by cases p with | pair => exact absurd rfl hp | frame | before => exact ⟨rfl, rfl⟩ | _ => rfl) rfl

theorem Within.then_hld (x : HldState) (h : Part.hld ∈ ps) : Within ps rs s { t with hld := x } :=
  k.then_part .hld h (fun p hp => by cases p with | hld => exact absurd rfl hp | frame | before => exact ⟨rfl, rfl⟩ | _ => rfl) rfl

theorem Within.then_snf (x : SnfState) (h : Part.snf ∈ ps) : Within ps rs s { t with snf := x } :=
  k.then_part .snf h (fun p hp => by cases p with | snf => exact absurd rfl hp | frame | before => exact ⟨rfl, rfl⟩ | _ => rfl) rfl

theorem Within.then_thr (x : ThrState) (h : Part.thr ∈ ps) : Within ps rs s { t with thr := x } :=
  k.then_part .thr h (fun p hp => by cases p with | thr => exact absurd rfl hp | frame | before => exact ⟨rfl, rfl⟩ | _ => rfl) rfl

theorem Within.then_mgt (x : MgtState) (h : Part.mgt ∈ ps) : Within ps rs s { t with mgt := x } :=
  k.then_part .mgt h (fun p hp => by cases p with | mgt => exact absurd rfl hp | frame | before => exact ⟨rfl, rfl⟩ | _ => rfl) rfl

theorem Within.then_wax (x : WaxState) (h : Part.wax ∈ ps) : Within ps rs s { t with wax := x } :=
  k.then_part .wax h (fun p hp => by cases p with | wax => exact absurd rfl hp | frame | before => exact ⟨rfl, rfl⟩ | _ => rfl) rfl

theorem Within.then_rlt (x : RltState) (h : Part.rlt ∈ ps) : Within ps rs s { t with rlt := x } :=
  k.then_part .rlt h (fun p hp => by cases p with | rlt => exact absurd rfl hp | frame | before => exact ⟨rfl, rfl⟩ | _ => rfl) rfl

theorem Within.then_mon (x : MonState) (h : Part.mon ∈ ps) : Within ps rs s { t with mon := x } :=
  k.then_part .mon h (fun p hp => by cases p with | mon => exact absurd rfl hp | frame | before => exact ⟨rfl, rfl⟩ | _ => rfl) rfl

theorem Within.then_glb (x : GlbState) (h : Part.glb ∈ ps) : Within ps rs s { t with glb := x } :=
  k.then_part .glb h (fun p hp => by cases p with | glb => exact absurd rfl hp | frame | before => exact ⟨rfl, rfl⟩ | _ => rfl) rfl

end

section
variable {c : Instr} {s : State}

/-- A command that changes nothing. -/
theorem effect_none (h : exec c s = .next s) : Effect c s [] [] (fun u => u = s) := .intro h (.refl s) rfl

/-- A happening at t that changes nothing else. -/
theorem effect_setNow {t : Nat} {ps : List Part} {rs : List (RegName × Nat)} (h : exec c s = .next (setNow s t)) :
    Effect c s (.time :: ps) rs (fun u => u.now = max s.now t) := .intro h ((Within.refl s).then_setNow t (by simp)) rfl

end

/-! ## Commands and happenings that write one record -/

section
variable {c : Instr} {s : State} {t : Nat}

/-- A happening at t that writes the market's record. -/
theorem effect_setNow_mkt {x : MktState} (h : exec c s = .next { setNow s t with mkt := x }) :
    Effect c s [.time, .mkt] [] (fun u => u.now = max s.now t ∧ u.mkt = x) :=
  .intro h (((Within.refl s).then_setNow t).then_mkt _ (by simp)) ⟨rfl, rfl⟩

/-- A happening at t that writes the pair's record. -/
theorem effect_setNow_pair {x : PairState} (h : exec c s = .next { setNow s t with pair := x }) :
    Effect c s [.time, .pair] [] (fun u => u.now = max s.now t ∧ u.pair = x) :=
  .intro h (((Within.refl s).then_setNow t (by simp)).then_pair _ (by simp)) ⟨rfl, rfl⟩

/-- A happening at t that writes the streaming unit's record. -/
theorem effect_setNow_hld {x : HldState} (h : exec c s = .next { setNow s t with hld := x }) :
    Effect c s [.time, .hld] [] (fun u => u.now = max s.now t ∧ u.hld = x) :=
  .intro h (((Within.refl s).then_setNow t (by simp)).then_hld _ (by simp)) ⟨rfl, rfl⟩

/-- A happening at t that writes the snuffer's record. -/
theorem effect_setNow_snf {x : SnfState} (h : exec c s = .next { setNow s t with snf := x }) :
    Effect c s [.time, .snf] [] (fun u => u.now = max s.now t ∧ u.snf = x) :=
  .intro h (((Within.refl s).then_setNow t (by simp)).then_snf _ (by simp)) ⟨rfl, rfl⟩

/-- A happening at t that writes the thermal supervisor's record. -/
theorem effect_setNow_thr {x : ThrState} (h : exec c s = .next { setNow s t with thr := x }) :
    Effect c s [.time, .thr] [] (fun u => u.now = max s.now t ∧ u.thr = x) :=
  .intro h (((Within.refl s).then_setNow t (by simp)).then_thr _ (by simp)) ⟨rfl, rfl⟩

/-- A happening at t that writes the management record. -/
theorem effect_setNow_mgt {x : MgtState} (h : exec c s = .next { setNow s t with mgt := x }) :
    Effect c s [.time, .mgt] [] (fun u => u.now = max s.now t ∧ u.mgt = x) :=
  .intro h (((Within.refl s).then_setNow t (by simp)).then_mgt _ (by simp)) ⟨rfl, rfl⟩

/-- A happening at t that writes the wax's record. -/
theorem effect_setNow_wax {x : WaxState} (h : exec c s = .next { setNow s t with wax := x }) :
    Effect c s [.time, .wax] [] (fun u => u.now = max s.now t ∧ u.wax = x) :=
  .intro h (((Within.refl s).then_setNow t (by simp)).then_wax _ (by simp)) ⟨rfl, rfl⟩

/-- A command that writes the wax's record. -/
theorem effect_wax {x : WaxState} (h : exec c s = .next { s with wax := x }) : Effect c s [.wax] [] (fun u => u.wax = x) :=
  .intro h ((Within.refl s).then_wax _ (by simp)) rfl

/-- A command that writes the relight's record. -/
theorem effect_rlt {x : RltState} (h : exec c s = .next { s with rlt := x }) : Effect c s [.rlt] [] (fun u => u.rlt = x) :=
  .intro h ((Within.refl s).then_rlt _ (by simp)) rfl

end

end Sys2Proof.Machine
end

section
/-!
SUPPORT. Register accesses (R7, R8, R11, R462, R463, R465): what a read and a write of one word do, by what stands at the address.
-/
namespace Sys2Proof.Machine

open Sys2Proof

/-! ## Writes -/

section
variable {s : State} {q : Requester} {a : Nat} {v : W32}

theorem writeAddr_misaligned (h : a % 4 ≠ 0) : writeAddr s q a v = (report s q a .align, [.align]) := if_pos h

section
variable (hal : a % 4 = 0)
include hal

/-- An address without a register or a view is refused (R11, R462). -/
theorem writeAddr_unmapped (hd : decodeAddr a = none) (hv : viewWord s a = none) (hw : ¬ (0x02000000 ≤ a ∧ a < 0x04000000)) :
    writeAddr s q a v = (report s q a .unmapped, [.unmapped]) := by
  simp [writeAddr, hal, hd, hv, hw]

variable {r : RegName} {i : Nat} (hd : decodeAddr a = some (r, i))
include hd

/-- A word of no pair is written at once (R8). -/
theorem writeAddr_single (hh : highOf r = none) (hl : lowOf r = none) : writeAddr s q a v = writeWords s q a [(r, i, v)] := by
  simp [writeAddr, hal, hd, hh, hl]

/-- The low word of a pair waits for its high word (R463). -/
theorem writeAddr_low {p : RegName} (hh : highOf r = some p) (hp : pairAccepts s r p = true) :
    writeAddr s q a v = ({ s with glb := { s.glb with wrLatch := spPut s.glb.wrLatch a v } }, []) := by
  simp [writeAddr, hal, hd, hh, hp]

section
variable {p : RegName} (hh : highOf r = none) (hl : lowOf r = some p) (hp : pairAccepts s p r = true)
include hh hl hp

/-- The high word of a pair writes both words (R463). -/
theorem writeAddr_high {w : W32} (hw : lookup s.glb.wrLatch (a - 4) = some w) :
    writeAddr s q a v = writeWords s q a [(p, i, w), (r, i, v)] := by
  simp [writeAddr, hal, hd, hh, hl, hp, hw]

/-- A high word without its low word is SPLIT (R463). -/
theorem writeAddr_split (hw : lookup s.glb.wrLatch (a - 4) = none) : writeAddr s q a v = (report s q a .split, [.split]) := by
  simp [writeAddr, hal, hd, hh, hl, hp, hw]

end

end

/-- A write that is refused as a whole reports its code and changes nothing else (R8, R11). -/
theorem writeWords_refused {ws : List (RegName × Nat × W32)} {c : Acc} (h : refusal s ws = c) (hc : c ≠ .ok) :
    writeWords s q a ws = (report s q a c, [c]) := by
  simp [writeWords, h, hc]

end

/-! ## Reads -/

section
variable {s : State} {q : Requester} {a : Nat}

theorem readAddr_misaligned (h : a % 4 ≠ 0) : readAddr s q a = (report s q a .align, 0#32, .align) := if_pos h

section
variable (hal : a % 4 = 0) (hn : lookup s.glb.rdLatch a = none) {r : RegName} {i : Nat} (hd : decodeAddr a = some (r, i))
include hal hn hd

/-- A read of a low word latches its high word (R7). -/
theorem readAddr_low {p : RegName} (hh : highOf r = some p) : (readAddr s q a).1 =
    { s with glb := { s.glb with rdLatch := spPut s.glb.rdLatch (a + 4) (readWord (shownState s a) p i) } } := by
  simp [readAddr, hal, hn, hd, hh]

/-- A read of a word of no pair changes nothing. -/
theorem readAddr_single (hh : highOf r = none) : (readAddr s q a).1 = s := by
  simp [readAddr, hal, hn, hd, hh]

end

end

/-- A report of a code other than OK sets GLB_ACCESS, its address, its count and its seen bit, and nothing else (R465). -/
theorem report_only {s : State} {a : Nat} {c : Acc} (hc : c ≠ .ok) : Within [.glb] [(.glbAccess, 0)] s (report s hostReq a c) ∧
    (report s hostReq a c).glb = { s.glb with
      accCode := c.code, accKind := false, accSender := 0x8000, accAddr := a, accCount := satInc 16 s.glb.accCount } ∧
    regB (report s hostReq a c) .glbAccess 0 5 = true := by
  rw [report, if_neg hc]
  exact ⟨((Within.refl s).then_glb _ (by simp)).then_stick _ _ _, rfl, regB_stick_same _ _ _ (by simp)⟩

end Sys2Proof.Machine
end

section
/-!
No command stops a run (O49): every meaning answers a next state.
-/
namespace Sys2Proof.Machine

open Sys2Proof

/-- Every command answers a next state: most by one answer for all states, those named here by one for each of their branches. (The
`change` goes to the command's own meaning; unfolding `exec` would write out its whole table for each command.) -/
theorem exec_next (c : Instr) (s : State) : ∃ t, exec c s = .next t := by
  cases c
  case' aisleDownstreamSubframe => change ∃ t, execAisleDownstreamSubframe _ _ _ s = _; unfold execAisleDownstreamSubframe; extract_lets
  case' aisleLinkLost => change ∃ t, execAisleLinkLost _ _ s = _; unfold execAisleLinkLost; extract_lets
  case' aisleTimedAction => change ∃ t, execAisleTimedAction _ _ s = _; unfold execAisleTimedAction; extract_lets
  case' aisleUpstreamSubframe => change ∃ t, execAisleUpstreamSubframe _ _ _ s = _; unfold execAisleUpstreamSubframe; extract_lets
  case' autoClaim => change ∃ t, execAutoClaim _ s = _; unfold execAutoClaim; extract_lets
  case' collision => change ∃ t, execCollision _ s = _; unfold execCollision; extract_lets
  case' collisionTimeout => change ∃ t, execCollisionTimeout _ s = _; unfold execCollisionTimeout; extract_lets
  case' controlFrameReceive => change ∃ t, execControlFrameReceive _ _ _ s = _; unfold execControlFrameReceive; extract_lets
  case' copyComplete => change ∃ t, execCopyComplete _ _ s = _; unfold execCopyComplete; extract_lets
  case' copyFrameReceive => change ∃ t, execCopyFrameReceive _ _ _ s = _; unfold execCopyFrameReceive; extract_lets
  case' copyRetry => change ∃ t, execCopyRetry _ s = _; unfold execCopyRetry; extract_lets
  case' coreLinkLost => change ∃ t, execCoreLinkLost _ _ s = _; unfold execCoreLinkLost; extract_lets
  case' currentLoopUpdate => change ∃ t, execCurrentLoopUpdate _ _ _ s = _; unfold execCurrentLoopUpdate; extract_lets
  case' decayEnd => change ∃ t, execDecayEnd _ _ s = _; unfold execDecayEnd; extract_lets
  case' diClassChange => change ∃ t, execDiClassChange _ _ _ s = _; unfold execDiClassChange; extract_lets
  case' dutyCut => change ∃ t, execDutyCut _ _ s = _; unfold execDutyCut; extract_lets
  case' loopPowerChange => change ∃ t, execLoopPowerChange _ _ _ s = _; unfold execLoopPowerChange; extract_lets
  case' measurementSetEnd => change ∃ t, execMeasurementSetEnd _ _ _ s = _; unfold execMeasurementSetEnd; extract_lets
  case' mirrorFrameReceive => change ∃ t, execMirrorFrameReceive _ _ _ s = _; unfold execMirrorFrameReceive; extract_lets
  case' mirrorSetClose => change ∃ t, execMirrorSetClose _ s = _; unfold execMirrorSetClose; extract_lets
  case' pairLinkSilence => change ∃ t, execPairLinkSilence _ s = _; unfold execPairLinkSilence; extract_lets
  case' peakEnd => change ∃ t, execPeakEnd _ _ _ s = _; unfold execPeakEnd; extract_lets
  case' peerOwnFall => change ∃ t, execPeerOwnFall _ s = _; unfold execPeerOwnFall; extract_lets
  case' peerOwnRise => change ∃ t, execPeerOwnRise _ s = _; unfold execPeerOwnRise; extract_lets
  case' safeTableCheck => change ∃ t, execSafeTableCheck _ _ _ s = _; unfold execSafeTableCheck; extract_lets
  case' selftestStage => change ∃ t, execSelftestStage _ _ _ s = _; unfold execSelftestStage; extract_lets
  case' stallConversion => change ∃ t, execStallConversion _ _ _ s = _; unfold execStallConversion; extract_lets
  case' subscribedWickLoss => change ∃ t, execSubscribedWickLoss _ _ s = _; unfold execSubscribedWickLoss; extract_lets
  case' supplyFault => change ∃ t, execSupplyFault _ _ _ s = _; unfold execSupplyFault; extract_lets
  case' sweepPulseEnd => change ∃ t, execSweepPulseEnd _ _ _ s = _; unfold execSweepPulseEnd; extract_lets
  case' takeoverT5 => change ∃ t, execTakeoverT5 _ s = _; unfold execTakeoverT5; extract_lets
  case' takeoverWaitEnd => change ∃ t, execTakeoverWaitEnd _ s = _; unfold execTakeoverWaitEnd; extract_lets
  case' thermalConversion => change ∃ t, execThermalConversion _ _ _ s = _; unfold execThermalConversion; extract_lets
  case' thermalRestart => change ∃ t, execThermalRestart _ s = _; unfold execThermalRestart; extract_lets
  case' trimSelChange => change ∃ t, execTrimSelChange _ _ s = _; unfold execTrimSelChange; extract_lets
  case' trimSessionStart => change ∃ t, execTrimSessionStart _ _ s = _; unfold execTrimSessionStart; extract_lets
  case' trimSessionTimeout => change ∃ t, execTrimSessionTimeout _ s = _; unfold execTrimSessionTimeout; extract_lets
  case' trimShortPress => change ∃ t, execTrimShortPress _ _ s = _; unfold execTrimShortPress; extract_lets
  case' trimStore => change ∃ t, execTrimStore _ s = _; unfold execTrimStore; extract_lets
  case' windowCapExpiry => change ∃ t, execWindowCapExpiry _ _ s = _; unfold execWindowCapExpiry; extract_lets
  all_goals
    repeat' split
    all_goals exact ⟨_, rfl⟩

/-- Settles O49. -/
theorem noCommandStops : Obligations.NoCommandStops := exec_next

end Sys2Proof.Machine
end

section
/-!
SUPPORT. Every command keeps `State.follows`: what `Laws/Follows*` show of each meaning, put together over the commands' table, and what
that gives for a step.
-/
namespace Sys2Proof.Machine

open Sys2Proof

/-- Every next state of every command follows the state before it. -/
theorem exec_follows (c : Instr) (s : State) : Out.follows s (exec c s) := by
  cases c with
  | frameBoundary t => exact execFrameBoundary_follows t s (.refl s)
  | mirrorSetClose t => exact execMirrorSetClose_follows t s (.refl s)
  | aisleUpstreamSubframe n t valid => exact execAisleUpstreamSubframe_follows n t valid s (.refl s)
  | aisleDownstreamSubframe n t valid => exact execAisleDownstreamSubframe_follows n t valid s (.refl s)
  | aisleTimedAction n t => exact execAisleTimedAction_follows n t s (.refl s)
  | wickTick w t e => exact execWickTick_follows w t e s (.refl s)
  | wickPhaseError w t => exact execWickPhaseError_follows w t s (.refl s)
  | wickStandstillTimeout w t => exact execWickStandstillTimeout_follows w t s (.refl s)
  | wickSnapshotLatch t => exact execWickSnapshotLatch_follows t s (.refl s)
  | wickLoss w t => exact execWickLoss_follows w t s (.refl s)
  | wickRecovery w t => exact execWickRecovery_follows w t s (.refl s)
  | mainsCrossingTimeout w t => exact execMainsCrossingTimeout_follows w t s (.refl s)
  | wickFrozen w t => exact execWickFrozen_follows w t s (.refl s)
  | wickPresetRequest w v => exact execWickPresetRequest_follows w v s (.refl s)
  | wickClearDiag w => exact execWickClearDiag_follows w s (.refl s)
  | wickFrameReceive t h recs => exact execWickFrameReceive_follows t h recs s (.refl s)
  | subscribedWickLoss w t => exact execSubscribedWickLoss_follows w t s (.refl s)
  | lltArm slot alloc window => exact execLltArm_follows slot alloc window s (.refl s)
  | lltDisarm slot alloc window => exact execLltDisarm_follows slot alloc window s (.refl s)
  | lltFree slot alloc window => exact execLltFree_follows slot alloc window s (.refl s)
  | armRequestsApply t => exact execArmRequestsApply_follows t s (.refl s)
  | timeActionDue slot t => exact execTimeActionDue_follows slot t s (.refl s)
  | windowCapExpiry slot t => exact execWindowCapExpiry_follows slot t s (.refl s)
  | measurementSetStart n t => exact execMeasurementSetStart_follows n t s (.refl s)
  | measurementSetEnd c t r => exact execMeasurementSetEnd_follows c t r s (.refl s)
  | calOpen c => exact execCalOpen_follows c s (.refl s)
  | calShort c => exact execCalShort_follows c s (.refl s)
  | calLoad c => exact execCalLoad_follows c s (.refl s)
  | calAir c => exact execCalAir_follows c s (.refl s)
  | calAverageDone c => exact execCalAverageDone_follows c s (.refl s)
  | calCommit c => exact execCalCommit_follows c s (.refl s)
  | calAbort c => exact execCalAbort_follows c s (.refl s)
  | capture c slot => exact execCapture_follows c slot s (.refl s)
  | captureDone c => exact execCaptureDone_follows c s (.refl s)
  | labWrite c slot => exact execLabWrite_follows c slot s (.refl s)
  | fit c => exact execFit_follows c s (.refl s)
  | clearSamples c => exact execClearSamples_follows c s (.refl s)
  | pclAccept c => exact execPclAccept_follows c s (.refl s)
  | pclSetEmpty c => exact execPclSetEmpty_follows c s (.refl s)
  | pclCheckpointNow c => exact execPclCheckpointNow_follows c s (.refl s)
  | pclClearDiag c => exact execPclClearDiag_follows c s (.refl s)
  | pclDiscard c => exact execPclDiscard_follows c s (.refl s)
  | checkpointCapture c t => exact execCheckpointCapture_follows c t s (.refl s)
  | checkpointWriteComplete c ok => exact execCheckpointWriteComplete_follows c ok s (.refl s)
  | inputSubstTimeout c inp t => exact execInputSubstTimeout_follows c inp t s (.refl s)
  | fbOnlyTimeout c t => exact execFbOnlyTimeout_follows c t s (.refl s)
  | dryStartCont c => exact execDryStartCont_follows c s (.refl s)
  | dryStartBatch c => exact execDryStartBatch_follows c s (.refl s)
  | dryCoolDown c => exact execDryCoolDown_follows c s (.refl s)
  | dryStop c => exact execDryStop_follows c s (.refl s)
  | dryResume c => exact execDryResume_follows c s (.refl s)
  | dryResetAdapt c => exact execDryResetAdapt_follows c s (.refl s)
  | dryClearBias c => exact execDryClearBias_follows c s (.refl s)
  | dryCoolMaxExpiry c t => exact execDryCoolMaxExpiry_follows c t s (.refl s)
  | aerMinTimeExpiry g t => exact execAerMinTimeExpiry_follows g t s (.refl s)
  | deadlineAbort e k t => exact execDeadlineAbort_follows e k t s (.refl s)
  | engineHalt e cause t => exact execEngineHalt_follows e cause t s (.refl s)
  | transactionTimeout tag t => exact execTransactionTimeout_follows tag t s (.refl s)
  | tagQuarantineEnd tag t => exact execTagQuarantineEnd_follows tag t s (.refl s)
  | engClearPeak e => exact execEngClearPeak_follows e s (.refl s)
  | engClearCounts e => exact execEngClearCounts_follows e s (.refl s)
  | bskClearCounts => exact execBskClearCounts_follows s (.refl s)
  | tprRun j => exact execTprRun_follows j s (.refl s)
  | tprHold j => exact execTprHold_follows j s (.refl s)
  | tprTrack j => exact execTprTrack_follows j s (.refl s)
  | tprSetValue j => exact execTprSetValue_follows j s (.refl s)
  | tprApplyCoord j fromPresent => exact execTprApplyCoord_follows j fromPresent s (.refl s)
  | supervisionTimerExpiry k following t => exact execSupervisionTimerExpiry_follows k following t s (.refl s)
  | loopSilent k t => exact execLoopSilent_follows k t s (.refl s)
  | loopStuckExpiry k t => exact execLoopStuckExpiry_follows k t s (.refl s)
  | loopReturn k t => exact execLoopReturn_follows k t s (.refl s)
  | loopHoldMaxExpiry k t => exact execLoopHoldMaxExpiry_follows k t s (.refl s)
  | loopAuto k => exact execLoopAuto_follows k s (.refl s)
  | loopManual k => exact execLoopManual_follows k s (.refl s)
  | loopReset k => exact execLoopReset_follows k s (.refl s)
  | loopClearFindings k => exact execLoopClearFindings_follows k s (.refl s)
  | motorStart m => exact execMotorStart_follows m s (.refl s)
  | motorStop m => exact execMotorStop_follows m s (.refl s)
  | motorCoast m => exact execMotorCoast_follows m s (.refl s)
  | motorReset m => exact execMotorReset_follows m s (.refl s)
  | motorIdent m => exact execMotorIdent_follows m s (.refl s)
  | motorResume m => exact execMotorResume_follows m s (.refl s)
  | motorClearCounts m => exact execMotorClearCounts_follows m s (.refl s)
  | hwTrip m t => exact execHwTrip_follows m t s (.refl s)
  | motorOvercurrent m t => exact execMotorOvercurrent_follows m t s (.refl s)
  | dcOvervolt m t => exact execDcOvervolt_follows m t s (.refl s)
  | dcUndervolt m t => exact execDcUndervolt_follows m t s (.refl s)
  | sdLoss m t => exact execSdLoss_follows m t s (.refl s)
  | observerInvalidTimeout m t => exact execObserverInvalidTimeout_follows m t s (.refl s)
  | phaseLoss m t => exact execPhaseLoss_follows m t s (.refl s)
  | currentLoopUpdate m t s_ => exact execCurrentLoopUpdate_follows m t s_ s (.refl s)
  | searchComplete m t r => exact execSearchComplete_follows m t r s (.refl s)
  | searchRetry m t => exact execSearchRetry_follows m t s (.refl s)
  | probeComplete m t => exact execProbeComplete_follows m t s (.refl s)
  | angleAlignComplete m t => exact execAngleAlignComplete_follows m t s (.refl s)
  | catchComplete m t => exact execCatchComplete_follows m t s (.refl s)
  | brakeFallback m t => exact execBrakeFallback_follows m t s (.refl s)
  | brakeSearch m t => exact execBrakeSearch_follows m t s (.refl s)
  | reverseHold m t => exact execReverseHold_follows m t s (.refl s)
  | stoppingComplete m t => exact execStoppingComplete_follows m t s (.refl s)
  | fanStall m t => exact execFanStall_follows m t s (.refl s)
  | retryWaitExpiry m t => exact execRetryWaitExpiry_follows m t s (.refl s)
  | stallCountClear m t => exact execStallCountClear_follows m t s (.refl s)
  | identComplete m t rs ls ok => exact execIdentComplete_follows m t rs ls ok s (.refl s)
  | gateHome m => exact execGateHome_follows m s (.refl s)
  | gateAbort m => exact execGateAbort_follows m s (.refl s)
  | gateMove m => exact execGateMove_follows m s (.refl s)
  | homeTimeout m t => exact execHomeTimeout_follows m t s (.refl s)
  | routeStart r => exact execRouteStart_follows r s (.refl s)
  | routeStop r => exact execRouteStop_follows r s (.refl s)
  | routeReset r => exact execRouteReset_follows r s (.refl s)
  | proofTimeout r k t => exact execProofTimeout_follows r k t s (.refl s)
  | memberProved r k t => exact execMemberProved_follows r k t s (.refl s)
  | runOutComplete r k t => exact execRunOutComplete_follows r k t s (.refl s)
  | beltSlip k t => exact execBeltSlip_follows k t s (.refl s)
  | aisleLinkLost n t => exact execAisleLinkLost_follows n t s (.refl s)
  | coreLinkLost n t => exact execCoreLinkLost_follows n t s (.refl s)
  | aislePowerUp n t avl => exact execAislePowerUp_follows n t avl s (.refl s)
  | avlUndervoltage n t avl => exact execAvlUndervoltage_follows n t avl s (.refl s)
  | fieldUndervoltage n t avf => exact execFieldUndervoltage_follows n t avf s (.refl s)
  | fieldUndervoltageEnd n t avf => exact execFieldUndervoltageEnd_follows n t avf s (.refl s)
  | aisleResumeCmd n => exact execAisleResumeCmd_follows n s (.refl s)
  | stallConversion s_ t r => exact execStallConversion_follows s_ t r s (.refl s)
  | diClassChange s_ t cls => exact execDiClassChange_follows s_ t cls s (.refl s)
  | cntEdge s_ t => exact execCntEdge_follows s_ t s (.refl s)
  | cntBreak s_ t => exact execCntBreak_follows s_ t s (.refl s)
  | doOverloadTrip s_ t => exact execDoOverloadTrip_follows s_ t s (.refl s)
  | doOverloadRetry s_ t limited => exact execDoOverloadRetry_follows s_ t limited s (.refl s)
  | doThermalShutdown s_ t => exact execDoThermalShutdown_follows s_ t s (.refl s)
  | doThermalRecovery s_ t => exact execDoThermalRecovery_follows s_ t s (.refl s)
  | supplyLimitRetry s_ t limited => exact execSupplyLimitRetry_follows s_ t limited s (.refl s)
  | safeTableCheck n t ok => exact execSafeTableCheck_follows n t ok s (.refl s)
  | sweepStart n => exact execSweepStart_follows n s (.refl s)
  | sweepAbort n => exact execSweepAbort_follows n s (.refl s)
  | aisleClearCounts n => exact execAisleClearCounts_follows n s (.refl s)
  | sweepPulseEnd n t fault => exact execSweepPulseEnd_follows n t fault s (.refl s)
  | sweepGapEnd n t => exact execSweepGapEnd_follows n t s (.refl s)
  | cellCommandFrame n t r => exact execCellCommandFrame_follows n t r s (.refl s)
  | cellTimeout n t => exact execCellTimeout_follows n t s (.refl s)
  | alarmLineAssert n t => exact execAlarmLineAssert_follows n t s (.refl s)
  | alarmLineLoss n t => exact execAlarmLineLoss_follows n t s (.refl s)
  | txMismatch n t => exact execTxMismatch_follows n t s (.refl s)
  | forcedTimeout n t => exact execForcedTimeout_follows n t s (.refl s)
  | txReset n => exact execTxReset_follows n s (.refl s)
  | txForce4 n => exact execTxForce4_follows n s (.refl s)
  | txForce20 n => exact execTxForce20_follows n s (.refl s)
  | txRelease n => exact execTxRelease_follows n s (.refl s)
  | txLock n => exact execTxLock_follows n s (.refl s)
  | txUnlock n => exact execTxUnlock_follows n s (.refl s)
  | trimSessionStart span t => exact execTrimSessionStart_follows span t s (.refl s)
  | trimShortPress up t => exact execTrimShortPress_follows up t s (.refl s)
  | trimStore t => exact execTrimStore_follows t s (.refl s)
  | trimSessionTimeout t => exact execTrimSessionTimeout_follows t s (.refl s)
  | trimSelChange sel t => exact execTrimSelChange_follows sel t s (.refl s)
  | solStart v h => exact execSolStart_follows v h s (.refl s)
  | solEnd v => exact execSolEnd_follows v s (.refl s)
  | solReset v => exact execSolReset_follows v s (.refl s)
  | solClearCounts v => exact execSolClearCounts_follows v s (.refl s)
  | peakEnd v t cur => exact execPeakEnd_follows v t cur s (.refl s)
  | holdEnd v t => exact execHoldEnd_follows v t s (.refl s)
  | decayEnd v t => exact execDecayEnd_follows v t s (.refl s)
  | decayTimeout v t => exact execDecayTimeout_follows v t s (.refl s)
  | solOvercurrent v t => exact execSolOvercurrent_follows v t s (.refl s)
  | holdLow v t => exact execHoldLow_follows v t s (.refl s)
  | dutyCut v t => exact execDutyCut_follows v t s (.refl s)
  | senseFault v t => exact execSenseFault_follows v t s (.refl s)
  | dataFrameReceive t h es => exact execDataFrameReceive_follows t h es s (.refl s)
  | creditFrameReceive t h cs => exact execCreditFrameReceive_follows t h cs s (.refl s)
  | helloFrameReceive t h k => exact execHelloFrameReceive_follows t h k s (.refl s)
  | creditRefresh t => exact execCreditRefresh_follows t s (.refl s)
  | helloSend t => exact execHelloSend_follows t s (.refl s)
  | ptpSync t offset hops => exact execPtpSync_follows t offset hops s (.refl s)
  | peerDelayMeasure p t delay => exact execPeerDelayMeasure_follows p t delay s (.refl s)
  | syncTimeout t becomesGm => exact execSyncTimeout_follows t becomesGm s (.refl s)
  | ppsInEdge t => exact execPpsInEdge_follows t s (.refl s)
  | ppsMissing t => exact execPpsMissing_follows t s (.refl s)
  | ppsOutSecond t => exact execPpsOutSecond_follows t s (.refl s)
  | marketTimeStep t => exact execMarketTimeStep_follows t s (.refl s)
  | datagramRead t d addr count => exact execDatagramRead_follows t d addr count s (.refl s)
  | datagramWrite t d addr ws => exact execDatagramWrite_follows t d addr ws s (.refl s)
  | switch t d s_ gen op subject hash => exact execSwitch_follows t d s_ gen op subject hash s (.refl s)
  | switchInstant t => exact execSwitchInstant_follows t s (.refl s)
  | leavingEnd t => exact execLeavingEnd_follows t s (.refl s)
  | peerMissing id t => exact execPeerMissing_follows id t s (.refl s)
  | mktStepAccept => exact execMktStepAccept_follows s (.refl s)
  | mktClearCounts => exact execMktClearCounts_follows s (.refl s)
  | tallyPost t d num inst => exact execTallyPost_follows t d num inst s (.refl s)
  | talPost => exact execTalPost_follows s (.refl s)
  | talAck num => exact execTalAck_follows num s (.refl s)
  | tallyLatch t => exact execTallyLatch_follows t s (.refl s)
  | eventRecordCommit t => exact execEventRecordCommit_follows t s (.refl s)
  | mramTailCommit t ok => exact execMramTailCommit_follows t ok s (.refl s)
  | evrClear v => exact execEvrClear_follows v s (.refl s)
  | eventWindowRead j => exact execEventWindowRead_follows j s (.refl s)
  | pairLowWordRead addr => exact execPairLowWordRead_follows addr s (.refl s)
  | pairHighWordWrite addr v => exact execPairHighWordWrite_follows addr v s (.refl s)
  | controlFrameReceive t h c => exact execControlFrameReceive_follows t h c s (.refl s)
  | mirrorFrameReceive t h m => exact execMirrorFrameReceive_follows t h m s (.refl s)
  | setApply t => exact execSetApply_follows t s (.refl s)
  | copyFrameReceive t h m => exact execCopyFrameReceive_follows t h m s (.refl s)
  | copyComplete t ok => exact execCopyComplete_follows t ok s (.refl s)
  | copyRetry t => exact execCopyRetry_follows t s (.refl s)
  | lanternReceive t h l => exact execLanternReceive_follows t h l s (.refl s)
  | lanternSend t => exact execLanternSend_follows t s (.refl s)
  | selfDiagnosis t => exact execSelfDiagnosis_follows t s (.refl s)
  | lockstepMismatch t => exact execLockstepMismatch_follows t s (.refl s)
  | ownReadback t land => exact execOwnReadback_follows t land s (.refl s)
  | peerOwnFall t => exact execPeerOwnFall_follows t s (.refl s)
  | peerOwnRise t => exact execPeerOwnRise_follows t s (.refl s)
  | takeoverWaitEnd t => exact execTakeoverWaitEnd_follows t s (.refl s)
  | takeoverT5 t => exact execTakeoverT5_follows t s (.refl s)
  | collision t => exact execCollision_follows t s (.refl s)
  | collisionTimeout t => exact execCollisionTimeout_follows t s (.refl s)
  | pairClaim => exact execPairClaim_follows s (.refl s)
  | pairCede => exact execPairCede_follows s (.refl s)
  | pairReset => exact execPairReset_follows s (.refl s)
  | pairResync => exact execPairResync_follows s (.refl s)
  | pairClearCounts => exact execPairClearCounts_follows s (.refl s)
  | autoClaim t => exact execAutoClaim_follows t s (.refl s)
  | shadowComplete t => exact execShadowComplete_follows t s (.refl s)
  | pairLinkSilence t => exact execPairLinkSilence_follows t s (.refl s)
  | selftestStage t stage ok => exact execSelftestStage_follows t stage ok s (.refl s)
  | streamChunk t d offset first data => exact execStreamChunk_follows t d offset first data s (.refl s)
  | hldValidate => exact execHldValidate_follows s (.refl s)
  | validationComplete t img => exact execValidationComplete_follows t img s (.refl s)
  | hldApply => exact execHldApply_follows s (.refl s)
  | hldCancel => exact execHldCancel_follows s (.refl s)
  | hldPersist => exact execHldPersist_follows s (.refl s)
  | hldDiscard => exact execHldDiscard_follows s (.refl s)
  | patchRevalidate t => exact execPatchRevalidate_follows t s (.refl s)
  | patchApply t => exact execPatchApply_follows t s (.refl s)
  | powerGood t inOrder => exact execPowerGood_follows t inOrder s (.refl s)
  | corePllLock t otpOk => exact execCorePllLock_follows t otpOk s (.refl s)
  | firmwareSelect t => exact execFirmwareSelect_follows t s (.refl s)
  | dramTrained t => exact execDramTrained_follows t s (.refl s)
  | streamLoad t => exact execStreamLoad_follows t s (.refl s)
  | patchChainApply t => exact execPatchChainApply_follows t s (.refl s)
  | streamCommit t => exact execStreamCommit_follows t s (.refl s)
  | restoreComplete t => exact execRestoreComplete_follows t s (.refl s)
  | outputEnable t => exact execOutputEnable_follows t s (.refl s)
  | auxPor t straps => exact execAuxPor_follows t straps s (.refl s)
  | sysReset t straps => exact execSysReset_follows t straps s (.refl s)
  | corePowerReturn t => exact execCorePowerReturn_follows t s (.refl s)
  | snfSnuff => exact execSnfSnuff_follows s (.refl s)
  | snfRelease => exact execSnfRelease_follows s (.refl s)
  | snfCoreReset => exact execSnfCoreReset_follows s (.refl s)
  | snfDormant => exact execSnfDormant_follows s (.refl s)
  | dormantEntryComplete t => exact execDormantEntryComplete_follows t s (.refl s)
  | wakeTimer t => exact execWakeTimer_follows t s (.refl s)
  | wakeWick w t => exact execWakeWick_follows w t s (.refl s)
  | safeNAssert t => exact execSafeNAssert_follows t s (.refl s)
  | pwrFailNAssert t => exact execPwrFailNAssert_follows t s (.refl s)
  | supplyFault t rail mv => exact execSupplyFault_follows t rail mv s (.refl s)
  | snufferBasketCommand t => exact execSnufferBasketCommand_follows t s (.refl s)
  | shutdownRecordCommit t => exact execShutdownRecordCommit_follows t s (.refl s)
  | watchdogRestart t => exact execWatchdogRestart_follows t s (.refl s)
  | watchdogExpiry t => exact execWatchdogExpiry_follows t s (.refl s)
  | thermalConversion k t r => exact execThermalConversion_follows k t r s (.refl s)
  | thermalRestart t => exact execThermalRestart_follows t s (.refl s)
  | imageChunk t d offset first data => exact execImageChunk_follows t d offset first data s (.refl s)
  | imgValidate => exact execImgValidate_follows s (.refl s)
  | imgLoad => exact execImgLoad_follows s (.refl s)
  | imgLoadComplete t ok => exact execImgLoadComplete_follows t ok s (.refl s)
  | imgActivate => exact execImgActivate_follows s (.refl s)
  | imgDiscard => exact execImgDiscard_follows s (.refl s)
  | trialConfirm t => exact execTrialConfirm_follows t s (.refl s)
  | raiseFloorFw => exact execRaiseFloorFw_follows s (.refl s)
  | raiseFloorStream => exact execRaiseFloorStream_follows s (.refl s)
  | keyInstall slot keyId level auth => exact execKeyInstall_follows slot keyId level auth s (.refl s)
  | keyRemove slot => exact execKeyRemove_follows slot s (.refl s)
  | enrol slot => exact execEnrol_follows slot s (.refl s)
  | revoke slot => exact execRevoke_follows slot s (.refl s)
  | attest => exact execAttest_follows s (.refl s)
  | summaryWrite t => exact execSummaryWrite_follows t s (.refl s)
  | keyframeCapture t => exact execKeyframeCapture_follows t s (.refl s)
  | waxFreeze => exact execWaxFreeze_follows s (.refl s)
  | freezeComplete t overtaken => exact execFreezeComplete_follows t overtaken s (.refl s)
  | waxExport sender => exact execWaxExport_follows sender s (.refl s)
  | exportDatagramSend t => exact execExportDatagramSend_follows t s (.refl s)
  | waxExportStop => exact execWaxExportStop_follows s (.refl s)
  | waxDataImport t d offset data => exact execWaxDataImport_follows t d offset data s (.refl s)
  | waxImportDone img => exact execWaxImportDone_follows img s (.refl s)
  | waxDiscard => exact execWaxDiscard_follows s (.refl s)
  | rltPrepare => exact execRltPrepare_follows s (.refl s)
  | rltRun => exact execRltRun_follows s (.refl s)
  | rltPause => exact execRltPause_follows s (.refl s)
  | rltStep => exact execRltStep_follows s (.refl s)
  | rltAbort => exact execRltAbort_follows s (.refl s)
  | relightFrame t => exact execRelightFrame_follows t s (.refl s)
  | duloHelp t => exact execDuloHelp_follows t s (.refl s)
  | duloId t => exact execDuloId_follows t s (.refl s)
  | duloStatus t => exact execDuloStatus_follows t s (.refl s)
  | duloRd t addr count => exact execDuloRd_follows t addr count s (.refl s)
  | duloEvr t count => exact execDuloEvr_follows t count s (.refl s)
  | duloSnuff t => exact execDuloSnuff_follows t s (.refl s)
  | duloBaud t rate => exact execDuloBaud_follows t rate s (.refl s)
  | duloLatch t serial => exact execDuloLatch_follows t serial s (.refl s)
  | duloUnlatch t => exact execDuloUnlatch_follows t s (.refl s)
  | duloWr t addr v => exact execDuloWr_follows t addr v s (.refl s)
  | duloRelease t => exact execDuloRelease_follows t s (.refl s)
  | duloReset t => exact execDuloReset_follows t s (.refl s)
  | duloWake t => exact execDuloWake_follows t s (.refl s)
  | duloLoad t kind => exact execDuloLoad_follows t kind s (.refl s)
  | duloBinaryBlock t offset data crc => exact execDuloBinaryBlock_follows t offset data crc s (.refl s)
  | duloValidate t => exact execDuloValidate_follows t s (.refl s)
  | duloActivate t => exact execDuloActivate_follows t s (.refl s)
  | duloKey t slot keyId level => exact execDuloKey_follows t slot keyId level s (.refl s)
  | duloBreak t => exact execDuloBreak_follows t s (.refl s)
  | duloLatchTimeout t => exact execDuloLatchTimeout_follows t s (.refl s)
  | hostSilenceExpiry t => exact execHostSilenceExpiry_follows t s (.refl s)
  | noticeNew t => exact execNoticeNew_follows t s (.refl s)
  | noticeHoldoffEnd t => exact execNoticeHoldoffEnd_follows t s (.refl s)
  | noticeRepeat t => exact execNoticeRepeat_follows t s (.refl s)
  | registerWrite addr v => exact execRegisterWrite_follows addr v s (.refl s)
  | memoryEccError t r corrected => exact execMemoryEccError_follows t r corrected s (.refl s)
  | loopPowerChange n t on => exact execLoopPowerChange_follows n t on s (.refl s)
  | cellStatusSilent n t => exact execCellStatusSilent_follows n t s (.refl s)
  | portLinkChange p t up => exact execPortLinkChange_follows p t up s (.refl s)
  | bridgeFrameForward t f => exact execBridgeFrameForward_follows t f s (.refl s)
  | addressAgeing t mac => exact execAddressAgeing_follows t mac s (.refl s)
  | arpIcmpRequest t kind ip => exact execArpIcmpRequest_follows t kind ip s (.refl s)
  | safeNDeassert t => exact execSafeNDeassert_follows t s (.refl s)
  | pwrFailNDeassert t => exact execPwrFailNDeassert_follows t s (.refl s)
  | pmbusPowerRead t p => exact execPmbusPowerRead_follows t p s (.refl s)
  | imgValidateComplete t fw str => exact execImgValidateComplete_follows t fw str s (.refl s)
  | persistComplete t ok => exact execPersistComplete_follows t ok s (.refl s)
  | keyframeComplete t frame ok => exact execKeyframeComplete_follows t frame ok s (.refl s)

/-- A command takes a state that keeps the invariant to one that keeps it. -/
theorem State.follows.inv {s t : State} (h : s.follows t) (hs : s.Inv) : t.Inv := by
  obtain ⟨-, hrec, -, -, -, hsafe⟩ := h
  exact ⟨(hrec hs.1).1, hsafe hs.2⟩

/-- What a step answers is what its front command answers, or the same state where none waits (R440). -/
theorem step_cons {c : Instr} {rest : List Instr} {s : State} (h : s.pending = c :: rest) :
    step s = exec c { s with pending := rest } := by simp only [step, h]

theorem step_nil {s : State} (h : s.pending = []) : step s = .next s := by simp only [step, h]

theorem step_inv {s t : State} (hs : s.Inv) (h : step s = .next t) : t.Inv := by
  cases hp : s.pending with
  | nil =>
    rw [step_nil hp] at h
    cases h
    exact hs
  | cons c rest =>
    rw [step_cons hp] at h
    exact (exec_follows c _ t h).inv hs

end Sys2Proof.Machine
end

section
/-!
What every step keeps: the recorder's bounds and SAFE_OUT_N (O3, O43), the recorder's numbering (O44, O45), the floors (O46), the pair's
epoch (O47) and the queue (O1, O2, O48); and the state after reset (O4).
-/
namespace Sys2Proof.Machine

open Sys2Proof

/-- Settles O43: at an empty queue nothing changes, else by what every command keeps. -/
theorem everyStepKeepsTheInvariant : Obligations.EveryStepKeepsTheInvariant := fun _ _ => step_inv

/-- Settles O44, from what the recorder keeps at every command. -/
theorem sequenceNumbersNeverRepeat : Obligations.SequenceNumbersNeverRepeat := by
  intro c s t hb h
  obtain ⟨-, hrec, -⟩ := exec_follows c s t h
  obtain ⟨⟨-, -, -, -, hle, -⟩, hnext, hres, -⟩ := hrec hb
  exact ⟨hnext, hres, hle⟩

/-- Settles O45, from what the recorder keeps at every command. -/
theorem clearedBelowNeverFalls : Obligations.ClearedBelowNeverFalls := by
  intro c s t hb h
  obtain ⟨-, hrec, -⟩ := exec_follows c s t h
  obtain ⟨-, -, -, hcleared⟩ := hrec hb
  exact hcleared

/-- Settles O46, from what every command keeps. -/
theorem floorsNeverFall : Obligations.FloorsNeverFall := by
  intro c s t h
  obtain ⟨-, -, hfw, hstr, -⟩ := exec_follows c s t h
  exact ⟨hfw, hstr⟩

/-- Settles O47, from what every command keeps. -/
theorem pairEpochNeverFalls : Obligations.PairEpochNeverFalls := by
  intro c s t h
  obtain ⟨-, -, -, -, hep, -⟩ := exec_follows c s t h
  exact hep

/-- Settles O48: no command touches the queue, and the step has taken its front. -/
theorem commandsLeaveTheQueue : Obligations.CommandsLeaveTheQueue := by
  have keeps (c : Instr) (s t : State) (h : exec c s = .next t) : t.pending = s.pending := (exec_follows c s t h).1
  exact ⟨keeps, fun c rest s t hp h => keeps c _ t (step_cons hp ▸ h)⟩

/-- Settles O1. -/
theorem stepTakesTheFrontCommand : Obligations.StepTakesTheFrontCommand := fun _ _ _ => step_cons

/-- Settles O2. -/
theorem emptyQueueIdles : Obligations.EmptyQueueIdles := fun _ => step_nil

/-- Settles O3: the new device's recorder is empty, and SAFE_OUT_N is asserted while outputs were never enabled (R403). -/
theorem resetMeetsTheInvariant : Obligations.ResetMeetsTheInvariant := by
  refine ⟨⟨Nat.zero_le _, Nat.zero_le _, Nat.zero_le _, Nat.two_pow_pos 16, Nat.le_refl 1, ?_⟩, rfl⟩
  intro q hq
  exact absurd hq List.not_mem_nil

/-- Settles O4: each field of the state after reset is the one of its record's reset. -/
theorem resetLeavesTheSpecValues : Obligations.ResetLeavesTheSpecValues :=
  ⟨⟨rfl, rfl, rfl, rfl, rfl, rfl⟩, ⟨rfl, rfl, rfl, rfl, rfl⟩, ⟨fun _ => rfl, fun _ => rfl, fun _ => rfl⟩⟩

end Sys2Proof.Machine
end

section
/-!
The rest of the proofs. They are elaborated one after another, as in `Laws/Frames`: elaborated side by side they need more memory than
one compile of the whole text has.
-/
set_option Elab.async false

section
/-!
SUPPORT. The trim buttons (R278, R279), the trimmed current (R272, R273) and the faces of a transmitter port (R498).
-/
namespace Sys2Proof.Machine

open Sys2Proof

/-! ## A session's start (R278) -/

/-- The state in which a trim session on port n has begun at t (R278). -/
def sessionBegun (s : State) (n : Nat) (span : Bool) (t : Nat) : State :=
  { txForce s n span true with tx := { (txForce s n span true).tx with
      sess := some { span := span, port := n, steps := 0, lastPress := t } } }

section
variable {b : Bool} {t : Ns} {s : State} {n : Nat} (hn : selAt s.tx.selLog s.tx.sel (t - 3 * secNs) = n) (hs : s.tx.sess = none)
include hn hs

theorem exec_trimSessionStart_begins (hl : (txOf s n).lockMram ≠ some true) (he : regB s .txCfg n 0 = true)
    (hd : (txOf s n).st = .drive) : exec (.trimSessionStart b t) s = .next (sessionBegun (setNow s t) n b t) := by
  change execTrimSessionStart b t s = _
  simp [execTrimSessionStart, sessionBegun, hn, hs, hl, he, hd]

theorem exec_trimSessionStart_refused (h : (txOf s n).lockMram = some true ∨ regB s .txCfg n 0 = false ∨ (txOf s n).st ≠ .drive) :
    exec (.trimSessionStart b t) s = .next (logEv (stick (setNow s t) .txStatus n 9) (srcTx n) .txButtonRefused n) := by
  change execTrimSessionStart b t s = _
  simp [execTrimSessionStart, hn, hs, h]

end

/-- The start of a session forces the port's level and leaves the other ports, the registers and the recorder (R275, R278). -/
theorem sessionBegun_only (s : State) (n : Nat) (b : Bool) (t : Nat) : OnlyAt txOf n s (sessionBegun s n b t) ∧
    txOf (sessionBegun s n b t) n = { txOf s n with st := .forced, forceSpan := b, forceSess := true, forceAt := s.now, misSince := none } :=
  ⟨fun j hj => (setTx_ne s _ hj : txOf (txForce s n b true) j = txOf s j), (setTx_same s n _ : txOf (txForce s n b true) n = _)⟩

/-! ## The running session (R278) -/

section
variable {t : Ns} {x : TrimSession} {s : State} (hs : s.tx.sess = some x)
include hs

/-- A short press moves the trim by one step where the result stays within 4 percent, 400 steps of 0.5 µA (R278). -/
theorem exec_trimShortPress (up : Bool) : exec (.trimShortPress up t) s = .next { setNow s t with tx := { s.tx with sess := some { x with
    steps := if -400 ≤ (if x.span then regNI s .txTrimSpan x.port 0 16 else regNI s .txTrimZero x.port 0 16) +
        4 * (if up then x.steps + 1 else x.steps - 1) ∧
      (if x.span then regNI s .txTrimSpan x.port 0 16 else regNI s .txTrimZero x.port 0 16) +
        4 * (if up then x.steps + 1 else x.steps - 1) ≤ 400 then (if up then x.steps + 1 else x.steps - 1) else x.steps,
    lastPress := t } } } := by
  change execTrimShortPress up t s = _
  simp only [execTrimShortPress, setNow_tx, hs, Bool.and_eq_true, decide_eq_true_eq]
  rfl

/-- The state in which the port's session has ended with its trim stored, logged and counted, over the state s1 with the register as it
stands then (R278). -/
def trimKept (s1 : State) (n : Nat) (what : Nat) : State :=
  logEv (setTx (txEndForce s1 n .drive) n { txOf (txEndForce s1 n .drive) n with trims := satInc 16 (txOf (txEndForce s1 n .drive) n).trims })
    (srcTx n) .txTrimStored what

/-- The register of a session's trim (R273). -/
def trimReg (span : Bool) : RegName := if span then .txTrimSpan else .txTrimZero

/-- A store writes the sum of the trim and the steps as a block does, so that a host's write of the frame stands (R10, R278). -/
theorem exec_trimStore : exec (.trimStore t) s = .next (trimKept
    (blockReg (setNow s t) (trimReg x.span) x.port (put 0 16 (wrapN 16 (regNI s (trimReg x.span) x.port 0 16 + 4 * x.steps)))) x.port
    (wrapN 16 (regNI s (trimReg x.span) x.port 0 16) * 65536 + wrapN 16 (regNI s (trimReg x.span) x.port 0 16 + 4 * x.steps))) := by
  change execTrimStore t s = _
  simp only [execTrimStore, setNow_tx, hs]
  rfl

theorem exec_trimSessionTimeout (ht : x.lastPress + 60 * secNs ≤ t) :
    exec (.trimSessionTimeout t) s = .next (logEv (txEndForce (setNow s t) x.port .drive) (srcTx x.port) .txForced x.port) := by
  change execTrimSessionTimeout t s = _
  simp only [execTrimSessionTimeout, setNow_tx, hs, if_pos ht]

end

/-- A block's value goes in where the host has not written the register in the frame (R10). -/
theorem blockReg_free {s : State} {r : RegName} {i : Nat} {v : W32} (h : s.glb.wrote.contains (regAddr r i) = false) :
    blockReg s r i v = putReg s r i v := if_neg (Bool.not_eq_true _ ▸ h)

/-- A block's value is discarded where the host has written the register in the frame (R10). -/
theorem blockReg_written {s : State} {r : RegName} {i : Nat} {v : W32} (h : s.glb.wrote.contains (regAddr r i) = true) :
    blockReg s r i v = s := if_pos h

/-! ## TRIM_SEL (R278) -/

/-- The state in which TRIM_SEL names port i from t on (R278). -/
def selMoved (s : State) (i t : Nat) : State :=
  { s with tx := { s.tx with sel := i, selLog := (t, s.tx.sel) :: s.tx.selLog.filter (fun p => decide (t < p.1 + 3 * secNs)) } }

section
variable {i : Fin 16} {t : Ns} {s : State} (hi : s.tx.sel ≠ i)
include hi

theorem exec_trimSelChange_idle (hs : s.tx.sess = none) : exec (.trimSelChange i t) s = .next (selMoved (setNow s t) i t) := by
  change execTrimSelChange i t s = _
  rw [execTrimSelChange]
  refine (if_neg hi).trans ?_
  split
  · rfl
  · next hx => simp [hs] at hx

/-- Another selection ends a session without storing (R278). -/
theorem exec_trimSelChange_session {x : TrimSession} (hs : s.tx.sess = some x) : exec (.trimSelChange i t) s =
    .next (selMoved (logEv (txEndForce (setNow s t) x.port .drive) (srcTx x.port) .txForced x.port) i t) := by
  change execTrimSelChange i t s = _
  simp only [execTrimSelChange, setNow_tx, hs, if_neg hi]
  rfl

end

/-! ## The trimmed current (R272, R273) -/

/-- A value held between two bounds in order lies between them. -/
theorem clampI_mem {lo hi : Int} (h : lo ≤ hi) (x : Int) : lo ≤ clampI lo hi x ∧ clampI lo hi x ≤ hi := by
  unfold clampI
  omega

/-- A value between the bounds stands. -/
theorem clampI_self {lo hi x : Int} (h : lo ≤ x) (h' : x ≤ hi) : clampI lo hi x = x := by
  unfold clampI
  omega

/-- R273's line through the trimmed end points, before the last clamping. -/
def txLine (s : State) (n : Nat) : Int :=
  (tx4 + txTrim s false n) * tx16 + ((txClamped s n : Int) - tx4) * (tx16 + txTrim s true n - txTrim s false n)

theorem txTarget_eq (s : State) (n : Nat) : txTarget s n = (clampI (7600 * tx16) (41000 * tx16) (txLine s n)).toNat := rfl

/-- 3.8 mA and 20.5 mA bound the target, whatever the trims are (R273). -/
theorem txTarget_mem (s : State) (n : Nat) : 7600 * tx16 ≤ txTarget s n ∧ txTarget s n ≤ 41000 * tx16 := by
  obtain ⟨hlo, hhi⟩ := clampI_mem (lo := 7600 * tx16) (hi := 41000 * tx16) (by simp [tx16]) (txLine s n)
  rw [txTarget_eq]
  omega

/-- Where the line lies between 3.8 mA and 20.5 mA the target is the line (R273). -/
theorem txTarget_line {s : State} {n : Nat} {x : Int} (hx : txLine s n = x * 32000) (hlo : 7600 ≤ x) (hhi : x ≤ 41000) :
    (txTarget s n : Int) = x * 32000 := by
  have h16 : ((tx16 : Nat) : Int) = 32000 := rfl
  rw [txTarget_eq, clampI_self (by omega) (by omega), hx]
  omega

/-- At a commanded 4 mA the line is 4 mA + z (R273). -/
theorem txLine_low {s : State} {n : Nat} (h : txClamped s n = 8000) : txLine s n = (8000 + txTrim s false n) * 32000 := by
  rw [txLine, h]
  change (8000 + txTrim s false n) * 32000 + (((8000 : Nat) : Int) - (8000 : Nat)) * _ = _
  rw [Int.sub_self, Int.zero_mul, Int.add_zero]

/-- At a commanded 20 mA the line is 20 mA + s (R273). -/
theorem txLine_high {s : State} {n : Nat} (h : txClamped s n = 40000) : txLine s n = (40000 + txTrim s true n) * 32000 := by
  rw [txLine, h]
  change (8000 + txTrim s false n) * 32000 + 32000 * (32000 + txTrim s true n - txTrim s false n) = _
  omega

/-- Without trims the line is the clamped command (R273). -/
theorem txLine_untrimmed {s : State} {n : Nat} (hz : txTrim s false n = 0) (hs : txTrim s true n = 0) :
    txLine s n = txClamped s n * 32000 := by
  rw [txLine, hz, hs]
  change (8000 + 0) * 32000 + ((txClamped s n : Int) - 8000) * (32000 + 0 - 0) = _
  omega

/-! ## Faces (R498) -/

set_option maxRecDepth 8000 in
theorem decodeAddr_txClamp : ∀ n : Fin 16, decodeAddr (regAddr .txClamp n) = some (.txClamp, n.val) := by
  decide

theorem regAddr_txClamp (n : Fin 16) : regAddr .txClamp n % 4 = 0 ∧ regAddr .txClamp n % 2 ^ 32 = regAddr .txClamp n := by
  have h : regAddr .txClamp n = 0x38000c + (n.val / 1 * 0x40 + 0) := rfl
  omega

/-- A port in basic face refuses TX_CLAMP, an expert register (R11, R498). -/
theorem refusal_txClamp {s : State} {n : Nat} {v : W32} (hf : regB s .txCfg n 4 = false) (hr : s.rlt.ctx = none)
    (hm : removedWord s .txClamp n = false) : refusal s [(.txClamp, n, v)] = .face := by
  have hb : busyReg s .txClamp (regAddr .txClamp n) v = false := by
    change (s.rlt.ctx.isSome && _ || false) = false
    simp [hr]
  have hh : supHidden s .txClamp n = false := rfl
  have he : (regDesc .txClamp).expert = true := rfl
  have hx : basicFace s .txClamp n = true := by
    change (!regB s .txCfg n 4) = true
    simp [hf]
  simp [refusal, hm, hb, hh, he, hx]

/-- A register without a face has none in any state (R11). -/
theorem noFace {s : State} {r : RegName} {i : Nat} (v : W32) (h : basicFace s r i = false) :
    basicFace s r i = false ∧ faceHit s r i v = false := ⟨h, by simp [faceHit, h]⟩

end Sys2Proof.Machine
end

section
/-!
The trim buttons complete with their effects (O23), the target current of a port (O58) and its faces (O50).
-/
namespace Sys2Proof.Machine

open Sys2Proof

/-- Settles O23, clause by clause from the equations above; a store's four forms are its register and whether the host has written it. -/
theorem trimCommandsComplete : Obligations.TrimCommandsComplete := by
  refine ⟨?begins, ?refused, ?up, ?down, ?storeSpan, ?storeZero, ?spanWritten, ?zeroWritten, ?timeout, ?selIdle, ?selSession⟩
  case begins =>
    intro b t s hs hl he hd
    obtain ⟨ho, hx⟩ := sessionBegun_only (setNow s t) (selAt s.tx.selLog s.tx.sel (t - 3 * secNs)) b t
    exact ⟨_, exec_trimSessionStart_begins rfl hs hl he hd, rfl, rfl, ho, hx, rfl, rfl, rfl⟩
  case refused =>
    exact fun b t s hs h => .intro (exec_trimSessionStart_refused rfl hs h) ((((Within.refl s).then_setNow t (by simp)).then_stick _ _ _
      (by simp)).then_logEv _ _ _ (by simp) (by simp)) (logEv_now ..)
  case up => exact fun t x s hs => exec_trimShortPress hs true
  case down => exact fun t x s hs => exec_trimShortPress hs false
  case storeSpan => intro t x s hs hx hw; rw [exec_trimStore hs, hx]; exact congrArg _ (congrArg (trimKept · _ _) (blockReg_free hw))
  case storeZero => intro t x s hs hx hw; rw [exec_trimStore hs, hx]; exact congrArg _ (congrArg (trimKept · _ _) (blockReg_free hw))
  case spanWritten => intro t x s hs hx hw; rw [exec_trimStore hs, hx]; exact congrArg _ (congrArg (trimKept · _ _) (blockReg_written hw))
  case zeroWritten => intro t x s hs hx hw; rw [exec_trimStore hs, hx]; exact congrArg _ (congrArg (trimKept · _ _) (blockReg_written hw))
  case timeout => exact fun t x s hs ht => exec_trimSessionTimeout hs ht
  case selIdle =>
    exact fun i t s hi hs => .intro (exec_trimSelChange_idle hi hs) (((Within.refl s).then_setNow t (by simp)).then_tx _ (by simp)) ⟨rfl, rfl⟩
  case selSession => exact fun i t x s hi hs => exec_trimSelChange_session hi hs

/-- Settles O58: the bounds by the last clamping, the end points by the line through them. -/
theorem trimmedCurrent : Obligations.TrimmedCurrent := by
  refine ⟨fun n s => txTarget_mem s n, fun n s h hlo hhi => txTarget_line (txLine_low h) hlo hhi,
    fun n s h hlo hhi => txTarget_line (txLine_high h) hlo hhi, fun n s hlo hhi hz hs => ?_⟩
  have h := txTarget_line (txLine_untrimmed hz hs) (by omega) (by omega)
  omega

/-- Settles O50: the clamps of basic face, the refusal of an expert register, and the table's face of each other register. -/
theorem transmitterFaces : Obligations.TransmitterFaces := by
  refine ⟨fun n s h => ?clamps, fun n v s hf hr hm => ?refused, fun n r v s hr => ?others⟩
  case clamps => simp [txClampLo, txClampHi, h]
  case refused =>
    obtain ⟨hal, hmod⟩ := regAddr_txClamp n
    change Host.Outcome.next (writeAddr s hostReq (regAddr .txClamp n % 2 ^ 32) v).1 = _
    rw [hmod, writeAddr_single hal (decodeAddr_txClamp n) rfl rfl, writeWords_refused (refusal_txClamp hf hr hm) nofun]
  case others =>
    refine noFace v ?_
    simp only [List.mem_cons, List.not_mem_nil, or_false] at hr
    rcases hr with rfl | rfl | rfl | rfl | rfl <;> rfl

end Sys2Proof.Machine
end

section
/-!
SUPPORT. Solenoid ports (R281 to R289, R292): one port's record, the rows of SOL_CMD, the commands as the port takes them, its faults and
the instants of an activation.
-/
namespace Sys2Proof.Machine

open Sys2Proof

/-! ## One port -/

/-- A state whose solenoids are those of `setSol s v x` differs in port v alone, and there shows x. -/
theorem onlySol_of_sol {s u : State} {v : Nat} {x : SolPort} (h : u.sol = (setSol s v x).sol) : OnlyAt solOf v s u ∧ solOf u v = x := by
  have hk : ∀ k, solOf u k = solOf (setSol s v x) k := fun k => by rw [solOf, solOf, h]
  exact ⟨fun j hj => (hk j).trans (setSol_ne s x hj), (hk v).trans (setSol_same s v x)⟩

theorem Within.then_setSol {ps : List Part} {rs : List (RegName × Nat)} {s t : State} (k : Within ps rs s t) (v : Nat) (x : SolPort)
    (h : Part.sol ∈ ps) : Within ps rs s (setSol t v x) := k.then_sol _ h

theorem changes_setSol {s t : State} {v : Nat} {x : SolPort} (h : t = setSol s v x) :
    Changes s t [.sol] [] (fun u => OnlyAt solOf v s u ∧ solOf u v = x) :=
  h ▸ .intro ((Within.refl s).then_setSol v x (by simp)) (onlySol_of_sol rfl)

/-- A happening at t that changes port v alone. -/
theorem effect_setNow_setSol {c : Instr} {s : State} {v t : Nat} {x : SolPort} (h : exec c s = .next (setSol (setNow s t) v x)) :
    Effect c s [.time, .sol] [] (fun u => u.now = max s.now t ∧ OnlyAt solOf v s u ∧ solOf u v = x) :=
  .intro h (((Within.refl s).then_setNow t (by simp)).then_setSol v x (by simp)) ⟨rfl, onlySol_of_sol rfl⟩

/-! ## SOL_CMD (R25, R289) -/

section
variable {c : Instr} {s : State} {v : Nat} {w : W32} {op : Nat × Nat} (hc : exec c s = .next (rowCmd s .solCmd v w (fun s => solOp s v op)))
  (h : s.rlt.ctx = none)
include hc h

/-- A row of SOL_CMD changes the port's record as `solOp` says. -/
theorem solRow_effect {x : SolPort} (hx : (if (instFor s .solenoidCtrl v).isSome then { solOf s v with inbox := (solOf s v).inbox ++ [op] }
      else { solOf s v with nextCmd := (solOf s v).nextCmd ++ [op] }) = x) :
    Effect c s [.sol, .wax] [] (fun u =>
      u.wax = (addItem s (.write (regAddr .solCmd v) w)).wax ∧ OnlyAt solOf v s u ∧ solOf u v = x) := by
  subst hx
  rw [rowCmd_free h] at hc
  exact .intro hc (((Within.refl s).then_addItem _ (by simp)).then_setSol _ _ (by simp)) ⟨rfl, onlySol_of_sol rfl⟩

/-- A port with a SOLENOID_CTRL keeps the command for that block's run (R289). -/
theorem solRow_inbox (hi : (instFor s .solenoidCtrl v).isSome = true) : Effect c s [.sol, .wax] [] (fun u =>
    u.wax = (addItem s (.write (regAddr .solCmd v) w)).wax ∧ OnlyAt solOf v s u ∧
      solOf u v = { solOf s v with inbox := (solOf s v).inbox ++ [op] }) := solRow_effect hc h (if_pos hi)

/-- Another port keeps the command for the next t1 (R25). -/
theorem solRow_nextCmd (hi : (instFor s .solenoidCtrl v).isSome = false) : Effect c s [.sol, .wax] [] (fun u =>
    u.wax = (addItem s (.write (regAddr .solCmd v) w)).wax ∧ OnlyAt solOf v s u ∧
      solOf u v = { solOf s v with nextCmd := (solOf s v).nextCmd ++ [op] }) := solRow_effect hc h (if_neg (by simp [hi]))

end

/-- In a relight the rows of SOL_CMD answer ACCESS_BUSY (R454). -/
theorem exec_solCmd_busy (v : Fin 32) (h : Nat) {s : State} (hr : s.rlt.ctx.isSome = true) :
    exec (.solStart v h) s = .next (report s hostReq (regAddr .solCmd v) .busy) ∧
    exec (.solEnd v) s = .next (report s hostReq (regAddr .solCmd v) .busy) ∧
    exec (.solReset v) s = .next (report s hostReq (regAddr .solCmd v) .busy) ∧
    exec (.solClearCounts v) s = .next (report s hostReq (regAddr .solCmd v) .busy) :=
  ⟨congrArg _ (rowCmd_busy hr ..), congrArg _ (rowCmd_busy hr ..), congrArg _ (rowCmd_busy hr ..), congrArg _ (rowCmd_busy hr ..)⟩

/-! ## Starts (R284, R285) -/

/-- EVR_STATUS is none of the ports' status words. -/
theorem evrStatus_ne_solStatus (v : Fin 32) : regAddr .evrStatus 0 ≠ regAddr .solStatus v := by
  have he : regAddr .evrStatus 0 = 0x1300028 + 0 := rfl
  have hs : regAddr .solStatus v = 0x30001c + (v.val / 1 * 0x40 + 0) := rfl
  omega

section
variable {s : State} {v h t : Nat}

theorem solTakeStart_undriven (hd : driving s = false) : solTakeStart s v h t = (s, true) := if_pos (by simp [hd])

section
variable (hd : driving s = true)
include hd

theorem solTakeStart_off (hst : (solOf s v).st = .off) (ha : solAdmits s v t (solNeed s v h) = true) :
    solTakeStart s v h t = (solBegin s v h t, false) := by
  simp [solTakeStart, hd, hst, ha]

theorem solTakeStart_overBudget (hst : (solOf s v).st = .off) (ha : solAdmits s v t (solNeed s v h) = false) :
    solTakeStart s v h t = (solDutyRefuse s v, true) := by
  simp [solTakeStart, hd, hst, ha]

theorem solTakeStart_fault (hst : (solOf s v).st = .fault) : solTakeStart s v h t = (solRefuse s v, true) := by
  simp [solTakeStart, hd, hst]

theorem solTakeStart_decay (hst : (solOf s v).st = .decay) (hq : (solOf s v).queued = none) :
    solTakeStart s v h t = (setSol s v { solOf s v with queued := some h }, false) := by
  simp [solTakeStart, hd, hst, hq]

/-- A running activation is extended to the later of its end and the request's (R284). -/
theorem solTakeStart_running (hst : (solOf s v).st = .peak ∨ (solOf s v).st = .hold) (hh : h ≠ 0)
    (he : SolEnd.max (solOf s v).e (.at_ (t + (solOf s v).tPeak + h * usNs)) = (solOf s v).e) :
    solTakeStart s v h t = (setSol s v { solOf s v with e := (solOf s v).e }, false) := by
  rcases hst with hst | hst <;> simp [solTakeStart, hd, hst, hh, he]

end

end

/-- The port's record at the beginning of an activation with the end e (R283, R284, R292). -/
def solBegun (s : State) (v t : Nat) (st : SolSt) (e : SolEnd) : SolPort :=
  { ({ solOf s v with decayMax := (solSettings s v).1, pwmNs := (solSettings s v).2.1, dith := (solSettings s v).2.2 } : SolPort).newPeriod t with
    st := st, e := e, ts := t, tPeak := regF s .solPeak v 12 14 * 100 * usNs, iPeak := regF s .solPeak v 0 12, onSince := some t,
    gate := true, fd := true, queued := none, activations := satInc 16 (solOf s v).activations }

theorem solBegin_eq (s : State) (v h t : Nat) : solBegin s v h t = setSol s v (solBegun s v t
    (if regF s .solPeak v 12 14 * 100 * usNs = 0 then .hold else .peak)
    (if h = 0 then .open_ else .at_ (t + regF s .solPeak v 12 14 * 100 * usNs + h * usNs))) := rfl

section
variable {s : State} {v h t : Nat} (hd : driving s = true) (hst : (solOf s v).st = .off) (ha : solAdmits s v t (solNeed s v h) = true)
include hd hst ha

/-- A start in OFF within the budget begins an activation: in hold where the peak time is 0, else in peak, open without a hold time (R284). -/
theorem solTakeStart_begins {st : SolSt} {e : SolEnd} (hst' : (if regF s .solPeak v 12 14 * 100 * usNs = 0 then SolSt.hold else .peak) = st)
    (he : (if h = 0 then SolEnd.open_ else .at_ (t + regF s .solPeak v 12 14 * 100 * usNs + h * usNs)) = e) :
    Changes s (solTakeStart s v h t).1 [.sol] [] (fun u => OnlyAt solOf v s u ∧ solOf u v = solBegun s v t st e) := by
  subst hst' he
  exact changes_setSol (by rw [solTakeStart_off hd hst ha, solBegin_eq])

end

/-! ## Ends, resets and counts (R284, R286 to R288, R292) -/

section
variable {s : State} {v t : Nat}

theorem solTakeEnd_hold (hst : (solOf s v).st = .hold) : solTakeEnd s v t =
    setSol s v { ({ solOf s v with e := .at_ t } : SolPort).toDecay (solFast s v) t with queued := none } := by
  simp [solTakeEnd, hst]

theorem solTakeEnd_peak (hst : (solOf s v).st = .peak) :
    solTakeEnd s v t = setSol s v { solOf s v with e := .at_ ((solOf s v).ts + (solOf s v).tPeak) } := by
  simp [solTakeEnd, hst]

theorem solTakeEnd_decay (hst : (solOf s v).st = .decay) : solTakeEnd s v t = setSol s v { solOf s v with queued := none } := by
  simp [solTakeEnd, hst]

theorem solTakeReset_refused (hst : (solOf s v).st ≠ .fault) (hd : (solOf s v).st ≠ .disabled) : solTakeReset s v t = solRefuse s v := by
  cases h : (solOf s v).st <;> simp_all [solTakeReset]

section
variable (hst : (solOf s v).st = .fault)
include hst

theorem solTakeReset_cleared (hf : (solOf s v).freshFault t = false) (hr : solResetOk s (solOf s v).fault = true) : solTakeReset s v t =
    setSol (useFree s) v { solOf s v with st := .off, fault := .none, gate := false, fd := false } := by
  simp [solTakeReset, hst, hf, hr]

/-- A reset clears a fault of an earlier clock cycle whose condition lies in the model (R286, R288). -/
theorem solTakeReset_clears {f : SolFault} (hk : (solOf s v).fault = f) (hf : (solOf s v).freshFault t = false)
    (hr : ∀ u, solResetOk u f = true) : Changes s (solTakeReset s v t) [.sol, .free] [] (fun u =>
      OnlyAt solOf v s u ∧ solOf u v = { solOf s v with st := .off, fault := .none, gate := false, fd := false }) := by
  rw [solTakeReset_cleared hst hf (hk ▸ hr s)]
  exact .intro (((Within.refl s).then_useFree (by simp)).then_setSol _ _ (by simp)) (onlySol_of_sol rfl)

theorem solTakeReset_fresh (hf : (solOf s v).freshFault t = true) : solTakeReset s v t = solRefuse (useFree s) v := by
  simp [solTakeReset, hst, hf]

end

theorem solRefuse_changes {u : State} {ps : List Part} (w : Within ps [(.solStatus, v)] s u) :
    Changes s (solRefuse u v) ps [(.solStatus, v)] (fun u => regB u .solStatus v 11 = true) :=
  .intro (w.then_stick _ _ _ (by simp)) (regB_stick_same _ _ _ (by simp))

end

/-! ## Faults (R286) -/

/-- The port's record with a fault latched at t: the gate low, the freewheel switch by the decay mode, the queue discarded (R286). -/
def solFaulted (s : State) (v t : Nat) (f : SolFault) : SolPort :=
  { ((solOf s v).regulate t).closeOn t with st := .fault, fault := f, faultAt := some t, gate := false, fd := !solFast s v, queued := none,
                                            faults := satInc 16 (solOf s v).faults }

section
variable {c : Instr} {s : State} {v t : Nat} {f : SolFault} (hd : (solOf s v).st ≠ .disabled) (hf : (solOf s v).st ≠ .fault)
include hd hf

theorem solLatch_first : solLatch s v t f = logEv (setSol s v (solFaulted s v t f)) (srcSol v) .solFault (v * 16 + f.code) := by
  unfold solLatch
  cases hst : (solOf s v).st with
  | disabled => exact absurd hst hd
  | fault => exact absurd hst hf
  | _ => simp only [solFaulted]

/-- A protection that trips on a port without a latched fault latches it and records it (R286). -/
theorem effect_solLatch (h : exec c s = .next (solLatch (setNow s t) v t f)) :
    Effect c s [.time, .sol, .recorder] [(.evrStatus, 0)] (fun u =>
      u.now = max s.now t ∧ OnlyAt solOf v s u ∧ solOf u v = solFaulted s v t f) := by
  rw [solLatch_first (s := setNow s t) hd hf] at h
  exact .intro h ((((Within.refl s).then_setNow t (by simp)).then_setSol _ _ (by simp)).then_logEv _ _ _ (by simp) (by simp))
    ⟨logEv_now .., onlySol_of_sol (logEv_sol ..)⟩

end

section
variable {v : Fin 32} {t : Ns} {s : State}

theorem exec_holdLow (hst : (solOf s v).st = .hold) (ht : (solOf s v).ts + (solOf s v).tPeak + 10 * msNs ≤ t) :
    exec (.holdLow v t) s = .next (solLatch (setNow s t) v t .holdLow) := congrArg _ (if_pos ⟨hst, ht⟩)

theorem exec_decayTimeout (hst : (solOf s v).st = .decay) (ht : (solOf s v).decayAt + (solOf s v).decayMax ≤ t) :
    exec (.decayTimeout v t) s = .next (solLatch (setNow s t) v t .decayTimeout) := congrArg _ (if_pos ⟨hst, ht⟩)

/-- The duty budget cuts a running activation whose end is not reached (R285, R288). -/
theorem exec_dutyCut {l : Nat} (hst : (solOf s v).st = .peak ∨ (solOf s v).st = .hold) (he : (solOf s v).e.reached t = false)
    (hb : solBudget s v = some l) (hl : l ≤ solUsed s v t) : exec (.dutyCut v t) s = .next (solLatch (setNow s t) v t .dutyCut) := by
  change execDutyCut v t s = _
  have hb' : solBudget (setNow s t) v = some l := hb
  have hl' : l ≤ solUsed (setNow s t) v t := hl
  simp [execDutyCut, hst, he, hb', hl']

/-! ## The instants of an activation (R283, R286) -/

section
variable {cur : F32} (hst : (solOf s v).st = .peak) (ht : (solOf s v).ts + (solOf s v).tPeak ≤ t + usNs)
include hst ht

/-- Below 10 % of the peak current at the peak's end the coil is open (R286). -/
theorem exec_peakEnd_openCoil (hc : fLt cur (fDiv (fOfNat (solOf s v).iPeak) (fOfNat 1000)) = true) :
    exec (.peakEnd v t cur) s = .next (solLatch (setNow s t) v t .openCoil) := by
  change execPeakEnd v t cur s = _
  simp [execPeakEnd, hst, ht, hc]

section
variable (hc : fLt cur (fDiv (fOfNat (solOf s v).iPeak) (fOfNat 1000)) = false)
  (hw : fLe cur (fMul (fOfNat 9) (fDiv (fOfNat (solOf s v).iPeak) (fOfNat 1000))) = false)
include hc hw

theorem exec_peakEnd_hold (he : (solOf s v).e.reached t = false) :
    exec (.peakEnd v t cur) s = .next (setSol (setNow s t) v { (solOf s v).regulate t with st := .hold }) := by
  change execPeakEnd v t cur s = _
  simp [execPeakEnd, hst, ht, hc, hw, he]

theorem exec_peakEnd_decay (he : (solOf s v).e.reached t = true) :
    exec (.peakEnd v t cur) s = .next (setSol (setNow s t) v ((solOf s v).toDecay (solFast s v) t)) := by
  change execPeakEnd v t cur s = _
  simp [execPeakEnd, hst, ht, hc, hw, he, solFast]

end

end

theorem exec_holdEnd (hst : (solOf s v).st = .hold) (he : (solOf s v).e.reached t = true) :
    exec (.holdEnd v t) s = .next (setSol (setNow s t) v ((solOf s v).toDecay (solFast s v) t)) := congrArg _ (if_pos ⟨hst, he⟩)

theorem exec_decayEnd_fault (hst : (solOf s v).st = .fault) :
    exec (.decayEnd v t) s = .next (setSol (setNow s t) v { solOf s v with fd := false }) := if_pos hst

section
variable (hst : (solOf s v).st = .decay)
include hst

theorem exec_decayEnd_off (hq : (solOf s v).queued = none) :
    exec (.decayEnd v t) s = .next (setSol (setNow s t) v { solOf s v with st := .off, fd := false }) := by
  change execDecayEnd v t s = _
  simp [execDecayEnd, hst, hq]

/-- A queued activation within the budget begins when the decay ends (R283, R285). -/
theorem exec_decayEnd_queued {h : Nat} (hq : (solOf s v).queued = some h) (ha : solAdmits s v t (solNeed s v h) = true) :
    exec (.decayEnd v t) s = .next (solBegin (setNow s t) v h t) := by
  change execDecayEnd v t s = _
  have ha' : solAdmits (setNow s t) v t (solNeed (setNow s t) v h) = true := ha
  simp [execDecayEnd, hst, hq, ha']

end

end

end Sys2Proof.Machine
end

section
/-!
Solenoid ports complete with their effects (O24).
-/
namespace Sys2Proof.Machine

open Sys2Proof

/-- Settles O24, clause by clause from the equations and effects above. -/
theorem solenoidCommandsComplete : Obligations.SolenoidCommandsComplete := by
  refine ⟨?startBlock, ?start, ?endBlock, ?end_, ?resetBlock, ?reset, ?clearBlock, ?clear, ?busy, ?openHold, ?openPeak, ?timedHold,
    ?timedPeak, ?overBudget, ?faultRefuses, ?decayQueues, ?extendsPeak, ?extendsHold, ?undriven, ?endHold, ?endPeak, ?endDecay, ?resetOpenCoil,
    ?resetHoldLow, ?resetOvercurrent, ?resetDutyCut, ?resetFresh, ?resetRefused, ?clears, ?overcurrent, ?senseFault, ?holdLow, ?decayTimeout,
    ?cutPeak, ?cutHold, ?openCoil, ?peakHold, ?peakDecay, ?holdEnd, ?decayOff, ?decayFault, ?decayQueued⟩
  case startBlock => exact fun v h s hr hi => solRow_inbox rfl hr hi
  case start => exact fun v h s hr hi => solRow_nextCmd rfl hr hi
  case endBlock => exact fun v s hr hi => solRow_inbox rfl hr hi
  case end_ => exact fun v s hr hi => solRow_nextCmd rfl hr hi
  case resetBlock => exact fun v s hr hi => solRow_inbox rfl hr hi
  case reset => exact fun v s hr hi => solRow_nextCmd rfl hr hi
  case clearBlock => exact fun v s hr hi => solRow_inbox rfl hr hi
  case clear => exact fun v s hr hi => solRow_nextCmd rfl hr hi
  case busy => exact fun v h s hr => exec_solCmd_busy v h hr
  case openHold => exact fun v t s hd hst ha hp => solTakeStart_begins hd hst ha (if_pos hp) (if_pos rfl)
  case openPeak => exact fun v t s hd hst ha hp => solTakeStart_begins hd hst ha (if_neg hp) (if_pos rfl)
  case timedHold => exact fun v h t s hd hst ha hh hp => solTakeStart_begins hd hst ha (if_pos hp) (if_neg hh)
  case timedPeak => exact fun v h t s hd hst ha hh hp => solTakeStart_begins hd hst ha (if_neg hp) (if_neg hh)
  case overBudget =>
    intro v h t s hd hst ha
    rw [solTakeStart_overBudget hd hst ha]
    exact .intro (((Within.refl s).then_stick _ _ _ (by simp)).then_logEv _ _ _ (by simp) (by simp))
      ((regB_logEv_ne _ _ _ _ _ (evrStatus_ne_solStatus v)).trans (regB_stick_same _ _ _ (by simp)))
  case faultRefuses => exact fun v h t s hd hst => by rw [solTakeStart_fault hd hst]; exact solRefuse_changes (.refl s)
  case decayQueues => exact fun v h t s hd hst hq => changes_setSol (by rw [solTakeStart_decay hd hst hq])
  case extendsPeak => exact fun v h t s hd hst hh he => changes_setSol (by rw [solTakeStart_running hd (.inl hst) hh he])
  case extendsHold => exact fun v h t s hd hst hh he => changes_setSol (by rw [solTakeStart_running hd (.inr hst) hh he])
  case undriven => exact fun v h t s hd => solTakeStart_undriven hd
  case endHold => exact fun v t s hst => changes_setSol (solTakeEnd_hold hst)
  case endPeak => exact fun v t s hst => changes_setSol (solTakeEnd_peak hst)
  case endDecay => exact fun v t s hst => changes_setSol (solTakeEnd_decay hst)
  case resetOpenCoil => exact fun v t s hst hk hf => solTakeReset_clears hst hk hf fun _ => rfl
  case resetHoldLow => exact fun v t s hst hk hf => solTakeReset_clears hst hk hf fun _ => rfl
  case resetOvercurrent => exact fun v t s hst hk hf => solTakeReset_clears hst hk hf fun _ => rfl
  case resetDutyCut => exact fun v t s hst hk hf => solTakeReset_clears hst hk hf fun _ => rfl
  case resetFresh =>
    exact fun v t s hst hf => by rw [solTakeReset_fresh hst hf]; exact solRefuse_changes ((Within.refl s).then_useFree (by simp))
  case resetRefused => exact fun v t s hf hd => by rw [solTakeReset_refused hf hd]; exact solRefuse_changes (.refl s)
  case clears => exact fun v s => changes_setSol rfl
  case overcurrent => exact fun v t s hd hf => effect_solLatch hd hf rfl
  case senseFault => exact fun v t s hd hf => effect_solLatch hd hf rfl
  case holdLow => exact fun v t s hst ht hd hf => effect_solLatch hd hf (exec_holdLow hst ht)
  case decayTimeout => exact fun v t s hst ht hd hf => effect_solLatch hd hf (exec_decayTimeout hst ht)
  case cutPeak => exact fun v t l s hst he hb hl hd hf => effect_solLatch hd hf (exec_dutyCut (.inl hst) he hb hl)
  case cutHold => exact fun v t l s hst he hb hl hd hf => effect_solLatch hd hf (exec_dutyCut (.inr hst) he hb hl)
  case openCoil => exact fun v t cur s hst ht hc hd hf => effect_solLatch hd hf (exec_peakEnd_openCoil hst ht hc)
  case peakHold => exact fun v t cur s hst ht hc hw he => effect_setNow_setSol (exec_peakEnd_hold hst ht hc hw he)
  case peakDecay => exact fun v t cur s hst ht hc hw he => effect_setNow_setSol (exec_peakEnd_decay hst ht hc hw he)
  case holdEnd => exact fun v t s hst he => effect_setNow_setSol (exec_holdEnd hst he)
  case decayOff => exact fun v t s hst hq => effect_setNow_setSol (exec_decayEnd_off hst hq)
  case decayFault => exact fun v t s hst => effect_setNow_setSol (exec_decayEnd_fault hst)
  case decayQueued => exact fun v t h s hst hq ha => exec_decayEnd_queued hst hq ha

end Sys2Proof.Machine
end

section
/-!
SUPPORT. The event recorder (R331 to R337): the write of a queued event, the report of lost entries, the copy to MRAM and EVR_CLEAR.
-/
namespace Sys2Proof.Machine

open Sys2Proof

/-! ## One event into the ring (R334) -/

/-- The conditions of R334 for an update of the newest record. -/
theorem mergeable_iff (x : EvRec) (q : EvReq) : mergeable x q = true ↔ x.src = q.src ∧ x.name = q.name ∧ x.data = q.data % 2 ^ 48 ∧
    q.conts = 0 ∧ x.isCont = false ∧ x.conts = 0 ∧ x.tFirst ≤ q.t ∧ x.rep < 65535 ∧ (q.t - x.tFirst) / 1000 < 2 ^ 32 := by
  simp only [mergeable, Bool.and_eq_true, beq_iff_eq, Bool.not_eq_eq_eq_not, Bool.not_true, decide_eq_true_eq]
  constructor
  · rintro ⟨⟨⟨⟨⟨⟨⟨⟨hq, hs⟩, hn⟩, hd⟩, hi⟩, hc⟩, ht⟩, hr⟩, ho⟩
    exact ⟨hs, hn, hd, hq, hi, hc, ht, hr, ho⟩
  · rintro ⟨hs, hn, hd, hq, hi, hc, ht, hr, ho⟩
    exact ⟨⟨⟨⟨⟨⟨⟨⟨hq, hs⟩, hn⟩, hd⟩, hi⟩, hc⟩, ht⟩, hr⟩, ho⟩

section
variable {r : RecState} {q : EvReq} {x : EvRec} {l : List EvRec} (now : Nat) (hr : r.ring = x :: l)
include hr

theorem ringWrite_merged (h : mergeable x q = true) :
    (ringWrite r q now).ring = { x with rep := x.rep + 1, tLastUs := (q.t - x.tFirst) / 1000 } :: l ∧
    (ringWrite r q now).nextSeq = r.nextSeq := by
  simp [ringWrite, hr, h]

theorem ringWrite_fresh (h : ¬ mergeable x q = true) :
    (ringWrite r q now).ring = ((recsOf q r.nextSeq).reverse ++ x :: l).take 65536 ∧
    (ringWrite r q now).nextSeq = r.nextSeq + q.conts + 1 := by
  simp [ringWrite, hr, h]

end

/-! ## The writer (R333) -/

section
variable {t : Ns} {q : EvReq} {l : List EvReq} {s : State}

theorem exec_eventRecordCommit (hp : s.snf.corePowered = true) (hst : 3 ≤ s.snf.stage) (hq : s.rec_.queue = q :: l) :
    exec (.eventRecordCommit t) s =
      .next (reportLost (modRec (setNow s t) (fun r => ringWrite { r with queue := l } q (max s.now t)))) := by
  change execEventRecordCommit t s = _
  simp [execEventRecordCommit, recordWrite, hp, hst, hq]

theorem exec_eventRecordCommit_empty (hq : s.rec_.queue = []) : exec (.eventRecordCommit t) s = .next (setNow s t) := by
  change execEventRecordCommit t s = _
  simp [execEventRecordCommit, recordWrite, hq]

end

/-- While the core domain is powered an event joins the write queue (R333). -/
theorem logRaw_queued {s : State} (hp : s.snf.corePowered = true) (src : EvSrc) (name : EventName) (data conts : Nat) :
    (logRaw s src name data conts).rec_ =
      queueEv s.rec_ { src := src, name := name, t := s.now, came := s.now, data := data, conts := conts } :=
  (logAt_rec ..).trans (if_pos hp)

/-- The report of lost entries leaves the ring and the numbering (R333). -/
theorem reportLost_ring {s : State} (hp : s.snf.corePowered = true) :
    (reportLost s).rec_.ring = s.rec_.ring ∧ (reportLost s).rec_.nextSeq = s.rec_.nextSeq := by
  unfold reportLost
  split
  · rw [logRaw_queued (show (modRec s _).snf.corePowered = true from hp), queueEv_ring, queueEv_nextSeq]
    exact ⟨rfl, rfl⟩
  · exact ⟨rfl, rfl⟩

/-- The report of lost entries leaves the queue of commands. -/
theorem reportLost_pending (s : State) : (reportLost s).pending = s.pending := by
  unfold reportLost
  split
  · exact logRaw_pending ..
  · rfl

/-! ## The copy to MRAM (R335) -/

section
variable {t : Ns} {p : Nat × EvRec} {l : List (Nat × EvRec)} {s : State} (ha : awaiting s.rec_ = p :: l)
include ha

theorem exec_mramTailCommit_done : exec (.mramTailCommit t true) s = .next (noteLag (modRec (setNow s t) (fun r =>
    { r with tail := tailPut r.tail p.2, mramSeq := max r.mramSeq p.2.seq, uncommitted := l })) (p :: l) l) := by
  change Host.Outcome.next (tailCommit (setNow s t) true) = _
  simp [tailCommit, ha]

theorem exec_mramTailCommit_failed : exec (.mramTailCommit t false) s = .next (noteLag (stick (modRec (setNow s t) (fun r =>
    { r with uncommitted := l })) .evrStatus 0 4) (p :: l) l) := by
  change Host.Outcome.next (tailCommit (setNow s t) false) = _
  simp [tailCommit, ha]

end

/-! ## EVR_CLEAR (R337) -/

section
variable {s : State} {q : Requester} {c : Nat}

theorem evrClear_same (h : c = s.rec_.cleared) : evrClear s q c = (s, .ok) := if_pos h

/-- A value above what is cleared and at most one above the head becomes cleared-below, with a record of the party (R337). -/
theorem evrClear_rises (h : s.rec_.cleared < c) (hh : c ≤ s.rec_.head + 1) : evrClear s q c =
    (stick (logRaw (modRec s (fun r => { r with cleared := c })) (partyOf q) .recorderCleared (c % 2 ^ 48)) .evrStatus 0 3, .ok) := by
  rw [evrClear, if_neg (by omega), if_pos ⟨h, hh⟩]

theorem evrClear_range (h : c ≠ s.rec_.cleared) (hh : c < s.rec_.cleared ∨ s.rec_.head + 1 < c) : evrClear s q c = (s, .range) := by
  rw [evrClear, if_neg h, if_neg (by omega)]

end

/-- A clear that is not out of range reports nothing (R337). -/
theorem exec_evrClear_ok {v : W32} {s : State} (h : (evrClear s hostReq (join64 (regW s .evrClearLo) v)).2 = .ok) :
    exec (.evrClear v) s = .next (evrClear s hostReq (join64 (regW s .evrClearLo) v)).1 := by
  change execEvrClear v s = _
  rw [execEvrClear, h, report_ok]

/-- EVR_CLEAR: the word written before and the one written now are the value (R337, R340). -/
theorem exec_evrClear {v : W32} {s u : State} {a : Acc} (h : evrClear s hostReq (join64 (regW s .evrClearLo) v) = (u, a)) :
    exec (.evrClear v) s = .next (report u hostReq evrClearAddr a) := by
  change execEvrClear v s = _
  simp only [execEvrClear, h]

theorem logRaw_head (s : State) (src : EvSrc) (name : EventName) (data conts : Nat) :
    (logRaw s src name data conts).rec_.head = s.rec_.head := logAt_head ..

theorem logRaw_ring (s : State) (src : EvSrc) (name : EventName) (data conts : Nat) :
    (logRaw s src name data conts).rec_.ring = s.rec_.ring := logAt_ring ..

theorem logRaw_cleared (s : State) (src : EvSrc) (name : EventName) (data conts : Nat) :
    (logRaw s src name data conts).rec_.cleared = s.rec_.cleared := logAt_cleared ..

/-- The clear shows in EVR_STATUS and leaves the ring, its head and the plant (R337). -/
theorem yields_evrClear {i : Instr} {s : State} {q : Requester} {c : Nat} (h : exec i s = .next (evrClear s q c).1)
    (hc : s.rec_.cleared < c) (hh : c ≤ s.rec_.head + 1) :
    Yields i s (fun u => u.rec_.cleared = c ∧ (u.rec_.ring = s.rec_.ring ∧ u.rec_.head = s.rec_.head) ∧
      regB u .evrStatus 0 3 = true ∧ u.loop = s.loop ∧ u.wick = s.wick ∧ u.mkt = s.mkt) := by
  rw [evrClear_rises hc hh] at h
  exact ⟨_, h, logRaw_pending .., logRaw_cleared .., ⟨logRaw_ring .., logRaw_head ..⟩, regB_stick_same _ _ _ (by simp), logRaw_loop ..,
    logRaw_wick .., logRaw_mkt ..⟩

end Sys2Proof.Machine
end

section
/-!
The newest record is updated or new ones are written (O54).
-/
namespace Sys2Proof.Machine

open Sys2Proof

/-- Settles O54: R334's conditions are `mergeable`, and the command writes the ring that `ringWrite` says. -/
theorem newestRecordIsUpdated : Obligations.NewestRecordIsUpdated := by
  refine ⟨fun now r q x l hr h => ringWrite_merged now hr ((mergeable_iff x q).2 h),
    fun now r q x l hr h => ringWrite_fresh now hr (h ∘ (mergeable_iff x q).1), fun t q rest s hp hst hq => ?_⟩
  exact ⟨_, exec_eventRecordCommit hp hst hq, reportLost_pending _, reportLost_ring hp⟩

end Sys2Proof.Machine
end

section
/-!
SUPPORT. Notices (R468), host silence (R466), memory errors (R21, R160) and the frame boundary (R22, R24).
-/
namespace Sys2Proof.Machine

open Sys2Proof

/-! ## Notices (R468) -/

/-- A NOTICE is numbered, restarts the holdoff and carries the bits, the head and its time (R468). -/
theorem effect_sendNotice {c : Instr} {t : Ns} {s : State} (h : exec c s = .next (sendNotice (setNow s t) t)) :
    Effect c s [.time, .glb, .mkt] [] (fun u =>
      u.now = max s.now t ∧ u.glb = { s.glb with seq := (s.glb.seq + 1) % 2 ^ 32, lastNotice := some t, newBits := 0 } ∧
      u.mkt.sent = .notice t (pendEn s) s.glb.raw s.rec_.head ((s.glb.seq + 1) % 2 ^ 32) :: s.mkt.sent) :=
  .intro h ((((Within.refl s).then_setNow t (by simp)).then_glb _ (by simp)).then_mkt _ (by simp)) ⟨rfl, rfl, rfl⟩

section
variable {t : Ns} {s : State} (hr : noticeReady s = true)
include hr

theorem exec_noticeNew (hb : s.glb.newBits ≠ 0) (ho : holdoffOver s t = true) :
    exec (.noticeNew t) s = .next (sendNotice (setNow s t) t) := congrArg _ (if_pos ⟨hr, hb, ho⟩)

theorem exec_noticeHoldoffEnd (hl : s.glb.lastNotice.isSome = true) (hb : s.glb.newBits ≠ 0) (ho : holdoffOver s t = true)
    (hp : s.glb.newBits &&& regF s .glbIrqPend 0 0 23 ≠ 0) :
    exec (.noticeHoldoffEnd t) s = .next (sendNotice (setNow s t) t) :=
  congrArg _ ((if_pos ⟨hr, hl, hb, ho⟩).trans (if_neg hp))

theorem exec_noticeRepeat {l : Nat} (hl : s.glb.lastNotice = some l) (hn : regF s .glbNotice 0 14 8 ≠ 0) (hp : pendEn s ≠ 0)
    (ht : l + regF s .glbNotice 0 14 8 * secNs ≤ t) : exec (.noticeRepeat t) s = .next (sendNotice (setNow s t) t) := by
  change execNoticeRepeat t s = _
  have hr' : noticeReady (setNow s t) = true := hr
  have hp' : pendEn (setNow s t) ≠ 0 := hp
  simp [execNoticeRepeat, hl, hr', hn, hp', ht]

end

/-! ## Host silence (R466) -/

theorem exec_hostSilenceExpiry {t : Ns} {s : State} (hc : s.hld.committed = true) (ht : t % frameNs = 0) (hs : s.glb.silent = false)
    (hn : s.glb.hostNow = false) (hl : s.glb.lastHost + hostTimeout s ≤ t) :
    exec (.hostSilenceExpiry t) s = .next (goSilent (setNow s t)) := by
  change execHostSilenceExpiry t s = _
  have hl' : s.glb.lastHost + hostTimeout (setNow s t) ≤ t := hl
  simp [execHostSilenceExpiry, hc, ht, hs, hn, hl']

/-! ## Memory errors (R21) -/

section
variable {t : Ns} {r : EccRegion} {s : State} (hp : eccPowered s r = true)
include hp

theorem exec_memoryEccError_fixed : exec (.memoryEccError t r true) s = .next (eccFixed (setNow s t) r) :=
  congrArg _ (if_pos (show eccPowered (setNow s t) r = true by cases r <;> exact hp))

theorem exec_memoryEccError_broken : exec (.memoryEccError t r false) s = .next (eccBroken (setNow s t) r) :=
  congrArg _ (if_pos (show eccPowered (setNow s t) r = true by cases r <;> exact hp))

end

section
variable {c : Instr} {t : Ns} {s : State} {src : EvSrc} {name : EventName} {what : Nat}

/-- An error recorded, with a change of the pair's record (R21, R352). -/
theorem effect_setNow_pair_logEv {p : PairState} (h : exec c s = .next (logEv { setNow s t with pair := p } src name what)) :
    Effect c s [.time, .pair, .recorder] [(.evrStatus, 0)] (fun u => u.now = max s.now t ∧ u.pair = p) :=
  .intro h ((((Within.refl s).then_setNow t (by simp)).then_pair p (by simp)).then_logEv _ _ _ (by simp) (by simp))
    ⟨logEv_now .., logEv_pair ..⟩

/-- An uncorrectable error of shared SRAM or of the engines' DRAM waits as a severe finding (R21, R352). -/
theorem effect_logEv_eccSevere (h : exec c s = .next (eccSevere (logEv (setNow s t) src name what))) :
    Effect c s [.time, .pair, .recorder] [(.evrStatus, 0)] (fun u => u.now = max s.now t ∧ u.pair = { s.pair with eccFatal := true }) :=
  .intro h ((((Within.refl s).then_setNow t (by simp)).then_logEv _ _ _ (by simp) (by simp)).then_pair _ (by simp))
    ⟨logEv_now .., congrArg (fun p => { p with eccFatal := true }) (logEv_pair (setNow s t) ..)⟩

end

/-- A corrected error of an engine's memory is counted, recorded and flagged at the engine (R21, R160). -/
theorem eccFixed_engine_effect {t : Ns} {e : Fin 128} {b : Bool} {s : State} (hc : coreRuns s = true) :
    Effect (.memoryEccError t (.engine e b) true) s [.time, .eng, .pair, .recorder] [(.evrStatus, 0)] (fun u =>
      u.now = max s.now t ∧ OnlyEng e s u ∧ engOf u e = { engOf s e with eccCorr := true } ∧
      u.pair = { s.pair with eccLan := satInc 16 s.pair.eccLan }) := by
  refine .intro (exec_memoryEccError_fixed (r := .engine e b) hc) (((((Within.refl s).then_setNow t (by simp)).then_pair _ (by simp)).then_setEng
    _ _ (by simp)).then_logEv _ _ _ (by simp) (by simp)) ?_
  obtain ⟨ho, hx⟩ := onlyEng_of_eng (s := s) (u := eccFixed (setNow s t) (.engine e b)) (logEv_eng ..)
  exact ⟨logEv_now .., ho, hx, logEv_pair ..⟩

/-! ## The frame boundary (R22, R24) -/

section
variable {t : Ns} {s : State}

section
variable (hb : boundaryOk s t = true) {s1 s2 : State}
  (h1 : irqAtBoundary (hostAtBoundary (wdResetDue (duePatch (latchDue (setNow s t) false))) t) = s1)
  (h2 : setRowClocks (openFrame s1 t) = s2)
include hb h1 h2

/-- A committed unit outside a relight does the frame's work, and takes what the edge's cycle brought after it (R22, R24). -/
theorem exec_frameBoundary_runs (hc : s2.hld.committed = true) (hr : relit s2 = false) : exec (.frameBoundary t) s =
    .next (takeEdge0 (restoreEdge (resumeBits (sendControl { (frameWork { s2 with now := t }) with now := s2.now })) (edgeNow s1))) := by
  change execFrameBoundary t s = _
  have hb' : boundaryOk (setNow s t) t = true := hb
  simp only [execFrameBoundary, hb', if_true, h1, h2, hc, hr, Bool.not_false, Bool.and_true]

/-- Before a commit the frame holds no work; its record is kept (R442). -/
theorem exec_frameBoundary_uncommitted (hc : s2.hld.committed = false) : exec (.frameBoundary t) s =
    .next (takeEdge0 (restoreEdge (resumeBits (sendControl { (recordFrame s2) with now := s2.now })) (edgeNow s1))) := by
  change execFrameBoundary t s = _
  have hb' : boundaryOk (setNow s t) t = true := hb
  simp only [execFrameBoundary, hb', if_true, h1, h2, hc, Bool.false_and, Bool.false_eq_true, if_false]

end

theorem exec_frameBoundary_none (hb : boundaryOk s t = false) : exec (.frameBoundary t) s = .next (setNow s t) := by
  change execFrameBoundary t s = _
  have hb' : ¬ boundaryOk (setNow s t) t = true := Bool.not_eq_true _ ▸ hb
  simp only [execFrameBoundary, if_neg hb']

end

end Sys2Proof.Machine
end

section
/-!
The recorder, its clear register, notices, host silence, memory errors and frames complete with their effects (O27).
-/
namespace Sys2Proof.Machine

open Sys2Proof

/-- Settles O27, clause by clause from the equations and effects above. -/
theorem recorderAndNoticesComplete : Obligations.RecorderAndNoticesComplete := by
  refine ⟨?write, ?empty, ?copied, ?copyFails, ?clears, ?clearSame, ?clearRange, ?noticeNew, ?holdoffEnd, ?noticeRepeat, ?silence,
    ?fixedEngine, ?fixedMgt, ?fixedMram, ?brokenSram, ?brokenDram, ?brokenEngine, ?brokenMram, ?brokenWax, ?frame, ?frameIdle, ?noFrame⟩
  case write => exact fun t q l s hp hst hq => exec_eventRecordCommit hp hst hq
  case empty => exact fun t s hq => effect_setNow (exec_eventRecordCommit_empty hq)
  case copied => exact fun t p l s ha => exec_mramTailCommit_done ha
  case copyFails => exact fun t p l s ha => exec_mramTailCommit_failed ha
  case clears =>
    exact fun v s hc hh => yields_evrClear (exec_evrClear_ok (congrArg Prod.snd (evrClear_rises hc hh))) hc hh
  case clearSame => exact fun v s hc => .intro (exec_evrClear (evrClear_same hc)) (Within.refl s) rfl
  case clearRange => exact fun v s hc hh => exec_evrClear (evrClear_range hc hh)
  case noticeNew => exact fun t s hr hb ho => effect_sendNotice (exec_noticeNew hr hb ho)
  case holdoffEnd => exact fun t s hr hl hb ho hp => effect_sendNotice (exec_noticeHoldoffEnd hr hl hb ho hp)
  case noticeRepeat => exact fun t l s hl hr hn hp ht => effect_sendNotice (exec_noticeRepeat hr hl hn hp ht)
  case silence => exact fun t s hc ht hs hn hl => exec_hostSilenceExpiry hc ht hs hn hl
  case fixedEngine => exact fun t e b s hc => eccFixed_engine_effect hc
  case fixedMgt => exact fun t s hv => effect_setNow_pair_logEv (exec_memoryEccError_fixed (r := .mgtRam) hv)
  case fixedMram => exact fun t m s hv => effect_setNow_pair_logEv (exec_memoryEccError_fixed (r := .mram m) hv)
  case brokenSram => exact fun t a s hc => effect_logEv_eccSevere (exec_memoryEccError_broken (r := .sram a) hc)
  case brokenDram => exact fun t s hc => effect_logEv_eccSevere (exec_memoryEccError_broken (r := .dramEngine) hc)
  case brokenEngine => exact fun t e b s hc => exec_memoryEccError_broken (r := .engine e b) hc
  case brokenMram => exact fun t m s hv => exec_memoryEccError_broken (r := .mram m) hv
  case brokenWax => exact fun t x s hc => exec_memoryEccError_broken (r := .dramWax x) hc
  case frame => exact fun t s hb hc hr => exec_frameBoundary_runs hb rfl rfl hc hr
  case frameIdle => exact fun t s hb hc => exec_frameBoundary_uncommitted hb rfl rfl hc
  case noFrame => exact fun t s hb => effect_setNow (exec_frameBoundary_none hb)

end Sys2Proof.Machine
end

section
/-!
SUPPORT. Tally banks (R324, R325, R330): what a post, an acknowledgement and a latch do to the banks.
-/
namespace Sys2Proof.Machine

open Sys2Proof

/-! ## Posts (R324) -/

section
variable {s : State} {inst num : Nat}

/-- A post that nothing forbids arms the lower free bank with its number and instant (R324). -/
theorem tallyPost_armed (h : tallyCode s inst num = 0) {b : Bool} (hb : talFree s = some b) : tallyPost s inst num =
    setTalBank (modTal (modTal s (fun y => { y with result := 0 })) (fun y => { y with resultBank := b.toNat })) b
      { st := .armed, num := num, tPost := inst, armedIn := some (frameOf s.now), image := BankImage.empty } := by
  have hb' : talFree (modTal s (fun y => { y with result := 0 })) = some b := hb
  simp only [tallyPost, h, if_true, hb']

/-- A post of a number that a bank holds is noted, since an acknowledgement of its input set may free that bank (R324, R327). -/
theorem tallyPost_held (h : tallyCode s inst num = 4) : tallyPost s inst num =
    stick (modTal (modTal s (fun y => { y with result := 4 }))
      (fun y => { y with retry := some (frameOf s.now, inst, num, regB s .talStatus 0 1) })) .talStatus 0 1 := by
  simp [tallyPost, h]

end

theorem talFree_first {s : State} (h : s.tal.bank0.st = .free) : talFree s = some false := if_pos h

theorem talFree_second {s : State} (h0 : s.tal.bank0.st ≠ .free) (h1 : s.tal.bank1.st = .free) : talFree s = some true :=
  (if_neg h0).trans (if_pos h1)

/-! ## Acknowledgements (R325) -/

section
variable {n : W32} {s : State}

theorem exec_talAck_unknown (h : talHolds s n.toNat = none) :
    exec (.talAck n) s = .next (modTal s (fun y => { y with result := 5 })) := by
  change execTalAck n s = _
  simp [execTalAck, tallyAck, h]

/-- A LATCHED bank is freed by its number (R325). -/
theorem exec_talAck_latched {b : Bool} (h : talHolds s n.toNat = some b) (hr : s.tal.retry = none) (hl : (talBank s b).st = .latched) :
    exec (.talAck n) s = .next (setTalBank s b TallyBank.freeBank) := by
  change execTalAck n s = _
  have hr' : (setTalBank s b TallyBank.freeBank).tal.retry = none := by cases b <;> exact hr
  simp [execTalAck, tallyAck, h, TallyBank.justArmed, freeTalBank, hl, hr']

end

/-! ## The latch (R325, R327, R330) -/

/-- A bank that is not ARMED does not latch. -/
theorem latchBank_idle {s : State} {stepped b : Bool} (h : (talBank s b).st ≠ .armed) : latchBank stepped s b = s :=
  if_neg fun k => h k.1

/-- An ARMED bank whose instant has come takes the counters and is recorded; a stream without a notice basket posts none (R325, R330). -/
theorem latchBank_due {s : State} {b : Bool} (ha : (talBank s b).st = .armed) (ht : (talBank s b).tPost ≤ s.now)
    (hn : s.hld.str.notice = none) : latchBank false s b =
    logRaw (stick (useFree (setTalBank s b { talBank s b with st := .latched, image := talImage s false })) .talStatus 0 0) srcTal .tallyLatched
      ((talBank s b).num % 2 ^ 32 + b.toNat * 2 ^ 32 + BankImage.flags (talImage s false) * 2 ^ 40) := by
  refine (if_pos ⟨ha, ht⟩).trans ?_
  simp only [Bool.false_eq_true, if_false, sendTalNotice]
  split
  · rfl
  · next k hk => simp [setTalBank, modTal, hn] at hk

end Sys2Proof.Machine
end

section
/-!
The tally banks' commands complete with their effects (O25).
-/
namespace Sys2Proof.Machine

open Sys2Proof

/-- Settles O25, from the equations of the post, the acknowledgement and the latch. -/
theorem tallyCommandsComplete : Obligations.TallyCommandsComplete := by
  refine ⟨?dgram, ?first, ?second, ?held, ?unknown, ?ack0, ?ack1, ?latch⟩
  case dgram => exact fun t d n i k l s hr hi ha hl => congrArg Host.Outcome.next (withDgram_handled _ d 1 k l _ hr hi ha hl rfl)
  case first =>
    exact fun s h hf => .intro (congrArg Host.Outcome.next (tallyPost_armed h (talFree_first hf))) ((Within.refl s).then_tal _ (by simp)) rfl
  case second =>
    exact fun s h h0 h1 => .intro (congrArg Host.Outcome.next (tallyPost_armed h (talFree_second h0 h1))) ((Within.refl s).then_tal _ (by simp)) rfl
  case held =>
    exact fun s h => .intro (congrArg Host.Outcome.next (tallyPost_held h))
      (((Within.refl s).then_tal _ (by simp)).then_stick _ _ _ (by simp)) ⟨rfl, regB_stick_same _ _ _ (by simp)⟩
  case unknown => exact fun n s h => .intro (exec_talAck_unknown h) ((Within.refl s).then_tal _ (by simp)) rfl
  case ack0 => exact fun n s h hr hl => .intro (exec_talAck_latched h hr hl) ((Within.refl s).then_tal _ (by simp)) rfl
  case ack1 => exact fun n s h hr hl => .intro (exec_talAck_latched h hr hl) ((Within.refl s).then_tal _ (by simp)) rfl
  case latch =>
    intro t s ha ht h1 hn
    refine congrArg Host.Outcome.next ((congrArg (latchBank false · true) (latchBank_due (b := false) (s := setNow s t) ha ht hn)).trans
      (latchBank_idle (b := true) ?_))
    simpa [talBank, setTalBank, modTal] using h1

end Sys2Proof.Machine
end

section
/-!
SUPPORT. Frames of the market (R294, R308 to R310, R315, R320, R321): what the checks let pass, what the bridge does, what each command
does with a frame that is taken.
-/
namespace Sys2Proof.Machine

open Sys2Proof

/-! ## The checks of a frame (R294, R309, R320) -/

section
variable {s : State} {t : Nat} {h : FrameHdr} {group c : Bool}

theorem takeFrame_taken (hl : looped s h = false) (hh : hdrOk s h group = true) (hg : genOk s h t = true) :
    takeFrame s t h group c = (s, true) := by simp [takeFrame, hl, hh, hg]

theorem takeFrame_unchecked (hl : looped s h = false) (hh : hdrOk s h group = true) : takeFrame s t h group false = (s, true) := by
  simp [takeFrame, hl, hh]

/-- An own frame that came back is discarded (R294). -/
theorem takeFrame_looped (hf : h.fcsOk = true) (hl : looped s h = true) :
    takeFrame s t h group c = (stick s .mktStatus 0 11, false) := by simp [takeFrame, hl, hf]

theorem takeFrame_bad (hl : (h.fcsOk && looped s h) = false) (hh : hdrOk s h group = false) :
    takeFrame s t h group c = (badFrame s, false) := by simp [takeFrame, hl, hh]

theorem takeFrame_gen (hl : looped s h = false) (hh : hdrOk s h group = true) (hg : genOk s h t = false) :
    takeFrame s t h group true = (modMkt s (fun m => { m with genMismatch := satInc 16 m.genMismatch }), false) := by
  simp [takeFrame, hl, hh, hg]

end

section
variable {s : State} {t : Nat} {h : FrameHdr}

theorem genOk_own (hg : h.gen = s.mkt.gen) : genOk s h t = true := by simp [genOk, hg]

theorem genOk_prev (hg : h.gen = s.mkt.prevGen) (ht : t < s.mkt.prevUntil) : genOk s h t = true := by simp [genOk, hg, ht]

theorem genOk_other (hg : h.gen ≠ s.mkt.gen) (hp : h.gen ≠ s.mkt.prevGen ∨ s.mkt.prevUntil ≤ t) : genOk s h t = false := by
  simpa [genOk, hg, Decidable.imp_iff_not_or] using hp

/-- The device exchanges basket frames as a member, and while it leaves (R319). -/
theorem member_or_leaving (hm : s.mkt.member = .member ∨ s.mkt.member = .leaving) :
    (s.mkt.member == .member || s.mkt.member == .leaving) = true := by simpa using hm

end

/-! ## A frame that a command takes, and one that it does not (R309, R310, R49) -/

section
variable {t : Ns} {h : FrameHdr} {es : List Entry} {s u : State}

theorem exec_dataFrame_discarded (hr : takeFrame (setNow s t) t h false true = (u, false)) :
    exec (.dataFrameReceive t h es) s = .next u := by
  change execDataFrameReceive t h es s = _
  simp [execDataFrameReceive, hr]

theorem exec_dataFrame_taken (hr : takeFrame (setNow s t) t h false true = (u, true))
    (hm : s.mkt.member = .member ∨ s.mkt.member = .leaving) : exec (.dataFrameReceive t h es) s = .next (takeEntries u h es) := by
  change execDataFrameReceive t h es s = _
  have hm' := member_or_leaving (s := setNow s t) hm
  simp only [execDataFrameReceive, hr, hm', Bool.and_self, if_true]

end

section
variable {t : Ns} {h : FrameHdr} {cs : List (Nat × Nat)} {s u : State}

theorem exec_creditFrame_discarded (hr : takeFrame (setNow s t) t h false true = (u, false)) :
    exec (.creditFrameReceive t h cs) s = .next u := by
  change execCreditFrameReceive t h cs s = _
  simp [execCreditFrameReceive, hr]

theorem exec_creditFrame_taken (hr : takeFrame (setNow s t) t h false true = (setNow s t, true))
    (hm : s.mkt.member = .member ∨ s.mkt.member = .leaving) : exec (.creditFrameReceive t h cs) s = .next (cs.foldl (fun s c =>
      forEach (egressTo s h.src c.1) s (fun s b => modBsk s b (fun x => { x with limit := some (c.2 % 65536) }))) (setNow s t)) := by
  change execCreditFrameReceive t h cs s = _
  have hm' := member_or_leaving (s := setNow s t) hm
  simp only [execCreditFrameReceive, hr, hm', Bool.and_self, if_true]

end

section
variable {t : Ns} {h : FrameHdr} {rs : List SnapRec} {s u : State}

theorem exec_wickFrame_discarded (hr : takeFrame (setNow s t) t h true true = (u, false)) :
    exec (.wickFrameReceive t h rs) s = .next u := by
  change execWickFrameReceive t h rs s = _
  simp [execWickFrameReceive, hr]

theorem exec_wickFrame_taken (hr : takeFrame (setNow s t) t h true true = (setNow s t, true)) (hm : s.mkt.member = .member) :
    exec (.wickFrameReceive t h rs) s =
      .next (rs.foldl (fun s q => forEach (subscribers s h.src q.wick) s (fun s w => takePub s w q)) (setNow s t)) := by
  change execWickFrameReceive t h rs s = _
  have hm' : ((setNow s t).mkt.member == .member) = true := by simpa using hm
  simp only [execWickFrameReceive, hr, hm', Bool.and_self, if_true]

end

section
variable {c : Instr} {t : Nat} {s : State}

theorem effect_loopSeen (h : exec c s = .next (stick (setNow s t) .mktStatus 0 11)) :
    Effect c s [.time] [(.mktStatus, 0)] (fun u => u.now = max s.now t ∧ regB u .mktStatus 0 11 = true) :=
  .intro h (((Within.refl s).then_setNow t (by simp)).then_stick _ _ _ (by simp)) ⟨rfl, regB_stick_same _ _ _ (by simp)⟩

end

/-! ## Hellos (R315, R321) -/

section
variable {t : Ns} {h : FrameHdr} {i : HelloInfo} {s : State} (hr : takeFrame (setNow s t) t h true false = (setNow s t, true))
include hr

theorem exec_hello_heard (hs : h.src ≠ marketId s) : exec (.helloFrameReceive t h i) s = .next (noteGen { setNow s t with mkt :=
    { s.mkt with heard := spPut s.mkt.heard h.src t, heardPair := spPut s.mkt.heardPair h.src i.pair,
                 missing := s.mkt.missing.filter (· != h.src) } } h.gen) := by
  change execHelloFrameReceive t h i s = _
  have hs' : ¬ h.src = marketId (setNow s t) := hs
  simp only [execHelloFrameReceive, hr, if_true, if_neg hs', modMkt, setNow_mkt]

/-- A hello of the own market ID from another MAC is an ID conflict (R321). -/
theorem exec_hello_conflict (hs : h.src = marketId s) (ho : i.otherMac = true) : exec (.helloFrameReceive t h i) s =
    .next (logEv (stick (setNow s t) .mktStatus 0 7) srcMkt .idConflict h.src) := by
  change execHelloFrameReceive t h i s = _
  have hs' : h.src = marketId (setNow s t) := hs
  simp only [execHelloFrameReceive, hr, if_true, if_pos hs', ho]

end

theorem exec_helloSend {t : Ns} {s : State} (hc : s.hld.committed = true) : exec (.helloSend t) s =
    .next (emit (frameOut (setNow s t) 0xFFFF 3 s.mkt.gen).1 (.hello (frameOut (setNow s t) 0xFFFF 3 s.mkt.gen).2 t s.mkt.member.code
      (!s.mkt.unsynced) s.mkt.hops s.pair.st.code s.mkt.gen (hash8 s))) := congrArg _ (if_pos hc)

theorem exec_peerMissing {i : Fin 1024} {t : Ns} {s : State} (hi : inTable s i = true)
    (hs : ∀ a, lookup s.mkt.heard i = some a → a + 300 * msNs ≤ t) (hm : s.mkt.missing.contains i.val = false)
    (ho : i.val ≠ marketId s) : exec (.peerMissing i t) s =
      .next (logEv (stick { setNow s t with mkt := { s.mkt with missing := i.val :: s.mkt.missing } } .mktStatus 0 10) srcMkt .peerMissing i) := by
  refine congrArg Host.Outcome.next (if_pos ?_)
  have ho' : (i.val != marketId s) = true := by simpa using ho
  have hi' : inTable (setNow s t) i = true := hi
  have ho'' : (i.val != marketId (setNow s t)) = true := ho'
  cases hl : lookup s.mkt.heard i with
  | none => simp [hi', hl, ho'', -List.contains_eq_mem, hm]
  | some a => simp [hi', hl, ho'', -List.contains_eq_mem, hm, hs a hl]

/-! ## The bridge (R294, R303, R305) -/

section
variable {s : State} {t : Nat} {f : BridgeFrame}

theorem bridge_otherVlan (h : (f.tagged && f.vid != marketVid s) = true) : bridge s t f = s := if_pos h

section
variable (hv : (f.tagged && f.vid != marketVid s) = false)
include hv

/-- A frame longer than the mtu, but of class 0, is discarded and counted (R305, R309). -/
theorem bridge_long (hp : f.port < 2) (hl : mtuOf s < f.len) (hb : f.basket = false ∨ f.pcp ≠ 6) : bridge s t f = badFrame s := by
  have hb' : (f.basket && f.pcp == 6) = false := by simpa [Decidable.imp_iff_not_or] using hb
  simp [bridge, hv, hp, hl, hb']

section
variable (hl : 2 ≤ f.port ∨ f.len ≤ mtuOf s ∨ (f.basket = true ∧ f.pcp = 6))
include hl

omit hv in
theorem bridge_lenOk : ¬ (f.port < 2 ∧ mtuOf s < f.len ∧ !(f.basket && f.pcp == 6) = true) := by
  rintro ⟨hp, hm, hb⟩
  rcases hl with h | h | ⟨h1, h2⟩
  · omega
  · omega
  · simp [h1, h2] at hb

/-- An own frame that came back by a port is discarded (R294). -/
theorem bridge_looped (hb : f.basket = true) (ho : f.srcMac = macOf (marketId s) ∧ f.port < 2) :
    bridge s t f = stick s .mktStatus 0 11 := by
  rw [bridge, if_neg (by simp [hv]), if_neg (bridge_lenOk hl), if_pos hb, if_pos ho]

/-- A basket frame leaves by the ports of its route (R294). -/
theorem bridge_basket (hb : f.basket = true) (ho : ¬ (f.srcMac = macOf (marketId s) ∧ f.port < 2)) {r : MktRoute}
    (hr : s.hld.str.routes.find? (fun r => r.pub == f.pub && r.id == f.dstId) = some r) :
    bridge s t f = sendOut (learn s f.srcMac f.port t) (maskPorts r.mask f.port) f.pcp f.len := by
  rw [bridge, if_neg (by simp [hv]), if_neg (bridge_lenOk hl), if_pos hb, if_neg ho, hr]

/-- Another frame to an address that the table does not hold leaves by every other port (R294, R303). -/
theorem bridge_unknown (hb : f.basket = false) (ha : lookup s.mkt.addr f.dstMac = none) : bridge s t f =
    sendOut (learn s f.srcMac f.port t) (maskPorts 7 f.port) (if f.port < 2 ∧ (f.pcp = 5 ∨ f.pcp = 6) then 0 else f.pcp) f.len := by
  rw [bridge, if_neg (by simp [hv]), if_neg (bridge_lenOk hl), if_neg (by simp [hb]), ha]

end

end

end

theorem exec_addressAgeing {t : Ns} {m p a : Nat} {s : State} (hl : lookup s.mkt.addr m = some (p, a)) (ht : a + 300 * secNs ≤ t) :
    exec (.addressAgeing t m) s = .next { setNow s t with mkt := { s.mkt with addr := spDel s.mkt.addr m } } := by
  change execAddressAgeing t m s = _
  simp [execAddressAgeing, hl, ht, modMkt]

section
variable {t : Ns} {x : Identity} {s : State} (hi : identNow s = some x) (hf : fwRuns s = true)
include hi hf

/-- A request for the own IPv4 address is answered (R295). -/
theorem exec_arpIcmp_v4 {k : IpKind} (hk : k = .arp ∨ k = .echo4) : exec (.arpIcmpRequest t k x.ipv4) s =
    .next { setNow s t with mkt := { s.mkt with sent := .arpReply x.ipv4 :: s.mkt.sent } } := by
  change execArpIcmpRequest t k x.ipv4 s = _
  have hi' : identNow (setNow s t) = some x := hi
  have hf' : fwRuns (setNow s t) = true := hf
  rcases hk with rfl | rfl <;> simp [execArpIcmpRequest, hi', hf', emit, modMkt]

end

end Sys2Proof.Machine
end

section
/-!
Frames of the market are taken, counted or discarded as their checks say (O29, O51).
-/
namespace Sys2Proof.Machine

open Sys2Proof

/-- Settles O51, from the checks' equations; a switch at S sets both generations and the end of the previous one. -/
theorem generationCheck : Obligations.GenerationCheck := by
  refine ⟨?own, ?prev, ?other, ?switch, ?data, ?credit⟩
  case own => exact fun t h g s hl hh hg => takeFrame_taken hl hh (genOk_own hg)
  case prev => exact fun t h g s hl hh hg ht => takeFrame_taken hl hh (genOk_prev hg ht)
  case other => exact fun t h g s hl hh hg hp => takeFrame_gen hl hh (genOk_other hg hp)
  case switch =>
    intro w s
    simp [doSwitch, modMkt, msNs]
  case data => exact fun t h es s hl hh hg hp => exec_dataFrame_discarded (takeFrame_gen hl hh (genOk_other hg hp))
  case credit => exact fun t h cs s hl hh hg hp => exec_creditFrame_discarded (takeFrame_gen hl hh (genOk_other hg hp))

/-- Settles O29, clause by clause from the equations above. -/
theorem marketFramesComplete : Obligations.MarketFramesComplete := by
  refine ⟨?data, ?dataBadEntry, ?dataLoop, ?dataBad, ?dataGen, ?credit, ?creditLoop, ?creditBad, ?creditGen, ?wick, ?wickLoop, ?wickBad,
    ?wickGen, ?hello, ?helloConflict, ?helloSend, ?refresh, ?missing, ?leaving, ?up0, ?up1, ?down0, ?down1, ?vlan, ?long, ?bridgeLoop,
    ?route, ?flood, ?ageing, ?arp, ?echo⟩
  case data =>
    exact fun t h es s hl hh hg hm ha =>
      (exec_dataFrame_taken (takeFrame_taken hl hh hg) hm).trans (congrArg _ (if_pos (show es.all (entryOk (setNow s t)) = true from ha)))
  case dataBadEntry =>
    exact fun t h es s hl hh hg hm ha => (exec_dataFrame_taken (takeFrame_taken hl hh hg) hm).trans
      (congrArg _ (if_neg (Bool.not_eq_true _ ▸ (show es.all (entryOk (setNow s t)) = false from ha))))
  case dataLoop => exact fun t h es s hf hl => effect_loopSeen (exec_dataFrame_discarded (takeFrame_looped hf hl))
  case dataBad => exact fun t h es s hl hh => effect_setNow_mkt (exec_dataFrame_discarded (takeFrame_bad hl hh))
  case dataGen => exact fun t h es s hl hh hg => effect_setNow_mkt (exec_dataFrame_discarded (takeFrame_gen hl hh hg))
  case credit => exact fun t h es s hl hh hg hm => exec_creditFrame_taken (takeFrame_taken hl hh hg) hm
  case creditLoop => exact fun t h es s hf hl => effect_loopSeen (exec_creditFrame_discarded (takeFrame_looped hf hl))
  case creditBad => exact fun t h es s hl hh => effect_setNow_mkt (exec_creditFrame_discarded (takeFrame_bad hl hh))
  case creditGen => exact fun t h es s hl hh hg => effect_setNow_mkt (exec_creditFrame_discarded (takeFrame_gen hl hh hg))
  case wick => exact fun t h es s hl hh hg hm => exec_wickFrame_taken (takeFrame_taken hl hh hg) hm
  case wickLoop => exact fun t h es s hf hl => effect_loopSeen (exec_wickFrame_discarded (takeFrame_looped hf hl))
  case wickBad => exact fun t h es s hl hh => effect_setNow_mkt (exec_wickFrame_discarded (takeFrame_bad hl hh))
  case wickGen => exact fun t h es s hl hh hg => effect_setNow_mkt (exec_wickFrame_discarded (takeFrame_gen hl hh hg))
  case hello => exact fun t h i s hl hh hs => exec_hello_heard (takeFrame_unchecked hl hh) hs
  case helloConflict =>
    exact fun t h i s hl hh hs ho => .intro (exec_hello_conflict (takeFrame_unchecked hl hh) hs ho)
      ((((Within.refl s).then_setNow t (by simp)).then_stick _ _ _ (by simp)).then_logEv _ _ _ (by simp) (by simp)) (logEv_now ..)
  case helloSend =>
    exact fun t s hc => .intro (exec_helloSend hc)
      ((((Within.refl s).then_setNow t (by simp)).then_mkt _ (by simp)).then_mkt _ (by simp)) ⟨rfl, rfl⟩
  case refresh => exact fun t s ht => congrArg _ (if_pos (show trades (setNow s t) = true from ht))
  case missing =>
    exact fun i t s hi hs hm ho => .intro (exec_peerMissing hi (fun a ha => by simpa [ha] using hs) hm ho)
      (((((Within.refl s).then_setNow t (by simp)).then_mkt _ (by simp)).then_stick _ _ _ (by simp)).then_logEv _ _ _ (by simp) (by simp))
      ⟨logEv_now .., logEv_mkt ..⟩
  case leaving => exact fun t s hm ht => effect_setNow_mkt (congrArg _ (if_pos ⟨hm, ht⟩))
  case up0 => exact fun t s => rfl
  case up1 => exact fun t s => rfl
  case down0 => exact fun t s => rfl
  case down1 => exact fun t s => rfl
  case vlan => exact fun t f s hv => effect_setNow (congrArg Host.Outcome.next (bridge_otherVlan (s := setNow s t) hv))
  case long => exact fun t f s hv hp hl hb => effect_setNow_mkt (congrArg Host.Outcome.next (bridge_long (s := setNow s t) hv hp hl hb))
  case bridgeLoop => exact fun t f s hv hl hb ho => effect_loopSeen (congrArg Host.Outcome.next (bridge_looped (s := setNow s t) hv hl hb ho))
  case route => exact fun t f r s hv hl hb ho hr => congrArg Host.Outcome.next (bridge_basket (s := setNow s t) hv hl hb ho hr)
  case flood => exact fun t f s hv hl hb ha => congrArg Host.Outcome.next (bridge_unknown (s := setNow s t) hv hl hb ha)
  case ageing => exact fun t m p a s hl ht => effect_setNow_mkt (exec_addressAgeing hl ht)
  case arp => exact fun t x s hi hf => effect_setNow_mkt (exec_arpIcmp_v4 hi hf (.inl rfl))
  case echo => exact fun t x s hi hf => effect_setNow_mkt (exec_arpIcmp_v4 hi hf (.inr rfl))

end Sys2Proof.Machine
end

section
/-!
SUPPORT. Market time (R296 to R300, R302, R323) and switches (R316 to R319): each command where it acts.
-/
namespace Sys2Proof.Machine

open Sys2Proof

/-! ## Silence and pulses (R296, R297, R300) -/

section
variable {t : Ns} {b : Bool} {s : State} (hg : s.mkt.gm = false) (ht : s.mkt.lastSync + 250000000 ≤ t)
include hg ht

theorem exec_syncTimeout_gm (hb : (b && regB s .mktCfg 0 11) = true) : exec (.syncTimeout t b) s = .next (evalSync { setNow s t with mkt :=
    { s.mkt with gm := true, syncLost := false, offBig := false, slewing := false, hops := 0, offset := 0,
                 noTai := !regB s .mktCfg 0 12, ppsLast := none, ppsBad := 0 } }) :=
  congrArg _ ((if_neg (by simp [hg])).trans ((if_pos ht).trans (if_pos hb)))

theorem exec_syncTimeout_lost (hb : (b && regB s .mktCfg 0 11) = false) :
    exec (.syncTimeout t b) s = .next (evalSync { setNow s t with mkt := { s.mkt with syncLost := true, goodSyncs := 0 } }) :=
  congrArg _ ((if_neg (by simp [hg])).trans ((if_pos ht).trans (if_neg (by simpa using hb))))

end

section
variable {t l : Ns} {s : State} (hp : takesPps s = true)
include hp

theorem exec_ppsInEdge_first (hl : s.mkt.ppsLast = none) : exec (.ppsInEdge t) s =
    .next (stepTai { setNow s t with mkt := { s.mkt with ppsLast := some t } }) := by
  change execPpsInEdge t s = _
  have hp' : takesPps (setNow s t) = true := hp
  simp only [execPpsInEdge, hp', if_true, setNow_mkt, hl, modMkt]

section
variable (hl : s.mkt.ppsLast = some l)
include hl

theorem exec_ppsInEdge_invalid (hw : ¬ (l + secNs ≤ t + 100000 ∧ t ≤ l + secNs + 100000)) :
    exec (.ppsInEdge t) s = .next (badPps (setNow s t) t) := by
  change execPpsInEdge t s = _
  have hp' : takesPps (setNow s t) = true := hp
  simp only [execPpsInEdge, hp', if_true, setNow_mkt, hl, if_neg hw]

theorem exec_ppsInEdge_valid (hw : l + secNs ≤ t + 100000 ∧ t ≤ l + secNs + 100000) : exec (.ppsInEdge t) s =
    .next (stepTai (correct { setNow s t with mkt := { s.mkt with
        ppsLast := some t, ppsBad := 0, taiHold := false, taiSec := nextTai (setNow s t),
        offset := ((t : Int) - (nextTai (setNow s t) * secNs : Nat)) } } ((t : Int) - (nextTai (setNow s t) * secNs : Nat)))) := by
  change execPpsInEdge t s = _
  have hp' : takesPps (setNow s t) = true := hp
  simp only [execPpsInEdge, hp', if_true, setNow_mkt, hl, if_pos hw, modMkt]

theorem exec_ppsMissing (hw : l + secNs + 100000 < t) :
    exec (.ppsMissing t) s = .next (stepTai (badPps (setNow s t) (l + secNs))) := by
  change execPpsMissing t s = _
  have hp' : takesPps (setNow s t) = true := hp
  simp only [execPpsMissing, hp', setNow_mkt, hl, hw, and_self, if_true]

end

end

theorem exec_ppsOutSecond {t : Ns} {s : State} (hr : regB s .mktCfg 0 13 = true) (hu : s.mkt.unsynced = false) (ht : t % secNs = 0) :
    exec (.ppsOutSecond t) s = .next { setNow s t with mkt := { s.mkt with ppsOut := some (t + 10 * msNs) } } := by
  change execPpsOutSecond t s = _
  have hr' : regB (setNow s t) .mktCfg 0 13 = true := hr
  simp [execPpsOutSecond, hr', hu, ht, modMkt]

/-! ## The step (R298) -/

section
variable {s : State}

/-- The permission makes a backward step that waits (R298). -/
theorem stepAccept_waiting (hs : s.mkt.slewing = true) (ho : 1000000 < s.mkt.offset) :
    stepAccept s = evalSync (correct { s with mkt := { s.mkt with stepAccept := true } } s.mkt.offset) :=
  if_pos (by simp [modMkt, hs, ho])

theorem stepAccept_nothing (h : s.mkt.slewing = false ∨ s.mkt.offset ≤ 1000000) :
    stepAccept s = { s with mkt := { s.mkt with stepAccept := true } } :=
  if_neg (by
    rcases h with h | h
    · simp [modMkt, h]
    · simp [modMkt, Int.not_lt.mpr h])

end

section
variable {t : Ns} {s : State}

theorem exec_marketTimeStep_none (h : s.mkt.pendStep = none ∨ t % frameNs ≠ 0) : exec (.marketTimeStep t) s = .next (setNow s t) := by
  change execMarketTimeStep t s = _
  simp only [execMarketTimeStep, setNow_mkt]
  split
  · next d hd => exact congrArg _ (if_neg (h.resolve_left (by simp [hd])))
  · rfl

section
variable {d : Int} (hd : s.mkt.pendStep = some d) (ht : t % frameNs = 0)
include hd ht

theorem exec_marketTimeStep : exec (.marketTimeStep t) s =
    .next (evalSync (if max s.now t < stepTo s t d then latchDue (lltStep (afterStep s t d)) true else afterStep s t d)) := by
  change execMarketTimeStep t s = _
  simp only [execMarketTimeStep, setNow_mkt, hd, if_pos ht]
  rfl

end

end

/-! ## Switches (R316 to R318) -/

section
variable {t : Ns} {d : Dgram} {a g x y k l : Nat} {op : SwOp} {s : State} (hr : fwRuns (setNow s t) = true)
  (hi : (identNow (setNow s t)).isSome = true) (ha : authOf (setNow s t) d = some (k, l)) (hl : 2 ≤ l)
include hr hi ha hl

theorem exec_switch_taken (hs : switchStatus (acceptDgram (setNow s t) d k) t a g op x y = 0) (hy : y = 0) :
    exec (.switch t d a g op x y) s = .next (respond (noteChange { acceptDgram (setNow s t) d k with mkt :=
      { (acceptDgram (setNow s t) d k).mkt with
        switch := some { s := a, gen := g, op := op, subject := x, hash := 0 }, lastS := a } } d) d (keyIn (setNow s t) k) 0 []) := by
  subst hy
  have h := withDgram_handled (setNow s t) d 2 k l (fun s _ => answerSwitch s t d ⟨a, g, op, x, 0⟩) hr hi ha hl
    (answerSwitch_taken _ t d ⟨a, g, op, x, 0⟩ hs)
  exact congrArg Host.Outcome.next h

theorem exec_switch_refused (hs : switchStatus (acceptDgram (setNow s t) d k) t a g op x y ≠ 0) : exec (.switch t d a g op x y) s =
    .next (respond (logEv (acceptDgram (setNow s t) d k) srcMkt .switchRefused (switchStatus (acceptDgram (setNow s t) d k) t a g op x y))
      d (keyIn (setNow s t) k) (switchStatus (acceptDgram (setNow s t) d k) t a g op x y) []) := by
  have h := withDgram_handled (setNow s t) d 2 k l (fun s _ => answerSwitch s t d ⟨a, g, op, x, y⟩) hr hi ha hl
    (answerSwitch_refused _ t d ⟨a, g, op, x, y⟩ _ rfl hs)
  exact congrArg Host.Outcome.next h

end

section
variable {t : Ns} {w : Switch} {s : State} (hw : s.mkt.switch = some w) (ht : w.s ≤ t ∧ t % frameNs = 0)
include hw ht

theorem exec_switchInstant : exec (.switchInstant t) s =
    .next (if joinFails (latchDue (setNow s t) false) w = true then failJoin (latchDue (setNow s t) false) w
      else doSwitch (latchDue (setNow s t) false) w) := by
  change execSwitchInstant t s = _
  simp only [execSwitchInstant, setNow_mkt, hw, if_pos ht]

end

theorem exec_switchInstant_none {t : Ns} {s : State} (hw : s.mkt.switch = none) : exec (.switchInstant t) s = .next (setNow s t) := by
  change execSwitchInstant t s = _
  simp only [execSwitchInstant, setNow_mkt, hw]

end Sys2Proof.Machine
end

section
/-!
Market time and the switch complete with their effects (O28, O30).
-/
namespace Sys2Proof.Machine

open Sys2Proof

/-- Settles O28, clause by clause from the equations above. -/
theorem marketTimeCommandsComplete : Obligations.MarketTimeCommandsComplete := by
  refine ⟨?sync, ?delay0, ?delay1, ?gm, ?lost, ?first, ?invalid, ?valid, ?missing, ?pulse, ?accept, ?acceptOnly, ?clear, ?noStep, ?forward,
    ?backward⟩
  case sync => exact fun t x h s => rfl
  case delay0 => exact fun t d s => effect_setNow_mkt rfl
  case delay1 => exact fun t d s => effect_setNow_mkt rfl
  case gm => exact fun t b s hg ht hb => exec_syncTimeout_gm hg ht hb
  case lost => exact fun t b s hg ht hb => exec_syncTimeout_lost hg ht hb
  case first => exact fun t s hp hl => exec_ppsInEdge_first hp hl
  case invalid => exact fun t l s hp hl hw => exec_ppsInEdge_invalid hp hl hw
  case valid => exact fun t l s hp hl hw => exec_ppsInEdge_valid hp hl hw
  case missing => exact fun t l s hp hl hw => exec_ppsMissing hp hl hw
  case pulse => exact fun t s hr hu ht => effect_setNow_mkt (exec_ppsOutSecond hr hu ht)
  case accept => exact fun s hs ho => congrArg Host.Outcome.next (stepAccept_waiting hs ho)
  case acceptOnly =>
    exact fun s h => .intro (congrArg Host.Outcome.next (stepAccept_nothing h)) ((Within.refl s).then_mkt _ (by simp)) rfl
  case clear => exact fun s => .intro rfl ((Within.refl s).then_mkt _ (by simp)) rfl
  case noStep => exact fun t s h => effect_setNow (exec_marketTimeStep_none h)
  case forward => exact fun t d s hd ht h => (exec_marketTimeStep hd ht).trans (by rw [if_pos h])
  case backward => exact fun t d s hd ht h => (exec_marketTimeStep hd ht).trans (by rw [if_neg (Nat.not_lt.mpr h)])

/-- Settles O30, from the equations of the datagram's acceptance and of the instant. -/
theorem switchCommandsComplete : Obligations.SwitchCommandsComplete := by
  refine ⟨?taken, ?refused, ?fails, ?applies, ?none⟩
  case taken => exact fun t d a g x y k l op s hr hi ha hl hs hy => exec_switch_taken hr hi ha hl hs hy
  case refused => exact fun t d a g x y k l op s hr hi ha hl hs => exec_switch_refused hr hi ha hl hs
  case fails => exact fun t w s hw ht hj => (exec_switchInstant hw ht).trans (by rw [if_pos hj])
  case applies => exact fun t w s hw ht hj => (exec_switchInstant hw ht).trans (by rw [if_neg (by simp [hj])])
  case none => exact fun t s hw => effect_setNow (exec_switchInstant_none hw)

end Sys2Proof.Machine
end

section
/-!
SUPPORT. The pair (R28, R345, R354 to R361, R364): what its state changes leave alone, what a received frame does, and each command
where it acts.
-/
namespace Sys2Proof.Machine

open Sys2Proof

/-! ## The drive condition and OWN_OUT leave the pair's state alone (R28, R341) -/

theorem solGateOff_pair (s : State) (v t : Nat) : (solGateOff s v t).pair = s.pair := by
  simp only [solGateOff]; split <;> simp

theorem motGateOff_pair (s : State) (m : Nat) : (motGateOff s m).pair = s.pair := by
  unfold motGateOff; simp only; split <;> simp

theorem txEndForce_pair (s : State) (n : Nat) (st : TxSt) : (txEndForce s n st).pair = s.pair := by
  simp only [txEndForce, setTx_pair]; split
  · split <;> rfl
  · rfl

theorem txGateOff_pair (s : State) (n : Nat) : (txGateOff s n).pair = s.pair := by
  unfold txGateOff; simp only; split <;> simp [txEndForce_pair]

theorem solGateOn_pair (s : State) (v : Nat) : (solGateOn s v).pair = s.pair := by simp [solGateOn]

theorem motGateOn_pair (s : State) (m : Nat) : (motGateOn s m).pair = s.pair := by
  unfold motGateOn; simp only; split <;> simp

theorem gateOffAll_pair (s : State) : (gateOffAll s).pair = s.pair := by
  simp only [gateOffAll, forEach_keeps (·.pair) _ txGateOff_pair, forEach_keeps (·.pair) _ motGateOff_pair]
  exact forEach_keeps (·.pair) _ (fun s v => solGateOff_pair s v s.now) _ s

theorem gateOnAll_pair (s : State) : (gateOnAll s).pair = s.pair := by
  simp only [gateOnAll, forEach_keeps (·.pair) _ motGateOn_pair, forEach_keeps (·.pair) _ solGateOn_pair]

theorem regate_pair (was : Bool) (s : State) : (regate was s).pair = s.pair := by
  unfold regate; split
  · exact gateOffAll_pair s
  · split
    · exact gateOnAll_pair s
    · rfl

theorem sweepAbort_pair (s : State) (n : Nat) : (sweepAbort s n).pair = s.pair := by
  unfold sweepAbort; split <;> simp [sweepFinish]

/-- Without the pair gate the sweeps end, which leaves the pair alone. -/
theorem sweepsEnd_pair (s : State) : (if s.pair.gate then s else forEach (upTo 8) s sweepAbort).pair = s.pair := by
  split
  · rfl
  · exact forEach_keeps (·.pair) _ sweepAbort_pair _ _

/-- The pair gate changes its own two fields and no other of the pair's (R28). -/
theorem pairGate_pair (s : State) : (pairGate s).pair =
    { s.pair with gate := s.pair.ownOut && !s.pair.peerOwn,
                  gateAt := if s.pair.ownOut && !s.pair.peerOwn then some (s.pair.gateAt.getD s.now) else none } :=
  (sweepsEnd_pair _).trans (regate_pair _ _)

section
variable (s : State) (b : Bool)

theorem setOwn_st : (setOwn s b).pair.st = s.pair.st := by rw [setOwn, pairGate_pair]

theorem setOwn_epoch : (setOwn s b).pair.epoch = s.pair.epoch := by rw [setOwn, pairGate_pair]

end

/-! ## Entries into pair states (R354) -/

section
variable (s : State) (st : PairSt) (ph : Phase)

theorem pairEnter_st : (pairEnter s st ph).pair.st = st := by
  unfold pairEnter; split
  · next h => exact h.1
  · simp

theorem pairEnter_epoch : (pairEnter s st ph).pair.epoch = s.pair.epoch := by
  unfold pairEnter; split
  · rfl
  · simp

end

theorem pairEnter_other {s : State} {st : PairSt} {ph : Phase} (h : s.pair.st ≠ st) : pairEnter s st ph =
    logEv { s with pair := { s.pair with st := st, phase := ph, waitAt := none, t3At := none } } (srcDev 4) .pairState (4 * st.code + ph.code) :=
  if_neg fun k => h k.1

/-- A unit that becomes ACTIVE is so with the raised epoch (R355, R356). -/
theorem becomeActive_pair (s : State) :
    (becomeActive s).pair.st = .active ∧ (becomeActive s).pair.epoch = max s.pair.epoch s.pair.peerEpoch + 1 := by
  simp only [becomeActive]
  split
  · exact ⟨(setOwn_st ..).trans (pairEnter_st ..), (setOwn_epoch ..).trans (pairEnter_epoch ..)⟩
  · exact ⟨pairEnter_st .., pairEnter_epoch ..⟩

/-! ## Frames of the link (R345) -/

section
variable {s : State} {t : Nat} {h : PairHdr} (hp : isPaired s = true) (hc : coreRuns s = true)
include hp hc

theorem takeLink_bad (hb : h.crcOk = false) : takeLink (setNow s t) t h =
    ({ setNow s t with pair := { s.pair with crcErrors := satInc 16 s.pair.crcErrors } }, false) :=
  (if_neg (by simp [show isPaired (setNow s t) = true from hp, show coreRuns (setNow s t) = true from hc])).trans (if_neg (by simp [hb]))

theorem takeLink_good (hb : h.crcOk = true) : takeLink (setNow s t) t h =
    ({ setNow s t with pair := { s.pair with lastFrame := some t, peerEpoch := max s.pair.peerEpoch h.epoch } }, true) :=
  (if_neg (by simp [show isPaired (setNow s t) = true from hp, show coreRuns (setNow s t) = true from hc])).trans (if_pos hb)

end

section
variable {c : Instr} {t : Nat} {s : State}

/-- A refused command shows pair_state (R354). -/
theorem effect_pairRefuse (h : exec c s = .next (pairRefuse s)) :
    Effect c s [] [(.pairStatus, 0)] (fun u => regB u .pairStatus 0 19 = true) :=
  .intro h ((Within.refl s).then_stick _ _ _ (by simp)) (regB_stick_same _ _ _ (by simp))

end

end Sys2Proof.Machine
end

section
/-!
Health and the meeting of two spares (O52, O53).
-/
namespace Sys2Proof.Machine

open Sys2Proof

/-- A compare mismatch was declared in the last 10 s (R364). -/
theorem recentMismatch_iff (s : State) :
    (match s.pair.lastMis with | some m => decide (s.now < m + 10 * secNs) | none => false) = true ↔
      ∃ m, s.pair.lastMis = some m ∧ s.now < m + 10 * secNs := by
  cases s.pair.lastMis with
  | none => simp
  | some m => simp

/-- The conditions of DEGRADED (R364). -/
def lessThanGood (s : State) (f : Nat) : Prop :=
  f ≠ 0 ∨ (∃ m, s.pair.lastMis = some m ∧ s.now < m + 10 * secNs) ∨ s.pair.alignOff = true ∨
    ∃ q ∈ s.pair.wickD, s.now < q.1 + 10 * secNs

/-- The conditions of BAD (R364). -/
def notHealthy (s : State) (f : Nat) : Prop := severeOf s f = true ∨ selftestBad s = true ∨ s.snf.active = true

/-- The three cases of an evaluation, in their order (R364). -/
theorem healthNow_cases (s : State) (f : Nat) :
    (notHealthy s f ∧ healthNow s f = .bad) ∨ (¬ notHealthy s f ∧ lessThanGood s f ∧ healthNow s f = .degraded) ∨
    (¬ notHealthy s f ∧ ¬ lessThanGood s f ∧ healthNow s f = .good) := by
  have hbad : (severeOf s f || selftestBad s || s.snf.active) = true ↔ notHealthy s f := by simp [notHealthy, or_assoc]
  have hmin : (f != 0 || (match s.pair.lastMis with | some m => decide (s.now < m + 10 * secNs) | none => false) || s.pair.alignOff ||
      s.pair.wickD.any (fun q => decide (s.now < q.1 + 10 * secNs))) = true ↔ lessThanGood s f := by
    rw [Bool.or_eq_true, Bool.or_eq_true, Bool.or_eq_true, recentMismatch_iff]
    simp [lessThanGood, or_assoc]
  by_cases hb : notHealthy s f
  · exact .inl ⟨hb, if_pos (hbad.mpr hb)⟩
  · have hb' := mt hbad.mp hb
    by_cases hm : lessThanGood s f
    · exact .inr (.inl ⟨hb, hm, (if_neg hb').trans (if_pos (hmin.mpr hm))⟩)
    · exact .inr (.inr ⟨hb, hm, (if_neg hb').trans (if_neg (mt hmin.mp hm))⟩)

/-- Settles O53: the three cases exclude each other and leave nothing out. -/
theorem healthOfAUnit : Obligations.HealthOfAUnit := by
  refine ⟨fun f s => ?bad, fun f s => ?degraded, fun f s => ?good⟩ <;>
    rcases healthNow_cases s f with ⟨hb, h⟩ | ⟨hb, hm, h⟩ | ⟨hb, hm, h⟩ <;> rw [h]
  case bad.inl => exact iff_of_true rfl hb
  case bad.inr.inl => exact iff_of_false (by simp) hb
  case bad.inr.inr => exact iff_of_false (by simp) hb
  case degraded.inl => exact iff_of_false (by simp) fun k => k.1 hb
  case degraded.inr.inl => exact iff_of_true rfl ⟨hb, hm⟩
  case degraded.inr.inr => exact iff_of_false (by simp) fun k => hm k.2
  case good.inl => exact iff_of_false (by simp) fun k => k.1 hb
  case good.inr.inl => exact iff_of_false (by simp) fun k => k.2 hm
  case good.inr.inr => exact iff_of_true rfl ⟨hb, hm⟩

/-- Two units in SPARE (WAIT): this one becomes ACTIVE when the hashes are equal and it wins, else it stays (R355). -/
theorem pairMeet_spares {s : State} {c : Control} (hs : s.pair.st = .spare) (hw : s.pair.phase = .wait) (hr : relit s = false)
    (hp : peerCtl s = some c) (hcs : c.st = .spare) (hcw : c.phase = .wait) (hi : s.pair.idConflict = false) (hh : collHeld s = false) :
    pairMeet s = if compatible s c = true ∧ winsMeet s c = true then becomeActive s else s := by
  simp [pairMeet, hp, hs, hw, hr, hcs, hcw, hi, hh]

/-- Settles O52: the winner's epoch is the raised one, since what becoming ACTIVE does after that leaves it alone. -/
theorem meetingOfSpares : Obligations.MeetingOfSpares := by
  refine ⟨fun c s hs hw hr hp hcs hcw hi hh hc hwin => ?wins, fun c s hs hw hr hp hcs hcw hi hh hlose => ?stays⟩
  case wins =>
    have hwin' : winsMeet s c = true := by simpa [winsMeet] using hwin
    rw [pairMeet_spares hs hw hr hp hcs hcw hi hh, if_pos ⟨hc, hwin'⟩]
    exact becomeActive_pair s
  case stays =>
    rw [pairMeet_spares hs hw hr hp hcs hcw hi hh, if_neg]
    rintro ⟨hc, hwin⟩
    simp only [winsMeet, Bool.or_eq_true, decide_eq_true_eq, Bool.and_eq_true, beq_iff_eq, Bool.not_eq_true'] at hwin
    rcases hlose with h | h | ⟨h, hb⟩
    · simp [hc] at h
    · omega
    · simp [hb] at hwin; omega

end Sys2Proof.Machine
end

section
/-!
SUPPORT. Operations of PAIR_CMD, the pair's timers and its self-test (R354, R362, R370).
-/
namespace Sys2Proof.Machine

open Sys2Proof

section
variable {t : Ns} {s : State}

theorem exec_autoClaim {f : Ns} (hf : s.pair.claimFrom = some f) (hr : regB s .pairCfg 0 2 = true)
    (ht : f + regF s .pairCfg 0 3 8 * secNs ≤ t) (hs : s.pair.st = .spare) (hc : claimOk (setNow s t) = true) :
    exec (.autoClaim t) s = .next (becomeActive (setNow s t)) := by
  change execAutoClaim t s = _
  simp only [execAutoClaim, setNow_pair, hf]
  exact congrArg _ (if_pos ⟨hr, ht, hs, hc⟩)

theorem exec_shadowComplete (hs : s.pair.st = .spare) (hp : s.pair.phase = .shadow) (ht : s.pair.shadowAt + 10 * secNs ≤ t)
    (hh : s.pair.health ≠ .bad) :
    exec (.shadowComplete t) s = .next (modPair (pairEnter (setNow s t) .standby .wait) (fun p => { p with gap := false })) :=
  congrArg _ (if_pos ⟨hs, hp, ht, hh⟩)

/-! ## Silence of the link (R352, R354) -/

section
variable {u : State} (hp : isPaired s = true) (hc : coreRuns s = true) (hl : pairLinkUp (setNow s t) = false)
  (hu : (if s.pair.findings.testBit 8 then showFindings (setNow s t) (s.pair.findings ||| 256)
    else logEv (showFindings (setNow s t) (s.pair.findings ||| 256)) (srcDev 4) .pairFinding 256) = u)
include hp hc hl hu

/-- A silent link is a finding; a STANDBY, and a SPARE past WAIT, starts again (R354). -/
theorem exec_pairLinkSilence : exec (.pairLinkSilence t) s =
    .next (if s.pair.st = .standby ∨ (s.pair.st = .spare ∧ s.pair.phase ≠ .wait) then pairWait u else u) := by
  subst hu
  exact if_pos ⟨hp, hc, hl⟩

theorem exec_pairLinkSilence_standby (hs : s.pair.st = .standby) : exec (.pairLinkSilence t) s = .next (pairWait u) :=
  (exec_pairLinkSilence hp hc hl hu).trans (congrArg _ (if_pos (.inl hs)))

theorem exec_pairLinkSilence_spare (hs : s.pair.st = .spare) (hw : s.pair.phase ≠ .wait) :
    exec (.pairLinkSilence t) s = .next (pairWait u) :=
  (exec_pairLinkSilence hp hc hl hu).trans (congrArg _ (if_pos (.inr ⟨hs, hw⟩)))

theorem exec_pairLinkSilence_active (hs : s.pair.st = .active) : exec (.pairLinkSilence t) s = .next u :=
  (exec_pairLinkSilence hp hc hl hu).trans (congrArg _ (if_neg (by simp [hs])))

end

/-! ## Self-test (R362) -/

section
variable {x : TestStage} (hp : isPaired s = true) (hs : s.pair.st = .standby ∨ s.pair.st = .spare)
  (hb : s.pair.selftest.testBit x.bit = true)
include hp hs hb

theorem exec_selftestStage_passed : exec (.selftestStage t x true) s =
    .next { setNow s t with pair := { s.pair with selftest := s.pair.selftest - 1 <<< x.bit } } := by
  refine (if_pos ⟨hp, hs⟩).trans ((if_pos rfl).trans ?_)
  simp only [modPair, setNow_pair, hb, if_true]

theorem exec_selftestStage_failed : exec (.selftestStage t x false) s = .next { setNow s t with pair :=
    { s.pair with selftest := s.pair.selftest ||| 1 <<< x.bit, eccFatal := s.pair.eccFatal || x == .scrub,
                  health := if x.bit < 25 then .bad else s.pair.health } } :=
  (if_pos ⟨hp, hs⟩).trans ((if_neg Bool.false_ne_true).trans (congrArg _ (if_pos hb)))

end

end

end Sys2Proof.Machine
end

section
/-!
Operations of PAIR_CMD and the pair's timers complete with their effects (O31).
-/
namespace Sys2Proof.Machine

open Sys2Proof

/-- Settles O31, clause by clause from the equations above. -/
theorem pairOperationsComplete : Obligations.PairOperationsComplete := by
  refine ⟨?claim, ?claimRefused, ?cede, ?cedeRefused, ?reset, ?resetRefused, ?resyncStandby, ?resyncSpare, ?resyncRefused, ?clear,
    ?autoClaim, ?shadow, ?shadowEffect, ?oldStandby, ?oldSpare, ?oldActive, ?newStandby, ?newSpare, ?newActive, ?passStandby, ?failStandby,
    ?passSpare, ?failSpare⟩
  case claim => exact fun s h => congrArg Host.Outcome.next (if_pos h)
  case claimRefused => exact fun s h => effect_pairRefuse (congrArg Host.Outcome.next (if_neg (by simp [h])))
  case cede => exact fun s h => .intro (congrArg Host.Outcome.next (if_pos h)) ((Within.refl s).then_pair _ (by simp)) rfl
  case cedeRefused => exact fun s h => effect_pairRefuse (congrArg Host.Outcome.next (if_neg h))
  case reset => exact fun s h hf ha => congrArg Host.Outcome.next (if_pos ⟨h, hf, ha⟩)
  case resetRefused => exact fun s h => effect_pairRefuse (congrArg Host.Outcome.next (if_neg fun k => h k.1))
  case resyncStandby => exact fun s h => congrArg Host.Outcome.next (if_pos (.inl h))
  case resyncSpare => exact fun s h => congrArg Host.Outcome.next (if_pos (.inr h))
  case resyncRefused => exact fun s h1 h2 => effect_pairRefuse (congrArg Host.Outcome.next (if_neg fun k => k.elim h1 h2))
  case clear => exact fun s => .intro rfl ((Within.refl s).then_pair _ (by simp)) rfl
  case autoClaim => exact fun t f s hf hr ht hs hc => exec_autoClaim hf hr ht hs hc
  case shadow => exact fun t s hs hp ht hh => exec_shadowComplete hs hp ht hh
  case shadowEffect =>
    intro t s hs hp ht hh
    refine ⟨_, exec_shadowComplete hs hp ht hh, ?_⟩
    simp [modPair, pairEnter_other (s := setNow s t) (st := .standby) (ph := .wait) (by simp [hs])]
  case oldStandby => exact fun t s hp hc hl hs hb => exec_pairLinkSilence_standby hp hc hl (if_pos hb) hs
  case oldSpare => exact fun t s hp hc hl hs hw hb => exec_pairLinkSilence_spare hp hc hl (if_pos hb) hs hw
  case oldActive => exact fun t s hp hc hl hs hb => exec_pairLinkSilence_active hp hc hl (if_pos hb) hs
  case newStandby => exact fun t s hp hc hl hs hb => exec_pairLinkSilence_standby hp hc hl (if_neg (by simp [hb])) hs
  case newSpare => exact fun t s hp hc hl hs hw hb => exec_pairLinkSilence_spare hp hc hl (if_neg (by simp [hb])) hs hw
  case newActive => exact fun t s hp hc hl hs hb => exec_pairLinkSilence_active hp hc hl (if_neg (by simp [hb])) hs
  case passStandby => exact fun t x s hp hs hb => effect_setNow_pair (exec_selftestStage_passed hp (.inl hs) hb)
  case failStandby => exact fun t x s hp hs hb => effect_setNow_pair (exec_selftestStage_failed hp (.inl hs) hb)
  case passSpare => exact fun t x s hp hs hb => effect_setNow_pair (exec_selftestStage_passed hp (.inr hs) hb)
  case failSpare => exact fun t x s hp hs hb => effect_setNow_pair (exec_selftestStage_failed hp (.inr hs) hb)

end Sys2Proof.Machine
end

section
/-!
SUPPORT. Diagnosis, release, take-over and collision of a pair (R352, R357 to R361), each where it acts.
-/
namespace Sys2Proof.Machine

open Sys2Proof

section
variable {t : Ns} {s : State}

/-! ## PEER_OWN (R354, R357) -/

section
variable (hs : s.pair.st = .standby) (hp : isPaired s = true) {u : State}
  (hu : pairGate { setNow s t with pair := { s.pair with peerOwn := false, collAt := if s.pair.ownOut then none else s.pair.collAt } } = u)
include hs hp hu

/-- A STANDBY that may take over begins the wait (R357). -/
theorem exec_peerOwnFall_waits (hm : mirrorFresh (setNow s t) = true) (hh : s.pair.health ≠ .bad) (ha : s.snf.active = false) :
    exec (.peerOwnFall t) s = .next (modPair u (fun p => { p with waitAt := some t })) := by
  subst hu
  exact (if_pos ⟨hs, hp⟩).trans (if_pos ⟨hm, hh, ha⟩)

/-- A STANDBY that may not take over refuses (R354). -/
theorem exec_peerOwnFall_refuses (h : mirrorFresh (setNow s t) = false ∨ s.pair.health = .bad ∨ s.snf.active = true) :
    exec (.peerOwnFall t) s = .next (logEv (stick (pairWait u) .pairStatus 0 18) (srcDev 4) .pairState 0) := by
  subst hu
  refine (if_pos ⟨hs, hp⟩).trans (if_neg ?_)
  rintro ⟨hm, hh, ha⟩
  rcases h with h | h | h
  · simp [h] at hm
  · exact hh h
  · simp [h] at ha

end

section
variable {u : State} (hu : pairGate { setNow s t with pair := { s.pair with peerOwn := true } } = u)
include hu

theorem exec_peerOwnRise_idle (hw : u.pair.waitAt = none) : exec (.peerOwnRise t) s = .next u := by
  subst hu
  change execPeerOwnRise t s = _
  simp only [execPeerOwnRise, modPair, setNow_pair, hw]

/-- PEER_OWN that rises within the wait ends it (R357). -/
theorem exec_peerOwnRise_glitch {w : Ns} (hw : u.pair.waitAt = some w) (ht : t ≤ w + 200 * usNs) :
    exec (.peerOwnRise t) s = .next (stick (modPair u (fun p => { p with waitAt := none })) .pairStatus 0 14) := by
  subst hu
  change execPeerOwnRise t s = _
  simp only [execPeerOwnRise, modPair, setNow_pair, hw, if_pos ht]

end

/-! ## The wait and t5 (R356 to R359) -/

theorem exec_takeoverWaitEnd {w : Ns} (hw : s.pair.waitAt = some w) (ht : w + 200 * usNs ≤ t) (hs : s.pair.st = .standby)
    (hp : s.pair.peerOwn = false) (ha : s.snf.active = false) : exec (.takeoverWaitEnd t) s = .next (setOwn { setNow s t with pair :=
      { s.pair with waitAt := none, t3At := some t, epoch := max s.pair.epoch s.pair.peerEpoch + 1 } } true) := by
  change execTakeoverWaitEnd t s = _
  simp only [execTakeoverWaitEnd, setNow_pair, hw]
  exact congrArg _ (if_pos ⟨ht, hs, hp, ha⟩)

section
variable {a : Ns} (ha : s.pair.t3At = some a) (ht : a ≤ t) (hf : t % frameNs = 0) (hg : s.pair.gate = true)
  (hs : s.pair.st = .standby)
include ha ht hf hg hs

omit ha in
theorem not_takeoverT5_held : ¬ (t < a ∨ t % frameNs ≠ 0 ∨ (setNow s t).pair.gate = false ∨ (setNow s t).pair.st ≠ .standby) := by
  simp [hf, hg, hs, ht]

/-- At t5 the frame's commands are released (R358). -/
theorem exec_takeoverT5_noSet (hm : (t5Taken s t).pair.applied = none) :
    exec (.takeoverT5 t) s = .next (releaseCmds (t5Taken s t) t) := by
  change execTakeoverT5 t s = _
  simp only [execTakeoverT5, setNow_pair, ha]
  refine (if_neg (not_takeoverT5_held ht hf hg hs)).trans ?_
  split
  · rfl
  · next m h => exact absurd (h.symm.trans hm) (by simp)

/-- A unit that has applied a set resumes its ports and its lamplighter from it, and sends its credits (R359, R360). -/
theorem exec_takeoverT5_set {m : MirrorSet} (hm : (t5Taken s t).pair.applied = some m) : exec (.takeoverT5 t) s =
    .next (creditsFrom (lltGoLive (m.sols.foldl (fun s p => solResume s p.1 t p.2) (m.motors.foldl (fun s p =>
      motMirrorResume (setMot s p.1 ((motOf s p.1).mirrored p.2)) p.1 t (mirrorStamp s p.1 m.frame)) (releaseCmds (t5Taken s t) t))) m) m) := by
  change execTakeoverT5 t s = _
  simp only [execTakeoverT5, setNow_pair, ha]
  refine (if_neg (not_takeoverT5_held ht hf hg hs)).trans ?_
  split
  · next h => exact absurd (h.symm.trans hm) (by simp)
  · next n h =>
    obtain rfl : n = m := Option.some.inj (h.symm.trans hm)
    rfl

end

/-! ## Collision (R361) -/

section
variable (ho : s.pair.ownOut = true) (hp : s.pair.peerOwn = true)
include ho hp

section
variable (hd : isPaired s = true) {u : State} (hu : logEv (stick { setNow s t with pair := { s.pair with collAt := some t } }
  .pairStatus 0 12) (srcDev 4) .pairCollision 0 = u)
include hd hu

/-- Both units own: what the unit does then depends on an ID conflict and on which it is (R361). -/
theorem exec_collision : exec (.collision t) s =
    .next (if s.pair.idConflict then collFail u else if isB s then pairWait (setOwn u false) else pairGate u) := by
  subst hu
  exact if_pos ⟨ho, hp, hd⟩

end

theorem exec_collisionTimeout {c : Ns} (hc : s.pair.collAt = some c) (ht : c + 2 * msNs ≤ t) :
    exec (.collisionTimeout t) s = .next (collFail (setNow s t)) := by
  change execCollisionTimeout t s = _
  simp only [execCollisionTimeout, setNow_pair, hc]
  exact congrArg _ (if_pos ⟨ht, ho, hp⟩)

end

end

end Sys2Proof.Machine
end

section
/-!
Diagnosis, release, take-over and collision of a pair complete with their effects (O32).
-/
namespace Sys2Proof.Machine

open Sys2Proof

/-- Settles O32, clause by clause from the equations above. -/
theorem pairTakeoverComplete : Obligations.PairTakeoverComplete := by
  refine ⟨?diagnosis, ?lockstep, ?sameLand, ?otherLand, ?waits, ?refuses, ?falls, ?rises, ?glitch, ?waitEnd, ?noSet, ?set, ?conflict, ?unitB,
    ?unitA, ?timeout⟩
  case diagnosis => exact fun t s hc hd ht hf => congrArg Host.Outcome.next (if_pos ⟨hc, hd, ht, hf⟩)
  case lockstep => exact fun t s hc hh => congrArg Host.Outcome.next (if_pos ⟨hc, hh⟩)
  case sameLand => exact fun t b s h => effect_setNow_pair (congrArg Host.Outcome.next (if_neg fun k => k h))
  case otherLand => exact fun t b s h => congrArg Host.Outcome.next (if_pos h)
  case waits => exact fun t s hs hp hm hh ha => exec_peerOwnFall_waits hs hp rfl hm hh ha
  case refuses => exact fun t s hs hp h => exec_peerOwnFall_refuses hs hp rfl h
  case falls => exact fun t s hs => if_neg fun k => hs k.1
  case rises => exact fun t s hw => exec_peerOwnRise_idle rfl hw
  case glitch => exact fun t w s hw ht => exec_peerOwnRise_glitch rfl hw ht
  case waitEnd => exact fun t w s hw ht hs hp ha => exec_takeoverWaitEnd hw ht hs hp ha
  case noSet => exact fun t a s ha ht hf hg hs hm => exec_takeoverT5_noSet ha ht hf hg hs hm
  case set => exact fun t a m s ha ht hf hg hs hm => exec_takeoverT5_set ha ht hf hg hs hm
  case conflict => exact fun t s ho hp hd hi => (exec_collision ho hp hd rfl).trans (congrArg _ (if_pos hi))
  case unitB =>
    exact fun t s ho hp hd hi hb => (exec_collision ho hp hd rfl).trans (congrArg _ ((if_neg (by simp [hi])).trans (if_pos hb)))
  case unitA =>
    exact fun t s ho hp hd hi hb => (exec_collision ho hp hd rfl).trans
      (congrArg _ ((if_neg (by simp [hi])).trans (if_neg (by simp [hb]))))
  case timeout => exact fun t c s hc ht ho hp => exec_collisionTimeout ho hp hc ht

end Sys2Proof.Machine
end

section
/-!
SUPPORT. Frames of the pair link, sets, copies and lanterns (R345 to R349, R356, R365, R366), each where it acts.
-/
namespace Sys2Proof.Machine

open Sys2Proof

section
variable {t : Ns} {h : PairHdr} {s : State}

/-! ## Frames received -/

section
variable (hp : isPaired s = true) (hc : coreRuns s = true)
include hp hc

section
variable (hb : h.crcOk = false)
include hb

theorem exec_lanternReceive_bad (l : Lantern) : exec (.lanternReceive t h l) s =
    .next { setNow s t with pair := { s.pair with crcErrors := satInc 16 s.pair.crcErrors } } := by
  change execLanternReceive t h l s = _
  simp only [execLanternReceive, takeLink_bad hp hc hb, Bool.false_eq_true, if_false]

theorem exec_controlFrame_bad (l : Control) : exec (.controlFrameReceive t h l) s =
    .next { setNow s t with pair := { s.pair with crcErrors := satInc 16 s.pair.crcErrors } } := by
  change execControlFrameReceive t h l s = _
  simp only [execControlFrameReceive, takeLink_bad hp hc hb, Bool.not_false, if_true]

theorem exec_mirrorFrame_bad (m : MirrorSet) : exec (.mirrorFrameReceive t h m) s =
    .next { setNow s t with pair := { s.pair with crcErrors := satInc 16 s.pair.crcErrors } } := by
  change execMirrorFrameReceive t h m s = _
  simp only [execMirrorFrameReceive, takeLink_bad hp hc hb, Bool.not_false, true_or, if_true]

theorem exec_copyFrame_bad (m : MirrorSet) : exec (.copyFrameReceive t h m) s =
    .next { setNow s t with pair := { s.pair with crcErrors := satInc 16 s.pair.crcErrors } } := by
  change execCopyFrameReceive t h m s = _
  simp only [execCopyFrameReceive, takeLink_bad hp hc hb, Bool.not_false, true_or, if_true]

end

section
variable (hg : h.crcOk = true)
include hg

theorem exec_lanternReceive_good (l : Lantern) : exec (.lanternReceive t h l) s = .next { setNow s t with pair :=
    { s.pair with lastFrame := some t, peerEpoch := max (max s.pair.peerEpoch h.epoch) l.epoch, lan := some l } } := by
  change execLanternReceive t h l s = _
  simp only [execLanternReceive, takeLink_good hp hc hg, if_true, modPair]

/-- A CONTROL frame of a peer that asks for no copy and conflicts with nothing: the state table meets it (R354, R357). -/
theorem exec_controlFrame_meets {l : Control} (ha : (l.st == .spare && l.phase == .copy) = false) (hid : l.pairId ≠ isB s)
    (hi : s.pair.idConflict = false) (hw : s.pair.waitAt = none) : exec (.controlFrameReceive t h l) s =
      .next (pairPatch (pairMeet { setNow s t with pair := { s.pair with
        lastFrame := some t, ctl := some l, peerEpoch := max (max s.pair.peerEpoch h.epoch) l.epoch, copyAsked := s.pair.copyAsked } }) l) := by
  change execControlFrameReceive t h l s = _
  simp only [execControlFrameReceive, takeLink_good hp hc hg, Bool.not_true, Bool.false_eq_true, if_false, modPair, ha, Bool.false_and,
    Bool.or_false]
  have hid' : l.pairId ≠ s.snf.straps.testBit 0 := hid
  simp only [isB, setNow_snf, hid', hi, hw, false_and, if_false, Bool.false_eq_true]

section
variable {m : MirrorSet} (he : s.pair.epoch ≤ h.epoch)
include he

/-! ## Mirror frames (R347, R356) -/

section
variable (hs : s.pair.st = .standby) (ha : s.pair.asm = none)
include hs ha

/-- The first frame of a set begins its assembly (R347). -/
theorem exec_mirrorFrame_first : exec (.mirrorFrameReceive t h m) s =
    if arrived [(h.offset, h.len)] h.total then
      .next (if h.totalOk then setComplete { setNow s t with pair := { s.pair with
          lastFrame := some t, peerEpoch := max s.pair.peerEpoch h.epoch, asm := some (h.set, [(h.offset, h.len)]) } } m
        else { setNow s t with pair := { s.pair with lastFrame := some t, peerEpoch := max s.pair.peerEpoch h.epoch, asm := none } })
    else .next { setNow s t with pair := { s.pair with
      lastFrame := some t, peerEpoch := max s.pair.peerEpoch h.epoch, asm := some (h.set, [(h.offset, h.len)]) } } := by
  change execMirrorFrameReceive t h m s = _
  simp only [execMirrorFrameReceive, takeLink_good hp hc hg, modPair, ha]
  exact if_neg (by simp [takesSets, hs, Nat.not_lt.mpr he])

end

/-! ## Copy frames (R366) -/

section
variable (hs : s.pair.st = .spare) (hy : s.pair.phase = .copy)
include hs hy

theorem exec_copyFrame : exec (.copyFrameReceive t h m) s =
    if arrived ((h.offset, h.len) :: s.pair.copyAsm) h.total then
      .next (if h.totalOk then { setNow s t with pair := { s.pair with
          lastFrame := some t, peerEpoch := max s.pair.peerEpoch h.epoch, copyAsm := (h.offset, h.len) :: s.pair.copyAsm,
          copied := some m, copyDone := true } }
        else copyFail { setNow s t with pair := { s.pair with
          lastFrame := some t, peerEpoch := max s.pair.peerEpoch h.epoch, copyAsm := (h.offset, h.len) :: s.pair.copyAsm } })
    else .next { setNow s t with pair := { s.pair with
      lastFrame := some t, peerEpoch := max s.pair.peerEpoch h.epoch, copyAsm := (h.offset, h.len) :: s.pair.copyAsm } } := by
  change execCopyFrameReceive t h m s = _
  simp only [execCopyFrameReceive, takeLink_good hp hc hg, modPair]
  exact if_neg (by simp [hs, hy, Nat.not_lt.mpr he])

end

end

end

end

/-! ## What is sent and applied -/

/-- A lantern goes out, on the pair link where the unit is paired; its bits collect anew (R365). -/
theorem effect_lanternSend {c : Instr} (hx : exec c s = .next (lanternSend (setNow s t))) : Effect c s [.time, .pair, .mkt] [] (fun u =>
    u.now = max s.now t ∧
    u.pair = { s.pair with linkSeq := (s.pair.linkSeq + (if isPaired s then 1 else 0)) % 2 ^ 32, lanSeq := (s.pair.lanSeq + 1) % 65536,
                           seenLan := s.pair.findings, missLan := 0, eccLan := 0 } ∧
    u.mkt = { s.mkt with
      sent := .lantern s.hld.str.ident.lanternAddr 0xFFFF (if isPaired s then some s.pair.linkSeq else none)
        (lanternNow (setNow s t)) :: s.mkt.sent }) :=
  .intro hx (((((Within.refl s).then_setNow t (by simp)).then_pair _ (by simp)).then_mkt _ (by simp)).then_pair _ (by simp)) ⟨rfl, rfl, rfl⟩

/-- A complete copy is applied with the sets behind it, and the unit shadows (R366). -/
theorem exec_copyComplete {m : MirrorSet} (hs : s.pair.st = .spare) (hy : s.pair.phase = .copy) (hm : s.pair.copied = some m)
    (hd : s.pair.copyDone = true) : exec (.copyComplete t true) s =
      .next (modPair (pairEnter ((s.pair.behind.filter (fun x => decide (m.frame < x.frame))).foldl applySet (applySet (setNow s t) m)) .spare .shadow)
        (fun p => { p with shadowAt := max s.now t, copyAsm := [], copyDone := false, behind := [], copied := none, streak := [] })) := by
  change execCopyComplete t true s = _
  simp only [execCopyComplete]
  rw [if_pos ⟨hs, hy⟩]
  simp only [Bool.not_true, Bool.false_eq_true, if_false, setNow_pair, hm, hd, setNow_now]

theorem exec_copyRetry {r : Ns} (hr : s.pair.retryAt = some r) (ht : r ≤ t) : exec (.copyRetry t) s = .next (pairMeet (setNow s t)) := by
  change execCopyRetry t s = _
  simp only [execCopyRetry, setNow_pair, hr, if_pos ht]

end

end Sys2Proof.Machine
end

section
/-!
The pair link: frames, sets, copies and lanterns complete with their effects (O33).
-/
namespace Sys2Proof.Machine

open Sys2Proof

/-- Settles O33, clause by clause from the equations above. -/
theorem pairLinkComplete : Obligations.PairLinkComplete := by
  refine ⟨?badLantern, ?badControl, ?badMirror, ?badCopy, ?lantern, ?lanternSend, ?control, ?mirror, ?mirrorLast, ?copyLast, ?copy, ?copyBad,
    ?copyDone, ?retry, ?apply, ?close, ?closeCopy⟩
  case badLantern => exact fun t h l s hp hc hb => effect_setNow_pair (exec_lanternReceive_bad hp hc hb l)
  case badControl => exact fun t h l s hp hc hb => effect_setNow_pair (exec_controlFrame_bad hp hc hb l)
  case badMirror => exact fun t h m s hp hc hb => effect_setNow_pair (exec_mirrorFrame_bad hp hc hb m)
  case badCopy => exact fun t h m s hp hc hb => effect_setNow_pair (exec_copyFrame_bad hp hc hb m)
  case lantern => exact fun t h l s hp hc hg => effect_setNow_pair (exec_lanternReceive_good hp hc hg l)
  case lanternSend =>
    exact fun t s hc hh h6 => effect_lanternSend (c := .lanternSend t) (congrArg Host.Outcome.next
      (if_pos (by simp [show coreRuns (setNow s t) = true from hc, hh, h6])))
  case control => exact fun t h l s hp hc hg ha hid hi hw => exec_controlFrame_meets hp hc hg ha hid hi hw
  case mirror =>
    exact fun t h m s hp hc hg hs he ha hr =>
      effect_setNow_pair ((exec_mirrorFrame_first hp hc hg he hs ha).trans (if_neg (by simp [hr])))
  case mirrorLast =>
    exact fun t h m s hp hc hg hs he ha hr ho =>
      (exec_mirrorFrame_first hp hc hg he hs ha).trans ((if_pos hr).trans (congrArg _ (if_pos ho)))
  case copyLast =>
    exact fun t h m s hp hc hg hs hy he hr ho =>
      effect_setNow_pair ((exec_copyFrame hp hc hg he hs hy).trans ((if_pos hr).trans (congrArg _ (if_pos ho))))
  case copy =>
    exact fun t h m s hp hc hg hs hy he hr => effect_setNow_pair ((exec_copyFrame hp hc hg he hs hy).trans (if_neg (by simp [hr])))
  case copyBad => exact fun t s hs hy => (if_pos ⟨hs, hy⟩).trans (if_pos rfl)
  case copyDone => exact fun t m s hs hy hm hd => exec_copyComplete hs hy hm hd
  case retry => exact fun t r s hr ht => exec_copyRetry hr ht
  case apply => exact fun t s ht => congrArg Host.Outcome.next (if_pos ht)
  case close =>
    exact fun t s hs hp hf ha => (if_pos ⟨hs, hp, hf⟩).trans (congrArg _ (if_neg (by simp [ha])))
  case closeCopy => exact fun t s hs hp hf ha => (if_pos ⟨hs, hp, hf⟩).trans (congrArg _ (if_pos ha))

end Sys2Proof.Machine
end

section
/-!
SUPPORT. Boot instants, outputs, dormant mode (R393 to R399), the snuffer and the watchdog (R401 to R408), the thermal supervisor
(R410 to R416): each command where it acts.
-/
namespace Sys2Proof.Machine

open Sys2Proof

/-! ## Boot (R391 to R399) -/

section
variable {t : Ns} {s : State}

section
variable (hv : s.snf.vaux = true) (hp : s.snf.powerGood = false)
include hv hp

theorem exec_powerGood_inOrder (hr : thermalRuns (coreReturn (setNow s t)) = true) :
    exec (.powerGood t true) s = .next (startBoot (coreReturn (setNow s t))) :=
  congrArg Host.Outcome.next ((if_pos (by simp [hv, hp])).trans (if_pos hr))

theorem exec_powerGood_outOfOrder {u : State} (hu : logEv (stick (coreReturn (setNow s t)) .snfReset 0 4) (srcDev 2) .seqFault = u)
    (hr : thermalRuns u = true) : exec (.powerGood t false) s = .next (startBoot u) := by
  subst hu
  exact congrArg Host.Outcome.next ((if_pos (by simp [hv, hp])).trans (if_pos hr))

end

section
variable (hs : s.snf.stage = 3) (hb : s.snf.heldBoot = false) (hc : s.hld.committed = false)
include hs hb hc

theorem exec_streamLoad : exec (.streamLoad t) s =
    .next (if (loadStream (setNow s t)).hld.cand.isSome then bootStage (loadStream (setNow s t)) 4 else loadStream (setNow s t)) :=
  congrArg Host.Outcome.next (if_pos ⟨hs, hb, hc⟩)

end

theorem exec_streamCommit {x : Structure} (hx : s.hld.cand = some x) (hs : s.snf.stage = 5) :
    exec (.streamCommit t) s = .next (irqBoot (bootStage (commit (setNow s t) x) 6)) := by
  change execStreamCommit t s = _
  simp only [execStreamCommit, setNow_hld, hx]
  exact congrArg _ (if_pos hs)

/-! ## Outputs (R394) -/

theorem exec_outputEnable_waits (hk : enableOk (setNow s t) = false) : exec (.outputEnable t) s = .next { setNow s t with snf :=
    { s.snf with enableLate := s.snf.enableLate || decide (s.snf.stage = 7) } } := congrArg Host.Outcome.next (if_pos (by simp [hk]))

section
variable (hk : enableOk (setNow s t) = true)
include hk

theorem exec_outputEnable_enables (h : s.snf.enableLate = false ∨ t % frameNs = 0) :
    exec (.outputEnable t) s = .next (enableOutputs (setNow s t)) := by
  refine congrArg Host.Outcome.next ((if_neg (by simp [hk])).trans (if_neg ?_))
  rintro ⟨hl, ht⟩
  rcases h with h | h
  · exact Bool.false_ne_true (h.symm.trans hl)
  · exact ht h

/-- Outputs that could not be enabled at t8 wait for a frame boundary (R394). -/
theorem exec_outputEnable_offFrame (hl : s.snf.enableLate = true) (ht : t % frameNs ≠ 0) :
    exec (.outputEnable t) s = .next (setNow s t) := congrArg Host.Outcome.next ((if_neg (by simp [hk])).trans (if_pos ⟨hl, ht⟩))

end

/-! ## Dormant mode (R399) -/

theorem exec_wakeTimer (he : regB s .snfWake 0 0 = true) (hn : 0 < regF s .snfWake 0 8 24)
    (ht : s.snf.dormSince + regF s .snfWake 0 8 24 * secNs ≤ t) : exec (.wakeTimer t) s = .next (wakeUp (setNow s t)) := by
  change execWakeTimer t s = _
  have he' : regB (setNow s t) .snfWake 0 0 = true := he
  have hn' : 0 < regF (setNow s t) .snfWake 0 8 24 := hn
  have ht' : (setNow s t).snf.dormSince + regF (setNow s t) .snfWake 0 8 24 * secNs ≤ t := ht
  simp only [execWakeTimer, he', hn', ht', decide_true, Bool.and_self, if_true]

theorem exec_wakeWick {w : Fin 64} (he : regB s .snfWake 0 1 = true) (hw : regF s .snfWake 0 2 6 = w.val) (h52 : w.val < 52)
    (hn : 0 < (regW s .snfWakeTicks).toNat)
    (hm : (regW s .snfWakeTicks).toNat ≤ (wrap48 ((wickOf s w).count - (wickOf s w).dormEntry)).natAbs) :
    exec (.wakeWick w t) s = .next (wakeUp (setNow s t)) := by
  refine congrArg Host.Outcome.next (if_pos ?_)
  have he' : regB (setNow s t) .snfWake 0 1 = true := he
  have hw' : regF (setNow s t) .snfWake 0 2 6 = w.val := hw
  have hn' : 0 < (regW (setNow s t) .snfWakeTicks).toNat := hn
  have hm' : (regW (setNow s t) .snfWakeTicks).toNat ≤ (wrap48 ((wickOf (setNow s t) w).count - (wickOf (setNow s t) w).dormEntry)).natAbs := hm
  simp only [he', hw', h52, hn', hm', beq_self_eq_true, decide_true, Bool.and_self]

end

/-! ## The snuffer (R401 to R407) -/

section
variable {c : Instr} {s : State}

theorem effect_snfResult {op r : Nat} (h : exec c s = .next (snfResult s op r)) :
    Effect c s [.snf] [] (fun u => u.snf = { s.snf with result := r, resultOp := op }) :=
  .intro h ((Within.refl s).then_snf _ (by simp)) rfl

end

section
variable {t : Ns} {s : State}

theorem snfRelease_inactive (h : s.snf.active = false) : snfRelease s = snfResult s 2 0 := if_pos (by simp [h])

section
variable (ha : s.snf.active = true)
include ha

theorem snfRelease_held (hh : releaseHeld s = true) : snfRelease s = snfResult s 2 1 := (if_neg (by simp [ha])).trans (if_pos hh)

theorem snfRelease_released (hh : releaseHeld s = false) :
    snfRelease s = snfResult (modSnf (snufferRelease s) (fun x => { x with relAt := some s.now })) 2 0 :=
  (if_neg (by simp [ha])).trans (if_neg (by simp [hh]))

end

/-! ## Supplies (R401, R404) -/

section
variable {r : Rail} {v : Nat} (hv : s.snf.vaux = true)
include hv

/-- A reading inside its window ends that rail's part of the condition; another rail's part stays. -/
theorem exec_supplyFault_inside (hr : railOut r v = false) (ho : s.snf.railBad.filter (fun p => p.1 != r) ≠ []) :
    exec (.supplyFault t r v) s =
      .next { setNow s t with snf := { s.snf with railBad := s.snf.railBad.filter (fun p => p.1 != r) } } := by
  refine (if_neg (by simp [hv])).trans ((if_pos (by simp [hr])).trans (congrArg _ (if_neg ?_)))
  simpa using ho

/-- A core rail outside its window triggers the snuffer and takes the core domain down (R396, R401). -/
theorem exec_supplyFault_core (hr : railOut r v = true) (hn : r ≠ .vaux) (hc : s.snf.corePowered = true) :
    exec (.supplyFault t r v) s = .next (corePowerOff (snufferTrigger (setHold (modSnf (setNow s t)
      (fun x => { x with railBad := (r, v) :: s.snf.railBad.filter (fun p => p.1 != r) })) 3 true) 3)) := by
  refine (if_neg (by simp [hv])).trans ((if_neg (by simp [hr])).trans ((if_neg ?_).trans ?_))
  · rintro ⟨-, h, -⟩
    exact Bool.false_ne_true (h.symm.trans hc)
  · cases r with
    | vaux => exact absurd rfl hn
    | _ => rfl

end

/-! ## The watchdog (R407) -/

theorem exec_watchdogRestart (ha : s.snf.wdArmed = true) (hh : s.mgt.halted = false) (hf : s.framed = true) (hw : s.snf.wdFrame < s.frame) :
    exec (.watchdogRestart t) s = .next { setNow s t with snf := { s.snf with wdLast := t, wdFrame := s.frame } } :=
  congrArg Host.Outcome.next (if_pos (by simp [ha, hh, hf, hw]))

theorem exec_watchdogExpiry {u : State} (ho : wdOver s t = true) (hu : logEv (snufferTrigger { setNow s t with snf :=
    { s.snf with wdArmed := false, expiries := satInc 16 s.snf.expiries } } 1) (srcDev 2) .watchdogExpired = u)
    (hr : regB u .snfWdog 0 14 = false) : exec (.watchdogExpiry t) s = .next u := by
  subst hu
  exact congrArg Host.Outcome.next ((if_pos ho).trans (if_neg (Bool.eq_false_iff.mp hr)))

/-! ## The thermal supervisor (R410 to R414) -/

/-- A state whose sensors are those of `setSens s i x` differs in sensor i alone, and there shows x. -/
theorem onlySens_of_thr {u : State} {i : Nat} {x : Sensor} (h : u.thr = (setSens s i x).thr) : OnlySens i s u ∧ sensOf u i = x := by
  have hk : ∀ k, sensOf u k = sensOf (setSens s i x) k := fun k => by rw [sensOf, sensOf, h]
  exact ⟨⟨fun j hj => (hk j).trans (setSens_ne s x hj), by rw [h]; rfl⟩, (hk i).trans (setSens_same s i x)⟩

section
variable {i : Fin 32} {r : TempReading} (hv : s.snf.vaux = true)
include hv

theorem exec_thermalConversion_stale (hs : sensStale (setNow s t) i = true) :
    exec (.thermalConversion i t r) s = .next (setSens (setNow s t) i { sensOf s i with cls := .stale }) :=
  (if_neg (by simp [hv])).trans (if_pos hs)

section
variable (hs : sensStale (setNow s t) i = false) {hot : Bool}
  (hh : (decide (i.val < 24) && decide (degC 120 ≤ (sensOf (takeSensor (setNow s t) i r) i).checked)) = hot) {u : State}
  (hu : setSens (takeSensor (setNow s t) i r) i { sensOf (takeSensor (setNow s t) i r) i with hotOnce := hot } = u)
include hs hh hu

/-- A reading is taken; the second hot one in a row shuts a running device down, a CS sensor's steps the states (R413). -/
theorem exec_thermalConversion_taken : exec (.thermalConversion i t r) s =
    .next (if hot && (sensOf s i).hotOnce && (u.thr.st == .normal || u.thr.st == .throttling) then thermalShutdown u i
      else if i.val < 16 then thermalStep u else u) := by
  subst hh hu
  exact (if_neg (by simp [hv])).trans (if_neg (by simp [hs]))

end

end

section
variable {a : Ns} {u : State} (ha : s.thr.coolAt = some a) (hc : s.thr.st = .cooling) (ht : a + 60 * secNs ≤ t)
  (hu : modHist { setNow s t with thr := { s.thr with st := .normal, coolAt := none } } (fun h => { h with auto := true }) = u)
include ha hc ht hu

theorem exec_thermalRestart :
    exec (.thermalRestart t) s = .next (noteRestart (thermalBoot (if releaseHeld u then u else snufferRelease u))) := by
  subst hu
  change execThermalRestart t s = _
  simp only [execThermalRestart, setNow_thr, ha]
  exact congrArg _ (if_pos ⟨hc, ht⟩)

end

theorem exec_pmbusPowerRead {p : Nat} (hh : s.mgt.halted = false) : exec (.pmbusPowerRead t p) s =
    .next { setNow s t with thr := { s.thr with pIn := if s.hld.str.pmbus then sat 16 p else 0 } } :=
  congrArg Host.Outcome.next (if_neg (by simp [hh]))

end

end Sys2Proof.Machine
end

section
/-!
The boot, the snuffer and the thermal supervisor complete with their effects (O34, O35, O36).
-/
namespace Sys2Proof.Machine

open Sys2Proof

/-- Settles O34, clause by clause from the equations above. -/
theorem bootCommandsComplete : Obligations.BootCommandsComplete := by
  refine ⟨?good, ?outOfOrder, ?pll, ?pllBad, ?firmware, ?dram, ?load, ?noLoad, ?chain, ?commit, ?restore, ?enable, ?late, ?notYet, ?auxPor,
    ?sysReset, ?power, ?dormant, ?dormantRefused, ?entered, ?timer, ?wick⟩
  case good => exact fun t s hv hp hr => exec_powerGood_inOrder hv hp hr
  case outOfOrder => exact fun t s hv hp hr => exec_powerGood_outOfOrder hv hp rfl hr
  case pll => exact fun t s hp hs => congrArg Host.Outcome.next (if_pos ⟨hp, hs⟩)
  case pllBad => exact fun t s hp hs => congrArg Host.Outcome.next (if_pos ⟨hp, hs⟩)
  case firmware => exact fun t s hs => congrArg Host.Outcome.next (if_pos hs)
  case dram => exact fun t s hs => congrArg Host.Outcome.next (if_pos hs)
  case load => exact fun t s hs hb hc hx => (exec_streamLoad hs hb hc).trans (congrArg _ (if_pos hx))
  case noLoad => exact fun t s hs hb hc hx => (exec_streamLoad hs hb hc).trans (congrArg _ (if_neg (by simp [hx])))
  case chain => exact fun t s hs => congrArg Host.Outcome.next (if_pos hs)
  case commit => exact fun t x s hx hs => exec_streamCommit hx hs
  case restore => exact fun t s hs => congrArg Host.Outcome.next (if_pos hs)
  case enable => exact fun t s hk h => exec_outputEnable_enables hk h
  case late => exact fun t s hk hl ht => effect_setNow (exec_outputEnable_offFrame hk hl ht)
  case notYet => exact fun t s hk => effect_setNow_snf (exec_outputEnable_waits hk)
  case auxPor => exact fun t x s => rfl
  case sysReset => exact fun t x s hv => congrArg Host.Outcome.next (if_pos hv)
  case power => exact fun t s hl => congrArg Host.Outcome.next (if_pos hl)
  case dormant => exact fun s hr => congrArg Host.Outcome.next (if_neg (by simp [hr]))
  case dormantRefused => exact fun s hr => effect_snfResult (congrArg Host.Outcome.next (if_pos hr))
  case entered => exact fun t s he hw => congrArg Host.Outcome.next (if_pos (by simp [he, hw]))
  case timer => exact fun t s he hn ht => exec_wakeTimer he hn ht
  case wick => exact fun w t s he hw h52 hn hm => exec_wakeWick he hw h52 hn hm

/-- Settles O35, clause by clause from the equations above. -/
theorem snufferCommandsComplete : Obligations.SnufferCommandsComplete := by
  refine ⟨?snuff, ?releaseIdle, ?releaseHeld, ?release, ?coreReset, ?basket, ?safeN, ?pwrFail, ?safeNUp, ?pwrFailUp, ?inside, ?core, ?record,
    ?restart, ?expiry⟩
  case snuff => exact fun s => rfl
  case releaseIdle => exact fun s ha => effect_snfResult (congrArg Host.Outcome.next (snfRelease_inactive ha))
  case releaseHeld => exact fun s ha hh => effect_snfResult (congrArg Host.Outcome.next (snfRelease_held ha hh))
  case release => exact fun s ha hh => congrArg Host.Outcome.next (snfRelease_released ha hh)
  case coreReset => exact fun s hc hp => congrArg (fun u => Host.Outcome.next (snfResult u 3 0)) (if_neg (by simp [hc, hp]))
  case basket => exact fun t s => rfl
  case safeN => exact fun t s hv hn => congrArg Host.Outcome.next (if_pos (by simp [hv, hn]))
  case pwrFail => exact fun t s hv hn => congrArg Host.Outcome.next (if_pos (by simp [hv, hn]))
  case safeNUp => exact fun t s => effect_setNow_snf rfl
  case pwrFailUp => exact fun t s => effect_setNow_snf rfl
  case inside => exact fun t r v s hv hr ho => effect_setNow_snf (exec_supplyFault_inside hv hr ho)
  case core => exact fun t r v s hv hr hn hc => exec_supplyFault_core hv hr hn hc
  case record => exact fun t s hr => congrArg Host.Outcome.next (if_pos hr)
  case restart => exact fun t s ha hh hf hw => effect_setNow_snf (exec_watchdogRestart ha hh hf hw)
  case expiry => exact fun t s ho hr => exec_watchdogExpiry ho rfl hr

/-- Settles O36, from what a conversion, a restart and a power read do. -/
theorem thermalCommandsComplete : Obligations.ThermalCommandsComplete := by
  refine ⟨?stale, ?steps, ?taken, ?shutdown, ?restartHeld, ?restart, ?power, ?noPower⟩
  case stale =>
    intro i t r s hv hs
    obtain ⟨ho, hx⟩ := onlySens_of_thr (s := s) (u := setSens (setNow s t) i { sensOf s i with cls := .stale }) rfl
    exact .intro (exec_thermalConversion_stale hv hs)
      (((Within.refl s).then_setNow t (by simp)).then_thr _ (by simp)) ⟨rfl, ho, hx⟩
  case steps =>
    exact fun i t r s hv hs hh hi => (exec_thermalConversion_taken hv hs hh rfl).trans (congrArg _ (by simp [hi]))
  case taken =>
    exact fun i t r s hv hs hh hi => (exec_thermalConversion_taken hv hs hh rfl).trans
      (congrArg _ (by simp [Nat.not_lt.mpr hi]))
  case shutdown =>
    exact fun i t r s hv hs hh ho hr => (exec_thermalConversion_taken hv hs hh rfl).trans
      (congrArg _ (if_pos (by simpa [ho] using hr)))
  case restartHeld =>
    exact fun t a s ha hc ht hr => (exec_thermalRestart ha hc ht rfl).trans (by rw [if_pos hr])
  case restart =>
    exact fun t a s ha hc ht hr => (exec_thermalRestart ha hc ht rfl).trans (by rw [if_neg (Bool.eq_false_iff.mp hr)])
  case power =>
    exact fun t p s hh hp => effect_setNow_thr ((exec_pmbusPowerRead hh).trans (by rw [if_pos hp]))
  case noPower =>
    exact fun t p s hh hp => effect_setNow_thr ((exec_pmbusPowerRead hh).trans (by rw [if_neg (by simp [hp])]))

end Sys2Proof.Machine
end

section
/-!
SUPPORT. READ and WRITE datagrams that are handled (R463 to R465), and their latches.
-/
namespace Sys2Proof.Machine

open Sys2Proof

section
variable {t : Ns} {d : Dgram} {a k l : Nat} {s : State} (hr : fwRuns (setNow s t) = true) (hi : (identNow (setNow s t)).isSome = true)
  (ha : authOf (setNow s t) d = some (k, l)) (hl : 1 ≤ l)
include hr hi ha hl

section
variable {n : Nat}

theorem exec_datagramRead_run (h0 : 0 < n) (h1 : n ≤ 100) {r : State × List W32 × Acc}
    (h : readRun (endRequest (acceptDgram (setNow s t) d k)) (dgramReq (acceptDgram (setNow s t) d k) d l) (a % 2 ^ 32) n = r) :
    exec (.datagramRead t d a n) s = .next (respond (endRequest r.1) d (keyIn (setNow s t) k) r.2.2.code r.2.1) := by
  subst h
  change Host.Outcome.next (withDgram (setNow s t) d 1 _) = _
  rw [withDgram_handled _ d 1 k l _ hr hi ha hl rfl]
  simp only [if_neg (show ¬ (n = 0 ∨ 100 < n) by omega)]

theorem exec_datagramRead_range (hn : n = 0 ∨ 100 < n) :
    exec (.datagramRead t d a n) s = .next (respond (acceptDgram (setNow s t) d k) d (keyIn (setNow s t) k) Acc.range.code []) := by
  change Host.Outcome.next (withDgram (setNow s t) d 1 _) = _
  rw [withDgram_handled _ d 1 k l _ hr hi ha hl rfl]
  simp only [if_pos hn]

end

section
variable {ws : List W32}

theorem exec_datagramWrite_range (hn : ws.length = 0 ∨ 100 < ws.length) :
    exec (.datagramWrite t d a ws) s = .next (respond (acceptDgram (setNow s t) d k) d (keyIn (setNow s t) k) Acc.range.code []) := by
  change Host.Outcome.next (withDgram (setNow s t) d 1 _) = _
  rw [withDgram_handled _ d 1 k l _ hr hi ha hl rfl]
  simp only [if_pos hn]

variable (hn : ¬ (ws.length = 0 ∨ 100 < ws.length))
include hn

theorem exec_datagramWrite_denied {x : Nat} (hd : deniedAt l (a % 2 ^ 32) ws = some x) : exec (.datagramWrite t d a ws) s =
    .next (respond (report (acceptDgram (setNow s t) d k) (dgramReq (acceptDgram (setNow s t) d k) d l) x .denied) d
      (keyIn (setNow s t) k) Acc.denied.code []) := by
  change Host.Outcome.next (withDgram (setNow s t) d 1 _) = _
  rw [withDgram_handled _ d 1 k l _ hr hi ha hl rfl]
  simp only [if_neg hn, hd]

theorem exec_datagramWrite_run (hd : deniedAt l (a % 2 ^ 32) ws = none) {r : State × List Acc}
    (h : writeRun (endRequest (acceptDgram (setNow s t) d k)) (dgramReq (acceptDgram (setNow s t) d k) d l) (a % 2 ^ 32) ws = r) :
    exec (.datagramWrite t d a ws) s = .next (respond (if r.2.length < ws.length then noteChange (endRequest r.1) d else endRequest r.1) d
      (keyIn (setNow s t) k) (r.2.head?.getD .ok).code []) := by
  subst h
  change Host.Outcome.next (withDgram (setNow s t) d 1 _) = _
  rw [withDgram_handled _ d 1 k l _ hr hi ha hl rfl]
  simp only [if_neg hn, hd]

end

end

/-! ## Latches (R463) -/

/-- The state s with other latches. -/
def withLatches (s : State) (a b : List (Nat × W32)) (e : Option (Nat × Option EvRec)) : State :=
  { s with glb := { s.glb with rdLatch := a, wrLatch := b, evLatch := e } }

/-- No latch stands. -/
def latchFree (s : State) : Prop := s.glb.rdLatch = [] ∧ s.glb.wrLatch = [] ∧ s.glb.evLatch = none

/-- A request begins with no latch, whatever stood before. -/
theorem endRequest_accept_withLatches (s : State) (t : Nat) (d : Dgram) (k : Nat) (a b : List (Nat × W32)) (e : Option (Nat × Option EvRec)) :
    endRequest (acceptDgram (setNow (withLatches s a b e) t) d k) = endRequest (acceptDgram (setNow s t) d k) := by
  unfold acceptDgram
  split <;> rfl

theorem dgramReq_accept_withLatches (s : State) (t : Nat) (d : Dgram) (k l : Nat) (a b : List (Nat × W32)) (e : Option (Nat × Option EvRec)) :
    dgramReq (acceptDgram (setNow (withLatches s a b e) t) d k) d l = dgramReq (acceptDgram (setNow s t) d k) d l := by
  unfold acceptDgram
  split <;> rfl

theorem respond_latchFree {s : State} (h : latchFree s) (d : Dgram) (key status : Nat) (ws : List W32) :
    latchFree (respond s d key status ws) := by
  unfold respond
  split <;> exact h

theorem noteChange_latchFree {s : State} (h : latchFree s) (d : Dgram) : latchFree (noteChange s d) := by
  simpa [latchFree, noteChange] using h

end Sys2Proof.Machine
end

section
/-!
Register accesses and the latches of a request (O26, O56).
-/
namespace Sys2Proof.Machine

open Sys2Proof

/-- An effect says less with a weaker claim of the new state. -/
theorem Effect.imp {c : Instr} {s : State} {ps : List Part} {rs : List (RegName × Nat)} {P Q : State → Prop} (h : Effect c s ps rs P)
    (hpq : ∀ u, P u → Q u) : Effect c s ps rs Q := by
  obtain ⟨u, hx, hf, hr, hp⟩ := h
  exact ⟨u, hx, hf, hr, hpq u hp⟩

section
variable {c : Instr} {a : Nat} {v : W32} {s : State} (hx : exec c s = .next (writeAddr s hostReq (a % 2 ^ 32) v).1)
include hx

/-- A write that reports a code and changes nothing else. -/
theorem effect_writeAddr_reported {code : Acc} (hc : code ≠ .ok)
    (h : writeAddr s hostReq (a % 2 ^ 32) v = (report s hostReq (a % 2 ^ 32) code, [code])) : Effect c s [.glb] [(.glbAccess, 0)] (fun u =>
      u.glb = { s.glb with accCode := code.code, accKind := false, accSender := 0x8000, accAddr := a % 2 ^ 32,
                           accCount := satInc 16 s.glb.accCount } ∧ regB u .glbAccess 0 5 = true) := by
  obtain ⟨within, hglb, hbit⟩ := report_only (s := s) (a := a % 2 ^ 32) hc
  exact .intro (by rw [hx, h]) within ⟨hglb, hbit⟩

/-- A write whose words are written. -/
theorem exec_writeAddr_words {ws : List (RegName × Nat × W32)}
    (h : writeAddr s hostReq (a % 2 ^ 32) v = writeWords s hostReq (a % 2 ^ 32) ws) :
    exec c s = .next (writeWords s hostReq (a % 2 ^ 32) ws).1 := by rw [hx, h]

/-- A write whose word waits for the high one. -/
theorem effect_writeAddr_held
    (h : writeAddr s hostReq (a % 2 ^ 32) v = ({ s with glb := { s.glb with wrLatch := spPut s.glb.wrLatch (a % 2 ^ 32) v } }, [])) :
    Effect c s [.glb] [] (fun u => u.glb = { s.glb with wrLatch := spPut s.glb.wrLatch (a % 2 ^ 32) v }) :=
  .intro (by rw [hx, h]) ((Within.refl s).then_glb _ (by simp)) rfl

end

/-- Settles O26: a write of a word and of a high word are one access of the host, and a handled datagram answers what its run does. -/
theorem registerAccessesComplete : Obligations.RegisterAccessesComplete := by
  have halign : ∀ {a : Nat}, a % 4 ≠ 0 → a % 2 ^ 32 % 4 ≠ 0 := fun h => by omega
  have haligned : ∀ {a : Nat}, a % 4 = 0 → a % 2 ^ 32 % 4 = 0 := fun h => by omega
  refine ⟨?align, ?unmapped, ?single, ?low, ?high, ?split, ?alignH, ?unmappedH, ?singleH, ?lowH, ?highH, ?splitH, ?readAlign, ?readLow,
    ?readSingle, ?window, ?readRun, ?readRange, ?writeRange, ?writeRun, ?writeDenied⟩
  case align => exact fun a v s h => effect_writeAddr_reported rfl (by simp) (writeAddr_misaligned (halign h))
  case alignH => exact fun a v s h => effect_writeAddr_reported rfl (by simp) (writeAddr_misaligned (halign h))
  case unmapped => exact fun a v s h hd hv hw => effect_writeAddr_reported rfl (by simp) (writeAddr_unmapped (haligned h) hd hv hw)
  case unmappedH => exact fun a v s h hd hv hw => effect_writeAddr_reported rfl (by simp) (writeAddr_unmapped (haligned h) hd hv hw)
  case single => exact fun a v r i s h hd hh hl => exec_writeAddr_words rfl (writeAddr_single (haligned h) hd hh hl)
  case singleH => exact fun a v r i s h hd hh hl => exec_writeAddr_words rfl (writeAddr_single (haligned h) hd hh hl)
  case low => exact fun a v r p i s h hd hh hp => effect_writeAddr_held rfl (writeAddr_low (haligned h) hd hh hp)
  case lowH => exact fun a v r p i s h hd hh hp => effect_writeAddr_held rfl (writeAddr_low (haligned h) hd hh hp)
  case high => exact fun a v w r p i s h hd hh hl hp hw => exec_writeAddr_words rfl (writeAddr_high (haligned h) hd hh hl hp hw)
  case highH => exact fun a v w r p i s h hd hh hl hp hw => exec_writeAddr_words rfl (writeAddr_high (haligned h) hd hh hl hp hw)
  case split =>
    exact fun a v r p i s h hd hh hl hp hw =>
      (effect_writeAddr_reported rfl (by simp) (writeAddr_split (haligned h) hd hh hl hp hw)).imp fun u k => k.1
  case splitH =>
    exact fun a v r p i s h hd hh hl hp hw =>
      (effect_writeAddr_reported rfl (by simp) (writeAddr_split (haligned h) hd hh hl hp hw)).imp fun u k => k.1
  case readAlign =>
    intro a s h
    obtain ⟨within, hglb, hbit⟩ := report_only (s := s) (a := a % 2 ^ 32) (c := .align) (by simp)
    exact .intro (congrArg (fun x : State × W32 × Acc => Host.Outcome.next x.1) (readAddr_misaligned (halign h))) within ⟨hglb, hbit⟩
  case readLow =>
    exact fun a r p i s h hn hd hh => .intro (congrArg Host.Outcome.next (readAddr_low (haligned h) hn hd hh))
      ((Within.refl s).then_glb _ (by simp)) rfl
  case readSingle => exact fun a r i s h hn hd hh => effect_none (congrArg Host.Outcome.next (readAddr_single (haligned h) hn hd hh))
  case window => exact fun j s => .intro rfl ((Within.refl s).then_glb _ (by simp)) rfl
  case readRun => exact fun t d a n k l s hr hi ha hl h0 h1 => exec_datagramRead_run hr hi ha hl h0 h1 rfl
  case readRange => exact fun t d a n k l s hr hi ha hl hn => exec_datagramRead_range hr hi ha hl hn
  case writeRange => exact fun t d a k l ws s hr hi ha hl hn => exec_datagramWrite_range hr hi ha hl hn
  case writeRun =>
    exact fun t d a k l ws s hr hi ha hl hn hd h => (exec_datagramWrite_run hr hi ha hl hn hd rfl).trans (by rw [if_pos h])
  case writeDenied => exact fun t d a k l x ws s hr hi ha hl hn hd => exec_datagramWrite_denied hr hi ha hl hn hd

/-- Settles O56: a handled request begins and ends with no latch (R463). -/
theorem noRequestSeesAnotherLatch : Obligations.NoRequestSeesAnotherLatch := by
  refine ⟨fun t d a n k l x y e s hr hi ha hl h0 h1 => ?read, fun t d a k l ws x y e s hr hi ha hl h0 h1 hd => ?write⟩
  case read =>
    have h := exec_datagramRead_run (a := a) hr hi ha hl h0 h1 rfl
    refine ⟨.trans ?_ h.symm, _, h, commandsLeaveTheQueue.1 _ s _ h, respond_latchFree ⟨rfl, rfl, rfl⟩ ..⟩
    have hreq := dgramReq_accept_withLatches s t d k l x y e
    have hend := endRequest_accept_withLatches s t d k x y e
    exact exec_datagramRead_run (s := withLatches s x y e) hr hi ha hl h0 h1 (by rw [hreq, hend])
  case write =>
    have hn : ¬ (ws.length = 0 ∨ 100 < ws.length) := by omega
    have h := exec_datagramWrite_run (a := a) hr hi ha hl hn hd rfl
    refine ⟨.trans ?_ h.symm, _, h, commandsLeaveTheQueue.1 _ s _ h, respond_latchFree ?_ ..⟩
    · have hreq := dgramReq_accept_withLatches s t d k l x y e
      have hend := endRequest_accept_withLatches s t d k x y e
      exact exec_datagramWrite_run (s := withLatches s x y e) hr hi ha hl hn hd (by rw [hreq, hend])
    · split
      · exact noteChange_latchFree ⟨rfl, rfl, rfl⟩ d
      · exact ⟨rfl, rfl, rfl⟩

end Sys2Proof.Machine
end

section
/-!
SUPPORT. The Dulo monitor (R457 to R459): a line that arrives while the monitor runs, with the service latch open and closed.
-/
namespace Sys2Proof.Machine

open Sys2Proof

section
variable {s : State} {t : Ns} (hv : s.snf.vaux = true) (hh : s.mgt.halted = false)
include hv hh

/-- A line that arrives while the monitor runs is acted on in `monAt s t` (R457). -/
theorem monLine_runs (f : State → State) : monLine s t f = f (monAt s t) := if_pos (by simp [monRuns, hv, hh])

/-- A command that needs the service latch is refused while the latch is open (R458). -/
theorem monLatched_open (hl : s.mon.latched = false) (f : State → State × List Nat × MonEnd) :
    monLatched s t f = monRefuse (monAt s t) .service :=
  (monLine_runs hv hh _).trans (if_neg (Bool.eq_false_iff.mp hl))

section
variable (hl : s.mon.latched = true) {f : State → State × List Nat × MonEnd} {r : State × List Nat × MonEnd} (hf : f (monAt s t) = r)
include hl hf

/-- A command that acts under the latch answers and is recorded (R458). -/
theorem monLatched_acts (he : r.2.2 = .ok ∨ r.2.2 = .ready) :
    monLatched s t f = answer (logEv r.1 (partyOf .monitor) .latchedChange) r.2.1 r.2.2 := by
  subst hf
  exact (monLine_runs hv hh _).trans ((if_pos hl).trans (by simp only [if_pos he]))

/-- A command that fails under the latch answers its code and is not recorded (R458). -/
theorem monLatched_fails (he : r.2.2 ≠ .ok) (hr : r.2.2 ≠ .ready) : monLatched s t f = answer r.1 r.2.1 r.2.2 := by
  subst hf
  exact (monLine_runs hv hh _).trans ((if_pos hl).trans (by simp only [if_neg (not_or.mpr ⟨he, hr⟩)]))

end

end

end Sys2Proof.Machine
end

section
/-!
The lines of the Dulo monitor complete with their answers (O41, O42).
-/
namespace Sys2Proof.Machine

open Sys2Proof

/-- Settles O41: each line is acted on in the state in which it has arrived. -/
theorem monitorReadsComplete : Obligations.MonitorReadsComplete := by
  refine ⟨?help, ?id, ?status, ?rdCount, ?rd, ?evrCount, ?evr, ?snuff, ?baud1, ?baud2, ?baudBad, ?latchStrap, ?latchSerial, ?latch, ?unlatch,
    ?lineBreak, ?timeout⟩
  case help => exact fun t s hv hh => congrArg Host.Outcome.next (monLine_runs hv hh _)
  case id => exact fun t s hv hh => congrArg Host.Outcome.next (monLine_runs hv hh _)
  case status => exact fun t s hv hh => congrArg Host.Outcome.next (monLine_runs hv hh _)
  case rdCount => exact fun t a n s hv hh hn => congrArg Host.Outcome.next ((monLine_runs hv hh _).trans (if_pos hn))
  case rd => exact fun t a n s hv hh hn => congrArg Host.Outcome.next ((monLine_runs hv hh _).trans (if_neg hn))
  case evrCount => exact fun t n s hv hh hn => congrArg Host.Outcome.next ((monLine_runs hv hh _).trans (if_pos hn))
  case evr => exact fun t n s hv hh hn => congrArg Host.Outcome.next ((monLine_runs hv hh _).trans (if_neg hn))
  case snuff => exact fun t s hv hh => congrArg Host.Outcome.next (monLine_runs hv hh _)
  case baud1 => exact fun t s hv hh => congrArg Host.Outcome.next ((monLine_runs hv hh _).trans (if_pos rfl))
  case baud2 =>
    exact fun t s hv hh => congrArg Host.Outcome.next ((monLine_runs hv hh _).trans ((if_neg (by omega)).trans (if_pos rfl)))
  case baudBad =>
    exact fun t n s hv hh h1 h2 => congrArg Host.Outcome.next ((monLine_runs hv hh _).trans ((if_neg h1).trans (if_neg h2)))
  case latchStrap => exact fun t l s hv hh hb => congrArg Host.Outcome.next ((monLine_runs hv hh _).trans (if_pos hb))
  case latchSerial =>
    exact fun t l s hv hh hb hl =>
      congrArg Host.Outcome.next ((monLine_runs hv hh _).trans ((if_neg (ne_false_of_eq_true hb)).trans (if_pos hl)))
  case latch =>
    exact fun t l s hv hh hb hl =>
      congrArg Host.Outcome.next ((monLine_runs hv hh _).trans ((if_neg (ne_false_of_eq_true hb)).trans (if_neg (not_not_intro hl))))
  case unlatch => exact fun t s hv hh => congrArg Host.Outcome.next (monLine_runs hv hh _)
  case lineBreak =>
    exact fun t s hv hh => .intro (congrArg Host.Outcome.next (if_pos (by simp [monRuns, hv, hh])))
      (((Within.refl s).then_setNow t (by simp)).then_mon _ (by simp)) ⟨rfl, rfl⟩
  case timeout => exact fun t s ht hl => congrArg Host.Outcome.next ((if_pos ht).trans (if_pos hl))

/-- Settles O42: the latch open refuses, the latch closed acts and records. -/
theorem monitorLatchedComplete : Obligations.MonitorLatchedComplete := by
  refine ⟨?wrOpen, ?releaseOpen, ?resetOpen, ?wakeOpen, ?validateOpen, ?activateOpen, ?keyOpen, ?loadOpen, ?release, ?wake, ?reset, ?validate,
    ?activate, ?key, ?keyNone, ?loadKey, ?wr, ?blockIdle, ?blockBad, ?blockKey⟩
  case wrOpen => exact fun t a v s hv hh hl => congrArg Host.Outcome.next (monLatched_open hv hh hl _)
  case releaseOpen => exact fun t s hv hh hl => congrArg Host.Outcome.next (monLatched_open hv hh hl _)
  case resetOpen =>
    exact fun t s hv hh hl => congrArg Host.Outcome.next ((monLine_runs hv hh _).trans (if_neg (Bool.eq_false_iff.mp hl)))
  case wakeOpen => exact fun t s hv hh hl => congrArg Host.Outcome.next (monLatched_open hv hh hl _)
  case validateOpen => exact fun t s hv hh hl => congrArg Host.Outcome.next (monLatched_open hv hh hl _)
  case activateOpen => exact fun t s hv hh hl => congrArg Host.Outcome.next (monLatched_open hv hh hl _)
  case keyOpen => exact fun t i k l s hv hh hl => congrArg Host.Outcome.next (monLatched_open hv hh hl _)
  case loadOpen => exact fun t k s hv hh hl => congrArg Host.Outcome.next (monLatched_open hv hh hl _)
  case release => exact fun t s hv hh hl => congrArg Host.Outcome.next (monLatched_acts hv hh hl rfl (.inl rfl))
  case wake => exact fun t s hv hh hl => congrArg Host.Outcome.next (monLatched_acts hv hh hl rfl (.inl rfl))
  case reset => exact fun t s hv hh hl => congrArg Host.Outcome.next ((monLine_runs hv hh _).trans (if_pos hl))
  case validate =>
    exact fun t s hv hh hl hc => congrArg Host.Outcome.next (monLatched_acts hv hh hl (r := (imgValidate (monAt s t), [], .ok))
      (by simp only [if_pos hc]) (.inl rfl))
  case activate =>
    intro t s hv hh hl hr hval hp hi
    refine congrArg Host.Outcome.next (monLatched_acts hv hh hl (r := (imgActivate (monAt s t), [], .ok))
      ((if_neg (Bool.eq_false_iff.mp hr)).trans (if_neg ?_)) (.inl rfl))
    have hp' : ¬ (monAt s t).pair.st = .active := hp
    simp [hval, hi, hp']
  case key =>
    intro t i k l x s hv hh hl hk hn
    have hk' : (monAt s t).mon.key = some x := hk
    exact congrArg Host.Outcome.next (monLatched_acts hv hh hl (r := (putKey (monAt s t) i { key := natLE x, keyId := k, level := l }, [], .ok))
      (by simp only [hk', if_neg hn]) (.inl rfl))
  case keyNone =>
    intro t i k l s hv hh hl hk
    have hk' : (monAt s t).mon.key = none := hk
    exact congrArg Host.Outcome.next (monLatched_fails hv hh hl (r := (monAt s t, [], .result MgtCode.notStaged.code))
      (by simp only [hk']) (by simp) (by simp))
  case loadKey =>
    exact fun t s hv hh hl => congrArg Host.Outcome.next (monLatched_acts hv hh hl
      (r := (modMon (monAt s t) (fun m => { m with loading := some .key, bytes := [], key := none }), [], .ready)) (if_pos rfl) (.inr rfl))
  case wr =>
    intro t a v s hv hh hl hw
    refine congrArg Host.Outcome.next (monLatched_acts hv hh hl (r := (_, [], .ok)) ?_ (.inl rfl))
    exact Prod.ext rfl (Prod.ext rfl (by simp only [hw]))
  case blockIdle =>
    intro t a x c s hv hh hm
    have hm' : (monAt s t).mon.loading = none := hm
    exact congrArg Host.Outcome.next ((monLine_runs hv hh _).trans (by simp only [hm']))
  case blockBad =>
    intro t a x c k s hv hh hm hc
    have hm' : (monAt s t).mon.loading = some k := hm
    exact congrArg Host.Outcome.next ((monLine_runs hv hh _).trans (by simp only [hm', if_pos (Or.inl hc)]))
  case blockKey =>
    intro t a x c s hv hh hm hc h1 h2 h0
    have hm' : (monAt s t).mon.loading = some .key := hm
    refine congrArg Host.Outcome.next ((monLine_runs hv hh _).trans ?_)
    simp only [hm']
    refine (if_neg ?_).trans (if_neg h0)
    simp [hc, loadRoom, h1, h2]

end Sys2Proof.Machine
end

section
/-!
SUPPORT. Operations of the management processor (R389, R425, R441), which it does not do while it is halted, and those of the streaming
unit (R381, R382, R387).
-/
namespace Sys2Proof.Machine

open Sys2Proof

/-! ## Operations of the management processor -/

theorem unlessHalted_runs {s : State} (h : s.mgt.halted = false) (u : State) : unlessHalted s u = u := if_neg (Bool.eq_false_iff.mp h)

theorem unlessHalted_halted {s : State} (h : s.mgt.halted = true) (u : State) : unlessHalted s u = s := if_pos h

section
variable {c : Instr} {s : State} {u v : State} (hx : exec c s = .next (unlessHalted s u)) (hh : s.mgt.halted = false)
include hx hh

theorem exec_operation (hu : u = v) : exec c s = .next v := by rw [hx, unlessHalted_runs hh, hu]

/-- An operation that writes the streaming unit's record. -/
theorem effect_operation_hld {h : HldState} (hu : u = { s with hld := h }) : Effect c s [.hld] [] (fun u => u.hld = h) :=
  .intro (exec_operation hx hh hu) ((Within.refl s).then_hld _ (by simp)) rfl

/-- An operation that writes the management record. -/
theorem effect_operation_mgt {m : MgtState} (hu : u = { s with mgt := m }) : Effect c s [.mgt] [] (fun u => u.mgt = m) :=
  .intro (exec_operation hx hh hu) ((Within.refl s).then_mgt _ (by simp)) rfl

end

/-! ## Chunks (R381) -/

section
variable {t : Ns} {d : Dgram} {a k l : Nat} {b : Bool} {x : List Byte} {s : State} (hr : fwRuns (setNow s t) = true)
  (hi : (identNow (setNow s t)).isSome = true) (ha : authOf (setNow s t) d = some (k, l)) (hl : 3 ≤ l)
include hr hi ha hl

theorem exec_streamChunk_taken (h : (streamChunk (acceptDgram (setNow s t) d k) a b x).2 = 0) : exec (.streamChunk t d a b x) s =
    .next (respond (noteChange (streamChunk (acceptDgram (setNow s t) d k) a b x).1 d) d (keyIn (setNow s t) k) 0 []) := by
  change Host.Outcome.next (withDgram (setNow s t) d 3 _) = _
  rw [withDgram_handled _ d 3 k l _ hr hi ha hl rfl]
  simp only [h, if_true]

theorem exec_streamChunk_refused (h : (streamChunk (acceptDgram (setNow s t) d k) a b x).2 ≠ 0) : exec (.streamChunk t d a b x) s =
    .next (respond (streamChunk (acceptDgram (setNow s t) d k) a b x).1 d (keyIn (setNow s t) k)
      (streamChunk (acceptDgram (setNow s t) d k) a b x).2 []) := by
  change Host.Outcome.next (withDgram (setNow s t) d 3 _) = _
  rw [withDgram_handled _ d 3 k l _ hr hi ha hl rfl]
  simp only [if_neg h]

end

/-! ## Validation (R377) -/

section
variable {t : Ns} {m : StreamImg} {s : State} (hs : s.hld.staged = .validating) (hh : s.mgt.halted = false)
include hs hh

/-- What a validation that ends with the code c does. -/
theorem exec_validationComplete {c : HldCode} (hc : (if m.full || !stagedWhole s m then .format else validate s s.hld.str m) = c) :
    exec (.validationComplete t m) s = .next (
      if c = .ok then hldResult (modHld (setNow s t) (fun h => { h with staged := .valid, patch := some m })) 1 .ok
      else hldReject (modHld (setNow s t) (fun h => { h with staged := .receiving, patch := none })) 1 c) := by
  subst hc
  exact congrArg Host.Outcome.next (if_pos ⟨hh, hs⟩)

end

/-! ## Apply, persist, revalidate, apply (R382, R387) -/

theorem hldApply_refused {s : State} (h : applyCode s (reg64 s .hldApplyLo .hldApplyHi 0) ≠ .ok)
    (hn : applyCode s (reg64 s .hldApplyLo .hldApplyHi 0) ≠ .notStaged) :
    hldApply s = stick (hldResult s 2 (applyCode s (reg64 s .hldApplyLo .hldApplyHi 0))) .hldStatus 0 14 := by
  -- the match's last branch, since its discriminant is neither of the first two
  simp only [hldApply]

theorem hldDiscard_discards {s : State} (h : s.hld.staged = .receiving ∨ s.hld.staged = .validating ∨ s.hld.staged = .valid) :
    hldDiscard s = { s with hld := { s.hld with
      staged := .empty, bytes := [], patch := none, op := 6, code := HldCode.code .ok, section_ := 0, record := 0xFFFF } } := by
  rcases h with h | h | h <;> rw [hldDiscard, h] <;> rfl

section
variable {s : State} {m : StreamImg} (hm : s.hld.appliedImg = some m) (hu : s.hld.unpersisted = true)
include hm hu

theorem hldPersist_starts (hf : s.mgt.flash = none)
    (hr : ¬ (16 ≤ (bankOf s s.mgt.strB).length ∨ 33554432 < ((bankOf s s.mgt.strB).map (·.length)).sum + m.length)) :
    hldPersist s = { s with mgt := { s.mgt with flash := some (flashPersist, s.now) } } := by
  simp only [hldPersist, hm, hu, hf, hr, Option.isSome_none, Bool.true_eq_false, Bool.false_eq_true, if_false]

theorem hldPersist_busy (hf : s.mgt.flash.isSome = true) : hldPersist s = hldResult s 4 .busy := by
  simp only [hldPersist, hm, hu, hf, Bool.true_eq_false, if_false, if_true]

end

section
variable {t : Ns} {s : State} (hh : s.mgt.halted = false)
include hh

theorem exec_persistComplete_ok {a : Ns} {m : StreamImg} (hf : s.mgt.flash = some (0, a)) (hm : s.hld.appliedImg = some m) :
    exec (.persistComplete t true) s = .next (hldResult (modHld (setBank { setNow s t with mgt := { s.mgt with flash := none } } s.mgt.strB
      (bankOf s s.mgt.strB ++ [m]) (bankValid s s.mgt.strB)) (fun h => { h with unpersisted := false })) 4 .ok) := by
  have h : s.mgt.halted = (setNow s t).mgt.halted := rfl
  change execPersistComplete t true s = _
  simp only [execPersistComplete, unlessHalted_runs (h ▸ hh), setNow_mgt, setNow_hld, hf, hm, if_true]
  rfl

section
variable {m : StreamImg} (hm : s.hld.patch = some m) (hs : s.hld.staged = .pending) (hf : frameOf t + 1 = s.hld.fa)
include hm hs hf

/-- What a revalidation that ends with the code c does. -/
theorem exec_patchRevalidate {c : HldCode}
    (hc : (match validate s s.hld.str m with | .ok => if applyFrameBad s m s.hld.fa then .applyFrame else .ok | c => c) = c) :
    exec (.patchRevalidate t) s = .next (
      if c = .ok then hldResult (modHld (setNow s t) (fun h => { h with revalOk := true })) 3 .ok
      else hldReject (modHld (setNow s t) (fun h => { h with staged := .valid, peerPending := false, revalOk := false })) 3 c) := by
  have h : s.mgt.halted = (setNow s t).mgt.halted := rfl
  subst hc
  change execPatchRevalidate t s = _
  simp only [execPatchRevalidate, unlessHalted_runs (h ▸ hh), setNow_hld, hm]
  exact congrArg Host.Outcome.next (if_pos ⟨.inl hs, hf⟩)

end

end

theorem exec_patchApply {t : Ns} {m : StreamImg} {s : State} (hm : s.hld.patch = some m) (hs : s.hld.staged = .pending)
    (hr : s.hld.revalOk = true) (hn : max s.now t = s.hld.fa * frameNs) :
    exec (.patchApply t) s = .next (applyPatch (latchDue (setNow s t) false) m) := by
  change Host.Outcome.next (duePatch (setNow s t)) = _
  simp only [duePatch, setNow_hld, hm]
  exact congrArg Host.Outcome.next (if_pos ⟨hs, hr, hn⟩)

end Sys2Proof.Machine
end

section
/-!
The streaming unit's commands complete with their effects (O37).
-/
namespace Sys2Proof.Machine

open Sys2Proof

/-- Settles O37, by the state of the staged image and the code of each operation. -/
theorem streamCommandsComplete : Obligations.StreamCommandsComplete := by
  refine ⟨?chunk, ?chunkRefused, ?validateReceiving, ?validateValid, ?validateValidating, ?validateEmpty, ?validatePending, ?validateSwitch,
    ?valid, ?format, ?invalid, ?apply, ?applyNotStaged, ?applyRefused, ?cancel, ?cancelNotStaged, ?discardEmpty, ?discardPending, ?discardSwitch,
    ?discardReceiving, ?discardValidating, ?discardValid, ?persist, ?persistNone, ?persistBusy, ?persisted, ?revalidated, ?revalidateFails,
    ?applied, ?halted⟩
  case chunk => exact fun t d a k l b x s hr hi ha hl h => exec_streamChunk_taken hr hi ha hl h
  case chunkRefused => exact fun t d a k l b x s hr hi ha hl h => exec_streamChunk_refused hr hi ha hl h
  case validateReceiving => exact fun s hs hh => effect_operation_hld rfl hh (by rw [hldValidate, hs]; rfl)
  case validateValid => exact fun s hs hh => effect_operation_hld rfl hh (by rw [hldValidate, hs]; rfl)
  case validateValidating => exact fun s hs hh => effect_operation_hld rfl hh (by rw [hldValidate, hs]; rfl)
  case validateEmpty => exact fun s hs hh => effect_operation_hld rfl hh (by rw [hldValidate, hs]; rfl)
  case validatePending => exact fun s hs hh => effect_operation_hld rfl hh (by rw [hldValidate, hs]; rfl)
  case validateSwitch => exact fun s hs hh => effect_operation_hld rfl hh (by rw [hldValidate, hs]; rfl)
  case valid =>
    exact fun t m s hs hf hv hw hh => effect_setNow_hld (exec_validationComplete hs hh (c := .ok) (by simp [hf, hw, hv]))
  case format =>
    exact fun t m s hs hf hh => exec_validationComplete hs hh (c := .format) (if_pos (by simpa using hf))
  case invalid =>
    exact fun t m s hs hf hw hv hh =>
      (exec_validationComplete hs hh (c := validate s s.hld.str m) (by simp [hf, hw])).trans (congrArg _ (if_neg hv))
  case apply => exact fun s hc hh => effect_operation_hld rfl hh (by rw [hldApply, hc]; rfl)
  case applyNotStaged => exact fun s hc hh => effect_operation_hld rfl hh (by rw [hldApply, hc]; rfl)
  case applyRefused => exact fun s hc hn hh => exec_operation rfl hh (hldApply_refused hc hn)
  case cancel => exact fun s hs hh => effect_operation_hld rfl hh (if_pos hs)
  case cancelNotStaged => exact fun s hs hh => effect_operation_hld rfl hh (if_neg hs)
  case discardEmpty => exact fun s hs hh => effect_operation_hld rfl hh (by rw [hldDiscard, hs]; rfl)
  case discardPending => exact fun s hs hh => effect_operation_hld rfl hh (by rw [hldDiscard, hs]; rfl)
  case discardSwitch => exact fun s hs hh => effect_operation_hld rfl hh (by rw [hldDiscard, hs]; rfl)
  case discardReceiving => exact fun s hs hh => effect_operation_hld rfl hh (hldDiscard_discards (.inl hs))
  case discardValidating => exact fun s hs hh => effect_operation_hld rfl hh (hldDiscard_discards (.inr (.inl hs)))
  case discardValid => exact fun s hs hh => effect_operation_hld rfl hh (hldDiscard_discards (.inr (.inr hs)))
  case persist => exact fun m s hm hu hf hr hh => effect_operation_mgt rfl hh (hldPersist_starts hm hu hf hr)
  case persistNone => exact fun s hm hh => effect_operation_hld rfl hh (by rw [hldPersist, hm]; rfl)
  case persistBusy => exact fun m s hm hu hf hh => effect_operation_hld rfl hh (hldPersist_busy hm hu hf)
  case persisted => exact fun t a m s hf hm hh => exec_persistComplete_ok hh hf hm
  case revalidated =>
    exact fun t m s hm hs hf hv ha hh => effect_setNow_hld (exec_patchRevalidate hh hm hs hf (c := .ok) (by simp [hv, ha]))
  case revalidateFails =>
    intro t m s hm hs hf hv hh
    refine (exec_patchRevalidate hh hm hs hf (c := validate s s.hld.str m) ?_).trans (congrArg _ (if_neg hv))
    split
    · next h => exact absurd h hv
    · rfl
  case applied => exact fun t m s hm hs hr hn => exec_patchApply hm hs hr hn
  case halted =>
    exact fun s h => ⟨congrArg _ (unlessHalted_halted h _), congrArg _ (unlessHalted_halted h _), congrArg _ (unlessHalted_halted h _),
      congrArg _ (unlessHalted_halted h _), congrArg _ (unlessHalted_halted h _)⟩

end Sys2Proof.Machine
end

section
/-!
SUPPORT. Images, trials, keys and the OTP slots (R428 to R441): what the management operations do, by the state of the staged image, the
banks and the keys.
-/
namespace Sys2Proof.Machine

open Sys2Proof

/-! ## Images (R433 to R435) -/

section
variable {t : Ns} {d : Dgram} {a k l : Nat} {b : Bool} {x : List Byte} {s : State} (hr : fwRuns (setNow s t) = true)
  (hi : (identNow (setNow s t)).isSome = true) (ha : authOf (setNow s t) d = some (k, l)) (hl : 3 ≤ l)
include hr hi ha hl

theorem exec_imageChunk_taken (h : (imageChunk (acceptDgram (setNow s t) d k) a b x).2 = 0) : exec (.imageChunk t d a b x) s =
    .next (respond (noteChange (imageChunk (acceptDgram (setNow s t) d k) a b x).1 d) d (keyIn (setNow s t) k) 0 []) := by
  change Host.Outcome.next (withDgram (setNow s t) d 3 _) = _
  rw [withDgram_handled _ d 3 k l _ hr hi ha hl rfl]
  simp only [h, if_true]

theorem exec_imageChunk_refused (h : (imageChunk (acceptDgram (setNow s t) d k) a b x).2 ≠ 0) : exec (.imageChunk t d a b x) s =
    .next (respond (imageChunk (acceptDgram (setNow s t) d k) a b x).1 d (keyIn (setNow s t) k)
      (imageChunk (acceptDgram (setNow s t) d k) a b x).2 []) := by
  change Host.Outcome.next (withDgram (setNow s t) d 3 _) = _
  rw [withDgram_handled _ d 3 k l _ hr hi ha hl rfl]
  simp only [if_neg h]

end

section
variable {t : Ns} {s : State} (hi : s.mgt.img = .validating) (hh : s.mgt.halted = false)
include hi hh

/-- What the validation of a firmware image that ends with the code c does. -/
theorem exec_imgValidateComplete_fw {x : FwImage} {q : Option StreamImg} {c : MgtCode}
    (hc : (if imageWhole s x.length then checkFw s x else .format) = c) :
    exec (.imgValidateComplete t (some x) q) s = .next (
      if c = .ok then mgtResult (modMgt (setNow s t) (fun m => { m with img := .valid, imgFw := some x })) 1 .ok
      else mgtResult (modMgt (setNow s t) (fun m => { m with img := .receiving })) 1 c) := by
  subst hc
  exact congrArg Host.Outcome.next (if_pos ⟨hh, hi⟩)

theorem exec_imgValidateComplete_none : exec (.imgValidateComplete t none none) s =
    .next (mgtResult (modMgt (setNow s t) (fun m => { m with img := .receiving })) 1 .format) :=
  congrArg Host.Outcome.next (if_pos ⟨hh, hi⟩)

end

theorem imgLoad_busy {s : State} (h : s.mgt.img = .loading ∨ s.mgt.img = .validating) : imgLoad s = mgtResult s 2 .busy :=
  if_pos (h.imp_right .inl)

section
variable {s : State} (hf : s.mgt.flash = none)
include hf

theorem imgLoad_notStaged (h : s.mgt.img = .empty ∨ s.mgt.img = .receiving) : imgLoad s = mgtResult s 2 .notStaged := by
  rcases h with h | h <;> simp [imgLoad, h, hf]

/-- A firmware image goes into the bank that is not active, which is EMPTY from then on (R434). -/
theorem imgLoad_fw {x : FwImage} (hi : s.mgt.img = .valid) (hx : s.mgt.imgFw = some x) : imgLoad s =
    modMgt (mgtResult (modMgt s (fun m => { m with img := .loading, flash := some (flashLoad, s.now) })) 2 .running)
      (fun m => if m.fwB then { m with fwStA := .empty, fwA := none } else { m with fwStB := .empty, fwBImg := none }) := by
  simp only [imgLoad, hi, hf, hx, Option.isSome_none, reduceCtorEq, Bool.false_eq_true, or_false, if_false, if_true]

end

section
variable {t a : Ns} {s : State} (hf : s.mgt.flash = some (1, a)) (hh : s.mgt.halted = false)
include hf hh

/-- The bank read back matches: it is VALID (R428, R434). -/
theorem exec_imgLoadComplete_fw {x : FwImage} (hx : s.mgt.imgFw = some x) : exec (.imgLoadComplete t true) s =
    .next (mgtResult (modMgt (modMgt (setNow s t) (fun m => { m with flash := none, img := .valid })) (fun m =>
      if m.fwB then { m with fwStA := .valid, fwA := some x, lastLoad := some (false, false) }
      else { m with fwStB := .valid, fwBImg := some x, lastLoad := some (false, true) })) 2 .ok) := by
  have h : s.mgt.halted = (setNow s t).mgt.halted := rfl
  change execImgLoadComplete t true s = _
  simp only [execImgLoadComplete, unlessHalted_runs (h ▸ hh), setNow_mgt, hf, hx, if_true]

theorem exec_imgLoadComplete_fails : exec (.imgLoadComplete t false) s =
    .next (mgtResult (modMgt (setNow s t) (fun m => { m with flash := none, img := .valid })) 2 .flash) := by
  have h : s.mgt.halted = (setNow s t).mgt.halted := rfl
  change execImgLoadComplete t false s = _
  simp only [execImgLoadComplete, unlessHalted_runs (h ▸ hh), setNow_mgt, hf, Bool.false_eq_true, if_false]

end

section
variable {s : State}

theorem imgActivate_refused (h : lastValid s = false ∨ s.pair.st = .active ∨ portsIdle s = false) : imgActivate s = mgtResult s 3 .imgState :=
  if_pos (by rcases h with h | h | h <;> simp [h])

section
variable (hv : lastValid s = true) (hp : s.pair.st ≠ .active) (hi : portsIdle s = true) {b : Bool}
include hv hp hi

theorem not_imgActivate_refused : ¬ (!lastValid s || s.pair.st == .active || !portsIdle s) = true := by simp [hv, hp, hi]

theorem imgActivate_stream (hl : s.mgt.lastLoad = some (true, b)) :
    imgActivate s = coreReset (mgtResult (modMgt s (fun m => { m with strB := b })) 3 .ok) 0 :=
  (if_neg (not_imgActivate_refused hv hp hi)).trans (by simp only [hl])

theorem imgActivate_fw (hl : s.mgt.lastLoad = some (false, b)) : imgActivate s = coreReset (mgtResult (modMgt s (fun m =>
    { m with fwB := b, trialTry := false, fwStA := if b then m.fwStA else .trial, fwStB := if b then .trial else m.fwStB })) 3 .ok) 0 :=
  (if_neg (not_imgActivate_refused hv hp hi)).trans (by simp only [hl])

end

theorem imgDiscard_discards (h : s.mgt.img = .receiving ∨ s.mgt.img = .valid) : imgDiscard s = { s with mgt := { s.mgt with
    img := .empty, imgBytes := [], imgFw := none, imgStr := none, code := MgtCode.code .ok, op := 4 } } := by
  rcases h with h | h <;> rw [imgDiscard, h] <;> rfl

/-- A trial image that has run its 10 s is confirmed (R435). -/
theorem exec_trialConfirm {t a : Ns} (hr : fwRuns s = true) (ht : fwActive s = .trial) (hb : lookup s.snf.bootT 2 = some a)
    (ha : a + 10 * secNs ≤ t) (hw : s.snf.wdArmed = true) (h7 : s.hld.committed = true → 7 ≤ s.snf.stage) : exec (.trialConfirm t) s =
      .next (modMgt (setFw (setNow s t) s.mgt.fwB .confirmed) (fun m => { m with trialTry := false })) := by
  change execTrialConfirm t s = _
  simp only [execTrialConfirm, setNow_snf, hb]
  exact congrArg Host.Outcome.next (if_pos ⟨hr, ht, decide_eq_true ha, hw, h7⟩)

/-! ## Keys (R430, R431, R436) -/

section
variable {ps : List Part} {rs : List (RegName × Nat)} {t : State} (k : Within ps rs s t) (h : Part.mgt ∈ ps)
include k h

theorem Within.then_modMgt (f : MgtState → MgtState) : Within ps rs s (modMgt t f) := k.then_mgt _ h

theorem Within.then_mgtResult (op : Nat) (c : MgtCode) : Within ps rs s (mgtResult t op c) := k.then_modMgt h _

theorem Within.then_clearWrap : Within ps rs s (clearWrap t) := k.then_modMgt h _

theorem Within.then_putKey (hk : Part.mkt ∈ ps) (i : Nat) (x : MktKey) : Within ps rs s (putKey t i x) := (k.then_modMgt h _).then_mkt _ hk

end

/-- What an install writes: the slot and the sequence table of its key, or the refusal of a wrapped key that does not open (R436). -/
theorem keyInstall_effect (i k l a : Nat) : Within [.mgt, .mkt] [] s (keyInstall s i k l a) ∧
    (keyInstall s i k l a).mgt = (match Config.unwrapKey (kekOf s i k a) (wrapBytes s 40) with
      | some w => { s.mgt with keys := spPut s.mgt.keys i { key := w.toNat, keyId := k, level := l }, wrap := [], code := MgtCode.code .ok, op := 7 }
      | none => { s.mgt with wrap := [], code := MgtCode.code .keyWrap, op := 7 }) ∧
    (keyInstall s i k l a).mkt = (match Config.unwrapKey (kekOf s i k a) (wrapBytes s 40) with
      | some _ => { s.mkt with seqTab := s.mkt.seqTab.filter (fun p => p.1 / 65536 != i) }
      | none => s.mkt) := by
  unfold keyInstall
  cases Config.unwrapKey (kekOf s i k a) (wrapBytes s 40) with
  | none => exact ⟨((Within.refl s).then_mgtResult (by simp) _ _).then_clearWrap (by simp), rfl, rfl⟩
  | some w =>
    exact ⟨(((Within.refl s).then_putKey (by simp) (by simp) i _).then_mgtResult (by simp) _ _).then_clearWrap (by simp), rfl, rfl⟩

theorem enrol_service (q : Requester) {i : Nat} (h : serviceOk s = false) : enrol s q i = clearWrap (mgtResult s 9 .service) :=
  if_pos (by simp [h])

section
variable (q : Requester) {i : Nat} (h : serviceOk s = true)
include h

theorem enrol_refused (hi : i < 2 ∨ otpUse s i ≠ .empty) : enrol s q i = clearWrap (mgtResult s 9 .keyState) :=
  (if_neg (by simp [h])).trans (if_pos hi)

theorem enrol_taken (hi : 2 ≤ i) (he : otpUse s i = .empty) : enrol s q i = logEv (clearWrap (mgtResult (modMgt s
    (fun m => { m with otp := spPut m.otp i (.stream, natLE (wrapBytes s 64)) })) 9 .ok)) (partyOf q) .keyEnrolled i :=
  (if_neg (by simp [h])).trans (if_neg (not_or.mpr ⟨Nat.not_lt.mpr hi, not_not_intro he⟩))

/-- A stream key that another one outlives and that signs nothing in use is revoked (R431). -/
theorem revoke_stream {k : Nat} (hk : lookup s.mgt.otp i = some (.stream, k))
    (ho : s.mgt.otp.any (fun p => p.1 != i && p.2.1 == .stream) = true) (hu : slotInUse s i .stream = false) : revoke s q i =
      logEv (mgtResult (unstage { s with mgt := { s.mgt with otp := spPut s.mgt.otp i (.revoked true, k) } } i) 10 .ok) (partyOf q) .keyRevoked i := by
  have huse : otpUse s i = .stream := by rw [otpUse, hk]
  simp only [revoke, h, huse, ho, hu, hk]
  rfl

end

theorem revoke_service (q : Requester) {i : Nat} (h : serviceOk s = false) : revoke s q i = mgtResult s 10 .service := if_pos (by simp [h])

end

end Sys2Proof.Machine
end

section
/-!
The management commands complete with their effects (O38).
-/
namespace Sys2Proof.Machine

open Sys2Proof

/-- Settles O38, by the state of the staged image, of the banks and of the keys. -/
theorem managementCommandsComplete : Obligations.ManagementCommandsComplete := by
  refine ⟨?chunk, ?chunkRefused, ?validateEmpty, ?validateBusy, ?validateLoading, ?validateReceiving, ?validateValid, ?valid, ?invalid,
    ?partial_, ?nothing, ?loadLoading, ?loadValidating, ?loadB, ?loadA, ?loadNone, ?loadedB, ?loadedA, ?loadFails, ?activateStream, ?activateFw,
    ?activateRefused, ?discardEmpty, ?discardValidating, ?discardLoading, ?discardReceiving, ?discardValid, ?confirmB, ?confirmA, ?raiseFw,
    ?raiseFwRefused, ?raiseStream, ?raiseStreamRefused, ?install, ?installRange, ?removeLast, ?remove, ?enrolService, ?enrolRefused, ?enrol,
    ?revokeService, ?revoke, ?halted, ?haltedKeys, ?attest⟩
  case chunk => exact fun t d a k l b x s hr hi ha hl h => exec_imageChunk_taken hr hi ha hl h
  case chunkRefused => exact fun t d a k l b x s hr hi ha hl h => exec_imageChunk_refused hr hi ha hl h
  case validateEmpty => exact fun s hi hh => effect_operation_mgt rfl hh (by rw [imgValidate, hi]; rfl)
  case validateBusy => exact fun s hi hh => effect_operation_mgt rfl hh (by rw [imgValidate, hi]; rfl)
  case validateLoading => exact fun s hi hh => effect_operation_mgt rfl hh (by rw [imgValidate, hi]; rfl)
  case validateReceiving => exact fun s hi hh => effect_operation_mgt rfl hh (by rw [imgValidate, hi]; rfl)
  case validateValid => exact fun s hi hh => effect_operation_mgt rfl hh (by rw [imgValidate, hi]; rfl)
  case valid =>
    exact fun t x q s hi hc hw hh => effect_setNow_mgt (exec_imgValidateComplete_fw hi hh (c := .ok) ((if_pos hw).trans hc))
  case invalid =>
    exact fun t x q s hi hc hw hh =>
      effect_setNow_mgt ((exec_imgValidateComplete_fw hi hh (c := checkFw s x) (if_pos hw)).trans (congrArg _ (if_neg hc)))
  case partial_ =>
    exact fun t x q s hi hw hh => effect_setNow_mgt (exec_imgValidateComplete_fw hi hh (c := .format) (if_neg (Bool.eq_false_iff.mp hw)))
  case nothing => exact fun t s hi hh => effect_setNow_mgt (exec_imgValidateComplete_none hi hh)
  case loadLoading => exact fun s hi hh => effect_operation_mgt rfl hh (imgLoad_busy (.inl hi))
  case loadValidating => exact fun s hi hh => effect_operation_mgt rfl hh (imgLoad_busy (.inr hi))
  case loadB => exact fun x s hi hf hx hb hh => effect_operation_mgt rfl hh (by simp [imgLoad_fw hf hi hx, modMgt, mgtResult, hb])
  case loadA => exact fun x s hi hf hx hb hh => effect_operation_mgt rfl hh (by simp [imgLoad_fw hf hi hx, modMgt, mgtResult, hb])
  case loadNone => exact fun s hi hf hh => effect_operation_mgt rfl hh (imgLoad_notStaged hf hi)
  case loadedB =>
    exact fun t a x s hf hx hb hh => effect_setNow_mgt ((exec_imgLoadComplete_fw hf hh hx).trans (by simp [modMgt, mgtResult, hb]))
  case loadedA =>
    exact fun t a x s hf hx hb hh => effect_setNow_mgt ((exec_imgLoadComplete_fw hf hh hx).trans (by simp [modMgt, mgtResult, hb]))
  case loadFails => exact fun t a s hf hh => effect_setNow_mgt (exec_imgLoadComplete_fails hf hh)
  case activateStream => exact fun b s hv hp hi hl hh => exec_operation rfl hh (imgActivate_stream hv hp hi hl)
  case activateFw => exact fun b s hv hp hi hl hh => exec_operation rfl hh (imgActivate_fw hv hp hi hl)
  case activateRefused => exact fun s h hh => effect_operation_mgt rfl hh (imgActivate_refused h)
  case discardEmpty => exact fun s hi hh => effect_operation_mgt rfl hh (by rw [imgDiscard, hi]; rfl)
  case discardValidating => exact fun s hi hh => effect_operation_mgt rfl hh (by rw [imgDiscard, hi]; rfl)
  case discardLoading => exact fun s hi hh => effect_operation_mgt rfl hh (by rw [imgDiscard, hi]; rfl)
  case discardReceiving => exact fun s hi hh => effect_operation_mgt rfl hh (imgDiscard_discards (.inl hi))
  case discardValid => exact fun s hi hh => effect_operation_mgt rfl hh (imgDiscard_discards (.inr hi))
  case confirmB =>
    exact fun t a s hr ht hb ha hw h7 hB => effect_setNow_mgt ((exec_trialConfirm hr ht hb ha hw h7).trans (by rw [hB]; rfl))
  case confirmA =>
    exact fun t a s hr ht hb ha hw h7 hB => effect_setNow_mgt ((exec_trialConfirm hr ht hb ha hw h7).trans (by rw [hB]; rfl))
  case raiseFw => exact fun x s hc hx hh => effect_operation_mgt rfl hh ((if_pos hc).trans (by rw [hx]; rfl))
  case raiseFwRefused => exact fun s hc hh => effect_operation_mgt rfl hh (if_neg hc)
  case raiseStream => exact fun m l s ho hl hh => effect_operation_mgt rfl hh ((if_pos ho).trans (by simp [modMgt, mgtResult, hl]))
  case raiseStreamRefused => exact fun s ho hh => effect_operation_mgt rfl hh (if_neg (Bool.eq_false_iff.mp ho))
  case install =>
    intro i k l a s hl hh
    obtain ⟨within, hmgt, hmkt⟩ := keyInstall_effect (s := s) i k l a
    exact .intro (exec_operation rfl hh (if_neg hl)) within ⟨hmgt, hmkt⟩
  case installRange => exact fun i k l a s hl hh => exec_operation rfl hh (if_pos hl)
  case removeLast => exact fun i s h hh => effect_operation_mgt rfl hh (if_pos h)
  case remove =>
    exact fun i s h hh => .intro (exec_operation rfl hh (if_neg h))
      (((Within.refl s).then_mgt _ (by simp)).then_mkt _ (by simp)) ⟨rfl, rfl⟩
  case enrolService => exact fun i s h hh => effect_operation_mgt rfl hh (enrol_service _ h)
  case enrolRefused => exact fun i s h hi hh => effect_operation_mgt rfl hh (enrol_refused _ h hi)
  case enrol =>
    exact fun i s h hi he hh => .intro (exec_operation rfl hh (enrol_taken _ h hi he))
      (((((Within.refl s).then_modMgt (by simp) _).then_mgtResult (by simp) _ _).then_clearWrap (by simp)).then_logEv _ _ _ (by simp) (by simp))
      (logEv_mgt ..)
  case revokeService => exact fun i s h hh => effect_operation_mgt rfl hh (revoke_service _ h)
  case revoke => exact fun i k s h hk ho hu hh => exec_operation rfl hh (revoke_stream _ h hk ho hu)
  case halted =>
    exact fun s h => ⟨congrArg _ (unlessHalted_halted h _), congrArg _ (unlessHalted_halted h _), congrArg _ (unlessHalted_halted h _),
      congrArg _ (unlessHalted_halted h _), congrArg _ (unlessHalted_halted h _), congrArg _ (unlessHalted_halted h _),
      congrArg _ (unlessHalted_halted h _)⟩
  case haltedKeys =>
    exact fun i j k l a s h => ⟨congrArg _ (unlessHalted_halted h _), congrArg _ (unlessHalted_halted h _),
      congrArg _ (unlessHalted_halted h _), congrArg _ (unlessHalted_halted h _)⟩
  case attest => exact fun s hh => effect_operation_mgt rfl hh rfl

end Sys2Proof.Machine
end

section
/-!
SUPPORT. The wax's freezes, exports, imports and discards (R450 to R452, R460), and relighting (R453 to R455).
-/
namespace Sys2Proof.Machine

open Sys2Proof

/-! ## Keyframes and summaries (R447, R449) -/

section
variable {t : Ns} {s : State}

theorem exec_keyframeComplete {f : Nat} {ok : Bool} (h : s.wax.keys.any (fun k => k.frame == f && !k.complete) = true) :
    exec (.keyframeComplete t f ok) s = .next (
      if ok then modWax (setNow s t) (fun x => { x with keys := x.keys.map (fun k => if k.frame = f then { k with complete := true } else k) })
      else stick (modWax (setNow s t) (fun x => { x with keys := x.keys.filter (fun k => k.frame != f || k.complete) })) .waxStatus 0 6) :=
  congrArg Host.Outcome.next (if_pos h)

/-! ## Freeze (R450, R451) -/

theorem waxFreeze_held (h : stagingHeld s = true) : waxFreeze s = waxResult s 1 1 := if_pos h

theorem waxFreeze_noKey (h : stagingHeld s = false) (hk : freezeKey s = none) : waxFreeze s = waxResult s 1 2 :=
  (if_neg (Bool.eq_false_iff.mp h)).trans (by rw [hk])

/-- A span with its keyframe is frozen, unless it is too long or crosses a gap (R450). -/
theorem waxFreeze_span {k : Keyframe} (h : stagingHeld s = false) (hk : freezeKey s = some k) : waxFreeze s = { s with
    wax := if 4294967296 < (frozenOf s k (freezeEnd s)).bytes then { s.wax with op := 1, code := 3 }
      else if spanGap k (freezeSegs s k (freezeEnd s)) (freezeEnd s) = true then { s.wax with op := 1, code := 4 }
      else { s.wax with staging := .freezing, frozen := none, importBytes := [], freezeReq := some (k.frame, freezeEnd s), op := 1, code := 6 } } := by
  refine (if_neg (Bool.eq_false_iff.mp h)).trans ?_
  simp only [hk]
  split
  · rfl
  · split <;> rfl

section
variable {f l : Nat} (hs : s.wax.staging = .freezing) (hr : s.wax.freezeReq = some (f, l))
include hs hr

theorem exec_freezeComplete_frozen {k : Keyframe} (hk : s.wax.keys.find? (fun k => k.frame == f && k.complete) = some k) :
    exec (.freezeComplete t false) s = .next { setNow s t with wax :=
      { s.wax with staging := .frozen, frozen := some (frozenOf (setNow s t) k l), freezeReq := none, op := 1, code := 0 } } := by
  change execFreezeComplete t false s = _
  simp only [execFreezeComplete, setNow_wax, hs, hr, hk]
  rfl

theorem exec_freezeComplete_overtaken : exec (.freezeComplete t true) s =
    .next { setNow s t with wax := { s.wax with staging := .empty, freezeReq := none, op := 1, code := 2 } } := by
  change execFreezeComplete t true s = _
  simp only [execFreezeComplete, setNow_wax, hs, hr]
  split
  · next h => exact absurd h (by simp)
  · rfl

end

end

/-! ## Exports and imports (R452) -/

/-- Exports are refused with BUSY (R452). -/
def exportBusy (s : State) : Bool :=
  s.wax.export_.isSome || (regF s .waxExpRate 0 8 1 == 0 && (s.wax.staging == .importing || s.wax.staging == .freezing))

section
variable {x : Nat} {s : State}

theorem waxExport_busy (h : exportBusy s = true) : waxExport s x = waxResult s 2 1 := if_pos h

section
variable (h : exportBusy s = false)
include h

theorem waxExport_noImage (h0 : regF s .waxExpRate 0 8 1 = 0) (hs : s.wax.staging ≠ .frozen) : waxExport s x = waxResult s 2 2 :=
  (if_neg (Bool.eq_false_iff.mp h)).trans (if_pos ⟨h0, hs⟩)

section
variable (hs : regF s .waxExpRate 0 8 1 ≠ 0 ∨ s.wax.staging = .frozen)
include hs

theorem waxExport_range : waxExport s x =
    if min (sourceSize s (regF s .waxExpRate 0 8 1)) (reg64 s .waxExpOfsLo .waxExpOfsHi 0 + (regW s .waxExpLen 0).toNat) ≤
        reg64 s .waxExpOfsLo .waxExpOfsHi 0 then waxResult s 2 0
    else waxResult (modWax s (fun y => { y with export_ := some (x, regF s .waxExpRate 0 8 1, reg64 s .waxExpOfsLo .waxExpOfsHi 0,
      min (sourceSize s (regF s .waxExpRate 0 8 1)) (reg64 s .waxExpOfsLo .waxExpOfsHi 0 + (regW s .waxExpLen 0).toNat)) })) 2 6 := by
  refine (if_neg (Bool.eq_false_iff.mp h)).trans (if_neg ?_)
  rintro ⟨h0, hn⟩
  exact hs.elim (fun k => k h0) hn

end

end

end

section
variable {t : Ns} {a b c d : Nat} {s : State} (he : s.wax.export_ = some (a, b, c, d)) (hr : fwRuns s = true)
include he hr

theorem exec_exportDatagramSend_last (hd : d ≤ c + min 400 (d - c)) : exec (.exportDatagramSend t) s =
    .next (waxResult (modWax (emit (setNow s t) (.waxData a b c (min 400 (d - c)) true)) (fun x => { x with export_ := none })) 2 0) := by
  have hr' : fwRuns (setNow s t) = true := hr
  change execExportDatagramSend t s = _
  simp only [execExportDatagramSend, setNow_wax, he, hr', if_true, decide_eq_true hd]

theorem exec_exportDatagramSend_next (hd : ¬ d ≤ c + min 400 (d - c)) : exec (.exportDatagramSend t) s =
    .next (modWax (emit (setNow s t) (.waxData a b c (min 400 (d - c)) false))
      (fun x => { x with export_ := some (a, b, c + min 400 (d - c), d) })) := by
  have hr' : fwRuns (setNow s t) = true := hr
  change execExportDatagramSend t s = _
  simp only [execExportDatagramSend, setNow_wax, he, hr', if_true, decide_eq_false hd, Bool.false_eq_true, if_false]

end

section
variable {t : Ns} {d : Dgram} {a k l : Nat} {x : List Byte} {s : State} (hr : fwRuns (setNow s t) = true)
  (hi : (identNow (setNow s t)).isSome = true) (ha : authOf (setNow s t) d = some (k, l)) (hl : 3 ≤ l)
include hr hi ha hl

theorem exec_waxDataImport_taken (h : (importChunk (acceptDgram (setNow s t) d k) a x).2 = 0) : exec (.waxDataImport t d a x) s =
    .next (respond (noteChange (importChunk (acceptDgram (setNow s t) d k) a x).1 d) d (keyIn (setNow s t) k) 0 []) := by
  change Host.Outcome.next (withDgram (setNow s t) d 3 _) = _
  rw [withDgram_handled _ d 3 k l _ hr hi ha hl rfl]
  simp only [h, if_true]

theorem exec_waxDataImport_refused (h : (importChunk (acceptDgram (setNow s t) d k) a x).2 ≠ 0) : exec (.waxDataImport t d a x) s =
    .next (respond (importChunk (acceptDgram (setNow s t) d k) a x).1 d (keyIn (setNow s t) k)
      (importChunk (acceptDgram (setNow s t) d k) a x).2 []) := by
  change Host.Outcome.next (withDgram (setNow s t) d 3 _) = _
  rw [withDgram_handled _ d 3 k l _ hr hi ha hl rfl]
  simp only [if_neg h]

end

section
variable {s : State}

theorem waxDiscard_held (h : s.wax.export_.isSome = true ∨ s.wax.staging = .freezing ∨ s.rlt.st ≠ .idle) :
    waxDiscard s = waxResult s 5 1 := if_pos (by simpa [or_assoc] using h)

theorem waxDiscard_free (he : s.wax.export_ = none) (hs : s.wax.staging ≠ .freezing) (hr : s.rlt.st = .idle) : waxDiscard s =
    waxResult (modWax s (fun x => { x with staging := .empty, frozen := none, importBytes := [] })) 5 0 :=
  if_neg (by simp [he, hs, hr])

/-! ## Relighting (R453) -/

section
variable {f : Frozen} (hf : s.wax.frozen = some f) (ha : rltAllowed s = true) (hp : s.pair.st ≠ .standby)
include hf ha hp

theorem rltPrepare_enters (hc : (rltCheck s f).1 = 0) : rltPrepare s = rltEnter s f := by
  simp only [rltPrepare, hf, ha, if_true, if_neg hp]
  split
  · rfl
  · next h0 h => exact absurd (congrArg Prod.fst h) (by simpa [hc, eq_comm] using h0)

theorem rltPrepare_refuses (hc : (rltCheck s f).1 ≠ 0) (hn : (rltCheck s f).2 = none) :
    rltPrepare s = { s with rlt := { s.rlt with refusal := (rltCheck s f).1 } } := by
  simp only [rltPrepare, hf, ha, if_true, if_neg hp]
  rw [hn]
  rfl

end

theorem rltPrepare_noImage (hf : s.wax.frozen = none) : rltPrepare s = { s with rlt := { s.rlt with refusal := 1 } } := by
  rw [rltPrepare, hf]; rfl

theorem rltPrepare_notAllowed (ha : rltAllowed s = false) : rltPrepare s = { s with rlt := { s.rlt with refusal := 1 } } := by
  unfold rltPrepare
  split
  · exact if_neg (Bool.eq_false_iff.mp ha)
  · rfl

end

end Sys2Proof.Machine
end

section
/-!
The commands of the wax recorder and of relighting complete with their effects (O39, O40).
-/
namespace Sys2Proof.Machine

open Sys2Proof

/-- Settles O39, by the state of the staging region, of what is being sent and of the keyframes. -/
theorem waxCommandsComplete : Obligations.WaxCommandsComplete := by
  refine ⟨?capture, ?complete, ?dropped, ?summary, ?freezeHeld, ?freezeNoKey, ?freeze, ?frozen, ?overtaken, ?exportBusy, ?exportNoImage,
    ?exportNothing, ?exportTaken, ?sendLast, ?sendNext, ?exportStop, ?importTaken, ?importRefused, ?importDone, ?importFreezing, ?importEmpty,
    ?importFrozen, ?discard, ?discardHeld⟩
  case capture => exact fun t s hf hk ha => congrArg Host.Outcome.next (if_pos ⟨hf, hk, ha⟩)
  case complete => exact fun t f s h => effect_setNow_wax (exec_keyframeComplete h)
  case dropped =>
    exact fun t f s h => .intro (exec_keyframeComplete h)
      ((((Within.refl s).then_setNow t (by simp)).then_wax _ (by simp)).then_stick _ _ _ (by simp)) ⟨rfl, rfl, regB_stick_same _ _ _ (by simp)⟩
  case summary => exact fun t s ht hd hw => congrArg Host.Outcome.next (if_pos ⟨ht, hd, hw⟩)
  case freezeHeld => exact fun s h => effect_wax (congrArg Host.Outcome.next (waxFreeze_held h))
  case freezeNoKey => exact fun s h hk => effect_wax (congrArg Host.Outcome.next (waxFreeze_noKey h hk))
  case freeze => exact fun k s h hk => effect_wax (congrArg Host.Outcome.next (waxFreeze_span h hk))
  case frozen => exact fun t f l k s hs hr hk => effect_setNow_wax (exec_freezeComplete_frozen hs hr hk)
  case overtaken => exact fun t f l s hs hr => effect_setNow_wax (exec_freezeComplete_overtaken hs hr)
  case exportBusy => exact fun x s h => effect_wax (congrArg Host.Outcome.next (waxExport_busy h))
  case exportNoImage => exact fun x s h h0 hs => effect_wax (congrArg Host.Outcome.next (waxExport_noImage h h0 hs))
  case exportNothing => exact fun x s h hs hn => effect_wax (congrArg Host.Outcome.next ((waxExport_range h hs).trans (if_pos hn)))
  case exportTaken => exact fun x s h hs hn => effect_wax (congrArg Host.Outcome.next ((waxExport_range h hs).trans (if_neg hn)))
  case sendLast =>
    exact fun t a b c d s he hr hd => .intro (exec_exportDatagramSend_last he hr hd)
      ((((Within.refl s).then_setNow t (by simp)).then_mkt _ (by simp)).then_wax _ (by simp)) ⟨rfl, rfl, rfl⟩
  case sendNext =>
    exact fun t a b c d s he hr hd => .intro (exec_exportDatagramSend_next he hr hd)
      ((((Within.refl s).then_setNow t (by simp)).then_mkt _ (by simp)).then_wax _ (by simp)) ⟨rfl, rfl, rfl⟩
  case exportStop => exact fun s => effect_wax rfl
  case importTaken => exact fun t d a k l x s hr hi ha hl h => exec_waxDataImport_taken hr hi ha hl h
  case importRefused => exact fun t d a k l x s hr hi ha hl h => exec_waxDataImport_refused hr hi ha hl h
  case importDone => exact fun f s hs => effect_wax (congrArg Host.Outcome.next (by unfold waxImportDone; rw [hs]; rfl))
  case importFreezing => exact fun q s hs => effect_wax (congrArg Host.Outcome.next (by unfold waxImportDone; rw [hs]; rfl))
  case importEmpty => exact fun q s hs => effect_wax (congrArg Host.Outcome.next (by unfold waxImportDone; rw [hs]; rfl))
  case importFrozen => exact fun q s hs => effect_wax (congrArg Host.Outcome.next (by unfold waxImportDone; rw [hs]; rfl))
  case discard => exact fun s he hs hr => effect_wax (congrArg Host.Outcome.next (waxDiscard_free he hs hr))
  case discardHeld => exact fun s h => effect_wax (congrArg Host.Outcome.next (waxDiscard_held h))

/-- Settles O40, by the relight's state and what the check of a frozen image says. -/
theorem relightCommandsComplete : Obligations.RelightCommandsComplete := by
  refine ⟨?enter, ?refused, ?noImage, ?notAllowed, ?runPrepared, ?stepPrepared, ?runPaused, ?stepPaused, ?pause, ?frame, ?frameIdle, ?abort,
    ?abortIdle⟩
  case enter => exact fun f s hf ha hp hc => congrArg Host.Outcome.next (rltPrepare_enters hf ha hp hc)
  case refused => exact fun f s hf ha hp hc hn => congrArg Host.Outcome.next (rltPrepare_refuses hf ha hp hc hn)
  case noImage => exact fun s hf => effect_rlt (congrArg Host.Outcome.next (rltPrepare_noImage hf))
  case notAllowed => exact fun s ha => effect_rlt (congrArg Host.Outcome.next (rltPrepare_notAllowed ha))
  case runPrepared => exact fun s h => effect_rlt (congrArg Host.Outcome.next (if_pos (.inl h)))
  case stepPrepared => exact fun s h => congrArg Host.Outcome.next (if_pos (.inl h))
  case runPaused => exact fun s h => effect_rlt (congrArg Host.Outcome.next (if_pos (.inr h)))
  case stepPaused => exact fun s h => congrArg Host.Outcome.next (if_pos (.inr h))
  case pause => exact fun s h => effect_rlt (congrArg Host.Outcome.next (if_pos h))
  case frame => exact fun t s h => congrArg Host.Outcome.next (if_pos h)
  case frameIdle => exact fun t s h => effect_setNow (congrArg Host.Outcome.next (if_neg h))
  case abort => exact fun s h => congrArg Host.Outcome.next (if_neg h)
  case abortIdle => exact fun s h => effect_none (congrArg Host.Outcome.next (if_pos h))

end Sys2Proof.Machine
end

end
